-- ==== Sys2Proof/Word.lean ====
section
/-! DEFINITION. The plain types every file shares: bytes, the core's word types, and sparse tables. -/

namespace Sys2Proof

/-- One byte. -/
abbrev Byte := BitVec 8

/-- A 32-bit word: a Wylen data register, an instruction word. -/
abbrev Word := BitVec 32

/-- A sparse table: pairs of a number and a value, numbers strictly rising, no value equal to what an
unlisted number reads as. -/
abbrev Tab (α : Type) := List (Nat × α)

end Sys2Proof
end

