-- ==== Sys2Proof/Machine/Wire.lean ====
section
/-! DEFINITION. The shapes of what arrives with a command: who accesses the dictionary, frames, packets,
markers, descriptors and measurements. -/

namespace Sys2Proof

/-- The port classes of R459. -/
inductive PortClass where
  | h | v | m | b | p | f
  deriving DecidableEq, Repr

/-- Who makes an access: its class, and the function number for H (0) and V (1 to 63), or the NAP session for
M, P and F (0 to 31); ignored for B. -/
structure Accessor where
  cls : PortClass
  num : Nat
  deriving DecidableEq, Repr

/-- A place in a memory with the 80-bit code (R323, R330): a global address; a local address of a core's
program, X or Y memory; an offset in a hall's accelerator buffers; an offset in Summerhouse's SRAM. -/
inductive MemLoc where
  | global (addr : Nat)
  | core (c : Nat) (addr : Nat)
  | buffer (hall : Nat) (off : Nat)
  | summerhouse (off : Nat)
  deriving DecidableEq, Repr

/-- Bits the environment flipped in stored words: byte offset of the word and an 80-bit pattern. -/
abbrev Upsets := List (Nat × Nat)

/-- What one DDR channel's training found (R319, R320, R590): its failure reason (0 if it passed), the DIMMs, the
channel capacity in MiB, the data rate, the DRAM geometry, and free sPPR resources by (device, bank group). -/
structure DdrTrain where
  reason : Nat
  dimms : Nat
  capacity : Nat
  speed : Nat
  bankGroups : Nat
  banks : Nat
  ranks : Nat
  width : Nat
  resources : List (Nat × Nat × Nat)
  deriving DecidableEq, Repr

/-! ### Bundles of the Wylen core -/

/-- How a move addresses memory and updates An (R71, R82). -/
inductive MoveUpd where
  | keep
  | plus
  | minus
  | byM (m : Nat)
  | offset (k : Int)
  deriving DecidableEq, Repr

/-- One data move (R82, R83): slot X or Y, load or store, 2^size bytes, register (for 16 bits, `high` names the
half), address register and update. -/
structure Move where
  y : Bool
  store : Bool
  size : Nat
  reg : Nat
  high : Bool
  an : Nat
  upd : MoveUpd
  deriving DecidableEq, Repr

/-- The WVX operations of R124. -/
inductive VOp where
  | vadd | vsub | vmin | vmax | vabs | vneg | vand | vor | vxor | vasrr | vshl | vmul | vcmul
  | vmpy | vmac | vmsu | vaclr | vexth | vcmpeq | vcmplt | vcmple
  | vperm | vzipl | vziph | vuzpe | vuzpo | vdup | vrsum | vrmax | vrmin
  | vgather | vscatter | vstr | vstw
  deriving DecidableEq, Repr

/-- A V-class word (R123): `d` is Vd, VAd or Dn; `a` is Vs, VAs or Vi; `b` is Vt, the shift or element index, the
scale s, or An; `k` is RM, SH or SC. -/
structure VecWord where
  op : VOp
  ty : Nat
  d : Nat
  a : Nat
  b : Nat
  hf : Nat
  masked : Bool
  zeroing : Bool
  cj : Bool
  k : Nat
  deriving DecidableEq, Repr

/-- One operation of a bundle. -/
inductive CoreOp where
  | add (d s t : Nat) (f : Bool)
  | sub (d s t : Nat) (f : Bool)
  | mpy (acc s : Nat) (hs : Bool) (t : Nat) (ht : Bool) (sh : Nat) (f : Bool)
  | mac (acc s : Nat) (hs : Bool) (t : Nat) (ht : Bool) (sh : Nat) (f : Bool)
  | msu (acc s : Nat) (hs : Bool) (t : Nat) (ht : Bool) (sh : Nat) (f : Bool)
  | exth (d : Nat) (hd : Bool) (acc sc rm : Nat) (f : Bool)
  | extw (d acc sc rm : Nat) (f : Bool)
  | asrr (d s n rm : Nat) (f : Bool)
  | clr (acc : Nat)
  | bra (cond : Nat) (off : Int)
  | call (target : Nat)
  | ret
  | rep (imm : Bool) (cnt fin : Nat)
  | mvc (fromCtl : Bool) (num dn : Nat)
  | rte
  | trap
  | bkpt
  | fence
  | sched (sub opnd : Nat)
  | move (m : Move)
  | vec (v : VecWord)
  | illegal (slot : Nat)
  deriving DecidableEq, Repr

/-- One word of a bundle: the issue slots it occupies (1 X, 2 Y, 3 scalar, 4 vector), its operations, and whether
it is an E word (R78). -/
structure BWord where
  slots : List Nat
  ops : List CoreOp
  ext : Bool
  deriving DecidableEq, Repr

/-- A bundle of two words (R78). -/
structure Bundle where
  w0 : BWord
  w1 : BWord
  deriving DecidableEq, Repr

/-! ### Fronthaul -/

/-- One section of an uplink U-plane frame after its O-RAN header was parsed (R162): its symbolId with symInc
applied, rb, the PRB range, the compression (0 none, 1 block floating point, others as received), the width, and the
payload. -/
structure UlSection where
  symbol : Nat
  rb : Bool
  start : Nat
  num : Nat
  comp : Nat
  width : Nat
  data : List Byte
  deriving DecidableEq, Repr

/-- An uplink U-plane frame as the switch passes it to steering (R158): the endpoint its source resolves to, the
section identity, the frame, subframe and slot numbers, the eCPRI SEQ_ID, its arrival timestamp in ns, and its
sections. -/
structure UlFrame where
  endpoint : Nat
  eaxc : Nat
  filter : Nat
  frameId : Nat
  subframe : Nat
  slotId : Nat
  seq : Nat
  arrival : Int
  sections : List UlSection
  deriving DecidableEq, Repr

/-- What a preamble correlator computed from one repetition (R200): the correlation power by stream, root and profile bin (for
NB-IoT by stream, preamble and bin), and for each preamble the interpolated delay of each bin in ns, and power and noise in
1/16 dBFS. -/
structure PraProfile where
  corr : List (List (List Nat))
  delays : List (List Nat)
  power : List Nat
  noise : List Nat
  deriving DecidableEq, Repr

/-- A carrier as a CONFIG.request sets it up (R16, R418): kind 0 NR, 1 LTE, 2 LTE-M overlay, 3 NB-IoT; bandwidth in
100 kHz; layers; numerology; extended cyclic prefix; PRBs. -/
structure CarrierCfg where
  kind : Nat
  bw : Nat
  dlLayers : Nat
  ulLayers : Nat
  mu : Nat
  ecp : Bool
  prbs : Nat
  deriving DecidableEq, Repr

/-! ### The Gallery -/

/-- A link word with an error at a router (R296): the word of the packet, its header's four first, and whether the error
is uncorrectable. -/
structure GalErr where
  router : Nat
  word : Nat
  bad : Bool
  deriving DecidableEq, Repr

/-- A packet of the Gallery (R295): the header flit, the bytes of its data flits, and the errors its links made. -/
structure GalPacket where
  header : Nat
  data : List Byte
  errs : List GalErr
  /-- Where the source is edge endpoint 0: the DDR channel it answers for, 8 for the packet buffer (R294, R529). -/
  part : Nat
  deriving DecidableEq, Repr

/-- What happens to packets of the Gallery between two arbiter rounds: one leaves its source, a link moves one flit, or a target takes
packet `i` of its ingress (R295 to R301). -/
inductive GalStep where
  | leave (p : GalPacket)
  | slot (router output : Nat)
  | reach (node i : Nat)
  deriving DecidableEq, Repr

/-! ### Ethernet and time -/

/-- A received frame (R374): the bytes from its destination address to before its FCS, whether the FCS is good, whether
a code error lay within it, and its PCS timestamp in ns. -/
structure RxFrame where
  body : List Byte
  fcs : Bool
  code : Bool
  arrival : Int
  deriving DecidableEq, Repr

/-- A PTP message other than Sync and its exchange (R408, R409), as IEEE 1588-2019 names its fields. -/
structure PtpMsg where
  /-- An Announce; other messages change nothing here. -/
  announce : Bool
  domain : Nat
  /-- It came in UDP. -/
  udp : Bool
  gmId : Nat
  gmClass : Nat
  gmAccuracy : Nat
  gmVariance : Nat
  prio2 : Nat
  steps : Nat
  sender : Nat
  utcOffset : Int
  deriving DecidableEq, Repr

/-! ### Jobs -/

/-- A CONFIG.request as the firmware takes it from its payload (R435): the objects it stages, by index × 256 + subindex, its
commit slot as R467 lays it out, the carriers it admits or changes and those it takes out, and the hall the device
picks for each carrier it adds. -/
structure CfgReq where
  writes : List (Nat × Int)
  doms : List (Nat × List Byte)
  commit : Nat
  add : List (Nat × CarrierCfg)
  remove : List Nat
  place : List (Nat × Nat)
  deriving DecidableEq, Repr

/-- What the start of a job reads from host memory (R435 to R437): whether every read succeeded, the dependencies as ring
and SEQ, whether a reserved bit of one is set, the FAPI error code if the payload is malformed (0x800000 for a message
outside the family of its TYPE) with its ERROR.indication, the configuration a CONFIG.request asks for, and the
response of a P5 request. -/
structure JobRead where
  ok : Bool
  deps : List (Nat × Nat)
  resv : Bool
  bad : Option Nat
  error : List Byte
  cfg : Option CfgReq
  resp : List Byte
  deriving DecidableEq, Repr

end Sys2Proof
end

