-- ==== Sys2Proof/Syntax.lean ====
section
/-! DEFINITION. The commands of the block: one constructor per row of spec/opcode_table.json, in its order. The
table gives no row any operand bits: the operands are the unit a command acts on and what the outside world
supplies with it (log entry 4). -/

namespace Sys2Proof

/-- The commands. -/
inductive Instr where
  /-- `HALL_RATE_SAMPLE` (R39). Every 10 µs TD_0 samples the hall rate monitor, publishes HALL_RATE and applies the rate guard. `rate` is what the monitor of unit u measured, M handshakes/s. -/
  | hallRateSample (u : Fin 18) (rate : Nat)
  /-- `PACING_PERIOD_END` (R39). At the end of each 1 ms pacing period HALL_RATE_PACED is set and the slack raise is applied. -/
  | pacingPeriodEnd (u : Fin 18)
  /-- `LOWER_INTERVAL_END` (R39). At the end of each lower interval the pacer may increase T by one if every lowering condition holds. -/
  | lowerIntervalEnd (u : Fin 18)
  /-- `HALL_PACE_SNAP` (R39). Any write to HALL_PACE_SNAP causes a snap with cause 4. -/
  | hallPaceSnap (a : Accessor) (u : Fin 18) (v : Nat)
  /-- `HALL_LEVEL_WRITE` (R34). A write of HALL_LEVEL starts a level change and slews the rail, or is stored while the hall is gated. -/
  | hallLevelWrite (a : Accessor) (u : Fin 18) (v : Nat)
  /-- `LEVEL_SLEW_DONE` (R46). The rail reaches the new level voltage and the pacing state moves as R46 gives. -/
  | levelSlewDone (u : Fin 18)
  /-- `SNAP_RAIL_SETTLED` (R46). After a snap the rail reaches the level voltage and the pacer leaves SNAP for TRACK or HOLD. -/
  | snapRailSettled (u : Fin 18)
  /-- `HALL_PACE_EN_WRITE` (R46). A write of HALL_PACE_EN moves the pacer to OFF or out of OFF to HOLD. -/
  | hallPaceEnWrite (a : Accessor) (u : Fin 18) (v : Nat)
  /-- `PACE_START_HOLD_EXPIRE` (R46). HALL_PACE_START_HOLD elapses in HOLD and the pacer enters TRACK. -/
  | paceStartHoldExpire (u : Fin 18)
  /-- `HALL_RAIL_UNDERVOLTAGE` (R31). A hall rail below 0.50 V stops the hall at its next handshake and is reported as a hall fault. -/
  | hallRailUndervoltage (u : Fin 18)
  /-- `THERMAL_SAMPLE` (R589). Every microsecond each junction sensor is sampled and the HOT, warning and trip tests are made. The 19 sensors: halls 0 to 15, West block, East block, I/O die, in 0.125 °C units. -/
  | thermalSample (tj : List Int)
  /-- `THERM_TRIP_HOLD_END` (R581). 60 s after a trip the wake hold ends and a held wake is taken. -/
  | thermTripHoldEnd
  /-- `THERM_WARN_WRITE` (R582). A write of THERM_WARN takes effect and may assert ALERT_N at once. -/
  | thermWarnWrite (a : Accessor) (v : Int)
  /-- `BUNDLE_ISSUE` (R78). A core issues one 64-bit bundle, checks its legality and commits its operations together. -/
  | bundleIssue (c : Fin 192)
  /-- `INTERRUPT_TAKEN` (R90). An interrupt seen at a bundle boundary with IE = 1 and EXL = 0 enters its handler. `done` is how many elements of a gather under way were committed; `debug` says that the debug unit asserts its request. -/
  | interruptTaken (c : Fin 192) (done : Fin 16) (debug : Bool)
  /-- `WINDOW_ASYNC` (R64). A failed posted window store raises WINDOW_ASYNC at the next bundle boundary after the error response. -/
  | windowAsync (c : Fin 192)
  /-- `WINDOW_LOAD_RESPONSE` (R63). The response to a window load arrives and the stalled bundle commits. `status` is the RSP status of R295. -/
  | windowLoadResponse (c : Fin 192) (status : Fin 5) (elem : Fin 16)
  /-- `FENCE` (R63). FENCE completes once every earlier posted store of the core has been acknowledged. -/
  | fence (c : Fin 192)
  /-- `ADD` (R69). S-class add of two data registers with saturation and optional flags. -/
  | add (c : Fin 192) (d a b : Fin 16) (f : Bool)
  /-- `SUB` (R69). S-class subtract of two data registers with saturation and optional flags. -/
  | sub (c : Fin 192) (d a b : Fin 16) (f : Bool)
  /-- `MPY` (R66). Writes the shifted 16 × 16 product to an accumulator. -/
  | mpy (c : Fin 192) (n : Fin 4) (a : Fin 16) (ha : Bool) (b : Fin 16) (hb : Bool) (sh : Fin 4) (f : Bool)
  /-- `MAC` (R66). Adds the shifted 16 × 16 product to an accumulator. -/
  | mac (c : Fin 192) (n : Fin 4) (a : Fin 16) (ha : Bool) (b : Fin 16) (hb : Bool) (sh : Fin 4) (f : Bool)
  /-- `MSU` (R66). Subtracts the shifted 16 × 16 product from an accumulator. -/
  | msu (c : Fin 192) (n : Fin 4) (a : Fin 16) (ha : Bool) (b : Fin 16) (hb : Bool) (sh : Fin 4) (f : Bool)
  /-- `EXTH` (R67). Scales, rounds and saturates an accumulator to 16 bits. -/
  | exth (c : Fin 192) (d : Fin 16) (hd : Bool) (n : Fin 4) (sc : Fin 16) (rm : Fin 4) (f : Bool)
  /-- `EXTW` (R67). Scales and saturates an accumulator to 32 bits. -/
  | extw (c : Fin 192) (d : Fin 16) (n : Fin 4) (sc : Fin 16) (rm : Fin 4) (f : Bool)
  /-- `ASRR` (R67). Rounding arithmetic right shift of a data register. -/
  | asrr (c : Fin 192) (d a n : Fin 16) (rm : Fin 4) (f : Bool)
  /-- `CLR` (R82). Compact Q-word clear of an accumulator. -/
  | clr (c : Fin 192) (n : Fin 4)
  /-- `BRA` (R84). Conditional branch by COND, discarding block-repeat levels whose range excludes the target. -/
  | bra (c : Fin 192) (cond : Fin 16) (off : BitVec 21)
  /-- `CALL` (R76). Subroutine call; no repeat level is discarded. -/
  | call (c : Fin 192) (target : BitVec 24)
  /-- `RET` (R76). Subroutine return; no repeat level is discarded. -/
  | ret (c : Fin 192)
  /-- `REP` (R74). Starts a block-repeat level, skips the body for count 0 or raises LOOP_OVERFLOW. -/
  | rep (c : Fin 192) (imm : Bool) (cnt : BitVec 10) (fin : BitVec 14)
  /-- `MVC` (R57). Moves a value to or from a control register by number. -/
  | mvc (c : Fin 192) (dir : Bool) (num : BitVec 8) (n : Fin 16)
  /-- `RTE` (R89). Copies ESST to SST and continues at EPC. -/
  | rte (c : Fin 192)
  /-- `TRAP` (R85). Raises the TRAP exception with EPC at the next bundle. -/
  | trap (c : Fin 192)
  /-- `BKPT` (R95). Raises BREAKPOINT, or halts the core when CORE_BKPT_HALT is 1. -/
  | bkpt (c : Fin 192)
  /-- `NOP` (R78). Does nothing. -/
  | nop (c : Fin 192)
  /-- `FULL_FORM_MOVE` (R71). M-class load or store using the address mode in AM. `w` is bits [28:0] of the M word. -/
  | fullFormMove (c : Fin 192) (w : BitVec 29)
  /-- `COMPACT_MOVE` (R82). P-class compact X and Y moves. `w` is bits [28:0] of the P word. -/
  | compactMove (c : Fin 192) (w : BitVec 29)
  /-- `COMPACT_MULTIPLY_MOVE` (R82). Q-class compact multiply with compact X and Y moves. `w` is bits [28:0] of the Q word. -/
  | compactMultiplyMove (c : Fin 192) (w : BitVec 29)
  /-- `CORE_HALT` (R94). A write of CORE_HALT halts the core at the next bundle boundary or holds the request. -/
  | coreHalt (a : Accessor) (c : Fin 192) (v : Nat)
  /-- `CORE_RESUME` (R94). A write of CORE_RESUME returns the core from HALTED_DEBUG, and is refused in any other state. -/
  | coreResume (a : Accessor) (c : Fin 192) (v : Nat)
  /-- `VADD` (R104). Vector element add with saturation. -/
  | vadd (c : Fin 192) (ty : Fin 4) (d a b : Fin 32) (hf : Fin 4) (mk zm : Bool) (rm : Fin 4)
  /-- `VSUB` (R104). Vector element subtract with saturation. -/
  | vsub (c : Fin 192) (ty : Fin 4) (d a b : Fin 32) (hf : Fin 4) (mk zm : Bool) (rm : Fin 4)
  /-- `VMIN` (R104). Vector element minimum. -/
  | vmin (c : Fin 192) (ty : Fin 4) (d a b : Fin 32) (hf : Fin 4) (mk zm : Bool) (rm : Fin 4)
  /-- `VMAX` (R104). Vector element maximum. -/
  | vmax (c : Fin 192) (ty : Fin 4) (d a b : Fin 32) (hf : Fin 4) (mk zm : Bool) (rm : Fin 4)
  /-- `VABS` (R104). Vector element absolute value with saturation. -/
  | vabs (c : Fin 192) (ty : Fin 4) (d a b : Fin 32) (hf : Fin 4) (mk zm : Bool) (rm : Fin 4)
  /-- `VNEG` (R104). Vector element negation with saturation. -/
  | vneg (c : Fin 192) (ty : Fin 4) (d a b : Fin 32) (hf : Fin 4) (mk zm : Bool) (rm : Fin 4)
  /-- `VAND` (R104). Vector bitwise and. -/
  | vand (c : Fin 192) (ty : Fin 4) (d a b : Fin 32) (hf : Fin 4) (mk zm : Bool) (rm : Fin 4)
  /-- `VOR` (R104). Vector bitwise or. -/
  | vor (c : Fin 192) (ty : Fin 4) (d a b : Fin 32) (hf : Fin 4) (mk zm : Bool) (rm : Fin 4)
  /-- `VXOR` (R104). Vector bitwise exclusive or. -/
  | vxor (c : Fin 192) (ty : Fin 4) (d a b : Fin 32) (hf : Fin 4) (mk zm : Bool) (rm : Fin 4)
  /-- `VASRR` (R104). Vector rounding right shift. -/
  | vasrr (c : Fin 192) (ty : Fin 4) (d a b : Fin 32) (hf : Fin 4) (mk zm : Bool) (rm : Fin 4)
  /-- `VSHL` (R104). Vector saturating left shift. -/
  | vshl (c : Fin 192) (ty : Fin 4) (d a b : Fin 32) (hf : Fin 4) (mk zm : Bool) (rm : Fin 4)
  /-- `VMUL` (R104). Vector Q15 multiply with rounding and saturation. -/
  | vmul (c : Fin 192) (ty : Fin 4) (d a b : Fin 32) (hf : Fin 4) (mk zm : Bool) (rm : Fin 4)
  /-- `VCMUL` (R104). Vector complex Q15 multiply. -/
  | vcmul (c : Fin 192) (ty : Fin 4) (d a b : Fin 32) (hf : Fin 4) (mk zm : Bool) (rm : Fin 4)
  /-- `VMPY` (R105). Writes element products to vector accumulator lanes. -/
  | vmpy (c : Fin 192) (ty : Fin 4) (d : Fin 4) (a b : Fin 32) (hf : Fin 4) (mk cj : Bool) (sh : Fin 4)
  /-- `VMAC` (R105). Adds element products to vector accumulator lanes, with optional conjugation. -/
  | vmac (c : Fin 192) (ty : Fin 4) (d : Fin 4) (a b : Fin 32) (hf : Fin 4) (mk cj : Bool) (sh : Fin 4)
  /-- `VMSU` (R105). Subtracts element products from vector accumulator lanes. -/
  | vmsu (c : Fin 192) (ty : Fin 4) (d : Fin 4) (a b : Fin 32) (hf : Fin 4) (mk cj : Bool) (sh : Fin 4)
  /-- `VACLR` (R108). Writes zero to all lanes of a vector accumulator. -/
  | vaclr (c : Fin 192) (d : Fin 4) (mk : Bool)
  /-- `VEXTH` (R108). Extracts vector accumulator lanes to 16-bit elements. -/
  | vexth (c : Fin 192) (ty : Fin 4) (d : Fin 32) (a : Fin 4) (sc : Fin 16) (mk : Bool) (rm : Fin 4)
  /-- `VCMPEQ` (R110). Compares elements for equality and writes VSTATE.MASK. -/
  | vcmpeq (c : Fin 192) (ty : Fin 4) (a b : Fin 32) (hf : Fin 4) (mk : Bool)
  /-- `VCMPLT` (R110). Compares elements for less-than and writes VSTATE.MASK. -/
  | vcmplt (c : Fin 192) (ty : Fin 4) (a b : Fin 32) (hf : Fin 4) (mk : Bool)
  /-- `VCMPLE` (R110). Compares elements for less-or-equal and writes VSTATE.MASK. -/
  | vcmple (c : Fin 192) (ty : Fin 4) (a b : Fin 32) (hf : Fin 4) (mk : Bool)
  /-- `VPERM` (R111). Byte permute of Vs by the indices in Vt. -/
  | vperm (c : Fin 192) (ty : Fin 4) (d a b : Fin 32) (hf : Fin 4) (mk zm : Bool) (rm : Fin 4)
  /-- `VZIPL` (R111). Interleaves the low halves of Vs and Vt. -/
  | vzipl (c : Fin 192) (ty : Fin 4) (d a b : Fin 32) (hf : Fin 4) (mk zm : Bool) (rm : Fin 4)
  /-- `VZIPH` (R111). Interleaves the high halves of Vs and Vt. -/
  | vziph (c : Fin 192) (ty : Fin 4) (d a b : Fin 32) (hf : Fin 4) (mk zm : Bool) (rm : Fin 4)
  /-- `VUZPE` (R111). Takes the even elements of Vs and Vt. -/
  | vuzpe (c : Fin 192) (ty : Fin 4) (d a b : Fin 32) (hf : Fin 4) (mk zm : Bool) (rm : Fin 4)
  /-- `VUZPO` (R111). Takes the odd elements of Vs and Vt. -/
  | vuzpo (c : Fin 192) (ty : Fin 4) (d a b : Fin 32) (hf : Fin 4) (mk zm : Bool) (rm : Fin 4)
  /-- `VDUP` (R111). Duplicates one element of Vs into every element. -/
  | vdup (c : Fin 192) (ty : Fin 4) (d a b : Fin 32) (hf : Fin 4) (mk zm : Bool) (rm : Fin 4)
  /-- `VRSUM` (R112). Sums active elements into lane 0, and lane 1 for C16. -/
  | vrsum (c : Fin 192) (ty : Fin 4) (d : Fin 4) (a : Fin 32) (hf : Fin 4) (mk : Bool)
  /-- `VRMAX` (R112). Writes the largest active element and its index to Dn. -/
  | vrmax (c : Fin 192) (ty : Fin 4) (d : Fin 16) (a : Fin 32) (hf : Fin 4) (mk : Bool)
  /-- `VRMIN` (R112). Writes the smallest active element and its index to Dn. -/
  | vrmin (c : Fin 192) (ty : Fin 4) (d : Fin 16) (a : Fin 32) (hf : Fin 4) (mk : Bool)
  /-- `VGATHER` (R113). Loads each element from its own indexed address, resuming from EIDX when RS is set. -/
  | vgather (c : Fin 192) (ty : Fin 4) (d a : Fin 32) (an : Fin 8) (sc : Fin 4) (mk : Bool)
  /-- `VSCATTER` (R113). Stores each element to its own indexed address, resuming from EIDX when RS is set. -/
  | vscatter (c : Fin 192) (ty : Fin 4) (d a : Fin 32) (an : Fin 8) (sc : Fin 4) (mk : Bool)
  /-- `VSTR` (R101). Copies VSTATE to a data register. -/
  | vstr (c : Fin 192) (d : Fin 16)
  /-- `VSTW` (R101). Writes VSTATE from a data register field by field. -/
  | vstw (c : Fin 192) (d : Fin 16)
  /-- `SCH_SWITCH` (R137). In an INT_PREEMPT handler saves the interrupted thread and dispatches the higher one, or resumes it. -/
  | schSwitch (c : Fin 192) (d a : Fin 16)
  /-- `SCH_YIELD` (R131). Moves the thread to the tail of its ready list and runs the highest eligible thread. -/
  | schYield (c : Fin 192) (d a : Fin 16)
  /-- `SCH_EXIT` (R147). Releases the thread's locks in descending order and frees the thread. -/
  | schExit (c : Fin 192) (d a : Fin 16)
  /-- `SCH_CREATE` (R588). Takes the lowest FREE thread, writes its save frame and makes it READY. -/
  | schCreate (c : Fin 192) (d a : Fin 16)
  /-- `SCH_KILL` (R147). Frees a READY, WAITING or FAULTED thread and releases its locks. -/
  | schKill (c : Fin 192) (d a : Fin 16)
  /-- `SCH_SET_PRIO` (R136). Changes a thread's priority and its place in its list. -/
  | schSetPrio (c : Fin 192) (d a : Fin 16)
  /-- `SCH_DELAY` (R139). Waits a number of ticks, or returns at once if the target is reached. -/
  | schDelay (c : Fin 192) (d a : Fin 16)
  /-- `SCH_DELAY_UNTIL` (R139). Waits until an absolute tick, or returns at once if reached. -/
  | schDelayUntil (c : Fin 192) (d a : Fin 16)
  /-- `SCH_SEM_TAKE` (R145). Takes a semaphore or waits, refusing out-of-order lock takes with ORDER. -/
  | schSemTake (c : Fin 192) (d a : Fin 16)
  /-- `SCH_SEM_TRY` (R145). Takes a semaphore or returns WOULD_BLOCK. -/
  | schSemTry (c : Fin 192) (d a : Fin 16)
  /-- `SCH_SEM_GIVE` (R146). Gives a semaphore, passing it directly to the first waiter. -/
  | schSemGive (c : Fin 192) (d a : Fin 16)
  /-- `SCH_SEM_INIT` (R146). Makes a semaphore a free lock or a signal with a count. -/
  | schSemInit (c : Fin 192) (d a : Fin 16)
  /-- `SCH_MSG_SEND` (R143). Sends D12 to D15 to a queue, or waits for room or drops under its POLICY. -/
  | schMsgSend (c : Fin 192) (d a : Fin 16)
  /-- `SCH_MSG_TRY_SEND` (R143). Sends a message or returns WOULD_BLOCK. -/
  | schMsgTrySend (c : Fin 192) (d a : Fin 16)
  /-- `SCH_MSG_RECV` (R143). Receives a message into D12 to D15 or waits. -/
  | schMsgRecv (c : Fin 192) (d a : Fin 16)
  /-- `SCH_MSG_TRY_RECV` (R143). Receives a message or returns WOULD_BLOCK. -/
  | schMsgTryRecv (c : Fin 192) (d a : Fin 16)
  /-- `SCH_QUEUE_SET` (R142). Configures a local message queue. -/
  | schQueueSet (c : Fin 192) (d a : Fin 16)
  /-- `SCH_SOFT_INT` (R131). Raises INT_SOFT on a named core. -/
  | schSoftInt (c : Fin 192) (d a : Fin 16)
  /-- `SCH_TRACE` (R154). Writes a firmware trace record. -/
  | schTrace (c : Fin 192) (d a : Fin 16)
  /-- `SCH_TICK` (R140). A tick edge moves every due delay-list entry to its ready list before any dispatch. -/
  | schTick (h : Fin 16)
  /-- `SCH_REMOTE_OP` (R148). A semaphore or message operation arriving over the Gallery is taken by the scheduler. The oldest operation on its way from hall `src` to hall `h`. -/
  | schRemoteOp (h src : Fin 16)
  /-- `SCH_WD_CHECK` (R149). At each 100 µs multiple the watchdog reports over-long waits once with their chain. -/
  | schWdCheck (h : Fin 16)
  /-- `SCH_TICK_NS_WRITE` (R141). A write of SCH_TICK_NS is accepted only while the hall is gated. -/
  | schTickNsWrite (a : Accessor) (h : Fin 16) (v : Nat)
  /-- `SCH_PMEM_LOAD` (R150). Names cores and a source; stops dispatch to them for a program-memory load. -/
  | schPmemLoad (a : Accessor) (h : Fin 16) (v : Nat)
  /-- `PMEM_CORE_LOAD` (R150). Once a named core is IDLE its 96 KiB program memory is copied and dispatch resumes. -/
  | pmemCoreLoad (c : Fin 192)
  /-- `CARRIER_BUILD_RELEASE` (R151). At T − CARRIER_BUILD_OFFSET, or at late acceptance, a build release message is posted. `slot` is the absolute slot number. -/
  | carrierBuildRelease (c : Fin 768) (slot : Int)
  /-- `UL_FRAME_STEERING` (R162). An uplink U-plane frame is looked up in the steering table and each section is landed or discarded. -/
  | ulFrameSteering (f : UlFrame)
  /-- `UL_WINDOW_CLOSE` (R164). The window of the last armed symbol closes and the slot buffer enters CLOSED. Buffer i of carrier c is k = 8 c + i. -/
  | ulWindowClose (k : Fin 6144)
  /-- `UL_RELEASE_AT_DEADLINE` (R165). At the carrier's uplink deadline an unreleased slot buffer is released. Buffer i of carrier c is k = 8 c + i; occasion buffer i of entry e is 8 (768 + e) + i. -/
  | ulReleaseAtDeadline (k : Fin 8192)
  /-- `UL_GAIN_SET` (R167). Once GREF can be measured the gain codes are set and frozen and the buffer enters GAINED. -/
  | ulGainSet (h : Fin 16)
  /-- `UL_ENGINE_DESCRIPTOR` (R171). An engine takes a descriptor from its queue and reports it with one completion message. Engine e has queue 0xF0 + e. -/
  | ulEngineDescriptor (h : Fin 16) (e : Fin 4)
  /-- `ARM` (R173). Declares the streams, symbols and PRBs expected for one carrier slot. -/
  | arm (h : Fin 16)
  /-- `UL_RELEASE` (R174). Once earlier descriptors of the slot complete, the slot buffer enters IDLE. -/
  | ulRelease (h : Fin 16)
  /-- `CHEST` (R176). Estimates a UE's channel on a reference symbol and optionally its Rnn. -/
  | chest (h : Fin 16)
  /-- `DETECT` (R179). Jointly detects up to four UEs' layers by MMSE-IRC and writes LLRs. -/
  | detect (h : Fin 16)
  /-- `WEIGHTS` (R182). Computes transmit weights from SRS estimates. -/
  | weights (h : Fin 16)
  /-- `FFT` (R183). Transforms a time-domain slot buffer, or performs an inverse DFT. -/
  | fft (h : Fin 16)
  /-- `OUTER` (R186). Tests the predicted completion and runs or skips one outer detection-decoding iteration. -/
  | outer (h : Fin 16)
  /-- `OUTER_ABANDON` (R187). At the deadline less UL_ABANDON_GUARD a running outer iteration is abandoned. -/
  | outerAbandon (h : Fin 16)
  /-- `PRA_EVALUATION` (R202). After a complete repetition the correlator evaluates every preamble and opens, captures or closes receptions. Repetition `rep` of the occasion of entry e in an absolute slot. -/
  | praEvaluation (e : Fin 256) (slot : Int) (rep : Nat) (prof : PraProfile)
  /-- `DEC` (R220). Decodes one LDPC codeword with rate recovery and HARQ combining. -/
  | dec (h : Fin 16)
  /-- `DEC_BLOCK_START` (R222). A code block with WAIT_DET starts once its LLRs are written. -/
  | decBlockStart (h : Fin 16)
  /-- `HARQ_STORE` (R231). At slot release after its descriptor completes, failed blocks are stored and the commit word written. `bad` lists the blocks whose slot meets an uncorrectable error while it is written. -/
  | harqStore (h : Fin 16) (bad : List Nat)
  /-- `ENC` (R236). Encodes one LDPC codeword of PDSCH. -/
  | enc (h : Fin 16)
  /-- `POLAR` (R239). Encodes or decodes a polar or convolutional code. Without `fin` the head of hall h's queue goes to a free codec; with it that codec of the die completes. -/
  | polar (h : Fin 16) (fin : Option (Fin 2))
  /-- `TURBO` (R241). Encodes or decodes an LTE turbo codeword. As POLAR, with the die's one turbo codec. -/
  | turbo (h : Fin 16) (fin : Bool)
  /-- `HARQ_FREE` (R235). Frees a range of HARQ processes once each stops being in use. -/
  | harqFree (h : Fin 16)
  /-- `BUILD` (R249). Builds one carrier slot's C-plane and U-plane frames or its time-domain grid. -/
  | build (h : Fin 16)
  /-- `SHAPE` (R265). Turns a grid into filtered, windowed, shifted samples and measures the mask. -/
  | shape (h : Fin 16)
  /-- `TD_TAIL_ALONE` (R267). At frame 0's handover deadline with no SHAPE taken, frame 0 is built from the carry alone. -/
  | tdTailAlone (c : Fin 768) (slot : Int)
  /-- `TD_MASK_UNMUTE` (R269). Any write returns every stream of the carrier to NORMAL. -/
  | tdMaskUnmute (a : Accessor) (c : Fin 768) (v : Nat)
  /-- `SEND` (R383). Firmware queues a frame of its own for timed launch. -/
  | send (h : Fin 16)
  /-- `CTX_ENABLE_WRITE` (R591). A write of CTX_ENABLE takes the store out of service, resumes it or starts it empty. -/
  | ctxEnableWrite (a : Accessor) (v : Nat)
  /-- `CTX_CLEAR_DONE` (R591). The bucket-array clear of an empty start completes and descriptors are taken. -/
  | ctxClearDone
  /-- `LOOKUP` (R283). Copies the named quarters of a key's entry to BUF. -/
  | lookup (h : Fin 16)
  /-- `INSERT` (R280). Places a new key by cuckoo displacement or stash, or completes EXISTS or FULL. -/
  | insert (h : Fin 16)
  /-- `UPDATE` (R283). Writes the named quarters of an entry with a new SEQ, optionally conditional. -/
  | update (h : Fin 16)
  /-- `DELETE` (R283). Clears a key's way and frees its entry number, optionally conditional. -/
  | delete (h : Fin 16)
  /-- `TOUCH` (R283). Sets LAST_TOUCH and CARRIER of an entry without changing SEQ. -/
  | touch (h : Fin 16)
  /-- `CTX_SWEEP_BUCKET` (R288). The expiry sweep visits a bucket in idle DDR cycles and deletes idle entries. -/
  | ctxSweepBucket
  /-- `CTX_TOUCH_MIRROR_BATCH` (R289). TOUCH operations are mirrored to the partner in a batch within 1 ms. -/
  | ctxTouchMirrorBatch
  /-- `GALLERY_PACKET_DELIVERY` (R295). A packet reaches its target endpoint, is checked for epoch and opcode, and is performed. A packet leaves its source, a link moves a flit, or a packet reaches its target. -/
  | galleryPacketDelivery (e : GalStep)
  /-- `ARB_ROUND` (R307). An arbiter samples its inputs and grants one burst by base plus age and pointer. Arbiters 0 to 252 have objects; 253 + 20 n + 4 o + class is output o of the router of hall n. Bit i of `req`: input i asserts a request now; `mid`: the holder is at a mid-packet boundary. -/
  | arbRound (k : Fin 573) (req : Nat) (mid : Bool)
  /-- `GALLERY_HOLD_RELEASE` (R302). A held message enters its queue when room appears and frees its hold slot. -/
  | galleryHoldRelease (h : Fin 16)
  /-- `ARB_FREEZE_WRITE` (R310). A write of ARB_FREEZE freezes or unfreezes inputs through DRAINING. -/
  | arbFreezeWrite (a : Accessor) (k : Fin 253) (v : Nat)
  /-- `ARB_BASE_WRITE` (R309). A base write takes effect at the next round sample and is then acknowledged. -/
  | arbBaseWrite (a : Accessor) (k : Fin 253) (i : Fin 32) (v : Nat)
  /-- `DDR_TRAINING_END` (R320). When every channel has ended training the population is judged and channels go READY or FAILED. `found` is what each of the eight channels' training found, channel 0 first. -/
  | ddrTrainingEnd (found : List DdrTrain)
  /-- `MEMORY_SWEEP` (R326). A unit's start-up sweep writes zero with valid check bits to all its SRAM. `m` is the ECC controller whose SRAM is swept: 0 to 15 halls, 24 packet buffer, 25 Summerhouse. -/
  | memorySweep (m : Nat)
  /-- `DEMAND_READ` (R325). A memory read corrects on the fly, or delivers poison, and reports to its ECC controller. `up` is the pattern of stored bits the environment flipped in the word since it was last accessed. -/
  | demandRead (l : MemLoc) (up : Nat)
  /-- `ZERO_SWEEP_LINE` (R327). In an idle channel cycle the zero sweep writes a line and advances the front. -/
  | zeroSweepLine (c : Fin 8)
  /-- `DDR_BLOCK_FILL` (R328). A write above the front in an unfilled block waits while the block is zero-filled. A write of `data` at global address `a`. -/
  | ddrBlockFill (a : Nat) (data : List Byte)
  /-- `SCRUB_LINE` (R337). In an idle cycle the scrubber reads a line and writes back any corrected words. `up` is what the environment flipped in the line. -/
  | scrubLine (m : Fin 26) (up : Upsets)
  /-- `SCRUB_HOT_REWRITE` (R333). At the next idle cycle a HOT word's line is rewritten. -/
  | scrubHotRewrite (m : Fin 26) (up : Upsets)
  /-- `SCRUB_LATE` (R337). The present lap's age reaches SCRUB_LAP_LIMIT and an event is raised once. -/
  | scrubLate (m : Fin 26)
  /-- `TERRACE_ROW_REPAIR` (R334). A lasting fault in a Terrace row is copied to a spare row behind a frozen bank. Entry `i` of controller `m`'s log. -/
  | terraceRowRepair (m : Fin 26) (i : Fin 64)
  /-- `DDR_PPR_REPAIR` (R335). A lasting DDR fault is repaired by soft post-package repair. -/
  | ddrPprRepair (c : Fin 8) (i : Fin 64)
  /-- `ECC_LOG_CLEAR` (R331). Any write frees every LASTING, UNCORR and REPAIRED entry. -/
  | eccLogClear (a : Accessor) (m : Fin 26) (v : Nat)
  /-- `LANE_QUAD_MODE_WRITE` (R346). A write of LANE_QUAD_MODE sets the quad's mode and restarts its lanes, or is refused. -/
  | laneQuadModeWrite (a : Accessor) (q : Fin 14) (v : Nat)
  /-- `LANE_QUAD_FEC_WRITE` (R346). A write of LANE_QUAD_FEC sets the quad's FEC, or is refused. -/
  | laneQuadFecWrite (a : Accessor) (q : Fin 14) (v : Nat)
  /-- `LANE_CDR_LOCK` (R361). The CDR locks and the lane leaves ACQUIRE for TRAINING or DATA. -/
  | laneCdrLock (l : Fin 56)
  /-- `LANE_CDR_LOSS` (R361). The CDR loses lock and the lane returns to ACQUIRE. -/
  | laneCdrLoss (l : Fin 56)
  /-- `LANE_BLOCK_LOCK_LOSS` (R348). 16 invalid headers in 64 lose block lock and the lane enters ACQUIRE. -/
  | laneBlockLockLoss (l : Fin 56)
  /-- `AUTO_NEGOTIATION` (R357). Clause 73 auto-negotiation advertises the quad's mode and completes or repeats. Bit m of `modes`: the partner advertises mode m. -/
  | autoNegotiation (l : Fin 48) (modes : Nat)
  /-- `LANE_MARKER_RX` (R352). A Dravut lane marker is received, checked and its back-channel requests applied. `bip` is the parity found over the period before it; `skew` the lane's delay in ns. -/
  | laneMarkerRx (l : Fin 8) (w : BitVec 64) (bip : BitVec 8) (skew : Nat)
  /-- `LANE_TRAINING_TIMEOUT` (R357). Training has not succeeded within its limit and the lane fails to ACQUIRE. -/
  | laneTrainingTimeout (l : Fin 56)
  /-- `LANE_EYE_WINDOW_END` (R356). At the end of each 10 µs window LANE_FOM, LANE_TDENS and LANE_CONF_OK are published. What the window measured: `h` and `a` the eye, `rx` the bits received, `ctle` the code adapted in training, `rise` the gain of two full training passes that end with it, `sym` the FEC symbols corrected on the lane, `good` and `bad` the codewords corrected and uncorrectable. -/
  | laneEyeWindowEnd (l : Fin 56) (h a : Nat) (rx : List Bool) (slip : Bool) (ctle : Nat) (rise : Option Nat) (sym good bad : Nat)
  /-- `LANE_ADAPT_PERIOD_END` (R359). At each adaptation period the lane trials, keeps, undoes or reverts its coefficients. -/
  | laneAdaptPeriodEnd (l : Fin 56)
  /-- `LANE_TX_FFE_WRITE` (R354). A write of transmit taps is checked against the FFE limits. -/
  | laneTxFfeWrite (a : Accessor) (l : Fin 56) (v : Nat)
  /-- `LANE_LOOPBACK_WRITE` (R362). Selects a loopback path and moves the lane to or from TEST. -/
  | laneLoopbackWrite (a : Accessor) (l : Fin 56) (v : Nat)
  /-- `LANE_PRBS_TX_WRITE` (R363). Selects a transmitted test pattern and moves the lane to or from TEST. -/
  | lanePrbsTxWrite (a : Accessor) (l : Fin 56) (v : Nat)
  /-- `LANE_PRBS_CHK_WRITE` (R363). Selects a checked test pattern and moves the lane to or from TEST. -/
  | lanePrbsChkWrite (a : Accessor) (l : Fin 56) (v : Nat)
  /-- `LANE_PRBS_CLEAR` (R363). Any write zeroes the checker counts. -/
  | lanePrbsClear (a : Accessor) (l : Fin 56) (v : Nat)
  /-- `ETH_FRAME_RECEIVE` (R374). A received frame is checked for size, code and FCS and classified by the switch. `occ` is the occupancy by priority before it. -/
  | ethFrameReceive (p : Fin 48) (f : RxFrame) (occ : List Nat)
  /-- `ETH_TX_INSERT` (R377). A producer inserts an entry into a transmit queue, waiting at the insertion arbiter if full. -/
  | ethTxInsert (p : Fin 48) (i : Fin 20)
  /-- `ETH_TX_FETCH` (R382). ETH_TX_FETCH_LEAD before launch the port fetches a frame body into staging. Entry i of the queue; `body` is what host memory holds for a frame of a host ring. -/
  | ethTxFetch (p : Fin 48) (q : Fin 8) (i : Nat) (body : List Byte)
  /-- `ETH_TX_SELECT` (R379). When the port is idle or a frame ends, the MAC expires, holds or starts a queue head. -/
  | ethTxSelect (p : Fin 48)
  /-- `ETH_TX_FRAME_END` (R380). A frame finishes on the wire and its completion is written back. -/
  | ethTxFrameEnd (p : Fin 48)
  /-- `ETH_PAUSE_REFRESH` (R384). Every half quanta time above XON the port sends PAUSE again. -/
  | ethPauseRefresh (p : Fin 48) (occ : List Nat)
  /-- `ETH_PAUSE_EXPIRE` (R385). A received pause time runs out and the stopped queue restarts. -/
  | ethPauseExpire (p : Fin 48) (q : Fin 8)
  /-- `ETH_RX_RING_DOORBELL` (R433). A doorbell posts Ethernet receive descriptors. `addrs` are the ADDR fields of the descriptors newly posted. -/
  | ethRxRingDoorbell (fn r : Fin 64) (v : Nat) (addrs : List Nat)
  /-- `ETH_TX_RING_DOORBELL` (R433). A doorbell posts Ethernet transmit descriptors for queuing. `descs` are the descriptors newly posted, each with the first bytes of its frame. -/
  | ethTxRingDoorbell (fn r : Fin 64) (v : Nat) (descs : List (Nat × List Byte))
  /-- `MGMT_FRAME_RECEIVE` (R400). A management-port frame is answered by ARP, passed to the Lodge or dropped. -/
  | mgmtFrameReceive (f : RxFrame)
  /-- `PTP_MESSAGE_RECEIVE` (R409). A PTP Announce or other message is taken by the time unit and its port state runs. -/
  | ptpMessageReceive (p : Fin 48) (m : PtpMsg)
  /-- `PTP_SYNC_RECEIVE` (R410). A Sync with its Delay_Req exchange gives the servo an offset that updates rho. The exchange's timestamps and corrections in ns, the age of its Delay_Req in ns, and ρ as SyncE measures it. -/
  | ptpSyncReceive (p : Fin 48) (t1 t2 t3 t4 cSync cDreq age synce : Int)
  /-- `PTP_TX_TIMER` (R408). The time unit sends Announce, Sync or Delay_Req at its configured rate. 0 Announce, 1 Sync, 2 Delay_Req. -/
  | ptpTxTimer (p : Fin 48) (kind : Fin 3)
  /-- `ANNOUNCE_TIMEOUT` (R417). Announce receipt times out and the clock enters HOLDOVER. -/
  | announceTimeout (p : Fin 48)
  /-- `TIME_LOCK_HOLD_EXPIRE` (R417). The offset stays below TIME_LOCK_THRESH for TIME_LOCK_HOLD and the clock enters LOCKED. -/
  | timeLockHoldExpire
  /-- `HOLDOVER_MAX_EXPIRE` (R417). TIME_HOLDOVER_MAX elapses and the clock enters FREERUN. -/
  | holdoverMaxExpire
  /-- `TIME_SET` (R407). Steps device time to the value written, refused while carriers run or LOCKED. -/
  | timeSet (a : Accessor) (v : Nat)
  /-- `SYNCE_DISQUALIFY` (R414). A SyncE source that leaves UP or drifts beyond 4.6 ppm is disqualified. The ρ measured on the source, 2^-16 ppb. -/
  | synceDisqualify (rho : Int)
  /-- `PPS_IN_EDGE` (R415). A PPS_IN rising edge is timestamped and feeds the servo, or is rejected. -/
  | ppsInEdge
  /-- `PPS_LOSS` (R417). No PPS edge for 3 s moves the clock to HOLDOVER. -/
  | ppsLoss
  /-- `PPS_OUT_SECOND` (R416). At each whole second PPS_OUT rises for PPS_OUT_WIDTH. -/
  | ppsOutSecond
  /-- `TIME_TRIG_WRITE` (R421). A write of TIME_TRIG_n arms a trigger, which fires at once if already passed. -/
  | timeTrigWrite (a : Accessor) (n : Fin 16) (v : Nat)
  /-- `TIME_TRIG_FIRE` (R421). Device time reaches a trigger, which issues a snapshot or an event and disarms. -/
  | timeTrigFire (n : Fin 16)
  /-- `JR_TAIL_DOORBELL` (R440). A JR_TAIL doorbell is checked and lets the device fetch descriptors. A write of `wid` bytes at offset `off` of page r of BAR2 that is no other doorbell. -/
  | jrTailDoorbell (fn : Fin 64) (r : Fin 256) (off wid : Nat) (v : BitVec 64)
  /-- `CR_HEAD_DOORBELL` (R440). A CR_HEAD doorbell is checked, mirrored and frees completion slots. -/
  | crHeadDoorbell (fn : Fin 64) (r : Fin 256) (v : BitVec 64)
  /-- `JOB_ACCEPTANCE` (R438). A fetched descriptor is checked, journaled and counted in JR_ACCEPTED. `ok`: the descriptor was read; `prach`: its uplink request names a PRACH occasion. -/
  | jobAcceptance (r : Fin 256) (ok : Bool) (desc : BitVec 512) (prach : Bool)
  /-- `JOB_START` (R437). An accepted job whose dependencies are met is checked and executed. -/
  | jobStart (r : Fin 256) (seq : Nat) (rd : JobRead)
  /-- `JOB_EXPIRE` (R443). DEADLINE passes before an unstarted job starts and it completes EXPIRED. -/
  | jobExpire (r : Fin 256) (seq : Nat)
  /-- `COMPLETION_GATE` (R446). A finished job's record and result digest are journaled. What the firmware finished with: the result messages. -/
  | completionGate (r : Fin 256) (seq : Nat) (msgs : List (List Byte))
  /-- `COMPLETION_RECORD_WRITE` (R445). A record is written to host memory after every lower record, with the write-back block. -/
  | completionRecordWrite (r : Fin 256)
  /-- `JR_COALESCE_EXPIRE` (R445). JR_COALESCE after the first unsignalled record the ring's vector is raised. -/
  | jrCoalesceExpire (r : Fin 256)
  /-- `JR_ENABLE_WRITE` (R441). Enabling a ring increases its epoch and resets its indices; disabling waits for reads. -/
  | jrEnableWrite (a : Accessor) (r : Fin 256) (v : Nat)
  /-- `JR_RESUME` (R441). Any write takes the ring from ERROR back to ACTIVE. -/
  | jrResume (a : Accessor) (r : Fin 256) (v : Nat)
  /-- `FUNCTION_LEVEL_RESET` (R448). An FLR disables the function's rings and discards unwritten records. -/
  | functionLevelReset (fn : Fin 64)
  /-- `PCIE_LINK_DOWN` (R448). Link down or cleared bus mastering holds record writes until it returns. With `link` the link is down; without it Bus Master Enable of function `fn` is cleared. -/
  | pcieLinkDown (link : Bool) (fn : Fin 64)
  /-- `BAR4_ACCESS` (R431). A BAR4 read or write is mapped through AP_MAP and performed or refused. A read of `n` bytes, or a write of `data`. -/
  | bar4Access (fn : Fin 64) (off : Nat) (wr : Bool) (n : Nat) (data : List Byte)
  /-- `BAR0_READ` (R470). A BAR0 read returns an object's value after earlier writes are acknowledged. Index × 256 + subindex; `wid` bytes from byte `off` of the slot, or `slots` whole slots if that is above 1. -/
  | bar0Read (fn : Fin 64) (addr : BitVec 24) (off wid slots : Nat)
  /-- `DICT_WRITE` (R462). A write of an object with no row of its own is checked, applied or staged, and journaled. `tie`: another access arrived with it and their order cannot be told. -/
  | dictWrite (a : Accessor) (addr : BitVec 24) (off wid : Nat) (v : BitVec 64) (tie : Bool)
  /-- `DICT_WRITE_ACK` (R463). After its journal entry is written a dictionary write is acknowledged. -/
  | dictWriteAck
  /-- `WIN_SNAPSHOT` (R473). DICT_WIN_GO 1 copies a snapshot of the object into the window. -/
  | winSnapshot (fn : Fin 64)
  /-- `WIN_WRITE` (R473). DICT_WIN_GO 2 writes or stages the object from the window. -/
  | winWrite (fn : Fin 64)
  /-- `WIN_GROUP_READ` (R473). DICT_WIN_GO 3 performs a group read listed in the window. -/
  | winGroupRead (fn : Fin 64)
  /-- `WIN_READ_STAGED` (R473). DICT_WIN_GO 4 copies the staged value, or the value in force, into the window. -/
  | winReadStaged (fn : Fin 64)
  /-- `NAP_REQUEST` (R477). A NAP datagram is checked against its session and its operations run, or the stored reply is resent. The frame from its destination address, without FCS; port 48 is the management port. -/
  | napRequest (p : Fin 49) (l : List Byte)
  /-- `NAP_READ` (R476). Reads an object's value. -/
  | napRead (a : Accessor) (addr : BitVec 24)
  /-- `NAP_WRITE` (R476). Writes an object's value. -/
  | napWrite (a : Accessor) (addr : BitVec 24) (v : BitVec 64)
  /-- `NAP_DOMAIN_READ` (R476). Reads bytes of a DOMAIN object from a session snapshot. -/
  | napDomainRead (a : Accessor) (addr : BitVec 24) (off n : Nat)
  /-- `NAP_DOMAIN_WRITE` (R476). Assembles bytes of a DOMAIN object and writes it on LAST. -/
  | napDomainWrite (a : Accessor) (addr : BitVec 24) (off : Nat) (data : List Byte) (fin : Bool)
  /-- `NAP_READ_STAGED` (R476). Reads an object's staged value. -/
  | napReadStaged (a : Accessor) (addr : BitVec 24)
  /-- `ARP_REQUEST` (R474). An ARP request for a NAP address is answered from the port. The frame from its destination address, without FCS; port 48 is the management port. -/
  | arpRequest (p : Fin 49) (l : List Byte)
  /-- `I3C_PRIVATE_WRITE` (R478). A private write carries one NAP request with class B. -/
  | i3cPrivateWrite (d : List Byte)
  /-- `I3C_PRIVATE_READ` (R478). A private read returns the reply, NACKed until ready. -/
  | i3cPrivateRead
  /-- `ENTDAA` (R478). CCC assigning a dynamic address. -/
  | entdaa (da : Fin 128)
  /-- `SETDASA` (R478). CCC setting the dynamic address from the static address. -/
  | setdasa (sa da : Fin 128)
  /-- `RSTDAA` (R478). CCC resetting the dynamic address. -/
  | rstdaa
  /-- `GETPID` (R478). CCC returning the provisioned ID. -/
  | getpid
  /-- `GETBCR` (R478). CCC returning the bus characteristics register. -/
  | getbcr
  /-- `GETDCR` (R478). CCC returning the device characteristics register. -/
  | getdcr
  /-- `GETSTATUS` (R478). CCC returning the target status. -/
  | getstatus
  /-- `ENEC` (R478). CCC enabling in-band interrupts. -/
  | enec (ev : BitVec 8)
  /-- `DISEC` (R478). CCC disabling in-band interrupts. -/
  | disec (ev : BitVec 8)
  /-- `STAGE_COMMIT` (R468). Arms a staging context for a commit slot after checking every staged set, including admission. `place` is the hall the device picks for each carrier the set adds. -/
  | stageCommit (a : Accessor) (k : Fin 64) (v : BitVec 64) (place : List (Nat × Nat))
  /-- `STAGE_CANCEL` (R465). Empties the staging and leaves the context OPEN. -/
  | stageCancel (a : Accessor) (k : Fin 64) (v : Nat)
  /-- `STAGE_COMMIT_APPLY` (R469). At T_c every armed context applies its staged values as one change. -/
  | stageCommitApply
  /-- `PWR_REQ_S2` (R491). PWR_STATE_REQ 2 runs the sleep handshake toward S2 Night. `n` is the delay, in µs, that a unit which asks for one answers. -/
  | pwrReqS2 (a : Accessor) (n : Nat)
  /-- `PWR_REQ_S3` (R491). PWR_STATE_REQ 3 runs the sleep handshake toward S3 Standby. -/
  | pwrReqS3 (a : Accessor) (n : Nat)
  /-- `PWR_REQ_S4` (R491). PWR_STATE_REQ 4 runs the sleep handshake toward S4 Off. -/
  | pwrReqS4 (a : Accessor) (n : Nat)
  /-- `PWR_REQ_WAKE` (R495). PWR_STATE_REQ 0 in S2 or S3 is a wake. -/
  | pwrReqWake (a : Accessor)
  /-- `PWR_GATE` (R492). PWR_GATE_REQ with ACTION 1 asks and gates the named halls and blocks. -/
  | pwrGate (a : Accessor) (units : BitVec 18) (n : Nat)
  /-- `PWR_UNGATE` (R492). PWR_GATE_REQ with ACTION 0 restarts the named gated units. -/
  | pwrUngate (a : Accessor) (units : BitVec 18)
  /-- `PWR_DELAY_EXPIRE` (R490). A granted delay elapses and the unit is asked again. -/
  | pwrDelayExpire (n : Nat)
  /-- `PWR_STATE_REACHED` (R493). The final steps after a commit end and the target state is reached, starting a held wake. -/
  | pwrStateReached
  /-- `WAKE_N_ASSERTED` (R495). WAKE_N held low for 1 µs wakes the device from S2 or S3. -/
  | wakeNAsserted
  /-- `PWR_WAKE_AT_REACHED` (R495). Device time reaches PWR_WAKE_AT in S2 and wakes the device. -/
  | pwrWakeAtReached
  /-- `POWER_EXIT` (R496). An exit restarts every unit that ran before the entry, resetting all but Summerhouse from S3. -/
  | powerExit
  /-- `START_LADDER_STEP` (R499). When spacing, regulation and current allow, the next unit of the ladder is released. The input current in mA, `OSC_TIME` as counted, in kHz, and the reasons of R511 in whose checks of slots A and B a flash read fails, 0 none. -/
  | startLadderStep (iin osc errA errB : Nat)
  /-- `VIN_RISE` (R484). VIN rises through 5.7 V and the first stage starts the power-on ladder. -/
  | vinRise (mv : Nat)
  /-- `VIN_LOSS` (R484). VIN falls through 5.4 V and the device is in S4 at once. -/
  | vinLoss (mv : Nat)
  /-- `VIN_WARN_CROSSING` (R484). VIN crosses PWR_VIN_WARN, asserting or clearing ALERT_N with an event. -/
  | vinWarnCrossing (mv ma : Nat)
  /-- `PWR_EN_FALL` (R502). A falling PWR_EN forces S4 at once with no handshake. -/
  | pwrEnFall
  /-- `PWR_EN_RISE` (R486). PWR_EN taken high again starts the power-on ladder from S4. -/
  | pwrEnRise
  /-- `L1_COPY` (R512). After rung 5 the L1 firmware is copied to DDR and hashed. -/
  | l1Copy
  /-- `SH_ROLLBACK_SET` (R513). Raises the OTP rollback level irrevocably. -/
  | shRollbackSet (a : Accessor) (v : Nat)
  /-- `SH_OTP_REVOKE` (R513). Sets the revoke bit of a key slot irrevocably. -/
  | shOtpRevoke (a : Accessor) (v : Nat)
  /-- `SH_FLASH_ERASE` (R514). SH_FLASH_CMD 1 erases the 64 KiB sector at the offset. -/
  | shFlashErase (a : Accessor)
  /-- `SH_FLASH_PROGRAM` (R514). SH_FLASH_CMD 2 programs the window at the offset. -/
  | shFlashProgram (a : Accessor)
  /-- `SH_FLASH_CHECK` (R514). SH_FLASH_CMD 3 checks a slot without booting it. `err`: the reason of R511 in whose check a flash read fails, 0 none. -/
  | shFlashCheck (a : Accessor) (err : Nat)
  /-- `SH_WATCH_TABLE_WRITE` (R516). A write of the watch table is checked and copies the named entries. -/
  | shWatchTableWrite (a : Accessor) (data : List Byte)
  /-- `SH_WATCH_EN_WRITE` (R517). Enables or disables watch entries, moving their states. -/
  | shWatchEnWrite (a : Accessor) (v : Nat)
  /-- `SH_WATCH_EVALUATION` (R520). A watched repetition is evaluated and closing receptions are logged. What the landed sections of the repetition gave: the gain code each stream measures, whether a component saturated and a unit was missing, and the profiles. -/
  | shWatchEvaluation (e : Fin 8) (rep : Nat) (slot : Int) (codes : List Nat) (clip missing : Bool) (prof : PraProfile)
  /-- `SH_WATCH_MAC_FRAME` (R519). In S2 the watch MAC takes a frame on PORT_0 or PORT_1. -/
  | shWatchMacFrame (p : Fin 2) (f : RxFrame)
  /-- `SH_WATCHDOG_EXPIRE` (R525). The 10 ms watchdog expires and Summerhouse restarts. -/
  | shWatchdogExpire
  /-- `UNIT_FAULT` (R534). A fault of a unit is counted and the unit restarts or is retired. -/
  | unitFault (u : Fin 280) (code : Nat)
  /-- `ENGINE_TIMEOUT` (R533). An engine sends no completion within REL_ENGINE_TIMEOUT, a fault of its hall or block. -/
  | engineTimeout (h : Fin 16) (e : Fin 16)
  /-- `UNIT_DRAIN_END` (R532). A restarting unit drains or reaches REL_DRAIN_MAX and is reset and swept. -/
  | unitDrainEnd (u : Fin 280)
  /-- `UNIT_REJOIN` (R541). A unit in REJOINING is reloaded and returns to RUNNING. -/
  | unitRejoin (u : Fin 280)
  /-- `RETIRED_CARRIER_REPLACE` (R535). At the next slot the carriers of a retired hall are placed again. -/
  | retiredCarrierReplace (h : Fin 16)
  /-- `REL_UNRETIRE` (R531). Restarts a named unit from RETIRED. -/
  | relUnretire (a : Accessor) (v : Nat)
  /-- `PROGRESS_MARK` (R539). An inline write to the reliability manager becomes a progress-mark journal entry. -/
  | progressMark (h : Fin 16) (w : BitVec 128)
  /-- `REL_MARK_QUERY_WRITE` (R561). A write names a job whose latest mark the object then returns. -/
  | relMarkQueryWrite (a : Accessor) (v : BitVec 64)
  /-- `PAIR_MODE_WRITE` (R543). A write of PAIR_MODE enters or leaves pairing, or is refused. -/
  | pairModeWrite (a : Accessor) (v : Nat)
  /-- `PAIR_ROLE_REQ` (R543). Names this module to lead the pair as primary. What the partner answers: 0 it agrees, 3 nothing, 4 a stepping or L1 VERSION that differs, 5 a DDR population that differs. -/
  | pairRoleReq (a : Accessor) (v : Nat) (why : Fin 6)
  /-- `DRAVUT_FRAME_RECEIVE` (R545). A Dravut frame is checked, acknowledged and acted on by its TYPE. Header, payload and CRC. -/
  | dravutFrameReceive (f : List Byte)
  /-- `DRAVUT_RESEND_TIMEOUT` (R545). No acknowledgement 20 µs after sending resends from the oldest unacknowledged frame. -/
  | dravutResendTimeout
  /-- `PAIR_HEARTBEAT_TIMER` (R549). Every PAIR_HB_PERIOD each module sends a HEARTBEAT. -/
  | pairHeartbeatTimer
  /-- `PAIR_HB_MISS` (R549). PAIR_HB_MISS missing heartbeats bring the link DOWN with the outcomes of R544. Whether `PAIR_FAIL_IN` is asserted. -/
  | pairHbMiss (failIn : Bool)
  /-- `PAIR_SYNC_COMPLETE` (R547). The last SYNC frame is acknowledged and JOINING ends in PAIRED. -/
  | pairSyncComplete
  /-- `TAKEOVER` (R550). A standby seeing PAIR_FAIL_IN high for 200 ns becomes primary and replays the journal. -/
  | takeover
  /-- `CHAIN_ROLE_WRITE` (R552). Sets the device's role in the Munov chain, refused in a pair. -/
  | chainRoleWrite (a : Accessor) (v : Nat)
  /-- `MUNOV_FRAME_RECEIVE` (R553). A Munov frame is taken if addressed here or passed on in cut-through. `down`: it arrived on the downstream lanes. -/
  | munovFrameReceive (down : Bool) (f : List Byte)
  /-- `BARRIER` (R555). A Stairway arrival counts toward its group, and COUNT arrivals release the round. -/
  | barrier (h : Fin 16)
  /-- `BROADCAST` (R555). Delivers a payload to every hall of the scope and then a completion. -/
  | broadcast (h : Fin 16)
  /-- `SNAPSHOT_ARM` (R556). Arms a snapshot for a TIME64 in every device of the scope. -/
  | snapshotArm (h : Fin 16)
  /-- `STAIR_SNAPSHOT_LATCH` (R556). When device time reaches the armed time every counter and state object is latched. -/
  | stairSnapshotLatch
  /-- `STAIR_RESET_DEVICE` (R557). STAIR_RESET 1 resets every unit of the device from rung 2. -/
  | stairResetDevice (a : Accessor)
  /-- `STAIR_RESET_PAIR` (R557). STAIR_RESET 2 resets both modules and ends pairing. -/
  | stairResetPair (a : Accessor)
  /-- `STAIR_RESET_CHAIN` (R557). STAIR_RESET 3 at the head resets every device of the chain. -/
  | stairResetChain (a : Accessor)
  /-- `BLOCK_LOCK_GAIN` (R348). After 64 consecutive valid sync headers a lane gains block lock, which can bring its port UP. -/
  | blockLockGain (l : Fin 56)
  /-- `ALIGNMENT_LOCK_GAIN` (R349). A multi-lane port gains Clause 82 alignment lock and deskew and can go UP. `skew`: the delay of each lane behind the earliest, ns. -/
  | alignmentLockGain (p : Fin 48) (skew : List Nat)
  /-- `ALIGNMENT_LOCK_LOSS` (R372). A multi-lane port loses alignment lock and enters DOWN. -/
  | alignmentLockLoss (p : Fin 48)
  /-- `LOW_POWER_IDLE_ENTRY` (R360). The port enters Energy-Efficient Ethernet low-power idle and its lanes freeze adaptation in FROZEN. -/
  | lowPowerIdleEntry (p : Fin 48)
  /-- `LOW_POWER_IDLE_EXIT` (R360). Low-power idle ends and the lane returns from FROZEN to DATA, skipping one adaptation step. -/
  | lowPowerIdleExit (p : Fin 48)
  /-- `TRAINING_FRAME_RECEIVE` (R357). A Clause 72 training frame from the partner carries coefficient requests and status that the lane applies and answers. `req` is the coefficient update of Clause 72; `holds`: the partner holds training. -/
  | trainingFrameReceive (l : Fin 48) (req : BitVec 16) (holds : Bool)
  /-- `LANE_TX_PLL_LOCK` (R364). A lane becomes powered with its transmit PLL locked and leaves OFF for ACQUIRE. -/
  | laneTxPllLock (l : Fin 56)
  /-- `PCIE_LINK_UP` (R448). The PCIe link trains or bus mastering returns, and the held record and write-back writes proceed. With `link` the link trains at `speed` and `width` with NumVFs `vfs`; without it bus mastering of function `fn` returns. -/
  | pcieLinkUp (link : Bool) (fn : Fin 64) (speed width vfs : Nat)
  /-- `MGMT_LINK_UP` (R400). The management port gains 1000BASE-X or SGMII synchronisation and MGMT_STATE enters UP. -/
  | mgmtLinkUp
  /-- `MGMT_LINK_DOWN` (R400). The management port loses synchronisation and MGMT_STATE enters DOWN. -/
  | mgmtLinkDown
  /-- `JTAG_INSTRUCTION` (R577). An instruction loaded through the test access port acts, and any instruction other than BYPASS or IDCODE takes the device out of service. 0 BYPASS, 1 IDCODE, 2 any other instruction. -/
  | jtagInstruction (ins : Fin 3)
  deriving DecidableEq, Repr

end Sys2Proof
end

