-- ==== Sys2Proof/Config.lean ====
section
/-! DEFINITION. What a board or an implementation fixes, and the free values: constants with no body, so that
nothing can be proved of their value. -/

namespace Sys2Proof.Config

/-- The module fitted is a BF-9660-SE, not a BF-9660-HE (R4). -/
opaque seFitted : Bool

/-- `ID_ORDER_CODE` (R4): 1 for BF-9660-HE, 2 for BF-9660-SE. -/
def orderCode : Int := if seFitted then 2 else 1

/-- The MAC address base the boot flash holds (defaults of `ETH_MAC_ADDR` and `MGMT_MAC_ADDR`). -/
opaque macBase : Int

/-- The physical root number at a place of the logical order of roots of Zadoff-Chu sequences of a length: 3GPP TS 38.211 and TS
36.211 tabulate it, the spec does not. -/
opaque zcRoot (length place : Nat) : Nat

/-- A base graph's shift at a row and column for a set of lifting sizes, plus one; 0 for no entry: TS 38.212 tabulates it, the spec
does not. -/
opaque ldpcShift (bg2 : Bool) (set row col : Nat) : Nat

/-- The parameters of the turbo code's internal interleaver for a block size: TS 36.212 tabulates them, the spec does not. -/
opaque turboQpp (k : Nat) : Nat × Nat

/-- Which way 3/4 of an extrinsic value is rounded in turbo decoding (R241). -/
opaque turboRound (e : Int) : Nat

/-- The place at a rank of the polar reliability order, the least reliable first: TS 38.212 tabulates it, the spec does not. -/
opaque polarRank (i : Nat) : Nat

/-- The interleaver of polar information bits at its full length: TS 38.212 tabulates it, the spec does not. -/
opaque polarInterleave (m : Nat) : Nat

/-- What a list decoder of polar codes (channels 0 to 2) or the Viterbi decoder (3) decides, from channel, bits, list size and LLRs:
the bits decoded, as a number, and the path metric. The spec names the algorithms and not their arithmetic. -/
opaque listDecode (chan bits list : Nat) (llrs : List Int) : Nat × Nat

/-- The power of a bin of the mask monitor that counts as 0 dBFS (R268): no rule states it. -/
opaque maskFullScale : Nat

/-- Fresh free values: the value the machine delivers where the spec states none, one for each reading of the
counter `State.freeCtr`. -/
opaque freeValue : Nat → Nat

/-- Free values that depend on operands: a number that names the operation, then its operands. -/
opaque freeOf : Nat → List Nat → Nat

end Sys2Proof.Config
end

