-- ==== Sys2Proof/Machine/Objects.lean ====
section
/-! DEFINITION. The names of the dictionary objects (R456 to R458), one constructor per object of the
spec's object tables, and the numbering that orders them in the object store. The docstring of a name gives
its index and subindex (of instance 0) and the rule whose table states it. -/

namespace Sys2Proof.Machine

/-- The dictionary objects, in the order of the spec's tables. -/
inductive Obj where
  /-- `ID_PART`, 0x1000.01, R4. -/
  | idPart
  /-- `ID_VENDOR`, 0x1000.02, R4. -/
  | idVendor
  /-- `ID_STEPPING`, 0x1000.04, R4. -/
  | idStepping
  /-- `ID_ORDER_CODE`, 0x1000.05, R4. -/
  | idOrderCode
  /-- `CAP_CU_LIMIT`, 0x1240.01, R19. -/
  | capCuLimit
  /-- `CAP_CU_USED`, 0x1240.02, R19. -/
  | capCuUsed
  /-- `CAP_HALL_CU_LIMIT`, 0x1240.03, R19. -/
  | capHallCuLimit
  /-- `CAP_FH_LOAD_DL`, 0x1240.04, R19. -/
  | capFhLoadDl
  /-- `CAP_FH_LOAD_UL`, 0x1240.05, R19. -/
  | capFhLoadUl
  /-- `CAP_RU_ENDPOINTS`, 0x1240.06, R19. -/
  | capRuEndpoints
  /-- `CAP_LAST_REFUSAL`, 0x1240.07, R19. -/
  | capLastRefusal
  /-- `HALL_LEVEL`, 0x2000.01, R50. -/
  | hallLevel
  /-- `HALL_PACE_EN`, 0x2000.02, R50. -/
  | hallPaceEn
  /-- `HALL_PACE_MARGIN`, 0x2000.03, R50. -/
  | hallPaceMargin
  /-- `HALL_PACE_HYST`, 0x2000.04, R50. -/
  | hallPaceHyst
  /-- `HALL_PACE_LOWER_INT`, 0x2000.05, R50. -/
  | hallPaceLowerInt
  /-- `HALL_PACE_HOLD`, 0x2000.06, R50. -/
  | hallPaceHold
  /-- `HALL_PACE_START_HOLD`, 0x2000.07, R50. -/
  | hallPaceStartHold
  /-- `HALL_PACE_MIN_SAMPLES`, 0x2000.08, R50. -/
  | hallPaceMinSamples
  /-- `HALL_PACE_RATE_GUARD`, 0x2000.09, R50. -/
  | hallPaceRateGuard
  /-- `HALL_PACE_TRIM_MAX`, 0x2000.0A, R50. -/
  | hallPaceTrimMax
  /-- `HALL_HOT_HOLD`, 0x2000.0B, R50. -/
  | hallHotHold
  /-- `HALL_PACE_SNAP`, 0x2000.0C, R50. -/
  | hallPaceSnap
  /-- `HALL_PACE_STATE`, 0x2001.01, R50. -/
  | hallPaceState
  /-- `HALL_TRIM`, 0x2001.02, R50. -/
  | hallTrim
  /-- `HALL_VOLTAGE`, 0x2001.03, R50. -/
  | hallVoltage
  /-- `HALL_RATE`, 0x2001.04, R50. -/
  | hallRate
  /-- `HALL_RATE_PACED`, 0x2001.05, R50. -/
  | hallRatePaced
  /-- `HALL_SLACK_TAIL`, 0x2001.06, R50. -/
  | hallSlackTail
  /-- `HALL_SLACK_MIN`, 0x2001.07, R50. -/
  | hallSlackMin
  /-- `HALL_SLACK_SAMPLES`, 0x2001.08, R50. -/
  | hallSlackSamples
  /-- `HALL_TJ`, 0x2001.09, R50. -/
  | hallTj
  /-- `HALL_LAST_SNAP_CAUSE`, 0x2001.0A, R50. -/
  | hallLastSnapCause
  /-- `PACE_SNAPS`, 0xA100.01, R52. -/
  | paceSnaps
  /-- `PACE_STEPS_UP`, 0xA100.02, R52. -/
  | paceStepsUp
  /-- `PACE_STEPS_DOWN`, 0xA100.03, R52. -/
  | paceStepsDown
  /-- `PACE_RATE_GUARD_HITS`, 0xA100.04, R52. -/
  | paceRateGuardHits
  /-- `PACE_FLOOR_FAULTS`, 0xA100.05, R52. -/
  | paceFloorFaults
  /-- `PACE_HOT_ENTRIES`, 0xA100.06, R52. -/
  | paceHotEntries
  /-- `CORE_STATE`, 0x2800.01, R95. -/
  | coreState
  /-- `CORE_PC`, 0x2800.02, R95. -/
  | corePc
  /-- `CORE_LAST_ECAUSE`, 0x2800.03, R95. -/
  | coreLastEcause
  /-- `CORE_LAST_EPC`, 0x2800.04, R95. -/
  | coreLastEpc
  /-- `CORE_LAST_EADDR`, 0x2800.05, R95. -/
  | coreLastEaddr
  /-- `CORE_HALT`, 0x2800.06, R95. -/
  | coreHalt
  /-- `CORE_RESUME`, 0x2800.07, R95. -/
  | coreResume
  /-- `CORE_BKPT_HALT`, 0x2800.08, R95. -/
  | coreBkptHalt
  /-- `CORE_EXCEPTIONS`, 0xA200.01, R96. -/
  | coreExceptions
  /-- `CORE_INTERRUPTS`, 0xA200.02, R96. -/
  | coreInterrupts
  /-- `CORE_DOUBLE_FAULTS`, 0xA200.03, R96. -/
  | coreDoubleFaults
  /-- `CORE_ECC_UNCORR`, 0xA200.04, R96. -/
  | coreEccUncorr
  /-- `CORE_WINDOW_ASYNC`, 0xA200.05, R96. -/
  | coreWindowAsync
  /-- `CORE_LAST_VSTATE`, 0x2800.09, R125. -/
  | coreLastVstate
  /-- `CORE_VECTOR_FAULTS`, 0xA200.06, R126. -/
  | coreVectorFaults
  /-- `SCH_TICK_NS`, 0x2900.01, R155. -/
  | schTickNs
  /-- `SCH_WD_LIMIT`, 0x2900.02, R155. -/
  | schWdLimit
  /-- `SCH_WD_EN`, 0x2900.03, R155. -/
  | schWdEn
  /-- `SCH_TRACE_BASE`, 0x2900.04, R155. -/
  | schTraceBase
  /-- `SCH_TRACE_SIZE`, 0x2900.05, R155. -/
  | schTraceSize
  /-- `SCH_TRACE_MASK`, 0x2900.06, R155. -/
  | schTraceMask
  /-- `SCH_TRACE_MODE`, 0x2900.07, R155. -/
  | schTraceMode
  /-- `SCH_PMEM_LOAD`, 0x2900.08, R155. -/
  | schPmemLoad
  /-- `SCH_READY_THREADS`, 0x2910.01, R155. -/
  | schReadyThreads
  /-- `SCH_WAITING_THREADS`, 0x2910.02, R155. -/
  | schWaitingThreads
  /-- `SCH_FREE_THREADS`, 0x2910.03, R155. -/
  | schFreeThreads
  /-- `SCH_TRACE_WPTR`, 0x2910.04, R155. -/
  | schTraceWptr
  /-- `SCH_PMEM_STATE`, 0x2910.05, R155. -/
  | schPmemState
  /-- `SCH_WD_LAST_THREAD`, 0x2910.06, R155. -/
  | schWdLastThread
  /-- `SCH_WD_LAST_KIND`, 0x2910.07, R155. -/
  | schWdLastKind
  /-- `SCH_WD_LAST_OBJ`, 0x2910.08, R155. -/
  | schWdLastObj
  /-- `SCH_WD_LAST_CHAIN_LEN`, 0x2910.09, R155. -/
  | schWdLastChainLen
  /-- `SCH_WD_LAST_CHAIN_END`, 0x2910.0A, R155. -/
  | schWdLastChainEnd
  /-- `CARRIER_HALL`, 0x2C00.01, R156. -/
  | carrierHall
  /-- `CARRIER_BUILD_OFFSET`, 0x2C00.02, R156. -/
  | carrierBuildOffset
  /-- `CARRIER_BUILD_QUEUE`, 0x2C00.03, R156. -/
  | carrierBuildQueue
  /-- `SCH_DISPATCHES`, 0xA300.01, R157. -/
  | schDispatches
  /-- `SCH_PREEMPTIONS`, 0xA300.02, R157. -/
  | schPreemptions
  /-- `SCH_PREEMPT_SPURIOUS`, 0xA300.03, R157. -/
  | schPreemptSpurious
  /-- `SCH_ORDER_ERRORS`, 0xA300.04, R157. -/
  | schOrderErrors
  /-- `SCH_WD_REPORTS`, 0xA300.05, R157. -/
  | schWdReports
  /-- `SCH_SEND_WAITS`, 0xA300.06, R157. -/
  | schSendWaits
  /-- `SCH_QUEUE_DROPS`, 0xA300.07, R157. -/
  | schQueueDrops
  /-- `SCH_TRACE_DROPS`, 0xA300.08, R157. -/
  | schTraceDrops
  /-- `UL_STEER_TABLE`, 0x3500.01, R190. -/
  | ulSteerTable
  /-- `UL_STEER_COUNT`, 0x3500.02, R190. -/
  | ulSteerCount
  /-- `UL_STEER_ERROR`, 0x3500.03, R190. -/
  | ulSteerError
  /-- `UL_DEADLINE_OFFSET`, 0x3000.01, R191. -/
  | ulDeadlineOffset
  /-- `UL_WIN_CLOSE`, 0x3000.02, R191. -/
  | ulWinClose
  /-- `UL_GAIN_MODE`, 0x3000.03, R191. -/
  | ulGainMode
  /-- `UL_GAIN_TARGET`, 0x3000.04, R191. -/
  | ulGainTarget
  /-- `UL_GAIN_FIXED`, 0x3000.05, R191. -/
  | ulGainFixed
  /-- `UL_OUTER_MAX`, 0x3000.06, R191. -/
  | ulOuterMax
  /-- `UL_OUTER_DAMP`, 0x3000.07, R191. -/
  | ulOuterDamp
  /-- `UL_ABANDON_GUARD`, 0x3000.08, R191. -/
  | ulAbandonGuard
  /-- `UL_PRED_RATE`, 0x3400.01, R192. -/
  | ulPredRate
  /-- `UL_LAST_PRED_SLACK`, 0x3400.02, R192. -/
  | ulLastPredSlack
  /-- `UL_DET_BACKLOG`, 0x3400.03, R192. -/
  | ulDetBacklog
  /-- `UL_DESC_OK`, 0xA400.01, R193. -/
  | ulDescOk
  /-- `UL_DESC_LATE`, 0xA400.02, R193. -/
  | ulDescLate
  /-- `UL_DESC_BAD`, 0xA400.03, R193. -/
  | ulDescBad
  /-- `UL_DESC_NO_SLOT`, 0xA400.04, R193. -/
  | ulDescNoSlot
  /-- `UL_CLIP_SLOTS`, 0xA400.05, R193. -/
  | ulClipSlots
  /-- `UL_GAIN_FALLBACK`, 0xA400.06, R193. -/
  | ulGainFallback
  /-- `UL_OUTER_STARTED`, 0xA400.07, R193. -/
  | ulOuterStarted
  /-- `UL_OUTER_SKIPPED`, 0xA400.08, R193. -/
  | ulOuterSkipped
  /-- `UL_OUTER_ABANDONED`, 0xA400.09, R193. -/
  | ulOuterAbandoned
  /-- `UL_OUTER_RECOVERED`, 0xA400.0A, R193. -/
  | ulOuterRecovered
  /-- `UL_RELEASE_AT_DEADLINE`, 0xA400.0B, R193. -/
  | ulReleaseAtDeadline
  /-- `UL_FH_MISSING_PRB`, 0xA400.0C, R193. -/
  | ulFhMissingPrb
  /-- `UL_FH_NO_ENTRY`, 0xA410.01, R193. -/
  | ulFhNoEntry
  /-- `UL_FH_NO_JOB`, 0xA410.02, R193. -/
  | ulFhNoJob
  /-- `UL_FH_LATE`, 0xA410.03, R193. -/
  | ulFhLate
  /-- `UL_FH_BUF_BUSY`, 0xA410.04, R193. -/
  | ulFhBufBusy
  /-- `UL_FH_BAD_SECTION`, 0xA410.05, R193. -/
  | ulFhBadSection
  /-- `UL_FH_BAD_COMP`, 0xA410.06, R193. -/
  | ulFhBadComp
  /-- `UL_FH_SEQ_GAP`, 0xA410.07, R193. -/
  | ulFhSeqGap
  /-- `UL_FH_DUP_PRB`, 0xA410.08, R193. -/
  | ulFhDupPrb
  /-- `PRA_CFG_TABLE`, 0x3600.01, R212. -/
  | praCfgTable
  /-- `PRA_CFG_ERROR`, 0x3600.02, R212. -/
  | praCfgError
  /-- `PRA_GAIN_TARGET`, 0x3600.03, R212. -/
  | praGainTarget
  /-- `THRESHOLD`, 0x3600.04, R212. -/
  | threshold
  /-- `VALID_THR`, 0x3600.05, R212. -/
  | validThr
  /-- `CAPTURE_MARGIN`, 0x3600.06, R212. -/
  | captureMargin
  /-- `DET_WIN`, 0x3600.07, R212. -/
  | detWin
  /-- `VALID_MIN`, 0x3600.08, R212. -/
  | validMin
  /-- `TIMING_TOL`, 0x3600.09, R212. -/
  | timingTol
  /-- `PRA_LOAD`, 0x3610.01, R212. -/
  | praLoad
  /-- `PRA_OPEN`, 0x3610.02, R212. -/
  | praOpen
  /-- `PRA_DETECTIONS`, 0xA420.01, R213. -/
  | praDetections
  /-- `PRA_COLLIDED`, 0xA420.02, R213. -/
  | praCollided
  /-- `PRA_FALSE_ALARMS`, 0xA420.03, R213. -/
  | praFalseAlarms
  /-- `PRA_INVALID`, 0xA420.04, R213. -/
  | praInvalid
  /-- `PRA_TRUNCATED`, 0xA420.05, R213. -/
  | praTruncated
  /-- `PRA_CAPTURES`, 0xA420.06, R213. -/
  | praCaptures
  /-- `PRA_LATE_PEAKS`, 0xA420.07, R213. -/
  | praLatePeaks
  /-- `PRA_CLIP_REPS`, 0xA420.08, R213. -/
  | praClipReps
  /-- `PRA_OVERRUNS`, 0xA420.09, R213. -/
  | praOverruns
  /-- `HARQ_POOL_BASE`, 0x3700.01, R244. -/
  | harqPoolBase
  /-- `HARQ_POOL_SLOTS`, 0x3700.02, R244. -/
  | harqPoolSlots
  /-- `HARQ_PROC_BASE`, 0x3700.03, R244. -/
  | harqProcBase
  /-- `HARQ_PROC_COUNT`, 0x3700.04, R244. -/
  | harqProcCount
  /-- `HARQ_POOL_USED`, 0x3700.05, R244. -/
  | harqPoolUsed
  /-- `HARQ_POOL_LOW`, 0x3700.06, R244. -/
  | harqPoolLow
  /-- `HARQ_PROCS_VALID`, 0x3700.07, R244. -/
  | harqProcsValid
  /-- `DEC_BACKLOG`, 0x3710.01, R245. -/
  | decBacklog
  /-- `ENC_BACKLOG`, 0x3710.02, R245. -/
  | encBacklog
  /-- `DEC_AVG_ITERS`, 0x3710.03, R245. -/
  | decAvgIters
  /-- `DEC_BLOCKS`, 0xA430.01, R246. -/
  | decBlocks
  /-- `DEC_BLOCKS_FAILED`, 0xA430.02, R246. -/
  | decBlocksFailed
  /-- `DEC_TB_FAILED`, 0xA430.03, R246. -/
  | decTbFailed
  /-- `DEC_ITERATIONS`, 0xA430.04, R246. -/
  | decIterations
  /-- `DEC_CRC_AFTER_SYNDROME`, 0xA430.05, R246. -/
  | decCrcAfterSyndrome
  /-- `DEC_TB_CRC_ONLY`, 0xA430.06, R246. -/
  | decTbCrcOnly
  /-- `ENC_BLOCKS`, 0xA430.07, R246. -/
  | encBlocks
  /-- `HARQ_STORES`, 0xA430.08, R246. -/
  | harqStores
  /-- `HARQ_COMBINES`, 0xA430.09, R246. -/
  | harqCombines
  /-- `HARQ_NOT_STORED`, 0xA430.0A, R246. -/
  | harqNotStored
  /-- `HARQ_PRIOR_LOST`, 0xA430.0B, R246. -/
  | harqPriorLost
  /-- `HARQ_NO_PRIOR`, 0xA430.0C, R246. -/
  | harqNoPrior
  /-- `HARQ_MISMATCH`, 0xA430.0D, R246. -/
  | harqMismatch
  /-- `HARQ_BUSY`, 0xA430.0E, R246. -/
  | harqBusy
  /-- `POLAR_ENCODED`, 0xA441.0E, R246. -/
  | polarEncoded
  /-- `POLAR_DECODED`, 0xA441.0F, R246. -/
  | polarDecoded
  /-- `POLAR_CRC_FAIL`, 0xA441.10, R246. -/
  | polarCrcFail
  /-- `TURBO_BLOCKS`, 0xA441.11, R246. -/
  | turboBlocks
  /-- `TURBO_FAILED`, 0xA441.12, R246. -/
  | turboFailed
  /-- `DL_TXMAP_TABLE`, 0x3300.01, R271. -/
  | dlTxmapTable
  /-- `DL_TXMAP_ERROR`, 0x3300.02, R271. -/
  | dlTxmapError
  /-- `TD_FIR_TABLE`, 0x3300.03, R271. -/
  | tdFirTable
  /-- `TD_MASK_TABLE`, 0x3300.04, R271. -/
  | tdMaskTable
  /-- `TD_MASK_MIN_REF`, 0x3300.05, R271. -/
  | tdMaskMinRef
  /-- `DL_UP_ADVANCE`, 0x3000.10, R272. -/
  | dlUpAdvance
  /-- `DL_CP_LEAD`, 0x3000.11, R272. -/
  | dlCpLead
  /-- `DL_UP_WIN_CLOSE`, 0x3000.12, R272. -/
  | dlUpWinClose
  /-- `DL_HANDOVER_GUARD`, 0x3000.13, R272. -/
  | dlHandoverGuard
  /-- `TD_ADVANCE`, 0x3000.14, R272. -/
  | tdAdvance
  /-- `TD_WIN_CLOSE`, 0x3000.15, R272. -/
  | tdWinClose
  /-- `TD_FRAME_SAMPLES`, 0x3000.16, R272. -/
  | tdFrameSamples
  /-- `TD_NCO_OFFSET`, 0x3000.17, R272. -/
  | tdNcoOffset
  /-- `TD_MASK_ACTION`, 0x3000.18, R272. -/
  | tdMaskAction
  /-- `TD_MASK_TRIP`, 0x3000.19, R272. -/
  | tdMaskTrip
  /-- `TD_MASK_CLEAR`, 0x3000.1A, R272. -/
  | tdMaskClear
  /-- `TD_MASK_EVERY`, 0x3000.1B, R272. -/
  | tdMaskEvery
  /-- `TD_MASK_UNMUTE`, 0x3000.1C, R272. -/
  | tdMaskUnmute
  /-- `TD_MASK_STATE`, 0x3000.1D, R272. -/
  | tdMaskState
  /-- `TD_MASK_WORST`, 0x3000.1E, R272. -/
  | tdMaskWorst
  /-- `DL_FRAMES_HANDED`, 0xA450.01, R273. -/
  | dlFramesHanded
  /-- `DL_FRAMES_MISSED`, 0xA450.02, R273. -/
  | dlFramesMissed
  /-- `DL_RE_OVERWRITES`, 0xA450.03, R273. -/
  | dlReOverwrites
  /-- `DL_CLIPS`, 0xA450.04, R273. -/
  | dlClips
  /-- `DL_NO_MAP`, 0xA450.05, R273. -/
  | dlNoMap
  /-- `TD_CLIP_SAMPLES`, 0xA450.06, R273. -/
  | tdClipSamples
  /-- `TD_TAIL_ALONE`, 0xA450.07, R273. -/
  | tdTailAlone
  /-- `TD_MASK_FAILS`, 0xA450.08, R273. -/
  | tdMaskFails
  /-- `TD_MASK_ALARMS`, 0xA450.09, R273. -/
  | tdMaskAlarms
  /-- `TD_MUTES`, 0xA450.0A, R273. -/
  | tdMutes
  /-- `CTX_ENABLE`, 0x4400.01, R291. -/
  | ctxEnable
  /-- `CTX_BASE`, 0x4400.02, R291. -/
  | ctxBase
  /-- `CTX_ENTRIES`, 0x4400.03, R291. -/
  | ctxEntries
  /-- `CTX_SEED`, 0x4400.04, R291. -/
  | ctxSeed
  /-- `CTX_KICK_MAX`, 0x4400.05, R291. -/
  | ctxKickMax
  /-- `CTX_IDLE_EXPIRE`, 0x4400.06, R291. -/
  | ctxIdleExpire
  /-- `CTX_SWEEP_RATE`, 0x4400.07, R291. -/
  | ctxSweepRate
  /-- `CTX_USED`, 0x4410.01, R291. -/
  | ctxUsed
  /-- `CTX_STASH_USED`, 0x4410.02, R291. -/
  | ctxStashUsed
  /-- `CTX_SEQ_NEXT`, 0x4410.03, R291. -/
  | ctxSeqNext
  /-- `CTX_LAST_FULL`, 0x4410.04, R291. -/
  | ctxLastFull
  /-- `CTX_OPS_RATE`, 0x4410.05, R291. -/
  | ctxOpsRate
  /-- `CTX_LOOKUPS`, 0xA460.01, R292. -/
  | ctxLookups
  /-- `CTX_INSERTS`, 0xA460.02, R292. -/
  | ctxInserts
  /-- `CTX_UPDATES`, 0xA460.03, R292. -/
  | ctxUpdates
  /-- `CTX_DELETES`, 0xA460.04, R292. -/
  | ctxDeletes
  /-- `CTX_TOUCHES`, 0xA460.05, R292. -/
  | ctxTouches
  /-- `CTX_NOT_FOUND`, 0xA460.06, R292. -/
  | ctxNotFound
  /-- `CTX_EXISTS`, 0xA460.07, R292. -/
  | ctxExists
  /-- `CTX_SEQ_MISMATCH`, 0xA460.08, R292. -/
  | ctxSeqMismatch
  /-- `CTX_FULL`, 0xA460.09, R292. -/
  | ctxFull
  /-- `CTX_MEM_ERRORS`, 0xA460.0A, R292. -/
  | ctxMemErrors
  /-- `CTX_KICKS`, 0xA460.0B, R292. -/
  | ctxKicks
  /-- `CTX_STASH_PLACES`, 0xA460.0C, R292. -/
  | ctxStashPlaces
  /-- `CTX_EXPIRED`, 0xA460.0D, R292. -/
  | ctxExpired
  /-- `ARB_INPUTS`, 0x2002.01, R313. -/
  | arbInputs
  /-- `ARB_FREEZE`, 0x2002.02, R313. -/
  | arbFreeze
  /-- `ARB_STATE`, 0x2002.03, R313. -/
  | arbState
  /-- `ARB_HOLDER`, 0x2002.04, R313. -/
  | arbHolder
  /-- `ARB_POINTER`, 0x2002.05, R313. -/
  | arbPointer
  /-- `ARB_WAIT_MAX`, 0x2002.06, R313. -/
  | arbWaitMax
  /-- `ARB_BASE`, 0x2002.10, R313. -/
  | arbBase
  /-- `ARB_GRANTS`, 0xA500.01, R314. -/
  | arbGrants
  /-- `ARB_TAKEBACKS`, 0xA500.02, R314. -/
  | arbTakebacks
  /-- `ARB_TIE_ROUNDS`, 0xA500.03, R314. -/
  | arbTieRounds
  /-- `ARB_URGENT_ROUNDS`, 0xA500.04, R314. -/
  | arbUrgentRounds
  /-- `GAL_FLITS_REQ`, 0xA5C0.01, R314. -/
  | galFlitsReq
  /-- `GAL_FLITS_RSP`, 0xA5C0.02, R314. -/
  | galFlitsRsp
  /-- `GAL_FLITS_EVT`, 0xA5C0.03, R314. -/
  | galFlitsEvt
  /-- `GAL_FLITS_MNT`, 0xA5C0.04, R314. -/
  | galFlitsMnt
  /-- `GAL_CORRECTED`, 0xA5C0.05, R314. -/
  | galCorrected
  /-- `GAL_POISONED`, 0xA5C0.06, R314. -/
  | galPoisoned
  /-- `GAL_HOLDS`, 0xA5C0.07, R314. -/
  | galHolds
  /-- `GAL_BAD_PACKETS`, 0xA5C0.08, R314. -/
  | galBadPackets
  /-- `ECC_HOT_COUNT`, 0x4000.01, R340. -/
  | eccHotCount
  /-- `ECC_HOT_WINDOW`, 0x4000.02, R340. -/
  | eccHotWindow
  /-- `SCRUB_EN`, 0x4000.03, R340. -/
  | scrubEn
  /-- `SCRUB_RATE`, 0x4000.04, R340. -/
  | scrubRate
  /-- `SCRUB_LAP_LIMIT`, 0x4000.05, R340. -/
  | scrubLapLimit
  /-- `SCRUB_LAP_TIME`, 0x4000.06, R340. -/
  | scrubLapTime
  /-- `SCRUB_LAP_AGE`, 0x4000.07, R340. -/
  | scrubLapAge
  /-- `SCRUB_POS`, 0x4000.08, R340. -/
  | scrubPos
  /-- `ECC_LOG_USED`, 0x4000.09, R340. -/
  | eccLogUsed
  /-- `ECC_LOG_CLEAR`, 0x4000.0A, R340. -/
  | eccLogClear
  /-- `ECC_SPARES_LEFT`, 0x4000.0B, R340. -/
  | eccSparesLeft
  /-- `ECC_LOG`, 0x4000.10, R340. -/
  | eccLog
  /-- `DDR_STATE`, 0x4100.01, R341. -/
  | ddrState
  /-- `DDR_DIMMS`, 0x4100.02, R341. -/
  | ddrDimms
  /-- `DDR_CAPACITY`, 0x4100.03, R341. -/
  | ddrCapacity
  /-- `DDR_SPEED`, 0x4100.04, R341. -/
  | ddrSpeed
  /-- `DDR_SWEEP_FRONT`, 0x4100.05, R341. -/
  | ddrSweepFront
  /-- `DDR_PPR_MODE`, 0x4100.06, R341. -/
  | ddrPprMode
  /-- `DDR_HPPR_EN`, 0x4100.07, R341. -/
  | ddrHpprEn
  /-- `MEM_DDR_BASE`, 0x4200.01, R342. -/
  | memDdrBase
  /-- `MEM_DDR_SIZE`, 0x4200.02, R342. -/
  | memDdrSize
  /-- `MEM_TRAIN_STATUS`, 0x4200.03, R342. -/
  | memTrainStatus
  /-- `MEM_REPAIR_LIST_USED`, 0x4200.04, R342. -/
  | memRepairListUsed
  /-- `ECC_CORRECTED`, 0xA600.01, R343. -/
  | eccCorrected
  /-- `ECC_SCRUB_CORRECTED`, 0xA600.02, R343. -/
  | eccScrubCorrected
  /-- `ECC_UNCORR`, 0xA600.03, R343. -/
  | eccUncorr
  /-- `ECC_HOT`, 0xA600.04, R343. -/
  | eccHot
  /-- `ECC_LASTING`, 0xA600.05, R343. -/
  | eccLasting
  /-- `ECC_REPAIRS`, 0xA600.06, R343. -/
  | eccRepairs
  /-- `ECC_UNREPAIRED`, 0xA600.07, R343. -/
  | eccUnrepaired
  /-- `ECC_LOG_EVICTIONS`, 0xA600.08, R343. -/
  | eccLogEvictions
  /-- `ECC_LOG_FULL`, 0xA600.09, R343. -/
  | eccLogFull
  /-- `SCRUB_LAPS`, 0xA600.0A, R343. -/
  | scrubLaps
  /-- `SCRUB_LATE`, 0xA600.0B, R343. -/
  | scrubLate
  /-- `DDR_UNWRITTEN_READS`, 0xA600.0C, R343. -/
  | ddrUnwrittenReads
  /-- `DDR_FILL_BLOCKS`, 0xA600.0D, R343. -/
  | ddrFillBlocks
  /-- `LANE_TX_FFE`, 0x5700.01, R366. -/
  | laneTxFfe
  /-- `LANE_TX_INVERT`, 0x5700.02, R366. -/
  | laneTxInvert
  /-- `LANE_RX_INVERT`, 0x5700.03, R366. -/
  | laneRxInvert
  /-- `LANE_CTLE_FIXED`, 0x5700.04, R366. -/
  | laneCtleFixed
  /-- `LANE_ADAPT_EN`, 0x5700.05, R366. -/
  | laneAdaptEn
  /-- `LANE_ADAPT_PERIOD`, 0x5700.06, R366. -/
  | laneAdaptPeriod
  /-- `LANE_DRIFT_LIMIT`, 0x5700.07, R366. -/
  | laneDriftLimit
  /-- `LANE_ADAPT_HOLD`, 0x5700.08, R366. -/
  | laneAdaptHold
  /-- `LANE_SNAP_AGE`, 0x5700.09, R366. -/
  | laneSnapAge
  /-- `LANE_TDENS_MIN`, 0x5700.0A, R366. -/
  | laneTdensMin
  /-- `LANE_CONF_MIN`, 0x5700.0B, R366. -/
  | laneConfMin
  /-- `LANE_FOM_MIN`, 0x5700.0C, R366. -/
  | laneFomMin
  /-- `LANE_LOOPBACK`, 0x5700.0D, R366. -/
  | laneLoopback
  /-- `LANE_PRBS_TX`, 0x5700.0E, R366. -/
  | lanePrbsTx
  /-- `LANE_PRBS_CHK`, 0x5700.0F, R366. -/
  | lanePrbsChk
  /-- `LANE_PRBS_USER`, 0x5700.10, R366. -/
  | lanePrbsUser
  /-- `LANE_PRBS_CLEAR`, 0x5700.11, R366. -/
  | lanePrbsClear
  /-- `LANE_STATE`, 0x5740.01, R367. -/
  | laneState
  /-- `LANE_FOM`, 0x5740.02, R367. -/
  | laneFom
  /-- `LANE_TDENS`, 0x5740.03, R367. -/
  | laneTdens
  /-- `LANE_CONF_OK`, 0x5740.04, R367. -/
  | laneConfOk
  /-- `LANE_TX_FFE_NOW`, 0x5740.05, R367. -/
  | laneTxFfeNow
  /-- `LANE_CTLE_NOW`, 0x5740.06, R367. -/
  | laneCtleNow
  /-- `LANE_SNAP_FOM`, 0x5740.07, R367. -/
  | laneSnapFom
  /-- `LANE_SNAP_CTLE`, 0x5740.08, R367. -/
  | laneSnapCtle
  /-- `LANE_SNAP_AGE_NOW`, 0x5740.09, R367. -/
  | laneSnapAgeNow
  /-- `LANE_FAR_FOM`, 0x5740.0A, R367. -/
  | laneFarFom
  /-- `LANE_SKEW`, 0x5740.0B, R367. -/
  | laneSkew
  /-- `LANE_PRBS_LOCK`, 0x5740.0C, R367. -/
  | lanePrbsLock
  /-- `LANE_PRBS_BITS`, 0x5740.0D, R367. -/
  | lanePrbsBits
  /-- `LANE_PRBS_ERRORS`, 0x5740.0E, R367. -/
  | lanePrbsErrors
  /-- `LANE_QUAD_MODE`, 0x5780.01, R368. -/
  | laneQuadMode
  /-- `LANE_QUAD_FEC`, 0x5780.02, R368. -/
  | laneQuadFec
  /-- `LANE_QUAD_AN_EN`, 0x5780.03, R368. -/
  | laneQuadAnEn
  /-- `LANE_QUAD_STATUS`, 0x5780.04, R368. -/
  | laneQuadStatus
  /-- `LANE_CDR_LOSSES`, 0xA700.01, R369. -/
  | laneCdrLosses
  /-- `LANE_BLOCK_LOCK_LOSSES`, 0xA700.02, R369. -/
  | laneBlockLockLosses
  /-- `LANE_TRAIN_FAILS`, 0xA700.03, R369. -/
  | laneTrainFails
  /-- `LANE_ADAPT_STEPS`, 0xA700.04, R369. -/
  | laneAdaptSteps
  /-- `LANE_DRIFT_REVERTS`, 0xA700.05, R369. -/
  | laneDriftReverts
  /-- `LANE_SNAP_RESETS`, 0xA700.06, R369. -/
  | laneSnapResets
  /-- `LANE_MARK_ERRORS`, 0xA700.07, R369. -/
  | laneMarkErrors
  /-- `LANE_BIP_ERRORS`, 0xA700.08, R369. -/
  | laneBipErrors
  /-- `LANE_FEC_SYMBOLS`, 0xA700.09, R369. -/
  | laneFecSymbols
  /-- `LANE_FEC_CW_CORR`, 0xA700.0A, R369. -/
  | laneFecCwCorr
  /-- `LANE_FEC_CW_UNCORR`, 0xA700.0B, R369. -/
  | laneFecCwUncorr
  /-- `LANE_LOW_FOM`, 0xA700.0C, R369. -/
  | laneLowFom
  /-- `ETH_MAX_FRAME`, 0x5000.01, R402. -/
  | ethMaxFrame
  /-- `ETH_DELIVER_BAD`, 0x5000.02, R402. -/
  | ethDeliverBad
  /-- `ETH_MAC_ADDR`, 0x5000.03, R402. -/
  | ethMacAddr
  /-- `ETH_FC_MODE`, 0x5000.04, R402. -/
  | ethFcMode
  /-- `ETH_PFC_MASK`, 0x5000.05, R402. -/
  | ethPfcMask
  /-- `ETH_RX_ALLOC`, 0x5000.06, R402. -/
  | ethRxAlloc
  /-- `ETH_XOFF_WM`, 0x5000.07, R402. -/
  | ethXoffWm
  /-- `ETH_XON_WM`, 0x5000.08, R402. -/
  | ethXonWm
  /-- `ETH_FC_QUANTA`, 0x5000.09, R402. -/
  | ethFcQuanta
  /-- `ETH_FC_HONOR`, 0x5000.0A, R402. -/
  | ethFcHonor
  /-- `ETH_PCP_QUEUE`, 0x5000.0B, R402. -/
  | ethPcpQueue
  /-- `ETH_QUEUE_PCP`, 0x5000.0C, R402. -/
  | ethQueuePcp
  /-- `ETH_LATE_POLICY`, 0x5000.0D, R402. -/
  | ethLatePolicy
  /-- `ETH_GUARD_EN`, 0x5000.0E, R402. -/
  | ethGuardEn
  /-- `ETH_DEF_RING`, 0x5000.0F, R402. -/
  | ethDefRing
  /-- `ETH_NAP_EN`, 0x5000.10, R402. -/
  | ethNapEn
  /-- `ETH_EEE_EN`, 0x5000.11, R402. -/
  | ethEeeEn
  /-- `ETH_PORT_STATE`, 0x5001.01, R402. -/
  | ethPortState
  /-- `ETH_PORT_RATE`, 0x5001.02, R402. -/
  | ethPortRate
  /-- `ETH_RX_OCC`, 0x5001.03, R402. -/
  | ethRxOcc
  /-- `ETH_TX_ENTRIES`, 0x5001.04, R402. -/
  | ethTxEntries
  /-- `ETH_CHARGE_DL`, 0x5001.05, R402. -/
  | ethChargeDl
  /-- `ETH_CHARGE_UL`, 0x5001.06, R402. -/
  | ethChargeUl
  /-- `ETH_XOFF_STATE`, 0x5001.07, R402. -/
  | ethXoffState
  /-- `SW_ENDPOINT_TABLE`, 0x5630.01, R403. -/
  | swEndpointTable
  /-- `SW_FWD_TABLE`, 0x5630.02, R403. -/
  | swFwdTable
  /-- `SW_FILTER_TABLE`, 0x5630.03, R403. -/
  | swFilterTable
  /-- `SW_TABLE_ERROR`, 0x5630.04, R403. -/
  | swTableError
  /-- `ETH_TX_FETCH_LEAD`, 0x5630.05, R403. -/
  | ethTxFetchLead
  /-- `ERX_BASE`, 0x5640.01, R403. -/
  | erxBase
  /-- `ERX_COUNT`, 0x5640.02, R403. -/
  | erxCount
  /-- `ERX_BUF_SIZE`, 0x5640.03, R403. -/
  | erxBufSize
  /-- `ERX_OWNER`, 0x5640.04, R403. -/
  | erxOwner
  /-- `ERX_XOFF`, 0x5640.05, R403. -/
  | erxXoff
  /-- `ERX_XON`, 0x5640.06, R403. -/
  | erxXon
  /-- `ERX_PORTS`, 0x5640.07, R403. -/
  | erxPorts
  /-- `ERX_PRIO`, 0x5640.08, R403. -/
  | erxPrio
  /-- `ERX_ENABLE`, 0x5640.09, R403. -/
  | erxEnable
  /-- `ETX_BASE`, 0x5680.01, R403. -/
  | etxBase
  /-- `ETX_COUNT`, 0x5680.02, R403. -/
  | etxCount
  /-- `ETX_OWNER`, 0x5680.03, R403. -/
  | etxOwner
  /-- `ETX_ENABLE`, 0x5680.04, R403. -/
  | etxEnable
  /-- `MGMT_MODE`, 0x56C0.01, R403. -/
  | mgmtMode
  /-- `MGMT_MAC_ADDR`, 0x56C0.02, R403. -/
  | mgmtMacAddr
  /-- `MGMT_IP`, 0x56C0.03, R403. -/
  | mgmtIp
  /-- `MGMT_MAX_FRAME`, 0x56C0.04, R403. -/
  | mgmtMaxFrame
  /-- `MGMT_STATE`, 0x56C0.05, R403. -/
  | mgmtState
  /-- `ETH_FS_BASE`, 0x3000.20, R404. -/
  | ethFsBase
  /-- `ETH_FS_SIZE`, 0x3000.21, R404. -/
  | ethFsSize
  /-- `ETH_RX_FRAMES`, 0xA800.01, R405. -/
  | ethRxFrames
  /-- `ETH_RX_RUNTS`, 0xA800.02, R405. -/
  | ethRxRunts
  /-- `ETH_RX_OVERSIZE`, 0xA800.03, R405. -/
  | ethRxOversize
  /-- `ETH_RX_FCS_ERR`, 0xA800.04, R405. -/
  | ethRxFcsErr
  /-- `ETH_RX_CODE_ERR`, 0xA800.05, R405. -/
  | ethRxCodeErr
  /-- `ETH_RX_NO_SPACE`, 0xA800.06, R405. -/
  | ethRxNoSpace
  /-- `ETH_RX_UNCLAIMED`, 0xA800.07, R405. -/
  | ethRxUnclaimed
  /-- `ETH_TX_FRAMES`, 0xA800.08, R405. -/
  | ethTxFrames
  /-- `ETH_TX_LATE_SENT`, 0xA800.09, R405. -/
  | ethTxLateSent
  /-- `ETH_TX_LATE_DROPPED`, 0xA800.0A, R405. -/
  | ethTxLateDropped
  /-- `ETH_TX_EXPIRED`, 0xA800.0B, R405. -/
  | ethTxExpired
  /-- `ETH_TX_GUARD_HOLDS`, 0xA800.0C, R405. -/
  | ethTxGuardHolds
  /-- `ETH_TX_STAGE_LATE`, 0xA800.0D, R405. -/
  | ethTxStageLate
  /-- `ETH_TX_REFUSED`, 0xA800.0E, R405. -/
  | ethTxRefused
  /-- `ETH_TX_STOMPED`, 0xA800.0F, R405. -/
  | ethTxStomped
  /-- `ETH_TX_PORT_DOWN`, 0xA800.10, R405. -/
  | ethTxPortDown
  /-- `ETH_FC_XOFF_SENT`, 0xA800.11, R405. -/
  | ethFcXoffSent
  /-- `ETH_FC_RX_PAUSES`, 0xA800.12, R405. -/
  | ethFcRxPauses
  /-- `ETH_SW_NO_ROUTE`, 0xA840.01, R405. -/
  | ethSwNoRoute
  /-- `ETH_SW_NO_ENDPOINT`, 0xA840.02, R405. -/
  | ethSwNoEndpoint
  /-- `ETH_SW_CUT_THROUGH`, 0xA840.03, R405. -/
  | ethSwCutThrough
  /-- `ETH_SW_STORE_FORWARD`, 0xA840.04, R405. -/
  | ethSwStoreForward
  /-- `MGMT_UNCLAIMED`, 0xA840.05, R405. -/
  | mgmtUnclaimed
  /-- `ERX_FRAMES`, 0xA880.01, R405. -/
  | erxFrames
  /-- `ERX_NO_BUF`, 0xA880.02, R405. -/
  | erxNoBuf
  /-- `ERX_XOFF_EVENTS`, 0xA880.03, R405. -/
  | erxXoffEvents
  /-- `TIME_SFN_OFFSET`, 0x3000.30, R419. -/
  | timeSfnOffset
  /-- `TIME_SOURCE`, 0x5800.01, R424. -/
  | timeSource
  /-- `TIME_SET`, 0x5800.02, R424. -/
  | timeSet
  /-- `TIME_RATE_SET`, 0x5800.03, R424. -/
  | timeRateSet
  /-- `TIME_STEP_THRESH`, 0x5800.04, R424. -/
  | timeStepThresh
  /-- `TIME_SLEW_MAX`, 0x5800.05, R424. -/
  | timeSlewMax
  /-- `TIME_SERVO_BW`, 0x5800.06, R424. -/
  | timeServoBw
  /-- `TIME_LOCK_THRESH`, 0x5800.07, R424. -/
  | timeLockThresh
  /-- `TIME_LOCK_HOLD`, 0x5800.08, R424. -/
  | timeLockHold
  /-- `TIME_HOLD_AVG`, 0x5800.09, R424. -/
  | timeHoldAvg
  /-- `TIME_HOLDOVER_MAX`, 0x5800.0A, R424. -/
  | timeHoldoverMax
  /-- `PTP_CLOCK_TYPE`, 0x5800.0B, R424. -/
  | ptpClockType
  /-- `PTP_DOMAIN`, 0x5800.0C, R424. -/
  | ptpDomain
  /-- `PTP_TC_EN`, 0x5800.0D, R424. -/
  | ptpTcEn
  /-- `SYNCE_SRC`, 0x5800.0E, R424. -/
  | synceSrc
  /-- `SYNCE_HYBRID`, 0x5800.0F, R424. -/
  | synceHybrid
  /-- `SYNCE_QL`, 0x5800.10, R424. -/
  | synceQl
  /-- `RCLK_OUT_SEL`, 0x5800.11, R424. -/
  | rclkOutSel
  /-- `PPS_OUT_EN`, 0x5800.12, R424. -/
  | ppsOutEn
  /-- `PPS_OUT_WIDTH`, 0x5800.13, R424. -/
  | ppsOutWidth
  /-- `PPS_OUT_ADVANCE`, 0x5800.14, R424. -/
  | ppsOutAdvance
  /-- `PPS_IN_DELAY`, 0x5800.15, R424. -/
  | ppsInDelay
  /-- `TIME_UTC_OFFSET`, 0x5800.16, R424. -/
  | timeUtcOffset
  /-- `TIME_TRIG`, 0x5800.20, R424. -/
  | timeTrig
  /-- `TIME_SEC`, 0x5810.01, R424. -/
  | timeSec
  /-- `TIME_NS`, 0x5810.02, R424. -/
  | timeNs
  /-- `TIME_FRAC`, 0x5810.03, R424. -/
  | timeFrac
  /-- `TIME_STATE`, 0x5810.04, R424. -/
  | timeState
  /-- `TIME_RHO`, 0x5810.05, R424. -/
  | timeRho
  /-- `TIME_OFFSET`, 0x5810.06, R424. -/
  | timeOffset
  /-- `TIME_HOLDOVER_AGE`, 0x5810.07, R424. -/
  | timeHoldoverAge
  /-- `TIME_GM_ID`, 0x5810.08, R424. -/
  | timeGmId
  /-- `TIME_TRIG_STATUS`, 0x5810.09, R424. -/
  | timeTrigStatus
  /-- `PTP_PORT_EN`, 0x5840.01, R425. -/
  | ptpPortEn
  /-- `PTP_PORT_DA`, 0x5840.02, R425. -/
  | ptpPortDa
  /-- `PTP_PORT_LOCAL_PRIO`, 0x5840.03, R425. -/
  | ptpPortLocalPrio
  /-- `PTP_PORT_NOT_SLAVE`, 0x5840.04, R425. -/
  | ptpPortNotSlave
  /-- `PTP_PORT_ASYM`, 0x5840.05, R425. -/
  | ptpPortAsym
  /-- `PTP_PORT_ING_LAT`, 0x5840.06, R425. -/
  | ptpPortIngLat
  /-- `PTP_PORT_EGR_LAT`, 0x5840.07, R425. -/
  | ptpPortEgrLat
  /-- `PTP_PORT_STATE`, 0x5840.08, R425. -/
  | ptpPortState
  /-- `TIME_STEPS`, 0xA900.01, R426. -/
  | timeSteps
  /-- `TIME_HOLDOVERS`, 0xA900.02, R426. -/
  | timeHoldovers
  /-- `PTP_OUTLIERS`, 0xA900.03, R426. -/
  | ptpOutliers
  /-- `PTP_IP_DROPPED`, 0xA900.04, R426. -/
  | ptpIpDropped
  /-- `PTP_TC_UNCORRECTED`, 0xA900.05, R426. -/
  | ptpTcUncorrected
  /-- `SYNCE_LOSSES`, 0xA900.06, R426. -/
  | synceLosses
  /-- `PPS_IN_REJECTS`, 0xA900.07, R426. -/
  | ppsInRejects
  /-- `TIME_TRIG_LATE`, 0xA900.08, R426. -/
  | timeTrigLate
  /-- `PCIE_LINK_SPEED`, 0x1180.01, R452. -/
  | pcieLinkSpeed
  /-- `PCIE_LINK_WIDTH`, 0x1180.02, R452. -/
  | pcieLinkWidth
  /-- `PCIE_NUM_VFS`, 0x1180.03, R452. -/
  | pcieNumVfs
  /-- `AP_MAP`, 0x1180.04, R452. -/
  | apMap
  /-- `PCIE_AP_LAST_REFUSED`, 0x1180.05, R452. -/
  | pcieApLastRefused
  /-- `CARRIER_OWNER`, 0x2C00.04, R453. -/
  | carrierOwner
  /-- `JR_BASE`, 0x1110.00, R454. -/
  | jrBase
  /-- `JR_COUNT`, 0x1111.00, R454. -/
  | jrCount
  /-- `CR_BASE`, 0x1112.00, R454. -/
  | crBase
  /-- `CR_COUNT`, 0x1113.00, R454. -/
  | crCount
  /-- `JR_WB_ADDR`, 0x1114.00, R454. -/
  | jrWbAddr
  /-- `JR_OWNER`, 0x1115.00, R454. -/
  | jrOwner
  /-- `JR_VECTOR`, 0x1116.00, R454. -/
  | jrVector
  /-- `JR_COALESCE`, 0x1117.00, R454. -/
  | jrCoalesce
  /-- `JR_ENABLE`, 0x1118.00, R454. -/
  | jrEnable
  /-- `JR_SEQ_START`, 0x1119.00, R454. -/
  | jrSeqStart
  /-- `JR_EPOCH`, 0x111A.00, R454. -/
  | jrEpoch
  /-- `JR_ACCEPTED`, 0x111B.00, R454. -/
  | jrAccepted
  /-- `CR_WRITTEN`, 0x111C.00, R454. -/
  | crWritten
  /-- `CR_HEAD`, 0x111D.00, R454. -/
  | crHead
  /-- `JR_STATE`, 0x111E.00, R454. -/
  | jrState
  /-- `JR_RESUME`, 0x111F.00, R454. -/
  | jrResume
  /-- `JR_LAST_ERROR`, 0x1120.00, R454. -/
  | jrLastError
  /-- `JR_JOBS_ACCEPTED`, 0xAA00.01, R455. -/
  | jrJobsAccepted
  /-- `JR_DONE_LATE`, 0xAA00.02, R455. -/
  | jrDoneLate
  /-- `JR_EXPIRED`, 0xAA00.03, R455. -/
  | jrExpired
  /-- `JR_REJECTED`, 0xAA00.04, R455. -/
  | jrRejected
  /-- `JR_REDONE`, 0xAA00.05, R455. -/
  | jrRedone
  /-- `JR_BAD_DOORBELLS`, 0xAA00.06, R455. -/
  | jrBadDoorbells
  /-- `JR_FLR_DISCARDS`, 0xAA00.07, R455. -/
  | jrFlrDiscards
  /-- `PCIE_AP_REFUSED`, 0xAB00.01, R455. -/
  | pcieApRefused
  /-- `PCIE_DB_IGNORED`, 0xAB00.02, R455. -/
  | pcieDbIgnored
  /-- `LODGE_CLASS_EN`, 0x1100.01, R481. -/
  | lodgeClassEn
  /-- `NAP_FH_IP`, 0x1100.02, R481. -/
  | napFhIp
  /-- `STAGE_LEAD`, 0x1100.03, R481. -/
  | stageLead
  /-- `DICT_RESERVED_BASE`, 0x1100.04, R481. -/
  | dictReservedBase
  /-- `DICT_LAST_STATUS`, 0x1101.01, R481. -/
  | dictLastStatus
  /-- `DICT_WIN_OBJ`, 0x1101.02, R481. -/
  | dictWinObj
  /-- `DICT_WIN_GO`, 0x1101.03, R481. -/
  | dictWinGo
  /-- `STAGE_STATE`, 0x1130.00, R482. -/
  | stageState
  /-- `STAGE_COMMIT`, 0x1131.00, R482. -/
  | stageCommit
  /-- `STAGE_CANCEL`, 0x1132.00, R482. -/
  | stageCancel
  /-- `STAGE_RESULT`, 0x1133.00, R482. -/
  | stageResult
  /-- `STAGE_TIME`, 0x1134.00, R482. -/
  | stageTime
  /-- `STAGE_USED`, 0x1135.00, R482. -/
  | stageUsed
  /-- `STAGE_LAST_APPLIED`, 0x1136.00, R482. -/
  | stageLastApplied
  /-- `LODGE_ACCESSES`, 0xAC00.01, R483. -/
  | lodgeAccesses
  /-- `LODGE_REFUSED`, 0xAC01.01, R483. -/
  | lodgeRefused
  /-- `LODGE_TIES`, 0xAC02.01, R483. -/
  | lodgeTies
  /-- `NAP_DUPLICATES`, 0xAC02.02, R483. -/
  | napDuplicates
  /-- `NAP_STALE`, 0xAC02.03, R483. -/
  | napStale
  /-- `NAP_SESSION_EVICTIONS`, 0xAC02.04, R483. -/
  | napSessionEvictions
  /-- `NAP_MALFORMED`, 0xAC02.05, R483. -/
  | napMalformed
  /-- `STAGE_COMMITS`, 0xAC02.06, R483. -/
  | stageCommits
  /-- `STAGE_REFUSED`, 0xAC02.07, R483. -/
  | stageRefused
  /-- `PWR_STATE`, 0x1200.01, R505. -/
  | pwrState
  /-- `PWR_STATE_REQ`, 0x1200.02, R505. -/
  | pwrStateReq
  /-- `PWR_GATE_REQ`, 0x1200.03, R505. -/
  | pwrGateReq
  /-- `PWR_GATED`, 0x1200.04, R505. -/
  | pwrGated
  /-- `PWR_DELAY_CAP`, 0x1200.05, R505. -/
  | pwrDelayCap
  /-- `PWR_LAST_RESULT`, 0x1200.06, R505. -/
  | pwrLastResult
  /-- `PWR_WAKE_EN`, 0x1200.07, R505. -/
  | pwrWakeEn
  /-- `PWR_WAKE_AT`, 0x1200.08, R505. -/
  | pwrWakeAt
  /-- `PWR_LAST_WAKE`, 0x1200.09, R505. -/
  | pwrLastWake
  /-- `PWR_VIN`, 0x1200.0A, R505. -/
  | pwrVin
  /-- `PWR_IIN`, 0x1200.0B, R505. -/
  | pwrIin
  /-- `PWR_PIN`, 0x1200.0C, R505. -/
  | pwrPin
  /-- `PWR_VIN_WARN`, 0x1200.0D, R505. -/
  | pwrVinWarn
  /-- `START_SPACING`, 0x1300.01, R506. -/
  | startSpacing
  /-- `START_SLOPE`, 0x1300.02, R506. -/
  | startSlope
  /-- `START_IIN_LIMIT`, 0x1300.03, R506. -/
  | startIinLimit
  /-- `START_HALL_MASK`, 0x1300.04, R506. -/
  | startHallMask
  /-- `START_BLOCK_MASK`, 0x1300.05, R506. -/
  | startBlockMask
  /-- `START_RUNG`, 0x1300.06, R506. -/
  | startRung
  /-- `PWR_ENTRIES`, 0xAD00.01, R507. -/
  | pwrEntries
  /-- `PWR_REFUSALS`, 0xAD00.02, R507. -/
  | pwrRefusals
  /-- `PWR_DELAY_CAP_HITS`, 0xAD00.03, R507. -/
  | pwrDelayCapHits
  /-- `PWR_WAKE_ABORTS`, 0xAD00.04, R507. -/
  | pwrWakeAborts
  /-- `PWR_WAKE_AFTER_COMMIT`, 0xAD00.05, R507. -/
  | pwrWakeAfterCommit
  /-- `PWR_ROLLBACKS`, 0xAD00.06, R507. -/
  | pwrRollbacks
  /-- `PWR_VIN_WARNINGS`, 0xAD00.07, R507. -/
  | pwrVinWarnings
  /-- `SH_WATCH_TABLE`, 0x6000.01, R527. -/
  | shWatchTable
  /-- `SH_WATCH_EN`, 0x6000.02, R527. -/
  | shWatchEn
  /-- `SH_WATCH_ERROR`, 0x6000.03, R527. -/
  | shWatchError
  /-- `SH_WAKE_MAGIC`, 0x6000.04, R527. -/
  | shWakeMagic
  /-- `SH_WAKE_PATTERNS`, 0x6000.05, R527. -/
  | shWakePatterns
  /-- `SH_FLASH_OFFSET`, 0x6000.06, R527. -/
  | shFlashOffset
  /-- `SH_FLASH_WIN`, 0x6000.07, R527. -/
  | shFlashWin
  /-- `SH_FLASH_CMD`, 0x6000.08, R527. -/
  | shFlashCmd
  /-- `SH_OTP_REVOKE`, 0x6000.09, R527. -/
  | shOtpRevoke
  /-- `SH_ROLLBACK_SET`, 0x6000.0A, R527. -/
  | shRollbackSet
  /-- `SH_BOOT_STATUS`, 0x6010.01, R527. -/
  | shBootStatus
  /-- `SH_BOOT_VERSION`, 0x6010.02, R527. -/
  | shBootVersion
  /-- `SH_L1_BASE`, 0x6010.03, R527. -/
  | shL1Base
  /-- `SH_L1_STATE`, 0x6010.04, R527. -/
  | shL1State
  /-- `SH_FLASH_STATUS`, 0x6010.05, R527. -/
  | shFlashStatus
  /-- `SH_WATCH_STATE`, 0x6010.06, R527. -/
  | shWatchState
  /-- `SH_WAKE_CARRIERS`, 0x6010.07, R527. -/
  | shWakeCarriers
  /-- `SH_WATCH_LOAD`, 0x6010.08, R527. -/
  | shWatchLoad
  /-- `SH_WATCH_LOG`, 0x6010.09, R527. -/
  | shWatchLog
  /-- `SH_KEY_REVOKED`, 0x6010.0A, R527. -/
  | shKeyRevoked
  /-- `SH_ROLLBACK_MIN`, 0x6010.0B, R527. -/
  | shRollbackMin
  /-- `SH_WAKES`, 0xAE00.01, R528. -/
  | shWakes
  /-- `SH_WATCH_DETECTIONS`, 0xAE00.02, R528. -/
  | shWatchDetections
  /-- `SH_WATCH_FALSE`, 0xAE00.03, R528. -/
  | shWatchFalse
  /-- `SH_WATCH_OTHER`, 0xAE00.04, R528. -/
  | shWatchOther
  /-- `SH_PATTERN_MATCHES`, 0xAE00.05, R528. -/
  | shPatternMatches
  /-- `SH_RESTARTS`, 0xAE00.06, R528. -/
  | shRestarts
  /-- `REL_UNIT_TABLE`, 0x7000.01, R561. -/
  | relUnitTable
  /-- `REL_FAULT_WINDOW`, 0x7000.02, R561. -/
  | relFaultWindow
  /-- `REL_FAULT_LIMIT`, 0x7000.03, R561. -/
  | relFaultLimit
  /-- `REL_DRAIN_MAX`, 0x7000.04, R561. -/
  | relDrainMax
  /-- `REL_ENGINE_TIMEOUT`, 0x7000.05, R561. -/
  | relEngineTimeout
  /-- `REL_UNRETIRE`, 0x7000.06, R561. -/
  | relUnretire
  /-- `REL_JOURNAL_BASE`, 0x7000.07, R561. -/
  | relJournalBase
  /-- `REL_MARK_QUERY`, 0x7000.08, R561. -/
  | relMarkQuery
  /-- `PAIR_MODE`, 0x7800.01, R562. -/
  | pairMode
  /-- `PAIR_ROLE_REQ`, 0x7800.02, R562. -/
  | pairRoleReq
  /-- `PAIR_ROLE`, 0x7800.03, R562. -/
  | pairRole
  /-- `PAIR_STATE`, 0x7800.04, R562. -/
  | pairState
  /-- `PAIR_EPOCH`, 0x7800.05, R562. -/
  | pairEpoch
  /-- `PAIR_MIRROR`, 0x7800.06, R562. -/
  | pairMirror
  /-- `PAIR_UL_MODE`, 0x7800.07, R562. -/
  | pairUlMode
  /-- `PAIR_HB_PERIOD`, 0x7800.08, R562. -/
  | pairHbPeriod
  /-- `PAIR_HB_MISS`, 0x7800.09, R562. -/
  | pairHbMiss
  /-- `PAIR_LAST_REFUSAL`, 0x7800.0A, R562. -/
  | pairLastRefusal
  /-- `CHAIN_ROLE`, 0x7800.10, R562. -/
  | chainRole
  /-- `CHAIN_ADDR`, 0x7800.11, R562. -/
  | chainAddr
  /-- `STAIR_GROUP_TABLE`, 0x7800.20, R562. -/
  | stairGroupTable
  /-- `STAIR_SNAP_SEL`, 0x7800.21, R562. -/
  | stairSnapSel
  /-- `STAIR_RESET`, 0x7800.22, R562. -/
  | stairReset
  /-- `REL_FAULTS`, 0xAF00.01, R564. -/
  | relFaults
  /-- `REL_RESTARTS`, 0xAF00.02, R564. -/
  | relRestarts
  /-- `REL_RETIRED`, 0xAF00.03, R564. -/
  | relRetired
  /-- `REL_STALE_DISCARDS`, 0xAF00.04, R564. -/
  | relStaleDiscards
  /-- `REL_JOURNAL_FULL`, 0xAF00.05, R564. -/
  | relJournalFull
  /-- `PAIR_LINK_RETRIES`, 0xAF00.06, R564. -/
  | pairLinkRetries
  /-- `PAIR_TAKEOVERS`, 0xAF00.07, R564. -/
  | pairTakeovers
  /-- `STAIR_BAD`, 0xAF00.08, R564. -/
  | stairBad
  /-- `STAIR_WITHDRAWN`, 0xAF00.09, R564. -/
  | stairWithdrawn
  /-- `THERM_TJ_MAX`, 0x1200.0E, R585. -/
  | thermTjMax
  /-- `THERM_WARN`, 0x1200.0F, R585. -/
  | thermWarn
  /-- `THERM_LAST_TRIP`, 0x1200.10, R585. -/
  | thermLastTrip
  /-- `THERM_TRIPS`, 0x1200.11, R585. -/
  | thermTrips
  /-- `THERM_IO_TJ`, 0x1200.12, R585. -/
  | thermIoTj
  /-- `TIME_OSC_FREQ`, 0x1200.13, R585. -/
  | timeOscFreq
  /-- `THERM_WARNINGS`, 0xAD00.08, R586. -/
  | thermWarnings
  deriving DecidableEq, Repr

end Sys2Proof.Machine
end

