-- ==== Sys2Proof/Machine/Catalog.lean ====
section
/-! DEFINITION. The catalogue of the dictionary (R456 to R460): for every object its type, access class, read
and write masks over the port classes, range and default, from the object tables of the spec, and the index
ranges of the families (halls, cores, carriers, lanes, ports, rings, arbiters). -/

namespace Sys2Proof.Machine

/-- The access classes of R457. -/
inductive AccClass where
  | const | ro | rw | wo | rws | cmd
  deriving DecidableEq, Repr

/-- The object types of R456: a width in bytes and a sign, or a block of bytes. -/
inductive ObjType where
  | bool
  | unsigned (bytes : Nat)
  | signed (bytes : Nat)
  | domain (bytes : Nat)
  deriving DecidableEq, Repr

/-- One row of the catalogue. `fam` is the index of instance 0; the object holds the subindices from `sub` on,
`subs` of them; masks have bit 0 for H, 1 V, 2 M, 3 B, 4 P, 5 F. -/
structure ObjRow where
  obj   : Obj
  fam   : Nat
  sub   : Nat
  subs  : Nat
  ty    : ObjType
  acc   : AccClass
  rmask : Nat
  wmask : Nat
  lo    : Int
  hi    : Int
  deriving DecidableEq, Repr

/-- One index range of a family: `count` indices from `base`, `stride` apart, naming the instances
`n0`, `n0 + mult`, … of the family whose instance 0 is at index `fam`. -/
structure FamRow where
  base   : Nat
  stride : Nat
  count  : Nat
  n0     : Nat
  mult   : Nat
  fam    : Nat
  deriving DecidableEq, Repr

/-- The index ranges of R50, R51, R95, R155, R304 and the other object tables. -/
def famRows : List FamRow :=
[⟨0x2000, 32, 16, 0, 1, 0x2000⟩, ⟨0x1220, 1, 2, 16, 1, 0x2000⟩, ⟨0x2001, 32, 16, 0, 1, 0x2001⟩, ⟨0x1222, 1, 2, 16, 1, 0x2001⟩, ⟨0x2002, 32, 16, 0, 12, 0x2002⟩, ⟨0x2003, 32, 16, 1, 12, 0x2002⟩, ⟨0x2004, 32, 16, 2, 12, 0x2002⟩, ⟨0x2005, 32, 16, 3, 12, 0x2002⟩, ⟨0x2006, 32, 16, 4, 12, 0x2002⟩, ⟨0x2007, 32, 16, 5, 12, 0x2002⟩, ⟨0x2008, 32, 16, 6, 12, 0x2002⟩, ⟨0x2009, 32, 16, 7, 12, 0x2002⟩]
  ++ [⟨0x200A, 32, 16, 8, 12, 0x2002⟩, ⟨0x200B, 32, 16, 9, 12, 0x2002⟩, ⟨0x200C, 32, 16, 10, 12, 0x2002⟩, ⟨0x200D, 32, 16, 11, 12, 0x2002⟩, ⟨0x4300, 1, 8, 192, 1, 0x2002⟩, ⟨0x37F0, 1, 4, 200, 1, 0x2002⟩, ⟨0x4420, 1, 1, 204, 1, 0x2002⟩, ⟨0x5600, 1, 48, 205, 1, 0x2002⟩, ⟨0xA500, 1, 192, 0, 1, 0xA500⟩, ⟨0xA5D0, 1, 8, 192, 1, 0xA500⟩, ⟨0xA5D8, 1, 4, 200, 1, 0xA500⟩, ⟨0xA5DC, 1, 1, 204, 1, 0xA500⟩]
  ++ [⟨0xA780, 1, 48, 205, 1, 0xA500⟩, ⟨0x2800, 1, 192, 0, 1, 0x2800⟩, ⟨0xA200, 1, 192, 0, 1, 0xA200⟩, ⟨0x2900, 1, 16, 0, 1, 0x2900⟩, ⟨0x2910, 1, 16, 0, 1, 0x2910⟩, ⟨0x2C00, 1, 768, 0, 1, 0x2C00⟩, ⟨0xA300, 1, 16, 0, 1, 0xA300⟩, ⟨0x3000, 1, 768, 0, 1, 0x3000⟩, ⟨0x3400, 1, 16, 0, 1, 0x3400⟩, ⟨0xA400, 1, 16, 0, 1, 0xA400⟩, ⟨0x3710, 1, 16, 0, 1, 0x3710⟩, ⟨0xA430, 1, 16, 0, 1, 0xA430⟩]
  ++ [⟨0xA441, 1, 2, 0, 1, 0xA441⟩, ⟨0xA450, 1, 16, 0, 1, 0xA450⟩, ⟨0xA5C0, 1, 16, 0, 1, 0xA5C0⟩, ⟨0x4000, 1, 26, 0, 1, 0x4000⟩, ⟨0x4100, 1, 8, 0, 1, 0x4100⟩, ⟨0xA600, 1, 26, 0, 1, 0xA600⟩, ⟨0x5700, 1, 56, 0, 1, 0x5700⟩, ⟨0x5740, 1, 56, 0, 1, 0x5740⟩, ⟨0x5780, 1, 14, 0, 1, 0x5780⟩, ⟨0xA700, 1, 56, 0, 1, 0xA700⟩, ⟨0x5000, 32, 48, 0, 1, 0x5000⟩, ⟨0x5001, 32, 48, 0, 1, 0x5001⟩]
  ++ [⟨0x5640, 1, 64, 0, 1, 0x5640⟩, ⟨0x5680, 1, 64, 0, 1, 0x5680⟩, ⟨0xA800, 1, 48, 0, 1, 0xA800⟩, ⟨0xA880, 1, 64, 0, 1, 0xA880⟩, ⟨0x5840, 1, 48, 0, 1, 0x5840⟩, ⟨0xAA00, 1, 256, 0, 1, 0xAA00⟩, ⟨0xA100, 1, 18, 0, 1, 0xA100⟩, ⟨0x3610, 1, 4, 0, 1, 0x3610⟩, ⟨0xA420, 1, 4, 0, 1, 0xA420⟩, ⟨0x1000, 1, 1, 0, 1, 0x1000⟩, ⟨0x1240, 1, 1, 0, 1, 0x1240⟩, ⟨0x3500, 1, 1, 0, 1, 0x3500⟩]
  ++ [⟨0xA410, 1, 1, 0, 1, 0xA410⟩, ⟨0x3600, 1, 1, 0, 1, 0x3600⟩, ⟨0x3700, 1, 1, 0, 1, 0x3700⟩, ⟨0x3300, 1, 1, 0, 1, 0x3300⟩, ⟨0x4400, 1, 1, 0, 1, 0x4400⟩, ⟨0x4410, 1, 1, 0, 1, 0x4410⟩, ⟨0xA460, 1, 1, 0, 1, 0xA460⟩, ⟨0x4200, 1, 1, 0, 1, 0x4200⟩, ⟨0x5630, 1, 1, 0, 1, 0x5630⟩, ⟨0x56C0, 1, 1, 0, 1, 0x56C0⟩, ⟨0xA840, 1, 1, 0, 1, 0xA840⟩, ⟨0x5800, 1, 1, 0, 1, 0x5800⟩]
  ++ [⟨0x5810, 1, 1, 0, 1, 0x5810⟩, ⟨0xA900, 1, 1, 0, 1, 0xA900⟩, ⟨0x1180, 1, 1, 0, 1, 0x1180⟩, ⟨0x1110, 1, 1, 0, 1, 0x1110⟩, ⟨0x1111, 1, 1, 0, 1, 0x1111⟩, ⟨0x1112, 1, 1, 0, 1, 0x1112⟩, ⟨0x1113, 1, 1, 0, 1, 0x1113⟩, ⟨0x1114, 1, 1, 0, 1, 0x1114⟩, ⟨0x1115, 1, 1, 0, 1, 0x1115⟩, ⟨0x1116, 1, 1, 0, 1, 0x1116⟩, ⟨0x1117, 1, 1, 0, 1, 0x1117⟩, ⟨0x1118, 1, 1, 0, 1, 0x1118⟩]
  ++ [⟨0x1119, 1, 1, 0, 1, 0x1119⟩, ⟨0x111A, 1, 1, 0, 1, 0x111A⟩, ⟨0x111B, 1, 1, 0, 1, 0x111B⟩, ⟨0x111C, 1, 1, 0, 1, 0x111C⟩, ⟨0x111D, 1, 1, 0, 1, 0x111D⟩, ⟨0x111E, 1, 1, 0, 1, 0x111E⟩, ⟨0x111F, 1, 1, 0, 1, 0x111F⟩, ⟨0x1120, 1, 1, 0, 1, 0x1120⟩, ⟨0xAB00, 1, 1, 0, 1, 0xAB00⟩, ⟨0x1100, 1, 1, 0, 1, 0x1100⟩, ⟨0x1101, 1, 1, 0, 1, 0x1101⟩, ⟨0x1130, 1, 1, 0, 1, 0x1130⟩]
  ++ [⟨0x1131, 1, 1, 0, 1, 0x1131⟩, ⟨0x1132, 1, 1, 0, 1, 0x1132⟩, ⟨0x1133, 1, 1, 0, 1, 0x1133⟩, ⟨0x1134, 1, 1, 0, 1, 0x1134⟩, ⟨0x1135, 1, 1, 0, 1, 0x1135⟩, ⟨0x1136, 1, 1, 0, 1, 0x1136⟩, ⟨0xAC00, 1, 1, 0, 1, 0xAC00⟩, ⟨0xAC01, 1, 1, 0, 1, 0xAC01⟩, ⟨0xAC02, 1, 1, 0, 1, 0xAC02⟩, ⟨0x1200, 1, 1, 0, 1, 0x1200⟩, ⟨0x1300, 1, 1, 0, 1, 0x1300⟩, ⟨0xAD00, 1, 1, 0, 1, 0xAD00⟩]
  ++ [⟨0x6000, 1, 1, 0, 1, 0x6000⟩, ⟨0x6010, 1, 1, 0, 1, 0x6010⟩, ⟨0xAE00, 1, 1, 0, 1, 0xAE00⟩, ⟨0x7000, 1, 1, 0, 1, 0x7000⟩, ⟨0x7800, 1, 1, 0, 1, 0x7800⟩, ⟨0xAF00, 1, 1, 0, 1, 0xAF00⟩]

/-- Default base priorities of R304; arbiters 0 to 191 are the Terrace banks (12 a hall), 192 to 199 the DDR
ports, 200 to 203 the shared-block inputs, 204 the context-store input, 205 to 252 the Ethernet insertion
arbiters. Instance `n` of `ARB_BASE` is input `n % 32` of arbiter `n / 32`. -/
def arbBaseDefault (n : Nat) : Int :=
  let a := n / 32
  let i := n % 32
  if a < 192 then
    if i < 12 then 2 else if i = 12 then 6 else if i = 13 then 4 else if i = 14 then 4
    else if i = 15 then 5 else if i = 16 then 3 else if i = 17 then 7 else 0
  else if a < 200 then
    if i < 4 then 4 else if i = 4 then 2 else if i = 5 then 5 else if i = 6 then 6 else if i = 7 then 6 else 0
  else if a < 204 then (if i < 8 then 4 else 0)
  else if a = 204 then (if i < 16 then 4 else 0)
  else
    if i < 16 then 5 else if i = 16 then 3 else if i = 17 then 6 else if i = 18 then 7 else if i = 19 then 2 else 0

/-- `ARB_INPUTS` of each arbiter (R304). -/
def arbInputCount (a : Nat) : Nat :=
  if a < 192 then 18 else if a < 204 then 8 else if a = 204 then 16 else 20

/-- Default `SCRUB_RATE` of controller m (R329). -/
def scrubRateDefault (m : Nat) : Int :=
  if m < 16 then 1000000 else if m < 24 then 16000000 else if m = 24 then 1000000 else 10000

/-- The Default column of the object tables: the value after device reset. -/
def Obj.default (o : Obj) (n : Nat) : Int :=
  match o with
  | .idPart => 38496
  | .idVendor => 8093
  | .idStepping => 176
  | .idOrderCode => Config.orderCode
  | .capCuLimit => 768
  | .capHallCuLimit => 48
  | .hallLevel => 4
  | .hallPaceEn => 1
  | .hallPaceMargin => 20000
  | .hallPaceHyst => 10000
  | .hallPaceLowerInt => 10
  | .hallPaceHold => 50
  | .hallPaceStartHold => 100
  | .hallPaceMinSamples => 131072
  | .hallPaceRateGuard => 3
  | .hallPaceTrimMax => 7
  | .hallHotHold => 800
  | .hallPaceState => 1
  | .hallVoltage => 750000
  | .schTickNs => 1000
  | .schWdLimit => 500000
  | .schWdEn => 1
  | .schTraceMask => 4294967294
  | .schFreeThreads => 4096
  | .carrierHall => 255
  | .carrierBuildOffset => 700000
  | .ulWinClose => 180000
  | .ulGainTarget => -240
  | .ulGainFixed => 128
  | .ulOuterMax => 2
  | .ulOuterDamp => 24576
  | .ulAbandonGuard => 5000
  | .praGainTarget => -288
  | .threshold => 192
  | .validThr => 144
  | .captureMargin => 96
  | .detWin => 4
  | .validMin => 2
  | .timingTol => 2
  | .tdMaskMinRef => -960
  | .dlUpAdvance => 285000
  | .dlCpLead => 125000
  | .dlUpWinClose => 160000
  | .dlHandoverGuard => 15000
  | .tdAdvance => 50000
  | .tdWinClose => 20000
  | .tdFrameSamples => 1920
  | .tdMaskTrip => 3
  | .tdMaskClear => 16
  | .tdMaskEvery => 14
  | .ctxEntries => 33554432
  | .ctxSeed => 10835660703453458608
  | .ctxKickMax => 32
  | .ctxSweepRate => 100000
  | .ctxSeqNext => 1
  | .arbInputs => arbInputCount n
  | .arbHolder => 255
  | .arbBase => arbBaseDefault n
  | .eccHotCount => 3
  | .eccHotWindow => 60000
  | .scrubEn => 1
  | .scrubRate => scrubRateDefault n
  | .scrubLapLimit => 86400
  | .ddrHpprEn => 1
  | .memDdrBase => 17592186044416
  | .laneTxFfe => 1124868
  | .laneCtleFixed => 255
  | .laneAdaptEn => 1
  | .laneAdaptPeriod => 100
  | .laneDriftLimit => 16
  | .laneAdaptHold => 10000
  | .laneSnapAge => 10000
  | .laneTdensMin => 64
  | .laneConfMin => 4096
  | .laneFomMin => 40
  | .laneTxFfeNow => 1124868
  | .laneQuadAnEn => 1
  | .ethMaxFrame => 9216
  | .ethMacAddr => Config.macBase + n
  | .ethPfcMask => 255
  | .ethRxAlloc => 98304
  | .ethXoffWm => 49152
  | .ethXonWm => 24576
  | .ethFcQuanta => 65535
  | .ethFcHonor => 63
  | .ethPcpQueue => 16434824
  | .ethQueuePcp => 16434824
  | .ethGuardEn => 1
  | .ethDefRing => 255
  | .ethTxFetchLead => 10000
  | .erxCount => 1024
  | .erxBufSize => 2048
  | .erxXoff => 32
  | .erxXon => 64
  | .etxCount => 1024
  | .mgmtMacAddr => Config.macBase + 48
  | .mgmtMaxFrame => 1518
  | .ethFsSize => 1048576
  | .timeStepThresh => 1000
  | .timeSlewMax => 1000
  | .timeServoBw => 100
  | .timeLockThresh => 100
  | .timeLockHold => 10
  | .timeHoldAvg => 16
  | .timeHoldoverMax => 14400
  | .ptpDomain => 24
  | .ptpTcEn => 1
  | .synceSrc => 255
  | .rclkOutSel => 65535
  | .ppsOutWidth => 100000000
  | .timeUtcOffset => 37
  | .ptpPortLocalPrio => 128
  | .jrCount => 1024
  | .crCount => 1024
  | .jrVector => 2
  | .lodgeClassEn => 63
  | .stageLead => 4000
  | .pwrDelayCap => 2000
  | .pwrWakeEn => 15
  | .pwrLastWake => 255
  | .pwrVinWarn => 6000
  | .startSpacing => 20
  | .startSlope => 10
  | .startIinLimit => 38000
  | .relFaultWindow => 10000
  | .relFaultLimit => 3
  | .relDrainMax => 50
  | .relEngineTimeout => 5000
  | .pairMirror => 1
  | .pairHbPeriod => 10
  | .pairHbMiss => 3
  | .chainAddr => 255
  | .thermWarn => 840
  | _ => 0

/-- Objects ID_PART to HALL_SLACK_MIN. -/
def objRows0 : List ObjRow := [
  ⟨.idPart, 0x1000, 0x01, 1, .unsigned 2, .const, 0x3F, 0x00, 0, 65535⟩,
  ⟨.idVendor, 0x1000, 0x02, 1, .unsigned 2, .const, 0x3F, 0x00, 0, 65535⟩,
  ⟨.idStepping, 0x1000, 0x04, 1, .unsigned 1, .const, 0x3F, 0x00, 0, 255⟩,
  ⟨.idOrderCode, 0x1000, 0x05, 1, .unsigned 1, .const, 0x3F, 0x00, 0, 255⟩,
  ⟨.capCuLimit, 0x1240, 0x01, 1, .unsigned 2, .const, 0x3F, 0x00, 0, 65535⟩,
  ⟨.capCuUsed, 0x1240, 0x02, 1, .unsigned 2, .ro, 0x3F, 0x00, 0, 65535⟩,
  ⟨.capHallCuLimit, 0x1240, 0x03, 1, .unsigned 1, .const, 0x3F, 0x00, 0, 255⟩,
  ⟨.capFhLoadDl, 0x1240, 0x04, 1, .unsigned 4, .ro, 0x1F, 0x00, 0, 4294967295⟩,
  ⟨.capFhLoadUl, 0x1240, 0x05, 1, .unsigned 4, .ro, 0x1F, 0x00, 0, 4294967295⟩,
  ⟨.capRuEndpoints, 0x1240, 0x06, 1, .unsigned 1, .ro, 0x1F, 0x00, 0, 255⟩,
  ⟨.capLastRefusal, 0x1240, 0x07, 1, .unsigned 2, .ro, 0x1F, 0x00, 0, 65535⟩,
  ⟨.hallLevel, 0x2000, 0x01, 1, .unsigned 1, .rw, 0x3F, 0x1D, 0, 7⟩,
  ⟨.hallPaceEn, 0x2000, 0x02, 1, .bool, .rw, 0x3F, 0x1D, 0, 1⟩,
  ⟨.hallPaceMargin, 0x2000, 0x03, 1, .unsigned 4, .rw, 0x3F, 0x1D, 5000, 200000⟩,
  ⟨.hallPaceHyst, 0x2000, 0x04, 1, .unsigned 4, .rw, 0x3F, 0x1D, 5000, 100000⟩,
  ⟨.hallPaceLowerInt, 0x2000, 0x05, 1, .unsigned 2, .rw, 0x3F, 0x1D, 2, 100⟩,
  ⟨.hallPaceHold, 0x2000, 0x06, 1, .unsigned 2, .rw, 0x3F, 0x1D, 10, 1000⟩,
  ⟨.hallPaceStartHold, 0x2000, 0x07, 1, .unsigned 2, .rw, 0x3F, 0x1D, 10, 1000⟩,
  ⟨.hallPaceMinSamples, 0x2000, 0x08, 1, .unsigned 4, .rw, 0x3F, 0x1D, 16384, 1048576⟩,
  ⟨.hallPaceRateGuard, 0x2000, 0x09, 1, .unsigned 1, .rw, 0x3F, 0x1D, 1, 10⟩,
  ⟨.hallPaceTrimMax, 0x2000, 0x0A, 1, .unsigned 1, .rw, 0x3F, 0x1D, 0, 7⟩,
  ⟨.hallHotHold, 0x2000, 0x0B, 1, .signed 2, .rw, 0x3F, 0x1D, 640, 840⟩,
  ⟨.hallPaceSnap, 0x2000, 0x0C, 1, .unsigned 1, .cmd, 0x00, 0x1D, 0, 255⟩,
  ⟨.hallPaceState, 0x2001, 0x01, 1, .unsigned 1, .ro, 0x3F, 0x00, 0, 255⟩,
  ⟨.hallTrim, 0x2001, 0x02, 1, .unsigned 1, .ro, 0x3F, 0x00, 0, 255⟩,
  ⟨.hallVoltage, 0x2001, 0x03, 1, .unsigned 4, .ro, 0x3F, 0x00, 0, 4294967295⟩,
  ⟨.hallRate, 0x2001, 0x04, 1, .unsigned 4, .ro, 0x3F, 0x00, 0, 4294967295⟩,
  ⟨.hallRatePaced, 0x2001, 0x05, 1, .unsigned 4, .ro, 0x3F, 0x00, 0, 4294967295⟩,
  ⟨.hallSlackTail, 0x2001, 0x06, 1, .signed 4, .ro, 0x3F, 0x00, -2147483648, 2147483647⟩,
  ⟨.hallSlackMin, 0x2001, 0x07, 1, .signed 4, .ro, 0x3F, 0x00, -2147483648, 2147483647⟩]

/-- Objects HALL_SLACK_SAMPLES to SCH_TRACE_MASK. -/
def objRows1 : List ObjRow := [
  ⟨.hallSlackSamples, 0x2001, 0x08, 1, .unsigned 4, .ro, 0x3F, 0x00, 0, 4294967295⟩,
  ⟨.hallTj, 0x2001, 0x09, 1, .signed 2, .ro, 0x3F, 0x00, -32768, 32767⟩,
  ⟨.hallLastSnapCause, 0x2001, 0x0A, 1, .unsigned 1, .ro, 0x3F, 0x00, 0, 255⟩,
  ⟨.paceSnaps, 0xA100, 0x01, 1, .unsigned 4, .ro, 0x3F, 0x00, 0, 4294967295⟩,
  ⟨.paceStepsUp, 0xA100, 0x02, 1, .unsigned 4, .ro, 0x3F, 0x00, 0, 4294967295⟩,
  ⟨.paceStepsDown, 0xA100, 0x03, 1, .unsigned 4, .ro, 0x3F, 0x00, 0, 4294967295⟩,
  ⟨.paceRateGuardHits, 0xA100, 0x04, 1, .unsigned 4, .ro, 0x3F, 0x00, 0, 4294967295⟩,
  ⟨.paceFloorFaults, 0xA100, 0x05, 1, .unsigned 4, .ro, 0x3F, 0x00, 0, 4294967295⟩,
  ⟨.paceHotEntries, 0xA100, 0x06, 1, .unsigned 4, .ro, 0x3F, 0x00, 0, 4294967295⟩,
  ⟨.coreState, 0x2800, 0x01, 1, .unsigned 1, .ro, 0x3F, 0x00, 0, 255⟩,
  ⟨.corePc, 0x2800, 0x02, 1, .unsigned 4, .ro, 0x1D, 0x00, 0, 4294967295⟩,
  ⟨.coreLastEcause, 0x2800, 0x03, 1, .unsigned 4, .ro, 0x1D, 0x00, 0, 4294967295⟩,
  ⟨.coreLastEpc, 0x2800, 0x04, 1, .unsigned 4, .ro, 0x1D, 0x00, 0, 4294967295⟩,
  ⟨.coreLastEaddr, 0x2800, 0x05, 1, .unsigned 8, .ro, 0x1D, 0x00, 0, 18446744073709551615⟩,
  ⟨.coreHalt, 0x2800, 0x06, 1, .unsigned 1, .cmd, 0x00, 0x1D, 0, 255⟩,
  ⟨.coreResume, 0x2800, 0x07, 1, .unsigned 1, .cmd, 0x00, 0x1D, 0, 255⟩,
  ⟨.coreBkptHalt, 0x2800, 0x08, 1, .bool, .rw, 0x1D, 0x1D, 0, 1⟩,
  ⟨.coreExceptions, 0xA200, 0x01, 1, .unsigned 4, .ro, 0x3F, 0x00, 0, 4294967295⟩,
  ⟨.coreInterrupts, 0xA200, 0x02, 1, .unsigned 4, .ro, 0x3F, 0x00, 0, 4294967295⟩,
  ⟨.coreDoubleFaults, 0xA200, 0x03, 1, .unsigned 4, .ro, 0x3F, 0x00, 0, 4294967295⟩,
  ⟨.coreEccUncorr, 0xA200, 0x04, 1, .unsigned 4, .ro, 0x3F, 0x00, 0, 4294967295⟩,
  ⟨.coreWindowAsync, 0xA200, 0x05, 1, .unsigned 4, .ro, 0x3F, 0x00, 0, 4294967295⟩,
  ⟨.coreLastVstate, 0x2800, 0x09, 1, .unsigned 4, .ro, 0x1D, 0x00, 0, 4294967295⟩,
  ⟨.coreVectorFaults, 0xA200, 0x06, 1, .unsigned 4, .ro, 0x3F, 0x00, 0, 4294967295⟩,
  ⟨.schTickNs, 0x2900, 0x01, 1, .unsigned 4, .rw, 0x3F, 0x1D, 250, 100000⟩,
  ⟨.schWdLimit, 0x2900, 0x02, 1, .unsigned 4, .rw, 0x3F, 0x1D, 10000, 100000000⟩,
  ⟨.schWdEn, 0x2900, 0x03, 1, .bool, .rw, 0x3F, 0x1D, 0, 1⟩,
  ⟨.schTraceBase, 0x2900, 0x04, 1, .unsigned 8, .rw, 0x1D, 0x1D, 0, 18446744073709551615⟩,
  ⟨.schTraceSize, 0x2900, 0x05, 1, .unsigned 4, .rw, 0x1D, 0x1D, 0, 4294967295⟩,
  ⟨.schTraceMask, 0x2900, 0x06, 1, .unsigned 4, .rw, 0x1D, 0x1D, 0, 4294967295⟩]

/-- Objects SCH_TRACE_MODE to UL_GAIN_TARGET. -/
def objRows2 : List ObjRow := [
  ⟨.schTraceMode, 0x2900, 0x07, 1, .unsigned 1, .rw, 0x1D, 0x1D, 0, 1⟩,
  ⟨.schPmemLoad, 0x2900, 0x08, 1, .unsigned 8, .cmd, 0x00, 0x1D, 0, 18446744073709551615⟩,
  ⟨.schReadyThreads, 0x2910, 0x01, 1, .unsigned 2, .ro, 0x3F, 0x00, 0, 65535⟩,
  ⟨.schWaitingThreads, 0x2910, 0x02, 1, .unsigned 2, .ro, 0x3F, 0x00, 0, 65535⟩,
  ⟨.schFreeThreads, 0x2910, 0x03, 1, .unsigned 2, .ro, 0x3F, 0x00, 0, 65535⟩,
  ⟨.schTraceWptr, 0x2910, 0x04, 1, .unsigned 4, .ro, 0x1D, 0x00, 0, 4294967295⟩,
  ⟨.schPmemState, 0x2910, 0x05, 1, .unsigned 2, .ro, 0x1D, 0x00, 0, 65535⟩,
  ⟨.schWdLastThread, 0x2910, 0x06, 1, .unsigned 2, .ro, 0x3F, 0x00, 0, 65535⟩,
  ⟨.schWdLastKind, 0x2910, 0x07, 1, .unsigned 1, .ro, 0x3F, 0x00, 0, 255⟩,
  ⟨.schWdLastObj, 0x2910, 0x08, 1, .unsigned 2, .ro, 0x3F, 0x00, 0, 65535⟩,
  ⟨.schWdLastChainLen, 0x2910, 0x09, 1, .unsigned 2, .ro, 0x3F, 0x00, 0, 65535⟩,
  ⟨.schWdLastChainEnd, 0x2910, 0x0A, 1, .unsigned 2, .ro, 0x3F, 0x00, 0, 65535⟩,
  ⟨.carrierHall, 0x2C00, 0x01, 1, .unsigned 1, .ro, 0x3F, 0x00, 0, 255⟩,
  ⟨.carrierBuildOffset, 0x2C00, 0x02, 1, .unsigned 4, .rws, 0x3F, 0x1F, 300000, 2000000⟩,
  ⟨.carrierBuildQueue, 0x2C00, 0x03, 1, .unsigned 1, .rws, 0x3F, 0x1F, 0, 255⟩,
  ⟨.schDispatches, 0xA300, 0x01, 1, .unsigned 4, .ro, 0x3F, 0x00, 0, 4294967295⟩,
  ⟨.schPreemptions, 0xA300, 0x02, 1, .unsigned 4, .ro, 0x3F, 0x00, 0, 4294967295⟩,
  ⟨.schPreemptSpurious, 0xA300, 0x03, 1, .unsigned 4, .ro, 0x3F, 0x00, 0, 4294967295⟩,
  ⟨.schOrderErrors, 0xA300, 0x04, 1, .unsigned 4, .ro, 0x3F, 0x00, 0, 4294967295⟩,
  ⟨.schWdReports, 0xA300, 0x05, 1, .unsigned 4, .ro, 0x3F, 0x00, 0, 4294967295⟩,
  ⟨.schSendWaits, 0xA300, 0x06, 1, .unsigned 4, .ro, 0x3F, 0x00, 0, 4294967295⟩,
  ⟨.schQueueDrops, 0xA300, 0x07, 1, .unsigned 4, .ro, 0x3F, 0x00, 0, 4294967295⟩,
  ⟨.schTraceDrops, 0xA300, 0x08, 1, .unsigned 4, .ro, 0x3F, 0x00, 0, 4294967295⟩,
  ⟨.ulSteerTable, 0x3500, 0x01, 1, .domain 131072, .rws, 0x1D, 0x1D, 0, 0⟩,
  ⟨.ulSteerCount, 0x3500, 0x02, 1, .unsigned 2, .ro, 0x3F, 0x00, 0, 65535⟩,
  ⟨.ulSteerError, 0x3500, 0x03, 1, .unsigned 4, .ro, 0x1D, 0x00, 0, 4294967295⟩,
  ⟨.ulDeadlineOffset, 0x3000, 0x01, 1, .unsigned 4, .rws, 0x3F, 0x1F, 0, 4000000⟩,
  ⟨.ulWinClose, 0x3000, 0x02, 1, .unsigned 4, .rws, 0x3F, 0x1F, 20000, 1000000⟩,
  ⟨.ulGainMode, 0x3000, 0x03, 1, .unsigned 1, .rws, 0x3F, 0x1F, 0, 1⟩,
  ⟨.ulGainTarget, 0x3000, 0x04, 1, .signed 2, .rws, 0x3F, 0x1F, -480, -96⟩]

/-- Objects UL_GAIN_FIXED to PRA_GAIN_TARGET. -/
def objRows3 : List ObjRow := [
  ⟨.ulGainFixed, 0x3000, 0x05, 1, .unsigned 1, .rws, 0x3F, 0x1F, 0, 255⟩,
  ⟨.ulOuterMax, 0x3000, 0x06, 1, .unsigned 1, .rws, 0x3F, 0x1F, 0, 3⟩,
  ⟨.ulOuterDamp, 0x3000, 0x07, 1, .signed 2, .rws, 0x3F, 0x1F, -32768, 32767⟩,
  ⟨.ulAbandonGuard, 0x3000, 0x08, 1, .unsigned 4, .rws, 0x3F, 0x1F, 1000, 50000⟩,
  ⟨.ulPredRate, 0x3400, 0x01, 1, .unsigned 4, .ro, 0x3F, 0x00, 0, 4294967295⟩,
  ⟨.ulLastPredSlack, 0x3400, 0x02, 1, .signed 4, .ro, 0x3F, 0x00, -2147483648, 2147483647⟩,
  ⟨.ulDetBacklog, 0x3400, 0x03, 1, .unsigned 4, .ro, 0x3F, 0x00, 0, 4294967295⟩,
  ⟨.ulDescOk, 0xA400, 0x01, 1, .unsigned 4, .ro, 0x3F, 0x00, 0, 4294967295⟩,
  ⟨.ulDescLate, 0xA400, 0x02, 1, .unsigned 4, .ro, 0x3F, 0x00, 0, 4294967295⟩,
  ⟨.ulDescBad, 0xA400, 0x03, 1, .unsigned 4, .ro, 0x3F, 0x00, 0, 4294967295⟩,
  ⟨.ulDescNoSlot, 0xA400, 0x04, 1, .unsigned 4, .ro, 0x3F, 0x00, 0, 4294967295⟩,
  ⟨.ulClipSlots, 0xA400, 0x05, 1, .unsigned 4, .ro, 0x3F, 0x00, 0, 4294967295⟩,
  ⟨.ulGainFallback, 0xA400, 0x06, 1, .unsigned 4, .ro, 0x3F, 0x00, 0, 4294967295⟩,
  ⟨.ulOuterStarted, 0xA400, 0x07, 1, .unsigned 4, .ro, 0x3F, 0x00, 0, 4294967295⟩,
  ⟨.ulOuterSkipped, 0xA400, 0x08, 1, .unsigned 4, .ro, 0x3F, 0x00, 0, 4294967295⟩,
  ⟨.ulOuterAbandoned, 0xA400, 0x09, 1, .unsigned 4, .ro, 0x3F, 0x00, 0, 4294967295⟩,
  ⟨.ulOuterRecovered, 0xA400, 0x0A, 1, .unsigned 4, .ro, 0x3F, 0x00, 0, 4294967295⟩,
  ⟨.ulReleaseAtDeadline, 0xA400, 0x0B, 1, .unsigned 4, .ro, 0x3F, 0x00, 0, 4294967295⟩,
  ⟨.ulFhMissingPrb, 0xA400, 0x0C, 1, .unsigned 4, .ro, 0x3F, 0x00, 0, 4294967295⟩,
  ⟨.ulFhNoEntry, 0xA410, 0x01, 1, .unsigned 4, .ro, 0x3F, 0x00, 0, 4294967295⟩,
  ⟨.ulFhNoJob, 0xA410, 0x02, 1, .unsigned 4, .ro, 0x3F, 0x00, 0, 4294967295⟩,
  ⟨.ulFhLate, 0xA410, 0x03, 1, .unsigned 4, .ro, 0x3F, 0x00, 0, 4294967295⟩,
  ⟨.ulFhBufBusy, 0xA410, 0x04, 1, .unsigned 4, .ro, 0x3F, 0x00, 0, 4294967295⟩,
  ⟨.ulFhBadSection, 0xA410, 0x05, 1, .unsigned 4, .ro, 0x3F, 0x00, 0, 4294967295⟩,
  ⟨.ulFhBadComp, 0xA410, 0x06, 1, .unsigned 4, .ro, 0x3F, 0x00, 0, 4294967295⟩,
  ⟨.ulFhSeqGap, 0xA410, 0x07, 1, .unsigned 4, .ro, 0x3F, 0x00, 0, 4294967295⟩,
  ⟨.ulFhDupPrb, 0xA410, 0x08, 1, .unsigned 4, .ro, 0x3F, 0x00, 0, 4294967295⟩,
  ⟨.praCfgTable, 0x3600, 0x01, 1, .domain 8192, .rws, 0x1D, 0x1D, 0, 0⟩,
  ⟨.praCfgError, 0x3600, 0x02, 1, .unsigned 4, .ro, 0x1D, 0x00, 0, 4294967295⟩,
  ⟨.praGainTarget, 0x3600, 0x03, 1, .signed 2, .rws, 0x3F, 0x1F, -480, -96⟩]

/-- Objects THRESHOLD to DEC_TB_FAILED. -/
def objRows4 : List ObjRow := [
  ⟨.threshold, 0x3600, 0x04, 1, .unsigned 2, .rws, 0x3F, 0x1F, 64, 640⟩,
  ⟨.validThr, 0x3600, 0x05, 1, .unsigned 2, .rws, 0x3F, 0x1F, 32, 640⟩,
  ⟨.captureMargin, 0x3600, 0x06, 1, .unsigned 1, .rws, 0x3F, 0x1F, 16, 255⟩,
  ⟨.detWin, 0x3600, 0x07, 1, .unsigned 1, .rws, 0x3F, 0x1F, 1, 255⟩,
  ⟨.validMin, 0x3600, 0x08, 1, .unsigned 1, .rws, 0x3F, 0x1F, 1, 15⟩,
  ⟨.timingTol, 0x3600, 0x09, 1, .unsigned 1, .rws, 0x3F, 0x1F, 1, 15⟩,
  ⟨.praLoad, 0x3610, 0x01, 1, .unsigned 4, .ro, 0x3F, 0x00, 0, 4294967295⟩,
  ⟨.praOpen, 0x3610, 0x02, 1, .unsigned 2, .ro, 0x3F, 0x00, 0, 65535⟩,
  ⟨.praDetections, 0xA420, 0x01, 1, .unsigned 4, .ro, 0x3F, 0x00, 0, 4294967295⟩,
  ⟨.praCollided, 0xA420, 0x02, 1, .unsigned 4, .ro, 0x3F, 0x00, 0, 4294967295⟩,
  ⟨.praFalseAlarms, 0xA420, 0x03, 1, .unsigned 4, .ro, 0x3F, 0x00, 0, 4294967295⟩,
  ⟨.praInvalid, 0xA420, 0x04, 1, .unsigned 4, .ro, 0x3F, 0x00, 0, 4294967295⟩,
  ⟨.praTruncated, 0xA420, 0x05, 1, .unsigned 4, .ro, 0x3F, 0x00, 0, 4294967295⟩,
  ⟨.praCaptures, 0xA420, 0x06, 1, .unsigned 4, .ro, 0x3F, 0x00, 0, 4294967295⟩,
  ⟨.praLatePeaks, 0xA420, 0x07, 1, .unsigned 4, .ro, 0x3F, 0x00, 0, 4294967295⟩,
  ⟨.praClipReps, 0xA420, 0x08, 1, .unsigned 4, .ro, 0x3F, 0x00, 0, 4294967295⟩,
  ⟨.praOverruns, 0xA420, 0x09, 1, .unsigned 4, .ro, 0x3F, 0x00, 0, 4294967295⟩,
  ⟨.harqPoolBase, 0x3700, 0x01, 1, .unsigned 8, .rw, 0x1D, 0x1D, 0, 18446744073709551615⟩,
  ⟨.harqPoolSlots, 0x3700, 0x02, 1, .unsigned 4, .rw, 0x1D, 0x1D, 0, 16777215⟩,
  ⟨.harqProcBase, 0x3700, 0x03, 1, .unsigned 8, .rw, 0x1D, 0x1D, 0, 18446744073709551615⟩,
  ⟨.harqProcCount, 0x3700, 0x04, 1, .unsigned 4, .rw, 0x1D, 0x1D, 0, 1048576⟩,
  ⟨.harqPoolUsed, 0x3700, 0x05, 1, .unsigned 4, .ro, 0x3F, 0x00, 0, 4294967295⟩,
  ⟨.harqPoolLow, 0x3700, 0x06, 1, .unsigned 4, .ro, 0x3F, 0x00, 0, 4294967295⟩,
  ⟨.harqProcsValid, 0x3700, 0x07, 1, .unsigned 4, .ro, 0x3F, 0x00, 0, 4294967295⟩,
  ⟨.decBacklog, 0x3710, 0x01, 1, .unsigned 4, .ro, 0x3F, 0x00, 0, 4294967295⟩,
  ⟨.encBacklog, 0x3710, 0x02, 1, .unsigned 4, .ro, 0x3F, 0x00, 0, 4294967295⟩,
  ⟨.decAvgIters, 0x3710, 0x03, 1, .unsigned 2, .ro, 0x3F, 0x00, 0, 65535⟩,
  ⟨.decBlocks, 0xA430, 0x01, 1, .unsigned 4, .ro, 0x3F, 0x00, 0, 4294967295⟩,
  ⟨.decBlocksFailed, 0xA430, 0x02, 1, .unsigned 4, .ro, 0x3F, 0x00, 0, 4294967295⟩,
  ⟨.decTbFailed, 0xA430, 0x03, 1, .unsigned 4, .ro, 0x3F, 0x00, 0, 4294967295⟩]

/-- Objects DEC_ITERATIONS to TD_MASK_ACTION. -/
def objRows5 : List ObjRow := [
  ⟨.decIterations, 0xA430, 0x04, 1, .unsigned 4, .ro, 0x3F, 0x00, 0, 4294967295⟩,
  ⟨.decCrcAfterSyndrome, 0xA430, 0x05, 1, .unsigned 4, .ro, 0x3F, 0x00, 0, 4294967295⟩,
  ⟨.decTbCrcOnly, 0xA430, 0x06, 1, .unsigned 4, .ro, 0x3F, 0x00, 0, 4294967295⟩,
  ⟨.encBlocks, 0xA430, 0x07, 1, .unsigned 4, .ro, 0x3F, 0x00, 0, 4294967295⟩,
  ⟨.harqStores, 0xA430, 0x08, 1, .unsigned 4, .ro, 0x3F, 0x00, 0, 4294967295⟩,
  ⟨.harqCombines, 0xA430, 0x09, 1, .unsigned 4, .ro, 0x3F, 0x00, 0, 4294967295⟩,
  ⟨.harqNotStored, 0xA430, 0x0A, 1, .unsigned 4, .ro, 0x3F, 0x00, 0, 4294967295⟩,
  ⟨.harqPriorLost, 0xA430, 0x0B, 1, .unsigned 4, .ro, 0x3F, 0x00, 0, 4294967295⟩,
  ⟨.harqNoPrior, 0xA430, 0x0C, 1, .unsigned 4, .ro, 0x3F, 0x00, 0, 4294967295⟩,
  ⟨.harqMismatch, 0xA430, 0x0D, 1, .unsigned 4, .ro, 0x3F, 0x00, 0, 4294967295⟩,
  ⟨.harqBusy, 0xA430, 0x0E, 1, .unsigned 4, .ro, 0x3F, 0x00, 0, 4294967295⟩,
  ⟨.polarEncoded, 0xA441, 0x0E, 1, .unsigned 4, .ro, 0x3F, 0x00, 0, 4294967295⟩,
  ⟨.polarDecoded, 0xA441, 0x0F, 1, .unsigned 4, .ro, 0x3F, 0x00, 0, 4294967295⟩,
  ⟨.polarCrcFail, 0xA441, 0x10, 1, .unsigned 4, .ro, 0x3F, 0x00, 0, 4294967295⟩,
  ⟨.turboBlocks, 0xA441, 0x11, 1, .unsigned 4, .ro, 0x3F, 0x00, 0, 4294967295⟩,
  ⟨.turboFailed, 0xA441, 0x12, 1, .unsigned 4, .ro, 0x3F, 0x00, 0, 4294967295⟩,
  ⟨.dlTxmapTable, 0x3300, 0x01, 1, .domain 131072, .rws, 0x1D, 0x1D, 0, 0⟩,
  ⟨.dlTxmapError, 0x3300, 0x02, 1, .unsigned 4, .ro, 0x1D, 0x00, 0, 4294967295⟩,
  ⟨.tdFirTable, 0x3300, 0x03, 1, .domain 16384, .rws, 0x1D, 0x1D, 0, 0⟩,
  ⟨.tdMaskTable, 0x3300, 0x04, 1, .domain 4096, .rws, 0x1D, 0x1D, 0, 0⟩,
  ⟨.tdMaskMinRef, 0x3300, 0x05, 1, .signed 2, .rws, 0x3F, 0x1D, -32768, 32767⟩,
  ⟨.dlUpAdvance, 0x3000, 0x10, 1, .unsigned 4, .rws, 0x3F, 0x1F, 50000, 1000000⟩,
  ⟨.dlCpLead, 0x3000, 0x11, 1, .unsigned 4, .rws, 0x3F, 0x1F, 0, 500000⟩,
  ⟨.dlUpWinClose, 0x3000, 0x12, 1, .unsigned 4, .rws, 0x3F, 0x1F, 0, 999000⟩,
  ⟨.dlHandoverGuard, 0x3000, 0x13, 1, .unsigned 4, .rws, 0x3F, 0x1F, 5000, 100000⟩,
  ⟨.tdAdvance, 0x3000, 0x14, 1, .unsigned 4, .rws, 0x3F, 0x1F, 10000, 500000⟩,
  ⟨.tdWinClose, 0x3000, 0x15, 1, .unsigned 4, .rws, 0x3F, 0x1F, 0, 499000⟩,
  ⟨.tdFrameSamples, 0x3000, 0x16, 1, .unsigned 2, .rws, 0x3F, 0x1F, 128, 2240⟩,
  ⟨.tdNcoOffset, 0x3000, 0x17, 1, .signed 4, .rws, 0x3F, 0x1F, -2147483648, 2147483647⟩,
  ⟨.tdMaskAction, 0x3000, 0x18, 1, .unsigned 1, .rws, 0x3F, 0x1D, 0, 2⟩]

/-- Objects TD_MASK_TRIP to CTX_INSERTS. -/
def objRows6 : List ObjRow := [
  ⟨.tdMaskTrip, 0x3000, 0x19, 1, .unsigned 1, .rws, 0x3F, 0x1D, 1, 255⟩,
  ⟨.tdMaskClear, 0x3000, 0x1A, 1, .unsigned 1, .rws, 0x3F, 0x1D, 1, 255⟩,
  ⟨.tdMaskEvery, 0x3000, 0x1B, 1, .unsigned 1, .rws, 0x3F, 0x1D, 1, 255⟩,
  ⟨.tdMaskUnmute, 0x3000, 0x1C, 1, .unsigned 1, .cmd, 0x00, 0x1D, 0, 255⟩,
  ⟨.tdMaskState, 0x3000, 0x1D, 1, .unsigned 8, .ro, 0x3F, 0x00, 0, 18446744073709551615⟩,
  ⟨.tdMaskWorst, 0x3000, 0x1E, 1, .unsigned 4, .ro, 0x3F, 0x00, 0, 4294967295⟩,
  ⟨.dlFramesHanded, 0xA450, 0x01, 1, .unsigned 4, .ro, 0x3F, 0x00, 0, 4294967295⟩,
  ⟨.dlFramesMissed, 0xA450, 0x02, 1, .unsigned 4, .ro, 0x3F, 0x00, 0, 4294967295⟩,
  ⟨.dlReOverwrites, 0xA450, 0x03, 1, .unsigned 4, .ro, 0x3F, 0x00, 0, 4294967295⟩,
  ⟨.dlClips, 0xA450, 0x04, 1, .unsigned 4, .ro, 0x3F, 0x00, 0, 4294967295⟩,
  ⟨.dlNoMap, 0xA450, 0x05, 1, .unsigned 4, .ro, 0x3F, 0x00, 0, 4294967295⟩,
  ⟨.tdClipSamples, 0xA450, 0x06, 1, .unsigned 4, .ro, 0x3F, 0x00, 0, 4294967295⟩,
  ⟨.tdTailAlone, 0xA450, 0x07, 1, .unsigned 4, .ro, 0x3F, 0x00, 0, 4294967295⟩,
  ⟨.tdMaskFails, 0xA450, 0x08, 1, .unsigned 4, .ro, 0x3F, 0x00, 0, 4294967295⟩,
  ⟨.tdMaskAlarms, 0xA450, 0x09, 1, .unsigned 4, .ro, 0x3F, 0x00, 0, 4294967295⟩,
  ⟨.tdMutes, 0xA450, 0x0A, 1, .unsigned 4, .ro, 0x3F, 0x00, 0, 4294967295⟩,
  ⟨.ctxEnable, 0x4400, 0x01, 1, .bool, .rw, 0x3F, 0x1D, 0, 1⟩,
  ⟨.ctxBase, 0x4400, 0x02, 1, .unsigned 8, .rw, 0x1D, 0x1D, 0, 18446744073709551615⟩,
  ⟨.ctxEntries, 0x4400, 0x03, 1, .unsigned 4, .rw, 0x3F, 0x1D, 65536, 33554432⟩,
  ⟨.ctxSeed, 0x4400, 0x04, 1, .unsigned 8, .rw, 0x1D, 0x1D, 0, 18446744073709551615⟩,
  ⟨.ctxKickMax, 0x4400, 0x05, 1, .unsigned 1, .rw, 0x3F, 0x1D, 1, 128⟩,
  ⟨.ctxIdleExpire, 0x4400, 0x06, 1, .unsigned 4, .rw, 0x3F, 0x1D, 0, 4294967295⟩,
  ⟨.ctxSweepRate, 0x4400, 0x07, 1, .unsigned 4, .rw, 0x3F, 0x1D, 1000, 10000000⟩,
  ⟨.ctxUsed, 0x4410, 0x01, 1, .unsigned 4, .ro, 0x3F, 0x00, 0, 4294967295⟩,
  ⟨.ctxStashUsed, 0x4410, 0x02, 1, .unsigned 1, .ro, 0x3F, 0x00, 0, 255⟩,
  ⟨.ctxSeqNext, 0x4410, 0x03, 1, .unsigned 4, .ro, 0x1D, 0x00, 0, 4294967295⟩,
  ⟨.ctxLastFull, 0x4410, 0x04, 1, .unsigned 1, .ro, 0x3F, 0x00, 0, 255⟩,
  ⟨.ctxOpsRate, 0x4410, 0x05, 1, .unsigned 4, .ro, 0x3F, 0x00, 0, 4294967295⟩,
  ⟨.ctxLookups, 0xA460, 0x01, 1, .unsigned 4, .ro, 0x3F, 0x00, 0, 4294967295⟩,
  ⟨.ctxInserts, 0xA460, 0x02, 1, .unsigned 4, .ro, 0x3F, 0x00, 0, 4294967295⟩]

/-- Objects CTX_UPDATES to GAL_BAD_PACKETS. -/
def objRows7 : List ObjRow := [
  ⟨.ctxUpdates, 0xA460, 0x03, 1, .unsigned 4, .ro, 0x3F, 0x00, 0, 4294967295⟩,
  ⟨.ctxDeletes, 0xA460, 0x04, 1, .unsigned 4, .ro, 0x3F, 0x00, 0, 4294967295⟩,
  ⟨.ctxTouches, 0xA460, 0x05, 1, .unsigned 4, .ro, 0x3F, 0x00, 0, 4294967295⟩,
  ⟨.ctxNotFound, 0xA460, 0x06, 1, .unsigned 4, .ro, 0x3F, 0x00, 0, 4294967295⟩,
  ⟨.ctxExists, 0xA460, 0x07, 1, .unsigned 4, .ro, 0x3F, 0x00, 0, 4294967295⟩,
  ⟨.ctxSeqMismatch, 0xA460, 0x08, 1, .unsigned 4, .ro, 0x3F, 0x00, 0, 4294967295⟩,
  ⟨.ctxFull, 0xA460, 0x09, 1, .unsigned 4, .ro, 0x3F, 0x00, 0, 4294967295⟩,
  ⟨.ctxMemErrors, 0xA460, 0x0A, 1, .unsigned 4, .ro, 0x3F, 0x00, 0, 4294967295⟩,
  ⟨.ctxKicks, 0xA460, 0x0B, 1, .unsigned 4, .ro, 0x3F, 0x00, 0, 4294967295⟩,
  ⟨.ctxStashPlaces, 0xA460, 0x0C, 1, .unsigned 4, .ro, 0x3F, 0x00, 0, 4294967295⟩,
  ⟨.ctxExpired, 0xA460, 0x0D, 1, .unsigned 4, .ro, 0x3F, 0x00, 0, 4294967295⟩,
  ⟨.arbInputs, 0x2002, 0x01, 1, .unsigned 1, .const, 0x3F, 0x00, 0, 255⟩,
  ⟨.arbFreeze, 0x2002, 0x02, 1, .unsigned 4, .rw, 0x1D, 0x1D, 0, 4294967295⟩,
  ⟨.arbState, 0x2002, 0x03, 1, .unsigned 1, .ro, 0x3F, 0x00, 0, 255⟩,
  ⟨.arbHolder, 0x2002, 0x04, 1, .unsigned 1, .ro, 0x1D, 0x00, 0, 255⟩,
  ⟨.arbPointer, 0x2002, 0x05, 1, .unsigned 1, .ro, 0x1D, 0x00, 0, 255⟩,
  ⟨.arbWaitMax, 0x2002, 0x06, 1, .unsigned 1, .ro, 0x3F, 0x00, 0, 255⟩,
  ⟨.arbBase, 0x2002, 0x10, 32, .unsigned 1, .rw, 0x1D, 0x1D, 0, 7⟩,
  ⟨.arbGrants, 0xA500, 0x01, 1, .unsigned 4, .ro, 0x3F, 0x00, 0, 4294967295⟩,
  ⟨.arbTakebacks, 0xA500, 0x02, 1, .unsigned 4, .ro, 0x3F, 0x00, 0, 4294967295⟩,
  ⟨.arbTieRounds, 0xA500, 0x03, 1, .unsigned 4, .ro, 0x3F, 0x00, 0, 4294967295⟩,
  ⟨.arbUrgentRounds, 0xA500, 0x04, 1, .unsigned 4, .ro, 0x3F, 0x00, 0, 4294967295⟩,
  ⟨.galFlitsReq, 0xA5C0, 0x01, 1, .unsigned 4, .ro, 0x3F, 0x00, 0, 4294967295⟩,
  ⟨.galFlitsRsp, 0xA5C0, 0x02, 1, .unsigned 4, .ro, 0x3F, 0x00, 0, 4294967295⟩,
  ⟨.galFlitsEvt, 0xA5C0, 0x03, 1, .unsigned 4, .ro, 0x3F, 0x00, 0, 4294967295⟩,
  ⟨.galFlitsMnt, 0xA5C0, 0x04, 1, .unsigned 4, .ro, 0x3F, 0x00, 0, 4294967295⟩,
  ⟨.galCorrected, 0xA5C0, 0x05, 1, .unsigned 4, .ro, 0x3F, 0x00, 0, 4294967295⟩,
  ⟨.galPoisoned, 0xA5C0, 0x06, 1, .unsigned 4, .ro, 0x3F, 0x00, 0, 4294967295⟩,
  ⟨.galHolds, 0xA5C0, 0x07, 1, .unsigned 4, .ro, 0x3F, 0x00, 0, 4294967295⟩,
  ⟨.galBadPackets, 0xA5C0, 0x08, 1, .unsigned 4, .ro, 0x3F, 0x00, 0, 4294967295⟩]

/-- Objects ECC_HOT_COUNT to ECC_UNREPAIRED. -/
def objRows8 : List ObjRow := [
  ⟨.eccHotCount, 0x4000, 0x01, 1, .unsigned 1, .rw, 0x3F, 0x1D, 2, 15⟩,
  ⟨.eccHotWindow, 0x4000, 0x02, 1, .unsigned 4, .rw, 0x3F, 0x1D, 1000, 86400000⟩,
  ⟨.scrubEn, 0x4000, 0x03, 1, .bool, .rw, 0x3F, 0x1D, 0, 1⟩,
  ⟨.scrubRate, 0x4000, 0x04, 1, .unsigned 4, .rw, 0x3F, 0x1D, 1000, 50000000⟩,
  ⟨.scrubLapLimit, 0x4000, 0x05, 1, .unsigned 4, .rw, 0x3F, 0x1D, 60, 2592000⟩,
  ⟨.scrubLapTime, 0x4000, 0x06, 1, .unsigned 4, .ro, 0x3F, 0x00, 0, 4294967295⟩,
  ⟨.scrubLapAge, 0x4000, 0x07, 1, .unsigned 4, .ro, 0x3F, 0x00, 0, 4294967295⟩,
  ⟨.scrubPos, 0x4000, 0x08, 1, .unsigned 8, .ro, 0x1D, 0x00, 0, 18446744073709551615⟩,
  ⟨.eccLogUsed, 0x4000, 0x09, 1, .unsigned 1, .ro, 0x3F, 0x00, 0, 255⟩,
  ⟨.eccLogClear, 0x4000, 0x0A, 1, .unsigned 1, .cmd, 0x00, 0x1D, 0, 255⟩,
  ⟨.eccSparesLeft, 0x4000, 0x0B, 1, .unsigned 2, .ro, 0x3F, 0x00, 0, 65535⟩,
  ⟨.eccLog, 0x4000, 0x10, 1, .domain 1024, .ro, 0x1D, 0x00, 0, 0⟩,
  ⟨.ddrState, 0x4100, 0x01, 1, .unsigned 1, .ro, 0x3F, 0x00, 0, 255⟩,
  ⟨.ddrDimms, 0x4100, 0x02, 1, .unsigned 1, .ro, 0x3F, 0x00, 0, 255⟩,
  ⟨.ddrCapacity, 0x4100, 0x03, 1, .unsigned 4, .ro, 0x3F, 0x00, 0, 4294967295⟩,
  ⟨.ddrSpeed, 0x4100, 0x04, 1, .unsigned 2, .ro, 0x3F, 0x00, 0, 65535⟩,
  ⟨.ddrSweepFront, 0x4100, 0x05, 1, .unsigned 8, .ro, 0x1D, 0x00, 0, 18446744073709551615⟩,
  ⟨.ddrPprMode, 0x4100, 0x06, 1, .unsigned 1, .rw, 0x1D, 0x1D, 0, 1⟩,
  ⟨.ddrHpprEn, 0x4100, 0x07, 1, .bool, .rw, 0x1D, 0x1D, 0, 1⟩,
  ⟨.memDdrBase, 0x4200, 0x01, 1, .unsigned 8, .const, 0x3F, 0x00, 0, 18446744073709551615⟩,
  ⟨.memDdrSize, 0x4200, 0x02, 1, .unsigned 8, .ro, 0x3F, 0x00, 0, 18446744073709551615⟩,
  ⟨.memTrainStatus, 0x4200, 0x03, 1, .unsigned 2, .ro, 0x3F, 0x00, 0, 65535⟩,
  ⟨.memRepairListUsed, 0x4200, 0x04, 1, .unsigned 2, .ro, 0x3F, 0x00, 0, 65535⟩,
  ⟨.eccCorrected, 0xA600, 0x01, 1, .unsigned 4, .ro, 0x3F, 0x00, 0, 4294967295⟩,
  ⟨.eccScrubCorrected, 0xA600, 0x02, 1, .unsigned 4, .ro, 0x3F, 0x00, 0, 4294967295⟩,
  ⟨.eccUncorr, 0xA600, 0x03, 1, .unsigned 4, .ro, 0x3F, 0x00, 0, 4294967295⟩,
  ⟨.eccHot, 0xA600, 0x04, 1, .unsigned 4, .ro, 0x3F, 0x00, 0, 4294967295⟩,
  ⟨.eccLasting, 0xA600, 0x05, 1, .unsigned 4, .ro, 0x3F, 0x00, 0, 4294967295⟩,
  ⟨.eccRepairs, 0xA600, 0x06, 1, .unsigned 4, .ro, 0x3F, 0x00, 0, 4294967295⟩,
  ⟨.eccUnrepaired, 0xA600, 0x07, 1, .unsigned 4, .ro, 0x3F, 0x00, 0, 4294967295⟩]

/-- Objects ECC_LOG_EVICTIONS to LANE_SNAP_FOM. -/
def objRows9 : List ObjRow := [
  ⟨.eccLogEvictions, 0xA600, 0x08, 1, .unsigned 4, .ro, 0x3F, 0x00, 0, 4294967295⟩,
  ⟨.eccLogFull, 0xA600, 0x09, 1, .unsigned 4, .ro, 0x3F, 0x00, 0, 4294967295⟩,
  ⟨.scrubLaps, 0xA600, 0x0A, 1, .unsigned 4, .ro, 0x3F, 0x00, 0, 4294967295⟩,
  ⟨.scrubLate, 0xA600, 0x0B, 1, .unsigned 4, .ro, 0x3F, 0x00, 0, 4294967295⟩,
  ⟨.ddrUnwrittenReads, 0xA600, 0x0C, 1, .unsigned 4, .ro, 0x3F, 0x00, 0, 4294967295⟩,
  ⟨.ddrFillBlocks, 0xA600, 0x0D, 1, .unsigned 4, .ro, 0x3F, 0x00, 0, 4294967295⟩,
  ⟨.laneTxFfe, 0x5700, 0x01, 1, .unsigned 4, .rw, 0x3F, 0x1D, 0, 4294967295⟩,
  ⟨.laneTxInvert, 0x5700, 0x02, 1, .bool, .rw, 0x3F, 0x1D, 0, 1⟩,
  ⟨.laneRxInvert, 0x5700, 0x03, 1, .bool, .rw, 0x3F, 0x1D, 0, 1⟩,
  ⟨.laneCtleFixed, 0x5700, 0x04, 1, .unsigned 1, .rw, 0x3F, 0x1D, 0, 255⟩,
  ⟨.laneAdaptEn, 0x5700, 0x05, 1, .bool, .rw, 0x3F, 0x1D, 0, 1⟩,
  ⟨.laneAdaptPeriod, 0x5700, 0x06, 1, .unsigned 4, .rw, 0x3F, 0x1D, 20, 10000⟩,
  ⟨.laneDriftLimit, 0x5700, 0x07, 1, .unsigned 1, .rw, 0x3F, 0x1D, 4, 64⟩,
  ⟨.laneAdaptHold, 0x5700, 0x08, 1, .unsigned 4, .rw, 0x3F, 0x1D, 1000, 1000000⟩,
  ⟨.laneSnapAge, 0x5700, 0x09, 1, .unsigned 4, .rw, 0x3F, 0x1D, 1000, 3600000⟩,
  ⟨.laneTdensMin, 0x5700, 0x0A, 1, .unsigned 1, .rw, 0x3F, 0x1D, 16, 128⟩,
  ⟨.laneConfMin, 0x5700, 0x0B, 1, .unsigned 2, .rw, 0x3F, 0x1D, 1024, 65535⟩,
  ⟨.laneFomMin, 0x5700, 0x0C, 1, .unsigned 1, .rw, 0x3F, 0x1D, 8, 200⟩,
  ⟨.laneLoopback, 0x5700, 0x0D, 1, .unsigned 1, .rw, 0x3F, 0x1D, 0, 255⟩,
  ⟨.lanePrbsTx, 0x5700, 0x0E, 1, .unsigned 1, .rw, 0x3F, 0x1D, 0, 255⟩,
  ⟨.lanePrbsChk, 0x5700, 0x0F, 1, .unsigned 1, .rw, 0x3F, 0x1D, 0, 255⟩,
  ⟨.lanePrbsUser, 0x5700, 0x10, 1, .unsigned 8, .rw, 0x3F, 0x1D, 0, 18446744073709551615⟩,
  ⟨.lanePrbsClear, 0x5700, 0x11, 1, .unsigned 1, .cmd, 0x00, 0x1D, 0, 255⟩,
  ⟨.laneState, 0x5740, 0x01, 1, .unsigned 1, .ro, 0x3F, 0x00, 0, 255⟩,
  ⟨.laneFom, 0x5740, 0x02, 1, .unsigned 1, .ro, 0x3F, 0x00, 0, 255⟩,
  ⟨.laneTdens, 0x5740, 0x03, 1, .unsigned 1, .ro, 0x3F, 0x00, 0, 255⟩,
  ⟨.laneConfOk, 0x5740, 0x04, 1, .bool, .ro, 0x3F, 0x00, 0, 1⟩,
  ⟨.laneTxFfeNow, 0x5740, 0x05, 1, .unsigned 4, .ro, 0x3F, 0x00, 0, 4294967295⟩,
  ⟨.laneCtleNow, 0x5740, 0x06, 1, .unsigned 1, .ro, 0x3F, 0x00, 0, 255⟩,
  ⟨.laneSnapFom, 0x5740, 0x07, 1, .unsigned 1, .ro, 0x3F, 0x00, 0, 255⟩]

/-- Objects LANE_SNAP_CTLE to ETH_XOFF_WM. -/
def objRows10 : List ObjRow := [
  ⟨.laneSnapCtle, 0x5740, 0x08, 1, .unsigned 1, .ro, 0x3F, 0x00, 0, 255⟩,
  ⟨.laneSnapAgeNow, 0x5740, 0x09, 1, .unsigned 4, .ro, 0x3F, 0x00, 0, 4294967295⟩,
  ⟨.laneFarFom, 0x5740, 0x0A, 1, .unsigned 1, .ro, 0x3F, 0x00, 0, 255⟩,
  ⟨.laneSkew, 0x5740, 0x0B, 1, .unsigned 2, .ro, 0x3F, 0x00, 0, 65535⟩,
  ⟨.lanePrbsLock, 0x5740, 0x0C, 1, .bool, .ro, 0x3F, 0x00, 0, 1⟩,
  ⟨.lanePrbsBits, 0x5740, 0x0D, 1, .unsigned 8, .ro, 0x3F, 0x00, 0, 18446744073709551615⟩,
  ⟨.lanePrbsErrors, 0x5740, 0x0E, 1, .unsigned 8, .ro, 0x3F, 0x00, 0, 18446744073709551615⟩,
  ⟨.laneQuadMode, 0x5780, 0x01, 1, .unsigned 1, .rw, 0x3F, 0x1D, 0, 255⟩,
  ⟨.laneQuadFec, 0x5780, 0x02, 1, .unsigned 1, .rw, 0x3F, 0x1D, 0, 255⟩,
  ⟨.laneQuadAnEn, 0x5780, 0x03, 1, .bool, .rw, 0x3F, 0x1D, 0, 1⟩,
  ⟨.laneQuadStatus, 0x5780, 0x04, 1, .unsigned 1, .ro, 0x3F, 0x00, 0, 255⟩,
  ⟨.laneCdrLosses, 0xA700, 0x01, 1, .unsigned 4, .ro, 0x3F, 0x00, 0, 4294967295⟩,
  ⟨.laneBlockLockLosses, 0xA700, 0x02, 1, .unsigned 4, .ro, 0x3F, 0x00, 0, 4294967295⟩,
  ⟨.laneTrainFails, 0xA700, 0x03, 1, .unsigned 4, .ro, 0x3F, 0x00, 0, 4294967295⟩,
  ⟨.laneAdaptSteps, 0xA700, 0x04, 1, .unsigned 4, .ro, 0x3F, 0x00, 0, 4294967295⟩,
  ⟨.laneDriftReverts, 0xA700, 0x05, 1, .unsigned 4, .ro, 0x3F, 0x00, 0, 4294967295⟩,
  ⟨.laneSnapResets, 0xA700, 0x06, 1, .unsigned 4, .ro, 0x3F, 0x00, 0, 4294967295⟩,
  ⟨.laneMarkErrors, 0xA700, 0x07, 1, .unsigned 4, .ro, 0x3F, 0x00, 0, 4294967295⟩,
  ⟨.laneBipErrors, 0xA700, 0x08, 1, .unsigned 4, .ro, 0x3F, 0x00, 0, 4294967295⟩,
  ⟨.laneFecSymbols, 0xA700, 0x09, 1, .unsigned 4, .ro, 0x3F, 0x00, 0, 4294967295⟩,
  ⟨.laneFecCwCorr, 0xA700, 0x0A, 1, .unsigned 4, .ro, 0x3F, 0x00, 0, 4294967295⟩,
  ⟨.laneFecCwUncorr, 0xA700, 0x0B, 1, .unsigned 4, .ro, 0x3F, 0x00, 0, 4294967295⟩,
  ⟨.laneLowFom, 0xA700, 0x0C, 1, .unsigned 4, .ro, 0x3F, 0x00, 0, 4294967295⟩,
  ⟨.ethMaxFrame, 0x5000, 0x01, 1, .unsigned 2, .rw, 0x3F, 0x1D, 1518, 9600⟩,
  ⟨.ethDeliverBad, 0x5000, 0x02, 1, .bool, .rw, 0x3F, 0x1D, 0, 1⟩,
  ⟨.ethMacAddr, 0x5000, 0x03, 1, .unsigned 8, .rw, 0x3F, 0x1D, 0, 281474976710655⟩,
  ⟨.ethFcMode, 0x5000, 0x04, 1, .unsigned 1, .rw, 0x3F, 0x1D, 0, 2⟩,
  ⟨.ethPfcMask, 0x5000, 0x05, 1, .unsigned 1, .rw, 0x3F, 0x1D, 0, 255⟩,
  ⟨.ethRxAlloc, 0x5000, 0x06, 1, .unsigned 4, .rw, 0x3F, 0x1D, 16384, 1048576⟩,
  ⟨.ethXoffWm, 0x5000, 0x07, 1, .unsigned 4, .rw, 0x3F, 0x1D, 0, 4294967295⟩]

/-- Objects ETH_XON_WM to ERX_PRIO. -/
def objRows11 : List ObjRow := [
  ⟨.ethXonWm, 0x5000, 0x08, 1, .unsigned 4, .rw, 0x3F, 0x1D, 0, 4294967295⟩,
  ⟨.ethFcQuanta, 0x5000, 0x09, 1, .unsigned 2, .rw, 0x3F, 0x1D, 1, 65535⟩,
  ⟨.ethFcHonor, 0x5000, 0x0A, 1, .unsigned 1, .rw, 0x3F, 0x1D, 0, 255⟩,
  ⟨.ethPcpQueue, 0x5000, 0x0B, 1, .unsigned 4, .rw, 0x3F, 0x1D, 0, 16777215⟩,
  ⟨.ethQueuePcp, 0x5000, 0x0C, 1, .unsigned 4, .rw, 0x3F, 0x1D, 0, 16777215⟩,
  ⟨.ethLatePolicy, 0x5000, 0x0D, 1, .unsigned 1, .rw, 0x3F, 0x1D, 0, 255⟩,
  ⟨.ethGuardEn, 0x5000, 0x0E, 1, .bool, .rw, 0x3F, 0x1D, 0, 1⟩,
  ⟨.ethDefRing, 0x5000, 0x0F, 1, .unsigned 1, .rw, 0x3F, 0x1D, 0, 255⟩,
  ⟨.ethNapEn, 0x5000, 0x10, 1, .bool, .rw, 0x3F, 0x1D, 0, 1⟩,
  ⟨.ethEeeEn, 0x5000, 0x11, 1, .bool, .rw, 0x3F, 0x1D, 0, 1⟩,
  ⟨.ethPortState, 0x5001, 0x01, 1, .unsigned 1, .ro, 0x3F, 0x00, 0, 255⟩,
  ⟨.ethPortRate, 0x5001, 0x02, 1, .unsigned 4, .ro, 0x3F, 0x00, 0, 4294967295⟩,
  ⟨.ethRxOcc, 0x5001, 0x03, 1, .unsigned 4, .ro, 0x3F, 0x00, 0, 4294967295⟩,
  ⟨.ethTxEntries, 0x5001, 0x04, 1, .unsigned 2, .ro, 0x3F, 0x00, 0, 65535⟩,
  ⟨.ethChargeDl, 0x5001, 0x05, 1, .unsigned 4, .ro, 0x1F, 0x00, 0, 4294967295⟩,
  ⟨.ethChargeUl, 0x5001, 0x06, 1, .unsigned 4, .ro, 0x1F, 0x00, 0, 4294967295⟩,
  ⟨.ethXoffState, 0x5001, 0x07, 1, .unsigned 1, .ro, 0x3F, 0x00, 0, 255⟩,
  ⟨.swEndpointTable, 0x5630, 0x01, 1, .domain 1024, .rws, 0x1D, 0x1D, 0, 0⟩,
  ⟨.swFwdTable, 0x5630, 0x02, 1, .domain 4096, .rws, 0x1D, 0x1D, 0, 0⟩,
  ⟨.swFilterTable, 0x5630, 0x03, 1, .domain 4096, .rws, 0x1D, 0x1D, 0, 0⟩,
  ⟨.swTableError, 0x5630, 0x04, 1, .unsigned 4, .ro, 0x1D, 0x00, 0, 4294967295⟩,
  ⟨.ethTxFetchLead, 0x5630, 0x05, 1, .unsigned 4, .rw, 0x3F, 0x1D, 2000, 50000⟩,
  ⟨.erxBase, 0x5640, 0x01, 1, .unsigned 8, .rw, 0x03, 0x03, 0, 18446744073709551615⟩,
  ⟨.erxCount, 0x5640, 0x02, 1, .unsigned 2, .rw, 0x03, 0x03, 64, 32768⟩,
  ⟨.erxBufSize, 0x5640, 0x03, 1, .unsigned 2, .rw, 0x03, 0x03, 256, 16384⟩,
  ⟨.erxOwner, 0x5640, 0x04, 1, .unsigned 1, .rw, 0x01, 0x01, 0, 63⟩,
  ⟨.erxXoff, 0x5640, 0x05, 1, .unsigned 2, .rw, 0x03, 0x03, 0, 65535⟩,
  ⟨.erxXon, 0x5640, 0x06, 1, .unsigned 2, .rw, 0x03, 0x03, 0, 65535⟩,
  ⟨.erxPorts, 0x5640, 0x07, 1, .unsigned 8, .rw, 0x03, 0x03, 0, 18446744073709551615⟩,
  ⟨.erxPrio, 0x5640, 0x08, 1, .unsigned 1, .rw, 0x03, 0x03, 0, 7⟩]

/-- Objects ERX_ENABLE to ETH_FC_RX_PAUSES. -/
def objRows12 : List ObjRow := [
  ⟨.erxEnable, 0x5640, 0x09, 1, .bool, .rw, 0x03, 0x03, 0, 1⟩,
  ⟨.etxBase, 0x5680, 0x01, 1, .unsigned 8, .rw, 0x03, 0x03, 0, 18446744073709551615⟩,
  ⟨.etxCount, 0x5680, 0x02, 1, .unsigned 2, .rw, 0x03, 0x03, 64, 32768⟩,
  ⟨.etxOwner, 0x5680, 0x03, 1, .unsigned 1, .rw, 0x01, 0x01, 0, 63⟩,
  ⟨.etxEnable, 0x5680, 0x04, 1, .bool, .rw, 0x03, 0x03, 0, 1⟩,
  ⟨.mgmtMode, 0x56C0, 0x01, 1, .unsigned 1, .rw, 0x0D, 0x09, 0, 1⟩,
  ⟨.mgmtMacAddr, 0x56C0, 0x02, 1, .unsigned 8, .rw, 0x0D, 0x09, 0, 281474976710655⟩,
  ⟨.mgmtIp, 0x56C0, 0x03, 1, .unsigned 4, .rw, 0x0D, 0x09, 0, 4294967295⟩,
  ⟨.mgmtMaxFrame, 0x56C0, 0x04, 1, .unsigned 2, .rw, 0x0D, 0x09, 1518, 9600⟩,
  ⟨.mgmtState, 0x56C0, 0x05, 1, .unsigned 1, .ro, 0x0D, 0x00, 0, 255⟩,
  ⟨.ethFsBase, 0x3000, 0x20, 1, .unsigned 4, .rws, 0x3F, 0x1F, 0, 4294967295⟩,
  ⟨.ethFsSize, 0x3000, 0x21, 1, .unsigned 4, .rws, 0x3F, 0x1F, 0, 4194304⟩,
  ⟨.ethRxFrames, 0xA800, 0x01, 1, .unsigned 4, .ro, 0x3F, 0x00, 0, 4294967295⟩,
  ⟨.ethRxRunts, 0xA800, 0x02, 1, .unsigned 4, .ro, 0x3F, 0x00, 0, 4294967295⟩,
  ⟨.ethRxOversize, 0xA800, 0x03, 1, .unsigned 4, .ro, 0x3F, 0x00, 0, 4294967295⟩,
  ⟨.ethRxFcsErr, 0xA800, 0x04, 1, .unsigned 4, .ro, 0x3F, 0x00, 0, 4294967295⟩,
  ⟨.ethRxCodeErr, 0xA800, 0x05, 1, .unsigned 4, .ro, 0x3F, 0x00, 0, 4294967295⟩,
  ⟨.ethRxNoSpace, 0xA800, 0x06, 1, .unsigned 4, .ro, 0x3F, 0x00, 0, 4294967295⟩,
  ⟨.ethRxUnclaimed, 0xA800, 0x07, 1, .unsigned 4, .ro, 0x3F, 0x00, 0, 4294967295⟩,
  ⟨.ethTxFrames, 0xA800, 0x08, 1, .unsigned 4, .ro, 0x3F, 0x00, 0, 4294967295⟩,
  ⟨.ethTxLateSent, 0xA800, 0x09, 1, .unsigned 4, .ro, 0x3F, 0x00, 0, 4294967295⟩,
  ⟨.ethTxLateDropped, 0xA800, 0x0A, 1, .unsigned 4, .ro, 0x3F, 0x00, 0, 4294967295⟩,
  ⟨.ethTxExpired, 0xA800, 0x0B, 1, .unsigned 4, .ro, 0x3F, 0x00, 0, 4294967295⟩,
  ⟨.ethTxGuardHolds, 0xA800, 0x0C, 1, .unsigned 4, .ro, 0x3F, 0x00, 0, 4294967295⟩,
  ⟨.ethTxStageLate, 0xA800, 0x0D, 1, .unsigned 4, .ro, 0x3F, 0x00, 0, 4294967295⟩,
  ⟨.ethTxRefused, 0xA800, 0x0E, 1, .unsigned 4, .ro, 0x3F, 0x00, 0, 4294967295⟩,
  ⟨.ethTxStomped, 0xA800, 0x0F, 1, .unsigned 4, .ro, 0x3F, 0x00, 0, 4294967295⟩,
  ⟨.ethTxPortDown, 0xA800, 0x10, 1, .unsigned 4, .ro, 0x3F, 0x00, 0, 4294967295⟩,
  ⟨.ethFcXoffSent, 0xA800, 0x11, 1, .unsigned 4, .ro, 0x3F, 0x00, 0, 4294967295⟩,
  ⟨.ethFcRxPauses, 0xA800, 0x12, 1, .unsigned 4, .ro, 0x3F, 0x00, 0, 4294967295⟩]

/-- Objects ETH_SW_NO_ROUTE to PPS_IN_DELAY. -/
def objRows13 : List ObjRow := [
  ⟨.ethSwNoRoute, 0xA840, 0x01, 1, .unsigned 4, .ro, 0x3F, 0x00, 0, 4294967295⟩,
  ⟨.ethSwNoEndpoint, 0xA840, 0x02, 1, .unsigned 4, .ro, 0x3F, 0x00, 0, 4294967295⟩,
  ⟨.ethSwCutThrough, 0xA840, 0x03, 1, .unsigned 4, .ro, 0x3F, 0x00, 0, 4294967295⟩,
  ⟨.ethSwStoreForward, 0xA840, 0x04, 1, .unsigned 4, .ro, 0x3F, 0x00, 0, 4294967295⟩,
  ⟨.mgmtUnclaimed, 0xA840, 0x05, 1, .unsigned 4, .ro, 0x0D, 0x00, 0, 4294967295⟩,
  ⟨.erxFrames, 0xA880, 0x01, 1, .unsigned 4, .ro, 0x03, 0x00, 0, 4294967295⟩,
  ⟨.erxNoBuf, 0xA880, 0x02, 1, .unsigned 4, .ro, 0x03, 0x00, 0, 4294967295⟩,
  ⟨.erxXoffEvents, 0xA880, 0x03, 1, .unsigned 4, .ro, 0x03, 0x00, 0, 4294967295⟩,
  ⟨.timeSfnOffset, 0x3000, 0x30, 1, .unsigned 8, .rws, 0x3F, 0x1F, 0, 10239999999⟩,
  ⟨.timeSource, 0x5800, 0x01, 1, .unsigned 1, .rw, 0x3F, 0x1D, 0, 2⟩,
  ⟨.timeSet, 0x5800, 0x02, 1, .unsigned 8, .cmd, 0x00, 0x1D, 0, 18446744073709551615⟩,
  ⟨.timeRateSet, 0x5800, 0x03, 1, .signed 8, .rw, 0x1D, 0x1D, -6553600000, 6553600000⟩,
  ⟨.timeStepThresh, 0x5800, 0x04, 1, .unsigned 4, .rw, 0x3F, 0x1D, 100, 1000000000⟩,
  ⟨.timeSlewMax, 0x5800, 0x05, 1, .unsigned 4, .rw, 0x3F, 0x1D, 10, 100000⟩,
  ⟨.timeServoBw, 0x5800, 0x06, 1, .unsigned 2, .rw, 0x3F, 0x1D, 10, 2000⟩,
  ⟨.timeLockThresh, 0x5800, 0x07, 1, .unsigned 4, .rw, 0x3F, 0x1D, 10, 10000⟩,
  ⟨.timeLockHold, 0x5800, 0x08, 1, .unsigned 2, .rw, 0x3F, 0x1D, 1, 600⟩,
  ⟨.timeHoldAvg, 0x5800, 0x09, 1, .unsigned 2, .rw, 0x3F, 0x1D, 1, 600⟩,
  ⟨.timeHoldoverMax, 0x5800, 0x0A, 1, .unsigned 4, .rw, 0x3F, 0x1D, 60, 604800⟩,
  ⟨.ptpClockType, 0x5800, 0x0B, 1, .unsigned 1, .rw, 0x1D, 0x1D, 0, 1⟩,
  ⟨.ptpDomain, 0x5800, 0x0C, 1, .unsigned 1, .rw, 0x1D, 0x1D, 24, 43⟩,
  ⟨.ptpTcEn, 0x5800, 0x0D, 1, .bool, .rw, 0x1D, 0x1D, 0, 1⟩,
  ⟨.synceSrc, 0x5800, 0x0E, 1, .unsigned 1, .rw, 0x1D, 0x1D, 0, 255⟩,
  ⟨.synceHybrid, 0x5800, 0x0F, 1, .bool, .rw, 0x1D, 0x1D, 0, 1⟩,
  ⟨.synceQl, 0x5800, 0x10, 1, .unsigned 1, .rw, 0x1D, 0x1D, 0, 255⟩,
  ⟨.rclkOutSel, 0x5800, 0x11, 1, .unsigned 2, .rw, 0x1D, 0x1D, 0, 65535⟩,
  ⟨.ppsOutEn, 0x5800, 0x12, 1, .bool, .rw, 0x1D, 0x1D, 0, 1⟩,
  ⟨.ppsOutWidth, 0x5800, 0x13, 1, .unsigned 4, .rw, 0x1D, 0x1D, 100, 900000000⟩,
  ⟨.ppsOutAdvance, 0x5800, 0x14, 1, .signed 4, .rw, 0x1D, 0x1D, -100000, 100000⟩,
  ⟨.ppsInDelay, 0x5800, 0x15, 1, .signed 4, .rw, 0x1D, 0x1D, -100000, 100000⟩]

/-- Objects TIME_UTC_OFFSET to PCIE_NUM_VFS. -/
def objRows14 : List ObjRow := [
  ⟨.timeUtcOffset, 0x5800, 0x16, 1, .signed 2, .ro, 0x3F, 0x00, -32768, 32767⟩,
  ⟨.timeTrig, 0x5800, 0x20, 16, .unsigned 8, .rw, 0x1D, 0x1D, 0, 18446744073709551615⟩,
  ⟨.timeSec, 0x5810, 0x01, 1, .unsigned 8, .ro, 0x3F, 0x00, 0, 18446744073709551615⟩,
  ⟨.timeNs, 0x5810, 0x02, 1, .unsigned 4, .ro, 0x3F, 0x00, 0, 4294967295⟩,
  ⟨.timeFrac, 0x5810, 0x03, 1, .unsigned 2, .ro, 0x3F, 0x00, 0, 65535⟩,
  ⟨.timeState, 0x5810, 0x04, 1, .unsigned 1, .ro, 0x3F, 0x00, 0, 255⟩,
  ⟨.timeRho, 0x5810, 0x05, 1, .signed 8, .ro, 0x3F, 0x00, -9223372036854775808, 9223372036854775807⟩,
  ⟨.timeOffset, 0x5810, 0x06, 1, .signed 4, .ro, 0x3F, 0x00, -2147483648, 2147483647⟩,
  ⟨.timeHoldoverAge, 0x5810, 0x07, 1, .unsigned 4, .ro, 0x3F, 0x00, 0, 4294967295⟩,
  ⟨.timeGmId, 0x5810, 0x08, 1, .unsigned 8, .ro, 0x3F, 0x00, 0, 18446744073709551615⟩,
  ⟨.timeTrigStatus, 0x5810, 0x09, 1, .unsigned 4, .ro, 0x1D, 0x00, 0, 4294967295⟩,
  ⟨.ptpPortEn, 0x5840, 0x01, 1, .bool, .rw, 0x1D, 0x1D, 0, 1⟩,
  ⟨.ptpPortDa, 0x5840, 0x02, 1, .unsigned 1, .rw, 0x1D, 0x1D, 0, 1⟩,
  ⟨.ptpPortLocalPrio, 0x5840, 0x03, 1, .unsigned 1, .rw, 0x1D, 0x1D, 1, 255⟩,
  ⟨.ptpPortNotSlave, 0x5840, 0x04, 1, .bool, .rw, 0x1D, 0x1D, 0, 1⟩,
  ⟨.ptpPortAsym, 0x5840, 0x05, 1, .signed 4, .rw, 0x1D, 0x1D, -2147483648, 2147483647⟩,
  ⟨.ptpPortIngLat, 0x5840, 0x06, 1, .unsigned 2, .rw, 0x1D, 0x1D, 0, 65535⟩,
  ⟨.ptpPortEgrLat, 0x5840, 0x07, 1, .unsigned 2, .rw, 0x1D, 0x1D, 0, 65535⟩,
  ⟨.ptpPortState, 0x5840, 0x08, 1, .unsigned 1, .ro, 0x3F, 0x00, 0, 255⟩,
  ⟨.timeSteps, 0xA900, 0x01, 1, .unsigned 4, .ro, 0x3F, 0x00, 0, 4294967295⟩,
  ⟨.timeHoldovers, 0xA900, 0x02, 1, .unsigned 4, .ro, 0x3F, 0x00, 0, 4294967295⟩,
  ⟨.ptpOutliers, 0xA900, 0x03, 1, .unsigned 4, .ro, 0x3F, 0x00, 0, 4294967295⟩,
  ⟨.ptpIpDropped, 0xA900, 0x04, 1, .unsigned 4, .ro, 0x3F, 0x00, 0, 4294967295⟩,
  ⟨.ptpTcUncorrected, 0xA900, 0x05, 1, .unsigned 4, .ro, 0x3F, 0x00, 0, 4294967295⟩,
  ⟨.synceLosses, 0xA900, 0x06, 1, .unsigned 4, .ro, 0x3F, 0x00, 0, 4294967295⟩,
  ⟨.ppsInRejects, 0xA900, 0x07, 1, .unsigned 4, .ro, 0x3F, 0x00, 0, 4294967295⟩,
  ⟨.timeTrigLate, 0xA900, 0x08, 1, .unsigned 4, .ro, 0x3F, 0x00, 0, 4294967295⟩,
  ⟨.pcieLinkSpeed, 0x1180, 0x01, 1, .unsigned 1, .ro, 0x3F, 0x00, 0, 255⟩,
  ⟨.pcieLinkWidth, 0x1180, 0x02, 1, .unsigned 1, .ro, 0x3F, 0x00, 0, 255⟩,
  ⟨.pcieNumVfs, 0x1180, 0x03, 1, .unsigned 1, .ro, 0x3F, 0x00, 0, 255⟩]

/-- Objects AP_MAP to LODGE_CLASS_EN. -/
def objRows15 : List ObjRow := [
  ⟨.apMap, 0x1180, 0x04, 1, .domain 4096, .rw, 0x1D, 0x0D, 0, 0⟩,
  ⟨.pcieApLastRefused, 0x1180, 0x05, 1, .unsigned 8, .ro, 0x1D, 0x00, 0, 18446744073709551615⟩,
  ⟨.carrierOwner, 0x2C00, 0x04, 1, .unsigned 1, .rws, 0x3F, 0x0D, 0, 63⟩,
  ⟨.jrBase, 0x1110, 0x00, 256, .unsigned 8, .rw, 0x1F, 0x03, 0, 18446744073709551615⟩,
  ⟨.jrCount, 0x1111, 0x00, 256, .unsigned 4, .rw, 0x1F, 0x03, 64, 65536⟩,
  ⟨.crBase, 0x1112, 0x00, 256, .unsigned 8, .rw, 0x1F, 0x03, 0, 18446744073709551615⟩,
  ⟨.crCount, 0x1113, 0x00, 256, .unsigned 4, .rw, 0x1F, 0x03, 64, 65536⟩,
  ⟨.jrWbAddr, 0x1114, 0x00, 256, .unsigned 8, .rw, 0x1F, 0x03, 0, 18446744073709551615⟩,
  ⟨.jrOwner, 0x1115, 0x00, 256, .unsigned 1, .rw, 0x1D, 0x01, 0, 63⟩,
  ⟨.jrVector, 0x1116, 0x00, 256, .unsigned 1, .rw, 0x1F, 0x03, 2, 31⟩,
  ⟨.jrCoalesce, 0x1117, 0x00, 256, .unsigned 4, .rw, 0x1F, 0x03, 0, 100000⟩,
  ⟨.jrEnable, 0x1118, 0x00, 256, .bool, .rw, 0x1F, 0x03, 0, 1⟩,
  ⟨.jrSeqStart, 0x1119, 0x00, 256, .unsigned 8, .rw, 0x1F, 0x03, 0, 18446744073709551615⟩,
  ⟨.jrEpoch, 0x111A, 0x00, 256, .unsigned 4, .ro, 0x1F, 0x00, 0, 4294967295⟩,
  ⟨.jrAccepted, 0x111B, 0x00, 256, .unsigned 8, .ro, 0x1F, 0x00, 0, 18446744073709551615⟩,
  ⟨.crWritten, 0x111C, 0x00, 256, .unsigned 8, .ro, 0x1F, 0x00, 0, 18446744073709551615⟩,
  ⟨.crHead, 0x111D, 0x00, 256, .unsigned 8, .ro, 0x1F, 0x00, 0, 18446744073709551615⟩,
  ⟨.jrState, 0x111E, 0x00, 256, .unsigned 1, .ro, 0x1F, 0x00, 0, 255⟩,
  ⟨.jrResume, 0x111F, 0x00, 256, .unsigned 1, .cmd, 0x00, 0x03, 0, 255⟩,
  ⟨.jrLastError, 0x1120, 0x00, 256, .unsigned 4, .ro, 0x1F, 0x00, 0, 4294967295⟩,
  ⟨.jrJobsAccepted, 0xAA00, 0x01, 1, .unsigned 4, .ro, 0x1F, 0x00, 0, 4294967295⟩,
  ⟨.jrDoneLate, 0xAA00, 0x02, 1, .unsigned 4, .ro, 0x1F, 0x00, 0, 4294967295⟩,
  ⟨.jrExpired, 0xAA00, 0x03, 1, .unsigned 4, .ro, 0x1F, 0x00, 0, 4294967295⟩,
  ⟨.jrRejected, 0xAA00, 0x04, 1, .unsigned 4, .ro, 0x1F, 0x00, 0, 4294967295⟩,
  ⟨.jrRedone, 0xAA00, 0x05, 1, .unsigned 4, .ro, 0x1F, 0x00, 0, 4294967295⟩,
  ⟨.jrBadDoorbells, 0xAA00, 0x06, 1, .unsigned 4, .ro, 0x1F, 0x00, 0, 4294967295⟩,
  ⟨.jrFlrDiscards, 0xAA00, 0x07, 1, .unsigned 4, .ro, 0x1F, 0x00, 0, 4294967295⟩,
  ⟨.pcieApRefused, 0xAB00, 0x01, 1, .unsigned 4, .ro, 0x1D, 0x00, 0, 4294967295⟩,
  ⟨.pcieDbIgnored, 0xAB00, 0x02, 1, .unsigned 4, .ro, 0x1D, 0x00, 0, 4294967295⟩,
  ⟨.lodgeClassEn, 0x1100, 0x01, 1, .unsigned 1, .rw, 0x3F, 0x08, 0, 63⟩]

/-- Objects NAP_FH_IP to PWR_WAKE_AT. -/
def objRows16 : List ObjRow := [
  ⟨.napFhIp, 0x1100, 0x02, 1, .unsigned 4, .rw, 0x1D, 0x0D, 0, 4294967295⟩,
  ⟨.stageLead, 0x1100, 0x03, 1, .unsigned 4, .rw, 0x3F, 0x1D, 3000, 100000⟩,
  ⟨.dictReservedBase, 0x1100, 0x04, 1, .unsigned 8, .ro, 0x3F, 0x00, 0, 18446744073709551615⟩,
  ⟨.dictLastStatus, 0x1101, 0x01, 1, .unsigned 4, .ro, 0x3F, 0x00, 0, 4294967295⟩,
  ⟨.dictWinObj, 0x1101, 0x02, 1, .unsigned 4, .rw, 0x03, 0x03, 0, 4294967295⟩,
  ⟨.dictWinGo, 0x1101, 0x03, 1, .unsigned 1, .cmd, 0x00, 0x03, 0, 255⟩,
  ⟨.stageState, 0x1130, 0x00, 64, .unsigned 1, .ro, 0x3F, 0x00, 0, 255⟩,
  ⟨.stageCommit, 0x1131, 0x00, 64, .unsigned 8, .cmd, 0x00, 0x3F, 0, 18446744073709551615⟩,
  ⟨.stageCancel, 0x1132, 0x00, 64, .unsigned 1, .cmd, 0x00, 0x3F, 0, 255⟩,
  ⟨.stageResult, 0x1133, 0x00, 64, .unsigned 4, .ro, 0x3F, 0x00, 0, 4294967295⟩,
  ⟨.stageTime, 0x1134, 0x00, 64, .unsigned 8, .ro, 0x3F, 0x00, 0, 18446744073709551615⟩,
  ⟨.stageUsed, 0x1135, 0x00, 64, .unsigned 4, .ro, 0x3F, 0x00, 0, 4294967295⟩,
  ⟨.stageLastApplied, 0x1136, 0x00, 64, .unsigned 8, .ro, 0x3F, 0x00, 0, 18446744073709551615⟩,
  ⟨.lodgeAccesses, 0xAC00, 0x01, 6, .unsigned 4, .ro, 0x3F, 0x00, 0, 4294967295⟩,
  ⟨.lodgeRefused, 0xAC01, 0x01, 6, .unsigned 4, .ro, 0x3F, 0x00, 0, 4294967295⟩,
  ⟨.lodgeTies, 0xAC02, 0x01, 1, .unsigned 4, .ro, 0x3F, 0x00, 0, 4294967295⟩,
  ⟨.napDuplicates, 0xAC02, 0x02, 1, .unsigned 4, .ro, 0x1D, 0x00, 0, 4294967295⟩,
  ⟨.napStale, 0xAC02, 0x03, 1, .unsigned 4, .ro, 0x1D, 0x00, 0, 4294967295⟩,
  ⟨.napSessionEvictions, 0xAC02, 0x04, 1, .unsigned 4, .ro, 0x1D, 0x00, 0, 4294967295⟩,
  ⟨.napMalformed, 0xAC02, 0x05, 1, .unsigned 4, .ro, 0x1D, 0x00, 0, 4294967295⟩,
  ⟨.stageCommits, 0xAC02, 0x06, 1, .unsigned 4, .ro, 0x3F, 0x00, 0, 4294967295⟩,
  ⟨.stageRefused, 0xAC02, 0x07, 1, .unsigned 4, .ro, 0x3F, 0x00, 0, 4294967295⟩,
  ⟨.pwrState, 0x1200, 0x01, 1, .unsigned 1, .ro, 0x3F, 0x00, 0, 255⟩,
  ⟨.pwrStateReq, 0x1200, 0x02, 1, .unsigned 1, .cmd, 0x00, 0x0D, 0, 255⟩,
  ⟨.pwrGateReq, 0x1200, 0x03, 1, .unsigned 4, .cmd, 0x00, 0x0D, 0, 4294967295⟩,
  ⟨.pwrGated, 0x1200, 0x04, 1, .unsigned 4, .ro, 0x3F, 0x00, 0, 4294967295⟩,
  ⟨.pwrDelayCap, 0x1200, 0x05, 1, .unsigned 4, .rw, 0x3F, 0x0D, 100, 100000⟩,
  ⟨.pwrLastResult, 0x1200, 0x06, 1, .unsigned 4, .ro, 0x3F, 0x00, 0, 4294967295⟩,
  ⟨.pwrWakeEn, 0x1200, 0x07, 1, .unsigned 1, .rw, 0x3F, 0x0D, 0, 255⟩,
  ⟨.pwrWakeAt, 0x1200, 0x08, 1, .unsigned 8, .rw, 0x1D, 0x0D, 0, 18446744073709551615⟩]

/-- Objects PWR_LAST_WAKE to SH_BOOT_VERSION. -/
def objRows17 : List ObjRow := [
  ⟨.pwrLastWake, 0x1200, 0x09, 1, .unsigned 1, .ro, 0x3F, 0x00, 0, 255⟩,
  ⟨.pwrVin, 0x1200, 0x0A, 1, .unsigned 4, .ro, 0x3F, 0x00, 0, 4294967295⟩,
  ⟨.pwrIin, 0x1200, 0x0B, 1, .unsigned 4, .ro, 0x3F, 0x00, 0, 4294967295⟩,
  ⟨.pwrPin, 0x1200, 0x0C, 1, .unsigned 4, .ro, 0x3F, 0x00, 0, 4294967295⟩,
  ⟨.pwrVinWarn, 0x1200, 0x0D, 1, .unsigned 4, .rw, 0x3F, 0x0D, 6000, 60000⟩,
  ⟨.startSpacing, 0x1300, 0x01, 1, .unsigned 4, .rw, 0x3F, 0x0D, 10, 1000⟩,
  ⟨.startSlope, 0x1300, 0x02, 1, .unsigned 2, .rw, 0x3F, 0x0D, 1, 50⟩,
  ⟨.startIinLimit, 0x1300, 0x03, 1, .unsigned 4, .rw, 0x3F, 0x0D, 5000, 38000⟩,
  ⟨.startHallMask, 0x1300, 0x04, 1, .unsigned 2, .rw, 0x3F, 0x0D, 0, 65535⟩,
  ⟨.startBlockMask, 0x1300, 0x05, 1, .unsigned 1, .rw, 0x3F, 0x0D, 0, 3⟩,
  ⟨.startRung, 0x1300, 0x06, 1, .unsigned 1, .ro, 0x3F, 0x00, 0, 255⟩,
  ⟨.pwrEntries, 0xAD00, 0x01, 1, .unsigned 4, .ro, 0x3F, 0x00, 0, 4294967295⟩,
  ⟨.pwrRefusals, 0xAD00, 0x02, 1, .unsigned 4, .ro, 0x3F, 0x00, 0, 4294967295⟩,
  ⟨.pwrDelayCapHits, 0xAD00, 0x03, 1, .unsigned 4, .ro, 0x3F, 0x00, 0, 4294967295⟩,
  ⟨.pwrWakeAborts, 0xAD00, 0x04, 1, .unsigned 4, .ro, 0x3F, 0x00, 0, 4294967295⟩,
  ⟨.pwrWakeAfterCommit, 0xAD00, 0x05, 1, .unsigned 4, .ro, 0x3F, 0x00, 0, 4294967295⟩,
  ⟨.pwrRollbacks, 0xAD00, 0x06, 1, .unsigned 4, .ro, 0x3F, 0x00, 0, 4294967295⟩,
  ⟨.pwrVinWarnings, 0xAD00, 0x07, 1, .unsigned 4, .ro, 0x3F, 0x00, 0, 4294967295⟩,
  ⟨.shWatchTable, 0x6000, 0x01, 1, .domain 256, .rw, 0x1D, 0x0D, 0, 0⟩,
  ⟨.shWatchEn, 0x6000, 0x02, 1, .unsigned 1, .rw, 0x3F, 0x0D, 0, 255⟩,
  ⟨.shWatchError, 0x6000, 0x03, 1, .unsigned 4, .ro, 0x1D, 0x00, 0, 4294967295⟩,
  ⟨.shWakeMagic, 0x6000, 0x04, 1, .bool, .rw, 0x1D, 0x0D, 0, 1⟩,
  ⟨.shWakePatterns, 0x6000, 0x05, 1, .domain 640, .rw, 0x1D, 0x0D, 0, 0⟩,
  ⟨.shFlashOffset, 0x6000, 0x06, 1, .unsigned 4, .rw, 0x0D, 0x0D, 0, 4294967295⟩,
  ⟨.shFlashWin, 0x6000, 0x07, 1, .domain 65536, .rw, 0x0D, 0x0D, 0, 0⟩,
  ⟨.shFlashCmd, 0x6000, 0x08, 1, .unsigned 1, .cmd, 0x00, 0x0D, 0, 255⟩,
  ⟨.shOtpRevoke, 0x6000, 0x09, 1, .unsigned 1, .cmd, 0x00, 0x09, 0, 255⟩,
  ⟨.shRollbackSet, 0x6000, 0x0A, 1, .unsigned 2, .cmd, 0x00, 0x09, 0, 65535⟩,
  ⟨.shBootStatus, 0x6010, 0x01, 1, .unsigned 4, .ro, 0x3F, 0x00, 0, 4294967295⟩,
  ⟨.shBootVersion, 0x6010, 0x02, 1, .unsigned 4, .ro, 0x3F, 0x00, 0, 4294967295⟩]

/-- Objects SH_L1_BASE to PAIR_UL_MODE. -/
def objRows18 : List ObjRow := [
  ⟨.shL1Base, 0x6010, 0x03, 1, .unsigned 8, .ro, 0x3F, 0x00, 0, 18446744073709551615⟩,
  ⟨.shL1State, 0x6010, 0x04, 1, .unsigned 1, .ro, 0x3F, 0x00, 0, 255⟩,
  ⟨.shFlashStatus, 0x6010, 0x05, 1, .unsigned 4, .ro, 0x0D, 0x00, 0, 4294967295⟩,
  ⟨.shWatchState, 0x6010, 0x06, 1, .unsigned 2, .ro, 0x3F, 0x00, 0, 65535⟩,
  ⟨.shWakeCarriers, 0x6010, 0x07, 1, .unsigned 1, .ro, 0x3F, 0x00, 0, 255⟩,
  ⟨.shWatchLoad, 0x6010, 0x08, 1, .unsigned 4, .ro, 0x3F, 0x00, 0, 4294967295⟩,
  ⟨.shWatchLog, 0x6010, 0x09, 1, .domain 1024, .ro, 0x1D, 0x00, 0, 0⟩,
  ⟨.shKeyRevoked, 0x6010, 0x0A, 1, .unsigned 1, .ro, 0x3F, 0x00, 0, 255⟩,
  ⟨.shRollbackMin, 0x6010, 0x0B, 1, .unsigned 2, .ro, 0x3F, 0x00, 0, 65535⟩,
  ⟨.shWakes, 0xAE00, 0x01, 1, .unsigned 4, .ro, 0x3F, 0x00, 0, 4294967295⟩,
  ⟨.shWatchDetections, 0xAE00, 0x02, 1, .unsigned 4, .ro, 0x3F, 0x00, 0, 4294967295⟩,
  ⟨.shWatchFalse, 0xAE00, 0x03, 1, .unsigned 4, .ro, 0x3F, 0x00, 0, 4294967295⟩,
  ⟨.shWatchOther, 0xAE00, 0x04, 1, .unsigned 4, .ro, 0x3F, 0x00, 0, 4294967295⟩,
  ⟨.shPatternMatches, 0xAE00, 0x05, 1, .unsigned 4, .ro, 0x3F, 0x00, 0, 4294967295⟩,
  ⟨.shRestarts, 0xAE00, 0x06, 1, .unsigned 4, .ro, 0x3F, 0x00, 0, 4294967295⟩,
  ⟨.relUnitTable, 0x7000, 0x01, 1, .domain 4480, .ro, 0x3F, 0x00, 0, 0⟩,
  ⟨.relFaultWindow, 0x7000, 0x02, 1, .unsigned 4, .rw, 0x3F, 0x1D, 100, 86400000⟩,
  ⟨.relFaultLimit, 0x7000, 0x03, 1, .unsigned 1, .rw, 0x3F, 0x1D, 2, 15⟩,
  ⟨.relDrainMax, 0x7000, 0x04, 1, .unsigned 4, .rw, 0x3F, 0x1D, 5, 1000⟩,
  ⟨.relEngineTimeout, 0x7000, 0x05, 1, .unsigned 4, .rw, 0x3F, 0x1D, 500, 100000⟩,
  ⟨.relUnretire, 0x7000, 0x06, 1, .unsigned 2, .cmd, 0x00, 0x0D, 0, 65535⟩,
  ⟨.relJournalBase, 0x7000, 0x07, 1, .unsigned 8, .ro, 0x3F, 0x00, 0, 18446744073709551615⟩,
  ⟨.relMarkQuery, 0x7000, 0x08, 1, .unsigned 8, .rw, 0x1D, 0x01, 0, 18446744073709551615⟩,
  ⟨.pairMode, 0x7800, 0x01, 1, .unsigned 1, .rw, 0x1D, 0x0D, 0, 1⟩,
  ⟨.pairRoleReq, 0x7800, 0x02, 1, .unsigned 1, .cmd, 0x00, 0x0D, 0, 255⟩,
  ⟨.pairRole, 0x7800, 0x03, 1, .unsigned 1, .ro, 0x3F, 0x00, 0, 255⟩,
  ⟨.pairState, 0x7800, 0x04, 1, .unsigned 1, .ro, 0x3F, 0x00, 0, 255⟩,
  ⟨.pairEpoch, 0x7800, 0x05, 1, .unsigned 4, .ro, 0x3F, 0x00, 0, 4294967295⟩,
  ⟨.pairMirror, 0x7800, 0x06, 1, .bool, .rw, 0x1D, 0x0D, 0, 1⟩,
  ⟨.pairUlMode, 0x7800, 0x07, 1, .unsigned 1, .rws, 0x1D, 0x0D, 0, 255⟩]

/-- Objects PAIR_HB_PERIOD to THERM_WARNINGS. -/
def objRows19 : List ObjRow := [
  ⟨.pairHbPeriod, 0x7800, 0x08, 1, .unsigned 2, .rw, 0x1D, 0x0D, 5, 1000⟩,
  ⟨.pairHbMiss, 0x7800, 0x09, 1, .unsigned 1, .rw, 0x1D, 0x0D, 2, 100⟩,
  ⟨.pairLastRefusal, 0x7800, 0x0A, 1, .unsigned 1, .ro, 0x3F, 0x00, 0, 255⟩,
  ⟨.chainRole, 0x7800, 0x10, 1, .unsigned 1, .rw, 0x1D, 0x0D, 0, 2⟩,
  ⟨.chainAddr, 0x7800, 0x11, 1, .unsigned 1, .ro, 0x3F, 0x00, 0, 255⟩,
  ⟨.stairGroupTable, 0x7800, 0x20, 1, .domain 2048, .rws, 0x1D, 0x1D, 0, 0⟩,
  ⟨.stairSnapSel, 0x7800, 0x21, 1, .unsigned 1, .rw, 0x3F, 0x3F, 0, 1⟩,
  ⟨.stairReset, 0x7800, 0x22, 1, .unsigned 1, .cmd, 0x00, 0x09, 0, 255⟩,
  ⟨.relFaults, 0xAF00, 0x01, 1, .unsigned 4, .ro, 0x3F, 0x00, 0, 4294967295⟩,
  ⟨.relRestarts, 0xAF00, 0x02, 1, .unsigned 4, .ro, 0x3F, 0x00, 0, 4294967295⟩,
  ⟨.relRetired, 0xAF00, 0x03, 1, .unsigned 4, .ro, 0x3F, 0x00, 0, 4294967295⟩,
  ⟨.relStaleDiscards, 0xAF00, 0x04, 1, .unsigned 4, .ro, 0x3F, 0x00, 0, 4294967295⟩,
  ⟨.relJournalFull, 0xAF00, 0x05, 1, .unsigned 4, .ro, 0x3F, 0x00, 0, 4294967295⟩,
  ⟨.pairLinkRetries, 0xAF00, 0x06, 1, .unsigned 4, .ro, 0x3F, 0x00, 0, 4294967295⟩,
  ⟨.pairTakeovers, 0xAF00, 0x07, 1, .unsigned 4, .ro, 0x3F, 0x00, 0, 4294967295⟩,
  ⟨.stairBad, 0xAF00, 0x08, 1, .unsigned 4, .ro, 0x3F, 0x00, 0, 4294967295⟩,
  ⟨.stairWithdrawn, 0xAF00, 0x09, 1, .unsigned 4, .ro, 0x3F, 0x00, 0, 4294967295⟩,
  ⟨.thermTjMax, 0x1200, 0x0E, 1, .signed 2, .ro, 0x3F, 0x00, -32768, 32767⟩,
  ⟨.thermWarn, 0x1200, 0x0F, 1, .signed 2, .rw, 0x3F, 0x0D, 640, 880⟩,
  ⟨.thermLastTrip, 0x1200, 0x10, 1, .unsigned 4, .ro, 0x3F, 0x00, 0, 4294967295⟩,
  ⟨.thermTrips, 0x1200, 0x11, 1, .unsigned 4, .ro, 0x3F, 0x00, 0, 4294967295⟩,
  ⟨.thermIoTj, 0x1200, 0x12, 1, .signed 2, .ro, 0x3F, 0x00, -32768, 32767⟩,
  ⟨.timeOscFreq, 0x1200, 0x13, 1, .unsigned 1, .ro, 0x3F, 0x00, 0, 255⟩,
  ⟨.thermWarnings, 0xAD00, 0x08, 1, .unsigned 4, .ro, 0x3F, 0x00, 0, 4294967295⟩]

/-- The whole catalogue. -/
def objRows : List ObjRow :=
  objRows0 ++ objRows1 ++ objRows2 ++ objRows3 ++ objRows4 ++ objRows5 ++ objRows6 ++ objRows7 ++ objRows8 ++ objRows9 ++ objRows10 ++ objRows11 ++ objRows12 ++ objRows13 ++ objRows14 ++ objRows15 ++ objRows16 ++ objRows17 ++ objRows18 ++ objRows19

/-- The family and instance an index names. -/
def famOf (idx : Nat) : List FamRow → Option (Nat × Nat)
  | [] => none
  | r :: rs =>
    if r.base ≤ idx ∧ (idx - r.base) % r.stride = 0 ∧ (idx - r.base) / r.stride < r.count then
      some (r.fam, r.n0 + r.mult * ((idx - r.base) / r.stride))
    else famOf idx rs

/-- The row that holds a subindex of a family. -/
def rowOf (fam sub : Nat) : List ObjRow → Option ObjRow
  | [] => none
  | r :: rs => if r.fam = fam ∧ r.sub ≤ sub ∧ sub < r.sub + r.subs then some r else rowOf fam sub rs

/-- Whether subindex `sub` exists in instance `n` of a row: base subindices exist only below `ARB_INPUTS`
(R313), `DDR_UNWRITTEN_READS` and `DDR_FILL_BLOCKS` for controllers 16 to 23 only (R343), and the block
counters of R246 for the two shared blocks. -/
def rowExists (r : ObjRow) (n sub : Nat) : Bool :=
  match r.obj with
  | .arbBase => sub - 0x10 < arbInputCount n
  | .ddrUnwrittenReads | .ddrFillBlocks => 16 ≤ n && n < 24
  | _ => true

/-- The object and instance at an index and subindex (R458), or none. Instances of an object with several
subindices count the subindices first. -/
def objAt (idx sub : Nat) : Option (ObjRow × Nat) :=
  match famOf idx famRows with
  | none => none
  | some (fam, n) =>
    match rowOf fam sub objRows with
    | none => none
    | some r =>
      if rowExists r n sub then some (r, n * r.subs + (sub - r.sub)) else none

end Sys2Proof.Machine
end

