-- ==== Sys2Proof/Machine/State.lean ====
section
/-! DEFINITION. The state of the block as plain data, the reasons a step stops, and the state after reset.
Every dictionary object lives in `State.objs` (scalars) or `State.doms` (STR and DOMAIN), in the catalogue's
numbering; the structures below hold what the spec gives the machine beyond its objects. -/

namespace Sys2Proof.Machine

/-- The kinds of EVT event (R41, R154, R269, R320, R331 to R337, R356, R357, R407, R414, R417, R421, R469, R484,
R512, R521, R525, R534, R580 and the rules that raise them). -/
inductive EvtKind where
  | floorFault
  | unitRetired
  | moduleFault
  | eccLasting
  | eccUncorr
  | eccUnrepaired
  | scrubLate
  | ddrTrainFail
  | schWatchdog
  | tdMaskAlarm
  | tdMute
  | laneLowFom
  | laneTrainFail
  | laneDrift
  | timeStep
  | holdover
  | synceLoss
  | timeTrig
  | powerRollback
  | vinWarn
  | thermWarn
  | l1Bad
  | shWake
  | shRestart
  | pairState
  | carrierOut
  deriving DecidableEq, Repr

/-- An EVT event raised toward the reliability manager or the host. -/
structure Evt where
  kind : EvtKind
  unit : Nat
  info : Nat
  deriving DecidableEq, Repr

/-- What the block sends to the world outside. -/
inductive OutMsg where
  | msix (fn vector : Nat)
  | memData (loc : MemLoc) (data : Nat) (poison : Bool)
  | dravut (ty fseq ackseq pairEpoch : Nat) (payload : List Byte)
  | packet (header : Nat) (data : List Byte)
  | laneRequest (lane tap : Nat) (up : Bool)
  | trainStatus (lane status : Nat)
  | eth (port : Nat) (body : List Byte) (launch : Int) (stomped : Bool)
  | handed (dest port : Nat) (body : List Byte)
  | host (fn addr : Nat) (data : List Byte)
  | mgmt (body : List Byte)
   | read (who : Accessor) (data : List Byte)
  | nap (who : Accessor) (data : List Byte)
  | aperture (fn status : Nat) (data : List Byte) (poison : Bool)
  | i3c (ack : Bool) (data : List Byte)
  | jtag (word : Nat)
  | munov (down : Bool) (frame : List Byte)
  deriving DecidableEq, Repr

/-- A write of the dictionary taken and not yet acknowledged (R462, R463). -/
structure Unacked where
  who : Accessor
  idx : Nat
  sub : Nat
  val : Int
  /-- The bytes of a STR or DOMAIN write; empty for a scalar. -/
  dom : List Byte
  /-- Its journal entry is written and awaits the standby (R546). -/
  sent : Bool
  deriving DecidableEq, Repr

/-- The pacer of a hall or shared-accelerator block (R38, R39, R46), beyond its objects. -/
structure PaceSt where
  /-- Slack samples of the window, most recent first, at most 1,048,576 (R38); reset empty. -/
  window : List Int
  /-- A sample of the period was below the margin (R39); reset false. -/
  periodLow : Bool
  /-- Lowest rate sample of the present 1 ms period, if any (R39); reset none. -/
  periodRate : Option Int
  /-- Device time of the last snap or raise (R39); reset none. -/
  lastRaise : Option Int
  /-- A snap or raise occurred in the present lower interval (R39); reset false. -/
  raised : Bool
  /-- The present run of floor-fault samples has begun (R41); reset false. -/
  faultRun : Bool
  /-- The rail is slewing to a new level; the value is the lowest level the slew spans (R34, R35); reset none. -/
  slewFrom : Option Int
  /-- The slew began at P0 (R46); reset false. -/
  fromP0 : Bool
  /-- A level change is under way in the present SNAP, before or after its cause (R46, R47); reset false. -/
  snapByLevel : Bool
  /-- A level written while gated (R36); reset none. -/
  stored : Option Int
  /-- Device time of the last lowering step (R47); reset none. -/
  lowered : Option Int
  /-- Device time by which the rail is at the level voltage after the last snap or level change (R44, R49); reset 0. -/
  settleBy : Int
  deriving DecidableEq, Repr

/-- A pacer after reset. -/
def PaceSt.reset : PaceSt := ⟨[], false, none, none, false, false, none, false, false, none, none, 0⟩

/-- A unit of R529: its epoch, state and fault record (R530, R531, R534, R560). -/
structure UnitSt where
  /-- The unit's epoch, 32 bits (R530); reset 0. -/
  epoch : Nat
  /-- RUNNING 0, RESTARTING 1, REJOINING 2, SLEEPING 3, RETIRED 4 (R531); reset RUNNING, DEDUCED (log entry 13). -/
  st : Nat
  /-- Device times of the faults of the present window, newest first (R534); reset empty. -/
  faults : List Int
  /-- Code of the last fault (R533, R560); reset 0. -/
  lastCode : Nat
  /-- Device time of the last fault, ns (R560); reset 0. -/
  lastTime : Int
  /-- Restarts since power-on (R560); reset 0. -/
  restarts : Nat
  /-- Device time of the present RESTARTING (R532); reset 0. -/
  since : Int
  deriving DecidableEq, Repr

/-- A unit after reset. -/
def UnitSt.reset : UnitSt := ⟨0, 0, [], 0, 0, 0, 0⟩

/-- Pins and module-wide conditions that no object shows. -/
structure Pins where
  /-- The thermal condition of `ALERT_N` holds (R580); reset false. -/
  alertTherm : Bool
  /-- The supply condition of `ALERT_N` holds (R484, R580); reset false. -/
  alertVin : Bool
  /-- `PWR_GOOD` is asserted (R486, R581); reset false. -/
  pwrGood : Bool
  /-- `PAIR_FAIL_OUT` is released, high (R549); reset false: a healthy module drives it low. -/
  pairFailOut : Bool
  /-- `PPS_OUT` is high (R416); reset false. -/
  ppsOut : Bool
  /-- A retired unit took the module out of service until reset (R535); reset false. -/
  moduleFault : Bool
  /-- A test instruction took the device out of service until reset (R577); reset false. -/
  jtagOut : Bool
  deriving DecidableEq, Repr

/-- The pins after reset. -/
def Pins.reset : Pins := ⟨false, false, false, false, false, false, false⟩

/-- An entry of the journal (R537); the body as bytes. -/
structure JEntry where
  kind : Nat
  jseq : Nat
  pairEpoch : Nat
  unitEpoch : Nat
  ring : Nat
  seq : Nat
  data : Nat
  body : List Byte
  deriving DecidableEq, Repr

/-- An entry of a correction log (R330); an entry in state FREE is the reset value. -/
structure LogEntry where
  space : Nat
  unit : Nat
  addr : Nat
  /-- FREE 0, WATCH 1, HOT 2, REWRITTEN 3, LASTING 4, UNCORR 5, REPAIRED 6 (R331). -/
  st : Nat
  count : Nat
  src : Nat
  bitA : Nat
  bitB : Nat
  noRepair : Bool
  /-- Device time at which the present window opened, ms (R330). -/
  winStart : Int
  deriving DecidableEq, Repr

/-- A free log entry. -/
def LogEntry.reset : LogEntry := ⟨0, 0, 0, 0, 0, 0, 127, 127, false, 0⟩

/-- What a DDR channel learnt of its DIMMs at training (R319, R590) and its filled blocks (R328). -/
structure DdrSt where
  /-- Training ended with a pass (R320); reset false. -/
  passed : Bool
  /-- Bank groups (R590); reset 0. -/
  bankGroups : Nat
  /-- Banks per bank group (R590); reset 0. -/
  banks : Nat
  /-- Ranks fitted (R590); reset 0. -/
  ranks : Nat
  /-- Device width, 4 or 8 bits (R319); reset 0. -/
  width : Nat
  /-- Blocks of 1 MiB at or above the front whose filled bit is set (R328); reset empty. -/
  filled : List Nat
  deriving DecidableEq, Repr

/-- A DDR channel after reset. -/
def DdrSt.reset : DdrSt := ⟨false, 0, 0, 0, 0, []⟩

/-- A scrubber's lap (R337): the ns counted in it before `since`, and the elapsed time from which it counts; none while it does not. -/
structure ScrubSt where
  acc : Int
  since : Option Int
  deriving DecidableEq, Repr

/-- A lap that begins with the device. -/
def ScrubSt.reset : ScrubSt := ⟨0, some 0⟩

/-- Scalar status, field by field (R55); the reserved bits read 0. -/
structure Sst where
  exl : Bool
  ie : Bool
  ld : Nat
  rnd : Nat
  sat : Bool
  sv : Bool
  av : Bool
  n : Bool
  z : Bool
  c : Bool
  v : Bool
  deriving DecidableEq, Repr

/-- SST after reset (R55): RND half away from zero, SAT 1. -/
def Sst.reset : Sst := ⟨false, false, 0, 1, true, false, false, false, false, false, false⟩

/-- Vector state, field by field (R100); the reserved bits read 0. -/
structure VState where
  rs : Bool
  eidx : Nat
  vsv : Bool
  vav : Bool
  ecode : Nat
  mask : Nat
  deriving DecidableEq, Repr

/-- VSTATE after reset (R100): MASK all ones. -/
def VState.reset : VState := ⟨false, 0, false, false, 0, 0xFFFF⟩

/-- The registers of a Wylen core (R53, R56, R97). PC is the object `CORE_PC`, CORE_STATE the object of that name,
EPOCH the unit's epoch; the memories are State.coreMem. -/
structure CoreSt where
  /-- D0 to D15, 32 bits (R53); reset 0, DESIGN CHOICE (log entry 1). -/
  d : Tab Word
  /-- A0 to A7, 24 bits (R53); reset 0, DESIGN CHOICE (log entry 1). -/
  a : Tab (BitVec 24)
  /-- M0 to M7, 32 bits (R56, R70); reset 0. -/
  m : Tab Word
  /-- ACC0 to ACC3, 40 bits (R53); reset 0, DESIGN CHOICE (log entry 1). -/
  acc : Tab (BitVec 40)
  /-- LC0 to LC3, 32 bits (R56); reset 0. -/
  lc : Tab Word
  /-- LS0 to LS3, 32 bits (R56, R73); reset 0. -/
  ls : Tab Word
  /-- WBASE_0 to WBASE_5, 32 bits (R56, R60); reset 0. -/
  wbase : Tab Word
  /-- SST (R55); reset as R55. -/
  sst : Sst
  /-- ESST, 32 bits (R56); reset 0. -/
  esst : Word
  /-- EPC, 24 bits (R56); reset 0. -/
  epc : Nat
  /-- ECAUSE, 32 bits (R56, R88); reset 0. -/
  ecause : Nat
  /-- EADDR, 48 bits (R56); reset 0. -/
  eaddr : Nat
  /-- VBASE, 32 bits (R56); reset 0. -/
  vbase : Nat
  /-- CYC, 64-bit count of cycles since the core last left OFF (R56); reset 0. -/
  cyc : Nat
  /-- V0 to V31, 128 bits (R97, R102); reset 0. -/
  v : Tab (BitVec 128)
  /-- VA0 to VA3, 8 lanes of 40 bits, lane j of VAi at 8 i + j (R97, R102); reset 0. -/
  va : Tab (BitVec 40)
  /-- VSTATE (R100); reset as R100. -/
  vstate : VState
  /-- Return addresses of CALL, innermost first (R76, log entry 19); reset empty. -/
  calls : List Nat
  /-- Interrupts asserted and not yet taken, codes 0x10 to 0x13 (R85, R90); reset empty. -/
  ints : List Nat
  /-- Posted window stores not yet acknowledged, oldest first: global address and whether the store failed at its
  target (R63, R64); reset empty. -/
  posted : List (Nat × Bool)
  /-- The bundle stalled on a window load or on FENCE (R63, R90); reset none. -/
  stall : Option Bundle
  /-- Units that restarted while the bundle is stalled: what it waits for from one of them is refused (R532); reset empty. -/
  lost : List Nat
  /-- A halt request is held (R94); reset false. -/
  haltReq : Bool
  /-- The state left for HALTED_DEBUG (R94); reset 0. -/
  leftState : Int
  /-- A scheduler call to another hall is on its way (R144, R148); reset false. -/
  callWait : Bool
  /-- Global addresses of failed posted window stores whose error response has arrived and whose WINDOW_ASYNC is not yet taken,
  oldest first (R64, R90); reset empty. -/
  async : List Nat
  /-- CYC from which each interlocked resource serves its slow consumers (R81): ACCn at n, Mn at 16 + n, WIN_k at 32 + k; reset 0. -/
  ready : Tab Nat
  deriving DecidableEq, Repr

/-- A core's registers after reset. -/
def CoreSt.reset : CoreSt :=
  { d := [], a := [], m := [], acc := [], lc := [], ls := [], wbase := [], sst := Sst.reset, esst := 0, epc := 0
    ecause := 0, eaddr := 0, vbase := 0, cyc := 0, v := [], va := [], vstate := VState.reset, calls := [], ints := []
    posted := [], stall := none, lost := [], haltReq := false, leftState := 0, callWait := false, async := [], ready := [] }

/-- A message queue of a hall (R142, R143). -/
structure QueueSt where
  /-- The setting of R142, bits [27:0]; reset 0. -/
  setting : Nat
  /-- Byte offset of the ring in the hall's slice (R142); reset 0. -/
  ring : Nat
  /-- Place of the oldest message in the ring; reset 0. -/
  head : Nat
  /-- Messages held; the messages themselves lie in the ring (R142); reset 0. -/
  count : Nat
  /-- Threads that wait to receive, by arrival, as 4,096 × hall + thread (R143); reset empty. -/
  recv : List Nat
  /-- Threads that wait for room with their messages, by arrival (R143); reset empty. -/
  send : List (Nat × Nat)
  deriving DecidableEq, Repr

/-- A queue after reset. -/
def QueueSt.reset : QueueSt := ⟨0, 0, 0, 0, [], []⟩

/-- A semaphore (R144 to R146). -/
structure SemSt where
  /-- 0 unset, 1 lock, 2 signal (R144); reset unset. -/
  kind : Nat
  /-- The count (R146); reset 0. -/
  count : Nat
  /-- A lock's owner, 4,096 × hall + thread (R144); reset none. -/
  owner : Option Nat
  /-- Threads that wait, by arrival (R146); reset empty. -/
  waiters : List Nat
  deriving DecidableEq, Repr

/-- A semaphore after reset. -/
def SemSt.reset : SemSt := ⟨0, 0, none, []⟩

/-- A call on its way to another hall (R144, R148): the calling thread as 4,096 × hall + thread, the sub-operation,
the semaphore or queue, the message, and the register that takes the status. -/
structure RemoteOp where
  thread : Nat
  sub : Nat
  obj : Nat
  msg : Nat
  dd : Nat
  deriving DecidableEq, Repr

/-- A message of a hardware producer held in the Gallery (R143, R302): its source, node × 64 + endpoint. -/
structure HeldMsg where
  src : Nat
  queue : Nat
  msg : Nat
  deriving DecidableEq, Repr

/-- A hall scheduler beyond its objects; the TCBs and save frames lie in the hall's Terrace slice (R127, R129). -/
structure SchedSt where
  /-- Ready lists by priority, head first (R135); reset empty. -/
  ready : Tab (List Nat)
  /-- The delay list in order of WAKE_TICK (R139); reset empty. -/
  delay : List Nat
  /-- The thread each core of the hall runs, plus one (R130); reset none. -/
  running : Tab Nat
  /-- The thread for which INT_PREEMPT was raised on a core and not yet decided, plus one (R137, R138); reset none. -/
  pre : Tab Nat
  /-- Local queues 0 to 255 (R142). -/
  queues : Tab QueueSt
  /-- Messages waiting in the engine queues 0xF0 to 0xFD, oldest first, each with its place in the hall's order of
  arrival (R169, R174); reset empty. -/
  engq : Tab (List (Nat × Nat))
  /-- The next place in that order; reset 0. -/
  engNo : Nat
  /-- Semaphores 0 to 1,023 of the hall (R144). -/
  sems : Tab SemSt
  /-- The register that takes the status of each waiting thread's call, plus one (R134); reset none. -/
  waits : Tab Nat
  /-- Device time at which each waiting thread's present wait began (R149); reset 0. -/
  since : Tab Int
  /-- Waiting threads whose present wait the watchdog has reported (R149); reset empty. -/
  reported : List Nat
  /-- Cores that wait for a program-memory load (R150); reset empty. -/
  loading : List Nat
  /-- The load's source address (R150); reset 0. -/
  loadSrc : Nat
  /-- The trace ring is full in mode 1 (R154); reset false. -/
  traceFull : Bool
  /-- Return addresses of threads that do not run (log entry 19); reset empty. -/
  calls : Tab (List Nat)
  /-- Operations of other halls on their way to this one, oldest first (R148); reset empty. -/
  inbound : List RemoteOp
  /-- Hold slots in use, at most one per source endpoint (R302); reset empty. -/
  held : List HeldMsg
  deriving DecidableEq, Repr

/-- A hall scheduler after reset. -/
def SchedSt.reset : SchedSt :=
  { ready := [], delay := [], running := [], pre := [], queues := [], engq := [], engNo := 0, sems := [], waits := [], since := [], reported := []
    loading := [], loadSrc := 0, traceFull := false, calls := [], inbound := [], held := [] }

/-- A slot buffer of a carrier (R164 to R167). -/
structure UlBuf where
  /-- IDLE 0, LANDING 1, GAINED 2, CLOSED 3 (R164); reset IDLE. -/
  st : Nat
  /-- The absolute slot number it holds, or held last (R161); reset −1, none. -/
  slot : Int
  /-- When the steering table whose entries it uses came into force (R160); reset 0. -/
  table : Int
  /-- Landed PRBs as a bit mask, by stream × 16 + symbol (R162); reset empty. -/
  landed : Tab Nat
  /-- Gain codes by stream, plus one (R166); reset empty. -/
  gains : Tab Nat
  /-- A clip was counted for the slot (R168); reset false. -/
  clipped : Bool
  /-- Byte offset of the FFT output of a stream's slot, plus one, by stream × 16 + symbol (R183); reset empty. -/
  fftOut : Tab Nat
  /-- DMRS symbols estimated so far: mask of CDM groups used × 4, DMRS_TYPE × 2, and 1 (R175, R178); reset 0. -/
  refs : Tab Nat
  deriving DecidableEq, Repr

/-- A slot buffer after reset. -/
def UlBuf.reset : UlBuf := ⟨0, -1, 0, [], [], false, [], []⟩

/-- An ARM in force for one carrier slot (R173). -/
structure ArmSt where
  carrier : Nat
  slot : Int
  streams : Nat
  symbols : Nat
  gref : Nat
  start : Nat
  count : Nat
  gcOut : Nat
  deriving DecidableEq, Repr

/-- What an engine is executing (R169): the descriptor's offset, its bits as taken, its place in order of arrival,
and the device time at which it was taken. -/
structure EngRun where
  off : Nat
  desc : Nat
  stamp : Nat
  start : Int
  deriving DecidableEq, Repr

/-- A codec of a shared-accelerator block at work (R215): the hall whose queue the descriptor came from, and the descriptor. -/
structure CodecRun where
  hall : Nat
  run : EngRun
  deriving DecidableEq, Repr

/-- A DEC or TURBO whose soft values may be stored at release (R231), or that is being decoded. -/
structure HarqWork where
  hall : Nat
  carrier : Nat
  slot : Int
  desc : Nat
  /-- 0 LDPC, 1 turbo (R228). -/
  kind : Nat
  /-- The half chosen as prior at the take, plus one; 0 none (R230). -/
  prior : Nat
  /-- The descriptor has completed. -/
  complete : Bool
  /-- The carrier slot has been released. -/
  released : Bool
  /-- Blocks decoded so far: passed or not, in order. -/
  passed : List Bool
  /-- The bits each was decoded to in its last pass. -/
  blocks : List (List Bool)
  /-- The transport block CRC passed. -/
  tbOk : Bool
  deriving DecidableEq, Repr

/-- A reception of a preamble correlator (R201). -/
structure PraRx where
  /-- Bin at which it is locked. -/
  bin : Nat
  /-- Evaluation at which its detection window starts. -/
  opened : Nat
  /-- Lowest gain code at detection. -/
  gain : Nat
  /-- Metric at the last evaluation, 1/16 dB. -/
  metric : Int
  /-- Repetitions accumulated. -/
  reps : Nat
  /-- Delay, power and noise at the last evaluation. -/
  delay : Nat
  power : Nat
  noise : Nat
  clip : Bool
  missing : Bool
  latePeak : Bool
  deriving DecidableEq, Repr

/-- A repetition accumulated in the present attempt (R200): the gain code of each stream, the correlation powers by stream, root
and bin, and whether some unit read as zero. -/
structure PraRep where
  codes : List Nat
  corr : List (List (List Nat))
  missing : Bool
  deriving DecidableEq, Repr

/-- A configuration entry of a preamble correlator at work (R201 to R209). -/
structure PraSt where
  /-- Open receptions by preamble (R201); reset none. -/
  rx : List (Nat × PraRx)
  /-- Gain codes in force by stream, plus one (R203, R204); reset none. -/
  codes : Tab Nat
  /-- Gain codes measured on the repetition last evaluated by stream, plus one (R203, R205); reset none. -/
  meas : Tab Nat
  /-- SEQ of the next record (R208); reset 0. -/
  seq : Nat
  /-- Records since the last message (R209); reset 0. -/
  since : Nat
  /-- SFN and slot of the attempt's first repetition (R208); reset 0. -/
  sfn : Nat
  slot : Nat
  /-- Slots of the occasions that a watch entry has seen (R199); reset none. -/
  seen : List Int
  /-- Slot and repetition evaluated last (R200); reset none. -/
  last : Option (Int × Nat)
  /-- The attempt in progress, by the count of its first occasion (R196); reset none. -/
  att : Option Int
  /-- Repetitions accumulated in it (R200); reset none. -/
  acc : List PraRep
  deriving DecidableEq, Repr

/-- A correlator entry after reset. -/
def PraSt.reset : PraSt := ⟨[], [], [], 0, 0, 0, 0, [], none, none, []⟩

/-- The region of LLRs a completed DETECT wrote for one UE (R222). -/
structure LlrRegion where
  hall : Nat
  carrier : Nat
  slot : Int
  first : Nat
  len : Nat
  deriving DecidableEq, Repr

/-- Where the body of a transmit frame lies and who learns its fate (R382, R383, R392). -/
inductive TxSource where
  /-- A downlink frame of a carrier slot, in the carrier's frame store. -/
  | build (hall carrier : Nat) (slot : Int)
  /-- A SEND descriptor of a hall. -/
  | send (hall off desc : Nat)
  /-- Descriptor `idx` of host transmit ring r. -/
  | ring (r idx : Nat)
  /-- A forwarded frame (R395): its ingress port, its arrival, and whether it proved bad. -/
  | fwd (ingress : Nat) (arrival : Int) (bad : Bool)
  /-- A frame the device makes itself: PTP, NAP and ARP replies. -/
  | own
  deriving DecidableEq, Repr

/-- An entry of a transmit queue (R377, R378): a frame with its launch time and window close. -/
structure TxEntry where
  port : Nat
  queue : Nat
  /-- Launch time, ns; 0 immediate until its insertion. -/
  launch : Int
  /-- Window close, ns; 0 none. -/
  close : Int
  /-- Input of the insertion arbiter (R304, R378). -/
  input : Nat
  src : TxSource
  /-- The frame from its destination address, without FCS. -/
  body : List Byte
  /-- The body is staged in the packet buffer (R382). -/
  staged : Bool
  /-- Inserted after its launch time (R381). -/
  late : Bool
  /-- A hold by the guard was counted (R379). -/
  held : Bool
  /-- The launch time passed before the body was staged (R382). -/
  stageLate : Bool
  deriving DecidableEq, Repr

/-- Downlink frames of a carrier slot that were missed (R22, R261, R443). -/
structure DlMiss where
  carrier : Nat
  slot : Int
  count : Nat
  deriving DecidableEq, Repr

/-- How far a carrier slot has been built (R250, R258). -/
structure DlSlot where
  carrier : Nat
  slot : Int
  /-- The highest symbol handed over, plus one. -/
  next : Nat
  deriving DecidableEq, Repr

/-- The frame store of a carrier (R382). -/
structure FsSt where
  /-- Offset in the store at which the next frame is written. -/
  wr : Nat
  /-- Bytes in use. -/
  used : Nat
  deriving DecidableEq, Repr

/-- A frame store after reset. -/
def FsSt.reset : FsSt := ⟨0, 0⟩

/-- A stream of a time-domain carrier (R267 to R269). -/
structure TdSt where
  /-- NORMAL 0, ALARM 1, MUTED 2 (R269); reset NORMAL. -/
  mask : Nat
  /-- Consecutive failures and passes (R269); reset 0. -/
  fails : Nat
  passes : Nat
  /-- Symbols shaped since the last measurement (R268); reset 0. -/
  syms : Nat
  /-- Slot whose tail the carry holds (R267); reset none. -/
  carry : Option Int
  /-- The carry: the samples of that slot's last symbol around its end, with 40 binary places (R265, R267); reset none. -/
  tail : List (Int × Int)
  /-- The samples that the filter met last, the latest first, with 40 binary places (R265); reset none. -/
  hist : List (Int × Int)
  /-- The SHAPE descriptor taken last (R264); reset 0. -/
  par : Nat
  /-- Slots whose SHAPE has been taken, and whose frame 0 was built from the carry alone, up to 1,024 frames back (R267); reset none. -/
  shaped : List Int
  alone : List Int
  /-- Samples of the overlap before a slot's start, and their duration in ns, as the last SHAPE had them (R266, R267);
  reset 0. -/
  lead : Nat
  leadNs : Int
  deriving DecidableEq, Repr

/-- A stream after reset. -/
def TdSt.reset : TdSt := ⟨0, 0, 0, 0, none, [], [], 0, [], [], 0, 0⟩

/-- The context-store engine beyond its objects (R275, R288, R591). -/
structure CtxSt where
  /-- High-water count of entry numbers (R275); reset 0. -/
  high : Nat
  /-- Entry numbers on the free stack (R275); reset 0. -/
  stack : Nat
  /-- The 64 ways of the stash, as R277; 0 is free (R279); reset free. -/
  stash : Tab Nat
  /-- The clear of an empty start is under way (R591); reset false. -/
  clearing : Bool
  /-- `CTX_BASE`, `CTX_ENTRIES` and `CTX_SEED` when last in service (R591); reset none. -/
  last : Option (Int × Int × Int)
  /-- The bucket the sweep visits next (R288); reset 0. -/
  sweep : Nat
  /-- The present ms of operations and their number (R291); reset 0. -/
  opMs : Int
  opCount : Nat
  /-- TOUCHes not yet mirrored: entry numbers, oldest first (R289); reset empty. -/
  touched : List Nat
  /-- Device time of the last uncorrectable bucket or stack read that did not fault (R533); reset none. -/
  badRead : Option Int
  deriving DecidableEq, Repr

/-- The engine after reset. -/
def CtxSt.reset : CtxSt := ⟨0, 0, [], false, none, 0, 0, 0, [], none⟩

/-- What a step waits to do until the standby has acknowledged its frame (R546). -/
inductive PairAct where
  /-- An engine's completion: hall, engine, descriptor offset (of engine 11 the JSEQ of its journal entry) and bits, status, MEAS_A and
  MEAS_B, cycles. -/
  | engine (hall eng : Nat) (off desc status a b cycles : Nat)
  /-- Acceptance of the next descriptor of a job ring (R438). -/
  | accept (ring : Nat) (seq : Nat)
  /-- A completion record of a ring may be written (R446). -/
  | record (ring : Nat) (seq : Nat)
  /-- A dictionary write may be acknowledged (R463). -/
  | dict
  /-- A `CR_HEAD` doorbell takes effect (R446). -/
  | crHead (ring : Nat) (value : Nat)
  /-- The last SYNC frame (R547). -/
  | synced
  deriving DecidableEq, Repr

/-- A Dravut frame sent and not acknowledged (R545). -/
structure DravutSent where
  ty : Nat
  fseq : Nat
  payload : List Byte
  acts : List PairAct
  deriving DecidableEq, Repr

/-- An arbiter beyond its objects (R304 to R310). -/
structure ArbSt where
  /-- Ages of the inputs (R307); reset 0. -/
  ages : Tab Nat
  /-- Rounds lost by each input since its last grant (R313); reset 0. -/
  lost : Tab Nat
  /-- Pointer, holder and freeze bits of a router arbiter, which has no objects; reset 0, 255, none, and 0. -/
  ptr : Nat
  holder : Nat
  frozen : Nat
  /-- A row of the bank is being repaired, and every input is frozen (R334); reset false. -/
  repair : Bool
  /-- Requests held, one bit an input: of WAITING inputs, and of FROZEN ones that asked (R306, R310); reset 0. -/
  pend : Nat
  deriving DecidableEq, Repr

/-- An arbiter after reset. -/
def ArbSt.reset : ArbSt := ⟨[], [], 0, 255, 0, false, 0⟩

/-- A link out of a router (R300, R305): for each class the packet crossing it, as class, input and flits to go, and the flit slots
each class has lost in a row while it waited. -/
structure GalLink where
  moving : List (Nat × Nat × Nat)
  lost : Tab Nat
  deriving DecidableEq, Repr

/-- A link after reset. -/
def GalLink.reset : GalLink := ⟨[], []⟩

/-- The mesh of the Gallery (R293 to R301). -/
structure GalSt where
  /-- Packets in the buffer of class c at input i of router n, the first to leave first: key 20 n + 4 i + c; reset empty. -/
  bufs : Tab (List GalPacket)
  /-- Links: output o of router n at 5 n + o. -/
  links : Tab GalLink
  /-- Packets at a node's ingress not yet released, in order of arrival (R301); reset empty. -/
  ingress : Tab (List GalPacket)
  /-- Flits of credit taken at target d by source s in class c: key (20 d + s) × 4 + c (R301); reset 0. -/
  used : Tab Nat
  /-- Room reserved for responses, by requester (node × 64 + endpoint) and TAG, oldest first (R301); reset empty. -/
  rooms : List (Nat × Nat)
  deriving DecidableEq, Repr

/-- The mesh after reset: nothing on the way. -/
def GalSt.reset : GalSt := ⟨[], [], [], [], []⟩

/-- The checker of a lane (R363). -/
structure PrbsSt where
  /-- Bits before the next one, newest first, at most 64: received until the checker locks, then of the pattern; reset empty. -/
  hist : List Bool
  /-- Error-free bits in a row before lock; reset 0. -/
  run : Nat
  /-- Errors of the last 1,024 bits compared in lock, newest first; reset empty. -/
  last : List Bool
  deriving DecidableEq, Repr

/-- A checker that has to seed itself. -/
def PrbsSt.reset : PrbsSt := ⟨[], 0, []⟩

/-- A lane beyond its objects (R348, R352, R357 to R361). -/
structure LaneSt where
  /-- Auto-negotiation is complete, the CDR is locked, block lock and marker lock are held; reset false. -/
  an : Bool
  cdr : Bool
  blockLock : Bool
  markLock : Bool
  /-- MSEQ of the last valid marker (R352); reset none. -/
  mseq : Option Nat
  /-- Expected marker positions without a valid marker, in a row; reset 0. -/
  markMiss : Nat
  /-- DONE was sent and received (R358); reset false. -/
  sentDone : Bool
  recvDone : Bool
  /-- A trial step is pending, with the FoM before it (R359); reset false. -/
  pending : Bool
  before : Int
  /-- The direction of trials (R359); reset +1. -/
  dir : Int
  /-- The coefficient of the next or pending trial: 0 CTLE, 1 POST, 2 PRE (R359); reset 0. -/
  trial : Nat
  /-- The partner's POST and PRE taps in the present set and in the snapshot (R359); reset 0. -/
  post : Nat
  pre : Nat
  snapPost : Nat
  snapPre : Nat
  /-- Device time of the snapshot, and the time until which a revert holds (R359); reset 0. -/
  snapTime : Int
  holdUntil : Int
  reverted : Bool
  /-- The next adaptation period takes no step (R360); reset false. -/
  skip : Bool
  /-- A run of windows below `LANE_FOM_MIN` was reported (R356); reset false. -/
  lowRun : Bool
  /-- CTLE or far-end taps changed within the present window (R356); reset false. -/
  touched : Bool
  /-- Training failures in a row (R533); reset 0. -/
  fails : Nat
  /-- Device time until which the checker counts nothing (R363); reset 0. -/
  prbsHold : Int
  /-- The checker (R363). -/
  chk : PrbsSt
  /-- The port is in low-power idle; the partner holds training (R360); reset false. -/
  lpi : Bool
  held : Bool
  deriving DecidableEq, Repr

/-- A lane after reset. -/
def LaneSt.reset : LaneSt :=
  { an := false, cdr := false, blockLock := false, markLock := false, mseq := none, markMiss := 0, sentDone := false
    recvDone := false, pending := false, before := 0, dir := 1, trial := 0, post := 0, pre := 0, snapPost := 0
    snapPre := 0, snapTime := 0, holdUntil := 0, reverted := false, skip := false, lowRun := false, touched := false
    fails := 0, prbsHold := 0, chk := PrbsSt.reset, lpi := false, held := false }

/-- An Ethernet port beyond its objects (R372, R379, R384, R385). -/
structure PortSt where
  /-- Alignment lock of a multi-lane port (R349); reset false. -/
  aligned : Bool
  /-- The frame on the wire (R380); reset none. -/
  sending : Option TxEntry
  /-- Device time until which each queue is stopped (R385); reset 0. -/
  stopped : Tab Int
  /-- Priorities whose XOFF or XON waits to be sent, as masks (R384); reset 0. -/
  xoff : Nat
  xon : Nat
  /-- Occupancy by priority (R384); reset empty. -/
  occ : List Nat
  deriving DecidableEq, Repr

/-- A port after reset. -/
def PortSt.reset : PortSt := ⟨false, none, [], 0, 0, []⟩

/-- An Ethernet receive ring beyond its objects (R387 to R391). -/
structure ErxSt where
  /-- Descriptors posted since the ring was enabled (R433); reset 0. -/
  posted : Nat
  /-- The device's position (R390); reset 0. -/
  pos : Nat
  /-- ADDR of each posted descriptor not yet used, oldest first; reset empty. -/
  addrs : List Nat
  /-- The ring fell below `ERX_XOFF` and has not reached `ERX_XON` since (R391); reset false. -/
  low : Bool
  deriving DecidableEq, Repr

/-- A receive ring after reset. -/
def ErxSt.reset : ErxSt := ⟨0, 0, [], false⟩

/-- An Ethernet transmit ring beyond its objects (R392, R433). -/
structure EtxSt where
  /-- Descriptors posted since the ring was enabled; reset 0. -/
  posted : Nat
  /-- Completion index (R392); reset 0. -/
  done : Nat
  /-- Descriptors written back beyond that index; reset empty. -/
  written : List Nat
  /-- Descriptors fetched and not yet written back, as index and bits; reset empty. -/
  open_ : List (Nat × Nat)
  deriving DecidableEq, Repr

/-- A transmit ring after reset. -/
def EtxSt.reset : EtxSt := ⟨0, 0, [], []⟩

/-- What a port last heard of its master (R408, R409). -/
structure PtpMaster where
  msg : PtpMsg
  /-- Announces heard of it. -/
  heard : Nat
  deriving DecidableEq, Repr

/-- The time unit beyond its objects (R406 to R421). -/
structure TimeSt where
  /-- The part of the fraction below 2^−16 ns, in 10^−9 of it (R406); reset 0. -/
  resid : Int
  /-- freq_int of R410, 2^−16 ppb; reset 0. -/
  freqInt : Int
  /-- The last 15 offsets, newest first (R410); reset empty. -/
  offsets : List Int
  /-- ρ as it changed, newest first, with the device time of each change (R414, R417); reset empty. -/
  rhoLog : List (Int × Int)
  /-- Since when the offset has stayed below `TIME_LOCK_THRESH` (R417); reset none. -/
  lockSince : Option Int
  /-- Entry into HOLDOVER (R417, R424); reset 0. -/
  holdEntry : Int
  /-- ACQUIRING was entered from HOLDOVER (R417); reset false. -/
  fromHold : Bool
  /-- Full values of the armed triggers (R421); reset 0. -/
  trigs : Tab Int
  /-- Device time of the last edge of `PPS_IN` (R417); reset none. -/
  lastPps : Option Int
  /-- The port in SLAVE (R409); reset none. -/
  slave : Option Nat
  /-- The masters heard, by port (R409); reset none. -/
  masters : Tab (Option PtpMaster)
  /-- ρ as measured on the SyncE source, and its prior value, 2^−16 ppb (R413, R414); reset 0. -/
  synceRho : Int
  /-- The SyncE source is disqualified (R414); reset false. -/
  synceBad : Bool
  /-- `TIME_SET` was taken in the present period of `TD_0` (R423); reset false. -/
  justSet : Bool
  deriving DecidableEq, Repr

/-- The time unit after reset. -/
def TimeSt.reset : TimeSt :=
  { resid := 0, freqInt := 0, offsets := [], rhoLog := [], lockSince := none, holdEntry := 0, fromHold := false
    trigs := [], lastPps := none, slave := none, masters := [], synceRho := 0, synceBad := false, justSet := false }

/-- A staging context (R465, R468). -/
structure StageSt where
  /-- Staged values by object number (R456); reset empty. -/
  vals : Tab Int
  /-- Staged STR and DOMAIN values by object number; reset empty. -/
  doms : Tab (List Byte)
  /-- The commit instant of an armed context (R467); reset 0. -/
  tc : Int
  /-- Carriers that the set admits or changes, with their configuration (R16, R435); reset empty. -/
  cfgs : Tab CarrierCfg
  /-- Carriers that the set takes out of admission; reset empty. -/
  removed : List Nat
  /-- The halls chosen at arming (R17, R18), by carrier; reset empty. -/
  halls : Tab Nat
  deriving DecidableEq, Repr

/-- A staging context after reset. -/
def StageSt.reset : StageSt := ⟨[], [], 0, [], [], []⟩

/-- An accepted job (R434 to R446). -/
structure JobSt where
  seq : Nat
  /-- The descriptor. -/
  desc : Nat
  /-- The absolute slot its SFN and SLOT named at acceptance. -/
  slot : Int
  /-- Its place in the order of acceptance (R438). -/
  jseq : Nat
  /-- `JR_ACCEPTED` of every ring when it was accepted (R437). -/
  seen : Tab Nat
  /-- 0 accepted, 1 waits for dependencies, 2 runs, 3 finished, 4 its gate entry awaits the standby, 5 past the completion
  gate, 6 record written. -/
  st : Nat
  /-- The hall it runs in; 255 none. -/
  hall : Nat
  /-- The dependencies it waits for. -/
  deps : List (Nat × Nat)
  /-- OUTCOME, REASON and DETAIL once finished without the firmware's part (R443, R444); 0 otherwise. -/
  outcome : Nat
  reason : Nat
  detail : Nat
  /-- Its work was lost and runs again (R446). -/
  redo : Bool
  /-- Bytes written to the result buffer. -/
  result : List Byte
  /-- Not every message fitted (R442). -/
  trunc : Bool
  /-- The completion record, once past the gate. -/
  record : List Byte
  deriving DecidableEq, Repr

/-- A job ring pair beyond its objects (R438 to R445). -/
structure RingSt where
  /-- The tail last taken (R440); reset 0. -/
  tail : Nat
  /-- The SEQ of the next descriptor to take (R438); reset 0. -/
  fetch : Nat
  /-- Device time of the first record not yet signalled (R445); reset none. -/
  unsignalled : Option Int
  /-- Accepted jobs, oldest first; reset empty. -/
  jobs : List JobSt
  deriving DecidableEq, Repr

/-- A ring after reset. -/
def RingSt.reset : RingSt := ⟨0, 0, none, []⟩

/-- A NAP session record (R477): its last SEQ and reply, and what R476 keeps for it. -/
structure NapSt where
  valid : Bool
  session : Nat
  seq : Nat
  /-- Requests answered by all records when it was last used; the lowest is idle longest. -/
  used : Nat
  /-- The reply datagram, and the frame that carries it with its port. -/
  reply : List Byte
  frame : List Byte
  port : Nat
  /-- The request has executed and its writes are not yet acknowledged (R463, R477). -/
  busy : Bool
  /-- The object and the snapshot of DOMAIN_READ. -/
  snapObj : Nat
  snap : List Byte
  /-- The object and the assembled bytes of DOMAIN_WRITE. -/
  asmObj : Nat
  asm : List Byte
  deriving DecidableEq, Repr

/-- A session record after reset. -/
def NapSt.reset : NapSt := ⟨false, 0, 0, 0, [], [], 0, false, 0, [], 0, []⟩

/-- The I3C target (R478). -/
structure I3cSt where
  /-- Dynamic address; reset none. -/
  da : Option Nat
  /-- In-band interrupts are enabled (ENEC); reset false, DESIGN CHOICE (log entry 52). -/
  ibi : Bool
  /-- A reply is ready; reset false. -/
  ready : Bool
  deriving DecidableEq, Repr

/-- The target after reset. -/
def I3cSt.reset : I3cSt := ⟨none, false, false⟩

/-- What a rollback or gate request records once its units have restarted (R491, R492). -/
structure PwrBack where
  result : Nat
  unit : Option Nat
  code : Nat
  deriving DecidableEq, Repr

/-- The power controller beyond its objects (R484 to R502). Unit numbers are those of R529; 300 + q is lane quad q
and 400 the reliability manager. -/
structure PwrSt where
  /-- VIN is above the thresholds of R484, and `PWR_EN` is high; reset true. -/
  vin : Bool
  en : Bool
  /-- The entry under way: 1 a gate request, 2 to 4 its target; 0 none (R487); reset 0. -/
  target : Nat
  /-- Units still to be asked (R489); reset empty. -/
  todo : List Nat
  /-- Units this entry stopped, latest first; reset empty. -/
  stopped : List Nat
  /-- Delays granted to the present unit, µs (R490); reset 0. -/
  waited : Nat
  /-- A granted delay is running; reset false. -/
  waiting : Bool
  /-- The entry is committed and its final steps run (R493); reset false. -/
  committed : Bool
  /-- Wake sources asserted and not taken (R494, R495); reset empty. -/
  wakes : List Nat
  /-- A wake was taken and the exit is due (R496); reset false. -/
  exitDue : Bool
  /-- Units that ran before the entry (R496); reset empty. -/
  ran : List Nat
  /-- Steps of the ladder still to take, as rung and unit (R497); reset empty. -/
  ladder : List (Nat × Nat)
  /-- Units of a rollback or gate request still to restart, and what is recorded then (R491, R500); reset none. -/
  restart : List Nat
  back : Option PwrBack
  deriving DecidableEq, Repr

/-- The controller after reset. -/
def PwrSt.reset : PwrSt := ⟨true, true, 0, [], [], 0, false, false, [], false, [], [], [], none⟩

/-- The thermal tests (R580, R581, R589). -/
structure ThermSt where
  /-- Consecutive samples at or above 118 °C by sensor; reset 0. -/
  runs : Tab Nat
  /-- The 60 s hold after a trip is running; reset false. -/
  hold : Bool
  deriving DecidableEq, Repr

/-- The tests after reset. -/
def ThermSt.reset : ThermSt := ⟨[], false⟩

/-- Summerhouse beyond its objects (R508 to R521). -/
structure ShSt where
  /-- The slot it booted from: 1 A, 2 B, 0 none (R511); reset 0. -/
  slot : Nat
  /-- Copies of the entries of `PRA_CFG_TABLE` and of the endpoint table by watch entry (R516); reset empty. -/
  cfgs : Tab (List Byte)
  eps : Tab (List Byte)
  /-- Hit times by watch entry, ms (R521); reset empty. -/
  hits : Tab (List Int)
  /-- SEQ of the next record of `SH_WATCH_LOG` (R520); reset 0. -/
  logSeq : Nat
  deriving DecidableEq, Repr

/-- Summerhouse after reset. -/
def ShSt.reset : ShSt := ⟨0, [], [], [], 0⟩

/-- The snapshots of the Stairway (R556). -/
structure SnapSt where
  /-- Armed times; reset empty. -/
  armed : List Int
  /-- The latched counters and pair objects, by object number; reset empty. -/
  objs : Tab Int
  /-- The latched unit states; reset empty. -/
  units : Tab UnitSt
  deriving DecidableEq, Repr

/-- The snapshots after reset. -/
def SnapSt.reset : SnapSt := ⟨[], [], []⟩

/-- The pair logic beyond its objects (R543 to R550). -/
structure PairSt where
  /-- The link is up by heartbeats and lanes (R544, R545); reset false. -/
  up : Bool
  /-- Consecutive missing heartbeats (R549); reset 0. -/
  missed : Nat
  /-- The partner's role and state as its last heartbeat gave them (R549); reset 0. -/
  role : Nat
  st : Nat
  deriving DecidableEq, Repr

/-- The pair logic after reset. -/
def PairSt.reset : PairSt := ⟨false, 0, 0, 0⟩

/-- One direction of the Munov chain (R553, under R545). -/
structure MunovSt where
  next : Nat
  expect : Nat
  sent : List DravutSent
  deriving DecidableEq, Repr

/-- A direction after reset (log entry 45). -/
def MunovSt.reset : MunovSt := ⟨1, 1, []⟩

/-- The state of the block. -/
@[ext]
structure State where
  /-- Commands that wait, first in first out (the model's own); reset empty. -/
  pending : List Instr
  /-- Free values used so far (the model's own, log entry 3); reset 0, DESIGN CHOICE. -/
  freeCtr : Nat
  /-- Scalar dictionary objects that differ from their defaults (R456); reset empty. -/
  objs : Tab Int
  /-- STR and DOMAIN objects that differ from all zero (R456); reset empty. -/
  doms : Tab (List Byte)
  /-- EVT events raised, newest first; reset empty. -/
  events : List Evt
  /-- What the block has sent outside, newest first (the model's own); reset empty. -/
  outbox : List OutMsg
  /-- Pacers 0 to 15 of the halls, 16 West, 17 East (R46). -/
  pace : Tab PaceSt
  /-- Dictionary writes taken and not yet acknowledged, oldest first (R462, R463); reset empty. -/
  unacked : List Unacked
  /-- Units 0 to 279 (R529). -/
  units : Tab UnitSt
  /-- Pins and module-wide conditions. -/
  pins : Pins
  /-- Global memory: bytes by global address, canonical, unlisted bytes read 0 (R315, R326, R327). -/
  mem : Tab Byte
  /-- Journal entries not reclaimed, oldest first (R536, R537, R540); reset empty. -/
  journal : List JEntry
  /-- Next journal sequence number (R438, R537); reset 0, DESIGN CHOICE (log entry 1). -/
  jseqNext : Nat
  /-- Flipped bits of stored 80-bit words, by word key (R323, R324); unlisted words hold what was written. -/
  upsets : Tab Nat
  /-- Correction logs: entry i of controller m at 64 m + i (R329, R330). -/
  eccLog : Tab LogEntry
  /-- Log entries queued for a targeted rewrite, oldest first (R333). -/
  hotQueue : List Nat
  /-- Controllers whose present lap was reported late (R337): 1 if so. -/
  scrubLated : Tab Nat
  /-- The present laps of controllers 0 to 25 (R337); reset counting from 0. -/
  scrub : Tab ScrubSt
  /-- Periods of `TD_0` that have passed, in ns: no step of device time changes it (R337); reset 0. -/
  elapsed : Int
  /-- DDR channels 0 to 7. -/
  ddr : Tab DdrSt
  /-- Spare rows used, by sub-bank: 48 h + 4 bank + sub for halls, 768 + n for the packet buffer (R317, R334). -/
  sparesUsed : Tab Nat
  /-- Free sPPR resources: device and bank group of a channel (R335), by key. -/
  sppr : Tab Nat
  /-- The repair list in the boot flash: word keys of the rows repaired, oldest first (R336). -/
  repairs : List Nat
  /-- Core program, X and Y memories: local address a of core c at 2^24 c + a (R58); unlisted bytes read 0 (R326). -/
  coreMem : Tab Byte
  /-- Cores 0 to 191 (R53). -/
  cores : Tab CoreSt
  /-- Hall schedulers 0 to 15. -/
  sched : Tab SchedSt
  /-- Admitted carriers as configured (R16, R418), by carrier; unlisted carriers are NR at 15 kHz. -/
  carriers : Tab CarrierCfg
  /-- Steering tables that came into force, newest first, each with its commit slot's T (R160); reset empty: the
  table in force before the first is empty. -/
  steer : List (Int × List Byte)
  /-- Carrier slots with an accepted uplink job, as carrier and absolute slot (R23, R162); reset empty. -/
  ulJobs : List (Nat × Int)
  /-- Carrier slots with an accepted downlink job whose build is not yet released (R151); reset empty. -/
  dlJobs : List (Nat × Int)
  /-- Last eCPRI SEQ_ID of a section identity, plus one (R162); by endpoint, eAxC and filter; reset none. -/
  ulSeq : Tab Nat
  /-- Slot buffers: buffer i of carrier c at 8 c + i (R164). -/
  ulBufs : Tab UlBuf
  /-- Gain code of a stream's previous slot, plus one: stream t of carrier c at 32 c + t (R166); reset none. -/
  ulPrev : Tab Nat
  /-- ARMs in force (R173); reset empty. -/
  arms : List ArmSt
  /-- Engines that execute a descriptor: engine e of hall h at 16 h + e (R169); reset none. -/
  engBusy : Tab (Option EngRun)
  /-- What `POL_0` to `POL_3` (0 to 3), `TUR_0` and `TUR_1` (4, 5) execute (R214, R215); reset none. -/
  codecs : Tab (Option CodecRun)
  /-- Estimate group and streams of H buffers, as HG + 4 × STREAM_MASK: buffer b of hall h at 65536 h + b (R175,
  R182); reset 0. -/
  hBufs : Tab Nat
  /-- PRBs per group of the Rnn buffer that the last CHEST with IRC wrote, by hall × 65,536 + RNN_OUT (R175, R176); reset empty. -/
  rnnBufs : Tab Nat
  /-- DEC and TURBO work not yet stored or done with, oldest first (R231, R234); reset empty. -/
  harq : List HarqWork
  /-- Pool slots allocated: 1 if committed or being written (R226); reset none. -/
  harqPool : Tab Nat
  /-- Iterations and blocks counted toward `DEC_AVG_ITERS`: iterations of the last 4,096 blocks by hall, newest first
  (R245); reset empty. -/
  decIters : Tab (List Nat)
  /-- Correlator entries 0 to 255 (R201). -/
  pra : Tab PraSt
  /-- Carrier slots whose accepted uplink request names a PRACH occasion (R194); reset empty. -/
  praJobs : List (Nat × Int)
  /-- LLR regions written by completed DETECTs of slots not yet released (R222); reset empty. -/
  llrDone : List LlrRegion
  /-- Transmit maps that came into force, newest first, each with its commit slot's T (R259); reset empty. -/
  txMaps : List (Int × List Byte)
  /-- Carrier slots built so far, newest first (R250, R258); reset empty. -/
  dlSlots : List DlSlot
  /-- Frames missed by carrier slot (R22, R443); reset empty. -/
  dlMissed : List DlMiss
  /-- Frame stores by carrier (R382). -/
  frameStores : Tab FsSt
  /-- eCPRI SEQ_ID of the next frame of a stream: stream t of carrier c at 256 c + t, C-plane 128 higher; reset 0. -/
  txSeq : Tab Nat
  /-- Streams of time-domain carriers: stream t of carrier c at 8 c + t (R269). -/
  td : Tab TdSt
  /-- Entries offered to a port and not yet inserted, in order of handover (R377); reset empty. -/
  txOffers : List TxEntry
  /-- The context-store engine. -/
  ctx : CtxSt
  /-- Dravut frames sent and not acknowledged, oldest first (R545); reset empty. -/
  dravutOut : List DravutSent
  /-- FSEQ of the next frame sent, and of the next expected (R545); reset 1, DESIGN CHOICE (log entry 45). -/
  dravutNext : Nat
  dravutExpect : Nat
  /-- Arbiters: 0 to 252 with objects (R304), then 253 + 20 n + 4 o + class for output o of the router of hall n. -/
  arbs : Tab ArbSt
  /-- The last epoch a target has seen of a source unit (R530): target node × 64 + endpoint, × 512, + unit. -/
  galEpochs : Tab Nat
  /-- The mesh. -/
  gal : GalSt
  /-- Lanes 0 to 55. -/
  lanes : Tab LaneSt
  /-- Ethernet ports 0 to 47. -/
  ports : Tab PortSt
  /-- Entries of the transmit queues in queue order (R377, R378); reset empty. -/
  txQueue : List TxEntry
  /-- Ethernet receive and transmit rings 0 to 63. -/
  erx : Tab ErxSt
  etx : Tab EtxSt
  /-- The time unit. -/
  time : TimeSt
  /-- Staging contexts 0 to 63 (R465). -/
  staged : Tab StageSt
  /-- Job ring pairs 0 to 255. -/
  rings : Tab RingSt
  /-- Functions with Bus Master Enable set (R448); reset empty, PRESUMED (log entry 53). -/
  bme : List Nat
  /-- MSI-X vectors masked, and pending, as 32 × function + vector (R432); reset empty. -/
  msixMasked : List Nat
  msixPending : List Nat
  /-- DOMAIN windows by function (R473); reset all zero. -/
  windows : Tab (List Byte)
  /-- NAP session records 0 to 31 of classes M and F, 32 of class B, 33 of class P (R477, R478, R545). -/
  naps : Tab NapSt
  /-- The I3C target. -/
  i3c : I3cSt
  /-- Values that staged commits replaced, newest first: commit instant, object number, value (R469); reset empty. -/
  stageLog : List (Int × Nat × Int)
  /-- Journal copies of long writes in the Lodge's region: JSEQ, offset and length (R538); reset empty. -/
  jcopies : List (Nat × Nat × Nat)
  /-- The power controller. -/
  pwr : PwrSt
  /-- The thermal tests. -/
  therm : ThermSt
  /-- Summerhouse. -/
  sh : ShSt
  /-- The boot flash by byte offset (R509); an unlisted byte reads 0xFF, erased (log entry 54). -/
  flash : Tab Byte
  /-- Snapshots of the Stairway. -/
  stairSnap : SnapSt
  /-- Arrivals of the open round of each barrier group, as source and reply queue (R555): sources 0 to 15 are halls, 16 the
  partner, 16 + a device a of the chain; reset empty. -/
  stair : Tab (List (Nat × Nat))
  /-- Broadcasts not yet taken by every hall: the sender's hall, its reply queue and the message (R555); reset empty. -/
  stairDone : List (Nat × Nat × Nat)
  /-- The pair logic. -/
  pair : PairSt
  /-- The Munov chain: 0 upstream, 1 downstream. -/
  munov : Tab MunovSt
  deriving DecidableEq, Repr


/-- The reasons a step faults. No command of this model faults: a command whose condition does not hold changes
nothing, and what the spec calls a fault is an effect on the state. The one name is kept for a later layer. -/
inductive Fault where
  /-- Raised by no meaning. Safe. -/
  | none
  deriving DecidableEq, Repr

/-- The reasons a step refuses. -/
inductive Refusal where
  /-- Raised by the dispatch for a command that has no meaning yet. Safe: the machine stops. -/
  | notModelled (mnemonic : String)
  deriving DecidableEq, Repr

/-- The block right after reset: every object at its default, every structure empty. -/
def State.reset : State :=
  { pending := [], freeCtr := 0, objs := [], doms := [], events := [], outbox := [], pace := [], unacked := [],
    units := [], pins := Pins.reset,
    mem := [], journal := [], jseqNext := 0,
    upsets := [], eccLog := [], hotQueue := [], scrubLated := [], scrub := [], elapsed := 0, ddr := [], sparesUsed := [], sppr := [], repairs := [],
    coreMem := [],
    cores := [],
    sched := [],
    carriers := [], steer := [], ulJobs := [], dlJobs := [], ulSeq := [], ulBufs := [], ulPrev := [], arms := [], engBusy := [], codecs := [],
    hBufs := [], rnnBufs := [], harq := [], harqPool := [], decIters := [], pra := [],
    praJobs := [], llrDone := [], txMaps := [], dlSlots := [], dlMissed := [], frameStores := [], txSeq := [], td := [], txOffers := [],
    ctx := CtxSt.reset, dravutOut := [], dravutNext := 1, dravutExpect := 1,
    arbs := [], galEpochs := [], gal := GalSt.reset, lanes := [], ports := [], txQueue := [], erx := [], etx := [], time := TimeSt.reset,
    staged := [],
    rings := [], bme := [], msixMasked := [], msixPending := [], windows := [], naps := [], i3c := I3cSt.reset, stageLog := [],
    jcopies := [], pwr := PwrSt.reset, therm := ThermSt.reset, sh := ShSt.reset, flash := [], stairSnap := SnapSt.reset, stair := [], stairDone := [],
    pair := PairSt.reset, munov := [] }

end Sys2Proof.Machine
end

