-- ==== Sys2Proof/Machine/Ops.lean ====
section
/-! DEFINITION. The named operations every meaning is written over: bit fields and byte order, sparse tables,
the object store, device time, memory, events and outputs, and the Lodge's checks of one access. -/

namespace Sys2Proof.Machine

/-! ### Bit fields and bytes -/

/-- Bits [hi:lo] of a number. -/
def bits (w hi lo : Nat) : Nat := (w / 2 ^ lo) % 2 ^ (hi - lo + 1)

/-- Bit i of a number. -/
def bitAt (w i : Nat) : Bool := (w / 2 ^ i) % 2 == 1

/-- The number a field of `n` bits holds, read as two's complement. -/
def signExt (n w : Nat) : Int := if w % 2 ^ n < 2 ^ (n - 1) then (w % 2 ^ n : Nat) else ((w % 2 ^ n : Nat) : Int) - 2 ^ n

/-- An integer as a two's-complement field of `n` bits. -/
def toField (n : Nat) (v : Int) : Nat := (v % (2 ^ n : Int)).toNat

/-- A little-endian number (R9). -/
def leNat : List Byte → Nat
  | [] => 0
  | b :: bs => b.toNat + 256 * leNat bs

/-- A big-endian number (R9, frames). -/
def beNat (l : List Byte) : Nat := l.foldl (fun a b => a * 256 + b.toNat) 0

/-- `n` little-endian bytes of a number. -/
def leBytes : Nat → Nat → List Byte
  | 0, _ => []
  | n + 1, v => BitVec.ofNat 8 v :: leBytes n (v / 256)

/-- `n` big-endian bytes of a number. -/
def beBytes (n v : Nat) : List Byte := (leBytes n v).reverse

/-- `n` bytes from offset `o` of a block, zero beyond its end. -/
def slice (o n : Nat) (l : List Byte) : List Byte :=
  let p := (l.drop o).take n
  p ++ List.replicate (n - p.length) 0

/-- The little-endian number at bytes `o` to `o + n - 1`. -/
def leAt (o n : Nat) (l : List Byte) : Nat := leNat (slice o n l)

/-- A block with the bytes `p` laid over it from offset `o`. -/
def overlay (o : Nat) (p l : List Byte) : List Byte :=
  slice 0 o l ++ p ++ l.drop (o + p.length)

/-- CRC-32C (polynomial 0x1EDC6F41, reflected), one bit step. -/
def crc32cBit (c : Nat) : Nat := if c % 2 = 1 then (c / 2) ^^^ 0x82F63B78 else c / 2

/-- CRC-32C over one byte. -/
def crc32cByte (c : Nat) (b : Byte) : Nat :=
  crc32cBit (crc32cBit (crc32cBit (crc32cBit (crc32cBit (crc32cBit (crc32cBit (crc32cBit (c ^^^ b.toNat))))))))

/-- CRC-32C of a block, initial value and final exclusive-or all ones. -/
def crc32c (l : List Byte) : Nat := (l.foldl crc32cByte 0xFFFFFFFF) ^^^ 0xFFFFFFFF

/-! ### Sparse tables -/

/-- What a table lists at a number. -/
def tabFind {α : Type} : Tab α → Nat → Option α
  | [], _ => none
  | (j, v) :: r, k => if j = k then some v else tabFind r k

/-- The value at a number: what is listed, else the default. -/
def tabGet {α : Type} (d : α) (t : Tab α) (k : Nat) : α := (tabFind t k).getD d

/-- The table without a number. -/
def tabErase {α : Type} : Tab α → Nat → Tab α
  | [], _ => []
  | (j, v) :: r, k => if j = k then tabErase r k else (j, v) :: tabErase r k

/-- A pair put in its place by number. -/
def tabInsert {α : Type} : Tab α → Nat → α → Tab α
  | [], k, v => [(k, v)]
  | (j, w) :: r, k, v => if k < j then (k, v) :: (j, w) :: r else (j, w) :: tabInsert r k v

/-- The table with a value at a number; writing the default removes the entry. -/
def tabSet {α : Type} [DecidableEq α] (d : α) (t : Tab α) (k : Nat) (v : α) : Tab α :=
  if v = d then tabErase t k else tabInsert (tabErase t k) k v

/-- The canonical form of a table: numbers strictly rising, no entry equal to what an unlisted number reads as. -/
abbrev TabWf {α : Type} (d : Nat → α) (t : Tab α) : Prop :=
  t.Pairwise (fun a b => a.1 < b.1) ∧ ∀ p ∈ t, p.2 ≠ d p.1

/-! ### Dictionary objects -/

/-- The number under which an instance of an object is stored. -/
def objKey (o : Obj) (n : Nat) : Nat := o.ctorIdx + 1024 * n

/-- The present value of an object (R457). -/
def State.obj (s : State) (o : Obj) (n : Nat) : Int := tabGet (o.default n) s.objs (objKey o n)

/-- An object's value as a natural number. -/
def State.objN (s : State) (o : Obj) (n : Nat) : Nat := (s.obj o n).toNat

/-- The state with an object's value set. -/
def State.setObj (s : State) (o : Obj) (n : Nat) (v : Int) : State :=
  { s with objs := tabSet (o.default n) s.objs (objKey o n) v }

/-- A U32 counter counts once; it wraps at 2^32. -/
def State.bump (s : State) (o : Obj) (n : Nat) : State := s.setObj o n ((s.obj o n + 1) % 4294967296)

/-- A U32 counter counts `k`. -/
def State.bumpBy (s : State) (o : Obj) (n : Nat) (k : Nat) : State :=
  s.setObj o n ((s.obj o n + k) % 4294967296)

/-- A U32 counter counts once if the condition holds. -/
def State.bumpIf (s : State) (c : Bool) (o : Obj) (n : Nat) : State := if c then s.bump o n else s

/-- The bytes of a STR or DOMAIN object; one never written is all zero. -/
def State.dom (s : State) (o : Obj) (n : Nat) : List Byte := tabGet [] s.doms (objKey o n)

/-- The state with a DOMAIN object's bytes set. -/
def State.setDom (s : State) (o : Obj) (n : Nat) (v : List Byte) : State :=
  { s with doms := tabSet [] s.doms (objKey o n) v }

/-! ### Global memory -/

/-- One byte of global memory; a byte nothing has written reads 0 (R326, R327). -/
def State.byteAt (s : State) (a : Nat) : Byte := tabGet 0 s.mem a

/-- Global memory with one byte written. -/
def memSetByte (m : Tab Byte) (a : Nat) (b : Byte) : Tab Byte := tabSet 0 m a b

/-- Bytes written from an address upward. -/
def memWrite (m : Tab Byte) (a : Nat) : List Byte → Tab Byte
  | [] => m
  | b :: bs => memWrite (memSetByte m a b) (a + 1) bs

/-- `n` bytes from an address. -/
def State.readMem (s : State) (a : Nat) : Nat → List Byte
  | 0 => []
  | n + 1 => s.byteAt a :: s.readMem (a + 1) n

/-- The state with bytes written to global memory. -/
def State.writeMem (s : State) (a : Nat) (l : List Byte) : State := { s with mem := memWrite s.mem a l }

/-- A little-endian number of `n` bytes in global memory (R9). -/
def State.memNat (s : State) (a n : Nat) : Nat := leNat (s.readMem a n)

/-! ### Device time -/

/-- Device time in whole ns, as a TIME64 (R406). -/
def State.now (s : State) : Int := s.obj .timeSec 0 * 1000000000 + s.obj .timeNs 0

/-! ### Events and free values -/

/-- An EVT event is raised. -/
def State.evt (s : State) (k : EvtKind) (unit info : Nat) : State :=
  { s with events := ⟨k, unit, info⟩ :: s.events }

/-- An EVT event is raised if the condition holds. -/
def State.evtIf (s : State) (c : Bool) (k : EvtKind) (unit info : Nat) : State :=
  if c then s.evt k unit info else s

/-- The next free value: the value the machine delivers where the spec states none. -/
def State.free (s : State) : Nat := Config.freeValue s.freeCtr

/-- The state after one free value was used. -/
def State.freeUsed (s : State) : State := { s with freeCtr := s.freeCtr + 1 }

/-- The block sends something to the world outside: a frame, a message, a write of host memory. -/
def State.send (s : State) (m : OutMsg) : State := { s with outbox := m :: s.outbox }

end Sys2Proof.Machine
end

