-- ==== Sys2Proof/Machine/Lodge.lean ====
section
/-! DEFINITION. The Lodge's part in every access (R457 to R463): the status of an access, the counts of accesses
and refusals, `DICT_LAST_STATUS`, and the acknowledgement that follows the journal. -/

namespace Sys2Proof.Machine

/-- The statuses of R461. -/
inductive Status where
  | ok | noObject | readDenied | writeDenied | range | size | state | owner
  | stageFull | stageLocked | commitLate | commitCheck | noMemory
  deriving DecidableEq, Repr

/-- The code of a status (R461). -/
def Status.code : Status → Nat
  | .ok => 0 | .noObject => 1 | .readDenied => 2 | .writeDenied => 3 | .range => 4 | .size => 5 | .state => 6
  | .owner => 7 | .stageFull => 8 | .stageLocked => 9 | .commitLate => 10 | .commitCheck => 11 | .noMemory => 12

/-- The first of two statuses that is no OK. -/
def Status.orElse (a b : Status) : Status := if a = .ok then b else a

/-- OK if the condition holds, else the status. -/
def Status.unless (c : Bool) (st : Status) : Status := if c then .ok else st

/-- Place of a class in masks and counters: H, V, M, B, P, F (R459, R483). -/
def classNo : PortClass → Nat
  | .h => 0 | .v => 1 | .m => 2 | .b => 3 | .p => 4 | .f => 5

/-- The accessor's own set of the objects at 0x1101 (R481): functions 0 to 63, the I3C target 64, NAP sessions
from 65. -/
def accessorNo (a : Accessor) : Nat :=
  match a.cls with
  | .h | .v => a.num
  | .b => 64
  | _ => 65 + a.num

/-- The staging context an accessor writes: k for function k, else 0 (R465). -/
def stageCtxOf (a : Accessor) : Nat := if a.cls = .v then a.num else 0

/-! ### Reserved fields of tables (R10) -/

/-- Row k of a table without its bits outside the fields of its layout: bits `keep` of `w`. -/
def keepBits (w : Nat) (keep : List (Nat × Nat)) : Nat := (keep.map (fun p => bits w p.1 p.2 * 2 ^ p.2)).sum

/-- The bytes of a row of a table and its fields as [hi:lo], by the row's number and bits (R159, R195, R196, R259, R395, R396,
R430, R515, R554); none for an object that is no table with reserved fields. -/
def domRow (o : Obj) : Option (Nat × (Nat → Nat → List (Nat × Nat))) :=
  match o with
  | .ulSteerTable => some (16, fun _ w => [(127, 84), (79, if bits w 100 99 = 1 then 52 else 50)])
  | .praCfgTable => some (32, fun _ _ => [(255, 224), (214, 57)])
  | .dlTxmapTable => some (16, fun _ _ => [(127, 77)])
  | .swEndpointTable => some (16, fun _ _ => [(127, 60)])
  | .swFwdTable => some (16, fun _ _ => [(127, 44)])
  | .swFilterTable => some (16, fun _ _ => [(127, 49)])
  | .apMap => some (8, fun k _ => if k < 316 then [(63, 62), (17, 0)] else [])
  | .shWatchTable => some (32, fun _ _ => [(255, 152)])
  | _ => none

/-- A table as the device takes it: what is written to a reserved field is ignored, and it reads zero (R10). -/
def domClean (o : Obj) (l : List Byte) : List Byte :=
  match domRow o with
  | some (n, f) => (List.range (l.length / n)).flatMap (fun k => leBytes n (keepBits (leAt (n * k) n l) (f k (leAt (n * k) n l))))
  | none => l

/-- An object's row of the catalogue. -/
def objRow (o : Obj) : ObjRow :=
  (objRows.find? (fun r => decide (r.obj = o))).getD ⟨o, 0, 0, 1, .unsigned 4, .const, 0, 0, 0, 0⟩

/-- The index of instance `m` of a family. -/
def idxOf (fam m : Nat) : List FamRow → Nat
  | [] => fam
  | r :: rs =>
    if r.fam = fam ∧ r.n0 ≤ m ∧ (m - r.n0) % r.mult = 0 ∧ (m - r.n0) / r.mult < r.count then
      r.base + r.stride * ((m - r.n0) / r.mult)
    else idxOf fam m rs

/-- Index and subindex of instance `n` of an object, as index × 256 + subindex. -/
def objAddr (o : Obj) (n : Nat) : Nat :=
  let r := objRow o
  idxOf r.fam (n / r.subs) famRows * 256 + (r.sub + n % r.subs)

/-- The object and instance at index × 256 + subindex, or none (R458). -/
def rowAt (addr : Nat) : Option (ObjRow × Nat) := objAt (addr / 256) (addr % 256)

/-- R460, check 3: the function that owns the ring or carrier an object belongs to, if it belongs to one. -/
def State.objOwner (s : State) (o : Obj) (n : Nat) : Option Int :=
  let f := (objRow o).fam
  if 0x1110 ≤ f ∧ f ≤ 0x1120 then some (s.obj .jrOwner n)
  else if f = 0xAA00 then some (s.obj .jrOwner n)
  else if f = 0x5640 ∨ f = 0xA880 then some (s.obj .erxOwner n)
  else if f = 0x5680 then some (s.obj .etxOwner n)
  else if f = 0x2C00 ∨ f = 0x3000 then some (s.obj .carrierOwner n)
  else none

/-- R460, check 1: the class is enabled, or class B writes `LODGE_CLASS_EN` itself. -/
def State.classOn (s : State) (c : PortClass) : Bool := bitAt (s.objN .lodgeClassEn 0) (classNo c)

/-- The status of a write by the checks that need only the catalogue: R460, then R457's access class, then the
range of the object's table (R461). -/
def State.writeStatus (s : State) (a : Accessor) (o : Obj) (n : Nat) (v : Int) : Status :=
  let r := objRow o
  if !(s.classOn a.cls || (decide (a.cls = .b) && decide (o = .lodgeClassEn))) then .writeDenied
  else if r.acc = .const ∨ r.acc = .ro then .writeDenied
  else if !bitAt r.wmask (classNo a.cls) then .writeDenied
  else if a.cls = .v ∧ (s.objOwner o n).any (fun w => decide (w ≠ (a.num : Int))) then .owner
  else if v < r.lo ∨ r.hi < v then .range
  else .ok

/-- The status of a read (R457, R460). -/
def State.readStatus (s : State) (a : Accessor) (o : Obj) (n : Nat) : Status :=
  let r := objRow o
  if !(s.classOn a.cls) then .readDenied
  else if r.acc = .wo ∨ r.acc = .cmd then .readDenied
  else if !bitAt r.rmask (classNo a.cls) then .readDenied
  else if a.cls = .v ∧ (s.objOwner o n).any (fun w => decide (w ≠ (a.num : Int))) then .owner
  else .ok

/-- The Lodge takes an access of a class: it is counted (R483). -/
def State.countAccess (s : State) (a : Accessor) : State := s.bump .lodgeAccesses (classNo a.cls)

/-- The word of `DICT_LAST_STATUS` (R481). -/
def lastStatusWord (st : Status) (addr : Nat) : Int := (st.code * 16777216 + addr : Nat)

/-- An access at index × 256 + subindex is refused: its status is reported and the refusal counted (R461). -/
def State.refuseAt (s : State) (a : Accessor) (st : Status) (addr : Nat) : State :=
  (s.setObj .dictLastStatus (accessorNo a) (lastStatusWord st addr)).bump .lodgeRefused (classNo a.cls)

/-- Power state and rung: the main part of the device takes accesses (R488). -/
def State.lodgeUp (s : State) : Bool :=
  if s.obj .startRung 0 = 0 then decide (s.obj .pwrState 0 ≤ 1) else decide (3 < s.obj .startRung 0)

/-- A write is accepted: its status is OK, and it is in progress until its journal entry is written; while
`MEM_DDR_SIZE` is 0, or the main part of the device is down (log entry 73), it is acknowledged without the journal (R463). -/
def State.acceptAt (s : State) (a : Accessor) (addr : Nat) (v : Int) : State :=
  let s := s.setObj .dictLastStatus (accessorNo a) (lastStatusWord .ok addr)
  if s.obj .memDdrSize 0 = 0 ∨ s.lodgeUp = false then s
  else { s with unacked := s.unacked ++ [⟨a, addr / 256, addr % 256, v, [], false⟩] }

/-- Whether Summerhouse serves an index while the main part is down (R488, R511). -/
def State.shServes (s : State) (idx : Nat) : Bool :=
  (decide (0x6000 ≤ idx) && decide (idx ≤ 0x60FF))
    || ((decide (idx = 0x1200) || decide (idx = 0x1300)) && decide (s.objN .shBootStatus 0 / 2 ^ 24 ≠ 3))

/-- Whether an access is taken at all, and if so whether the device's state lets it go on (R488, R504): `none` means
that it gets no answer and nothing is counted. -/
def State.reach (s : State) (a : Accessor) (idx : Nat) : Option Status :=
  if s.obj .startRung 0 = 0 ∧ s.obj .pwrState 0 = 4 then none
  else if s.lodgeUp then (if (tabGet UnitSt.reset s.units 277).st = 3 then some .state else some .ok)
  else if a.cls = .b ∨ a.cls = .m then (if s.shServes idx then some .ok else some .state)
  else none

/-- A port number or 0xFF. -/
def portOrNone (v : Nat) : Bool := decide (v ≤ 47) || decide (v = 255)

/-- Checks of the remaining objects: R424, R473, R514, and the staged ones of R191, R271, R404 and R548. -/
def checkOther (o : Obj) (v : Int) : Status :=
  match o with
  | .synceSrc => .unless (portOrNone v.toNat) .range
  | .rclkOutSel => .unless (portOrNone (v.toNat / 256) && portOrNone (v.toNat % 256)) .range
  | .dictWinObj => .unless (decide (v % 256 = 0)) .range
  | .shFlashOffset => .unless (decide (v % 65536 = 0) && decide (v < 67108864)) .range
  | .ulDeadlineOffset => .unless (decide (v = 0) || decide (250000 ≤ v)) .range
  | .tdNcoOffset => .unless (decide (v % 100 = 0)) .range
  | .ethFsBase => .unless (decide (v % 4096 = 0)) .range
  | .ethFsSize => .unless (decide (v = 0) || decide (65536 ≤ v)) .range
  | .pairUlMode => .unless (decide (v ≤ 1)) .range
  | _ => .ok

/-- R546, R592: a write by the host through a standby is refused, but for the objects of R563; and so is one that would be
journaled after the reliability manager has stopped in an entry. -/
def State.writeBarred (s : State) (a : Accessor) (o : Obj) : Bool :=
  ((decide (a.cls = .h) || decide (a.cls = .v)) && decide (s.obj .pairRole 0 = 2)
    && !(decide (o = .pairMode) || decide (o = .pairRoleReq) || decide (o = .stairReset)))
  || (s.pwr.stopped.contains 400 && !s.pwr.committed && decide (s.obj .memDdrSize 0 ≠ 0))

/-- The status with which a write goes on, before its object's own checks. -/
def State.writeGate (s : State) (a : Accessor) (o : Obj) (n : Nat) (v : Int) (r : Status) : Status :=
  (r.orElse (s.writeStatus a o n v)).orElse (if s.writeBarred a o then .state else .ok)

/-- A write of a scalar object with a row of its own: the Lodge counts it, checks it (R488, R457, R460, the range, then
the object's own check `chk`), and applies `eff` or refuses it (R461 to R463). -/
def State.dictWrite (s : State) (a : Accessor) (o : Obj) (n : Nat) (v : Int) (chk : Status)
    (eff : State → State) : State :=
  match s.reach a (objAddr o n / 256) with
  | none => s
  | some r =>
    let st := (s.writeGate a o n v r).orElse chk
    if st = .ok then (eff (s.countAccess a)).acceptAt a (objAddr o n) v
    else (s.countAccess a).refuseAt a st (objAddr o n)

end Sys2Proof.Machine
end

