-- ==== Sys2Proof/Machine/ArbOps.lean ====
section
/-! DEFINITION. Arbiters and their freeze bits (R304, R307, R310): what the power controller and the reliability manager
freeze before they stop or restart a unit. -/

namespace Sys2Proof.Machine

/-- Inputs of an arbiter: those of the catalogue, five for a router output. -/
def arbN (k : Nat) : Nat := if k < 253 then arbInputCount k else 5

/-- An arbiter. -/
def State.arb (s : State) (k : Nat) : ArbSt := tabGet ArbSt.reset s.arbs k

/-- The state with an arbiter set. -/
def State.setArb (s : State) (k : Nat) (x : ArbSt) : State := { s with arbs := tabSet ArbSt.reset s.arbs k x }

/-- The round-robin pointer (R307). -/
def State.arbPtr (s : State) (k : Nat) : Nat := if k < 253 then s.objN .arbPointer k else (s.arb k).ptr

/-- The input that holds the grant; 255 none. -/
def State.arbHold (s : State) (k : Nat) : Nat := if k < 253 then s.objN .arbHolder k else (s.arb k).holder

/-- The base priority of an input; router inputs have base 0 (R304). -/
def State.arbBaseOf (s : State) (k i : Nat) : Nat := if k < 253 then s.objN .arbBase (32 * k + i) else 0

/-- Frozen inputs, as a mask (R310): all of them while a row of the bank is repaired (R334). -/
def State.arbFrozen (s : State) (k : Nat) : Nat :=
  if (s.arb k).repair then 2 ^ arbN k - 1 else if k < 253 then s.objN .arbFreeze k else (s.arb k).frozen

/-- `ARB_STATE` (R310): RUN with no input frozen, DRAINING while the holder's freeze bit is set, else DRAINED. -/
def State.arbRefresh (s : State) (k : Nat) : State :=
  if k < 253 then
    let f := s.arbFrozen k
    s.setObj .arbState k (if f = 0 then 0 else if s.arbHold k < 32 ∧ bitAt f (s.arbHold k) then 1 else 2)
  else s

/-- The inputs of arbiters with objects that belong to a unit of R529, as arbiter and input (R304, log entry 66); 400 is the
reliability manager with its journal and mirror writes. A hall's own traffic is input 0 of its router's outputs (log entry 106). -/
def unitInputs (u : Nat) : List (Nat × Nat) :=
  if u < 192 then (List.range 12).map (fun k => (12 * (u / 12) + k, u % 12))
  else if u < 208 then
    let h := u - 192
    (List.range 12).flatMap (fun k => (List.range 18).map (fun i => (12 * h + k, i)))
      ++ [(200 + 2 * (h / 8), h % 8), (201 + 2 * (h / 8), h % 8), (204, h)]
      ++ (List.range 48).map (fun p => (205 + p, h)) ++ (List.range 20).map (fun j => (253 + 20 * h + j, 0))
  else if u = 274 then (List.range 8).map (fun c => (192 + c, 5))
  else if u = 275 then (List.range 48).map (fun p => (205 + p, 17))
  else if u = 276 then (List.range 8).map (fun c => (192 + c, 4)) ++ (List.range 48).map (fun p => (205 + p, 16))
  else if u = 277 then (List.range 48).map (fun p => (205 + p, 19))
  else if u = 278 then (List.range 48).map (fun p => (205 + p, 18))
  else if u = 400 then (List.range 8).flatMap (fun c => [(192 + c, 6), (192 + c, 7)])
  else []

/-- The freeze bits of an arbiter, without those of a row repair. -/
def State.freezeMask (s : State) (k : Nat) : Nat := if k < 253 then s.objN .arbFreeze k else (s.arb k).frozen

/-- The freeze bits of an arbiter set. -/
def State.setFrozen (s : State) (k f : Nat) : State :=
  if k < 253 then s.setObj .arbFreeze k f else s.setArb k { s.arb k with frozen := f }

/-- The pointer and holder of an arbiter set. -/
def State.arbGrant (s : State) (k ptr holder : Nat) : State :=
  if k < 253 then (s.setObj .arbPointer k ptr).setObj .arbHolder k holder
  else s.setArb k { s.arb k with ptr := ptr, holder := holder }

/-- An input's freeze bit set or cleared (R310): a holder passes through DRAINING until its burst ends; a request held stays held. -/
def State.freezeInput (s : State) (on : Bool) (k i : Nat) : State :=
  let f := s.freezeMask k
  if bitAt f i = on then s else (s.setFrozen k (if on then f + 2 ^ i else f - 2 ^ i)).arbRefresh k

/-- The burst of an input that holds the grant ends (R310). -/
def State.arbRelease (s : State) (k i : Nat) : State :=
  if s.arbHold k = i then (s.arbGrant k (s.arbPtr k) 255).arbRefresh k else s

/-- A unit's inputs on every arbiter are frozen, or thawed (R310, R489, R532). -/
def State.freezeUnit (s : State) (on : Bool) (u : Nat) : State :=
  (unitInputs u).foldl (fun s x => s.freezeInput on x.1 x.2) s

/-- None of a unit's inputs is DRAINING (R310, R532). -/
def State.unitDrained (s : State) (u : Nat) : Bool :=
  (unitInputs u).all (fun x => !(decide (s.arbHold x.1 = x.2) && bitAt (s.arbFrozen x.1) x.2))

/-- The bursts of a unit still in progress are cut off, and its requests are gone with it (R532). -/
def State.cutUnit (s : State) (u : Nat) : State :=
  (unitInputs u).foldl (fun (s : State) x =>
    let s := s.arbRelease x.1 x.2
    let q := (s.arb x.1).pend
    if bitAt q x.2 then s.setArb x.1 { s.arb x.1 with pend := q - 2 ^ x.2 } else s) s

end Sys2Proof.Machine
end

