-- ==== Sys2Proof/Machine/RelOps.lean ====
section
/-! DEFINITION. The global map (R315 to R318), units, their faults and the journal: the operations of the reliability manager that the
other families use (R529 to R541). -/

namespace Sys2Proof.Machine

/-! ### The map -/

/-- First global address of DDR (R315). -/
def ddrBase : Nat := 0x100000000000

/-- The base of hall n's Terrace slice (R315). -/
def terraceBase (h : Nat) : Nat := 0x000100000000 + 0x01000000 * h

/-- Size of a Terrace slice, 12 MiB (R315). -/
def terraceSize : Nat := 0xC00000

/-- The hall whose slice holds a global address, if any (R315). -/
def terraceHall (a : Nat) : Option Nat :=
  if 0x000100000000 ≤ a ∧ a < 0x000110000000 ∧ (a - 0x000100000000) % 0x01000000 < terraceSize then
    some ((a - 0x000100000000) / 0x01000000)
  else none

/-- Whether a global address lies in the packet buffer (R315). -/
def inPacketBuffer (a : Nat) : Bool := decide (0x000200000000 ≤ a) && decide (a < 0x000200800000)

/-- Whether `n` bytes from a global address lie in installed DDR (R315). -/
def State.inDdr (s : State) (a n : Nat) : Bool :=
  decide (ddrBase ≤ a) && decide (a + n ≤ ddrBase + s.objN .memDdrSize 0)

/-- Whether a window, Gallery or BAR4 access may reach the address: Terrace or installed DDR (R61, R316). -/
def State.reachable (s : State) (a n : Nat) : Bool := (terraceHall a).isSome || s.inDdr a n

/-- The DDR channel of a global address (R318). -/
def ddrChannel (g : Nat) : Nat :=
  let a := g - ddrBase
  (bits a 8 6) ^^^ (bits a 17 15) ^^^ (bits a 26 24)

/-! ### Units -/

/-- Unit numbers of R529. -/
def unitCore (c : Nat) : Nat := c
def unitHall (h : Nat) : Nat := 192 + h
def unitBlock (b : Nat) : Nat := 208 + b
def unitDdr (c : Nat) : Nat := 210 + c
def unitLane (l : Nat) : Nat := 218 + l
def unitCtx : Nat := 274
def unitEth : Nat := 275
def unitPcie : Nat := 276
def unitLodge : Nat := 277
def unitTime : Nat := 278
def unitSummerhouse : Nat := 279

/-- The unit of a pacing unit: halls 0 to 15, then the two blocks. -/
def unitOfPacer (u : Nat) : Nat := 192 + u

/-- Unit states of R531. -/
abbrev unitRunning : Nat := 0
abbrev unitRestarting : Nat := 1
abbrev unitRejoining : Nat := 2
abbrev unitSleeping : Nat := 3
abbrev unitRetired : Nat := 4

/-- Unit u. -/
def State.unit (s : State) (u : Nat) : UnitSt := tabGet UnitSt.reset s.units u

/-- The state with unit u set. -/
def State.setUnit (s : State) (u : Nat) (x : UnitSt) : State := { s with units := tabSet UnitSt.reset s.units u x }

/-- Pair states of R544. -/
abbrev pairSingle : Int := 0
abbrev pairJoining : Int := 1
abbrev pairPaired : Int := 2
abbrev pairSolo : Int := 3
abbrev pairDetached : Int := 4

/-- R534: a lane, Summerhouse and the time unit are never retired while the device is not in a pair. -/
def State.neverRetired (s : State) (u : Nat) : Bool :=
  decide (s.obj .pairState 0 = pairSingle) && ((decide (218 ≤ u) && decide (u ≤ 273)) || decide (u = 278) || decide (u = 279))

/-- R535: units whose retirement takes the module's work away: in a PAIRED primary a hall, block, DDR channel,
context store, Ethernet, PCIe or Lodge; on a single device or standby the last five. -/
def State.moduleRetire (s : State) (u : Nat) : Bool :=
  (decide (192 ≤ u) && decide (u < 210) && decide (s.obj .pairState 0 = pairPaired) && decide (s.obj .pairRole 0 = 1))
  || (decide (210 ≤ u) && decide (u < 218)) || (decide (274 ≤ u) && decide (u ≤ 277))

/-- The module asserts its fault: `PAIR_FAIL_OUT` is released and it stops accepting work (R535, R549). -/
def State.assertModuleFault (s : State) : State :=
  { s with pins := { s.pins with pairFailOut := true, moduleFault := true } }

/-- The unit that answers for a global address: a hall or a DDR channel (R294, R529). -/
def State.unitOfAddr (s : State) (a : Nat) : Option Nat :=
  match terraceHall a with
  | some h => some (unitHall h)
  | none => if s.inDdr a 1 then some (unitDdr (ddrChannel a)) else none

/-- What cores had outstanding to a unit that restarts is refused (R532, step 2): posted stores fail, and the load a bundle waits for
is answered REFUSED if it was to this unit. -/
def State.loseRequests (s : State) (u : Nat) : State :=
  { s with cores := s.cores.map (fun p => (p.1, { p.2 with
      posted := p.2.posted.map (fun q => (q.1, q.2 || decide (s.unitOfAddr q.1 = some u)))
      lost := if p.2.stall.isSome then u :: p.2.lost else p.2.lost })) }

/-- A fault of unit u (R534): counted within the window, in ms, and the unit restarts, its inputs frozen (R531, R532), or is
retired. A fault of a unit that is asleep or retired changes nothing (log entry 13). -/
def State.unitFault (s : State) (u code : Nat) : State :=
  let x := s.unit u
  if x.st = unitSleeping ∨ x.st = unitRetired then s
  else
    let t := s.now
    let fs := t :: x.faults.filter (fun f => decide (t / 1000000 - s.obj .relFaultWindow 0 ≤ f / 1000000))
    let s := s.bump .relFaults 0
    let x := { x with faults := fs, lastCode := code, lastTime := t }
    if s.obj .relFaultLimit 0 ≤ (fs.length : Int) ∧ s.neverRetired u = false then
      let s := ((s.setUnit u { x with st := unitRetired }).bump .relRetired 0).evt .unitRetired u code
      if s.moduleRetire u then s.assertModuleFault else s
    else
      (((s.setUnit u { x with st := unitRestarting, restarts := x.restarts + 1, since := t }).bump .relRestarts 0).freezeUnit true u).loseRequests u

/-- A held or new wake is taken once its state is reached and no thermal hold runs (R494, R495, R581): the lowest source
asserted is recorded, and the exit is due. -/
def State.takeWake (s : State) : State :=
  if (s.obj .pwrState 0 = 2 ∨ s.obj .pwrState 0 = 3) ∧ s.obj .startRung 0 = 0 ∧ s.pwr.committed = false
      ∧ s.pwr.back = none ∧ s.therm.hold = false ∧ s.pwr.wakes ≠ [] then
    let s := s.setObj .pwrLastWake 0 (s.pwr.wakes.foldl min 255 : Nat)
    { s with pwr := { s.pwr with exitDue := true } }
  else s

/-- Wake source b is asserted (R495): ignored while its bit of `PWR_WAKE_EN` is 0 (4, the write of `PWR_STATE_REQ`, has no
bit); watched in the present state, or in that toward which an entry runs. The first after a commit counts (R494). -/
def State.assertWake (s : State) (b : Nat) : State :=
  let watched := s.objN .pwrState 0 = 2 ∨ s.pwr.target = 2 ∨ ((s.objN .pwrState 0 = 3 ∨ s.pwr.target = 3) ∧ b ≠ 0 ∧ b ≠ 3)
  if (b = 4 ∨ bitAt (s.objN .pwrWakeEn 0) b) ∧ watched then
    let s := s.bumpIf (s.pwr.committed && decide (s.pwr.wakes = [])) .pwrWakeAfterCommit 0
    ({ s with pwr := { s.pwr with wakes := b :: s.pwr.wakes.filter (fun x => decide (x ≠ b)) } }).takeWake
  else s

/-- The epoch comparison of R530 over 2^k: the carried epoch is older than the held one. -/
def epochOlder (k held carried : Nat) : Bool :=
  let d := ((held : Int) - carried) % (2 ^ k : Int)
  decide (1 ≤ d) && decide (d < 2 ^ (k - 1))

/-- The header line of a journal entry as a number (R537), without its CRC. -/
def JEntry.headerNat (e : JEntry) : Nat :=
  e.kind * 2 ^ 504 + (e.jseq % 2 ^ 64) * 2 ^ 440 + (e.pairEpoch % 2 ^ 32) * 2 ^ 408 + (e.unitEpoch % 2 ^ 32) * 2 ^ 376
    + (e.ring % 256) * 2 ^ 368 + (e.seq % 2 ^ 64) * 2 ^ 304 + (e.data % 2 ^ 32) * 2 ^ 272

/-- The header line with its CRC-32C over bits [511:32] and the body (R537). -/
def JEntry.header (e : JEntry) : List Byte :=
  let top := (leBytes 64 e.headerNat).drop 4
  leBytes 4 (crc32c (top ++ slice 0 64 e.body)) ++ top

/-- The global address of journal entry k of the ring (R536). -/
def State.journalAddr (s : State) (k : Nat) : Nat := s.objN .relJournalBase 0 + 256 * (k % 1048576)

/-- An entry is written: both copies of both lines (R536), and it takes the next JSEQ. While no journal region is
placed (`REL_JOURNAL_BASE` 0) nothing is written. -/
def State.journalAppend (s : State) (kind unitNo ring seq data : Nat) (body : List Byte) : State :=
  if s.obj .relJournalBase 0 = 0 then s
  else
    let e : JEntry := ⟨kind, s.jseqNext, s.objN .pairEpoch 0, (s.unit unitNo).epoch, ring, seq, data, body⟩
    let a := s.journalAddr s.jseqNext
    let b := slice 0 64 body
    let s := s.writeMem a (e.header ++ e.header ++ b ++ b)
    { s with journal := s.journal ++ [e], jseqNext := s.jseqNext + 1 }

end Sys2Proof.Machine
end

