-- ==== Sys2Proof/Machine/EccOps.lean ====
section
/-! DEFINITION. Memory and its protection: lines of DDR (R318), the 80-bit code (R323 to R325), the
correction log (R330 to R332), and stores that keep the log and the DDR fill rules (R327, R328). -/

namespace Sys2Proof.Machine

/-! ### Lines of DDR -/

/-- The channel-local byte address of a global address: local line a[47:10], then subchannel a[9], then the byte
in the line (R318, log entry 15). -/
def ddrLocal (g : Nat) : Nat :=
  let a := g - ddrBase
  bits a 47 10 * 128 + bits a 9 9 * 64 + bits a 5 0

/-- The global address of a channel-local byte address. -/
def ddrGlobal (c l : Nat) : Nat :=
  let line := l / 128
  let hi := line * 1024 + (l / 64 % 2) * 512
  ddrBase + hi + (c ^^^ bits hi 17 15 ^^^ bits hi 26 24) * 64 + l % 64

/-! ### The 80-bit code -/

/-- Multiplication by α in GF(2^7) with m1(x) = x^7 + x^3 + 1 (R323). -/
def gfTimesAlpha (x : Nat) : Nat := if 128 ≤ 2 * x then (2 * x) ^^^ 0x89 else 2 * x

/-- The pairs (α^i, α^(3i)) for `n` positions from the one given. -/
def gfPairs : Nat → Nat → Nat → List (Nat × Nat)
  | 0, _, _ => []
  | n + 1, a, b => (a, b) :: gfPairs n (gfTimesAlpha a) (gfTimesAlpha (gfTimesAlpha (gfTimesAlpha b)))

/-- (α^i, α^(3i)) for the 78 positions of the inner word (R323). -/
def gfTable : List (Nat × Nat) := gfPairs 78 1 1

/-- The 78-bit inner word of a stored word: C[i] at x^i, D[j] at x^(14 + j) (R323). -/
def innerWord (w : Nat) : Nat := bits w 77 64 + (w % 2 ^ 64) * 2 ^ 14

/-- The stored bit that holds inner position i. -/
def innerBit (i : Nat) : Nat := if i < 14 then 64 + i else i - 14

/-- Syndromes s1 = r(α) and s3 = r(α^3) of an inner word (R324). -/
def syndromes (r : Nat) : List (Nat × Nat) → Nat × Nat
  | [] => (0, 0)
  | (a, b) :: t =>
    let p := syndromes (r / 2) t
    if r % 2 = 1 then (p.1 ^^^ a, p.2 ^^^ b) else p

/-- The position whose pair is (s1, s3), if one fits. -/
def findOne (s1 s3 : Nat) : Nat → List (Nat × Nat) → Option Nat
  | _, [] => none
  | i, (a, b) :: t => if a = s1 ∧ b = s3 then some i else findOne s1 s3 (i + 1) t

/-- The pair of positions that fits (s1, s3), if one does. -/
def findTwo (s1 s3 : Nat) : Nat → List (Nat × Nat) → Option (Nat × Nat)
  | _, [] => none
  | i, (a, b) :: t =>
    match findOne (s1 ^^^ a) (s3 ^^^ b) (i + 1) t with
    | some j => some (i, j)
    | none => findTwo s1 s3 (i + 1) t

/-- The parity of the low `n` bits. -/
def parity : Nat → Nat → Nat
  | 0, _ => 0
  | n + 1, w => (w % 2) ^^^ parity n (w / 2)

/-- What a read finds in a word (R324). -/
inductive EccResult where
  | clean
  | corrected (bitList : List Nat)
  | uncorrectable
  deriving DecidableEq, Repr

/-- R324's decode of an 80-bit word as read, bits [63:0] data and [79:64] check. The code is linear, so applied to
the pattern of flipped bits alone it gives the outcome for the stored word. -/
def eccDecode (w : Nat) : EccResult :=
  let r := innerWord w
  let s := syndromes r gfTable
  let p := parity 79 w
  let q := bits w 78 78 ^^^ bits w 79 79
  let es : Option (List Nat) :=
    if s = (0, 0) then some []
    else
      match findOne s.1 s.2 0 gfTable with
      | some i => some [i]
      | none =>
        match findTwo s.1 s.2 0 gfTable with
        | some (i, j) => some [i, j]
        | none => none
  match es with
  | none => .uncorrectable
  | some l =>
    let t := p ^^^ (l.length % 2)
    let u := q ^^^ t
    if 2 < l.length + t + u then .uncorrectable
    else if l.length + t + u = 0 then .clean
    else .corrected (l.map innerBit ++ (if t = 1 then [78] else []) ++ (if u = 1 then [79] else []))

/-- The pattern with the given bits flipped. -/
def flipBits (w : Nat) (l : List Nat) : Nat := l.foldl (fun x b => x ^^^ 2 ^ b) w

/-- What remains wrong in the data after a read corrected a pattern: 0 for every pattern of at most two bits. -/
def residual (w : Nat) : Nat :=
  match eccDecode w with
  | .corrected l => flipBits w l % 2 ^ 64
  | _ => w % 2 ^ 64

/-! ### Words and their controllers -/

/-- The ECC controller of a place (R329). -/
def ctrlOf : MemLoc → Nat
  | .global a =>
    match terraceHall a with
    | some h => h
    | none => if inPacketBuffer a then 24 else 16 + ddrChannel a
  | .core c _ => c / 12
  | .buffer h _ => h
  | .summerhouse _ => 25

/-- SPACE, UNIT and word address of a place, as a log entry names it (R330). -/
def logPlace : MemLoc → Nat × Nat × Nat
  | .global a => (0, 0, a / 8 * 8)
  | .core c a => (1, c % 12, a / 8 * 8)
  | .buffer _ o => (2, 0, o / 8 * 8)
  | .summerhouse o => (3, 0, o / 8 * 8)

/-- The number of a stored word. -/
def wordKey (l : MemLoc) : Nat :=
  let p := logPlace l
  ((ctrlOf l * 4 + p.1) * 16 + p.2.1) * 2 ^ 48 + p.2.2

/-- The flipped bits of the word at a place. -/
def State.upset (s : State) (l : MemLoc) : Nat := tabGet 0 s.upsets (wordKey l)

/-- The state with the flipped bits of a word set. -/
def State.setUpset (s : State) (l : MemLoc) (w : Nat) : State := { s with upsets := tabSet 0 s.upsets (wordKey l) w }

/-! ### The correction log -/

/-- Device time in ms. -/
def State.nowMs (s : State) : Int := s.now / 1000000

/-- Log entry i of controller m. -/
def State.logEntry (s : State) (m i : Nat) : LogEntry := tabGet LogEntry.reset s.eccLog (64 * m + i)

/-- How many of the first `n` entries of controller m are not FREE. -/
def State.logUsed (s : State) (m : Nat) : Nat → Nat
  | 0 => 0
  | n + 1 => s.logUsed m n + (if (s.logEntry m n).st = 0 then 0 else 1)

/-- The state with a log entry set; `ECC_LOG_USED` follows. -/
def State.setLogEntry (s : State) (m i : Nat) (e : LogEntry) : State :=
  let s := { s with eccLog := tabSet LogEntry.reset s.eccLog (64 * m + i) e }
  s.setObj .eccLogUsed m (s.logUsed m 64)

/-- The entry of a word, if it has one, among entries `i`, `i + 1`, … -/
def State.findLog (s : State) (m : Nat) (p : Nat × Nat × Nat) : Nat → Nat → Option Nat
  | 0, _ => none
  | f + 1, i =>
    let e := s.logEntry m i
    if e.st ≠ 0 ∧ e.space = p.1 ∧ e.unit = p.2.1 ∧ e.addr = p.2.2 then some i else s.findLog m p f (i + 1)

/-- The lowest free entry. -/
def State.findFree (s : State) (m : Nat) : Nat → Nat → Option Nat
  | 0, _ => none
  | f + 1, i => if (s.logEntry m i).st = 0 then some i else s.findFree m f (i + 1)

/-- Whether an entry may be evicted: WATCH, REPAIRED, or REWRITTEN past its window (R332). -/
def State.evictable (s : State) (m i : Nat) : Bool :=
  let e := s.logEntry m i
  decide (e.st = 1) || decide (e.st = 6)
    || (decide (e.st = 3) && decide (s.obj .eccHotWindow m < s.nowMs - e.winStart))

/-- The evictable entry with the oldest window, among entries `i`, `i + 1`, … -/
def State.findOldest (s : State) (m : Nat) : Nat → Nat → Option Nat → Option Nat
  | 0, _, b => b
  | f + 1, i, b =>
    let b' := if s.evictable m i then
        (match b with
        | none => some i
        | some j => if (s.logEntry m i).winStart < (s.logEntry m j).winStart then some i else some j)
      else b
    s.findOldest m f (i + 1) b'

/-- The entry a detection uses (R332): the word's own, a free one, or the oldest evictable one, counted as an
eviction; and whether it is new to the word. -/
def State.takeEntry (s : State) (m : Nat) (p : Nat × Nat × Nat) : Option (Nat × Bool) × State :=
  match s.findLog m p 64 0 with
  | some i => (some (i, false), s)
  | none =>
    match s.findFree m 64 0 with
    | some i => (some (i, true), s)
    | none =>
      match s.findOldest m 64 0 none with
      | some i => (some (i, true), s.bump .eccLogEvictions m)
      | none => (none, s.bump .eccLogFull m)

/-- The first and second corrected bits as a log entry holds them (R330). -/
def bitNth (l : List Nat) (i : Nat) : Nat := l.getD i 127

/-- Whether a word's memory has lasting-fault repair (R329): Terrace and packet buffer, or DDR. -/
def repairable (p : Nat × Nat × Nat) : Bool := decide (p.1 = 0)

/-- A log entry is queued for a targeted rewrite, once. -/
def State.queueHot (s : State) (m i : Nat) : State :=
  if s.hotQueue.contains (64 * m + i) then s else { s with hotQueue := s.hotQueue ++ [64 * m + i] }

/-- The unit charged with an unrepaired lasting fault of controller m (R533, code 0x05), if one is. -/
def State.unrepairedFault (s : State) (m : Nat) : State :=
  if m < 16 then s.unitFault (unitHall m) 5
  else if m < 24 then s.unitFault (unitDdr (m - 16)) 5
  else s

/-- A lasting fault of entry i that gets no repair (R334): NOREPAIR, counted, an event, and a unit fault. -/
def State.markUnrepaired (s : State) (m i : Nat) : State :=
  let s := s.setLogEntry m i { s.logEntry m i with noRepair := true }
  ((s.bump .eccUnrepaired m).evt .eccUnrepaired m (s.logEntry m i).addr).unrepairedFault m

/-- R332, on a correction of a word with the corrected bits `bs`; `src` 0 demand read, 1 scrubber, 2
read-modify-write. -/
def State.logCorrection (s : State) (l : MemLoc) (src : Nat) (bs : List Nat) : State :=
  let m := ctrlOf l
  let p := logPlace l
  let t := s.nowMs
  match s.takeEntry m p with
  | (none, s) => s
  | (some (i, fresh), s) =>
    let e0 : LogEntry := if fresh then ⟨p.1, p.2.1, p.2.2, 1, 0, src, 127, 127, false, t⟩ else s.logEntry m i
    let win := s.obj .eccHotWindow m
    let e1 := if e0.st = 3 ∧ win < t - e0.winStart then { e0 with st := 1, count := 0, winStart := t } else e0
    let e2 := { e1 with src := src, bitA := bitNth bs 0, bitB := bitNth bs 1 }
    if e1.st = 1 then
      let e3 := if win < t - e1.winStart then { e2 with count := 0, winStart := t } else e2
      let n : Nat := min 15 (e3.count + 1)
      if s.obj .eccHotCount m ≤ (n : Int) then
        ((s.setLogEntry m i { e3 with count := n, st := 2 }).bump .eccHot m).queueHot m i
      else s.setLogEntry m i { e3 with count := n }
    else if e1.st = 3 then
      let s := ((s.setLogEntry m i { e2 with st := 4 }).bump .eccLasting m).evt .eccLasting m p.2.2
      if repairable p then s else s.markUnrepaired m i
    else if e1.st = 4 ∧ (e1.noRepair ∨ (16 ≤ m ∧ m < 24 ∧ s.obj .ddrPprMode (m - 16) = 1)) then
      (s.setLogEntry m i e2).queueHot m i
    else s.setLogEntry m i e2

/-- R332, on an uncorrectable read of a word: the entry is UNCORR, counted, with an event on each detection. -/
def State.logUncorrectable (s : State) (l : MemLoc) (src : Nat) : State :=
  let m := ctrlOf l
  let p := logPlace l
  let s := (s.bump .eccUncorr m).evt .eccUncorr m p.2.2
  match s.takeEntry m p with
  | (none, s) => s
  | (some (i, _), s) => s.setLogEntry m i ⟨p.1, p.2.1, p.2.2, 5, 0, src, 127, 127, false, s.nowMs⟩

/-- R332, on a write or scrub rewrite of a word: WATCH, HOT and UNCORR entries become REWRITTEN. -/
def State.logWrite (s : State) (l : MemLoc) : State :=
  let m := ctrlOf l
  match s.findLog m (logPlace l) 64 0 with
  | none => s
  | some i =>
    let e := s.logEntry m i
    if e.st = 1 ∨ e.st = 2 ∨ e.st = 5 then
      { s.setLogEntry m i { e with st := 3, count := 0, winStart := s.nowMs } with
        hotQueue := s.hotQueue.filter (fun k => decide (k ≠ 64 * m + i)) }
    else s

/-- A demand read of one word (R325): a correction is logged and counted, an uncorrectable word logged. -/
def State.demandWord (s : State) (l : MemLoc) (src : Nat) : State :=
  match eccDecode (s.upset l) with
  | .clean => s
  | .corrected bs => (s.bump .eccCorrected (ctrlOf l)).logCorrection l src bs
  | .uncorrectable => s.logUncorrectable l src

/-- Whether a read of the word delivers poison (R325). -/
def State.isPoison (s : State) (l : MemLoc) : Bool := eccDecode (s.upset l) = .uncorrectable

/-! ### The lap of a scrubber (R337) -/

/-- Controller m's lap. -/
def State.lap (s : State) (m : Nat) : ScrubSt := tabGet ScrubSt.reset s.scrub m

/-- The state with a lap set. -/
def State.setLap (s : State) (m : Nat) (x : ScrubSt) : State := { s with scrub := tabSet ScrubSt.reset s.scrub m x }

/-- Time counts in controller m's lap (R337): not with `SCRUB_EN` at 0, in S2, in SELF_REFRESH or gated. -/
def State.lapCounts (s : State) (m : Nat) : Bool :=
  decide (s.obj .scrubEn m ≠ 0)
    && (if m < 16 then decide ((s.unit (unitHall m)).st ≠ unitSleeping)
        else if m < 24 then decide (s.obj .ddrState (m - 16) = 2)
        else if m = 24 then decide ((s.unit unitEth).st ≠ unitSleeping)
        else decide (s.obj .pwrState 0 < 2))

/-- The age of the present lap, s. -/
def State.lapAge (s : State) (m : Nat) : Int :=
  let x := s.lap m
  (x.acc + (match x.since with | some t => s.elapsed - t | none => 0)) / 1000000000

/-- A lap is frozen or resumes where it stopped, as its controller now stands. -/
def State.lapSettle (s : State) (m : Nat) : State :=
  let x := s.lap m
  match x.since with
  | some t => if s.lapCounts m then s else s.setLap m ⟨x.acc + (s.elapsed - t), none⟩
  | none => if s.lapCounts m then s.setLap m ⟨x.acc, some s.elapsed⟩ else s

/-- The laps of a unit's memory. -/
def State.lapUnit (s : State) (u : Nat) : State :=
  if 192 ≤ u ∧ u < 208 then s.lapSettle (u - 192)
  else if 210 ≤ u ∧ u < 218 then s.lapSettle (u - 194)
  else if u = 275 then s.lapSettle 24
  else s

/-- `SCRUB_LAP_AGE` of every controller shows the present age. -/
def State.showLaps (s : State) : State := (List.range 26).foldl (fun (s : State) m => s.setObj .scrubLapAge m (s.lapAge m)) s

/-! ### DDR fill and stores -/

/-- DDR channel c. -/
def State.ddrCh (s : State) (c : Nat) : DdrSt := tabGet DdrSt.reset s.ddr c

/-- The state with DDR channel c set. -/
def State.setDdrCh (s : State) (c : Nat) (d : DdrSt) : State := { s with ddr := tabSet DdrSt.reset s.ddr c d }

/-- Whether a line of channel c lies at or above the sweep front in a block whose filled bit is clear (R327). -/
def State.unfilled (s : State) (c l : Nat) : Bool :=
  decide (s.obj .ddrSweepFront c ≤ (l : Int)) && !((s.ddrCh c).filled.contains (l / 1048576))

/-- R328: the block of a local address is zero-filled and its bit set, once. -/
def State.fillBlock (s : State) (c l : Nat) : State :=
  if s.unfilled c l then
    let d := s.ddrCh c
    (s.setDdrCh c { d with filled := d.filled ++ [l / 1048576] }).bump .ddrFillBlocks (16 + c)
  else s

/-- A place's word is wholly rewritten: no flipped bits remain, and the log takes the write (R332); a DDR write
first fills its block (R328). -/
def State.wordWritten (s : State) (l : MemLoc) : State :=
  let s := match l with
    | .global a => if ddrBase ≤ a then s.fillBlock (ddrChannel a) (ddrLocal a) else s
    | _ => s
  (s.setUpset l 0).logWrite l

/-- Every word of `n` words from a global address is rewritten. -/
def State.wordsWritten (s : State) (a : Nat) : Nat → State
  | 0 => s
  | n + 1 => (s.wordWritten (.global (a + 8 * n))).wordsWritten a n

/-- The words that `n` bytes from an address touch. -/
def wordSpan (a n : Nat) : Nat := if n = 0 then 0 else (a + n - 1) / 8 - a / 8 + 1

/-- A store of whole words, or of bytes by a requester whose write is not refused: the bytes are written and each
word touched is rewritten. -/
def State.store (s : State) (a : Nat) (l : List Byte) : State :=
  (s.wordsWritten (a / 8 * 8) (wordSpan a l.length)).writeMem a l

/-- Whether some word of `n` words from a global address is uncorrectable. -/
def State.anyPoison (s : State) (a : Nat) : Nat → Bool
  | 0 => false
  | n + 1 => s.isPoison (.global (a + 8 * n)) || s.anyPoison a n

/-- R327: a DDR line above the front outside a filled block reads as zeros, without touching DRAM. -/
def State.unwrittenRead (s : State) (l : MemLoc) : Bool :=
  match l with
  | .global a => decide (ddrBase ≤ a) && s.unfilled (ddrChannel a) (ddrLocal a)
  | _ => false

/-- Each of `n` words from a global address is read by demand; a line above the front is counted, once, and raises nothing (R327). -/
def State.demandWords (s : State) (a src : Nat) : Nat → State
  | 0 => s
  | n + 1 =>
    let l := MemLoc.global (a + 8 * n)
    let s := s.demandWords a src n
    if s.unwrittenRead l then s.bumpIf (decide (n = 0) || decide ((a + 8 * n) % 64 = 0)) .ddrUnwrittenReads (ctrlOf l)
    else s.demandWord l src

/-- R317: a write of less than 8 bytes, or not aligned to 8 bytes, is a read-modify-write. -/
def isRmw (a n : Nat) : Bool := !(decide (a % 8 = 0) && decide (n % 8 = 0))

/-- A store that reads and modifies its words when partial (R317): it fails, and stores nothing, when that read is
uncorrectable. -/
def State.storeRmw (s : State) (a : Nat) (l : List Byte) : State × Bool :=
  if isRmw a l.length then
    let s' := s.demandWords (a / 8 * 8) 2 (wordSpan a l.length)
    if s.anyPoison (a / 8 * 8) (wordSpan a l.length) then (s', false) else (s'.store a l, true)
  else (s.store a l, true)

/-- Whether a global address lies in the TCBs of a hall (R127). -/
def tcbByte (a : Nat) : Bool :=
  decide (0x000100000000 ≤ a) && decide (a < 0x000110000000) && decide ((a - 0x000100000000) % 0x01000000 < 0x20000)

/-- Whether `n` bytes from a global address touch the TCBs of a hall (R127). -/
def inTcbRegion (a n : Nat) : Bool := tcbByte a || tcbByte (a + n - 1)

/-- Whether `n` bytes from an address touch a region of `len` bytes. -/
def touches (base len a n : Nat) : Bool := decide (base < a + n) && decide (a < base + len)

/-- The context store's three regions: offset from `CTX_BASE` and size (R274). -/
def State.ctxRegion (s : State) (a n : Nat) : Bool :=
  let b := s.objN .ctxBase 0
  let e := s.objN .ctxEntries 0
  touches b (e * 32) a n || touches (b + 2 ^ 30) (e * 256) a n || touches (b + 9 * 2 ^ 30) (e * 4) a n

/-- Whether `n` bytes from a global address touch a region that only its owner writes: the TCBs (R127), the HARQ
pool and process table (R226), the context store's regions (R274), the Lodge's region (R466), the L1 copy (R512), the
journal (R536). A region of DDR exists once its base is set. -/
def State.ownedRegion (s : State) (a n : Nat) : Bool :=
  inTcbRegion a n
  || (decide (ddrBase ≤ a) &&
      (touches (s.objN .harqPoolBase 0) (s.objN .harqPoolSlots 0 * 12672) a n
        || touches (s.objN .harqProcBase 0) (s.objN .harqProcCount 0 * 2048) a n
        || (decide (s.objN .ctxBase 0 ≠ 0) && s.ctxRegion a n)
        || (decide (s.objN .dictReservedBase 0 ≠ 0) && touches (s.objN .dictReservedBase 0) 0x4000000 a n)
        || (decide (s.objN .shL1Base 0 ≠ 0) && touches (s.objN .shL1Base 0) 0x2000000 a n)
        || (decide (s.objN .relJournalBase 0 ≠ 0) && touches (s.objN .relJournalBase 0) 0x10000000 a n)))

/-- A store asked for by a core, a window or the host: refused in a region that only its owner writes,
else as `storeRmw`. -/
def State.storeAsked (s : State) (a : Nat) (l : List Byte) : State × Bool :=
  if s.ownedRegion a l.length then (s, false) else s.storeRmw a l

end Sys2Proof.Machine
end

