-- ==== Sys2Proof/Machine/Pacing.lean ====
section
/-! DEFINITION. Deadline pacing of the 16 halls and the two shared-accelerator blocks (R30 to R52, R587):
pacing units 0 to 15 are the halls, 16 the West block, 17 the East block. -/

namespace Sys2Proof.Machine

/-- The pacing states of R46. -/
abbrev paceOff : Int := 0
abbrev paceHold : Int := 1
abbrev paceTrack : Int := 2
abbrev paceSnap : Int := 3
abbrev paceHot : Int := 4
abbrev paceSleep : Int := 5

/-- The rate floor of a level, M handshakes/s (R33). -/
def rateFloor (level : Int) : Int :=
  match level.toNat with
  | 0 => 600 | 1 => 900 | 2 => 1200 | 3 => 1550 | 4 => 1900 | 5 => 2200 | 6 => 2500 | _ => 2750

/-- The rail voltage of a level, µV (R33). -/
def levelMicroVolts (level : Int) : Int := 550000 + 50000 * level

/-- The pacer of unit u. -/
def State.pacer (s : State) (u : Nat) : PaceSt := tabGet PaceSt.reset s.pace u

/-- The state with unit u's pacer set. -/
def State.setPacer (s : State) (u : Nat) (p : PaceSt) : State := { s with pace := tabSet PaceSt.reset s.pace u p }

/-- The floor the unit guarantees: that of the lower of the levels a slew spans (R35), else of its level. -/
def State.unitFloor (s : State) (u : Nat) : Int :=
  match (s.pacer u).slewFrom with
  | some l => rateFloor (min l (s.obj .hallLevel u))
  | none => rateFloor (s.obj .hallLevel u)

/-- The lowest sample of a window; 0 for an empty one. -/
def windowMin : List Int → Int
  | [] => 0
  | [x] => x
  | x :: y :: r => min x (windowMin (y :: r))

/-- How many samples of the window lie below a value. -/
def countBelow (w : List Int) (x : Int) : Nat := (w.filter (fun y => decide (y < x))).length

/-- The lower edge of the first 1 µs bin from bin `k` on whose upper edge has eleven samples below it; 256 µs
when none of the next `fuel` bins has. -/
def tailBin (w : List Int) : Nat → Nat → Int
  | 0, _ => 256000
  | f + 1, k => if 11 ≤ countBelow w (((k + 1) * 1000 : Nat) : Int) then ((k * 1000 : Nat) : Int) else tailBin w f (k + 1)

/-- The tail estimate (R38). -/
def tailEstimate (w : List Int) : Int :=
  if w.length ≤ 10 then 0
  else if 11 ≤ countBelow w 0 then windowMin w
  else tailBin w 256 0

/-- The window of a unit set, with the three status objects that show it (R38). A sample outside the I32 range of the objects is
shown as it is (DESIGN CHOICE, log entry 87). -/
def State.setWindow (s : State) (u : Nat) (w : List Int) : State :=
  (((s.setPacer u { s.pacer u with window := w }).setObj .hallSlackTail u (tailEstimate w)).setObj
    .hallSlackMin u (windowMin w)).setObj .hallSlackSamples u w.length

/-- T set, and the rail target that follows it (R39: level voltage less 6.25 mV × T). -/
def State.setTrim (s : State) (u : Nat) (t : Int) : State :=
  (s.setObj .hallTrim u t).setObj .hallVoltage u (levelMicroVolts (s.obj .hallLevel u) - 6250 * t)

/-- A snap or raise happened now (R39). -/
def State.markRaise (s : State) (u : Nat) : State :=
  s.setPacer u { s.pacer u with lastRaise := some s.now, raised := true }

/-- The pacing state set with T = 0 (R46: every state but TRACK holds T at 0, and TRACK is entered with 0). -/
def State.paceEnter (s : State) (u : Nat) (st : Int) : State := (s.setObj .hallPaceState u st).setTrim u 0

/-- Into HOLD: T = 0 and the window cleared (R46). -/
def State.enterHold (s : State) (u : Nat) : State := (s.paceEnter u paceHold).setWindow u []

/-- Into SLEEP: the rail is off and the window cleared (R46). -/
def State.enterSleep (s : State) (u : Nat) : State :=
  (((s.paceEnter u paceSleep).setWindow u []).setObj .hallVoltage u 0).setPacer u
    { PaceSt.reset with stored := (s.pacer u).stored }

/-- The unit starts or restarts (R36, R46, R48): a level stored while gated takes effect; the pacer enters HOLD,
or OFF with `HALL_PACE_EN` at 0 or at P0. -/
def State.paceRestart (s : State) (u : Nat) : State :=
  let s := match (s.pacer u).stored with
    | some l => s.setObj .hallLevel u l
    | none => s
  let s := s.setPacer u PaceSt.reset
  if s.obj .hallPaceEn u = 0 ∨ s.obj .hallLevel u = 0 then s.paceEnter u paceOff else s.enterHold u

/-- Whether the unit's last junction reading is at `HALL_HOT_HOLD` or above (R40, R46). -/
def State.isHot (s : State) (u : Nat) : Bool := decide (s.obj .hallHotHold u ≤ s.obj .hallTj u)

/-- Into HOT, counted (R46). -/
def State.enterHot (s : State) (u : Nat) : State := (s.paceEnter u paceHot).bump .paceHotEntries u

/-- The HOT test of R40 and R46: in TRACK or SNAP at `HALL_HOT_HOLD` or above into HOT; in HOT, 5 °C below it,
into HOLD. -/
def State.hotTest (s : State) (u : Nat) : State :=
  let st := s.obj .hallPaceState u
  if (st = paceTrack ∨ st = paceSnap) ∧ s.isHot u then s.enterHot u
  else if st = paceHot ∧ s.obj .hallTj u ≤ s.obj .hallHotHold u - 40 then s.enterHold u
  else s

/-- A snap cause other than a level change (R39, R46, R47, R587): recorded and counted in every state but SLEEP;
in TRACK, T goes to 0 and the pacer enters SNAP, until the rail is at the level voltage: 5 µs at most, and after a level change
still slewing 35 µs at most (R44, R49). -/
def State.snap (s : State) (u : Nat) (cause : Int) : State :=
  if s.obj .hallPaceState u = paceSleep then s
  else
    let s := (s.setObj .hallLastSnapCause u cause).bump .paceSnaps u
    if s.obj .hallPaceState u = paceTrack then
      let s := s.markRaise u
      let p := s.pacer u
      let s := s.setPacer u { p with
        snapByLevel := p.slewFrom.isSome, settleBy := if p.slewFrom.isSome then max p.settleBy (s.now + 5000) else s.now + 5000 }
      s.paceEnter u paceSnap
    else s

/-- A completion with slack `slack` (ns) on unit u (R37, R39, R587); `late` when its outcome is DONE_LATE or
EXPIRED. In SLEEP no completion arrives. -/
def State.paceCompletion (s : State) (u : Nat) (slack : Int) (late : Bool) : State :=
  if s.obj .hallPaceState u = paceSleep then s
  else
    let p := s.pacer u
    let low := decide (slack < s.obj .hallPaceMargin u)
    let s := s.setPacer u { p with periodLow := p.periodLow || low }
    let s := s.setWindow u ((slack :: p.window).take 1048576)
    if 2 * slack < s.obj .hallPaceMargin u then s.snap u 1
    else if late then s.snap u 2
    else s

/-- T as it stood before a lowering step of this very instant (R47). -/
def State.trimBefore (s : State) (u : Nat) : Int :=
  if (s.pacer u).lowered = some s.now then s.obj .hallTrim u - 1 else s.obj .hallTrim u

/-- A lowering step of this very instant gives way to a raise: it has not happened (R39, R47). -/
def State.undoLower (s : State) (u : Nat) : State :=
  if (s.pacer u).lowered = some s.now then
    ((s.setTrim u (s.trimBefore u)).setObj .paceStepsDown u ((s.obj .paceStepsDown u - 1) % 4294967296)).setPacer u
      { s.pacer u with lowered := none }
  else s

/-- T is reduced by one (R39); a raise goes before a lowering step of the same instant (R47). -/
def State.paceRaise (s : State) (u : Nat) : State :=
  let s := s.undoLower u
  ((s.setTrim u (s.obj .hallTrim u - 1)).markRaise u).bump .paceStepsUp u

/-- HALL_RATE_SAMPLE (R39, R41): the sample is published; the rate guard raises; a sample below the floor at
T = 0 is a floor fault, with an EVT event at the first of a run. A gated unit's monitor does not run. -/
def execHallRateSample (u : Fin 18) (rate : Nat) (s : State) : Host.Outcome State Fault Refusal :=
  .next <|
    if s.obj .hallPaceState u = paceSleep then s
    else
      let t := s.trimBefore u
      let fl := s.unitFloor u
      let p := s.pacer u
      let s := s.setObj .hallRate u rate
      let s := s.setPacer u { p with
        periodRate := some (match p.periodRate with | some x => min x (rate : Int) | none => (rate : Int))
        faultRun := decide (t = 0 ∧ (rate : Int) < fl) }
      let s := if t = 0 ∧ (rate : Int) < fl then
          (s.bump .paceFloorFaults u).evtIf (!p.faultRun) .floorFault u rate
        else s
      if 0 < t ∧ (rate : Int) * 100 < fl * (100 + s.obj .hallPaceRateGuard u) then
        (s.paceRaise u).bump .paceRateGuardHits u
      else s

/-- PACING_PERIOD_END (R39): `HALL_RATE_PACED` takes the lowest sample of the period; the slack raise. -/
def execPacingPeriodEnd (u : Fin 18) (s : State) : Host.Outcome State Fault Refusal :=
  .next <|
    if s.obj .hallPaceState u = paceSleep then s
    else
      let p := s.pacer u
      let s := match p.periodRate with
        | some r => s.setObj .hallRatePaced u r
        | none => s
      let s := s.setPacer u { p with periodLow := false, periodRate := none }
      if 0 < s.trimBefore u ∧ p.periodLow then s.paceRaise u else s

/-- The hold of R39: no snap or raise within the last `HALL_PACE_HOLD` ms. -/
def State.holdPassed (s : State) (u : Nat) : Bool :=
  match (s.pacer u).lastRaise with
  | none => true
  | some t => decide (s.obj .hallPaceHold u * 1000000 ≤ s.now - t)

/-- Every lowering condition of R39 and R40. -/
def State.mayLower (s : State) (u : Nat) : Bool :=
  decide (s.obj .hallPaceState u = paceTrack)
  && decide (s.obj .hallPaceEn u ≠ 0) && decide (s.obj .hallLevel u ≠ 0) && !s.isHot u
  && decide (s.obj .hallTrim u < s.obj .hallPaceTrimMax u)
  && decide (s.obj .hallPaceMinSamples u ≤ s.obj .hallSlackSamples u)
  && decide (s.obj .hallPaceMargin u + s.obj .hallPaceHyst u ≤ s.obj .hallSlackTail u)
  && s.holdPassed u && !(s.pacer u).raised
  && decide (s.unitFloor u * (100 + s.obj .hallPaceRateGuard u) * 10 ≤ s.obj .hallRatePaced u * 975)

/-- LOWER_INTERVAL_END (R39): T is increased by one if every condition holds; the interval's raise flag clears. -/
def execLowerIntervalEnd (u : Fin 18) (s : State) : Host.Outcome State Fault Refusal :=
  .next <|
    if s.obj .hallPaceState u = paceSleep then s
    else
      let ok := s.mayLower u
      let s := s.setPacer u { s.pacer u with raised := false }
      if ok then
        ((s.setTrim u (s.obj .hallTrim u + 1)).setPacer u { s.pacer u with lowered := some s.now }).bump .paceStepsDown u
      else s

/-- HALL_PACE_SNAP (R39): any write snaps with cause 4. -/
def execHallPaceSnap (a : Accessor) (u : Fin 18) (v : Nat) (s : State) : Host.Outcome State Fault Refusal :=
  .next (s.dictWrite a .hallPaceSnap u v .ok (fun s => s.snap u 4))

/-- A change of level outside SLEEP (R34, R39, R46, R47): recorded with cause 5 and counted; T = 0 and the rail
slews, for 35 µs at most (R49); in TRACK it is a snap under R39; to P0 the pacer goes OFF; in TRACK and SNAP it enters SNAP as a
level change. -/
def State.levelChange (s : State) (u : Nat) (l : Int) : State :=
  let old := s.obj .hallLevel u
  let st := s.obj .hallPaceState u
  let p := s.pacer u
  let s := ((s.setObj .hallLastSnapCause u 5).bump .paceSnaps u).setObj .hallLevel u l
  let s := s.setPacer u { p with
    slewFrom := some (match p.slewFrom with | some x => min x old | none => old)
    fromP0 := p.fromP0 || decide (old = 0), settleBy := s.now + 35000 }
  let s := if st = paceTrack then s.markRaise u else s
  if l = 0 then s.paceEnter u paceOff
  else if st = paceTrack ∨ st = paceSnap then
    let s := s.setPacer u { s.pacer u with snapByLevel := true }
    s.paceEnter u paceSnap
  else s.setTrim u 0

/-- HALL_LEVEL_WRITE (R34, R36, R47): stored while gated; the level already in force changes nothing. -/
def execHallLevelWrite (a : Accessor) (u : Fin 18) (v : Nat) (s : State) : Host.Outcome State Fault Refusal :=
  .next (s.dictWrite a .hallLevel u v .ok (fun s =>
    if s.obj .hallPaceState u = paceSleep then s.setPacer u { s.pacer u with stored := some (v : Int) }
    else if (v : Int) = s.obj .hallLevel u then s
    else s.levelChange u v))

/-- The rail reaches its target (R46): the slew ends; SNAP goes to TRACK, or to HOLD after a level change; a level
change that completes in HOLD or TRACK enters HOLD, one from P0 completing in OFF with `HALL_PACE_EN` at 1 enters
HOLD, and one completing in HOT leaves HOT. -/
def State.railSettled (s : State) (u : Nat) : State :=
  let p := s.pacer u
  let st := s.obj .hallPaceState u
  let s := s.setPacer u { p with slewFrom := none, fromP0 := false, snapByLevel := false }
  if st = paceSnap then
    if p.snapByLevel then s.enterHold u else (s.paceEnter u paceTrack).hotTest u
  else if p.slewFrom.isSome ∧ (st = paceHold ∨ st = paceTrack) then s.enterHold u
  else if p.slewFrom.isSome ∧ st = paceOff ∧ p.fromP0 ∧ s.obj .hallLevel u ≠ 0 ∧ s.obj .hallPaceEn u ≠ 0 then
    s.enterHold u
  else s

/-- LEVEL_SLEW_DONE (R46): the rail reaches the new level's voltage; nothing happens when no slew is under way. -/
def execLevelSlewDone (u : Fin 18) (s : State) : Host.Outcome State Fault Refusal :=
  .next (if (s.pacer u).slewFrom.isSome then s.railSettled u else s)

/-- SNAP_RAIL_SETTLED (R46): the rail reaches the level voltage after a snap; nothing happens outside SNAP. -/
def execSnapRailSettled (u : Fin 18) (s : State) : Host.Outcome State Fault Refusal :=
  .next (if s.obj .hallPaceState u = paceSnap then s.railSettled u else s)

/-- HALL_PACE_EN_WRITE (R46): 0 takes the pacer to OFF; 1 takes it from OFF at a level other than P0 to HOLD. In
SLEEP the value alone changes. -/
def execHallPaceEnWrite (a : Accessor) (u : Fin 18) (v : Nat) (s : State) : Host.Outcome State Fault Refusal :=
  .next (s.dictWrite a .hallPaceEn u v .ok (fun s =>
    let s := s.setObj .hallPaceEn u v
    let st := s.obj .hallPaceState u
    if st = paceSleep then s
    else if v = 0 then s.paceEnter u paceOff
    else if st = paceOff ∧ s.obj .hallLevel u ≠ 0 then s.enterHold u
    else s))

/-- PACE_START_HOLD_EXPIRE (R46): HOLD ends and TRACK is entered, where the HOT test applies. -/
def execPaceStartHoldExpire (u : Fin 18) (s : State) : Host.Outcome State Fault Refusal :=
  .next (if s.obj .hallPaceState u = paceHold then (s.paceEnter u paceTrack).hotTest u else s)

/-- HALL_RAIL_UNDERVOLTAGE (R31): the regulator stops the unit at its next handshake; a fault 0x02 of the hall or
block (R533, R534). -/
def execHallRailUndervoltage (u : Fin 18) (s : State) : Host.Outcome State Fault Refusal :=
  .next (s.unitFault (unitOfPacer u) 2)

end Sys2Proof.Machine
end

