-- ==== Sys2Proof/Machine/CoreDecode.lean ====
section
/-! DEFINITION. The bundle words of the Wylen core and of WVX read from their encodings (R78, R82, R83, R84, R123,
R124). -/

namespace Sys2Proof.Machine

/-- The word that does nothing (R78). -/
def nopWord : BWord := ⟨[], [], false⟩

/-- A word of one slot that holds one operation. -/
def oneOp (slot : Nat) (op : CoreOp) : BWord := ⟨[slot], [op], false⟩

/-- A word of one slot with a reserved value in a field (R79). -/
def badWord (slot : Nat) : BWord := oneOp slot (.illegal slot)

/-- S-class words (R82, R84). OP values that the spec does not list are reserved (log entry 20); ASRR takes bits [14:11] as its
scale (DESIGN CHOICE, log entry 89). -/
def decodeS (w : Nat) : BWord :=
  let d := bits w 22 19
  let s := bits w 18 15
  let t := bits w 14 11
  let rm := bits w 10 9
  let f := bitAt w 8
  let hs := bitAt w 7
  let ht := bitAt w 6
  let sh := bits w 5 4
  let acc := bits w 3 2
  if bits w 1 0 ≠ 0 then badWord 3
  else match bits w 28 23 with
    | 0x01 => oneOp 3 (.add d s t f)
    | 0x02 => oneOp 3 (.sub d s t f)
    | 0x10 => oneOp 3 (.mac acc s hs t ht sh f)
    | 0x11 => oneOp 3 (.msu acc s hs t ht sh f)
    | 0x12 => oneOp 3 (.mpy acc s hs t ht sh f)
    | 0x18 => oneOp 3 (.exth d hs acc t rm f)
    | 0x19 => oneOp 3 (.extw d acc t rm f)
    | 0x20 => oneOp 3 (.asrr d s t rm f)
    | _ => badWord 3

/-- A-class words (R82). CALL and RET have no encoding in the spec (log entry 20). -/
def decodeA (w : Nat) : BWord :=
  match bits w 28 25 with
  | 0 => oneOp 3 (.bra (bits w 24 21) (signExt 21 (bits w 20 0)))
  | 3 =>
    if bitAt w 24 then oneOp 3 (.rep true (bits w 9 0) (bits w 23 10))
    else if bits w 9 4 ≠ 0 then badWord 3
    else oneOp 3 (.rep false (bits w 3 0) (bits w 23 10))
  | 12 => if bits w 15 4 ≠ 0 then badWord 3 else oneOp 3 (.mvc (bitAt w 24) (bits w 23 16) (bits w 3 0))
  | 15 =>
    if bits w 24 16 ≠ 0 ∨ bits w 7 5 ≠ 0 then badWord 3
    else match bits w 4 0 with
      | 1 => oneOp 3 .rte
      | 2 => oneOp 3 .trap
      | 3 => oneOp 3 .bkpt
      | 4 => oneOp 3 .fence
      | n => if 8 ≤ n then oneOp 3 (.sched n (bits w 15 8)) else badWord 3
  | _ => badWord 3

/-- The operation of a V-class OP value and its format: 1 arith, 2 mac, 3 extract, 4 reduce to D, 5 memory,
6 state (R123, R124). -/
def vopOf (n : Nat) : Option (VOp × Nat) :=
  match n with
  | 0x00 => some (.vadd, 1) | 0x01 => some (.vsub, 1) | 0x02 => some (.vmin, 1) | 0x03 => some (.vmax, 1)
  | 0x04 => some (.vabs, 1) | 0x05 => some (.vneg, 1) | 0x06 => some (.vand, 1) | 0x07 => some (.vor, 1)
  | 0x08 => some (.vxor, 1) | 0x09 => some (.vasrr, 1) | 0x0A => some (.vshl, 1) | 0x0B => some (.vmul, 1)
  | 0x0C => some (.vcmul, 1) | 0x10 => some (.vmpy, 2) | 0x11 => some (.vmac, 2) | 0x12 => some (.vmsu, 2)
  | 0x13 => some (.vaclr, 2) | 0x18 => some (.vexth, 3) | 0x20 => some (.vcmpeq, 1) | 0x21 => some (.vcmplt, 1)
  | 0x22 => some (.vcmple, 1) | 0x28 => some (.vperm, 1) | 0x29 => some (.vzipl, 1) | 0x2A => some (.vziph, 1)
  | 0x2B => some (.vuzpe, 1) | 0x2C => some (.vuzpo, 1) | 0x2D => some (.vdup, 1) | 0x30 => some (.vrsum, 2)
  | 0x31 => some (.vrmax, 4) | 0x32 => some (.vrmin, 4) | 0x38 => some (.vgather, 5) | 0x39 => some (.vscatter, 5)
  | 0x3E => some (.vstr, 6) | 0x3F => some (.vstw, 6)
  | _ => none

/-- V-class words (R123, R124). -/
def decodeV (w : Nat) : BWord :=
  let ty := bits w 22 21
  match vopOf (bits w 28 23) with
  | none => badWord 4
  | some (op, fmt) =>
    match fmt with
    | 1 => oneOp 4 (.vec ⟨op, ty, bits w 20 16, bits w 15 11, bits w 10 6, bits w 5 4, bitAt w 3, bitAt w 2, false, bits w 1 0⟩)
    | 2 =>
      if bits w 20 18 ≠ 0 then badWord 4
      else oneOp 4 (.vec ⟨op, ty, bits w 17 16, bits w 15 11, bits w 10 6, bits w 5 4, bitAt w 3, false, bitAt w 2, bits w 1 0⟩)
    | 3 =>
      if bits w 15 13 ≠ 0 ∨ bits w 6 4 ≠ 0 ∨ bitAt w 2 then badWord 4
      else oneOp 4 (.vec ⟨op, ty, bits w 20 16, bits w 12 11, bits w 10 7, 0, bitAt w 3, false, false, bits w 1 0⟩)
    | 4 =>
      if bitAt w 20 ∨ bits w 10 6 ≠ 0 ∨ bits w 2 0 ≠ 0 then badWord 4
      else oneOp 4 (.vec ⟨op, ty, bits w 19 16, bits w 15 11, 0, bits w 5 4, bitAt w 3, false, false, 0⟩)
    | 5 =>
      if bits w 2 0 ≠ 0 then badWord 4
      else oneOp 4 (.vec ⟨op, ty, bits w 20 16, bits w 15 11, bits w 10 8, bits w 5 4, bitAt w 3, false, false, bits w 7 6⟩)
    | _ =>
      if bits w 18 0 ≠ 0 then badWord 4
      else oneOp 4 (.vec ⟨op, 0, bits w 22 19, 0, 0, 0, false, false, false, 0⟩)

/-- The register field of an M word (R83): the register number and, for 16 bits, the half. -/
def moveReg (size r : Nat) : Option (Nat × Bool) :=
  match size with
  | 1 => some (r / 2, r % 2 == 1)
  | 2 => if r < 16 then some (r, false) else none
  | 3 => if r < 16 ∧ r % 2 = 0 then some (r, false) else none
  | _ => some (r, false)

/-- M-class words (R71, R82, R83). -/
def decodeM (w : Nat) : BWord :=
  let y := bitAt w 28
  let slot := if y then 2 else 1
  let size := bits w 26 25 + 1
  let off := signExt 11 (bits w 10 0)
  let am := bits w 16 14
  if am ≠ 3 ∧ off ≠ 0 then badWord slot
  else match moveReg size (bits w 24 20) with
    | none => badWord slot
    | some (r, h) =>
      let mv (u : MoveUpd) : BWord := oneOp slot (.move ⟨y, bitAt w 27, size, r, h, bits w 19 17, u⟩)
      match am with
      | 0 => mv .keep
      | 1 => mv .plus
      | 2 => mv (.byM (bits w 13 11))
      | 3 => mv (.offset off)
      | 4 => mv .minus
      | _ => badWord slot

/-- One compact move of a P word (R82): 14 bits. -/
def compactP (y : Bool) (big : Bool) (m : Nat) : CoreOp :=
  let slot := if y then 2 else 1
  let r := bits m 12 8
  let an := bits m 7 6 + (if y then 4 else 0)
  let mv (u : MoveUpd) : CoreOp := .move ⟨y, bitAt m 13, if big then 4 else 2, r, false, an, u⟩
  if !big && decide (16 ≤ r) then .illegal slot
  else match bits m 5 3 with
    | 0 => mv .keep
    | 1 => mv .plus
    | 2 => mv .minus
    | 3 => mv (.byM (bits m 2 0))
    | _ => .illegal slot

/-- P-class words (R82). -/
def decodeP (w : Nat) : BWord :=
  let big := bitAt w 28
  ⟨[1, 2], [compactP false big (bits w 27 14), compactP true big (bits w 13 0)], false⟩

/-- One compact move of a Q word (R82): 8 bits. -/
def compactQ (y : Bool) (big : Bool) (m : Nat) : CoreOp :=
  .move ⟨y, bitAt m 7, if big then 4 else 2, bits m 6 3, false, bits m 2 1 + (if y then 4 else 0),
    if bitAt m 0 then .plus else .keep⟩

/-- The compact multiply of a Q word (R82): 12 bits, Q15 with SH = 1. -/
def compactMul (m : Nat) : CoreOp :=
  let acc := bits m 8 7
  let s := bits m 6 4
  let t := bits m 3 1
  let h := bitAt m 0
  match bits m 11 9 with
  | 0 => .mac acc s h t h 1 false
  | 1 => .msu acc s h t h 1 false
  | 2 => .mpy acc s h t h 1 false
  | 4 => .clr acc
  | _ => .illegal 3

/-- Q-class words (R82). -/
def decodeQ (w : Nat) : BWord :=
  let big := bitAt w 28
  ⟨[3, 1, 2], [compactMul (bits w 27 16), compactQ false big (bits w 15 8), compactQ true big (bits w 7 0)], false⟩

/-- One 32-bit word of a bundle (R78). -/
def decodeWord (w : Nat) : BWord :=
  match bits w 31 29 with
  | 0 => decodeS w
  | 1 => decodeA w
  | 2 => decodeV w
  | 3 => decodeM w
  | 4 => decodeP w
  | 5 => decodeQ w
  | 6 => if bits w 28 17 ≠ 0 then ⟨[], [.illegal 0], true⟩ else ⟨[], [], true⟩
  | _ => if w = 0xE0000000 then nopWord else ⟨[], [.illegal 0], false⟩

/-- A 64-bit bundle: word 0 is bits [31:0] (R78). -/
def decodeBundle (b : Nat) : Bundle := ⟨decodeWord (b % 2 ^ 32), decodeWord (b / 2 ^ 32 % 2 ^ 32)⟩

end Sys2Proof.Machine
end

