-- ==== Sys2Proof/Machine/CoreRegs.lean ====
section
/-! DEFINITION. Registers and fixed-point arithmetic of the Wylen core: register access (R53 to R57), rounding and
saturation (R67, R68), address generation (R70 to R72), and the local address space (R58 to R61). -/

namespace Sys2Proof.Machine

/-- Core states (R93). -/
abbrev coreOff : Int := 0
abbrev coreIdle : Int := 1
abbrev coreRun : Int := 2
abbrev coreHandler : Int := 3
abbrev coreHaltedDebug : Int := 4
abbrev coreHaltedFault : Int := 5
abbrev coreRejoining : Int := 6

/-- Core c's registers. -/
def State.core (s : State) (c : Nat) : CoreSt := tabGet CoreSt.reset s.cores c

/-- The state with core c's registers set. -/
def State.setCore (s : State) (c : Nat) (k : CoreSt) : State := { s with cores := tabSet CoreSt.reset s.cores c k }

/-- The core's PC (R53), the object `CORE_PC`. -/
def State.pc (s : State) (c : Nat) : Nat := s.objN .corePc c

/-- The state with the PC set, a multiple of 8 in 24 bits. -/
def State.setPc (s : State) (c : Nat) (a : Nat) : State := s.setObj .corePc c ((a % 16777216 / 8 * 8 : Nat) : Int)

/-- Dn. -/
def CoreSt.rd (k : CoreSt) (n : Nat) : Word := tabGet 0 k.d n

/-- Dn written. -/
def CoreSt.wd (k : CoreSt) (n : Nat) (v : Word) : CoreSt := { k with d := tabSet 0 k.d n v }

/-- Dn.H or Dn.L as a signed value (R53). -/
def CoreSt.half (k : CoreSt) (n : Nat) (hi : Bool) : Int :=
  if hi then ((k.rd n).extractLsb' 16 16).toInt else ((k.rd n).extractLsb' 0 16).toInt

/-- Dn.H or Dn.L written; the other half stays (R54). -/
def CoreSt.wdHalf (k : CoreSt) (n : Nat) (hi : Bool) (v : Nat) : CoreSt :=
  let w := (k.rd n).toNat
  k.wd n (BitVec.ofNat 32 (if hi then (v % 65536) * 65536 + w % 65536 else w / 65536 * 65536 + v % 65536))

/-- An. -/
def CoreSt.ra (k : CoreSt) (n : Nat) : Nat := (tabGet (0 : BitVec 24) k.a n).toNat

/-- An written: bits [23:0] are kept (R54). -/
def CoreSt.wa (k : CoreSt) (n : Nat) (v : Nat) : CoreSt := { k with a := tabSet 0 k.a n (BitVec.ofNat 24 v) }

/-- ACCn. -/
def CoreSt.racc (k : CoreSt) (n : Nat) : Int := (tabGet (0 : BitVec 40) k.acc n).toInt

/-- ACCn written. -/
def CoreSt.wacc (k : CoreSt) (n : Nat) (v : Int) : CoreSt := { k with acc := tabSet 0 k.acc n (BitVec.ofInt 40 v) }

/-- Mn. -/
def CoreSt.rm (k : CoreSt) (n : Nat) : Word := tabGet 0 k.m n

/-- LCn. -/
def CoreSt.rlc (k : CoreSt) (n : Nat) : Nat := (tabGet (0 : Word) k.lc n).toNat

/-- LCn written. -/
def CoreSt.wlc (k : CoreSt) (n v : Nat) : CoreSt := { k with lc := tabSet 0 k.lc n (BitVec.ofNat 32 v) }

/-- LSn, END and START (R73). -/
def CoreSt.lsEnd (k : CoreSt) (n : Nat) : Nat := bits (tabGet (0 : Word) k.ls n).toNat 29 16
def CoreSt.lsStart (k : CoreSt) (n : Nat) : Nat := bits (tabGet (0 : Word) k.ls n).toNat 13 0

/-- LSn written; the reserved bits read 0 (R73). -/
def CoreSt.wls (k : CoreSt) (n start fin : Nat) : CoreSt :=
  { k with ls := tabSet 0 k.ls n (BitVec.ofNat 32 ((fin % 16384) * 65536 + start % 16384)) }

/-- WBASE_k: VALID and BASE (R60). -/
def CoreSt.winValid (k : CoreSt) (n : Nat) : Bool := bitAt (tabGet (0 : Word) k.wbase n).toNat 31
def CoreSt.winBase (k : CoreSt) (n : Nat) : Nat := bits (tabGet (0 : Word) k.wbase n).toNat 26 0

/-- Vn. -/
def CoreSt.rv (k : CoreSt) (n : Nat) : BitVec 128 := tabGet 0 k.v n

/-- Vn written. -/
def CoreSt.wv (k : CoreSt) (n : Nat) (x : BitVec 128) : CoreSt := { k with v := tabSet 0 k.v n x }

/-- Lane j of VAn (R97). -/
def CoreSt.lane (k : CoreSt) (n j : Nat) : Int := (tabGet (0 : BitVec 40) k.va (8 * n + j)).toInt

/-- Lane j of VAn written. -/
def CoreSt.wlane (k : CoreSt) (n j : Nat) (x : Int) : CoreSt :=
  { k with va := tabSet 0 k.va (8 * n + j) (BitVec.ofInt 40 x) }

/-! ### Status words -/

/-- One bit of a word. -/
def bit1 (b : Bool) (i : Nat) : Nat := if b then 2 ^ i else 0

/-- SST as a word (R55). -/
def Sst.toWord (t : Sst) : Nat :=
  bit1 t.exl 31 + bit1 t.ie 30 + (t.ld % 8) * 2 ^ 27 + (t.rnd % 4) * 2 ^ 25 + bit1 t.sat 24 + bit1 t.sv 15
    + bit1 t.av 14 + bit1 t.n 11 + bit1 t.z 10 + bit1 t.c 9 + bit1 t.v 8

/-- SST after MVC writes a word: EXL is RO, LD of 5 to 7 and RND of 0b11 leave their fields, a sticky bit is cleared
by 0 and unaffected by 1 (R55). -/
def Sst.write (t : Sst) (w : Nat) : Sst :=
  { t with
    ie := bitAt w 30
    ld := if bits w 29 27 ≤ 4 then bits w 29 27 else t.ld
    rnd := if bits w 26 25 = 3 then t.rnd else bits w 26 25
    sat := bitAt w 24
    sv := t.sv && bitAt w 15
    av := t.av && bitAt w 14
    n := bitAt w 11, z := bitAt w 10, c := bitAt w 9, v := bitAt w 8 }

/-- SST restored from ESST by RTE (R89): every field as saved; an LD of 5 to 7 or an RND of 0b11 that software put
into ESST leaves the field, as a write of SST would (log entry 21). -/
def Sst.restore (t : Sst) (w : Nat) : Sst :=
  { exl := bitAt w 31, ie := bitAt w 30
    ld := if bits w 29 27 ≤ 4 then bits w 29 27 else t.ld
    rnd := if bits w 26 25 = 3 then t.rnd else bits w 26 25
    sat := bitAt w 24, sv := bitAt w 15, av := bitAt w 14
    n := bitAt w 11, z := bitAt w 10, c := bitAt w 9, v := bitAt w 8 }

/-- VSTATE as a word (R100). -/
def VState.toWord (t : VState) : Nat :=
  bit1 t.rs 31 + (t.eidx % 16) * 2 ^ 24 + bit1 t.vsv 21 + bit1 t.vav 20 + (t.ecode % 16) * 2 ^ 16 + t.mask % 65536

/-- VSTATE after VSTW: ECODE is RO, the sticky bits are cleared by 0 and unaffected by 1 (R100, R101). -/
def VState.write (t : VState) (w : Nat) : VState :=
  { t with rs := bitAt w 31, eidx := bits w 27 24, vsv := t.vsv && bitAt w 21, vav := t.vav && bitAt w 20
           mask := bits w 15 0 }

/-- VSTATE from a word with every field taken, as a thread's saved context holds it (R102). -/
def VState.ofWord (w : Nat) : VState :=
  ⟨bitAt w 31, bits w 27 24, bitAt w 21, bitAt w 20, bits w 19 16, bits w 15 0⟩

/-! ### Rounding and saturation -/

/-- round(x, k, mode) of R67: mode 0 truncate, 1 half away from zero, 2 half to even. -/
def roundShift (x : Int) (k : Nat) (mode : Nat) : Int :=
  if k = 0 then x
  else
    let q := x / 2 ^ k
    let r := x - q * 2 ^ k
    if mode = 1 then
      if 2 ^ (k - 1) < r ∨ (r = 2 ^ (k - 1) ∧ 0 ≤ x) then q + 1 else q
    else if mode = 2 then
      if 2 ^ (k - 1) < r ∨ (r = 2 ^ (k - 1) ∧ q % 2 = 1) then q + 1 else q
    else q

/-- The rounding mode of an instruction: SST.RND unless RM overrides it (R67). -/
def roundMode (rnd rm : Nat) : Nat := if rm = 0 then rnd else rm - 1

/-- Whether a value fits `n` bits, signed. -/
def fits (n : Nat) (q : Int) : Bool := decide (-(2 ^ (n - 1)) ≤ q) && decide (q < 2 ^ (n - 1))

/-- saturate(q, bits) of R67: the value, and whether it was clamped. Without SAT it wraps. -/
def saturate (sat : Bool) (n : Nat) (q : Int) : Int × Bool :=
  if sat && decide (2 ^ (n - 1) - 1 < q) then (2 ^ (n - 1) - 1, true)
  else if sat && decide (q < -(2 ^ (n - 1))) then (-(2 ^ (n - 1)), true)
  else (signExt n (toField n q), false)

/-- R68: an accumulator result in 40 bits, whether AV is set, and whether it was clamped. -/
def accResult (sat : Bool) (q : Int) : Int × Bool × Bool :=
  if fits 40 q then (q, false, false)
  else if sat then (if 0 ≤ q then 2 ^ 39 - 1 else -(2 ^ 39), true, true)
  else (signExt 40 (toField 40 q), true, false)

/-- An accumulator written under R68, with SST.AV and SST.SV. -/
def CoreSt.accStore (k : CoreSt) (old : CoreSt) (n : Nat) (q : Int) : CoreSt :=
  let r := accResult old.sst.sat q
  let k := k.wacc n r.1
  { k with sst := { k.sst with av := k.sst.av || r.2.1, sv := k.sst.sv || r.2.2 } }

/-- N, Z, C and V set from a result (R69). -/
def CoreSt.flags (k : CoreSt) (res : Int) (c v : Bool) : CoreSt :=
  { k with sst := { k.sst with n := decide (res < 0), z := decide (res = 0), c := c, v := v } }

/-- SV set when a result was clamped (R67). -/
def CoreSt.sticky (k : CoreSt) (clamped : Bool) : CoreSt := { k with sst := { k.sst with sv := k.sst.sv || clamped } }

/-! ### Address generation -/

/-- The size of a move in bytes. -/
def moveBytes (m : Move) : Nat := 2 ^ m.size

/-- Reverses the low `k` bits (R72). -/
def bitrev : Nat → Nat → Nat
  | 0, _ => 0
  | k + 1, x => (x % 2) * 2 ^ k + bitrev k (x / 2)

/-- The smallest power of two not below `l`, tried from 2^k up with `fuel` steps. -/
def powTwoAbove (l : Nat) : Nat → Nat → Nat
  | 0, p => p
  | f + 1, p => if l ≤ p then p else powTwoAbove l f (2 * p)

/-- The power of two's exponent. -/
def log2Of (l : Nat) : Nat → Nat → Nat
  | 0, k => k
  | f + 1, k => if l ≤ 2 ^ k then k else log2Of l f (k + 1)

/-- update(a, m) of R72; none raises ADDR_MODE. -/
def updateByM (a : Nat) (m : Word) : Option Nat :=
  let w := m.toNat
  let step := signExt 16 (bits w 15 0)
  let l := bits w 29 16 * 8
  match bits w 31 30 with
  | 0 => some ((((a : Int) + step) % 16777216).toNat)
  | 1 =>
    if l = 0 then none
    else
      let p := powTwoAbove l 24 1
      let base := a / p * p
      let off : Int := (a - base : Nat)
      if (l : Int) ≤ off ∨ (l : Int) < |step| then none
      else
        let o1 := off + step
        let o2 := if (l : Int) ≤ o1 then o1 - l else o1
        let o3 := if o2 < 0 then o2 + l else o2
        some (base + o3.toNat)
  | 2 =>
    if l = 0 then none
    else
      let k := log2Of l 24 0
      if l ≠ 2 ^ k then none
      else
        let base := a / l * l
        some (base + bitrev k ((bitrev k (a - base) + bitrev k ((step % (2 ^ k : Nat)).toNat)) % 2 ^ k))
  | _ => none

/-- The address a move uses (R71). -/
def CoreSt.moveAddr (k : CoreSt) (m : Move) : Nat :=
  match m.upd with
  | .offset o => (((k.ra m.an : Int) + o * (moveBytes m : Nat)) % 16777216).toNat
  | _ => k.ra m.an

/-- An afterwards (R71, R72); none raises ADDR_MODE. -/
def CoreSt.moveNext (k : CoreSt) (m : Move) : Option Nat :=
  match m.upd with
  | .plus => some ((k.ra m.an + (moveBytes m)) % 16777216)
  | .minus => some ((k.ra m.an + 16777216 - (moveBytes m)) % 16777216)
  | .byM i => updateByM (k.ra m.an) (k.rm i)
  | _ => some (k.ra m.an)

/-! ### The local address space -/

/-- Where a local address leads for a data move (R58, R60, R61): X or Y memory, a window's global address and
whether the access is allowed, or nothing. -/
inductive Place where
  | local (a : Nat)
  | window (w : Nat) (g : Nat) (ok : Bool)
  | none
  deriving DecidableEq, Repr

/-- The place of a local address. -/
def State.place (s : State) (k : CoreSt) (a n : Nat) : Place :=
  if 0x100000 ≤ a ∧ a < 0x120000 then .local a
  else if 0x200000 ≤ a ∧ a < 0x220000 then .local a
  else if 0x400000 ≤ a ∧ a < 0x1000000 then
    let w := (a - 0x400000) / 0x200000
    let g := k.winBase w * 0x200000 + (a - 0x400000) % 0x200000
    .window w g (k.winValid w && s.reachable g n)
  else .none

/-- EADDR of an access: global for a window, local otherwise (R56). -/
def placeAddr (a : Nat) : Place → Nat
  | .window _ g _ => g
  | _ => a

/-- The protected word of a place, if the place is in a memory. -/
def placeLoc (c : Nat) : Place → Option MemLoc
  | .local a => some (.core c a)
  | .window _ g _ => some (.global g)
  | .none => Option.none

/-- A byte of a core's memory. -/
def State.coreByte (s : State) (c a : Nat) : Byte := tabGet 0 s.coreMem (c * 16777216 + a)

/-- `n` bytes of a core's memory. -/
def State.coreBytes (s : State) (c a : Nat) : Nat → List Byte
  | 0 => []
  | n + 1 => s.coreByte c a :: s.coreBytes c (a + 1) n

/-- The state with bytes written to a core's memory. -/
def State.writeCore (s : State) (c a : Nat) (l : List Byte) : State :=
  { s with coreMem := memWrite s.coreMem (c * 16777216 + a) l }

/-- What a read delivers beyond the stored data: the wrong bits that remain after correction (R324), over the bytes
[a, a + n) of the words at `loc`. -/
def State.readError (s : State) (loc : Nat → MemLoc) (a n : Nat) : Nat :=
  leNat ((List.range n).map (fun i =>
    BitVec.ofNat 8 (residual (s.upset (loc (a + i))) / 2 ^ (8 * ((a + i) % 8)))))

/-- The bytes a data move reads, as a number (R9). -/
def State.readPlace (s : State) (c n : Nat) : Place → Nat
  | .local a => leNat (s.coreBytes c a n) ^^^ s.readError (fun x => .core c x) a n
  | .window _ g _ => s.memNat g n ^^^ s.readError (fun x => .global x) g n
  | .none => 0

/-- The number of protected words that `n` bytes at a place touch, and the k-th of them. -/
def wordAt (c : Nat) (p : Place) (k : Nat) : Option MemLoc :=
  match p with
  | .local a => some (.core c (a / 8 * 8 + 8 * k))
  | .window _ g _ => some (.global (g / 8 * 8 + 8 * k))
  | .none => Option.none

/-- Whether a word of an access of `n` bytes at a place is uncorrectable. -/
def State.placePoison (s : State) (c n : Nat) (p : Place) : Bool :=
  (List.range (if n ≤ 8 then 1 else 2)).any (fun k => match wordAt c p k with
    | some l => s.isPoison l
    | Option.none => false)

/-- The words of an access are read by demand: corrections are counted and logged (R65, R325). -/
def State.placeDemand (s : State) (c n src : Nat) (p : Place) : State :=
  (List.range (if n ≤ 8 then 1 else 2)).foldl (fun s k => match wordAt c p k with
    | some l => s.demandWord l src
    | Option.none => s) s

/-! ### Control registers -/

/-- A control register's value (R56); none for a number not listed (R57). -/
def State.ctlRead (s : State) (c : Nat) (k : CoreSt) (n : Nat) : Option Nat :=
  if n = 0 then some k.sst.toWord
  else if n = 1 then some k.epc
  else if n = 2 then some k.esst.toNat
  else if n = 3 then some k.ecause
  else if n = 4 then some (k.eaddr % 2 ^ 32)
  else if n = 5 then some (k.eaddr / 2 ^ 32 % 65536)
  else if n = 6 then some k.vbase
  else if 0x10 ≤ n ∧ n ≤ 0x13 then some (k.rlc (n - 0x10))
  else if 0x14 ≤ n ∧ n ≤ 0x17 then some (tabGet (0 : Word) k.ls (n - 0x14)).toNat
  else if 0x18 ≤ n ∧ n ≤ 0x1F then some (k.rm (n - 0x18)).toNat
  else if 0x20 ≤ n ∧ n ≤ 0x25 then some (tabGet (0 : Word) k.wbase (n - 0x20)).toNat
  else if n = 0x30 then some c
  else if n = 0x31 then some (k.cyc % 2 ^ 32)
  else if n = 0x32 then some (k.cyc / 2 ^ 32 % 2 ^ 32)
  else if n = 0x34 then some ((s.unit c).epoch % 2 ^ 32)
  else none

/-- A control register written (R56); none for a number not listed or a register marked RO (R57). -/
def CoreSt.ctlWrite (k : CoreSt) (n : Nat) (w : Word) : Option CoreSt :=
  let v := w.toNat
  if n = 0 then some { k with sst := k.sst.write v }
  else if n = 1 then some { k with epc := v % 16777216 / 8 * 8 }
  else if n = 2 then some { k with esst := w }
  else if n = 6 then some { k with vbase := v / 1024 * 1024 }
  else if 0x10 ≤ n ∧ n ≤ 0x13 then some (k.wlc (n - 0x10) v)
  else if 0x14 ≤ n ∧ n ≤ 0x17 then some (k.wls (n - 0x14) (bits v 13 0) (bits v 29 16))
  else if 0x18 ≤ n ∧ n ≤ 0x1F then some { k with m := tabSet 0 k.m (n - 0x18) w }
  else if 0x20 ≤ n ∧ n ≤ 0x25 then
    some { k with wbase := tabSet 0 k.wbase (n - 0x20) (BitVec.ofNat 32 (bits v 31 31 * 2 ^ 31 + bits v 26 0)) }
  else none

end Sys2Proof.Machine
end

