-- ==== Sys2Proof/Machine/VecOps.lean ====
section
/-! DEFINITION. The element operations of WVX (R98 to R112): elements, masks, accumulator lanes, permutes and
reductions, as functions of the core's registers. -/

namespace Sys2Proof.Machine

/-- Element width in bits (R98): E8, E16, E32, C16. -/
def elemWidth (ty : Nat) : Nat := if ty = 0 then 8 else if ty = 1 then 16 else 32

/-- Elements of an operation: of 128 bits, or of a half (R98, R99). -/
def elemCount (ty hf : Nat) : Nat := (if hf = 0 then 128 else 64) / elemWidth ty

/-- The lowest bit an operation with this HF uses (R99). -/
def halfBase (hf : Nat) : Nat := if hf = 2 then 64 else 0

/-- Element k of a register, as bits (R98, R99). -/
def getElem (ty hf k : Nat) (v : BitVec 128) : Nat :=
  v.toNat / 2 ^ (halfBase hf + elemWidth ty * k) % 2 ^ elemWidth ty

/-- A register with element k replaced. -/
def putElem (ty hf k : Nat) (v : BitVec 128) (x : Nat) : BitVec 128 :=
  let w := elemWidth ty
  let b := halfBase hf + w * k
  let n := v.toNat
  BitVec.ofNat 128 (n / 2 ^ (b + w) * 2 ^ (b + w) + (x % 2 ^ w) * 2 ^ b + n % 2 ^ b)

/-- The parts of an element: one signed value, or real and imaginary for C16 (R98, R103). -/
def parts (ty x : Nat) : List Int :=
  if ty = 3 then [signExt 16 (x % 65536), signExt 16 (x / 65536)] else [signExt (elemWidth ty) x]

/-- The width of a part. -/
def partWidth (ty : Nat) : Nat := if ty = 3 then 16 else elemWidth ty

/-- An element from its parts. -/
def fromParts (ty : Nat) : List Int → Nat
  | [a] => toField (partWidth ty) a
  | [a, b] => toField 16 a + 65536 * toField 16 b
  | _ => 0

/-- Whether element k is active (R109). -/
def CoreSt.active (k : CoreSt) (v : VecWord) (i : Nat) : Bool := !v.masked || bitAt k.vstate.mask i

/-- Each part through saturate (R103). -/
def satParts (sat : Bool) (w : Nat) (l : List Int) : List Int × Bool :=
  ((l.map (fun q => (saturate sat w q).1)), l.any (fun q => (saturate sat w q).2))

/-- Parts of two elements added. -/
def addParts (a b : List Int) : List Int := List.zipWith (· + ·) a b

/-- The element operations of R104: the element and whether a part was clamped. `n` is the shift. -/
def elemOp (op : VOp) (ty : Nat) (sat : Bool) (mode n : Nat) (a b : Nat) : Nat × Bool :=
  let w := partWidth ty
  let pa := parts ty a
  let pb := parts ty b
  let out (r : List Int × Bool) : Nat × Bool := (fromParts ty r.1, r.2)
  match op with
  | .vadd => out (satParts sat w (addParts pa pb))
  | .vsub => out (satParts sat w (addParts pa (pb.map (fun x => -x))))
  | .vmin => (if signExt w a ≤ signExt w b then a else b, false)
  | .vmax => (if signExt w b ≤ signExt w a then a else b, false)
  | .vabs => out (satParts sat w (pa.map (fun x => |x|)))
  | .vneg => out (satParts sat w (pa.map (fun x => -x)))
  | .vand => (a &&& b, false)
  | .vor => (a ||| b, false)
  | .vxor => (a ^^^ b, false)
  | .vasrr => (fromParts ty (pa.map (fun x => roundShift x n mode)), false)
  | .vshl => out (satParts sat w (pa.map (fun x => x * 2 ^ n)))
  | .vmul => out (satParts sat w [roundShift (signExt 16 a * signExt 16 b) 15 mode])
  | .vcmul =>
    match pa, pb with
    | [ar, ai], [br, bi] =>
      out (satParts sat 16 [roundShift (ar * br - ai * bi) 15 mode, roundShift (ar * bi + ai * br) 15 mode])
    | _, _ => (0, false)
  | _ => (0, false)

/-- VSTATE with VSV and VAV raised. -/
def CoreSt.vsticky (k : CoreSt) (sv av : Bool) : CoreSt :=
  { k with vstate := { k.vstate with vsv := k.vstate.vsv || sv, vav := k.vstate.vav || av } }

/-- An element result laid into Vd under the masks of R109, for `n` elements; `f` gives element and clamp. -/
def vecFill (old : CoreSt) (v : VecWord) (f : Nat → Nat × Bool) : Nat → BitVec 128 × Bool → BitVec 128 × Bool
  | 0, acc => acc
  | i + 1, acc =>
    let acc := vecFill old v f i acc
    if old.active v i then
      let r := f i
      (putElem v.ty v.hf i acc.1 r.1, acc.2 || r.2)
    else if v.zeroing then (putElem v.ty v.hf i acc.1 0, acc.2)
    else acc

/-- A result register written element by element, with VSV. -/
def CoreSt.vecWrite (k old : CoreSt) (v : VecWord) (f : Nat → Nat × Bool) : CoreSt :=
  let r := vecFill old v f (elemCount v.ty v.hf) (old.rv v.d, false)
  (k.wv v.d r.1).vsticky r.2 false

/-- The products of an element pair and the lanes they feed (R105 to R107). -/
def macProducts (v : VecWord) (i a b : Nat) : List (Nat × Int) :=
  if v.ty = 3 then
    let base := if v.hf = 2 then 4 else 0
    match parts 3 a, parts 3 b with
    | [ar, ai], [br, bi] =>
      if v.cj then [(base + 2 * i, ar * br + ai * bi), (base + 2 * i + 1, ai * br - ar * bi)]
      else [(base + 2 * i, ar * br - ai * bi), (base + 2 * i + 1, ar * bi + ai * br)]
    | _, _ => []
  else [((if v.hf = 2 then 4 else 0) + i, signExt 16 a * signExt 16 b)]

/-- A lane written under R68 with VAV and VSV (R105). -/
def CoreSt.laneStore (k old : CoreSt) (n j : Nat) (q : Int) : CoreSt :=
  let r := accResult old.sst.sat q
  (k.wlane n j r.1).vsticky r.2.2 r.2.1

/-- VMPY, VMAC and VMSU over the products of one element. -/
def CoreSt.macLanes (k old : CoreSt) (v : VecWord) : List (Nat × Int) → CoreSt
  | [] => k
  | (j, p) :: r =>
    let q := p * 2 ^ v.k
    let x := if v.op = .vmac then old.lane v.d j + q else if v.op = .vmsu then old.lane v.d j - q else q
    (k.laneStore old v.d j x).macLanes old v r

/-- VMPY, VMAC and VMSU over the active elements below `i`. -/
def CoreSt.macAll (k old : CoreSt) (v : VecWord) : Nat → CoreSt
  | 0 => k
  | i + 1 =>
    let k := k.macAll old v i
    if old.active v i then
      k.macLanes old v (macProducts v i (getElem v.ty v.hf i (old.rv v.a)) (getElem v.ty v.hf i (old.rv v.b)))
    else k

/-- The mask a compare writes (R110): bits of the active elements below `i` for which it holds. -/
def compareMask (old : CoreSt) (v : VecWord) : Nat → Nat
  | 0 => 0
  | i + 1 =>
    let w := elemWidth v.ty
    let a := signExt w (getElem v.ty v.hf i (old.rv v.a))
    let b := signExt w (getElem v.ty v.hf i (old.rv v.b))
    let t := match v.op with
      | .vcmpeq => decide (a = b)
      | .vcmplt => decide (a < b)
      | _ => decide (a ≤ b)
    compareMask old v i + bit1 (old.active v i && t) i

/-- The permutes of R111: element i of Vd. An index of VPERM at or above the elements of a half is not stated: a free
value. -/
def permElem (old : CoreSt) (v : VecWord) (i : Nat) : Nat :=
  let n := elemCount v.ty v.hf
  let s (k : Nat) := getElem v.ty v.hf k (old.rv v.a)
  let t (k : Nat) := getElem v.ty v.hf k (old.rv v.b)
  match v.op with
  | .vperm =>
    let x := t i
    if bitAt x 7 then 0
    else if x % 16 < n then s (x % 16)
    else Config.freeOf 1 [x, (old.rv v.a).toNat]
  | .vzipl => if i % 2 = 0 then s (i / 2) else t ((i - 1) / 2)
  | .vziph => if i % 2 = 0 then s (n / 2 + i / 2) else t (n / 2 + (i - 1) / 2)
  | .vuzpe => if i < n / 2 then s (2 * i) else t (2 * i - n)
  | .vuzpo => if i < n / 2 then s (2 * i + 1) else t (2 * i + 1 - n)
  | _ => s v.b

/-- The exact sums of the parts of the active elements below `i` (R112). -/
def sumParts (old : CoreSt) (v : VecWord) : Nat → Int × Int
  | 0 => (0, 0)
  | i + 1 =>
    let r := sumParts old v i
    if old.active v i then
      match parts v.ty (getElem v.ty v.hf i (old.rv v.a)) with
      | [a, b] => (r.1 + a, r.2 + b)
      | [a] => (r.1 + a, r.2)
      | _ => r
    else r

/-- The largest (or smallest) active element below `i` and its lowest index (R112). -/
def extremum (old : CoreSt) (v : VecWord) : Nat → Option (Int × Nat)
  | 0 => none
  | i + 1 =>
    let r := extremum old v i
    if old.active v i then
      let x := signExt (elemWidth v.ty) (getElem v.ty v.hf i (old.rv v.a))
      match r with
      | none => some (x, i)
      | some (y, j) =>
        if (if v.op = .vrmax then decide (y < x) else decide (x < y)) then some (x, i) else some (y, j)
    else r

/-- Dn after VRMAX or VRMIN (R112). -/
def extremumWord (old : CoreSt) (v : VecWord) : Nat :=
  match extremum old v (elemCount v.ty v.hf) with
  | some (x, i) => i * 65536 + toField 16 x
  | none =>
    0xFFFF0000 + (if v.op = .vrmax then (if v.ty = 0 then 0xFF80 else 0x8000) else (if v.ty = 0 then 0x007F else 0x7FFF))

/-- VEXTH (R108): element k from lane k. -/
def CoreSt.exthElem (old : CoreSt) (v : VecWord) (i : Nat) : Nat × Bool :=
  let r := saturate old.sst.sat 16 (roundShift (old.lane v.a i * 2 ^ v.b) 16 (roundMode old.sst.rnd v.k))
  (toField 16 r.1, r.2)

/-- Lanes 2 to 7 written with zero, and lane 1 too for E16 (R112); VACLR clears from lane 0 (R108). -/
def CoreSt.clearLanes (k : CoreSt) (n from_ : Nat) : Nat → CoreSt
  | 0 => k
  | i + 1 => if from_ ≤ i then (k.wlane n i 0).clearLanes n from_ i else k

/-- Every vector operation but the gather and scatter: the registers after it (R101 to R112). -/
def CoreSt.vecExec (k old : CoreSt) (v : VecWord) : CoreSt :=
  let mode := roundMode old.sst.rnd v.k
  match v.op with
  | .vmpy | .vmac | .vmsu => k.macAll old v (elemCount v.ty v.hf)
  | .vaclr => k.clearLanes v.d 0 8
  | .vexth => k.vecWrite old { v with ty := 1, hf := 0 } (old.exthElem v)
  | .vcmpeq | .vcmplt | .vcmple =>
    { k with vstate := { k.vstate with mask := compareMask old v (elemCount v.ty v.hf) } }
  | .vperm | .vzipl | .vziph | .vuzpe | .vuzpo | .vdup => k.vecWrite old v (fun i => (permElem old v i, false))
  | .vrsum =>
    let r := sumParts old v (elemCount v.ty v.hf)
    let k := (k.clearLanes v.d (if v.ty = 3 then 2 else 1) 8).laneStore old v.d 0 r.1
    if v.ty = 3 then k.laneStore old v.d 1 r.2 else k
  | .vrmax | .vrmin => k.wd v.d (BitVec.ofNat 32 (extremumWord old v))
  | .vstr => k.wd v.d (BitVec.ofNat 32 old.vstate.toWord)
  | .vstw => { k with vstate := old.vstate.write (old.rd v.d).toNat }
  | .vgather | .vscatter => k
  | op => k.vecWrite old v (fun i =>
      elemOp op v.ty old.sst.sat mode v.b (getElem v.ty v.hf i (old.rv v.a)) (getElem v.ty v.hf i (old.rv v.b)))

/-- The types an operation admits (R104, R105, R108, R110, R111, R112). -/
def typeOk (v : VecWord) : Bool :=
  match v.op with
  | .vadd | .vsub | .vneg | .vasrr | .vshl => true
  | .vmin | .vmax | .vabs => decide (v.ty ≠ 3)
  | .vand | .vor | .vxor => true
  | .vmul => decide (v.ty = 1)
  | .vcmul => decide (v.ty = 3)
  | .vmpy | .vmac | .vmsu => decide (v.ty = 1) || decide (v.ty = 3)
  | .vaclr => true
  | .vexth => decide (v.ty = 1) || decide (v.ty = 3)
  | .vcmpeq | .vcmplt | .vcmple => decide (v.ty ≠ 3)
  | .vperm => decide (v.ty = 0)
  | .vzipl | .vziph | .vuzpe | .vuzpo | .vdup => true
  | .vrsum => decide (v.ty = 1) || decide (v.ty = 3)
  | .vrmax | .vrmin => decide (v.ty ≤ 1)
  | _ => true

/-- Field values an operation reserves (R99, R104 to R115, R123). A field that a layout lists and the operation does not use is
ignored (DESIGN CHOICE, log entry 95). -/
def vecIllegal (v : VecWord) : Bool :=
  !typeOk v || decide (v.hf = 3)
  || (match v.op with
      | .vabs | .vneg => decide (v.b ≠ 0)
      | .vasrr | .vshl => decide (partWidth v.ty ≤ v.b)
      | .vmpy | .vmac | .vmsu => decide (v.k = 3) || (v.cj && decide (v.ty = 1))
      | .vaclr => v.masked || decide (v.k = 3)
      | .vrsum => decide (v.k = 3)
      | .vcmpeq | .vcmplt | .vcmple => decide (v.d ≠ 0) || v.zeroing
      | .vdup => decide (elemCount v.ty v.hf ≤ v.b)
      | .vgather =>
        decide (v.hf ≠ 0) || (decide (v.ty = 0) && decide (v.a % 2 = 1)) || decide (v.d = v.a)
          || (decide (v.ty = 0) && decide (v.d = v.a + 1))
      | .vscatter => decide (v.hf ≠ 0) || (decide (v.ty = 0) && decide (v.a % 2 = 1))
      | _ => false)

/-- Index k of a gather or scatter (R113): halfword k of Vi, or of Vi + 1 from k = 8. -/
def gatherIndex (k : CoreSt) (v : VecWord) (i : Nat) : Nat :=
  if i < 8 then getElem 1 0 i (k.rv v.a) else getElem 1 0 (i - 8) (k.rv (v.a + 1))

/-- The local address of element i (R113). -/
def gatherAddr (k : CoreSt) (v : VecWord) (i : Nat) : Nat := (k.ra v.b + gatherIndex k v i * 2 ^ v.k) % 16777216

end Sys2Proof.Machine
end

