-- ==== Sys2Proof/Machine/CoreExec.lean ====
section
/-! DEFINITION. Issue of a bundle on a Wylen core: legality (R77, R79, R115), taking an exception as one shared
operation (R85 to R91), moves, gather and scatter, block repeats and the PC (R58 to R94, R113 to R121). -/

namespace Sys2Proof.Machine

/-! ### Exceptions -/

/-- ECAUSE (R88): INT for codes from 0x10, SLOT and CODE. -/
def ecauseWord (code slot : Nat) : Nat := (if 16 ≤ code then 2 ^ 31 else 0) + slot * 2 ^ 28 + code

/-- Whether EADDR is written for a code (R89). -/
def writesEaddr (code : Nat) : Bool := (decide (6 ≤ code) && decide (code ≤ 10)) || decide (code = 13)

/-- The three objects that show the last exception or interrupt (R95). -/
def State.recordCause (s : State) (c code slot epc : Nat) (ea : Nat) : State :=
  let s := s.setObj .coreLastEcause c (ecauseWord code slot)
  let s := s.setObj .coreLastEpc c epc
  if writesEaddr code then s.setObj .coreLastEaddr c ea else s

/-- Exception or interrupt entry (R89, R93): ESST takes SST; EPC, ECAUSE and EADDR are written; EXL is set and IE
cleared; issue continues at VBASE + 32 × code in HANDLER, 5 to 8 cycles on (R92). -/
def State.enterHandler (s : State) (c code slot epc ea : Nat) : State :=
  let k := s.core c
  let s := s.setCore c { k with
    esst := BitVec.ofNat 32 k.sst.toWord
    epc := epc
    ecause := ecauseWord code slot
    eaddr := if writesEaddr code then ea else k.eaddr
    sst := { k.sst with exl := true, ie := false }
    stall := none
    cyc := (k.cyc + 5 + s.free % 4) % 2 ^ 64 }
  let s := s.freeUsed.recordCause c code slot epc ea
  (s.setObj .coreState c coreHandler).setPc c (k.vbase + 32 * code)

/-- Counters of a raised exception (R96, R126). -/
def State.countRaised (s : State) (c code : Nat) : State :=
  let s := s.bumpIf (decide (code = 2) || decide (code = 9)) .coreEccUncorr c
  let s := s.bumpIf (decide (code = 13)) .coreWindowAsync c
  s.bumpIf (decide (code = 10)) .coreVectorFaults c

/-- The core stops in HALTED_FAULT (R91): a double fault, counted, and a core fault 0x01 (R533). -/
def State.doubleFault (s : State) (c code slot epc ea : Nat) : State :=
  let s := s.setCore c { s.core c with stall := none }
  let s := s.recordCause c code slot epc ea
  ((s.setObj .coreState c coreHaltedFault).bump .coreDoubleFaults c).unitFault (unitCore c) 1

/-- A synchronous exception is raised (R85, R89, R91): with EXL = 1 a double fault, else entry and a count. -/
def State.raiseExc (s : State) (c code slot epc ea : Nat) : State :=
  let s := s.countRaised c code
  if (s.core c).sst.exl then s.doubleFault c code slot epc ea
  else (s.enterHandler c code slot epc ea).bump .coreExceptions c

/-! ### Legality -/

/-- Registers an operation writes, for R79: Dn 0 to 15, ACCn 16, Vn 32, VAn 64, control register n 256. -/
def opWrites : CoreOp → List Nat
  | .add d _ _ _ | .sub d _ _ _ => [d]
  | .mpy n _ _ _ _ _ _ | .mac n _ _ _ _ _ _ | .msu n _ _ _ _ _ _ | .clr n => [16 + n]
  | .exth d _ _ _ _ _ | .extw d _ _ _ _ | .asrr d _ _ _ _ => [d]
  | .mvc true _ n => [n]
  | .mvc false n _ => [256 + n]
  | .sched sub o => if sub = 0x16 ∨ sub = 0x17 then [o / 16, 12, 13, 14, 15] else [o / 16]
  | .move m => if m.store then [] else if m.size = 4 then [32 + m.reg] else if m.size = 3 then [m.reg, m.reg + 1] else [m.reg]
  | .vec v =>
    match v.op with
    | .vmpy | .vmac | .vmsu | .vaclr | .vrsum => [64 + v.d]
    | .vrmax | .vrmin | .vstr => [v.d]
    | .vcmpeq | .vcmplt | .vcmple | .vstw | .vscatter => []
    | _ => [32 + v.d]
  | _ => []

/-- The address register an operation updates, if any. -/
def opUpdates : CoreOp → List Nat
  | .move m =>
    match m.upd with
    | .plus | .minus | .byM _ => [m.an]
    | _ => []
  | _ => []

/-- Whether two lists share a member. -/
def shares (a b : List Nat) : Bool := a.any (fun x => b.contains x)

/-- Whether an operation is a branch, CALL, RET, REP or RTE (R77). -/
def isControl : CoreOp → Bool
  | .bra _ _ | .call _ | .ret | .rep _ _ _ | .rte => true
  | _ => false

/-- Whether an operation is a gather or scatter (R115). -/
def isGather : CoreOp → Bool
  | .vec v => decide (v.op = .vgather) || decide (v.op = .vscatter)
  | _ => false

/-- The bundle index of an address. -/
def bundleIndex (a : Nat) : Nat := a / 8

/-- Whether the bundle at an index is an active END (R77). -/
def CoreSt.atEnd (k : CoreSt) (idx : Nat) : Bool := (List.range k.sst.ld).any (fun d => decide (k.lsEnd d = idx))

/-- R77, R79 and R115: whether the bundle is illegal as a whole. No listed word takes a long immediate, so every E
word breaks R79 (log entry 20). -/
def bundleIllegal (k : CoreSt) (pc : Nat) (b : Bundle) : Bool :=
  shares b.w0.slots b.w1.slots
  || b.w0.ext || b.w1.ext
  || shares (b.w0.ops.flatMap opWrites) (b.w1.ops.flatMap opWrites)
  || shares (b.w0.ops.flatMap opUpdates) (b.w1.ops.flatMap opUpdates)
  || ((b.w0.ops ++ b.w1.ops).any isControl && k.atEnd (bundleIndex pc))
  || (b.w0.ops.any isGather && !b.w1.slots.isEmpty)
  || (b.w1.ops.any isGather && !b.w0.slots.isEmpty)

/-- A cause of an exception: code, slot and EADDR. -/
abbrev Cause := Nat × Nat × Nat

/-- The slot of a move (R88). -/
def moveSlot (m : Move) : Nat := if m.y then 2 else 1

/-- The place a move accesses. -/
def State.movePlace (s : State) (k : CoreSt) (m : Move) : Place := s.place k (k.moveAddr m) (moveBytes m)

/-- Whether a store reads and modifies its 64-bit word (R65, R317): 16 or 32 bits. -/
def storeReads (m : Move) : Bool := m.store && decide (m.size ≤ 2)

/-- Causes of a move (R59, R61, R65, R72, R86): ADDR_MODE, MISALIGNED, ACCESS, DATA_ECC. A failing store to a window
is posted and fails at its target (R64). -/
def State.moveCauses (s : State) (c : Nat) (k : CoreSt) (m : Move) : List Cause :=
  let a := k.moveAddr m
  let p := s.movePlace k m
  let ea := placeAddr a p
  if k.moveNext m = none then [(6, moveSlot m, ea)]
  else if a % moveBytes m ≠ 0 then [(7, moveSlot m, ea)]
  else
    match p with
    | .none => [(8, moveSlot m, ea)]
    | .window _ _ ok =>
      if !ok then [(8, moveSlot m, ea)]
      else if !m.store && s.placePoison c (moveBytes m) p then [(9, moveSlot m, ea)]
      else []
    | .local _ => if (!m.store || storeReads m) && s.placePoison c (moveBytes m) p then [(9, moveSlot m, ea)] else []

/-- Scheduler calls that R131 makes illegal: sub-operations 0x1B to 0x1F, a Ds too large for D(s+1) or D(s+2) where
the call uses them, and a receive whose Dd lies in D12 to D15. The operand is Dd × 16 + Ds. -/
def schedIllegal (sub opnd : Nat) : Bool :=
  decide (sub < 8) || decide (0x1B ≤ sub)
  || (decide (sub = 0x0B) && decide (13 < opnd % 16))
  || ((decide (sub = 0x0F) || decide (sub = 0x18)) && decide (14 < opnd % 16))
  || ((decide (sub = 0x16) || decide (sub = 0x17)) && decide (12 ≤ opnd / 16))

/-- Causes of a scalar or vector operation: reserved values and control registers (R57, R66, R74, R84), REP
(R74), TRAP and BKPT (R85). `bkptHalts` is `CORE_BKPT_HALT`. -/
def State.opCauses (s : State) (c : Nat) (k : CoreSt) (pc : Nat) (op : CoreOp) : List Cause :=
  match op with
  | .illegal sl => [(3, sl, 0)]
  | .mpy _ _ _ _ _ sh _ | .mac _ _ _ _ _ sh _ | .msu _ _ _ _ _ sh _ => if sh = 3 then [(3, 3, 0)] else []
  | .bra cond _ => if 14 ≤ cond then [(3, 3, 0)] else []
  | .rep imm cnt fin =>
    let n := if imm then cnt else (k.rd cnt).toNat
    if fin = 0 ∨ 12287 < bundleIndex pc + fin then [(3, 3, 0)]
    else if n ≠ 0 ∧ k.sst.ld = 4 then [(5, 3, 0)]
    else []
  | .mvc true n _ => if (s.ctlRead c k n).isNone then [(3, 3, 0)] else []
  | .mvc false n r => if (k.ctlWrite n (k.rd r)).isNone then [(3, 3, 0)] else []
  | .trap => [(11, 3, 0)]
  | .bkpt => if s.obj .coreBkptHalt c = 0 then [(12, 3, 0)] else []
  | .sched sub o => if schedIllegal sub o then [(3, 3, 0)] else []
  | .move m => s.moveCauses c k m
  | .vec v => if vecIllegal v then [(3, 4, 0)] else []
  | _ => []

/-- The slot order of R87: fetch or decode, X, Y, scalar, vector. -/
def causeBefore (a b : Cause) : Bool := decide (a.1 < b.1) || (decide (a.1 = b.1) && decide (a.2.1 < b.2.1))

/-- The cause taken among several (R87). -/
def pickCause : List Cause → Option Cause
  | [] => none
  | x :: r =>
    match pickCause r with
    | none => some x
    | some y => if causeBefore y x then some y else some x

/-! ### Results -/

/-- Whether a condition holds (R84). -/
def condHolds (t : Sst) (n : Nat) : Bool :=
  match n with
  | 0 => true
  | 1 => t.z
  | 2 => !t.z
  | 3 => t.n != t.v
  | 4 => t.n == t.v
  | 5 => t.z || (t.n != t.v)
  | 6 => !t.z && (t.n == t.v)
  | 7 => t.c
  | 8 => !t.c
  | 9 => t.n
  | 10 => !t.n
  | 11 => t.v
  | 12 => !t.v
  | 13 => t.sv
  | _ => false

/-- The product of MPY, MAC and MSU, shifted by SH (R66). -/
def product (k : CoreSt) (a : Nat) (ha : Bool) (b : Nat) (hb : Bool) (sh : Nat) : Int := k.half a ha * k.half b hb * 2 ^ sh

/-- The C flag of EXTH, EXTW, ASRR, MPY, MAC and MSU with F, which the spec does not state (log entry 22). -/
def freeCarry (op : Nat) (x : Int) (n : Nat) : Bool := Config.freeOf 2 [op, toField 40 x, n] % 2 == 1

/-- An accumulator written by MPY, MAC or MSU (R66, R68), with flags from the result if F (R69): V tells that the exact result
leaves 40 bits, and C is free. -/
def CoreSt.accOp (k old : CoreSt) (n : Nat) (q : Int) (f : Bool) : CoreSt :=
  let k := k.accStore old n q
  if f then k.flags (accResult old.sst.sat q).1 (freeCarry 4 (old.racc n) n) (!fits 40 q) else k

/-- One operation's register results, all sources read from `old` (R80); loads read memory before any store (R62). -/
def State.applyOp (s : State) (c : Nat) (old : CoreSt) (op : CoreOp) (k : CoreSt) : CoreSt :=
  match op with
  | .add d a b f =>
    let x := (old.rd a).toInt + (old.rd b).toInt
    let r := saturate old.sst.sat 32 x
    let k := (k.wd d (BitVec.ofInt 32 r.1)).sticky r.2
    if f then k.flags r.1 (decide (2 ^ 32 ≤ (old.rd a).toNat + (old.rd b).toNat)) (!fits 32 x) else k
  | .sub d a b f =>
    let x := (old.rd a).toInt - (old.rd b).toInt
    let r := saturate old.sst.sat 32 x
    let k := (k.wd d (BitVec.ofInt 32 r.1)).sticky r.2
    if f then k.flags r.1 (decide ((old.rd b).toNat ≤ (old.rd a).toNat)) (!fits 32 x) else k
  | .mpy n a ha b hb sh f => k.accOp old n (product old a ha b hb sh) f
  | .mac n a ha b hb sh f => k.accOp old n (old.racc n + product old a ha b hb sh) f
  | .msu n a ha b hb sh f => k.accOp old n (old.racc n - product old a ha b hb sh) f
  | .exth d hd n sc rm f =>
    let x := roundShift (old.racc n * 2 ^ sc) 16 (roundMode old.sst.rnd rm)
    let r := saturate old.sst.sat 16 x
    let k := (k.wdHalf d hd (toField 16 r.1)).sticky r.2
    if f then k.flags r.1 (freeCarry 1 (old.racc n) sc) (!fits 16 x) else k
  | .extw d n sc _ f =>
    let x := old.racc n * 2 ^ sc
    let r := saturate old.sst.sat 32 x
    let k := (k.wd d (BitVec.ofInt 32 r.1)).sticky r.2
    if f then k.flags r.1 (freeCarry 2 (old.racc n) sc) (!fits 32 x) else k
  | .asrr d a n rm f =>
    let x := roundShift (old.rd a).toInt n (roundMode old.sst.rnd rm)
    let k := k.wd d (BitVec.ofInt 32 x)
    if f then k.flags x (freeCarry 3 (old.rd a).toInt n) false else k
  | .clr n => k.wacc n 0
  | .mvc true n r =>
    match s.ctlRead c old n with
    | some v => k.wd r (BitVec.ofNat 32 v)
    | none => k
  | .mvc false n r =>
    match k.ctlWrite n (old.rd r) with
    | some k' => k'
    | none => k
  | .rep imm cnt fin =>
    let n := if imm then cnt else (old.rd cnt).toNat
    if n = 0 then k
    else
      let idx := bundleIndex (s.pc c)
      let d := old.sst.ld
      let k := (k.wls d (idx + 1) (idx + fin)).wlc d n
      { k with sst := { k.sst with ld := d + 1 } }
  | .rte => { k with sst := old.sst.restore old.esst.toNat }
  | .call _ => { k with calls := ((s.pc c + 8) % 16777216) :: k.calls }
  | .ret => { k with calls := k.calls.drop 1 }
  | .move m =>
    let k := match old.moveNext m with
      | some a => if opUpdates (.move m) = [] then k else k.wa m.an a
      | none => k
    if m.store then k
    else
      let v := s.readPlace c (moveBytes m) (s.movePlace old m)
      if m.size = 1 then k.wdHalf m.reg m.high v
      else if m.size = 2 then k.wd m.reg (BitVec.ofNat 32 v)
      else if m.size = 3 then (k.wd m.reg (BitVec.ofNat 32 v)).wd (m.reg + 1) (BitVec.ofNat 32 (v / 2 ^ 32))
      else k.wv m.reg (BitVec.ofNat 128 v)
  | .vec v => k.vecExec old v
  | _ => k

/-- The bytes a store writes (R9, R83). -/
def storeData (k : CoreSt) (m : Move) : List Byte :=
  if m.size = 1 then leBytes 2 (toField 16 (k.half m.reg m.high))
  else if m.size = 2 then leBytes 4 (k.rd m.reg).toNat
  else if m.size = 3 then leBytes 4 (k.rd m.reg).toNat ++ leBytes 4 (k.rd (m.reg + 1)).toNat
  else leBytes 16 (k.rv m.reg).toNat

/-- Bytes stored at a place by a core: local memory at once; a window store is posted, and is lost when its
read-modify-write fails at the target (R63, R64, R317). -/
def State.storePlace (s : State) (c : Nat) (p : Place) (l : List Byte) : State :=
  match p with
  | .local a =>
    let s := if isRmw a l.length then s.placeDemand c l.length 2 p else s
    let s := s.writeCore c a l
    (List.range (wordSpan a l.length)).foldl (fun s i => s.wordWritten (.core c (a / 8 * 8 + 8 * i))) s
  | .window _ g _ =>
    let r := s.storeAsked g l
    let s := r.1
    let k := s.core c
    s.setCore c { k with posted := k.posted ++ [(g, !r.2)] }
  | .none => s

/-- The stores of a list of operations, in order (R62). -/
def State.storeOps (s : State) (c : Nat) (old : CoreSt) : List CoreOp → State
  | [] => s
  | .move m :: r =>
    let s := if m.store then s.storePlace c (s.movePlace old m) (storeData old m) else s
    s.storeOps c old r
  | _ :: r => s.storeOps c old r

/-- The demand reads of a list of operations (R65, R325). -/
def State.loadOps (s : State) (c : Nat) (old : CoreSt) : List CoreOp → State
  | [] => s
  | .move m :: r =>
    let s := if m.store then s else s.placeDemand c (moveBytes m) 0 (s.movePlace old m)
    s.loadOps c old r
  | _ :: r => s.loadOps c old r

/-- Moves in the order X then Y, then the rest: of two stores to one byte the Y slot's value remains (R62). -/
def xThenY (l : List CoreOp) : List CoreOp :=
  l.filter (fun o => match o with | .move m => !m.y | _ => false)
    ++ l.filter (fun o => match o with | .move m => m.y | _ => true)

/-- Two loads of one word into one register, a V register or not: the spec states no result (log entry 23). -/
def dupLoad (l : List CoreOp) : Option (Bool × Nat) :=
  match l.filter (fun o => match o with | .move m => !m.store | _ => false) with
  | [.move m, .move n] => if m.reg = n.reg ∧ m.size = n.size then some (decide (m.size = 4), m.reg) else none
  | _ => none

/-- The words a faulting bundle's moves read are detections of their controller (R325). -/
def State.demandFaults (s : State) (c : Nat) (k : CoreSt) : List CoreOp → State
  | [] => s
  | .move m :: r =>
    let s := if !m.store || storeReads m then
        s.placeDemand c (moveBytes m) (if m.store then 2 else 0) (s.movePlace k m)
      else s
    s.demandFaults c k r
  | _ :: r => s.demandFaults c k r

/-- Whether an operation waits for a window load before its bundle commits (R63). -/
def State.isWindowLoad (s : State) (k : CoreSt) : CoreOp → Bool
  | .move m => !m.store && (match s.movePlace k m with | .window _ _ _ => true | _ => false)
  | _ => false

/-! ### The next bundle -/

/-- Levels discarded by a taken branch to an index (R76), innermost first. -/
def discardLevels (k : CoreSt) (idx : Nat) : Nat → Nat
  | 0 => 0
  | d + 1 => if k.lsStart d ≤ idx ∧ idx ≤ k.lsEnd d then d + 1 else discardLevels k idx d

/-- The loop end at an index (R75): the registers after it and the next index. -/
def loopEnd (k : CoreSt) (idx : Nat) : Nat → CoreSt × Nat
  | 0 => (k, idx + 1)
  | d + 1 =>
    if k.lsEnd d = idx then
      let n := (k.rlc d + 4294967295) % 4294967296
      let k := k.wlc d n
      if n ≠ 0 then (k, k.lsStart d)
      else loopEnd { k with sst := { k.sst with ld := d } } idx d
    else (k, idx + 1)

/-- The registers and PC after a bundle whose results are `k` (R74 to R76, R84, R89). -/
def State.nextPc (s : State) (c : Nat) (old k : CoreSt) (ops : List CoreOp) : CoreSt × Nat :=
  let pc := s.pc c
  let idx := bundleIndex pc
  match ops.find? isControl with
  | some (.bra cond off) =>
    if condHolds old.sst cond then
      let t := (((idx : Int) + off) % 2097152).toNat
      ({ k with sst := { k.sst with ld := discardLevels k t k.sst.ld } }, t * 8)
    else (k, pc + 8)
  | some (.call t) => (k, t)
  | some .ret => (k, match old.calls with | a :: _ => a | [] => s.free % 2097152 * 8)
  | some (.rep imm cnt fin) =>
    if (if imm then cnt else (old.rd cnt).toNat) = 0 then (k, (idx + fin + 1) * 8) else (k, pc + 8)
  | some .rte => (k, old.epc)
  | _ =>
    let r := loopEnd k idx k.sst.ld
    (r.1, r.2 * 8)

/-- EPC of TRAP and BKPT: the bundle that would have issued next, any loop end taken into account (R85). -/
def State.followingPc (s : State) (c : Nat) (k : CoreSt) : Nat :=
  (loopEnd k (bundleIndex (s.pc c)) k.sst.ld).2 * 8 % 16777216

/-! ### Cycles (R56, R62, R81, R92) -/

/-- The interlocked resources an operation waits for, as CoreSt.ready numbers them: the accumulator of EXTH and EXTW, the modifier
and the window of a move, the vector slot and the accumulator of VEXTH (R81, R122). -/
def CoreSt.needs (k : CoreSt) : CoreOp → List Nat
  | .exth _ _ n _ _ _ | .extw _ n _ _ _ => [n]
  | .vec v => if v.op = .vexth then [40, 48 + v.a] else [40]
  | .move m =>
    (match m.upd with | .byM i => [16 + i] | _ => [])
      ++ (let a := k.moveAddr m; if 0x400000 ≤ a ∧ a < 0x1000000 then [32 + (a - 0x400000) / 0x200000] else [])
  | _ => []

/-- The resources an operation makes ready late, with their latency. -/
def opMakes : CoreOp → List (Nat × Nat)
  | .mpy n _ _ _ _ _ _ | .mac n _ _ _ _ _ _ | .msu n _ _ _ _ _ _ => [(n, 2)]
  | .mvc false n _ => if 0x18 ≤ n ∧ n ≤ 0x1F then [(16 + (n - 0x18), 2)] else if 0x20 ≤ n ∧ n ≤ 0x25 then [(32 + (n - 0x20), 3)] else []
  | .vec v =>
    (match v.op with
      | .vmpy | .vmac | .vmsu => if v.ty = 3 ∧ v.hf = 0 then [(40, 2)] else []
      | .vcmul => if v.hf = 0 then [(40, 2)] else []
      | _ => [])
    ++ (match v.op with
      | .vmpy | .vmac | .vmsu | .vrsum => [(48 + v.d, 2)]
      | _ => [])
  | _ => []

/-- Two moves of a bundle address the same local memory (R62). -/
def CoreSt.sameMemory (k : CoreSt) (ops : List CoreOp) : Bool :=
  match ops.filterMap (fun o => match o with | .move m => some (k.moveAddr m / 0x100000) | _ => none) with
  | [a, b] => decide (a = b) && (decide (a = 1) || decide (a = 2))
  | _ => false

/-- Cycles from the issue of a bundle to the next one's: a taken branch, CALL or RET takes 3, RTE 3 or 4 (R81, R92). -/
def State.issueCycles (s : State) (old : CoreSt) (ops : List CoreOp) : Nat :=
  (if old.sameMemory ops then 1 else 0) +
  match ops.find? isControl with
  | some (.bra cond _) => if condHolds old.sst cond then 3 else 1
  | some (.call _) | some .ret => 3
  | some .rte => 3 + s.free % 2
  | _ => 1

/-- The cycle at which a bundle issues: no resource it needs is ready later (R81). -/
def CoreSt.issueAt (k : CoreSt) (ops : List CoreOp) : Nat :=
  (ops.flatMap k.needs).foldl (fun n r => max n (tabGet 0 k.ready r)) k.cyc

/-- CYC after a bundle, and the resources it makes ready late. -/
def State.spendCycles (s : State) (old : CoreSt) (ops : List CoreOp) (k : CoreSt) : CoreSt :=
  let t := old.issueAt ops
  { k with
    cyc := (t + s.issueCycles old ops) % 2 ^ 64
    ready := (ops.flatMap opMakes).foldl (fun m p => tabSet 0 m p.1 (t + p.2)) old.ready }

/-! ### Gather and scatter -/

/-- The access width of an element, bytes. -/
def elemBytes (ty : Nat) : Nat := elemWidth ty / 8

/-- The cause of element i of a gather or scatter, if it faults: code and EADDR (R113, R119). -/
def State.elemCause (s : State) (c : Nat) (k : CoreSt) (v : VecWord) (i : Nat) : Option (Nat × Nat) :=
  let n := elemBytes v.ty
  let a := gatherAddr k v i
  let p := s.place k a n
  let ea := placeAddr a p
  if a % n ≠ 0 then some (7, ea)
  else
    match p with
    | .none => some (8, ea)
    | .window _ _ ok =>
      if !ok then some (8, ea)
      else if decide (v.op = .vgather) && s.placePoison c n p then some (9, ea)
      else none
    | .local _ => if s.placePoison c n p then some (9, ea) else none

/-- One element committed (R116, R117). -/
def State.elemCommit (s : State) (c : Nat) (v : VecWord) (i : Nat) : State :=
  let k := s.core c
  let n := elemBytes v.ty
  let p := s.place k (gatherAddr k v i) n
  if v.op = .vgather then
    let x := s.readPlace c n p
    let s := s.placeDemand c n 0 p
    let k := s.core c
    s.setCore c (k.wv v.d (putElem v.ty 0 i (k.rv v.d) x))
  else s.storePlace c p (leBytes n (getElem v.ty 0 i (k.rv v.d)))

/-- Elements from `i` on, `fuel` of them, ascending (R116): the state after those committed, and the element that
faults with its cause, if one does. An inactive element makes no access; with ZM, which V memory words do not have,
nothing is zeroed. -/
def State.elemRun (s : State) (c : Nat) (old : CoreSt) (v : VecWord) : Nat → Nat → State × Option (Nat × Nat × Nat)
  | 0, _ => (s, none)
  | f + 1, i =>
    if !old.active v i then s.elemRun c old v f (i + 1)
    else
      match s.elemCause c old v i with
      | some (code, ea) => (s, some (i, code, ea))
      | none => (s.elemCommit c v i).elemRun c old v f (i + 1)

/-- Where a gather or scatter starts (R118). -/
def gatherStart (k : CoreSt) : Nat := if k.vstate.rs && !k.sst.exl then k.vstate.eidx else 0

/-- Whether an active element from the start on lies in a window (R117). -/
def State.gatherWaits (s : State) (k : CoreSt) (v : VecWord) : Bool :=
  decide (v.op = .vgather) && (List.range (elemCount v.ty 0)).any (fun i =>
    decide (gatherStart k ≤ i) && k.active v i
      && (match s.place k (gatherAddr k v i) (elemBytes v.ty) with | .window _ _ ok => ok | _ => false))

/-- The PC advances past a bundle without control flow, through any loop end (R75), after a number of cycles. -/
def State.advance (s : State) (c cycles : Nat) : State :=
  let k := s.core c
  let r := loopEnd k (bundleIndex (s.pc c)) k.sst.ld
  (s.setCore c { r.1 with stall := none, cyc := (k.cyc + cycles) % 2 ^ 64 }).setPc c (r.2 * 8)

/-- Element i faults (R118, R119): VECTOR_ELEMENT in slot 4 with EPC at the bundle; RS, EIDX and ECODE tell where to
resume. With EXL = 1 they are unchanged and the fault is a double fault. -/
def State.elemFault (s : State) (c : Nat) (v : VecWord) (i code ea : Nat) : State :=
  let k := s.core c
  let pc := s.pc c
  let s := if code = 9 then
      (s.placeDemand c (elemBytes v.ty) (if v.op = .vgather then 0 else 2) (s.place k (gatherAddr k v i) (elemBytes v.ty))).bump
        .coreEccUncorr c
    else s
  if k.sst.exl then s.raiseExc c 10 4 pc ea
  else
    let s := s.setCore c { s.core c with vstate := { k.vstate with rs := true, eidx := i, ecode := code } }
    let s := s.setObj .coreLastVstate c (s.core c).vstate.toWord
    s.raiseExc c 10 4 pc ea

/-- Cycles of a completed gather or scatter to the next bundle (R122): one more than its active elements, or 1 after the last
element of a gather that waited on a window. -/
def State.gatherCycles (s : State) (k : CoreSt) (v : VecWord) : Nat :=
  if s.gatherWaits k v then 1
  else 1 + ((List.range (elemCount v.ty 0)).filter (fun i => decide (gatherStart k ≤ i) && k.active v i)).length

/-- A gather or scatter issued at PC (R113 to R120). -/
def State.gatherIssue (s : State) (c : Nat) (v : VecWord) : State :=
  let old := s.core c
  let st := gatherStart old
  match s.elemRun c old v (elemCount v.ty 0 - st) st with
  | (s1, none) =>
    let k := s1.core c
    let s1 := if old.sst.exl then s1
      else s1.setCore c { k with vstate := { k.vstate with rs := false, eidx := 0 } }
    s1.advance c (s.gatherCycles old v)
  | (s1, some (i, code, ea)) => if old.sst.exl then s.elemFault c v i code ea else s1.elemFault c v i code ea

/-! ### Issue -/

/-- Whether a core is in RUN or HANDLER with no scheduler call on its way (R93). -/
def State.atBoundary (s : State) (c : Nat) : Bool :=
  (decide (s.obj .coreState c = coreRun) || decide (s.obj .coreState c = coreHandler)) && !(s.core c).callWait
    && decide ((s.unit (unitHall (c / 12))).st = unitRunning)

/-- Whether a core issues bundles: RUN or HANDLER and not stalled (R93), in a hall that runs (R531), with no WINDOW_ASYNC pending
(R64, R90). -/
def State.issues (s : State) (c : Nat) : Bool :=
  s.atBoundary c && (s.core c).stall.isNone && (s.core c).async.isEmpty

/-- The gather or scatter of a bundle, if it holds one. -/
def gatherOf (l : List CoreOp) : Option VecWord :=
  match l.find? isGather with
  | some (.vec v) => some v
  | _ => none

/-- Uncorrectable and other causes of a whole bundle, in R87's terms. -/
def State.bundleCauses (s : State) (c : Nat) (b : Bundle) : List Cause :=
  let k := s.core c
  let pc := s.pc c
  let ops := b.w0.ops ++ b.w1.ops
  (if bundleIllegal k pc b then [(4, 0, 0)] else []) ++ ops.flatMap (s.opCauses c k pc)

/-- A bundle's results committed together (R80, R86): registers, demand reads, stores, the PC; `sched` is what a
scheduler call does after the bundle. -/
def State.commit (s : State) (c : Nat) (ops : List CoreOp) (sched : CoreSt → Nat → Nat → State → State) : State :=
  let old := s.core c
  let k := (xThenY ops).foldl (fun k op => s.applyOp c old op k) old
  let k := match dupLoad ops with
    | some (true, r) => k.wv r (BitVec.ofNat 128 s.free)
    | some (false, r) => k.wd r (BitVec.ofNat 32 s.free)
    | none => k
  let n := s.nextPc c old k ops
  let k := s.spendCycles old ops { n.1 with stall := none }
  let s := if ops.any (fun o => decide (o = .ret) || decide (o = .rte)) || (dupLoad ops).isSome then s.freeUsed else s
  let s := s.loadOps c old ops
  let s := (s.setCore c k).storeOps c old (xThenY ops)
  let s := if ops.any (fun o => decide (o = .rte)) then
      s.setObj .coreState c (if k.sst.exl then coreHandler else coreRun)
    else s
  let s := if ops.any (fun o => decide (o = .bkpt)) then
      (s.setCore c { s.core c with leftState := s.obj .coreState c }).setObj .coreState c coreHaltedDebug
    else s
  let s := s.setPc c n.2
  match ops.find? (fun o => match o with | .sched _ _ => true | _ => false) with
  | some (.sched sub o) => sched old sub o s
  | _ => s

/-- A bundle issues at PC (R78 to R91). `resp` holds when the window loads it waits for have arrived. A bundle with a
window load, and FENCE while a posted store is not acknowledged, stall (R63). -/
def State.issueBundle (s : State) (c : Nat) (b : Bundle) (resp : Bool)
    (sched : CoreSt → Nat → Nat → State → State) : State :=
  let k := s.core c
  let ops := b.w0.ops ++ b.w1.ops
  match pickCause (s.bundleCauses c b) with
  | some (code, slot, ea) =>
    let s := if code = 9 then s.demandFaults c k ops else s
    s.raiseExc c code slot (if code = 11 ∨ code = 12 then s.followingPc c k else s.pc c) ea
  | none =>
    if ops.any (fun o => decide (o = .fence)) && !k.posted.isEmpty then s.setCore c { k with stall := some b, lost := [] }
    else
      match gatherOf ops with
      | some v => if !resp && s.gatherWaits k v then s.setCore c { k with stall := some b, lost := [] } else s.gatherIssue c v
      | none =>
        if !resp && ops.any (s.isWindowLoad k) then s.setCore c { k with stall := some b, lost := [] }
        else s.commit c ops sched

/-- The bundle at PC fetched from program memory (R58, R78): FETCH_ADDR outside it, FETCH_ECC on an uncorrectable
word. -/
def State.fetchBundle (s : State) (c : Nat) : Bundle ⊕ Nat :=
  let pc := s.pc c
  if 0x18000 ≤ pc then .inr 1
  else if s.isPoison (.core c pc) then .inr 2
  else .inl (decodeBundle (leNat (s.coreBytes c pc 8) ^^^ s.readError (fun x => .core c x) pc 8))

/-- The bundle of one operation beside NOP. -/
def soloBundle (slot : Nat) (op : CoreOp) : Bundle := ⟨oneOp slot op, nopWord⟩

end Sys2Proof.Machine
end

