-- ==== Sys2Proof/Machine/Scheduler.lean ====
section
/-! DEFINITION. The hall scheduler (R127 to R157): thread control blocks and save frames in the hall's Terrace slice,
ready lists, dispatch and preemption, the delay list, message queues, semaphores and the trace. A thread t of hall h
is numbered 4,096 × h + t, core c of hall h 12 × h + c, as the spec numbers both. -/

namespace Sys2Proof.Machine

/-- Hall h's scheduler. -/
def State.sch (s : State) (h : Nat) : SchedSt := tabGet SchedSt.reset s.sched h

/-- The state with hall h's scheduler set. -/
def State.setSch (s : State) (h : Nat) (x : SchedSt) : State := { s with sched := tabSet SchedSt.reset s.sched h x }

/-- The hall of a thread. -/
def hallOfThread (g : Nat) : Nat := g / 4096

/-! ### Thread control blocks (R127, R128) -/

/-- The address of a thread's TCB (R127). -/
def tcbAddr (g : Nat) : Nat := terraceBase (g / 4096) + 32 * (g % 4096)

/-- A field of a TCB, bits [hi:lo]. -/
def State.tcb (s : State) (g hi lo : Nat) : Nat := bits (s.memNat (tcbAddr g) 32) hi lo

/-- A number with bits [hi:lo] replaced. -/
def setBits (w hi lo v : Nat) : Nat := w - bits w hi lo * 2 ^ lo + (v % 2 ^ (hi - lo + 1)) * 2 ^ lo

/-- A field of a TCB written by the scheduler. -/
def State.setTcb (s : State) (g hi lo v : Nat) : State :=
  s.store (tcbAddr g) (leBytes 32 (setBits (s.memNat (tcbAddr g) 32) hi lo v))

/-- Thread states (R130). -/
abbrev thFree : Nat := 0
abbrev thReady : Nat := 1
abbrev thRunning : Nat := 2
abbrev thWaiting : Nat := 3
abbrev thFaulted : Nat := 4

def State.tState (s : State) (g : Nat) : Nat := s.tcb g 57 55
def State.tPrio (s : State) (g : Nat) : Nat := s.tcb g 63 58
def State.tLastCore (s : State) (g : Nat) : Nat := s.tcb g 67 64
def State.tAffinity (s : State) (g : Nat) : Nat := s.tcb g 79 68
def State.tHeldCount (s : State) (g : Nat) : Nat := s.tcb g 83 80
def State.tFrame (s : State) (g : Nat) : Nat := s.tcb g 111 98
def State.tTag (s : State) (g : Nat) : Nat := s.tcb g 127 112
def State.tWaitKind (s : State) (g : Nat) : Nat := s.tcb g 143 140
def State.tWaitObj (s : State) (g : Nat) : Nat := s.tcb g 159 144
def State.tWaitStart (s : State) (g : Nat) : Nat := s.tcb g 191 160
def State.tHeldMax (s : State) (g : Nat) : Nat := s.tcb g 206 193
def State.tHeldV (s : State) (g : Nat) : Nat := s.tcb g 207 207
def State.tWake (s : State) (g : Nat) : Nat := s.tcb g 255 208

/-- The three counts of threads by state (R155), one moved. -/
def State.countThread (s : State) (h st : Nat) (up : Bool) : State :=
  let d : Int := if up then 1 else -1
  if st = thReady then s.setObj .schReadyThreads h (s.obj .schReadyThreads h + d)
  else if st = thWaiting then s.setObj .schWaitingThreads h (s.obj .schWaitingThreads h + d)
  else if st = thFree then s.setObj .schFreeThreads h (s.obj .schFreeThreads h + d)
  else s

/-- A thread's state set, with the counts of R155. -/
def State.setTState (s : State) (g st : Nat) : State :=
  let h := hallOfThread g
  ((s.countThread h (s.tState g) false).countThread h st true).setTcb g 57 55 st

/-- NEXT of each thread of a list (R128): the next one's number, 0 for the last (log entry 31). -/
def State.relink (s : State) : List Nat → State
  | [] => s
  | [g] => s.setTcb g 139 128 0
  | g :: g' :: r => (s.setTcb g 139 128 (g' % 4096)).relink (g' :: r)

/-! ### The trace (R154) -/

/-- The 16 bytes of a trace record. -/
def State.traceRecord (s : State) (h kind core : Nat) (g : Option Nat) (arg : Nat) : List Byte :=
  let t := match g with
    | some g => (g % 4096) * 2 ^ 52 + s.tPrio g * 2 ^ 46 + (s.tTag g % 2 ^ 14) * 2 ^ 32
    | none => 0
  leBytes 16 (toField 48 s.now * 2 ^ 80 + kind * 2 ^ 72 + core * 2 ^ 68 + h * 2 ^ 64 + t + arg % 2 ^ 32)

/-- Whether hall h's trace may write at an address: it lies in a memory, and in no region that only another owner writes
(R127, log entry 32). -/
def State.traceWritable (s : State) (h a : Nat) : Bool :=
  s.reachable a 16 && (!s.ownedRegion a 16 || (inTcbRegion a 16 && decide (terraceHall a = some h)))

/-- A trace record is written or dropped (R154). -/
def State.schTraceRec (s : State) (h kind core : Nat) (g : Option Nat) (arg : Nat) : State :=
  let size := s.objN .schTraceSize h
  let base := s.objN .schTraceBase h
  let wp := s.objN .schTraceWptr h
  let x := s.sch h
  if size = 0 ∨ bitAt (s.objN .schTraceMask h) kind = false then s
  else if (s.obj .schTraceMode h = 1 ∧ x.traceFull = true) ∨ s.traceWritable h (base + wp) = false then
    s.bump .schTraceDrops h
  else
    let s := s.store (base + wp) (s.traceRecord h kind core g arg)
    let s := s.setSch h { s.sch h with traceFull := decide (size ≤ wp + 16) && decide (s.obj .schTraceMode h = 1) }
    s.setObj .schTraceWptr h (((wp + 16) % size : Nat) : Int)

/-- The ARG of a kind the spec gives no ARG (log entry 32). -/
def traceArg (kind g : Nat) : Nat := Config.freeOf 5 [kind, g]

/-! ### Save frames (R129) -/

/-- A 40-bit accumulator or lane in eight bytes, sign-extended. -/
def acc8 (x : Int) : List Byte := leBytes 8 (toField 64 x)

/-- A frame's bytes (R129). -/
def frameOf (k : CoreSt) (sst pc : Nat) : List Byte :=
  (List.range 16).flatMap (fun n => leBytes 4 (k.rd n).toNat)
  ++ (List.range 8).flatMap (fun n => leBytes 4 (k.ra n))
  ++ (List.range 8).flatMap (fun n => leBytes 4 (k.rm n).toNat)
  ++ (List.range 4).flatMap (fun n => acc8 (k.racc n))
  ++ (List.range 4).flatMap (fun n => leBytes 4 (k.rlc n))
  ++ (List.range 4).flatMap (fun n => leBytes 4 (tabGet (0 : Word) k.ls n).toNat)
  ++ leBytes 4 sst ++ leBytes 4 pc ++ leBytes 4 k.vstate.toWord ++ leBytes 4 0
  ++ (List.range 6).flatMap (fun n => leBytes 4 (tabGet (0 : Word) k.wbase n).toNat)
  ++ leBytes 8 0 ++ leBytes 16 0
  ++ (List.range 32).flatMap (fun n => leBytes 16 (k.rv n).toNat)
  ++ (List.range 32).flatMap (fun j => acc8 (tabGet (0 : BitVec 40) k.va j).toInt)

/-- A table of `n` values read from a frame, each `w` bytes from offset `o`. -/
def frameTab (l : List Byte) (o w n b : Nat) : Tab (BitVec b) :=
  (List.range n).foldl (fun t i => tabSet (0 : BitVec b) t i (BitVec.ofNat b (leAt (o + w * i) w l))) []

/-- The registers a frame holds; those that are no part of it stay (R129). -/
def CoreSt.ofFrame (k : CoreSt) (l : List Byte) : CoreSt :=
  { k with
    d := frameTab l 0 4 16 32, a := frameTab l 0x40 4 8 24, m := frameTab l 0x60 4 8 32
    acc := frameTab l 0x80 8 4 40, lc := frameTab l 0xA0 4 4 32, ls := frameTab l 0xB0 4 4 32
    sst := Sst.restore Sst.reset (leAt 0xC0 4 l), vstate := VState.ofWord (leAt 0xC8 4 l)
    wbase := frameTab l 0xD0 4 6 32, v := frameTab l 0x100 16 32 128, va := frameTab l 0x300 8 32 40
    stall := none, callWait := false }

/-- The address of a thread's save frame (R128). -/
def State.frameAddr (s : State) (g : Nat) : Nat := terraceBase (g / 4096) + 1024 * s.tFrame g

/-- A thread's context saved from core c with a PC and SST (R129, R134). -/
def State.saveContext (s : State) (g c sst pc : Nat) : State :=
  let k := s.core c
  let h := hallOfThread g
  let s := s.store (s.frameAddr g) (frameOf k sst pc)
  s.setSch h { s.sch h with calls := tabSet [] (s.sch h).calls g k.calls }

/-- A thread's context loaded into core c. -/
def State.loadContext (s : State) (g c : Nat) : State :=
  let h := hallOfThread g
  let l := s.readMem (s.frameAddr g) 1024
  let k := (s.core c).ofFrame l
  let s := s.setCore c { k with calls := tabGet [] (s.sch h).calls g }
  (s.setPc c (leAt 0xC4 4 l)).setSch h { s.sch h with calls := tabSet [] (s.sch h).calls g [] }

/-! ### Ready lists and dispatch (R135) -/

/-- The ready list of a priority. -/
def SchedSt.list (x : SchedSt) (p : Nat) : List Nat := tabGet [] x.ready p

/-- A ready list set, with its links. -/
def State.setReady (s : State) (h p : Nat) (l : List Nat) : State :=
  (s.setSch h { s.sch h with ready := tabSet [] (s.sch h).ready p l }).relink l

/-- A thread joins the tail of its ready list (R135). -/
def State.readyTail (s : State) (g : Nat) : State :=
  let h := hallOfThread g
  let s := s.setTState g thReady
  s.setReady h (s.tPrio g) ((s.sch h).list (s.tPrio g) ++ [g])

/-- A preempted thread joins the head of its ready list (R135). -/
def State.readyHead (s : State) (g : Nat) : State :=
  let h := hallOfThread g
  let s := s.setTState g thReady
  s.setReady h (s.tPrio g) (g :: (s.sch h).list (s.tPrio g))

/-- A thread leaves its ready list. -/
def State.readyDrop (s : State) (g : Nat) : State :=
  let h := hallOfThread g
  s.setReady h (s.tPrio g) (((s.sch h).list (s.tPrio g)).filter (fun x => decide (x ≠ g)))

/-- Whether a thread may run on core c of its hall: its AFFINITY names the core. -/
def State.eligible (s : State) (c g : Nat) : Bool := bitAt (s.tAffinity g) (c % 12)

/-- The first thread of the highest non-empty list from priority `p` down whose AFFINITY includes the core (R135). -/
def State.topReady (s : State) (c : Nat) : Nat → Option Nat
  | 0 => ((s.sch (c / 12)).list 0).find? (s.eligible c)
  | p + 1 =>
    match ((s.sch (c / 12)).list (p + 1)).find? (s.eligible c) with
    | some g => some g
    | none => s.topReady c p

/-- The thread core c runs. -/
def State.thread (s : State) (c : Nat) : Option Nat :=
  match tabGet 0 (s.sch (c / 12)).running (c % 12) with
  | 0 => none
  | g + 1 => some g

/-- The thread core c runs set. -/
def State.setThread (s : State) (c : Nat) (g : Option Nat) : State :=
  let h := c / 12
  s.setSch h { s.sch h with running := tabSet 0 (s.sch h).running (c % 12) (match g with | some g => g + 1 | none => 0) }

/-- The open preemption decision of core c ended or set (R137, R138). -/
def State.setPre (s : State) (c v : Nat) : State :=
  let h := c / 12
  s.setSch h { s.sch h with pre := tabSet 0 (s.sch h).pre (c % 12) v }

/-- A core takes a thread that is READY (R135, R94): its context is loaded and the core enters RUN, or HALTED_DEBUG
while a halt request is held. -/
def State.runThread (s : State) (c g : Nat) : State :=
  let s := (s.readyDrop g).setTState g thRunning
  let s := (s.setTcb g 67 64 (c % 12)).setThread c (some g)
  let s := (s.loadContext g c).bump .schDispatches (c / 12)
  let s := s.schTraceRec (c / 12) 1 (c % 12) (some g) (traceArg 1 g)
  let k := s.core c
  if k.haltReq then
    (s.setCore c { k with haltReq := false, leftState := coreRun }).setObj .coreState c coreHaltedDebug
  else s.setObj .coreState c coreRun

/-- Whether a core is free: IDLE in a hall that runs (R531), running no thread, and not being loaded (R135, R150). -/
def State.coreFree (s : State) (c : Nat) : Bool :=
  decide (s.obj .coreState c = coreIdle) && decide ((s.unit (unitHall (c / 12))).st = unitRunning) && (s.thread c).isNone && !((s.sch (c / 12)).loading.contains (c % 12))

/-- A free core takes the first eligible thread, if there is one (R135). -/
def State.dispatch (s : State) (c : Nat) : State :=
  if s.coreFree c then
    match s.topReady c 63 with
    | some g => s.runThread c g
    | none => s
  else s

/-- Every free core of a hall, in ascending number, takes its first eligible thread. -/
def State.dispatchHall (s : State) (h : Nat) : State := (List.range 12).foldl (fun s i => s.dispatch (12 * h + i)) s

/-- Core c gives up its thread (R134, R138): INT_PREEMPT is withdrawn, the core is IDLE, and it is dispatched to. -/
def State.releaseCore (s : State) (c : Nat) : State :=
  let k := s.core c
  let s := s.setCore c { k with ints := k.ints.filter (fun x => decide (x ≠ 0x10)), stall := none, callWait := false }
  let s := (s.setThread c none).setPre c 0
  (s.setObj .coreState c coreIdle).dispatch c

/-! ### Preemption (R137, R138) -/

/-- An interrupt is raised on a core: it stays pending until taken (R90). -/
def State.raiseInt (s : State) (c code : Nat) : State :=
  let k := s.core c
  if k.ints.contains code then s else s.setCore c { k with ints := k.ints ++ [code] }

/-- Whether core c can be preempted for thread g: it runs a lower thread in RUN or HANDLER, and g may run on it. -/
def State.preemptible (s : State) (c g : Nat) : Bool :=
  match s.thread c with
  | none => false
  | some r =>
    s.eligible c g && decide (s.tPrio r < s.tPrio g)
      && (decide (s.obj .coreState c = coreRun) || decide (s.obj .coreState c = coreHandler))

/-- The running priority of a core, for the choice of R137. -/
def State.corePrio (s : State) (c : Nat) : Nat := match s.thread c with | some r => s.tPrio r | none => 64

/-- The eligible core running the lowest priority, the lowest number among equals (R137). -/
def State.pickPreempt (s : State) (g : Nat) : List Nat → Option Nat
  | [] => none
  | c :: r =>
    match s.pickPreempt g r with
    | none => if s.preemptible c g then some c else none
    | some b => if s.preemptible c g && decide (s.corePrio c ≤ s.corePrio b) then some c else some b

/-- INT_PREEMPT is raised on core c for thread g (R137). One that is pending there already stands for both (log entry 98). -/
def State.raisePreempt (s : State) (c g : Nat) : State :=
  if (s.core c).ints.contains 0x10 then s else ((s.raiseInt c 0x10).setPre c (g + 1)).bump .schPreemptions (c / 12)

/-- The cores of a hall. -/
def hallCores (h : Nat) : List Nat := (List.range 12).map (fun i => 12 * h + i)

/-- R137 for a thread that became READY and is still READY. -/
def State.preemptFor (s : State) (g : Nat) : State :=
  if s.tState g = thReady then
    match s.pickPreempt g (hallCores (hallOfThread g)) with
    | some c => s.raisePreempt c g
    | none => s
  else s

/-- A thread put in its place in a list by falling priority, after its equals. -/
def State.insertByPrio (s : State) (g : Nat) : List Nat → List Nat
  | [] => [g]
  | x :: r => if s.tPrio x < s.tPrio g then g :: x :: r else x :: s.insertByPrio g r

/-- After threads of hall h became READY: free cores are dispatched to, then preemption is decided for each of them,
the highest first (R135, R137, R140). -/
def State.settle (s : State) (h : Nat) (new : List Nat) : State :=
  let s := s.dispatchHall h
  (new.foldl (fun l g => s.insertByPrio g l) []).foldl (fun s g => s.preemptFor g) s

/-- Core c returns to RUN with a preemption decision still open (R138): INT_PREEMPT is raised again. -/
def State.preemptAgain (s : State) (c : Nat) : State :=
  match tabGet 0 (s.sch (c / 12)).pre (c % 12) with
  | 0 => s
  | g + 1 => s.raisePreempt c g

/-! ### Waits (R134) -/

/-- A thread's status register is written: on its core if it runs, else in its save frame. -/
def State.giveStatus (s : State) (c dd status : Nat) : State :=
  s.setCore c ((s.core c).wd dd (BitVec.ofNat 32 status))

/-- The thread of core c waits (R134): its context is saved with the PC at the next bundle, its wait recorded, and
the core freed. `dd` takes the status when the wait ends. -/
def State.blockThread (s : State) (g c kind obj dd arg : Nat) : State :=
  let h := hallOfThread g
  let s := s.setTState g thWaiting
  let s := ((s.setTcb g 143 140 kind).setTcb g 159 144 obj).setTcb g 191 160 (toField 32 s.now)
  let s := s.setSch h { s.sch h with
    waits := tabSet 0 (s.sch h).waits g (dd + 1), since := tabSet 0 (s.sch h).since g s.now }
  let s := s.saveContext g c (s.core c).sst.toWord (s.pc c)
  let s := s.schTraceRec h (4 + kind) (c % 12) (some g) arg
  s.releaseCore c

/-- A wait ends (R134): the status, and a received message, are written to the thread's frame, and it is READY. No
dispatch or preemption is decided here. -/
def State.endWait (s : State) (g status : Nat) (msg : Option Nat) : State :=
  let h := hallOfThread g
  let dd := tabGet 0 (s.sch h).waits g - 1
  let fr := s.frameAddr g
  let s := s.store (fr + 4 * dd) (leBytes 4 status)
  let s := match msg with
    | some m => s.store (fr + 48) (leBytes 16 m)
    | none => s
  let arg := if s.tWaitKind g = 1 then s.tWake g else s.tWaitObj g
  let s := s.setSch h { s.sch h with
    waits := tabSet 0 (s.sch h).waits g 0, since := tabSet 0 (s.sch h).since g 0
    reported := (s.sch h).reported.filter (fun x => decide (x ≠ g)) }
  let s := (s.setTcb g 143 140 0).readyTail g
  s.schTraceRec h 9 15 (some g) arg

/-- A wait ends and its hall dispatches or preempts for the thread. -/
def State.wake (s : State) (g status : Nat) (msg : Option Nat) : State :=
  (s.endWait g status msg).settle (hallOfThread g) [g]

/-- The waiter served first: the highest priority, and among equals the one that has waited longest (R143, R146). -/
def State.firstWaiter (s : State) : List Nat → Option Nat
  | [] => none
  | g :: r =>
    match s.firstWaiter r with
    | none => some g
    | some x => if s.tPrio g < s.tPrio x then some x else some g

/-! ### The delay list (R139, R140) -/

/-- The present tick number, modulo 2^48. -/
def State.tick48 (s : State) (h : Nat) : Nat := ((s.now / s.obj .schTickNs h) % 2 ^ 48).toNat

/-- Whether a target tick has been reached: it is the present tick or at most 2^47 ticks behind it (R139). -/
def reachedTick (cur target : Nat) : Bool :=
  let d := (target + 2 ^ 48 - cur) % 2 ^ 48
  decide (d = 0) || decide (2 ^ 47 ≤ d)

/-- A thread placed in the delay list after every entry with the same or an earlier tick (R139). -/
def State.delayInsert (s : State) (cur g : Nat) : List Nat → List Nat
  | [] => [g]
  | x :: r =>
    if (s.tWake g + 2 ^ 48 - cur) % 2 ^ 48 < (s.tWake x + 2 ^ 48 - cur) % 2 ^ 48 then g :: x :: r
    else x :: s.delayInsert cur g r

/-- The delay list set, with its links. -/
def State.setDelay (s : State) (h : Nat) (l : List Nat) : State :=
  (s.setSch h { s.sch h with delay := l }).relink l

/-! ### Semaphores (R144 to R147) -/

/-- Semaphore with a global index. -/
def State.sem (s : State) (i : Nat) : SemSt := tabGet SemSt.reset (s.sch (i / 1024)).sems (i % 1024)

/-- The state with a semaphore set, and the links of its waiters. -/
def State.setSem (s : State) (i : Nat) (x : SemSt) : State :=
  let h := i / 1024
  (s.setSch h { s.sch h with sems := tabSet SemSt.reset (s.sch h).sems (i % 1024) x }).relink x.waiters

/-- A thread takes lock i (R145). A sixteenth lock leaves HELD_COUNT open (log entry 33). -/
def State.heldTake (s : State) (g i : Nat) : State :=
  let n := s.tHeldCount g
  let s := (s.setTcb g 207 207 1).setTcb g 206 193 i
  if n < 15 then s.setTcb g 83 80 (n + 1) else s.freeUsed.setTcb g 83 80 s.free

/-- A thread gives a lock up (R145): HELD_MAX is cleared when HELD_COUNT returns to 0. -/
def State.heldDrop (s : State) (g : Nat) : State :=
  let n := s.tHeldCount g - 1
  let s := s.setTcb g 83 80 n
  if n = 0 then (s.setTcb g 207 207 0).setTcb g 206 193 0 else s

/-- A take of semaphore i by thread g (R144 to R146): the state and the status, or none when it must wait. -/
def State.semTake (s : State) (g i : Nat) (block : Bool) : State × Option Nat :=
  let x := s.sem i
  let h := hallOfThread g
  if x.kind = 0 then (s, some 6)
  else if s.tHeldV g = 1 ∧ i ≤ s.tHeldMax g then
    ((s.bump .schOrderErrors h).schTraceRec h 0x0B (s.tLastCore g) (some g) i, some 2)
  else if 0 < x.count then
    let s := s.setSem i { x with count := x.count - 1, owner := if x.kind = 1 then some g else none }
    let s := if x.kind = 1 then s.heldTake g i else s
    (s.schTraceRec h 0x0A (s.tLastCore g) (some g) i, some 0)
  else if block then (s.setSem i { x with waiters := x.waiters ++ [g] }, none)
  else (s, some 1)

/-- A lock passes to its first waiter, or becomes free (R146). -/
def State.passLock (s : State) (i : Nat) : State :=
  let x := s.sem i
  match s.firstWaiter x.waiters with
  | none => s.setSem i { x with count := 1, owner := none }
  | some w =>
    let s := s.setSem i { x with count := 0, owner := some w, waiters := x.waiters.filter (fun y => decide (y ≠ w)) }
    let s := (s.heldTake w i).schTraceRec (hallOfThread w) 0x0A 15 (some w) i
    s.wake w 0 none

/-- A give of semaphore i by thread g (R144, R146): the state and the status. -/
def State.semGive (s : State) (g i : Nat) : State × Nat :=
  let x := s.sem i
  if x.kind = 0 then (s, 6)
  else if x.kind = 1 then
    if x.owner = some g then ((s.heldDrop g).passLock i, 0) else (s, 4)
  else
    match s.firstWaiter x.waiters with
    | some w =>
      let s := s.setSem i { x with waiters := x.waiters.filter (fun y => decide (y ≠ w)) }
      ((s.schTraceRec (hallOfThread w) 0x0A 15 (some w) i).wake w 0 none, 0)
    | none => if 65535 ≤ x.count then (s, 6) else (s.setSem i { x with count := x.count + 1 }, 0)

/-- The global indices of the locks a thread owns, ascending by hall and index. -/
def State.locksOf (s : State) (g : Nat) : List Nat :=
  (List.range 16).flatMap (fun h =>
    ((s.sch h).sems.filter (fun p => decide (p.2.owner = some g))).map (fun p => 1024 * h + p.1))

/-- Every lock a thread holds is released, in descending order of global index (R147). -/
def State.releaseLocks (s : State) (g : Nat) : State :=
  (s.locksOf g).reverse.foldl (fun s i => (s.heldDrop g).passLock i) s

/-! ### Message queues (R142, R143) -/

/-- Queue with a global number. -/
def State.queue (s : State) (q : Nat) : QueueSt := tabGet QueueSt.reset (s.sch (q / 256)).queues (q % 256)

/-- The state with a queue set, and the links of its waiters. -/
def State.setQueue (s : State) (q : Nat) (x : QueueSt) : State :=
  let h := q / 256
  ((s.setSch h { s.sch h with queues := tabSet QueueSt.reset (s.sch h).queues (q % 256) x }).relink x.recv).relink
    (x.send.map (fun p => p.1))

def QueueSt.depth (x : QueueSt) : Nat := 2 ^ bits x.setting 11 8
def QueueSt.enabled (x : QueueSt) : Bool := bitAt x.setting 15
def QueueSt.policyDrop (x : QueueSt) : Bool := bitAt x.setting 12

/-- Whether a local queue number names an engine queue (R169, R214, R247, R282, R383, R554): 0xF0 to 0xFD. -/
def isEngineQueue (lq : Nat) : Bool := decide (0xF0 ≤ lq) && decide (lq ≤ 0xFD)

/-- INT_MESSAGE for the owner of a NOTIFY queue if it is RUNNING (R143). -/
def State.notify (s : State) (q : Nat) : State :=
  let x := s.queue q
  let g := 4096 * (q / 256) + bits x.setting 27 16
  if bitAt x.setting 14 = true ∧ s.tState g = thRunning then s.raiseInt (12 * (q / 256) + s.tLastCore g) 0x11 else s

/-- A message put at the tail of a queue's ring. -/
def State.enqueue (s : State) (q m : Nat) : State :=
  let x := s.queue q
  let s := s.store (terraceBase (q / 256) + x.ring + 16 * ((x.head + x.count) % x.depth)) (leBytes 16 m)
  s.setQueue q { x with count := x.count + 1 }

/-- A message reaches a queue with room (R143): the first waiting receiver takes it, else it enters the ring, with
INT_MESSAGE for a NOTIFY queue. -/
def State.arriveMsg (s : State) (q m : Nat) : State :=
  let x := s.queue q
  match s.firstWaiter x.recv with
  | some w => (s.setQueue q { x with recv := x.recv.filter (fun y => decide (y ≠ w)) }).wake w 0 (some m)
  | none => (s.enqueue q m).notify q

/-- Whether a queue can take a message: a receiver waits, or the ring has room. -/
def State.hasRoom (s : State) (q : Nat) : Bool :=
  let x := s.queue q
  !x.recv.isEmpty || decide (x.count < x.depth)

/-- A message for an engine queue (R169): the engines take their descriptors in this order. -/
def State.pushEngine (s : State) (q m : Nat) : State :=
  let h := q / 256
  let x := s.sch h
  s.setSch h { x with
    engq := tabSet [] x.engq (q % 256) (tabGet [] x.engq (q % 256) ++ [(x.engNo, m)]), engNo := x.engNo + 1 }

/-- A message dropped by POLICY 1, sent by a thread (R143). -/
def State.dropMsg (s : State) (q : Nat) (g : Option Nat) : State :=
  (s.bump .schQueueDrops (q / 256)).schTraceRec (q / 256) 0x0D 15 g q

/-- A send by a thread (R142, R143): the state and the status, or none when it must wait for room. -/
def State.threadSend (s : State) (g q m : Nat) (block : Bool) : State × Option Nat :=
  if isEngineQueue (q % 256) then (s.pushEngine q m, some 0)
  else
    let x := s.queue q
    if !x.enabled then (s, some 3)
    else if s.hasRoom q then (s.arriveMsg q m, some 0)
    else if x.policyDrop then (s.dropMsg q (some g), some 0)
    else if block then ((s.setQueue q { x with send := x.send ++ [(g, m)] }).bump .schSendWaits (q / 256), none)
    else (s, some 1)

/-- A send by a hardware producer `src` (node × 64 + endpoint) (R143, R302): a full queue under POLICY 0 holds the
message; POLICY 1 drops it. A source with a held message at the hall sends nothing more to it: its messages wait in
order behind the held one. A message for a disabled queue is lost (log entry 34). -/
def State.hwSend (s : State) (src q m : Nat) : State :=
  if (s.sch (q / 256)).held.any (fun x => decide (x.src = src)) then
    let h := q / 256
    s.setSch h { s.sch h with held := (s.sch h).held ++ [⟨src, q, m⟩] }
  else if isEngineQueue (q % 256) then s.pushEngine q m
  else
    let x := s.queue q
    if !x.enabled then s
    else if s.hasRoom q then s.arriveMsg q m
    else if x.policyDrop then s.dropMsg q none
    else
      let h := q / 256
      (s.setSch h { s.sch h with held := (s.sch h).held ++ [⟨src, q, m⟩] }).bump .galHolds h

/-- The oldest message of a queue. -/
def State.headMsg (s : State) (q : Nat) : Nat :=
  let x := s.queue q
  s.memNat (terraceBase (q / 256) + x.ring + 16 * (x.head % x.depth)) 16

/-- After a message left a queue, the first thread waiting for room sends (R143). -/
def State.senderEnters (s : State) (q : Nat) : State :=
  let x := s.queue q
  match s.firstWaiter (x.send.map (fun p => p.1)) with
  | none => s
  | some w =>
    let m := ((x.send.find? (fun p => decide (p.1 = w))).map (fun p => p.2)).getD 0
    let s := s.setQueue q { x with send := x.send.filter (fun p => decide (p.1 ≠ w)) }
    ((s.enqueue q m).notify q).wake w 0 none

/-- A receive by a thread (R142, R143): the state, the message if there was one, and the status, none when it must
wait. -/
def State.threadRecv (s : State) (g q : Nat) (block : Bool) : State × Option Nat × Option Nat :=
  let x := s.queue q
  if !x.enabled then (s, none, some 3)
  else if 0 < x.count then
    let m := s.headMsg q
    let s := s.setQueue q { x with head := (x.head + 1) % x.depth, count := x.count - 1 }
    (s.senderEnters q, some m, some 0)
  else if block then (s.setQueue q { x with recv := x.recv ++ [g] }, none, none)
  else (s, none, some 1)

/-! ### Calls (R131 to R147) -/

/-- D12 to D15 as a message (R142). -/
def msgOf (k : CoreSt) : Nat :=
  (k.rd 12).toNat + (k.rd 13).toNat * 2 ^ 32 + (k.rd 14).toNat * 2 ^ 64 + (k.rd 15).toNat * 2 ^ 96

/-- D12 to D15 take a message. -/
def CoreSt.takeMsg (k : CoreSt) (m : Nat) : CoreSt :=
  (((k.wd 12 (BitVec.ofNat 32 m)).wd 13 (BitVec.ofNat 32 (m / 2 ^ 32))).wd 14 (BitVec.ofNat 32 (m / 2 ^ 64))).wd 15
    (BitVec.ofNat 32 (m / 2 ^ 96))

/-- Calls allowed with EXL = 1 (R133). -/
def exlCall (sub : Nat) : Bool := [0x08, 0x11, 0x15, 0x17, 0x12, 0x19, 0x1A].contains sub

/-- SCH_SWITCH (R137): the interrupted thread is saved with PC = EPC and SST = ESST and the highest eligible ready
thread runs; if none outranks it, it resumes. The saved thread became READY, so R135 and R137 hold for it. -/
def State.callSwitch (s : State) (c : Nat) : State :=
  match s.thread c with
  | none => s
  | some g =>
    let k := s.core c
    let up := match s.topReady c 63 with
      | some t => decide (s.tPrio g < s.tPrio t)
      | none => false
    if up then
      let s := s.saveContext g c (k.sst.restore k.esst.toNat).toWord k.epc
      let s := s.setCore c { k with sst := { k.sst with exl := false } }
      let s := (s.readyHead g).schTraceRec (c / 12) 2 (c % 12) (some g) (traceArg 2 g)
      (s.releaseCore c).settle (c / 12) [g]
    else
      let s := s.setCore c { k with sst := k.sst.restore k.esst.toNat, ints := k.ints.filter (fun x => decide (x ≠ 0x10)) }
      (((s.setPc c k.epc).setObj .coreState c coreRun).setPre c 0).bump .schPreemptSpurious (c / 12)

/-- The lowest FREE thread of a hall (R131). -/
def State.lowestFree (s : State) (h : Nat) : Nat → Nat → Option Nat
  | 0, _ => none
  | f + 1, t => if s.tState (4096 * h + t) = thFree then some (4096 * h + t) else s.lowestFree h f (t + 1)

/-- Whether a 1 KiB frame lies in the slice above the TCBs (R129, R132). -/
def frameOk (fr : Nat) : Bool := decide (128 ≤ fr) && decide (fr < 12288)

/-- The first frame of a new thread (R588). -/
def newFrame (d0 : Word) (entry : Nat) : List Byte :=
  frameOf (CoreSt.reset.wd 0 d0) ({ Sst.reset with ie := true }).toWord (entry * 8)

/-- SCH_CREATE (R131, R132, R588): the state and what Dd receives. -/
def State.callCreate (s : State) (h : Nat) (a0 a1 a2 : Word) : State × Nat :=
  let aff := bits a0.toNat 31 20
  let fr := bits a1.toNat 13 0
  if aff = 0 ∨ frameOk fr = false then (s, 0x80000003)
  else
    match s.lowestFree h 4096 0 with
    | none => (s, 0x80000005)
    | some g =>
      let w := fr * 2 ^ 98 + bits a0.toNat 13 0 * 2 ^ 84 + bits a1.toNat 31 16 * 2 ^ 112 + aff * 2 ^ 68 + 15 * 2 ^ 64
        + bits a0.toNat 19 14 * 2 ^ 58
      let s := s.store (tcbAddr g) (leBytes 32 w)
      let s := s.store (s.frameAddr g) (newFrame a2 (bits a0.toNat 13 0))
      let s := (s.readyTail g).schTraceRec h 0x10 15 (some g) (traceArg 0x10 g)
      (s.settle h [g], g % 4096)

/-- A waiting thread leaves whatever list holds it (R147); a message it was to send is discarded. -/
def State.leaveWait (s : State) (g : Nat) : State :=
  let h := hallOfThread g
  let o := s.tWaitObj g
  let s := if s.tWaitKind g = 1 then s.setDelay h ((s.sch h).delay.filter (fun x => decide (x ≠ g)))
    else if s.tWaitKind g = 2 then
      let x := s.sem o
      s.setSem o { x with waiters := x.waiters.filter (fun y => decide (y ≠ g)) }
    else if s.tWaitKind g = 3 then
      let x := s.queue o
      s.setQueue o { x with recv := x.recv.filter (fun y => decide (y ≠ g)) }
    else
      let x := s.queue o
      s.setQueue o { x with send := x.send.filter (fun p => decide (p.1 ≠ g)) }
  s.setSch h { s.sch h with
    waits := tabSet 0 (s.sch h).waits g 0, since := tabSet 0 (s.sch h).since g 0
    reported := (s.sch h).reported.filter (fun x => decide (x ≠ g)) }

/-- A thread becomes FREE: its locks are released and its return addresses forgotten (R147). -/
def State.freeThread (s : State) (g : Nat) : State :=
  let h := hallOfThread g
  let s := s.releaseLocks g
  let s := (s.setTcb g 143 140 0).setTState g thFree
  s.setSch h { s.sch h with calls := tabSet [] (s.sch h).calls g [] }

/-- SCH_KILL (R131, R147): the state and the status. -/
def State.callKill (s : State) (h t : Nat) : State × Nat :=
  let g := 4096 * h + t
  if 4095 < t then (s, 3)
  else if s.tState g = thFree ∨ s.tState g = thRunning then (s, 6)
  else
    let s := if s.tState g = thReady then s.readyDrop g
      else if s.tState g = thWaiting then s.leaveWait g
      else s
    ((s.freeThread g).schTraceRec h 0x11 15 (some g) (traceArg 0x11 g), 0)

/-- SCH_SET_PRIO (R136): the state and the status. -/
def State.callSetPrio (s : State) (h : Nat) (a0 : Word) : State × Nat :=
  let g := 4096 * h + bits a0.toNat 27 16
  let p := bits a0.toNat 5 0
  if s.tState g = thFree then (s, 6)
  else if s.tState g = thReady then
    let s := (s.readyDrop g).setTcb g 63 58 p
    (s.setReady h p ((s.sch h).list p ++ [g]), 0)
  else
    let s := s.setTcb g 63 58 p
    if s.tState g = thRunning then
      match s.topReady (12 * h + s.tLastCore g) 63 with
      | some r => (s.preemptFor r, 0)
      | none => (s, 0)
    else (s, 0)

/-- SCH_QUEUE_SET (R131, R132, R142): the state and the status. -/
def State.callQueueSet (s : State) (h : Nat) (a0 a1 : Word) : State × Nat :=
  let w := a0.toNat % 2 ^ 28
  let lq := bits w 7 0
  let q := 256 * h + lq
  let lg := bits w 11 8
  let size := 16 * 2 ^ lg
  let r := a1.toNat
  let x := s.queue q
  if isEngineQueue lq then (s, 3)
  else if lg < 2 ∨ 12 < lg ∨ r % size ≠ 0 ∨ r < 0x20000 ∨ terraceSize < r + size then (s, 3)
  else if 0 < x.count ∨ x.recv ≠ [] ∨ x.send ≠ [] then (s, 6)
  else (s.setQueue q ⟨w, r, 0, 0, [], []⟩, 0)

/-- SCH_SEM_INIT (R144, R146): the state and the status. -/
def State.callSemInit (s : State) (h : Nat) (a0 : Word) : State × Nat :=
  let i := 1024 * h + bits a0.toNat 9 0
  let n := bits a0.toNat 31 16
  let x := s.sem i
  if x.waiters ≠ [] ∨ x.owner ≠ none then (s, 6)
  else if bitAt a0.toNat 10 then (s.setSem i ⟨2, n, none, []⟩, 0)
  else if n ≠ 1 then (s, 3)
  else (s.setSem i ⟨1, 1, none, []⟩, 0)

/-- A delay until a tick (R139): at once when reached, else the thread waits. -/
def State.callDelay (s : State) (c g target dd : Nat) : State :=
  let h := c / 12
  let cur := s.tick48 h
  if reachedTick cur target then s.giveStatus c dd 0
  else
    let s := s.setTcb g 255 208 target
    let s := s.setDelay h (s.delayInsert cur g (s.sch h).delay)
    s.blockThread g c 1 0 dd target

/-- A semaphore or message operation performed for thread g at its target's scheduler (R143 to R146, R148): the
state and the status, none when the thread must wait. -/
def State.performOp (s : State) (o : RemoteOp) : State × Option Nat :=
  if o.sub = 0x10 then s.semTake o.thread o.obj true
  else if o.sub = 0x11 then s.semTake o.thread o.obj false
  else if o.sub = 0x12 then
    let r := s.semGive o.thread o.obj
    (r.1, some r.2)
  else if o.sub = 0x14 then s.threadSend o.thread o.obj o.msg true
  else s.threadSend o.thread o.obj o.msg false

/-- An operation's outcome for the calling thread on core c: the status, or the wait (R134). -/
def State.finishOp (s : State) (c : Nat) (o : RemoteOp) (st : Option Nat) : State :=
  match st with
  | some v => s.giveStatus c o.dd v
  | none => s.blockThread o.thread c (if o.sub = 0x10 then 2 else 4) o.obj o.dd o.obj

/-- A call on a semaphore or queue: performed here, or sent over the Gallery to its hall while the core waits for
the answer (R144, R148). -/
def State.callOp (s : State) (c target : Nat) (o : RemoteOp) : State :=
  if target = c / 12 then
    let r := s.performOp o
    r.1.finishOp c o r.2
  else
    let x := s.sch target
    (s.setSch target { x with inbound := x.inbound ++ [o] }).setCore c { s.core c with callWait := true }

/-- A scheduler call of core c (R131 to R147), with the registers as the bundle read them; the state already has
the PC at the next bundle. -/
def State.schedCall (c : Nat) (old : CoreSt) (sub opnd : Nat) (s : State) : State :=
  let dd := opnd / 16
  let ds := opnd % 16
  let a0 := old.rd ds
  let a1 := old.rd (ds + 1)
  let a2 := old.rd (ds + 2)
  let h := c / 12
  let bad := if sub = 0x0B then 0x80000006 else 6
  match s.thread c with
  | none => s.giveStatus c dd bad
  | some g =>
    if (old.sst.exl && !exlCall sub) || (!old.sst.exl && decide (sub = 8)) then s.giveStatus c dd bad
    else
      match sub with
      | 0x08 => s.callSwitch c
      | 0x09 =>
        let s := s.giveStatus c dd 0
        let s := s.saveContext g c (s.core c).sst.toWord (s.pc c)
        let s := (s.readyTail g).schTraceRec h 3 (c % 12) (some g) (traceArg 3 g)
        (s.releaseCore c).settle h [g]
      | 0x0A => ((s.freeThread g).schTraceRec h 4 (c % 12) (some g) (traceArg 4 g)).releaseCore c
      | 0x0B =>
        let r := s.callCreate h a0 a1 a2
        r.1.giveStatus c dd r.2
      | 0x0C =>
        let r := s.callKill h a0.toNat
        r.1.giveStatus c dd r.2
      | 0x0D =>
        let r := s.callSetPrio h a0
        r.1.giveStatus c dd r.2
      | 0x0E => if a0.toNat = 0 then s.giveStatus c dd 3 else s.callDelay c g ((s.tick48 h + a0.toNat) % 2 ^ 48) dd
      | 0x0F => s.callDelay c g (a0.toNat + bits a1.toNat 15 0 * 2 ^ 32) dd
      | 0x10 => s.callOp c (bits a0.toNat 13 0 / 1024) ⟨g, sub, bits a0.toNat 13 0, 0, dd⟩
      | 0x11 => s.callOp c (bits a0.toNat 13 0 / 1024) ⟨g, sub, bits a0.toNat 13 0, 0, dd⟩
      | 0x12 => s.callOp c (bits a0.toNat 13 0 / 1024) ⟨g, sub, bits a0.toNat 13 0, 0, dd⟩
      | 0x13 =>
        let r := s.callSemInit h a0
        r.1.giveStatus c dd r.2
      | 0x14 => s.callOp c (bits a0.toNat 11 0 / 256) ⟨g, sub, bits a0.toNat 11 0, msgOf old, dd⟩
      | 0x15 => s.callOp c (bits a0.toNat 11 0 / 256) ⟨g, sub, bits a0.toNat 11 0, msgOf old, dd⟩
      | 0x16 =>
        let q := 256 * h + bits a0.toNat 7 0
        match s.threadRecv g q true with
        | (s, some m, _) => (s.setCore c ((s.core c).takeMsg m)).giveStatus c dd 0
        | (s, none, some st) => s.giveStatus c dd st
        | (s, none, none) => s.blockThread g c 3 q dd q
      | 0x17 =>
        let q := 256 * h + bits a0.toNat 7 0
        match s.threadRecv g q false with
        | (s, some m, _) => (s.setCore c ((s.core c).takeMsg m)).giveStatus c dd 0
        | (s, none, some st) => s.giveStatus c dd st
        | (s, none, none) => s
      | 0x18 =>
        let r := s.callQueueSet h a0 a1
        r.1.giveStatus c dd r.2
      | 0x19 =>
        let k := bits a0.toNat 7 0
        if 191 < k then s.giveStatus c dd 3 else (s.raiseInt k 0x12).giveStatus c dd 0
      | _ => (s.schTraceRec h 0x0E (c % 12) (some g) a0.toNat).giveStatus c dd 0

/-! ### Faults and restarts -/

/-- The thread of a core that entered HALTED_FAULT is FAULTED and keeps its locks (R130, R147). -/
def State.threadFaulted (s : State) (c : Nat) : State :=
  match s.thread c with
  | none => s
  | some g =>
    let k := s.core c
    let s := s.setCore c { k with ints := k.ints.filter (fun x => decide (x ≠ 0x10)), stall := none, callWait := false }
    ((s.setThread c none).setPre c 0).setTState g thFaulted

/-- INT_PREEMPT is withdrawn from a core (R138). -/
def State.withdrawPreempt (s : State) (c : Nat) : State :=
  let k := s.core c
  s.setCore c { k with ints := k.ints.filter (fun x => decide (x ≠ 0x10)) }

/-- A halt request takes effect at a bundle boundary (R94): HALTED_DEBUG; what the core was stalled on is abandoned (log entry
91). -/
def State.takeHalt (s : State) (c : Nat) : State :=
  let k := s.core c
  if k.haltReq && s.atBoundary c then
    let st := s.obj .coreState c
    let s := (s.setCore c { k with haltReq := false, leftState := st, stall := none }).setObj .coreState c coreHaltedDebug
    if st = coreRun then s.withdrawPreempt c else s
  else s

/-- R535: core c leaves the AFFINITY of every thread of its hall that is not FREE. -/
def State.dropAffinity (s : State) (c : Nat) : State :=
  (List.range 4096).foldl (fun (s : State) t =>
    let g := 4096 * (c / 12) + t
    let m := s.tAffinity g
    if s.tState g ≠ thFree ∧ bitAt m (c % 12) then s.setTcb g 79 68 (m - 2 ^ (c % 12)) else s) s

/-- Threads of other halls that wait on semaphore or queue objects of a restarted hall leave with BAD_STATE (R144). -/
def State.evict (s : State) (h : Nat) : List Nat → State
  | [] => s
  | g :: r => (if hallOfThread g = h then s else s.wake g 6 none).evict h r

/-- Locks of hall h held by threads of other halls leave their HELD_COUNT (R144). -/
def State.dropForeign (s : State) (h : Nat) : List (Nat × SemSt) → State
  | [] => s
  | p :: r =>
    (match p.2.owner with
    | some g => if hallOfThread g = h then s else s.heldDrop g
    | none => s).dropForeign h r

/-- The locks of other halls held by threads of hall h, descending (R144). -/
def State.foreignLocks (s : State) (h : Nat) : List Nat :=
  ((List.range 16).filter (fun x => decide (x ≠ h))).flatMap (fun x =>
    ((s.sch x).sems.filter (fun p => match p.2.owner with
      | some g => decide (hallOfThread g = h)
      | none => false)).map (fun p => 1024 * x + p.1))

/-- Calls that threads of a restarted hall still have on their way to hall x, and their waits there, are gone; the waiters that
remain are linked again (R128). -/
def State.forgetAt (s : State) (h x : Nat) : State :=
  let y := s.sch x
  let s := s.setSch x { y with
    inbound := y.inbound.filter (fun o => decide (hallOfThread o.thread ≠ h))
    sems := y.sems.map (fun p => (p.1, { p.2 with waiters := p.2.waiters.filter (fun g => decide (hallOfThread g ≠ h)) }))
    queues := y.queues.map (fun p => (p.1, { p.2 with send := p.2.send.filter (fun g => decide (hallOfThread g.1 ≠ h)) })) }
  let s := (s.sch x).sems.foldl (fun (s : State) p => s.relink p.2.waiters) s
  (s.sch x).queues.foldl (fun (s : State) p => s.relink (p.2.send.map (fun g => g.1))) s

/-- Threads of a restarted hall are forgotten by every hall. -/
def State.forgetThreads (s : State) (h : Nat) : State := (List.range 16).foldl (fun (s : State) x => s.forgetAt h x) s

/-- A call of another hall's thread that was on its way to a restarted hall is answered BAD_STATE (R144). -/
def State.answerInbound (s : State) : List RemoteOp → State
  | [] => s
  | o :: r =>
    let c := 12 * hallOfThread o.thread + s.tLastCore o.thread
    (if s.thread c = some o.thread then ((s.setCore c { s.core c with callWait := false }).giveStatus c o.dd 6).takeHalt c else s).answerInbound r

/-- A hall restarts (R144): foreign waits on its semaphores and queues end with BAD_STATE, foreign holders lose its
locks, its threads' locks elsewhere pass on, and its scheduler starts again. -/
def State.hallRestart (s : State) (h : Nat) : State :=
  let x := s.sch h
  let sw := x.sems.flatMap (fun p => p.2.waiters)
  let qw := x.queues.flatMap (fun p => p.2.send.map (fun y => y.1))
  let s := ((s.setSch h { x with sems := [], queues := [] }).dropForeign h x.sems).forgetThreads h
  let s := (s.foreignLocks h).reverse.foldl (fun s i => s.passLock i) s
  let s := (s.evict h sw).evict h qw
  let s := s.answerInbound (s.sch h).inbound
  ((((s.setSch h SchedSt.reset).setObj .schReadyThreads h 0).setObj .schWaitingThreads h 0).setObj .schFreeThreads h 4096).setObj
    .schPmemState h 0

end Sys2Proof.Machine
end

