-- ==== Sys2Proof/Machine/SlotTime.lean ====
section
/-! DEFINITION. The frame timing of a carrier (R418, R420) and the times an uplink slot keeps (R163, R165, R191). -/

namespace Sys2Proof.Machine

/-- A carrier no CONFIG.request has set up: NR at 15 kHz, 20 MHz, 106 PRBs (log entry 37). -/
def CarrierCfg.reset : CarrierCfg := ⟨0, 200, 1, 1, 0, false, 106⟩

/-- The configuration of carrier c. -/
def State.carrier (s : State) (c : Nat) : CarrierCfg := tabGet CarrierCfg.reset s.carriers c

/-- Seconds from the PTP epoch to the GPS epoch with the TAI offset (R418), in ns. -/
def gpsEpoch : Int := 315964819 * 1000000000

/-- Context k holds an armed set whose commit instant is at or before T. -/
def State.armedBy (s : State) (k : Nat) (x : StageSt) (T : Int) : Bool :=
  decide (s.obj .stageState k = 1) && decide (x.tc ≤ T)

/-- `TIME_SFN_OFFSET` of a carrier (R418, R419): of one not admitted, the value an armed set admits it with. -/
def State.sfnOffset (s : State) (c : Nat) : Int :=
  let v := s.obj .timeSfnOffset c
  if s.obj .carrierHall c ≠ 255 then v
  else
    match s.staged.find? (fun p => decide (s.obj .stageState p.1 = 1) && (tabFind p.2.halls c).isSome) with
    | some p => (tabFind p.2.vals (objKey .timeSfnOffset c)).getD v
    | none => v

/-- g of R418: GPS time with the carrier's offset, at device time t. -/
def State.gTime (s : State) (c : Nat) (t : Int) : Int := t - gpsEpoch - s.sfnOffset c

/-- Slots in a subframe. -/
def State.slotsPerSubframe (s : State) (c : Nat) : Nat := 2 ^ (s.carrier c).mu

/-- Slots in a frame. -/
def State.slotsPerFrame (s : State) (c : Nat) : Nat := 10 * s.slotsPerSubframe c

/-- Duration of a slot, ns. -/
def State.slotNs (s : State) (c : Nat) : Int := 1000000 / (s.slotsPerSubframe c : Int)

/-- Symbols in a slot. -/
def State.symbolsPerSlot (s : State) (c : Nat) : Nat := if (s.carrier c).ecp then 12 else 14

/-- The start of symbol l of a subframe, ns, at numerology mu (TS 38.211 clause 5.3.1; R418). In units of
1 / (30.72 MHz × 2^mu) a symbol takes 2,192, or 2,560 with extended cyclic prefix, and the first symbol of each half
subframe 16 × 2^mu more. -/
def symbolOffset (mu : Nat) (ecp : Bool) (l : Nat) : Int :=
  let units : Nat :=
    if ecp then l * 2560
    else l * 2192 + 16 * 2 ^ mu * (if l = 0 then 0 else if l ≤ 7 * 2 ^ mu then 1 else 2)
  ((units * 3125 / (96 * 2 ^ mu) : Nat) : Int)

/-- The frame present at device time t, counted from the GPS epoch. -/
def State.frameNow (s : State) (c : Nat) (t : Int) : Int := s.gTime c t / 10000000

/-- The start of symbol k of absolute slot S of carrier c, in device time (R418); k may be the number of symbols. -/
def State.symbolStart (s : State) (c : Nat) (S : Int) (k : Nat) : Int :=
  let n : Int := s.slotsPerSubframe c
  gpsEpoch + s.sfnOffset c + (S / n) * 1000000
    + symbolOffset (s.carrier c).mu (s.carrier c).ecp ((S % n).toNat * s.symbolsPerSlot c + k)

/-- T of a slot: its start (R418). -/
def State.slotStart (s : State) (c : Nat) (S : Int) : Int := s.symbolStart c S 0

/-- The absolute frame whose number modulo `m` is `f` and which lies nearest to frame n, a distance of exactly
−m/2 resolving backward (R420). -/
def nearestFrame (m n f : Int) : Int := n + ((f - n + m / 2) % m - m / 2)

/-- The absolute slot that an SFN and a slot in the frame name (log entry 38). -/
def State.slotOfSfn (s : State) (c sfn slot : Nat) : Int :=
  nearestFrame 1024 (s.frameNow c s.now) sfn * (s.slotsPerFrame c : Int) + slot

/-- The absolute slot that frameId, subframeId and slotId of an O-RAN header name (R161, R420). -/
def State.slotOfFrameId (s : State) (c frameId subframe slotId : Nat) : Int :=
  nearestFrame 256 (s.frameNow c s.now) frameId * (s.slotsPerFrame c : Int) + subframe * s.slotsPerSubframe c + slotId

/-- SFN of an absolute slot (R418). -/
def State.sfnOf (s : State) (c : Nat) (S : Int) : Nat := ((S / (s.slotsPerFrame c : Int)) % 1024).toNat

/-- Slot within the frame of an absolute slot. -/
def State.slotInFrame (s : State) (c : Nat) (S : Int) : Nat := (S % (s.slotsPerFrame c : Int)).toNat

/-- What the armed sets stage for an object number by time T: the value of the latest, the higher context at a tie
(R468, R469, R480). -/
def State.stagedFor {α : Type} (s : State) (sel : StageSt → Tab α) (T : Int) (key : Nat) : Option (Int × α) :=
  s.staged.foldl (fun best p =>
    if s.armedBy p.1 p.2 T then
      match tabFind (sel p.2) key with
      | some v => if best.all (fun b => decide (b.1 ≤ p.2.tc)) then some (p.2.tc, v) else best
      | none => best
    else best) none

/-- What an object held before the first commit after T replaced it, if one did (R469). -/
def valueBefore (T : Int) (key : Nat) (log : List (Int × Nat × Int)) : Option Int :=
  (log.filter (fun e => decide (e.2.1 = key) && decide (T < e.1))).getLast?.map (fun e => e.2.2)

/-- The value of a staged object for the work of a slot that starts at T (R469): whatever the time of the work, slots from
a commit slot on use its values and earlier ones those before. -/
def State.objAt (s : State) (T : Int) (o : Obj) (n : Nat) : Int :=
  match s.stagedFor StageSt.vals T (objKey o n) with
  | some (_, v) => v
  | none => (valueBefore T (objKey o n) s.stageLog).getD (s.obj o n)

/-- The same for a DOMAIN object, by the sets armed (R469). -/
def State.domAt (s : State) (T : Int) (o : Obj) (n : Nat) : List Byte :=
  match s.stagedFor StageSt.doms T (objKey o n) with
  | some (_, v) => v
  | none => s.dom o n

/-- The close of the window of symbol k (R163): the end of the symbol plus `UL_WIN_CLOSE`. -/
def State.windowClose (s : State) (c : Nat) (S : Int) (k : Nat) : Int := s.symbolStart c S (k + 1) + s.objAt (s.slotStart c S) .ulWinClose c

/-- The uplink deadline of a slot (R191): 0 means two slot durations. -/
def State.ulDeadline (s : State) (c : Nat) (S : Int) : Int :=
  let T := s.slotStart c S
  let off := s.objAt T .ulDeadlineOffset c
  T + (if off = 0 then 2 * s.slotNs c else off)

/-- The hall of a carrier, 255 for none. -/
def State.hallOf (s : State) (c : Nat) : Nat := s.objN .carrierHall c

/-- The hall of a carrier for a slot that starts at T: an armed set that admits the carrier by then counts (R469). -/
def State.hallAt (s : State) (T : Int) (c : Nat) : Nat :=
  match s.stagedFor StageSt.halls T c with
  | some (_, h) => h
  | none => s.hallOf c

end Sys2Proof.Machine
end

