-- ==== Sys2Proof/Machine/Engine.lean ====
section
/-! DEFINITION. The engines of a hall and their descriptors (R169 to R172, R216, R248, R282): taking the head of a
queue, its header, and its completion. Engine e has local queue 0xF0 + e. -/

namespace Sys2Proof.Machine

/-! ### The header (R170) -/

def dDeadline (d : Nat) : Nat := bits d 127 64
def dReply (d : Nat) : Nat := bits d 63 56
def dOp (d : Nat) : Nat := bits d 55 52
def dTag (d : Nat) : Nat := bits d 47 32
def dCarrier (d : Nat) : Nat := bits d 31 22
def dSfn (d : Nat) : Nat := bits d 21 12
def dSlot (d : Nat) : Nat := bits d 11 4

/-- The absolute slot a descriptor names. -/
def State.descSlot (s : State) (d : Nat) : Int := s.slotOfSfn (dCarrier d) (dSfn d) (dSlot d)

/-- CARRIER is a carrier and SLOT a slot of its frame. -/
def State.slotFieldsOk (s : State) (d : Nat) : Bool :=
  decide (dCarrier d < 768) && decide (dSlot d < s.slotsPerFrame (dCarrier d))

/-- `n` bytes from an offset lie in a hall's slice. -/
def inSlice (off n : Nat) : Bool := decide (off + n ≤ terraceSize)

/-- The number of ones in the low `n` bits. -/
def popCount : Nat → Nat → Nat
  | 0, _ => 0
  | n + 1, w => w % 2 + popCount n (w / 2)

/-- The ones of a mask, ascending. -/
def maskList (n w : Nat) : List Nat := (List.range n).filter (fun i => bitAt w i)

/-- Division rounded up. -/
def ceilDiv (a b : Nat) : Nat := (a + b - 1) / b

/-- The bits of a square root, from 2^(k − 1) down. -/
def isqrtBits (n : Nat) : Nat → Nat → Nat
  | 0, r => r
  | k + 1, r => isqrtBits n k (if (r + 2 ^ k) * (r + 2 ^ k) ≤ n then r + 2 ^ k else r)

/-- The integer square root. -/
def isqrt (n : Nat) : Nat := isqrtBits n (Nat.log2 n / 2 + 1) 0

/-- Round half to even of a / 2^k. -/
def roundHalfEven (a : Int) (k : Nat) : Int :=
  let d : Int := 2 ^ k
  let q := a / d
  let r := 2 * (a % d)
  if r < d then q else if d < r then q + 1 else if q % 2 = 0 then q else q + 1

/-- Saturation to −m − 1 … m. -/
def sat (m : Int) (v : Int) : Int := max (-m - 1) (min m v)

/-! ### Free outputs -/

/-- `n` free bytes (log entry 40). -/
def State.freeBytes (s : State) (n : Nat) : List Byte :=
  (List.range n).map (fun i => BitVec.ofNat 8 (Config.freeOf 6 [s.freeCtr, i]))

/-- An engine writes bytes in its hall's slice; the TCBs refuse it (R127). -/
def State.engWrite (s : State) (h off : Nat) (l : List Byte) : State := (s.storeAsked (terraceBase h + off) l).1

/-- An engine writes `n` bytes whose value the spec does not fix. -/
def State.putFree (s : State) (h off n : Nat) : State := (s.engWrite h off (s.freeBytes n)).freeUsed

/-! ### Queues -/

/-- The head of engine e's queue in hall h: its place in order of arrival, and the message. -/
def State.engHead (s : State) (h e : Nat) : Option (Nat × Nat) := (tabGet [] (s.sch h).engq (0xF0 + e)).head?

/-- The head of an engine's queue is taken off. -/
def State.engPop (s : State) (h e : Nat) : State :=
  let x := s.sch h
  s.setSch h { x with engq := tabSet [] x.engq (0xF0 + e) ((tabGet [] x.engq (0xF0 + e)).drop 1) }

/-- What engine e of hall h executes. -/
def State.engRun (s : State) (h e : Nat) : Option EngRun := tabGet none s.engBusy (16 * h + e)

/-- The state with an engine's work set. -/
def State.setEngRun (s : State) (h e : Nat) (r : Option EngRun) : State :=
  { s with engBusy := tabSet none s.engBusy (16 * h + e) r }

/-- The OP values each queue takes (R170, R216, R248, R282, R383, R554). -/
def engineOps : Nat → List Nat
  | 0 => [1, 2] | 1 => [3] | 2 => [6] | 3 => [4, 5, 7] | 4 => [8] | 5 => [9] | 6 => [0xC] | 7 => [0xA] | 8 => [0xB]
  | 9 => [0xD] | 10 => [0xE] | 11 => [0xF] | 12 => [0] | 13 => [0, 1, 2, 3] | _ => []

/-- A descriptor in a hall's slice. -/
def State.readDesc (s : State) (h off : Nat) : Nat := s.memNat (terraceBase h + off) 64

/-- A message names a descriptor as R169 says: 64-byte aligned in the slice, D13 to D15 zero. -/
def offOk (m : Nat) : Bool := decide (bits m 23 0 % 64 = 0) && inSlice (bits m 23 0) 64 && decide (bits m 127 32 = 0)

/-! ### Completion -/

/-- What an engine reports (R171). -/
structure Result where
  status : Nat
  missing : Bool
  clip : Bool
  cycles : Nat
  a : Nat
  b : Nat
  deriving DecidableEq, Repr

/-- A completion with nothing done. -/
def Result.only (st : Nat) : Result := ⟨st, false, false, 0, 0, 0⟩

/-- The counter of a status (R172, R216). -/
def State.countStatus (s : State) (h st : Nat) : State :=
  match st with
  | 0 => s.bump .ulDescOk h
  | 1 => s.bump .ulDescLate h
  | 2 => s.bump .ulDescBad h
  | 3 => s.bump .ulDescNoSlot h
  | 4 => s.bump .ulDescNoSlot h
  | 5 => s.bump .ulOuterSkipped h
  | 6 => s.bump .ulOuterAbandoned h
  | 7 => s.bump .harqBusy h
  | _ => s

/-- The completion message of R171. -/
def completionMsg (d : Nat) (r : Result) (now : Int) : Nat :=
  dTag d * 2 ^ 112 + dOp d * 2 ^ 108 + r.status * 2 ^ 104 + (if r.missing then 2 ^ 97 else 0)
    + (if r.clip then 2 ^ 96 else 0) + (r.cycles % 2 ^ 32) * 2 ^ 64 + (r.a % 2 ^ 16) * 2 ^ 48 + (r.b % 2 ^ 16) * 2 ^ 32
    + toField 32 now

/-- The pacing unit that samples engine e of hall h (R37): the hall, the block for polar and turbo work, none for the
context store, SEND and Stairway. -/
def paceUnit (h e : Nat) : Option Nat :=
  if e = 7 ∨ e = 8 then some (16 + h / 8) else if e ≤ 10 then some h else none

/-- R172: OK becomes LATE after a non-zero DEADLINE. -/
def State.lateStatus (s : State) (d st : Nat) : Nat :=
  if st = 0 ∧ dDeadline d ≠ 0 ∧ (dDeadline d : Int) < s.now then 1 else st

/-- The slack sample of a completion with a deadline (R37, R170), whatever its status. -/
def State.engSlack (s : State) (h e d : Nat) : State :=
  match paceUnit h e with
  | some u => if dDeadline d ≠ 0 then s.paceCompletion u ((dDeadline d : Int) - s.now) false else s
  | none => s

/-- An engine reports a descriptor (R171, R172): counted, sampled, and one message sent to REPLY_QUEUE of the hall. -/
def State.finish (s : State) (h e d : Nat) (r : Result) : State :=
  let st := s.lateStatus d r.status
  let s := (s.countStatus h st).engSlack h e d
  s.hwSend (64 * h + 16 + e) (256 * h + dReply d) (completionMsg d { r with status := st } s.now)

/-- The head descriptor of an engine's queue completes. -/
def State.finishHead (s : State) (h e d : Nat) (r : Result) : State := (s.engPop h e).finish h e d r

/-- The running descriptor of an engine completes. -/
def State.finishRun (s : State) (h e d : Nat) (r : Result) : State := (s.setEngRun h e none).finish h e d r

/-- WB_CYCLES written back at the descriptor's last four bytes. -/
def State.writeBack (s : State) (h off cycles : Nat) : State := s.engWrite h (off + 60) (leBytes 4 cycles)

/-- The units engine e of hall h needs are RUNNING: the hall, and the block, the context store, the MACs or no other
(R169, R529). -/
def State.engUp (s : State) (h e : Nat) : Bool :=
  decide ((s.unit (unitHall h)).st = unitRunning)
    && (if e = 7 ∨ e = 8 then decide ((s.unit (unitBlock (h / 8))).st = unitRunning)
        else if e = 11 then decide ((s.unit unitCtx).st = unitRunning)
        else if e = 12 then decide ((s.unit unitEth).st = unitRunning)
        else true)

/-- Engine e of hall h, idle, takes the head of its queue: a message that names no descriptor, or a descriptor whose OP
its queue does not take, is BAD_DESC (log entry 39); a poisoned descriptor is fault 0x03 of the hall (R533); else, if
its OP is one of `ops`, `f` acts on it. An engine whose unit does not run takes nothing (R531). -/
def State.takeHead (s : State) (h e : Nat) (ops : List Nat) (f : EngRun → State → State) : State :=
  if !s.engUp h e then s
  else
  match s.engRun h e, s.engHead h e with
  | none, some (stamp, m) =>
    let off := bits m 23 0
    let a := terraceBase h + off
    if !offOk m then (s.engPop h e).bump .ulDescBad h
    else if s.anyPoison a 8 then ((s.engPop h e).demandWords a 0 8).unitFault (unitHall h) 3
    else
      let d := s.readDesc h off
      if !(engineOps e).contains (dOp d) then s.finishHead h e d (Result.only 2)
      else if ops.contains (dOp d) then f ⟨off, d, stamp, s.now⟩ s
      else s
  | _, _ => s

/-- A take by the engine of arbiter k, which serves input i while that holds the grant (R305); the burst is over once the head of the
queue of engine e of hall h is taken. -/
def State.granted (s : State) (k i h e : Nat) (f : State → State) : State :=
  if s.arbHold k = i then
    let t := f s
    if t.engHead h e = s.engHead h e then t else t.arbRelease k i
  else s

/-- Whether a descriptor names the carrier slot (c, S). -/
def State.sameSlot (s : State) (d c : Nat) (S : Int) : Bool := decide (dCarrier d = c) && decide (s.descSlot d = S)

/-- What a codec executes. -/
def State.codec (s : State) (k : Nat) : Option CodecRun := tabGet none s.codecs k

/-- The state with a codec's work set. -/
def State.setCodec (s : State) (k : Nat) (r : Option CodecRun) : State := { s with codecs := tabSet none s.codecs k r }

/-- Whether an engine queue of the hall holds, or an engine executes, a descriptor of the carrier slot that arrived
before `stamp` (R174): queues 0xF0 to 0xFA have descriptors of a carrier slot. -/
def State.earlierWork (s : State) (h stamp c : Nat) (S : Int) : Bool :=
  (List.range 11).any (fun e =>
    (tabGet [] (s.sch h).engq (0xF0 + e)).any (fun p =>
      decide (p.1 < stamp) && offOk p.2 && s.sameSlot (s.readDesc h (bits p.2 23 0)) c S)
    || (match s.engRun h e with
        | some r => decide (r.stamp < stamp) && s.sameSlot r.desc c S
        | none => false))
  || (List.range 6).any (fun k =>
      match s.codec k with
      | some r => decide (r.hall = h) && decide (r.run.stamp < stamp) && s.sameSlot r.run.desc c S
      | none => false)

end Sys2Proof.Machine
end

