-- ==== Sys2Proof/Machine/Bits.lean ====
section
/-! DEFINITION. Bit strings of the codecs: their packing into bytes, cyclic redundancy checks (R217, R238, R241) and linear equations
over two elements. The check polynomials are those of TS 38.212 and TS 36.212 clause 5.1.1. -/

namespace Sys2Proof.Machine

/-- The bits of some bytes, the first in bit 7 of the first byte (R218, R236). -/
def bitsOfBytes (l : List Byte) : List Bool := l.flatMap (fun b => (List.range 8).map (fun i => bitAt b.toNat (7 - i)))

/-- Bits as a number, the first the most significant. -/
def bitsNat (l : List Bool) : Nat := l.foldl (fun n b => 2 * n + b.toNat) 0

/-- Bits packed into bytes, the last byte filled with zeros. -/
def packBits (l : List Bool) : List Byte :=
  (List.range (ceilDiv l.length 8)).map (fun i => BitVec.ofNat 8 (bitsNat ((List.range 8).map (fun j => l.getD (8 * i + j) false))))

/-- The `n` low bits of a number, the most significant first. -/
def natBits (n v : Nat) : List Bool := (List.range n).map (fun i => bitAt v (n - 1 - i))

/-- The check bits of a message by a polynomial of degree `n` whose lower terms are `poly`. -/
def crcOf (n poly : Nat) (l : List Bool) : Nat :=
  l.foldl (fun r b => if bitAt r (n - 1) = b then 2 * r % 2 ^ n else (2 * r % 2 ^ n) ^^^ poly) 0

/-- A check of the standards: its degree and its polynomial's lower terms. -/
structure Crc where
  len : Nat
  poly : Nat
  deriving DecidableEq, Repr

def crc24a : Crc := ⟨24, 0x864CFB⟩
def crc24b : Crc := ⟨24, 0x800063⟩
def crc24c : Crc := ⟨24, 0xB2B117⟩
def crc16 : Crc := ⟨16, 0x1021⟩
def crc11 : Crc := ⟨11, 0x621⟩
def crc6 : Crc := ⟨6, 0x21⟩

/-- A message with its check bits. -/
def Crc.attach (c : Crc) (l : List Bool) : List Bool := l ++ natBits c.len (crcOf c.len c.poly l)

/-- A message's last bits are the check of those before. -/
def Crc.holds (c : Crc) (l : List Bool) : Bool := decide (crcOf c.len c.poly l = 0)

/-- The first `n` of some bits; those that no rule states are free (log entry 40). -/
def State.fitBits (s : State) (n : Nat) (l : List Bool) : List Bool :=
  (List.range n).map (fun i => if i < l.length then l.getD i false else bitAt (Config.freeOf 6 [s.freeCtr, i]) 0)

/-! ### Linear equations -/

/-- An equation over two elements: the unknowns that add up, as a mask, and their sum. -/
abbrev Parity := Nat × Bool

/-- Unknown i is eliminated from an equation by another that has it. -/
def Parity.reduce (p : Parity) (i : Nat) (q : Parity) : Parity := if bitAt q.1 i then (q.1 ^^^ p.1, xor q.2 p.2) else q

/-- The equations solved for `f` unknowns from i on: each unknown that has a pivot, with its equation. -/
def parityElim : Nat → Nat → List Parity → List (Nat × Parity) → List (Nat × Parity)
  | 0, _, _, solved => solved
  | f + 1, i, rest, solved =>
    match rest.find? (fun q => bitAt q.1 i) with
    | none => parityElim f (i + 1) rest solved
    | some p =>
      parityElim f (i + 1) ((rest.erase p).map (p.reduce i)) ((i, p) :: solved.map (fun q => (q.1, p.reduce i q.2)))

/-- The unknowns 0 to n − 1 of some equations; one that no equation fixes is zero. -/
def paritySolve (n : Nat) (eqs : List Parity) : List Bool :=
  let solved := parityElim n 0 eqs []
  (List.range n).map (fun i => match solved.find? (fun q => decide (q.1 = i)) with | some q => q.2.2 | none => false)

end Sys2Proof.Machine
end

