-- ==== Sys2Proof/Machine/LdpcCode.lean ====
section
/-! DEFINITION. The LDPC code (R217, R220, R224, R236): segmentation, rate matching, layered min-sum decoding and encoding. The base
graphs' shift values are TS 38.212's, of which the spec states no number: a free function of Config (log entry 40). -/

namespace Sys2Proof.Machine

/-! ### LDPC segmentation (TS 38.212 clauses 5.2.2 and 5.4.2) -/

/-- The 51 lifting sizes. -/
def liftingSizes : List Nat :=
  [2, 3, 5, 7, 9, 11, 13, 15].flatMap (fun a => ((List.range 8).map (fun j => a * 2 ^ j)).filter (fun z => decide (z ≤ 384)))

/-- How a codeword is cut: blocks, bits K' of a block before filler, K, lifting size, columns of the circular buffer. -/
structure Seg where
  c : Nat
  kp : Nat
  k : Nat
  zc : Nat
  n : Nat
  deriving DecidableEq, Repr

/-- Segmentation of a transport block of `a` bits with base graph 1 or 2. -/
def ldpcSeg (a : Nat) (bg2 : Bool) : Seg :=
  let b := a + (if 3824 < a then 24 else 16)
  let kcb := if bg2 then 3840 else 8448
  let c := if b ≤ kcb then 1 else ceilDiv b (kcb - 24)
  let b' := if c = 1 then b else b + 24 * c
  let kp := ceilDiv b' c
  let kb := if bg2 then (if 640 < b then 10 else if 560 < b then 9 else if 192 < b then 8 else 6) else 22
  let zc := (liftingSizes.filter (fun z => decide (kp ≤ kb * z))).foldl min 384
  ⟨c, kp, (if bg2 then 10 else 22) * zc, zc, (if bg2 then 50 else 66) * zc⟩

/-- N_cb: limited by TBS_LBRM at rate 2/3 (R224). -/
def ncbOf (g : Seg) (lbrm : Bool) (tbsLbrm : Nat) : Nat := if lbrm then min g.n (3 * tbsLbrm / (2 * g.c)) else g.n

/-- E_r of block r, for G coded bits and q = layers × Qm. -/
def eOf (g q c r : Nat) : Nat := if r + (g / q) % c + 1 ≤ c then q * (g / q / c) else q * ceilDiv (g / q) c

/-- The first position of the circular buffer for a redundancy version. -/
def k0Of (g : Seg) (bg2 : Bool) (ncb rv : Nat) : Nat :=
  let n := if bg2 then [0, 13, 25, 43] else [0, 17, 33, 56]
  let d := if bg2 then 50 else 66
  n.getD rv 0 * ncb / (d * g.zc) * g.zc

/-- Where rate-matched bits lie: circular-buffer positions from k0 on, filler skipped, once round (R224). -/
def bufferOrder (ncb k0 f0 f1 : Nat) : List Nat :=
  ((List.range ncb).map (fun i => (k0 + i) % ncb)).filter (fun p => !(decide (f0 ≤ p) && decide (p < f1)))

/-- The circular-buffer positions of a block's bits, for a redundancy version. -/
def ldpcOrder (g : Seg) (bg2 : Bool) (ncb rv : Nat) : List Nat :=
  bufferOrder ncb (k0Of g bg2 ncb rv) (g.kp - 2 * g.zc) (g.k - 2 * g.zc)

/-- The place before bit interleaving of bit i of E interleaved by Qm rows (TS 38.212 clause 5.4.2.2). -/
def interleaved (e qm i : Nat) : Nat := i % qm * (e / qm) + i / qm

/-- The place after bit interleaving of bit i of E. -/
def deinterleaved (e qm i : Nat) : Nat := i % (e / qm) * qm + i / (e / qm)

/-- Soft values placed at the positions of `order` in turn, round and round, each of the `n` positions taking its saturated sum
(R224). -/
def placeSoft (n : Nat) (order : List Nat) (llr : List Int) : List Int :=
  (List.range n).map (fun p =>
    let i := order.idxOf p
    if i < order.length then
      max (-127) (min 127 (((List.range (ceilDiv llr.length order.length)).map (fun j => llr.getD (i + j * order.length) 0)).sum))
    else 0)

/-! ### Base graphs -/

/-- Rows, columns and systematic columns of a base graph. -/
def bgRows (bg2 : Bool) : Nat := if bg2 then 42 else 46
def bgCols (bg2 : Bool) : Nat := if bg2 then 52 else 68
def bgInfo (bg2 : Bool) : Nat := if bg2 then 10 else 22

/-- The set of lifting sizes that zc belongs to. -/
def liftSet (zc : Nat) : Nat :=
  [2, 3, 5, 7, 9, 11, 13, 15].findIdx (fun a => (List.range 8).any (fun j => decide (a * 2 ^ j = zc)))

/-- The variables of check j of row r. -/
def checkVars (bg2 : Bool) (zc r j : Nat) : List Nat :=
  (List.range (bgCols bg2)).filterMap (fun c =>
    let v := Config.ldpcShift bg2 (liftSet zc) r c
    if v = 0 then none else some (c * zc + (j + (v - 1)) % zc))

/-- All lifted checks in the order of R220: rows ascending. -/
def allChecks (bg2 : Bool) (zc : Nat) : List (List Nat) :=
  (List.range (bgRows bg2)).flatMap (fun r => (List.range zc).map (checkVars bg2 zc r))

/-! ### Layered min-sum decoding (R220) -/

/-- Posteriors by variable, and check messages by check × 2^16 + variable. -/
structure SoftDec where
  post : List Int
  msg : Tab Int
  deriving DecidableEq, Repr

/-- One check is passed: its messages and its variables' posteriors are new. A message is an I8, so it saturates at ±127 (log entry
102). -/
def SoftDec.check (d : SoftDec) (key : Nat) (vs : List Nat) : SoftDec :=
  let ts := vs.map (fun v => (v, d.post.getD v 0 - tabGet 0 d.msg (key + v)))
  let mags := ts.map (fun t => t.2.natAbs)
  let m1 := mags.foldl min 1023
  let m2 := (mags.erase m1).foldl min 1023
  let neg := (ts.filter (fun t => decide (t.2 < 0))).length
  ts.foldl (fun (d : SoftDec) t =>
    let mag : Int := min 127 (3 * (if t.2.natAbs = m1 then m2 else m1) / 4 : Nat)
    let others := if t.2 < 0 then neg - 1 else neg
    let m := if others % 2 = 0 then mag else -mag
    ⟨d.post.set t.1 (max (-511) (min 511 (t.2 + m))), tabSet 0 d.msg (key + t.1) m⟩) d

/-- The hard decisions: 1 where the posterior is negative. -/
def SoftDec.hard (d : SoftDec) : List Bool := d.post.map (fun v => decide (v < 0))

/-- Parity checks that some bits leave unsatisfied. -/
def unsatisfied (checks : List (List Nat)) (b : List Bool) : Nat :=
  (checks.filter (fun vs => vs.foldl (fun p v => xor p (b.getD v false)) false)).length

/-- Up to `f` iterations, the first that satisfies every check the last; how many were run, and the checks then unsatisfied. -/
def SoftDec.run (checks : List (List Nat)) : Nat → Nat → SoftDec → SoftDec × Nat × Nat
  | 0, n, d => (d, n, unsatisfied checks d.hard)
  | f + 1, n, d =>
    let d := checks.zipIdx.foldl (fun (d : SoftDec) (p : List Nat × Nat) => d.check (p.2 * 65536) p.1) d
    if unsatisfied checks d.hard = 0 then (d, n + 1, 0) else SoftDec.run checks f (n + 1) d

/-- The channel values a block's decoding starts from: punctured columns 0, filler +511, and the combined soft values. -/
def channelValues (g : Seg) (bg2 : Bool) (soft : List Int) : List Int :=
  (List.range (bgCols bg2 * g.zc)).map (fun v =>
    if v < 2 * g.zc then 0 else if g.kp ≤ v ∧ v < g.k then 511 else soft.getD (v - 2 * g.zc) 0)

/-- One pass over a block: its K' bits, the iterations run, and the checks left unsatisfied (R220). -/
def ldpcPass (g : Seg) (bg2 : Bool) (iters : Nat) (soft : List Int) : List Bool × Nat × Nat :=
  let r := SoftDec.run (allChecks bg2 g.zc) iters 0 ⟨channelValues g bg2 soft, []⟩
  (r.1.hard.take g.kp, r.2.1, r.2.2)

/-! ### Transport blocks (R217) -/

/-- The check of a transport block of `a` bits. -/
def tbCrc (a : Nat) : Crc := if 3824 < a then crc24a else crc16

/-- The bits of a transport block with its check, from its decoded code blocks. -/
def joinBlocks (g : Seg) (a : Nat) (blocks : List (List Bool)) : List Bool :=
  let n := if g.c = 1 then g.kp else g.kp - 24
  (blocks.flatMap (fun b => b.take n)).take (a + (tbCrc a).len)

/-- A transport block cut into code blocks of K' bits, with their checks. -/
def cutBlocks (g : Seg) (tb : List Bool) : List (List Bool) :=
  let b := (tbCrc tb.length).attach tb
  if g.c = 1 then [b]
  else (List.range g.c).map (fun r =>
    let n := g.kp - 24
    crc24b.attach ((List.range n).map (fun i => b.getD (r * n + i) false)))

/-! ### Encoding (R236) -/

/-- The coded bits of a block after the punctured columns: its bits, filler and the parity bits that satisfy every check. -/
def ldpcEncode (g : Seg) (bg2 : Bool) (b : List Bool) : List Bool :=
  let info := (List.range g.k).map (fun i => b.getD i false)
  let eqs : List Parity := (allChecks bg2 g.zc).map (fun vs =>
    (((vs.filter (fun v => decide (g.k ≤ v))).map (fun v => 2 ^ (v - g.k))).sum,
      vs.foldl (fun p v => xor p (decide (v < g.k) && info.getD v false)) false))
  (info ++ paritySolve (bgRows bg2 * g.zc) eqs).drop (2 * g.zc)

/-- The E rate-matched and interleaved bits of a block. -/
def ldpcMatch (g : Seg) (bg2 : Bool) (ncb rv e qm : Nat) (code : List Bool) : List Bool :=
  let order := ldpcOrder g bg2 ncb rv
  (List.range e).map (fun i => code.getD (order.getD (interleaved e qm i % order.length) 0) false)

/-- The coded bits of a codeword in order: G of them where the layers and the modulation divide G. -/
def ldpcCodeword (g : Seg) (bg2 : Bool) (ncb rv gBits nl qm : Nat) (tb : List Bool) : List Bool :=
  (cutBlocks g tb).zipIdx.flatMap (fun (p : List Bool × Nat) =>
    ldpcMatch g bg2 ncb rv (eOf gBits (nl * qm) g.c p.2) qm (ldpcEncode g bg2 p.1))

end Sys2Proof.Machine
end

