-- ==== Sys2Proof/Machine/TurboCode.lean ====
section
/-! DEFINITION. The turbo code (R241): segmentation, rate matching, encoding and max-log-MAP decoding under TS 36.212 clause 5.1.
Its interleaver parameters are the standard's, of which the spec states no number: a free function of Config (log entry 40). -/

namespace Sys2Proof.Machine

/-! ### Turbo segmentation (TS 36.212 clause 5.1.2) -/

/-- The 188 block sizes. -/
def turboSizes : List Nat :=
  (List.range 60).map (fun i => 40 + 8 * i) ++ (List.range 32).map (fun i => 528 + 16 * i)
    ++ (List.range 32).map (fun i => 1056 + 32 * i) ++ (List.range 64).map (fun i => 2112 + 64 * i)

/-- The block sizes of a turbo codeword of `a` bits, in order. -/
def turboBlocks (a : Nat) : List Nat :=
  let b := a + 24
  let c := if b ≤ 6144 then 1 else ceilDiv b 6120
  let b' := if c = 1 then b else b + 24 * c
  let kPlus := (turboSizes.filter (fun k => decide (b' ≤ c * k))).foldl min 6144
  let kMinus := (turboSizes.filter (fun k => decide (k < kPlus))).foldl max 0
  let cMinus := if c = 1 then 0 else (c * kPlus - b') / (kPlus - kMinus)
  List.replicate cMinus kMinus ++ List.replicate (c - cMinus) kPlus

/-- Filler bits of the first block of a turbo codeword of `a` bits. -/
def turboFiller (a : Nat) : Nat :=
  let ks := turboBlocks a
  ks.sum - (a + 24 + (if ks.length = 1 then 0 else 24 * ks.length))

/-! ### The constituent code -/

/-- The feedback bit of a state s = 4 s1 + 2 s2 + s3 on input x. -/
def turboFeed (s : Nat) (x : Bool) : Bool := xor x (xor (bitAt s 1) (bitAt s 0))

/-- The next state. -/
def turboNext (s : Nat) (x : Bool) : Nat := 4 * (turboFeed s x).toNat + s / 2

/-- The parity bit. -/
def turboParity (s : Nat) (x : Bool) : Bool := xor (turboFeed s x) (xor (bitAt s 2) (bitAt s 0))

/-- The input that drives a state toward zero. -/
def turboTail (s : Nat) : Bool := xor (bitAt s 1) (bitAt s 0)

/-- The parity bits of some inputs, and the state reached. -/
def turboRun (xs : List Bool) (s : Nat) : List Bool × Nat :=
  xs.foldl (fun (q : List Bool × Nat) x => (q.1 ++ [turboParity q.2 x], turboNext q.2 x)) ([], s)

/-- The three tail steps of a state: systematic and parity bits. -/
def turboEnd (s : Nat) : List (Bool × Bool) :=
  let s1 := turboNext s (turboTail s)
  let s2 := turboNext s1 (turboTail s1)
  [(turboTail s, turboParity s (turboTail s)), (turboTail s1, turboParity s1 (turboTail s1)),
    (turboTail s2, turboParity s2 (turboTail s2))]

/-- Place i of the internal interleaver of K bits. -/
def turboPlace (k i : Nat) : Nat := ((Config.turboQpp k).1 * i + (Config.turboQpp k).2 * i * i) % k

/-- Where the tail bits lie in the three streams: of the six tail steps, three of each encoder, the systematic bit of step j at
2j and its parity at 2j + 1, stream t takes four. -/
def turboTailAt (t : Nat) : List Nat := [[0, 3, 6, 9], [1, 4, 7, 10], [2, 5, 8, 11]].getD t []

/-- The three coded streams of K + 4 bits each, one after another. -/
def turboEncode (b : List Bool) : List Bool :=
  let k := b.length
  let p1 := turboRun b 0
  let p2 := turboRun ((List.range k).map (fun i => b.getD (turboPlace k i) false)) 0
  let tail := (turboEnd p1.2 ++ turboEnd p2.2).flatMap (fun q => [q.1, q.2])
  let tl := fun (t : Nat) => (turboTailAt t).map (fun j => tail.getD j false)
  b ++ tl 0 ++ p1.1 ++ tl 1 ++ p2.1 ++ tl 2

/-! ### Rate matching (TS 36.212 clause 5.1.4.1) -/

/-- The column order of the sub-block interleaver. -/
def turboColumn (c : Nat) : Nat := bitsNat ((natBits 5 c).reverse)

/-- Position k of the interleaved stream t of D values: its place in the stream, or none for a dummy. -/
def turboSub (d t k : Nat) : Option Nat :=
  let r := ceilDiv d 32
  let at' := if t = 2 then (turboColumn (k / r) + 32 * (k % r) + 1) % (32 * r) else turboColumn (k / r) + 32 * (k % r)
  if at' < 32 * r - d then none else some (t * d + (at' - (32 * r - d)))

/-- The circular buffer of a block of K bits: stream × (K + 4) + place, or none for a dummy. -/
def turboBuffer (k : Nat) : List (Option Nat) :=
  let n := 32 * ceilDiv (k + 4) 32
  (List.range n).map (turboSub (k + 4) 0)
    ++ (List.range n).flatMap (fun i => [turboSub (k + 4) 1 i, turboSub (k + 4) 2 i])

/-- The places sent for a redundancy version, once round from k0: dummies and the filler of streams 0 and 1 are skipped. -/
def turboOrder (k filler rv : Nat) : List Nat :=
  let w := turboBuffer k
  let k0 := ceilDiv (k + 4) 32 * (24 * rv + 2) % max 1 w.length
  (w.drop k0 ++ w.take k0).filterMap (fun q => q.filter (fun p =>
    !(decide (p < filler) || (decide (k + 4 ≤ p) && decide (p < k + 4 + filler)))))

/-- The code blocks of a turbo codeword, the first with its filler in front. -/
def turboCut (a : Nat) (tb : List Bool) : List (List Bool) :=
  let ks := turboBlocks a
  let b := List.replicate (turboFiller a) false ++ crc24a.attach tb
  if ks.length = 1 then [b]
  else ks.zipIdx.map (fun (p : Nat × Nat) =>
    let start := ((ks.take p.2).map (fun k => k - 24)).sum
    let part := (List.range (p.1 - 24)).map (fun i => b.getD (start + i) false)
    crc24b.attach part)

/-- The coded bits of a turbo codeword in order. -/
def turboCodeword (a rv gBits q : Nat) (tb : List Bool) : List Bool :=
  let c := (turboBlocks a).length
  (turboCut a tb).zipIdx.flatMap (fun (p : List Bool × Nat) =>
    let order := turboOrder p.1.length (if p.2 = 0 then turboFiller a else 0) rv
    let code := turboEncode p.1
    (List.range (eOf gBits q c p.2)).map (fun i => code.getD (order.getD (i % order.length) 0) false))

/-- The bits of a transport block with its check, from its decoded code blocks. -/
def turboJoin (a : Nat) (blocks : List (List Bool)) : List Bool :=
  let n := (turboBlocks a).length
  (blocks.flatMap (fun b => if n = 1 then b else b.take (b.length - 24))).drop (turboFiller a)

/-! ### Max-log-MAP decoding -/

/-- Path metrics of the eight states; a state that no path reaches has `far`. -/
def far : Int := -(2 ^ 40)

/-- The metric of a step: a bit that is 1 costs its LLR. -/
def stepCost (x z : Bool) (ls lp : Int) : Int := (if x then -ls else 0) - (if z then lp else 0)

/-- One step forward. -/
def mapForward (a : List Int) (q : Int × Int) : List Int :=
  (List.range 8).map (fun t => ((List.range 8).flatMap (fun s => [false, true].filterMap (fun x =>
    if turboNext s x = t then some (a.getD s far + stepCost x (turboParity s x) q.1 q.2) else none))).foldl max (2 * far))

/-- One step back. -/
def mapBack (b : List Int) (q : Int × Int) : List Int :=
  (List.range 8).map (fun s => ([false, true].map (fun x =>
    b.getD (turboNext s x) far + stepCost x (turboParity s x) q.1 q.2)).foldl max (2 * far))

/-- One tail step back: the input is the one that drives the state toward zero. -/
def mapTail (b : List Int) (q : Int × Int) : List Int :=
  (List.range 8).map (fun s =>
    b.getD (turboNext s (turboTail s)) far + stepCost (turboTail s) (turboParity s (turboTail s)) q.1 q.2)

/-- The LLRs of the inputs of one constituent code, from its systematic and parity values with those of its tail. -/
def mapLlrs (vals tail : List (Int × Int)) : List Int :=
  let start := (List.range 8).map (fun s => if s = 0 then 0 else far)
  let fwd := vals.foldl (fun (l : List (List Int)) q => (mapForward (l.headD start) q) :: l) [start]
  let last := tail.foldr (fun q b => mapTail b q) start
  let bwd := vals.foldr (fun q (l : List (List Int)) => mapBack (l.headD last) q :: l) [last]
  (vals.zip (fwd.reverse.zip (bwd.drop 1))).map (fun p =>
    let best := fun (x : Bool) => ((List.range 8).map (fun s =>
      p.2.1.getD s far + stepCost x (turboParity s x) p.1.1 p.1.2 + p.2.2.getD (turboNext s x) far)).foldl max (4 * far)
    best false - best true)

/-- 3/4 of an extrinsic value; which way a fraction is rounded is free (log entry 40). -/
def turboScale (e : Int) : Int :=
  3 * e / 4 + (if 3 * e % 4 = 0 then 0 else ((Config.turboRound e % 2 : Nat) : Int))

/-- A turbo block at work: its soft values by stream and place, the extrinsic values, and its bits. -/
structure TurboDec where
  soft : List Int
  ext : List Int
  hard : List Bool
  deriving DecidableEq, Repr

/-- One iteration over both constituent codes. -/
def TurboDec.step (k : Nat) (d : TurboDec) : TurboDec :=
  let v := fun (t i : Nat) => d.soft.getD (t * (k + 4) + i) 0
  let tails := (List.range 12).map (fun j => v (j % 3) (k + j / 3))
  let tail := fun (n : Nat) => (List.range 3).map (fun j => (tails.getD (6 * n + 2 * j) 0, tails.getD (6 * n + 2 * j + 1) 0))
  let in1 := (List.range k).map (fun i => (v 0 i + d.ext.getD i 0, v 1 i))
  let e1 := (mapLlrs in1 (tail 0)).zip in1 |>.map (fun p => turboScale (p.1 - p.2.1))
  let in2 := (List.range k).map (fun i => (v 0 (turboPlace k i) + e1.getD (turboPlace k i) 0, v 2 i))
  let l2 := mapLlrs in2 (tail 1)
  let back := fun (f : Nat → Int) => (List.range k).map (fun i => f (((List.range k).map (turboPlace k)).idxOf i))
  ⟨d.soft, back (fun i => turboScale (l2.getD i 0 - (in2.getD i (0, 0)).1)), (back (fun i => l2.getD i 0)).map (fun x => decide (x < 0))⟩

/-- Up to `f` iterations, the first whose bits pass `ok` the last, with how many were run. -/
def TurboDec.run (k : Nat) (ok : List Bool → Bool) : Nat → Nat → TurboDec → TurboDec × Nat
  | 0, n, d => (d, n)
  | f + 1, n, d =>
    let d := d.step k
    if ok d.hard then (d, n + 1) else TurboDec.run k ok f (n + 1) d

/-- One block decoded: its bits and the iterations run. Filler bits are known to be 0. -/
def turboPass (k filler iters : Nat) (ok : List Bool → Bool) (soft : List Int) : List Bool × Nat :=
  let known := soft.zipIdx.map (fun (p : Int × Nat) =>
    if p.2 < filler ∨ (k + 4 ≤ p.2 ∧ p.2 < k + 4 + filler) then 2 ^ 20 else p.1)
  let r := TurboDec.run k ok iters 0 ⟨known, [], []⟩
  (r.1.hard, r.2)

end Sys2Proof.Machine
end

