-- ==== Sys2Proof/Machine/Uplink.lean ====
section
/-! DEFINITION. The uplink front end: steering (R158 to R163), slot buffers (R164, R165), gain (R166 to R168), ARM and
RELEASE (R173, R174). -/

namespace Sys2Proof.Machine

/-! ### Steering entries (R159, R195) -/

def seTarget (x : Nat) : Nat := bits x 100 99
def seCarrier (x : Nat) : Nat := bits x 98 89
def seStream (x : Nat) : Nat := bits x 88 84
def seNbuf (x : Nat) : Nat := bits x 67 65 + 1
def seWidth (x : Nat) : Nat := bits x 64 61 + 1
def seComp (x : Nat) : Bool := bitAt x 60
def sePcfg (x : Nat) : Nat := bits x 59 52

/-- The valid entries of a table of 16-byte entries whose bit 127 is VALID. -/
def validEntries (t : List Byte) : List Nat :=
  ((List.range (t.length / 16)).map (fun i => leAt (16 * i) 16 t)).filter (fun x => bitAt x 127)

/-- Entry p of the preamble table (R196); from 256 on the copies of Summerhouse's watch entries (R516). -/
def State.praCfg (s : State) (p : Nat) : Nat :=
  if p < 256 then leAt (32 * p) 32 (s.dom .praCfgTable 0) else leAt 0 32 (tabGet [] s.sh.cfgs (p - 256))

/-- Units landed per repetition (R194). -/
def praUnits (x : Nat) : Nat :=
  match bits x 243 241 with
  | 0 => 70
  | 1 => if bits x 236 235 = 0 then 12 else if bits x 236 235 = 1 then 48 else 96
  | 2 => if bits x 240 237 = 4 then 12 else 70
  | _ => 4

/-- Repetitions per occasion (R194). -/
def praReps (x : Nat) : Nat :=
  let f := bits x 240 237
  match bits x 243 241 with
  | 0 => [1, 2, 4, 4].getD f 1
  | 1 => [2, 4, 6, 2, 12, 1, 4].getD f 1
  | 2 => [1, 1, 2, 2, 1].getD f 1
  | _ => 1

/-- Where a steering entry lands its sections (R161, R194). -/
structure Land where
  carrier : Nat
  stream : Nat
  /-- Number of slot buffer 0. -/
  key : Nat
  nbuf : Nat
  comp : Bool
  width : Nat
  prbs : Nat
  symbols : Nat
  prbBytes : Nat
  symStride : Nat
  base : Nat
  deriving DecidableEq, Repr

/-- PRB_BYTES (R161). -/
def prbBytesOf (comp : Bool) (w : Nat) : Nat := if comp then 1 + 3 * w else 3 * w

/-- A value rounded up to a multiple of `m`. -/
def roundUp (n m : Nat) : Nat := ceilDiv n m * m

/-- The landing of a steering entry. Time-domain sections count groups of 12 samples (log entry 41). -/
def State.landOf (s : State) (x : Nat) : Land :=
  let pb := prbBytesOf (seComp x) (seWidth x)
  if seTarget x = 1 then
    let p := s.praCfg (sePcfg x)
    ⟨seCarrier x, seStream x, 8 * (768 + sePcfg x), seNbuf x, seComp x, seWidth x, praUnits p, praReps p, pb,
      roundUp (praUnits p * pb) 64, 4096 * bits x 79 68⟩
  else if seTarget x = 2 then
    let stride := 5 * 2 ^ bits x 54 51
    ⟨seCarrier x, seStream x, 8 * seCarrier x, seNbuf x, seComp x, seWidth x, ceilDiv stride 48,
      if bitAt x 50 then 12 else 14, 48, stride, 4096 * bits x 79 68⟩
  else
    ⟨seCarrier x, seStream x, 8 * seCarrier x, seNbuf x, seComp x, seWidth x, bits x 59 51,
      if bitAt x 50 then 12 else 14, pb, roundUp (bits x 59 51 * pb) 64, 4096 * bits x 79 68⟩

/-- SLOT_STRIDE (R161). -/
def Land.slotStride (l : Land) : Nat := roundUp (l.symbols * l.symStride) 4096

/-- The buffer of an absolute slot. -/
def Land.buf (l : Land) (S : Int) : Nat := (S % (l.nbuf : Int)).toNat

/-- Byte offset in the slice at which a PRB lands (R161). -/
def Land.offset (l : Land) (S : Int) (symbol prb : Nat) : Nat :=
  l.base + l.buf S * l.slotStride + symbol * l.symStride + prb * l.prbBytes

/-- A slot buffer. -/
def State.ulBuf (s : State) (k : Nat) : UlBuf := tabGet UlBuf.reset s.ulBufs k

/-- The state with a slot buffer set. -/
def State.setUlBuf (s : State) (k : Nat) (b : UlBuf) : State := { s with ulBufs := tabSet UlBuf.reset s.ulBufs k b }

/-- Whether buffer k holds absolute slot S. -/
def State.holds (s : State) (k : Nat) (S : Int) : Bool := decide ((s.ulBuf k).st ≠ 0) && decide ((s.ulBuf k).slot = S)

/-! ### Steering a frame -/

/-- An entry has the section identity of a frame (R158). -/
def identityOf (f : UlFrame) (x : Nat) : Bool :=
  decide (bits x 126 121 = f.endpoint) && decide (bits x 120 105 = f.eaxc) && decide (bits x 104 101 = f.filter)

/-- The entry that steers a frame (R160): that of the table in force for the slot the frame carries, or of the table a
buffer that already holds the slot keeps. Tables are listed newest first; `limit` is when the next newer one came into
force. -/
def State.findEntry (s : State) (f : UlFrame) (limit : Option Int) : List (Int × List Byte) → Option (Int × Nat × Int)
  | [] => none
  | (tc, t) :: r =>
    match (validEntries t).find? (identityOf f) with
    | none => s.findEntry f (some tc) r
    | some x =>
      let l := s.landOf x
      let S := s.slotOfFrameId l.carrier f.frameId f.subframe f.slotId
      let T := s.slotStart l.carrier S
      if s.holds (l.key + l.buf S) S then
        if (s.ulBuf (l.key + l.buf S)).table = tc then some (tc, x, S) else s.findEntry f (some tc) r
      else if tc ≤ T ∧ limit.all (fun m => decide (T < m)) then some (tc, x, S)
      else s.findEntry f (some tc) r

/-- A section is landed: its bytes stored in the order received, its PRBs marked, PRBs landed twice counted (R161 to
R163); an IDLE buffer is claimed for the slot (R164). In a CLOSED buffer no section lands (log entry 42). -/
def State.landIt (s : State) (l : Land) (tc S : Int) (sec : UlSection) : State :=
  let k := l.key + l.buf S
  let b0 := s.ulBuf k
  let b := if b0.st = 0 then { UlBuf.reset with st := 1, slot := S, table := tc } else b0
  if b.st = 3 then s
  else
    let idx := 16 * l.stream + sec.symbol
    let old := tabGet 0 b.landed idx
    let new := (2 ^ sec.num - 1) * 2 ^ sec.start
    let bytes := (slice 0 (sec.num * l.prbBytes) sec.data).take (l.symStride - sec.start * l.prbBytes)
    let s := (s.storeRmw (terraceBase (s.hallOf l.carrier) + l.offset S sec.symbol sec.start) bytes).1
    (s.setUlBuf k { b with landed := tabSet 0 b.landed idx (old ||| new) }).bumpBy .ulFhDupPrb 0
      (popCount (sec.start + sec.num) (old &&& new))

/-- A section of a steered frame is landed or discarded, under the first condition that fails (R162). -/
def State.landSection (s : State) (l : Land) (tc S : Int) (arrival : Int) (sec : UlSection) : State :=
  let b := s.ulBuf (l.key + l.buf S)
  if s.windowClose l.carrier S sec.symbol ≤ arrival then s.bump .ulFhLate 0
  else if b.st ≠ 0 ∧ b.slot ≠ S then s.bump .ulFhBufBusy 0
  else if sec.rb ∨ l.prbs < sec.start + sec.num ∨ l.symbols ≤ sec.symbol then s.bump .ulFhBadSection 0
  else if sec.comp ≠ (if l.comp then 1 else 0) ∨ sec.width ≠ l.width then s.bump .ulFhBadComp 0
  else s.landIt l tc S sec

/-- An entry of the correlators. -/
def State.praEntry (s : State) (p : Nat) : PraSt := tabGet PraSt.reset s.pra p

/-- The state with a correlator entry set. -/
def State.setPra (s : State) (p : Nat) (x : PraSt) : State := { s with pra := tabSet PraSt.reset s.pra p x }

/-- R199: slot S lies beyond OCC_PER_FRAME occasions of the entry within its frame; the occasions of a frame are the slots in which
accepted jobs of the carrier name one (R194). -/
def State.praOverrun (s : State) (c p : Nat) (S : Int) : Bool :=
  let n : Int := s.slotsPerFrame c
  let earlier := s.praJobs.filter (fun q => decide (q.1 = c) && decide (q.2 / n = S / n) && decide (q.2 < S))
  decide (bits (s.praCfg p) 206 200 ≤ earlier.dedup.length)

/-- The sequence key of a section identity. -/
def seqKey (f : UlFrame) : Nat := (f.endpoint * 65536 + f.eaxc) * 16 + f.filter

/-- R162: a gap in the SEQ_ID of an entry is counted once. -/
def State.checkSeq (s : State) (f : UlFrame) : State :=
  let p := tabGet 0 s.ulSeq (seqKey f)
  let s' := { s with ulSeq := tabSet 0 s.ulSeq (seqKey f) (f.seq % 256 + 1) }
  if p ≠ 0 ∧ f.seq % 256 ≠ p % 256 then s'.bump .ulFhSeqGap 0 else s'

/-- R162, R194: the slot has an accepted uplink job of the carrier; for a correlator entry, one that names a PRACH
occasion. -/
def State.hasUlJob (s : State) (target c : Nat) (S : Int) : Bool :=
  s.ulJobs.contains (c, S) && (decide (target ≠ 1) || s.praJobs.contains (c, S))

/-- Whether this module mirrors to its partner: as primary while PAIRED, and during the copy of JOINING (R546, R547). -/
def State.mirroring (s : State) : Bool :=
  (decide (s.obj .pairState 0 = pairPaired) || decide (s.obj .pairState 0 = pairJoining)) && decide (s.obj .pairRole 0 = 1)

/-- A Dravut frame is sent (R545): it takes the next FSEQ and is kept until it is acknowledged; `acts` wait for that. -/
def State.dravutSend (s : State) (ty : Nat) (payload : List Byte) (acts : List PairAct) : State :=
  let n := s.dravutNext
  ({ s with dravutOut := s.dravutOut ++ [DravutSent.mk ty n payload acts], dravutNext := (n + 1) % 2 ^ 32 }).send
    (.dravut ty n s.dravutExpect (s.objN .pairEpoch 0) payload)

/-- The last of the frames not yet acknowledged takes on another act (acknowledgements are cumulative). -/
def addAct (act : PairAct) : List DravutSent → List DravutSent
  | [] => []
  | [f] => [{ f with acts := f.acts ++ [act] }]
  | f :: g :: r => f :: addAct act (g :: r)

/-- R546: a step is completed, by `k`, once the standby has acknowledged every frame sent; with none outstanding, at
once. -/
def State.afterAck (s : State) (act : PairAct) (k : State → State) : State :=
  if s.dravutOut = [] then k s else { s with dravutOut := addAct act s.dravutOut }

/-- Context-store operations whose completion awaits the standby: the JSEQ of each one's journal entry (R285, R540). -/
def State.ctxWaiting (s : State) : List Nat :=
  s.dravutOut.flatMap (fun f => f.acts.flatMap (fun a => match a with
    | .engine _ 11 jseq _ _ _ _ _ => [jseq]
    | _ => []))

/-- A journal entry is written here, and in a pair sent to the standby in a JOURNAL frame (R536, R546): `act` and what `k`
does wait for the acknowledgement; without a pair, or with `PAIR_MIRROR` 0, `k` follows at once. -/
def State.journalPut (s : State) (kind unitNo ring seq data : Nat) (body : List Byte) (act : PairAct) (k : State → State) :
    State :=
  let e : JEntry := ⟨kind, s.jseqNext, s.objN .pairEpoch 0, (s.unit unitNo).epoch, ring, seq, data, body⟩
  let s := s.journalAppend kind unitNo ring seq data body
  if s.mirroring ∧ s.obj .pairMirror 0 ≠ 0 then s.dravutSend 2 (e.header ++ slice 0 64 body) [act] else k s

/-- A journal entry nothing waits for (R539, R546). -/
def State.journalNote (s : State) (kind unitNo ring seq data : Nat) (body : List Byte) : State :=
  let e : JEntry := ⟨kind, s.jseqNext, s.objN .pairEpoch 0, (s.unit unitNo).epoch, ring, seq, data, body⟩
  let s := s.journalAppend kind unitNo ring seq data body
  if s.mirroring ∧ s.obj .pairMirror 0 ≠ 0 then s.dravutSend 2 (e.header ++ slice 0 64 body) [] else s

/-- MIRROR_MEM frames of at most 4,088 bytes each, the global address before the bytes (R545, R546; log entry 45). -/
def State.mirrorFrames (s : State) (a : Nat) (l : List Byte) : Nat → State
  | 0 => s
  | n + 1 =>
    if l = [] then s
    else (s.dravutSend 3 (beBytes 8 a ++ l.take 4088) []).mirrorFrames (a + 4088) (l.drop 4088) n

/-- A write to DDR that the primary mirrors to the same global addresses of its standby (R546). -/
def State.mirrorMem (s : State) (a : Nat) (l : List Byte) : State :=
  if s.mirroring then s.mirrorFrames a l (l.length / 4088 + 1) else s

/-- R548: with `PAIR_UL_MODE` 1 the primary forwards each frame that reaches its steering stage. -/
def State.forwardUl (s : State) (f : UlFrame) : State :=
  if s.mirroring ∧ s.obj .pairUlMode 0 = 1 then s.dravutSend 4 (f.sections.flatMap (fun x => x.data)) [] else s

/-- UL_FRAME_STEERING (R158 to R163, R199). -/
def execUlFrameSteering (f : UlFrame) (s : State) : Host.Outcome State Fault Refusal :=
  .next <|
    let s := s.forwardUl f
    match s.findEntry f none s.steer with
    | none => s.bump .ulFhNoEntry 0
    | some (tc, x, S) =>
      let l := s.landOf x
      let s := s.checkSeq f
      if !s.hasUlJob (seTarget x) l.carrier S then s.bump .ulFhNoJob 0
      else if seTarget x = 1 then
        if s.praOverrun l.carrier (sePcfg x) S then
          s.bumpBy .praOverruns (bits (s.praCfg (sePcfg x)) 245 244) f.sections.length
        else f.sections.foldl (fun (s : State) sec => s.landSection l tc S f.arrival sec) s
      else f.sections.foldl (fun s sec => s.landSection l tc S f.arrival sec) s

/-! ### Reading the buffers -/

/-- The steering entries of the table that came into force at `tc`. -/
def State.tableAt (s : State) (tc : Int) : List Nat :=
  match s.steer.find? (fun p => decide (p.1 = tc)) with
  | some (_, t) => validEntries t
  | none => []

/-- The table in force for slot S of carrier c, as its time: the newest that came into force by then. -/
def State.tableFor (s : State) (c : Nat) (S : Int) : Int :=
  match s.steer.find? (fun p => decide (p.1 ≤ s.slotStart c S)) with
  | some (tc, _) => tc
  | none => 0

/-- The landing of a stream of a carrier by the table at `tc`, and whether it is time-domain. -/
def State.streamLand (s : State) (tc : Int) (c t : Nat) : Option (Land × Bool) :=
  ((s.tableAt tc).find? (fun x => decide (seCarrier x = c) && decide (seStream x = t) && decide (seTarget x ≠ 1))).map
    (fun x => (s.landOf x, decide (seTarget x = 2)))

/-- NBUF of a carrier: that of its first entry (log entry 41). -/
def State.carrierNbuf (s : State) (tc : Int) (c : Nat) : Nat :=
  match (s.tableAt tc).find? (fun x => decide (seCarrier x = c) && decide (seTarget x ≠ 1)) with
  | some x => seNbuf x
  | none => 1

/-- The number of the buffer that slot S of carrier c uses: the one that holds it, else by the table in force for it. -/
def State.bufOf (s : State) (c : Nat) (S : Int) : Nat :=
  match (List.range 8).find? (fun i => s.holds (8 * c + i) S) with
  | some i => 8 * c + i
  | none => 8 * c + (S % (s.carrierNbuf (s.tableFor c S) c : Int)).toNat

/-- The ARM of a carrier slot. -/
def State.armOf (s : State) (c : Nat) (S : Int) : Option ArmSt :=
  s.arms.find? (fun a => decide (a.carrier = c) && decide (a.slot = S))

/-- The mask of `count` PRBs from `start`. -/
def prbMask (start count : Nat) : Nat := (2 ^ count - 1) * 2 ^ start

/-- PRBs of the mask that symbol k of stream t lacks. A time-domain stream lacks all until the FFT op has transformed the symbol, and
then none. -/
def UlBuf.missing (b : UlBuf) (td : Bool) (t k m : Nat) : Nat :=
  if tabGet 0 b.fftOut (16 * t + k) ≠ 0 then 0
  else popCount 512 m - (if td then 0 else popCount 512 (m &&& tabGet 0 b.landed (16 * t + k)))

/-- Whether stream t of a carrier lands time-domain samples by the table at `tc`. -/
def State.timeDomain (s : State) (tc : Int) (c t : Nat) : Bool :=
  match s.streamLand tc c t with
  | some (_, td) => td
  | none => false

/-- PRBs of the mask that symbol k of stream t lacks in a carrier's slot. -/
def State.lacks (s : State) (c : Nat) (S : Int) (t k m : Nat) : Nat :=
  let b := s.ulBuf (s.bufOf c S)
  b.missing (s.timeDomain b.table c t) t k m

/-- R165, R168: an engine may read symbol k of the armed streams: the gains are set, and its window has closed or all
PRBs in the ARM range have landed. -/
def State.symbolReady (s : State) (a : ArmSt) (streams k : Nat) : Bool :=
  let b := s.ulBuf (s.bufOf a.carrier a.slot)
  (decide (b.st = 2) || decide (b.st = 3))
  && (decide (s.windowClose a.carrier a.slot k ≤ s.now)
      || (maskList 32 (streams &&& a.streams)).all (fun t => decide (s.lacks a.carrier a.slot t k (prbMask a.start a.count) = 0)))

/-- A two's-complement mantissa of w bits. -/
def mantissas (w : Nat) (l : List Byte) : List Int :=
  let v := beNat (slice 0 (3 * w) l)
  (List.range 24).map (fun j => signExt w (v / 2 ^ (24 * w - (j + 1) * w)))

/-- The 24 raw values of a landed PRB (R161, R166): mantissa × 2^exponent. -/
def rawPrb (comp : Bool) (w : Nat) (l : List Byte) : List Int :=
  if comp then (mantissas w (l.drop 1)).map (fun m => m * 2 ^ ((l.headD 0).toNat % 16)) else mantissas w l

/-- The raw values of PRB p of symbol k of a stream in slot S; a time-domain stream is read from its FFT output. -/
def State.readPrb (s : State) (c : Nat) (S : Int) (t k p : Nat) : List Int :=
  let b := s.ulBuf (s.bufOf c S)
  let base := terraceBase (s.hallOf c)
  let o := tabGet 0 b.fftOut (16 * t + k)
  if o ≠ 0 then
    rawPrb false 16 (s.readMem (base + (o - 1) + k * roundUp ((s.carrier c).prbs * 48) 64 + 48 * p) 48)
  else
    match s.streamLand b.table c t with
    | some (l, _) => rawPrb l.comp l.width (s.readMem (base + l.offset S k p) l.prbBytes)
    | none => []

/-- The landed PRBs of symbol k of stream t; those of a transformed symbol of a time-domain stream. -/
def State.landedPrbs (s : State) (c : Nat) (S : Int) (t k : Nat) : List Nat :=
  let b := s.ulBuf (s.bufOf c S)
  if tabGet 0 b.fftOut (16 * t + k) ≠ 0 then List.range (s.carrier c).prbs
  else if s.timeDomain b.table c t then []
  else maskList 512 (tabGet 0 b.landed (16 * t + k))

/-- R168: the value saturates under a gain code: |x| × 2^((gc − 128) / 16) rounds beyond 16 bits. -/
def clips (gc : Nat) (x : Int) : Bool :=
  let m := x.natAbs ^ 16 * 2 ^ (gc + 16)
  if 0 ≤ x then decide (65535 ^ 16 * 2 ^ 128 ≤ m) else decide (65537 ^ 16 * 2 ^ 128 < m)

/-- The gain code of a stream in a buffer; 128 if none is set. -/
def UlBuf.gain (b : UlBuf) (t : Nat) : Nat := if tabGet 0 b.gains t = 0 then 128 else tabGet 0 b.gains t - 1

/-- Whether a read of symbols `syms` and PRBs `start` to `start + count − 1` of some streams saturates (R168). -/
def State.readClips (s : State) (c : Nat) (S : Int) (streams : Nat) (syms : List Nat) (start count : Nat) : Bool :=
  let b := s.ulBuf (s.bufOf c S)
  (maskList 32 streams).any (fun t => syms.any (fun k =>
    (s.landedPrbs c S t k).any (fun p =>
      decide (start ≤ p) && decide (p < start + count) && (s.readPrb c S t k p).any (clips (b.gain t)))))

/-- PRBs of an engine's read that lie in the ARM range and have not landed (R165). -/
def State.readMissing (s : State) (a : ArmSt) (streams : Nat) (syms : List Nat) (start count : Nat) : Nat :=
  let m := prbMask start count &&& prbMask a.start a.count
  ((maskList 32 (streams &&& a.streams)).flatMap (fun t => syms.map (fun k => s.lacks a.carrier a.slot t k m))).sum

/-- An engine has read symbols of a slot: missing PRBs are counted (R165), and the slot's first clip (R168). -/
def State.noteRead (s : State) (h : Nat) (a : ArmSt) (missing : Nat) (clip : Bool) : State :=
  let k := s.bufOf a.carrier a.slot
  let s := s.bumpBy .ulFhMissingPrb h missing
  if clip ∧ (s.ulBuf k).clipped = false then
    (s.setUlBuf k { s.ulBuf k with clipped := true }).bump .ulClipSlots h
  else s

/-! ### Gain (R166, R167) -/

/-- floor(log2(a / b)) of positive numbers. -/
def floorLog2 (a b : Nat) : Int :=
  let k : Int := (Nat.log2 a : Int) - Nat.log2 b
  let ok := if 0 ≤ k then decide (b * 2 ^ k.toNat ≤ a) else decide (b ≤ a * 2 ^ (-k).toNat)
  if ok then k else k - 1

/-- floor(64 × log2(pt / p)) for p = total / n and pt of a target in 1/16 dBFS (R166): the 320th power of pt / p is a
ratio of integers. -/
def gainLog (total n : Nat) (target : Int) : Int :=
  let up := 10 ^ (2 * target).toNat
  let down := 10 ^ (-2 * target).toNat
  floorLog2 (2 ^ 9600 * n ^ 320 * up) (total ^ 320 * down) / 5

/-- The gain code of R166 for a positive power; where 8 × log2 lies within 1/8 of a half-integer the rounding is free. -/
def gainCode (total n : Nat) (target : Int) (freeBit : Nat) : Nat :=
  let x := gainLog total n target
  let m := x / 8
  let f := x % 8
  let r := if f ≤ 2 then m else if 5 ≤ f then m + 1 else m + (freeBit % 2 : Nat)
  (max 0 (min 255 (128 + r))).toNat

/-- The total power and number of resource elements of some PRBs. -/
def powerOf (prbs : List (List Int)) : Nat × Nat :=
  ((prbs.map (fun v => (v.map (fun x => x.natAbs * x.natAbs)).sum)).sum, 12 * prbs.length)

/-- The gain code of a stream measured on GREF, and whether the fallback was taken (R166, R167). -/
def State.measureGain (s : State) (c : Nat) (S : Int) (t gref : Nat) : Nat × Bool :=
  if s.objAt (s.slotStart c S) .ulGainMode c = 1 then ((s.objAt (s.slotStart c S) .ulGainFixed c).toNat, false)
  else
    let p := powerOf ((s.landedPrbs c S t gref).map (fun q => s.readPrb c S t gref q))
    if p.1 = 0 then
      let g := tabGet 0 s.ulPrev (32 * c + t)
      (if g = 0 then 128 else g - 1, true)
    else (gainCode p.1 p.2 (s.objAt (s.slotStart c S) .ulGainTarget c) (Config.freeOf 7 [s.freeCtr, t]), false)

/-- GREF can be measured (R166). -/
def State.grefReady (s : State) (a : ArmSt) : Bool :=
  let b := s.ulBuf (s.bufOf a.carrier a.slot)
  let tc := if s.holds (s.bufOf a.carrier a.slot) a.slot then b.table else s.tableFor a.carrier a.slot
  (maskList 32 a.streams).all (fun t =>
    match s.streamLand tc a.carrier t with
    | some (_, true) => decide (tabGet 0 b.fftOut (16 * t + a.gref) ≠ 0)
    | _ => decide (s.windowClose a.carrier a.slot a.gref ≤ s.now)
        || (s.holds (s.bufOf a.carrier a.slot) a.slot && decide (b.missing false t a.gref (prbMask a.start a.count) = 0)))

/-- The gains of a slot are set and frozen (R166, R167): the buffer, claimed for the slot if it was IDLE, enters GAINED,
the 32 codes are written at GC_OUT and the ARM completes with the lowest and highest code (R173). -/
def State.setGains (s : State) (h : Nat) (r : EngRun) (a : ArmSt) : State :=
  let k := s.bufOf a.carrier a.slot
  let b0 := s.ulBuf k
  let b := if b0.st = 0 then { UlBuf.reset with slot := a.slot, table := s.tableFor a.carrier a.slot } else b0
  let ts := maskList 32 a.streams
  let codes := ts.map (fun t => (t, s.measureGain a.carrier a.slot t a.gref))
  let gains := codes.foldl (fun g p => tabSet 0 g p.1 (p.2.1 + 1)) []
  let prev := codes.foldl (fun g p => tabSet 0 g (32 * a.carrier + p.1) (p.2.1 + 1)) s.ulPrev
  let out := (List.range 32).map (fun t =>
    if bitAt a.streams t then BitVec.ofNat 8 (tabGet 0 gains t - 1) else BitVec.ofNat 8 (Config.freeOf 6 [s.freeCtr, t]))
  let vals := codes.map (fun p => p.2.1)
  let cycles := if s.objAt (s.slotStart a.carrier a.slot) .ulGainMode a.carrier = 1 then 0 else 2 * ts.length * a.count
  let s := s.bumpBy .ulGainFallback h (codes.filter (fun p => p.2.2)).length
  let s := { s.setUlBuf k { b with st := 2, gains := gains } with ulPrev := prev }
  let s := (s.engWrite h a.gcOut out).freeUsed
  s.finishRun h 0 r.desc ⟨0, false, false, cycles, vals.foldl min 255, vals.foldl max 0⟩

/-- UL_GAIN_SET (R166, R167, R173): the ARM the front end of hall h executes has its gains set once GREF can be
measured. If its slot was released first, or its buffer still holds another slot then, it completes NO_SLOT. -/
def execUlGainSet (h : Fin 16) (s : State) : Host.Outcome State Fault Refusal :=
  .next <|
    match s.engRun h 0 with
    | some r =>
      if dOp r.desc ≠ 1 then s
      else
        let c := dCarrier r.desc
        match s.arms.find? (fun a => decide (a.carrier = c) && decide (s.sameSlot r.desc c a.slot)) with
        | none => s.finishRun h 0 r.desc (Result.only 3)
        | some a =>
          if !s.grefReady a then s
          else
            let b := s.ulBuf (s.bufOf c a.slot)
            if b.st ≠ 0 ∧ b.slot ≠ a.slot then
              ({ s with arms := s.arms.filter (fun x => decide (x ≠ a)) }).finishRun h 0 r.desc (Result.only 3)
            else s.setGains h r a
    | none => s

/-- UL_WINDOW_CLOSE (R164): once the window of the last armed symbol has closed, a GAINED buffer enters CLOSED. -/
def execUlWindowClose (k : Fin 6144) (s : State) : Host.Outcome State Fault Refusal :=
  .next <|
    let b := s.ulBuf k
    let c := k.val / 8
    match s.armOf c b.slot with
    | some a =>
      let last := (maskList 14 a.symbols).foldl max 0
      if b.st = 2 ∧ s.windowClose c b.slot last ≤ s.now then s.setUlBuf k { b with st := 3 } else s
    | none => s

/-! ### ARM and RELEASE -/

/-- The fields of an ARM (R173). -/
def armFields (d : Nat) (c : Nat) (S : Int) : ArmSt :=
  ⟨c, S, bits d 159 128, bits d 177 164, bits d 181 178, bits d 190 182, bits d 199 191, bits d 223 200⟩

/-- NUM_PRB of a carrier: that of its first frequency-domain entry, else as configured. -/
def State.numPrb (s : State) (c : Nat) (S : Int) : Nat :=
  match (s.tableAt (s.tableFor c S)).find? (fun x => decide (seCarrier x = c) && decide (seTarget x = 0)) with
  | some x => bits x 59 51
  | none => (s.carrier c).prbs

/-- An ARM's fields are in range and its carrier is in the hall. -/
def State.armOk (s : State) (h d : Nat) : Bool :=
  let a := armFields d (dCarrier d) (s.descSlot d)
  s.slotFieldsOk d && decide (s.hallOf a.carrier = h) && decide (a.streams ≠ 0) && bitAt a.symbols a.gref
  && decide (a.symbols < 2 ^ s.symbolsPerSlot a.carrier) && decide (1 ≤ a.count)
  && decide (a.start + a.count ≤ s.numPrb a.carrier a.slot) && inSlice a.gcOut 32

/-- ARM (R173): the front end expects the streams, symbols and PRBs of one carrier slot, and executes the descriptor
until the gains are set. A second ARM of the slot is BAD_DESC; a slot already released is NO_SLOT (R174). -/
def State.armTaken (s : State) (h : Nat) (r : EngRun) : State :=
  let c := dCarrier r.desc
  let S := s.descSlot r.desc
  if !s.armOk h r.desc ∨ (s.armOf c S).isSome then s.finishHead h 0 r.desc (Result.only 2)
  else if (s.ulBuf (s.bufOf c S)).st = 0 ∧ (s.ulBuf (s.bufOf c S)).slot = S then s.finishHead h 0 r.desc (Result.only 3)
  else
    let s := (s.engPop h 0).setEngRun h 0 (some r)
    { s with arms := s.arms ++ [armFields r.desc c S] }

/-- ARM (R173). -/
def execArm (h : Fin 16) (s : State) : Host.Outcome State Fault Refusal :=
  .next (s.takeHead h 0 [1] (fun r s => s.armTaken h r))

/-- A DEC's last pass is over (R246): its failed blocks and its failed transport block are counted. -/
def State.workFinal (s : State) (w : HarqWork) : State :=
  if w.kind = 0 then
    (s.bumpBy .decBlocksFailed w.hall (w.passed.filter (fun p => !p)).length).bumpIf (!(w.tbOk && w.passed.all id)) .decTbFailed w.hall
  else s

/-- A carrier slot is released (R164, R165, R231): its buffer enters IDLE, its ARM and LLR regions are gone, and its
stores become due. -/
def State.releaseSlot (s : State) (k c : Nat) (S : Int) : State :=
  let s := s.setUlBuf k { UlBuf.reset with slot := S }
  let mine := fun (w : HarqWork) => decide (w.carrier = c) && decide (w.slot = S)
  let s := (s.harq.filter (fun w => mine w && w.complete && !w.released)).foldl (fun (s : State) w => s.workFinal w) s
  { s with
    arms := s.arms.filter (fun a => !(decide (a.carrier = c) && decide (a.slot = S)))
    llrDone := s.llrDone.filter (fun a => !(decide (a.carrier = c) && decide (a.slot = S)))
    harq := (s.harq.map (fun w => if mine w then { w with released := true } else w)).filter
      (fun w => !(mine w && w.complete && !bitAt w.desc 308)) }

/-- Whether a store of the slot is still due in the hall (R231, R232). -/
def State.storesDue (s : State) (h c : Nat) (S : Int) : Bool :=
  s.harq.any (fun w => decide (w.hall = h) && decide (w.carrier = c) && decide (w.slot = S) && bitAt w.desc 308)

/-- R546: what waits for the standby's acknowledgement of HARQ slots, halves and commit words is the RELEASE
completion; without a standby it is sent at once. -/
def State.releaseDone (s : State) (h : Nat) (r : EngRun) : State :=
  s.afterAck (.engine h 0 r.off r.desc 0 0 0 0) (fun s => s.finishRun h 0 r.desc (Result.only 0))

/-- RELEASE (R174, R232): it waits for every earlier descriptor of the slot, frees the buffer, and completes once the
commit words of the slot are written. -/
def State.releaseTaken (s : State) (h : Nat) (r : EngRun) : State :=
  let c := dCarrier r.desc
  let S := s.descSlot r.desc
  if !s.slotFieldsOk r.desc then s.finishHead h 0 r.desc (Result.only 2)
  else if s.earlierWork h r.stamp c S then s
  else if !s.holds (s.bufOf c S) S then s.finishHead h 0 r.desc (Result.only 3)
  else
    let s := (s.engPop h 0).releaseSlot (s.bufOf c S) c S
    let s := s.setEngRun h 0 (some r)
    if s.storesDue h c S then s else s.releaseDone h r

/-- UL_RELEASE (R174). -/
def execUlRelease (h : Fin 16) (s : State) : Host.Outcome State Fault Refusal :=
  .next (s.takeHead h 0 [2] (fun r s => s.releaseTaken h r))

/-- The carrier of a buffer number: of its correlator entry from 6,144 on. -/
def State.bufCarrier (s : State) (k : Nat) : Nat := if k < 6144 then k / 8 else bits (s.praCfg (k / 8 - 768)) 255 246

/-- UL_RELEASE_AT_DEADLINE (R165): at the carrier's uplink deadline a buffer not yet released is released. -/
def execUlReleaseAtDeadline (k : Fin 8192) (s : State) : Host.Outcome State Fault Refusal :=
  .next <|
    let b := s.ulBuf k
    let c := s.bufCarrier k
    if b.st ≠ 0 ∧ s.ulDeadline c b.slot ≤ s.now then
      let s := s.bump .ulReleaseAtDeadline (s.hallOf c)
      if k.val < 6144 then s.releaseSlot k c b.slot else s.setUlBuf k { b with st := 0 }
    else s

end Sys2Proof.Machine
end

