-- ==== Sys2Proof/Machine/CodingOps.lean ====
section
/-! DEFINITION. Segmentation and rate matching of the codecs (R217, R224, R241), the soft-value store of HARQ (R225 to
R231) and the decoder's backlog (R221, R223). -/

namespace Sys2Proof.Machine

/-! ### DEC fields (R218) -/

def decTbs (d : Nat) : Nat := bits d 387 367
def decBg2 (d : Nat) : Bool := bitAt d 366
def decRv (d : Nat) : Nat := bits d 365 364
def decQm (d : Nat) : Nat := bits d 363 360
def decNl (d : Nat) : Nat := bits d 359 357
def decG (d : Nat) : Nat := bits d 356 336
def decProc (d : Nat) : Nat := bits d 407 388
def decStatusOut (d : Nat) : Nat := bits d 479 456
def decLlrIn (d : Nat) : Nat := bits d 455 432
def decTbOut (d : Nat) : Nat := bits d 431 408
def decMaxIters (d : Nat) : Nat := bits d 313 310
def decNewData (d : Nat) : Bool := bitAt d 309
def decStore (d : Nat) : Bool := bitAt d 308
def decWait (d : Nat) : Bool := bitAt d 307
def decSeg (d : Nat) : Seg := ldpcSeg (decTbs d) (decBg2 d)
def decNcb (d : Nat) : Nat := ncbOf (decSeg d) (bitAt d 335) (bits d 334 314)

/-- Turbo TBS (R241). -/
def turTbs (d : Nat) : Nat := bits d 387 369

/-- Offset in the codeword of block r's LLRs. -/
def eStart (g q c r : Nat) : Nat := ((List.range r).map (eOf g q c)).sum

/-- CYC_ITER (R221). -/
def cycIter (bg2 : Bool) (zc : Nat) : Nat := ceilDiv ((if bg2 then 197 else 316) * zc) 1152 + 4

/-- CYC_ITER of a DEC. -/
def decCyc (d : Nat) : Nat := cycIter (decBg2 d) (decSeg d).zc

/-! ### Codewords of DEC and TURBO alike -/

/-- Blocks C of a DEC (kind 0) or TURBO (kind 1). -/
def workBlocks (kind d : Nat) : Nat := if kind = 1 then (turboBlocks (turTbs d)).length else (decSeg d).c

/-- NCB as a half header holds it (R228). -/
def workNcb (kind d : Nat) : Nat := if kind = 1 then 3 * (turboBlocks (turTbs d)).foldl max 0 + 12 else decNcb d

/-- TBS as a half header holds it. -/
def workTbs (kind d : Nat) : Nat := if kind = 1 then turTbs d else decTbs d

/-- The header of a half for this codeword (R228). -/
def headerFor (kind d : Nat) : Nat :=
  kind * 2 ^ 63 + (if kind = 0 ∧ decBg2 d then 2 ^ 62 else 0) + workNcb kind d * 2 ^ 47 + workBlocks kind d * 2 ^ 39
    + workTbs kind d * 2 ^ 18

/-! ### Process table and pool (R226 to R229) -/

/-- Global address of process p's entry. -/
def State.procAddr (s : State) (p : Nat) : Nat := s.objN .harqProcBase 0 + 2048 * p

/-- The commit word of a process (R227). -/
def State.commitWord (s : State) (p : Nat) : Nat := s.memNat (s.procAddr p) 8

/-- The tag of a descriptor as a commit word carries it: SFN, slot, carrier (R227). -/
def tagOf (d : Nat) : Nat := dSfn d * 2 ^ 18 + dSlot d * 2 ^ 10 + dCarrier d

/-- A half header (R228). -/
def State.halfHeader (s : State) (p m : Nat) : Nat := s.memNat (s.procAddr p + 1024 * m + 8) 8

/-- Block entry b of half m (R228). -/
def State.blockEntry (s : State) (p m b : Nat) : Nat := s.memNat (s.procAddr p + 1024 * m + 16 + 4 * b) 4

/-- A HARQ engine's write to DDR, mirrored in a pair (R546). -/
def State.harqWrite (s : State) (a : Nat) (l : List Byte) : State := (s.store a l).mirrorMem a l

/-- The number of allocated slots shown (R244). -/
def State.poolShow (s : State) : State :=
  let used := s.harqPool.length
  let free := s.objN .harqPoolSlots 0 - used
  let s := s.setObj .harqPoolUsed 0 used
  s.setObj .harqPoolLow 0 (min (s.obj .harqPoolLow 0) (free : Nat))

/-- The entries of one half are made invalid and their slots freed; how many were freed. -/
def State.freeHalf (s : State) (p m : Nat) : Nat → State × Nat
  | 0 => (s, 0)
  | b + 1 =>
    let r := s.freeHalf p m b
    let e := r.1.blockEntry p m b
    if bitAt e 31 then
      (({ r.1 with harqPool := tabSet 0 r.1.harqPool (bits e 23 0) 0 }).harqWrite
        (r.1.procAddr p + 1024 * m + 16 + 4 * b) (leBytes 4 0), r.2 + 1)
    else r

/-- A commit word is written (R227); `HARQ_PROCS_VALID` follows. -/
def State.setCommit (s : State) (p w : Nat) : State :=
  let was := bitAt (s.commitWord p) 63
  let now := bitAt w 63
  let s := s.harqWrite (s.procAddr p) (leBytes 8 w)
  s.setObj .harqProcsValid 0 (s.obj .harqProcsValid 0 + (if now then 1 else 0) - (if was then 1 else 0))

/-- Both halves freed and VALID cleared (R231, R235); how many slots were freed. -/
def State.freeProc (s : State) (p : Nat) : State × Nat :=
  let r0 := s.freeHalf p 0 252
  let r1 := r0.1.freeHalf p 1 252
  let w := r1.1.commitWord p
  ((r1.1.setCommit p (if bitAt w 63 then w - 2 ^ 63 else w)).poolShow, r0.2 + r1.2)

/-- The lowest free slot of the pool (log entry 43). -/
def State.allocSlot (s : State) : Option Nat :=
  (List.range (s.objN .harqPoolSlots 0)).find? (fun k => decide (tabGet 0 s.harqPool k = 0))

/-- A nibble of a stored block (R229): −8 reads as −7. -/
def nibbleValue (q : Nat) : Int := max (-7) (signExt 4 q)

/-- Lines a stored block occupies (R229). -/
def storedLines (ncb : Nat) : Nat := ceilDiv ncb 128

/-- The prior soft values of a block, from its entry (R229). -/
def State.priorValues (s : State) (e ncb : Nat) : List Int :=
  let l := s.readMem (s.objN .harqPoolBase 0 + 12672 * bits e 23 0) (64 * storedLines ncb)
  (List.range ncb).map (fun j =>
    nibbleValue (((l.getD (j / 2) 0).toNat) / 16 ^ (j % 2) % 16) * 2 ^ bits e 30 28)

/-- The combined value of each position (R225). -/
def combine (prior new : List Int) : List Int := List.zipWith (fun p n => max (-127) (min 127 (p + n))) prior new

/-- The compression shift (R229). -/
def shiftOf (v : List Int) : Nat → Nat → Nat
  | 0, s => s
  | f + 1, s =>
    if v.length < 64 * (v.filter (fun x => decide (15 * 2 ^ s < 2 * x.natAbs))).length then shiftOf v f (s + 1) else s

/-- The stored lines of a block under shift s (R229): two nibbles a byte, the even position low. -/
def packSoft (v : List Int) (s : Nat) : List Byte :=
  let q := fun (j : Nat) => toField 4 (max (-7) (min 7 (roundHalfEven (v.getD j 0) s)))
  (List.range (64 * storedLines v.length)).map (fun i => BitVec.ofNat 8 (q (2 * i) + 16 * q (2 * i + 1)))

/-- The LLRs of block r at LLR_IN. -/
def State.blockLlrs (s : State) (h d r : Nat) : List Int :=
  let q := decNl d * decQm d
  let c := (decSeg d).c
  (s.readMem (terraceBase h + decLlrIn d + eStart (decG d) q c r) (eOf (decG d) q c r)).map (fun b => b.toInt)

/-- The prior of block r under half p (R230), and whether it was lost to an uncorrectable read (R243). -/
def State.blockPrior (s : State) (d half ncb r : Nat) : Option (List Int) × Bool :=
  if half = 0 then (none, false)
  else
    let e := s.blockEntry (decProc d) (half - 1) r
    if !bitAt e 31 then (none, false)
    else if s.anyPoison (s.objN .harqPoolBase 0 + 12672 * bits e 23 0) (8 * storedLines ncb) then (none, true)
    else (some (s.priorValues e ncb), false)

/-- The words of a stored block read by demand (R325, R326). -/
def State.readPrior (s : State) (d half ncb r : Nat) : State :=
  if half = 0 then s
  else
    let e := s.blockEntry (decProc d) (half - 1) r
    if bitAt e 31 then s.demandWords (s.objN .harqPoolBase 0 + 12672 * bits e 23 0) 0 (8 * storedLines ncb) else s

/-- The LLRs of block r of a turbo codeword. -/
def State.turboLlrs (s : State) (h d r : Nat) : List Int :=
  let q := decNl d * decQm d
  let c := (turboBlocks (turTbs d)).length
  (s.readMem (terraceBase h + decLlrIn d + eStart (decG d) q c r) (eOf (decG d) q c r)).map (fun b => b.toInt)

/-- The new soft values of block r (R224, R241): its LLRs deinterleaved and placed in the circular buffer; of a turbo block by stream
and place (log entry 102), up to NCB. -/
def State.newSoft (s : State) (kind h d r : Nat) : List Int :=
  if kind = 0 then
    let l := s.blockLlrs h d r
    placeSoft (decNcb d) (ldpcOrder (decSeg d) (decBg2 d) (decNcb d) (decRv d))
      ((List.range l.length).map (fun i => l.getD (deinterleaved l.length (decQm d) i) 0))
  else
    placeSoft (workNcb 1 d)
      (turboOrder ((turboBlocks (turTbs d)).getD r 40) (if r = 0 then turboFiller (turTbs d) else 0) (decRv d)) (s.turboLlrs h d r)

/-- The combined soft values of a block (R225) under the prior half chosen. -/
def State.softValues (s : State) (kind h d half r : Nat) : List Int :=
  let ncb := workNcb kind d
  combine (((s.blockPrior d half ncb r).1).getD (List.replicate ncb 0)) (s.newSoft kind h d r)

/-- The lines stored for block r and their shift (R225, R229). -/
def State.storedBlock (s : State) (w : HarqWork) (r : Nat) : List Byte × Nat :=
  let v := s.softValues w.kind w.hall w.desc w.prior r
  (packSoft v (shiftOf v 4 0), shiftOf v 4 0)

/-- A half's block entry is written. -/
def State.setEntry (s : State) (p m b e : Nat) : State := s.harqWrite (s.procAddr p + 1024 * m + 16 + 4 * b) (leBytes 4 e)

/-- A bit is set in a block's status entry (R219). -/
def State.markStatus (s : State) (h d r bit : Nat) : State :=
  let a := decStatusOut d + 8 * r
  s.engWrite h a (leBytes 8 (s.memNat (terraceBase h + a) 8 ||| 2 ^ bit))

/-- NOT_STORED is set in a block's status entry and counted (R219, R231). -/
def State.notStored (s : State) (h d r : Nat) : State := (s.markStatus h d r 61).bump .harqNotStored h

/-- PRIOR_LOST is set in a block's status entry and counted, unless it was before (R243). -/
def State.priorLost (s : State) (h d r : Nat) : State :=
  if bitAt (s.memNat (terraceBase h + decStatusOut d + 8 * r) 8) 60 then s else (s.markStatus h d r 60).bump .harqPriorLost h

/-- The blocks of a work stored into half n, one after another (R231); those of `bad` meet an uncorrectable error while their slot is
written, so their entry stays invalid and the slot free (R243). -/
def State.storeBlocks (s : State) (w : HarqWork) (bad : List Nat) (n : Nat) : Nat → State
  | 0 => s
  | b + 1 =>
    let s := s.storeBlocks w bad n b
    let p := decProc w.desc
    if w.passed.getD b false ∧ w.tbOk then s.setEntry p n b 0
    else
      let l := s.storedBlock w b
      let lost := (s.blockPrior w.desc w.prior (workNcb w.kind w.desc) b).2
      let s := s.readPrior w.desc w.prior (workNcb w.kind w.desc) b
      let s := if lost then s.priorLost w.hall w.desc b else s
      match s.allocSlot with
      | none => (s.setEntry p n b 0).notStored w.hall w.desc b
      | some k =>
        if bad.contains b then (s.setEntry p n b 0).notStored w.hall w.desc b
        else
          let s := { s with harqPool := tabSet 0 s.harqPool k 1 }
          let s := (s.harqWrite (s.objN .harqPoolBase 0 + 12672 * k) l.1).bump .harqStores w.hall
          (s.setEntry p n b (2 ^ 31 + l.2 * 2 ^ 28 + k)).poolShow

/-- R231: a work's store. -/
def State.storeWork (s : State) (w : HarqWork) (bad : List Nat) : State :=
  let p := decProc w.desc
  let cw := s.commitWord p
  let all := w.passed.all id
  if bitAt cw 63 ∧ bits cw 61 34 = tagOf w.desc then s
  else if all ∧ w.tbOk then (s.freeProc p).1
  else
    let s := if all then s.bump .decTbCrcOnly w.hall else s
    let n := if bitAt cw 63 then 1 - bits cw 62 62 else 0
    let s := ((s.freeHalf p n 252).1).storeBlocks w bad n (workBlocks w.kind w.desc)
    let s := s.harqWrite (s.procAddr p + 1024 * n + 8) (leBytes 8 (headerFor w.kind w.desc))
    (s.setCommit p (2 ^ 63 + n * 2 ^ 62 + tagOf w.desc * 2 ^ 34)).poolShow

/-- R234: a process is in use. -/
def State.procInUse (s : State) (p : Nat) : Bool :=
  s.harq.any (fun w => decide (decProc w.desc = p) && (!w.complete || decStore w.desc))

/-- The prior half of a DEC or TURBO at its take, plus one, with R230's counts; 0 for none. -/
def State.choosePrior (s : State) (h kind d : Nat) : State × Nat :=
  if decNewData d then (s, 0)
  else
    let w := s.commitWord (decProc d)
    if !bitAt w 63 then (s.bump .harqNoPrior h, 0)
    else
      let active := bits w 62 62
      let p := if bits w 61 34 = tagOf d then 1 - active else active
      if s.halfHeader (decProc d) p ≠ headerFor kind d ∨ bits w 43 34 ≠ dCarrier d then (s.bump .harqMismatch h, 0)
      else (s, p + 1)

/-! ### Status entries and backlog -/

/-- A block status entry (R219). -/
def statusEntry (pass combined lost : Bool) (iters cyc passAt unsat : Nat) : Nat :=
  (if pass then 2 ^ 63 else 0) + (if combined then 2 ^ 62 else 0) + (if lost then 2 ^ 60 else 0) + iters * 2 ^ 56
    + cyc * 2 ^ 44 + passAt * 2 ^ 42 + unsat

/-- Cycles of blocks of a DEC not yet decoded, at most (R223). -/
def decCost (d done : Nat) : Nat := ((decSeg d).c - done) * (8 + decMaxIters d * decCyc d)

/-- `DEC_BACKLOG` (R223). -/
def State.decBacklog (s : State) (h : Nat) : Nat :=
  ((tabGet [] (s.sch h).engq 0xF4).map (fun p =>
    let d := s.readDesc h (bits p.2 23 0)
    if offOk p.2 ∧ dOp d = 8 then decCost d 0 else 0)).sum
  + (match s.engRun h 4 with
    | some r =>
      let done := match s.harq.find? (fun w => decide (w.hall = h) && decide (w.desc = r.desc) && !w.complete) with
        | some w => w.passed.length
        | none => 0
      decCost r.desc done
    | none => 0)

/-- The state with one work replaced. -/
def State.setWork (s : State) (w w' : HarqWork) : State :=
  { s with harq := s.harq.map (fun x => if x = w then w' else x) }

/-! ### One pass over one block -/

/-- What one pass over a block gave (R219, R220): its bits, iterations, checks unsatisfied, whether it passed, and whether its check
failed though every parity check held. -/
structure PassResult where
  bits : List Bool
  iters : Nat
  unsat : Nat
  pass : Bool
  after : Bool
  deriving DecidableEq, Repr

/-- A pass of the LDPC decoder over a block of a DEC (R217, R220). -/
def ldpcResult (d iters : Nat) (soft : List Int) : PassResult :=
  let g := decSeg d
  let r := ldpcPass g (decBg2 d) iters soft
  let crc := if g.c = 1 then (tbCrc (decTbs d)).holds (r.1.take (decTbs d + (tbCrc (decTbs d)).len)) else crc24b.holds r.1
  ⟨r.1, r.2.1, r.2.2, if g.c = 1 then crc else decide (r.2.2 = 0) && crc, decide (1 < g.c) && decide (r.2.2 = 0) && !crc⟩

/-- Decoding of block b of a TURBO (R241): it stops early once the block's check, or of a single block the transport block's, holds. -/
def turboResult (d b iters : Nat) (soft : List Int) : PassResult :=
  let ks := turboBlocks (turTbs d)
  let filler := if b = 0 then turboFiller (turTbs d) else 0
  let ok := fun (l : List Bool) => if ks.length = 1 then crc24a.holds (l.drop filler) else crc24b.holds l
  let r := turboPass (ks.getD b 40) filler iters ok soft
  ⟨r.1, r.2, 0, ok r.1, false⟩

/-- A pass over block b of a descriptor with at most `iters` iterations, its LLRs as they stand and under a prior half. -/
def State.passBlock (s : State) (kind h d half b iters : Nat) : PassResult :=
  let soft := s.softValues kind h d half b
  if kind = 0 then ldpcResult d iters soft else turboResult d b iters soft

/-- The bits of a decoded transport block with its check. -/
def workBits (kind d : Nat) (blocks : List (List Bool)) : List Bool :=
  if kind = 0 then joinBlocks (decSeg d) (decTbs d) blocks else turboJoin (turTbs d) blocks

/-- The check of a decoded transport block holds (R217, R241). -/
def workTbOk (kind d : Nat) (blocks : List (List Bool)) : Bool :=
  (if kind = 0 then tbCrc (decTbs d) else crc24a).holds (workBits kind d blocks)

/-- The decoded transport block is written to TB_OUT, whether or not it passed (R220). -/
def State.writeTb (s : State) (kind h d : Nat) (blocks : List (List Bool)) : State :=
  s.engWrite h (decTbOut d) (packBits ((List.range (workTbs kind d)).map (fun i => (workBits kind d blocks).getD i false)))

/-- Blocks counted toward `DEC_AVG_ITERS` (R245). -/
def State.noteIters (s : State) (h iters : Nat) : State :=
  let l := (iters :: tabGet [] s.decIters h).take 4096
  ({ s with decIters := tabSet [] s.decIters h l }).setObj .decAvgIters h ((l.sum * 256 / l.length : Nat) : Int)

end Sys2Proof.Machine
end

