-- ==== Sys2Proof/Machine/Numerics.lean ====
section
/-! DEFINITION. Numbers that are not integers: levels in 1/16 dB (R200, R268), and sines, cosines and transforms held as integers with
a fixed number of binary places (R183, R265, R268). The rules state real numbers; they are computed to far more places than a result
has (log entry 103). -/

namespace Sys2Proof.Machine

/-! ### Levels -/

/-- Whether 160 × log10(a / b) reaches m. -/
def dbReached (a b : Nat) (m : Int) : Bool :=
  if 0 ≤ m then decide (b ^ 160 * 10 ^ m.toNat ≤ a ^ 160) else decide (b ^ 160 ≤ a ^ 160 * 10 ^ (-m).toNat)

/-- The greatest of the 2^k values from m on that is reached. -/
def dbSearch (a b : Nat) : Nat → Int → Int
  | 0, m => m
  | k + 1, m => dbSearch a b k (if dbReached a b (m + 2 ^ k) then m + 2 ^ k else m)

/-- a / b in 1/16 dB, rounded down. -/
def db16 (a b : Nat) : Int := dbSearch a b 13 (-4096)

/-! ### Rotations -/

/-- 2π with 160 binary places. -/
def twoPi : Int := 0x6487ed5110b4611a62633145c06e0e68948127044

/-- The Taylor series of a cosine from term t of degree 2k on, x² and the terms with 160 binary places. -/
def cosSeries (xx : Int) : Nat → Nat → Int → Int
  | 0, _, _ => 0
  | f + 1, k, t => t + cosSeries xx f (k + 1) (-(t * xx / 2 ^ 160) / (((2 * k + 1) * (2 * k + 2) : Nat) : Int))

/-- cos(2π a / n) with 128 binary places. -/
def cosFix (a n : Nat) : Int :=
  let x := twoPi * ((a % n : Nat) : Int) / (n : Int)
  cosSeries (x * x / 2 ^ 160) 48 0 (2 ^ 160) / 2 ^ 32

/-- sin(2π a / n) with 128 binary places. -/
def sinFix (a n : Nat) : Int := cosFix (4 * a + 3 * n) (4 * n)

/-- A complex sample. -/
abbrev Cplx := Int × Int

/-- x turned by a / n of a circle, forward or back, with 128 more binary places. -/
def turn (x : Cplx) (a n : Nat) (back : Bool) : Cplx :=
  let c := cosFix a n
  let d := if back then -sinFix a n else sinFix a n
  (x.1 * c - x.2 * d, x.1 * d + x.2 * c)

/-- One output of a transform of n points: the sum of x(i) turned by i × b / n of a circle, with 128 binary places. -/
def transform (xs : List Cplx) (n b : Nat) (back : Bool) : Cplx :=
  xs.zipIdx.foldl (fun (z : Cplx) p => let w := turn p.1 (p.2 * b % n) n back; (z.1 + w.1, z.2 + w.2)) (0, 0)

/-- A number with 128 binary places brought to 40, to the nearest. -/
def snap (v : Int) : Int := (v + 2 ^ 87) / 2 ^ 88

/-- A number with 40 binary places brought to an integer where the spec states no rounding: one of the two integers next to it, which
one is free. -/
def nearFree (v : Int) (bit : Nat) : Int := v / 2 ^ 40 + (if v % 2 ^ 40 = 0 then 0 else ((bit % 2 : Nat) : Int))

/-- A complex number saturated to 16 bits, with how many components that changed. -/
def satC16 (z : Cplx) : Cplx × Nat :=
  ((sat 32767 z.1, sat 32767 z.2),
    (if sat 32767 z.1 = z.1 then 0 else 1) + (if sat 32767 z.2 = z.2 then 0 else 1))

end Sys2Proof.Machine
end

