-- ==== Sys2Proof/Machine/Detect.lean ====
section
/-! DEFINITION. Channel estimation, detection, weights, the FFT and the joint detection-decoding loop (R175 to R189). -/

namespace Sys2Proof.Machine

/-! ### Fields shared by the layouts -/

def dStreams (d : Nat) : Nat := bits d 159 128
def dSymMask (d : Nat) : Nat := bits d 173 160
def dPrbStart (d : Nat) : Nat := bits d 182 174
def dPrbCount (d : Nat) : Nat := bits d 191 183

/-- Groups of HG subcarriers in a PRB range: HG 0 six, 1 twelve (R175). -/
def groupsOf (hg prbs : Nat) : Nat := if hg = 0 then 2 * prbs else prbs

/-- The PRB range and streams of a descriptor are in range. -/
def State.rangeOk (s : State) (d : Nat) : Bool :=
  s.slotFieldsOk d && decide (dStreams d ≠ 0) && decide (1 ≤ dPrbCount d)
  && decide (dPrbStart d + dPrbCount d ≤ s.numPrb (dCarrier d) (s.descSlot d))

/-- An engine that reads a slot: NO_SLOT when the slot's buffer holds another slot or is IDLE, NO_ARM without an ARM
(R172); else `f` with the ARM. -/
def State.withArm (s : State) (h e : Nat) (r : EngRun) (f : ArmSt → State) : State :=
  let c := dCarrier r.desc
  let S := s.descSlot r.desc
  if !s.holds (s.bufOf c S) S then s.finishHead h e r.desc (Result.only 3)
  else
    match s.armOf c S with
    | none => s.finishHead h e r.desc (Result.only 4)
    | some a => f a

/-! ### CHEST -/

/-- Bytes of an H buffer: one C16 value per group, stream and each of eight layer slots (R176). -/
def hBytes (hg streams prbs : Nat) : Nat := groupsOf hg prbs * popCount 32 streams * 32

/-- Bytes of an Rnn buffer: the upper triangle of a C16 matrix per group of PRBs (R176). -/
def rnnBytes (streams prbs group : Nat) : Nat :=
  ceilDiv prbs group * (popCount 32 streams * (popCount 32 streams + 1) / 2) * 4

/-- A CHEST's fields are in range (R175). -/
def State.chestOk (s : State) (d : Nat) : Bool :=
  let ports := popCount 12 (bits d 223 212)
  s.rangeOk d && decide (bits d 323 322 < 2) && decide (1 ≤ ports) && decide (bits d 287 284 + ports ≤ 8)
  && decide (bits d 283 280 < s.symbolsPerSlot (dCarrier d))
  && (bits d 225 225 = 0 || (decide (bits d 207 206 < 3) && decide (bits d 202 199 < 12)))
  && inSlice (256 * bits d 303 288) (hBytes (bits d 323 322) (dStreams d) (dPrbCount d))
  && (bits d 224 224 = 0 ||
      inSlice (256 * bits d 319 304) (rnnBytes (dStreams d) (dPrbCount d) (2 ^ bits d 321 320)))

/-- R177. -/
def chestCycles (d : Nat) : Nat :=
  let nr := popCount 32 (dStreams d)
  128 + ceilDiv (nr * dPrbCount d * (4 * popCount 12 (bits d 223 212) + bits d 224 224 * nr)) 16

/-- The estimates of one group and stream: LAYER_FIRST upward, as many as ports (R176). -/
def State.writeEstimates (s : State) (h d : Nat) : Nat → State
  | 0 => s
  | n + 1 =>
    let s := s.writeEstimates h d n
    s.putFree h (256 * bits d 303 288 + 32 * n + 4 * bits d 287 284) (4 * popCount 12 (bits d 223 212))

/-- The CDM group of a DMRS port (TS 38.211 tables 6.4.1.1.3-1 and 6.4.1.1.3-2). -/
def cdmGroup (type2 : Bool) (port : Nat) : Nat := if type2 then port / 2 % 3 else port / 2 % 2

/-- What a CHEST makes known of its symbol: the CDM groups of its ports beside those known, and the DMRS type. -/
def refNote (old d : Nat) : Nat :=
  let gs := (maskList 12 (bits d 223 212)).map (cdmGroup (bitAt d 210))
  let m := ((List.range 3).filter (fun g => gs.contains g)).foldl (fun n g => n + 2 ^ g) 0
  ((old / 4) ||| m) * 4 + bits d 210 210 * 2 + 1

/-- A CHEST on DMRS marks its symbol as one of the slot's reference symbols. -/
def State.noteRef (s : State) (k d : Nat) : State :=
  let b := s.ulBuf k
  let sym := bits d 283 280
  if bitAt d 225 then s else s.setUlBuf k { b with refs := tabSet 0 b.refs sym (refNote (tabGet 0 b.refs sym) d) }

/-- CHEST's work (R176): estimates at the layer positions, Rnn with IRC, the two measurements free (log entry 40), MEAS_B within ±2 µs
in 1/16 ns. -/
def State.chest (s : State) (h : Nat) (r : EngRun) (a : ArmSt) : State :=
  let d := r.desc
  let nr := popCount 32 (dStreams d)
  let k := bits d 283 280
  let miss := s.readMissing a (dStreams d) [k] (dPrbStart d) (dPrbCount d)
  let clip := s.readClips a.carrier a.slot (dStreams d) [k] (dPrbStart d) (dPrbCount d)
  let s := s.noteRead h a miss clip
  let s := s.writeEstimates h d (groupsOf (bits d 323 322) (dPrbCount d) * nr)
  let s := if bits d 224 224 = 0 then s
    else { s.putFree h (256 * bits d 319 304) (rnnBytes (dStreams d) (dPrbCount d) (2 ^ bits d 321 320)) with
      rnnBufs := tabSet 0 s.rnnBufs (65536 * h + bits d 319 304) (2 ^ bits d 321 320) }
  let s := s.noteRef (s.bufOf a.carrier a.slot) d
  let s := { s with hBufs := tabSet 0 s.hBufs (65536 * h + bits d 303 288) (bits d 323 322 + 4 * dStreams d) }
  let m := Config.freeOf 8 [s.freeCtr, 0]
  let t := toField 16 ((Config.freeOf 8 [s.freeCtr, 1] % 64001 : Nat) - 32000 : Int)
  s.freeUsed.finishHead h 1 d ⟨0, decide (miss ≠ 0), clip, chestCycles d, m, t⟩

/-- CHEST taken: checked, made to wait under R165 and R168, then done. -/
def State.chestTaken (s : State) (h : Nat) (r : EngRun) : State :=
  if !s.chestOk r.desc then s.finishHead h 1 r.desc (Result.only 2)
  else s.withArm h 1 r (fun a => if s.symbolReady a (dStreams r.desc) (bits r.desc 283 280) then s.chest h r a else s)

/-- CHEST (R175 to R177). -/
def execChest (h : Fin 16) (s : State) : Host.Outcome State Fault Refusal :=
  .next (s.takeHead h 1 [3] (fun r s => s.chestTaken h r))

/-! ### DETECT -/

/-- UE field u (R178). -/
def ueField (d u : Nat) : Nat := bits d (289 + 58 * u) (232 + 58 * u)
def ueLlrOut (f : Nat) : Nat := 256 * bits f 57 42
def ueQm (f : Nat) : Nat := bits f 10 7
def ueLayers (f : Nat) : Nat := bits f 6 3
def ueFirst (f : Nat) : Nat := bits f 2 0

/-- The UE fields of a DETECT. -/
def ues (d : Nat) : List Nat := (List.range (bits d 231 230 + 1)).map (ueField d)

/-- L, the total layer count (R179). -/
def detLayers (d : Nat) : Nat := ((ues d).map ueLayers).sum

/-- Resource elements of a PRB that may carry data on a symbol (R178, R179): all twelve, or on a reference symbol, with DATA_ON_DMRS,
those of the CDM groups that no port uses. -/
def dataPerPrb (d ref : Nat) : Nat :=
  if ref = 0 then 12
  else if bitAt d 226 then 12 - popCount 3 (ref / 4) * (if bitAt ref 1 then 4 else 6)
  else 0

/-- PT-RS elements of a DETECT's range on symbol k. No field of the descriptor says where they lie: a free number (log entry 44). -/
def ptrsRes (d k : Nat) : Nat := Config.freeOf 52 [d % 2 ^ 480, k] % (dPrbCount d + 1)

/-- Resource elements of symbol k that a DETECT equalises (R179): those that carry PUSCH data, less the PT-RS positions. -/
def State.symbolRes (s : State) (d k : Nat) : Nat :=
  let b := s.ulBuf (s.bufOf (dCarrier d) (s.descSlot d))
  dPrbCount d * dataPerPrb d (tabGet 0 b.refs k) - ptrsRes d k

/-- Resource elements that a DETECT equalises. -/
def State.detRes (s : State) (d : Nat) : Nat := ((maskList 14 (dSymMask d)).map (s.symbolRes d)).sum

/-- Bytes of LLRs of a UE. -/
def State.ueLlrLen (s : State) (d f : Nat) : Nat := s.detRes d * ueLayers f * ueQm f

/-- Whether Qm names a modulation (R178). -/
def qmOk (q : Nat) : Bool := [1, 2, 4, 6, 8].contains q

/-- The estimate group of the H buffer a DETECT reads: as its last CHEST wrote it. -/
def State.hGroup (s : State) (h b : Nat) : Nat := tabGet 0 s.hBufs (65536 * h + b) % 4

/-- The H and Rnn buffers a DETECT reads lie in the slice (R172), the latter in the groups its last CHEST wrote. -/
def State.detectReads (s : State) (h d : Nat) : Bool :=
  let g := tabGet 0 s.rnnBufs (65536 * h + bits d 223 208)
  inSlice (256 * bits d 207 192) (hBytes (s.hGroup h (bits d 207 192)) (dStreams d) (dPrbCount d))
  && inSlice (256 * bits d 223 208) (rnnBytes (dStreams d) (dPrbCount d) (if g = 0 then dPrbCount d else g))

/-- A DETECT's fields are in range (R178). -/
def State.detectOk (s : State) (h d : Nat) : Bool :=
  s.rangeOk d && decide (dSymMask d ≠ 0) && decide (dSymMask d < 2 ^ s.symbolsPerSlot (dCarrier d))
  && (ues d).all (fun f => qmOk (ueQm f) && decide (1 ≤ ueLayers f) && decide (ueFirst f + ueLayers f ≤ 8)
      && inSlice (ueLlrOut f) (s.ueLlrLen d f))
  && s.detectReads h d
  && (bits d 225 225 = 0 || (decide (bits d 231 230 = 0) && decide (detLayers d = 1)))

/-- Weight cycles per estimate group (R181). -/
def weightCycles (nr l : Nat) : Nat := 24 + ceilDiv (nr * (nr + l)) 6

/-- Cycles per resource element (R181). -/
def reCycles (nr l qm : Nat) : Nat := ceilDiv (nr * l) 32 + ceilDiv (l * qm) 64

/-- Groups of a DETECT. -/
def State.detGroups (s : State) (h d : Nat) : Nat := groupsOf (s.hGroup h (bits d 207 192)) (dPrbCount d)

/-- R181. -/
def State.detectCycles (s : State) (h d : Nat) : Nat :=
  let nr := popCount 32 (dStreams d)
  let l := detLayers d
  s.detGroups h d * weightCycles nr l + s.detRes d * reCycles nr l (((ues d).map ueQm).foldl max 0)

/-- Free LLRs: I8 values other than −128 (R180). -/
def State.putLlrs (s : State) (h off n : Nat) : State :=
  (s.engWrite h off ((List.range n).map (fun i =>
    BitVec.ofInt 8 ((Config.freeOf 6 [s.freeCtr, i] % 255 : Nat) - 127 : Int)))).freeUsed

/-- The DET descriptors an OUTER names (R185). -/
def State.outerDets (s : State) (h d : Nat) : List Nat :=
  (List.range (bits d 147 146 + 1)).map (fun i => s.readDesc h (64 * (bits d 145 128 + i)))

/-- c_det of R186: what R184 charges. -/
def State.outerDet (s : State) (h d : Nat) : Nat :=
  ((s.outerDets h d).map (fun x =>
    let nr := popCount 32 (dStreams x)
    let l := detLayers x
    2 * (s.detGroups h x * weightCycles nr l) + (reCycles nr l (((ues x).map ueQm).foldl max 0) + 1) * s.detRes x)).sum

/-- R182: cycles of a WEIGHTS. -/
def State.weightsCycles (s : State) (h d : Nat) : Nat :=
  let hb := tabGet 0 s.hBufs (65536 * h + bits d 139 128)
  let m := [1, 4, 8].getD (bits d 173 172) 0
  groupsOf (hb % 4) (dPrbCount d) * (24 + ceilDiv (popCount 32 (hb / 4) * bits d 199 192 * m) 8)

/-- Cycles of the detection work of one descriptor of queue 0xF3. -/
def State.detWork (s : State) (h d : Nat) : Nat :=
  match dOp d with
  | 4 => s.detectCycles h d
  | 5 => s.weightsCycles h d
  | 7 => s.outerDet h d
  | _ => 0

/-- Cycles of the detection work queued in a hall behind the descriptor being taken (R192). -/
def State.detBacklog (s : State) (h : Nat) : Nat :=
  (((tabGet [] (s.sch h).engq 0xF3).drop 1).map (fun p =>
    if offOk p.2 then s.detWork h (s.readDesc h (bits p.2 23 0)) else 0)).sum

/-- The detection and weight engine takes its head (R169), and the hall's backlog is stored (R192). -/
def State.takeDet (s : State) (h : Nat) (ops : List Nat) (f : EngRun → State → State) : State :=
  s.takeHead h 3 ops (fun r s => f r (s.setObj .ulDetBacklog h (s.detBacklog h)))

/-- DETECT's work (R179, R180): LLRs of each UE in codeword order, the measurements free (log entry 40). -/
def State.detect (s : State) (h : Nat) (r : EngRun) (a : ArmSt) : State :=
  let d := r.desc
  let ks := maskList 14 (dSymMask d)
  let miss := s.readMissing a (dStreams d) ks (dPrbStart d) (dPrbCount d)
  let clip := s.readClips a.carrier a.slot (dStreams d) ks (dPrbStart d) (dPrbCount d)
  let cyc := s.detectCycles h d
  let ls : List (Nat × Nat) := (ues d).map (fun f => (ueLlrOut f, s.ueLlrLen d f))
  let s := s.noteRead h a miss clip
  let s := ls.foldl (fun (s : State) p => s.putLlrs h p.1 p.2) s
  let s := { s with llrDone := s.llrDone ++ ls.map (fun (p : Nat × Nat) => LlrRegion.mk h a.carrier a.slot p.1 p.2) }
  let s := s.writeBack h r.off cyc
  let m := Config.freeOf 8 [s.freeCtr, 0]
  let t := Config.freeOf 8 [s.freeCtr, 1]
  s.freeUsed.finishHead h 3 d ⟨0, decide (miss ≠ 0), clip, cyc, m, t⟩

/-- DETECT taken. -/
def State.detectTaken (s : State) (h : Nat) (r : EngRun) : State :=
  if !s.detectOk h r.desc then s.finishHead h 3 r.desc (Result.only 2)
  else s.withArm h 3 r (fun a =>
    if (maskList 14 (dSymMask r.desc)).all (s.symbolReady a (dStreams r.desc)) then s.detect h r a else s)

/-- DETECT (R178 to R181). -/
def execDetect (h : Fin 16) (s : State) : Host.Outcome State Fault Refusal :=
  .next (s.takeDet h [4] (fun r s => s.detectTaken h r))

/-! ### WEIGHTS -/

/-- A component of a C16 value. -/
def c16Part (v : Nat) (im : Bool) : Int := signExt 16 (v / (if im then 65536 else 1) % 65536)

/-- |z|² of a C16 value. -/
def c16Norm (v : Nat) : Nat := (c16Part v false).natAbs ^ 2 + (c16Part v true).natAbs ^ 2

/-- x × 0x7FFF / √m, rounded to the nearest integer. -/
def scalePart (x : Int) (m : Nat) : Int :=
  let y : Nat := (isqrt (4 * x.natAbs ^ 2 * 32767 ^ 2 / m) + 1) / 2
  if x < 0 then -(y : Int) else y

/-- A layer's column normalised (R182): its largest magnitude at 0x7FFF; of a column of zeros the spec states none. -/
def normColumn (l : List Nat) : List Nat :=
  let m := (l.map c16Norm).foldl max 0
  l.map (fun v => toField 16 (scalePart (c16Part v false) (max m 1)) + 65536 * toField 16 (scalePart (c16Part v true) (max m 1)))

/-- The raw weight of antenna a for layer l of a group (R182): METHOD 0 is the conjugate of the estimate that CHEST wrote; the other
methods' arithmetic fixes no bits, so they are free (log entry 40). -/
def State.rawWeight (s : State) (h d nt g a l : Nat) : Nat :=
  if bits d 173 172 = 0 then
    let v := s.memNat (terraceBase h + 256 * bits d 139 128 + 4 * ((g * nt + a) * 8 + l)) 4
    toField 16 (c16Part v false) + 65536 * toField 16 (min 32767 (-(c16Part v true)))
  else Config.freeOf 51 [s.freeCtr, g, a, l] % 2 ^ 32

/-- The weights of a group, [antenna][layer] (R182). -/
def State.groupWeights (s : State) (h d nt ls g : Nat) : List Byte :=
  let cols := (List.range ls).map (fun l => normColumn ((List.range nt).map (fun a => s.rawWeight h d nt g a l)))
  (List.range nt).flatMap (fun a => cols.flatMap (fun c => leBytes 4 (c.getD a 0)))

/-- WEIGHTS taken (R182): its streams are those of the CHEST that wrote the H buffer. -/
def State.weightsTaken (s : State) (h : Nat) (r : EngRun) : State :=
  let d := r.desc
  let hb := tabGet 0 s.hBufs (65536 * h + bits d 139 128)
  let nt := popCount 32 (hb / 4)
  let l := bits d 199 192
  let g := groupsOf (hb % 4) (dPrbCount d)
  let ok := s.slotFieldsOk d && decide (1 ≤ l) && decide (l ≤ 8) && decide (bits d 173 172 < 3) && decide (1 ≤ dPrbCount d)
    && decide (dPrbStart d + dPrbCount d ≤ s.numPrb (dCarrier d) (s.descSlot d))
    && decide (256 * bits d 139 128 + hBytes (hb % 4) (hb / 4) (dPrbCount d) ≤ 2 ^ 20)
    && inSlice (256 * bits d 155 140) (g * nt * l * 4)
  if !ok then s.finishHead h 3 d (Result.only 2)
  else if !s.holds (s.bufOf (dCarrier d) (s.descSlot d)) (s.descSlot d) then s.finishHead h 3 d (Result.only 3)
  else
    let w := (List.range g).flatMap (s.groupWeights h d nt l)
    (s.engWrite h (256 * bits d 155 140) w).freeUsed.finishHead h 3 d ⟨0, false, false, s.weightsCycles h d, 0, 0⟩

/-- WEIGHTS (R182). -/
def execWeights (h : Fin 16) (s : State) : Host.Outcome State Fault Refusal :=
  .next (s.takeDet h [5] (fun r s => s.weightsTaken h r))

/-! ### FFT -/

/-- The bin of subcarrier k in a grid of N bins (R263). -/
def gridBin (lte : Bool) (prbs n k : Nat) : Nat :=
  (((k : Int) - 6 * prbs + (if lte ∧ 6 * prbs ≤ k then 1 else 0)) % (n : Int)).toNat

/-- 16-bit values as the front end holds them, most significant byte first. -/
def mantissas' (l : List Byte) : List Int := (List.range (l.length / 2)).map (fun i => signExt 16 (beNat (slice (2 * i) 2 l)))

/-- A number with every factor `p` divided out. -/
def stripFactor (p : Nat) : Nat → Nat → Nat
  | 0, n => n
  | f + 1, n => if n % p = 0 then stripFactor p f (n / p) else n

/-- N = 2^a × 3^b × 5^c, up to 4,096 (R183). -/
def fftSizeOk (n : Nat) : Bool :=
  decide (1 ≤ n) && decide (n ≤ 4096) && decide (stripFactor 5 12 (stripFactor 3 12 (stripFactor 2 12 n)) = 1)

/-- ceil(N × log2(N) / 64) + 32 (R183): N × log2(N) is log2 of N^N. -/
def fftCycles (n : Nat) : Nat :=
  let b := n ^ n
  let c := if 2 ^ Nat.log2 b = b then Nat.log2 b else Nat.log2 b + 1
  ceilDiv c 64 + 32

/-- Whether the symbols an FFT reads have landed or their windows closed (R165). -/
def State.fftReady (s : State) (d : Nat) : Bool :=
  let c := dCarrier d
  let S := s.descSlot d
  let b := s.ulBuf (s.bufOf c S)
  bits d 265 264 = 1 ||
  (maskList 14 (dSymMask d)).all (fun k => decide (s.windowClose c S k ≤ s.now) ||
    (maskList 32 (dStreams d)).all (fun t =>
      match s.streamLand b.table c t with
      | some (l, _) => decide (popCount l.prbs (tabGet 0 b.landed (16 * t + k)) = l.prbs)
      | none => true))

/-- Bytes of the slot buffer an FFT reads per stream: of the time-domain landing of the carrier, or one transform per symbol (R161,
R183). -/
def State.fftInBytes (s : State) (d : Nat) : Nat :=
  let n := popCount 14 (dSymMask d) * 4 * bits d 263 251
  if bits d 265 264 = 1 then n
  else
    match (s.tableAt (s.tableFor (dCarrier d) (s.descSlot d))).find?
        (fun x => decide (seCarrier x = dCarrier d) && decide (seTarget x = 2)) with
    | some x => (s.landOf x).slotStride
    | none => n

/-- Bytes of the slot layout an FFT writes per stream: a slot of the landing layout with 16-bit samples and no compression, or one
transform per symbol (R183). -/
def State.fftOutBytes (s : State) (d : Nat) : Nat :=
  if bits d 265 264 = 1 then popCount 14 (dSymMask d) * 4 * bits d 263 251
  else roundUp (s.symbolsPerSlot (dCarrier d) * roundUp ((s.carrier (dCarrier d)).prbs * 48) 64) 4096

/-- A 16-bit value of the front end as it lies in memory: most significant byte first (R161). -/
def c16Bytes (z : Cplx) : List Byte := beBytes 2 (toField 16 z.1) ++ beBytes 2 (toField 16 z.2)

/-- The `n` samples an FFT reads at an offset. -/
def State.fftSamples (s : State) (h off n : Nat) : List Cplx :=
  let v := mantissas' (s.readMem (terraceBase h + off) (4 * n))
  (List.range n).map (fun i => (v.getD (2 * i) 0, v.getD (2 * i + 1) 0))

/-- Component c of output bin b (R183): shifted right, the rounding free, and free where it leaves 16 bits (log entry 103). -/
def fftPart (ctr sh b c : Nat) (v : Int) : Int :=
  let y := nearFree (snap v / 2 ^ sh) (Config.freeOf 55 [ctr, b, c])
  if sat 32767 y = y then y else signExt 16 (Config.freeOf 56 [ctr, b, c] % 65536)

/-- An output bin of a transform. -/
def fftBin (ctr d : Nat) (xs : List Cplx) (b : Nat) : Cplx :=
  let z := transform xs (bits d 263 251) b (decide (bits d 265 264 = 0))
  (fftPart ctr (bits d 271 266) b 0 z.1, fftPart ctr (bits d 271 266) b 1 z.2)

/-- One transformed symbol of a stream (R183): its PRBs in the landing layout, or the samples of the `i`-th transform. The input of an
FFT is the landed symbol, its cyclic prefix left out. -/
def State.fftSymbol (s : State) (h d inp o t i k : Nat) : State :=
  let n := bits d 263 251
  if bits d 265 264 = 1 then
    let xs := s.fftSamples h (inp + i * 4 * n) n
    (s.engWrite h (o + i * 4 * n) ((List.range n).flatMap (fun b => c16Bytes (fftBin s.freeCtr d xs b)))).freeUsed
  else
    let c := dCarrier d
    let u := s.bufOf c (s.descSlot d)
    let stride := match s.streamLand (s.ulBuf u).table c t with
      | some (l, _) => l.symStride
      | none => 4 * (n + bits d 250 237)
    let xs := s.fftSamples h (inp + k * stride + 4 * bits d 250 237) n
    let kind := (s.carrier c).kind
    let size := (s.carrier c).prbs * 48
    let out := (List.range (12 * (s.carrier c).prbs)).flatMap (fun j =>
      c16Bytes (fftBin s.freeCtr d xs (gridBin (decide (kind = 1 ∨ kind = 2)) (s.carrier c).prbs n j)))
    let s := (s.engWrite h (o + k * roundUp size 64) out).freeUsed
    let b := s.ulBuf u
    s.setUlBuf u { b with fftOut := tabSet 0 b.fftOut (16 * t + k) (o + 1) }

/-- The outputs of an FFT for the symbols of SYM_MASK, stream after stream in ascending order (log entry 41). -/
def State.fftWrite (s : State) (h d : Nat) (n : Nat) : List Nat → State
  | [] => s
  | t :: ts =>
    let o := bits d 223 200 + n * s.fftOutBytes d
    let i := bits d 199 176 + n * s.fftInBytes d
    let s := ((maskList 14 (dSymMask d)).zipIdx).foldl (fun (s : State) p => s.fftSymbol h d i o t p.2 p.1) s
    s.fftWrite h d (n + 1) ts

/-- Units of 12 samples that an FFT reads of armed streams and that have not landed (R165, log entry 41). -/
def State.fftMissing (s : State) (d : Nat) : Nat :=
  let c := dCarrier d
  let S := s.descSlot d
  let b := s.ulBuf (s.bufOf c S)
  match s.armOf c S with
  | some a =>
    if bits d 265 264 = 1 then 0
    else
      ((maskList 32 (dStreams d &&& a.streams)).flatMap (fun t => (maskList 14 (dSymMask d)).map (fun k =>
        match s.streamLand b.table c t with
        | some (l, true) => l.prbs - popCount l.prbs (tabGet 0 b.landed (16 * t + k))
        | _ => 0))).sum
  | none => 0

/-- Whether a SHAPE that arrived earlier waits for the FFT engine (R247). -/
def State.shapeFirst (s : State) (h stamp : Nat) : Bool :=
  match s.engHead h 10 with
  | some (n, _) => decide (n < stamp)
  | none => false

/-- FFT taken (R183). It reads the samples before any gain is applied, so nothing saturates under
R168 (log entry 41); samples that have not landed read as zero and are counted (R165). -/
def State.fftTaken (s : State) (h : Nat) (r : EngRun) : State :=
  let d := r.desc
  let ts := maskList 32 (dStreams d)
  let ok := s.slotFieldsOk d && decide (bits d 271 266 ≤ 12) && decide (bits d 265 264 < 2) && fftSizeOk (bits d 263 251)
    && decide (dStreams d ≠ 0) && decide (dSymMask d ≠ 0) && decide (dSymMask d < 2 ^ s.symbolsPerSlot (dCarrier d))
    && inSlice (bits d 223 200) (ts.length * s.fftOutBytes d)
    && inSlice (bits d 199 176) (ts.length * s.fftInBytes d)
  if !ok then s.finishHead h 2 d (Result.only 2)
  else if !s.holds (s.bufOf (dCarrier d) (s.descSlot d)) (s.descSlot d) then s.finishHead h 2 d (Result.only 3)
  else if s.shapeFirst h r.stamp ∨ !s.fftReady d then s
  else
    let miss := s.fftMissing d
    ((s.bumpBy .ulFhMissingPrb h miss).fftWrite h d 0 ts).finishHead h 2 d
      ⟨0, decide (miss ≠ 0), false, ts.length * popCount 14 (dSymMask d) * fftCycles (bits d 263 251), 0, 0⟩

/-- FFT (R183). -/
def execFft (h : Fin 16) (s : State) : Host.Outcome State Fault Refusal :=
  .next (s.takeHead h 2 [6] (fun r s => s.fftTaken h r))

/-! ### OUTER -/

/-- The DEC descriptors an OUTER names (R185). -/
def State.outerDecs (s : State) (h d : Nat) : List Nat :=
  (List.range (bits d 193 186)).map (fun i => s.readDesc h (64 * (bits d 185 168 + i)))

/-- The blocks of a DEC whose status entry says they failed. -/
def State.failedBlocks (s : State) (h d : Nat) : List Nat :=
  (List.range (decSeg d).c).filter (fun b => !bitAt (s.memNat (terraceBase h + decStatusOut d + 8 * b) 8) 63)

/-- Cycles per iteration the decoder wrote back for a block (R219). -/
def State.blockCyc (s : State) (h d b : Nat) : Nat := bits (s.memNat (terraceBase h + decStatusOut d + 8 * b) 8) 55 44

/-- c_dec of R186. -/
def State.outerDec (s : State) (h d : Nat) : Nat :=
  ((s.outerDecs h d).map (fun x => ((s.failedBlocks h x).map (fun b => s.blockCyc h x b)).sum)).sum * bits d 197 194

/-- r of R186, in thousands of handshakes/s × 1,000,000: HALL_RATE_PACED × 975, or the floor × 1,000 when it reads 0,
and not above the lower floor while the level slews. -/
def State.predRate (s : State) (h : Nat) : Int :=
  let r := if s.obj .hallRatePaced h = 0 then rateFloor (s.obj .hallLevel h) * 1000 else s.obj .hallRatePaced h * 975
  if (s.pacer h).slewFrom.isSome then min r (s.unitFloor h * 1000) else r

/-- OUTER's fields are in range (R185). -/
def State.outerOk (s : State) (h d : Nat) : Bool :=
  let c := dCarrier d
  s.slotFieldsOk d && decide (1 ≤ bits d 197 194) && decide (1 ≤ bits d 193 186)
  && decide (1 ≤ bits d 151 150) && decide ((bits d 151 150 : Int) ≤ s.objAt (s.slotStart c (s.descSlot d)) .ulOuterMax c)
  && decide ((dDeadline d : Int) = s.ulDeadline c (s.descSlot d))
  && inSlice (64 * bits d 145 128) (64 * (bits d 147 146 + 1)) && inSlice (64 * bits d 185 168) (64 * bits d 193 186)
  && (s.outerDets h d).all (fun x => decide (dOp x = 4) && decide (bits d 149 148 ≤ bits x 231 230))
  && (s.outerDecs h d).all (fun x => decide (dOp x = 8))

/-- A 16-bit field that saturates. -/
def i16 (v : Int) : Nat := toField 16 (max (-32768) (min 32767 v))

/-- OUTER taken (R186): the test, whose result is stored, then the iteration started or skipped. -/
def State.outerTaken (s : State) (h : Nat) (r : EngRun) : State :=
  let d := r.desc
  let c := dCarrier d
  if !s.outerOk h d then s.finishHead h 3 d (Result.only 2)
  else s.withArm h 3 r (fun _ =>
    let rate := s.predRate h
    let cyc : Int := s.outerDet h d + s.outerDec h d + s.decBacklog h
    let dl : Int := dDeadline d
    let guard := s.objAt (s.slotStart c (s.descSlot d)) .ulAbandonGuard c
    let limit := dl - max (s.obj .hallPaceMargin h) guard
    -- predicted = now + cyc × 10^6 / rate + 1,000 ns; slack = limit − predicted, rounded down
    let slack := ((limit - s.now - 1000) * rate - cyc * 1000000) / rate
    let before := decide ((s.now + 1000 - limit) * rate + cyc * 1000000 < 0)
    let s := (s.setObj .ulPredRate h (rate / 1000)).setObj .ulLastPredSlack h slack
    if s.now < dl - guard ∧ before then
      ((s.engPop h 3).setEngRun h 3 (some r)).bump .ulOuterStarted h
    else s.finishHead h 3 d ⟨5, false, false, 0, 0, i16 (slack / 1000)⟩)

/-- OUTER (R184 to R186). -/
def execOuter (h : Fin 16) (s : State) : Host.Outcome State Fault Refusal :=
  .next (s.takeDet h [7] (fun r s => s.outerTaken h r))

/-- How an outer iteration stands: the blocks passed, and the cycles the decoder has spent. -/
structure OuterRun where
  st : State
  passed : Nat
  spent : Nat

/-- The work of a DEC descriptor that an outer iteration names. -/
def State.outerWork (s : State) (h x : Nat) : Option HarqWork :=
  s.harq.find? (fun w => decide (w.hall = h) && decide (w.desc = x) && w.complete)

/-- One failed block of an outer pass decoded again from the extrinsic LLRs and its prior (R184, R219, R230), if that ends within
`budget` cycles of the decoder. -/
def OuterRun.block (q : OuterRun) (h iters iter : Nat) (budget : Option Nat) (x b : Nat) : OuterRun :=
  let s := q.st
  match s.outerWork h x with
  | none => q
  | some w =>
    let old := s.memNat (terraceBase h + decStatusOut x + 8 * b) 8
    let prior := s.blockPrior x w.prior (decNcb x) b
    let r := s.passBlock 0 h x w.prior b iters
    let cyc := 8 + r.iters * bits old 55 44
    if budget.any (fun m => decide (m < q.spent + cyc)) then { q with spent := q.spent + cyc }
    else
      let s := ((((s.readPrior x w.prior (decNcb x) b).bump .decBlocks h).bumpBy .decIterations h r.iters).noteIters h r.iters).bumpIf
        r.after .decCrcAfterSyndrome h
      let s := (s.bumpIf prior.1.isSome .harqCombines h).bumpIf (prior.2 && !bitAt old 60) .harqPriorLost h
      let s := s.engWrite h (decStatusOut x + 8 * b)
        (leBytes 8 (statusEntry r.pass prior.1.isSome (prior.2 || bitAt old 60) r.iters (bits old 55 44)
          (if r.pass then iter else 0) (min 65535 r.unsat)))
      let w' := { w with passed := w.passed.set b r.pass, blocks := w.blocks.set b r.bits }
      ⟨(s.setWork w w').bumpIf r.pass .ulOuterRecovered h, q.passed + (if r.pass then 1 else 0), q.spent + cyc⟩

/-- The failed blocks of one DEC decoded again, and its transport block written and checked anew. -/
def OuterRun.dec (q : OuterRun) (h iters iter : Nat) (budget : Option Nat) (x : Nat) : OuterRun :=
  let q := (q.st.failedBlocks h x).foldl (fun (q : OuterRun) b => q.block h iters iter budget x b) q
  match q.st.outerWork h x with
  | none => q
  | some w => { q with st := (q.st.writeTb 0 h x w.blocks).setWork w { w with tbOk := workTbOk 0 x w.blocks } }

/-- The detection pass of an outer iteration (R184, R188): the extrinsic LLRs of the failed blocks, free (log entry 40), over their
LLRs. -/
def State.outerLlrs (s : State) (h d : Nat) : State :=
  (s.outerDecs h d).foldl (fun (s : State) x =>
    (s.failedBlocks h x).foldl (fun (s : State) b =>
      let q := decNl x * decQm x
      s.putLlrs h (decLlrIn x + eStart (decG x) q (decSeg x).c b) (eOf (decG x) q (decSeg x).c b)) s) s

/-- What an outer iteration reads of its slot, through each of its DET descriptors (R165, R168): missing PRBs and a clip. -/
def State.outerReads (s : State) (h d : Nat) (a : ArmSt) : Nat × Bool :=
  let l := s.outerDets h d
  ((l.map (fun x => s.readMissing a (dStreams x) (maskList 14 (dSymMask x)) (dPrbStart x) (dPrbCount x))).sum,
    l.any (fun x => s.readClips a.carrier a.slot (dStreams x) (maskList 14 (dSymMask x)) (dPrbStart x) (dPrbCount x)))

/-- An outer iteration runs up to `budget` cycles of the decoder (none: to its end), with what it read. -/
def State.outerRun (s : State) (h d : Nat) (budget : Option Nat) : OuterRun × Nat × Bool :=
  let reads := match s.armOf (dCarrier d) (s.descSlot d) with
    | some a => s.outerReads h d a
    | none => (0, false)
  let s := match s.armOf (dCarrier d) (s.descSlot d) with
    | some a => s.noteRead h a reads.1 reads.2
    | none => s
  let decs := s.outerDecs h d
  (decs.foldl (fun (q : OuterRun) x => q.dec h (bits d 197 194) (bits d 151 150) budget x) ⟨s.outerLlrs h d, 0, 0⟩, reads)

/-- MEAS_B of an OUTER: the predicted slack in µs. -/
def State.outerSlack (s : State) (h : Nat) : Nat := i16 (s.obj .ulLastPredSlack h / 1000)

/-- A running OUTER completes its iteration (R184, R185). -/
def State.outerDone (s : State) (h : Nat) (r : EngRun) : State :=
  let q := s.outerRun h r.desc none
  q.1.st.finishRun h 3 r.desc
    ⟨0, decide (q.2.1 ≠ 0), q.2.2, s.outerDet h r.desc + q.1.spent, q.1.passed, s.outerSlack h⟩

/-- OUTER_ABANDON (R187): at the deadline less `UL_ABANDON_GUARD` the running iteration ends. The cycles it has spent are free: with
its detection done, blocks that end within them keep their pass, every other one the result of the last pass that completed. -/
def execOuterAbandon (h : Fin 16) (s : State) : Host.Outcome State Fault Refusal :=
  .next <|
    match s.engRun h 3 with
    | some r =>
      let d := r.desc
      if (dDeadline d : Int) - s.objAt (s.slotStart (dCarrier d) (s.descSlot d)) .ulAbandonGuard (dCarrier d) ≤ s.now then
        let det := s.outerDet h d
        let c := Config.freeOf 8 [s.freeCtr, 3] % (det + s.outerDec h d + 1)
        if c < det then s.freeUsed.finishRun h 3 d ⟨6, false, false, c, 0, s.outerSlack h⟩
        else
          let q := s.freeUsed.outerRun h d (some (c - det))
          q.1.st.finishRun h 3 d ⟨6, decide (q.2.1 ≠ 0), q.2.2, c, q.1.passed, s.outerSlack h⟩
      else s
    | none => s

/-! ### Any descriptor -/

/-- UL_ENGINE_DESCRIPTOR (R169 to R172): engine e of hall h, if it executes an outer iteration, completes it; if it is
idle, takes the head of its queue, whatever its OP. -/
def execUlEngineDescriptor (h : Fin 16) (e : Fin 4) (s : State) : Host.Outcome State Fault Refusal :=
  .next <|
    match e.val, s.engRun h e with
    | 3, some r => s.outerDone h r
    | _, some _ => s
    | _, none =>
      s.takeHead h e [1, 2, 3, 4, 5, 6, 7] (fun r s =>
        match dOp r.desc with
        | 1 => s.armTaken h r
        | 2 => s.releaseTaken h r
        | 3 => s.chestTaken h r
        | 4 => s.detectTaken h r
        | 5 => s.weightsTaken h r
        | 6 => s.fftTaken h r
        | _ => s.outerTaken h r)

end Sys2Proof.Machine
end

