-- ==== Sys2Proof/Machine/PolarCode.lean ====
section
/-! DEFINITION. The polar and the convolutional code (R238 to R240): segmentation, encoding and rate matching under TS 38.212 clauses
5.3.1, 5.4.1 and 6.3.1 and TS 36.212 clause 5.1. The reliability order is the standard's, of which the spec states no number, and the
arithmetic of the decoders is none's: free functions of Config (log entry 40). -/

namespace Sys2Proof.Machine

/-- ceil(log2 n). -/
def clog2 (n : Nat) : Nat := if 2 ^ Nat.log2 n = n then Nat.log2 n else Nat.log2 n + 1

/-- log2 of the mother-code length for K bits with CRC and E rate-matched bits (TS 38.212 clause 5.3.1). -/
def polarLog (k e nmax : Nat) : Nat :=
  let n1 := if 8 * e ≤ 9 * 2 ^ (clog2 e - 1) ∧ 16 * k < 9 * e then clog2 e - 1 else clog2 e
  max 5 (min (min n1 (clog2 (8 * k))) nmax)

/-- The segments of a UCI: two from 1,013 bits, or from 360 with 1,088 rate-matched bits (TS 38.212 clause 6.3.1.2). -/
def uciSplit (a e : Nat) : Bool := decide (1013 ≤ a) || (decide (360 ≤ a) && decide (1088 ≤ e))

/-- The check of a channel's payload: CHAN 0 PBCH, 1 DCI, 2 UCI, 3 convolutional (log entry 102). -/
def polarCrc (chan a : Nat) : Crc :=
  if chan = 2 then (if a < 20 then crc6 else crc11) else if chan = 3 then crc24a else crc24c

/-- K and E of each segment (R240). -/
def polarSegs (chan a e : Nat) : List (Nat × Nat) :=
  if chan = 2 ∧ uciSplit a e then List.replicate 2 (ceilDiv a 2 + 11, e / 2)
  else [(a + (polarCrc chan a).len, e)]

/-- The check bits of a payload, with what the check covers: a DCI's starts with 24 ones, and RNTI masks the last 16 bits of the
check of a DCI (TS 38.212 clause 7.3.2) or of a convolutional codeword. -/
def polarCheck (chan rnti a : Nat) (b : List Bool) : Nat :=
  let c := polarCrc chan a
  let head := if chan = 1 then List.replicate 24 true else []
  crcOf c.len c.poly (head ++ b) ^^^ (if chan = 1 ∨ chan = 3 then rnti else 0)

/-- The payload parts of the segments, a zero before the first of two where A is odd. -/
def polarParts (chan a e : Nat) (b : List Bool) : List (List Bool) :=
  if chan = 2 ∧ uciSplit a e then
    let b := if a % 2 = 1 then false :: b else b
    [b.take (ceilDiv a 2), b.drop (ceilDiv a 2)]
  else [b]

/-! ### Encoding -/

/-- The sub-block interleaver of the polar code. -/
def polarBlocks : List Nat :=
  [0, 1, 2, 4, 3, 5, 6, 7, 8, 16, 9, 17, 10, 18, 11, 19, 12, 20, 13, 21, 14, 22, 15, 23, 24, 25, 26, 28, 27, 29, 30, 31]

/-- J(n) of a mother code of N bits. -/
def polarJ (n i : Nat) : Nat := polarBlocks.getD (32 * i / n) 0 * (n / 32) + i % (n / 32)

/-- Places frozen before the choice of information places, for K bits, E rate-matched bits and length N. -/
def polarPre (k e n : Nat) : List Nat :=
  if n ≤ e then []
  else if 16 * k ≤ 7 * e then
    (List.range (n - e)).map (polarJ n)
      ++ List.range (if 3 * n ≤ 4 * e then ceilDiv (3 * n - 2 * e) 4 else ceilDiv (9 * n - 4 * e) 16)
  else ((List.range n).drop e).map (polarJ n)

/-- Parity-check bits of a UCI segment of K bits, and those placed by row weight (TS 38.212 clause 6.3.1.3.1). -/
def polarPc (chan k e : Nat) : Nat × Nat :=
  if chan = 2 ∧ 18 ≤ k ∧ k ≤ 25 then (3, if 192 < e - k + 3 then 1 else 0) else (0, 0)

/-- The information places of a segment, the least reliable first. -/
def polarInfo (chan k e n : Nat) : List Nat :=
  let pre := polarPre k e n
  let order := ((List.range 1024).map Config.polarRank).filter (fun q => decide (q < n) && !pre.contains q)
  order.drop (order.length - (k + (polarPc chan k e).1))

/-- The places of the parity-check bits: the least reliable, and of the others those of least row weight, the most reliable among
equals. -/
def polarChecks (chan k e : Nat) (info : List Nat) : List Nat :=
  let pc := polarPc chan k e
  let rest := info.drop pc.1
  let least := (rest.map (fun q => popCount 10 q)).foldl min 10
  info.take (pc.1 - pc.2) ++ ((rest.reverse.filter (fun q => decide (popCount 10 q = least))).take pc.2)

/-- The input bits of the polar transform, place by place: information in ascending places, a parity-check bit from a shift register
of five. -/
def polarInput (info checks : List Nat) (bits : List Bool) (n : Nat) : List Bool :=
  ((List.range n).foldl (fun (q : List Bool × List Bool × List Bool) i =>
    let y := q.2.1.drop 1 ++ q.2.1.take 1
    let y0 := y.headD false
    if !info.contains i then (q.1 ++ [false], y, q.2.2)
    else if checks.contains i then (q.1 ++ [y0], y, q.2.2)
    else
      let u := q.2.2.headD false
      (q.1 ++ [u], xor y0 u :: y.drop 1, q.2.2.drop 1)) ([], List.replicate 5 false, bits)).1

/-- The polar transform of 2^m bits. -/
def polarTransform : Nat → List Bool → List Bool
  | 0, l => l
  | m + 1, l =>
    let h := 2 ^ m
    polarTransform m (List.zipWith xor (l.take h) (l.drop h)) ++ polarTransform m (l.drop h)

/-- The interleaving of the information bits of PBCH and DCI. -/
def polarShuffle (b : List Bool) : List Bool :=
  let k := b.length
  ((List.range 164).map Config.polarInterleave).filterMap (fun p => if 164 - k ≤ p then some (b.getD (p - (164 - k)) false) else none)

/-- The triangular interleaving of the coded bits of UCI: rows of falling length filled in turn, columns read. -/
def polarTriangle (l : List Bool) : List Bool :=
  let e := l.length
  let t := ((List.range (e + 1)).find? (fun t => decide (2 * e ≤ t * (t + 1)))).getD 0
  (List.range t).flatMap (fun j => (List.range (t - j)).filterMap (fun i =>
    let p := i * t - i * (i - 1) / 2 + j
    if p < e then some (l.getD p false) else none))

/-- The rate-matched bits of one segment: its bits with their check, E of them. -/
def polarSegment (chan e : Nat) (b : List Bool) : List Bool :=
  let k := b.length
  let m := polarLog k e (if chan = 2 then 10 else 9)
  let n := 2 ^ m
  let info := polarInfo chan k e n
  let u := polarInput info (polarChecks chan k e info) (if chan = 2 then b else polarShuffle b) n
  let d := polarTransform m u
  let y := (List.range n).map (fun i => d.getD (polarJ n i) false)
  let out := (List.range e).map (fun i =>
    if n ≤ e then y.getD (i % n) false else if 16 * k ≤ 7 * e then y.getD (i + n - e) false else y.getD i false)
  if chan = 2 then polarTriangle out else out

/-! ### The convolutional code (TS 36.212 clauses 5.1.3.1 and 5.1.4.2) -/

/-- One output of the tail-biting code of constraint length 7 for a generator: bit i of `b` and the six before it, around its
start. -/
def convOut (gen : Nat) (b : List Bool) (i : Nat) : Bool :=
  (List.range 7).foldl (fun p j => xor p (bitAt gen (6 - j) && b.getD ((i + 7 * b.length - j) % b.length) false)) false

/-- The three coded streams, generators 133, 171 and 165 (octal). -/
def convEncode (b : List Bool) : List (List Bool) :=
  [0o133, 0o171, 0o165].map (fun g => (List.range b.length).map (convOut g b))

/-- The column order of its sub-block interleaver: odd columns, then even ones, each in bit-reversed order. -/
def convColumn (c : Nat) : Nat := bitsNat ((natBits 5 ((c + 16) % 32)).reverse)

/-- The circular buffer of three streams of D bits. -/
def convBuffer (streams : List (List Bool)) : List Bool :=
  streams.flatMap (fun l =>
    let r := ceilDiv l.length 32
    let pad := 32 * r - l.length
    (List.range (32 * r)).filterMap (fun k =>
      let p := convColumn (k / r) + 32 * (k % r)
      if p < pad then none else some (l.getD (p - pad) false)))

/-- E rate-matched bits of a convolutional codeword. -/
def convSegment (e : Nat) (b : List Bool) : List Bool :=
  let w := convBuffer (convEncode b)
  (List.range e).map (fun i => w.getD (i % w.length) false)

/-! ### Codewords -/

/-- The coded bits of a payload (R238). -/
def polarCodeword (chan rnti a e : Nat) (payload : List Bool) : List Bool :=
  let c := (polarCrc chan a).len
  ((polarParts chan a e payload).zip (polarSegs chan a e)).flatMap (fun p =>
    let b := p.1 ++ natBits c (polarCheck chan rnti a p.1)
    if chan = 3 then convSegment p.2.2 b else polarSegment chan p.2.2 b)

/-- What the LLRs of each segment are decoded to: its bits with their check, and the metric of the path. -/
def polarDecide (chan list a e : Nat) (llrs : List Int) : List (List Bool × Nat) :=
  (polarSegs chan a e).zipIdx.map (fun (p : (Nat × Nat) × Nat) =>
    let q := Config.listDecode chan p.1.1 list ((llrs.drop (p.2 * p.1.2)).take p.1.2)
    (natBits p.1.1 (q.1 % 2 ^ p.1.1), q.2))

/-- A decoded segment's check holds. -/
def polarHolds (chan rnti a : Nat) (b : List Bool) : Bool :=
  let c := (polarCrc chan a).len
  decide (bitsNat (b.drop (b.length - c)) = polarCheck chan rnti a (b.take (b.length - c)))

/-- The payload of decoded segments. -/
def polarPayload (chan a e : Nat) (segs : List (List Bool)) : List Bool :=
  let c := (polarCrc chan a).len
  let l := segs.flatMap (fun b => b.take (b.length - c))
  if chan = 2 ∧ uciSplit a e ∧ a % 2 = 1 then l.drop 1 else l

/-- Cycles of a POLAR (R240). -/
def polarCycles (d : Nat) : Nat :=
  let a := bits d 428 417
  let e := bits d 416 403
  let dec := bitAt d 431
  let chan := bits d 430 429
  if chan = 3 then (if dec then 64 + 3 * (a + 24) else 32 + ceilDiv e 64)
  else
    ((polarSegs chan a e).map (fun p =>
      let n := polarLog p.1 p.2 (if chan = 2 then 10 else 9)
      if dec then 64 + ceilDiv (2 ^ n * n * 2 ^ bits d 386 384) 32 else 32 + 2 ^ n / 8)).sum

end Sys2Proof.Machine
end

