-- ==== Sys2Proof/Machine/Coding.lean ====
section
/-! DEFINITION. The coding engines: DEC, ENC, POLAR, TURBO and HARQ (R214 to R246). -/

namespace Sys2Proof.Machine

/-! ### Decoding -/

/-- G modulation symbols' worth of bits fit the layout; a DEC's fields are in range (R218). -/
def State.decOk (s : State) (d : Nat) : Bool :=
  let c := (decSeg d).c
  s.slotFieldsOk d && decide (24 ≤ decTbs d) && decide (decTbs d ≤ 1277992) && qmOk (decQm d)
  && decide (1 ≤ decNl d) && decide (decNl d ≤ 4) && decide (1 ≤ decMaxIters d) && decide (c ≤ 252) && decide (c ≤ decG d)
  && decide (decStatusOut d % 8 = 0) && inSlice (decStatusOut d) (8 * c) && inSlice (decLlrIn d) (decG d)
  && inSlice (decTbOut d) (ceilDiv (decTbs d) 8)
  && ((!decStore d && decNewData d) || decide ((decProc d : Int) < s.obj .harqProcCount 0))

/-- The work of a descriptor being decoded, if it is (R222). -/
def State.workOf (s : State) (h d : Nat) : Option HarqWork :=
  s.harq.find? (fun w => decide (w.hall = h) && decide (w.desc = d) && !w.complete)

/-- One block decoded (R219, R220, R225): its prior read, its pass run, its status entry written and counted. The block of a
one-block codeword passes with the transport block CRC. -/
def State.decodeBlock (s : State) (w : HarqWork) (b : Nat) : State :=
  let d := w.desc
  let h := w.hall
  let ncb := workNcb w.kind d
  let prior := s.blockPrior d w.prior ncb b
  let r := s.passBlock w.kind h d w.prior b (decMaxIters d)
  let s := s.readPrior d w.prior ncb b
  let s := s.bumpIf prior.1.isSome .harqCombines h
  let s := s.bumpIf prior.2 .harqPriorLost h
  let cyc := if w.kind = 1 then 8 + ceilDiv ((turboBlocks (turTbs d)).getD b 40) 192 else decCyc d
  let s := s.engWrite h (decStatusOut d + 8 * b)
    (leBytes 8 (statusEntry r.pass prior.1.isSome prior.2 r.iters cyc 0 (min 65535 r.unsat)))
  let s := if w.kind = 1 then (s.bump .turboBlocks (h / 8)).bumpIf (!r.pass) .turboFailed (h / 8)
    else (((s.bump .decBlocks h).bumpBy .decIterations h r.iters).noteIters h r.iters).bumpIf r.after .decCrcAfterSyndrome h
  s.setWork w { w with passed := w.passed ++ [r.pass], blocks := w.blocks ++ [r.bits] }

/-- The next block of a descriptor's work is decoded. -/
def State.decodeNext (s : State) (h d : Nat) : State :=
  match s.workOf h d with
  | some w => s.decodeBlock w w.passed.length
  | none => s

/-- All blocks of a work that remain. -/
def State.decodeAll (s : State) (h d : Nat) : Nat → State
  | 0 => s
  | n + 1 => (s.decodeNext h d).decodeAll h d n

/-- Cycles of a decoded codeword, from its status entries (R221, R242). -/
def State.workCycles (s : State) (w : HarqWork) : Nat :=
  ((List.range (workBlocks w.kind w.desc)).map (fun b =>
    let e := s.memNat (terraceBase w.hall + decStatusOut w.desc + 8 * b) 8
    if w.kind = 1 then 16 + bits e 59 56 * (8 + ceilDiv ((turboBlocks (turTbs w.desc)).getD b 40) 192)
    else 8 + bits e 59 56 * bits e 55 44)).sum

/-- A decoded codeword's work ends (R216, R231, R246): the transport block is written and its check tells; the work is kept for its
store, and without one, for outer iterations while its slot is armed. -/
def State.decodeEnd (s : State) (w : HarqWork) : State × Result :=
  let d := w.desc
  let h := w.hall
  let n := workBlocks w.kind d
  let good := (w.passed.filter id).length
  let tb := workTbOk w.kind d w.blocks
  let cyc := s.workCycles w
  let w' := { w with complete := true, tbOk := tb }
  let s := s.writeTb w.kind h d w.blocks
  let kept := decide (w.kind = 0) && !w.released && (s.armOf w.carrier w.slot).isSome
  let s := if w.released || !(kept || decStore d) then s.workFinal w' else s
  let s := if kept || decStore d then s.setWork w w' else { s with harq := s.harq.filter (fun x => decide (x ≠ w)) }
  (s, ⟨0, false, false, cyc, good, (if tb then 32768 else 0) + (n - good)⟩)

/-- A decoded descriptor of engine e completes. -/
def State.decodeDone (s : State) (h e off d : Nat) (running : Bool) : State :=
  match s.workOf h d with
  | none => s
  | some w =>
    let q := s.decodeEnd w
    let s := q.1.writeBack h off q.2.cycles
    if running then s.finishRun h e d q.2 else s.finishHead h e d q.2

/-- A DEC or TURBO decode is taken (R218, R230, R234): HARQ_BUSY if its process is in use; else its prior is chosen. -/
def State.beginWork (s : State) (h kind : Nat) (d : Nat) (released : Bool) : State :=
  let p := s.choosePrior h kind d
  let w : HarqWork :=
    { hall := h, carrier := dCarrier d, slot := s.descSlot d, desc := d, kind := kind, prior := p.2, complete := false
      released := released, passed := [], blocks := [], tbOk := false }
  { p.1 with harq := p.1.harq ++ [w] }

/-- Whether a carrier slot has been released already. -/
def State.slotReleased (s : State) (c : Nat) (S : Int) : Bool :=
  decide ((s.ulBuf (s.bufOf c S)).st = 0) && decide ((s.ulBuf (s.bufOf c S)).slot = S)

/-- DEC taken (R218): with WAIT_DET = 0 decoded whole, with WAIT_DET = 1 block by block (R222). -/
def State.decTaken (s : State) (h : Nat) (r : EngRun) : State :=
  let d := r.desc
  let c := dCarrier d
  let S := s.descSlot d
  if !s.decOk d then s.finishHead h 4 d (Result.only 2)
  else if decStore d ∧ (s.armOf c S).isNone then s.finishHead h 4 d (Result.only 4)
  else if s.procInUse (decProc d) then s.finishHead h 4 d (Result.only 7)
  else
    let s := s.beginWork h 0 d (s.slotReleased c S)
    if decWait d then (s.engPop h 4).setEngRun h 4 (some r)
    else (s.decodeAll h d (decSeg d).c).decodeDone h 4 r.off d false

/-- DEC (R217 to R225, R230). -/
def execDec (h : Fin 16) (s : State) : Host.Outcome State Fault Refusal :=
  .next (s.takeHead h 4 [8] (fun r s => s.decTaken h r))

/-- Whether a DETECT of a carrier slot still queued in the hall will write the byte at an offset (R222). -/
def State.detectPending (s : State) (h a c : Nat) (S : Int) : Bool :=
  (tabGet [] (s.sch h).engq 0xF3).any (fun p =>
    offOk p.2 &&
    (let d := s.readDesc h (bits p.2 23 0)
     decide (dOp d = 4) && s.sameSlot d c S
     && (ues d).any (fun f => decide (ueLlrOut f ≤ a) && decide (a < ueLlrOut f + s.ueLlrLen d f))))

/-- R222: the next block of a DEC with WAIT_DET may start: the slot's detection has written the last of its LLRs; or they lie in no
DETECT's region, every window of the slot has closed and the slot has been released. -/
def State.blockReady (s : State) (w : HarqWork) : Bool :=
  let d := w.desc
  let q := decNl d * decQm d
  let c := (decSeg d).c
  let b := w.passed.length
  let last := decLlrIn d + eStart (decG d) q c (b + 1) - 1
  !s.detectPending w.hall last w.carrier w.slot &&
    (s.llrDone.any (fun x => decide (x.hall = w.hall) && decide (x.carrier = w.carrier) && decide (x.slot = w.slot)
        && decide (x.first ≤ last) && decide (last < x.first + x.len))
      || (w.released && decide (s.windowClose w.carrier w.slot (s.symbolsPerSlot w.carrier - 1) ≤ s.now)))

/-- DEC_BLOCK_START (R222): the running DEC of hall h starts its next block, and completes with its last. -/
def execDecBlockStart (h : Fin 16) (s : State) : Host.Outcome State Fault Refusal :=
  .next <|
    match s.engRun h 4 with
    | none => s
    | some r =>
      match s.workOf h r.desc with
      | none => s
      | some w =>
        if !s.blockReady w then s
        else
          let s := s.decodeBlock w w.passed.length
          if w.passed.length + 1 = (decSeg r.desc).c then s.decodeDone h 4 r.off r.desc true else s

/-- HARQ_STORE (R231, R232): the oldest completed work of hall h whose slot is released is stored; the RELEASE of the
slot completes after its last commit word. -/
def execHarqStore (h : Fin 16) (bad : List Nat) (s : State) : Host.Outcome State Fault Refusal :=
  .next <|
    match s.harq.find? (fun w => decide (w.hall = h.val) && w.complete && w.released && decStore w.desc) with
    | none => s
    | some w =>
      let s := s.storeWork w bad
      let s := { s with harq := s.harq.filter (fun x => decide (x ≠ w)) }
      match s.engRun h 0 with
      | some r =>
        if dOp r.desc = 2 ∧ s.sameSlot r.desc w.carrier w.slot ∧ !s.storesDue h w.carrier w.slot then s.releaseDone h r
        else s
      | none => s

/-! ### Encoding (R236, R237) -/

def encTbs (d : Nat) : Nat := bits d 431 411
def encSeg (d : Nat) : Seg := ldpcSeg (encTbs d) (bitAt d 410)

/-- Cycles of an ENC (R237). -/
def encCost (d : Nat) : Nat :=
  let g := encSeg d
  let q := bits d 403 401 * bits d 407 404
  ((List.range g.c).map (fun b =>
    max (150 + 4 * (if bitAt d 410 then 42 else 46)) (16 + ceilDiv (eOf (bits d 400 380) q g.c b) 64))).sum

/-- `ENC_BACKLOG` (R237). -/
def State.encBacklog (s : State) (h : Nat) : Nat :=
  ((tabGet [] (s.sch h).engq 0xF5).map (fun p =>
    let d := s.readDesc h (bits p.2 23 0)
    if offOk p.2 ∧ dOp d = 9 then encCost d else 0)).sum

/-- An ENC's fields are in range (R236). -/
def encOk (d : Nat) : Bool :=
  decide (24 ≤ encTbs d) && decide (encTbs d ≤ 1277992) && [2, 4, 6, 8, 10].contains (bits d 407 404)
  && decide (1 ≤ bits d 403 401) && decide (bits d 403 401 ≤ 4) && decide (1 ≤ bits d 400 380)
  && decide (bits d 455 432 % 64 = 0) && inSlice (bits d 479 456) (ceilDiv (encTbs d) 8)
  && inSlice (bits d 455 432) (ceilDiv (bits d 400 380) 8)

/-- The G coded bits of an ENC (R236); bits that the layers and the modulation leave over are free. -/
def State.encBits (s : State) (h d : Nat) : List Bool :=
  let g := encSeg d
  let tb := (bitsOfBytes (s.readMem (terraceBase h + bits d 479 456) (ceilDiv (encTbs d) 8))).take (encTbs d)
  s.fitBits (bits d 400 380) (ldpcCodeword g (bitAt d 410) (ncbOf g (bitAt d 379) (bits d 378 358)) (bits d 409 408)
    (bits d 400 380) (bits d 403 401) (bits d 407 404) tb)

/-- ENC taken. -/
def State.encTaken (s : State) (h : Nat) (r : EngRun) : State :=
  let d := r.desc
  let g := encSeg d
  if !(s.slotFieldsOk d && encOk d) then s.finishHead h 5 d (Result.only 2)
  else
    let s := ((s.engWrite h (bits d 455 432) (packBits (s.encBits h d))).freeUsed).bumpBy .encBlocks h g.c
    (s.writeBack h r.off (encCost d)).finishHead h 5 d ⟨0, false, false, encCost d, g.c, g.zc⟩

/-- ENC (R236, R237). -/
def execEnc (h : Fin 16) (s : State) : Host.Outcome State Fault Refusal :=
  .next (s.takeHead h 5 [9] (fun r s => s.encTaken h r))

/-! ### The shared codecs (R214, R215) -/

/-- The codec of the die of hall h that a descriptor of queue 0xF0 + e goes to: the lower-numbered free one. -/
def State.freeCodec (s : State) (h e : Nat) : Option Nat :=
  (if e = 7 then [2 * (h / 8), 2 * (h / 8) + 1] else [4 + h / 8]).find? (fun k => (s.codec k).isNone)

/-- The arbiter of the polar (e = 7) or turbo (e = 8) codecs of the die of hall h (R304). -/
def sharedArb (h e : Nat) : Nat := 200 + 2 * (h / 8) + (e - 7)

/-- A descriptor of hall h goes to a codec. -/
def State.toCodec (s : State) (h e k : Nat) (r : EngRun) : State := (s.engPop h e).setCodec k (some ⟨h, r⟩)

/-! ### Polar and convolutional codes (R238 to R240) -/

/-- A POLAR's fields are in range (R239). -/
def polarOk (d : Nat) : Bool :=
  let a := bits d 428 417
  let e := bits d 416 403
  let dec := bitAt d 431
  decide (1 ≤ a) && (decide (bits d 430 429 ≠ 2) || decide (a ≤ 1706)) && decide (1 ≤ e) && decide (bits d 386 384 ≤ 3)
  && inSlice (bits d 479 456) (if dec then e else ceilDiv a 8) && inSlice (bits d 455 432) (if dec then ceilDiv a 8 else ceilDiv e 8)

/-- POLAR taken: it waits for its codec. -/
def State.polarTaken (s : State) (h k : Nat) (r : EngRun) : State :=
  if !(s.slotFieldsOk r.desc && polarOk r.desc) then s.finishHead h 7 r.desc (Result.only 2) else s.toCodec h 7 k r

/-- A POLAR encodes (R238): the E coded bits of A payload bits. -/
def State.polarEncoded (s : State) (h d : Nat) : State :=
  let a := bits d 428 417
  let b := (bitsOfBytes (s.readMem (terraceBase h + bits d 479 456) (ceilDiv a 8))).take a
  let out := s.fitBits (bits d 416 403) (polarCodeword (bits d 430 429) (bits d 402 387) a (bits d 416 403) b)
  ((s.engWrite h (bits d 455 432) (packBits out)).freeUsed).bump .polarEncoded (h / 8)

/-- A POLAR decodes (R238): the A payload bits that the LLRs are decided to be; whether every check held, and the path metric. -/
def State.polarDecoded (s : State) (h d : Nat) : State × Bool × Nat :=
  let a := bits d 428 417
  let e := bits d 416 403
  let chan := bits d 430 429
  let llrs := (s.readMem (terraceBase h + bits d 479 456) e).map (fun b => b.toInt)
  let q := polarDecide chan (bits d 386 384) a e llrs
  let ok := q.all (fun p => polarHolds chan (bits d 402 387) a p.1)
  let s := s.engWrite h (bits d 455 432) (packBits (polarPayload chan a e (q.map (fun p => p.1))))
  ((s.bump .polarDecoded (h / 8)).bumpIf (!ok) .polarCrcFail (h / 8), ok, min 65535 (q.map (fun p => p.2)).sum)

/-- A POLAR completes (R216). -/
def State.polarDone (s : State) (h : Nat) (r : EngRun) : State :=
  let d := r.desc
  if bitAt d 431 then
    let q := s.polarDecoded h d
    (q.1.writeBack h r.off (polarCycles d)).finish h 7 d ⟨0, false, false, polarCycles d, if q.2.1 then 1 else 0, q.2.2⟩
  else ((s.polarEncoded h d).writeBack h r.off (polarCycles d)).finish h 7 d ⟨0, false, false, polarCycles d, 0, 0⟩

/-- A codec of the die of hall h completes what it executes, while its block runs. -/
def State.codecDone (s : State) (h k : Nat) (f : Nat → EngRun → State → State) : State :=
  match s.codec k with
  | some r => if (s.unit (unitBlock (h / 8))).st = unitRunning then f r.hall r.run (s.setCodec k none) else s
  | none => s

/-- POLAR (R215, R238 to R240): the block of hall h's die takes the head of the hall's queue, while that hall holds the grant, to a free
codec; or, with `fin`, that codec
of the die completes its descriptor. -/
def execPolar (h : Fin 16) (fin : Option (Fin 2)) (s : State) : Host.Outcome State Fault Refusal :=
  .next <|
    match fin with
    | some j => s.codecDone h (2 * (h.val / 8) + j.val) (fun h r s => s.polarDone h r)
    | none =>
      match s.freeCodec h 7 with
      | some k => s.granted (sharedArb h 7) (h % 8) h 7 (fun (s : State) => s.takeHead h 7 [0xA] (fun r s => s.polarTaken h k r))
      | none => s

/-! ### Turbo codes (R241, R242) -/

/-- A TURBO's fields are in range (R241). -/
def State.turboOk (s : State) (d : Nat) : Bool :=
  let c := (turboBlocks (turTbs d)).length
  let dec := bitAt d 366
  s.slotFieldsOk d && decide (1 ≤ turTbs d) && decide (turTbs d ≤ 391656) && decide (1 ≤ decNl d) && decide (decNl d ≤ 2)
  && qmOk (decQm d) && decide (c ≤ decG d)
  && (if dec then
        decide (1 ≤ decMaxIters d) && decide (decStatusOut d % 8 = 0) && inSlice (decStatusOut d) (8 * c)
        && inSlice (decLlrIn d) (decG d) && inSlice (decTbOut d) (ceilDiv (turTbs d) 8)
        && ((!decStore d && decNewData d) || decide ((decProc d : Int) < s.obj .harqProcCount 0))
      else inSlice (decLlrIn d) (ceilDiv (turTbs d) 8) && inSlice (decTbOut d) (ceilDiv (decG d) 8))

/-- TURBO taken: a decode chooses its prior and has its process in use from here on (R230, R234). -/
def State.turboTaken (s : State) (h k : Nat) (r : EngRun) : State :=
  let d := r.desc
  if !s.turboOk d then s.finishHead h 8 d (Result.only 2)
  else if !bitAt d 366 then s.toCodec h 8 k r
  else if decStore d ∧ (s.armOf (dCarrier d) (s.descSlot d)).isNone then s.finishHead h 8 d (Result.only 4)
  else if s.procInUse (decProc d) then s.finishHead h 8 d (Result.only 7)
  else (s.beginWork h 1 d (s.slotReleased (dCarrier d) (s.descSlot d))).toCodec h 8 k r

/-- A TURBO encodes (R241): the G coded bits of the transport block at LLR_IN; bits that G leaves over are free. -/
def State.turboEncoded (s : State) (h d : Nat) : State :=
  let tb := (bitsOfBytes (s.readMem (terraceBase h + decLlrIn d) (ceilDiv (turTbs d) 8))).take (turTbs d)
  let out := s.fitBits (decG d) (turboCodeword (turTbs d) (decRv d) (decG d) (decNl d * decQm d) tb)
  (s.engWrite h (decTbOut d) (packBits out)).freeUsed

/-- A TURBO completes. -/
def State.turboDone (s : State) (h : Nat) (r : EngRun) : State :=
  let d := r.desc
  let ks := turboBlocks (turTbs d)
  if !bitAt d 366 then
    let cyc := (ks.map (fun k => 16 + ceilDiv k 48)).sum
    ((s.turboEncoded h d).writeBack h r.off cyc).finish h 8 d ⟨0, false, false, cyc, 0, 0⟩
  else
    let s := s.decodeAll h d ks.length
    match s.workOf h d with
    | none => s
    | some w =>
      let q := s.decodeEnd w
      (q.1.writeBack h r.off q.2.cycles).finish h 8 d q.2

/-- TURBO (R215, R241, R242): as POLAR, with the die's one turbo codec. -/
def execTurbo (h : Fin 16) (fin : Bool) (s : State) : Host.Outcome State Fault Refusal :=
  .next <|
    if fin then s.codecDone h (4 + h.val / 8) (fun h r s => s.turboDone h r)
    else
      match s.freeCodec h 8 with
      | some k => s.granted (sharedArb h 8) (h % 8) h 8 (fun (s : State) => s.takeHead h 8 [0xB] (fun r s => s.turboTaken h k r))
      | none => s

/-! ### HARQ FREE (R235) -/

/-- Processes p, p + 1, … freed; slots and valid processes freed. -/
def State.freeRange (s : State) (p : Nat) : Nat → State × Nat × Nat
  | 0 => (s, 0, 0)
  | n + 1 =>
    let r := s.freeRange p n
    let v := bitAt (r.1.commitWord (p + n)) 63
    let q := r.1.freeProc (p + n)
    (q.1, r.2.1 + q.2, r.2.2 + (if v then 1 else 0))

/-- HARQ taken: it waits while a process of its range is in use. -/
def State.harqFreeTaken (s : State) (h : Nat) (r : EngRun) : State :=
  let d := r.desc
  let p := bits d 255 236
  let n := bits d 235 216 + 1
  if bits d 215 212 ≠ 1 ∨ s.obj .harqProcCount 0 < ((p + n : Nat) : Int) then s.finishHead h 6 d (Result.only 2)
  else if s.harq.any (fun w => decide (p ≤ decProc w.desc) && decide (decProc w.desc < p + n) && s.procInUse (decProc w.desc))
  then s
  else
    let q := s.freeRange p n
    q.1.freeUsed.finishHead h 6 d
      ⟨0, false, false, Config.freeOf 8 [s.freeCtr, 4], min 65535 q.2.1, min 65535 q.2.2⟩

/-- HARQ_FREE (R235). The cycles it spends are free. -/
def execHarqFree (h : Fin 16) (s : State) : Host.Outcome State Fault Refusal :=
  .next (s.takeHead h 6 [0xC] (fun r s => s.harqFreeTaken h r))

end Sys2Proof.Machine
end

