-- ==== Sys2Proof/Machine/Bundle.lean ====
section
/-! DEFINITION. A bundle with its scheduler call and the scheduler's part in a change of the core's state: BUNDLE_ISSUE,
and one operation or word issued beside NOP. -/

namespace Sys2Proof.Machine

/-- What the scheduler does at a change of a core's state (R130, R138, R535): a core that entered HALTED_FAULT leaves its
thread FAULTED, and a retired one leaves every AFFINITY; one that left RUN has INT_PREEMPT withdrawn; one that returned to
RUN without SCH_SWITCH is asked again. -/
def State.afterCore (s : State) (before : Int) (c : Nat) : State :=
  let now := s.obj .coreState c
  if now = coreHaltedFault ∧ before ≠ coreHaltedFault then
    let s := s.threadFaulted c
    if (s.unit (unitCore c)).st = unitRetired then s.dropAffinity c else s
  else if now = coreRun ∧ before ≠ coreRun then s.preemptAgain c
  else if before = coreRun ∧ now ≠ coreRun then s.withdrawPreempt c
  else s

/-- A bundle runs at PC (R78 to R94, R131). -/
def State.runBundle (s : State) (c : Nat) (b : Bundle) (resp : Bool) : State :=
  (s.issueBundle c b resp (State.schedCall c)).afterCore (s.obj .coreState c) c

/-- The oldest posted store that failed, and the list without it. -/
def firstFailed : List (Nat × Bool) → Option (Nat × List (Nat × Bool))
  | [] => none
  | (a, true) :: r => some (a, r)
  | (a, false) :: r =>
    match firstFailed r with
    | some (x, l) => some (x, (a, false) :: l)
    | none => none

/-- A WINDOW_ASYNC held pending is taken at a bundle boundary (R64, R90): EPC at the bundle not yet issued, EADDR the failing global
address. It is no synchronous exception: no double fault with EXL = 1 (log entry 24). A bundle stalled there is abandoned (log
entry 91). -/
def State.takeAsync (s : State) (c : Nat) : State :=
  match (s.core c).async with
  | [] => s
  | a :: rest =>
    if s.atBoundary c then
      let s := (s.setCore c { s.core c with async := rest }).countRaised c 13
      ((s.enterHandler c 13 5 (s.pc c) a).bump .coreExceptions c).afterCore (s.obj .coreState c) c
    else s

/-- What a core does at a boundary where something is to issue: that, or a pending WINDOW_ASYNC first (R90). -/
def State.atIssue (s : State) (c : Nat) (f : State → State) : State := if s.issues c then f s else s.takeAsync c

/-- One operation beside NOP issues at PC, if the core issues. -/
def State.issueSolo (s : State) (c slot : Nat) (op : CoreOp) : State :=
  s.atIssue c (fun (s : State) => s.runBundle c (soloBundle slot op) false)

/-- A bundle of two given words issues at PC, if the core issues. -/
def State.issueWords (s : State) (c : Nat) (b : Bundle) : State :=
  s.atIssue c (fun (s : State) => s.runBundle c b false)

/-- BUNDLE_ISSUE (R78): the bundle at PC is fetched, decoded and run; a fetch that fails raises FETCH_ADDR or
FETCH_ECC. The word fetched is a demand read (R65, R325). -/
def execBundleIssue (c : Fin 192) (s : State) : Host.Outcome State Fault Refusal :=
  .next <|
    s.atIssue c (fun (s : State) =>
      let t := if s.pc c < 0x18000 then s.demandWord (.core c (s.pc c)) 0 else s
      match s.fetchBundle c with
      | .inl b => t.runBundle c b false
      | .inr code => (t.raiseExc c code 0 (s.pc c) 0).afterCore (s.obj .coreState c) c)

end Sys2Proof.Machine
end

