-- ==== Sys2Proof/Machine/CoreScalar.lean ====
section
/-! DEFINITION. The scalar operations, moves and control instructions of a Wylen core, each issued at the core's PC
beside NOP (R53 to R96), and the events of its window accesses, interrupts and debug. A core that does not issue
(R93) runs none of them. -/

namespace Sys2Proof.Machine

/-! ### Arithmetic (R66 to R69) -/

/-- ADD (R69): Dd = Ds + Dt, saturated, with flags if F. -/
def execAdd (c : Fin 192) (d a b : Fin 16) (f : Bool) (s : State) : Host.Outcome State Fault Refusal :=
  .next (s.issueSolo c 3 (.add d a b f))

/-- SUB (R69): Dd = Ds − Dt, saturated, with flags if F. -/
def execSub (c : Fin 192) (d a b : Fin 16) (f : Bool) (s : State) : Host.Outcome State Fault Refusal :=
  .next (s.issueSolo c 3 (.sub d a b f))

/-- MPY (R66, R69): ACCn = product, with flags if F. -/
def execMpy (c : Fin 192) (n : Fin 4) (a : Fin 16) (ha : Bool) (b : Fin 16) (hb : Bool) (sh : Fin 4) (f : Bool) (s : State) :
    Host.Outcome State Fault Refusal :=
  .next (s.issueSolo c 3 (.mpy n a ha b hb sh f))

/-- MAC (R66, R69): ACCn = ACCn + product, with flags if F. -/
def execMac (c : Fin 192) (n : Fin 4) (a : Fin 16) (ha : Bool) (b : Fin 16) (hb : Bool) (sh : Fin 4) (f : Bool) (s : State) :
    Host.Outcome State Fault Refusal :=
  .next (s.issueSolo c 3 (.mac n a ha b hb sh f))

/-- MSU (R66, R69): ACCn = ACCn − product, with flags if F. -/
def execMsu (c : Fin 192) (n : Fin 4) (a : Fin 16) (ha : Bool) (b : Fin 16) (hb : Bool) (sh : Fin 4) (f : Bool) (s : State) :
    Host.Outcome State Fault Refusal :=
  .next (s.issueSolo c 3 (.msu n a ha b hb sh f))

/-- EXTH (R67): Dd.H or Dd.L = exth(ACCn, s). -/
def execExth (c : Fin 192) (d : Fin 16) (hd : Bool) (n : Fin 4) (sc : Fin 16) (rm : Fin 4) (f : Bool) (s : State) :
    Host.Outcome State Fault Refusal :=
  .next (s.issueSolo c 3 (.exth d hd n sc rm f))

/-- EXTW (R67): Dd = extw(ACCn, s). -/
def execExtw (c : Fin 192) (d : Fin 16) (n : Fin 4) (sc : Fin 16) (rm : Fin 4) (f : Bool) (s : State) :
    Host.Outcome State Fault Refusal :=
  .next (s.issueSolo c 3 (.extw d n sc rm f))

/-- ASRR (R67): Dd = round(Ds, n). -/
def execAsrr (c : Fin 192) (d a n : Fin 16) (rm : Fin 4) (f : Bool) (s : State) : Host.Outcome State Fault Refusal :=
  .next (s.issueSolo c 3 (.asrr d a n rm f))

/-- CLR (R82): ACCn = 0. -/
def execClr (c : Fin 192) (n : Fin 4) (s : State) : Host.Outcome State Fault Refusal :=
  .next (s.issueSolo c 3 (.clr n))

/-! ### Control (R74 to R77, R84, R85, R89) -/

/-- BRA (R76, R84). -/
def execBra (c : Fin 192) (cond : Fin 16) (off : BitVec 21) (s : State) : Host.Outcome State Fault Refusal :=
  .next (s.issueSolo c 3 (.bra cond off.toInt))

/-- CALL (R76): continues at the target; no repeat level is discarded; the return address is kept (log entry 19). -/
def execCall (c : Fin 192) (target : BitVec 24) (s : State) : Host.Outcome State Fault Refusal :=
  .next (s.issueSolo c 3 (.call (target.toNat / 8 * 8)))

/-- RET (R76): continues at the return address of the innermost CALL; with none, at a free address. -/
def execRet (c : Fin 192) (s : State) : Host.Outcome State Fault Refusal :=
  .next (s.issueSolo c 3 .ret)

/-- REP (R74): the count is the immediate, or the register it names. -/
def execRep (c : Fin 192) (imm : Bool) (cnt : BitVec 10) (fin : BitVec 14) (s : State) :
    Host.Outcome State Fault Refusal :=
  .next (s.issueSolo c 3 (.rep imm (if imm then cnt.toNat else cnt.toNat % 16) fin.toNat))

/-- MVC (R56, R57): direction 0 writes control register `num` from Dn, direction 1 reads it into Dn. -/
def execMvc (c : Fin 192) (dir : Bool) (num : BitVec 8) (n : Fin 16) (s : State) : Host.Outcome State Fault Refusal :=
  .next (s.issueSolo c 3 (.mvc dir num.toNat n))

/-- RTE (R89): SST takes ESST and issue continues at EPC. -/
def execRte (c : Fin 192) (s : State) : Host.Outcome State Fault Refusal :=
  .next (s.issueSolo c 3 .rte)

/-- TRAP (R85): the TRAP exception, EPC at the next bundle. -/
def execTrap (c : Fin 192) (s : State) : Host.Outcome State Fault Refusal :=
  .next (s.issueSolo c 3 .trap)

/-- BKPT (R85, R95): BREAKPOINT, or HALTED_DEBUG when `CORE_BKPT_HALT` is 1. -/
def execBkpt (c : Fin 192) (s : State) : Host.Outcome State Fault Refusal :=
  .next (s.issueSolo c 3 .bkpt)

/-- NOP (R78). -/
def execNop (c : Fin 192) (s : State) : Host.Outcome State Fault Refusal :=
  .next (s.issueWords c ⟨nopWord, nopWord⟩)

/-! ### Moves (R58 to R65, R70 to R72, R82, R83) -/

/-- FULL_FORM_MOVE (R71): one M-class word. -/
def execFullFormMove (c : Fin 192) (w : BitVec 29) (s : State) : Host.Outcome State Fault Refusal :=
  .next (s.issueWords c ⟨decodeM (0x60000000 + w.toNat), nopWord⟩)

/-- COMPACT_MOVE (R82): one P-class word. -/
def execCompactMove (c : Fin 192) (w : BitVec 29) (s : State) : Host.Outcome State Fault Refusal :=
  .next (s.issueWords c ⟨decodeP (0x80000000 + w.toNat), nopWord⟩)

/-- COMPACT_MULTIPLY_MOVE (R82): one Q-class word. -/
def execCompactMultiplyMove (c : Fin 192) (w : BitVec 29) (s : State) : Host.Outcome State Fault Refusal :=
  .next (s.issueWords c ⟨decodeQ (0xA0000000 + w.toNat), nopWord⟩)

/-! ### Interrupts and window events (R63, R64, R90, R121) -/

/-- A gather or scatter abandoned at an interrupt with the elements below `done` committed (R121): EIDX is the first uncommitted
element, one that would fault before `done` among them; a stalled instruction has at least its last element uncommitted. -/
def State.abandonGather (s : State) (c : Nat) (v : VecWord) (done : Nat) : State :=
  let old := s.core c
  let st := gatherStart old
  let upto := max st (min done (elemCount v.ty 0 - 1))
  let r := s.elemRun c old v (upto - st) st
  let first := match r.2 with
    | some (i, _, _) => i
    | none => upto
  let s := r.1
  let k := s.core c
  let s := s.setCore c { k with vstate := { k.vstate with rs := true, eidx := first }, stall := none }
  s.setObj .coreLastVstate c (s.core c).vstate.toWord

/-- The lowest pending interrupt code. -/
def lowestInt : List Nat → Option Nat
  | [] => none
  | x :: r =>
    match lowestInt r with
    | none => some x
    | some y => some (min x y)

/-- INTERRUPT_TAKEN (R90): at a bundle boundary a pending WINDOW_ASYNC goes first; else, with IE = 1 and EXL = 0, the lowest pending
code is taken, EPC at the bundle not yet issued; a bundle stalled on a window load or FENCE is abandoned, a gather after `done`
elements. With `debug` the debug unit asserts its request, which makes INT_DEBUG pending (R85, log entry 90). -/
def execInterruptTaken (c : Fin 192) (done : Fin 16) (debug : Bool) (s : State) : Host.Outcome State Fault Refusal :=
  .next <|
    let s := if debug then s.raiseInt c 0x13 else s
    let k := s.core c
    if !k.async.isEmpty then s.takeAsync c
    else if !s.atBoundary c || !k.sst.ie || k.sst.exl then s
    else
      match lowestInt k.ints with
      | none => s
      | some code =>
        let s := match k.stall with
          | some b =>
            (match gatherOf (b.w0.ops ++ b.w1.ops) with
            | some v => s.abandonGather c v done
            | none => s)
          | none => s
        let s := s.setCore c { s.core c with ints := k.ints.filter (fun x => decide (x ≠ code)) }
        (s.enterHandler c code 5 (s.pc c) 0).bump .coreInterrupts c

/-- WINDOW_ASYNC (R64, R90): the error response of the oldest failed posted store arrives. The exception is taken at once if the
core is at a bundle boundary; else it is held pending and taken before whatever issues next. -/
def execWindowAsync (c : Fin 192) (s : State) : Host.Outcome State Fault Refusal :=
  .next <|
    let k := s.core c
    match firstFailed k.posted with
    | none => s.takeAsync c
    | some (a, rest) => (s.setCore c { k with posted := rest, async := k.async ++ [a] }).takeAsync c

/-- Cycles a window load takes (R81): 20 to 60 for the own hall's Terrace, otherwise the latency of the Gallery, which is free. -/
def State.loadWait (s : State) (c : Nat) (g : Nat) : Nat :=
  if terraceHall g = some (c / 12) then 19 + s.free % 41 else s.free

/-- The state with CYC advanced by what a window load at a global address took. -/
def State.spendLoad (s : State) (c g : Nat) : State :=
  (s.setCore c { s.core c with cyc := ((s.core c).cyc + s.loadWait c g) % 2 ^ 64 }).freeUsed

/-- The response of a gather that waits, for element i (R117, R119): the global address it stood for, if i is an active element from
the start on that lies in a window. -/
def State.elemWaits (s : State) (k : CoreSt) (v : VecWord) (i : Nat) : Option Nat :=
  if gatherStart k ≤ i ∧ i < elemCount v.ty 0 ∧ k.active v i = true ∧ v.op = .vgather then
    match s.place k (gatherAddr k v i) (elemBytes v.ty) with
    | .window _ g true => some g
    | _ => none
  else none

/-- The response for element i of a stalled gather was an error (R119): the first element that faults is the one, this or an earlier
one. -/
def State.elemError (s : State) (c : Nat) (v : VecWord) (i code g : Nat) : State :=
  let k := s.core c
  let st := gatherStart k
  let r := s.elemRun c k v (i - st) st
  let t := if k.sst.exl then s else r.1
  match r.2 with
  | some (j, code', ea) => t.elemFault c v j code' ea
  | none => t.elemFault c v i code g

/-- The status of the response to a load at a global address (R295, R532): REFUSED if its unit restarted meanwhile, or does not run. -/
def State.loadStatus (s : State) (k : CoreSt) (g status : Nat) : Nat :=
  match s.unitOfAddr g with
  | some u => if k.lost.contains u ∨ (s.unit u).st ≠ unitRunning then 2 else status
  | none => status

/-- WINDOW_LOAD_RESPONSE (R63, R65): the response of the load a bundle waits for arrives. Status 0 commits the bundle;
1 (UNCORRECTABLE) raises DATA_ECC and any other ACCESS (R532), for the first load in R87's order of slots. For a gather the
response concerns element `elem`. A bundle that waits on FENCE has not loaded yet. -/
def execWindowLoadResponse (c : Fin 192) (status : Fin 5) (elem : Fin 16) (s : State) :
    Host.Outcome State Fault Refusal :=
  .next <|
    let k := s.core c
    match k.stall with
    | none => s
    | some b =>
      let ops := b.w0.ops ++ b.w1.ops
      let t := s.setCore c { k with stall := none }
      if !s.atBoundary c || (ops.any (fun o => decide (o = .fence)) && !k.posted.isEmpty) then s
      else
        match gatherOf ops with
        | some v =>
          match s.elemWaits k v elem with
          | some g =>
            let t := t.spendLoad c g
            let st := s.loadStatus k g status
            if st = 0 then t.runBundle c b true
            else (t.elemError c v elem (if st = 1 then 9 else 8) g).afterCore (s.obj .coreState c) c
          | none => s
        | none =>
          match (xThenY ops).find? (s.isWindowLoad k) with
          | some (.move m) =>
            let g := placeAddr (k.moveAddr m) (s.movePlace k m)
            let t := t.spendLoad c g
            let st := s.loadStatus k g status
            if st = 0 then t.runBundle c b true
            else (t.raiseExc c (if st = 1 then 9 else 8) (moveSlot m) (s.pc c) g).afterCore (s.obj .coreState c) c
          | _ => s

/-- FENCE (R63, R64): completes once every earlier posted store of the core is acknowledged; until then its bundle stalls. A bundle
stalled on FENCE runs, with the other word it holds, when the command comes again after the last acknowledgement. -/
def execFence (c : Fin 192) (s : State) : Host.Outcome State Fault Refusal :=
  .next <|
    let k := s.core c
    match k.stall with
    | some b =>
      if (b.w0.ops ++ b.w1.ops).any (fun o => decide (o = .fence)) && k.posted.isEmpty && k.async.isEmpty && s.atBoundary c then
        (s.setCore c { k with stall := none }).runBundle c b false
      else s.takeAsync c
    | none => s.issueSolo c 3 .fence

/-! ### Debug (R94, R95) -/

/-- CORE_HALT (R94): a core in RUN or HANDLER halts at its next boundary; in OFF, REJOINING and IDLE the request is held. In
HALTED_DEBUG and HALTED_FAULT the write is accepted and leaves nothing (DESIGN CHOICE, log entry 92). -/
def execCoreHalt (a : Accessor) (c : Fin 192) (v : Nat) (s : State) : Host.Outcome State Fault Refusal :=
  .next (s.dictWrite a .coreHalt c v .ok (fun s =>
    let st := s.obj .coreState c
    let k := s.core c
    if st = coreHaltedDebug ∨ st = coreHaltedFault then s
    else (s.setCore c { k with haltReq := true }).takeHalt c))

/-- CORE_RESUME (R94): from HALTED_DEBUG to the state it left; refused with STATE in any other. -/
def execCoreResume (a : Accessor) (c : Fin 192) (v : Nat) (s : State) : Host.Outcome State Fault Refusal :=
  .next (s.dictWrite a .coreResume c v (.unless (decide (s.obj .coreState c = coreHaltedDebug)) .state)
    (fun s => (s.setObj .coreState c (s.core c).leftState).afterCore coreHaltedDebug c))

end Sys2Proof.Machine
end

