-- ==== Sys2Proof/Machine/Downlink.lean ====
section
/-! DEFINITION. Build releases (R151, R152) and the downlink build engine (R247 to R263). -/

namespace Sys2Proof.Machine

/-! ### Build releases -/

/-- A build release message (R152). -/
def State.buildReleaseMsg (s : State) (c : Nat) (S : Int) (late : Bool) : Nat :=
  toField 64 (s.slotStart c S) * 2 ^ 64 + s.sfnOf c S * 2 ^ 54 + (s.slotInFrame c S % 1024) * 2 ^ 44 + c * 2 ^ 34 + 2 ^ 24
    + (if late then 2 ^ 23 else 0)

/-- The release of a slot is posted (R151) and traced (R154); the slot's job no longer waits for one. -/
def State.postBuildRelease (s : State) (c : Nat) (S : Int) (late : Bool) : State :=
  let T := s.slotStart c S
  let h := s.hallAt T c
  let s := { s with dlJobs := s.dlJobs.filter (fun p => decide (p ≠ (c, S))) }
  let s := s.hwSend (64 * h + 15) (256 * h + (s.objAt T .carrierBuildQueue c).toNat) (s.buildReleaseMsg c S late)
  s.schTraceRec h 0x0F 15 none (traceArg 0x0F c)

/-- CARRIER_BUILD_RELEASE (R151): at T − `CARRIER_BUILD_OFFSET` of a slot of an admitted carrier with an accepted
downlink job. A standby runs no job and posts none (R546). -/
def execCarrierBuildRelease (c : Fin 768) (slot : Int) (s : State) : Host.Outcome State Fault Refusal :=
  .next <|
    if s.hallAt (s.slotStart c slot) c ≠ 255 ∧ s.dlJobs.contains (c.val, slot) ∧ s.obj .pairRole 0 ≠ 2
        ∧ s.slotStart c slot - s.objAt (s.slotStart c slot) .carrierBuildOffset c ≤ s.now then
      s.postBuildRelease c slot false
    else s

/-! ### Modulation and references (R252, R253) -/

/-- One step of the Gold sequence's first register (TS 38.211 clause 5.2.1). -/
def goldStep1 (x : Nat) : Nat := x / 2 + ((x / 8 + x) % 2) * 2 ^ 30

/-- One step of its second register. -/
def goldStep2 (x : Nat) : Nat := x / 2 + ((x / 8 + x / 4 + x / 2 + x) % 2) * 2 ^ 30

/-- A function applied n times. -/
def iterate (f : Nat → Nat) : Nat → Nat → Nat
  | 0, x => x
  | n + 1, x => iterate f n (f x)

/-- c(n) of the Gold sequence with N_C = 1,600 and an initial value. -/
def gold (init n : Nat) : Nat := (iterate goldStep1 (1600 + n) 1 + iterate goldStep2 (1600 + n) init) % 2

/-- The amplitude one component's bits select (TS 38.211 clause 5.1): (1 − 2b)(2^k − the rest). -/
def pam : List Nat → Int
  | [] => 0
  | [b] => 1 - 2 * (b : Int)
  | b :: c :: r => (1 - 2 * (b : Int)) * (2 ^ (r.length + 1) - pam (c :: r))

/-- The square of the divisor that gives a constellation unit power. -/
def qamNorm : Nat → Nat
  | 2 => 2 | 4 => 10 | 6 => 42 | 8 => 170 | _ => 682

/-- The integer nearest to the square root of a / b, ties to even. -/
def nearestSqrt (a b : Nat) : Nat :=
  let r := isqrt (a / b)
  let m := (2 * r + 1) * (2 * r + 1) * b
  if m < 4 * a then r + 1 else if m = 4 * a ∧ r % 2 = 1 then r + 1 else r

/-- The grid value of a component of amplitude a / √D under POWER, before saturation (R253): a × POWER / (4 √D). -/
def gridValue (a : Int) (d power : Nat) : Int :=
  let m : Int := nearestSqrt (a.natAbs * power * (a.natAbs * power)) (16 * d)
  if a < 0 then -m else m

/-! ### Allocation entries (R251) -/

def aeKind (x : Nat) : Nat := bits x 255 254
def aeSyms (x : Nat) : Nat := bits x 253 240
def aePrb (x : Nat) : Nat := bits x 239 231
def aePrbs (x : Nat) : Nat := bits x 230 222
def aeReMask (x : Nat) : Nat := bits x 221 210
def aeLayer (x : Nat) : Nat := bits x 209 205
def aeLayers (x : Nat) : Nat := bits x 204 200 + 1
def aeQm (x : Nat) : Nat := bits x 199 196
def aePower (x : Nat) : Nat := bits x 195 180
def aeInit (x : Nat) : Nat := bits x 179 149
def aeBit (x : Nat) : Nat := bits x 148 128
def aeSrc (x : Nat) : Nat := bits x 127 104
def aeBeam (x : Nat) : Nat := bits x 103 89
def aeOcc (x : Nat) : Nat := bits x 88 87

/-- The REs an entry visits, as symbol and subcarrier, in R252's order. -/
def aeRes (x : Nat) : List (Nat × Nat) :=
  (maskList 14 (aeSyms x)).flatMap (fun k => (List.range (aePrbs x)).flatMap (fun p =>
    (maskList 12 (aeReMask x)).map (fun j => (k, 12 * (aePrb x + p) + j))))

/-! ### BUILD fields (R249) -/

def bdList (d : Nat) : Nat := bits d 479 456
def bdCount (d : Nat) : Nat := bits d 455 446
def bdSyms (d : Nat) : Nat := bits d 445 432
def bdStreams (d : Nat) : Nat := bits d 431 427 + 1
def bdCatA (d : Nat) : Bool := bitAt d 426
def bdComp (d : Nat) : Nat := bits d 425 424
def bdWidth (d : Nat) : Nat := bits d 423 420 + 1
def bdW (d : Nat) : Nat := 256 * bits d 419 404
def bdGroup (d : Nat) : Nat := if bitAt d 403 then 12 else 6
def bdLayers (d : Nat) : Nat := bits d 402 399 + 1
def bdTd (d : Nat) : Bool := bitAt d 398
def bdGrid (d : Nat) : Nat := bits d 397 374
def bdPrbs (d : Nat) : Nat := bits d 373 365
def bdSymCount (d : Nat) : Nat := if bitAt d 364 then 12 else 14

/-- The layers of the grid: L in category A, the streams in category B (R255). -/
def bdGridLayers (d : Nat) : Nat := if bdCatA d then bdLayers d else bdStreams d

/-- The allocation list of a BUILD. -/
def State.allocList (s : State) (h d : Nat) : List Nat :=
  (List.range (bdCount d)).map (fun i => s.memNat (terraceBase h + bdList d + 32 * i) 32)

/-- R251: an entry's values are in range. -/
def aeOk (d x : Nat) : Bool :=
  let n := (aeRes x).length
  (decide (aeKind x ≠ 1) || decide (popCount 14 (aeSyms x) = 1))
  && decide (1 ≤ aePrbs x) && decide (aePrb x + aePrbs x ≤ bdPrbs d) && decide (aeSyms x < 2 ^ bdSymCount d)
  && decide (aeLayer x + aeLayers x ≤ bdGridLayers d) && (decide (aeKind x ≠ 0) || decide (aeLayers x ≤ 8))
  && (if aeKind x = 0 then [2, 4, 6, 8, 10].contains (aeQm x) else decide (aeQm x = 0))
  && (decide (aeKind x ≠ 2) || decide (aeBit x = 0))
  && (decide (aeKind x ≠ 1) || decide (aeBit x % 2 = 0))
  && (if aeKind x = 0 then inSlice (aeSrc x) (ceilDiv (aeBit x + aeQm x * aeLayers x * n) 8)
      else if aeKind x = 2 then inSlice (aeSrc x) (4 * aeLayers x * n) else true)

/-- The streams an entry feeds: its layers in category B, every stream in category A. -/
def aeFeeds (d x t : Nat) : Bool := bdCatA d || (decide (aeLayer x ≤ t) && decide (t < aeLayer x + aeLayers x))

/-- Whether an entry covers PRB p of symbol k. -/
def aeCovers (x k p : Nat) : Bool := bitAt (aeSyms x) k && decide (aePrb x ≤ p) && decide (p < aePrb x + aePrbs x)

/-- List indices of the entries that cover a PRB of a stream and symbol (R257). -/
def coverSet (d : Nat) (l : List Nat) (t k p : Nat) : List Nat :=
  (List.range l.length).filter (fun i => let x := l.getD i 0; aeFeeds d x t && aeCovers x k p)

/-- R250: modulation compression needs one Qm and POWER over each PRB of a stream and no KIND 2 entry. -/
def modCompOk (d : Nat) (l : List Nat) : Bool :=
  (List.range (bdStreams d)).all (fun t => (maskList 14 (bdSyms d)).all (fun k => (List.range (bdPrbs d)).all (fun p =>
    let xs := (coverSet d l t k p).map (fun i => l.getD i 0)
    xs.all (fun x => decide (aeKind x ≠ 2)) &&
    (match xs with
      | [] => true
      | y :: r => let q := fun (x : Nat) => (if aeKind x = 1 then 2 else aeQm x, aePower x); r.all (fun x => decide (q x = q y))))))

/-- The record of a carrier slot built so far. -/
def State.dlSlot (s : State) (c : Nat) (S : Int) : Option DlSlot :=
  s.dlSlots.find? (fun x => decide (x.carrier = c) && decide (x.slot = S))

/-- log2 of the grid's transform size: the smallest from 128 that holds the carrier (log entry 46). -/
def gridLog (prbs : Nat) : Nat := ((List.range 6).map (· + 7)).find? (fun k => decide (12 * prbs < 2 ^ k)) |>.getD 12

/-- R250: a BUILD is accepted. -/
def State.buildOk (s : State) (h d : Nat) : Bool :=
  let c := dCarrier d
  let S := s.descSlot d
  let l := s.allocList h d
  s.slotFieldsOk d && decide (bdList d % 32 = 0) && decide (1 ≤ bdCount d) && inSlice (bdList d) (32 * bdCount d)
  && decide (bdSyms d < 2 ^ bdSymCount d) && decide (bdComp d < 3) && decide (8 ≤ bdWidth d)
  && decide (1 ≤ bdPrbs d) && decide (bdPrbs d ≤ 273)
  && (!bdCatA d || (decide (bdStreams d ≤ 32) && decide (bdStreams d * bdLayers d ≤ 256)
      && inSlice (bdW d) (4 * ceilDiv (12 * bdPrbs d) (bdGroup d) * bdStreams d * bdLayers d)))
  && l.all (aeOk d)
  && (decide (bdComp d ≠ 2) || (!bdCatA d && !bdTd d && modCompOk d l))
  && (if bdTd d then
        decide (bdGrid d % 64 = 0) && inSlice (bdGrid d) (4 * bdStreams d * bdSymCount d * 2 ^ gridLog (bdPrbs d))
      else decide (s.obj .ethFsSize c ≠ 0))
  && (match s.dlSlot c S with
      | some x => (maskList 14 (bdSyms d)).all (fun k => decide (x.next ≤ k))
      | none => true)

/-! ### The grid (R252 to R255) -/

/-- A grid being written: values by (layer, symbol, subcarrier), components saturated, REs overwritten. -/
structure Grid where
  v : Tab (Int × Int)
  clips : Nat
  dup : Nat
  deriving DecidableEq, Repr

/-- The place of a value in a grid. -/
def gridKey (layer k sc : Nat) : Nat := (layer * 16 + k) * 4096 + sc

/-- One if the condition holds. -/
def one (b : Bool) : Nat := if b then 1 else 0

/-- A value written, each component saturated to 16 bits and counted. -/
def Grid.put (g : Grid) (key : Nat) (re im : Int) : Grid :=
  { v := tabInsert (tabErase g.v key) key (sat 32767 re, sat 32767 im)
    clips := g.clips + one (decide (sat 32767 re ≠ re)) + one (decide (sat 32767 im ≠ im))
    dup := g.dup + one (tabFind g.v key).isSome }

/-- Bit n of an entry's source, scrambled (R252). -/
def State.scrambled (s : State) (h x n : Nat) : Nat :=
  ((s.byteAt (terraceBase h + aeSrc x + n / 8)).toNat / 2 ^ (7 - n % 8) + gold (aeInit x) n) % 2

/-- The value an entry writes to layer l of RE r, before saturation (R252, R253). -/
def State.aeValue (s : State) (h x r l : Nat) : Int × Int :=
  match aeKind x with
  | 0 =>
    let q := aeQm x
    let i := aeBit x + q * (aeLayers x * r + l)
    let b := fun (o : Nat) => (List.range (q / 2)).map (fun j => s.scrambled h x (i + 2 * j + o))
    (gridValue (pam (b 0)) (qamNorm q) (aePower x), gridValue (pam (b 1)) (qamNorm q) (aePower x))
  | 1 =>
    let m := aeBit x / 2 + r
    let sg : Int := (if bitAt (aeOcc x) 0 ∧ r % 2 = 1 then -1 else 1) * (if bitAt (aeOcc x) 1 then -1 else 1)
    (gridValue (sg * (1 - 2 * (gold (aeInit x) (2 * m) : Int))) 2 (aePower x),
      gridValue (sg * (1 - 2 * (gold (aeInit x) (2 * m + 1) : Int))) 2 (aePower x))
  | 2 =>
    let a := terraceBase h + aeSrc x + 4 * (aeLayers x * r + l)
    (signExt 16 (s.memNat a 2), signExt 16 (s.memNat (a + 2) 2))
  | _ => (0, 0)

/-- Whether layer l of the grid is built: in category B a stream with no map entry is not (R259). -/
def layerBuilt (d : Nat) (ts : List Nat) (l : Nat) : Bool := bdCatA d || ts.contains l

/-- One entry applied to the symbols and streams being built. -/
def State.applyEntry (s : State) (h d : Nat) (syms ts : List Nat) (x : Nat) (g : Grid) : Grid :=
  (List.range (aeRes x).length).foldl (fun (g : Grid) r =>
    let re := (aeRes x).getD r (0, 0)
    if syms.contains re.1 then
      ((List.range (aeLayers x)).filter (fun l => layerBuilt d ts (aeLayer x + l))).foldl (fun (g : Grid) l =>
        let v := s.aeValue h x r l
        g.put (gridKey (aeLayer x + l) re.1 re.2) v.1 v.2) g
    else g) g

/-- The grid of a BUILD over some symbols and streams: its entries applied in list order (R254). -/
def State.buildGrid (s : State) (h d : Nat) (syms ts : List Nat) : Grid :=
  (s.allocList h d).foldl (fun (g : Grid) x => s.applyEntry h d syms ts x g) ⟨[], 0, 0⟩

/-- A value of the grid; an RE and layer written by no entry is zero (R254). -/
def Grid.at (g : Grid) (layer k sc : Nat) : Int × Int := (tabFind g.v (gridKey layer k sc)).getD (0, 0)

/-- A category A output before saturation (R255). -/
def State.precode (s : State) (h d : Nat) (g : Grid) (t k sc : Nat) : Int × Int :=
  let z := (List.range (bdLayers d)).foldl (fun (a : Int × Int) l =>
    let w := terraceBase h + bdW d + 4 * ((sc / bdGroup d * bdStreams d + t) * bdLayers d + l)
    let wr := signExt 16 (s.memNat w 2)
    let wi := signExt 16 (s.memNat (w + 2) 2)
    let x := g.at l k sc
    (a.1 + wr * x.1 - wi * x.2, a.2 + wr * x.2 + wi * x.1)) (0, 0)
  (roundHalfEven z.1 15, roundHalfEven z.2 15)

/-- The output value of a stream (R255). -/
def State.outValue (s : State) (h d : Nat) (g : Grid) (t k sc : Nat) : Int × Int :=
  if bdCatA d then let z := s.precode h d g t k sc; (sat 32767 z.1, sat 32767 z.2) else g.at t k sc

/-- Components that category A precoding saturates (R255). -/
def State.precodeClips (s : State) (h d : Nat) (g : Grid) (syms ts : List Nat) : Nat :=
  if !bdCatA d then 0
  else
    (ts.flatMap (fun t => syms.flatMap (fun k =>
      (List.range (12 * bdPrbs d)).map (fun sc =>
        let z := s.precode h d g t k sc
        one (decide (sat 32767 z.1 ≠ z.1)) + one (decide (sat 32767 z.2 ≠ z.2)))))).sum

/-! ### Compression (R256) -/

/-- Values packed most significant bit first, `w` bits each. -/
def packMsb (w : Nat) (l : List Int) : List Byte :=
  let n := ceilDiv (l.length * w) 8
  beBytes n (l.foldl (fun a v => a * 2 ^ w + toField w v) 0 * 2 ^ (8 * n - l.length * w))

/-- The block exponent of 24 components (R256). -/
def bfpExp (w : Nat) (l : List Int) : Nat :=
  ((List.range 16).find? (fun e => l.all (fun v => decide (sat (2 ^ (w - 1) - 1) (roundHalfEven v e) = roundHalfEven v e)))).getD 15

/-- The bits that select an entry's constellation point on layer l of RE r (R252, R256): of a reference those of its QPSK symbol, the
sign of OCC applied. -/
def State.pointBits (s : State) (h x r l : Nat) : List Nat :=
  if aeKind x = 1 then
    let m := aeBit x / 2 + r
    let neg := (if bitAt (aeOcc x) 0 ∧ r % 2 = 1 then 1 else 0) + (if bitAt (aeOcc x) 1 then 1 else 0)
    [(gold (aeInit x) (2 * m) + neg) % 2, (gold (aeInit x) (2 * m + 1) + neg) % 2]
  else (List.range (aeQm x)).map (fun j => s.scrambled h x (aeBit x + aeQm x * (aeLayers x * r + l) + j))

/-- The constellation index of a stream's RE under modulation compression (R256), `q` bits; of an RE at which no point stands it is free
(log entry 104). -/
def State.pointOf (s : State) (h : Nat) (l : List Nat) (q t k sc : Nat) : Nat :=
  let on := fun (x : Nat) => decide (aeLayer x ≤ t) && decide (t < aeLayer x + aeLayers x) && (aeRes x).contains (k, sc)
  match (l.filter on).getLast? with
  | some x =>
    if aeKind x = 3 then Config.freeOf 6 [s.freeCtr, t, k, sc] % 2 ^ q
    else (s.pointBits h x ((aeRes x).idxOf (k, sc)) (t - aeLayer x)).foldl (fun n b => 2 * n + b) 0
  | none => Config.freeOf 6 [s.freeCtr, t, k, sc] % 2 ^ q

/-- A PRB as it is sent (R256). -/
def State.prbBytes (s : State) (h d : Nat) (g : Grid) (al : List Nat) (q t k p : Nat) : List Byte :=
  let l := (List.range 12).flatMap (fun j => let v := s.outValue h d g t k (12 * p + j); [v.1, v.2])
  let w := bdWidth d
  match bdComp d with
  | 0 => packMsb w (l.map (sat (2 ^ (w - 1) - 1)))
  | 1 => BitVec.ofNat 8 (bfpExp w l) :: packMsb w (l.map (fun v => roundHalfEven v (bfpExp w l)))
  | _ => packMsb q ((List.range 12).map (fun j => (s.pointOf h al q t k (12 * p + j) : Int)))

/-! ### Frames (R257 to R260) -/

/-- Fields of a transmit-map entry (R259). -/
def tmCarrier (x : Nat) : Nat := bits x 126 117
def tmStream (x : Nat) : Nat := bits x 116 112
def tmEndpoint (x : Nat) : Nat := bits x 111 106
def tmEaxc (x : Nat) : Nat := bits x 105 90
def tmPort (x : Nat) : Nat := bits x 89 84
def tmQueueU (x : Nat) : Nat := bits x 83 81
def tmQueueC (x : Nat) : Nat := bits x 80 78
def tmMode (x : Nat) : Nat := bits x 77 77

/-- The transmit map in force for a slot: the newest that came into force by then (R259). -/
def State.txMapFor (s : State) (c : Nat) (S : Int) : List Nat :=
  match s.txMaps.find? (fun p => decide (p.1 ≤ s.slotStart c S)) with
  | some (_, t) => validEntries t
  | none => []

/-- The map entry of a stream in a slot. -/
def State.txEntry (s : State) (c t : Nat) (S : Int) : Option Nat :=
  (s.txMapFor c S).find? (fun x => decide (tmCarrier x = c) && decide (tmStream x = t))

/-- Entry e of the endpoint table (R394). -/
def State.endpoint (s : State) (e : Nat) : Nat := leAt (16 * e) 16 (s.dom .swEndpointTable 0)

/-- The Ethernet header of a frame to an endpoint (R394). -/
def State.macHeader (s : State) (x queue : Nat) : List Byte :=
  let ep := s.endpoint (tmEndpoint x)
  let pcp := (s.objN .ethQueuePcp (tmPort x) / 8 ^ queue) % 8
  beBytes 6 (bits ep 107 60) ++ beBytes 6 (s.objN .ethMacAddr (tmPort x) % 2 ^ 48)
    ++ (if bitAt ep 120 then beBytes 2 0x8100 ++ beBytes 2 (pcp * 8192 + bits ep 119 108) else []) ++ beBytes 2 0xAEFE

/-- The largest frame of a port without FCS: the limit of R373 for its tags, less 4. -/
def State.frameRoom (s : State) (x : Nat) : Nat :=
  s.objN .ethMaxFrame (tmPort x) + (if bitAt (s.endpoint (tmEndpoint x)) 120 then 4 else 0) - 4

/-- An eCPRI message: common header, PC_ID, SEQ_ID (with E set), then the payload (log entry 47). -/
def ecpri (ty eaxc seq : Nat) (payload : List Byte) : List Byte :=
  beBytes 2 (0x1000 + ty) ++ beBytes 2 (payload.length + 4) ++ beBytes 2 eaxc ++ beBytes 2 (seq % 256 * 256 + 0x80) ++ payload

/-- A frame ready to be handed over. -/
structure DlFrame where
  entry : Nat
  queue : Nat
  launch : Int
  close : Int
  body : List Byte
  deriving DecidableEq, Repr

/-- Key of a stream's SEQ_ID. -/
def txSeqKey (c t ty : Nat) : Nat := 256 * c + t + (if ty = 2 then 128 else 0)

/-- Payloads of one stream made into frames, its SEQ_ID counting. -/
def State.frameUp (s : State) (c t x ty queue : Nat) (launch close : Int) : List (List Byte) → State × List DlFrame
  | [] => (s, [])
  | p :: r =>
    let key := txSeqKey c t ty
    let n := tabGet 0 s.txSeq key
    let f : DlFrame := ⟨x, queue, launch, close, s.macHeader x queue ++ ecpri ty (tmEaxc x) n p⟩
    let q := State.frameUp { s with txSeq := tabSet 0 s.txSeq key ((n + 1) % 256) } c t x ty queue launch close r
    (q.1, f :: q.2)

/-- One PRB to send: its number, the sectionId, the udCompHdr byte and its bytes; a new section begins with it if
`fresh`. -/
structure UpPrb where
  prb : Nat
  fresh : Bool
  secNo : Nat
  hdr : Nat
  bytes : List Byte
  deriving DecidableEq, Repr

/-- PRBs packed into frames of at most `room` payload bytes: sections with their headers (R257). -/
def packPrbs (room : Nat) : List UpPrb → List (List (Nat × List UpPrb)) → List (List (Nat × List UpPrb))
  | [], acc => acc
  | u :: r, acc =>
    let size := fun (f : List (Nat × List UpPrb)) =>
      (f.map (fun x => 6 + (x.2.map (fun y => y.bytes.length)).sum)).sum
    match acc.reverse with
    | f :: fs =>
      match f.reverse with
      | sec :: secs =>
        if !u.fresh ∧ size f + u.bytes.length ≤ room then
          packPrbs room r ((fs.reverse) ++ [secs.reverse ++ [(sec.1, sec.2 ++ [u])]])
        else if size f + 6 + u.bytes.length ≤ room then packPrbs room r (fs.reverse ++ [f ++ [(u.secNo, [u])]])
        else packPrbs room r (acc ++ [[(u.secNo, [u])]])
      | [] => packPrbs room r (acc ++ [[(u.secNo, [u])]])
    | [] => packPrbs room r [[(u.secNo, [u])]]

/-- A U-plane section: header, udCompHdr, a reserved byte, the PRBs (R257). -/
def upSection (sec : Nat × List UpPrb) : List Byte :=
  match sec.2 with
  | [] => []
  | u :: r =>
    let n := r.length + 1
    beBytes 3 ((sec.1 % 4096) * 4096 + u.prb % 1024) ++ beBytes 1 (if 255 < n then 0 else n) ++ beBytes 1 u.hdr ++ beBytes 1 0
      ++ u.bytes ++ r.flatMap (fun y => y.bytes)

/-- The PRBs of a stream and symbol that some entry covers, ascending. -/
def State.upPrbs (s : State) (h d : Nat) (g : Grid) (l : List Nat) (t k : Nat) : List UpPrb :=
  ((List.range (bdPrbs d)).foldl (fun (a : List UpPrb × List Nat) p =>
    let cs := coverSet d l t k p
    match cs with
    | [] => (a.1, [])
    | i :: _ =>
      let x := l.getD i 0
      let q := if aeKind x = 1 then 2 else aeQm x
      let hdr := if bdComp d = 2 then (q / 2 % 16) * 16 + 4 else (bdWidth d % 16) * 16 + bdComp d
      (a.1 ++ [⟨p, decide (cs ≠ a.2), i, hdr, s.prbBytes h d g l q t k p⟩], cs)) ([], [])).1

/-- The U-plane payloads of a stream and symbol (R257): application header, then sections. -/
def State.upPayloads (s : State) (h d : Nat) (g : Grid) (l : List Nat) (x t k : Nat) : List (List Byte) :=
  let room := s.frameRoom x - ((s.macHeader x 0).length + 8 + 4)
  let c := dCarrier d
  let S := s.descSlot d
  let sub := s.slotInFrame c S / s.slotsPerSubframe c
  let slot := s.slotInFrame c S % s.slotsPerSubframe c
  let app := beBytes 4 (0x90 * 2 ^ 24 + (s.sfnOf c S % 256) * 2 ^ 16 + sub * 2 ^ 12 + slot * 2 ^ 6 + k)
  (packPrbs room (s.upPrbs h d g l t k) []).map (fun f => app ++ f.flatMap upSection)

/-- The contiguous runs of a symbol mask, as first symbol and length. -/
def symRuns (m : Nat) : List (Nat × Nat) :=
  ((List.range 14).foldl (fun (a : List (Nat × Nat)) k =>
    if bitAt m k then
      match a with
      | (f, n) :: r => if f + n = k then (f, n + 1) :: r else (k, 1) :: a
      | [] => [(k, 1)]
    else a) []).reverse

/-- A C-plane section of type 1 (R258; log entry 47), with extension 4 under modulation compression. -/
def cpSection (d i x n : Nat) : List Byte :=
  let ext := decide (bdComp d = 2)
  beBytes 8 ((i % 4096) * 2 ^ 52 + (aePrb x % 1024) * 2 ^ 40 + (if 255 < aePrbs x then 0 else aePrbs x) * 2 ^ 32 + aeReMask x * 2 ^ 20 + n * 2 ^ 16
    + (if ext then 2 ^ 15 else 0) + (if bdCatA d then 0 else aeBeam x))
  ++ (if ext then beBytes 4 (4 * 2 ^ 24 + 1 * 2 ^ 16 + aePower x % 2 ^ 15) else [])

/-- Sections packed into messages of at most `room` bytes and 255 sections, which numberOfSections counts. -/
def packSections (room : Nat) : List (List Byte) → List (List (List Byte))
  | [] => []
  | x :: r =>
    match packSections room r with
    | f :: fs => if x.length + f.flatten.length ≤ room ∧ f.length < 255 then (x :: f) :: fs else [x] :: f :: fs
    | [] => [[x]]

/-- The C-plane payloads of a stream: one message for each start symbol and as few frames as fit (R258). -/
def State.cpPayloads (s : State) (d : Nat) (l : List Nat) (x t : Nat) : List (List Byte) :=
  let room := s.frameRoom x - ((s.macHeader x 0).length + 8 + 8)
  let c := dCarrier d
  let S := s.descSlot d
  let sub := s.slotInFrame c S / s.slotsPerSubframe c
  let slot := s.slotInFrame c S % s.slotsPerSubframe c
  (List.range 14).flatMap (fun k =>
    let secs := (List.range l.length).flatMap (fun i =>
      let e := l.getD i 0
      if aeKind e = 3 ∨ !aeFeeds d e t then [] else
        ((symRuns (aeSyms e)).filter (fun r => decide (r.1 = k))).map (fun r => cpSection d i e r.2))
    (packSections room secs).map (fun m =>
      beBytes 8 (0x90 * 2 ^ 56 + (s.sfnOf c S % 256) * 2 ^ 48 + sub * 2 ^ 44 + slot * 2 ^ 38 + k * 2 ^ 32
        + m.length * 2 ^ 24 + 1 * 2 ^ 16 + ((bdWidth d % 16) * 16 + (if bdComp d = 2 then 4 else bdComp d)) * 2 ^ 8)
      ++ m.flatten))

/-! ### Handover (R261, R382) -/

/-- The frame store of a carrier. -/
def State.fs (s : State) (c : Nat) : FsSt := tabGet FsSt.reset s.frameStores c

/-- Bytes written round a frame store from offset `w`. -/
def State.fsWrite (s : State) (c w : Nat) (l : List Byte) : State :=
  let base := terraceBase (s.hallOf c) + s.objN .ethFsBase c
  let n := s.objN .ethFsSize c - w
  ((s.storeAsked (base + w) (l.take n)).1.storeAsked base (l.drop n)).1

/-- Frames missed in a carrier slot so far (R22, R443). -/
def State.missedIn (s : State) (c : Nat) (S : Int) : Nat :=
  ((s.dlMissed.find? (fun x => decide (x.carrier = c) && decide (x.slot = S))).map (fun x => x.count)).getD 0

/-- Frames of a carrier slot missed: counted in `DL_FRAMES_MISSED` of the hall, and kept with the slot for 1,024 frames. -/
def State.addMissed (s : State) (h c : Nat) (S : Int) (n : Nat) : State :=
  if n = 0 then s
  else
    { s.bumpBy .dlFramesMissed h n with
      dlMissed := ⟨c, S, s.missedIn c S + n⟩ :: s.dlMissed.filter (fun x =>
        decide (x.carrier ≠ c) || (decide (x.slot ≠ S) && decide (S - 1024 * (s.slotsPerFrame c : Int) < x.slot))) }

/-- A frame is handed to its queue (R261): its body in the frame store, its entry offered at the port. -/
def State.handOver (s : State) (h c : Nat) (S : Int) (f : DlFrame) : State :=
  let x := s.fs c
  let s := s.fsWrite c x.wr f.body
  let y : FsSt := ⟨(x.wr + f.body.length) % max 1 (s.objN .ethFsSize c), x.used + f.body.length⟩
  let s := { s with frameStores := tabSet FsSt.reset s.frameStores c y }
  let e : TxEntry :=
    { port := tmPort f.entry, queue := f.queue, launch := f.launch, close := f.close, input := h, src := .build h c S
      body := f.body, staged := false, late := false, held := false, stageLate := false }
  ({ s with txOffers := s.txOffers ++ [e] }).bump .dlFramesHanded h

/-- Frames decided one by one: missed at or after their close, else handed over; frames handed and missed. -/
def State.handAll (s : State) (h c : Nat) (S : Int) : List DlFrame → State × Nat × Nat
  | [] => (s, 0, 0)
  | f :: r =>
    if f.close ≤ s.now then
      let q := (s.addMissed h c S 1).handAll h c S r
      (q.1, q.2.1, q.2.2 + 1)
    else
      let q := (s.handOver h c S f).handAll h c S r
      (q.1, q.2.1 + 1, q.2.2)

/-- R382: the frame store has room for the frames; an empty store takes any BUILD (log entry 46). -/
def State.fsRoom (s : State) (c : Nat) (l : List DlFrame) : Bool :=
  decide ((s.fs c).used = 0) || decide ((s.fs c).used + (l.map (fun f => f.body.length)).sum ≤ s.objN .ethFsSize c)

/-- The frames of a BUILD in order of handover: C-plane, if this is the slot's first BUILD, then the U-plane of the symbols built,
streams ascending (R258, R261). -/
def State.buildFrames (s : State) (h d : Nat) (g : Grid) (syms ts : List Nat) : State × List DlFrame :=
  let c := dCarrier d
  let S := s.descSlot d
  let l := s.allocList h d
  let T := s.slotStart c S
  let adv := s.objAt T .dlUpAdvance c
  let first := (s.dlSlot c S).isNone
  let cp := if first then ts.foldl (fun (a : State × List DlFrame) t =>
      match s.txEntry c t S with
      | some x =>
        let q := a.1.frameUp c t x 2 (tmQueueC x) (T - adv - s.objAt T .dlCpLead c) (T - adv) (s.cpPayloads d l x t)
        (q.1, a.2 ++ q.2)
      | none => a) (s, []) else (s, [])
  syms.foldl (fun (a : State × List DlFrame) k =>
    ts.foldl (fun (a : State × List DlFrame) t =>
      match s.txEntry c t S with
      | some x =>
        let air := s.symbolStart c S k
        let q := a.1.frameUp c t x 0 (tmQueueU x) (air - adv) (air - s.objAt T .dlUpWinClose c) (s.upPayloads h d g l x t k)
        (q.1, a.2 ++ q.2)
      | none => a) a) cp

/-- U-plane frames of one symbol of a BUILD. -/
def State.framesOf (s : State) (h d : Nat) (g : Grid) (ts : List Nat) (k : Nat) : Nat :=
  (ts.map (fun t =>
    match s.txEntry (dCarrier d) t (s.descSlot d) with
    | some x => (s.upPayloads h d g (s.allocList h d) x t k).length
    | none => 0)).sum

/-- RE-layer values an entry list writes in symbol k. -/
def valuesIn (l : List Nat) (k : Nat) : Nat :=
  (l.map (fun x => if bitAt (aeSyms x) k then aePrbs x * popCount 12 (aeReMask x) * aeLayers x else 0)).sum

/-- R262, for the symbols built and the U-plane frames of each. -/
def buildCycles (d : Nat) (l : List Nat) (built : List (Nat × Nat)) : Nat :=
  64 + (built.map (fun p =>
    32 + ceilDiv (valuesIn l p.1) 16 + ceilDiv (bdPrbs d * bdStreams d) 2 + 8 * p.2
      + (if bdCatA d then ceilDiv (12 * bdPrbs d * bdStreams d * bdLayers d) 64 else 0))).sum

/-- The carrier slot has been built up to symbol `next` (R250). -/
def State.markBuilt (s : State) (c : Nat) (S : Int) (next : Nat) : State :=
  let old := match s.dlSlot c S with
    | some x => x.next
    | none => 0
  { s with dlSlots := DlSlot.mk c S (max old next) :: s.dlSlots.filter (fun x => !(decide (x.carrier = c) && decide (x.slot = S))) }

/-- The time-domain grid of a stream and symbol, as bytes (R263). -/
def State.gridBytes (s : State) (h d : Nat) (g : Grid) (t k : Nat) : List Byte :=
  let n := 2 ^ gridLog (bdPrbs d)
  let kind := (s.carrier (dCarrier d)).kind
  let vals := (List.range (12 * bdPrbs d)).foldl (fun (m : Tab (Int × Int)) sc =>
    tabSet (0, 0) m (gridBin (decide (kind = 1 ∨ kind = 2)) (bdPrbs d) n sc) (s.outValue h d g t k sc)) []
  (List.range n).flatMap (fun b => let v := tabGet (0, 0) vals b; leBytes 2 (toField 16 v.1) ++ leBytes 2 (toField 16 v.2))

/-- BUILD with TD = 1: the grid is written (R263). -/
def State.writeGrid (s : State) (h d : Nat) (g : Grid) (ts : List Nat) : State :=
  let n := 4 * 2 ^ gridLog (bdPrbs d)
  ts.foldl (fun (s : State) t => (maskList 14 (bdSyms d)).foldl (fun (s : State) k =>
    s.engWrite h (bdGrid d + n * (t * bdSymCount d + k)) (s.gridBytes h d g t k)) s) s

/-- BUILD taken (R250, R254, R259, R261, R262): streams with no map entry are not built, and each counts `DL_NO_MAP`; symbols whose
window close has passed are not built, and their frames count as missed. -/
def State.buildTaken (s : State) (h : Nat) (r : EngRun) : State :=
  let d := r.desc
  let c := dCarrier d
  let S := s.descSlot d
  if !s.buildOk h d then s.finishHead h 9 d (Result.only 2)
  else
    let l := s.allocList h d
    let all := maskList 14 (bdSyms d)
    let ts := (List.range (bdStreams d)).filter (fun t => (s.txEntry c t S).isSome)
    let ready := if bdTd d then all
      else all.filter (fun k => decide (s.now < s.symbolStart c S k - s.objAt (s.slotStart c S) .dlUpWinClose c))
    let g := s.buildGrid h d ready ts
    let s0 := ((s.bumpBy .dlReOverwrites h g.dup).bumpBy .dlClips h (g.clips + s.precodeClips h d g ready ts)).bumpBy .dlNoMap h
      (bdStreams d - ts.length)
    if bdTd d then
      let cyc := buildCycles d l (all.map (fun k => (k, 0)))
      ((s0.writeGrid h d g ts).writeBack h r.off cyc).finishHead h 9 d ⟨0, false, false, cyc, 0, 0⟩
    else
      let q := s0.buildFrames h d g ready ts
      if !s.fsRoom c q.2 then s
      else
        let lost := ((all.filter (fun k => !ready.contains k)).map (s.framesOf h d g ts)).sum
        let cyc := buildCycles d l (ready.map (fun k => (k, s.framesOf h d g ts k)))
        let w := (q.1.addMissed h c S lost).handAll h c S q.2
        let s := (w.1.markBuilt c S (if ready = [] then 0 else ready.foldl max 0 + 1)).freeUsed
        (s.writeBack h r.off cyc).finishHead h 9 d ⟨0, false, false, cyc, w.2.1, w.2.2 + lost⟩

/-- BUILD (R249 to R262). -/
def execBuild (h : Fin 16) (s : State) : Host.Outcome State Fault Refusal :=
  .next (s.takeHead h 9 [0xD] (fun r s => s.buildTaken h r))

end Sys2Proof.Machine
end

