-- ==== Sys2Proof/Machine/Shape.lean ====
section
/-! DEFINITION. The shaping engine with its mask monitor (R264 to R270). -/

namespace Sys2Proof.Machine

/-! ### SHAPE fields (R264) -/

def spGrid (d : Nat) : Nat := bits d 479 456
def spStreams (d : Nat) : Nat := bits d 455 453 + 1
def spLog (d : Nat) : Nat := bits d 452 449
def spInterp (d : Nat) : Nat := 2 ^ bits d 448 447
def spWola (d : Nat) : Nat := bits d 446 440
def spFir (d : Nat) : Nat := bits d 439 434
def spSyms (d : Nat) : Nat := bits d 427 414
def spEcp (d : Nat) : Bool := bitAt d 413
def spMask (d : Nat) : Nat := bits d 433 428
def spShift (d : Nat) : Nat := bits d 412 409
def spSymCount (d : Nat) : Nat := if spEcp d then 12 else 14
def spN (d : Nat) : Nat := 2 ^ spLog d

/-- TAPS of a filter set (R266). -/
def State.firTaps (s : State) (T : Int) (f : Nat) : Nat := leAt (256 * f) 2 (s.domAt T .tdFirTable 0)

/-- Cyclic prefix in samples of symbol l of a subframe, at N samples per symbol (R265). -/
def cpSamples (mu : Nat) (ecp : Bool) (n l : Nat) : Nat :=
  if ecp then n / 4 else 9 * n / 128 + (if l = 0 ∨ l = 7 * 2 ^ mu then n * 2 ^ mu / 128 else 0)

/-- The position in its subframe of symbol k of a slot. -/
def State.subSymbol (s : State) (c : Nat) (S : Int) (k : Nat) : Nat :=
  (S % (s.slotsPerSubframe c : Int)).toNat * s.symbolsPerSlot c + k

/-- Samples of a slot at rate f_out (R266). -/
def State.slotSamples (s : State) (c : Nat) (S : Int) (d : Nat) : Nat :=
  ((List.range (if spEcp d then 12 else 14)).map (fun k =>
    2 ^ spLog d + cpSamples (s.carrier c).mu (spEcp d) (2 ^ spLog d) (s.subSymbol c S k))).sum * spInterp d

/-- f_out of a SHAPE, Hz (R266). -/
def State.tdRate (s : State) (c d : Nat) : Nat := 2 ^ spLog d * 15000 * 2 ^ (s.carrier c).mu * spInterp d

/-- A SHAPE's fields are in range (R264 to R266), and the offset of its carrier lies below half its rate (R272, log entry 105). -/
def State.shapeOk (s : State) (d : Nat) : Bool :=
  let n := 2 ^ spLog d
  let taps := s.firTaps (s.slotStart (dCarrier d) (s.descSlot d)) (spFir d)
  s.slotFieldsOk d && decide (7 ≤ spLog d) && decide (spLog d ≤ 12) && decide (bits d 448 447 ≠ 3)
  && decide (spWola d % 2 = 0) && decide (spWola d ≤ 64) && decide (spWola d ≤ (if spEcp d then n / 4 else 9 * n / 128))
  && decide (2 * (s.objAt (s.slotStart (dCarrier d) (s.descSlot d)) .tdNcoOffset (dCarrier d)).natAbs < s.tdRate (dCarrier d) d)
  && decide (spShift d ≤ 12) && decide (spSyms d < 2 ^ (if spEcp d then 12 else 14))
  && (if taps = 0 then decide (spInterp d = 1) else decide (taps % 2 = 1) && decide (taps ≤ 127))
  && inSlice (spGrid d) (4 * n * spStreams d * (if spEcp d then 12 else 14))

/-- A stream of a time-domain carrier. -/
def State.tdSt (s : State) (c t : Nat) : TdSt := tabGet TdSt.reset s.td (8 * c + t)

/-- The state with a stream set; `TD_MASK_STATE` follows (R272). -/
def State.setTd (s : State) (c t : Nat) (x : TdSt) : State :=
  let s := { s with td := tabSet TdSt.reset s.td (8 * c + t) x }
  s.setObj .tdMaskState c (((List.range 8).map (fun i => (s.tdSt c i).mask * 4 ^ i)).sum : Nat)

/-- `TD_MASK_WORST` (R269, R272): the largest excess since the state last left NORMAL. -/
def State.noteWorst (s : State) (c t bin : Nat) (excess : Int) (fresh : Bool) : State :=
  let old := s.objN .tdMaskWorst c
  if fresh ∨ signExt 12 old < excess then
    s.setObj .tdMaskWorst c ((t * 2 ^ 27 + (bin % 1024) * 2 ^ 17 + toField 12 excess : Nat) : Int)
  else s

/-- A measurement with its excess moves the mask state of a stream (R268, R269). -/
def State.maskStep (s : State) (h c t bin : Nat) (excess : Int) : State :=
  let x := s.tdSt c t
  if 0 < excess then
    let s := s.bump .tdMaskFails h
    let n := x.fails + 1
    if x.mask = 0 ∧ s.obj .tdMaskTrip c ≤ (n : Int) then
      let s := s.noteWorst c t bin excess true
      if s.obj .tdMaskAction c = 0 then
        ((s.setTd c t { x with mask := 1, fails := 0, passes := 0 }).bump .tdMaskAlarms h).evt .tdMaskAlarm c t
      else ((s.setTd c t { x with mask := 2, fails := 0, passes := 0 }).bump .tdMutes h).evt .tdMute c t
    else
      let s := if x.mask = 0 then s else s.noteWorst c t bin excess false
      s.setTd c t { x with fails := n, passes := 0 }
  else
    let n := x.passes + 1
    let clear := decide (s.obj .tdMaskClear c ≤ (n : Int)) && (decide (x.mask = 1) || (decide (x.mask = 2) && decide (s.obj .tdMaskAction c = 1)))
    s.setTd c t { x with mask := if clear then 0 else x.mask, fails := 0, passes := if clear then 0 else n }

/-! ### Samples (R265) -/

/-- Cyclic prefixes of the symbols of a slot. -/
def State.prefixes (s : State) (c : Nat) (S : Int) (d : Nat) : List Nat :=
  (List.range (spSymCount d)).map (fun k => cpSamples (s.carrier c).mu (spEcp d) (spN d) (s.subSymbol c S k))

/-- The first sample of symbol k of a slot. -/
def symbolFirst (n : Nat) (cps : List Nat) (k : Nat) : Nat := ((cps.take k).map (fun c => n + c)).sum

/-- The useful part of a symbol (step 1): the inverse transform of its bins, shifted, rounded and saturated, with the components
saturated. -/
def usefulPart (n shift : Nat) (bins : List Cplx) : List Cplx × Nat :=
  let l := (List.range n).map (fun i =>
    let z := transform bins n i false
    satC16 (roundHalfEven (snap z.1) (40 + shift), roundHalfEven (snap z.2) (40 + shift)))
  (l.map (fun q => q.1), (l.map (fun q => q.2)).sum)

/-- The bins of a stream and symbol in the grid (R263). -/
def State.gridBins (s : State) (h d t k : Nat) : List Cplx :=
  (List.range (spN d)).map (fun b =>
    let a := terraceBase h + spGrid d + 4 * ((t * spSymCount d + k) * spN d + b)
    (signExt 16 (s.memNat a 2), signExt 16 (s.memNat (a + 2) 2)))

/-- sin²(π (i + 1/2) / (2 w)) with 40 binary places (step 3). -/
def rampUp (w i : Nat) : Int := snap ((2 ^ 128 - cosFix (2 * i + 1) (4 * w)) / 2)

/-- The weight of a symbol's sample at offset j from its start, `len` samples with its prefix, 40 binary places (step 3). -/
def wolaWeight (w len : Nat) (j : Int) : Int :=
  let half : Int := (w / 2 : Nat)
  if j < half then rampUp w (j + half).toNat
  else if (len : Int) - half ≤ j then 2 ^ 40 - rampUp w (j - (len - half)).toNat
  else 2 ^ 40

/-- What a symbol of prefix c that starts at sample `first` adds to sample p, 40 binary places (steps 2 and 3). -/
def symbolAdds (n w c : Nat) (first : Int) (useful : List Cplx) (p : Int) : Cplx :=
  let j := p - first
  let half : Int := (w / 2 : Nat)
  if -half ≤ j ∧ j < (n + c : Nat) + half then
    let z := useful.getD ((j - c) % (n : Int)).toNat (0, 0)
    let g := wolaWeight w (n + c) j
    (z.1 * g, z.2 * g)
  else (0, 0)

/-- The sum of some samples. -/
def cplxSum (l : List Cplx) : Cplx := l.foldl (fun a z => (a.1 + z.1, a.2 + z.2)) (0, 0)

/-- What the filter meets in a slot, from W/2 samples before it on, `more` samples past its own: its shaped symbols, and in front the
carry, 40 binary places. -/
def slotInput (d : Nat) (cps : List Nat) (useful : List (Nat × List Cplx)) (carry : List Cplx) (more : Nat) : List Cplx :=
  (List.range (symbolFirst (spN d) cps cps.length + more)).map (fun (i : Nat) =>
    let own := useful.map (fun q =>
      symbolAdds (spN d) (spWola d) (cps.getD q.1 0) (symbolFirst (spN d) cps q.1 : Nat) q.2 ((i : Int) - (spWola d / 2 : Nat)))
    cplxSum (carry.getD i (0, 0) :: own))

/-- Sample q of the zero-stuffed input: of the slot, or before it of what the filter met last (step 4). -/
def stuffed (v hist : List Cplx) (interp : Nat) (q : Int) : Cplx :=
  if q % (interp : Int) ≠ 0 then (0, 0)
  else if 0 ≤ q then v.getD (q / (interp : Int)).toNat (0, 0) else hist.getD ((-q / (interp : Int)).toNat - 1) (0, 0)

/-- The filter set of a SHAPE (R266). -/
def State.firSet (s : State) (T : Int) (f : Nat) : List Int :=
  (List.range (s.firTaps T f)).map (fun j => signExt 16 (leAt (256 * f + 2 + 2 * j) 2 (s.domAt T .tdFirTable 0)))

/-- The filtered samples of a slot, 40 binary places, with the components saturated (step 4); without taps the input itself. -/
def firOut (taps : List Int) (interp : Nat) (v hist : List Cplx) : List (Cplx × Nat) :=
  if taps = [] then v.map (fun z => (z, 0))
  else (List.range (v.length * interp)).map (fun m =>
    let z := cplxSum (taps.zipIdx.map (fun (p : Int × Nat) => let u := stuffed v hist interp ((m : Int) - p.2); (p.1 * u.1, p.1 * u.2)))
    let q := satC16 (roundHalfEven z.1 55, roundHalfEven z.2 55)
    ((q.1.1 * 2 ^ 40, q.1.2 * 2 ^ 40), q.2))

/-- An output sample (step 5): turned by the offset's phase at sample `pos` of its frame, brought to 16 bits, a rounding that no rule
states being free (log entry 103). -/
def shiftOut (ctr t m : Nat) (offset : Int) (rate : Nat) (pos : Int) (z : Cplx) : Cplx × Nat :=
  let y := if offset = 0 then z
    else
      let w := turn z (offset * pos % (rate : Int)).toNat rate false
      ((w.1 + 2 ^ 127) / 2 ^ 128, (w.2 + 2 ^ 127) / 2 ^ 128)
  satC16 (nearFree y.1 (Config.freeOf 55 [ctr, t, m, 0]), nearFree y.2 (Config.freeOf 55 [ctr, t, m, 1]))

/-- Samples of a frame at f_out before a slot. -/
def State.frameSamples (s : State) (c : Nat) (S : Int) (d : Nat) : Nat :=
  ((List.range (s.slotInFrame c S)).map (fun i => s.slotSamples c (S - s.slotInFrame c S + i) d)).sum

/-- What shaping a stream of a slot gives (R265): its samples at f_out, the components saturated on the way, the new carry and what the
filter met last. -/
structure Shaped where
  samples : List Cplx
  clips : Nat
  tail : List Cplx
  hist : List Cplx
  deriving DecidableEq, Repr

/-- The carry of a stream for slot S, empty unless the slot before had a SHAPE (R267). -/
def State.carryFor (s : State) (c t : Nat) (S : Int) : List Cplx × List Cplx :=
  let x := s.tdSt c t
  if x.carry = some (S - 1) then (x.tail, x.hist) else ([], [])

/-- Filter and frequency shift over what the filter meets in a slot (steps 4 and 5). -/
def State.shapeInput (s : State) (c t : Nat) (S : Int) (d : Nat) (v hist : List Cplx) : List Cplx × Nat :=
  let T := s.slotStart c S
  let y := firOut (s.firSet T (spFir d)) (spInterp d) v hist
  let base : Int := s.frameSamples c S d - (spWola d / 2 * spInterp d : Nat)
  let out := y.zipIdx.map (fun (p : (Cplx × Nat) × Nat) =>
    shiftOut s.freeCtr t p.2 (s.objAt T .tdNcoOffset c) (s.tdRate c d) (base + p.2) p.1.1)
  (out.map (fun q => q.1), (y.map (fun q => q.2)).sum + (out.map (fun q => q.2)).sum)

/-- A stream of a slot shaped (R265). -/
def State.shapeStream (s : State) (h d t : Nat) : Shaped :=
  let c := dCarrier d
  let S := s.descSlot d
  let cps := s.prefixes c S d
  let parts := (maskList 14 (spSyms d)).map (fun k => (k, usefulPart (spN d) (spShift d) (s.gridBins h d t k)))
  let carry := s.carryFor c t S
  let all := slotInput d cps (parts.map (fun q => (q.1, q.2.1))) carry.1 (spWola d)
  let n := symbolFirst (spN d) cps cps.length
  let out := s.shapeInput c t S d (all.take n) carry.2
  ⟨out.1, (parts.map (fun q => q.2.2)).sum + out.2, all.drop n, ((all.take n).reverse ++ carry.2).take 127⟩

/-! ### The mask monitor (R268) -/

/-- Segment i of a mask: START, END and LIMIT. -/
def State.maskSegment (s : State) (T : Int) (m i : Nat) : Int × Int × Int :=
  let x := leAt (64 * m + 4 * i) 4 (s.domAt T .tdMaskTable 0)
  (signExt 10 (bits x 31 22), signExt 10 (bits x 21 12), signExt 12 (bits x 11 0))

/-- The bins of a segment, of those there are. -/
def segmentBins (g : Int × Int × Int) : List Int :=
  ((List.range 512).map (fun i => (i : Int) - 256)).filter (fun b => decide (g.1 ≤ b) && decide (b ≤ g.2.1))

/-- The power of a bin of 512 samples under a Hann window, to a common scale. -/
def binPower (y : List Cplx) (b : Int) : Nat :=
  let z := transform (y.zipIdx.map (fun (p : Cplx × Nat) =>
    let w := snap ((2 ^ 128 - cosFix p.2 512) / 2)
    (p.1.1 * w, p.1.2 * w))) 512 (b % 512).toNat true
  (snap z.1 / 2 ^ 40).natAbs ^ 2 + (snap z.2 / 2 ^ 40).natAbs ^ 2

/-- A measurement (R268): none below `TD_MASK_MIN_REF` or without a reference, else the bin of the largest excess and the excess, as
I12. Rounding to 1/16 dB is free, and so is the scale of dBFS (log entry 105). -/
def State.maskMeasure (s : State) (T : Int) (m : Nat) (y : List Cplx) : Option (Int × Int) :=
  let l := (segmentBins (s.maskSegment T m 0)).map (binPower y)
  if l.sum = 0 ∨ db16 l.sum (l.length * Config.maskFullScale) < s.objAt T .tdMaskMinRef 0 then none
  else
    ((List.range 15).flatMap (fun i =>
      let g := s.maskSegment T m (i + 1)
      (segmentBins g).map (fun b =>
        let p := binPower y b
        let e : Int := if p = 0 then -2048
          else db16 (p * l.length) l.sum + ((Config.freeOf 10 [s.freeCtr, i, (b + 256).toNat] % 2 : Nat) : Int) - g.2.2
        (b, max (-2048) (min 2047 e))))).foldl (fun (best : Option (Int × Int)) q =>
          match best with
          | none => some q
          | some w => if w.2 < q.2 then some q else best) none

/-- One shaped symbol of a stream (R268): every `TD_MASK_EVERY`-th is measured, from its useful part on; with how many were. -/
def State.shapeSymbol (s : State) (h d t k : Nat) (samples : List Cplx) : State × Nat :=
  let c := dCarrier d
  let S := s.descSlot d
  let x := s.tdSt c t
  if (x.syms + 1 : Int) < s.objAt (s.slotStart c S) .tdMaskEvery c then (s.setTd c t { x with syms := x.syms + 1 }, 0)
  else
    let s := s.setTd c t { x with syms := 0 }
    let cps := s.prefixes c S d
    let first := (spWola d / 2 + symbolFirst (spN d) cps k + cps.getD k 0) * spInterp d
    let y := (List.range 512).map (fun i => samples.getD (first + i) (0, 0))
    match s.maskMeasure (s.slotStart c S) (spMask d) y with
    | none => (s.freeUsed, 1)
    | some q => ((s.maskStep h c t (q.1 % 1024).toNat q.2).freeUsed, 1)

/-! ### Frames (R266) -/

/-- 4-byte samples, I first, in network byte order. -/
def sampleBytes (l : List Cplx) : List Byte := l.flatMap (fun z => beBytes 2 (toField 16 z.1) ++ beBytes 2 (toField 16 z.2))

/-- A frame of a stream in time-domain mode (R266): its launch and close (R260), and its samples, zero if the stream is MUTED
(R269). -/
def State.tdFrame (s : State) (T : Int) (c t x : Nat) (l : List Cplx) (first : Int) : State × DlFrame :=
  let key := txSeqKey c t 0
  let seq := tabGet 0 s.txSeq key
  let body := if (s.tdSt c t).mask = 2 then List.replicate (4 * l.length) 0 else sampleBytes l
  ({ s with txSeq := tabSet 0 s.txSeq key ((seq + 1) % 256) },
    ⟨x, tmQueueU x, first - s.objAt T .tdAdvance c, first - s.objAt T .tdWinClose c,
      s.macHeader x (tmQueueU x) ++ ecpri 0 (tmEaxc x) seq body⟩)

/-- Device time of sample m of a slot's frames (R266): they start W/2 before the slot. -/
def State.sampleTime (s : State) (c : Nat) (S : Int) (d m : Nat) : Int :=
  s.slotStart c S + ((m : Int) - (spWola d / 2 * spInterp d : Nat)) * 1000000000 / (s.tdRate c d : Int)

/-- The frames of a SHAPE in ascending launch time, streams ascending within a time; frame 0 is not sent again (R270). -/
def State.shapeFrames (s : State) (d : Nat) (streams : List (Nat × Nat × List Cplx)) : State × List DlFrame :=
  let c := dCarrier d
  let S := s.descSlot d
  let T := s.slotStart c S
  let per := (s.objAt T .tdFrameSamples c).toNat
  (List.range (ceilDiv (s.slotSamples c S d) per)).foldl (fun (a : State × List DlFrame) n =>
    streams.foldl (fun (a : State × List DlFrame) (p : Nat × Nat × List Cplx) =>
      if n = 0 ∧ (s.tdSt c p.1).alone.contains S then a
      else
        let q := a.1.tdFrame T c p.1 p.2.1 ((p.2.2.drop (n * per)).take per) (s.sampleTime c S d (n * per))
        (q.1, a.2 ++ [q.2])) a) (s, [])

/-- R267's cost, for the symbols measured. -/
def State.shapeCycles (s : State) (d measured : Nat) : Nat :=
  let c := dCarrier d
  let S := s.descSlot d
  let n := 2 ^ spLog d
  spStreams d * ((maskList 14 (spSyms d)).map (fun k =>
    fftCycles n + ceilDiv ((n + cpSamples (s.carrier c).mu (spEcp d) n (s.subSymbol c S k)) * spInterp d * s.firTaps (s.slotStart (dCarrier d) (s.descSlot d)) (spFir d)) 64)).sum
  + 80 * measured

/-- Whether an FFT that arrived earlier waits for the engine (R247). -/
def State.fftFirst (s : State) (h stamp : Nat) : Bool :=
  match s.engHead h 2 with
  | some (n, _) => decide (n < stamp)
  | none => false

/-- A slot noted in a list that is kept for 1,024 frames. -/
def State.noteSlot (s : State) (c : Nat) (S : Int) (l : List Int) : List Int :=
  S :: l.filter (fun x => decide (x ≠ S) && decide (S - 1024 * (s.slotsPerFrame c : Int) < x))

/-- SHAPE taken (R265 to R268): the streams with a map entry are shaped, measured and sent. -/
def State.shapeTaken (s : State) (h : Nat) (r : EngRun) : State :=
  let d := r.desc
  let c := dCarrier d
  let S := s.descSlot d
  if !s.shapeOk d then s.finishHead h 10 d (Result.only 2)
  else if s.fftFirst h r.stamp then s
  else
    let streams : List (Nat × Nat × Shaped) := (List.range (spStreams d)).filterMap (fun t =>
      (s.txEntry c t S).map (fun x => (t, x, s.shapeStream h d t)))
    let q := streams.foldl (fun (a : State × Nat) p => (maskList 14 (spSyms d)).foldl (fun (a : State × Nat) k =>
      let w := a.1.shapeSymbol h d p.1 k p.2.2.samples
      (w.1, a.2 + w.2)) a) (s.freeUsed, 0)
    let cyc := s.shapeCycles d q.2
    let w := q.1.shapeFrames d (streams.map (fun p => (p.1, p.2.1, p.2.2.samples)))
    if !s.fsRoom c w.2 then s
    else
      let v := (w.1.bumpBy .tdClipSamples h ((streams.map (fun p => p.2.2.clips)).sum)).handAll h c S w.2
      let lead := spWola d / 2 * spInterp d
      let s := streams.foldl (fun (s : State) p =>
        let x := s.tdSt c p.1
        s.setTd c p.1 { x with
          carry := some S, tail := p.2.2.tail, hist := p.2.2.hist, par := d, shaped := s.noteSlot c S x.shaped
          lead := lead, leadNs := (lead : Int) * 1000000000 / (s.tdRate c d : Int) }) v.1
      (s.writeBack h r.off cyc).finishHead h 10 d ⟨0, false, false, cyc, v.2.1, v.2.2⟩

/-- SHAPE (R264 to R268). -/
def execShape (h : Fin 16) (s : State) : Host.Outcome State Fault Refusal :=
  .next (s.takeHead h 10 [0xE] (fun r s => s.shapeTaken h r))

/-- The streams of a carrier in time-domain mode in a slot, with their map entries. -/
def State.tdStreams (s : State) (c : Nat) (S : Int) : List (Nat × Nat) :=
  (List.range 8).filterMap (fun t =>
    match s.txEntry c t S with
    | some x => if tmMode x = 1 then some (t, x) else none
    | none => none)

/-- The samples of frame 0 built from the carry alone, with zero after it (R267): shaped as the last SHAPE had it. -/
def State.tailSamples (s : State) (c t : Nat) (S : Int) (per : Nat) : List Cplx :=
  let d := (s.tdSt c t).par
  let carry := s.carryFor c t S
  let v := (List.range (ceilDiv per (spInterp d))).map (fun i => carry.1.getD i (0, 0))
  let out := (s.shapeInput c t S d v carry.2).1
  (List.range per).map (fun i => out.getD i (0, 0))

/-- TD_TAIL_ALONE (R267): frame 0 of a slot with no SHAPE reaches its handover deadline and is built from the carry alone. -/
def execTdTailAlone (c : Fin 768) (slot : Int) (s : State) : Host.Outcome State Fault Refusal :=
  .next <|
    let ts := s.tdStreams c slot
    let T := s.slotStart c slot
    let h := s.hallAt T c
    let per := (s.objAt T .tdFrameSamples c).toNat
    let due := fun (t : Nat) =>
      s.slotStart c slot - (s.tdSt c t).leadNs - s.objAt T .tdAdvance c - s.objAt T .dlHandoverGuard c ≤ s.now
    let todo := ts.filter (fun p => !(s.tdSt c p.1).shaped.contains slot && !(s.tdSt c p.1).alone.contains slot
      && decide (due p.1))
    if todo = [] then s
    else
      todo.foldl (fun (s : State) p =>
        let x := s.tdSt c p.1
        let q := s.freeUsed.tdFrame T c p.1 p.2 (s.tailSamples c p.1 slot per) (s.slotStart c slot - x.leadNs)
        ((q.1.setTd c p.1 { x with alone := s.noteSlot c slot x.alone }).handAll h c slot [q.2]).1) (s.bump .tdTailAlone h)

/-- TD_MASK_UNMUTE (R269): any write returns every stream of the carrier to NORMAL. -/
def execTdMaskUnmute (a : Accessor) (c : Fin 768) (v : Nat) (s : State) : Host.Outcome State Fault Refusal :=
  .next (s.dictWrite a .tdMaskUnmute c v .ok (fun s =>
    (List.range 8).foldl (fun (s : State) t => s.setTd c t { s.tdSt c t with mask := 0, fails := 0, passes := 0 }) s))

end Sys2Proof.Machine
end

