-- ==== Sys2Proof/Machine/EthOps.lean ====
section
/-! DEFINITION. Ports, frames and transmit queues (R370 to R386, R392, R401): what the commands of lanes, ports and time
share. -/

namespace Sys2Proof.Machine

/-! ### Ports and their lanes (R370, R372) -/

/-- Port states (R372). -/
abbrev portDisabled : Int := 0
abbrev portDown : Int := 1
abbrev portUp : Int := 2

/-- Port p. -/
def State.port (s : State) (p : Nat) : PortSt := tabGet PortSt.reset s.ports p

/-- The state with a port set. -/
def State.setPort (s : State) (p : Nat) (x : PortSt) : State := { s with ports := tabSet PortSt.reset s.ports p x }

/-- The lanes a port has under its quad's mode (R370). -/
def portLanes (mode : Int) (p : Nat) : List Nat :=
  if mode = 1 ∨ mode = 2 ∨ mode = 3 then [p]
  else if 4 ≤ mode ∧ mode ≤ 7 ∧ p % 4 = 0 then [p, p + 1, p + 2, p + 3]
  else []

/-- The rate of a port in Mb/s under its quad's mode (R370). -/
def portRate (mode : Int) (p : Nat) : Nat :=
  match mode.toNat with
  | 1 => 10000
  | 2 => 25000
  | 3 => 25000
  | 4 => if p % 4 = 0 then 40000 else 0
  | 5 => if p % 4 = 0 then 100000 else 0
  | 6 => if p % 4 = 0 then 100000 else 0
  | 7 => if p % 4 = 0 then 100000 else 0
  | _ => 0

/-- The mode of a port's quad. -/
def State.portMode (s : State) (p : Nat) : Int := s.obj .laneQuadMode (p / 4)

/-! ### Frames (R373, R376) -/

/-- Bytes o and o + 1 of a frame as a number. -/
def be16At (o : Nat) (l : List Byte) : Nat := beNat (slice o 2 l)

/-- The tags counted in a frame (R373). -/
def tagCount (l : List Byte) : Nat :=
  if be16At 12 l = 0x8100 ∨ be16At 12 l = 0x88A8 then (if be16At 16 l = 0x8100 then 2 else 1) else 0

/-- The EtherType after the tags. -/
def etherType (l : List Byte) : Nat := be16At (12 + 4 * tagCount l) l

/-- Offset of the bytes after the EtherType. -/
def payloadAt (l : List Byte) : Nat := 14 + 4 * tagCount l

/-- PCP and VID of the first tag; 0 for an untagged frame. -/
def framePcp (l : List Byte) : Nat := if tagCount l = 0 then 0 else be16At 14 l / 8192
def frameVid (l : List Byte) : Nat := if tagCount l = 0 then 0 else be16At 14 l % 4096

/-- Destination and source addresses. -/
def frameDst (l : List Byte) : Nat := beNat (slice 0 6 l)
def frameSrc (l : List Byte) : Nat := beNat (slice 6 6 l)

/-- A frame's length L with its FCS (R373). -/
def frameLen (l : List Byte) : Nat := l.length + 4

/-- The limit of a frame on a port (R373). -/
def State.frameLimit (s : State) (p : Nat) (l : List Byte) : Nat := s.objN .ethMaxFrame p + 4 * tagCount l

/-- R376: a frame padded to 60 bytes before its FCS. -/
def padded (l : List Byte) : List Byte := l ++ List.replicate (60 - l.length) 0

/-- CRC-32 of IEEE 802.3, one bit step. -/
def crc32Bit (c : Nat) : Nat := if c % 2 = 1 then (c / 2) ^^^ 0xEDB88320 else c / 2

/-- CRC-32 over one byte. -/
def crc32Byte (c : Nat) (b : Byte) : Nat :=
  crc32Bit (crc32Bit (crc32Bit (crc32Bit (crc32Bit (crc32Bit (crc32Bit (crc32Bit (c ^^^ b.toNat))))))))

/-- The FCS of a frame. -/
def fcsOf (l : List Byte) : List Byte := leBytes 4 ((l.foldl crc32Byte 0xFFFFFFFF) ^^^ 0xFFFFFFFF)

/-- The board delays of a port, ns: the device adds them to its receive and transmit timestamps (R411). -/
def State.ingLat (s : State) (p : Nat) : Int := s.obj .ptpPortIngLat p / 1000
def State.egrLat (s : State) (p : Nat) : Int := s.obj .ptpPortEgrLat p / 1000

/-- Time on the wire of a frame of L bytes with preamble and SFD, in 1 / rate µs: 8 × (L + 8) bits × 1,000. -/
def wireUnits (len : Nat) : Int := ((len + 8) * 8000 : Nat)

/-! ### Completions of transmit frames (R382, R383, R392) -/

/-- Outcomes of R392. -/
abbrev txSent : Nat := 1
abbrev txLateSent : Nat := 2
abbrev txLateDropped : Nat := 3
abbrev txExpired : Nat := 4
abbrev txTooLong : Nat := 5
abbrev txBadDesc : Nat := 6
abbrev txPortDown : Nat := 7

/-- A vector of a function is raised; a masked one sets its pending bit (R432). -/
def State.raiseVec (s : State) (fn v : Nat) : State :=
  if s.msixMasked.contains (32 * fn + v) then
    { s with msixPending := (32 * fn + v) :: s.msixPending.filter (fun k => decide (k ≠ 32 * fn + v)) }
  else s.send (.msix fn v)

/-- A transmit ring. -/
def State.etxRing (s : State) (r : Nat) : EtxSt := tabGet EtxSt.reset s.etx r

/-- The state with a transmit ring set. -/
def State.setEtx (s : State) (r : Nat) (x : EtxSt) : State := { s with etx := tabSet EtxSt.reset s.etx r x }

/-- The completion index moved over the contiguous run of written descriptors (R392). -/
def advanceDone : Nat → EtxSt → EtxSt
  | 0, x => x
  | f + 1, x =>
    if x.written.contains x.done then
      advanceDone f { x with done := (x.done + 1) % 2 ^ 32, written := x.written.filter (fun i => decide (i ≠ x.done)) }
    else x

/-- A transmit descriptor is written back (R392, R432, R433): DONE, STATUS, and the launch instant if it was asked for;
one of a ring disabled since is not. -/
def State.etxWriteBack (s : State) (r idx outcome : Nat) (launch : Int) : State :=
  let x := s.etxRing r
  match x.open_.find? (fun p => decide (p.1 = idx)) with
  | none => s
  | some q =>
  let d := q.2
  let base := s.objN .etxBase r
  let n := s.objN .etxCount r
  let fn := s.objN .etxOwner r
  let sent := decide (outcome = txSent) || decide (outcome = txLateSent)
  let d := if bitAt d 168 ∧ sent then d - bits d 159 96 * 2 ^ 96 + toField 64 launch * 2 ^ 96 else d
  let d := d - d % 2 ^ 32 + 2 ^ 31 + outcome * 2 ^ 27
  let x := advanceDone (n + 1)
    { x with open_ := x.open_.filter (fun p => decide (p.1 ≠ idx)), written := x.written ++ [idx] }
  let s := (s.setEtx r x).send (.host fn (base + 32 * (idx % max 1 n)) (leBytes 32 d))
  (s.send (.host fn (base + 32 * n) (leBytes 4 x.done))).raiseVec fn 1

/-- The store of a carrier gives a frame's space back (R382). -/
def State.fsRelease (s : State) (c n : Nat) : State :=
  let x := s.fs c
  { s with frameStores := tabSet FsSt.reset s.frameStores c { x with used := x.used - n } }

/-- A frame launched or was discarded: its source learns of it (R382, R383, R392). `launch` is the launch instant. -/
def State.txDone (s : State) (e : TxEntry) (outcome : Nat) (launch : Int) : State :=
  match e.src with
  | .build _ c _ => s.fsRelease c e.body.length
  | .send h _ d =>
    let st := if outcome = txSent then 0 else if outcome = txLateSent then 1 else 0xD
    let cyc := Config.freeOf 8 [s.freeCtr, 6]
    s.freeUsed.finish h 12 d ⟨st, false, false, cyc, outcome, 0⟩
  | .ring r idx => s.etxWriteBack r idx outcome launch
  | .fwd _ _ _ => s
  | .own => s

/-! ### Queues (R377, R378) -/

/-- Summerhouse's watch MAC serves a port: `PORT_0` and `PORT_1` in S2 (R519). -/
def State.watchMac (s : State) (p : Nat) : Bool :=
  decide (p < 2) && decide (s.obj .pwrState 0 = 2) && decide (s.obj .startRung 0 = 0)
    && decide ((s.unit unitSummerhouse).st = unitRunning)

/-- Entries of a port. -/
def State.portEntries (s : State) (p : Nat) : List TxEntry := s.txQueue.filter (fun e => decide (e.port = p))

/-- `ETH_TX_ENTRIES` follows the queues. -/
def State.countEntries (s : State) (p : Nat) : State := s.setObj .ethTxEntries p (s.portEntries p).length

/-- An entry put in its place (R378): by launch time, then insertion input, then handover. -/
def insertEntry (e : TxEntry) : List TxEntry → List TxEntry
  | [] => [e]
  | x :: r =>
    if x.port = e.port ∧ x.queue = e.queue ∧ (e.launch < x.launch ∨ (e.launch = x.launch ∧ e.input < x.input)) then
      e :: x :: r
    else x :: insertEntry e r

/-- The head of queue q of a port. -/
def State.queueHead (s : State) (p q : Nat) : Option TxEntry :=
  s.txQueue.find? (fun e => decide (e.port = p) && decide (e.queue = q))

/-- An entry leaves its queue. -/
def State.dropEntry (s : State) (e : TxEntry) : State := ({ s with txQueue := s.txQueue.erase e }).countEntries e.port

/-- Every Ethernet transmitter is idle (R546, R549, R550): a module that released `PAIR_FAIL_OUT`, is under test (R577), or a standby. -/
def State.txSilent (s : State) : Bool := s.pins.pairFailOut || s.pins.jtagOut || decide (s.obj .pairRole 0 = 2)

/-- An entry of the device's own is offered at a port (R408, R474). -/
def State.offerOwn (s : State) (p q input : Nat) (body : List Byte) : State :=
  let e : TxEntry :=
    { port := p, queue := q, launch := 0, close := 0, input := input, src := .own, body := body
      staged := false, late := false, held := false, stageLate := false }
  { s with txOffers := s.txOffers ++ [e] }

/-- Every entry of a port is discarded (R401). -/
def State.discardAll (s : State) (p : Nat) : List TxEntry → State
  | [] => s
  | e :: r => (((s.dropEntry e).bump .ethTxPortDown p).txDone e txPortDown 0).discardAll p r

/-! ### Flow control (R384, R391) -/

/-- A receive ring. -/
def State.erxRing (s : State) (r : Nat) : ErxSt := tabGet ErxSt.reset s.erx r

/-- The state with a receive ring set. -/
def State.setErx (s : State) (r : Nat) (x : ErxSt) : State := { s with erx := tabSet ErxSt.reset s.erx r x }

/-- Enabled rings that make port p treat them as full (R391). -/
def State.fullRings (s : State) (p : Nat) : List Nat :=
  (List.range 64).filter (fun r =>
    decide (s.obj .erxEnable r ≠ 0) && (s.erxRing r).low && bitAt (s.objN .erxPorts r) p)

/-- Flow control of one level (R384): bit k of `ETH_XOFF_STATE` follows an occupancy, a full ring counting as XOFF; a
change waits to be sent. -/
def State.fcLevel (s : State) (p k : Nat) (occ : Int) (full : Bool) : State :=
  let on := bitAt (s.objN .ethXoffState p) k
  let x := s.port p
  if !on ∧ (full ∨ s.obj .ethXoffWm p ≤ occ) then
    (s.setPort p { x with xoff := x.xoff ||| 2 ^ k, xon := x.xon - (if bitAt x.xon k then 2 ^ k else 0) }).setObj
      .ethXoffState p (s.obj .ethXoffState p + 2 ^ k)
  else if on ∧ !full ∧ occ ≤ s.obj .ethXonWm p then
    (s.setPort p { x with xon := x.xon ||| 2 ^ k, xoff := x.xoff - (if bitAt x.xoff k then 2 ^ k else 0) }).setObj
      .ethXoffState p (s.obj .ethXoffState p - 2 ^ k)
  else s

/-- Flow control of a port at given occupancies by priority (R384): one level in mode 1, one for each priority of
`ETH_PFC_MASK` in mode 2. -/
def State.fcEval (s : State) (p : Nat) (occ : List Nat) : State :=
  let s := (s.setObj .ethRxOcc p occ.sum).setPort p { s.port p with occ := occ }
  let full := s.fullRings p
  if s.obj .ethFcMode p = 1 then s.fcLevel p 0 occ.sum (decide (full ≠ []))
  else if s.obj .ethFcMode p = 2 then
    (maskList 8 (s.objN .ethPfcMask p)).foldl (fun s k =>
      s.fcLevel p k (occ.getD k 0 : Nat) (full.any (fun r => decide (s.objN .erxPrio r = k)))) s
  else s

end Sys2Proof.Machine
end

