-- ==== Sys2Proof/Machine/Sha.lean ====
section
/-! DEFINITION. SHA-384 (FIPS 180-4) and the check of an ECDSA P-384 signature (FIPS 186-5): the digests of the journal
(R537, R538) and the boot image's signature (R509, R511). -/

namespace Sys2Proof.Machine

/-! ### SHA-384 -/

/-- 64-bit arithmetic on natural numbers. -/
def w64 (x : Nat) : Nat := x % 18446744073709551616

/-- Rotation right by n. -/
def rotr64 (n x : Nat) : Nat := x / 2 ^ n + (x % 2 ^ n) * 2 ^ (64 - n)

/-- The complement of 64 bits. -/
def not64 (x : Nat) : Nat := 18446744073709551615 - x

def shaBig0 (x : Nat) : Nat := rotr64 28 x ^^^ rotr64 34 x ^^^ rotr64 39 x
def shaBig1 (x : Nat) : Nat := rotr64 14 x ^^^ rotr64 18 x ^^^ rotr64 41 x
def shaSmall0 (x : Nat) : Nat := rotr64 1 x ^^^ rotr64 8 x ^^^ (x / 2 ^ 7)
def shaSmall1 (x : Nat) : Nat := rotr64 19 x ^^^ rotr64 61 x ^^^ (x / 2 ^ 6)
def shaCh (x y z : Nat) : Nat := (x &&& y) ^^^ (not64 x &&& z)
def shaMaj (x y z : Nat) : Nat := (x &&& y) ^^^ (x &&& z) ^^^ (y &&& z)

/-- The largest number below 2^n whose k-th power is at most x, bit by bit from the top; `r` is what is settled so far. -/
def kthRoot (k x : Nat) : Nat → Nat → Nat
  | 0, r => r
  | n + 1, r => kthRoot k x n (if (r + 2 ^ n) ^ k ≤ x then r + 2 ^ n else r)

/-- The first 64 bits of the fractional part of the k-th root of p, for p below 512. -/
def rootFraction (k p : Nat) : Nat := w64 (kthRoot k (p * 2 ^ (64 * k)) 70 0)

/-- The primes below 410: the first 80. -/
def shaPrimes : List Nat :=
  (List.range 410).filter (fun p => decide (2 ≤ p) && (List.range 21).all (fun d => decide (d < 2) || decide (p ≤ d) || decide (p % d ≠ 0)))

/-- The 80 round constants: cube roots of the first 80 primes (FIPS 180-4). -/
def shaK : List Nat := shaPrimes.map (rootFraction 3)

/-- The initial hash value of SHA-384: square roots of the ninth to the sixteenth prime (FIPS 180-4). -/
def sha384Init : List Nat := ((shaPrimes.drop 8).take 8).map (rootFraction 2)

/-- One round: a to h, with the round's constant and message word. -/
def shaRound (v : List Nat) (kw : Nat) : List Nat :=
  match v with
  | [a, b, c, d, e, f, g, h] =>
    let t1 := h + shaBig1 e + shaCh e f g + kw
    let t2 := shaBig0 a + shaMaj a b c
    [w64 (t1 + t2), a, b, c, w64 (d + t1), e, f, g]
  | _ => v

/-- The message schedule extended: the last 16 words, newest first, and the rounds still to run. -/
def shaRounds : List Nat → List Nat → List Nat → List Nat
  | [], _, v => v
  | k :: ks, w, v =>
    let x := w.getD 15 0
    let n := w64 (shaSmall1 (w.getD 1 0) + w.getD 6 0 + shaSmall0 (w.getD 14 0) + x)
    shaRounds ks (n :: w.take 15) (shaRound v (k + x))

/-- One block of 128 bytes. -/
def shaBlock (h : List Nat) (b : List Byte) : List Nat :=
  let w := ((List.range 16).map (fun i => beNat (slice (8 * i) 8 b))).reverse
  (List.zip h (shaRounds shaK w h)).map (fun p => w64 (p.1 + p.2))

/-- The message padded to whole blocks. -/
def shaPad (l : List Byte) : List Byte :=
  l ++ 0x80#8 :: List.replicate ((239 - l.length % 128) % 128) 0 ++ beBytes 16 (8 * l.length)

/-- SHA-384, 48 bytes. -/
def sha384 (l : List Byte) : List Byte :=
  let p := shaPad l
  let h := (List.range (p.length / 128)).foldl (fun h i => shaBlock h ((p.drop (128 * i)).take 128)) sha384Init
  (h.take 6).flatMap (beBytes 8)

/-- The digest truncated to 32 bytes (R537, R538). -/
def digest32 (l : List Byte) : List Byte := (sha384 l).take 32

/-! ### ECDSA over P-384 -/

/-- The field prime, the order and the coefficient b of P-384, and its base point. -/
def p384 : Nat := 2 ^ 384 - 2 ^ 128 - 2 ^ 96 + 2 ^ 32 - 1
def n384 : Nat :=
  0xffffffffffffffffffffffffffffffffffffffffffffffffc7634d81f4372ddf581a0db248b0a77aecec196accc52973
def b384 : Nat :=
  0xb3312fa7e23ee7e4988e056be3f82d19181d9c6efe8141120314088f5013875ac656398d8a2ed19d2a85c8edd3ec2aef
def g384 : Nat × Nat :=
  (0xaa87ca22be8b05378eb1c71ef320ad746e1d3b628ba79b9859f741e082542a385502f25dbf55296c3a545e3872760ab7,
   0x3617de4a96262c6f5d9e98bf9292dc29f8f41dbd289a147ce9da3113b5f0b8c00a60b1ce1d7e819d7a431d7c90ea0e5f)

/-- x^k modulo m, over the low `f` bits of k. -/
def powMod (m : Nat) : Nat → Nat → Nat → Nat
  | 0, _, _ => 1 % m
  | f + 1, x, k => let y := powMod m f (x * x % m) (k / 2); if k % 2 = 1 then x * y % m else y

/-- The inverse modulo a prime. -/
def invMod (m x : Nat) : Nat := powMod m 384 (x % m) (m - 2)

/-- The sum of two points; `none` is the point at infinity. -/
def ecAdd : Option (Nat × Nat) → Option (Nat × Nat) → Option (Nat × Nat)
  | none, q => q
  | p, none => p
  | some (x1, y1), some (x2, y2) =>
    let m := p384
    if x1 = x2 ∧ (y1 + y2) % m = 0 then none
    else
      let l := if x1 = x2 then (3 * x1 * x1 + m - 3) * invMod m (2 * y1) % m
        else (y2 + m - y1) * invMod m (x2 + m - x1) % m
      let x3 := (l * l + 2 * m - x1 - x2) % m
      some (x3, (l * (x1 + m - x3) + m - y1) % m)

/-- k times a point, over the low `f` bits of k. -/
def ecMul : Nat → Nat → Option (Nat × Nat) → Option (Nat × Nat)
  | 0, _, _ => none
  | f + 1, k, p => let q := ecMul f (k / 2) (ecAdd p p); if k % 2 = 1 then ecAdd p q else q

/-- A point lies on the curve. -/
def onCurve (q : Nat × Nat) : Bool :=
  decide (q.1 < p384) && decide (q.2 < p384)
    && decide (q.2 * q.2 % p384 = (q.1 * q.1 * q.1 + (p384 - 3) * q.1 + b384) % p384)

/-- Whether (r, s) is a signature of a 48-byte digest under the key q. -/
def ecdsaOk (q : Nat × Nat) (digest : Nat) (r s : Nat) : Bool :=
  onCurve q && decide (0 < r) && decide (r < n384) && decide (0 < s) && decide (s < n384)
    && (let i := invMod n384 s
        match ecAdd (ecMul 384 (digest * i % n384) (some g384)) (ecMul 384 (r * i % n384) (some q)) with
        | some (x, _) => decide (x % n384 = r)
        | none => false)

end Sys2Proof.Machine
end

