-- ==== Sys2Proof/Machine/PraMetric.lean ====
section
/-! DEFINITION. The arithmetic of the preamble correlators: sequences and their cyclic shifts (R194, R196, R198) and the
detection metric (R200). -/

namespace Sys2Proof.Machine

/-! ### Entry fields (R196) -/

def pcCarrier (x : Nat) : Nat := bits x 255 246
def pcCorr (x : Nat) : Nat := bits x 245 244
def pcFamily (x : Nat) : Nat := bits x 243 241
def pcFormat (x : Nat) : Nat := bits x 240 237
def pcFdOcc (x : Nat) : Nat := bits x 199 197
def pcOccasions (x : Nat) : Nat := bits x 206 200
def pcReps (x : Nat) : Nat := bits x 196 189 + 1
def pcPeriod (x : Nat) : Nat := bits x 188 181
def pcNpre (x : Nat) : Nat := bits x 212 207 + 1
def pcWin (x : Nat) : Nat := bits x 124 113
def pcNcs (x : Nat) : Nat := bits x 67 57

/-- L of an entry (R194). -/
def pcLen (x : Nat) : Nat :=
  if pcFamily x = 1 then [139, 571, 1151].getD (bits x 236 235) 139
  else if pcFamily x = 2 ∧ pcFormat x = 4 then 139 else 839

/-- The spacing of an entry's preamble subcarriers, Hz, by the tables of TS 38.211 and TS 36.211 (log entry 99). -/
def pcSpacing (mu x : Nat) : Nat :=
  if pcFamily x = 1 then 15000 * 2 ^ mu
  else if pcFamily x = 0 then (if pcFormat x = 3 then 5000 else 1250)
  else if pcFormat x = 4 then 7500 else 1250

/-! ### Cyclic shifts of the restricted sets (TS 38.211, 6.3.3.1; log entry 99) -/

/-- d_u: the smaller of q and L − q for the inverse q of root u. -/
def rootDistance (l u : Nat) : Nat :=
  let q := ((List.range l).find? (fun q => decide (q * u % l = 1 % l))).getD 0
  min q (l - q)

/-- One restricted set of one root: shifts per group, distance of groups, shifts of all groups, and the starts and lengths of the
two further runs of type B. -/
structure ShiftSet where
  per : Int
  start : Int
  total : Int
  start2 : Int
  len2 : Int
  start3 : Int
  len3 : Int

/-- The shifts of a set, in order. -/
def ShiftSet.list (z : ShiftSet) (ncs : Nat) : List Nat :=
  let run := fun (a : Int) (n : Int) => (List.range n.toNat).map (fun v => (a + (v : Int) * ncs).toNat)
  (List.range z.total.toNat).map (fun v => (z.start * ((v : Int) / z.per) + (v : Int) % z.per * ncs).toNat)
    ++ run z.start2 z.len2 ++ run z.start3 z.len3

/-- Type A, for sequence length l, shift n and distance d. -/
def shiftsA (l n d : Int) : ShiftSet :=
  if n ≤ d ∧ 3 * d < l then
    let per := d / n
    let start := 2 * d + per * n
    let groups := l / start
    ⟨per, start, per * groups + max ((l - 2 * d - groups * start) / n) 0, 0, 0, 0, 0⟩
  else if l ≤ 3 * d ∧ 2 * d ≤ l - n then
    let per := (l - 2 * d) / n
    let start := l - 2 * d + per * n
    let groups := d / start
    ⟨per, start, per * groups + min (max ((d - groups * start) / n) 0) per, 0, 0, 0, 0⟩
  else ⟨1, 0, 0, 0, 0, 0, 0⟩

/-- Type B, in the six ranges of d. -/
def shiftsB (l n d : Int) : ShiftSet :=
  if n ≤ d ∧ 5 * d < l then
    let per := d / n
    let start := 4 * d + per * n
    let groups := l / start
    ⟨per, start, per * groups + max ((l - 4 * d - groups * start) / n) 0, 0, 0, 0, 0⟩
  else if l ≤ 5 * d ∧ 4 * d ≤ l - n then
    let per := (l - 4 * d) / n
    let start := l - 4 * d + per * n
    let groups := d / start
    ⟨per, start, per * groups + min (max ((d - groups * start) / n) 0) per, 0, 0, 0, 0⟩
  else if l + n ≤ 4 * d ∧ 7 * d < 2 * l then
    let per := (4 * d - l) / n
    let start := 4 * d - l + per * n
    let groups := d / start
    let extra := max ((l - 3 * d - groups * start) / n) 0
    let len2 := min (d - groups * start) (4 * d - l - extra * n) / n
    let rest := if extra = 0 then d - groups * start else 4 * d - l - extra * n
    ⟨per, start, per * groups + extra, l - 3 * d + groups * start + extra * n, len2,
      l - 2 * d + groups * start + len2 * n, rest / n - len2⟩
  else if 2 * l ≤ 7 * d ∧ 3 * d ≤ l - n then
    let per := (l - 3 * d) / n
    let start := l - 3 * d + per * n
    let groups := d / start
    let extra := max ((4 * d - l - groups * start) / n) 0
    ⟨per, start, per * groups + extra, d + groups * start + extra * n,
      min (d - groups * start) (l - 3 * d - extra * n) / n, 0, 0⟩
  else if l + n ≤ 3 * d ∧ 5 * d < 2 * l then
    let per := (3 * d - l) / n
    let start := 3 * d - l + per * n
    let groups := d / start
    ⟨per, start, per * groups + max ((l - 2 * d - groups * start) / n) 0, 0, 0, 0, 0⟩
  else if 2 * l ≤ 5 * d ∧ 2 * d ≤ l - n then
    let per := (l - 2 * d) / n
    let start := 2 * (l - 2 * d) + per * n
    let groups := (l - d) / start
    ⟨per, start, per * groups + max ((3 * d - l - groups * start) / n) 0, 0, 0, 0, 0⟩
  else ⟨1, 0, 0, 0, 0, 0, 0⟩

/-- The cyclic shifts of one root of an entry, in order (R196). -/
def rootShifts (x u : Nat) : List Nat :=
  let l := pcLen x
  let n := pcNcs x
  if n = 0 then [0]
  else
    match bits x 214 213 with
    | 0 => (List.range (l / n)).map (fun v => v * n)
    | 1 => (shiftsA l n (rootDistance l u)).list n
    | _ => (shiftsB l n (rootDistance l u)).list n

/-- Where preambles are found: the place of their root among those used, and their cyclic shift. Roots are met in the logical
order from place i; one without a shift is used by no preamble. -/
def zcPlaces (x : Nat) : Nat → Nat → Nat → Nat → List (Nat × Nat)
  | 0, _, _, _ => []
  | f + 1, i, j, need =>
    if need = 0 then []
    else
      let cs := (rootShifts x (Config.zcRoot (pcLen x) (i % (pcLen x - 1)))).take need
      if cs = [] then zcPlaces x f (i + 1) j need
      else cs.map (fun c => (j, c)) ++ zcPlaces x f (i + 1) (j + 1) (need - cs.length)

/-- The places of the preambles of an entry; for NB-IoT each starting subcarrier has a profile of its own. -/
def praPlaces (x : Nat) : List (Nat × Nat) :=
  if pcFamily x = 3 then (List.range (pcNpre x)).map (fun i => (i, 0))
  else zcPlaces x (pcLen x) (bits x 234 224) 0 (pcNpre x)

/-! ### Load (R198) -/

/-- Root sequences of an entry. -/
def pcRoots (x : Nat) : Nat :=
  if pcNcs x = 0 then pcNpre x
  else if bits x 214 213 = 0 then ceilDiv (pcNpre x) (pcLen x / pcNcs x)
  else ((praPlaces x).map (fun q => q.1 + 1)).foldl max 0

/-- c of R198. -/
def pcCost (x : Nat) : Nat :=
  let fam := pcFamily x
  let f := pcFormat x
  if fam = 3 then 96 * (if f = 0 ∨ f = 1 ∨ f = 3 ∨ f = 4 then 4 else if f = 2 then 6 else if f = 5 then 4 else 6)
  else
    let n := if fam = 1 then [(256, 8), (1024, 10), (2048, 11)].getD (bits x 236 235) (256, 8)
      else if fam = 2 ∧ f = 4 then (256, 8) else (1024, 10)
    48 + pcRoots x * n.1 * n.2 / 16

/-- The streams of entry p: the valid TARGET 1 steering entries that name it (R198). -/
def praStreams (steering : List Nat) (p : Nat) : List Nat :=
  (steering.filter (fun x => decide (seTarget x = 1) && decide (sePcfg x = p))).map seStream

/-- R196: FAMILY, FD_OCC, CARRIER and THRESHOLD all 0 mark an unused entry. -/
def pcUsed (x : Nat) : Bool := !(decide (pcFamily x = 0) && decide (pcFdOcc x = 0) && decide (pcCarrier x = 0)
  && decide (bits x 180 165 = 0))

/-- The load of an entry, cycles/s (R198). -/
def pcLoad (steering : List Nat) (p x : Nat) : Nat :=
  if pcUsed x then (praStreams steering p).length * praReps x * pcOccasions x * 100 * pcCost x else 0

/-! ### The metric (R200) -/

/-- 2^40 × w for a gain code: the eighth root of 2^(448 − gc). -/
def praWeight (gc : Nat) : Nat := isqrt (isqrt (isqrt (2 ^ (448 - gc))))

/-- The powers of a profile bin over a repetition's streams, each with its weight. -/
def PraRep.power (r : PraRep) (j bin : Nat) : Nat :=
  ((r.corr.zip r.codes).map (fun q => ((q.1.getD j []).getD bin 0) * praWeight q.2)).sum

/-- Bins of root j. -/
def praBins (x : Nat) (acc : List PraRep) (j : Nat) : Nat :=
  if pcFamily x = 3 then ((acc.headD ⟨[], [], false⟩).corr.headD []).getD j [] |>.length else pcLen x

/-- The accumulated profile of root j: c of R200 at each bin. -/
def praSums (acc : List PraRep) (n j : Nat) : List Nat := (List.range n).map (fun b => (acc.map (fun r => r.power j b)).sum)

/-- The highest bin not among those taken, the lowest among equals. -/
def nextStrongest (l : List Nat) (taken : List Nat) : List Nat :=
  match ((List.range l.length).filter (fun b => !taken.contains b)).foldl (fun (q : Option (Nat × Nat)) b =>
    match q with
    | none => some (b, l.getD b 0)
    | some w => if w.2 < l.getD b 0 then some (b, l.getD b 0) else q) none with
  | none => taken
  | some w => w.1 :: taken

/-- The bins of a root that the noise is taken on: those more than 2 from each of its 8 strongest, around the profile's ends. -/
def quietBins (l : List Nat) : List Nat :=
  let n := l.length
  let top := (List.range 8).foldl (fun t _ => nextStrongest l t) []
  (List.range n).filter (fun b => top.all (fun q => decide (2 < (b + n - q) % n) && decide (2 < (q + n - b) % n)))

/-- The noise of R200 over the profiles of all roots, as a sum and the number of bins it is the mean over. -/
def praNoise (acc : List PraRep) (sums : List (List Nat)) : Nat × Nat :=
  let quiet := sums.zipIdx.flatMap (fun (p : List Nat × Nat) => (quietBins p.1).map (fun b => (p.2, b)))
  ((quiet.map (fun q => (acc.map (fun r => r.power q.1 q.2)).sum)).sum, quiet.length)

/-- Whether a bin lies in the search window (R200): its delay is at most WIN × 256 ns. -/
def inPraWindow (x mu : Nat) (delays : List Nat) (bin : Nat) : Bool :=
  if pcFamily x = 3 then decide (delays.getD bin 0 ≤ pcWin x * 256)
  else decide (bin * 1000000000 ≤ pcWin x * 256 * pcLen x * pcSpacing mu x)

/-- An integer of either sign from a free number. -/
def freeInt (v : Nat) : Int := if v % 2 = 0 then ((v / 2 : Nat) : Int) else -((v / 2 : Nat) : Int) - 1

/-- The metric of a bin (R200): rounding to 1/16 dB is free, and so is the metric where no power or no noise was measured. -/
def praMetric (ctr pre bin c : Nat) (noise : Nat × Nat) : Int :=
  if c = 0 ∨ noise.1 = 0 then freeInt (Config.freeOf 54 [ctr, pre, bin])
  else db16 (c * noise.2) noise.1 + ((Config.freeOf 53 [ctr, pre, bin] % 2 : Nat) : Int)

/-- The metrics of the bins of each preamble, from delay 0 up to the end of its window (R200). -/
def praMetrics (x mu ctr : Nat) (acc : List PraRep) (delays : List (List Nat)) : List (List Int) :=
  let places := praPlaces x
  let roots := if pcFamily x = 3 then pcNpre x else ((places.map (fun q => q.1 + 1)).foldl max 0)
  let sums := (List.range roots).map (fun j => praSums acc (praBins x acc j) j)
  let noise := praNoise acc sums
  places.zipIdx.map (fun (q : (Nat × Nat) × Nat) =>
    let l := sums.getD q.1.1 []
    ((List.range l.length).takeWhile (inPraWindow x mu (delays.getD q.2 []))).map (fun b =>
      praMetric ctr q.2 b (l.getD ((b + l.length - q.1.2) % l.length) 0) noise))

end Sys2Proof.Machine
end

