-- ==== Sys2Proof/Machine/Preamble.lean ====
section
/-! DEFINITION. The preamble correlators (R194 to R213): evaluations, receptions, gain, records and messages. The
correlation powers of a repetition come with the command, and the metric is computed from them (R200). -/

namespace Sys2Proof.Machine

/-! ### Thresholds and windows (R196, R212) -/

/-- A field that selects the device default when zero (R196, R212). -/
def State.pcDefault (s : State) (v : Nat) (o : Obj) : Nat := if v = 0 then s.objN o 0 else v

def State.pcThreshold (s : State) (x : Nat) : Nat := s.pcDefault (bits x 180 165) .threshold
def State.pcValidThr (s : State) (x : Nat) : Nat := s.pcDefault (bits x 164 149) .validThr
def State.pcMargin (s : State) (x : Nat) : Nat := s.pcDefault (bits x 148 141) .captureMargin
def State.pcDetWin (s : State) (x : Nat) : Nat := s.pcDefault (bits x 140 133) .detWin
def State.pcValidMin (s : State) (x : Nat) : Nat := s.pcDefault (bits x 132 129) .validMin
def State.pcTol (s : State) (x : Nat) : Nat := s.pcDefault (bits x 128 125) .timingTol

/-! ### Metrics -/

/-- The highest metric among the bins that satisfy `ok`, with its bin, the lowest bin among equals (R201, R202). -/
def bestBin (ok : Nat → Bool) (l : List Int) : Option (Nat × Int) :=
  ((List.range l.length).filter ok).foldl (fun (b : Option (Nat × Int)) i =>
    let m := l.getD i 0
    match b with
    | none => some (i, m)
    | some (_, bm) => if bm < m then some (i, m) else b) none

/-- Whether bin i lies within tol of bin t. -/
def nearBin (t tol i : Nat) : Bool := decide (i ≤ t + tol) && decide (t ≤ i + tol)

/-! ### Records (R208) -/

/-- The outcomes of R208. -/
abbrev praDetected : Nat := 0
abbrev praCollided : Nat := 1
abbrev praFalseAlarm : Nat := 2
abbrev praInvalid : Nat := 3
abbrev praTruncated : Nat := 4

/-- The counter of an outcome (R213). -/
def outcomeCounter : Nat → Obj
  | 0 => .praDetections | 1 => .praCollided | 2 => .praFalseAlarms | 3 => .praInvalid | _ => .praTruncated

/-- A report record (R208). -/
def praRecord (x : Nat) (e : PraSt) (outcome pre : Nat) (r : PraRx) : Nat :=
  e.sfn * 2 ^ 118 + e.slot * 2 ^ 110 + pcCarrier x * 2 ^ 100 + pcFdOcc x * 2 ^ 97 + outcome * 2 ^ 94
    + (pre % 64) * 2 ^ 88 + min 1048575 r.delay * 2 ^ 68 + ((r.reps - 1) % 256) * 2 ^ 60 + (max 0 (min 1023 r.metric)).toNat * 2 ^ 50
    + (r.power % 4096) * 2 ^ 38 + (r.noise % 4096) * 2 ^ 26 + (r.gain % 256) * 2 ^ 18 + (if r.clip then 2 ^ 17 else 0)
    + (if r.missing then 2 ^ 16 else 0) + (if r.latePeak then 2 ^ 15 else 0) + e.seq % 4096

/-- Watch entry e (R515). -/
def State.watchEntry (s : State) (e : Nat) : Nat := leAt (32 * e) 32 (s.dom .shWatchTable 0)

/-- The state of a watch entry (R517): OFF 0, STANDBY 1, WATCHING 2, WOKEN 3. -/
def State.watchState (s : State) (e : Nat) : Nat := s.objN .shWatchState 0 / 4 ^ e % 4

/-- The state with a watch entry's state set. -/
def State.setWatchState (s : State) (e st : Nat) : State :=
  let w := s.objN .shWatchState 0
  s.setObj .shWatchState 0 ((w - w / 4 ^ e % 4 * 4 ^ e + st * 4 ^ e : Nat) : Int)

/-- The wake decision at the close of a reception (R521). -/
def State.wakeDecision (s : State) (e outcome : Nat) (metric : Int) : State :=
  let w := s.watchEntry e
  if outcome ≤ 1 ∧ (bits w 188 173 : Int) ≤ metric then
    let t := s.now / 1000000
    let hits := t :: (tabGet [] s.sh.hits e).filter (fun h => decide (t - (bits w 168 153 : Nat) ≤ h))
    let s := { s with sh := { s.sh with hits := tabSet [] s.sh.hits e hits } }
    if bits w 172 169 ≤ hits.length ∧ s.watchState e = 2 then
      let s := s.setWatchState e 3
      let s := (s.setObj .shWakeCarriers 0 ((s.objN .shWakeCarriers 0 ||| 2 ^ e : Nat) : Int)).bump .shWakes 0
      if bitAt w 152 then
        if s.obj .pwrState 0 = 2 ∨ s.pwr.target = 2 then s.assertWake 0
        else s.evt .shWake unitSummerhouse (pcCarrier (s.praCfg (256 + e)))
      else s
    else s
  else s

/-- A reception of a watch entry closes (R520): a record in `SH_WATCH_LOG`, counted by its outcome, and the decision. -/
def State.watchClose (s : State) (p pre : Nat) (r : PraRx) (outcome : Nat) : State :=
  let e := s.praEntry p
  let n := s.sh.logSeq
  let rec_ := praRecord (s.praCfg p) { e with seq := n } outcome pre r
  let s := s.setDom .shWatchLog 0 (overlay (16 * (n % 64)) (leBytes 16 rec_) (s.dom .shWatchLog 0))
  let s := { s with sh := { s.sh with logSeq := (n + 1) % 4096 } }
  let s := s.setPra p { e with rx := e.rx.filter (fun q => decide (q.1 ≠ pre)) }
  let s := if outcome ≤ 1 then s.bump .shWatchDetections 0 else if outcome ≤ 3 then s.bump .shWatchFalse 0 else s
  s.wakeDecision (p - 256) outcome r.metric

/-- A reception of preamble `pre` closes (R201, R202, R208): one record in the ring, counted by its outcome; one of
Summerhouse's, whose entries are numbered from 256, as R520. -/
def State.praClose (s : State) (p pre : Nat) (r : PraRx) (outcome : Nat) : State :=
  if 256 ≤ p then s.watchClose p pre r outcome else
  let x := s.praCfg p
  let e := s.praEntry p
  let c := pcCorr x
  let h := s.hallOf (pcCarrier x)
  let a := terraceBase h + bits x 104 81 + 16 * (e.seq % 2 ^ bits x 80 77)
  let s := s.store a (leBytes 16 (praRecord x e outcome pre r))
  let s := s.setPra p { e with rx := e.rx.filter (fun q => decide (q.1 ≠ pre)), seq := (e.seq + 1) % 4096, since := e.since + 1 }
  (s.bump (outcomeCounter outcome) c).setObj .praOpen c (s.obj .praOpen c - 1)

/-- A reception opens at a bin (R201). -/
def State.praOpenAt (s : State) (p pre : Nat) (r : PraRx) : State :=
  let e := s.praEntry p
  let c := pcCorr (s.praCfg p)
  let s := s.setPra p { e with rx := e.rx ++ [(pre, r)] }
  if 256 ≤ p then s else s.setObj .praOpen c (s.obj .praOpen c + 1)

/-- The state with an open reception replaced. -/
def State.praUpdate (s : State) (p pre : Nat) (r : PraRx) : State :=
  let e := s.praEntry p
  s.setPra p { e with rx := e.rx.map (fun q => if q.1 = pre then (pre, r) else q) }

/-! ### Gain (R203 to R206) -/

/-- The code in force for a stream: GAIN_FIXED, or the code tracked or frozen; 128 if none. -/
def praCode (x : Nat) (e : PraSt) (t : Nat) : Nat :=
  if bits x 76 76 = 1 then bits x 75 68 else if tabGet 0 e.codes t = 0 then 128 else tabGet 0 e.codes t - 1

/-! ### An evaluation -/

/-- What is known of one evaluation besides delays and levels: its index in the attempt, the repetitions accumulated, whether it is
the attempt's last, whether some component saturated and some unit was missing, and the metrics. -/
structure PraEval where
  k : Nat
  n : Nat
  last : Bool
  clip : Bool
  missing : Bool
  metrics : List (List Int)
  deriving DecidableEq, Repr

/-- A reception as it opens at bin q (R201, R202). -/
def praRxAt (prof : PraProfile) (ev : PraEval) (pre q : Nat) (m : Int) (gain : Nat) : PraRx :=
  { bin := q, opened := ev.k, gain := gain, metric := m, reps := ev.n, delay := (prof.delays.getD pre []).getD q 0
    power := prof.power.getD pre 0, noise := prof.noise.getD pre 0, clip := false, missing := ev.missing, latePeak := false }

/-- SEARCH (R201): a detection at the highest metric if it reaches THRESHOLD. -/
def State.praSearch (s : State) (p pre gain : Nat) (prof : PraProfile) (ev : PraEval) : State :=
  match bestBin (fun _ => true) (ev.metrics.getD pre []) with
  | some (q, m) => if (s.pcThreshold (s.praCfg p) : Int) ≤ m then s.praOpenAt p pre (praRxAt prof ev pre q m gain) else s
  | none => s

/-- RECEIVING, at an evaluation that is not the reception's first (R202), up to its last step, with whether a capture
happened. -/
def State.praReceive (s : State) (p pre gain : Nat) (prof : PraProfile) (ev : PraEval) (r0 : PraRx) : State × Bool :=
  let x := s.praCfg p
  let l := ev.metrics.getD pre []
  let tol := s.pcTol x
  let lock := (bestBin (nearBin r0.bin tol) l).getD (r0.bin, r0.metric)
  let m := lock.2
  let r := { r0 with metric := m, reps := ev.n, delay := (prof.delays.getD pre []).getD lock.1 0
                     power := prof.power.getD pre 0, noise := prof.noise.getD pre 0, missing := r0.missing || ev.missing }
  if s.pcValidMin x ≤ ev.n ∧ m < s.pcValidThr x then
    ((s.praClose p pre r praInvalid).praSearch p pre gain prof ev, false)
  else
    match bestBin (fun i => !nearBin r0.bin tol i) l with
    | some (q, mq) =>
      if m + s.pcMargin x ≤ mq then
        if ev.k ≤ r0.opened + s.pcDetWin x then
          let s := s.praClose p pre r (if (s.pcThreshold x : Int) ≤ m then praCollided else praFalseAlarm)
          ((s.bumpIf (decide (p < 256)) .praCaptures (pcCorr x)).praOpenAt p pre (praRxAt prof ev pre q mq gain), true)
        else ((s.praUpdate p pre { r with latePeak := true }).bumpIf (!r.latePeak && decide (p < 256)) .praLatePeaks (pcCorr x), false)
      else (s.praUpdate p pre r, false)
    | none => (s.praUpdate p pre r, false)

/-- CLIP is set in a reception open after the evaluation (R207). -/
def State.praClip (s : State) (p : Nat) (ev : PraEval) : State :=
  let e := s.praEntry p
  if ev.clip then s.setPra p { e with rx := e.rx.map (fun q => (q.1, { q.2 with clip := true })) } else s

/-- The last step of R202: at the last repetition of the attempt an open reception closes. -/
def State.praLast (s : State) (p pre : Nat) (ev : PraEval) : State :=
  match (s.praEntry p).rx.find? (fun q => decide (q.1 = pre)) with
  | some (_, r) =>
    if ev.last then s.praClose p pre r (if (s.pcValidThr (s.praCfg p) : Int) ≤ r.metric then praDetected else praInvalid) else s
  | none => s

/-- Every preamble of an entry is evaluated, in ascending order, with whether a capture happened. -/
def State.praEvalAll (s : State) (p gain : Nat) (prof : PraProfile) (ev : PraEval) : State × Bool :=
  (List.range (pcNpre (s.praCfg p))).foldl (fun (q : State × Bool) pre =>
    match (q.1.praEntry p).rx.find? (fun z => decide (z.1 = pre)) with
    | some (_, r) => let w := q.1.praReceive p pre gain prof ev r; (w.1, q.2 || w.2)
    | none => (q.1.praSearch p pre gain prof ev, q.2)) (s, false)

/-- The gain after an evaluation (R203 to R206): frozen while a reception stays open, else tracking the codes just
measured; a capture refreezes at them. -/
def State.praGains (s : State) (p : Nat) (measured : List (Nat × Nat)) (captured : Bool) : State :=
  let e := s.praEntry p
  let meas := measured.foldl (fun g q => tabSet 0 g q.1 (q.2 + 1)) e.meas
  s.setPra p { e with meas := meas, codes := if e.rx = [] ∨ captured then meas else e.codes }

/-! ### Occasions and attempts (R194, R196, R199) -/

/-- The place in its frame of the occasion in slot S of entry p: by the accepted PRACH jobs of the frame, or for a watch entry by the
slots seen. -/
def State.praRank (s : State) (p : Nat) (S : Int) : Nat :=
  let c := pcCarrier (s.praCfg p)
  let n : Int := s.slotsPerFrame c
  let slots := if p < 256 then s.praJobs.filterMap (fun q => if q.1 = c then some q.2 else none) else (s.praEntry p).seen
  ((slots.filter (fun t => decide (t / n = S / n) && decide (t < S))).dedup).length

/-- The count since SFN 0 of the occasion in slot S (R196). -/
def State.praCount (s : State) (p : Nat) (S : Int) : Nat :=
  let x := s.praCfg p
  s.sfnOf (pcCarrier x) S * pcOccasions x + s.praRank p S

/-- The place of the occasion after the last at which an attempt may start. -/
def State.praPlace (s : State) (p : Nat) (S : Int) : Nat := s.praCount p S % max 1 (pcPeriod (s.praCfg p))

/-- The attempt of an occasion, by its first occasion over all frames. -/
def State.praAttempt (s : State) (p : Nat) (S : Int) : Int :=
  let x := s.praCfg p
  S / (s.slotsPerFrame (pcCarrier x) : Int) * pcOccasions x + s.praRank p S - s.praPlace p S

/-- Repetition (S, rep) comes after the one evaluated last. -/
def PraSt.fresh (e : PraSt) (S : Int) (rep : Nat) : Bool :=
  e.last.all (fun q => decide (q.1 < S) || (decide (q.1 = S) && decide (q.2 < rep)))

/-- Repetition (S, rep) is the next to be evaluated of its occasion, which lies in an attempt. -/
def State.praNext (s : State) (p : Nat) (S : Int) (rep : Nat) : Bool :=
  let x := s.praCfg p
  let e := s.praEntry p
  decide (rep < praReps x) && decide (0 ≤ S) && decide (s.praRank p S < pcOccasions x)
  && decide (s.praPlace p S < pcReps x) && e.fresh S rep && (decide (rep = 0) || !e.fresh S (rep - 1))

/-! ### One evaluation -/

/-- An evaluation of repetition `rep` of the occasion in slot S (R200 to R207), shared by the correlators and Summerhouse: the
streams, whether a component saturated and a unit was missing, and the codes measured. -/
def State.praEvaluate (s : State) (p : Nat) (S : Int) (rep : Nat) (streams : List Nat) (clip missing : Bool)
    (measured : List (Nat × Nat)) (prof : PraProfile) : State :=
  let x := s.praCfg p
  let c := pcCarrier x
  let e0 := s.praEntry p
  let att := s.praAttempt p S
  let begun := decide (e0.att = some att)
  let codes := streams.map (fun t => praCode x e0 t)
  let acc := (if begun then e0.acc else []) ++ [PraRep.mk codes prof.corr missing]
  let k := s.praPlace p S * praReps x + rep
  let ev : PraEval := ⟨k, acc.length, decide (k + 1 = praReps x * pcReps x), clip, acc.any (fun r => r.missing),
    praMetrics x (s.carrier c).mu s.freeCtr acc prof.delays⟩
  let s := s.setPra p { e0 with
    last := some (S, rep), att := some att, acc := acc
    sfn := if begun then e0.sfn else s.sfnOf c S
    slot := if begun then e0.slot else s.slotInFrame c S }
  let r := s.freeUsed.praEvalAll p (codes.foldl min 255) prof ev
  let s := (List.range (pcNpre x)).foldl (fun (s : State) pre => s.praLast p pre ev) r.1
  (s.praClip p ev).praGains p measured r.2

/-- The message after the last repetition of an occasion (R209). -/
def State.praMessage (s : State) (p : Nat) (S : Int) : State :=
  let x := s.praCfg p
  let c := pcCarrier x
  let e := s.praEntry p
  let h := s.hallOf c
  let m := s.sfnOf c S * 2 ^ 118 + s.slotInFrame c S * 2 ^ 110 + c * 2 ^ 100 + pcFdOcc x * 2 ^ 97 + 2 * 2 ^ 80
    + (e.since % 65536) * 2 ^ 64 + (e.seq % 4096) * 2 ^ 52 + toField 32 s.now
  let s := s.setPra p { e with since := 0 }
  let s := s.paceCompletion (16 + pcCorr x / 2) (s.ulDeadline c S - s.now) false
  s.hwSend (64 * (16 + pcCorr x / 2) + pcCorr x % 2) (256 * h + bits x 112 105) m

/-- The number of the buffer of an occasion: that which holds or held it last, else the one its steering entries give it. -/
def State.praBuf (s : State) (p : Nat) (S : Int) : Nat :=
  match (List.range 8).find? (fun i => decide ((s.ulBuf (8 * (768 + p) + i)).slot = S)) with
  | some i => 8 * (768 + p) + i
  | none =>
    match (s.tableAt (s.tableFor (pcCarrier (s.praCfg p)) S)).find? (fun y => decide (seTarget y = 1) && decide (sePcfg y = p)) with
    | some y => 8 * (768 + p) + (S % (seNbuf y : Int)).toNat
    | none => 8 * (768 + p)

/-- The steering entries of an occasion: of the table its buffer keeps, else of the table in force for its slot. -/
def State.praSteer (s : State) (p : Nat) (S : Int) : List Nat :=
  let b := s.ulBuf (s.praBuf p S)
  s.tableAt (if b.slot = S then b.table else s.tableFor (pcCarrier (s.praCfg p)) S)

/-- The landed units of a repetition and stream, as a mask; none where no section claimed the buffer. -/
def State.praLanded (s : State) (p : Nat) (S : Int) (t rep : Nat) : Nat :=
  let b := s.ulBuf (s.praBuf p S)
  if b.slot = S then tabGet 0 b.landed (16 * t + rep) else 0

/-- The landed units of a repetition and stream, as raw values. -/
def State.praUnitsOf (s : State) (p : Nat) (S : Int) (t rep : Nat) : List (List Int) :=
  let base := terraceBase (s.hallOf (pcCarrier (s.praCfg p)))
  match (s.praSteer p S).find? (fun y => decide (seTarget y = 1) && decide (sePcfg y = p) && decide (seStream y = t)) with
  | none => []
  | some y =>
    let l := s.landOf y
    (maskList 512 (s.praLanded p S t rep)).map (fun u =>
      rawPrb l.comp l.width (s.readMem (base + l.offset S rep u) l.prbBytes))

/-- The code measured on a repetition (R203 by R166), and whether it is the fallback. -/
def State.praMeasure (s : State) (p : Nat) (S : Int) (t rep : Nat) : Nat × Bool :=
  let w := powerOf (s.praUnitsOf p S t rep)
  if w.1 = 0 then (praCode (s.praCfg p) (s.praEntry p) t, true)
  else (gainCode w.1 w.2 (s.obj .praGainTarget 0) (Config.freeOf 7 [s.freeCtr, t]), false)

/-- Units of a repetition that have not landed, over its streams (R165). -/
def State.praLacks (s : State) (p : Nat) (S : Int) (rep : Nat) : Nat :=
  ((praStreams (s.praSteer p S) p).map (fun t => praUnits (s.praCfg p) - popCount 512 (s.praLanded p S t rep))).sum

/-- The occasion's buffer was claimed and has been released (R165). -/
def State.praReleased (s : State) (p : Nat) (S : Int) : Bool :=
  decide ((s.ulBuf (s.praBuf p S)).slot = S) && decide ((s.ulBuf (s.praBuf p S)).st = 0)

/-- Whether a repetition is complete under R165: every unit of every stream landed, its window closed, or its buffer
released. -/
def State.praReady (s : State) (p : Nat) (S : Int) (rep : Nat) : Bool :=
  s.praReleased p S || decide (s.windowClose (pcCarrier (s.praCfg p)) S rep ≤ s.now) || decide (s.praLacks p S rep = 0)

/-- PRA_EVALUATION (R200 to R209): repetition `rep` of the occasion in slot S of entry p is complete. Repetitions are evaluated in
order; one outside an attempt is not evaluated. -/
def execPraEvaluation (p : Fin 256) (S : Int) (rep : Nat) (prof : PraProfile) (s : State) :
    Host.Outcome State Fault Refusal :=
  .next <|
    let x := s.praCfg p
    let c := pcCarrier x
    if !pcUsed x ∨ (s.unit (unitBlock (pcCorr x / 2))).st ≠ unitRunning ∨ !s.hasUlJob 1 c S
        ∨ !s.praNext p S rep ∨ !s.praReady p S rep then s
    else
      let ts := praStreams (s.praSteer p S) p
      let e := s.praEntry p
      let lacks := s.praLacks p S rep
      let clip := ts.any (fun t => (s.praUnitsOf p S t rep).any (fun v => v.any (clips (praCode x e t))))
      let meas := if bits x 76 76 = 1 then [] else ts.map (fun t => (t, s.praMeasure p S t rep))
      let s := (s.bumpBy .ulFhMissingPrb (s.hallOf c) lacks).bumpIf clip .praClipReps (pcCorr x)
      let s := s.bumpBy .ulGainFallback (s.hallOf c) (meas.filter (fun q => q.2.2)).length
      let s := s.praEvaluate p S rep ts clip (decide (lacks ≠ 0) || s.praReleased p S) (meas.map (fun q => (q.1, q.2.1))) prof
      if rep + 1 = praReps x then s.praMessage p S else s

/-- Every open reception of an entry closes TRUNCATED (R211), with which the gain returns to tracking (R205). -/
def State.praTruncate (s : State) (p : Nat) : State :=
  let s := (s.praEntry p).rx.foldl (fun (s : State) q => s.praClose p q.1 q.2 praTruncated) s
  let e := s.praEntry p
  s.setPra p { e with codes := if e.meas = [] then e.codes else e.meas, att := none, acc := [] }

/-- Repetitions complete by now count as evaluated (R211: lost repetitions are not evaluated again). -/
def State.praSkip (s : State) (p : Nat) : State :=
  let x := s.praCfg p
  let slots := s.praJobs.filterMap (fun q => if q.1 = pcCarrier x then some q.2 else none)
  let lost := slots.flatMap (fun S => (List.range (praReps x)).filterMap (fun r => if s.praReady p S r then some (S, r) else none))
  let e := s.praEntry p
  s.setPra p (lost.foldl (fun (e : PraSt) q => if e.fresh q.1 q.2 then { e with last := some q } else e) e)

end Sys2Proof.Machine
end

