-- ==== Sys2Proof/Machine/TimeOps.lean ====
section
/-! DEFINITION. The clock's states and its rate (R406, R407, R413, R414, R417): what ports and the commands of time
share. -/

namespace Sys2Proof.Machine

/-- Clock states (R417). -/
abbrev clkFreerun : Int := 0
abbrev clkAcquiring : Int := 1
abbrev clkLocked : Int := 2
abbrev clkHoldover : Int := 3

/-- 100 ppm in 2^−16 ppb (R406). -/
def rhoMax : Int := 6553600000

/-- Entries of a history within a time, and the one in force at its start. -/
def keepFrom (t0 : Int) : List (Int × Int) → List (Int × Int)
  | [] => []
  | p :: r => if p.1 ≤ t0 then [p] else p :: keepFrom t0 r

/-- ρ set, within ±100 ppm (R406); its history covers the longest mean, 600 s. -/
def State.setRho (s : State) (v : Int) : State :=
  let v := max (-rhoMax) (min rhoMax v)
  let s := s.setObj .timeRho 0 v
  { s with time := { s.time with rhoLog := keepFrom (s.now - 600000000000) ((s.now, v) :: s.time.rhoLog) } }

/-- ρ summed over time from `t0` to `fin`. -/
def rhoSum (t0 : Int) : Int → List (Int × Int) → Int
  | _, [] => 0
  | fin, (t, v) :: r => if t ≤ t0 then v * (fin - t0) else v * (fin - t) + rhoSum t0 t r

/-- The mean of ρ over the last seconds (R414, R417). -/
def State.meanRho (s : State) (secs : Int) : Int :=
  let d := secs * 1000000000
  rhoSum (s.now - d) s.now s.time.rhoLog / max 1 d

/-- The SyncE source is followed (R413, R414). -/
def State.synceOn (s : State) : Bool :=
  decide (s.obj .synceHybrid 0 ≠ 0) && decide (s.obj .synceSrc 0 ≠ 255) && !s.time.synceBad

/-- Into HOLDOVER (R417): counted, with an event; ρ is the mean of the last `TIME_HOLD_AVG` seconds, or that of
SyncE. -/
def State.enterHoldover (s : State) : State :=
  let rho := if s.synceOn then s.time.synceRho else s.meanRho (s.obj .timeHoldAvg 0)
  let s := ((s.setObj .timeState 0 clkHoldover).bump .timeHoldovers 0).evt .holdover unitTime 0
  let s := s.setRho rho
  { s with time := { s.time with holdEntry := s.now, lockSince := none } }

/-- Into ACQUIRING (R417). -/
def State.enterAcquiring (s : State) : State :=
  let from_ := decide (s.obj .timeState 0 = clkHoldover)
  let s := s.setObj .timeState 0 clkAcquiring
  { s with time := { s.time with fromHold := from_, lockSince := none, freqInt := s.obj .timeRho 0 } }

/-- The source is lost (R417): LOCKED goes to HOLDOVER; ACQUIRING to HOLDOVER if it was entered from there, else to
FREERUN. -/
def State.sourceLost (s : State) : State :=
  if s.obj .timeState 0 = clkLocked then s.enterHoldover
  else if s.obj .timeState 0 = clkAcquiring then
    if s.time.fromHold then s.enterHoldover else s.setObj .timeState 0 clkFreerun
  else s

/-- The portState values of IEEE 1588-2019 (R409, R425). -/
abbrev ptpFaulty : Int := 2
abbrev ptpListening : Int := 4
abbrev ptpMaster : Int := 6
abbrev ptpPassive : Int := 7
abbrev ptpSlave : Int := 9

/-- A port leaves UP (R409, R417): its PTP port is FAULTY, and if it was the slave the source is lost. -/
def State.ptpPortLost (s : State) (p : Nat) : State :=
  if s.obj .ptpPortEn p = 0 then s
  else
    let s := s.setObj .ptpPortState p ptpFaulty
    let s := { s with time := { s.time with masters := tabSet none s.time.masters p none } }
    if s.time.slave = some p then
      let s := { s with time := { s.time with slave := none } }
      if s.obj .timeSource 0 = 0 then s.sourceLost else s
    else s

/-- Whether any carrier is admitted (R407). -/
def State.anyCarrier (s : State) : Bool := (List.range 768).any (fun c => decide (s.hallOf c ≠ 255))

/-- Device time moved by a step (R407), counted, with an event. -/
def State.stepTime (s : State) (v : Int) : State :=
  let s := (s.setObj .timeSec 0 (v / 1000000000 % 281474976710656)).setObj .timeNs 0 (v % 1000000000)
  let s := s.setObj .timeFrac 0 0
  ((s.bump .timeSteps 0).evt .timeStep unitTime 0)

/-- `CTX_OPS_RATE` at the start of a ms of device time (R291): the operations of the ms before, × 1,000. -/
def State.showCtxRate (s : State) : State :=
  s.setObj .ctxOpsRate 0 (if s.ctx.opMs + 1 = s.now / 1000000 then ((s.ctx.opCount * 1000 : Nat) : Int) else 0)

end Sys2Proof.Machine
end

