-- ==== Sys2Proof/Machine/Time.lean ====
section
/-! DEFINITION. The time unit (R406 to R426): PTP and its servo, SyncE, PPS, the clock states, steps and triggers. -/

namespace Sys2Proof.Machine

/-! ### Triggers (R421) and the snapshot they issue (R556) -/

/-- Whether an object number is that of a counter, or of the state of R544: what a snapshot latches (R556). -/
def latched (k : Nat) : Bool :=
  objRows.any (fun r => decide (r.obj.ctorIdx = k % 1024) && (decide (0xA000 ≤ r.fam) && decide (r.fam ≤ 0xAFFF)
    || decide (r.obj = .pairState) || decide (r.obj = .pairRole) || decide (r.obj = .pairEpoch)))

/-- Every counter and state object is latched (R556). -/
def State.latchSnapshot (s : State) : State :=
  { s with stairSnap := { s.stairSnap with objs := s.objs.filter (fun p => latched p.1), units := s.units } }

/-- Trigger n is armed. -/
def State.trigArmed (s : State) (n : Nat) : Bool := bitAt (s.objN .timeTrigStatus 0) n

/-- `TIME_TRIG_STATUS` with bit n and bit 31 as given. -/
def State.setTrigStatus (s : State) (n : Nat) (armed late : Bool) : State :=
  let m := s.objN .timeTrigStatus 0 % 65536
  let m := m - m / 2 ^ n % 2 * 2 ^ n + (if armed then 2 ^ n else 0)
  s.setObj .timeTrigStatus 0 ((m + (if late then 2 ^ 31 else 0) : Nat) : Int)

/-- Whether the last trigger that fired was late. -/
def State.trigLate (s : State) : Bool := bitAt (s.objN .timeTrigStatus 0) 31

/-- A trigger fires and disarms (R421): action 1 latches a snapshot, action 2 sends an event. -/
def State.fireTrig (s : State) (n : Nat) (late : Bool) : State :=
  let s := (s.setTrigStatus n false late).bumpIf late .timeTrigLate 0
  match s.objN .timeTrig n / 2 ^ 56 with
  | 1 => s.latchSnapshot
  | 2 => s.evt .timeTrig unitTime n
  | _ => s

/-- The full value of a trigger written at device time t (R421). -/
def trigValue (t : Int) (v : Nat) : Int :=
  let x := t / 2 ^ 56 * 2 ^ 56 + (v % 2 ^ 56 : Nat)
  if 2 ^ 55 < t - x then x + 2 ^ 56 else x

/-- The armed triggers that device time has passed fire late, in ascending order (R421). -/
def State.firePassed (s : State) : State :=
  (List.range 16).foldl (fun s n =>
    if s.trigArmed n ∧ tabGet 0 s.time.trigs n < s.now then s.fireTrig n true else s) s

/-- Device time is stepped, and triggers compare with the stepped time (R407, R421, R423). -/
def State.stepAndFire (s : State) (v : Int) : State := (s.stepTime v).firePassed

/-- TIME_SET (R407): a step to the value, refused while a carrier is admitted and in LOCKED. -/
def execTimeSet (a : Accessor) (v : Nat) (s : State) : Host.Outcome State Fault Refusal :=
  .next (s.dictWrite a .timeSet 0 v
    (Status.unless (!s.anyCarrier && decide (s.obj .timeState 0 ≠ clkLocked)) .state) (fun s =>
    let s := s.stepAndFire v
    { s with time := { s.time with justSet := true } }))

/-- TIME_TRIG_WRITE (R421): action 0 disarms; 1 and 2 arm, and a value already passed fires at once; others are
refused. -/
def execTimeTrigWrite (a : Accessor) (n : Fin 16) (v : Nat) (s : State) : Host.Outcome State Fault Refusal :=
  .next (s.dictWrite a .timeTrig n v (Status.unless (decide (v / 2 ^ 56 ≤ 2)) .range) (fun s =>
    let s := s.setObj .timeTrig n v
    if v / 2 ^ 56 = 0 then s.setTrigStatus n false s.trigLate
    else
      let x := trigValue s.now v
      let s := { s with time := { s.time with trigs := tabSet 0 s.time.trigs n x } }
      let s := s.setTrigStatus n true s.trigLate
      if x < s.now then s.fireTrig n true else s))

/-- The time unit counts: it has its rail and is not restarting (R485, R531). -/
def State.timeRuns (s : State) : Bool :=
  decide ((s.unit unitTime).st ≠ unitSleeping) && decide ((s.unit unitTime).st ≠ unitRestarting)

/-- TIME_TRIG_FIRE (R421): device time has reached an armed trigger; of those due at one instant the lowest fires
first. -/
def execTimeTrigFire (n : Fin 16) (s : State) : Host.Outcome State Fault Refusal :=
  .next <|
    let due := fun k => s.trigArmed k && decide (tabGet 0 s.time.trigs k ≤ s.now)
    if s.timeRuns ∧ due n ∧ (List.range n).all (fun k => !(due k && decide (tabGet 0 s.time.trigs k ≤ tabGet 0 s.time.trigs n))) then
      s.fireTrig n false
    else s

/-! ### The servo (R407, R410) -/

/-- A list in ascending order. -/
def sortInts (l : List Int) : List Int := l.foldl (fun r x => (r.takeWhile (fun y => decide (y ≤ x))) ++ x :: (r.dropWhile (fun y => decide (y ≤ x)))) []

/-- The median of a list (log entry 55). -/
def median (l : List Int) : Int := (sortInts l).getD (l.length / 2) 0

/-- The outlier test of R410: no test before the first offset. -/
def State.outlier (s : State) (offset : Int) : Bool :=
  decide (s.time.offsets ≠ []) && decide (4 * s.obj .timeLockThresh 0 < |offset - median s.time.offsets|)

/-- ρ from an offset (R410): the frequency from SyncE in hybrid, else the integrator; less the phase term, which adds at
most `TIME_SLEW_MAX`. The terms kp and ki give are free values of the offset and the bandwidth (log entry 56). -/
def State.servoRho (s : State) (offset synce : Int) : State :=
  let bw := s.objN .timeServoBw 0
  let mag := offset.natAbs
  let phase := offset.sign * (Config.freeOf 30 [mag, bw] : Nat)
  let lim := s.obj .timeSlewMax 0 * 65536
  let phase := max (-lim) (min lim phase)
  let fi := s.time.freqInt + offset.sign * (Config.freeOf 31 [mag, bw] : Nat)
  let s := { s with time := { s.time with freqInt := fi } }
  let base := if s.synceOn then synce else fi
  let s := if s.synceOn then { s with time := { s.time with synceRho := synce } } else s
  s.setRho (base - phase)

/-- An offset is taken by the servo (R407, R410, R417). -/
def State.servo (s : State) (offset synce : Int) : State :=
  let out := s.outlier offset
  let s := { s with time := { s.time with offsets := (offset :: s.time.offsets).take 15 } }
  if out then s.bump .ptpOutliers 0
  else
    let s := s.setObj .timeOffset 0 (max (-2147483648) (min 2147483647 offset))
    let small := decide (|offset| < s.obj .timeLockThresh 0)
    let since := if small then (s.time.lockSince.orElse (fun _ => some s.now)) else none
    let s := { s with time := { s.time with lockSince := since } }
    if !s.anyCarrier ∧ s.obj .timeStepThresh 0 < |offset| then s.stepAndFire (s.now - offset)
    else s.servoRho offset synce

/-- The offset of R410. -/
def ptpOffset (t1 t2 t3 t4 cSync cDreq asym : Int) : Int :=
  (2 * (t2 - t1 - cSync) - ((t2 - t1 - cSync) + (t4 - t3 - cDreq)) - 2 * asym) / 2

/-- PTP_SYNC_RECEIVE (R410, R411): `t2` and `t3` are timestamps at the PCS, to which the port's board delays are added; only the port in SLAVE feeds the servo, with PTP as the source, and a Delay_Req older than
1 s is not paired. -/
def execPtpSyncReceive (p : Fin 48) (t1 t2 t3 t4 cSync cDreq age synce : Int) (s : State) :
    Host.Outcome State Fault Refusal :=
  .next <|
    if s.time.slave = some p.val ∧ s.obj .timeSource 0 = 0 ∧ age ≤ 1000000000
        ∧ (s.obj .timeState 0 = clkAcquiring ∨ s.obj .timeState 0 = clkLocked) then
      s.servo (ptpOffset t1 (t2 + s.ingLat p) (t3 + s.egrLat p) t4 cSync cDreq (s.obj .ptpPortAsym p)) synce
    else s

/-! ### The alternate BMCA (R408, R409) -/

/-- The ranking of a master heard on a port (log entry 57), most significant first. -/
def State.masterRank (s : State) (p : Nat) (m : PtpMsg) : List Nat :=
  [m.gmClass, m.gmAccuracy, m.gmVariance, m.prio2, s.objN .ptpPortLocalPrio p, m.gmId, m.steps, m.sender, p]

/-- The first of two rankings. -/
def rankLt : List Nat → List Nat → Bool
  | a :: as, b :: bs => if a = b then rankLt as bs else decide (a < b)
  | _, _ => false

/-- A port takes part: enabled and UP (R409). -/
def State.ptpActive (s : State) (p : Nat) : Bool := decide (s.obj .ptpPortEn p ≠ 0) && decide (s.obj .ethPortState p = portUp)

/-- The ports whose master is qualified: two Announces heard. -/
def State.ptpQualified (s : State) : List (Nat × PtpMsg) :=
  (List.range 48).filterMap (fun p =>
    match tabGet none s.time.masters p with
    | some m => if s.ptpActive p ∧ 2 ≤ m.heard ∧ s.obj .ptpPortNotSlave p = 0 then some (p, m.msg) else none
    | none => none)

/-- The best of the qualified masters. -/
def State.bestMaster (s : State) : List (Nat × PtpMsg) → Option (Nat × PtpMsg)
  | [] => none
  | x :: r =>
    match s.bestMaster r with
    | none => some x
    | some y => if rankLt (s.masterRank y.1 y.2) (s.masterRank x.1 x.2) then some y else some x

/-- The port states the BMCA decides (R409): the port of the best master in SLAVE; other ports MASTER in a T-BC and
PASSIVE in a T-TSC, LISTENING while nothing is heard in a T-TSC; a port that is not UP FAULTY. -/
def State.runBmca (s : State) : State :=
  let best := (s.bestMaster s.ptpQualified).map (fun x => x.1)
  let s := { s with time := { s.time with slave := best } }
  (List.range 48).foldl (fun s p =>
    if s.obj .ptpPortEn p = 0 then s
    else
      let st := if s.obj .ethPortState p ≠ portUp then ptpFaulty
        else if best = some p then ptpSlave
        else if s.obj .ptpClockType 0 = 1 then ptpMaster
        else if tabGet none s.time.masters p = none then ptpListening
        else ptpPassive
      s.setObj .ptpPortState p st) s

/-- A qualified source: FREERUN and HOLDOVER go to ACQUIRING (R417). -/
def State.sourceQualified (s : State) : State :=
  if s.obj .timeState 0 = clkFreerun ∨ s.obj .timeState 0 = clkHoldover then s.enterAcquiring else s

/-- What a port heard before is of the same grandmaster and sender. -/
def sameMaster (o : PtpMaster) (m : PtpMsg) : Bool := decide (o.msg.gmId = m.gmId) && decide (o.msg.sender = m.sender)

/-- What a port keeps of its master after an Announce: the message and how many of it were heard, up to two. -/
def heardOf (old : Option PtpMaster) (m : PtpMsg) : PtpMaster :=
  match old with
  | some o => if sameMaster o m then ⟨m, min 2 (o.heard + 1)⟩ else ⟨m, 1⟩
  | none => ⟨m, 1⟩

/-- The grandmaster a port heard has changed. -/
def gmChanged (old : Option PtpMaster) (m : PtpMsg) : Bool :=
  match old with
  | some o => decide (o.msg.gmId ≠ m.gmId)
  | none => false

/-- The clock at an Announce of the slave port's master, unchanged (R417, R424). -/
def State.slaveAnnounce (s : State) (m : PtpMsg) : State :=
  let s := (s.setObj .timeGmId 0 m.gmId).setObj .timeUtcOffset 0 m.utcOffset
  if s.obj .timeSource 0 = 0 then s.sourceQualified else s

/-- The clock at an Announce of the slave port's master with a new grandmaster (R417). -/
def State.newGrandmaster (s : State) (m : PtpMsg) : State :=
  let s := s.setObj .timeGmId 0 m.gmId
  if s.obj .timeSource 0 = 0 ∧ (s.obj .timeState 0 = clkLocked ∨ s.obj .timeState 0 = clkAcquiring) then s.enterHoldover
  else s

/-- The state with what a port heard of its master. -/
def State.setMaster (s : State) (p : Nat) (m : Option PtpMaster) : State :=
  { s with time := { s.time with masters := tabSet none s.time.masters p m } }

/-- An Announce taken on a port (R409, R417): a new grandmaster at the slave's master puts the clock in HOLDOVER until the
next Announce. -/
def State.announce (s : State) (p : Nat) (m : PtpMsg) : State :=
  let old := tabGet none s.time.masters p
  let changed := decide (s.time.slave = some p) && gmChanged old m
  let s := s.setMaster p (some (heardOf old m))
  if changed then s.newGrandmaster m
  else
    let was := s.time.slave
    let s := s.runBmca
    if s.time.slave = none then (if was.isSome ∧ s.obj .timeSource 0 = 0 then s.sourceLost else s)
    else if s.time.slave ≠ some p then s
    else if was.isSome ∧ was ≠ some p ∧ s.obj .timeGmId 0 ≠ m.gmId then s.newGrandmaster m
    else s.slaveAnnounce m

/-- PTP_MESSAGE_RECEIVE (R408, R409): over UDP it is dropped and counted; of another domain, or on a port that takes no
part, it changes nothing. -/
def execPtpMessageReceive (p : Fin 48) (m : PtpMsg) (s : State) : Host.Outcome State Fault Refusal :=
  .next <|
    if m.udp then s.bump .ptpIpDropped 0
    else if !s.ptpActive p ∨ (m.domain : Int) ≠ s.obj .ptpDomain 0 ∨ !m.announce then s
    else s.announce p m

/-- ANNOUNCE_TIMEOUT (R417): the master of the port is lost, and if it was the slave's, so is the source. -/
def execAnnounceTimeout (p : Fin 48) (s : State) : Host.Outcome State Fault Refusal :=
  .next <|
    if tabGet none s.time.masters p.val = none then s
    else
      let was := decide (s.time.slave = some p.val)
      let s := (s.setMaster p none).runBmca
      if was ∧ s.obj .timeSource 0 = 0 then s.sourceLost else s

/-- The clockClass a T-BC announces (R417). -/
def State.clockClass (s : State) : Nat :=
  if s.obj .timeState 0 = clkLocked then
    ((s.time.slave.bind (fun p => tabGet none s.time.masters p)).map (fun m => m.msg.gmClass)).getD 248
  else if s.obj .timeState 0 = clkHoldover then 135
  else if s.obj .timeState 0 = clkAcquiring ∧ s.time.fromHold then 165
  else 248

/-- A PTP message of the device (R408, R417; the layout of IEEE 1588-2019, whose fields the spec does not give are free,
log entry 58): kind 0 Announce, 1 Sync, 2 Delay_Req. -/
def State.ptpFrame (s : State) (p kind : Nat) : List Byte :=
  let da := if s.obj .ptpPortDa p = 0 then 0x011B19000000 else 0x0180C200000E
  let n := if kind = 0 then 64 else 44
  let m := s.freeBytes n
  let m := overlay 0 [BitVec.ofNat 8 (if kind = 0 then 0xB else if kind = 1 then 0 else 1), 0x02] m
  let m := overlay 2 (beBytes 2 n) m
  let m := overlay 4 (beBytes 1 (s.objN .ptpDomain 0)) m
  let m := if kind = 0 then
      overlay 48 (beBytes 1 s.clockClass) (overlay 44 (beBytes 2 (toField 16 (s.obj .timeUtcOffset 0))) m)
    else m
  let m := if kind = 0 ∧ s.obj .timeState 0 = clkLocked then overlay 53 (beBytes 8 (s.objN .timeGmId 0)) m else m
  padded (beBytes 6 da ++ beBytes 6 (s.objN .ethMacAddr p) ++ beBytes 2 0x88F7 ++ m)

/-- PTP_TX_TIMER (R408): a MASTER port sends Announce and Sync, the SLAVE port Delay_Req, on queue 7 through input 18 of
the port's insertion arbiter. -/
def execPtpTxTimer (p : Fin 48) (kind : Fin 3) (s : State) : Host.Outcome State Fault Refusal :=
  .next <|
    let st := s.obj .ptpPortState p
    if s.ptpActive p ∧ ((kind.val < 2 ∧ st = ptpMaster) ∨ (kind.val = 2 ∧ st = ptpSlave)) then
      (s.offerOwn p 7 18 (s.ptpFrame p kind)).freeUsed
    else s

/-! ### Clock states, SyncE and PPS (R413 to R417) -/

/-- TIME_LOCK_HOLD_EXPIRE (R417): the offset has stayed below `TIME_LOCK_THRESH` for `TIME_LOCK_HOLD`. -/
def execTimeLockHoldExpire (s : State) : Host.Outcome State Fault Refusal :=
  .next (if s.obj .timeState 0 = clkAcquiring
      ∧ s.time.lockSince.any (fun t => decide (t + s.obj .timeLockHold 0 * 1000000000 ≤ s.now)) then s.setObj .timeState 0 clkLocked else s)

/-- HOLDOVER_MAX_EXPIRE (R417). -/
def execHoldoverMaxExpire (s : State) : Host.Outcome State Fault Refusal :=
  .next (if s.obj .timeState 0 = clkHoldover ∧ s.time.holdEntry + s.obj .timeHoldoverMax 0 * 1000000000 ≤ s.now then
    s.setObj .timeState 0 clkFreerun else s)

/-- SYNCE_DISQUALIFY (R414): the port of the source is not UP, or its frequency differs by more than 4.6 ppm from the
prior value; ρ holds its mean of the last second. -/
def execSynceDisqualify (rho : Int) (s : State) : Host.Outcome State Fault Refusal :=
  .next <|
    if s.obj .synceSrc 0 = 255 ∨ s.time.synceBad then s
    else if s.obj .ethPortState (s.objN .synceSrc 0) ≠ portUp ∨ 301465600 < |rho - s.time.synceRho| then
      let mean := s.meanRho 1
      let hybrid := decide (s.obj .synceHybrid 0 ≠ 0)
      let s := if hybrid then s.setRho mean else s
      let s := { s with time := { s.time with synceBad := true, freqInt := if hybrid then mean else s.time.freqInt } }
      (s.bump .synceLosses 0).evt .synceLoss unitTime (s.objN .synceSrc 0)
    else s

/-- The offset of an instant from the nearest whole second of device time (R415). -/
def ppsOffset (t : Int) : Int := let d := t % 1000000000; if 500000000 ≤ d then d - 1000000000 else d

/-- PPS_IN_EDGE (R415): with `TIME_SOURCE` at 1 the servo takes its offset; an edge more than 100 ms from a whole second is
ignored and counted, and one during a `TIME_SET` is ignored (R423). -/
def execPpsInEdge (s : State) : Host.Outcome State Fault Refusal :=
  .next <|
    if !s.timeRuns ∨ s.obj .timeSource 0 ≠ 1 ∨ s.time.justSet then s
    else
      let o := ppsOffset s.now
      if 100000000 < |o| then s.bump .ppsInRejects 0
      else
        let s := ({ s with time := { s.time with lastPps := some s.now } }).sourceQualified
        s.servo (o - s.obj .ppsInDelay 0) s.time.synceRho

/-- PPS_LOSS (R417): no edge for 3 s. -/
def execPpsLoss (s : State) : Host.Outcome State Fault Refusal :=
  .next <|
    if s.obj .timeSource 0 = 1 ∧ s.time.lastPps.any (fun t => decide (t + 3000000000 ≤ s.now)) then
      ({ s with time := { s.time with lastPps := none } }).sourceLost
    else s

/-- PPS_OUT_SECOND (R416): device time, advanced, passes a whole second; the output rises in every state of the clock. -/
def execPpsOutSecond (s : State) : Host.Outcome State Fault Refusal :=
  .next (if !s.timeRuns ∨ s.obj .ppsOutEn 0 = 0 ∨ s.obj .ppsOutWidth 0 ≤ (s.now + s.obj .ppsOutAdvance 0) % 1000000000 then s else { s with pins := { s.pins with ppsOut := true } })

/-- Objects that follow time alone: `CTX_OPS_RATE` at each ms of device time (R291), `SCRUB_LAP_AGE` at each second (R340). -/
def State.showPassing (s : State) (before : Int) : State :=
  let s := if s.now / 1000000 ≠ before / 1000000 then s.showCtxRate else s
  if s.elapsed % 1000000000 = 0 then s.showLaps else s

/-- One period of `TD_0` (R406): 1 ns × (1 + ρ), with ρ in 2^−16 ppb, carried exactly. -/
def State.tickTime (s : State) : State :=
  let whole := 65536 * 1000000000 + s.obj .timeRho 0 + s.time.resid
  let frac := s.obj .timeFrac 0 + whole / 1000000000
  let ns := s.obj .timeNs 0 + frac / 65536
  let s := { s with time := { s.time with resid := whole % 1000000000, justSet := false }, elapsed := s.elapsed + 1 }
  let s := (s.setObj .timeFrac 0 (frac % 65536)).setObj .timeNs 0 (ns % 1000000000)
  s.setObj .timeSec 0 ((s.obj .timeSec 0 + ns / 1000000000) % 281474976710656)

/-- `PPS_OUT` falls at the end of its width (R416). -/
def State.ppsFall (s : State) : State :=
  if s.pins.ppsOut ∧ s.obj .ppsOutWidth 0 ≤ (s.now + s.obj .ppsOutAdvance 0) % 1000000000 then
    { s with pins := { s.pins with ppsOut := false } }
  else s

/-- What one period of `TD_0` does. While the time unit sleeps or restarts, nothing counts (R485, R531). -/
def State.tick (s : State) : State :=
  if !s.timeRuns then s
  else (s.tickTime.showPassing s.now).ppsFall

end Sys2Proof.Machine
end

