-- ==== Sys2Proof/Machine/Staging.lean ====
section
/-! DEFINITION. Staged configuration (R465 to R469) with the checks of its objects: admission (R16 to R19), the steering
table (R160, R195), the preamble table (R197), the transmit map (R259), R272, the switch tables (R397, R398) and R419. -/

namespace Sys2Proof.Machine

/-! ### Objects by number, and contexts -/

/-- The object a number names. -/
def objOfNo (k : Nat) : Obj :=
  ((objRows.find? (fun r => decide (r.obj.ctorIdx = k % 1024))).map (fun r => r.obj)).getD .idPart

/-- The scalar under an object number set. -/
def State.setKey (s : State) (k : Nat) (v : Int) : State :=
  { s with objs := tabSet ((objOfNo k).default (k / 1024)) s.objs k v }

/-- The bytes under an object number set. -/
def State.setDomKey (s : State) (k : Nat) (l : List Byte) : State := { s with doms := tabSet [] s.doms k l }

/-- A table with a value listed at a number. -/
def tabPut {α : Type} (t : Tab α) (k : Nat) (v : α) : Tab α := tabInsert (tabErase t k) k v

/-- Context k. -/
def State.stageCtx (s : State) (k : Nat) : StageSt := tabGet StageSt.reset s.staged k

/-- `STAGE_USED` (R482): scalars and KiB of DOMAIN staged. -/
def StageSt.used (x : StageSt) : Int :=
  ((x.vals.length % 65536 * 65536 + ceilDiv ((x.doms.map (fun p => p.2.length)).sum) 1024 : Nat) : Int)

/-- The state with context k set. -/
def State.setStage (s : State) (k : Nat) (x : StageSt) : State :=
  ({ s with staged := tabSet StageSt.reset s.staged k x }).setObj .stageUsed k x.used

/-- Context k is ARMED (R465). -/
def State.stageArmed (s : State) (k : Nat) : Bool := decide (s.obj .stageState k = 1)

/-- A scalar is staged in context k (R465, R466). -/
def State.stageVal (s : State) (k key : Nat) (v : Int) : State × Status :=
  let x := s.stageCtx k
  let y := { x with vals := tabPut x.vals key v }
  if s.stageArmed k then (s, .stageLocked)
  else if 4096 < y.vals.length then (s, .stageFull)
  else (s.setStage k y, .ok)

/-- A DOMAIN object is staged in context k (R465, R466). -/
def State.stageDom (s : State) (k key : Nat) (l : List Byte) : State × Status :=
  let x := s.stageCtx k
  let y := { x with doms := tabPut x.doms key (domClean (objOfNo key) l) }
  if s.stageArmed k then (s, .stageLocked)
  else if s.obj .memDdrSize 0 = 0 then (s, .noMemory)
  else if 524288 < (y.doms.map (fun p => p.2.length)).sum then (s, .stageFull)
  else (s.setStage k y, .ok)

/-- A context goes to OPEN with its staging emptied (R465). -/
def State.stageClear (s : State) (k : Nat) : State :=
  ((s.setStage k StageSt.reset).setObj .stageState k 0).setObj .stageTime k 0

/-! ### Admission (R16 to R19, R398, R548) -/

/-- The cost of a carrier in CU (R16). -/
def cuCost (x : CarrierCfg) : Nat :=
  match x.kind with
  | 0 => ceilDiv (3 * x.bw * (x.dlLayers + 2 * x.ulLayers)) 4000
  | 1 => ceilDiv (x.bw * (x.dlLayers + 2 * x.ulLayers)) 600
  | _ => 1

/-- The carriers admitted. -/
def State.admitted (s : State) : List Nat := (List.range 768).filter (fun c => decide (s.hallOf c ≠ 255))

/-- CU placed in a hall. -/
def State.hallCu (s : State) (h : Nat) : Nat :=
  ((s.admitted.filter (fun c => decide (s.hallOf c = h))).map (fun c => cuCost (s.carrier c))).sum

/-- CU of all admitted carriers. -/
def State.totalCu (s : State) : Nat := (s.admitted.map (fun c => cuCost (s.carrier c))).sum

/-- A hall in service: neither asleep nor retired (R469, R535). -/
def State.hallOpen (s : State) (h : Nat) : Bool :=
  decide ((s.unit (unitHall h)).st ≠ unitSleeping) && decide ((s.unit (unitHall h)).st ≠ unitRetired)

/-- A list with `n` added at place i. -/
def addAt (l : List Nat) (i n : Nat) : List Nat := l.mapIdx (fun j x => if j = i then x + n else x)

/-- Halls for the carriers to be placed, as carrier and cost, in the room the others leave: the first of all ways to
place them, if there is one (R17, R18). -/
def placeAll (halls : List Nat) : List (Nat × Nat) → List Nat → Option (List (Nat × Nat))
  | [], _ => some []
  | (c, k) :: r, load =>
    halls.findSome? (fun h =>
      if load.getD h 0 + k ≤ 48 then (placeAll halls r (addAt load h k)).map (fun t => (c, h) :: t) else none)

/-- The load of the halls after a choice, if the choice names a hall in service with room for each carrier. -/
def placeAs (halls : List Nat) (choice : List (Nat × Nat)) : List (Nat × Nat) → List Nat → Option (List (Nat × Nat))
  | [], _ => some []
  | (c, k) :: r, load =>
    match choice.find? (fun p => decide (p.1 = c)) with
    | some (_, h) =>
      if halls.contains h ∧ load.getD h 0 + k ≤ 48 then
        (placeAs halls choice r (addAt load h k)).map (fun t => (c, h) :: t)
      else none
    | none => none

/-- The halls for new carriers (R18): as the device picks, or else the first placement there is. -/
def State.placeNew (s : State) (choice : List (Nat × Nat)) (new : List Nat) : Option (List (Nat × Nat)) :=
  let halls := (List.range 16).filter s.hallOpen
  let load := (List.range 16).map s.hallCu
  let items := new.map (fun c => (c, cuCost (s.carrier c)))
  if load.any (fun n => decide (48 < n)) then none
  else (placeAs halls choice items load).orElse (fun _ => placeAll halls items load)

/-- Bits a second of one frequency-domain stream: PRBs of a width, with an exponent byte under block floating point (R161). -/
def fdRate (x : CarrierCfg) (prbs w : Nat) (bfp : Bool) : Nat :=
  prbs * (24 * w + if bfp then 8 else 0) * ((if x.ecp then 12000 else 14000) * 2 ^ x.mu)

/-- Bits a second of one time-domain stream of FFT size N (R265): two components of a width at N × subcarrier spacing. -/
def tdRate (x : CarrierCfg) (N w : Nat) : Nat := N * 15000 * 2 ^ x.mu * 2 * w

/-- Bits a second of an uplink stream as its steering entry has it (R159, R161). -/
def ulRate (x : CarrierCfg) (e : Nat) : Nat :=
  let w := bits e 64 61 + 1
  if seTarget e = 2 then tdRate x (2 ^ bits e 54 51) w else fdRate x (bits e 59 51) w (bitAt e 60)

/-- Bits a second of a downlink stream as its transmit-map entry has it (R259; log entry 60). -/
def dlRate (x : CarrierCfg) (e : Nat) : Nat :=
  if bitAt e 77 then tdRate x (2 ^ max 7 (Nat.clog 2 (12 * x.prbs))) 16 else fdRate x x.prbs 9 true

/-- The fronthaul load of a number of layers, Mb/s (R18; log entry 60): the mean stream of `rates`, or without one a stream at
9-bit block floating point, for each layer, plus 14 %. -/
def fhLoad (x : CarrierCfg) (layers : Nat) (rates : List Nat) : ℚ :=
  let each : ℚ := if rates = [] then (fdRate x x.prbs 9 true : Nat) else ((rates.sum : Nat) : ℚ) / ((rates.length : Nat) : ℚ)
  (layers : ℚ) * each * 114 / 100000000

/-- The admitted load of a carrier: downlink and uplink; none for a carrier that is not admitted. -/
def State.dlLoad (s : State) (c : Nat) : ℚ :=
  if s.hallOf c = 255 then 0
  else fhLoad (s.carrier c) (s.carrier c).dlLayers
    (((validEntries (s.dom .dlTxmapTable 0)).filter (fun e => decide (tmCarrier e = c))).map (dlRate (s.carrier c)))
def State.ulLoad (s : State) (c : Nat) : ℚ :=
  if s.hallOf c = 255 then 0
  else fhLoad (s.carrier c) (s.carrier c).ulLayers
    (((validEntries (s.dom .ulSteerTable 0)).filter (fun e => decide (seCarrier e = c) && decide (seTarget e ≠ 1))).map
      (ulRate (s.carrier c)))

/-- The share of each entry that names a carrier of the list's own: 1 over their number. -/
def share (l : List Nat) (c : Nat) : ℚ := 1 / ((max 1 (l.filter (fun d => decide (d = c))).length : Nat) : ℚ)

/-- The downlink charge of a port, Mb/s (R398). -/
def State.chargeDl (s : State) (p : Nat) : ℚ :=
  let es := validEntries (s.dom .dlTxmapTable 0)
  let all := es.map tmCarrier
  let mine := (es.filter (fun x => decide (tmPort x = p))).map tmCarrier
  let resv := ((validEntries (s.dom .swFwdTable 0)).filter (fun x => decide (bits x 126 121 = p))).map (fun x => bits x 59 44)
  (mine.map (fun c => s.dlLoad c * share all c)).sum + ((resv.sum : Nat) : ℚ)

/-- The uplink charge of a port, Mb/s (R398). -/
def State.chargeUl (s : State) (p : Nat) : ℚ :=
  let es := validEntries (s.dom .ulSteerTable 0)
  let all := es.map seCarrier
  let mine := (es.filter (fun x => decide (bits (s.endpoint (bits x 126 121)) 126 121 = p))).map seCarrier
  (mine.map (fun c => s.ulLoad c * share all c)).sum

/-- No configured port carries more than 96 % of its rate in either direction (R18). -/
def State.portsOk (s : State) : Bool :=
  (List.range 48).all (fun p =>
    let rate : ℚ := (portRate (s.portMode p) p : Nat)
    decide (rate = 0) || (decide (s.chargeDl p ≤ rate * 96 / 100) && decide (s.chargeUl p ≤ rate * 96 / 100)))

/-- Valid entries of the endpoint table. -/
def State.endpointCount (s : State) : Nat := (validEntries (s.dom .swEndpointTable 0)).length

/-- The Dravut link's payload in Mb/s by the mode of its quads (R545). -/
def dravutRate (mode : Int) : ℚ := if mode = 9 then 436300 else if mode = 8 then 218100 else 0

/-- The pair link carries the mirror allowance, and with `PAIR_UL_MODE` 1 the uplink load (R548). -/
def State.pairLoadOk (s : State) : Bool :=
  decide (s.obj .pairState 0 = pairSingle)
  || decide (((500 * s.totalCu : Nat) : ℚ) + (if s.obj .pairUlMode 0 = 1 then (s.admitted.map s.ulLoad).sum else 0)
      ≤ dravutRate (s.obj .laneQuadMode 12) * 9 / 10)

/-- A rational as the nearest integer below or above it: which of the two, the spec does not say. -/
def roundFree (q : ℚ) : Int :=
  if q.den = 1 then q.num else q.floor + ((Config.freeOf 11 [q.num.natAbs, q.den] % 2 : Nat) : Int)

/-! ### Tables -/

/-- The valid entries of a table of 16-byte entries, with their numbers. -/
def numbered (t : List Byte) : List (Nat × Nat) :=
  ((List.range (t.length / 16)).map (fun i => (i, leAt (16 * i) 16 t))).filter (fun p => bitAt p.2 127)

/-- The lowest entry with a reason that is not 0. -/
def firstBad (reason : Nat → Nat → Nat) : List (Nat × Nat) → Option (Nat × Nat)
  | [] => none
  | (i, x) :: r => if reason i x ≠ 0 then some (i, reason i x) else firstBad reason r

/-- The number of the first condition of a list that fails, from 1; 0 if all hold. -/
def firstFail : Nat → List Bool → Nat
  | _, [] => 0
  | n, b :: r => if b then firstFail (n + 1) r else n

/-- Bytes of the slice an entry's buffers take: first and number. -/
def State.steerSpan (s : State) (x : Nat) : Nat × Nat :=
  let l := s.landOf x
  (l.base, l.nbuf * l.slotStride)

/-- Two ranges of bytes overlap. -/
def overlap (a b : Nat × Nat) : Bool := decide (a.1 < b.1 + b.2) && decide (b.1 < a.1 + a.2)

/-- A range lies in the slice above the TCBs (R127). -/
def inFreeSlice (a : Nat × Nat) : Bool := decide (0x20000 ≤ a.1) && inSlice a.1 a.2

/-- R160 reason 5: an entry's fields are in range; PCFG as R195. -/
def State.steerRange (s : State) (x : Nat) : Bool :=
  decide (seTarget x ≠ 3) && decide (seCarrier x < 768) && decide (7 ≤ bits x 64 61)
  && (match seTarget x with
    | 0 => decide (1 ≤ bits x 59 51) && decide (bits x 59 51 ≤ 273)
    | 1 => pcUsed (s.praCfg (sePcfg x)) && decide (pcCarrier (s.praCfg (sePcfg x)) = seCarrier x)
    | _ => decide (7 ≤ bits x 54 51) && decide (bits x 54 51 ≤ 12))

/-- R160 reason 6: the buffers outlast the uplink deadline. -/
def State.steerLasts (s : State) (x : Nat) : Bool :=
  let c := seCarrier x
  let off := s.obj .ulDeadlineOffset c
  decide ((if off = 0 then 2 * s.slotNs c else off) ≤ (seNbuf x : Int) * s.slotNs c)

/-- The reason an entry of the steering table fails (R160); 0 if none. -/
def State.steerReason (s : State) (all : List (Nat × Nat)) (i x : Nat) : Nat :=
  firstFail 1 [
    all.all (fun q => decide (q.1 = i) || decide (bits q.2 126 101 ≠ bits x 126 101)),
    decide (768 ≤ seCarrier x) || decide (s.hallOf (seCarrier x) ≠ 255),
    inFreeSlice (s.steerSpan x),
    all.all (fun q => decide (q.1 = i) || decide (s.hallOf (seCarrier q.2) ≠ s.hallOf (seCarrier x))
      || !overlap (s.steerSpan q.2) (s.steerSpan x)),
    s.steerRange x, s.steerLasts x]

/-- Used entries of the preamble table, with their numbers. -/
def State.praUsed (s : State) : List (Nat × Nat) :=
  ((List.range 256).map (fun p => (p, s.praCfg p))).filter (fun q => pcUsed q.2)

/-- Bytes of the slice a report ring takes. -/
def ringSpan (x : Nat) : Nat × Nat := (bits x 104 81, 16 * 2 ^ bits x 80 77)

/-- R197 reason 2: an entry's fields are in range (R196; log entry 61). -/
def State.praRange (s : State) (x : Nat) : Bool :=
  let fam := bits x 243 241
  let f := bits x 240 237
  let zone := if pcNcs x = 0 then pcLen x else pcNcs x
  decide (pcCarrier x < 768) && decide (fam ≤ 3) && decide (f < [4, 7, 5, 8].getD fam 0)
  && (decide (fam ≠ 1) || decide (bits x 236 235 ≠ 3)) && decide (bits x 214 213 ≠ 3)
  && decide (1 ≤ bits x 206 200) && decide (bits x 206 200 ≤ 80) && decide (bits x 196 189 ≤ 127)
  && decide (s.pcValidThr x ≤ s.pcThreshold x)
  && (decide (bits x 148 141 = 0) || decide (16 ≤ bits x 148 141))
  && decide (1 ≤ bits x 124 113) && decide (bits x 104 81 % 4096 = 0)
  && decide (4 ≤ bits x 80 77) && decide (bits x 80 77 ≤ 12) && decide (pcNcs x < pcLen x)
  && (decide (fam = 3)
    || decide (pcWin x * 256 * pcLen x * pcSpacing (s.carrier (pcCarrier x)).mu x ≤ zone * 1000000000))

/-- R197 reason 3. -/
def State.praPeriodOk (s : State) (x : Nat) : Bool :=
  let fam := bits x 243 241
  decide (pcReps x ≤ pcPeriod x)
  && (decide (bits x 196 189 = 0) || decide (fam = 3) || (decide (fam = 2) && decide ((s.carrier (pcCarrier x)).kind = 2)))

/-- The load of a correlator, cycles/s (R198). -/
def State.corrLoad (s : State) (k : Nat) : Nat :=
  let steering := validEntries (s.dom .ulSteerTable 0)
  ((s.praUsed.filter (fun q => decide (pcCorr q.2 = k))).map (fun q => pcLoad steering q.1 q.2)).sum

/-- The reason an entry of the preamble table fails (R197); 0 if none. -/
def State.praReason (s : State) (all : List (Nat × Nat)) (i x : Nat) : Nat :=
  let h := s.hallOf (pcCarrier x)
  firstFail 1 [
    decide (768 ≤ pcCarrier x) || decide (h ≠ 255),
    s.praRange x,
    s.praPeriodOk x,
    inFreeSlice (ringSpan x)
      && all.all (fun q => decide (q.1 = i) || decide (s.hallOf (pcCarrier q.2) ≠ h) || !overlap (ringSpan q.2) (ringSpan x))
      && (validEntries (s.dom .ulSteerTable 0)).all (fun y =>
        decide (s.hallOf (seCarrier y) ≠ h) || !overlap (s.steerSpan y) (ringSpan x)),
    decide (s.corrLoad (pcCorr x) ≤ 1520000000),
    all.all (fun q => decide (q.1 = i) || decide (pcCarrier q.2 ≠ pcCarrier x) || decide (pcFdOcc q.2 ≠ pcFdOcc x))]

/-- A port that its quad's mode gives lanes. -/
def State.portLaned (s : State) (p : Nat) : Bool := decide (p < 48) && decide (portLanes (s.portMode p) p ≠ [])

/-- The reason an entry of the transmit map fails (R259); 0 if none. -/
def State.txReason (s : State) (all : List (Nat × Nat)) (i x : Nat) : Nat :=
  firstFail 1 [
    decide (768 ≤ tmCarrier x) || decide (s.hallOf (tmCarrier x) ≠ 255),
    all.all (fun q => decide (q.1 = i) || decide (bits q.2 126 112 ≠ bits x 126 112)),
    all.all (fun q => decide (q.1 = i) || decide (bits q.2 111 90 ≠ bits x 111 90)),
    decide (48 ≤ tmPort x) || s.portLaned (tmPort x),
    decide (tmCarrier x < 768) && decide (tmPort x < 48)]

/-- The reason an endpoint entry fails (R397); 0 if none. -/
def State.epReason (s : State) (all : List (Nat × Nat)) (i x : Nat) : Nat :=
  let vid := fun (y : Nat) => if bitAt y 120 then bits y 119 108 + 1 else 0
  if !all.all (fun q => decide (q.1 = i) || decide (bits q.2 126 121 ≠ bits x 126 121)
      || decide (bits q.2 107 60 ≠ bits x 107 60) || decide (vid q.2 ≠ vid x)) then 1
  else if 48 ≤ bits x 126 121 then 4
  else if !s.portLaned (bits x 126 121) then 2
  else 0

/-- The reason a forwarding entry fails (R397); 0 if none. -/
def State.fwdReason (s : State) (all : List (Nat × Nat)) (i x : Nat) : Nat :=
  let vid := fun (y : Nat) => if bitAt y 120 then bits y 119 108 + 1 else 0
  let p := bits x 126 121
  if !all.all (fun q => decide (q.1 = i) || decide (bits q.2 107 60 ≠ bits x 107 60) || decide (vid q.2 ≠ vid x)) then 1
  else if 48 ≤ p then 4
  else if !s.portLaned p then 2
  else if ((portRate (s.portMode p) p : Nat) : ℚ) * 96 / 100 < s.chargeDl p then 5
  else 0

/-- The reason a filter entry fails (R397); 0 if none. -/
def State.filterReason (s : State) (x : Nat) : Nat :=
  let p := bits x 125 120
  if !bitAt x 126 ∧ 48 ≤ p then 4
  else if !bitAt x 126 ∧ !s.portLaned p then 2
  else if s.obj .erxEnable (bits x 54 49) = 0 then 3
  else 0

/-! ### The checks of a set (R468) -/

/-- A check that failed: index × 256 + subindex of the failing object, and what the check writes to its own error object. -/
structure CheckFail where
  addr : Nat
  writes : List (Obj × Int)
  deriving DecidableEq, Repr

/-- A table's failure in its error object. -/
def tableFail (table error : Obj) (r : Nat × Nat) : CheckFail :=
  ⟨objAddr table 0, [(error, ((r.1 * 65536 + r.2 : Nat) : Int))]⟩

/-- A set's steering and preamble tables, against each other as they will stand after the commit instant (R160, R195, R197). -/
def State.checkUplink (s : State) (x : StageSt) : Option CheckFail :=
  let has := fun (o : Obj) => (tabFind x.doms (objKey o 0)).isSome
  let st := numbered (s.dom .ulSteerTable 0)
  (if has .ulSteerTable then (firstBad (s.steerReason st) st).map (tableFail .ulSteerTable .ulSteerError) else none)
  <|> (if has .praCfgTable then (firstBad (s.praReason s.praUsed) s.praUsed).map (tableFail .praCfgTable .praCfgError) else none)

/-- A set's transmit map, as the configuration will stand (R259). -/
def State.checkTxMap (s : State) (x : StageSt) : Option CheckFail :=
  let tx := numbered (s.dom .dlTxmapTable 0)
  if (tabFind x.doms (objKey .dlTxmapTable 0)).isSome then
    (firstBad (s.txReason tx) tx).map (tableFail .dlTxmapTable .dlTxmapError)
  else none

/-- A switch table's failure (R397). -/
def swFail (table : Obj) (n : Nat) (r : Nat × Nat) : CheckFail :=
  ⟨objAddr table 0, [(.swTableError, ((n * 16777216 + r.1 * 256 + r.2 : Nat) : Int))]⟩

/-- The staged tables of the switch (R397). -/
def State.checkSwitch (s : State) (x : StageSt) : Option CheckFail :=
  let has := fun (o : Obj) => (tabFind x.doms (objKey o 0)).isSome
  let ep := numbered (s.dom .swEndpointTable 0)
  let fw := numbered (s.dom .swFwdTable 0)
  (if has .swEndpointTable then (firstBad (s.epReason ep) ep).map (swFail .swEndpointTable 1) else none)
  <|> (if has .swFwdTable then (firstBad (s.fwdReason fw) fw).map (swFail .swFwdTable 2) else none)
  <|> (if has .swFilterTable then
      (firstBad (fun _ y => s.filterReason y) (numbered (s.dom .swFilterTable 0))).map (swFail .swFilterTable 3)
    else none)

/-- The highest f_out of a carrier, Hz (R266). -/
def State.tdRateMax (s : State) (c : Nat) : Nat := 4096 * 15000 * 2 ^ (s.carrier c).mu * 4

/-- R272 for one staged object number. -/
def State.windowsOk (s : State) (key : Nat) : Bool :=
  let o := objOfNo key
  let c := key / 1024
  if o = .dlUpWinClose ∨ o = .dlUpAdvance then decide (s.obj .dlUpWinClose c < s.obj .dlUpAdvance c)
  else if o = .tdWinClose ∨ o = .tdAdvance then decide (s.obj .tdWinClose c < s.obj .tdAdvance c)
  else if o = .tdNcoOffset then decide (2 * (s.obj .tdNcoOffset c).natAbs < s.tdRateMax c)
  else true

/-- R419 for one staged object number: the offset of a carrier admitted before and after does not change. -/
def State.offsetOk (s before : State) (key : Nat) : Bool :=
  let c := key / 1024
  decide (objOfNo key ≠ .timeSfnOffset) || decide (before.hallOf c = 255) || decide (s.hallOf c = 255)
    || decide (s.obj .timeSfnOffset c = before.obj .timeSfnOffset c)

/-- The staged scalars of a set that must agree with each other or with the past (R272, R419). -/
def State.checkScalars (s before : State) (x : StageSt) : Option CheckFail :=
  (x.vals.find? (fun p => !(s.windowsOk p.1 && s.offsetOk before p.1))).map
    (fun p => ⟨objAddr (objOfNo p.1) (p.1 / 1024), []⟩)

/-- The reason R18 refuses a configuration as it will stand, `placed` telling whether its new carriers could be placed; 0 if
it does not. -/
def State.admitReason (s : State) (placed : Bool) (total : Nat) : Nat :=
  firstFail 1 [decide (total ≤ 768), placed, s.portsOk, decide (s.endpointCount ≤ 64), s.pairLoadOk]

/-- A set staged as it will stand, with its carriers but before the new ones are placed; answers those too. -/
def State.applySet (s : State) (x : StageSt) : State × List Nat :=
  let s := x.vals.foldl (fun s p => s.setKey p.1 p.2) s
  let s := x.doms.foldl (fun s p => s.setDomKey p.1 p.2) s
  let gone := x.removed.filter (fun c => (tabFind x.cfgs c).isNone)
  let s := gone.foldl (fun s c => s.setObj .carrierHall c 255) s
  let s := x.cfgs.foldl (fun s p => { s with carriers := tabSet CarrierCfg.reset s.carriers p.1 p.2 }) s
  (s, (x.cfgs.map (fun p => p.1)).filter (fun c => decide (s.hallOf c = 255)))

/-- New carriers put in their halls. -/
def State.putCarriers (s : State) (halls : List (Nat × Nat)) : State :=
  halls.foldl (fun s p => s.setObj .carrierHall p.1 p.2) s

/-- One set checked on top of the state `s` it will meet (R468): the state after it and the halls of its new carriers, or
the failure. `before` is the state before the commit slot. -/
def State.checkSet (s before : State) (x : StageSt) (choice : List (Nat × Nat)) :
    Except CheckFail (State × List (Nat × Nat)) :=
  let q := s.applySet x
  let has := fun (o : Obj) => (tabFind x.doms (objKey o 0)).isSome
  let whole := !decide (x.cfgs = []) || !decide (x.removed = []) || has .ulSteerTable || has .dlTxmapTable
  let total := q.1.totalCu + (q.2.map (fun c => cuCost (q.1.carrier c))).sum
  let place := q.1.placeNew choice q.2
  let halls := place.getD []
  let t := q.1.putCarriers halls
  let why := t.admitReason place.isSome total
  if whole ∧ why ≠ 0 then .error ⟨objAddr .capLastRefusal 0, [(.capLastRefusal, why)]⟩
  else
    match t.checkTxMap x <|> t.checkScalars before x <|> t.checkSwitch x with
    | some f => .error f
    | none => .ok (t, halls)

/-! ### The commit instant (R467) -/

/-- Armed contexts by commit instant, then number. -/
def State.armOrder (s : State) : List (Int × Nat) :=
  ((s.staged.filter (fun p => s.stageArmed p.1)).map (fun p => (p.2.tc, p.1))).foldl (fun l p =>
    l.takeWhile (fun q => decide (q.1 < p.1) || (decide (q.1 = p.1) && decide (q.2 ≤ p.2)))
      ++ p :: l.dropWhile (fun q => decide (q.1 < p.1) || (decide (q.1 = p.1) && decide (q.2 ≤ p.2)))) []

/-- A set as it will stand, its new carriers in the halls chosen for them, or in hall 0 while none is. -/
def State.applyArmed (s : State) (x : StageSt) : State :=
  let q := s.applySet x
  q.1.putCarriers (q.2.map (fun c => (c, (tabFind x.halls c).getD 0)))

/-- A slot of the timing of R418 with offset 0 and numerology mu. -/
def State.plainInstant (s : State) (mu sfn slot : Nat) : Int :=
  let fr := nearestFrame 1024 ((s.now - gpsEpoch) / 10000000) sfn
  gpsEpoch + fr * 10000000 + ((slot / 2 ^ mu : Nat) : Int) * 1000000 + symbolOffset mu false (slot % 2 ^ mu * 14)

/-- The commit instant a `STAGE_COMMIT` of context k names; none if R467 refuses it. -/
def State.commitInstant (s : State) (k v : Nat) : Option Int :=
  let ref := bits v 41 32
  let mu := bits v 31 29
  let sfn := bits v 28 19
  let slot := bits v 18 11
  if ref = 0x3FF then if 4 < mu ∨ 10 * 2 ^ mu ≤ slot then none else some (s.plainInstant mu sfn slot)
  else if 768 ≤ ref then none
  else
    let l := s.armOrder
    let adds := fun (j : Nat) => (tabFind (s.stageCtx j).cfgs ref).isSome
    (List.range (l.length + 1)).findSome? (fun i =>
      let pre := l.take i
      let h := (pre.foldl (fun (h : State) p => h.applyArmed (s.stageCtx p.2)) s).applyArmed (s.stageCtx k)
      let t := h.slotStart ref (h.slotOfSfn ref sfn slot)
      let known := decide (s.hallOf ref ≠ 255) || adds k || pre.any (fun p => adds p.2 && decide (p.1 < t))
      if known ∧ slot < h.slotsPerFrame ref ∧ pre.getLast?.all (fun p => decide (p.1 ≤ t))
          ∧ l[i]?.all (fun p => decide (t < p.1)) then some t else none)

/-! ### Arming (R468) -/

/-- How far the check of the sets has come: the state as it will stand, the commit instant last met, the state before it and the sets
checked for it, and the halls chosen by context. -/
structure ArmCheck where
  cur : State
  tc : Option Int
  before : State
  group : List StageSt
  halls : List (Nat × List (Nat × Nat))

/-- The sets of an instant are all applied: their uplink tables are checked as they stand then (R195). -/
def ArmCheck.close (a : ArmCheck) : Except CheckFail ArmCheck :=
  match a.group.findSome? a.cur.checkUplink with
  | some f => .error f
  | none => .ok { a with group := [] }

/-- One set of the order checked; those due before `T` only apply. -/
def State.armStep (s : State) (T : Int) (k : Nat) (choice : List (Nat × Nat)) (a : ArmCheck) (p : Int × Nat) :
    Except CheckFail ArmCheck :=
  let x := s.stageCtx p.2
  if p.1 < T then .ok ⟨a.cur.applyArmed x, some p.1, if a.tc = some p.1 then a.before else a.cur, [], a.halls⟩
  else
    match if a.tc = some p.1 then .ok a else a.close with
    | .error f => .error f
    | .ok a =>
      let before := if a.tc = some p.1 then a.before else a.cur
      match a.cur.checkSet before x (if p.2 = k then choice else x.halls) with
      | .error f => .error f
      | .ok (t, halls) => .ok ⟨t, some p.1, before, a.group ++ [x], (p.2, halls) :: a.halls⟩

/-- Context k's set and every set armed for its instant or later, checked in order (R468). -/
def State.armSim (s : State) (k : Nat) (T : Int) (choice : List (Nat × Nat)) : Except CheckFail ArmCheck :=
  let mine := fun (q : Int × Nat) => decide (q.1 < T) || (decide (q.1 = T) && decide (q.2 < k))
  let l := s.armOrder
  match (l.takeWhile mine ++ (T, k) :: l.dropWhile mine).foldlM (s.armStep T k choice) ⟨s, none, s, [], []⟩ with
  | .error f => .error f
  | .ok a => a.close

/-- A table that came or will come into force put in its place, the newest first. -/
def insertTable (t : Int × List Byte) : List (Int × List Byte) → List (Int × List Byte)
  | [] => [t]
  | x :: r => if t.1 < x.1 then x :: insertTable t r else t :: x :: r

/-- What the engines read of a set from its arming on (R160, R259, R469): its steering table, its transmit map, and the
configuration of the carriers it adds. -/
def State.showArmed (s : State) (tc : Int) (x : StageSt) : State :=
  let s : State := match tabFind x.doms (objKey .ulSteerTable 0) with
    | some t => { s with steer := insertTable (tc, t) s.steer }
    | none => s
  let s : State := match tabFind x.doms (objKey .dlTxmapTable 0) with
    | some t => { s with txMaps := insertTable (tc, t) s.txMaps }
    | none => s
  let fresh := x.cfgs.filter (fun p => decide (s.hallOf p.1 = 255))
  fresh.foldl (fun (s : State) p => { s with carriers := tabSet CarrierCfg.reset s.carriers p.1 p.2 }) s

/-- What a cancelled set no longer shows. -/
def State.hideArmed (s : State) (tc : Int) (x : StageSt) : State :=
  { s with
    steer := match tabFind x.doms (objKey .ulSteerTable 0) with | some t => s.steer.erase (tc, t) | none => s.steer
    txMaps := match tabFind x.doms (objKey .dlTxmapTable 0) with | some t => s.txMaps.erase (tc, t) | none => s.txMaps }

/-- The result of an arm in `STAGE_RESULT`, a refusal counted. -/
def State.armResult (s : State) (k : Nat) (st : Status) (addr : Nat) : State :=
  (s.setObj .stageResult k (lastStatusWord st addr)).bumpIf (decide (st ≠ .ok)) .stageRefused 0

/-- An accepted arm: the state, the commit instant, the halls chosen, and the journal's entry
(R468, R538; layout in log entry 83). -/
def State.armAccept (s : State) (k : Nat) (T : Int) (a : ArmCheck) : State :=
  let s := a.halls.foldl (fun (s : State) p =>
    let x := s.stageCtx p.1
    s.setStage p.1 { x with tc := if p.1 = k then T else x.tc, halls := p.2.foldl (fun t q => tabPut t q.1 q.2) [] }) s
  let s := ((s.setObj .stageState k 1).setObj .stageTime k T).showArmed T (s.stageCtx k)
  s.journalNote 4 unitLodge 0 0 k (leBytes 8 (toField 64 T))

/-- A `STAGE_COMMIT` of context k (R467, R468): the state and the status, with the failing object. -/
def State.arm (s : State) (k v : Nat) (choice : List (Nat × Nat)) : State × Status × Nat :=
  if s.stageArmed k then (s, .stageLocked, 0)
  else
    match s.commitInstant k v with
    | none => (s.armResult k .range 0, .range, 0)
    | some T =>
      if T < s.now + s.obj .stageLead 0 * 1000 then (s.armResult k .commitLate 0, .commitLate, 0)
      else
        match s.armSim k T choice with
        | .error f => ((f.writes.foldl (fun (s : State) p => s.setObj p.1 0 p.2) s).armResult k .commitCheck f.addr, .commitCheck, f.addr)
        | .ok a => ((s.armAccept k T a).armResult k .ok 0, .ok, 0)

/-- R482: who may write a context's objects. -/
def stageGate (a : Accessor) (k : Nat) : Status :=
  match a.cls with
  | .h => .ok
  | .v => if a.num = k then .ok else .owner
  | _ => if k = 0 then .ok else .writeDenied

/-- STAGE_COMMIT (R467, R468, R482). -/
def execStageCommit (a : Accessor) (k : Fin 64) (v : BitVec 64) (place : List (Nat × Nat)) (s : State) :
    Host.Outcome State Fault Refusal :=
  .next <|
    let addr := objAddr .stageCommit k
    match s.reach a (addr / 256) with
    | none => s
    | some r =>
      let st := (s.writeGate a .stageCommit k v.toNat r).orElse (stageGate a k)
      let s := s.countAccess a
      if st ≠ .ok then s.refuseAt a st addr
      else
        let q := s.arm k v.toNat place
        if q.2.1 = .ok then q.1.acceptAt a addr v.toNat else q.1.refuseAt a q.2.1 addr

/-- A context is emptied by a cancel (R465, R480). -/
def State.stageCancel (s : State) (k : Nat) : State :=
  let x := s.stageCtx k
  (if s.stageArmed k then s.hideArmed x.tc x else s).stageClear k

/-- STAGE_CANCEL (R465, R482). -/
def execStageCancel (a : Accessor) (k : Fin 64) (v : Nat) (s : State) : Host.Outcome State Fault Refusal :=
  .next (s.dictWrite a .stageCancel k v (stageGate a k) (fun s => s.stageCancel k))

/-! ### The commit (R469) -/

/-- `CAP_CU_USED` and the other records of admission (R19, R402, R190, R212) follow the configuration in force. -/
def State.admitRefresh (s : State) : State :=
  let s := s.setObj .capCuUsed 0 s.totalCu
  let s := s.setObj .capFhLoadDl 0 (roundFree (s.admitted.map s.dlLoad).sum)
  let s := s.setObj .capFhLoadUl 0 (roundFree (s.admitted.map s.ulLoad).sum)
  let s := s.setObj .capRuEndpoints 0 s.endpointCount
  let s := s.setObj .ulSteerCount 0 (validEntries (s.dom .ulSteerTable 0)).length
  let s := (List.range 48).foldl (fun (s : State) p =>
    (s.setObj .ethChargeDl p (roundFree (s.chargeDl p))).setObj .ethChargeUl p (roundFree (s.chargeUl p))) s
  (List.range 4).foldl (fun (s : State) k => s.setObj .praLoad k (roundFree ((s.corrLoad k : ℚ) / 1000000))) s

/-- A watch entry follows its carrier's admission and its enable (R517). -/
def State.watchRefresh (s : State) (e : Nat) : State :=
  let old := s.watchState e
  let on := bitAt (s.watchEntry e) 255 && bitAt (s.objN .shWatchEn 0) e
  let adm := decide (s.hallOf (pcCarrier (s.praCfg (256 + e))) ≠ 255)
  let st := if !on then 0 else if adm then 1 else if old = 3 then 3 else 2
  let s := if 2 ≤ old ∧ st < 2 then
      let s := s.praTruncate (256 + e)
      { s with sh := { s.sh with hits := tabSet [] s.sh.hits e [] } }
    else s
  let w := s.objN .shWakeCarriers 0
  let s := if st = 1 then s.setObj .shWakeCarriers 0 ((w - w / 2 ^ e % 2 * 2 ^ e : Nat) : Int) else s
  s.setWatchState e st

/-- A carrier placed in the lowest hall in service with room for it, or left out of admission (R469, R535). -/
def State.placeLow (s : State) (c : Nat) : State :=
  match (List.range 16).find? (fun h => s.hallOpen h && decide (s.hallCu h + cuCost (s.carrier c) ≤ 48)) with
  | some h => s.setObj .carrierHall c h
  | none => ((s.setObj .carrierHall c 255).setObj .capLastRefusal 0 2).evt .carrierOut c 2

/-- Entries of the preamble table that a new table changes. -/
def praChanged (old new : List Byte) : List Nat :=
  (List.range 256).filter (fun p => decide (leAt (32 * p) 32 old ≠ leAt (32 * p) 32 new))

/-- Receptions of changed entries close TRUNCATED before the new table is in force (R211). -/
def State.praReplace (s : State) (x : StageSt) : State :=
  match tabFind x.doms (objKey .praCfgTable 0) with
  | some t => (praChanged (s.dom .praCfgTable 0) t).foldl (fun s p => s.praTruncate p) s
  | none => s

/-- Repetitions complete before an entry changed are none of the entry's as it is now (R211). -/
def State.praBegin (s : State) (old : List Byte) (x : StageSt) : State :=
  match tabFind x.doms (objKey .praCfgTable 0) with
  | some t => (praChanged old t).foldl (fun (s : State) p => s.praSkip p) s
  | none => s

/-- The values a set replaces, kept 10.24 s for slots that began before (R469). -/
def State.logOld (s : State) (tc : Int) (x : StageSt) : List (Int × Nat × Int) :=
  (x.vals.map (fun p => (tc, p.1, tabGet ((objOfNo p.1).default (p.1 / 1024)) s.objs p.1))).reverse
    ++ s.stageLog.filter (fun e => decide (tc - 10240000000 ≤ e.1))

/-- A context's set is applied (R469): its values, its carriers in the halls chosen at arming that are still in service, and
the context open again. -/
def State.applyCtx (s : State) (tc : Int) (k : Nat) : State :=
  let x := s.stageCtx k
  let old := s.dom .praCfgTable 0
  let s := s.praReplace x
  let s := { s with stageLog := s.logOld tc x }
  let q := s.applySet x
  let stand := fun (c : Nat) => (tabFind x.halls c).filter (fun h => q.1.hallOpen h)
  let s := q.1.putCarriers (q.2.filterMap (fun c => (stand c).map (fun h => (c, h))))
  let s := s.praBegin old x
  let s := (q.2.filter (fun c => decide (stand c = none))).foldl (fun s c => s.placeLow c) s
  let s := x.cfgs.foldl (fun (s : State) p => (List.range 8).foldl (fun (s : State) t =>
    s.setTd p.1 t { s.tdSt p.1 t with mask := 0, fails := 0, passes := 0 }) s) s
  ((s.stageClear k).setObj .stageLastApplied k tc).bump .stageCommits 0

/-- Carriers whose entries of a table of `n`-byte entries differ, `car` naming an entry's carrier. -/
def tableCarriers (n : Nat) (car : Nat → Nat) (old new : List Byte) : List Nat :=
  if old = new then []
  else (List.range (max old.length new.length / n)).flatMap (fun i =>
    if leAt (n * i) n old = leAt (n * i) n new then [] else [car (leAt (n * i) n old), car (leAt (n * i) n new)])

/-- The carriers a commit adds, removes or changes (R39): by placement, by configuration, by an object of the carrier's own, or by
an entry of the steering table, preamble table or transmit map that names them (log entry 88). -/
def changedCarriers (old new : State) (xs : List StageSt) : List Nat :=
  ((List.range 768).filter (fun c => decide (old.hallOf c ≠ new.hallOf c) || decide (old.carrier c ≠ new.carrier c)))
  ++ xs.flatMap (fun x => x.vals.filterMap (fun p =>
      let o := objOfNo p.1
      let n := p.1 / 1024
      if ((objRow o).fam = 0x2C00 ∨ (objRow o).fam = 0x3000) ∧ old.obj o n ≠ new.obj o n then some n else none))
  ++ tableCarriers 16 seCarrier (old.dom .ulSteerTable 0) (new.dom .ulSteerTable 0)
  ++ tableCarriers 16 tmCarrier (old.dom .dlTxmapTable 0) (new.dom .dlTxmapTable 0)
  ++ tableCarriers 32 pcCarrier (old.dom .praCfgTable 0) (new.dom .praCfgTable 0)

/-- The halls in which a commit adds, removes or changes a carrier (R39). -/
def changedHalls (old new : State) (xs : List StageSt) : List Nat :=
  let l := changedCarriers old new xs
  (List.range 16).filter (fun h => l.any (fun c => decide (old.hallOf c = h) || decide (new.hallOf c = h)))

/-- The commit of the contexts armed for an instant, as one change (R469), with the snaps of R39. -/
def State.commitDue (s : State) (tc : Int) (ks : List Nat) : State :=
  let new := ks.foldl (fun s k => s.applyCtx tc k) s
  let new := (changedHalls s new (ks.map s.stageCtx)).foldl (fun (t : State) h => t.snap h 3) new
  (List.range 8).foldl (fun (t : State) e => t.watchRefresh e) new.admitRefresh

/-- STAGE_COMMIT_APPLY (R469): device time has reached the earliest commit instant of the armed contexts; those armed for it
apply in ascending number, as one change. -/
def execStageCommitApply (s : State) : Host.Outcome State Fault Refusal :=
  .next <|
    match s.armOrder with
    | (tc, _) :: _ =>
      if tc ≤ s.now then s.commitDue tc ((s.armOrder.filter (fun p => decide (p.1 = tc))).map (fun p => p.2)) else s
    | [] => s

end Sys2Proof.Machine
end

