-- ==== Sys2Proof/Machine/Jobs.lean ====
section
/-! DEFINITION. The host link, its aperture and doorbells, and the job rings (R427 to R455): acceptance, start, completion
gate, record, with the journal's reclaim (R540). -/

namespace Sys2Proof.Machine

/-! ### Identification (R428, R429) -/

def pcieVendorId : Nat := 0x1F9D
def pcieDeviceId (fn : Nat) : Nat := if fn = 0 then 0x9660 else 0x9661
def pcieRevisionId : Nat := 0xB0
def pcieClassCode : Nat := 0x120000

/-- Virtual functions the SR-IOV capability offers. -/
def pcieTotalVfs : Nat := 63

/-- The size of a function's BAR. -/
def barSize (fn bar : Nat) : Nat :=
  match bar with
  | 0 => 2 ^ 27
  | 2 => 2 ^ 20
  | 4 => if fn = 0 then 2 ^ 36 else 2 ^ 32
  | _ => 0

/-! ### Descriptor fields (R434) -/

def jdTag (d : Nat) : Nat := bits d 511 496
def jdSlot (d : Nat) : Nat := bits d 495 488
def jdSfn (d : Nat) : Nat := bits d 487 478
def jdCarrier (d : Nat) : Nat := bits d 477 468
def jdDepCount (d : Nat) : Nat := bits d 467 460
def jdRunLate (d : Nat) : Bool := bitAt d 459
def jdDepAny (d : Nat) : Bool := bitAt d 458
def jdFence (d : Nat) : Bool := bitAt d 457
def jdNoIrq (d : Nat) : Bool := bitAt d 456
def jdType (d : Nat) : Nat := bits d 451 444
def jdEpoch (d : Nat) : Nat := bits d 415 384
def jdResultLen (d : Nat) : Nat := bits d 383 352
def jdLength (d : Nat) : Nat := bits d 351 320
def jdDepList (d : Nat) : Nat := bits d 319 256
def jdResult (d : Nat) : Nat := bits d 255 192
def jdPayload (d : Nat) : Nat := bits d 191 128
def jdDeadline (d : Nat) : Nat := bits d 127 64
def jdSeq (d : Nat) : Nat := bits d 63 0

/-- The TYPE values of R435. -/
def jobTypes : List Nat := [0x00, 0x01, 0x10, 0x11, 0x12, 0x13, 0x20, 0x21, 0x22, 0x23, 0x24]

/-- Uplink slot requests (R435). -/
def jobUplink (t : Nat) : Bool := decide (t = 0x11) || decide (t = 0x22)

/-- P5 requests. -/
def jobP5 (t : Nat) : Bool := decide (t = 0x01) || decide (t = 0x20)

/-- Downlink requests of a slot. -/
def jobDownlink (t : Nat) : Bool := [0x10, 0x12, 0x13, 0x21, 0x23, 0x24].contains t

/-- Outcomes of R443. -/
abbrev outDone : Nat := 1
abbrev outDoneLate : Nat := 2
abbrev outExpired : Nat := 3
abbrev outRejected : Nat := 4
abbrev outRedone : Nat := 5

/-! ### Rings -/

/-- Ring pair r. -/
def State.ring (s : State) (r : Nat) : RingSt := tabGet RingSt.reset s.rings r

/-- The state with ring pair r set. -/
def State.setRing (s : State) (r : Nat) (x : RingSt) : State := { s with rings := tabSet RingSt.reset s.rings r x }

/-- The job of SEQ q on ring r. -/
def State.job (s : State) (r q : Nat) : Option JobSt := (s.ring r).jobs.find? (fun j => decide (j.seq = q))

/-- The state with a job of ring r replaced by the one given of the same SEQ. -/
def State.setJob (s : State) (r : Nat) (j : JobSt) : State :=
  let x := s.ring r
  s.setRing r { x with jobs := x.jobs.map (fun i => if i.seq = j.seq then j else i) }

/-- Whether a function can master the bus: the link is up, its Bus Master Enable is set, and the PCIe unit runs (R448). -/
def State.busMaster (s : State) (fn : Nat) : Bool :=
  decide (s.obj .pcieLinkSpeed 0 ≠ 0) && s.bme.contains fn && decide ((s.unit unitPcie).st = unitRunning)

/-- The PCIe unit takes requests (R488, R531). -/
def State.pcieUp (s : State) : Bool := decide ((s.unit unitPcie).st = unitRunning)

/-- A module that accepts no work: a standby, or one that released `PAIR_FAIL_OUT` or is under test (R535, R549, R550, R577). -/
def State.acceptsNothing (s : State) : Bool := s.pins.pairFailOut || s.pins.moduleFault || s.pins.jtagOut || decide (s.obj .pairRole 0 = 2)

/-- The write-back block of a ring is written (R439), while its owner masters the bus. -/
def State.jrWriteBack (s : State) (r : Nat) : State :=
  let fn := s.objN .jrOwner r
  if s.busMaster fn then
    s.send (.host fn (s.objN .jrWbAddr r) (leBytes 8 (s.objN .jrAccepted r) ++ leBytes 8 (s.objN .crWritten r)))
  else s

/-- A ring enters ERROR (R441). -/
def State.ringError (s : State) (r reason q : Nat) : State :=
  ((s.setObj .jrState r 2).setObj .jrLastError r ((reason * 2 ^ 24 + q % 2 ^ 24 : Nat) : Int)).raiseVec (s.objN .jrOwner r) 0

/-! ### Reclaim (R540) -/

/-- The lowest number of a list, or the default. -/
def minOf (d : Nat) (l : List Nat) : Nat := l.foldl min d

/-- JSEQ of the acceptance entries of jobs whose records are not read. -/
def State.unreadSeqs (s : State) : List Nat :=
  s.rings.flatMap (fun p => (p.2.jobs.filter (fun j => decide (s.objN .crHead p.1 ≤ j.seq))).map (fun j => j.jseq))

/-- JSEQ of the newest arm entry of each armed context. -/
def State.armedSeqs (s : State) : List Nat :=
  (List.range 64).filterMap (fun k =>
    if s.stageArmed k then
      ((s.journal.filter (fun e => decide (e.kind = 4) && decide (e.data = k))).getLast?).map (fun e => e.jseq)
    else none)

/-- The lowest JSEQ still needed (R540). -/
def State.journalLow (s : State) : Nat :=
  minOf s.jseqNext (s.unreadSeqs ++ s.armedSeqs ++ s.ctxWaiting)

/-- The journal is reclaimed up to that JSEQ; the copies of long writes go with their entries (R538). -/
def State.reclaim (s : State) : State :=
  let low := s.journalLow
  if s.journal.any (fun e => decide (e.jseq < low)) then
    let s := s.journalNote 7 400 0 0 low []
    { s with
      journal := s.journal.filter (fun e => decide (low ≤ e.jseq))
      jcopies := s.jcopies.filter (fun c => decide (low ≤ c.1)) }
  else s

/-- The journal reclaimed when it is full (R540). -/
def State.journalRoom (s : State) : State := if 1048576 ≤ s.journal.length then s.reclaim else s

/-- Jobs that nothing asks for any more are forgotten: their records are read, and R437 counts them as met. -/
def State.pruneJobs (s : State) (r : Nat) : State :=
  let x := s.ring r
  s.setRing r { x with jobs := x.jobs.filter (fun j =>
    decide (j.st ≠ 6) || decide (s.objN .crHead r ≤ j.seq)
      || decide (s.objN .jrAccepted r ≤ j.seq + s.objN .jrCount r)) }

/-! ### Doorbells (R433, R440) -/

/-- Whether a doorbell of ring r by a function is taken at all (R433). -/
def State.bellOpen (s : State) (fn r : Nat) : Bool := decide (s.objN .jrOwner r = fn) && decide (s.obj .jrState r ≠ 0)

/-- JR_TAIL_DOORBELL (R433, R440): a write of BAR2 at the tail's place, or at no doorbell's. -/
def execJrTailDoorbell (fn : Fin 64) (r : Fin 256) (off wid : Nat) (v : BitVec 64) (s : State) :
    Host.Outcome State Fault Refusal :=
  .next <|
    if s.obj .pairRole 0 = 2 ∨ s.pcieUp = false then s
    else if off ≠ 0 ∨ wid ≠ 8 ∨ s.bellOpen fn r = false then s.bump .pcieDbIgnored 0
    else if v.toNat < (s.ring r).tail ∨ s.objN .jrAccepted r + s.objN .jrCount r < v.toNat then s.bump .jrBadDoorbells r
    else s.setRing r { s.ring r with tail := v.toNat }

/-- A `CR_HEAD` takes effect (R446): what it frees is reclaimed. -/
def State.crHeadDone (s : State) (r v : Nat) : State :=
  if s.objN .crHead r ≤ v ∧ v ≤ s.objN .crWritten r then ((s.setObj .crHead r v).pruneJobs r).reclaim else s

/-- CR_HEAD_DOORBELL (R433, R440, R446). -/
def execCrHeadDoorbell (fn : Fin 64) (r : Fin 256) (v : BitVec 64) (s : State) : Host.Outcome State Fault Refusal :=
  .next <|
    if s.obj .pairRole 0 = 2 ∨ s.pcieUp = false then s
    else if s.bellOpen fn r = false then s.bump .pcieDbIgnored 0
    else if v.toNat < s.objN .crHead r ∨ s.objN .crWritten r < v.toNat then s.bump .jrBadDoorbells r
    else if s.mirroring ∧ s.obj .pairMirror 0 ≠ 0 then s.dravutSend 2 (beBytes 1 r.val ++ beBytes 8 v.toNat) [.crHead r v.toNat]
    else s.crHeadDone r v.toNat

/-! ### Acceptance (R438) -/

/-- The downlink jobs of a carrier slot accepted so far. -/
def State.hasDlJob (s : State) (c : Nat) (S : Int) : Bool :=
  s.rings.any (fun p => p.2.jobs.any (fun j =>
    jobDownlink (jdType j.desc) && decide (jdCarrier j.desc = c) && decide (j.slot = S)
      && decide (j.seq < s.objN .jrAccepted p.1)))

/-- The slot of an accepted job is known to steering (R23) and to the build releases (R151). -/
def State.slotAccepted (s : State) (j : JobSt) (first : Bool) : State :=
  let c := jdCarrier j.desc
  if jobUplink (jdType j.desc) then
    if s.ulJobs.contains (c, j.slot) then s else { s with ulJobs := (c, j.slot) :: s.ulJobs }
  else if jobDownlink (jdType j.desc) ∧ first ∧ c < 768 then
    let s := { s with dlJobs := (c, j.slot) :: s.dlJobs }
    let T := s.slotStart c j.slot
    if s.hallAt T c ≠ 255 ∧ T - s.objAt T .carrierBuildOffset c < s.now then s.postBuildRelease c j.slot true else s
  else s

/-- The acceptance gate is passed (R438 step 3): the job is accepted and the write-back shows it. -/
def State.acceptDone (s : State) (r q : Nat) : State :=
  match s.job r q with
  | some j =>
    if s.objN .jrAccepted r = q then
      let first := !s.hasDlJob (jdCarrier j.desc) j.slot
      let seen := (List.range 256).foldl (fun t k => tabSet 0 t k (s.objN .jrAccepted k)) []
      let s := s.setJob r { j with seen := seen }
      let s := (s.setObj .jrAccepted r (q + 1 : Nat)).bump .jrJobsAccepted r
      (s.jrWriteBack r).slotAccepted j first
    else s
  | none => s

/-- The ring takes a descriptor now (R438, R498). -/
def State.mayAccept (s : State) (r : Nat) : Bool :=
  let q := (s.ring r).fetch
  decide (s.obj .jrState r = 1) && decide (q < (s.ring r).tail) && decide (q < s.objN .crHead r + s.objN .crCount r)
    && s.busMaster (s.objN .jrOwner r) && decide (s.obj .memDdrSize 0 ≠ 0) && !s.acceptsNothing

/-- A fetched descriptor joins its ring and is written to the journal. -/
def State.takeJob (s : State) (r d : Nat) (prach : Bool) : State :=
  let q := (s.ring r).fetch
  let c := jdCarrier d
  let S := s.slotOfSfn c (jdSfn d) (jdSlot d)
  let j : JobSt := ⟨q, d, S, s.jseqNext, [], 0, 255, [], 0, 0, 0, false, [], false, []⟩
  let x := s.ring r
  let s := s.setRing r { x with fetch := q + 1, jobs := x.jobs ++ [j] }
  let s : State := if prach ∧ jobUplink (jdType d) ∧ s.praJobs.contains (c, S) = false then
    { s with praJobs := (c, S) :: s.praJobs } else s
  s.journalPut 1 unitPcie r q 0 (leBytes 64 d) (.accept r q) (fun s => s.acceptDone r q)

/-- JOB_ACCEPTANCE (R438, R440, R441): the next descriptor of a ring is fetched, checked, journaled and accepted; a full
journal makes it wait (R540). -/
def execJobAcceptance (r : Fin 256) (ok : Bool) (desc : BitVec 512) (prach : Bool) (s : State) :
    Host.Outcome State Fault Refusal :=
  .next <|
    if s.mayAccept r = false then s
    else
      let q := (s.ring r).fetch
      if ok = false then s.ringError r 3 q
      else if jdSeq desc.toNat ≠ q then s.ringError r 1 q
      else if jdEpoch desc.toNat ≠ s.objN .jrEpoch r then s.ringError r 2 q
      else if 1048576 ≤ s.journalRoom.journal.length then s.journalRoom.bump .relJournalFull 0
      else s.journalRoom.takeJob r desc.toNat prach

/-! ### Start (R434 to R437, R443, R444) -/

/-- A job ends without its firmware: its outcome awaits the gate. -/
def State.jobEnds (s : State) (r : Nat) (j : JobSt) (outcome reason detail : Nat) : State :=
  s.setJob r { j with st := 3, outcome := outcome, reason := reason, detail := detail }

/-- The bytes that go to the result buffer of a list of messages: those that fit, whole (R442). -/
def fitMessages (room : Nat) : List (List Byte) → List Byte
  | [] => []
  | m :: r => if m.length ≤ room then m ++ fitMessages (room - m.length) r else []

/-- What a job writes to its result buffer, if one is given. -/
def jobResult (d : Nat) (msgs : List (List Byte)) : List Byte :=
  if jdResult d = 0 then [] else fitMessages (jdResultLen d) msgs

/-- A job with the messages it writes (R442). -/
def JobSt.withResult (j : JobSt) (msgs : List (List Byte)) : JobSt :=
  { j with
    result := jobResult j.desc msgs
    trunc := decide ((fitMessages (jdResultLen j.desc) msgs).length < (msgs.map (fun m => m.length)).sum) }

/-- The fields of a descriptor and of its dependency list are as R434 and R436 have them (R444, BAD_FIELD). -/
def jobFieldsOk (d : Nat) (rd : JobRead) : Bool :=
  let t := jdType d
  decide (bits d 455 452 = 0) && decide (bits d 443 416 = 0) && decide (jdDepCount d ≤ 16)
  && decide (jdDepList d % 16 = 0) && (decide (jdDepCount d ≠ 0) || decide (jdDepList d = 0)) && !rd.resv
  && (decide (t = 0)
    || (decide (jdCarrier d < 768) && decide (8 ≤ jdLength d) && decide (jdLength d ≤ 4194304) && decide (jdPayload d % 8 = 0)
      && decide (jdResultLen d ≤ 16777216) && decide (jdResult d % 64 = 0)))

/-- A dependency is valid (R437). -/
def State.depValid (s : State) (r : Nat) (j : JobSt) (p : Nat × Nat) : Bool :=
  decide (s.obj .jrState p.1 ≠ 0) && decide (s.obj .jrOwner p.1 = s.obj .jrOwner r)
  && decide (s.objN .jrSeqStart p.1 ≤ p.2)
  && (if p.1 = r then decide (p.2 < j.seq) else decide (p.2 < tabGet 0 j.seen p.1))

/-- Where a dependency stands (R437): 0 open, 1 met, 2 failed. -/
def State.depState (s : State) (p : Nat × Nat) : Nat :=
  if p.2 + s.objN .jrCount p.1 < s.objN .jrAccepted p.1 then 1
  else
    match s.job p.1 p.2 with
    | none => 1
    | some j => if j.st < 4 then 0 else if j.outcome = outExpired ∨ j.outcome = outRejected then 2 else 1

/-- Every earlier job of the ring has completed (R434, FENCE). -/
def State.fenceOpen (s : State) (r : Nat) (j : JobSt) : Bool :=
  (s.ring r).jobs.all (fun i => decide (j.seq ≤ i.seq) || decide (4 ≤ i.st))

/-- The job's deadline has passed before it started (R443). -/
def State.jobPast (s : State) (j : JobSt) : Bool :=
  decide (jdDeadline j.desc ≠ 0) && decide ((jdDeadline j.desc : Int) < s.now) && !jdRunLate j.desc && !j.redo

/-- The accessor of a function's jobs (R435, R465). -/
def fnAccessor (fn : Nat) : Accessor := ⟨if fn = 0 then .h else .v, fn⟩

/-- One object of a CONFIG.request is staged in context k (R435, R466). -/
def State.cfgStage (s : State) (a : Accessor) (k : Nat) (w : Nat × Int) : State × Status :=
  match rowAt w.1 with
  | none => (s.countAccess a, .noObject)
  | some (row, n) =>
    let st := (s.writeGate a row.obj n w.2 .ok).orElse ((Status.unless (decide (row.acc = .rws)) .writeDenied).orElse
      (checkOther row.obj w.2))
    let s := s.countAccess a
    if st = .ok then s.stageVal k (objKey row.obj n) w.2 else (s, st)

/-- One STR or DOMAIN object of a CONFIG.request is staged. -/
def State.cfgStageDom (s : State) (a : Accessor) (k : Nat) (w : Nat × List Byte) : State × Status :=
  match rowAt w.1 with
  | none => (s.countAccess a, .noObject)
  | some (row, n) =>
    let st := (s.writeGate a row.obj n row.lo .ok).orElse ((Status.unless (decide (row.acc = .rws)) .writeDenied).orElse
      (.unless (decide (row.ty = .domain w.2.length)) .size))
    let s := s.countAccess a
    if st = .ok then s.stageDom k (objKey row.obj n) w.2 else (s, st)

/-- Objects staged one after another, up to the first that is refused; its address. -/
def stageList {α : Type} (f : State → Nat × α → State × Status) (s : State) : List (Nat × α) → State × Status × Nat
  | [] => (s, .ok, 0)
  | w :: r =>
    let q := f s w
    if q.2 = .ok then stageList f q.1 r else (q.1, q.2, w.1)

/-- LTE carriers run at 15 kHz (R418). -/
def cfgOf (x : CarrierCfg) : CarrierCfg := if x.kind = 0 then x else { x with mu := 0 }

/-- A CONFIG.request is staged and armed for a function (R435): the state, the status, and the failing object. -/
def State.configure (s : State) (fn : Nat) (q : CfgReq) : State × Status × Nat :=
  let a := fnAccessor fn
  if s.stageArmed fn then (s, .stageLocked, ((q.writes.map (fun w => w.1)) ++ (q.doms.map (fun w => w.1))).headD (objAddr .stageCommit fn))
  else
    let w := stageList (fun s w => s.cfgStage a fn w) s q.writes
    let w := if w.2.1 = .ok then stageList (fun s w => s.cfgStageDom a fn w) w.1 q.doms else w
    if w.2.1 ≠ .ok then w
    else
      let s := w.1
      let x := s.stageCtx fn
      let s := s.setStage fn { x with
        cfgs := q.add.foldl (fun t p => tabPut t p.1 (cfgOf p.2)) x.cfgs
        removed := x.removed ++ q.remove }
      s.arm fn q.commit q.place

/-- A CONFIG.request job: DONE with its response when armed, or REJECTED (R435, R444). -/
def State.startConfig (s : State) (r : Nat) (j : JobSt) (rd : JobRead) (q : CfgReq) : State :=
  let fn := s.objN .jrOwner r
  let w := s.configure fn q
  if w.2.1 = .ok then
    w.1.setJob r { j.withResult [rd.resp] with st := 3 }
  else if w.2.2 = objAddr .capLastRefusal 0 then w.1.jobEnds r j outRejected 0x07 (w.1.objN .capLastRefusal 0)
  else w.1.jobEnds r j outRejected 0x0A (w.2.1.code * 65536 + w.2.2 / 256 % 65536)

/-- The job may begin: a NOP and a P5 request end at once, the work of a slot runs in its carrier's hall. -/
def State.runJob (s : State) (r : Nat) (j : JobSt) (rd : JobRead) : State :=
  let t := jdType j.desc
  if t = 0 then s.setJob r { j with st := 3 }
  else if jobP5 t then
    match rd.cfg with
    | some q => s.startConfig r j rd q
    | none => s.setJob r { j.withResult [rd.resp] with st := 3 }
  else
    let h := s.hallAt (s.slotStart (jdCarrier j.desc) j.slot) (jdCarrier j.desc)
    if (s.unit (unitHall h)).st = unitRunning then s.setJob r { j with st := 2, hall := h } else s

/-- The owner of the carriers a job acts on is the ring's (R444, NOT_OWNER): for the work of a slot, their owner for that
slot (R469). -/
def State.ownsCarriers (s : State) (r : Nat) (j : JobSt) (rd : JobRead) : Bool :=
  let fn := s.obj .jrOwner r
  let c := jdCarrier j.desc
  if jobP5 (jdType j.desc) then
    decide (s.obj .carrierOwner c = fn)
    && rd.cfg.all (fun q => (q.add.map (fun p => p.1)).all (fun d => decide (s.obj .carrierOwner d = fn))
        && q.remove.all (fun d => decide (s.obj .carrierOwner d = fn)))
  else decide (s.objAt (s.slotStart c j.slot) .carrierOwner c = fn)

/-- The checks of an accepted job (R435 to R437), in R444's order but for the reads they need; the reason it is rejected
for, with its detail, or none. -/
def State.jobChecks (s : State) (r : Nat) (j : JobSt) (rd : JobRead) : Option (Nat × Nat) :=
  let d := j.desc
  let t := jdType d
  if !jobTypes.contains t then some (0x01, 0)
  else if !jobFieldsOk d rd then some (0x02, 0)
  else if t ≠ 0 ∧ s.ownsCarriers r j rd = false then some (0x03, 0)
  else if t ≠ 0 ∧ jobP5 t = false ∧ s.hallAt (s.slotStart (jdCarrier d) j.slot) (jdCarrier d) = 255 then some (0x04, 0)
  else if (t ≠ 0 ∨ jdDepCount d ≠ 0) ∧ rd.ok = false then some (0x09, 0)
  else if !(rd.deps.take (jdDepCount d)).all (s.depValid r j) then some (0x05, 0)
  else none

/-- A job whose checks passed meets its dependencies (R437) and then its payload. -/
def State.jobProceeds (s : State) (r : Nat) (j : JobSt) (rd : JobRead) : State :=
  let deps := rd.deps.take (jdDepCount j.desc)
  let sts := deps.map s.depState
  if sts.contains 2 ∧ jdDepAny j.desc = false then s.jobEnds r j outRejected 0x06 0
  else if sts.contains 0 then s.setJob r { j with st := 1, deps := deps }
  else
    match (if jdType j.desc = 0 then none else rd.bad) with
    | some code => s.jobEnds r (j.withResult [rd.error]) outRejected 0x08 (code % 2 ^ 24)
    | none => s.runJob r j rd

/-- JOB_START (R435 to R437, R443, R444): an accepted job starts, waits for its dependencies, or ends without running. -/
def execJobStart (r : Fin 256) (seq : Nat) (rd : JobRead) (s : State) : Host.Outcome State Fault Refusal :=
  .next <|
    match s.job r seq with
    | none => s
    | some j =>
      if 2 ≤ j.st ∨ s.objN .jrAccepted r ≤ seq ∨ s.obj .pairRole 0 = 2 then s
      else if s.jobPast j then s.jobEnds r j outExpired (if j.st = 1 then 0x11 else 0x10) 0
      else if jdFence j.desc ∧ s.fenceOpen r j = false then s
      else
        match s.jobChecks r j rd with
        | some (reason, detail) => s.jobEnds r j outRejected reason detail
        | none => s.jobProceeds r j rd

/-- JOB_EXPIRE (R443, R444, R451): device time has passed the deadline of a job that has not started. -/
def execJobExpire (r : Fin 256) (seq : Nat) (s : State) : Host.Outcome State Fault Refusal :=
  .next <|
    match s.job r seq with
    | none => s
    | some j =>
      if 2 ≤ j.st ∨ s.objN .jrAccepted r ≤ seq ∨ s.jobPast j = false ∨ s.obj .pairRole 0 = 2 then s
      else s.jobEnds r j outExpired (if j.st = 1 then 0x11 else 0x10) 0

/-! ### Completion gate and records (R442 to R446) -/

/-- The job completes after a non-zero DEADLINE (R442). -/
def State.jobLate (s : State) (j : JobSt) : Bool := decide (jdDeadline j.desc ≠ 0) && decide ((jdDeadline j.desc : Int) < s.now)

/-- The outcome of a job that ran (R443). -/
def jobOutcome (redo late missed : Bool) : Nat := if redo then outRedone else if late || missed then outDoneLate else outDone

/-- A completion record (R442). -/
def jobRecord (d q outcome reason detail : Nat) (fin : Int) (late trunc missed : Bool) (bytes : Nat) : Nat :=
  q % 2 ^ 64 * 2 ^ 192 + toField 64 fin * 2 ^ 128 + jdTag d * 2 ^ 112 + jdType d * 2 ^ 104 + outcome * 2 ^ 100
    + (if late then 2 ^ 99 else 0) + (if trunc then 2 ^ 98 else 0) + (if missed then 2 ^ 97 else 0)
    + bytes % 2 ^ 32 * 2 ^ 64 + reason * 2 ^ 56 + detail % 2 ^ 24 * 2 ^ 32 + jdEpoch d

/-- The gate entry is acknowledged: the job has passed the completion gate (R446). -/
def State.gateDone (s : State) (r q : Nat) : State :=
  match s.job r q with
  | some j => if j.st = 4 then s.setJob r { j with st := 5 } else s
  | none => s

/-- The job as it stands at its completion gate: outcome, record and results. The frames missed in its slot are those of each of its
downlink jobs (log entry 108). -/
def State.closeJob (s : State) (j : JobSt) (msgs : List (List Byte)) : JobSt :=
  let d := j.desc
  let missed := s.missedIn (jdCarrier d) j.slot
  let ran := decide (j.outcome = 0)
  let late := s.jobLate j
  let miss := ran && jobDownlink (jdType d) && decide (missed ≠ 0)
  let outcome := if ran then jobOutcome j.redo late miss else j.outcome
  let j := if j.st = 2 then j.withResult (if jobUplink (jdType d) then msgs else []) else j
  let detail := if miss then missed else j.detail
  { j with
    st := 4, outcome := outcome
    record := leBytes 32 (jobRecord d j.seq outcome j.reason detail s.now late j.trunc miss j.result.length) }

/-- What the pacer of a job's hall learns at its gate (R37, R39, R587): a job that ran there or expired gives a slack sample if it
has a DEADLINE, and one that is DONE_LATE or EXPIRED is a snap cause. An expired job counts for the hall of its carrier (log
entry 88). -/
def State.paceJob (s : State) (j : JobSt) (outcome : Nat) : State :=
  let h := if j.hall < 16 then j.hall else s.hallOf (jdCarrier j.desc)
  let late := decide (outcome = outDoneLate) || decide (outcome = outExpired)
  if 16 ≤ h ∨ (j.st ≠ 2 ∧ outcome ≠ outExpired) then s
  else if jdDeadline j.desc ≠ 0 then s.paceCompletion h (jdDeadline j.desc - s.now) late
  else if late then s.snap h 2
  else s

/-- COMPLETION_GATE (R443, R446, R37): a job that ran to its end, or ended without running, is written to the journal with
the digest of its results; a job of a hall with a deadline gives that hall a slack sample. -/
def execCompletionGate (r : Fin 256) (seq : Nat) (msgs : List (List Byte)) (s : State) :
    Host.Outcome State Fault Refusal :=
  .next <|
    match s.job r seq with
    | none => s
    | some j =>
      if (j.st ≠ 2 ∧ j.st ≠ 3) ∨ s.obj .pairRole 0 = 2 then s
      else
        let k := s.closeJob j msgs
        let s := s.setJob r k
        let s := s.paceJob j k.outcome
        s.journalPut 2 (if j.st = 2 then unitHall j.hall else unitPcie) r seq 0 (k.record ++ digest32 k.result)
          (.record r seq) (fun s => s.gateDone r seq)

/-- The results and the record of a job go to host memory (R445). -/
def State.sendRecord (s : State) (r : Nat) (j : JobSt) : State :=
  let fn := s.objN .jrOwner r
  let s := if j.result = [] then s else s.send (.host fn (jdResult j.desc) j.result)
  s.send (.host fn (s.objN .crBase r + 32 * (j.seq % max 1 (s.objN .crCount r))) j.record)

/-- A record that is to be signalled was written (R445). -/
def State.signalRecord (s : State) (r : Nat) : State :=
  if s.obj .jrCoalesce r = 0 then s.raiseVec (s.objN .jrOwner r) (s.objN .jrVector r)
  else if (s.ring r).unsignalled.isSome then s
  else s.setRing r { s.ring r with unsignalled := some s.now }

/-- Records counted by outcome (R455). -/
def State.countRecord (s : State) (r outcome : Nat) : State :=
  match outcome with
  | 2 => s.bump .jrDoneLate r
  | 3 => s.bump .jrExpired r
  | 4 => s.bump .jrRejected r
  | 5 => s.bump .jrRedone r
  | _ => s

/-- COMPLETION_RECORD_WRITE (R439, R445): the record of SEQ `CR_WRITTEN`, once past its gate, is written with its results
before it, while the owner masters the bus (R448). -/
def execCompletionRecordWrite (r : Fin 256) (s : State) : Host.Outcome State Fault Refusal :=
  .next <|
    let q := s.objN .crWritten r
    match s.job r q with
    | none => s
    | some j =>
      if j.st ≠ 5 ∨ s.obj .jrState r = 0 ∨ s.busMaster (s.objN .jrOwner r) = false ∨ s.obj .pairRole 0 = 2 then s
      else
        let s := (s.sendRecord r j).setJob r { j with st := 6 }
        let s := ((s.setObj .crWritten r (q + 1 : Nat)).countRecord r j.outcome).jrWriteBack r
        if jdNoIrq j.desc then s else s.signalRecord r

/-- JR_COALESCE_EXPIRE (R445): `JR_COALESCE` ns have passed since the first record not yet signalled. -/
def execJrCoalesceExpire (r : Fin 256) (s : State) : Host.Outcome State Fault Refusal :=
  .next <|
    match (s.ring r).unsignalled with
    | some t =>
      if t + s.obj .jrCoalesce r ≤ s.now then
        (s.setRing r { s.ring r with unsignalled := none }).raiseVec (s.objN .jrOwner r) (s.objN .jrVector r)
      else s
    | none => s

/-- Work lost in hall h runs again (R446, R541). -/
def State.redoJobs (s : State) (h : Nat) : State :=
  { s with rings := s.rings.map (fun p => (p.1, { p.2 with jobs := p.2.jobs.map (fun j =>
      if j.st = 2 ∧ j.hall = h then { j with st := 0, hall := 255, redo := true } else j) })) }

/-- Every job without a gate entry runs again (R446, R550). -/
def State.redoAll (s : State) : State :=
  { s with dlJobs := [], rings := s.rings.map (fun p => (p.1, { p.2 with jobs := p.2.jobs.map (fun j =>
      if j.st < 4 then { j with st := 0, hall := 255, outcome := 0, reason := 0, detail := 0, redo := true } else j) })) }

/-- Slots whose downlink jobs run again, of the carriers `mine` names, get their build release again (R151, R541, R550; log entry 109): at
once, with LATE, where its time has passed. -/
def State.releaseAgain (s : State) (mine : Nat → Bool) : State :=
  let ps := (s.rings.flatMap (fun r => (r.2.jobs.filter (fun j =>
    j.redo && decide (j.st < 2) && jobDownlink (jdType j.desc) && mine (jdCarrier j.desc))).map (fun j => (jdCarrier j.desc, j.slot)))).dedup
  let s := { s with dlJobs := ps ++ s.dlJobs.filter (fun p => !ps.contains p) }
  ps.foldl (fun (s : State) p =>
    let T := s.slotStart p.1 p.2
    if s.hallAt T p.1 ≠ 255 ∧ T - s.objAt T .carrierBuildOffset p.1 < s.now then s.postBuildRelease p.1 p.2 true else s) s

/-- Records at or above `CR_HEAD` are written again, byte for byte, with the write-back (R446). -/
def State.rewriteRecords (s : State) : State :=
  s.rings.foldl (fun (s : State) p =>
    if s.obj .jrState p.1 ≠ 0 ∧ s.busMaster (s.objN .jrOwner p.1) then
      ((p.2.jobs.filter (fun j => decide (j.st = 6) && decide (s.objN .crHead p.1 ≤ j.seq))).foldl
        (fun (s : State) j => s.sendRecord p.1 j) s).jrWriteBack p.1
    else s) s

/-! ### Enable, resume, function-level reset (R441, R448) -/

/-- A power of two in the range of R454. -/
def ringCountOk (n : Nat) : Bool := (List.range 11).any (fun k => decide (n = 2 ^ (k + 6)))

/-- R441's conditions for enabling ring r. -/
def State.ringReady (s : State) (r : Nat) : Bool :=
  decide (s.objN .jrBase r ≠ 0) && decide (s.objN .crBase r ≠ 0) && decide (s.objN .jrWbAddr r ≠ 0)
  && decide (s.objN .jrBase r % 64 = 0) && decide (s.objN .crBase r % 64 = 0) && decide (s.objN .jrWbAddr r % 16 = 0)
  && ringCountOk (s.objN .jrCount r) && ringCountOk (s.objN .crCount r)

/-- Ring r is enabled (R441). -/
def State.enableRing (s : State) (r : Nat) : State :=
  let q := s.obj .jrSeqStart r
  let s := (s.setObj .jrEnable r 1).setObj .jrState r 1
  let s := s.bump .jrEpoch r
  let s := ((s.setObj .jrAccepted r q).setObj .crWritten r q).setObj .crHead r q
  s.setRing r ⟨q.toNat, q.toNat, none, []⟩

/-- Ring r is disabled (R441). -/
def State.disableRing (s : State) (r : Nat) : State :=
  ((s.setObj .jrEnable r 0).setObj .jrState r 0).setRing r RingSt.reset

/-- The status of a write of `JR_ENABLE` (R441). -/
def State.enableCheck (s : State) (r v : Nat) : Status :=
  if v ≠ 0 then (if s.obj .jrState r = 0 ∧ s.ringReady r = false then .state else .ok)
  else if s.obj .jrState r ≠ 0 ∧ s.objN .crHead r < s.objN .jrAccepted r then .state
  else .ok

/-- JR_ENABLE_WRITE (R441, R451). -/
def execJrEnableWrite (a : Accessor) (r : Fin 256) (v : Nat) (s : State) : Host.Outcome State Fault Refusal :=
  .next (s.dictWrite a .jrEnable r v (s.enableCheck r v) (fun s =>
    if v ≠ 0 then (if s.obj .jrState r = 0 then s.enableRing r else s)
    else if s.obj .jrState r = 0 then s else s.disableRing r))

/-- JR_RESUME (R441): a ring leaves ERROR. -/
def execJrResume (a : Accessor) (r : Fin 256) (v : Nat) (s : State) : Host.Outcome State Fault Refusal :=
  .next (s.dictWrite a .jrResume r v (Status.unless (decide (s.obj .jrState r = 2)) .state) (fun s => s.setObj .jrState r 1))

/-- The rings of a function are disabled at once; records not yet written are discarded and counted (R448). -/
def State.flrRing (s : State) (r : Nat) : State :=
  let lost := (s.ring r).jobs.filter (fun j => decide (j.seq < s.objN .jrAccepted r) && decide (j.st ≠ 6))
  (s.bumpBy .jrFlrDiscards r lost.length).disableRing r

/-- FUNCTION_LEVEL_RESET (R448): of the function's job rings; its Bus Master Enable and vectors return to reset (PRESUMED,
log entry 63). -/
def execFunctionLevelReset (fn : Fin 64) (s : State) : Host.Outcome State Fault Refusal :=
  .next <|
    let s := ((List.range 256).filter (fun r => decide (s.objN .jrOwner r = fn.val) && decide (s.obj .jrState r ≠ 0))).foldl
      (fun s r => s.flrRing r) s
    let mine := fun (k : Nat) => decide (k / 32 = fn.val)
    { s with
      bme := s.bme.filter (fun f => decide (f ≠ fn.val))
      msixMasked := s.msixMasked.filter (fun k => !mine k)
      msixPending := s.msixPending.filter (fun k => !mine k) }

/-! ### The link (R427, R448) -/

/-- Write-backs that waited for the bus are written (R448). -/
def State.busReturns (s : State) (who : Nat → Bool) : State :=
  ((List.range 256).filter (fun r => decide (s.obj .jrState r ≠ 0) && who (s.objN .jrOwner r))).foldl
    (fun s r => s.jrWriteBack r) s

/-- PCIE_LINK_UP (R427, R448): the link trains to a rate and width of R427, or bus mastering of a function returns. -/
def execPcieLinkUp (link : Bool) (fn : Fin 64) (speed width vfs : Nat) (s : State) : Host.Outcome State Fault Refusal :=
  .next <|
    if link then
      if 1 ≤ speed ∧ speed ≤ 5 ∧ [1, 2, 4, 8, 16].contains width ∧ vfs ≤ 63 then
        (((s.setObj .pcieLinkSpeed 0 speed).setObj .pcieLinkWidth 0 width).setObj .pcieNumVfs 0 vfs).busReturns (fun _ => true)
      else s
    else
      let s : State := if s.bme.contains fn.val then s else { s with bme := fn.val :: s.bme }
      s.busReturns (fun f => decide (f = fn.val))

/-- PCIE_LINK_DOWN (R448): record and write-back writes wait until bus mastering returns. -/
def execPcieLinkDown (link : Bool) (fn : Fin 64) (s : State) : Host.Outcome State Fault Refusal :=
  .next <|
    if link then (s.setObj .pcieLinkSpeed 0 0).setObj .pcieLinkWidth 0 0
    else { s with bme := s.bme.filter (fun f => decide (f ≠ fn.val)) }

/-! ### Aperture (R430, R431) -/

/-- The entry of `AP_MAP` of an offset in a function's BAR4, if it lies within the BAR. -/
def State.apEntry (s : State) (fn off : Nat) : Option Nat :=
  let seg := off / 2 ^ 30
  if barSize fn 4 ≤ off then none
  else some (leAt (8 * (if fn = 0 then seg else 64 + 4 * (fn - 1) + seg)) 8 (s.dom .apMap 0))

/-- An access of the aperture is refused (R431). -/
def State.apRefuse (s : State) (fn addr : Nat) : State :=
  ((s.bump .pcieApRefused 0).setObj .pcieApLastRefused 0 addr).raiseVec fn 0

/-- BAR4_ACCESS (R430, R431): completion status 0 successful, 1 Unsupported Request. -/
def execBar4Access (fn : Fin 64) (off : Nat) (wr : Bool) (n : Nat) (data : List Byte) (s : State) :
    Host.Outcome State Fault Refusal :=
  .next <|
    match (if s.pcieUp then s.apEntry fn off else none) with
    | none => s
    | some x =>
      let g := bits x 17 0 * 2 ^ 30 + off % 2 ^ 30
      if wr then
        if !bitAt x 63 then s.apRefuse fn off
        else if s.reachable g data.length = false ∨ bitAt x 62 = false then s.apRefuse fn g
        else
          let q := s.storeAsked g data
          if q.2 then q.1 else q.1.apRefuse fn g
      else if !bitAt x 63 then (s.apRefuse fn off).send (.aperture fn 1 [] false)
      else if s.reachable g n = false then (s.apRefuse fn g).send (.aperture fn 1 [] false)
      else
        let w := wordSpan g n
        (s.demandWords (g / 8 * 8) 0 w).send (.aperture fn 0 (s.readMem g n) (s.anyPoison (g / 8 * 8) w))

end Sys2Proof.Machine
end

