-- ==== Sys2Proof/Machine/Context.lean ====
section
/-! DEFINITION. The context store (R274 to R292, R591): keys, ways, placement, the five operations, the sweep, and
enabling. The engine of each hall's queue 0xFB is engine 11. -/

namespace Sys2Proof.Machine

/-! ### Fields (R276 to R278, R282) -/

/-- KEY, whose reserved bits [53:48] are 0 (R10, R276). -/
def cxKey (d : Nat) : Nat := bits d 511 502 * 2 ^ 54 + bits d 495 448
def cxExpect (d : Nat) : Nat := bits d 447 416
def cxCond (d : Nat) : Bool := bitAt d 415
def cxCmd (d : Nat) : Nat := bits d 414 412
def cxQmask (d : Nat) : Nat := bits d 411 408
def cxBuf (d : Nat) : Nat := bits d 407 384
def cxCarrier (d : Nat) : Nat := bits d 383 374

/-- KIND is 1 to 6 (R276). -/
def keyOk (k : Nat) : Bool := decide (1 ≤ bits k 63 60) && decide (bits k 63 60 ≤ 6)

/-- A way (R277). -/
def wayOf (key seq : Nat) (alt : Bool) (e : Nat) : Nat :=
  key * 2 ^ 64 + (seq % 2 ^ 32) * 2 ^ 32 + 2 ^ 31 + (if alt then 2 ^ 30 else 0) + e % 2 ^ 25

def wayKey (w : Nat) : Nat := bits w 127 64
def waySeq (w : Nat) : Nat := bits w 63 32
def wayValid (w : Nat) : Bool := bitAt w 31
def wayEntry (w : Nat) : Nat := bits w 24 0

/-- The header of an entry (R278). -/
def ctxHeader (key seq : Nat) (touch : Int) (carrier : Nat) (created : Int) : Nat :=
  key * 2 ^ 192 + (seq % 2 ^ 32) * 2 ^ 160 + toField 64 touch * 2 ^ 96 + (carrier % 2 ^ 10) * 2 ^ 86 + toField 64 created

/-! ### Places -/

/-- The buckets of the store, `CTX_ENTRIES` / 2. -/
def State.ctxBuckets (s : State) : Nat := s.objN .ctxEntries 0 / 2

/-- CRC-32C of R279: the seed is the initial value, the final value is inverted. -/
def crcSeed (seed : Nat) (l : List Byte) : Nat := (l.foldl crc32cByte seed) ^^^ 0xFFFFFFFF

/-- h1 of a key (R279). -/
def State.ctxH1 (s : State) (key : Nat) : Nat := crcSeed (bits (s.objN .ctxSeed 0) 31 0) (leBytes 8 key) % s.ctxBuckets

/-- h2 of a key (R279). -/
def State.ctxH2 (s : State) (key : Nat) : Nat :=
  let h := crcSeed (bits (s.objN .ctxSeed 0) 63 32) (leBytes 8 key) % s.ctxBuckets
  if h = s.ctxH1 key then h ^^^ 1 else h

/-- The address of way w of bucket b. -/
def State.wayAddr (s : State) (b w : Nat) : Nat := s.objN .ctxBase 0 + 64 * b + 16 * w

/-- The address of an entry's body. -/
def State.entryAddr (s : State) (e : Nat) : Nat := s.objN .ctxBase 0 + 2 ^ 30 + 256 * e

/-- The address of place i of the free stack. -/
def State.stackAddr (s : State) (i : Nat) : Nat := s.objN .ctxBase 0 + 9 * 2 ^ 30 + 4 * i

/-- A way as it stands. -/
def State.way (s : State) (b w : Nat) : Nat := s.memNat (s.wayAddr b w) 16

/-- The engine writes to its own regions, and mirrors what it writes (R289, R546). -/
def State.ctxStore (s : State) (a : Nat) (l : List Byte) : State := (s.store a l).mirrorMem a l

/-- A way written. -/
def State.setWay (s : State) (b w v : Nat) : State := s.ctxStore (s.wayAddr b w) (leBytes 16 v)

/-- The way of a bucket that holds a key. -/
def State.findWay (s : State) (b key : Nat) : Option Nat :=
  (List.range 4).find? (fun w => wayValid (s.way b w) && decide (wayKey (s.way b w) = key))

/-- The lowest free way of a bucket. -/
def State.freeWay (s : State) (b : Nat) : Option Nat := (List.range 4).find? (fun w => !wayValid (s.way b w))

/-- The stash way that holds a key. -/
def State.findStash (s : State) (key : Nat) : Option Nat :=
  (List.range 64).find? (fun i => wayValid (tabGet 0 s.ctx.stash i) && decide (wayKey (tabGet 0 s.ctx.stash i) = key))

/-- The lowest free stash way. -/
def State.freeStash (s : State) : Option Nat := (List.range 64).find? (fun i => !wayValid (tabGet 0 s.ctx.stash i))

/-- A stash way set; `CTX_STASH_USED` follows. -/
def State.setStash (s : State) (i v : Nat) : State :=
  let st := tabSet 0 s.ctx.stash i v
  { s with ctx := { s.ctx with stash := st } }.setObj .ctxStashUsed 0 st.length

/-! ### Reads and their errors (R284, R533) -/

/-- A demand read of `n` words by the engine, and whether one is uncorrectable. -/
def State.ctxRead (s : State) (a n : Nat) : State × Bool := (s.demandWords a 0 n, s.anyPoison a n)

/-- A bucket is read. -/
def State.readBucket (s : State) (b : Nat) : State × Bool := s.ctxRead (s.wayAddr b 0) 8

/-- An uncorrectable read (R284): counted; on a bucket or the stack, the second within 1 s is fault 0x07 of the context
store (R533). -/
def State.ctxMemError (s : State) (structural : Bool) : State :=
  let s := s.bump .ctxMemErrors 0
  if !structural then s
  else
    match s.ctx.badRead with
    | some t =>
      if s.now - t ≤ 1000000000 then ({ s with ctx := { s.ctx with badRead := none } }).unitFault unitCtx 7
      else { s with ctx := { s.ctx with badRead := some s.now } }
    | none => { s with ctx := { s.ctx with badRead := some s.now } }

/-- Where a key was found. -/
inductive CtxPlace where
  | bucket (b w : Nat)
  | stash (i : Nat)
  deriving DecidableEq, Repr

/-- The way at a place. -/
def State.wayAt (s : State) : CtxPlace → Nat
  | .bucket b w => s.way b w
  | .stash i => tabGet 0 s.ctx.stash i

/-- The way at a place set. -/
def State.setWayAt (s : State) (v : Nat) : CtxPlace → State
  | .bucket b w => s.setWay b w v
  | .stash i => s.setStash i v

/-- What a search answers (R279, R287): bucket h1 and the stash first, then bucket h2. -/
inductive CtxFind where
  | found (p : CtxPlace)
  | absent
  | error
  deriving DecidableEq, Repr

/-- The search for a key. -/
def State.ctxFind (s : State) (key : Nat) : State × CtxFind :=
  let h1 := s.ctxH1 key
  let h2 := s.ctxH2 key
  let r := s.readBucket h1
  if r.2 then (r.1, .error)
  else
    match s.findWay h1 key, s.findStash key with
    | some w, _ => (r.1, .found (.bucket h1 w))
    | none, some i => (r.1, .found (.stash i))
    | none, none =>
      let r := r.1.readBucket h2
      if r.2 then (r.1, .error)
      else
        match s.findWay h2 key with
        | some w => (r.1, .found (.bucket h2 w))
        | none => (r.1, .absent)

/-! ### Completion -/

/-- The rate of operations (R291): those of the present ms are counted. -/
def State.countCtxOp (s : State) : State :=
  let ms := s.now / 1000000
  let x := s.ctx
  let n := if x.opMs = ms then x.opCount + 1 else 1
  let prev := if x.opMs = ms then s.obj .ctxOpsRate 0 else if x.opMs + 1 = ms then (x.opCount * 1000 : Nat) else 0
  ({ s with ctx := { x with opMs := ms, opCount := n } }).setObj .ctxOpsRate 0 prev

/-- The counter of a status of R284. -/
def State.countCtxStatus (s : State) (st : Nat) : State :=
  match st with
  | 8 => s.bump .ctxNotFound 0
  | 9 => s.bump .ctxExists 0
  | 0xA => s.bump .ctxSeqMismatch 0
  | 0xB => s.bump .ctxFull 0
  | _ => s

/-- An operation completes (R282, R284): its message carries the SEQ; its cycles are free (log entry 48). -/
def State.ctxDone (s : State) (h d st seq : Nat) : State :=
  let cyc := Config.freeOf 8 [s.freeCtr, 5]
  ((s.freeUsed).countCtxStatus st).finish h 11 d ⟨st, false, false, cyc, bits seq 31 16, bits seq 15 0⟩

/-- A write operation completes, in a pair once the partner has acknowledged it (R289). -/
def State.ctxDoneMirrored (s : State) (h jseq d seq : Nat) : State :=
  s.afterAck (.engine h 11 jseq d 0 (bits seq 31 16) (bits seq 15 0) (Config.freeOf 8 [s.freeCtr, 5]))
    (fun s => s.ctxDone h d 0 seq)

/-- What the engine keeps outside DDR (R275, R279, R291), as its mirror frame carries it (log entry 48): the entries held, the next SEQ,
the high-water count, the height of the free stack, whether a clear is done, and the stash. -/
def State.ctxLogic (s : State) (cleared : Bool) : List Byte :=
  leBytes 4 (s.objN .ctxUsed 0) ++ leBytes 4 (s.objN .ctxSeqNext 0) ++ leBytes 4 s.ctx.high ++ leBytes 4 s.ctx.stack
    ++ leBytes 1 (if cleared then 1 else 0) ++ (List.range 64).flatMap (fun i => leBytes 16 (tabGet 0 s.ctx.stash i))

/-- The address of a MIRROR_MEM frame that carries the engine's own state: no address of DDR (log entry 48). -/
def ctxLogicAddr : Nat := 2 ^ 64 - 1

/-- The engine's own state is mirrored after a write operation (R289, R546). -/
def State.mirrorLogic (s : State) (cleared : Bool) : State :=
  if s.mirroring then s.dravutSend 3 (beBytes 8 ctxLogicAddr ++ s.ctxLogic cleared) [] else s

/-- The journal entry of a write operation, before any bucket changes: KEY, the SEQ and status it completes with, and CMD (R290, R537; its
layout is log entry 48). -/
def State.ctxJournal (s : State) (key seq cmd : Nat) : State :=
  s.journalNote 5 unitCtx 0 0 0 (leBytes 8 key ++ leBytes 4 seq ++ leBytes 1 0 ++ leBytes 1 cmd)

/-- The fields of an operation are in range and the store is in service (R276, R282, R291). -/
def State.ctxOk (s : State) (d : Nat) : Bool :=
  decide (s.obj .ctxEnable 0 ≠ 0) && keyOk (cxKey d) && decide (cxCmd d ≤ 4) && decide (cxBuf d % 64 = 0)
  && inSlice (cxBuf d) 256

/-- Engine 11 of hall h takes the head of its queue for the command `cmd`: BAD_DESC by whichever command meets it;
while the bucket array is being cleared, or operations of a store written out of service are in flight, nothing is taken (R591), and no
more than 256 are in flight (R285). A hall is served while it holds the grant of the engine's arbiter (R282, R305). A write operation
waits for room in the journal (R290, R540). -/
def State.takeCtx (s : State) (h cmd : Nat) (f : EngRun → State → State) : State :=
  let s := s.journalRoom
  let n := s.ctxWaiting.length
  if s.ctx.clearing ∨ 256 ≤ n ∨ (s.obj .ctxEnable 0 = 0 ∧ n ≠ 0) ∨ (1 ≤ cmd ∧ cmd ≤ 3 ∧ 1048576 ≤ s.journal.length) then s
  else
    s.granted 204 h h 11 (fun (s : State) =>
      s.takeHead h 11 [0xF] (fun r s =>
        if !s.ctxOk r.desc then s.finishHead h 11 r.desc (Result.only 2)
        else if cxCmd r.desc ≠ cmd then s
        else f r ((s.engPop h 11).countCtxOp)))

/-- The quarters of QMASK. -/
def quarters (d : Nat) : List Nat := maskList 4 (cxQmask d)

/-! ### LOOKUP -/

/-- Quarters are copied to BUF; one that reads uncorrectable is left out. Answers whether one was. -/
def State.copyQuarters (s : State) (h d e : Nat) : List Nat → State × Bool
  | [] => (s, false)
  | q :: qs =>
    let a := s.entryAddr e + 64 * q
    let r := s.ctxRead a 8
    let s := if r.2 then r.1 else r.1.engWrite h (cxBuf d + 64 * q) (r.1.readMem a 64)
    let t := s.copyQuarters h d e qs
    (t.1, r.2 || t.2)

/-- LOOKUP (R283). -/
def execLookup (h : Fin 16) (s : State) : Host.Outcome State Fault Refusal :=
  .next (s.takeCtx h 0 (fun r s =>
    let d := r.desc
    let f := (s.bump .ctxLookups 0).ctxFind (cxKey d)
    match f.2 with
    | .error => (f.1.ctxMemError true).ctxDone h d 0xC 0
    | .absent => f.1.ctxDone h d 8 0
    | .found p =>
      let w := f.1.wayAt p
      let c := f.1.copyQuarters h d (wayEntry w) (quarters d)
      if c.2 then (c.1.ctxMemError false).ctxDone h d 0xC (waySeq w) else c.1.ctxDone h d 0 (waySeq w)))

/-! ### INSERT (R280) -/

/-- The next SEQ is taken (R283). -/
def State.takeSeq (s : State) : State := s.setObj .ctxSeqNext 0 ((s.obj .ctxSeqNext 0 + 1) % 4294967296)

/-- The other bucket of a key. -/
def State.otherBucket (s : State) (key b : Nat) : Nat := if b = s.ctxH1 key then s.ctxH2 key else s.ctxH1 key

/-- A way as it stands in bucket b: ALT tells whether that is its key's second bucket. -/
def State.wayIn (s : State) (v b : Nat) : Nat := wayOf (wayKey v) (waySeq v) (decide (b = s.ctxH2 (wayKey v))) (wayEntry v)

/-- What the displacement loop answers: 0 placed, 1 not placed, 2 an uncorrectable bucket. -/
structure KickRes where
  s : State
  code : Nat
  kicks : Nat
  /-- The way without a place. -/
  left : Nat
  /-- Ways overwritten, newest first, with what they held. -/
  undo : List (Nat × Nat × Nat)

/-- The displacement loop of R280: swap n of at most kick_max, with way `v` in hand and bucket b. -/
def State.kick (s : State) (v b : Nat) (undo : List (Nat × Nat × Nat)) : Nat → Nat → KickRes
  | n, 0 => ⟨s, 1, n - 1, v, undo⟩
  | n, k + 1 =>
    let w := (n - 1) % 4
    let old := s.way b w
    let s := s.setWay b w (s.wayIn v b)
    let undo := (b, w, old) :: undo
    let b := s.otherBucket (wayKey old) b
    let r := s.readBucket b
    if r.2 then ⟨r.1, 2, n, old, undo⟩
    else
      match r.1.freeWay b with
      | some w => ⟨r.1.setWay b w (r.1.wayIn old b), 0, n, old, undo⟩
      | none => r.1.kick old b undo (n + 1) k

/-- Every swap is undone, newest first. -/
def State.undoKicks (s : State) (l : List (Nat × Nat × Nat)) : State := l.foldl (fun s x => s.setWay x.1 x.2.1 x.2.2) s

/-- An entry number is freed. -/
def State.pushEntry (s : State) (e : Nat) : State :=
  let s := s.ctxStore (s.stackAddr s.ctx.stack) (leBytes 4 e)
  { s with ctx := { s.ctx with stack := s.ctx.stack + 1 } }

/-- The way (key, SEQ, e) is placed (R280): the state, and 0 placed, 1 full, 2 uncorrectable. -/
def State.placeWay (s : State) (key seq e : Nat) : State × Nat :=
  let h1 := s.ctxH1 key
  let h2 := s.ctxH2 key
  match s.freeWay h1, s.freeWay h2 with
  | some w, _ => (s.setWay h1 w (wayOf key seq false e), 0)
  | none, some w => (s.setWay h2 w (wayOf key seq true e), 0)
  | none, none =>
    let r := s.kick (wayOf key seq false e) h1 [] 1 (s.objN .ctxKickMax 0)
    if r.code = 0 then (r.s.bumpBy .ctxKicks 0 r.kicks, 0)
    else if r.code = 2 then (r.s.undoKicks r.undo, 2)
    else
      match r.s.freeStash with
      | some i => (((r.s.setStash i r.left).bump .ctxStashPlaces 0).bumpBy .ctxKicks 0 r.kicks, 0)
      | none => (r.s.undoKicks r.undo, 1)

/-- The body of a new entry (R283): the header; from BUF the quarters of QMASK, of quarter 0 its bytes 32 to 63; zero
elsewhere. -/
def State.newBody (s : State) (h d seq : Nat) : List Byte :=
  let buf := terraceBase h + cxBuf d
  let q0 := if bitAt (cxQmask d) 0 then s.readMem (buf + 32) 32 else List.replicate 32 0
  leBytes 32 (ctxHeader (cxKey d) seq s.now (cxCarrier d) s.now) ++ q0
    ++ [1, 2, 3].flatMap (fun q => if bitAt (cxQmask d) q then s.readMem (buf + 64 * q) 64 else List.replicate 64 0)

/-- The next entry number: from the free stack, else the high-water count; an uncorrectable stack word answers none. -/
def State.takeEntry? (s : State) : State × Option Nat :=
  if 0 < s.ctx.stack then
    let a := s.stackAddr (s.ctx.stack - 1)
    let r := s.ctxRead (a / 8 * 8) 1
    if r.2 then (r.1, none)
    else ({ r.1 with ctx := { r.1.ctx with stack := r.1.ctx.stack - 1 } }, some (s.memNat a 4))
  else ({ s with ctx := { s.ctx with high := s.ctx.high + 1 } }, some s.ctx.high)

/-- An entry number taken is put back where it came from (R284). -/
def State.untakeEntry (s : State) (c : CtxSt) : State := { s with ctx := { s.ctx with high := c.high, stack := c.stack } }

/-- INSERT of an absent key (R280). An uncorrectable bucket changes nothing in the store (R284). -/
def State.insertNew (s : State) (h d : Nat) : State :=
  if s.objN .ctxEntries 0 ≤ s.objN .ctxUsed 0 then (s.setObj .ctxLastFull 0 1).ctxDone h d 0xB 0
  else
    let c := s.ctx
    let jseq := s.jseqNext
    match s.takeEntry? with
    | (s, none) => (s.ctxMemError true).ctxDone h d 0xC 0
    | (s, some e) =>
      let seq := s.objN .ctxSeqNext 0
      let r := (s.ctxJournal (cxKey d) seq 1).placeWay (cxKey d) seq e
      if r.2 = 2 then ((r.1.untakeEntry c).ctxMemError true).ctxDone h d 0xC 0
      else
        let t := r.1.ctxStore (r.1.entryAddr e) (s.newBody h d seq)
        if r.2 = 0 then
          (((t.takeSeq.setObj .ctxUsed 0 (s.obj .ctxUsed 0 + 1)).bump .ctxInserts 0).mirrorLogic false).ctxDoneMirrored h jseq d seq
        else (((t.pushEntry e).setObj .ctxLastFull 0 2).mirrorLogic false).ctxDone h d 0xB 0

/-- INSERT (R283). -/
def execInsert (h : Fin 16) (s : State) : Host.Outcome State Fault Refusal :=
  .next (s.takeCtx h 1 (fun r s =>
    let f := s.ctxFind (cxKey r.desc)
    match f.2 with
    | .error => (f.1.ctxMemError true).ctxDone h r.desc 0xC 0
    | .found p => f.1.ctxDone h r.desc 9 (waySeq (f.1.wayAt p))
    | .absent => f.1.insertNew h r.desc))

/-! ### UPDATE and TOUCH -/

/-- The header words that an UPDATE or TOUCH rewrites: SEQ, LAST_TOUCH and CARRIER (R278); KEY and CREATED stay. -/
def State.writeTouch (s : State) (d e seq : Nat) : State :=
  s.ctxStore (s.entryAddr e + 8)
    (leBytes 16 (ctxHeader 0 seq s.now (cxCarrier d) 0 / 2 ^ 64))

/-- The quarters of QMASK are written from BUF, quarter 0 without the header (R283). -/
def State.writeQuarters (s : State) (h d e : Nat) : State :=
  let buf := terraceBase h + cxBuf d
  (quarters d).foldl (fun s q =>
    if q = 0 then s.ctxStore (s.entryAddr e + 32) (s.readMem (buf + 32) 32)
    else s.ctxStore (s.entryAddr e + 64 * q) (s.readMem (buf + 64 * q) 64)) s

/-- Whether a condition fails (R283). -/
def condFails (d w : Nat) : Bool := cxCond d && decide (waySeq w ≠ cxExpect d)

/-- The header of an entry is read (log entry 48). -/
def State.readHeader (s : State) (e : Nat) : State × Bool := s.ctxRead (s.entryAddr e) 4

/-- UPDATE (R283). -/
def execUpdate (h : Fin 16) (s : State) : Host.Outcome State Fault Refusal :=
  .next (s.takeCtx h 2 (fun r s =>
    let d := r.desc
    let f := s.ctxFind (cxKey d)
    match f.2 with
    | .error => (f.1.ctxMemError true).ctxDone h d 0xC 0
    | .absent => f.1.ctxDone h d 8 0
    | .found p =>
      let w := f.1.wayAt p
      let e := wayEntry w
      if condFails d w then f.1.ctxDone h d 0xA (waySeq w)
      else
        let g := f.1.readHeader e
        if g.2 then (g.1.ctxMemError false).ctxDone h d 0xC (waySeq w)
        else
          let seq := g.1.objN .ctxSeqNext 0
          let s := (((g.1.ctxJournal (cxKey d) seq 2).takeSeq).writeQuarters h d e).writeTouch d e seq
          let s := s.setWayAt (w - waySeq w * 2 ^ 32 + seq * 2 ^ 32) p
          ((s.bump .ctxUpdates 0).mirrorLogic false).ctxDoneMirrored h g.1.jseqNext d seq))

/-- TOUCH (R283, R289): it completes without waiting for the partner. -/
def execTouch (h : Fin 16) (s : State) : Host.Outcome State Fault Refusal :=
  .next (s.takeCtx h 4 (fun r s =>
    let d := r.desc
    let f := s.ctxFind (cxKey d)
    match f.2 with
    | .error => (f.1.ctxMemError true).ctxDone h d 0xC 0
    | .absent => f.1.ctxDone h d 8 0
    | .found p =>
      let w := f.1.wayAt p
      let e := wayEntry w
      let g := f.1.readHeader e
      if g.2 then (g.1.ctxMemError false).ctxDone h d 0xC (waySeq w)
      else
        let s := g.1.store (g.1.entryAddr e + 8) (leBytes 16 (ctxHeader 0 (waySeq w) g.1.now (cxCarrier d) 0 / 2 ^ 64))
        let s := if s.mirroring then { s with ctx := { s.ctx with touched := s.ctx.touched ++ [e] } } else s
        (s.bump .ctxTouches 0).ctxDone h d 0 (waySeq w)))

/-- CTX_TOUCH_MIRROR_BATCH (R289, R546): the TOUCHes of the last ms are mirrored; nothing waits for them. -/
def execCtxTouchMirrorBatch (s : State) : Host.Outcome State Fault Refusal :=
  .next (
    let s' := s.ctx.touched.foldl (fun s e => s.mirrorMem (s.entryAddr e) (s.readMem (s.entryAddr e) 32)) s
    { s' with ctx := { s'.ctx with touched := [] } })

/-! ### DELETE -/

/-- The lowest stash way whose key has bucket b as one of its two. -/
def State.stashFor (s : State) (b : Nat) : Option Nat :=
  (List.range 64).find? (fun i =>
    let v := tabGet 0 s.ctx.stash i
    wayValid v && (decide (s.ctxH1 (wayKey v) = b) || decide (s.ctxH2 (wayKey v) = b)))

/-- R281: a stashed key of the bucket moves back into its freed way. -/
def State.moveBack (s : State) (b w : Nat) : State :=
  match s.stashFor b with
  | some i =>
    let v := tabGet 0 s.ctx.stash i
    (s.setWay b w (s.wayIn v b)).setStash i 0
  | none => s

/-- The way at a place is cleared and its entry number freed (R281, R283). -/
def State.removeWay (s : State) (p : CtxPlace) : State :=
  let e := wayEntry (s.wayAt p)
  let s := ((s.setWayAt 0 p).pushEntry e).setObj .ctxUsed 0 (s.obj .ctxUsed 0 - 1)
  match p with
  | .bucket b w => s.moveBack b w
  | .stash _ => s

/-- The word of the free stack that a push writes reads uncorrectable. -/
def State.stackRead (s : State) : State × Bool := s.ctxRead (s.stackAddr s.ctx.stack / 8 * 8) 1

/-- DELETE (R283). -/
def execDelete (h : Fin 16) (s : State) : Host.Outcome State Fault Refusal :=
  .next (s.takeCtx h 3 (fun r s =>
    let d := r.desc
    let f := s.ctxFind (cxKey d)
    match f.2 with
    | .error => (f.1.ctxMemError true).ctxDone h d 0xC 0
    | .absent => f.1.ctxDone h d 8 0
    | .found p =>
      let w := f.1.wayAt p
      if condFails d w then f.1.ctxDone h d 0xA (waySeq w)
      else
        let g := f.1.stackRead
        if g.2 then (g.1.ctxMemError true).ctxDone h d 0xC (waySeq w)
        else
          ((((g.1.ctxJournal (cxKey d) (waySeq w) 3).removeWay p).bump .ctxDeletes 0).mirrorLogic false).ctxDoneMirrored h
            g.1.jseqNext d (waySeq w)))

/-! ### The sweep (R288) -/

/-- LAST_TOUCH of an entry. -/
def State.lastTouch (s : State) (e : Nat) : Int := signExt 64 (bits (s.memNat (s.entryAddr e) 32) 159 96)

/-- The sweep tests way w of bucket b. -/
def State.sweepWay (s : State) (b : Nat) (w : Nat) : State :=
  let v := s.way b w
  if !wayValid v then s
  else
    let r := s.ctxRead (s.entryAddr (wayEntry v)) 8
    if r.2 then r.1.ctxMemError false
    else if s.lastTouch (wayEntry v) + s.obj .ctxIdleExpire 0 * 1000000000 < s.now then
      let g := r.1.stackRead
      if g.2 then g.1.ctxMemError true
      else
        let s := (g.1.journalRoom.ctxJournal (wayKey v) (waySeq v) 3).removeWay (.bucket b w)
        ((s.bump .ctxDeletes 0).bump .ctxExpired 0).mirrorLogic false
    else r.1

/-- CTX_SWEEP_BUCKET (R288): with `CTX_IDLE_EXPIRE` above 0 and the store in service, the sweep visits the next
bucket. -/
def execCtxSweepBucket (s : State) : Host.Outcome State Fault Refusal :=
  .next (
    if s.obj .ctxEnable 0 = 0 ∨ s.ctx.clearing = true ∨ s.obj .ctxIdleExpire 0 = 0 then s
    else
      let b := s.ctx.sweep % s.ctxBuckets
      let s := { s with ctx := { s.ctx with sweep := (b + 1) % s.ctxBuckets } }
      let r := s.readBucket b
      if r.2 then r.1.ctxMemError true else (List.range 4).foldl (fun s w => s.sweepWay b w) r.1)

/-! ### Enabling (R591) -/

/-- `CTX_BASE`, `CTX_ENTRIES` and `CTX_SEED`. -/
def State.ctxConfig (s : State) : Int × Int × Int := (s.obj .ctxBase 0, s.obj .ctxEntries 0, s.obj .ctxSeed 0)

/-- `CTX_BASE` keeps R274: 1 GiB aligned, in the DDR region. -/
def State.ctxBaseOk (s : State) : Bool := decide (s.objN .ctxBase 0 % 2 ^ 30 = 0) && s.inDdr (s.objN .ctxBase 0) 1

/-- An empty store starts; its bucket array is being cleared. -/
def State.ctxStartEmpty (s : State) : State :=
  (({ s with ctx := { CtxSt.reset with
        clearing := true, last := some s.ctxConfig, opMs := s.ctx.opMs, opCount := s.ctx.opCount
        badRead := s.ctx.badRead } }).setObj .ctxUsed 0 0).setObj
    .ctxStashUsed 0 0

/-- `CTX_ENABLE` takes a value (R591): a store whose configuration was in service last resumes as it stood. -/
def State.ctxEnableTo (s : State) (v : Nat) : State :=
  let was := s.obj .ctxEnable 0
  let s := s.setObj .ctxEnable 0 v
  if v = 0 then
    if was = 0 then s else { s with ctx := { s.ctx with last := some s.ctxConfig } }
  else if was ≠ 0 ∨ s.ctx.last = some s.ctxConfig then s
  else s.ctxStartEmpty

/-- CTX_ENABLE_WRITE (R274, R291, R591). -/
def execCtxEnableWrite (a : Accessor) (v : Nat) (s : State) : Host.Outcome State Fault Refusal :=
  .next (s.dictWrite a .ctxEnable 0 v (.unless (decide (v = 0) || s.ctxBaseOk) .state) (fun s => s.ctxEnableTo v))

/-- The bucket array of the store that was started last is zero, its words rewritten (R591). -/
def State.ctxWipe (s : State) : State :=
  match s.ctx.last with
  | some (base, entries, _) =>
    let lo := base.toNat
    let hi := lo + 64 * (entries.toNat / 2)
    { s with
      mem := s.mem.filter (fun p => !(decide (lo ≤ p.1) && decide (p.1 < hi)))
      upsets := s.upsets.filter (fun p =>
        let a := p.1 % 2 ^ 48
        let k := p.1 / 2 ^ 48 / 64
        !(decide (16 ≤ k) && decide (k < 24) && decide (lo ≤ a) && decide (a < hi)))
      ctx := { s.ctx with clearing := false } }
  | none => { s with ctx := { s.ctx with clearing := false } }

/-- CTX_CLEAR_DONE (R591): the bucket array of the store being started is zero; the engine takes descriptors again. -/
def execCtxClearDone (s : State) : Host.Outcome State Fault Refusal :=
  .next (if s.ctx.clearing ∧ s.ctxWaiting = [] then s.ctxWipe.mirrorLogic true else s)

/-- A standby takes over the engine's own state of its primary, and the clear that a frame reports (R289, R546, R591). -/
def State.ctxLogicTake (s : State) (l : List Byte) : State :=
  let at4 := fun (i : Nat) => leNat (slice i 4 l)
  let s := if (l.getD 16 0).toNat = 1 then s.ctxWipe else s
  let stash := (List.range 64).foldl (fun t i => tabSet 0 t i (leNat (slice (17 + 16 * i) 16 l))) []
  ((({ s with ctx := { s.ctx with high := at4 8, stack := at4 12, stash := stash } }).setObj .ctxUsed 0 (at4 0)).setObj
    .ctxSeqNext 0 (at4 4)).setObj .ctxStashUsed 0 stash.length

end Sys2Proof.Machine
end

