-- ==== Sys2Proof/Machine/Gallery.lean ====
section
/-! DEFINITION. The Gallery and its arbiters (R293 to R314): rounds, freezing and base priorities, packets on their way through the mesh
with its buffers and credits, their delivery at their targets, and held messages. -/

namespace Sys2Proof.Machine

/-! ### Arbiters (R304 to R310) -/

/-- The first of a list of inputs at or after the pointer, ascending, wrapping (R307). -/
def firstFrom (ptr : Nat) (l : List Nat) : Option Nat :=
  match l.find? (fun i => decide (ptr ≤ i)) with
  | some i => some i
  | none => l.head?

/-- What a round decides (R307): the inputs of age 15 in pointer order, else those of the highest base plus age. Answers
the grant, whether it was urgent, and whether the pointer chose among equals. -/
def arbDecide (eff age : Nat → Nat) (ptr : Nat) (l : List Nat) : Option (Nat × Bool × Bool) :=
  let u := l.filter (fun i => decide (15 ≤ age i))
  if u ≠ [] then (firstFrom ptr u).map (fun g => (g, true, false))
  else
    let e := (l.map eff).foldl max 0
    let m := l.filter (fun i => decide (eff i = e))
    (firstFrom ptr m).map (fun g => (g, false, decide (2 ≤ m.length)))

/-- A table with one added to each listed number, up to a limit. -/
def addEach (lim : Nat) (l : List Nat) (t : Tab Nat) : Tab Nat :=
  l.foldl (fun t i => tabSet 0 t i (min lim (tabGet 0 t i + 1))) t

/-- A round among the sampled inputs of a mask (R306 to R308). Requests not granted stay held, those of frozen inputs too; with no
input to choose the arbiter grants nothing and has no holder. `mid`: the holder had more of its packet to send. -/
def State.arbRound (s : State) (k asserted : Nat) (mid : Bool) : State :=
  let n := arbN k
  let old := s.arbHold k
  let l := (maskList n asserted).filter (fun i => !bitAt (s.arbFrozen k) i)
  let x := s.arb k
  let age := fun i => tabGet 0 x.ages i
  match arbDecide (fun i => s.arbBaseOf k i + age i) age (s.arbPtr k) l with
  | none => ((s.setArb k { x with pend := asserted % 2 ^ n }).arbGrant k (s.arbPtr k) 255).arbRefresh k
  | some (g, urgent, tie) =>
    let losers := l.filter (fun i => decide (i ≠ g))
    let wait := tabGet 0 x.lost g
    let s := s.setArb k { x with
      ages := tabSet 0 (addEach 15 losers x.ages) g 0, lost := tabSet 0 (addEach 255 losers x.lost) g 0
      pend := asserted % 2 ^ n - 2 ^ g }
    let s := s.arbGrant k ((g + 1) % n) g
    if k < 253 then
      let s := s.setObj .arbWaitMax k (max (s.obj .arbWaitMax k) wait)
      let s := (s.bump .arbGrants k).bumpIf urgent .arbUrgentRounds k
      let s := (s.bumpIf tie .arbTieRounds k).bumpIf (mid && decide (old < n) && decide (g ≠ old)) .arbTakebacks k
      s.arbRefresh k
    else s

/-- ARB_FREEZE_WRITE (R310, R313): bits at or above `ARB_INPUTS` are refused with RANGE. -/
def execArbFreezeWrite (a : Accessor) (k : Fin 253) (v : Nat) (s : State) : Host.Outcome State Fault Refusal :=
  .next (s.dictWrite a .arbFreeze k v (.unless (decide (v < 2 ^ arbN k)) .range) (fun s =>
    (s.setObj .arbFreeze k v).arbRefresh k))

/-- ARB_BASE_WRITE (R309, R313): the base is in force at the next round; the input's age stays. -/
def execArbBaseWrite (a : Accessor) (k : Fin 253) (i : Fin 32) (v : Nat) (s : State) :
    Host.Outcome State Fault Refusal :=
  .next (s.dictWrite a .arbBase (32 * k + i) v (.unless (decide (i.val < arbN k)) .range) (fun s =>
    s.setObj .arbBase (32 * k + i) v))

/-! ### Packets (R295) -/

def gpDstNode (h : Nat) : Nat := bits h 255 251
def gpDstEp (h : Nat) : Nat := bits h 250 245
def gpSrcNode (h : Nat) : Nat := bits h 244 240
def gpSrcEp (h : Nat) : Nat := bits h 239 234
def gpClass (h : Nat) : Nat := bits h 233 232
def gpLen (h : Nat) : Nat := bits h 231 228
def gpOpcode (h : Nat) : Nat := bits h 227 222
def gpPoison (h : Nat) : Bool := bitAt h 221
def gpTag (h : Nat) : Nat := bits h 219 210
def gpAddr (h : Nat) : Nat := bits h 209 162
def gpEpoch (h : Nat) : Nat := bits h 161 146
def gpAux (h : Nat) : Nat := bits h 145 128
def gpInline (h : Nat) : Nat := bits h 127 0

/-- The flit counter of a class (R314). -/
def galFlits : Nat → Obj
  | 0 => .galFlitsReq | 1 => .galFlitsRsp | 2 => .galFlitsEvt | _ => .galFlitsMnt

/-- The unit of an endpoint (R294, R529), of edge endpoint 0 by the part it answers for: a DDR channel, or the packet buffer. The
reliability manager and the power controller, which are none, have numbers above the units'. -/
def unitOfEndpoint (node ep part : Nat) : Nat :=
  if node < 16 then (if 2 ≤ ep ∧ ep ≤ 13 then unitCore (12 * node + (ep - 2)) else unitHall node)
  else
    match ep with
    | 0 => if part < 8 then unitDdr part else unitEth
    | 2 => unitLodge
    | 3 => unitPcie
    | 4 => unitCtx
    | 5 => unitEth
    | 6 => unitTime
    | _ => 280 + ep

/-- The OPCODEs of R295. -/
def gpOpcodes : List Nat := [1, 2, 4, 5, 8, 9, 0x10, 0x18, 0x19, 0x1A]

/-- The part of edge endpoint 0 that an address belongs to (R294, R318). -/
def State.ioPart (s : State) (a : Nat) : Nat := if s.inDdr a 1 then ddrChannel a else 8

/-- The response to a request (R295): OPCODE, the responder's epoch, status, and up to 16 bytes inline or data flits behind it. -/
def gpResponse (h opcode epoch status : Nat) (poison : Bool) (data : List Byte) : OutMsg :=
  let inl := decide (data.length ≤ 16)
  let flits := if inl then 0 else ceilDiv data.length 32
  let cls := if gpClass h = 3 then 3 else 1
  .packet
    (gpSrcNode h * 2 ^ 251 + gpSrcEp h * 2 ^ 245 + gpDstNode h * 2 ^ 240 + gpDstEp h * 2 ^ 234 + cls * 2 ^ 232
      + flits * 2 ^ 228 + opcode * 2 ^ 222 + (if poison then 2 ^ 221 else 0) + 2 ^ 220 + gpTag h * 2 ^ 210
      + epoch % 2 ^ 16 * 2 ^ 146 + status * 2 ^ 128 + (if inl then leNat data else 0))
    (if inl then [] else slice 0 (32 * flits) data)

/-- The epoch of the unit that answers a request. -/
def State.targetEpoch (s : State) (h : Nat) : Nat := (s.unit (unitOfEndpoint (gpDstNode h) (gpDstEp h) (s.ioPart (gpAddr h)))).epoch

/-- A response is sent, into the room its requester reserved (R301). -/
def State.respond (s : State) (h opcode status : Nat) (poison : Bool) (data : List Byte) : State :=
  s.send (gpResponse h opcode (s.targetEpoch h) status poison data)

/-- Whether a memory target holds `n` bytes from an address: a hall its Terrace slice, an edge port DDR and the packet
buffer, which only the I/O die reaches (R294, R315). -/
def State.targetHolds (s : State) (src node ep a n : Nat) : Bool :=
  if ep ≠ 0 then false
  else if node < 16 then decide (terraceHall a = some node) && decide (terraceHall (a + n - 1) = some node)
  else s.inDdr a n || (decide (16 ≤ src) && inPacketBuffer a && inPacketBuffer (a + n - 1))

/-- Whether a requester owns the region a write touches (R127, R226, R274, R536): a hall scheduler its TCBs, the HARQ
engines (the decoder, HARQ control and the turbo codec) the HARQ regions, the context store its own, the reliability manager the journal. -/
def State.mayWrite (s : State) (node ep a n : Nat) : Bool :=
  !s.ownedRegion a n
  || (decide (node < 16) && decide (ep = 1) && inTcbRegion a n && decide (terraceHall a = some node))
  || (decide (node < 16) && [20, 22, 24].contains ep && decide (ddrBase ≤ a)
      && (touches (s.objN .harqPoolBase 0) (s.objN .harqPoolSlots 0 * 12672) a n
          || touches (s.objN .harqProcBase 0) (s.objN .harqProcCount 0 * 2048) a n))
  || (decide (16 ≤ node) && decide (ep = 4) && s.ctxRegion a n)
  || (decide (16 ≤ node) && decide (ep = 1) && touches (s.objN .relJournalBase 0) 0x10000000 a n)

/-- The words of a WRITE are stored one by one, the poisoned ones left out (R296); answers whether a read-modify-write
failed. -/
def State.gpStore (s : State) (a : Nat) (bad : Nat → Bool) : Nat → List Byte → Nat → State × Bool
  | _, _, 0 => (s, false)
  | i, l, f + 1 =>
    if l = [] then (s, false)
    else
      let r := if bad i then (s, true) else s.storeRmw (a + 8 * i) (l.take 8)
      let t := r.1.gpStore a bad (i + 1) (l.drop 8) f
      (t.1, t.2 || (!bad i && !r.2))

/-- A progress mark of firmware in hall h (R539): bytes 0 to 7 SEQ, byte 8 RING, bytes 12 to 15 the mark. One that finds the journal
full is lost (log entry 79). -/
def State.progressMark (s : State) (h v : Nat) : State :=
  let s := s.journalRoom
  if (s.unit (unitHall h)).st ≠ unitRunning ∨ 1048576 ≤ s.journal.length then s
  else s.journalNote 6 (unitHall h) (bits v 71 64) (bits v 63 0) (bits v 127 96) []

/-- A WRITE at a memory target, or an inline one at the reliability manager, which records a mark (R295, R296, R539). -/
def State.gpWrite (s : State) (h : Nat) (data : List Byte) (poison : Bool) (bad : Nat → Bool) : State :=
  let a := gpAddr h
  let n := gpAux h % 256 + 1
  let l := slice 0 n (if gpLen h = 0 then leBytes 16 (gpInline h) else data)
  if 16 ≤ gpDstNode h ∧ gpDstEp h = 1 then
    if n = 16 ∧ gpLen h = 0 ∧ gpSrcNode h < 16 then
      if poison then s.respond h 9 1 false [] else (s.progressMark (gpSrcNode h) (gpInline h)).respond h 9 0 false []
    else s.respond h 9 3 false []
  else if !s.targetHolds (gpSrcNode h) (gpDstNode h) (gpDstEp h) a n then s.respond h 9 3 false []
  else if !s.mayWrite (gpSrcNode h) (gpSrcEp h) a n then s.respond h 9 2 false []
  else
    let r := s.gpStore a bad 0 l (n / 8 + 1)
    r.1.respond h 9 (if poison ∨ r.2 then 1 else 0) false []

/-- A READ at a memory target (R295, R325): uncorrectable data is delivered poisoned. -/
def State.gpRead (s : State) (h : Nat) : State :=
  let a := gpAddr h
  let n := gpAux h % 256 + 1
  if !s.targetHolds (gpSrcNode h) (gpDstNode h) (gpDstEp h) a n then s.respond h 8 3 false []
  else
    let w := a / 8 * 8
    let k := wordSpan a n
    let p := s.anyPoison w k
    let l := s.readMem a n
    (s.demandWords w 0 k).respond h 8 (if p then 1 else 0) p l

/-- The oldest posted store that has not failed is acknowledged (R63). -/
def ackPosted : List (Nat × Bool) → List (Nat × Bool)
  | [] => []
  | (a, true) :: r => (a, true) :: ackPosted r
  | (_, false) :: r => r

/-- A response at core c to its oldest posted store: an error, of a store that failed at its target if there is one, is held for
WINDOW_ASYNC and taken at the next bundle boundary (R63, R64, R296). -/
def State.storeAck (s : State) (c status : Nat) : State :=
  let k := s.core c
  if status = 0 then s.setCore c { k with posted := ackPosted k.posted }
  else
    match firstFailed k.posted, k.posted with
    | some (a, rest), _ => (s.setCore c { k with posted := rest, async := k.async ++ [a] }).takeAsync c
    | none, (a, _) :: rest => (s.setCore c { k with posted := rest, async := k.async ++ [a] }).takeAsync c
    | none, [] => s

/-- A MSG for a local queue (R143, R302): of a hardware producer, which may be held; of a thread, which waits itself for room by
SCH_REMOTE_OP. -/
def State.gpMsg (s : State) (src q m : Nat) : State :=
  if 2 ≤ src % 64 ∧ src % 64 ≤ 13 ∧ src < 1024 ∧ isEngineQueue (q % 256) = false then
    if !(s.queue q).enabled then s
    else if s.hasRoom q then s.arriveMsg q m
    else if (s.queue q).policyDrop then s.dropMsg q none
    else s
  else s.hwSend src q m

/-- A packet is performed at its target (R295). A MSG names its local queue in AUX[143:136] and its messages in INLINE
(log entry 49); a SEM request is done by SCH_REMOTE_OP; an ACK at a core is of its oldest posted store. -/
def State.gpPerform (s : State) (p : GalPacket) (poison : Bool) (bad : Nat → Bool) : State :=
  let h := p.header
  match gpOpcode h with
  | 1 => s.gpRead h
  | 2 => s.gpWrite h p.data poison bad
  | 4 =>
    if gpDstNode h < 16 ∧ gpDstEp h = 1 then
      if poison then s.respond h 9 1 false []
      else (s.gpMsg (64 * gpSrcNode h + gpSrcEp h) (256 * gpDstNode h + bits h 143 136) (gpInline h)).respond h 9 0 false []
    else s.respond h 9 3 false []
  | 5 => s
  | 9 =>
    if gpDstNode h < 16 ∧ 2 ≤ gpDstEp h ∧ gpDstEp h ≤ 13 then
      s.storeAck (12 * gpDstNode h + (gpDstEp h - 2)) (if poison then 1 else gpAux h % 256)
    else s
  | 0x18 => s.freeUsed.respond h 0x1A 0 false (leBytes 8 s.free)
  | 0x19 => s.respond h 0x1A 0 false []
  | _ => s

/-- The words of the payload that are poisoned (R296): those that links made uncorrectable, of INLINE words 0 and 1, else of the data
flits; all of them in a packet that its source sent poisoned. -/
def gpBadWord (p : GalPacket) (i : Nat) : Bool :=
  gpPoison p.header || p.errs.any (fun e => e.bad && decide (e.word = if gpLen p.header = 0 then i else 4 + i))

/-- A packet is poisoned: by its source, or by a router it has crossed. -/
def gpPoisoned (p : GalPacket) : Bool := gpPoison p.header || p.errs.any (fun e => e.bad)

/-- The errors of a packet's words at one router: each word corrected counts, and the word that poisons the packet (R296). -/
def State.galErrors (s : State) : List GalErr → Bool → State
  | [], _ => s
  | e :: r, poisoned =>
    if e.bad then (s.bumpIf (!poisoned) .galPoisoned e.router).galErrors r true
    else (s.bump .galCorrected e.router).galErrors r poisoned

/-! ### The mesh (R293, R294, R298 to R301) -/

/-- The flits of a packet: its header and at most 8 data flits (R295). -/
def gpFlits (p : GalPacket) : Nat := 1 + min 8 (gpLen p.header)

/-- Flits a router input's buffer of a class holds (R300). -/
def bufCap (c : Nat) : Nat := if c = 2 then 4 else 9

/-- Credit, in flits, that a target node grants each source node in a class (R301). -/
def creditCap : Nat → Nat
  | 0 => 32 | 2 => 4 | _ => 9

/-- Whether a packet takes credit: REQ, EVT and MNT requests (R301). -/
def takesCredit (h : Nat) : Bool :=
  decide (gpClass h = 0) || decide (gpClass h = 2) || (decide (gpClass h = 3) && decide (gpOpcode h ≠ 0x1A))

/-- Whether a packet's requester reserves room for a response: REQ and MNT requests (R301). -/
def awaitsResponse (h : Nat) : Bool := takesCredit h && decide (gpClass h ≠ 2)

def galBufKey (n i c : Nat) : Nat := 20 * n + 4 * i + c
def galCreditKey (h : Nat) : Nat := (20 * gpDstNode h + gpSrcNode h) * 4 + gpClass h

/-- The packets in a buffer. -/
def State.galBuf (s : State) (n i c : Nat) : List GalPacket := tabGet [] s.gal.bufs (galBufKey n i c)

/-- The state with a buffer set. -/
def State.setGalBuf (s : State) (n i c : Nat) (l : List GalPacket) : State :=
  { s with gal := { s.gal with bufs := tabSet [] s.gal.bufs (galBufKey n i c) l } }

/-- The packets at a node's ingress. -/
def State.galIngress (s : State) (n : Nat) : List GalPacket := tabGet [] s.gal.ingress n

/-- The state with a node's ingress set. -/
def State.setIngress (s : State) (n : Nat) (l : List GalPacket) : State :=
  { s with gal := { s.gal with ingress := tabSet [] s.gal.ingress n l } }

/-- A link out of a router. -/
def State.galLink (s : State) (n o : Nat) : GalLink := tabGet GalLink.reset s.gal.links (5 * n + o)

/-- The state with a link set. -/
def State.setGalLink (s : State) (n o : Nat) (x : GalLink) : State :=
  { s with gal := { s.gal with links := tabSet GalLink.reset s.gal.links (5 * n + o) x } }

/-- Credit taken, or returned (R301). -/
def State.setCredit (s : State) (h used : Nat) : State :=
  { s with gal := { s.gal with used := tabSet 0 s.gal.used (galCreditKey h) used } }

/-- The output of router n that a packet for a node takes (R298): 0 its hall, 1 and 2 the row's neighbours, 3 and 4 the column's, of
which 4 of row 3 is the edge port. Row moves come first; a packet for the I/O die leaves by its own column. -/
def galOut (n dst : Nat) : Nat :=
  if dst < 16 then
    if dst / 4 < n / 4 then 1 else if n / 4 < dst / 4 then 2
    else if dst % 4 < n % 4 then 3 else if n % 4 < dst % 4 then 4 else 0
  else 4

/-- The router and input behind an output; none where it leads out of the mesh, to the hall or the edge port. -/
def galNext (n o : Nat) : Option (Nat × Nat) :=
  match o with
  | 1 => some (n - 4, 2)
  | 2 => some (n + 4, 1)
  | 3 => some (n - 1, 4)
  | 4 => if n % 4 = 3 then none else some (n + 1, 3)
  | _ => none

/-- A buffer has room for a packet (R300). -/
def State.galRoom (s : State) (n i c : Nat) (p : GalPacket) : Bool :=
  decide (((s.galBuf n i c).map gpFlits).sum + gpFlits p ≤ bufCap c)

/-- Where a packet enters the mesh (R298): the router and input; none between two units of the I/O die. -/
def galEntry (h : Nat) : Option (Nat × Nat) :=
  if gpSrcNode h < 16 then some (gpSrcNode h, 0)
  else if gpDstNode h < 16 then some (4 * (gpDstNode h / 4) + 3, 4)
  else none

/-- A packet may leave its source (R301, R302): the target node has credit for all its flits, its first buffer has room, and no message of
its source is held at the hall. -/
def State.mayLeave (s : State) (p : GalPacket) : Bool :=
  let h := p.header
  (!takesCredit h || decide (tabGet 0 s.gal.used (galCreditKey h) + gpFlits p ≤ creditCap (gpClass h)))
  && (match galEntry h with | some (n, i) => s.galRoom n i (gpClass h) p | none => true)
  && !(decide (gpOpcode h = 4) && decide (gpDstNode h < 16)
      && (s.sch (gpDstNode h)).held.any (fun x => decide (x.src = 64 * gpSrcNode h + gpSrcEp h)))

/-- A packet leaves its source, with its credit and the room for its response. -/
def State.galLeave (s : State) (p : GalPacket) : State :=
  let h := p.header
  let s := if takesCredit h then s.setCredit h (tabGet 0 s.gal.used (galCreditKey h) + gpFlits p) else s
  let s : State := if awaitsResponse h then
      { s with gal := { s.gal with rooms := s.gal.rooms ++ [(64 * gpSrcNode h + gpSrcEp h, gpTag h)] } } else s
  match galEntry h with
  | some (n, i) => s.setGalBuf n i (gpClass h) (s.galBuf n i (gpClass h) ++ [p])
  | none => s.setIngress (gpDstNode h) (s.galIngress (gpDstNode h) ++ [p])

/-- Whether the head of a router input's buffer asks for an output of its class that can take it now (R301, R305). -/
def State.galAsks (s : State) (n o c i : Nat) : Bool :=
  match s.galBuf n i c with
  | p :: _ =>
    decide (galOut n (gpDstNode p.header) = o)
      && (match galNext n o with | some (m, j) => s.galRoom m j c p | none => true)
  | [] => false

/-- The inputs of an arbiter that can ask, where the model holds what asks (R305): halls with a descriptor at the head of their queue for
the shared codecs and the context store, entries offered to a port, packets at a router. -/
def State.arbLines (s : State) (k : Nat) : Option (List Nat) :=
  if 200 ≤ k ∧ k < 204 then
    some ((List.range 8).filter (fun i => (s.engHead (8 * ((k - 200) / 2) + i) (7 + k % 2)).isSome))
  else if k = 204 then some ((List.range 16).filter (fun i => (s.engHead i 11).isSome))
  else if 205 ≤ k ∧ k < 253 then
    some ((List.range 20).filter (fun i => s.txOffers.any (fun e => decide (e.port = k - 205) && decide (e.input = i))))
  else if 253 ≤ k then
    some ((List.range 5).filter (fun i => s.galAsks ((k - 253) / 20) ((k - 253) / 4 % 5) ((k - 253) % 4) i))
  else none

/-- Whether the target of an arbiter can take a new burst (R305): the codecs and the context store once the descriptor granted last is
taken, a port once it took the entry granted last and has room, a router output once its class's packet has crossed. -/
def State.arbDue (s : State) (k : Nat) : Bool :=
  if 200 ≤ k ∧ k ≤ 204 then decide (s.arbHold k = 255)
  else if 205 ≤ k ∧ k < 253 then decide (s.arbHold k = 255) && decide ((s.portEntries (k - 205)).length < 4096)
  else if 253 ≤ k then
    !((s.galLink ((k - 253) / 20) ((k - 253) / 4 % 5)).moving.any (fun x => decide (x.1 = (k - 253) % 4)))
  else true

/-- The packet that a router output's round granted begins to cross its link. -/
def State.galGrant (s : State) (k : Nat) : State :=
  let n := (k - 253) / 20
  let o := (k - 253) / 4 % 5
  let c := (k - 253) % 4
  match s.galBuf n (s.arbHold k) c with
  | p :: _ =>
    let x := s.galLink n o
    s.setGalLink n o { x with moving := x.moving ++ [(c, s.arbHold k, gpFlits p)] }
  | [] => s

/-- ARB_ROUND (R305 to R308, R311): a burst boundary, or the first request of an idle arbiter. Requests held from earlier rounds are
sampled with those of `req`, and with the holder where its packet goes on (not at a router, whose rounds are at packet ends). -/
def execArbRound (k : Fin 573) (req : Nat) (mid : Bool) (s : State) : Host.Outcome State Fault Refusal :=
  .next <|
    let n := arbN k
    let old := s.arbHold k
    let asked := (s.arb k).pend ||| req
    if !s.arbDue k then s
    else
      match s.arbLines k with
      | some l =>
        let t := s.arbRound k ((l.filter (fun i => bitAt asked i)).map (fun i => 2 ^ i)).sum false
        if 253 ≤ k.val ∧ t.arbHold k < n then t.galGrant k else t
      | none => s.arbRound k (if mid ∧ old < n then asked ||| 2 ^ old else asked) mid

/-- The class that a flit slot of a link goes to (R300): in the rank MNT, EVT, RSP, REQ, which is that of their numbers; first one that
has lost five slots in a row, the longest waiting before others, so that none waits for more than eight (log entry 106). -/
def slotClass (x : GalLink) : Option Nat :=
  let cs := [3, 2, 1, 0].filter (fun c => x.moving.any (fun q => decide (q.1 = c)))
  let top := (cs.map (fun c => tabGet 0 x.lost c)).foldl max 0
  if 5 ≤ top then cs.find? (fun c => decide (tabGet 0 x.lost c = top)) else cs.head?

/-- The last flit of a packet has crossed: it stands at the next router, or at its target's ingress; its words' errors count. -/
def State.galCrossed (s : State) (n o c i : Nat) : State :=
  match s.galBuf n i c with
  | p :: rest =>
    let s := (s.setGalBuf n i c rest).galErrors (p.errs.filter (fun e => decide (e.router = n))) (gpPoison p.header)
    let s := s.arbRelease (253 + 20 * n + 4 * o + c) i
    match galNext n o with
    | some (m, j) => s.setGalBuf m j c (s.galBuf m j c ++ [p])
    | none =>
      let d := if o = 0 then n else gpDstNode p.header
      s.setIngress d (s.galIngress d ++ [p])
  | [] => s

/-- One flit slot of a link (R294, R300, R314). -/
def State.galSlot (s : State) (n o : Nat) : State :=
  let x := s.galLink n o
  match slotClass x with
  | none => s
  | some c =>
    match x.moving.find? (fun q => decide (q.1 = c)) with
    | none => s
    | some (_, i, left) =>
      let waiting := (x.moving.map (fun q => q.1)).filter (fun d => decide (d ≠ c))
      let lost := tabSet 0 (addEach 255 waiting x.lost) c 0
      let others := x.moving.filter (fun q => decide (q.1 ≠ c))
      let s := s.bump (galFlits c) n
      if left ≤ 1 then (s.setGalLink n o ⟨others, lost⟩).galCrossed n o c i
      else s.setGalLink n o ⟨others ++ [(c, i, left - 1)], lost⟩

/-- The ingress of a target releases a packet: its credit returns, and a response frees the room reserved for it (R301). -/
def State.galRelease (s : State) (p : GalPacket) : State :=
  let h := p.header
  if takesCredit h then s.setCredit h (tabGet 0 s.gal.used (galCreditKey h) - gpFlits p)
  else { s with gal := { s.gal with rooms := s.gal.rooms.erase (64 * gpDstNode h + gpDstEp h, gpTag h) } }

/-- A packet reaches its target endpoint (R295 to R297, R532): one of an older epoch is discarded with no response, a reserved OPCODE or
LEN answers BAD_OP to a request, a request to a unit that restarts is REFUSED; else it is performed. -/
def State.galArrive (s : State) (p : GalPacket) : State :=
  let h := p.header
  let unit := unitOfEndpoint (gpSrcNode h) (gpSrcEp h) p.part
  let key := (64 * gpDstNode h + gpDstEp h) * 512 + unit
  if epochOlder 16 (tabGet 0 s.galEpochs key) (gpEpoch h) then s.bump .relStaleDiscards 0
  else
    let s := { s with galEpochs := tabSet 0 s.galEpochs key (gpEpoch h) }
    if !gpOpcodes.contains (gpOpcode h) ∨ 8 < gpLen h then
      let s := if gpDstNode h < 16 then s.bump .galBadPackets (gpDstNode h) else s
      if gpClass h = 0 then s.respond h 9 4 false [] else s
    else if awaitsResponse h ∧ (s.unit (unitOfEndpoint (gpDstNode h) (gpDstEp h) (s.ioPart (gpAddr h)))).st = unitRestarting then
      s.respond h (if gpOpcode h = 1 then 8 else if gpClass h = 3 then 0x1A else 9) 2 false []
    else s.gpPerform p (gpPoisoned p) (gpBadWord p)

/-- A packet for DDR waits while its channel serves no requests (R321). -/
def State.ddrServes (s : State) (p : GalPacket) : Bool :=
  let h := p.header
  !(decide (gpOpcode h ≤ 2) && decide (16 ≤ gpDstNode h) && decide (gpDstEp h = 0) && s.inDdr (gpAddr h) 1)
    || decide (s.obj .ddrState (ddrChannel (gpAddr h)) = 2)

/-- Whether packet `i` of an ingress follows none of its own class between the same endpoints (R299). -/
def galFirst (l : List GalPacket) (i : Nat) (p : GalPacket) : Bool :=
  let id := fun (q : GalPacket) => (gpSrcNode q.header, gpSrcEp q.header, gpDstEp q.header, gpClass q.header)
  !((l.take i).any (fun q => decide (id q = id p)))

/-- GALLERY_PACKET_DELIVERY (R295 to R301): a packet leaves its source once it may, a link of the mesh moves a flit, or a target takes a
packet of its ingress. -/
def execGalleryPacketDelivery (e : GalStep) (s : State) : Host.Outcome State Fault Refusal :=
  .next <|
    match e with
    | .leave p => if s.mayLeave p then s.galLeave p else s
    | .slot n o => s.galSlot n o
    | .reach n i =>
      match (s.galIngress n)[i]? with
      | some p =>
        if galFirst (s.galIngress n) i p ∧ s.ddrServes p then
          ((s.setIngress n ((s.galIngress n).eraseIdx i)).galRelease p).galArrive p
        else s
      | none => s

/-! ### Held messages (R302) -/

/-- The first held message that its queue can take now and that no earlier one of its source precedes. -/
def State.firstHeld (s : State) : List HeldMsg → List Nat → Option HeldMsg
  | [], _ => none
  | x :: r, seen =>
    if !seen.contains x.src ∧ (!(s.queue x.queue).enabled ∨ s.hasRoom x.queue ∨ (s.queue x.queue).policyDrop) then some x
    else s.firstHeld r (x.src :: seen)

/-- The messages of a source behind a freed hold slot are sent in order, until one is held (R302). -/
def State.sendBehind (s : State) (h src : Nat) : Nat → State
  | 0 => s
  | f + 1 =>
    match (s.sch h).held.find? (fun x => decide (x.src = src)) with
    | none => s
    | some x =>
      let q := s.queue x.queue
      if isEngineQueue (x.queue % 256) = false ∧ q.enabled = true ∧ s.hasRoom x.queue = false ∧ q.policyDrop = false then
        s.bump .galHolds h
      else
        let s := s.setSch h { s.sch h with held := (s.sch h).held.erase x }
        let rest := (s.sch h).held
        let s := (s.setSch h { s.sch h with held := rest.filter (fun y => decide (y.src ≠ src)) }).hwSend src x.queue x.msg
        (s.setSch h { s.sch h with held := rest }).sendBehind h src f

/-! ### The Stairway's deliveries (R143, R555) -/

/-- The Stairway delivers a message to a local queue of a hall. -/
def State.stairSend (s : State) (h q m : Nat) : State := s.hwSend (64 * h + 29) (256 * h + q) m

/-- A hall holds a message of the Stairway for room in its queue. -/
def State.stairHeld (s : State) (m : Nat) : Bool :=
  s.sched.any (fun p => p.2.held.any (fun x => decide (x.src = 64 * p.1 + 29) && decide (x.msg = m)))

/-- Broadcasts that every hall has taken are completed to their senders (R555). -/
def State.stairSettle (s : State) : State :=
  let done := s.stairDone.filter (fun x => !s.stairHeld x.2.2)
  done.foldl (fun (s : State) x => s.stairSend x.1 x.2.1 x.2.2)
    { s with stairDone := s.stairDone.filter (fun x => s.stairHeld x.2.2) }

/-- GALLERY_HOLD_RELEASE (R302): a held message whose queue has room enters it and frees its hold slot; the messages of
its source that waited behind it follow. -/
def execGalleryHoldRelease (h : Fin 16) (s : State) : Host.Outcome State Fault Refusal :=
  .next <|
    match s.firstHeld (s.sch h).held [] with
    | none => s
    | some x =>
      let s := s.setSch h { s.sch h with held := (s.sch h).held.erase x }
      let q := s.queue x.queue
      let s := if !q.enabled then s else if s.hasRoom x.queue then s.arriveMsg x.queue x.msg else s.dropMsg x.queue none
      (s.sendBehind h x.src (s.sch h).held.length).stairSettle

end Sys2Proof.Machine
end

