-- ==== Sys2Proof/Machine/LaneOps.lean ====
section
/-! DEFINITION. Lane states and what follows from them (R344 to R349, R354, R361, R368, R372): quad status, port states,
training and the snapshot. -/

namespace Sys2Proof.Machine

/-- Lane states (R361). -/
abbrev laneOff : Int := 0
abbrev laneAcquire : Int := 1
abbrev laneTraining : Int := 2
abbrev laneData : Int := 3
abbrev laneFrozen : Int := 4
abbrev laneTest : Int := 5

/-- Lane l. -/
def State.lane (s : State) (l : Nat) : LaneSt := tabGet LaneSt.reset s.lanes l

/-- The state with a lane set. -/
def State.setLane (s : State) (l : Nat) (x : LaneSt) : State := { s with lanes := tabSet LaneSt.reset s.lanes l x }

/-- The mode of a lane's quad. -/
def State.laneMode (s : State) (l : Nat) : Int := s.obj .laneQuadMode (l / 4)

/-- The lane carries traffic: DATA or FROZEN. -/
def State.laneCarries (s : State) (l : Nat) : Bool :=
  decide (s.obj .laneState l = laneData) || decide (s.obj .laneState l = laneFrozen)

/-- Lanes of a quad. -/
def quadLanes (q : Nat) : List Nat := [4 * q, 4 * q + 1, 4 * q + 2, 4 * q + 3]

/-- `LANE_QUAD_STATUS` (R368): every lane in DATA, alignment or marker lock, FEC lock (log entry 50); the reason of the
last refusal stays. -/
def State.quadRefresh (s : State) (q : Nat) : State :=
  let m := s.obj .laneQuadMode q
  let ls := quadLanes q
  let data := ls.all (fun l => decide (s.obj .laneState l = laneData))
  let lock :=
    if 4 ≤ m ∧ m ≤ 7 then (s.port (4 * q)).aligned
    else if 8 ≤ m ∧ m ≤ 10 then ls.all (fun l => (s.lane l).markLock)
    else false
  let fec := decide (s.obj .laneQuadFec q ≠ 0) && ls.all (fun l => (s.lane l).blockLock)
  s.setObj .laneQuadStatus q ((if data then 128 else 0) + (if lock then 64 else 0) + (if fec then 32 else 0)
    + s.obj .laneQuadStatus q % 16)

/-- A port leaves UP (R372, R401, R409): its entries are discarded, it stops nothing, and PTP loses it. -/
def State.portLeaves (s : State) (p : Nat) : State :=
  let s := s.discardAll p (s.portEntries p)
  let s := s.setPort p { PortSt.reset with aligned := (s.port p).aligned }
  let s := (s.setObj .ethRxOcc p 0).setObj .ethXoffState p 0
  s.ptpPortLost p

/-- Port p's state after its lanes or locks changed (R372). -/
def State.portRefresh (s : State) (p : Nat) : State :=
  let m := s.portMode p
  let ls := portLanes m p
  let old := s.obj .ethPortState p
  let up := ls.all s.laneCarries && (if ls.length = 1 then ls.all (fun l => (s.lane l).blockLock) else (s.port p).aligned)
  let st := if ls = [] then portDisabled else if up then portUp else portDown
  let s := s.setObj .ethPortRate p (portRate m p)
  if st = old then s
  else
    let s := s.setObj .ethPortState p st
    if old = portUp then s.portLeaves p
    else if st = portUp then
      (if s.obj .ptpPortEn p ≠ 0 then s.setObj .ptpPortState p ptpListening else s).fcEval p []
    else s

/-- What follows when a lane changed: its quad's status and, on quads 0 to 11, its ports. -/
def State.laneChanged (s : State) (l : Nat) : State :=
  let q := l / 4
  let s := if l < 48 then (quadLanes q).foldl (fun s p => s.portRefresh p) s else s
  s.quadRefresh q

/-- A lane's state set, and what follows. -/
def State.laneEnter (s : State) (l : Nat) (st : Int) : State := (s.setObj .laneState l st).laneChanged l

/-- A lane into OFF (R361): nothing of its locks and adaptation is kept. -/
def State.laneToOff (s : State) (l : Nat) : State :=
  (((s.setLane l LaneSt.reset).setObj .lanePrbsLock l 0).setObj .laneFarFom l 0).laneEnter l laneOff

/-- A lane into ACQUIRE (R361, R365): adaptation state is discarded and the transmitter uses `LANE_TX_FFE` again (R366); the count
of training failures stays. -/
def State.laneToAcquire (s : State) (l : Nat) : State :=
  let s := s.setObj .laneTxFfeNow l (s.obj .laneTxFfe l)
  (s.setLane l { LaneSt.reset with fails := (s.lane l).fails, prbsHold := (s.lane l).prbsHold }).laneEnter l laneAcquire

/-- PRE, MAIN and POST of a setting (R354). -/
def ffePre (v : Nat) : Nat := bits v 3 0
def ffeMain (v : Nat) : Nat := bits v 13 8
def ffePost (v : Nat) : Nat := bits v 20 16

/-- A setting of three taps. -/
def ffeOf (pre main post : Nat) : Nat := post * 2 ^ 16 + main * 2 ^ 8 + pre

/-- The limits of R354. -/
def ffeOk (v : Nat) : Bool :=
  decide (ffePre v + ffeMain v + ffePost v ≤ 63) && decide (ffePre v + ffePost v + 8 ≤ ffeMain v)

/-- PRESET (R354). -/
def ffePreset : Nat := ffeOf 0 63 0

/-- A lane's training begins (R357, R358): Dravut and Munov lanes start at PRESET. -/
def State.laneTrain (s : State) (l : Nat) : State :=
  let x := s.lane l
  let s := s.setLane l { LaneSt.reset with
    an := x.an, cdr := x.cdr, blockLock := x.blockLock, markLock := x.markLock, mseq := x.mseq, fails := x.fails
    prbsHold := x.prbsHold, lpi := x.lpi, held := x.held }
  let s := if 8 ≤ s.laneMode l then s.setObj .laneTxFfeNow l ffePreset else s
  s.laneEnter l laneTraining

/-- The snapshot is taken (R359): the present set, with a FoM, now. -/
def State.takeSnapshot (s : State) (l : Nat) (fom : Int) : State :=
  let x := s.lane l
  let s := s.setLane l { x with snapPost := x.post, snapPre := x.pre, snapTime := s.now }
  (s.setObj .laneSnapFom l fom).setObj .laneSnapCtle l (s.obj .laneCtleNow l)

/-- The partner's taps after training (R358, R359): it moved them to maximise the FoM, to values the spec does not give (log entry 50). -/
def State.trainedTaps (s : State) (l : Nat) : State :=
  if s.laneMode l < 8 then s
  else
    let s := (s.setLane l { s.lane l with post := s.free % 32 }).freeUsed
    (s.setLane l { s.lane l with pre := s.free % 16 }).freeUsed

/-- Training completes (R357 to R361): DATA, or FROZEN where a condition of R360 holds, with the snapshot of the trained set. -/
def State.laneTrained (s : State) (l : Nat) : State :=
  let s := s.trainedTaps l
  let x := s.lane l
  let s := s.setLane l { x with dir := 1, pending := false, fails := 0, reverted := false, holdUntil := 0 }
  (s.takeSnapshot l (s.obj .laneFom l)).laneEnter l (if x.lpi || x.held then laneFrozen else laneData)

/-- A lane whose CDR is locked goes on (R361): after auto-negotiation, where it is enabled, to TRAINING or, in mode 7,
to DATA. -/
def State.laneProceed (s : State) (l : Nat) : State :=
  let m := s.laneMode l
  let x := s.lane l
  let anDone := x.an || decide (7 ≤ m) || decide (s.obj .laneQuadAnEn (l / 4) = 0)
  if s.obj .laneState l ≠ laneAcquire ∨ x.cdr = false ∨ anDone = false then s
  else if m = 7 then s.laneTrained l
  else s.laneTrain l

/-- A test object of a lane is non-zero (R361). -/
def State.laneTesting (s : State) (l : Nat) : Bool :=
  decide (s.obj .laneLoopback l ≠ 0) || decide (s.obj .lanePrbsTx l ≠ 0) || decide (s.obj .lanePrbsChk l ≠ 0)

/-- R535: a lane whose unit does not run has left its port or link. -/
def State.laneStopped (s : State) (l : Nat) : State :=
  if (s.unit (unitLane l)).st = unitRunning then s else s.laneToOff l

/-- Training of a lane fails (R357, R358, R533): counted, with an event, back to ACQUIRE; the third failure in a row is a
fault 0x06 of the lane. -/
def State.laneFails (s : State) (l : Nat) : State :=
  let n := (s.lane l).fails + 1
  let s := (s.bump .laneTrainFails l).evt .laneTrainFail (unitLane l) 0
  let s := s.setLane l { s.lane l with fails := if 3 ≤ n then 0 else n }
  let s := s.laneToAcquire l
  if 3 ≤ n then (s.unitFault (unitLane l) 6).laneStopped l else s

end Sys2Proof.Machine
end

