-- ==== Sys2Proof/Machine/PairOps.lean ====
section
/-! DEFINITION. What the commands of the pair, the chain and the dictionary share (R477, R543 to R550, R553): frames and their
acknowledgement, the steps that wait for it, replies to NAP requests, and the pair state. -/

namespace Sys2Proof.Machine

/-! ### Lanes and pair state (R353, R544, R545) -/

/-- Skew that the receiver tolerates between lanes, ns: 128 blocks at the mode's rate (R353). -/
def skewLimit (m : Int) : Int := if m = 9 then 150 else if m = 8 then 300 else 328

/-- Active lanes of group 6, ascending: DATA or FROZEN with marker lock, and not skewed (R353, R545). -/
def State.activeLanes (s : State) : List Nat :=
  (List.range 8).filter (fun i => s.laneCarries (48 + i) && (s.lane (48 + i)).markLock
    && decide (s.obj .laneSkew (48 + i) ≤ skewLimit (s.laneMode (48 + i))))

/-- The number of active lanes. -/
def State.linkLanes (s : State) : Nat := s.activeLanes.length

/-- The lane that link block n of a period goes to (R353). -/
def State.blockLane (s : State) (n : Nat) : Option Nat := (s.activeLanes[n % s.linkLanes]?).map (fun i => 48 + i)

/-- The peer lanes are in a mode of the Dravut link (R543), and rung 6 has ended (R498). -/
def State.peerMode (s : State) : Bool :=
  (decide (s.obj .laneQuadMode 12 = 8) || decide (s.obj .laneQuadMode 12 = 9))
    && (decide (s.obj .startRung 0 = 0) || decide (6 < s.obj .startRung 0))

/-- The pair state entered (R544): SOLO, DETACHED and JOINING raise `PAIR_EPOCH`, the first two with an event. -/
def State.pairEnter (s : State) (st : Int) : State :=
  let s := s.setObj .pairState 0 st
  let s := if st = pairSolo ∨ st = pairDetached ∨ st = pairJoining then
      s.setObj .pairEpoch 0 ((s.obj .pairEpoch 0 + 1) % 4294967296) else s
  s.evtIf (decide (st = pairSolo) || decide (st = pairDetached)) .pairState unitLodge st.toNat

/-! ### Replies to NAP requests (R474, R477) -/

/-- Session record k. -/
def State.nap (s : State) (k : Nat) : NapSt := tabGet NapSt.reset s.naps k

/-- The state with a session record set. -/
def State.setNap (s : State) (k : Nat) (x : NapSt) : State := { s with naps := tabSet NapSt.reset s.naps k x }

/-- The session record of a class's accessor (R477, R478, R545). -/
def napRecord (a : Accessor) : Nat := match a.cls with | .b => 32 | .p => 33 | _ => a.num

/-- A frame of the Dravut link or of the chain with its header and CRC-32C (R545). -/
def linkFrame (ty fseq ack low : Nat) (payload : List Byte) : List Byte :=
  let l := beBytes 16 (ty % 16 * 2 ^ 124 + payload.length % 32768 * 2 ^ 109 + fseq % 2 ^ 32 * 2 ^ 64 + ack % 2 ^ 32 * 2 ^ 32
    + low % 2 ^ 32) ++ payload
  l ++ beBytes 4 (crc32c l)

/-- A direction of the chain. -/
def State.munovDir (s : State) (down : Bool) : MunovSt := tabGet MunovSt.reset s.munov (if down then 1 else 0)

/-- The state with a direction of the chain set. -/
def State.setMunov (s : State) (down : Bool) (x : MunovSt) : State :=
  { s with munov := tabSet MunovSt.reset s.munov (if down then 1 else 0) x }

/-- Destination and source addresses of a Munov header (R553). -/
def munovAddrs (dst src : Nat) : Nat := dst % 64 * 2 ^ 26 + src % 64 * 2 ^ 20

/-- A Munov frame is sent in a direction and kept until it is acknowledged (R545, R553). -/
def State.munovSend (s : State) (down : Bool) (ty addrs : Nat) (payload : List Byte) : State :=
  let x := s.munovDir down
  let s := s.setMunov down
    { x with next := (x.next + 1) % 2 ^ 32, sent := x.sent ++ [DravutSent.mk ty x.next (beBytes 4 addrs ++ payload) []] }
  s.send (.munov down (linkFrame ty x.next x.expect addrs payload))

/-- The reply of a session record is sent where its request came from (R474, R477, R478, R545, R553): ports 0 to 47, 48 the
management port, 49 the pair link, 50 and 51 the chain up and down; the I3C target keeps it for a read. -/
def State.napEmit (s : State) (k : Nat) : State :=
  let x := s.nap k
  if k = 32 then { s with i3c := { s.i3c with ready := true } }
  else if x.port < 48 then s.offerOwn x.port 0 19 x.frame
  else if x.port = 48 then s.send (.mgmt x.frame)
  else if x.port = 49 then s.dravutSend 5 x.reply []
  else s.munovSend (decide (x.port = 51)) 5 (beNat (slice 0 4 x.frame)) x.reply

/-- Replies whose writes are all acknowledged are sent (R463, R477). -/
def State.napFlush (s : State) : State :=
  (List.range 34).foldl (fun (s : State) k =>
    if (s.nap k).busy && !s.unacked.any (fun u => decide (u.who.cls ≠ .h) && decide (u.who.cls ≠ .v) && decide (napRecord u.who = k))
    then (s.setNap k { s.nap k with busy := false }).napEmit k
    else s) s

/-- The oldest write whose journal entry is written is acknowledged (R463). -/
def State.ackWrite (s : State) : State :=
  match s.unacked.find? (fun u => u.sent) with
  | some u => { s with unacked := s.unacked.erase u }.napFlush
  | none => s

/-! ### The bulk copy (R547) -/

/-- Bytes of a table in runs of at most 4,080, by their first addresses. -/
def memRuns : Tab Byte → List (Nat × List Byte)
  | [] => []
  | (a, b) :: r =>
    match memRuns r with
    | (x, l) :: q => if x = a + 1 ∧ l.length < 4080 then (a, b :: l) :: q else (a, [b]) :: (x, l) :: q
    | [] => [(a, [b])]

/-- The regions of DDR that are copied: HARQ pool and process table, and the context store's. -/
def State.copyRegions (s : State) : List (Nat × Nat) :=
  let b := s.objN .ctxBase 0
  let e := s.objN .ctxEntries 0
  [(s.objN .harqPoolBase 0, s.objN .harqPoolSlots 0 * 12672), (s.objN .harqProcBase 0, s.objN .harqProcCount 0 * 2048),
    (b, e * 32), (b + 2 ^ 30, e * 256), (b + 9 * 2 ^ 30, e * 4)].filter (fun p => decide (ddrBase ≤ p.1) && decide (p.2 ≠ 0))

/-- Objects that are copied: configuration, but for the pairing itself and an accessor's own, and the state of job rings. -/
def copiedObj (r : ObjRow) : Bool :=
  decide (r.fam ≠ 0x1101) && decide (r.obj ≠ .pairMode) && decide (r.obj ≠ .chainRole) && decide (r.obj ≠ .stairSnapSel)
    && (match r.acc with
      | .rw | .rws => true
      | .ro => decide (0x1110 ≤ r.fam) && decide (r.fam ≤ 0x1120)
      | _ => false)

/-- The head of a SYNC payload (log entry 78): its kind, an offset and an address. -/
def syncHead (kind off a : Nat) : List Byte := beBytes 1 kind ++ beBytes 7 off ++ beBytes 8 a

/-- The bytes of an object in SYNC payloads of at most 4,080 bytes. -/
def syncDom (a : Nat) (l : List Byte) : List (List Byte) :=
  (List.range (ceilDiv l.length 4080)).map (fun i => syncHead 2 (4080 * i) a ++ (l.drop (4080 * i)).take 4080)

/-- The payloads of the bulk copy (R547; log entry 78): the standby's old copy goes; then the journal, the regions of DDR, every
configuration object and the context-store engine's own state. -/
def State.syncPayloads (s : State) : List (List Byte) :=
  let row := fun (k : Nat) => objRows.find? (fun r => decide (r.obj.ctorIdx = k % 1024) && copiedObj r)
  let mem := s.mem.filter (fun p => s.copyRegions.any (fun r => decide (r.1 ≤ p.1) && decide (p.1 < r.1 + r.2)))
  [syncHead 5 0 0]
    ++ s.journal.map (fun e => syncHead 4 0 0 ++ e.header ++ slice 0 64 e.body)
    ++ s.copyRegions.map (fun r => syncHead 6 0 r.1 ++ beBytes 8 r.2)
    ++ (memRuns mem).map (fun q => syncHead 0 0 q.1 ++ q.2)
    ++ s.objs.filterMap (fun p => (row p.1).map (fun r => syncHead 1 0 (objAddr r.obj (p.1 / 1024)) ++ beBytes 8 (toField 64 p.2)))
    ++ s.doms.flatMap (fun p => match row p.1 with | some r => syncDom (objAddr r.obj (p.1 / 1024)) p.2 | none => [])
    ++ [syncHead 3 0 0 ++ s.ctxLogic (!s.ctx.clearing)]

/-- The primary starts the bulk copy, in SYNC frames, as JOINING begins (R547). -/
def State.syncStart (s : State) : State :=
  s.syncPayloads.foldl (fun (s : State) p => s.dravutSend 8 p []) s

/-! ### Steps that wait for the standby (R546) -/

/-- A step that waited completes. -/
def State.runAct (s : State) (act : PairAct) : State :=
  match act with
  | .engine h e off d st a b cyc =>
    if e = 11 then (s.countCtxStatus st).finish h 11 d ⟨st, false, false, cyc, a, b⟩
    else if (s.engRun h e).any (fun r => decide (r.off = off) && decide (r.desc = d)) then
      s.finishRun h e d ⟨st, false, false, cyc, a, b⟩
    else s
  | .accept r q => s.acceptDone r q
  | .record r q => s.gateDone r q
  | .dict => s.ackWrite
  | .crHead r v => s.crHeadDone r v
  | .synced =>
    if s.obj .pairState 0 = pairJoining ∧ s.obj .pairRole 0 = 1 ∧ s.dravutOut.all (fun f => decide (f.ty ≠ 8)) then
      s.pairEnter pairPaired
    else s

/-- Whether FSEQ `q` lies below `k`, modulo 2^32 (R545). -/
def seqBelow (q k : Nat) : Bool :=
  let d := (k + 2 ^ 32 - q) % 2 ^ 32
  decide (1 ≤ d) && decide (d < 2 ^ 31)

/-- Every frame below an ACKSEQ is acknowledged, and what waited for it completes in order (R545, R546). -/
def State.ackTo (s : State) (k : Nat) : State :=
  let done := s.dravutOut.takeWhile (fun f => seqBelow f.fseq k)
  let s := { s with dravutOut := s.dravutOut.drop done.length }
  (done.flatMap (fun f => f.acts)).foldl (fun (s : State) a => s.runAct a) s

/-- There is no standby any more: nothing waits for it (R544, SOLO). -/
def State.ackAll (s : State) : State :=
  let acts := s.dravutOut.flatMap (fun f => f.acts)
  acts.foldl (fun (s : State) a => match a with | .synced => s | _ => s.runAct a) { s with dravutOut := [] }

/-- The link goes DOWN (R544, R549): the primary goes SOLO; a standby that does not see `PAIR_FAIL_IN` goes DETACHED, and one
that does takes over by TAKEOVER. -/
def State.linkDown (s : State) (failIn : Bool) : State :=
  let s := { s with pair := { s.pair with up := false } }
  if s.obj .pairState 0 = pairJoining ∨ s.obj .pairState 0 = pairPaired then
    if s.obj .pairRole 0 = 1 then (s.pairEnter pairSolo).ackAll
    else if failIn then s
    else ({ s with dravutOut := [] }).pairEnter pairDetached
  else s

/-- After a change of the peer lanes: the link is DOWN while fewer than four are active (R545). -/
def State.peerRefresh (s : State) : State := if s.pair.up && decide (s.linkLanes < 4) then s.linkDown false else s

end Sys2Proof.Machine
end

