-- ==== Sys2Proof/Machine/Lanes.lean ====
section
/-! DEFINITION. The commands of the serial lanes (R344 to R369). -/

namespace Sys2Proof.Machine

/-! ### Quad mode and FEC (R345, R346) -/

/-- The mode is listed for the quad (R345). -/
def modeListed (q v : Nat) : Bool :=
  if q < 12 then decide (v ≤ 7) else decide (v = 0) || decide (v = 8) || decide (v = 9) || decide (v = 10)

/-- The FEC codes a mode allows (R345). -/
def fecAllowed (v f : Nat) : Bool :=
  match v with
  | 1 => decide (f ≤ 1)
  | 2 => decide (f ≤ 2)
  | 3 => decide (f ≤ 2)
  | 4 => decide (f ≤ 1)
  | 5 => decide (f = 2)
  | 6 => decide (f = 2)
  | 7 => decide (f = 0) || decide (f = 2)
  | _ => decide (f = 0)

/-- The object numbers of the transmit maps in force, to come, or staged (R259, R346). -/
def State.txMapTables (s : State) : List (List Byte) :=
  let f := s.txMaps.filter (fun p => decide (s.now < p.1))
  let cur := (s.txMaps.find? (fun p => decide (p.1 ≤ s.now))).toList
  (f ++ cur).map (fun p => p.2) ++ s.staged.filterMap (fun p => tabFind p.2.doms (objKey .dlTxmapTable 0))

/-- A transmit map in force or staged names a port of the quad (R346, case 4). -/
def State.quadMapped (s : State) (q : Nat) : Bool :=
  decide (q < 12) && s.txMapTables.any (fun t => (validEntries t).any (fun x => decide (tmPort x / 4 = q)))

/-- The reason a quad setting is refused for; 0 none (R346). -/
def State.quadRefusal (s : State) (q v f : Nat) : Nat :=
  if !modeListed q v then 1
  else if (v = 8 ∨ v = 9) ∧ Config.orderCode = 2 then 2
  else if !fecAllowed v f then 3
  else if s.quadMapped q then 4
  else 0

/-- The status of a refused quad write: RANGE for what the write names, STATE for what is in force (log entry 50). -/
def quadStatus : Nat → Status
  | 0 => .ok
  | 4 => .state
  | _ => .range

/-- The reason of a refusal is recorded (R346, R368). -/
def State.noteRefusal (s : State) (q why : Nat) : State :=
  if why = 0 then s else s.setObj .laneQuadStatus q (s.obj .laneQuadStatus q / 16 * 16 + why)

/-- Every lane of a quad enters OFF and restarts; its test objects read 0 (R346, R365). -/
def State.quadRestart (s : State) (q : Nat) : State :=
  let s := s.setPort (4 * q) { s.port (4 * q) with aligned := false }
  (quadLanes q).foldl (fun s l =>
    (((s.setObj .laneLoopback l 0).setObj .lanePrbsTx l 0).setObj .lanePrbsChk l 0).laneToOff l) s

/-- A quad's mode set. -/
def State.setQuadMode (s : State) (q v : Nat) : State := (s.setObj .laneQuadMode q v).quadRestart q

/-- LANE_QUAD_MODE_WRITE (R346): to quad 12 or 13 it sets both. While a watch entry is enabled quad 0 refuses it with
STATE (R516). -/
def execLaneQuadModeWrite (a : Accessor) (q : Fin 14) (v : Nat) (s : State) : Host.Outcome State Fault Refusal :=
  .next (
    let why := s.quadRefusal q v (s.objN .laneQuadFec q)
    let s := if s.writeStatus a .laneQuadMode q v = .ok then s.noteRefusal q why else s
    let watch := Status.unless (decide (q.val ≠ 0) || decide (s.obj .shWatchEn 0 = 0)) .state
    s.dictWrite a .laneQuadMode q v ((quadStatus why).orElse watch) (fun s =>
      if 12 ≤ q.val then ((s.setQuadMode 12 v).setQuadMode 13 v).peerRefresh else s.setQuadMode q v))

/-- LANE_QUAD_FEC_WRITE (R345, R346). -/
def execLaneQuadFecWrite (a : Accessor) (q : Fin 14) (v : Nat) (s : State) : Host.Outcome State Fault Refusal :=
  .next (
    let why := if v = 3 then 3 else s.quadRefusal q (s.objN .laneQuadMode q) v
    let s := if s.writeStatus a .laneQuadFec q v = .ok then s.noteRefusal q why else s
    s.dictWrite a .laneQuadFec q v (quadStatus why) (fun s => ((s.setObj .laneQuadFec q v).quadRestart q).peerRefresh))

/-! ### Bring-up and loss (R348, R349, R357, R361, R364) -/

/-- LANE_TX_PLL_LOCK (R361, R364): with a quad mode other than 0 the lane leaves OFF for ACQUIRE, or for TEST while a
test object is set. -/
def execLaneTxPllLock (l : Fin 56) (s : State) : Host.Outcome State Fault Refusal :=
  .next (
    if s.obj .laneState l ≠ laneOff ∨ s.laneMode l = 0 ∨ (s.unit (unitLane l)).st ≠ unitRunning then s
    else if s.laneTesting l then s.laneEnter l laneTest
    else s.laneToAcquire l)

/-- LANE_CDR_LOCK (R361). -/
def execLaneCdrLock (l : Fin 56) (s : State) : Host.Outcome State Fault Refusal :=
  .next (
    if s.obj .laneState l = laneOff then s
    else (s.setLane l { s.lane l with cdr := true }).laneProceed l)

/-- LANE_CDR_LOSS (R361): counted; outside TEST the lane returns to ACQUIRE. -/
def execLaneCdrLoss (l : Fin 56) (s : State) : Host.Outcome State Fault Refusal :=
  .next (
    if s.obj .laneState l = laneOff then s
    else
      let s := s.bump .laneCdrLosses l
      if s.obj .laneState l = laneTest then s.setLane l { s.lane l with cdr := false, blockLock := false }
      else (s.laneToAcquire l).peerRefresh)

/-- LANE_BLOCK_LOCK_LOSS (R348): counted, and the lane enters ACQUIRE. -/
def execLaneBlockLockLoss (l : Fin 56) (s : State) : Host.Outcome State Fault Refusal :=
  .next (
    if (s.lane l).blockLock = false then s
    else
      let s := s.bump .laneBlockLockLosses l
      if s.obj .laneState l = laneTest then s.setLane l { s.lane l with blockLock := false }
      else (s.laneToAcquire l).peerRefresh)

/-- BLOCK_LOCK_GAIN (R348, R372): its port can be UP. -/
def execBlockLockGain (l : Fin 56) (s : State) : Host.Outcome State Fault Refusal :=
  .next (
    if s.obj .laneState l = laneOff then s
    else (s.setLane l { s.lane l with blockLock := true }).laneChanged l)

/-- ALIGNMENT_LOCK_GAIN (R349, R372): a port of four lanes, each in DATA or FROZEN with block lock, goes UP; skew above 180 ns
prevents it. -/
def execAlignmentLockGain (p : Fin 48) (skew : List Nat) (s : State) : Host.Outcome State Fault Refusal :=
  .next (
    let ls := portLanes (s.portMode p) p
    let s := ls.zipIdx.foldl (fun (s : State) x => s.setObj .laneSkew x.1 (min 65535 (skew.getD x.2 0) : Nat)) s
    if ls.length = 4 ∧ ls.all (fun l => s.laneCarries l && (s.lane l).blockLock) = true ∧ skew.all (fun n => decide (n ≤ 180)) then
      (s.setPort p { s.port p with aligned := true }).laneChanged p
    else s)

/-- ALIGNMENT_LOCK_LOSS (R372): the port enters DOWN. -/
def execAlignmentLockLoss (p : Fin 48) (s : State) : Host.Outcome State Fault Refusal :=
  .next (
    if (s.port p).aligned then (s.setPort p { s.port p with aligned := false }).laneChanged p else s)

/-- The lanes that negotiate with lane l: its quad in the four-lane modes (R357). -/
def State.anLanes (s : State) (l : Nat) : List Nat := if 4 ≤ s.laneMode l then quadLanes (l / 4) else [l]

/-- AUTO_NEGOTIATION (R357): it completes if the partner advertises the quad's mode, else it repeats. -/
def execAutoNegotiation (l : Fin 48) (modes : Nat) (s : State) : Host.Outcome State Fault Refusal :=
  .next (
    let m := s.laneMode l
    if 1 ≤ m ∧ m ≤ 6 ∧ s.obj .laneQuadAnEn (l / 4) ≠ 0 ∧ s.obj .laneState l = laneAcquire ∧ bitAt modes m.toNat then
      (s.anLanes l).foldl (fun s k => (s.setLane k { s.lane k with an := true }).laneProceed k) s
    else s)

/-- LANE_TRAINING_TIMEOUT (R357, R358): training that has not succeeded fails. -/
def execLaneTrainingTimeout (l : Fin 56) (s : State) : Host.Outcome State Fault Refusal :=
  .next (if s.obj .laneState l = laneTraining then (s.laneFails l).peerRefresh else s)

/-- A tap moved by a request (R354, R357, R358): 1 increments, 2 decrements, and at a limit it stays. -/
def ffeStep (v req tap : Nat) : Nat :=
  let move (x lim : Nat) : Nat := if req = 1 then min lim (x + 1) else if req = 2 then x - 1 else x
  let w := match tap with
    | 0 => ffeOf (move (ffePre v) 15) (ffeMain v) (ffePost v)
    | 1 => ffeOf (ffePre v) (move (ffeMain v) 63) (ffePost v)
    | _ => ffeOf (ffePre v) (ffeMain v) (move (ffePost v) 31)
  if ffeOk w then w else v

/-- The status a transmitter reports for a request (R357): 0 not updated, 1 updated, 2 MINIMUM, 3 MAXIMUM. -/
def ffeAnswer (old new req : Nat) : Nat := if req = 0 ∨ req = 3 then 0 else if new ≠ old then 1 else if req = 1 then 3 else 2

/-- A pending trial step is undone (R359): the coefficient moves back. -/
def State.undoTrial (s : State) (l : Nat) : State :=
  let x := s.lane l
  if !x.pending then s
  else
    let s := s.setLane l (match x.trial with
      | 1 => { x with pending := false, post := (x.post - x.dir).toNat, touched := true }
      | 2 => { x with pending := false, pre := (x.pre - x.dir).toNat, touched := true }
      | _ => { x with pending := false, touched := true })
    match x.trial with
    | 0 => s.setObj .laneCtleNow l (s.obj .laneCtleNow l - x.dir)
    | t => s.send (.laneRequest l t (decide (x.dir < 0)))

/-- A lane in DATA freezes under a condition of R360, its pending trial undone first (R365), and returns when the last one ends; its
first adaptation period then takes no step. -/
def State.laneFreeze (s : State) (l : Nat) : State :=
  let x := s.lane l
  if x.lpi || x.held then
    if s.obj .laneState l = laneData then (s.undoTrial l).laneEnter l laneFrozen else s
  else if s.obj .laneState l = laneFrozen then (s.setLane l { x with skip := true }).laneEnter l laneData
  else s

/-- TRAINING_FRAME_RECEIVE (R354, R357, R360): in TRAINING the transmitter follows the coefficient update of Clause 72,
bits 13 PRESET, 12 INITIALIZE, [5:4] post-cursor, [3:2] main, [1:0] pre-cursor, and reports; a partner that holds
training freezes a lane in DATA, and lets it go again. -/
def execTrainingFrameReceive (l : Fin 48) (req : BitVec 16) (holds : Bool) (s : State) :
    Host.Outcome State Fault Refusal :=
  .next (
    let r := req.toNat
    let v := s.objN .laneTxFfeNow l
    let s := s.setLane l { s.lane l with held := holds }
    if s.obj .laneState l = laneData ∨ s.obj .laneState l = laneFrozen then s.laneFreeze l
    else if s.obj .laneState l ≠ laneTraining then s
    else if bitAt r 13 then (s.setObj .laneTxFfeNow l ffePreset).send (.trainStatus l 0x15)
    else if bitAt r 12 then (s.setObj .laneTxFfeNow l 0x112A04).send (.trainStatus l 0x15)
    else
      let v0 := ffeStep v (bits r 1 0) 0
      let v1 := ffeStep v0 (bits r 3 2) 1
      let v2 := ffeStep v1 (bits r 5 4) 2
      (s.setObj .laneTxFfeNow l v2).send (.trainStatus l
        (ffeAnswer v v0 (bits r 1 0) + 4 * ffeAnswer v0 v1 (bits r 3 2) + 16 * ffeAnswer v1 v2 (bits r 5 4))))

/-! ### Low-power idle (R360) -/

/-- LOW_POWER_IDLE_ENTRY (R360, R365): lanes of a port in modes 1 to 6 with `ETH_EEE_EN` freeze; a pending trial is
undone first. -/
def execLowPowerIdleEntry (p : Fin 48) (s : State) : Host.Outcome State Fault Refusal :=
  .next (
    let m := s.portMode p
    if 1 ≤ m ∧ m ≤ 6 ∧ s.obj .ethEeeEn p ≠ 0 then
      (portLanes m p).foldl (fun s l =>
        if s.laneCarries l then (s.setLane l { s.lane l with lpi := true }).laneFreeze l else s) s
    else s)

/-- LOW_POWER_IDLE_EXIT (R360): the lanes return to DATA; their first adaptation period takes no step. -/
def execLowPowerIdleExit (p : Fin 48) (s : State) : Host.Outcome State Fault Refusal :=
  .next (
    (portLanes (s.portMode p) p).foldl (fun s l =>
      (s.setLane l { s.lane l with lpi := false }).laneFreeze l) s)

/-! ### Dravut lane markers (R350 to R353, R358) -/

/-- CRC-8 of R350 over the upper bits of a marker, from its top bit: `n` bits left. -/
def crc8 (w : Nat) : Nat → Nat → Nat
  | 0, c => c
  | n + 1, c =>
    let b := (if bitAt w n then 1 else 0) ^^^ (c / 128)
    crc8 w n (((c * 2) % 256) ^^^ (if b = 1 then 7 else 0))

/-- A marker is valid when MARK and CHK hold (R352). -/
def markerOk (w : Nat) : Bool := decide (bits w 63 56 = 0xD5) && decide (crc8 (w / 256) 56 0 = w % 256)

/-- RATE of a lane's markers (R350). -/
def markRate (m : Int) : Nat := if m = 9 then 2 else if m = 8 then 1 else 0

/-- The marker that lane l of group 6 sends (R350, R351): its FoM, the requests `req` as [5:4] PRE, [3:2] main and [1:0] POST, and DONE. -/
def State.sentMarker (s : State) (l mseq bip req : Nat) (preset : Bool) : Nat :=
  let hi := 0xD5 * 2 ^ 48 + l % 8 * 2 ^ 45 + markRate (s.laneMode (48 + l)) * 2 ^ 43 + mseq % 65536 * 2 ^ 24 + bip % 256 * 2 ^ 16
    + s.objN .laneFom (48 + l) % 256 * 2 ^ 8 + req % 64 * 4 + (if preset then 2 else 0) + (if (s.lane (48 + l)).sentDone then 1 else 0)
  hi * 256 + crc8 hi 56 0

/-- The back channel of a valid marker (R350, R358): FOM_FAR; PRESET restarts training; each request moves a tap once;
DONE is noted, and a lane that sent and received it has finished. -/
def State.markerBack (s : State) (l w : Nat) : State :=
  let s := s.setObj .laneFarFom l (bits w 23 16)
  let st := s.obj .laneState l
  if bitAt w 9 ∧ (st = laneTraining ∨ st = laneData ∨ st = laneFrozen) then
    (s.laneTrain l).setObj .laneTxFfeNow l ffePreset
  else
    let v := s.objN .laneTxFfeNow l
    let s := s.setObj .laneTxFfeNow l
      (ffeStep (ffeStep (ffeStep v (bits w 15 14) 0) (bits w 13 12) 1) (bits w 11 10) 2)
    let s := s.setLane l { s.lane l with recvDone := (s.lane l).recvDone || bitAt w 8 }
    if st = laneTraining ∧ (s.lane l).recvDone ∧ (s.lane l).sentDone then s.laneTrained l else s

/-- LANE_MARKER_RX (R350 to R353): what a lane of group 6 finds at an expected marker position. -/
def execLaneMarkerRx (l : Fin 8) (w : BitVec 64) (bip : BitVec 8) (skew : Nat) (s : State) :
    Host.Outcome State Fault Refusal :=
  .next (
    let n := 48 + l.val
    let m := s.laneMode n
    let st := s.obj .laneState n
    if m < 8 ∨ st = laneOff ∨ st = laneTest then s
    else
      let x := s.lane n
      let v := w.toNat
      if !markerOk v then
        if x.markLock then
          let miss := x.markMiss + 1
          let s := s.bump .laneMarkErrors n
          ((s.setLane n { x with
            markMiss := miss, markLock := decide (miss < 4)
            mseq := if miss < 4 then x.mseq.map (fun q => (q + 1) % 65536) else none }).laneChanged n).peerRefresh
        else s.setLane n { x with mseq := none }
      else
        let q := bits v 47 32
        let expected := x.mseq.map (fun k => (k + 1) % 65536)
        let s := s.bumpIf (x.markLock && decide (expected ≠ some q)) .laneMarkErrors n
        let s := s.bumpIf (x.markLock && decide (bits v 31 24 ≠ bip.toNat)) .laneBipErrors n
        let s := s.setLane n { x with
          mseq := some q, markMiss := 0, markLock := x.markLock || decide (expected = some q) }
        let s := (s.setObj .laneSkew n (min 65535 skew : Nat)).laneChanged n
        (s.markerBack n v).peerRefresh)

/-! ### The eye and adaptation (R355, R356, R359) -/

/-- Transitions in a run of bits (R356). -/
def edgeCount : List Bool → Nat
  | a :: b :: r => (if a = b then 0 else 1) + edgeCount (b :: r)
  | _ => 0

/-- The bit that follows those of `h`, newest first, in a pattern of R363; none while `h` does not place it. `user`: the user pattern. -/
def patternNext (code user : Nat) (h : List Bool) : Option Bool :=
  let at_ (k : Nat) : Bool := h.getD (k - 1) false
  let shift (a b : Nat) : Option Bool := if a ≤ h.length then some (at_ a ^^ at_ b) else none
  match code with
  | 1 => shift 7 6
  | 2 => shift 9 5
  | 3 => shift 11 9
  | 4 => if 13 ≤ h.length then some (at_ 13 ^^ at_ 12 ^^ at_ 2 ^^ at_ 1) else none
  | 5 => shift 15 14
  | 6 => shift 23 18
  | 7 => shift 31 28
  | 8 => if 8 ≤ h.length then some (if (h.take 8).all (fun b => decide (b = at_ 1)) then !at_ 1 else at_ 1) else none
  | 9 =>
    if h.length < 64 then none
    else ((List.range 64).find? (fun k =>
      (List.range 64).all (fun j => decide (h.getD j false = bitAt user ((k + 64 - j) % 64))))).map (fun k => bitAt user ((k + 1) % 64))
  | _ => none

/-- The checker with its lock and the bits and errors it counted. -/
structure PrbsRun where
  chk : PrbsSt
  lock : Bool
  bits : Nat
  errs : Nat
  deriving DecidableEq, Repr

/-- One received bit at the checker (R363): it seeds itself from the received bits until 64 in a row are error-free, and again when more
than 256 of 1,024 are in error. `count`: counting is not suspended. -/
def prbsStep (code user : Nat) (r : PrbsRun) (count b : Bool) : PrbsRun :=
  let c := r.chk
  match patternNext code user c.hist with
  | none => { r with chk := ⟨(b :: c.hist).take 64, 0, []⟩, lock := false }
  | some w =>
    let bad := decide (b ≠ w)
    if r.lock then
      let last := (bad :: c.last).take 1024
      let n := r.bits + (if count then 1 else 0)
      let e := r.errs + (if count && bad then 1 else 0)
      if 256 < last.count true then ⟨PrbsSt.reset, false, n, e⟩ else ⟨⟨(w :: c.hist).take 64, 0, last⟩, true, n, e⟩
    else
      let run := if bad then 0 else c.run + 1
      { r with chk := ⟨(b :: c.hist).take 64, run, []⟩, lock := decide (64 ≤ run) }

/-- The bits of a window of 10 µs that ends now, at the checker (R363): polarity as `LANE_RX_INVERT`, inverted with bit 7 of
`LANE_PRBS_CHK`; the counts are added to those of the lane. -/
def State.prbsWindow (s : State) (l : Nat) (rx : List Bool) : State :=
  let v := s.objN .lanePrbsChk l
  if s.obj .laneState l ≠ laneTest ∨ v % 16 = 0 then s
  else
    let inv := (decide (s.obj .laneRxInvert l ≠ 0) && decide (s.obj .laneLoopback l ≠ 2)) ^^ bitAt v 7
    let n : Int := rx.length
    let t := s.now * n
    let r := rx.zipIdx.foldl (fun (r : PrbsRun) x =>
        prbsStep (v % 16) (s.objN .lanePrbsUser l) r
          (decide ((s.lane l).prbsHold * n ≤ t - 10000 * (n - 1 - (x.2 : Int)))) (x.1 ^^ inv))
      ⟨(s.lane l).chk, decide (s.obj .lanePrbsLock l ≠ 0), 0, 0⟩
    let s := (s.setLane l { s.lane l with chk := r.chk }).setObj .lanePrbsLock l (if r.lock then 1 else 0)
    (s.setObj .lanePrbsBits l ((s.obj .lanePrbsBits l + (r.bits : Int)) % 2 ^ 64)).setObj .lanePrbsErrors l
      ((s.obj .lanePrbsErrors l + (r.errs : Int)) % 2 ^ 64)

/-- The FEC corrections of a window (R369), with FEC on: symbols on the lane; codewords on the first lane of a four-lane port. -/
def State.fecWindow (s : State) (l sym good bad : Nat) : State :=
  if s.obj .laneQuadFec (l / 4) = 0 ∨ s.laneCarries l = false then s
  else
    let s := s.bumpBy .laneFecSymbols l sym
    if 4 ≤ s.laneMode l ∧ l % 4 ≠ 0 then s else (s.bumpBy .laneFecCwCorr l good).bumpBy .laneFecCwUncorr l bad

/-- LANE_EYE_WINDOW_END (R355 to R358, R363): the window's figures; a low FoM is counted, with an event once a run; in
TRAINING the adapted CTLE code, and success when two full passes raised the FoM by at most 1 and it is at least
`LANE_FOM_MIN`. -/
def execLaneEyeWindowEnd (l : Fin 56) (h a : Nat) (rx : List Bool) (slip : Bool) (ctle : Nat) (rise : Option Nat)
    (sym good bad : Nat) (s : State) : Host.Outcome State Fault Refusal :=
  .next (
    let st := s.obj .laneState l
    if st = laneOff then s
    else
      let s := (s.prbsWindow l rx).fecWindow l sym good bad
      let x := s.lane l
      let trans := edgeCount rx
      let nbits := rx.length
      let fom : Nat := if a = 0 then 0 else min 255 (255 * h / a)
      let dens : Nat := if nbits = 0 then 0 else min 255 (trans * 256 / nbits)
      let adapting := decide (st = laneTraining) || decide (st = laneAcquire)
      let code : Int := if s.obj .laneCtleFixed l ≤ 15 then s.obj .laneCtleFixed l else (ctle % 16 : Nat)
      let ok := decide (s.obj .laneConfMin l ≤ (trans : Int)) && !slip && !x.touched
        && !(adapting && decide (code ≠ s.obj .laneCtleNow l))
      let s := ((s.setObj .laneFom l fom).setObj .laneTdens l dens).setObj .laneConfOk l (if ok then 1 else 0)
      let s := if adapting then
          s.setObj .laneCtleNow l code
        else s
      let low := decide ((fom : Int) < s.obj .laneFomMin l)
      let s := (s.bumpIf low .laneLowFom l).evtIf (low && !x.lowRun) .laneLowFom (unitLane l) fom
      let s := s.setLane l { x with lowRun := low, touched := false }
      if st = laneTraining ∧ low = false ∧ rise.any (fun r => decide (r ≤ 1)) then
        if 8 ≤ s.laneMode l then
          let s := s.setLane l { s.lane l with sentDone := true }
          if (s.lane l).recvDone then s.laneTrained l else s
        else s.laneTrained l
      else s)

/-- The coefficients a lane adapts (R355, R359): CTLE unless it is fixed; on Dravut and Munov lanes also the partner's
POST and PRE. -/
def State.coefs (s : State) (l : Nat) : List Nat :=
  (if s.obj .laneCtleFixed l ≤ 15 then [] else [0]) ++ (if 8 ≤ s.laneMode l then [1, 2] else [])

/-- The coefficient the next trial takes: `trial`, or the next of the set after it. -/
def pickCoef (l : List Nat) (t : Nat) : Option Nat := (l.find? (fun c => decide (t ≤ c))).orElse (fun _ => l.head?)

/-- A coefficient's value and range. -/
def State.coefVal (s : State) (l t : Nat) : Int × Int :=
  match t with
  | 1 => ((s.lane l).post, 31)
  | 2 => ((s.lane l).pre, 15)
  | _ => (s.obj .laneCtleNow l, 15)

/-- A coefficient set; the partner's taps by a request (R359). -/
def State.setCoef (s : State) (l t : Nat) (v : Int) (up : Bool) : State :=
  let x := { s.lane l with touched := true }
  match t with
  | 1 => (s.setLane l { x with post := v.toNat }).send (.laneRequest l 1 up)
  | 2 => (s.setLane l { x with pre := v.toNat }).send (.laneRequest l 2 up)
  | _ => (s.setLane l x).setObj .laneCtleNow l v

/-- The requests that move a tap of the partner by d steps (R350, R359). -/
def State.askTap (s : State) (l t : Nat) (d : Int) : State :=
  (List.range d.natAbs).foldl (fun (s : State) _ => s.send (.laneRequest l t (decide (0 < d)))) s

/-- The snapshot becomes the present set (R359). -/
def State.revert (s : State) (l : Nat) : State :=
  let x := s.lane l
  let s := s.setLane l { x with
    post := x.snapPost, pre := x.snapPre, pending := false, reverted := true, touched := true
    holdUntil := s.now + s.obj .laneAdaptHold l * 1000 }
  let s := (s.askTap l 1 ((x.snapPost : Int) - x.post)).askTap l 2 ((x.snapPre : Int) - x.pre)
  ((s.setObj .laneCtleNow l (s.obj .laneSnapCtle l)).bump .laneDriftReverts l).evt .laneDrift (unitLane l) 0

/-- The next trial of R359. -/
def State.nextTrial (s : State) (l : Nat) (f : Int) : State :=
  match pickCoef (s.coefs l) (s.lane l).trial with
  | none => s
  | some t =>
    let x := s.lane l
    let v := s.coefVal l t
    if 0 ≤ v.1 + x.dir ∧ v.1 + x.dir ≤ v.2 then
      (s.setLane l { x with trial := t, before := f, pending := true }).setCoef l t (v.1 + x.dir) (decide (0 < x.dir))
    else s.setLane l { x with dir := -x.dir }

/-- A pending trial is judged (R359). -/
def State.judgeTrial (s : State) (l : Nat) (f : Int) : State :=
  let x := s.lane l
  let keep := decide (x.before + 1 < f)
  let s := if keep then (s.setLane l { x with pending := false }).bump .laneAdaptSteps l
    else
      let s := s.undoTrial l
      s.setLane l { s.lane l with dir := -x.dir }
  let s := s.setLane l { s.lane l with trial := (x.trial + 1) % 3 }
  let cand := if keep then f else x.before
  let snap := s.obj .laneSnapFom l
  if snap ≤ cand ∨ (s.obj .laneSnapAge l * 1000000 ≤ s.now - x.snapTime ∧ 2 * snap - s.obj .laneDriftLimit l ≤ 2 * cand) then
    s.takeSnapshot l cand
  else s

/-- LANE_ADAPT_PERIOD_END (R359, R360). -/
def execLaneAdaptPeriodEnd (l : Fin 56) (s : State) : Host.Outcome State Fault Refusal :=
  .next (
    let x := s.lane l
    if s.obj .laneAdaptEn l = 0 ∨ s.obj .laneState l ≠ laneData then s
    else if x.skip then s.setLane l { x with skip := false }
    else
      let f := s.obj .laneFom l
      let snap := s.obj .laneSnapFom l
      let lim := s.obj .laneDriftLimit l
      if ¬(s.obj .laneConfOk l ≠ 0 ∧ s.obj .laneTdensMin l ≤ s.obj .laneTdens l) then s.undoTrial l
      else if s.now < x.holdUntil then s
      else if x.reverted then
        let s := s.setLane l { x with reverted := false }
        if f < snap - lim then (s.takeSnapshot l f).bump .laneSnapResets l else s
      else if f < snap - lim then s.revert l
      else if x.pending then s.judgeTrial l f
      else s.nextTrial l f)

/-! ### Test objects and taps (R354, R362, R363) -/

/-- LANE_TX_FFE_WRITE (R354, R365): limits, and refused during TRAINING; the taps are in use in mode 7 and before
training. -/
def execLaneTxFfeWrite (a : Accessor) (l : Fin 56) (v : Nat) (s : State) : Host.Outcome State Fault Refusal :=
  .next (
    let chk := (Status.unless (ffeOk v) .range).orElse (.unless (decide (s.obj .laneState l ≠ laneTraining)) .state)
    s.dictWrite a .laneTxFfe l v chk (fun s =>
      let w := ffeOf (ffePre v) (ffeMain v) (ffePost v)
      let s := s.setObj .laneTxFfe l w
      if s.laneMode l = 7 ∨ s.obj .laneState l = laneOff ∨ s.obj .laneState l = laneAcquire then
        s.setObj .laneTxFfeNow l w
      else s))

/-- A test object changed (R361, R363, R365): the checker unlocks and counts nothing for 10 µs; the lane enters TEST, or
with all three at 0 leaves it for ACQUIRE. -/
def State.testChanged (s : State) (l : Nat) : State :=
  let s := (s.setLane l { s.lane l with prbsHold := s.now + 10000, chk := PrbsSt.reset }).setObj .lanePrbsLock l 0
  let st := s.obj .laneState l
  if st = laneOff then s
  else if s.laneTesting l then
    if st = laneTest then s
    else (s.setLane l { LaneSt.reset with fails := (s.lane l).fails, prbsHold := (s.lane l).prbsHold }).laneEnter l laneTest
  else if st = laneTest then s.laneToAcquire l
  else s

/-- LANE_LOOPBACK_WRITE (R362): codes 0 to 3. -/
def execLaneLoopbackWrite (a : Accessor) (l : Fin 56) (v : Nat) (s : State) : Host.Outcome State Fault Refusal :=
  .next (s.dictWrite a .laneLoopback l v (.unless (decide (v ≤ 3)) .range) (fun s =>
    if s.obj .laneLoopback l = v then s else ((s.setObj .laneLoopback l v).testChanged l).peerRefresh))

/-- A pattern code of R363: bits [3:0] 0 to 9, bit 7 inverts. -/
def patternOk (v : Nat) : Bool := decide (v % 128 ≤ 9) && decide (v < 256)

/-- LANE_PRBS_TX_WRITE (R363). -/
def execLanePrbsTxWrite (a : Accessor) (l : Fin 56) (v : Nat) (s : State) : Host.Outcome State Fault Refusal :=
  .next (s.dictWrite a .lanePrbsTx l v (.unless (patternOk v) .range) (fun s =>
    if s.obj .lanePrbsTx l = v then s else ((s.setObj .lanePrbsTx l v).testChanged l).peerRefresh))

/-- LANE_PRBS_CHK_WRITE (R363). -/
def execLanePrbsChkWrite (a : Accessor) (l : Fin 56) (v : Nat) (s : State) : Host.Outcome State Fault Refusal :=
  .next (s.dictWrite a .lanePrbsChk l v (.unless (patternOk v) .range) (fun s =>
    if s.obj .lanePrbsChk l = v then s else ((s.setObj .lanePrbsChk l v).testChanged l).peerRefresh))

/-- LANE_PRBS_CLEAR (R363, R366): both counts are zeroed. -/
def execLanePrbsClear (a : Accessor) (l : Fin 56) (v : Nat) (s : State) : Host.Outcome State Fault Refusal :=
  .next (s.dictWrite a .lanePrbsClear l v .ok (fun s => (s.setObj .lanePrbsBits l 0).setObj .lanePrbsErrors l 0))

end Sys2Proof.Machine
end

