-- ==== Sys2Proof/Machine/Memory.lean ====
section
/-! DEFINITION. The commands of memory and error correction (R315 to R343, R590). -/

namespace Sys2Proof.Machine

/-! ### Training -/

/-- DDR channel states (R321). -/
abbrev ddrOff : Int := 0
abbrev ddrTraining : Int := 1
abbrev ddrReady : Int := 2
abbrev ddrSelfRefresh : Int := 3
abbrev ddrFailed : Int := 4

/-- R319: whether a channel's population is one a board may fit. -/
def trainLegal (t : DdrTrain) : Bool :=
  (decide (t.dimms = 1) || decide (t.dimms = 2))
    && (decide (t.width = 4) || decide (t.width = 8))
    && decide (16384 * t.dimms ≤ t.capacity) && decide (t.capacity ≤ 131072 * t.dimms)
    && decide (t.dimms ≤ t.ranks) && decide (t.ranks ≤ 2 * t.dimms)

/-- R319: the failure reason of a channel beside the first one: its own (R320), then the population compared with
channel 0 (1), then the module type (3), then the speed rating (2). -/
def trainVerdict (t t0 : DdrTrain) : Nat :=
  if t.dimms = 0 then 1
  else if t.dimms ≠ t0.dimms ∨ t.capacity ≠ t0.capacity ∨ t.ranks ≠ t0.ranks ∨ t.width ≠ t0.width then 1
  else if trainLegal t = false then 3
  else if t.speed < (if t.dimms = 1 then 6400 else 5200) then 2
  else t.reason

/-- The first failing channel and its reason. -/
def firstDdrFail (t0 : DdrTrain) : Nat → List DdrTrain → Option (Nat × Nat)
  | _, [] => none
  | c, t :: r => if trainVerdict t t0 = 0 then firstDdrFail t0 (c + 1) r else some (c, trainVerdict t t0)

/-- The sPPR resource key of a device and bank group of a channel (R335). -/
def spprKey (c device bg : Nat) : Nat := (c * 256 + device) * 256 + bg

/-- The state with a channel's resources set. -/
def State.setResources (s : State) (c : Nat) : List (Nat × Nat × Nat) → State
  | [] => s
  | (d, bg, n) :: r =>
    let s := { s with sppr := tabSet 0 s.sppr (spprKey c d bg) n }
    s.setResources c r

/-- The sum of a channel's resources, saturating at 65,535 (R340). -/
def resourceSum (l : List (Nat × Nat × Nat)) : Nat := min 65535 ((l.map (fun x => x.2.2)).foldl (· + ·) 0)

/-- One channel takes what training found (R320, R340, R341). -/
def State.trainChannel (s : State) (c : Nat) (t : DdrTrain) (st : Int) : State :=
  let s := s.setObj .ddrState c st
  let s := s.setObj .ddrDimms c t.dimms
  let s := s.setObj .ddrCapacity c t.capacity
  let s := s.setObj .ddrSpeed c (if st = ddrReady then (if t.dimms = 1 then 6400 else 5200) else 0)
  let s := s.setObj .ddrSweepFront c 0
  let s := s.setObj .eccSparesLeft (16 + c) (resourceSum t.resources)
  let s := (s.setDdrCh c ⟨decide (st = ddrReady), t.bankGroups, t.banks, t.ranks, t.width, []⟩).setLap (16 + c) ⟨0, some s.elapsed⟩
  s.setResources c t.resources

/-- R336: with `DDR_HPPR_EN` at 1 the DRAM rows of a channel in the repair list are repaired by hard repair at training, and dropped from
the list. -/
def State.hardRepair (s : State) (c : Nat) : State :=
  if s.obj .ddrHpprEn c = 0 then s
  else
    let s := { s with repairs := s.repairs.filter (fun k => decide (k / 2 ^ 48 / 16 / 4 ≠ 16 + c)) }
    s.setObj .memRepairListUsed 0 s.repairs.length

/-- All channels take what training found, from channel `c` on. -/
def State.trainAll (s : State) (st : Int) : Nat → List DdrTrain → State
  | _, [] => s
  | c, t :: r => ((s.trainChannel c t st).hardRepair c).trainAll st (c + 1) r

/-- The regions at the top of installed DDR: the Lodge's 64 MiB (R466), the L1 copy's 32 MiB below it (R512), the
journal's 256 MiB below that (R536). -/
def State.placeRegions (s : State) : State :=
  let top := s.obj .memDdrBase 0 + s.obj .memDdrSize 0
  let s := s.setObj .dictReservedBase 0 (top - 0x4000000)
  let s := s.setObj .shL1Base 0 (top - 0x6000000)
  s.setObj .relJournalBase 0 (top - 0x16000000)

/-- DDR_TRAINING_END (R320, R321): every channel enters READY and `MEM_DDR_SIZE` becomes the installed capacity,
or every channel enters FAILED, the first failing channel and its reason are recorded and an event is raised. A
report that does not cover eight channels, or comes after training was judged, changes nothing. -/
def execDdrTrainingEnd (found : List DdrTrain) (s : State) : Host.Outcome State Fault Refusal :=
  .next <|
    if found.length ≠ 8 ∨ s.obj .ddrState 0 = ddrReady ∨ s.obj .ddrState 0 = ddrSelfRefresh
        ∨ s.obj .ddrState 0 = ddrFailed then s
    else
      match found with
      | [] => s
      | t0 :: _ =>
        match firstDdrFail t0 0 found with
        | some (c, why) =>
          let s := s.trainAll ddrFailed 0 found
          ((s.setObj .memDdrSize 0 0).setObj .memTrainStatus 0 ((c * 256 + why : Nat) : Int)).evt .ddrTrainFail c why
        | none =>
          let s := s.trainAll ddrReady 0 found
          let s := s.setObj .memDdrSize 0 ((8 * t0.capacity * 1048576 : Nat) : Int)
          (s.setObj .memTrainStatus 0 0).placeRegions

/-! ### Sweeps -/

/-- The global range of a controller's SRAM: a Terrace slice, the packet buffer, or none. -/
def ctrlRange (m : Nat) : Nat × Nat :=
  if m < 16 then (terraceBase m, terraceSize) else if m = 24 then (0x000200000000, 0x800000) else (0, 0)

/-- Whether a word key belongs to controller m. -/
def keyOfCtrl (m k : Nat) : Bool := decide (k / 2 ^ 48 / 16 / 4 = m)

/-- R339: log entries of a swept memory other than LASTING with NOREPAIR are freed, from entry `i` on. -/
def State.sweepLog (s : State) (m : Nat) : Nat → State
  | 0 => s
  | n + 1 =>
    let e := s.logEntry m n
    let s := if e.st ≠ 0 ∧ ¬(e.st = 4 ∧ e.noRepair) then s.setLogEntry m n LogEntry.reset else s
    s.sweepLog m n

/-- Spare rows of the memory of controller m: two a sub-bank (R317); the packet buffer's 8 MiB in sub-banks of
256 KiB (log entry 16). -/
def spareRows (m : Nat) : Nat := if m < 16 then 96 else if m = 24 then 64 else 0

/-- Spare rows of controller m used so far. -/
def State.sparesUsedBy (s : State) (m : Nat) : Nat :=
  ((s.sparesUsed.filter (fun p => if m = 24 then decide (768 ≤ p.1) else decide (p.1 / 48 = m && p.1 < 768))).map
    (fun p => p.2)).foldl (· + ·) 0

/-- The start-up sweep of controller m's SRAM (R326): global bytes, core memories and flipped bits of that memory
become zero, and the log is freed (R339). -/
def State.sweepSram (s : State) (m : Nat) : State :=
  let r := ctrlRange m
  let s := { s with
    mem := s.mem.filter (fun p => !(decide (r.1 ≤ p.1) && decide (p.1 < r.1 + r.2)))
    coreMem := if m < 16 then s.coreMem.filter (fun p => decide (p.1 / 16777216 / 12 ≠ m)) else s.coreMem
    upsets := s.upsets.filter (fun p => !(keyOfCtrl m p.1))
    hotQueue := s.hotQueue.filter (fun k => decide (k / 64 ≠ m)) }
  let s := s.sweepLog m 64
  s.setObj .eccSparesLeft m ((spareRows m - s.sparesUsedBy m : Nat) : Int)

/-- MEMORY_SWEEP (R326): a unit's start-up sweep. Only halls, the packet buffer and Summerhouse are swept. -/
def execMemorySweep (m : Nat) (s : State) : Host.Outcome State Fault Refusal :=
  .next (if m < 16 ∨ m = 24 ∨ m = 25 then s.sweepSram m else s)

/-- ZERO_SWEEP_LINE (R327): in an idle cycle of a READY channel the front advances by one line, past filled blocks
(R328), and stops at the end of the channel. A line the sweep writes reads zero before and after. -/
def execZeroSweepLine (c : Fin 8) (s : State) : Host.Outcome State Fault Refusal :=
  .next <|
    let f := s.objN .ddrSweepFront c
    let cap := s.objN .ddrCapacity c * 1048576
    if s.obj .ddrState c ≠ ddrReady ∨ cap ≤ f then s
    else if (s.ddrCh c).filled.contains (f / 1048576) then
      s.setObj .ddrSweepFront c ((min cap ((f / 1048576 + 1) * 1048576) : Nat) : Int)
    else
      let s := { s with mem := memWrite s.mem (ddrGlobal c f) (List.replicate 64 0) }
      s.setObj .ddrSweepFront c ((f + 64 : Nat) : Int)

/-- DDR_BLOCK_FILL (R328): a write to a line at or above the front in an unfilled block waits for the fill, which
sets the block's bit, and is then performed. Any other address is no such write and changes nothing. -/
def execDdrBlockFill (a : Nat) (data : List Byte) (s : State) : Host.Outcome State Fault Refusal :=
  .next (if s.inDdr a data.length ∧ s.unfilled (ddrChannel a) (ddrLocal a) then s.store a data else s)

/-! ### Reads -/

/-- The 64 bits a word holds: global bytes, or 0 for a memory whose bytes belong to another family's state. -/
def State.wordData (s : State) : MemLoc → Nat
  | .global a => s.memNat (a / 8 * 8) 8
  | .core c a => leNat ((List.range 8).map (fun i => tabGet 0 s.coreMem (c * 16777216 + (a / 8 * 8 + i))))
  | .buffer _ _ => 0
  | .summerhouse _ => 0

/-- A place serves reads (R315, R321): Terrace and the packet buffer, DDR of a READY channel, and memories outside the global map. -/
def State.servesRead (s : State) (l : MemLoc) : Bool :=
  match l with
  | .global a => (terraceHall a).isSome || inPacketBuffer a || (s.inDdr a 1 && decide (s.obj .ddrState (ddrChannel a) = ddrReady))
  | _ => true

/-- R533, code 0x03: an uncorrectable word of a hall's TCB region (the lowest 128 KiB of its slice) or engine
buffer is a fault of the hall. -/
def hallFaultOf (l : MemLoc) : Option Nat :=
  match l with
  | .global a =>
    match terraceHall a with
    | some h => if a - terraceBase h < 131072 then some h else none
    | none => none
  | .buffer h _ => if h < 16 then some h else none
  | _ => none

/-- DEMAND_READ (R325, R327): the bits the environment flipped are in the word as it is read; a correction is
delivered corrected and logged; an uncorrectable word delivers poison and is logged; the stored copy stays. A channel that is not READY
serves no request (R321). -/
def execDemandRead (l : MemLoc) (up : Nat) (s : State) : Host.Outcome State Fault Refusal :=
  .next <|
    if s.servesRead l = false then s
    else if s.unwrittenRead l then (s.bump .ddrUnwrittenReads (ctrlOf l)).send (.memData l 0 false)
    else
      let s := s.setUpset l (s.upset l ^^^ (up % 2 ^ 80))
      let w := s.upset l
      let s := s.demandWord l 0
      let bad := decide (eccDecode w = .uncorrectable)
      let s := if bad then (match hallFaultOf l with | some h => s.unitFault (unitHall h) 3 | none => s) else s
      s.send (.memData l (if bad then s.wordData l else s.wordData l ^^^ residual w) bad)

/-! ### Scrubbing -/

/-- The place at a byte offset of controller m's memory. The hall's SRAM is numbered Terrace first, then the core
memories core by core (program, X, Y), then the accelerator buffers, then the spare rows (log entry 17). -/
def scrubPlace (m off : Nat) : MemLoc :=
  if m < 16 then
    if off < 0xC00000 then .global (terraceBase m + off)
    else if off < 0xC00000 + 12 * 0x58000 then
      let o := off - 0xC00000
      let r := o % 0x58000
      .core (12 * m + o / 0x58000)
        (if r < 0x18000 then r else if r < 0x38000 then 0x100000 + (r - 0x18000) else 0x200000 + (r - 0x38000))
    else .buffer m (off - (0xC00000 + 12 * 0x58000))
  else if m < 24 then .global (ddrGlobal (m - 16) off)
  else if m = 24 then (if off < 0x800000 then .global (0x000200000000 + off) else .buffer m off)
  else .summerhouse off

/-- The end of controller m's memory: 12 MiB, the core memories, 2 MiB of buffers and 96 KiB of spare rows; the
sweep front of a DDR channel; 8 MiB and its spare rows; Summerhouse's SRAM (log entry 17). -/
def State.scrubEnd (s : State) (m : Nat) : Nat :=
  if m < 16 then 0xC00000 + 12 * 0x58000 + 0x200000 + 0x18000
  else if m < 24 then s.objN .ddrSweepFront (m - 16)
  else if m = 24 then 0x800000 + 0x10000
  else 0x40000

/-- A scrub access of one word (R333): a correction is logged with source 1 and counted, the word is rewritten
corrected and its log entry moves; an uncorrectable word is left as found and logged. -/
def State.scrubWord (s : State) (l : MemLoc) : State :=
  let w := s.upset l
  match eccDecode w with
  | .clean => s
  | .corrected bs =>
    let s := (s.bump .eccScrubCorrected (ctrlOf l)).logCorrection l 1 bs
    let s := match l with
      | .global a => if residual w = 0 then s else s.writeMem (a / 8 * 8) (leBytes 8 (s.wordData l ^^^ residual w))
      | _ => s
    (s.setUpset l 0).logWrite l
  | .uncorrectable => s.logUncorrectable l 1

/-- The line's eight words, the last first, with what the environment flipped in them (word byte offset, pattern). -/
def State.scrubWords (s : State) (m off : Nat) (up : Upsets) : Nat → State
  | 0 => s
  | n + 1 =>
    let s := s.scrubWords m off up n
    let l := scrubPlace m (off + 8 * n)
    let f := ((up.filter (fun p => decide (p.1 / 8 = n))).map (fun p => p.2 % 2 ^ 80)).foldl (· ^^^ ·) 0
    (s.setUpset l (s.upset l ^^^ f)).scrubWord l

/-- The end of a lap (R337). -/
def State.scrubWrap (s : State) (m : Nat) : State :=
  let s := s.setObj .scrubLapTime m (s.lapAge m)
  let s := (s.setLap m ⟨0, some s.elapsed⟩).setObj .scrubLapAge m 0
  let s := s.setObj .scrubPos m 0
  { s.bump .scrubLaps m with scrubLated := tabSet 0 s.scrubLated m 0 }

/-- SCRUB_LINE (R333, R337): while its lap counts, the scrubber reads the next line, writes back what it corrected, and goes on; at the
end of its memory the lap is published and starts again. -/
def execScrubLine (m : Fin 26) (up : Upsets) (s : State) : Host.Outcome State Fault Refusal :=
  .next <|
    if s.lapCounts m = false then s
    else
      let pos := s.objN .scrubPos m
      if s.scrubEnd m ≤ pos then s.scrubWrap m
      else
        let s := s.scrubWords m pos up 8
        let s := s.setObj .scrubPos m ((pos + 64 : Nat) : Int)
        if s.scrubEnd m ≤ pos + 64 then s.scrubWrap m else s

/-- The place of word k of the line of entry e of controller m: the eight words that share the entry's line address. -/
def entryPlace (m : Nat) (e : LogEntry) (k : Nat) : MemLoc :=
  let a := e.addr / 64 * 64 + 8 * k
  if e.space = 0 then .global a
  else if e.space = 1 then .core (12 * m + e.unit) a
  else if e.space = 2 then .buffer m a
  else .summerhouse a

/-- The eight words of a log entry's line are scrubbed. -/
def State.rewriteLine (s : State) (m : Nat) (e : LogEntry) (up : Upsets) : Nat → State
  | 0 => s
  | n + 1 =>
    let s := s.rewriteLine m e up n
    let l := entryPlace m e n
    let f := ((up.filter (fun p => decide (p.1 / 8 = n))).map (fun p => p.2 % 2 ^ 80)).foldl (· ^^^ ·) 0
    (s.setUpset l (s.upset l ^^^ f)).scrubWord l

/-- SCRUB_HOT_REWRITE (R333): the oldest queued entry of the controller is served ahead of the lap: its line is
read and written back, and a HOT entry becomes REWRITTEN (R331). -/
def execScrubHotRewrite (m : Fin 26) (up : Upsets) (s : State) : Host.Outcome State Fault Refusal :=
  .next <|
    match s.hotQueue.find? (fun k => decide (k / 64 = m.val)) with
    | none => s
    | some k =>
      let e := s.logEntry m (k % 64)
      let s := { s with hotQueue := s.hotQueue.erase k }
      (s.rewriteLine m e up 8).logWrite (entryPlace m e (e.addr / 8 % 8))

/-- SCRUB_LATE (R337): the present lap's age reaches `SCRUB_LAP_LIMIT`: counted, with an event, once per lap. -/
def execScrubLate (m : Fin 26) (s : State) : Host.Outcome State Fault Refusal :=
  .next <|
    if s.lapCounts m = false ∨ tabGet 0 s.scrubLated m = 1 ∨ s.lapAge m < s.obj .scrubLapLimit m then s
    else
      let s := (s.bump .scrubLate m).evt .scrubLate m 0
      { s with scrubLated := tabSet 0 s.scrubLated m 1 }

/-! ### Repair -/

/-- The sub-bank of a global address (R317): 48 h + 4 bank + sub for a Terrace slice, 768 + n for the packet
buffer. -/
def subBankOf (a : Nat) : Nat :=
  match terraceHall a with
  | some h => 48 * h + (a - terraceBase h) / 0x40000
  | none => 768 + (a - 0x000200000000) / 0x40000

/-- Words of a row, corrected as they are copied; an uncorrectable word is copied as it is (R334). -/
def State.copyRow (s : State) (a : Nat) : Nat → State
  | 0 => s
  | n + 1 =>
    let l := MemLoc.global (a + 8 * n)
    let s := match eccDecode (s.upset l) with
      | .corrected _ =>
        let w := s.upset l
        (if residual w = 0 then s else s.writeMem (a + 8 * n) (leBytes 8 (s.wordData l ^^^ residual w))).setUpset l 0
      | _ => s
    s.copyRow a n

/-- A repair done (R331, R336): the entry is REPAIRED, counted, and the repair list takes the row. -/
def State.repairDone (s : State) (m i : Nat) (l : MemLoc) : State :=
  let s := (s.setLogEntry m i { s.logEntry m i with st := 6 }).bump .eccRepairs m
  let s := { s with repairs := s.repairs ++ [wordKey l] }
  s.setObj .memRepairListUsed 0 s.repairs.length

/-- The arbiter of the Terrace bank of a global address (R304, R317). -/
def bankArb (a : Nat) : Option Nat := (terraceHall a).map (fun h => 12 * h + (a - terraceBase h) / 0x100000)

/-- Every input of an arbiter frozen for a row repair, or open again as its own freeze bits say (R334). -/
def State.repairFreeze (s : State) (on : Bool) (k : Nat) : State := (s.setArb k { s.arb k with repair := on }).arbRefresh k

/-- A bank is DRAINED for the repair of a row (R334, step 1); the packet buffer has no arbiter of its own. -/
def State.bankDrained (s : State) (a : Nat) : Bool :=
  match bankArb a with
  | some k => decide (arbN k ≤ s.arbHold k)
  | none => true

/-- The inputs of a bank frozen or open again, if it has an arbiter. -/
def State.bankFreeze (s : State) (on : Bool) (a : Nat) : State :=
  match bankArb a with
  | some k => s.repairFreeze on k
  | none => s

/-- TERRACE_ROW_REPAIR (R334, R336): a row with a lasting fault moves to a spare row of its sub-bank; without a
spare, or with the repair list full, the fault stays unrepaired. A bank with a burst in progress is frozen and drains first: the repair
is done by the command that comes after the burst's end. -/
def execTerraceRowRepair (m : Fin 26) (i : Fin 64) (s : State) : Host.Outcome State Fault Refusal :=
  .next <|
    let e := s.logEntry m i
    if ¬(m.val < 16 ∨ m.val = 24) ∨ e.st ≠ 4 ∨ e.noRepair ∨ e.space ≠ 0 then s
    else
      let b := subBankOf e.addr
      let used := tabGet 0 s.sparesUsed b
      if 2 ≤ used ∨ 4096 ≤ s.repairs.length then s.markUnrepaired m i
      else if s.bankDrained e.addr = false then s.bankFreeze true e.addr
      else
        let s := s.bankFreeze false e.addr
        let s := s.copyRow (e.addr / 1024 * 1024) 128
        let s := { s with sparesUsed := tabSet 0 s.sparesUsed b (used + 1) }
        let s := s.setObj .eccSparesLeft m (s.obj .eccSparesLeft m - 1)
        s.repairDone m i (.global e.addr)

/-- The DRAM device that holds stored bit j of a word (R318): data bit j on lane j mod 32, check bit i on lane
32 + i mod 8, `width` lanes a device. -/
def deviceOf (width j : Nat) : Nat := (if j < 64 then j % 32 else 32 + (j - 64) % 8) / width

/-- The devices of a subchannel that a lasting fault's corrected bits name. -/
def devicesOf (width : Nat) (e : LogEntry) : List Nat :=
  let l := (if e.bitA = 127 then [] else [deviceOf width e.bitA]) ++ (if e.bitB = 127 then [] else [deviceOf width e.bitB])
  l.eraseDups

/-- R590: the bank group of a channel-local line number. -/
def bankGroupOf (d : DdrSt) (line : Nat) : Nat := if d.bankGroups = 0 then 0 else line % d.bankGroups

/-- R590: lines per row. -/
def linesPerRow (width : Nat) : Nat := if width = 4 then 128 else 64

/-- R590: the number that names bank group, bank, rank and row of a local line (its DRAM row). -/
def rowNumber (d : DdrSt) (line : Nat) : Nat :=
  let bgb := max 1 (d.bankGroups * d.banks)
  (line / (bgb * linesPerRow d.width)) * bgb + line % bgb

/-- R590: the rank of a channel-local line number. -/
def rankOf (d : DdrSt) (line : Nat) : Nat := line / (max 1 (d.bankGroups * d.banks) * linesPerRow d.width) % max 1 d.ranks

/-- The number under which the sPPR resources of a device are kept (R335): by rank, subchannel and device of the subchannel (log entry
107). -/
def spprDevice (d : DdrSt) (loc dev : Nat) : Nat := (rankOf d (loc / 128) * 2 + loc / 64 % 2) * 16 + dev

/-- One free resource is used in each device named. -/
def State.useResources (s : State) (c bg : Nat) : List Nat → State
  | [] => s
  | d :: r =>
    let k := spprKey c d bg
    let s := { s with sppr := tabSet 0 s.sppr k (tabGet 0 s.sppr k - 1) }
    s.useResources c bg r

/-- The lasting faults of the row in the devices named lose their flipped bits there: every word of controller
16 + c whose line lies in the row keeps only flipped bits of other devices (R335). -/
def State.repairRowBits (s : State) (c width : Nat) (d : DdrSt) (row sub : Nat) (devs : List Nat) : State :=
  { s with upsets := s.upsets.filterMap (fun p =>
      let a := p.1 % 2 ^ 48
      if keyOfCtrl (16 + c) p.1 && decide (ddrLocal a / 64 % 2 = sub) && decide (rowNumber d (ddrLocal a / 128) = row) then
        let w := ((List.range 80).filter (fun j => bitAt p.2 j && devs.contains (deviceOf width j))).foldl
          (fun x j => x ^^^ 2 ^ j) p.2
        if w = 0 then none else some (p.1, w)
      else some p) }

/-- DDR_PPR_REPAIR (R335, R336): the row of a lasting fault is repaired in each device it names, one free sPPR
resource of the row's bank group in each; without one, or with the repair list full, it stays unrepaired. With
`DDR_PPR_MODE` at 1 the repair waits while the channel is READY, and the word is rewritten as for HOT. -/
def execDdrPprRepair (c : Fin 8) (i : Fin 64) (s : State) : Host.Outcome State Fault Refusal :=
  .next <|
    let m := 16 + c.val
    let e := s.logEntry m i
    if e.st ≠ 4 ∨ e.noRepair then s
    else if s.obj .ddrPprMode c = 1 ∧ s.obj .ddrState c = ddrReady then s.queueHot m i
    else
      let d := s.ddrCh c
      let loc := ddrLocal e.addr
      let bg := bankGroupOf d (loc / 128)
      let devs := devicesOf (max 1 d.width) e
      let names := devs.map (spprDevice d loc)
      if names.any (fun x => decide (tabGet 0 s.sppr (spprKey c x bg) = 0)) ∨ 4096 ≤ s.repairs.length then
        s.markUnrepaired m i
      else
        let s := s.useResources c bg names
        let s := s.repairRowBits c (max 1 d.width) d (rowNumber d (loc / 128)) (loc / 64 % 2) devs
        let s := s.setObj .eccSparesLeft m (s.obj .eccSparesLeft m - devs.length)
        s.repairDone m i (.global e.addr)

/-- Every LASTING, UNCORR and REPAIRED entry of controller m is freed. -/
def State.clearLog (s : State) (m : Nat) : Nat → State
  | 0 => s
  | n + 1 =>
    let e := s.logEntry m n
    let s := if e.st = 4 ∨ e.st = 5 ∨ e.st = 6 then
        { s.setLogEntry m n LogEntry.reset with hotQueue := s.hotQueue.filter (fun k => decide (k ≠ 64 * m + n)) }
      else s
    s.clearLog m n

/-- ECC_LOG_CLEAR (R331): any write frees every LASTING, UNCORR and REPAIRED entry. -/
def execEccLogClear (a : Accessor) (m : Fin 26) (v : Nat) (s : State) : Host.Outcome State Fault Refusal :=
  .next (s.dictWrite a .eccLogClear m v .ok (fun s => s.clearLog m 64))

end Sys2Proof.Machine
end

