-- ==== Sys2Proof/Machine/Units.lean ====
section
/-! DEFINITION. Restart, rejoin and retirement of units (R529 to R535, R541): UNIT_FAULT, ENGINE_TIMEOUT, UNIT_DRAIN_END,
UNIT_REJOIN, RETIRED_CARRIER_REPLACE and REL_UNRETIRE, and the reset of one unit that the power controller shares. -/

namespace Sys2Proof.Machine

/-! ### The reset of one unit (R532, step 4) -/

/-- Held messages of a unit's sources are freed at every target (R532, step 3). -/
def State.freeHeld (s : State) (u : Nat) : State :=
  { s with sched := s.sched.map (fun p => (p.1, { p.2 with
      held := p.2.held.filter (fun m => decide (unitOfEndpoint (m.src / 64) (m.src % 64) 8 ≠ u)) })) }

/-- Room that a unit's endpoints had reserved for responses is free when it rejoins (R301, R532). -/
def State.freeRooms (s : State) (u : Nat) : State :=
  { s with gal := { s.gal with
      rooms := s.gal.rooms.filter (fun r => decide (unitOfEndpoint (r.1 / 64) (r.1 % 64) 8 ≠ u)) } }

/-- Bytes and flipped bits of a core's memories are zero (R326). -/
def State.sweepCore (s : State) (c : Nat) : State :=
  { s with
    coreMem := s.coreMem.filter (fun p => decide (p.1 / 16777216 ≠ c))
    upsets := s.upsets.filter (fun p => decide (p.1 / 2 ^ 48 ≠ wordKey (.core c 0) / 2 ^ 48)) }

/-- A core is reset: registers, memories, PC; its thread is FAULTED (R130, R93). A halt request stays held (R94); CYC counts on unless
the core leaves OFF (R56); a retired core keeps its CORE_STATE (DESIGN CHOICE, log entry 94). -/
def State.resetCore (s : State) (c : Nat) (st : Int) : State :=
  let s := (s.threadFaulted c).sweepCore c
  let x := s.sch (c / 12)
  let s := s.setSch (c / 12) { x with loading := x.loading.filter (fun i => decide (i ≠ c % 12)) }
  let k := s.core c
  let k := { CoreSt.reset with haltReq := k.haltReq, cyc := if s.obj .coreState c = coreOff then 0 else k.cyc }
  let s := (s.setCore c k).setObj .corePc c 0
  if (s.unit (unitCore c)).st = unitRetired then s else s.setObj .coreState c st

/-- The work of a hall's engines and landings is gone (R232, R270, R541): what the engines execute, ARMs, slot buffers,
estimates, decodings; frames handed over stand. -/
def State.clearEngines (s : State) (h : Nat) : State :=
  let mine := fun (c : Nat) => decide (s.hallOf c = h)
  { s with
    engBusy := s.engBusy.filter (fun p => decide (p.1 / 16 ≠ h))
    codecs := s.codecs.filter (fun p => p.2.all (fun r => decide (r.hall ≠ h)))
    arms := s.arms.filter (fun a => !mine a.carrier)
    ulBufs := s.ulBufs.filter (fun p => !mine (s.bufCarrier p.1))
    ulPrev := s.ulPrev.filter (fun p => !mine (p.1 / 32))
    hBufs := s.hBufs.filter (fun p => decide (p.1 / 65536 ≠ h))
    rnnBufs := s.rnnBufs.filter (fun p => decide (p.1 / 65536 ≠ h))
    harq := s.harq.filter (fun w => decide (w.hall ≠ h))
    llrDone := s.llrDone.filter (fun r => decide (r.hall ≠ h))
    td := (s.td.map (fun p => if mine (p.1 / 8) then (p.1, { p.2 with carry := none, tail := [], hist := [] }) else p)).filter
      (fun p => decide (p.2 ≠ TdSt.reset)) }

/-- What the codecs of a die's block execute is gone, with the decodings they had begun (R232). -/
def State.clearCodecs (s : State) (b : Nat) : State :=
  { s with
    codecs := s.codecs.filter (fun p => decide ((if p.1 < 4 then p.1 / 2 else p.1 - 4) ≠ b))
    harq := s.harq.filter (fun w => !(decide (w.kind = 1) && decide (w.hall / 8 = b) && !w.complete)) }

/-- R555: a hall that restarts withdraws its arrivals of open rounds. -/
def State.withdrawArrivals (s : State) (h : Nat) : State :=
  let n := (s.stair.map (fun p => (p.2.filter (fun a => decide (a.1 = h))).length)).sum
  let t := (s.stair.map (fun p => (p.1, p.2.filter (fun a => decide (a.1 ≠ h))))).filter (fun p => decide (p.2 ≠ []))
  ({ s with stair := t }).bumpBy .stairWithdrawn 0 n

/-- A hall is reset and swept (R144, R326, R532); its cores are reset and read `st`. -/
def State.resetHall (s : State) (h : Nat) (st : Int) : State :=
  let s := (s.hallRestart h).sweepSram h
  let s := (hallCores h).foldl (fun (s : State) c => s.resetCore c st) s
  ((s.clearEngines h).withdrawArrivals h).freeHeld (unitHall h)

/-- The status objects of the time unit (R424). -/
def timeStatus : List Obj :=
  [.timeState, .timeSec, .timeNs, .timeFrac, .timeRho, .timeOffset, .timeGmId, .timeTrigStatus]

/-- The time unit is reset (R417, R421): FREERUN from 0, every trigger disarmed (log entry 67). -/
def State.resetTime (s : State) : State :=
  let s := timeStatus.foldl (fun (s : State) o => s.setObj o 0 (o.default 0)) { s with time := TimeSt.reset }
  (List.range 16).foldl (fun (s : State) n => s.setObj .timeTrig n 0) s

/-- Unit u is reset as its rules say (R529, R532, R541; log entry 67): a DDR channel, the Lodge and the context store keep what
R541 and R290 reload. -/
def State.resetUnit (s : State) (u : Nat) : State :=
  let s := s.freeHeld u
  if u < 192 then s.resetCore u coreRejoining
  else if u < 208 then (s.resetHall (u - 192) coreRejoining).paceRestart (u - 192)
  else if u < 210 then (s.clearCodecs (u - 208)).paceRestart (u - 192)
  else if u < 218 then s
  else if u < 274 then s.laneToOff (u - 218)
  else if u = 275 then
    let s := (List.range 48).foldl (fun (s : State) p => s.discardAll p (s.portEntries p)) s
    s.sweepSram 24
  else if u = 278 then s.resetTime
  else if u = 279 then
    let s := (List.range 8).foldl (fun (s : State) e => s.praTruncate (256 + e)) s
    ({ s with sh := { s.sh with hits := [] } }).sweepSram 25
  else s

/-- Unit u enters REJOINING (R530, R531): its epoch rises, and its inputs are open again. A hall's cores that are in service
pass REJOINING with it (R93, log entry 68). -/
def State.enterRejoin (s : State) (u : Nat) : State :=
  let up := fun (s : State) (v : Nat) =>
    let x := s.unit v
    (((s.setUnit v { x with st := unitRejoining, epoch := (x.epoch + 1) % 2 ^ 32 }).cutUnit v).freeRooms v).freezeUnit false v
  let s := up s u
  if 192 ≤ u ∧ u < 208 then
    (hallCores (u - 192)).foldl (fun s c => if (s.unit c).st = unitRetired then s else up s c) s
  else s

/-! ### Faults (R533 to R535) -/

/-- The codes R533 gives a unit. -/
def faultCode (u code : Nat) : Bool :=
  if u < 192 then decide (code = 1)
  else if u < 208 then [2, 3, 4, 5].contains code
  else if u < 210 then [2, 4].contains code
  else if u < 218 then [5, 8].contains code
  else if u < 274 then [6, 8].contains code
  else if u = 274 then decide (code = 7)
  else if u = 276 ∨ u = 278 then decide (code = 8)
  else if u = 279 then decide (code = 9)
  else false

/-- A fault of a unit and what follows it at once (R91, R534, R535): a core is in HALTED_FAULT with its thread FAULTED and,
retired, out of every AFFINITY; a lane leaves its port or link; a restart of Summerhouse is counted, with an event (R525). -/
def State.faultNow (s : State) (u code : Nat) : State :=
  let asleep := (s.unit u).st = unitSleeping ∨ (s.unit u).st = unitRetired
  let s := s.unitFault u code
  if asleep then s
  else if u < 192 then
    let s := s.bumpIf (decide (s.obj .coreState u ≠ coreHaltedFault)) .coreDoubleFaults u
    let s := (s.threadFaulted u).setObj .coreState u coreHaltedFault
    if (s.unit u).st = unitRetired then s.dropAffinity u else s
  else if 218 ≤ u ∧ u < 274 then (s.laneStopped (u - 218)).peerRefresh
  else if u = 279 then (s.bump .shRestarts 0).evt .shRestart unitSummerhouse 0
  else s

/-- UNIT_FAULT (R533, R534): a fault of a unit, with a code that R533 gives it. -/
def execUnitFault (u : Fin 280) (code : Nat) (s : State) : Host.Outcome State Fault Refusal :=
  .next (if faultCode u code then s.faultNow u code else s)

/-- ENGINE_TIMEOUT (R533): an engine of a hall or its block took a descriptor and sent no completion. A descriptor its command
has not yet taken off the queue stands for one the engine took (log entry 69). -/
def execEngineTimeout (h e : Fin 16) (s : State) : Host.Outcome State Fault Refusal :=
  .next <|
    if e.val ≤ 10 ∧ s.engUp h e ∧ ((s.engRun h e).isSome ∨ (s.engHead h e).isSome
        ∨ ((e.val = 7 ∨ e.val = 8) ∧ (List.range 6).any (fun k =>
            (decide (k < 4) == decide (e.val = 7)) && (s.codec k).any (fun r => decide (r.hall = h.val))))) then
      s.faultNow (if e.val = 7 ∨ e.val = 8 then unitBlock (h.val / 8) else unitHall h) 4
    else s

/-- UNIT_DRAIN_END (R532): a restarting unit has drained, or reached `REL_DRAIN_MAX`, where its bursts are cut off; it is reset and swept,
and enters REJOINING. -/
def execUnitDrainEnd (u : Fin 280) (s : State) : Host.Outcome State Fault Refusal :=
  .next <|
    if (s.unit u).st = unitRestarting
        ∧ (s.unitDrained u = true ∨ (s.unit u).since + s.obj .relDrainMax 0 * 1000 ≤ s.now) then
      (s.resetUnit u).enterRejoin u
    else s

/-- Receptions of a block's correlators close TRUNCATED when it rejoins, and repetitions lost meanwhile stay so (R211). -/
def State.truncateBlock (s : State) (b : Nat) : State :=
  (s.praUsed.filter (fun q => decide (pcCorr q.2 / 2 = b))).foldl (fun (s : State) q => (s.praTruncate q.1).praSkip q.1) s

/-- What a unit reloads on leaving REJOINING (R541): a core is dispatched to afresh; a hall runs the unfinished jobs of its
carriers again; a block closes its receptions; PCIe writes its records again. -/
def State.reload (s : State) (u : Nat) : State :=
  if u < 192 then (s.setObj .coreState u coreIdle).dispatch u
  else if u < 208 then ((s.redoJobs (u - 192)).releaseAgain (fun c => decide (s.hallOf c = u - 192))).dispatchHall (u - 192)
  else if u < 210 then s.truncateBlock (u - 208)
  else if u = 276 then s.rewriteRecords
  else s

/-- UNIT_REJOIN (R531, R541). -/
def execUnitRejoin (u : Fin 280) (s : State) : Host.Outcome State Fault Refusal :=
  .next <|
    if (s.unit u).st = unitRejoining then ((s.setUnit u { s.unit u with st := unitRunning }).lapUnit u).reload u else s

/-! ### Retirement (R535) -/

/-- The carriers of a hall, ascending. -/
def State.hallCarriers (s : State) (h : Nat) : List Nat := (List.range 768).filter (fun c => decide (s.hallOf c = h))

/-- R535: the next slot after a hall's retirement: its carriers are placed again one at a time, its unfinished jobs run again. -/
def State.replaceCarriers (s : State) (h : Nat) : State :=
  let cs := s.hallCarriers h
  let s := cs.foldl (fun (s : State) c => s.setObj .carrierHall c 255) (s.clearEngines h)
  let s := cs.foldl (fun (s : State) c => s.placeLow c) s
  (s.redoJobs h).admitRefresh

/-- RETIRED_CARRIER_REPLACE (R535): the slot after hall h was retired has come, and no partner takes over. -/
def execRetiredCarrierReplace (h : Fin 16) (s : State) : Host.Outcome State Fault Refusal :=
  .next <|
    if (s.unit (unitHall h)).st = unitRetired ∧ s.moduleRetire (unitHall h) = false ∧ s.hallCarriers h ≠ [] then
      s.replaceCarriers h
    else s

/-- REL_UNRETIRE (R531, R561): a retired unit restarts; any other unit is refused with STATE, a number without a unit with
RANGE. -/
def execRelUnretire (a : Accessor) (v : Nat) (s : State) : Host.Outcome State Fault Refusal :=
  .next (s.dictWrite a .relUnretire 0 v
    (if 280 ≤ v then .range else .unless (decide ((s.unit v).st = unitRetired)) .state) (fun s =>
      let x := s.unit v
      (s.setUnit v { x with st := unitRestarting, restarts := x.restarts + 1, since := s.now }).freezeUnit true v))

end Sys2Proof.Machine
end

