-- ==== Sys2Proof/Machine/Boot.lean ====
section
/-! DEFINITION. The boot flash and its images (R509 to R514): the boot ROM's check, the L1 copy, rollback, revocation and the
flash commands. -/

namespace Sys2Proof.Machine

/-! ### Flash and image headers (R509, R510) -/

/-- A byte of the boot flash; one nothing has programmed is erased (log entry 54). -/
def State.flashByte (s : State) (a : Nat) : Byte := tabGet 0xFF s.flash a

/-- `n` bytes of the boot flash. -/
def State.flashRead (s : State) (a : Nat) : Nat → List Byte
  | 0 => []
  | n + 1 => s.flashByte a :: s.flashRead (a + 1) n

/-- The boot flash with bytes programmed from an offset upward. -/
def flashWrite (f : Tab Byte) (a : Nat) : List Byte → Tab Byte
  | [] => f
  | b :: r => flashWrite (tabSet 0xFF f a b) (a + 1) r

/-- The size of an image slot: 31 MiB. -/
abbrev slotSize : Nat := 0x1F00000

/-- The flash offset of slot A (1) or B (2). -/
def slotBase (k : Nat) : Nat := if k = 2 then 0x2000000 else 0x100000

/-- The 512-byte header of a slot. -/
def State.imageHeader (s : State) (k : Nat) : List Byte := s.flashRead (slotBase k) 512

def ihMagic (h : List Byte) : Nat := leAt 0 4 h
def ihHdrVersion (h : List Byte) : Nat := leAt 4 2 h
def ihKeySlot (h : List Byte) : Nat := leAt 6 1 h
def ihVersion (h : List Byte) : Nat := leAt 8 4 h
def ihRollback (h : List Byte) : Nat := leAt 0xC 2 h
def ihShOffset (h : List Byte) : Nat := leAt 0x10 4 h
def ihShLength (h : List Byte) : Nat := leAt 0x14 4 h
def ihL1Offset (h : List Byte) : Nat := leAt 0x18 4 h
def ihL1Length (h : List Byte) : Nat := leAt 0x1C 4 h

/-- The OTP digest of a key slot: programmed into the part, so free (log entry 70). -/
def otpDigest (k : Nat) : List Byte := (List.range 48).map (fun i => BitVec.ofNat 8 (Config.freeOf 40 [k, i]))

/-- Whether the signature of a header verifies (R510): the key's X and Y, then r and s, 48 bytes each, big-endian. -/
def ihSigned (h : List Byte) : Bool :=
  decide (leAt 0x80 1 h = 4)
    && ecdsaOk (beNat (slice 0x81 48 h), beNat (slice 0xB1 48 h)) (beNat (sha384 (slice 0 0x100 h)))
      (beNat (slice 0x100 48 h)) (beNat (slice 0x130 48 h))

/-- The reason with which the boot ROM rejects a slot; 0 if it passes (R511). -/
def State.imageReason (s : State) (k : Nat) : Nat :=
  let h := s.imageHeader k
  if ihMagic h ≠ 0x9660B0AA ∨ ihHdrVersion h ≠ 1 then 1
  else if bitAt (s.objN .shKeyRevoked 0) (ihKeySlot h) then 2
  else if 3 < ihKeySlot h ∨ sha384 (slice 0x80 97 h) ≠ otpDigest (ihKeySlot h) then 3
  else if ihSigned h = false then 4
  else if ihRollback h < s.objN .shRollbackMin 0 then 5
  else if slotSize < ihShOffset h + ihShLength h ∨ slotSize < ihL1Offset h + ihL1Length h ∨ 0x40000 < ihShLength h
      ∨ 0x1800000 < ihL1Length h then 6
  else if sha384 (s.flashRead (slotBase k + ihShOffset h) (ihShLength h)) ≠ slice 0x20 48 h then 7
  else 0

/-- The reason with a flash read error in the check that gives reason `err` (R511): 8, unless an earlier check fails; `err` 0 is no
error. -/
def State.slotReason (s : State) (k err : Nat) : Nat :=
  let r := s.imageReason k
  if err ≠ 0 ∧ (r = 0 ∨ err ≤ r) then 8 else r

/-- The slot the boot ROM chooses, 3 for none (R511). -/
def chooseSlot (ra rb va vb : Nat) : Nat :=
  if ra = 0 ∧ rb = 0 then (if va < vb then 2 else 1) else if ra = 0 then 1 else if rb = 0 then 2 else 3

/-- BOOT_IMAGE_CHECK (R511): both slots are checked, and the chosen firmware is started. -/
def State.bootCheck (s : State) (errA errB : Nat) : State :=
  let ra := s.slotReason 1 errA
  let rb := s.slotReason 2 errB
  let va := ihVersion (s.imageHeader 1)
  let vb := ihVersion (s.imageHeader 2)
  let k := chooseSlot ra rb va vb
  let s := s.setObj .shBootStatus 0 ((k * 2 ^ 24 + ra * 2 ^ 16 + rb * 2 ^ 8 : Nat) : Int)
  let s := s.setObj .shBootVersion 0 ((if k = 1 then va else if k = 2 then vb else 0 : Nat) : Int)
  { s with sh := { s.sh with slot := if k = 3 then 0 else k } }

/-- L1_COPY (R512): rung 5 has ended with `MEM_DDR_SIZE` above 0; the L1 firmware of the booted slot is copied to `SH_L1_BASE`
and hashed. A copy that does not match is zeroed, with an event. -/
def execL1Copy (s : State) : Host.Outcome State Fault Refusal :=
  .next <|
    if s.sh.slot = 0 ∨ s.obj .memDdrSize 0 = 0 ∨ (1 ≤ s.obj .startRung 0 ∧ s.obj .startRung 0 ≤ 5) then s
    else
      let h := s.imageHeader s.sh.slot
      let l := s.flashRead (slotBase s.sh.slot + ihL1Offset h) (ihL1Length h)
      let a := s.objN .shL1Base 0
      if sha384 l = slice 0x50 48 h then (s.store a l).setObj .shL1State 0 2
      else ((s.store a (List.replicate l.length 0)).setObj .shL1State 0 3).evt .l1Bad unitSummerhouse s.sh.slot

/-! ### OTP (R513) -/

/-- The header of the booted image; none if none was booted. -/
def State.bootedHeader (s : State) : Option (List Byte) :=
  if s.sh.slot = 0 then none else some (s.imageHeader s.sh.slot)

/-- SH_ROLLBACK_SET (R513): the rollback level rises, no further than that of the booted image. -/
def execShRollbackSet (a : Accessor) (v : Nat) (s : State) : Host.Outcome State Fault Refusal :=
  .next (s.dictWrite a .shRollbackSet 0 v
    (.unless (decide (s.objN .shRollbackMin 0 < v) && s.bootedHeader.any (fun h => decide (v ≤ ihRollback h))) .range)
    (fun s => s.setObj .shRollbackMin 0 v))

/-- SH_OTP_REVOKE (R513): the revoke bit of a key slot other than the booted image's is set. -/
def execShOtpRevoke (a : Accessor) (v : Nat) (s : State) : Host.Outcome State Fault Refusal :=
  .next (s.dictWrite a .shOtpRevoke 0 v
    (.unless (decide (v < 4) && s.bootedHeader.all (fun h => decide (ihKeySlot h ≠ v))) .range)
    (fun s => s.setObj .shKeyRevoked 0 ((s.objN .shKeyRevoked 0 ||| 2 ^ v : Nat) : Int)))

/-! ### Flash commands (R514) -/

/-- The slot that holds a flash offset: 1 A, 2 B, 0 none. -/
def slotOfOffset (o : Nat) : Nat :=
  if 0x100000 ≤ o ∧ o < 0x2000000 then 1 else if 0x2000000 ≤ o ∧ o < 0x3F00000 then 2 else 0

/-- The check of a flash command at the present offset (R514; log entry 70). -/
def State.flashCheck (s : State) : Status :=
  let k := slotOfOffset (s.objN .shFlashOffset 0)
  if k = 0 then .range else .unless (decide (k ≠ s.sh.slot)) .state

/-- Whether a write reaches its object's own check. -/
def State.passes (s : State) (a : Accessor) (o : Obj) (n : Nat) (v : Int) : Bool :=
  match s.reach a (objAddr o n / 256) with
  | none => false
  | some r => decide (s.writeGate a o n v r = .ok)

/-- A flash command: its result is held in `SH_FLASH_STATUS`, a refused one's status too (R514). -/
def State.flashCmd (s : State) (a : Accessor) (c : Nat) (eff : State → State) : State :=
  let chk := s.flashCheck
  let t := s.dictWrite a .shFlashCmd 0 c chk eff
  if s.passes a .shFlashCmd 0 c ∧ chk ≠ .ok then t.setObj .shFlashStatus 0 ((chk.code * 2 ^ 24 : Nat) : Int) else t

/-- SH_FLASH_ERASE (R514): the 64 KiB sector at the offset is erased. -/
def execShFlashErase (a : Accessor) (s : State) : Host.Outcome State Fault Refusal :=
  .next (s.flashCmd a 1 (fun s =>
    let o := s.objN .shFlashOffset 0
    let s := { s with flash := s.flash.filter (fun p => !(decide (o ≤ p.1) && decide (p.1 < o + 0x10000))) }
    s.setObj .shFlashStatus 0 0))

/-- SH_FLASH_PROGRAM (R514): the window is programmed at the offset. -/
def execShFlashProgram (a : Accessor) (s : State) : Host.Outcome State Fault Refusal :=
  .next (s.flashCmd a 2 (fun s =>
    let s := { s with flash := flashWrite s.flash (s.objN .shFlashOffset 0) (slice 0 0x10000 (s.dom .shFlashWin 0)) }
    s.setObj .shFlashStatus 0 0))

/-- SH_FLASH_CHECK (R514): the slot that holds the offset is checked under R511; `err`: the check whose flash read failed. -/
def execShFlashCheck (a : Accessor) (err : Nat) (s : State) : Host.Outcome State Fault Refusal :=
  .next (s.flashCmd a 3 (fun s =>
    s.setObj .shFlashStatus 0 ((s.slotReason (slotOfOffset (s.objN .shFlashOffset 0)) err : Nat) : Int)))

end Sys2Proof.Machine
end

