-- ==== Sys2Proof/Machine/Power.lean ====
section
/-! DEFINITION. The power controller (R484 to R507): the sleep handshake and its rollback, gating, wakes, the exit, the start
ladder and the supply. Units are those of R529; 300 + q is lane quad q and 400 the reliability manager. -/

namespace Sys2Proof.Machine

/-! ### Units and their order (R489, R497) -/

/-- The start ladder (R497): rungs with their units in order. -/
def ladderOrder : List (Nat × Nat) :=
  [(1, 279), (2, 278), (3, 400), (3, 277), (4, 276)]
    ++ (List.range 8).map (fun c => (5, 210 + c)) ++ (List.range 14).map (fun q => (6, 300 + q))
    ++ [(7, 275), (7, 274), (8, 208), (8, 209)] ++ (List.range 16).map (fun h => (9, 192 + h))

/-- The units a target asks, in the order of R489; Summerhouse is never asked, the time unit only for S3 and S4. -/
def askOrder (target : Nat) : List Nat :=
  ((List.range 16).map (fun h => 192 + h)).reverse ++ [209, 208, 274, 275] ++ ((List.range 14).map (fun q => 300 + q)).reverse
    ++ ((List.range 8).map (fun c => 210 + c)).reverse ++ [276, 400, 277] ++ (if 3 ≤ target then [278] else [])

/-- Class and instance of a unit in `PWR_LAST_RESULT` (R505), as class × 256 + instance. -/
def pwrClass (u : Nat) : Nat :=
  if u < 208 then 256 + (u - 192)
  else if u < 210 then 512 + (u - 208)
  else if u < 218 then 6 * 256 + (u - 210)
  else if u = 274 then 3 * 256
  else if u = 275 then 5 * 256
  else if u = 276 then 7 * 256
  else if u = 277 then 9 * 256
  else if u = 278 then 10 * 256
  else if u = 400 then 8 * 256
  else 4 * 256 + (u - 300)

/-- The lanes of a quad that a target stops: in S2, `LANE_0` and `LANE_1` stay (R485, R489). -/
def quadStops (target u : Nat) : List Nat :=
  let q := u - 300
  if q = 0 ∧ target = 2 then [2, 3] else quadLanes q

/-- A unit sleeps or is retired. -/
def State.unitDown (s : State) (u : Nat) : Bool :=
  decide ((s.unit u).st = unitSleeping) || decide ((s.unit u).st = unitRetired)

/-- Whether a unit is already stopped, so that it is not asked (R491). -/
def State.pwrDown (s : State) (target u : Nat) : Bool :=
  if 300 ≤ u ∧ u < 314 then (quadStops target u).all (fun l => s.unitDown (218 + l))
  else if 210 ≤ u ∧ u < 218 then decide (s.obj .ddrState (u - 210) = ddrSelfRefresh) || s.unitDown u
  else s.unitDown u

/-! ### Answers (R489) -/

/-- What a unit answers; a delay with the least and the most µs the spec gives it. -/
inductive SleepAnswer where
  | agree
  | delay (least most : Nat)
  | refuse (code : Nat)
  deriving DecidableEq, Repr

/-- Engine queues of a hall among `es` hold descriptors, or an engine executes one. -/
def State.engWork (s : State) (h : Nat) (es : List Nat) : Bool :=
  es.any (fun e => decide (tabGet [] (s.sch h).engq (0xF0 + e) ≠ []) || (s.engRun h e).isSome)

/-- DELAY of at most `most` µs while a condition holds. -/
def delayWhile (c : Bool) (most : Nat) : SleepAnswer := if c then .delay 1 most else .agree

/-- Whole µs from now to an instant, at least 1. -/
def State.usUntil (s : State) (t : Int) : Nat := max 1 (ceilDiv (t - s.now).toNat 1000)

/-- The earlier of an entry's launch and close (R489). -/
def TxEntry.due (e : TxEntry) : Int := if e.close = 0 then e.launch else min e.launch e.close

/-- µs until the last entry queued for transmission launches or closes (R489). -/
def State.macDelay (s : State) : Nat := s.usUntil ((s.txQueue ++ s.txOffers).map TxEntry.due |>.foldl max s.now)

/-- The most µs a lane in TRAINING may still need (R357, R358). -/
def State.trainingMost (s : State) (l : Nat) : Nat := if s.laneMode l < 8 then 500000 else 20000

/-- Whole µs until the rail of a pacer in SNAP is at the level voltage at the latest (R44, R49); 0 otherwise. -/
def State.snapLeft (s : State) (u : Nat) : Nat :=
  if s.obj .hallPaceState u = paceSnap then ceilDiv ((s.pacer u).settleBy - s.now).toNat 1000 else 0

/-- The answer of a hall or block with a pacer (R49, R489): DELAY while work is left, and in SNAP for the slew that remains. -/
def State.pacerAnswer (s : State) (u : Nat) (work : Bool) : SleepAnswer :=
  if work then .delay 1 100 else if s.snapLeft u = 0 then .agree else .delay (s.snapLeft u) (s.snapLeft u)

/-- The answer of a unit (R489, R322, R592); REFUSE goes before DELAY (log entry 71). -/
def State.sleepAnswer (s : State) (target u : Nat) : SleepAnswer :=
  if u < 208 then
    let h := u - 192
    if s.hallCarriers h ≠ [] then .refuse 1
    else if s.rings.any (fun p => p.2.jobs.any (fun j => decide (j.hall = h) && decide (j.st < 6))) then .refuse 2
    else s.pacerAnswer h (s.engWork h (List.range 14))
  else if u < 210 then
    let b := u - 208
    if s.praUsed.any (fun q => decide (pcCorr q.2 / 2 = b)) then .refuse 1
    else s.pacerAnswer (16 + b) ((List.range 8).any (fun i => s.engWork (8 * b + i) [7, 8]))
  else if u < 218 then .agree
  else if u = 274 then
    delayWhile ((List.range 16).any (fun h => s.engWork h [11]) || decide (s.ctxWaiting ≠ [])) 10
  else if u = 275 then
    if s.txQueue ≠ [] ∨ s.txOffers ≠ [] ∨ s.ports.any (fun p => p.2.sending.isSome) then .delay s.macDelay s.macDelay else .agree
  else if u = 276 then if (List.range 256).any (fun r => decide (s.obj .jrState r ≠ 0)) then .refuse 3 else .agree
  else if u = 400 then if s.obj .pairMode 0 = 1 then .refuse 4 else delayWhile (s.unacked.any (fun x => !x.sent)) 10
  else if u = 277 then
    if (List.range 64).any (fun k => s.stageArmed k) then .refuse 5 else delayWhile (decide (s.unacked ≠ [])) 5
  else if u = 278 then .agree
  else
    let l := (quadStops target u).filter (fun l => decide (s.laneMode l ≠ 0) && decide (s.obj .laneState l = laneTraining))
    if l = [] then .agree else .delay 1 ((l.map s.trainingMost).foldl max 1)

/-! ### Stopping and releasing one unit -/

/-- A unit that is not retired sleeps (R531): epoch kept, inputs frozen (R489). -/
def State.sleepUnit (s : State) (u : Nat) : State :=
  let x := s.unit u
  if x.st = unitRetired then s else ((s.setUnit u { x with st := unitSleeping }).freezeUnit true u).lapUnit u

/-- A hall's rail is off (R46, R93, R326): pacer SLEEP, cores OFF, and the contents of its SRAM lost. -/
def State.hallDown (s : State) (h : Nat) : State :=
  let s := (s.enterSleep h).sleepUnit (unitHall h)
  let s := (hallCores h).foldl (fun (s : State) c =>
    ((s.setCore c { CoreSt.reset with haltReq := (s.core c).haltReq }).setObj .coreState c coreOff).sleepUnit c) s
  (s.setSch h { s.sch h with running := [], pre := [] }).sweepSram h

/-- Unit u is stopped for a target (R489 to R493). -/
def State.stopUnit (s : State) (target u : Nat) : State :=
  if u < 208 then s.hallDown (u - 192)
  else if u < 210 then (s.enterSleep (u - 192)).sleepUnit u
  else if u < 218 then
    if s.obj .ddrState (u - 210) = ddrReady then (s.setObj .ddrState (u - 210) ddrSelfRefresh).sleepUnit u else s.sleepUnit u
  else if 300 ≤ u ∧ u < 314 then
    ((quadStops target u).filter (fun l => !s.unitDown (218 + l))).foldl
      (fun (s : State) l => (s.laneToOff l).sleepUnit (218 + l)) s
  else s.sleepUnit u

/-- A stopped unit whose rail is on again is reset where its memory was lost, and enters REJOINING (R48, R500, R531). -/
def State.wakeUnit (s : State) (u : Nat) : State :=
  if (s.unit u).st = unitSleeping then (s.resetUnit u).enterRejoin u else s

/-- `PWR_GATED` with a hall's or block's bit set or cleared. -/
def State.setGated (s : State) (u : Nat) (on : Bool) : State :=
  let b := u - 192
  let w := s.objN .pwrGated 0
  if u < 192 ∨ 210 ≤ u ∨ bitAt w b = on then s
  else s.setObj .pwrGated 0 ((if on then w + 2 ^ b else w - 2 ^ b : Nat) : Int)

/-- Unit u is released (R497, R500, R321): a DDR channel leaves SELF_REFRESH for READY, or OFF for
TRAINING; the lanes a target had stopped. -/
def State.releaseUnit (s : State) (u : Nat) : State :=
  if u < 210 then (s.wakeUnit u).setGated u false
  else if u < 218 then
    let c := u - 210
    let s := if s.obj .ddrState c = ddrSelfRefresh then s.setObj .ddrState c ddrReady
      else if s.obj .ddrState c = ddrOff then s.setObj .ddrState c ddrTraining else s
    (s.wakeUnit u).lapUnit u
  else if u = 400 then (s.setUnit 400 UnitSt.reset).freezeUnit false 400
  else if 300 ≤ u ∧ u < 314 then
    ((quadLanes (u - 300)).filter (fun l => !(decide (s.obj .pwrState 0 = 2) && decide (l = 2 ∨ l = 3)))).foldl
      (fun (s : State) l => s.wakeUnit (218 + l)) s
  else s.wakeUnit u

/-! ### The entry (R490, R491) -/

/-- `PWR_LAST_RESULT` (R505). -/
def State.pwrResult (s : State) (result : Nat) (u : Option Nat) (code : Nat) : State :=
  s.setObj .pwrLastResult 0 ((result * 2 ^ 24 + (match u with | some u => pwrClass u | none => 0) * 256 + code : Nat) : Int)

/-- What follows the restarts of a rollback, or of a gate request (R491, R492, R486): its result; with the last gated unit
restarted the device is in S0. -/
def State.restartDone (s : State) (b : PwrBack) : State :=
  let s := { s with pwr := { s.pwr with restart := [], back := none } }
  let s := s.pwrResult b.result b.unit b.code
  if b.result = 1 then (if s.obj .pwrGated 0 = 0 then s.setObj .pwrState 0 0 else s)
  else
    let s := { s with pwr := { s.pwr with
      wakes := if s.obj .pwrState 0 = 2 ∨ s.obj .pwrState 0 = 3 then s.pwr.wakes else [] } }
    let s := (s.bump .pwrRollbacks 0).bump (if b.result = 2 then .pwrRefusals else .pwrWakeAborts) 0
    (s.evt .powerRollback (b.unit.getD 0) b.code).takeWake

/-- Units restart in start-ladder order, one step each (R499, R500); their end is `b`. -/
def State.beginRestart (s : State) (l : List Nat) (b : PwrBack) : State :=
  let s := { s with pwr := { s.pwr with
    restart := (ladderOrder.map (fun p => p.2)).filter (fun v => l.contains v), back := some b } }
  if s.pwr.restart = [] then s.restartDone b else s

/-- A rollback (R491): the units this entry stopped restart. -/
def State.rollback (s : State) (result : Nat) (u : Option Nat) (code : Nat) : State :=
  let l := s.pwr.stopped
  let s := { s with pwr := { s.pwr with target := 0, todo := [], stopped := [], waited := 0, waiting := false } }
  s.beginRestart l ⟨result, u, code⟩

/-- An enabled wake source that the target watches is asserted (R491, R495). -/
def State.wakeSeen (s : State) (target : Nat) : Bool :=
  s.pwr.wakes.any (fun b => decide (target = 2) || (decide (target = 3) && decide (b ≠ 0) && decide (b ≠ 3)))

/-- Every unit has agreed (R491, R492, R486): a gate request ends in S1; an entry commits, unless a wake is asserted. -/
def State.commitEntry (s : State) : State :=
  let t := s.pwr.target
  if t = 1 then
    let s := { s with pwr := { s.pwr with target := 0, stopped := [], waited := 0 } }
    (s.pwrResult 1 none 0).setObj .pwrState 0 1
  else if t ≠ 4 ∧ s.wakeSeen t then s.rollback 3 none 0
  else
    let s := { s with pwr := { s.pwr with
      committed := true, waited := 0, wakes := [], ran := s.pwr.stopped ++ s.pwr.ran } }
    let s := (((s.setObj .pwrState 0 t).lapSettle 25).bump .pwrEntries 0).pwrResult 1 none 0
    { s with pins := { s.pins with pwrGood := true, pairFailOut := true } }

/-- The units still to be asked, from the present one on (R490, R491): `n` is the delay a unit answers. -/
def State.askUnits (n : Nat) (s : State) : List Nat → State
  | [] => ({ s with pwr := { s.pwr with todo := [] } }).commitEntry
  | u :: r =>
    match s.sleepAnswer s.pwr.target u with
    | .agree =>
      let t := s.pwr.target
      let s := s.stopUnit t u
      let s := if t = 1 then s.setGated u true else s
      let s := { s with pwr := { s.pwr with todo := r, stopped := u :: s.pwr.stopped, waited := 0 } }
      if (t = 2 ∨ t = 3) ∧ s.wakeSeen t then s.rollback 3 none 0 else s.askUnits n r
    | .delay least most =>
      let cap := s.objN .pwrDelayCap 0
      let n := max least (min n most)
      if cap ≤ s.pwr.waited then (s.bump .pwrDelayCapHits 0).rollback 2 (some u) 6
      else
        { s with pwr := { s.pwr with
          todo := u :: r, waiting := true, waited := s.pwr.waited + min n (cap - s.pwr.waited) } }
    | .refuse c => s.rollback 2 (some u) c

/-- No entry, rollback, gate request, exit or ladder is under way. -/
def State.pwrIdle (s : State) : Bool :=
  decide (s.pwr.target = 0) && decide (s.pwr.back = none) && decide (s.pwr.ladder = []) && decide (s.obj .startRung 0 = 0) && !s.pwr.committed
    && !s.pwr.exitDue

/-- An entry or gate request starts (R491, R492): units already stopped are passed over. -/
def State.beginEntry (s : State) (target n : Nat) (l : List Nat) : State :=
  let s := { s with pwr := { s.pwr with target := target, stopped := [], waited := 0, waiting := false, committed := false } }
  s.askUnits n (l.filter (fun u => !s.pwrDown target u))

/-- R487: the states in which an entry may be requested. -/
def State.entryOk (s : State) (target : Nat) : Status :=
  let st := s.obj .pwrState 0
  .unless (s.pwrIdle && (if target = 4 then decide (st ≠ 4) else if target = 3 then decide (st ≤ 2) else decide (st ≤ 1))) .state

/-- A request for a state (R487): once the write is accepted, the entry runs. -/
def State.pwrRequest (s : State) (a : Accessor) (target n : Nat) : State :=
  let chk := s.entryOk target
  let t := s.dictWrite a .pwrStateReq 0 target chk id
  if s.passes a .pwrStateReq 0 target ∧ chk = .ok then t.beginEntry target n (askOrder target) else t

/-- PWR_REQ_S2 (R487, R491). -/
def execPwrReqS2 (a : Accessor) (n : Nat) (s : State) : Host.Outcome State Fault Refusal := .next (s.pwrRequest a 2 n)

/-- PWR_REQ_S3 (R487, R491). -/
def execPwrReqS3 (a : Accessor) (n : Nat) (s : State) : Host.Outcome State Fault Refusal := .next (s.pwrRequest a 3 n)

/-- PWR_REQ_S4 (R487, R491). -/
def execPwrReqS4 (a : Accessor) (n : Nat) (s : State) : Host.Outcome State Fault Refusal := .next (s.pwrRequest a 4 n)

/-- PWR_REQ_WAKE (R487, R495, R581): a write of 0 in S2 or S3 wakes, but not during a thermal hold. -/
def execPwrReqWake (a : Accessor) (s : State) : Host.Outcome State Fault Refusal :=
  .next (s.dictWrite a .pwrStateReq 0 0
    (.unless ((decide (s.obj .pwrState 0 = 2) || decide (s.obj .pwrState 0 = 3)) && s.pwrIdle && !s.therm.hold) .state)
    (fun s => s.assertWake 4))

/-- The halls and blocks of a mask, in the order of R489. -/
def gateUnits (m : Nat) : List Nat := (askOrder 1).filter (fun u => decide (192 ≤ u) && decide (u < 210) && bitAt m (u - 192))

/-- A gate request is taken in S0 and S1 only (log entry 71). -/
def State.gateOk (s : State) : Status := .unless (s.pwrIdle && decide (s.obj .pwrState 0 ≤ 1)) .state

/-- PWR_GATE (R492): the named units that run are asked and stopped; with none of them nothing follows. -/
def execPwrGate (a : Accessor) (units : BitVec 18) (n : Nat) (s : State) : Host.Outcome State Fault Refusal :=
  .next <|
    let v : Int := ((2 ^ 31 + units.toNat : Nat) : Int)
    let chk := s.gateOk
    let t := s.dictWrite a .pwrGateReq 0 v chk id
    let l := (gateUnits units.toNat).filter (fun u => !s.pwrDown 1 u)
    if s.passes a .pwrGateReq 0 v ∧ chk = .ok ∧ l ≠ [] then t.beginEntry 1 n l else t

/-- PWR_UNGATE (R492, R486): the named gated units restart in start-ladder order; with the last of them the device is in S0. -/
def execPwrUngate (a : Accessor) (units : BitVec 18) (s : State) : Host.Outcome State Fault Refusal :=
  .next (s.dictWrite a .pwrGateReq 0 units.toNat s.gateOk (fun s =>
    let l := (gateUnits units.toNat).reverse.filter (fun u => bitAt (s.objN .pwrGated 0) (u - 192))
    if l = [] then s else s.beginRestart l ⟨1, none, 0⟩))

/-- PWR_DELAY_EXPIRE (R490, R491): the granted delay has elapsed and the unit is asked again. -/
def execPwrDelayExpire (n : Nat) (s : State) : Host.Outcome State Fault Refusal :=
  .next <|
    if s.pwr.waiting then
      let s := { s with pwr := { s.pwr with waiting := false } }
      s.askUnits n s.pwr.todo
    else s

/-! ### Final steps and wakes (R493 to R495) -/

/-- A channel loses its rail (R321, R493): OFF, and its contents are lost. -/
def State.ddrDown (s : State) (c : Nat) : State :=
  let s := (s.setObj .ddrState c ddrOff).setDdrCh c DdrSt.reset
  { s with
    mem := s.mem.filter (fun p => !(s.inDdr p.1 1 && decide (ddrChannel p.1 = c)))
    upsets := s.upsets.filter (fun p => !(keyOfCtrl (16 + c) p.1)) }

/-- The rails of S3 (R493, R503): DDR and the watch lanes off, and `PPS_OUT` pulled down. -/
def State.s3Down (s : State) : State :=
  let s := { s with pins := { s.pins with ppsOut := false } }
  let s := (List.range 8).foldl (fun (s : State) c => s.ddrDown c) s
  [0, 1].foldl (fun (s : State) l => if s.unitDown (218 + l) then s else (s.laneToOff l).sleepUnit (218 + l)) s

/-- The outputs of a device that is off (R503): no output is driven, and the pulled-up ones read high. -/
def Pins.off (p : Pins) : Pins :=
  { p with alertTherm := false, alertVin := false, pwrGood := false, pairFailOut := true, ppsOut := false }

/-- PWR_STATE_REACHED (R493, R494, R504): the final steps of a committed entry end; a held wake begins the exit at once. -/
def execPwrStateReached (s : State) : Host.Outcome State Fault Refusal :=
  .next <|
    if !s.pwr.committed then s
    else
      let t := s.pwr.target
      let s := { s with pwr := { s.pwr with target := 0, stopped := [], committed := false } }
      if t = 4 then
        let s := s.s3Down
        { s with pwr := { s.pwr with wakes := [], ran := [] }, pins := s.pins.off }
      else
        let s := if t = 3 then s.s3Down else s
        let w := s.obj .pwrWakeAt 0
        if t = 2 ∧ w ≠ 0 ∧ w ≤ s.now ∧ bitAt (s.objN .pwrWakeEn 0) 3 then
          let s := s.bumpIf (decide (s.pwr.wakes = [])) .pwrWakeAfterCommit 0
          s.assertWake 3
        else s.takeWake

/-- WAKE_N_ASSERTED (R495): the contact was low for 1 µs. -/
def execWakeNAsserted (s : State) : Host.Outcome State Fault Refusal := .next (s.assertWake 2)

/-- PWR_WAKE_AT_REACHED (R495): device time has reached `PWR_WAKE_AT`. -/
def execPwrWakeAtReached (s : State) : Host.Outcome State Fault Refusal :=
  .next (if s.obj .pwrWakeAt 0 ≠ 0 ∧ s.obj .pwrWakeAt 0 ≤ s.now then s.assertWake 3 else s)

/-! ### Device reset (R486, R496, R557) -/

/-- Numbers of the objects a device reset keeps. -/
def keptObjs (keep : ObjRow → Bool) : List Nat := (objRows.filter keep).map (fun r => r.obj.ctorIdx)

/-- Objects return to their defaults, but for those that are kept. -/
def State.resetObjs (s : State) (keep : ObjRow → Bool) : State :=
  let k := keptObjs keep
  { s with objs := s.objs.filter (fun p => k.contains (p.1 % 1024)), doms := s.doms.filter (fun p => k.contains (p.1 % 1024)) }

/-- Objects kept in the boot flash or OTP (R505, R506, R509, R513), which every reset keeps. -/
def inFlash (r : ObjRow) : Bool :=
  decide (r.obj = .startHallMask) || decide (r.obj = .startBlockMask) || decide (r.obj = .shKeyRevoked)
    || decide (r.obj = .shRollbackMin)

/-- Objects of Summerhouse and of the power controller's always-on part (R488, R496). -/
def inSummerhouse (r : ObjRow) : Bool :=
  inFlash r || decide (r.fam = 0x1200) || decide (r.fam = 0x1300) || (decide (0x6000 ≤ r.fam) && decide (r.fam ≤ 0x60FF))

/-- A device reset (R496, R557, R326; log entry 72): every structure starts empty, every unit but Summerhouse sleeps until the
ladder releases it. Kept: the queue, the logs of the model, the flash with its repair list and spares, units' epochs and
retirements, Summerhouse's records with the sessions it serves, and the controller. -/
def State.deviceReset (s : State) (keep : ObjRow → Bool) : State :=
  let o := s.resetObjs keep
  let z := State.reset
  { z with
    pending := s.pending, freeCtr := s.freeCtr, objs := o.objs, doms := o.doms, events := s.events, outbox := s.outbox
    units := s.units, pins := { s.pins with ppsOut := false, moduleFault := false, jtagOut := false }
    sparesUsed := s.sparesUsed, sppr := s.sppr, repairs := s.repairs, naps := s.naps, i3c := s.i3c, pwr := s.pwr
    therm := s.therm, sh := s.sh, flash := s.flash, eccLog := s.eccLog.filter (fun p => decide (p.1 / 64 = 25))
    upsets := s.upsets.filter (fun p => keyOfCtrl 25 p.1)
    pra := s.pra.filter (fun p => decide (256 ≤ p.1)), ulBufs := s.ulBufs.filter (fun p => decide (8192 ≤ p.1)) }

/-- Every unit of a list sleeps until it is released. -/
def State.sleepAll (s : State) (l : List Nat) : State :=
  l.foldl (fun (s : State) u =>
    if u < 208 then s.hallDown (u - 192)
    else if u < 210 then (s.enterSleep (u - 192)).sleepUnit u
    else if 300 ≤ u ∧ u < 314 then (quadLanes (u - 300)).foldl (fun (s : State) l => (s.laneToOff l).sleepUnit (218 + l)) s
    else s.sleepUnit u) s

/-! ### The start ladder (R497 to R501) -/

/-- The rung's condition to be left holds (R497, R511, R570, R320, R364). -/
def State.rungLeft (s : State) (rung : Nat) : Bool :=
  match rung with
  | 1 => decide (s.sh.slot ≠ 0)
  | 2 => decide (s.obj .timeOscFreq 0 ≠ 0)
  | 5 => (List.range 8).all (fun c => decide (s.obj .ddrState c ≠ ddrTraining))
  | 6 => (List.range 56).all (fun l => decide (s.laneMode l = 0) || decide (s.obj .laneState l ≠ laneOff)
      || decide ((s.unit (unitLane l)).st = unitRetired))
  | _ => true

/-- The ladder is done (R486, R549): the device is in S0 or S1. -/
def State.ladderDone (s : State) : State :=
  let s := s.setObj .startRung 0 0
  let s := s.setObj .pwrState 0 (if s.obj .pwrGated 0 = 0 then 0 else 1)
  { s with pwr := { s.pwr with ran := [] }, pins := { s.pins with pairFailOut := s.pins.moduleFault } }

/-- `START_RUNG` follows the ladder: the rung of the next step, once the present one may be left. -/
def State.rungSettle (s : State) : State :=
  match s.pwr.ladder with
  | [] => s.ladderDone
  | (r, _) :: _ => if s.objN .startRung 0 < r ∧ s.rungLeft (s.objN .startRung 0) then s.setObj .startRung 0 r else s

/-- A ladder is set up over the units of a list (R497): the rung of its first step is in progress. -/
def State.beginLadder (s : State) (l : List (Nat × Nat)) : State :=
  let s := { s with pwr := { s.pwr with ladder := l, exitDue := false, target := 0, todo := [], stopped := [], waiting := false
                                        committed := false } }
  match l with
  | [] => s.ladderDone
  | (r, _) :: _ => s.setObj .startRung 0 r

/-- The frequency `OSC_TIME` is taken for (R570), within ±200 ppm; 0 if none fits. `osc` is in kHz. -/
def oscFreq (osc : Nat) : Nat :=
  (([10, 20, 25] : List Nat).find? (fun f =>
    decide (osc * 5000 ≤ f * 1000 * 5001) && decide (f * 1000 * 4999 ≤ osc * 5000))).getD 0

/-- A unit is released by the ladder (R497): Summerhouse's boot ROM checks the images, the time unit its oscillator, and PCIe
releases `PWR_GOOD`. A retired unit stays out of service. -/
def State.ladderRelease (s : State) (u osc errA errB : Nat) : State :=
  let s := if (s.unit u).st = unitRetired then s else s.releaseUnit u
  if u = 279 then s.bootCheck errA errB
  else if u = 278 then s.setObj .timeOscFreq 0 (oscFreq osc)
  else if u = 276 then { s with pins := { s.pins with pwrGood := false } }
  else s

/-- The next unit of a rollback or a gate request restarts (R499, R500). -/
def State.restartStep (s : State) (b : PwrBack) : State :=
  match s.pwr.restart with
  | [] => s.restartDone b
  | u :: r =>
    let s := s.releaseUnit u
    let s := { s with pwr := { s.pwr with restart := r } }
    if r = [] then s.restartDone b else s

/-- START_LADDER_STEP (R497 to R501): input current below 90 % of the limit; the next unit of a rollback or gate request, or
of the ladder, is released, there if the present rung may be left. Rung 2's oscillator is counted again
while none has fitted. `errA`, `errB`: flash reads that fail in the boot ROM's checks. -/
def execStartLadderStep (iin osc errA errB : Nat) (s : State) : Host.Outcome State Fault Refusal :=
  .next <|
    if s.objN .startIinLimit 0 * 9 ≤ iin * 10 then s
    else if let some b := s.pwr.back then s.restartStep b
    else
      let s : State := if s.obj .startRung 0 = 2 ∧ s.obj .timeOscFreq 0 = 0 ∧ (s.unit unitTime).st ≠ unitSleeping then
          s.setObj .timeOscFreq 0 (oscFreq osc) else s
      match s.pwr.ladder with
      | [] => s
      | (r, u) :: rest =>
        if s.objN .startRung 0 < r ∧ s.rungLeft (s.objN .startRung 0) = false then s
        else
          let s := (s.setObj .startRung 0 r).ladderRelease u osc errA errB
          ({ s with pwr := { s.pwr with ladder := rest } }).rungSettle

/-- POWER_EXIT (R496, R500): the exit a wake made due: the units that ran restart in start-ladder order; from S3 the device is
reset first. -/
def execPowerExit (s : State) : Host.Outcome State Fault Refusal :=
  .next <|
    if !s.pwr.exitDue then s
    else
      let ran := s.pwr.ran
      let s : State := if s.obj .pwrState 0 = 3 then
          (s.deviceReset inSummerhouse).sleepAll ((ladderOrder.map (fun p => p.2)).filter (fun u => decide (u ≠ 279)))
        else s
      let s := (s.setObj .pwrState 0 (if s.obj .pwrGated 0 = 0 then 0 else 1)).lapSettle 25
      let s := { s with pwr := { s.pwr with wakes := [], ran := [] } }
      s.beginLadder (ladderOrder.filter (fun p => ran.contains p.2))

/-- The power-on ladder from rung `r` (R486, R497): the device is reset, and every unit from that rung on is released in turn,
but for the halls and blocks that `START_HALL_MASK` and `START_BLOCK_MASK` leave gated. -/
def State.powerOn (s : State) (r : Nat) : State :=
  let units := (ladderOrder.filter (fun p => decide (r ≤ p.1))).map (fun p => p.2)
  let s := s.sleepAll units
  let m := s.objN .startHallMask 0 + 65536 * s.objN .startBlockMask 0
  let s := s.setObj .pwrGated 0 m
  let s := { s with pins := { s.pins with pwrGood := true } }
  s.beginLadder (ladderOrder.filter (fun p =>
    decide (r ≤ p.1) && !(decide (192 ≤ p.2) && decide (p.2 < 210) && bitAt m (p.2 - 192))))

/-- The reset of a power-on (R486, R530, R585): `keep` besides what flash and OTP hold. -/
def State.coldReset (s : State) (keep : ObjRow → Bool) : State :=
  let s := s.deviceReset (fun r => inFlash r || keep r)
  { s with
    units := [], pins := { Pins.reset with pairFailOut := true }, naps := [], i3c := I3cSt.reset, therm := ThermSt.reset, sh := ShSt.reset, eccLog := []
    upsets := [], pra := [], ulBufs := [], pwr := { PwrSt.reset with vin := s.pwr.vin, en := s.pwr.en } }

/-! ### Supply and `PWR_EN` (R484, R486, R502) -/

/-- S4 without a handshake (R484, R502, R504): every rail is off. -/
def State.forceS4 (s : State) : State :=
  let s := (s.sleepAll (ladderOrder.map (fun p => p.2))).s3Down
  let s := (s.setObj .pwrState 0 4).setObj .startRung 0 0
  { s with
    pwr := { PwrSt.reset with vin := s.pwr.vin, en := s.pwr.en }, therm := ThermSt.reset, pins := s.pins.off }

/-- `ALERT_N` after a power-on, while VIN is below `PWR_VIN_WARN` (R484). -/
def State.vinAlert (s : State) : State :=
  { s with pins := { s.pins with alertVin := decide (s.obj .pwrVin 0 < s.obj .pwrVinWarn 0) } }

/-- VIN_RISE (R484, R497, R501, R585): VIN rises through 5.7 V; with `PWR_EN` high the power-on ladder starts. -/
def execVinRise (mv : Nat) (s : State) : Host.Outcome State Fault Refusal :=
  .next <|
    if s.pwr.vin ∨ mv < 5700 then s
    else
      let s := { s with pwr := { s.pwr with vin := true } }
      let s := s.setObj .thermTrips 0 0
      if s.pwr.en then
        (((s.coldReset (fun _ => false)).setObj .pwrVin 0 mv).powerOn 1).vinAlert
      else s.setObj .pwrVin 0 mv

/-- VIN_LOSS (R484): VIN falls below 5.4 V. -/
def execVinLoss (mv : Nat) (s : State) : Host.Outcome State Fault Refusal :=
  .next <|
    if s.pwr.vin ∧ mv < 5400 then
      let s := { s with pwr := { s.pwr with vin := false } }
      s.forceS4
    else s

/-- `ALERT_N` by VIN (R484): an event on each crossing of `PWR_VIN_WARN`, a count on each falling one. -/
def State.vinWarn (s : State) : State :=
  let low := decide (s.obj .pwrVin 0 < s.obj .pwrVinWarn 0)
  if low = s.pins.alertVin then s
  else
    let s := s.evt .vinWarn 0 (s.objN .pwrVin 0)
    let s := s.bumpIf low .pwrVinWarnings 0
    { s with pins := { s.pins with alertVin := low } }

/-- VIN_WARN_CROSSING (R484, R505): VIN and input current as measured. -/
def execVinWarnCrossing (mv ma : Nat) (s : State) : Host.Outcome State Fault Refusal :=
  .next <|
    if s.obj .pwrState 0 = 4 then s
    else (((s.setObj .pwrVin 0 mv).setObj .pwrIin 0 ma).setObj .pwrPin 0 ((mv * ma / 1000 : Nat) : Int)).vinWarn

/-- PWR_EN_FALL (R486, R502, R504, R582): S4 at once. -/
def execPwrEnFall (s : State) : Host.Outcome State Fault Refusal :=
  .next <|
    if s.pwr.en then
      let s := { s with pwr := { s.pwr with en := false } }
      s.forceS4
    else s

/-- PWR_EN_RISE (R486): from S4 with VIN present, the power-on ladder. -/
def execPwrEnRise (s : State) : Host.Outcome State Fault Refusal :=
  .next <|
    if s.pwr.en then s
    else
      let s := { s with pwr := { s.pwr with en := true } }
      if s.pwr.vin ∧ s.obj .pwrState 0 = 4 then
        ((s.coldReset (fun r => decide (r.obj = .thermTrips) || decide (r.obj = .pwrVin))).powerOn 1).vinAlert
      else s

end Sys2Proof.Machine
end

