-- ==== Sys2Proof/Machine/Pair.lean ====
section
/-! DEFINITION. Progress marks (R539), the redundant pair (R543, R544, R547 to R551), the role in a chain (R552) and the Stairway
(R554 to R557). -/

namespace Sys2Proof.Machine

/-! ### Progress marks (R539) -/

/-- PROGRESS_MARK (R539): an inline write of firmware in hall h. -/
def execProgressMark (h : Fin 16) (w : BitVec 128) (s : State) : Host.Outcome State Fault Refusal :=
  .next (s.progressMark h w.toNat)

/-- The latest mark of a job; all ones if none (R539, R561). -/
def State.markOf (s : State) (ring seq : Nat) : Nat :=
  match (s.journal.filter (fun e => decide (e.kind = 6) && decide (e.ring = ring) && decide (e.seq % 2 ^ 56 = seq))).getLast? with
  | some e => e.data
  | none => 0xFFFFFFFF

/-- REL_MARK_QUERY_WRITE (R539, R561): names the job whose mark a read returns. -/
def execRelMarkQueryWrite (a : Accessor) (v : BitVec 64) (s : State) : Host.Outcome State Fault Refusal :=
  .next (s.dictWrite a .relMarkQuery 0 v.toNat .ok (fun s => s.setObj .relMarkQuery 0 v.toNat))

/-! ### Forming and leaving a pair (R543, R544, R547) -/

/-- The reason `PAIR_MODE` = 1 is refused for (R3, R498, R543); 0 none. -/
def State.pairRefusal (s : State) : Nat :=
  if Config.orderCode = 2 then 1 else if s.peerMode = false then 2 else 0

/-- The own check of `PAIR_MODE` (R543, R552). -/
def State.pairModeCheck (s : State) (v : Nat) : Status :=
  if v = 0 then .ok
  else if s.pairRefusal ≠ 0 then .range
  else .unless (decide (s.obj .chainRole 0 = 0)) .state

/-- Pairing ends (R544): SINGLE, with nothing left to wait for. -/
def State.unpair (s : State) : State :=
  let s := (s.setObj .pairState 0 pairSingle).setObj .pairRole 0 0
  ({ s with pair := PairSt.reset }).ackAll

/-- PAIR_MODE_WRITE (R3, R498, R543, R544, R552, R563). -/
def execPairModeWrite (a : Accessor) (v : Nat) (s : State) : Host.Outcome State Fault Refusal :=
  .next <|
    let chk := s.pairModeCheck v
    let t := s.dictWrite a .pairMode 0 v chk (fun s =>
      let s := s.setObj .pairMode 0 v
      if v = 0 then s.unpair else s)
    if s.passes a .pairMode 0 v ∧ chk = .range then t.setObj .pairLastRefusal 0 (s.pairRefusal : Nat) else t

/-- The reason `PAIR_ROLE_REQ` is refused for (R543), with what the partner answers; 0 none. -/
def State.roleRefusal (s : State) (why : Nat) : Nat :=
  if s.peerMode = false then 2 else if 3 ≤ why then why else 0

/-- The own check of `PAIR_ROLE_REQ`: 1 leads, of a module in mode 1 that is SINGLE (log entry 78). -/
def State.roleCheck (s : State) (v why : Nat) : Status :=
  if v ≠ 1 then .range
  else if s.obj .pairMode 0 ≠ 1 ∨ s.obj .pairState 0 ≠ pairSingle then .state
  else .unless (decide (s.roleRefusal why = 0)) .range

/-- PAIR_ROLE_REQ (R543, R544, R547): this module leads, and JOINING begins with the bulk copy; it ends by PAIR_SYNC_COMPLETE. -/
def execPairRoleReq (a : Accessor) (v : Nat) (why : Fin 6) (s : State) : Host.Outcome State Fault Refusal :=
  .next <|
    let chk := s.roleCheck v why
    let t := s.dictWrite a .pairRoleReq 0 v chk (fun s =>
      let s := (s.setObj .pairRole 0 1).pairEnter pairJoining
      ({ s with pair := { s.pair with up := true, missed := 0 } }).syncStart)
    if s.passes a .pairRoleReq 0 v ∧ chk = .range ∧ v = 1 then t.setObj .pairLastRefusal 0 (s.roleRefusal why : Nat) else t

/-- PAIR_SYNC_COMPLETE (R544, R547): no SYNC frame of the primary is unacknowledged; the standby holds a full copy. -/
def execPairSyncComplete (s : State) : Host.Outcome State Fault Refusal :=
  .next (s.runAct .synced)

/-! ### Heartbeats and failure (R545, R549, R550) -/

/-- The payload of a HEARTBEAT (R549; layout in log entry 78). -/
def State.heartbeat (s : State) : List Byte :=
  let retired := (s.units.filter (fun p => decide (p.2.st = unitRetired))).length
  beBytes 1 (s.objN .pairRole 0) ++ beBytes 1 (s.objN .pairState 0) ++ beBytes 2 0 ++ beBytes 4 retired
    ++ beBytes 8 (s.jseqNext - 1) ++ beBytes 8 (toField 64 s.now) ++ beBytes 8 0

/-- PAIR_HEARTBEAT_TIMER (R545, R549): every `PAIR_HB_PERIOD` a HEARTBEAT is sent; it has FSEQ 0 and is never resent. -/
def execPairHeartbeatTimer (s : State) : Host.Outcome State Fault Refusal :=
  .next <|
    if s.obj .pairMode 0 = 1 ∧ s.peerMode then s.send (.dravut 1 0 s.dravutExpect (s.objN .pairEpoch 0) s.heartbeat) else s

/-- PAIR_HB_MISS (R544, R549): `PAIR_HB_MISS` heartbeats in a row are missing. -/
def execPairHbMiss (failIn : Bool) (s : State) : Host.Outcome State Fault Refusal :=
  .next (({ s with pair := { s.pair with missed := s.objN .pairHbMiss 0 } }).linkDown failIn)

/-- Every frame of a direction of the chain not yet acknowledged is sent again (R545, R553). -/
def State.munovResend (s : State) (down : Bool) : State :=
  let x := s.munovDir down
  x.sent.foldl (fun (s : State) f =>
    s.send (.munov down (linkFrame f.ty f.fseq x.expect (beNat (slice 0 4 f.payload)) (f.payload.drop 4)))) s

/-- DRAVUT_RESEND_TIMEOUT (R545, R553): every frame from the oldest unacknowledged FSEQ on is sent again, on the pair link and in both
directions of the chain. -/
def execDravutResendTimeout (s : State) : Host.Outcome State Fault Refusal :=
  .next
    (((s.dravutOut.foldl (fun (s : State) f =>
      s.send (.dravut f.ty f.fseq s.dravutExpect (s.objN .pairEpoch 0) f.payload)) s).munovResend false).munovResend true)

/-- The standby takes over (R550): primary and SOLO; the journal is replayed, so that work without a completion-gate entry runs
again and records from `CR_HEAD` on are written; vector 0 on every function; every write-back block. -/
def State.takeOver (s : State) : State :=
  let s := ({ s with dravutOut := [] }).setObj .pairRole 0 1
  let s := { s with pair := { s.pair with up := false } }
  let s := ((s.pairEnter pairSolo).bump .pairTakeovers 0).redoAll.releaseAgain (fun _ => true)
  let s := s.rewriteRecords
  let s := (List.range (s.objN .pcieNumVfs 0 + 1)).foldl (fun (s : State) fn => s.raiseVec fn 0) s
  ((List.range 256).filter (fun r => decide (s.obj .jrState r ≠ 0))).foldl (fun (s : State) r => s.jrWriteBack r) s

/-- TAKEOVER (R544, R550, R559): `PAIR_FAIL_IN` has been high for 200 ns: a PAIRED or JOINING standby takes over, unless it has
released its own line; a primary goes SOLO. -/
def execTakeover (s : State) : Host.Outcome State Fault Refusal :=
  .next <|
    if s.obj .pairState 0 ≠ pairJoining ∧ s.obj .pairState 0 ≠ pairPaired then s
    else if s.pins.pairFailOut then s
    else if s.obj .pairRole 0 = 2 then s.takeOver
    else s.linkDown true

/-! ### The chain's roles (R552) -/

/-- CHAIN_ROLE_WRITE (R552): the head is address 0; a member's address comes at the chain start, so it is free (log entry 80). -/
def execChainRoleWrite (a : Accessor) (v : Nat) (s : State) : Host.Outcome State Fault Refusal :=
  .next (s.dictWrite a .chainRole 0 v (.unless (decide (v = 0) || decide (s.obj .pairMode 0 = 0)) .state) (fun s =>
    let addr : Nat := if v = 1 then 0 else if v = 2 then 1 + Config.freeOf 45 [] % 63 else 255
    ((s.setObj .chainRole 0 v).setObj .chainAddr 0 addr)))

/-! ### The Stairway (R554 to R556) -/

/-- Fields of a request. -/
def swOp (m : Nat) : Nat := bits m 127 120
def swGroup (m : Nat) : Nat := bits m 119 112
def swReply (m : Nat) : Nat := bits m 111 104
def swPayload (m : Nat) : Nat := bits m 95 0

/-- A message as the Stairway delivers it: REPLY_QUEUE zero. -/
def swMsg (op group payload : Nat) : Nat := op * 2 ^ 120 + group * 2 ^ 112 + payload

/-- Entry g of the group table and its fields. -/
def State.stairGroup (s : State) (g : Nat) : Nat := leAt (8 * g) 8 (s.dom .stairGroupTable 0)
def sgValid (x : Nat) : Bool := bitAt x 63
def sgScope (x : Nat) : Nat := bits x 62 61
def sgQueue (x : Nat) : Nat := bits x 60 53
def sgCount (x : Nat) : Nat := bits x 47 32

/-- A request of a group that is not VALID, of SCOPE 3 on a device in no chain, or of a reserved OP (R554). -/
def State.stairBad (s : State) (m : Nat) : Bool :=
  let x := s.stairGroup (swGroup m)
  swOp m = 0 || decide (3 < swOp m) || !sgValid x || (decide (sgScope x = 3) && decide (s.obj .chainRole 0 = 0))

/-- A message on the pair's landing or along the chain (R545, R553, R554). -/
def State.stairPair (s : State) (m : Nat) : State := s.dravutSend 7 (beBytes 16 m) []
def State.stairChain (s : State) (down : Bool) (dst m : Nat) : State :=
  s.munovSend down 7 (munovAddrs dst (s.objN .chainAddr 0)) (beBytes 16 m)

/-- The module is one of two (R544). -/
def State.inPair (s : State) : Bool := decide (s.obj .pairState 0 = pairJoining) || decide (s.obj .pairState 0 = pairPaired)

/-- Whether the top landing of a scope is another device: the primary of a pair, or the head of a chain. -/
def State.landsAbove (s : State) (scope : Nat) : Bool :=
  (decide (scope = 2) && s.inPair && decide (s.obj .pairRole 0 = 2)) || (decide (scope = 3) && decide (s.obj .chainRole 0 = 2))

/-- Arrivals of a round are released: each hall's REPLY_QUEUE, and the device of each other arrival (source 16 the partner, 16
plus its address a member of the chain). -/
def State.stairRelease (s : State) (g : Nat) (l : List (Nat × Nat)) : State :=
  let m := swMsg 1 g 0
  l.foldl (fun (s : State) a =>
    if a.1 < 16 then s.stairSend a.1 a.2 m
    else if a.1 = 16 then s.stairPair m
    else s.stairChain true (a.1 - 16) m) s

/-- An arrival reaches the top landing of its group: the round that COUNT arrivals fill is released, and the next opens (R555). -/
def State.stairArrive (s : State) (g : Nat) (a : Nat × Nat) : State :=
  let l := tabGet [] s.stair g ++ [a]
  let n := sgCount (s.stairGroup g)
  if 1 ≤ n ∧ n ≤ l.length then
    ({ s with stair := tabSet [] s.stair g (l.drop n) }).stairRelease g (l.take n)
  else { s with stair := tabSet [] s.stair g l }

/-- A barrier arrival of a hall: at the top landing here, or handed to the device above and kept for its release. -/
def State.stairBarrier (s : State) (h m : Nat) : State :=
  let g := swGroup m
  let scope := sgScope (s.stairGroup g)
  if s.landsAbove scope then
    let s := { s with stair := tabSet [] s.stair g (tabGet [] s.stair g ++ [(h, swReply m)]) }
    if scope = 2 then s.stairPair m else s.stairChain false 0 m
  else s.stairArrive g (h, swReply m)

/-- A broadcast reaches this device's halls: those that run (R555). -/
def State.stairDeliver (s : State) (g payload : Nat) (halls : List Nat) : State :=
  (halls.filter (fun h => decide ((s.unit (unitHall h)).st = unitRunning))).foldl (fun (s : State) h =>
    s.stairSend h (sgQueue (s.stairGroup g)) (swMsg 2 g payload)) s

/-- A request goes on to the other devices of its scope. -/
def State.stairOthers (s : State) (scope m : Nat) : State :=
  if scope = 2 then (if s.inPair then s.stairPair m else s)
  else if scope = 3 then (s.stairChain true 63 m).stairChain false 63 m
  else s

/-- A snapshot is armed for a time (R556). -/
def State.stairArm (s : State) (t : Int) : State := { s with stairSnap := { s.stairSnap with armed := s.stairSnap.armed ++ [t] } }

/-- The head of a hall's Stairway queue is taken for an OP: a bad request is discarded and counted by whichever command meets it
(R554). -/
def State.takeStair (s : State) (h op : Nat) (f : Nat → State → State) : State :=
  match s.engHead h 13 with
  | some (_, m) =>
    if s.engUp h 13 = false then s
    else if s.stairBad m then (s.engPop h 13).bump .stairBad 0
    else if swOp m = op then f m (s.engPop h 13)
    else s
  | none => s

/-- BARRIER (R554, R555). -/
def execBarrier (h : Fin 16) (s : State) : Host.Outcome State Fault Refusal :=
  .next (s.takeStair h 1 (fun m s => s.stairBarrier h m))

/-- BROADCAST (R554, R555): to DELIVER_QUEUE in every hall of the scope, and a completion to REPLY_QUEUE once every hall has taken it
(log entry 80). -/
def execBroadcast (h : Fin 16) (s : State) : Host.Outcome State Fault Refusal :=
  .next (s.takeStair h 2 (fun m s =>
    let g := swGroup m
    let scope := sgScope (s.stairGroup g)
    let s := s.stairDeliver g (swPayload m) (if scope = 0 then [h.val] else List.range 16)
    let s := s.stairOthers scope (swMsg 2 g (swPayload m))
    ({ s with stairDone := s.stairDone ++ [(h.val, swReply m, swMsg 2 g (swPayload m))] }).stairSettle))

/-- SNAPSHOT_ARM (R554, R556). -/
def execSnapshotArm (h : Fin 16) (s : State) : Host.Outcome State Fault Refusal :=
  .next (s.takeStair h 3 (fun m s =>
    (s.stairArm (signExt 64 (swPayload m))).stairOthers (sgScope (s.stairGroup (swGroup m)))
      (swMsg 3 (swGroup m) (swPayload m))))

/-- STAIR_SNAPSHOT_LATCH (R556): device time has reached an armed time. -/
def execStairSnapshotLatch (s : State) : Host.Outcome State Fault Refusal :=
  .next <|
    if s.stairSnap.armed.any (fun t => decide (t ≤ s.now)) then
      let s := s.latchSnapshot
      { s with stairSnap := { s.stairSnap with armed := s.stairSnap.armed.filter (fun t => decide (s.now < t)) } }
    else s

/-! ### Resets (R557) -/

/-- The device is reset as at power-on from rung 2 on; Summerhouse, OTP and the boot flash are kept. -/
def State.stairResetNow (s : State) : State :=
  let s := (s.deviceReset inSummerhouse).setObj .pwrState 0 0
  ({ s with pins := { s.pins with pairFailOut := true }, pwr := { PwrSt.reset with vin := s.pwr.vin, en := s.pwr.en } }).powerOn 2

/-- STAIR_RESET_DEVICE (R557, R563). -/
def execStairResetDevice (a : Accessor) (s : State) : Host.Outcome State Fault Refusal :=
  .next (s.dictWrite a .stairReset 0 1 .ok (fun s => s.stairResetNow))

/-- STAIR_RESET_PAIR (R557): both modules; pairing ends, as `PAIR_MODE` returns to 0. The partner learns of it in a STAIRWAY frame
(log entry 80). -/
def execStairResetPair (a : Accessor) (s : State) : Host.Outcome State Fault Refusal :=
  .next (s.dictWrite a .stairReset 0 2 .ok (fun s =>
    (if s.inPair then s.stairPair (swMsg 0xF2 0 0) else s).stairResetNow))

/-- STAIR_RESET_CHAIN (R557): at the head only, and every member. -/
def execStairResetChain (a : Accessor) (s : State) : Host.Outcome State Fault Refusal :=
  .next (s.dictWrite a .stairReset 0 3 (.unless (decide (s.obj .chainRole 0 = 1)) .state) (fun s =>
    (s.stairChain true 63 (swMsg 0xF3 0 0)).stairResetNow))

end Sys2Proof.Machine
end

