-- ==== Sys2Proof/Machine/SchedCalls.lean ====
section
/-! DEFINITION. The commands of the hall scheduler (R131 to R157): its calls, each issued by a core beside NOP, and
the events it takes. -/

namespace Sys2Proof.Machine

/-- A scheduler call by core c with Dd and Ds (R131). -/
def State.call (s : State) (c sub dd ds : Nat) : State := s.issueSolo c 3 (.sched sub (16 * dd + ds))

/-- SCH_SWITCH (R137). -/
def execSchSwitch (c : Fin 192) (d a : Fin 16) (s : State) : Host.Outcome State Fault Refusal := .next (s.call c 0x08 d a)

/-- SCH_YIELD (R131, R135). -/
def execSchYield (c : Fin 192) (d a : Fin 16) (s : State) : Host.Outcome State Fault Refusal := .next (s.call c 0x09 d a)

/-- SCH_EXIT (R147). -/
def execSchExit (c : Fin 192) (d a : Fin 16) (s : State) : Host.Outcome State Fault Refusal := .next (s.call c 0x0A d a)

/-- SCH_CREATE (R131, R588). -/
def execSchCreate (c : Fin 192) (d a : Fin 16) (s : State) : Host.Outcome State Fault Refusal := .next (s.call c 0x0B d a)

/-- SCH_KILL (R147). -/
def execSchKill (c : Fin 192) (d a : Fin 16) (s : State) : Host.Outcome State Fault Refusal := .next (s.call c 0x0C d a)

/-- SCH_SET_PRIO (R136). -/
def execSchSetPrio (c : Fin 192) (d a : Fin 16) (s : State) : Host.Outcome State Fault Refusal := .next (s.call c 0x0D d a)

/-- SCH_DELAY (R139). -/
def execSchDelay (c : Fin 192) (d a : Fin 16) (s : State) : Host.Outcome State Fault Refusal := .next (s.call c 0x0E d a)

/-- SCH_DELAY_UNTIL (R139). -/
def execSchDelayUntil (c : Fin 192) (d a : Fin 16) (s : State) : Host.Outcome State Fault Refusal := .next (s.call c 0x0F d a)

/-- SCH_SEM_TAKE (R144 to R146). -/
def execSchSemTake (c : Fin 192) (d a : Fin 16) (s : State) : Host.Outcome State Fault Refusal := .next (s.call c 0x10 d a)

/-- SCH_SEM_TRY (R144 to R146). -/
def execSchSemTry (c : Fin 192) (d a : Fin 16) (s : State) : Host.Outcome State Fault Refusal := .next (s.call c 0x11 d a)

/-- SCH_SEM_GIVE (R144, R146). -/
def execSchSemGive (c : Fin 192) (d a : Fin 16) (s : State) : Host.Outcome State Fault Refusal := .next (s.call c 0x12 d a)

/-- SCH_SEM_INIT (R144, R146). -/
def execSchSemInit (c : Fin 192) (d a : Fin 16) (s : State) : Host.Outcome State Fault Refusal := .next (s.call c 0x13 d a)

/-- SCH_MSG_SEND (R142, R143). -/
def execSchMsgSend (c : Fin 192) (d a : Fin 16) (s : State) : Host.Outcome State Fault Refusal := .next (s.call c 0x14 d a)

/-- SCH_MSG_TRY_SEND (R142, R143). -/
def execSchMsgTrySend (c : Fin 192) (d a : Fin 16) (s : State) : Host.Outcome State Fault Refusal := .next (s.call c 0x15 d a)

/-- SCH_MSG_RECV (R142, R143). -/
def execSchMsgRecv (c : Fin 192) (d a : Fin 16) (s : State) : Host.Outcome State Fault Refusal := .next (s.call c 0x16 d a)

/-- SCH_MSG_TRY_RECV (R142, R143). -/
def execSchMsgTryRecv (c : Fin 192) (d a : Fin 16) (s : State) : Host.Outcome State Fault Refusal := .next (s.call c 0x17 d a)

/-- SCH_QUEUE_SET (R142). -/
def execSchQueueSet (c : Fin 192) (d a : Fin 16) (s : State) : Host.Outcome State Fault Refusal := .next (s.call c 0x18 d a)

/-- SCH_SOFT_INT (R131). -/
def execSchSoftInt (c : Fin 192) (d a : Fin 16) (s : State) : Host.Outcome State Fault Refusal := .next (s.call c 0x19 d a)

/-- SCH_TRACE (R154). -/
def execSchTrace (c : Fin 192) (d a : Fin 16) (s : State) : Host.Outcome State Fault Refusal := .next (s.call c 0x1A d a)

/-- SCH_TICK (R140): every due entry of the hall's delay list joins its ready list, in list order, before any
dispatch or preemption is decided. -/
def execSchTick (h : Fin 16) (s : State) : Host.Outcome State Fault Refusal :=
  .next <|
    let cur := s.tick48 h
    let due := (s.sch h).delay.filter (fun g => reachedTick cur (s.tWake g))
    if due.isEmpty then s
    else
      let s := s.setDelay h ((s.sch h).delay.filter (fun g => !due.contains g))
      (due.foldl (fun s g => s.endWait g 0 none) s).settle h due

/-- SCH_REMOTE_OP (R143 to R148): the oldest operation on its way from hall `src` to hall h is performed; the calling
thread gets its status, or waits. -/
def execSchRemoteOp (h src : Fin 16) (s : State) : Host.Outcome State Fault Refusal :=
  .next <|
    let x := s.sch h
    match x.inbound.find? (fun o => decide (hallOfThread o.thread = src)) with
    | none => s
    | some o =>
      let c := 12 * src.val + s.tLastCore o.thread
      let s := s.setSch h { x with inbound := x.inbound.erase o }
      if s.thread c = some o.thread then
        let s := s.setCore c { s.core c with callWait := false }
        let r := s.performOp o
        (r.1.finishOp c o r.2).takeHalt c
      else s

/-- The chain of R149 from a thread: the threads in it, the last first. Where a thread repeats, the end is the last one that the chain
had not met (DESIGN CHOICE, log entry 97). -/
def State.waitChain (s : State) : Nat → List Nat → List Nat
  | 0, l => l
  | f + 1, l =>
    match l with
    | [] => []
    | g :: r =>
      if s.tState g = thWaiting ∧ s.tWaitKind g = 2 then
        let x := s.sem (s.tWaitObj g)
        if x.kind = 1 then
          match x.owner with
          | some o => if (g :: r).contains o then l else s.waitChain f (o :: g :: r)
          | none => l
        else l
      else l

/-- Whether the watchdog examines a waiting thread (R149): a semaphore or send wait, or a receive on a WATCH queue. -/
def State.watched (s : State) (g : Nat) : Bool :=
  decide (s.tState g = thWaiting) &&
    (decide (s.tWaitKind g = 2) || decide (s.tWaitKind g = 4)
      || (decide (s.tWaitKind g = 3) && bitAt (s.queue (s.tWaitObj g)).setting 13))

/-- One over-long wait reported (R149). -/
def State.wdReport (s : State) (h g : Nat) : State :=
  let ch := s.waitChain 65536 [g]
  let s := (s.setObj .schWdLastThread h ((g % 4096 : Nat) : Int)).setObj .schWdLastKind h (s.tWaitKind g)
  let s := (s.setObj .schWdLastObj h (s.tWaitObj g)).setObj .schWdLastChainLen h ch.length
  let s := (s.setObj .schWdLastChainEnd h (((ch.headD g) % 4096 : Nat) : Int)).bump .schWdReports h
  let s := (s.schTraceRec h 0x0C 15 (some g) (s.tWaitObj g)).evt .schWatchdog h (g % 4096)
  s.setSch h { s.sch h with reported := g :: (s.sch h).reported }

/-- SCH_WD_CHECK (R149): every watched thread of the hall that has waited longer than `SCH_WD_LIMIT` is reported
once for that wait, in ascending thread number, so that the last stays in `SCH_WD_LAST` (DESIGN CHOICE, log entry 97). -/
def execSchWdCheck (h : Fin 16) (s : State) : Host.Outcome State Fault Refusal :=
  .next <|
    if s.obj .schWdEn h = 0 then s
    else
      let x := s.sch h
      let late := (x.waits.map (fun p => p.1)).filter (fun g =>
        s.watched g && !x.reported.contains g
          && decide (s.obj .schWdLimit h < s.now - tabGet 0 x.since g))
      late.foldl (fun s g => s.wdReport h g) s

/-- SCH_TICK_NS_WRITE (R141): accepted only while the hall is gated. -/
def execSchTickNsWrite (a : Accessor) (h : Fin 16) (v : Nat) (s : State) : Host.Outcome State Fault Refusal :=
  .next (s.dictWrite a .schTickNs h v (.unless (decide (s.obj .hallPaceState h = paceSleep)) .state)
    (fun s => s.setObj .schTickNs h v))

/-- SCH_PMEM_LOAD (R150): the named cores are stopped from dispatch; those halted or faulted are skipped. A write
while a load is under way replaces it, and idle cores it no longer names are dispatched to (log entry 35). -/
def execSchPmemLoad (a : Accessor) (h : Fin 16) (v : Nat) (s : State) : Host.Outcome State Fault Refusal :=
  .next (s.dictWrite a .schPmemLoad h v .ok (fun s =>
    let named := (List.range 12).filter (fun i => bitAt v (52 + i))
    let skip := named.filter (fun i =>
      decide (s.obj .coreState (12 * h + i) = coreHaltedDebug) || decide (s.obj .coreState (12 * h + i) = coreHaltedFault))
    let todo := named.filter (fun i => !skip.contains i)
    let s := s.setSch h { s.sch h with loading := todo, loadSrc := bits v 47 3 * 8 }
    (s.dispatchHall h).setObj .schPmemState h (((if todo.isEmpty then 0x2000 else 0x1000) + (skip.foldl (fun n i => n + 2 ^ i) 0) : Nat) : Int)))

/-- 96 KiB copied from a global address into a core's program memory (R150): each word is read by demand and rewrites its word; a
word that the source delivers poisoned, or does not hold, is not written, as R296 has a WRITE do (log entry 35). -/
def State.copyPmem (s : State) (c src : Nat) : State :=
  (List.range 12288).foldl (fun (t : State) i =>
    let a := src + 8 * i
    if s.reachable a 8 && !s.isPoison (.global a) then
      (t.wordWritten (.core c (8 * i))).writeCore c (8 * i) (s.readMem a 8)
    else t) (s.demandWords src 0 12288)

/-- PMEM_CORE_LOAD (R150): a named core that is IDLE takes its 96 KiB and is dispatched to again. -/
def execPmemCoreLoad (c : Fin 192) (s : State) : Host.Outcome State Fault Refusal :=
  .next <|
    let h := c.val / 12
    let x := s.sch h
    if x.loading.contains (c.val % 12) = true ∧ s.obj .coreState c = coreIdle then
      let s := s.copyPmem c x.loadSrc
      let rest := x.loading.filter (fun i => decide (i ≠ c.val % 12))
      let s := s.setSch h { s.sch h with loading := rest }
      let s := if rest.isEmpty then s.setObj .schPmemState h (s.obj .schPmemState h % 0x1000 + 0x2000) else s
      s.dispatch c
    else s

end Sys2Proof.Machine
end

