-- ==== Sys2Proof/Machine/Thermal.lean ====
section
/-! DEFINITION. Junction sensors, the thermal warning and trip (R580 to R582, R589), and the test access port (R577). Sensors 0 to
15 are the halls, 16 and 17 the West and East blocks, 18 the I/O die; readings are in 0.125 °C. -/

namespace Sys2Proof.Machine

/-- Whether a sensor runs (R589; log entry 74): its unit has its rail, or, for the I/O die, the device is in S0 to S2. -/
def State.sensorOn (s : State) (i : Nat) : Bool :=
  if i < 18 then decide ((s.unit (192 + i)).st ≠ unitSleeping) && decide (s.obj .pwrState 0 ≤ 1)
  else decide (s.obj .pwrState 0 ≤ 2)

/-- The latest sample of a sensor. -/
def State.sensorTj (s : State) (i : Nat) : Int := if i < 18 then s.obj .hallTj i else s.obj .thermIoTj 0

/-- A sample of one sensor: shown, and for a hall or block tested against `HALL_HOT_HOLD` (R46). -/
def State.sampleOne (s : State) (i : Nat) (tj : Int) : State :=
  if i < 18 then (s.setObj .hallTj i tj).hotTest i else s.setObj .thermIoTj 0 tj

/-- The warning by `THERM_TJ_MAX` (R580): counted, with an event, at each rising crossing; cleared 2 °C below. -/
def State.thermTest (s : State) : State :=
  let m := s.obj .thermTjMax 0
  let w := s.obj .thermWarn 0
  if s.pins.alertTherm = false ∧ w ≤ m then
    let s := (s.bump .thermWarnings 0).evt .thermWarn 0 (toField 16 m)
    { s with pins := { s.pins with alertTherm := true } }
  else if s.pins.alertTherm ∧ m ≤ w - 16 then { s with pins := { s.pins with alertTherm := false } }
  else s

/-- Consecutive samples of sensor i at 118 °C or more (R581, R589). -/
def State.hotRun (s : State) (i : Nat) (tj : Int) : State :=
  { s with therm := { s.therm with
      runs := tabSet 0 s.therm.runs i (if 944 ≤ tj then min 10 (tabGet 0 s.therm.runs i + 1) else 0) } }

/-- The units that run, in start-ladder order, as the exit after a trip restarts them (R496, R581). -/
def State.runningUnits (s : State) : List Nat :=
  (ladderOrder.map (fun p => p.2)).filter (fun u => decide (u ≠ 279) && (!s.pwrDown 3 u || s.pwr.ran.contains u))

/-- The thermal trip (R581, R582): every rail but `VDD_SH` off without a handshake, S3, the wakes held for 60 s. -/
def State.thermTrip (s : State) (i : Nat) (tj : Int) : State :=
  let ran := s.runningUnits
  let s := (s.sleepAll ((ladderOrder.map (fun p => p.2)).filter (fun u => decide (u ≠ 279)))).s3Down
  let s := (s.setObj .pwrState 0 3).setObj .startRung 0 0
  let s := (s.setObj .thermLastTrip 0 ((i * 65536 + toField 16 tj : Nat) : Int)).bump .thermTrips 0
  { s with
    pwr := { PwrSt.reset with vin := s.pwr.vin, en := s.pwr.en, ran := ran }, therm := ⟨[], true⟩
    pins := { s.pins with pwrGood := true, pairFailOut := true } }

/-- THERMAL_SAMPLE (R589): every running sensor is sampled, and the three tests are made. -/
def execThermalSample (tj : List Int) (s : State) : Host.Outcome State Fault Refusal :=
  .next <|
    let on := (List.range 19).filter (fun i => s.sensorOn i && decide (i < tj.length))
    if on = [] then s
    else
      let s := on.foldl (fun (s : State) i => (s.sampleOne i (tj.getD i 0)).hotRun i (tj.getD i 0)) s
      let s := s.setObj .thermTjMax 0 ((on.map s.sensorTj).foldl max (-32768))
      let s := s.thermTest
      match on.find? (fun i => decide (10 ≤ tabGet 0 s.therm.runs i)) with
      | some i => s.thermTrip i (tj.getD i 0)
      | none => s

/-- THERM_TRIP_HOLD_END (R581): 60 s after the trip; a wake held is taken now. -/
def execThermTripHoldEnd (s : State) : Host.Outcome State Fault Refusal :=
  .next <|
    if s.therm.hold then
      let s := { s with therm := { s.therm with hold := false } }
      s.takeWake
    else s

/-- THERM_WARN_WRITE (R580, R582): the level is in force at once, and the warning follows it. -/
def execThermWarnWrite (a : Accessor) (v : Int) (s : State) : Host.Outcome State Fault Refusal :=
  .next (s.dictWrite a .thermWarn 0 v .ok (fun s => (s.setObj .thermWarn 0 v).thermTest))

/-- JTAG_INSTRUCTION (R577), in S0 and S1 only: IDCODE shifts out 0x2966_054F; an instruction other than BYPASS and IDCODE
takes the device out of service. -/
def execJtagInstruction (ins : Fin 3) (s : State) : Host.Outcome State Fault Refusal :=
  .next <|
    if 1 < s.obj .pwrState 0 ∨ s.obj .startRung 0 ≠ 0 then s
    else if ins = 1 then s.send (.jtag 0x2966054F)
    else if ins = 2 then { s with pins := { s.pins with jtagOut := true } }
    else s

end Sys2Proof.Machine
end

