-- ==== Sys2Proof/Machine/Switch.lean ====
section
/-! DEFINITION. Receiving frames: flow control (R384, R385), host receive rings (R387 to R391), forwarding (R395, R412)
and the classification of the fronthaul switch (R374, R375, R393 to R396). -/

namespace Sys2Proof.Machine

/-! ### Flow control (R384, R385) -/

/-- A PAUSE or PFC frame with the XOFF and XON priorities that wait (R384); under PAUSE the quanta alone. -/
def State.fcFrame (s : State) (p : Nat) : List Byte :=
  let x := s.port p
  let q := s.objN .ethFcQuanta p
  let head := beBytes 6 0x0180C2000001 ++ beBytes 6 (s.objN .ethMacAddr p) ++ beBytes 2 0x8808
  padded (if s.obj .ethFcMode p = 1 then head ++ beBytes 2 1 ++ beBytes 2 (if x.xoff ≠ 0 then q else 0)
    else head ++ beBytes 2 0x0101 ++ beBytes 2 (x.xoff ||| x.xon)
      ++ (List.range 8).flatMap (fun k => beBytes 2 (if bitAt x.xoff k then q else 0)))

/-- The flow-control frame that waits is sent (R384), ahead of every queue; an XOFF is counted. -/
def State.fcSend (s : State) (p : Nat) : State :=
  let x := s.port p
  if x.xoff = 0 ∧ x.xon = 0 then s
  else
    let s := (s.bumpIf (decide (x.xoff ≠ 0)) .ethFcXoffSent p).send (.eth p (s.fcFrame p) s.now false)
    s.setPort p { s.port p with xoff := 0, xon := 0 }

/-- A queue stopped for a number of quanta of 512 bit times (R384, R385); 0 restarts it. -/
def State.stopQueue (s : State) (p q quanta : Nat) : State :=
  let ns := quanta * 512000 / max 1 (s.objN .ethPortRate p)
  let x := s.port p
  s.setPort p { x with stopped := tabSet 0 x.stopped q (if quanta = 0 then 0 else s.now + ns) }

/-- A received MAC Control frame (R385): counted; PAUSE acts in mode 1, PFC in mode 2, on the queues that honour it. -/
def State.macControl (s : State) (p : Nat) (l : List Byte) : State :=
  let o := payloadAt l
  let op := be16At o l
  let s := s.bumpIf (decide (op = 1) || decide (op = 0x0101)) .ethFcRxPauses p
  let honor := s.objN .ethFcHonor p
  if op = 1 ∧ s.obj .ethFcMode p = 1 then
    (maskList 8 honor).foldl (fun s q => s.stopQueue p q (be16At (o + 2) l)) s
  else if op = 0x0101 ∧ s.obj .ethFcMode p = 2 then
    let v := be16At (o + 2) l
    (maskList 8 honor).foldl (fun s q =>
      let k := s.objN .ethQueuePcp p / 8 ^ q % 8
      if bitAt v k then s.stopQueue p q (be16At (o + 4 + 2 * k) l) else s) s
  else s

/-- ETH_PAUSE_REFRESH (R384): every half quanta time the XOFF is sent again while the occupancy stays above
`ETH_XON_WM`; fallen to it, the XON is. -/
def execEthPauseRefresh (p : Fin 48) (occ : List Nat) (s : State) : Host.Outcome State Fault Refusal :=
  .next (
    let s := s.fcEval p occ
    let x := s.port p
    s.setPort p { x with xoff := x.xoff ||| s.objN .ethXoffState p })

/-- ETH_PAUSE_EXPIRE (R385): a pause time that has run out restarts its queue. -/
def execEthPauseExpire (p : Fin 48) (q : Fin 8) (s : State) : Host.Outcome State Fault Refusal :=
  .next (
    let x := s.port p
    if tabGet 0 x.stopped q ≤ s.now then s.setPort p { x with stopped := tabSet 0 x.stopped q 0 } else s)

/-! ### Host receive rings (R387 to R391) -/

/-- The ports of a ring follow it (R391). -/
def State.erxPortsEval (s : State) (r : Nat) : State :=
  (maskList 48 (s.objN .erxPorts r)).foldl (fun (s : State) p =>
    if s.obj .ethPortState p = portUp then s.fcEval p (s.port p).occ else s) s

/-- A ring enabled or disabled (R387, R391): it has no posted descriptor, and counts as full while it is enabled. -/
def State.erxRestart (s : State) (r : Nat) : State :=
  (s.setErx r { ErxSt.reset with low := decide (s.obj .erxEnable r ≠ 0) && decide (0 < s.obj .erxXoff r) }).erxPortsEval r

/-- The ring's free descriptors compared with `ERX_XOFF` and `ERX_XON` (R391); its ports follow. -/
def State.erxLevel (s : State) (r : Nat) : State :=
  let x := s.erxRing r
  let n : Int := x.addrs.length
  let low := if x.low then decide (n < s.obj .erxXon r) else decide (n < s.obj .erxXoff r)
  if low = x.low then s
  else
    let s := (s.setErx r { x with low := low }).bumpIf low .erxXoffEvents r
    s.erxPortsEval r

/-- What a frame's descriptors tell (R388). -/
structure RxMeta where
  flags : Nat
  filter : Nat
  dflt : Bool
  deriving DecidableEq, Repr

/-- The bytes of a frame moved to the buffers of the posted descriptors, as they arrive (R389). -/
def State.erxMove (s : State) (r : Nat) : List Nat → List Byte → State
  | [], _ => s
  | a :: as, l =>
    let size := s.objN .erxBufSize r
    if l = [] then s else (s.send (.host (s.objN .erxOwner r) a (l.take size))).erxMove r as (l.drop size)

/-- The descriptors of a frame written back in ring order, after its bytes (R388, R389). -/
def State.erxWrite (s : State) (r p : Nat) (f : RxFrame) (m : RxMeta) (total : Nat) :
    Nat → List Nat → List Byte → Bool → State
  | _, [], _, _ => s
  | pos, a :: as, l, first =>
    let size := s.objN .erxBufSize r
    let chunk := l.take size
    let rest := l.drop size
    let last := decide (rest = [])
    let fn := s.objN .erxOwner r
    let d := a * 2 ^ 192 + (if last then total else 0) * 2 ^ 160 + (if first then toField 64 (f.arrival + s.ingLat p) else 0) * 2 ^ 96
      + 2 ^ 63 + (if first then 2 ^ 62 else 0) + (if last then 2 ^ 61 else 0) + m.flags
      + (if tagCount f.body ≠ 0 then 2 ^ 56 else 0) + framePcp f.body * 2 ^ 53 + frameVid f.body * 2 ^ 41 + p * 2 ^ 35
      + m.filter * 2 ^ 27 + (if m.dflt then 2 ^ 26 else 0) + chunk.length
    let s := s.send
      (.host fn (s.objN .erxBase r + 32 * (pos % max 1 (s.objN .erxCount r))) (leBytes 32 d))
    s.erxWrite r p f m total (pos + 1) as rest false

/-- A frame delivered to a host ring (R389, R390): whole, or dropped for want of descriptors. -/
def State.erxDeliver (s : State) (r p : Nat) (f : RxFrame) (m : RxMeta) : State :=
  let fcs := if f.fcs then fcsOf f.body else s.freeBytes 4
  let all := f.body ++ fcs
  let stored := if bitAt m.flags 59 then all.take (s.frameLimit p f.body) else all
  let n := ceilDiv stored.length (max 1 (s.objN .erxBufSize r))
  let x := s.erxRing r
  if s.obj .erxEnable r = 0 then s.bump .erxNoBuf r
  else if x.addrs.length < n then (s.erxMove r x.addrs stored).bump .erxNoBuf r
  else
    let s := (s.erxMove r (x.addrs.take n) stored).erxWrite r p f m stored.length x.pos (x.addrs.take n) stored true
    let s := s.setErx r { x with pos := (x.pos + n) % 2 ^ 32, addrs := x.addrs.drop n }
    ((s.bump .erxFrames r).raiseVec (s.objN .erxOwner r) 1).erxLevel r

/-- ETH_RX_RING_DOORBELL (R387, R433): the owner posts descriptors up to `v`; anything else is ignored and counted. -/
def execEthRxRingDoorbell (fn r : Fin 64) (v : Nat) (addrs : List Nat) (s : State) : Host.Outcome State Fault Refusal :=
  .next (
    let x := s.erxRing r
    if (s.unit unitPcie).st ≠ unitRunning then s
    else if s.objN .erxOwner r ≠ fn.val ∨ s.obj .erxEnable r = 0 then s.bump .pcieDbIgnored 0
    else
      let n := (v + 2 ^ 32 - x.posted) % 2 ^ 32
      (s.setErx r { x with posted := v % 2 ^ 32, addrs := x.addrs ++ (List.range n).map (fun i => addrs.getD i 0) }).erxLevel r)

/-! ### Forwarding (R395, R412) -/

/-- Entry i of the forwarding table. -/
def State.fwdEntry (s : State) (i : Nat) : Nat := leAt (16 * i) 16 (s.dom .swFwdTable 0)

/-- A forwarding entry matches a frame that came in on a port. -/
def fwdMatches (x p : Nat) (l : List Byte) : Bool :=
  bitAt x 127 && decide (bits x 126 121 ≠ p) && decide (bits x 107 60 = frameDst l)
  && (if bitAt x 120 then decide (tagCount l ≠ 0) && decide (bits x 119 108 = frameVid l) else decide (tagCount l = 0))

/-- Egress ports a frame is forwarded to: that of the lowest entry that matches, or of each for a group address. -/
def State.fwdPorts (s : State) (p : Nat) (l : List Byte) (group : Bool) : List Nat :=
  let m := ((List.range 256).map s.fwdEntry).filter (fun x => fwdMatches x p l)
  (if group then m else m.take 1).map (fun x => bits x 126 121)

/-- Offset of a PTP message and whether it is in UDP over IPv4; none for another frame. Version 6 answers offset 0. -/
def ptpAt (l : List Byte) : Option (Nat × Nat) :=
  let o := payloadAt l
  if etherType l = 0x88F7 then some (o, 0)
  else if etherType l = 0x0800 ∧ (l.getD (o + 9) 0).toNat = 17 then
    let u := o + 4 * ((l.getD o 0).toNat % 16)
    if be16At (u + 2) l = 319 ∨ be16At (u + 2) l = 320 then some (u + 8, 4) else none
  else if etherType l = 0x86DD ∧ (l.getD (o + 6) 0).toNat = 17 ∧ (be16At (o + 42) l = 319 ∨ be16At (o + 42) l = 320) then
    some (o + 48, 6)
  else none

/-- Residence time added to the correctionField of a forwarded PTP event message from port i at port p (R411, R412), in 2^−16 ns; in IPv4 the UDP
checksum is set to zero; over IPv6 it is forwarded unchanged and counted. -/
def State.tcCorrect (s : State) (p i : Nat) (arrival : Int) (l : List Byte) : State × List Byte :=
  if s.obj .ptpTcEn 0 = 0 then (s, l)
  else
    match ptpAt l with
    | none => (s, l)
    | some (o, v) =>
      if 3 < (l.getD o 0).toNat % 16 then (s, l)
      else if v = 6 then (s.bump .ptpTcUncorrected 0, l)
      else
        let res := (s.now - arrival) * 65536 + (s.obj .ptpPortEgrLat p - s.obj .ptpPortIngLat i) * 65536 / 1000
        let cf := signExt 64 (beNat (slice (o + 8) 8 l)) + res
        let l := overlay (o + 8) (beBytes 8 (toField 64 cf)) l
        (s, if v = 4 then overlay (o - 2) [0, 0] l else l)

/-- Whether an entry may launch now. -/
def mayLaunch (now : Int) (e : TxEntry) : Bool := decide (e.launch ≤ now) && e.staged

/-- Cut-through can begin (R395). -/
def State.cutThrough (s : State) (p e q : Nat) : Bool :=
  decide (s.obj .ethPortRate e ≤ s.obj .ethPortRate p) && decide (s.obj .ethPortState e = portUp)
  && !(s.txQueue.any (fun x => decide (x.port = e) && decide (q ≤ x.queue) && mayLaunch s.now x))

/-- Bytes in the shared store (R386): the forwarded frames that wait whole. -/
def State.sharedUsed (s : State) : Nat :=
  ((s.txOffers ++ s.txQueue).map (fun e => match e.src with | .fwd _ _ _ => frameLen e.body | _ => 0)).sum

/-- A frame is forwarded to an egress port (R376, R395): cut through, or stored whole; a bad frame only cut through. A
frame above the egress limit is refused when stored, and stopped when cut through. -/
def State.forwardTo (s : State) (p : Nat) (f : RxFrame) (bad : Bool) (e : Nat) : State :=
  let q := s.objN .ethPcpQueue p / 8 ^ framePcp f.body % 8
  let over_ := decide (s.frameLimit e f.body < frameLen f.body)
  let entry (stomp : Bool) : TxEntry :=
    { port := e, queue := q, launch := 0, close := 0, input := 17, src := .fwd p f.arrival stomp, body := f.body
      staged := true, late := false, held := false, stageLate := false }
  if s.cutThrough p e q then
    let s := s.bump .ethSwCutThrough 0
    { s with txOffers := s.txOffers ++ [entry (bad || over_)] }
  else if bad then s
  else if over_ then s.bump .ethTxRefused e
  else if 1572864 < s.sharedUsed + frameLen f.body then s.bump .ethRxNoSpace p
  else
    let s := s.bump .ethSwStoreForward 0
    { s with txOffers := s.txOffers ++ [entry false] }

/-! ### Classification (R393) -/

/-- The endpoint a frame comes from (R394). -/
def State.endpointOf (s : State) (p : Nat) (l : List Byte) : Option Nat :=
  (List.range 64).find? (fun e =>
    let x := s.endpoint e
    bitAt x 127 && decide (bits x 126 121 = p) && decide (bits x 107 60 = frameSrc l)
    && (if bitAt x 120 then decide (tagCount l ≠ 0) && decide (bits x 119 108 = frameVid l) else decide (tagCount l = 0)))

/-- An eCPRI frame that step 5 takes: revision 1, not concatenated, message type 0, dataDirection 0 (R393, R394). -/
def isUplink (l : List Byte) : Bool :=
  let o := payloadAt l
  decide ((l.getD o 0).toNat / 16 = 1) && decide ((l.getD o 0).toNat % 2 = 0) && decide (l.getD (o + 1) 0 = 0)
  && decide ((l.getD (o + 8) 0).toNat < 128)

/-- The watch entry that takes an uplink frame (R518): WATCHING or WOKEN, with its port, endpoint, filter and eAxC ID. -/
def State.watchFor (s : State) (p ep : Nat) (l : List Byte) : Option Nat :=
  let o := payloadAt l
  (List.range 8).find? (fun e =>
    let x := s.watchEntry e
    bitAt x 255 && decide (2 ≤ s.watchState e) && decide (bits x 246 246 = p) && decide (bits x 245 240 = ep)
    && decide (bits x 239 224 ≤ be16At (o + 4) l) && decide (be16At (o + 4) l ≤ bits x 239 224 + bits x 223 222)
    && (bitAt x 217 || decide ((l.getD (o + 8) 0).toNat % 16 = bits x 221 218)))

/-- Destination port and address of a UDP datagram over IPv4. -/
def udpDst (l : List Byte) : Option (Nat × Nat) :=
  let o := payloadAt l
  if etherType l = 0x0800 ∧ (l.getD (o + 9) 0).toNat = 17 then
    some (be16At (o + 4 * ((l.getD o 0).toNat % 16) + 2) l, beNat (slice (o + 16) 4 l))
  else none

/-- Destination port of a UDP datagram over IPv4 or IPv6 (R393). -/
def udpPort (l : List Byte) : Option Nat :=
  let o := payloadAt l
  if etherType l = 0x86DD ∧ (l.getD (o + 6) 0).toNat = 17 then some (be16At (o + 42) l) else (udpDst l).map (fun d => d.1)

/-- An ARP request for an address (R474). -/
def isArpFor (ip : Nat) (l : List Byte) : Bool :=
  let o := payloadAt l
  decide (etherType l = 0x0806) && decide (be16At (o + 6) l = 1) && decide (beNat (slice (o + 24) 4 l) = ip)

/-- The first valid filter entry that matches (R396). -/
def State.filterFor (s : State) (p : Nat) (l : List Byte) : Option Nat :=
  (List.range 256).find? (fun i =>
    let x := leAt (16 * i) 16 (s.dom .swFilterTable 0)
    bitAt x 127 && (bitAt x 126 || decide (bits x 125 120 = p))
    && (decide (bits x 119 104 = 0) || decide (bits x 119 104 = etherType l))
    && (bitAt x 103 || decide (bits x 102 55 = frameDst l)))

/-- Where a frame is handed on: 0 steering, 1 time unit, 2 Lodge, 3 Summerhouse. -/
def State.hand (s : State) (dest p : Nat) (l : List Byte) : State := s.send (.handed dest p l)

/-- Steps 8 and 9 (R393). -/
def State.toRing (s : State) (p : Nat) (f : RxFrame) : State :=
  match s.filterFor p f.body with
  | some i => s.erxDeliver (bits (leAt (16 * i) 16 (s.dom .swFilterTable 0)) 54 49) p f ⟨0, i, false⟩
  | none =>
    if s.obj .ethDefRing p = 255 then s.bump .ethRxUnclaimed p
    else s.erxDeliver (s.objN .ethDefRing p) p f ⟨0, 0, true⟩

/-- Step 7 on (R393): NAP and ARP for the device's address, then the rings. -/
def State.classifyRest (s : State) (p : Nat) (f : RxFrame) : State :=
  let ip := s.objN .napFhIp 0
  let nap := decide (s.obj .ethNapEn p ≠ 0) && decide (ip ≠ 0) && (isArpFor ip f.body || decide (udpDst f.body = some (38496, ip)))
  if nap then s.hand 2 p f.body else s.toRing p f

/-- Steps 4 to 9 (R393). -/
def State.classifyOwn (s : State) (p : Nat) (f : RxFrame) : State :=
  let l := f.body
  if etherType l = 0x88F7 then s.hand 1 p l
  else if (udpPort l).any (fun d => decide (d = 319) || decide (d = 320)) then s.bump .ptpIpDropped 0
  else if etherType l = 0xAEFE then
    match s.endpointOf p l with
    | none => s.bump .ethSwNoEndpoint 0
    | some ep =>
      if isUplink l then s.hand (if (s.watchFor p ep l).isSome then 3 else 0) p l else s.classifyRest p f
  else s.classifyRest p f

/-- The group bit of a destination address. -/
def isGroup (l : List Byte) : Bool := decide (frameDst l / 2 ^ 40 % 2 = 1)

/-- An accepted frame is classified (R393). -/
def State.classify (s : State) (p : Nat) (f : RxFrame) : State :=
  let l := f.body
  if etherType l = 0x8808 then s.macControl p l
  else if isGroup l then ((s.fwdPorts p l true).foldl (fun s e => s.forwardTo p f false e) s).classifyOwn p f
  else if frameDst l ≠ s.objN .ethMacAddr p then
    match s.fwdPorts p l false with
    | [] => s.bump .ethSwNoRoute 0
    | es => es.foldl (fun s e => s.forwardTo p f false e) s
  else s.classifyOwn p f

/-- A bad frame whose forwarding had begun (R375, R395): its egress copies are stomped. -/
def State.stompCopies (s : State) (p : Nat) (f : RxFrame) : State :=
  let l := f.body
  if etherType l = 0x8808 then s
  else if isGroup l then (s.fwdPorts p l true).foldl (fun s e => s.forwardTo p f true e) s
  else if frameDst l ≠ s.objN .ethMacAddr p then (s.fwdPorts p l false).foldl (fun s e => s.forwardTo p f true e) s
  else s

/-- A bad frame (R374, R375): delivered with its flag to the default ring, or dropped. -/
def State.badFrame (s : State) (p : Nat) (f : RxFrame) (flag : Nat) : State :=
  let s := if frameLen f.body < 64 then s else s.stompCopies p f
  if s.obj .ethDeliverBad p ≠ 0 ∧ s.obj .ethDefRing p ≠ 255 then s.erxDeliver (s.objN .ethDefRing p) p f ⟨flag, 0, true⟩
  else s

/-- The occupancy with a frame's bytes at its priority. -/
def addOcc (occ : List Nat) (k n : Nat) : List Nat := (List.range 8).map (fun i => occ.getD i 0 + if i = k then n else 0)

/-- ETH_FRAME_RECEIVE (R374, R384, R386, R393): a frame at a port that is UP, tested in the order of R374, held in its
allocation while it is handled. -/
def execEthFrameReceive (p : Fin 48) (f : RxFrame) (occ : List Nat) (s : State) : Host.Outcome State Fault Refusal :=
  .next (
    if s.obj .ethPortState p ≠ portUp ∨ (s.unit unitEth).st ≠ unitRunning then s
    else
      let len := frameLen f.body
      if s.obj .ethRxAlloc p < ((occ.sum + len : Nat) : Int) then s.bump .ethRxNoSpace p
      else
        let s := s.fcEval p (addOcc occ (framePcp f.body) len)
        let s :=
          if f.code then (s.bump .ethRxCodeErr p).badFrame p f (2 ^ 57)
          else if len ≤ 63 then (s.bump .ethRxRunts p).badFrame p f (2 ^ 60)
          else if s.frameLimit p f.body < len then (s.bump .ethRxOversize p).badFrame p f (2 ^ 59)
          else if !f.fcs then (s.bump .ethRxFcsErr p).badFrame p f (2 ^ 58)
          else (s.bump .ethRxFrames p).classify p f
        s.fcEval p (addOcc occ 0 0))

end Sys2Proof.Machine
end

