-- ==== Sys2Proof/Machine/Transmit.lean ====
section
/-! DEFINITION. Sending frames (R376 to R383, R392): SEND, host transmit rings, insertion, fetch, selection and the end
of a frame. -/

namespace Sys2Proof.Machine

/-! ### SEND (R383) -/

def sdLaunch (d : Nat) : Nat := bits d 511 448
def sdClose (d : Nat) : Nat := bits d 447 384
def sdBody (d : Nat) : Nat := bits d 383 360
def sdLen (d : Nat) : Nat := bits d 359 346
def sdPort (d : Nat) : Nat := bits d 345 340
def sdQueue (d : Nat) : Nat := bits d 339 337

/-- R383: the descriptor is in range, its port is not DISABLED, and R376 does not refuse its frame. -/
def State.sendOk (s : State) (h d : Nat) : Bool :=
  let body := s.readMem (terraceBase h + sdBody d) (sdLen d)
  decide (14 ≤ sdLen d) && decide (sdLen d ≤ 9604) && decide (sdPort d < 48) && decide (sdBody d % 8 = 0)
  && inSlice (sdBody d) (sdLen d) && decide (s.obj .ethPortState (sdPort d) ≠ portDisabled)
  && decide (frameLen body ≤ s.frameLimit (sdPort d) body)

/-- SEND (R383): the frame is offered to its port; the completion follows when it launches or is discarded. -/
def execSend (h : Fin 16) (s : State) : Host.Outcome State Fault Refusal :=
  .next (s.takeHead h 12 [0] (fun r s =>
    let d := r.desc
    if !s.sendOk h d then s.finishHead h 12 d ⟨2, false, false, 0, txBadDesc, 0⟩
    else
      let s := s.engPop h 12
      let e : TxEntry :=
        { port := sdPort d, queue := sdQueue d, launch := sdLaunch d, close := sdClose d, input := h, src := .send h r.off d
          body := s.readMem (terraceBase h + sdBody d) (sdLen d), staged := false, late := false, held := false
          stageLate := false }
      { s with txOffers := s.txOffers ++ [e] }))

/-! ### Host transmit rings (R376, R392, R433) -/

def tdLen (d : Nat) : Nat := bits d 191 178
def tdPort (d : Nat) : Nat := bits d 177 172
def tdQueue (d : Nat) : Nat := bits d 171 169

/-- Descriptors newly posted are taken in order: refused ones complete TOO_LONG, BAD_DESC or PORT_DOWN; the others are
offered to their ports. -/
def State.etxPost (s : State) (r : Nat) : Nat → List (Nat × List Byte) → State
  | _, [] => s
  | idx, (d, head) :: rest =>
    let x := s.etxRing r
    let s := s.setEtx r { x with open_ := x.open_ ++ [(idx, d)] }
    let s :=
      if tdLen d < 14 ∨ 9604 < tdLen d ∨ 48 ≤ tdPort d then s.etxWriteBack r idx txBadDesc 0
      else if s.objN .ethMaxFrame (tdPort d) + 4 * tagCount head < tdLen d + 4 then s.etxWriteBack r idx txTooLong 0
      else if s.obj .ethPortState (tdPort d) = portDisabled then s.etxWriteBack r idx txPortDown 0
      else
        let e : TxEntry :=
          { port := tdPort d, queue := tdQueue d, launch := bits d 159 96, close := bits d 95 32, input := 16
            src := .ring r idx, body := slice 0 (tdLen d) head, staged := false, late := false, held := false
            stageLate := false }
        { s with txOffers := s.txOffers ++ [e] }
    s.etxPost r ((idx + 1) % 2 ^ 32) rest

/-- ETH_TX_RING_DOORBELL (R392, R433): the owner posts descriptors up to `v`; anything else is ignored and counted. -/
def execEthTxRingDoorbell (fn r : Fin 64) (v : Nat) (descs : List (Nat × List Byte)) (s : State) :
    Host.Outcome State Fault Refusal :=
  .next (
    let x := s.etxRing r
    if (s.unit unitPcie).st ≠ unitRunning then s
    else if s.objN .etxOwner r ≠ fn.val ∨ s.obj .etxEnable r = 0 then s.bump .pcieDbIgnored 0
    else
      let n := (v + 2 ^ 32 - x.posted) % 2 ^ 32
      (s.setEtx r { x with posted := v % 2 ^ 32 }).etxPost r x.posted ((List.range n).map (fun i => descs.getD i (0, []))))

/-! ### Insertion (R377, R378, R381) -/

/-- A hall frame whose close has passed while it waited is missed (R261, R377). -/
def missedWaiting (now : Int) (e : TxEntry) : Option (Nat × Nat × Int) :=
  match e.src with
  | .build h c S => if e.close ≠ 0 ∧ e.close ≤ now then some (h, c, S) else none
  | _ => none

/-- The MAC of a port runs: that of the switch, or in S2 the watch MAC (R519). -/
def State.macRuns (s : State) (p : Nat) : Bool := decide ((s.unit unitEth).st = unitRunning) || s.watchMac p

/-- An entry enters its queue (R378, R381): an immediate one takes the present time as its launch time; a late one is
marked, or discarded as `ETH_LATE_POLICY` says. -/
def State.insertTx (s : State) (e : TxEntry) : State :=
  let p := e.port
  let e := if e.launch = 0 then { e with launch := s.now } else e
  let late := decide (e.launch < s.now) && (decide (e.close = 0) || decide (s.now < e.close))
  if s.obj .ethPortState p ≠ portUp then (s.bump .ethTxPortDown p).txDone e txPortDown 0
  else if late ∧ bitAt (s.objN .ethLatePolicy p) e.queue then (s.bump .ethTxLateDropped p).txDone e txLateDropped 0
  else ({ s with txQueue := insertEntry { e with late := late } s.txQueue }).countEntries p

/-- ETH_TX_INSERT (R304, R305, R377): the next entry of the input that holds the port's insertion arbiter goes into the port; a port with
4,096 entries takes none. -/
def execEthTxInsert (p : Fin 48) (i : Fin 20) (s : State) : Host.Outcome State Fault Refusal :=
  .next (
    match (if s.macRuns p ∧ s.arbHold (205 + p) = i.val then
      s.txOffers.find? (fun e => decide (e.port = p.val) && decide (e.input = i.val)) else none) with
    | none => s
    | some e =>
      let s := s.arbRelease (205 + p) i
      match missedWaiting s.now e with
      | some (h, c, S) => (({ s with txOffers := s.txOffers.erase e }).addMissed h c S 1).txDone e txExpired 0
      | none =>
        if 4096 ≤ (s.portEntries p).length then s
        else ({ s with txOffers := s.txOffers.erase e }).insertTx e)

/-! ### Fetch (R382) -/

/-- Bytes in the transmit staging area (R382, R386). -/
def State.stagedBytes (s : State) : Nat :=
  ((s.txQueue.filter (fun e => e.staged)).map (fun e => e.body.length)).sum
  + (s.ports.map (fun p => match p.2.sending with | some e => e.body.length | none => 0)).sum

/-- The body an entry's source holds now: a SEND body in its hall's slice, a host body in host memory. -/
def State.bodyOf (s : State) (e : TxEntry) (host : List Byte) : List Byte :=
  match e.src with
  | .send h _ d => s.readMem (terraceBase h + sdBody d) (sdLen d)
  | .ring _ _ => slice 0 e.body.length host
  | _ => e.body

/-- ETH_TX_FETCH (R382): from `ETH_TX_FETCH_LEAD` before its launch time an entry's body is staged, while the staging
area has room; a body complete only after the launch time delays the launch, which then counts. -/
def execEthTxFetch (p : Fin 48) (q : Fin 8) (i : Nat) (body : List Byte) (s : State) :
    Host.Outcome State Fault Refusal :=
  .next (
    match (s.txQueue.filter (fun e => decide (e.port = p.val) && decide (e.queue = q.val)))[i]? with
    | none => s
    | some e =>
      if e.staged ∨ s.now < e.launch - s.obj .ethTxFetchLead 0 ∨ 2097152 < s.stagedBytes + e.body.length then s
      else
        let e' := { e with body := s.bodyOf e body, staged := true, stageLate := decide (e.launch < s.now) && !e.late }
        { s with txQueue := s.txQueue.map (fun x => if x = e then e' else x) })

/-! ### Selection (R379, R380) -/

/-- A queue is stopped (R385). -/
def State.queueStopped (s : State) (p q : Nat) : Bool := decide (tabGet 0 (s.port p).stopped q ≠ 0)

/-- The guard of R379: the frame would end after the launch time of the head of a higher queue that is not stopped. -/
def State.guarded (s : State) (p q : Nat) (e : TxEntry) : Bool :=
  decide (s.obj .ethGuardEn p ≠ 0) &&
  (List.range 8).any (fun k => decide (q < k) && !s.queueStopped p k &&
    match s.queueHead p k with
    | some x => decide (x.launch * s.obj .ethPortRate p
        < s.now * s.obj .ethPortRate p + wireUnits (frameLen (padded e.body)))
    | none => false)

/-- A frame starts (R380, R381, R382, R412): it is on the wire, its counters count and its source learns of it. -/
def State.startFrame (s : State) (p : Nat) (e : TxEntry) : State :=
  let s := s.dropEntry e
  let s := s.setPort p { s.port p with sending := some e }
  let s := ((s.bump .ethTxFrames p).bumpIf e.late .ethTxLateSent p).bumpIf e.stageLate .ethTxStageLate p
  let c : State × List Byte × Bool := match e.src with
    | .fwd i t bad =>
      let r := s.tcCorrect p i t e.body
      (r.1.bumpIf bad .ethTxStomped p, if bad then r.2.take (s.frameLimit p e.body - 4) else r.2, bad)
    | _ => (s, e.body, false)
  (c.1.send (.eth p (padded c.2.1) s.now c.2.2)).txDone e (if e.late then txLateSent else txSent) (s.now + s.egrLat p)

/-- One pass of R379 over the queues below `q`, highest first: the state, and the entry to start. A head past its close is
discarded and the selection repeats, `f` times at most. -/
def State.selectTx (s : State) (p : Nat) : Nat → Nat → State × Option TxEntry
  | 0, _ => (s, none)
  | _ + 1, 0 => (s, none)
  | f + 1, q + 1 =>
    match s.queueHead p q with
    | none => s.selectTx p f q
    | some e =>
      if e.close ≠ 0 ∧ e.close ≤ s.now then
        (((s.dropEntry e).bump .ethTxExpired p).txDone e txExpired 0).selectTx p f 8
      else if s.queueStopped p q ∨ s.now < e.launch ∨ !e.staged then s.selectTx p f q
      else if s.guarded p q e then
        let s := if e.held then s
          else ({ s with txQueue := s.txQueue.map (fun x => if x = e then { e with held := true } else x) }).bump
            .ethTxGuardHolds p
        s.selectTx p f q
      else (s, some e)

/-- ETH_TX_SELECT (R379, R384, R519): an idle port that is UP sends a flow-control frame that waits, but not by the watch MAC, then
selects. -/
def execEthTxSelect (p : Fin 48) (s : State) : Host.Outcome State Fault Refusal :=
  .next (
    if s.obj .ethPortState p ≠ portUp ∨ !s.macRuns p ∨ s.txSilent ∨ (s.port p).sending.isSome then s
    else
      let s : State := if s.watchMac p then s else s.fcSend p
      let r := s.selectTx p (9 * ((s.portEntries p).length + 1)) 8
      match r.2 with
      | some e => r.1.startFrame p e
      | none => r.1)

/-- ETH_TX_FRAME_END (R380): the frame on the wire ends, and its staging space is free. -/
def execEthTxFrameEnd (p : Fin 48) (s : State) : Host.Outcome State Fault Refusal :=
  .next (s.setPort p { s.port p with sending := none })

end Sys2Proof.Machine
end

