-- ==== Sys2Proof/Machine/Watch.lean ====
section
/-! DEFINITION. Summerhouse's watch (R515 to R522, R525): the watch table and its checks, enabling, evaluations, the watch MAC
and the watchdog. What a landed repetition measures comes with the command. -/

namespace Sys2Proof.Machine

/-! ### Writes of DOMAIN objects (R461, R470) -/

/-- The bytes of a DOMAIN object; 0 for a scalar. -/
def ObjType.bytes : ObjType → Nat
  | .domain n => n
  | _ => 0

/-- A write of a whole DOMAIN object is accepted: it is in progress with its bytes until its journal entry is written (R463). -/
def State.acceptDom (s : State) (a : Accessor) (addr : Nat) (l : List Byte) : State :=
  let s := s.setObj .dictLastStatus (accessorNo a) (lastStatusWord .ok addr)
  if s.obj .memDdrSize 0 = 0 ∨ s.lodgeUp = false then s
  else { s with unacked := s.unacked ++ [⟨a, addr / 256, addr % 256, 0, l, false⟩] }

/-- A write of a whole DOMAIN object (R457, R460, R461): as `dictWrite`, with its length in place of a range. -/
def State.dictWriteDom (s : State) (a : Accessor) (o : Obj) (n : Nat) (l : List Byte) (chk : Status)
    (eff : State → State) : State :=
  match s.reach a (objAddr o n / 256) with
  | none => s
  | some r =>
    let st := ((s.writeGate a o n (objRow o).lo r).orElse
      (.unless (decide (l.length = (objRow o).ty.bytes)) .size)).orElse chk
    if st = .ok then (eff (s.countAccess a)).acceptDom a (objAddr o n) l
    else (s.countAccess a).refuseAt a st (objAddr o n)

/-! ### The watch table (R515, R516) -/

/-- Entry fields of R515. -/
def weValid (x : Nat) : Bool := bitAt x 255
def wePcfg (x : Nat) : Nat := bits x 254 247
def wePort (x : Nat) : Nat := bits x 246 246
def weEndpoint (x : Nat) : Nat := bits x 245 240
def weEaxc (x : Nat) : Nat := bits x 239 224
def weStreams (x : Nat) : Nat := bits x 223 222 + 1
def weFilter (x : Nat) : Nat := bits x 221 218
def weTdom (x : Nat) : Bool := bitAt x 217
def weDecim (x : Nat) : Nat := bits x 211 209
def weThr (x : Nat) : Nat := bits x 188 173

/-- The eAxC IDs of two entries meet. -/
def weMeets (x y : Nat) : Bool :=
  decide (wePort x = wePort y) && decide (weEndpoint x = weEndpoint y) && decide (weFilter x = weFilter y)
  && decide (weEaxc x < weEaxc y + weStreams y) && decide (weEaxc y < weEaxc x + weStreams x)

/-- The FFT size N of R198; for NB-IoT the spec gives none (log entry 75). -/
def pcFft (x : Nat) : Nat :=
  let fam := bits x 243 241
  if fam = 3 then Config.freeOf 43 [x]
  else if fam = 1 then [256, 1024, 2048].getD (bits x 236 235) 256
  else if fam = 2 ∧ bits x 240 237 = 4 then 256 else 1024

/-- The load of an entry by itself (R198, R516), cycles/s, of configuration c. -/
def weLoad (x c : Nat) : Nat := weStreams x * praReps c * bits c 206 200 * 100 * pcCost c

/-- The buffer need of an entry, bytes (R516). -/
def weBuffer (x c : Nat) : Nat := 2 * weStreams x * praUnits c * 48 + 4 * pcFft c * (if bits c 243 241 = 3 then 1 else pcRoots c)

/-- The rate rule of R515. No object gives the arriving rate, so whether an entry of TDOM 1 keeps the rule is free (log entry
75). -/
def weRateOk (x c : Nat) : Bool := !weTdom x || decide (Config.freeOf 44 [x, c] % 2 = 0)

/-- The fields of an entry are in range (R516, reason 6). -/
def State.weRange (s : State) (x c : Nat) : Bool :=
  decide (7 ≤ bits x 216 213) && (!weTdom x || decide (weDecim x ≤ 6))
  && decide (s.pcThreshold c ≤ weThr x) && decide (1 ≤ bits x 172 169) && decide (1 ≤ bits x 168 153) && weRateOk x c

/-- Watch entry e of a table. -/
def watchAt (t : List Byte) (e : Nat) : Nat := leAt (32 * e) 32 t

/-- Valid entries of a watch table, up to entry e, with their configurations. -/
def State.watchesTo (s : State) (t : List Byte) (e : Nat) : List (Nat × Nat) :=
  ((List.range (e + 1)).map (watchAt t)).filterMap (fun x => if weValid x then some (x, s.praCfg (wePcfg x)) else none)

/-- The reason of R516 entry e of a table fails with; 0 if none. -/
def State.watchReason (s : State) (t : List Byte) (e : Nat) : Nat :=
  let x := watchAt t e
  let c := s.praCfg (wePcfg x)
  let upTo := s.watchesTo t e
  if !weValid x then 0
  else firstFail 1 [
    pcUsed c && decide (s.hallOf (pcCarrier c) ≠ 255),
    decide (s.obj .laneQuadMode 0 = 1),
    (List.range 8).all (fun i => decide (i = e) || !weValid (watchAt t i) || !weMeets (watchAt t i) x),
    decide ((upTo.map (fun q => weLoad q.1 q.2)).sum ≤ 100000000),
    decide ((upTo.map (fun q => weBuffer q.1 q.2)).sum ≤ 196608),
    s.weRange x c]

/-- The lowest failing entry of a table, with its reason (R516). -/
def State.watchBad (s : State) (t : List Byte) : Option (Nat × Nat) :=
  (List.range 8).findSome? (fun e => if s.watchReason t e = 0 then none else some (e, s.watchReason t e))

/-- The own check of a table: STATE while an entry is WATCHING or WOKEN, else RANGE for a failing entry (R516, log entry 75). -/
def State.watchCheck (s : State) (t : List Byte) : Status :=
  if (List.range 8).any (fun e => decide (2 ≤ s.watchState e)) then .state
  else .unless (s.watchBad t).isNone .range

/-- An accepted table: it is in force with copies of the configurations and endpoints it names (R516). -/
def State.watchInstall (s : State) (t : List Byte) : State :=
  let cfg := fun (e : Nat) => if weValid (watchAt t e) then slice (32 * wePcfg (watchAt t e)) 32 (s.dom .praCfgTable 0) else []
  let ep := fun (e : Nat) => if weValid (watchAt t e) then slice (16 * weEndpoint (watchAt t e)) 16 (s.dom .swEndpointTable 0) else []
  let load := ((s.watchesTo t 7).map (fun q => weLoad q.1 q.2)).sum
  let s := (s.setDom .shWatchTable 0 (domClean .shWatchTable t)).setObj .shWatchLoad 0 ((load / 1000 : Nat) : Int)
  let s := { s with sh := { s.sh with
    cfgs := (List.range 8).foldl (fun m e => tabSet [] m e (cfg e)) []
    eps := (List.range 8).foldl (fun m e => tabSet [] m e (ep e)) [] } }
  (List.range 8).foldl (fun (s : State) e => s.watchRefresh e) s

/-- A refused table's entry and reason are recorded (R516). -/
def State.watchNote (s : State) (t : List Byte) : State :=
  match s.watchBad t with
  | some (e, r) => s.setObj .shWatchError 0 ((e * 65536 + r : Nat) : Int)
  | none => s

/-- SH_WATCH_TABLE_WRITE (R515 to R517). -/
def execShWatchTableWrite (a : Accessor) (data : List Byte) (s : State) : Host.Outcome State Fault Refusal :=
  .next <|
    let chk := s.watchCheck data
    let t := s.dictWriteDom a .shWatchTable 0 data chk (fun s => s.watchInstall data)
    if s.passes a .shWatchTable 0 0 ∧ data.length = 256 ∧ chk = .range then t.watchNote data else t

/-- SH_WATCH_EN_WRITE (R517). -/
def execShWatchEnWrite (a : Accessor) (v : Nat) (s : State) : Host.Outcome State Fault Refusal :=
  .next (s.dictWrite a .shWatchEn 0 v .ok (fun s =>
    (List.range 8).foldl (fun (s : State) e => s.watchRefresh e) (s.setObj .shWatchEn 0 v)))

/-! ### Evaluations (R520 to R522) -/

/-- The occasions a watch entry has seen, with that of slot S; those more than 1,024 frames older are forgotten (R199). -/
def State.seeOccasion (s : State) (p : Nat) (S : Int) : State :=
  let x := s.praEntry p
  let n : Int := s.slotsPerFrame (pcCarrier (s.praCfg p))
  let kept := x.seen.filter (fun t => decide (S - 1024 * n < t) && decide (t ≠ S))
  s.setPra p { x with seen := S :: kept }

/-- SH_WATCH_EVALUATION (R199 to R207, R520, R521): repetition `rep` of the occasion of a slot is complete for a WATCHING or
WOKEN entry; repetitions are evaluated in order, and one outside an attempt is not evaluated. -/
def execShWatchEvaluation (e : Fin 8) (rep : Nat) (slot : Int) (codes : List Nat) (clip missing : Bool) (prof : PraProfile)
    (s : State) : Host.Outcome State Fault Refusal :=
  .next <|
    let p := 256 + e.val
    let x := s.praCfg p
    if s.watchState e < 2 ∨ (s.unit unitSummerhouse).st ≠ unitRunning then s
    else
      let s := if s.praRank p slot < pcOccasions x then s.seeOccasion p slot else s
      if !s.praNext p slot rep then s
      else
        let streams := List.range (weStreams (s.watchEntry e))
        let meas := if bits x 76 76 = 1 then [] else streams.map (fun t => (t, codes.getD t (praCode x (s.praEntry p) t) % 256))
        s.praEvaluate p slot rep streams clip missing meas prof

/-! ### The watch MAC (R519) -/

/-- A frame comes from a copied endpoint entry (R394, R516). -/
def fromEndpoint (x p : Nat) (l : List Byte) : Bool :=
  bitAt x 127 && decide (bits x 126 121 = p) && decide (bits x 107 60 = frameSrc l)
  && (if bitAt x 120 then decide (tagCount l ≠ 0) && decide (bits x 119 108 = frameVid l) else decide (tagCount l = 0))

/-- The watch MAC takes a frame for an entry (R518, R519). -/
def State.watchTakes (s : State) (p : Nat) (l : List Byte) : Bool :=
  let o := payloadAt l
  decide (etherType l = 0xAEFE) && isUplink l && (isGroup l || decide (frameDst l = s.objN .ethMacAddr p))
  && (List.range 8).any (fun e =>
    let x := s.watchEntry e
    decide (2 ≤ s.watchState e) && decide (wePort x = p) && fromEndpoint (leAt 0 16 (tabGet [] s.sh.eps e)) p l
    && decide (weEaxc x ≤ be16At (o + 4) l) && decide (be16At (o + 4) l < weEaxc x + weStreams x)
    && (weTdom x || decide ((l.getD (o + 8) 0).toNat % 16 = weFilter x)))

/-- SH_WATCH_MAC_FRAME (R519): a frame on `PORT_0` or `PORT_1` in S2, under the tests of R374. -/
def execShWatchMacFrame (p : Fin 2) (f : RxFrame) (s : State) : Host.Outcome State Fault Refusal :=
  .next <|
    let len := frameLen f.body
    if !s.watchMac p ∨ s.obj .ethPortState p ≠ portUp then s
    else if f.code then s.bump .ethRxCodeErr p
    else if len ≤ 63 then s.bump .ethRxRunts p
    else if s.frameLimit p f.body < len then s.bump .ethRxOversize p
    else if !f.fcs then s.bump .ethRxFcsErr p
    else
      let s := s.bump .ethRxFrames p
      if etherType f.body = 0x88F7 then s.hand 1 p f.body
      else if s.watchTakes p f.body then s.hand 3 p f.body
      else s.bump .shWatchOther 0

/-! ### The watchdog (R508, R525, R533) -/

/-- SH_WATCHDOG_EXPIRE (R508, R525): Summerhouse restarts from the booted slot, with its fault, a count and an event; receptions
and hit lists go with its reset (UNIT_DRAIN_END). -/
def execShWatchdogExpire (s : State) : Host.Outcome State Fault Refusal :=
  .next <|
    if (s.unit unitSummerhouse).st ≠ unitRunning then s
    else s.faultNow unitSummerhouse 9

end Sys2Proof.Machine
end

