-- ==== Sys2Proof/Machine/Dict.lean ====
section
/-! DEFINITION. The objects behind every access of the dictionary (R456 to R461, R464, R466): the values a read returns, the
checks and effects of writes that have no row of their own, and the way from an object to the command that writes it. -/

namespace Sys2Proof.Machine

/-- The state a command leaves. -/
def nextOr (s : State) : Host.Outcome State Fault Refusal → State
  | .next t => t
  | _ => s

/-! ### Values (R456, R457, R556, R561) -/

/-- The bytes of a scalar of a type. -/
def ObjType.width : ObjType → Nat
  | .bool => 1
  | .unsigned b => b
  | .signed b => b
  | .domain n => n

/-- The present value of a scalar; some follow from the rest of the state. -/
def State.liveObj (s : State) (o : Obj) (n : Nat) : Int :=
  match o with
  | .decBacklog => s.decBacklog n
  | .encBacklog => s.encBacklog n
  | .ctxOpsRate =>
    if s.ctx.opMs = s.now / 1000000 then s.obj .ctxOpsRate 0
    else if s.ctx.opMs + 1 = s.now / 1000000 then (s.ctx.opCount * 1000 : Nat) else 0
  | .laneSnapAgeNow => if s.laneCarries n then (s.now - (s.lane n).snapTime) / 1000000 % 4294967296 else 0
  | .timeHoldoverAge =>
    if s.obj .timeState 0 = clkHoldover then (s.now - s.time.holdEntry) / 1000000000 % 4294967296 else 0
  | .relMarkQuery => (s.markOf (s.objN .relMarkQuery 0 / 2 ^ 56) (s.objN .relMarkQuery 0 % 2 ^ 56) : Nat)
  | _ => s.obj o n

/-- The value a read returns: with `STAIR_SNAP_SEL` at 1, counters and state objects as latched (R556). -/
def State.readObj (s : State) (o : Obj) (n : Nat) : Int :=
  if s.obj .stairSnapSel 0 = 1 ∧ latched (objKey o n) then tabGet (o.default n) s.stairSnap.objs (objKey o n)
  else s.liveObj o n

/-- An entry of a correction log as 16 bytes (R330). -/
def LogEntry.bytes (e : LogEntry) : List Byte :=
  if e.st = 0 then List.replicate 16 0
  else leBytes 16 (e.space * 2 ^ 124 + e.unit * 2 ^ 116 + e.addr * 2 ^ 68 + e.st * 2 ^ 64 + e.count * 2 ^ 60 + e.src * 2 ^ 58
    + e.bitA * 2 ^ 51 + e.bitB * 2 ^ 44 + (if e.noRepair then 2 ^ 43 else 0) + (e.winStart % 2 ^ 32).toNat)

/-- An entry of `REL_UNIT_TABLE` as 16 bytes (R560), its window ending at `now`. -/
def UnitSt.bytes (x : UnitSt) (since : Int) : List Byte :=
  leBytes 16 (x.epoch % 2 ^ 32 * 2 ^ 96 + x.st * 2 ^ 92 + min 15 (x.faults.filter (fun f => decide (since ≤ f / 1000000))).length * 2 ^ 88
    + x.lastCode * 2 ^ 80 + (x.lastTime % 2 ^ 48).toNat * 2 ^ 32 + x.restarts % 2 ^ 32)

/-- `REL_UNIT_TABLE` (R560), latched or live (R556). -/
def State.unitTable (s : State) : List Byte :=
  let t := if s.obj .stairSnapSel 0 = 1 then s.stairSnap.units else s.units
  let since := s.now / 1000000 - s.obj .relFaultWindow 0
  (List.range 280).flatMap (fun u => (tabGet UnitSt.reset t u).bytes since)

/-- The bytes of a STR or DOMAIN object in force. -/
def State.liveDom (s : State) (o : Obj) (n : Nat) : List Byte :=
  match o with
  | .eccLog => (List.range 64).flatMap (fun i => (tabGet LogEntry.reset s.eccLog (64 * n + i)).bytes)
  | .relUnitTable => s.unitTable
  | _ => slice 0 (objRow o).ty.bytes (s.dom o n)

/-- The object and instance an accessor names: those at 0x1101 are its own (R458, R481). -/
def rowFor (a : Accessor) (addr : Nat) : Option (ObjRow × Nat) :=
  (rowAt addr).map (fun p => if p.1.fam = 0x1101 then (p.1, accessorNo a) else p)

/-- A read is counted, and its refusal (R461, R483). -/
def State.countRead (s : State) (a : Accessor) (st : Status) : State :=
  if st = .ok then s.countAccess a else (s.countAccess a).bump .lodgeRefused (classNo a.cls)

/-- A read of a scalar: its status, and its value extended to 64 bits (R470). -/
def State.readWord (s : State) (a : Accessor) (addr : Nat) (r : Status) : Status × Nat :=
  match rowFor a addr with
  | none => (r.orElse .noObject, 0)
  | some (row, n) =>
    let st := (r.orElse (s.readStatus a row.obj n)).orElse (.unless (decide (row.ty.bytes = 0)) .size)
    if st = .ok then (.ok, toField 64 (s.readObj row.obj n)) else (st, 0)

/-! ### Checks of an object's own (R461, R466) -/

/-- A range touches the Lodge's region, the L1 copy or the journal (R466, R512, R536). -/
def State.inReserved (s : State) (a n : Nat) : Bool :=
  (decide (s.objN .dictReservedBase 0 ≠ 0) && overlap (s.objN .dictReservedBase 0, 0x4000000) (a, n))
  || (decide (s.objN .shL1Base 0 ≠ 0) && overlap (s.objN .shL1Base 0, 0x2000000) (a, n))
  || (decide (s.objN .relJournalBase 0 ≠ 0) && overlap (s.objN .relJournalBase 0, 0x10000000) (a, n))

/-- A table of `n` bytes may lie at an address of DDR (R320, R466). -/
def State.tableOk (s : State) (a n : Nat) : Bool := s.inDdr a 1 && !s.inReserved a (max 1 n)

/-- A power of two. -/
def isPow2 (n : Nat) : Bool := decide (n = 2 ^ Nat.log2 n)

/-- A trace ring of `size` bytes may lie at `base`: aligned to its size, in Terrace or as a table of DDR (R155). -/
def State.traceOk (s : State) (base size : Nat) : Bool :=
  decide (base % max 1 size = 0) && (decide (base < ddrBase) || s.tableOk base size)

/-- R244: the HARQ objects keep their values while a process is valid or a store is pending. -/
def State.harqIdle (s : State) : Bool :=
  decide (s.obj .harqProcsValid 0 = 0) && !s.harq.any (fun w => decStore w.desc)

/-- Checks of the objects that place or size tables in memory (R155, R244, R274, R291; log entry 82). -/
def State.checkMem (s : State) (o : Obj) (n : Nat) (v : Nat) : Status :=
  match o with
  | .schTraceBase => .unless (s.traceOk v (s.objN .schTraceSize n)) .range
  | .schTraceSize =>
    .unless (decide (v = 0) || (isPow2 v && decide (4096 ≤ v) && decide (v ≤ 67108864) && s.traceOk (s.objN .schTraceBase n) v))
      .range
  | .harqPoolBase =>
    (Status.unless s.harqIdle .state).orElse
      (.unless (decide (v % 4096 = 0) && s.tableOk v (s.objN .harqPoolSlots 0 * 12672)) .range)
  | .harqProcBase =>
    (Status.unless s.harqIdle .state).orElse
      (.unless (decide (v % 2048 = 0) && s.tableOk v (s.objN .harqProcCount 0 * 2048)) .range)
  | .harqPoolSlots => .unless s.harqIdle .state
  | .harqProcCount => .unless s.harqIdle .state
  | .ctxBase =>
    (Status.unless (decide (s.obj .ctxEnable 0 = 0)) .state).orElse
      (.unless (s.tableOk v (9 * 2 ^ 30 + s.objN .ctxEntries 0 * 4)) .range)
  | .ctxEntries => (Status.unless (decide (s.obj .ctxEnable 0 = 0)) .state).orElse (.unless (isPow2 v) .range)
  | .ctxSeed => .unless (decide (s.obj .ctxEnable 0 = 0)) .state
  | .ctxKickMax => .unless (decide (s.obj .ctxEnable 0 = 0)) .state
  | _ => .ok

/-- Receive allocations of the ports not DISABLED, with port p's at v, fit the buffer (R386). -/
def State.allocOk (s : State) (p v : Nat) : Bool :=
  decide ((((List.range 48).filter (fun q => decide (s.obj .ethPortState q ≠ portDisabled))).map
    (fun q => if q = p then v else s.objN .ethRxAlloc q)).sum ≤ 4718592)

/-- The port is not UP (R401). -/
def State.portIdle (s : State) (p : Nat) : Status := .unless (decide (s.obj .ethPortState p ≠ portUp)) .state

/-- Checks of the port objects (R386, R401, R402). -/
def State.checkPort (s : State) (o : Obj) (n : Nat) (v : Nat) : Status :=
  match o with
  | .ethMaxFrame => s.portIdle n
  | .ethFcMode => s.portIdle n
  | .ethRxAlloc => (s.portIdle n).orElse (.unless (decide (s.objN .ethXoffWm n ≤ v) && s.allocOk n v) .range)
  | .ethXoffWm => .unless (decide (s.objN .ethXonWm n < v) && decide (v ≤ s.objN .ethRxAlloc n)) .range
  | .ethXonWm => .unless (decide (v < s.objN .ethXoffWm n)) .range
  | .ethDefRing => .unless (decide (v ≤ 63) || decide (v = 255)) .range
  | .laneCtleFixed => .unless (decide (v ≤ 15) || decide (v = 255)) .range
  | _ => .ok

/-- A ring object is refused while its ring is in service (R403, R454). -/
def State.erxIdle (s : State) (r : Nat) : Status := .unless (decide (s.obj .erxEnable r = 0)) .state
def State.etxIdle (s : State) (r : Nat) : Status := .unless (decide (s.obj .etxEnable r = 0)) .state
def State.jrIdle (s : State) (r : Nat) : Status := .unless (decide (s.obj .jrState r = 0)) .state

/-- Checks of the ring objects (R387, R403, R454). -/
def State.checkRing (s : State) (o : Obj) (n : Nat) (v : Nat) : Status :=
  match o with
  | .erxBase => s.erxIdle n
  | .erxCount => (s.erxIdle n).orElse (.unless (isPow2 v) .range)
  | .erxBufSize => (s.erxIdle n).orElse (.unless (decide (v % 256 = 0)) .range)
  | .erxOwner => s.erxIdle n
  | .erxXoff => (s.erxIdle n).orElse (.unless (decide (v < s.objN .erxXon n)) .range)
  | .erxXon => (s.erxIdle n).orElse (.unless (decide (s.objN .erxXoff n < v)) .range)
  | .erxPorts => (s.erxIdle n).orElse (.unless (decide (v < 2 ^ 48)) .range)
  | .erxPrio => s.erxIdle n
  | .etxBase => s.etxIdle n
  | .etxCount => (s.etxIdle n).orElse (.unless (isPow2 v) .range)
  | .etxOwner => s.etxIdle n
  | .jrBase => s.jrIdle n
  | .jrCount => s.jrIdle n
  | .crBase => s.jrIdle n
  | .crCount => s.jrIdle n
  | _ => .ok

/-- The own check of a write of an object with no row of its own. -/
def State.objCheck (s : State) (o : Obj) (n : Nat) (v : Int) : Status :=
  (((s.checkMem o n v.toNat).orElse (s.checkPort o n v.toNat)).orElse (s.checkRing o n v.toNat)).orElse (checkOther o v)

/-! ### Effects beyond the object's value -/

/-- A PTP port is enabled or left (R409). -/
def State.ptpEnable (s : State) (p : Nat) (v : Int) : State :=
  if v = s.obj .ptpPortEn p then s
  else if v = 0 then
    let s := s.ptpPortLost p
    (s.setObj .ptpPortEn p 0).setObj .ptpPortState p (Obj.default .ptpPortState p)
  else
    (s.setObj .ptpPortEn p v).setObj .ptpPortState p
      (if s.obj .ethPortState p = portUp then ptpListening else ptpFaulty)

/-- The checker counts nothing for 10 µs after a change of inversion or pattern (R363). -/
def State.prbsSuspend (s : State) (l : Nat) : State := s.setLane l { s.lane l with prbsHold := s.now + 10000 }

/-- A write takes effect (R457): the object holds the value, and what follows from it. -/
def State.objEffect (s : State) (o : Obj) (n : Nat) (v : Int) : State :=
  let t := s.setObj o n v
  match o with
  | .harqPoolSlots => t.setObj .harqPoolLow 0 v
  | .scrubEn => t.lapSettle n
  | .schTraceBase => (t.setObj .schTraceWptr n 0).setSch n { t.sch n with traceFull := false }
  | .schTraceSize => (t.setObj .schTraceWptr n 0).setSch n { t.sch n with traceFull := false }
  | .laneCtleFixed =>
    if v ≤ 15 ∧ v ≠ s.obj .laneCtleNow n then (t.setLane n { t.lane n with touched := true }).setObj .laneCtleNow n v else t
  | .laneTxInvert => if v = s.obj .laneTxInvert n then s else t.prbsSuspend n
  | .laneRxInvert => if v = s.obj .laneRxInvert n then s else t.prbsSuspend n
  | .lanePrbsUser => if v = s.obj .lanePrbsUser n then s else t.prbsSuspend n
  | .laneQuadAnEn => (quadLanes n).foldl (fun (t : State) l => t.laneProceed l) t
  | .timeSource => if v = s.obj .timeSource 0 then s else t.sourceLost
  | .timeRateSet => if s.obj .timeState 0 = clkFreerun then t.setRho v else t
  | .synceSrc => { t with time := { t.time with synceBad := false } }
  | .ppsOutEn => if v = 0 then { t with pins := { t.pins with ppsOut := false } } else t
  | .ptpPortEn => s.ptpEnable n v
  | .pwrVinWarn => if s.obj .pwrVin 0 = 0 then t else t.vinAlert
  | .erxEnable => if v = s.obj .erxEnable n then s else t.erxRestart n
  | .etxEnable => if v = s.obj .etxEnable n then s else t.setEtx n EtxSt.reset
  | _ => t

/-! ### Staged writes (R457, R465, R466) -/

/-- A write of an RWS scalar goes into the writer's context. -/
def State.stageWrite (s : State) (a : Accessor) (o : Obj) (n : Nat) (v : Int) : State :=
  match s.reach a (objAddr o n / 256) with
  | none => s
  | some r =>
    let st := (s.writeGate a o n v r).orElse (s.objCheck o n v)
    let s := s.countAccess a
    if st ≠ .ok then s.refuseAt a st (objAddr o n)
    else
      let q := s.stageVal (stageCtxOf a) (objKey o n) v
      if q.2 = .ok then q.1.acceptAt a (objAddr o n) v else q.1.refuseAt a q.2 (objAddr o n)

/-- A write of an RWS DOMAIN object goes into the writer's context. -/
def State.stageWriteDom (s : State) (a : Accessor) (o : Obj) (n : Nat) (l : List Byte) : State :=
  match s.reach a (objAddr o n / 256) with
  | none => s
  | some r =>
    let st := (s.writeGate a o n (objRow o).lo r).orElse (.unless (decide (l.length = (objRow o).ty.bytes)) .size)
    let s := s.countAccess a
    if st ≠ .ok then s.refuseAt a st (objAddr o n)
    else
      let q := s.stageDom (stageCtxOf a) (objKey o n) l
      if q.2 = .ok then q.1.acceptDom a (objAddr o n) l else q.1.refuseAt a q.2 (objAddr o n)

/-! ### Objects with rows of their own -/

/-- A number as an index of `n + 1`. -/
def asFin (n k : Nat) : Fin (n + 1) := Fin.ofNat (n + 1) k

/-- Objects of halls, cores, schedulers, carriers, the Gallery and the memories that have rows of their own. -/
def State.routeCore (s : State) (a : Accessor) (o : Obj) (n v : Nat) : Option State :=
  match o with
  | .hallLevel => some (nextOr s (execHallLevelWrite a (asFin 17 n) v s))
  | .hallPaceEn => some (nextOr s (execHallPaceEnWrite a (asFin 17 n) v s))
  | .hallPaceSnap => some (nextOr s (execHallPaceSnap a (asFin 17 n) v s))
  | .coreHalt => some (nextOr s (execCoreHalt a (asFin 191 n) v s))
  | .coreResume => some (nextOr s (execCoreResume a (asFin 191 n) v s))
  | .schTickNs => some (nextOr s (execSchTickNsWrite a (asFin 15 n) v s))
  | .schPmemLoad => some (nextOr s (execSchPmemLoad a (asFin 15 n) v s))
  | .tdMaskUnmute => some (nextOr s (execTdMaskUnmute a (asFin 767 n) v s))
  | .ctxEnable => some (nextOr s (execCtxEnableWrite a v s))
  | .arbBase => some (nextOr s (execArbBaseWrite a (asFin 252 (n / 32)) (asFin 31 n) v s))
  | .arbFreeze => some (nextOr s (execArbFreezeWrite a (asFin 252 n) v s))
  | .eccLogClear => some (nextOr s (execEccLogClear a (asFin 25 n) v s))
  | _ => none

/-- Objects of lanes, time, rings and staging that have rows of their own. -/
def State.routeLink (s : State) (a : Accessor) (o : Obj) (n v : Nat) : Option State :=
  match o with
  | .laneTxFfe => some (nextOr s (execLaneTxFfeWrite a (asFin 55 n) v s))
  | .laneLoopback => some (nextOr s (execLaneLoopbackWrite a (asFin 55 n) v s))
  | .lanePrbsTx => some (nextOr s (execLanePrbsTxWrite a (asFin 55 n) v s))
  | .lanePrbsChk => some (nextOr s (execLanePrbsChkWrite a (asFin 55 n) v s))
  | .lanePrbsClear => some (nextOr s (execLanePrbsClear a (asFin 55 n) v s))
  | .laneQuadMode => some (nextOr s (execLaneQuadModeWrite a (asFin 13 n) v s))
  | .laneQuadFec => some (nextOr s (execLaneQuadFecWrite a (asFin 13 n) v s))
  | .timeSet => some (nextOr s (execTimeSet a v s))
  | .timeTrig => some (nextOr s (execTimeTrigWrite a (asFin 15 n) v s))
  | .jrEnable => some (nextOr s (execJrEnableWrite a (asFin 255 n) v s))
  | .jrResume => some (nextOr s (execJrResume a (asFin 255 n) v s))
  | .stageCommit => some (nextOr s (execStageCommit a (asFin 63 n) (BitVec.ofNat 64 v) [] s))
  | .stageCancel => some (nextOr s (execStageCancel a (asFin 63 n) v s))
  | _ => none

/-- A write of `PWR_STATE_REQ` (R487); the delay a unit asks for is free. -/
def State.routePwrState (s : State) (a : Accessor) (v : Nat) : State :=
  match v with
  | 0 => nextOr s (execPwrReqWake a s)
  | 2 => nextOr s (execPwrReqS2 a s.free s.freeUsed)
  | 3 => nextOr s (execPwrReqS3 a s.free s.freeUsed)
  | 4 => nextOr s (execPwrReqS4 a s.free s.freeUsed)
  | _ => s.dictWrite a .pwrStateReq 0 v .range id

/-- A write of `PWR_GATE_REQ` (R492). -/
def State.routePwrGate (s : State) (a : Accessor) (v : Nat) : State :=
  if bitAt v 31 then nextOr s (execPwrGate a (BitVec.ofNat 18 v) s.free s.freeUsed)
  else nextOr s (execPwrUngate a (BitVec.ofNat 18 v) s)

/-- A write of `SH_FLASH_CMD` (R514); whether a flash read fails is free. -/
def State.routeFlash (s : State) (a : Accessor) (v : Nat) : State :=
  match v with
  | 1 => nextOr s (execShFlashErase a s)
  | 2 => nextOr s (execShFlashProgram a s)
  | 3 => nextOr s (execShFlashCheck a (s.free % 8) s.freeUsed)
  | _ => s.dictWrite a .shFlashCmd 0 v .range id

/-- A write of `STAIR_RESET` (R557). -/
def State.routeReset (s : State) (a : Accessor) (v : Nat) : State :=
  match v with
  | 1 => nextOr s (execStairResetDevice a s)
  | 2 => nextOr s (execStairResetPair a s)
  | 3 => nextOr s (execStairResetChain a s)
  | _ => s.dictWrite a .stairReset 0 v .range id

/-- Objects of power, Summerhouse, reliability and the pair that have rows of their own. -/
def State.routeSys (s : State) (a : Accessor) (o : Obj) (v : Int) : Option State :=
  match o with
  | .pwrStateReq => some (s.routePwrState a v.toNat)
  | .pwrGateReq => some (s.routePwrGate a v.toNat)
  | .thermWarn => some (nextOr s (execThermWarnWrite a v s))
  | .shFlashCmd => some (s.routeFlash a v.toNat)
  | .shOtpRevoke => some (nextOr s (execShOtpRevoke a v.toNat s))
  | .shRollbackSet => some (nextOr s (execShRollbackSet a v.toNat s))
  | .shWatchEn => some (nextOr s (execShWatchEnWrite a v.toNat s))
  | .relUnretire => some (nextOr s (execRelUnretire a v.toNat s))
  | .relMarkQuery => some (nextOr s (execRelMarkQueryWrite a (BitVec.ofNat 64 v.toNat) s))
  | .pairMode => some (nextOr s (execPairModeWrite a v.toNat s))
  | .pairRoleReq => some (nextOr s (execPairRoleReq a v.toNat (asFin 5 s.free) s.freeUsed))
  | .chainRole => some (nextOr s (execChainRoleWrite a v.toNat s))
  | .stairReset => some (s.routeReset a v.toNat)
  | _ => none

/-- A complete write of a scalar, but of `DICT_WIN_GO`, which goes its own way. -/
def State.writePlain (s : State) (a : Accessor) (o : Obj) (n : Nat) (v : Int) : State :=
  if o = .dictWinGo then s.dictWrite a o n v .state id
  else
    match (s.routeCore a o n v.toNat <|> s.routeLink a o n v.toNat) <|> s.routeSys a o v with
    | some t => t
    | none =>
      if (objRow o).acc = .rws then s.stageWrite a o n v
      else s.dictWrite a o n v (s.objCheck o n v) (fun s => s.objEffect o n v)

/-- A complete write of a STR or DOMAIN object. -/
def State.writeDomain (s : State) (a : Accessor) (o : Obj) (n : Nat) (l : List Byte) : State :=
  if o = .shWatchTable then nextOr s (execShWatchTableWrite a l s)
  else if (objRow o).acc = .rws then s.stageWriteDom a o n l
  else s.dictWriteDom a o n l .ok (fun s => s.setDom o n (domClean o l))

end Sys2Proof.Machine
end

