-- ==== Sys2Proof/Machine/Access.lean ====
section
/-! DEFINITION. The Lodge's commands: writes and their acknowledgement (R462, R463, R538), BAR0 and its group reads (R464, R470 to
R472), and the DOMAIN window (R473). -/

namespace Sys2Proof.Machine

/-! ### The DOMAIN window (R466, R473) -/

/-- The window of function fn: 256 KiB. -/
def State.window (s : State) (fn : Nat) : List Byte := tabGet [] s.windows fn

/-- The state with bytes laid into a function's window. -/
def State.putWindow (s : State) (fn o : Nat) (l : List Byte) : State :=
  { s with windows := tabSet [] s.windows fn ((overlay o l (s.window fn)).take 0x40000) }

/-- Indices whose BAR0 space is the window (R458, R473). -/
def inWindow (addr : Nat) : Bool := decide (0xFF80 ≤ addr / 256)

/-- The window byte of an index, a subindex and an offset in the slot. -/
def windowByte (addr off : Nat) : Nat := (addr - 0xFF8000) * 8 + off

/-! ### Actions of the window (R473) -/

/-- The object `DICT_WIN_OBJ` names, as index × 256 + subindex. -/
def State.winTarget (s : State) (a : Accessor) : Nat := s.objN .dictWinObj (accessorNo a) / 256

/-- A write of `DICT_WIN_GO` by function fn: its checks, with NO_MEMORY while there is no DDR (R466), then what `act` does. -/
def State.winGo (s : State) (fn v : Nat) (act : Accessor → State → State) : State :=
  let a := fnAccessor fn
  match s.reach a 0x1101 with
  | none => s
  | some r =>
    let st := (s.writeGate a .dictWinGo (accessorNo a) v r).orElse (.unless (decide (s.obj .memDdrSize 0 ≠ 0)) .noMemory)
    if st = .ok then act a s else (s.countAccess a).refuseAt a st (s.winTarget a)

/-- The end of an action that reads: an accepted command, with the target's address in `DICT_LAST_STATUS`. -/
def State.winDone (s : State) (a : Accessor) (v : Nat) (st : Status) (addr : Nat) : State :=
  if st = .ok then
    (s.acceptAt a (objAddr .dictWinGo 0) v).setObj .dictLastStatus (accessorNo a) (lastStatusWord .ok addr)
  else s.refuseAt a st addr

/-- The bytes of an object as the window shows them: a DOMAIN whole, a scalar as an 8-byte slot. -/
def State.objBytes (s : State) (row : ObjRow) (n : Nat) : List Byte :=
  if row.ty.bytes = 0 then leBytes 8 (toField 64 (s.readObj row.obj n)) else s.liveDom row.obj n

/-- The bytes of an object as staged in context k, or in force. -/
def State.ctxBytes (s : State) (k : Nat) (row : ObjRow) (n : Nat) : List Byte :=
  let x := s.stageCtx k
  match tabFind x.doms (objKey row.obj n), tabFind x.vals (objKey row.obj n) with
  | some l, _ => l
  | none, some v => leBytes 8 (toField 64 v)
  | none, none => s.objBytes row n

/-- A copy of the named object into the window from byte 0, as `f` gives its bytes. -/
def State.winCopy (s : State) (fn v : Nat) (a : Accessor) (f : State → ObjRow → Nat → List Byte) : State :=
  let addr := s.winTarget a
  let s := s.countAccess a
  match rowFor a addr with
  | none => s.winDone a v .noObject addr
  | some (row, n) =>
    let st := s.readStatus a row.obj n
    (if st = .ok then s.putWindow fn 0 (f s row n) else s).winDone a v st addr

/-- WIN_SNAPSHOT (R473, action 1). -/
def execWinSnapshot (fn : Fin 64) (s : State) : Host.Outcome State Fault Refusal :=
  .next (s.winGo fn 1 (fun a s => s.winCopy fn 1 a (fun s row n => s.objBytes row n)))

/-- WIN_WRITE (R473, action 2): the object is written from the window's bytes, its full length; the write of the object is the
access. -/
def execWinWrite (fn : Fin 64) (s : State) : Host.Outcome State Fault Refusal :=
  .next (s.winGo fn 2 (fun a s =>
    let addr := s.winTarget a
    match rowFor a addr with
    | none => (s.countAccess a).refuseAt a .noObject addr
    | some (row, n) =>
      let l := slice 0 row.ty.width (s.window fn)
      match row.ty with
      | .domain _ => s.writeDomain a row.obj n l
      | .signed b => s.writePlain a row.obj n (signExt (8 * b) (leNat l))
      | _ => s.writePlain a row.obj n (leNat l)))

/-- The objects a group read names: words up to the first that is zero, at most 64 (R473). -/
def groupWords (l : List Byte) : List Nat :=
  ((List.range 64).map (fun i => leAt (4 * i) 4 l)).takeWhile (fun w => decide (w ≠ 0))

/-- Reads of a group at one instant (R464): counted one by one; a refused one returns all ones. -/
def State.readGroup (s : State) (a : Accessor) : List Nat → State × List Byte × Status
  | [] => (s, [], .ok)
  | addr :: r =>
    let st := (s.reach a (addr / 256)).getD .state
    let q := s.readWord a addr st
    let t := (s.countRead a q.1).readGroup a r
    (t.1, (if q.1 = .ok then leBytes 8 q.2 else List.replicate 8 0xFF) ++ t.2.1, q.1.orElse t.2.2)

/-- WIN_GROUP_READ (R464, R473, action 3): 8-byte slots from byte 512. -/
def execWinGroupRead (fn : Fin 64) (s : State) : Host.Outcome State Fault Refusal :=
  .next (s.winGo fn 3 (fun a s =>
    let addr := s.winTarget a
    let q := (s.countAccess a).readGroup a ((groupWords (slice 0 256 (s.window fn))).map (fun w => w / 256))
    (q.1.putWindow fn 512 q.2.1).winDone a 3 q.2.2 addr))

/-- WIN_READ_STAGED (R473, action 4): the value staged in the writer's context, or that in force. -/
def execWinReadStaged (fn : Fin 64) (s : State) : Host.Outcome State Fault Refusal :=
  .next (s.winGo fn 4 (fun a s => s.winCopy fn 4 a (fun s row n => s.ctxBytes (stageCtxOf a) row n)))

/-- A write of `DICT_WIN_GO` (R473). -/
def State.routeWindow (s : State) (a : Accessor) (v : Nat) : State :=
  let fn := asFin 63 a.num
  match v with
  | 1 => nextOr s (execWinSnapshot fn s)
  | 2 => nextOr s (execWinWrite fn s)
  | 3 => nextOr s (execWinGroupRead fn s)
  | 4 => nextOr s (execWinReadStaged fn s)
  | _ => s.dictWrite a .dictWinGo (accessorNo a) v .range id

/-- A complete write of a scalar. -/
def State.writeScalar (s : State) (a : Accessor) (o : Obj) (n : Nat) (v : Int) : State :=
  if o = .dictWinGo ∧ (a.cls = .h ∨ a.cls = .v) then s.routeWindow a v.toNat else s.writePlain a o n v

/-! ### Writes (R462, R470) -/

/-- A width and offset fit a scalar slot (R470). -/
def slotFits (ty : ObjType) (off wid : Nat) : Bool :=
  decide (ty.bytes = 0) && decide (off = 0) && (decide (wid = 8) || (decide (wid = 4) && decide (ty.width ≤ 4)))

/-- The value a write of `wid` bytes gives an object, if the bits above its type's width extend it (R470). -/
def slotValue (ty : ObjType) (wid v : Nat) : Option Int :=
  let x := v % 2 ^ (8 * wid)
  match ty with
  | .signed b =>
    let y := signExt (8 * wid) x
    if -(2 ^ (8 * b - 1) : Int) ≤ y ∧ y < 2 ^ (8 * b - 1) then some y else none
  | _ => if x < 2 ^ (8 * ty.width) then some x else none

/-- A write of `wid` bytes at offset `off` of an object's slot (R461, R470). -/
def State.writeWord (s : State) (a : Accessor) (addr off wid v : Nat) : State :=
  match s.reach a (addr / 256) with
  | none => s
  | some r =>
    match rowFor a addr with
    | none => (s.countAccess a).refuseAt a (r.orElse .noObject) addr
    | some (row, n) =>
      let st := (r.orElse (s.writeStatus a row.obj n row.lo)).orElse (.unless (slotFits row.ty off wid) .size)
      match slotValue row.ty wid v with
      | some x => if st = .ok then s.writeScalar a row.obj n x else (s.countAccess a).refuseAt a st addr
      | none => (s.countAccess a).refuseAt a (st.orElse .range) addr

/-- A write of window bytes by a function; dropped without DDR (R466). -/
def State.writeWindow (s : State) (a : Accessor) (addr off wid v : Nat) : State :=
  if (a.cls = .h ∨ a.cls = .v) ∧ s.reach a (addr / 256) = some .ok then
    if s.obj .memDdrSize 0 = 0 then s.refuseAt a .noMemory addr
    else s.putWindow a.num (windowByte addr off) (leBytes (min 8 wid) v)
  else s

/-- DICT_WRITE (R456 to R463, R470): a write by any port; `tie`: its order among those that arrived with it was the rank of
R462. -/
def execDictWrite (a : Accessor) (addr : BitVec 24) (off wid : Nat) (v : BitVec 64) (tie : Bool) (s : State) :
    Host.Outcome State Fault Refusal :=
  .next <|
    let s := s.bumpIf tie .lodgeTies 0
    if inWindow addr.toNat ∧ (a.cls = .h ∨ a.cls = .v) then s.writeWindow a addr.toNat off wid v.toNat
    else s.writeWord a addr.toNat off wid v.toNat

/-! ### Reads of BAR0 (R470 to R472) -/

/-- A read of bytes of one slot: all ones if it is refused. -/
def State.readSlot (s : State) (a : Accessor) (addr off wid : Nat) (r : Status) : State × List Byte :=
  let q := s.readWord a addr r
  let fits := (decide (wid = 1) || decide (wid = 2) || decide (wid = 4) || decide (wid = 8)) && decide (off % max 1 wid = 0)
    && decide (off + wid ≤ 8)
  let st := q.1.orElse (.unless fits .size)
  (s.countRead a st, if st = .ok then slice off wid (leBytes 8 q.2) else List.replicate wid 0xFF)

/-- BAR0_READ (R464, R470 to R473): completed only after the function's earlier writes are acknowledged (R472); until then
nothing is answered (log entry 81). -/
def execBar0Read (fn : Fin 64) (addr : BitVec 24) (off wid slots : Nat) (s : State) : Host.Outcome State Fault Refusal :=
  .next <|
    let a := fnAccessor fn
    let x := addr.toNat
    if s.unacked.any (fun u => decide (u.who = a)) then s
    else
      match s.reach a (x / 256) with
      | none => s
      | some r =>
        if inWindow x then
          let n := if 1 < slots then 8 * slots else wid
          s.send (.read a (if s.obj .memDdrSize 0 = 0 ∨ r ≠ .ok then List.replicate n 0xFF
            else slice (windowByte x off) n (s.window fn)))
        else if slots ≤ 1 then
          let q := s.readSlot a x off wid r
          q.1.send (.read a q.2)
        else
          let q := s.readGroup a ((List.range slots).map (fun i => x + i))
          q.1.send (.read a q.2.1)

/-! ### Acknowledgement (R463, R538) -/

/-- Bytes of the two interleaved copies of a write of `n` bytes (R538). -/
def copyBytes (n : Nat) : Nat := 128 * ceilDiv n 64

/-- The first offset in the 12 MiB of journal copies at which `n` bytes are free, if there is one. -/
def State.copyRoom (s : State) (n : Nat) : Option Nat :=
  (0 :: s.jcopies.map (fun c => c.2.1 + c.2.2)).find? (fun o =>
    decide (o + n ≤ 12582912) && s.jcopies.all (fun c => !overlap (o, n) (c.2.1, c.2.2)))

/-- The two copies of a block, line by line (R538). -/
def twoCopies (l : List Byte) : List Byte :=
  (List.range (ceilDiv l.length 64)).flatMap (fun i => slice (64 * i) 64 l ++ slice (64 * i) 64 l)

/-- Who wrote, in a journal entry's body (layout in log entry 83). -/
def whoBytes (a : Accessor) : List Byte := leBytes 1 (classNo a.cls) ++ leBytes 1 a.num

/-- The KIND 0x03 entry of a write is written; with it acknowledged the write is (R463, R546). -/
def State.journalWrite (s : State) (u : Unacked) (body : List Byte) : State :=
  let i := s.unacked.findIdx (fun x => !x.sent)
  let s := { s with unacked := s.unacked.mapIdx (fun j (x : Unacked) => if j = i then { x with sent := true } else x) }
  s.journalPut 3 unitLodge 0 0 (u.idx * 256 + u.sub) body .dict (fun s => s.ackWrite)

/-- The bytes of a long write are copied into the Lodge's region, mirrored, and named by its entry (R538). -/
def State.journalLong (s : State) (u : Unacked) : State :=
  let n := copyBytes u.dom.length
  match s.copyRoom n with
  | none => s
  | some o =>
    let b := s.objN .dictReservedBase 0 + 50331648 + o
    let l := twoCopies u.dom
    let s := (s.store b l).mirrorMem b l
    let s := { s with jcopies := s.jcopies ++ [(s.jseqNext, o, n)] }
    s.journalWrite u (leBytes 2 u.idx ++ leBytes 1 u.sub ++ leBytes 1 0 ++ leBytes 4 u.dom.length ++ leBytes 8 b
      ++ (sha384 u.dom).take 32 ++ whoBytes u.who)

/-- DICT_WRITE_ACK (R463, R538, R540): the oldest write without a journal entry gets it; it waits while the journal or its copies
are full. -/
def execDictWriteAck (s : State) : Host.Outcome State Fault Refusal :=
  .next <|
    match s.unacked.find? (fun u => !u.sent) with
    | none => s
    | some u =>
      if 1048576 ≤ s.journal.length then s
      else if u.dom.length ≤ 48 then s.journalWrite u (leBytes 8 (toField 64 u.val) ++ whoBytes u.who ++ leBytes 6 0 ++ u.dom)
      else s.journalLong u

end Sys2Proof.Machine
end

