-- ==== Sys2Proof/Machine/CoreVector.lean ====
section
/-! DEFINITION. The WVX operations, each issued at the core's PC beside NOP (R97 to R124). -/

namespace Sys2Proof.Machine

/-- VADD (R104): Vd, Vs and Vt (or the shift or element index), HF, MK, ZM, RM. -/
def execVadd (c : Fin 192) (ty : Fin 4) (d a b : Fin 32) (hf : Fin 4) (mk zm : Bool) (rm : Fin 4) (s : State) :
    Host.Outcome State Fault Refusal :=
  .next (s.issueSolo c 4 (.vec ⟨.vadd, ty, d, a, b, hf, mk, zm, false, rm⟩))

/-- VSUB (R104): Vd, Vs and Vt (or the shift or element index), HF, MK, ZM, RM. -/
def execVsub (c : Fin 192) (ty : Fin 4) (d a b : Fin 32) (hf : Fin 4) (mk zm : Bool) (rm : Fin 4) (s : State) :
    Host.Outcome State Fault Refusal :=
  .next (s.issueSolo c 4 (.vec ⟨.vsub, ty, d, a, b, hf, mk, zm, false, rm⟩))

/-- VMIN (R104): Vd, Vs and Vt (or the shift or element index), HF, MK, ZM, RM. -/
def execVmin (c : Fin 192) (ty : Fin 4) (d a b : Fin 32) (hf : Fin 4) (mk zm : Bool) (rm : Fin 4) (s : State) :
    Host.Outcome State Fault Refusal :=
  .next (s.issueSolo c 4 (.vec ⟨.vmin, ty, d, a, b, hf, mk, zm, false, rm⟩))

/-- VMAX (R104): Vd, Vs and Vt (or the shift or element index), HF, MK, ZM, RM. -/
def execVmax (c : Fin 192) (ty : Fin 4) (d a b : Fin 32) (hf : Fin 4) (mk zm : Bool) (rm : Fin 4) (s : State) :
    Host.Outcome State Fault Refusal :=
  .next (s.issueSolo c 4 (.vec ⟨.vmax, ty, d, a, b, hf, mk, zm, false, rm⟩))

/-- VABS (R104): Vd, Vs and Vt (or the shift or element index), HF, MK, ZM, RM. -/
def execVabs (c : Fin 192) (ty : Fin 4) (d a b : Fin 32) (hf : Fin 4) (mk zm : Bool) (rm : Fin 4) (s : State) :
    Host.Outcome State Fault Refusal :=
  .next (s.issueSolo c 4 (.vec ⟨.vabs, ty, d, a, b, hf, mk, zm, false, rm⟩))

/-- VNEG (R104): Vd, Vs and Vt (or the shift or element index), HF, MK, ZM, RM. -/
def execVneg (c : Fin 192) (ty : Fin 4) (d a b : Fin 32) (hf : Fin 4) (mk zm : Bool) (rm : Fin 4) (s : State) :
    Host.Outcome State Fault Refusal :=
  .next (s.issueSolo c 4 (.vec ⟨.vneg, ty, d, a, b, hf, mk, zm, false, rm⟩))

/-- VAND (R104): Vd, Vs and Vt (or the shift or element index), HF, MK, ZM, RM. -/
def execVand (c : Fin 192) (ty : Fin 4) (d a b : Fin 32) (hf : Fin 4) (mk zm : Bool) (rm : Fin 4) (s : State) :
    Host.Outcome State Fault Refusal :=
  .next (s.issueSolo c 4 (.vec ⟨.vand, ty, d, a, b, hf, mk, zm, false, rm⟩))

/-- VOR (R104): Vd, Vs and Vt (or the shift or element index), HF, MK, ZM, RM. -/
def execVor (c : Fin 192) (ty : Fin 4) (d a b : Fin 32) (hf : Fin 4) (mk zm : Bool) (rm : Fin 4) (s : State) :
    Host.Outcome State Fault Refusal :=
  .next (s.issueSolo c 4 (.vec ⟨.vor, ty, d, a, b, hf, mk, zm, false, rm⟩))

/-- VXOR (R104): Vd, Vs and Vt (or the shift or element index), HF, MK, ZM, RM. -/
def execVxor (c : Fin 192) (ty : Fin 4) (d a b : Fin 32) (hf : Fin 4) (mk zm : Bool) (rm : Fin 4) (s : State) :
    Host.Outcome State Fault Refusal :=
  .next (s.issueSolo c 4 (.vec ⟨.vxor, ty, d, a, b, hf, mk, zm, false, rm⟩))

/-- VASRR (R104): Vd, Vs and Vt (or the shift or element index), HF, MK, ZM, RM. -/
def execVasrr (c : Fin 192) (ty : Fin 4) (d a b : Fin 32) (hf : Fin 4) (mk zm : Bool) (rm : Fin 4) (s : State) :
    Host.Outcome State Fault Refusal :=
  .next (s.issueSolo c 4 (.vec ⟨.vasrr, ty, d, a, b, hf, mk, zm, false, rm⟩))

/-- VSHL (R104): Vd, Vs and Vt (or the shift or element index), HF, MK, ZM, RM. -/
def execVshl (c : Fin 192) (ty : Fin 4) (d a b : Fin 32) (hf : Fin 4) (mk zm : Bool) (rm : Fin 4) (s : State) :
    Host.Outcome State Fault Refusal :=
  .next (s.issueSolo c 4 (.vec ⟨.vshl, ty, d, a, b, hf, mk, zm, false, rm⟩))

/-- VMUL (R104): Vd, Vs and Vt (or the shift or element index), HF, MK, ZM, RM. -/
def execVmul (c : Fin 192) (ty : Fin 4) (d a b : Fin 32) (hf : Fin 4) (mk zm : Bool) (rm : Fin 4) (s : State) :
    Host.Outcome State Fault Refusal :=
  .next (s.issueSolo c 4 (.vec ⟨.vmul, ty, d, a, b, hf, mk, zm, false, rm⟩))

/-- VCMUL (R104): Vd, Vs and Vt (or the shift or element index), HF, MK, ZM, RM. -/
def execVcmul (c : Fin 192) (ty : Fin 4) (d a b : Fin 32) (hf : Fin 4) (mk zm : Bool) (rm : Fin 4) (s : State) :
    Host.Outcome State Fault Refusal :=
  .next (s.issueSolo c 4 (.vec ⟨.vcmul, ty, d, a, b, hf, mk, zm, false, rm⟩))

/-- VMPY (R105): VAd, Vs, Vt, HF, MK, CJ, SH. -/
def execVmpy (c : Fin 192) (ty : Fin 4) (d : Fin 4) (a b : Fin 32) (hf : Fin 4) (mk cj : Bool) (sh : Fin 4) (s : State) :
    Host.Outcome State Fault Refusal :=
  .next (s.issueSolo c 4 (.vec ⟨.vmpy, ty, d, a, b, hf, mk, false, cj, sh⟩))

/-- VMAC (R105): VAd, Vs, Vt, HF, MK, CJ, SH. -/
def execVmac (c : Fin 192) (ty : Fin 4) (d : Fin 4) (a b : Fin 32) (hf : Fin 4) (mk cj : Bool) (sh : Fin 4) (s : State) :
    Host.Outcome State Fault Refusal :=
  .next (s.issueSolo c 4 (.vec ⟨.vmac, ty, d, a, b, hf, mk, false, cj, sh⟩))

/-- VMSU (R105): VAd, Vs, Vt, HF, MK, CJ, SH. -/
def execVmsu (c : Fin 192) (ty : Fin 4) (d : Fin 4) (a b : Fin 32) (hf : Fin 4) (mk cj : Bool) (sh : Fin 4) (s : State) :
    Host.Outcome State Fault Refusal :=
  .next (s.issueSolo c 4 (.vec ⟨.vmsu, ty, d, a, b, hf, mk, false, cj, sh⟩))

/-- VACLR (R108): VAd, MK. -/
def execVaclr (c : Fin 192) (d : Fin 4) (mk : Bool) (s : State) :
    Host.Outcome State Fault Refusal :=
  .next (s.issueSolo c 4 (.vec ⟨.vaclr, 0, d, 0, 0, 0, mk, false, false, 0⟩))

/-- VEXTH (R108): Vd, VAs, s, MK, RM. -/
def execVexth (c : Fin 192) (ty : Fin 4) (d : Fin 32) (a : Fin 4) (sc : Fin 16) (mk : Bool) (rm : Fin 4) (s : State) :
    Host.Outcome State Fault Refusal :=
  .next (s.issueSolo c 4 (.vec ⟨.vexth, ty, d, a, sc, 0, mk, false, false, rm⟩))

/-- VCMPEQ (R110): Vs, Vt, HF, MK. -/
def execVcmpeq (c : Fin 192) (ty : Fin 4) (a b : Fin 32) (hf : Fin 4) (mk : Bool) (s : State) :
    Host.Outcome State Fault Refusal :=
  .next (s.issueSolo c 4 (.vec ⟨.vcmpeq, ty, 0, a, b, hf, mk, false, false, 0⟩))

/-- VCMPLT (R110): Vs, Vt, HF, MK. -/
def execVcmplt (c : Fin 192) (ty : Fin 4) (a b : Fin 32) (hf : Fin 4) (mk : Bool) (s : State) :
    Host.Outcome State Fault Refusal :=
  .next (s.issueSolo c 4 (.vec ⟨.vcmplt, ty, 0, a, b, hf, mk, false, false, 0⟩))

/-- VCMPLE (R110): Vs, Vt, HF, MK. -/
def execVcmple (c : Fin 192) (ty : Fin 4) (a b : Fin 32) (hf : Fin 4) (mk : Bool) (s : State) :
    Host.Outcome State Fault Refusal :=
  .next (s.issueSolo c 4 (.vec ⟨.vcmple, ty, 0, a, b, hf, mk, false, false, 0⟩))

/-- VPERM (R111): Vd, Vs and Vt (or the shift or element index), HF, MK, ZM, RM. -/
def execVperm (c : Fin 192) (ty : Fin 4) (d a b : Fin 32) (hf : Fin 4) (mk zm : Bool) (rm : Fin 4) (s : State) :
    Host.Outcome State Fault Refusal :=
  .next (s.issueSolo c 4 (.vec ⟨.vperm, ty, d, a, b, hf, mk, zm, false, rm⟩))

/-- VZIPL (R111): Vd, Vs and Vt (or the shift or element index), HF, MK, ZM, RM. -/
def execVzipl (c : Fin 192) (ty : Fin 4) (d a b : Fin 32) (hf : Fin 4) (mk zm : Bool) (rm : Fin 4) (s : State) :
    Host.Outcome State Fault Refusal :=
  .next (s.issueSolo c 4 (.vec ⟨.vzipl, ty, d, a, b, hf, mk, zm, false, rm⟩))

/-- VZIPH (R111): Vd, Vs and Vt (or the shift or element index), HF, MK, ZM, RM. -/
def execVziph (c : Fin 192) (ty : Fin 4) (d a b : Fin 32) (hf : Fin 4) (mk zm : Bool) (rm : Fin 4) (s : State) :
    Host.Outcome State Fault Refusal :=
  .next (s.issueSolo c 4 (.vec ⟨.vziph, ty, d, a, b, hf, mk, zm, false, rm⟩))

/-- VUZPE (R111): Vd, Vs and Vt (or the shift or element index), HF, MK, ZM, RM. -/
def execVuzpe (c : Fin 192) (ty : Fin 4) (d a b : Fin 32) (hf : Fin 4) (mk zm : Bool) (rm : Fin 4) (s : State) :
    Host.Outcome State Fault Refusal :=
  .next (s.issueSolo c 4 (.vec ⟨.vuzpe, ty, d, a, b, hf, mk, zm, false, rm⟩))

/-- VUZPO (R111): Vd, Vs and Vt (or the shift or element index), HF, MK, ZM, RM. -/
def execVuzpo (c : Fin 192) (ty : Fin 4) (d a b : Fin 32) (hf : Fin 4) (mk zm : Bool) (rm : Fin 4) (s : State) :
    Host.Outcome State Fault Refusal :=
  .next (s.issueSolo c 4 (.vec ⟨.vuzpo, ty, d, a, b, hf, mk, zm, false, rm⟩))

/-- VDUP (R111): Vd, Vs and Vt (or the shift or element index), HF, MK, ZM, RM. -/
def execVdup (c : Fin 192) (ty : Fin 4) (d a b : Fin 32) (hf : Fin 4) (mk zm : Bool) (rm : Fin 4) (s : State) :
    Host.Outcome State Fault Refusal :=
  .next (s.issueSolo c 4 (.vec ⟨.vdup, ty, d, a, b, hf, mk, zm, false, rm⟩))

/-- VRSUM (R112): VAd, Vs, HF, MK. -/
def execVrsum (c : Fin 192) (ty : Fin 4) (d : Fin 4) (a : Fin 32) (hf : Fin 4) (mk : Bool) (s : State) :
    Host.Outcome State Fault Refusal :=
  .next (s.issueSolo c 4 (.vec ⟨.vrsum, ty, d, a, 0, hf, mk, false, false, 0⟩))

/-- VRMAX (R112): Dn, Vs, HF, MK. -/
def execVrmax (c : Fin 192) (ty : Fin 4) (d : Fin 16) (a : Fin 32) (hf : Fin 4) (mk : Bool) (s : State) :
    Host.Outcome State Fault Refusal :=
  .next (s.issueSolo c 4 (.vec ⟨.vrmax, ty, d, a, 0, hf, mk, false, false, 0⟩))

/-- VRMIN (R112): Dn, Vs, HF, MK. -/
def execVrmin (c : Fin 192) (ty : Fin 4) (d : Fin 16) (a : Fin 32) (hf : Fin 4) (mk : Bool) (s : State) :
    Host.Outcome State Fault Refusal :=
  .next (s.issueSolo c 4 (.vec ⟨.vrmin, ty, d, a, 0, hf, mk, false, false, 0⟩))

/-- VGATHER (R113): Vd, Vi, An, SC, MK. -/
def execVgather (c : Fin 192) (ty : Fin 4) (d a : Fin 32) (an : Fin 8) (sc : Fin 4) (mk : Bool) (s : State) :
    Host.Outcome State Fault Refusal :=
  .next (s.issueSolo c 4 (.vec ⟨.vgather, ty, d, a, an, 0, mk, false, false, sc⟩))

/-- VSCATTER (R113): Vd, Vi, An, SC, MK. -/
def execVscatter (c : Fin 192) (ty : Fin 4) (d a : Fin 32) (an : Fin 8) (sc : Fin 4) (mk : Bool) (s : State) :
    Host.Outcome State Fault Refusal :=
  .next (s.issueSolo c 4 (.vec ⟨.vscatter, ty, d, a, an, 0, mk, false, false, sc⟩))

/-- VSTR (R101): Dn. -/
def execVstr (c : Fin 192) (d : Fin 16) (s : State) :
    Host.Outcome State Fault Refusal :=
  .next (s.issueSolo c 4 (.vec ⟨.vstr, 0, d, 0, 0, 0, false, false, false, 0⟩))

/-- VSTW (R101): Dn. -/
def execVstw (c : Fin 192) (d : Fin 16) (s : State) :
    Host.Outcome State Fault Refusal :=
  .next (s.issueSolo c 4 (.vec ⟨.vstw, 0, d, 0, 0, 0, false, false, false, 0⟩))

end Sys2Proof.Machine
end

