-- ==== Sys2Proof/Machine/Nap.lean ====
section
/-! DEFINITION. NAP (R474 to R477), the I3C target (R478), and the management port (R400, R523). -/

namespace Sys2Proof.Machine

/-! ### Operations (R476) -/

/-- The reply of an operation: its header and data, padded to a multiple of 8. -/
def opReply (op st addr : Nat) (fin : Bool) (data : List Byte) : List Byte :=
  beBytes 8 (op * 2 ^ 56 + st * 2 ^ 48 + addr * 2 ^ 24 + (if fin then 65536 else 0) + data.length)
    ++ data ++ List.replicate (roundUp data.length 8 - data.length) 0

/-- An operation refused before it reaches an object: its status and no data. -/
def State.opRefused (s : State) (a : Accessor) (st : Status) : State × Nat × List Byte := (s.countRead a st, st.code, [])

/-- READ, with the values of state `g` (R464). -/
def State.opRead (s g : State) (a : Accessor) (addr : Nat) : State × Nat × List Byte :=
  let q := g.readWord a addr ((s.reach a (addr / 256)).getD .state)
  (s.countRead a q.1, q.1.code, if q.1 = .ok then beBytes 8 q.2 else [])

/-- The status of the last write of an accessor (R481). -/
def State.wrote (s : State) (a : Accessor) : Nat := s.objN .dictLastStatus (accessorNo a) / 2 ^ 24

/-- WRITE. -/
def State.opWrite (s : State) (a : Accessor) (addr v : Nat) : State × Nat × List Byte :=
  let t := s.writeWord a addr 0 8 v
  (t, t.wrote a, [])

/-- DOMAIN_READ: an offset of 0 takes a new snapshot, which the session's record keeps. -/
def State.opDomainRead (s : State) (a : Accessor) (addr off n : Nat) : State × Nat × List Byte :=
  let x := s.nap (napRecord a)
  let r := (s.reach a (addr / 256)).getD .state
  match rowFor a addr with
  | none => s.opRefused a (r.orElse .noObject)
  | some (row, i) =>
    let size := row.ty.bytes
    let st := ((r.orElse (s.readStatus a row.obj i)).orElse
      (.unless (decide (size ≠ 0) && decide (n ≤ 1024) && decide (off + n ≤ size)) .size)).orElse
      (.unless (decide (off = 0) || decide (x.snapObj = addr)) .state)
    if st ≠ .ok then s.opRefused a st
    else
      let snap := if off = 0 then s.liveDom row.obj i else x.snap
      ((s.setNap (napRecord a) { x with snapObj := addr, snap := snap }).countAccess a, 0, slice off n snap)

/-- DOMAIN_WRITE: bytes are assembled in the session's record, and the object is written with LAST. -/
def State.opDomainWrite (s : State) (a : Accessor) (addr off : Nat) (data : List Byte) (fin : Bool) :
    State × Nat × List Byte :=
  let x := s.nap (napRecord a)
  let r := (s.reach a (addr / 256)).getD .state
  match rowFor a addr with
  | none => let t := (s.countAccess a).refuseAt a (r.orElse .noObject) addr; (t, t.wrote a, [])
  | some (row, i) =>
    let size := row.ty.bytes
    let st := (r.orElse (s.writeStatus a row.obj i row.lo)).orElse
      (.unless (decide (size ≠ 0) && decide (data.length ≤ 1024) && decide (off + data.length ≤ size)) .size)
    if st ≠ .ok then let t := (s.countAccess a).refuseAt a st addr; (t, t.wrote a, [])
    else
      let asm := overlay off data (if x.asmObj = addr then x.asm else [])
      if fin then
        let t := (s.setNap (napRecord a) { x with asmObj := 0, asm := [] }).writeDomain a row.obj i asm
        (t, t.wrote a, [])
      else ((s.setNap (napRecord a) { x with asmObj := addr, asm := asm }).countAccess a, 0, [])

/-- READ_STAGED: the value staged in the accessor's context, or that in force. -/
def State.opStaged (s : State) (a : Accessor) (addr : Nat) : State × Nat × List Byte :=
  let q := s.readWord a addr ((s.reach a (addr / 256)).getD .state)
  let v := match rowFor a addr with
    | some (row, n) => ((tabFind (s.stageCtx (stageCtxOf a)).vals (objKey row.obj n)).map (fun v => toField 64 v)).getD q.2
    | none => q.2
  (s.countRead a q.1, q.1.code, if q.1 = .ok then beBytes 8 v else [])

/-- The outcome of an operation that stands alone: its reply goes to the accessor. -/
def State.opAnswer (s : State) (a : Accessor) (op addr : Nat) (fin : Bool) (q : State × Nat × List Byte) : State :=
  if s.reach a (addr / 256) = none then s else q.1.send (.nap a (opReply op q.2.1 addr fin q.2.2))

/-- NAP_READ (R476). -/
def execNapRead (a : Accessor) (addr : BitVec 24) (s : State) : Host.Outcome State Fault Refusal :=
  .next (s.opAnswer a 1 addr.toNat false (s.opRead s a addr.toNat))

/-- NAP_WRITE (R476). -/
def execNapWrite (a : Accessor) (addr : BitVec 24) (v : BitVec 64) (s : State) : Host.Outcome State Fault Refusal :=
  .next (s.opAnswer a 2 addr.toNat false (s.opWrite a addr.toNat v.toNat))

/-- NAP_DOMAIN_READ (R476). -/
def execNapDomainRead (a : Accessor) (addr : BitVec 24) (off n : Nat) (s : State) : Host.Outcome State Fault Refusal :=
  .next (s.opAnswer a 4 addr.toNat false (s.opDomainRead a addr.toNat off n))

/-- NAP_DOMAIN_WRITE (R476). -/
def execNapDomainWrite (a : Accessor) (addr : BitVec 24) (off : Nat) (data : List Byte) (fin : Bool) (s : State) :
    Host.Outcome State Fault Refusal :=
  .next (s.opAnswer a 5 addr.toNat fin (s.opDomainWrite a addr.toNat off data fin))

/-- NAP_READ_STAGED (R476). -/
def execNapReadStaged (a : Accessor) (addr : BitVec 24) (s : State) : Host.Outcome State Fault Refusal :=
  .next (s.opAnswer a 6 addr.toNat false (s.opStaged a addr.toNat))

/-! ### Requests (R475, R477) -/

/-- Fields of the header (R475). -/
def nhVersion (x : Nat) : Nat := bits x 127 120
def nhResponse (x : Nat) : Bool := bitAt x 119
def nhGroup (x : Nat) : Bool := bitAt x 117
def nhCount (x : Nat) : Nat := bits x 111 104
def nhSession (x : Nat) : Nat := bits x 103 72
def nhSeq (x : Nat) : Nat := bits x 71 40
def nhLength (x : Nat) : Nat := bits x 31 16

/-- An operation of a request (R476). -/
structure NapOp where
  op : Nat
  addr : Nat
  fin : Bool
  data : List Byte
  deriving DecidableEq, Repr

/-- The operations of a request; none if its bytes do not hold exactly as many. -/
def napOps : Nat → List Byte → Option (List NapOp)
  | 0, l => if l = [] then some [] else none
  | n + 1, l =>
    let h := beNat (slice 0 8 l)
    let len := bits h 15 0
    let whole := 8 + roundUp len 8
    if 1032 < len ∨ l.length < whole then none
    else (napOps n (l.drop whole)).map (fun r => NapOp.mk (bits h 63 56) (bits h 47 24) (bitAt h 16) (slice 8 len l) :: r)

/-- A request's operations, if it is well formed (R475; log entry 84). -/
def napParse (d : List Byte) : Option (List NapOp) :=
  let x := beNat (slice 0 16 d)
  if d.length < 16 ∨ nhVersion x ≠ 1 ∨ nhResponse x = true ∨ nhCount x = 0 ∨ 64 < nhCount x ∨ d.length < 16 + nhLength x then none
  else napOps (nhCount x) (slice 16 (nhLength x) d)

/-- Bytes of an operation's reply if it succeeds. -/
def NapOp.replyLen (o : NapOp) : Nat :=
  match o.op with
  | 1 => 16
  | 6 => 16
  | 4 => 8 + roundUp (beNat (slice 4 4 o.data)) 8
  | _ => 8

/-- One operation of a request, with reads as in state `g`. -/
def State.napOp (s g : State) (a : Accessor) (o : NapOp) : State × Nat × List Byte :=
  match o.op with
  | 1 => s.opRead g a o.addr
  | 2 => if o.data.length = 8 then s.opWrite a o.addr (beNat o.data) else s.opRefused a .size
  | 4 =>
    if o.data.length = 8 then s.opDomainRead a o.addr (beNat (slice 0 4 o.data)) (beNat (slice 4 4 o.data))
    else s.opRefused a .size
  | 5 =>
    if 8 ≤ o.data.length then s.opDomainWrite a o.addr (beNat (slice 0 4 o.data)) (o.data.drop 8) o.fin
    else s.opRefused a .size
  | 6 => s.opStaged a o.addr
  | _ => s.opRefused a .range

/-- The operations of a request in order: the state, the replies, and the first status that is not OK. A reply that would pass
`room` bytes ends with SIZE (R476). With GROUP, reads show the state at the first of them (R464). -/
def State.napRun (s : State) (a : Accessor) (group : Bool) (g : Option State) (room : Nat) (out : List Byte) (st : Nat) :
    List NapOp → State × List Byte × Nat
  | [] => (s, out, st)
  | o :: r =>
    let g := if group && decide (o.op = 1) then some (g.getD s) else g
    let q := if room < 16 + out.length + o.replyLen then s.opRefused a .size
      else s.napOp (if group then g.getD s else s) a o
    q.1.napRun a group g room (out ++ opReply o.op q.2.1 o.addr o.fin q.2.2) (if st = 0 then q.2.1 else st) r

/-- The header of a reply (R475). -/
def replyHead (x : Nat) (st len : Nat) : List Byte :=
  beBytes 16 (1 * 2 ^ 120 + 2 ^ 119 + bits x 118 117 * 2 ^ 117 + nhCount x * 2 ^ 104 + nhSession x * 2 ^ 72 + nhSeq x * 2 ^ 40
    + st * 2 ^ 32 + len * 2 ^ 16)

/-- The session records of a class (R477, R478). -/
def napRecords (c : PortClass) : List Nat := match c with | .b => [32] | .p => [33] | _ => List.range 32

/-- The record idle longest of a list. -/
def State.idlest (s : State) : List Nat → Nat
  | [] => 0
  | [k] => k
  | k :: r => if (s.nap k).used ≤ (s.nap (s.idlest r)).used then k else s.idlest r

/-- The place of the next request in the order of use. -/
def State.napStamp (s : State) : Nat := ((s.naps.map (fun p => p.2.used)).foldl max 0) + 1

/-- A new session takes record k (R477): with its own objects at 0x1101 as after reset (R481). -/
def State.newSession (s : State) (k session : Nat) : State :=
  let s := s.bumpIf (s.nap k).valid .napSessionEvictions 0
  let s := if k = 32 then s else s.setObj .dictLastStatus (65 + k) 0
  s.setNap k { NapSt.reset with valid := true, session := session }

/-- A request executes in record k, and is answered once its writes are acknowledged (R463, R477). -/
def State.napExecute (s : State) (c : PortClass) (k port room : Nat) (frameOf : List Byte → List Byte) (x : Nat)
    (ops : List NapOp) : State :=
  let a : Accessor := ⟨c, k⟩
  let stamp := s.napStamp
  let q := s.napRun a (nhGroup x) none room [] 0 ops
  let s := q.1
  let reply := replyHead x q.2.2 q.2.1.length ++ q.2.1
  let busy := s.unacked.any (fun u => decide (u.who.cls ≠ .h) && decide (u.who.cls ≠ .v) && decide (napRecord u.who = k))
  let s := s.setNap k { s.nap k with
    valid := true, session := nhSession x, seq := nhSeq x, used := stamp, reply := reply, frame := frameOf reply, port := port
    busy := busy }
  if busy then s else s.napEmit k

/-- A NAP datagram of a class arrives by a port (R475, R477); its reply may take `room` bytes. -/
def State.napTake (s : State) (c : PortClass) (port room : Nat) (frameOf : List Byte → List Byte) (d : List Byte) : State :=
  if s.reach ⟨c, 0⟩ 0x1000 = none then s
  else
    match napParse d with
    | none => s.bump .napMalformed 0
    | some ops =>
      let x := beNat (slice 0 16 d)
      match (napRecords c).find? (fun k => (s.nap k).valid && decide ((s.nap k).session = nhSession x)) with
      | some k =>
        let y := s.nap k
        if nhSeq x = y.seq then (if y.busy then s.bump .napDuplicates 0 else (s.bump .napDuplicates 0).napEmit k)
        else if seqBelow (nhSeq x) y.seq then s.bump .napStale 0
        else s.napExecute c k port room frameOf x ops
      | none =>
        let k := s.idlest (napRecords c)
        (s.newSession k (nhSession x)).napExecute c k port room frameOf x ops

/-! ### NAP and ARP in frames (R474) -/

/-- The one's-complement sum of 16-bit words. -/
def onesSum : Nat → List Byte → Nat
  | 0, _ => 0
  | n + 1, l => be16At 0 l + onesSum n (l.drop 2)

/-- The Internet checksum of a block. -/
def inetChecksum (l : List Byte) : Nat :=
  let t := onesSum (ceilDiv l.length 2) l
  let t := t / 65536 + t % 65536
  65535 - (t / 65536 + t % 65536) % 65536

/-- A NAP reply in IPv4 and UDP to the sender of a frame (R474). Identification and time to live are free; checksums are computed
(log entry 84). -/
def napFrame (mac : Nat) (req reply : List Byte) : List Byte :=
  let o := payloadAt req
  let udp := o + 4 * ((req.getD o 0).toNat % 16)
  let ips := slice (o + 16) 4 req ++ slice (o + 12) 4 req
  let len := reply.length + 8
  let ip := fun (c : Nat) => beBytes 2 0x4500 ++ beBytes 2 (len + 20) ++ beBytes 2 (Config.freeOf 47 [0]) ++ beBytes 2 0
    ++ beBytes 1 (Config.freeOf 47 [1]) ++ beBytes 1 17 ++ beBytes 2 c ++ ips
  let up := fun (c : Nat) => beBytes 2 38496 ++ slice udp 2 req ++ beBytes 2 len ++ beBytes 2 c ++ reply
  slice 6 6 req ++ beBytes 6 mac ++ slice 12 (4 * tagCount req) req ++ beBytes 2 0x0800 ++ ip (inetChecksum (ip 0))
    ++ up (inetChecksum (ips ++ beBytes 2 17 ++ beBytes 2 len ++ up 0))

/-- The UDP payload of a frame; none of a fragment. -/
def udpPayload (l : List Byte) : Option (List Byte) :=
  let o := payloadAt l
  let udp := o + 4 * ((l.getD o 0).toNat % 16)
  if be16At (o + 6) l % 0x4000 ≠ 0 then none else some ((l.drop (udp + 8)).take (be16At (udp + 4) l - 8))

/-- The NAP address of a port, if it takes NAP (R400, R474): 48 is the management port. -/
def State.napIp (s : State) (p : Nat) : Option Nat :=
  if p = 48 then (if s.objN .mgmtIp 0 = 0 then none else some (s.objN .mgmtIp 0))
  else if s.obj .ethNapEn p = 0 ∨ s.objN .napFhIp 0 = 0 then none
  else some (s.objN .napFhIp 0)

/-- A port's MAC address. -/
def State.portMac (s : State) (p : Nat) : Nat := if p = 48 then s.objN .mgmtMacAddr 0 else s.objN .ethMacAddr p

/-- Bytes a NAP datagram of a reply may have on a port: its frame limit less the headers (R476). -/
def State.napRoom (s : State) (p : Nat) : Nat := (if p = 48 then s.objN .mgmtMaxFrame 0 else s.objN .ethMaxFrame p) - 46

/-- NAP_REQUEST (R474 to R477): a frame with a NAP datagram for the port's address. -/
def execNapRequest (p : Fin 49) (l : List Byte) (s : State) : Host.Outcome State Fault Refusal :=
  .next <|
    match s.napIp p with
    | none => s
    | some ip =>
      if udpDst l ≠ some (38496, ip) then s
      else
        match udpPayload l with
        | none => s.bump .napMalformed 0
        | some d =>
          let mac := s.portMac p
          s.napTake (if p.val = 48 then .m else .f) p.val (s.napRoom p)
            (fun r => if p.val = 48 then padded (napFrame mac l r) else napFrame mac l r) d

/-- The ARP reply to a request. -/
def arpReply (mac : Nat) (req : List Byte) : List Byte :=
  let o := payloadAt req
  slice 6 6 req ++ beBytes 6 mac ++ slice 12 (4 * tagCount req) req ++ beBytes 2 0x0806 ++ slice o 6 req ++ beBytes 2 2
    ++ beBytes 6 mac ++ slice (o + 24) 4 req ++ slice (o + 8) 10 req

/-- ARP_REQUEST (R400, R474). -/
def execArpRequest (p : Fin 49) (l : List Byte) (s : State) : Host.Outcome State Fault Refusal :=
  .next <|
    match s.napIp p with
    | none => s
    | some ip =>
      if isArpFor ip l = false then s
      else if p.val = 48 then s.send (.mgmt (padded (arpReply (s.portMac p) l)))
      else s.offerOwn p 0 19 (arpReply (s.portMac p) l)

/-! ### The management port (R400, R523) -/

/-- MGMT_LINK_UP (R400). -/
def execMgmtLinkUp (s : State) : Host.Outcome State Fault Refusal :=
  .next (if s.obj .pwrState 0 = 4 ∧ s.obj .startRung 0 = 0 then s else s.setObj .mgmtState 0 portUp)

/-- MGMT_LINK_DOWN (R400). -/
def execMgmtLinkDown (s : State) : Host.Outcome State Fault Refusal :=
  .next (if s.obj .mgmtState 0 = portUp then s.setObj .mgmtState 0 portDown else s)

/-- The bytes of a list from each place on hold a block somewhere. -/
def holdsBlock (b : List Byte) : List Byte → Bool
  | [] => decide (b = [])
  | x :: r => decide ((x :: r).take b.length = b) || holdsBlock b r

/-- The magic payload of a MAC address (R523). -/
def magicOf (mac : Nat) : List Byte := List.replicate 6 0xFF ++ (List.range 16).flatMap (fun _ => beBytes 6 mac)

/-- A frame matches a pattern entry (R523). -/
def patternMatches (e l : List Byte) : Bool :=
  let n := (e.getD 1 0).toNat
  decide ((e.getD 0 0).toNat % 2 = 1) && decide (1 ≤ n) && decide (n ≤ 128) && decide (n ≤ l.length)
    && (List.range n).all (fun i => !bitAt (e.getD (16 + i / 8) 0).toNat (i % 8) || decide (l.getD i 0 = e.getD (32 + i) 0))

/-- A frame is a wake pattern (R523). -/
def State.wakePattern (s : State) (l : List Byte) : Bool :=
  (decide (s.obj .shWakeMagic 0 = 1) && holdsBlock (magicOf (s.objN .mgmtMacAddr 0)) (l.drop (payloadAt l)))
  || (List.range 4).any (fun i => patternMatches (slice (160 * i) 160 (s.dom .shWakePatterns 0)) l)

/-- MGMT_WAKE_PATTERN (R523): in S2 and S3. -/
def State.mgmtWake (s : State) (l : List Byte) : State :=
  if (s.obj .pwrState 0 = 2 ∨ s.obj .pwrState 0 = 3) ∧ s.obj .startRung 0 = 0 ∧ s.wakePattern l then
    (s.bump .shPatternMatches 0).assertWake 1
  else s

/-- MGMT_FRAME_RECEIVE (R373, R374, R400, R523): bad frames are dropped; ARP and NAP for `MGMT_IP` go to the Lodge, which answers
them by ARP_REQUEST and NAP_REQUEST; every other frame is dropped and counted. -/
def execMgmtFrameReceive (f : RxFrame) (s : State) : Host.Outcome State Fault Refusal :=
  .next <|
    let n := frameLen f.body
    if s.obj .mgmtState 0 ≠ portUp ∨ f.code = true ∨ f.fcs = false ∨ n ≤ 63 ∨ s.objN .mgmtMaxFrame 0 + 4 * tagCount f.body < n then s
    else
      let s := s.mgmtWake f.body
      if (s.napIp 48).any (fun ip => isArpFor ip f.body || decide (udpDst f.body = some (38496, ip))) then s.hand 2 48 f.body
      else s.bump .mgmtUnclaimed 0

/-! ### The I3C target (R478) -/

/-- The target answers: in every state but S4. -/
def State.i3cOn (s : State) : Bool := !(decide (s.obj .pwrState 0 = 4) && decide (s.obj .startRung 0 = 0))

/-- I3C_PRIVATE_WRITE (R478): one NAP request of at most 1,056 bytes with class B; a reply not read is given up. -/
def execI3cPrivateWrite (d : List Byte) (s : State) : Host.Outcome State Fault Refusal :=
  .next <|
    if s.i3cOn = false then s
    else
      let s := { s with i3c := { s.i3c with ready := false } }
      if 1056 < d.length then s.bump .napMalformed 0
      else s.napTake .b 32 1056 (fun _ => []) d

/-- I3C_PRIVATE_READ (R478): NACKed until the reply is ready; the reply is kept until it is read. -/
def execI3cPrivateRead (s : State) : Host.Outcome State Fault Refusal :=
  .next <|
    if s.i3cOn = false then s
    else if s.i3c.ready then ({ s with i3c := { s.i3c with ready := false } }).send (.i3c true (s.nap 32).reply)
    else s.send (.i3c false [])

/-- The provisioned ID, BCR and DCR: the spec gives no values, so they are free (log entry 85). -/
def i3cPid : List Byte := (List.range 6).map (fun i => BitVec.ofNat 8 (Config.freeOf 48 [i]))
def i3cBcr : Byte := BitVec.ofNat 8 (Config.freeOf 49 [])
def i3cDcr : Byte := BitVec.ofNat 8 (Config.freeOf 50 [])

/-- ENTDAA (R478): a target without a dynamic address sends its ID and takes the one it is given. -/
def execEntdaa (da : Fin 128) (s : State) : Host.Outcome State Fault Refusal :=
  .next <|
    if s.i3cOn && s.i3c.da.isNone then
      ({ s with i3c := { s.i3c with da := some da.val } }).send (.i3c true (i3cPid ++ [i3cBcr, i3cDcr]))
    else s

/-- SETDASA (R478): the dynamic address from the static address 0x5C. -/
def execSetdasa (sa da : Fin 128) (s : State) : Host.Outcome State Fault Refusal :=
  .next <|
    if s.i3cOn && decide (sa.val = 0x5C) && s.i3c.da.isNone then
      ({ s with i3c := { s.i3c with da := some da.val } }).send (.i3c true [])
    else s

/-- RSTDAA (R478). -/
def execRstdaa (s : State) : Host.Outcome State Fault Refusal :=
  .next (if s.i3cOn then ({ s with i3c := { s.i3c with da := none } }).send (.i3c true []) else s)

/-- GETPID (R478). -/
def execGetpid (s : State) : Host.Outcome State Fault Refusal := .next (if s.i3cOn then s.send (.i3c true i3cPid) else s)

/-- GETBCR (R478). -/
def execGetbcr (s : State) : Host.Outcome State Fault Refusal := .next (if s.i3cOn then s.send (.i3c true [i3cBcr]) else s)

/-- GETDCR (R478). -/
def execGetdcr (s : State) : Host.Outcome State Fault Refusal := .next (if s.i3cOn then s.send (.i3c true [i3cDcr]) else s)

/-- GETSTATUS (R478): two bytes, free (log entry 85). -/
def execGetstatus (s : State) : Host.Outcome State Fault Refusal :=
  .next (if s.i3cOn then s.freeUsed.send (.i3c true (beBytes 2 s.free)) else s)

/-- ENEC (R478): bit 0 enables in-band interrupts (log entry 52). -/
def execEnec (ev : BitVec 8) (s : State) : Host.Outcome State Fault Refusal :=
  .next (if s.i3cOn && bitAt ev.toNat 0 then { s with i3c := { s.i3c with ibi := true } } else s)

/-- DISEC (R478): bit 0 disables in-band interrupts. -/
def execDisec (ev : BitVec 8) (s : State) : Host.Outcome State Fault Refusal :=
  .next (if s.i3cOn && bitAt ev.toNat 0 then { s with i3c := { s.i3c with ibi := false } } else s)

end Sys2Proof.Machine
end

