-- ==== Sys2Proof/Machine/Link.lean ====
section
/-! DEFINITION. Frames that arrive on the peer lanes: the Dravut link (R545 to R550) and the Munov chain (R553 to R557). Payloads
the spec leaves without a layout are in log entries 45, 78, 80 and 83. -/

namespace Sys2Proof.Machine

/-- A frame of the link as received (R545, R553): `low` is `PAIR_EPOCH`, or the addresses. -/
structure LinkRx where
  ty : Nat
  fseq : Nat
  ack : Nat
  low : Nat
  payload : List Byte
  deriving DecidableEq, Repr

/-- A frame without a CRC error; none with one (R545). -/
def linkParse (f : List Byte) : Option LinkRx :=
  let x := beNat (slice 0 16 f)
  let n := bits x 123 109
  if f.length < 20 ∨ 4096 < n ∨ f.length ≠ 20 + n ∨ beNat (f.drop (16 + n)) ≠ crc32c (f.take (16 + n)) then none
  else some ⟨bits x 127 124, bits x 95 64, bits x 63 32, bits x 31 0, slice 16 n f⟩

/-! ### Heartbeats (R544, R549) -/

/-- A heartbeat arrives: the link is up, and a pair forms, re-forms or completes (R544, log entry 78). -/
def State.heard (s : State) (p : List Byte) : State :=
  let role := (p.getD 0 0).toNat
  let st := (p.getD 1 0).toNat
  let s := { s with pair := { s.pair with missed := 0, role := role, st := st } }
  if s.obj .pairMode 0 ≠ 1 ∨ s.linkLanes < 4 then s
  else
    let s := { s with pair := { s.pair with up := true } }
    let mine := s.obj .pairState 0
    if mine = pairSingle ∧ role = 1 ∧ (st : Int) = pairJoining then (s.setObj .pairRole 0 2).pairEnter pairJoining
    else if mine = pairSolo ∧ role ≠ 1 then (s.pairEnter pairJoining).syncStart
    else if mine = pairDetached ∧ role = 1 then s.pairEnter pairJoining
    else if mine = pairJoining ∧ s.obj .pairRole 0 = 2 ∧ role = 1 ∧ (st : Int) = pairPaired then s.pairEnter pairPaired
    else s

/-! ### What a standby takes over (R546, R547) -/

/-- A mirrored value takes effect on the standby, or is staged in context k. -/
def State.mirrorValue (s : State) (o : Obj) (n : Nat) (v : Int) (k : Nat) : State :=
  if o = .jrEnable then (if v ≠ 0 then s.enableRing n else s.disableRing n)
  else if o = .stageCancel then s.stageCancel n
  else if o = .ctxEnable then s.ctxEnableTo v.toNat
  else if o = .pairMode ∨ o = .chainRole then s
  else
    match (objRow o).acc with
    | .rws => (s.stageVal k (objKey o n) v).1
    | .cmd | .const => s
    | _ => s.objEffect o n v

/-- The first copy of a long write, line by line (R538). -/
def State.copyAt (s : State) (b n : Nat) : List Byte :=
  ((List.range (ceilDiv n 64)).flatMap (fun i => s.readMem (b + 128 * i) 64)).take n

/-- A dictionary write of the primary (KIND 0x03, R538). -/
def State.mirrorWrite (s : State) (addr : Nat) (body : List Byte) : State :=
  match rowAt addr with
  | none => s
  | some (row, n) =>
    if row.ty.bytes = 0 then
      let k := if (body.getD 8 0).toNat = classNo .v then (body.getD 9 0).toNat else 0
      s.mirrorValue row.obj n (match row.ty with | .signed _ => signExt 64 (leNat (slice 0 8 body)) | _ => leNat (slice 0 8 body)) k
    else
      let k := if (body.getD 48 0).toNat = classNo .v then (body.getD 49 0).toNat else 0
      let l := s.copyAt (leNat (slice 8 8 body)) (leNat (slice 4 4 body))
      if row.acc = .rws then (s.stageDom k (objKey row.obj n) l).1
      else if row.acc = .const then s else s.setDom row.obj n (domClean row.obj l)

/-- An arm of the primary (KIND 0x04): the context is armed for its instant (R480, R550). -/
def State.mirrorArm (s : State) (k : Nat) (T : Int) : State :=
  let s : State := match s.armSim k T [] with
    | .ok a => a.halls.foldl (fun (s : State) (p : Nat × List (Nat × Nat)) =>
        s.setStage p.1 { s.stageCtx p.1 with halls := p.2.foldl (fun t q => tabPut t q.1 q.2) [] }) s
    | .error _ => s
  let x := { s.stageCtx k with tc := T }
  (((s.setStage k x).setObj .stageState k 1).setObj .stageTime k T).showArmed T x

/-- A job the primary accepted (KIND 0x01). Its slot is known to steering (R23) and, after a takeover, to the build releases (R151); whether it names
a PRACH occasion stands in its payload, which is not mirrored, so that is free (log entry 78). -/
def State.mirrorJob (s : State) (jseq r q : Nat) (body : List Byte) : State :=
  let d := leNat (slice 0 64 body)
  let c := jdCarrier d
  let S := s.slotOfSfn c (jdSfn d) (jdSlot d)
  let x := s.ring r
  let seen := (List.range 256).foldl (fun t k => tabSet 0 t k (s.objN .jrAccepted k)) []
  let first := !s.hasDlJob c S
  let s := s.setRing r { x with
    fetch := q + 1, tail := max x.tail (q + 1), jobs := x.jobs ++ [⟨q, d, S, jseq, seen, 0, 255, [], 0, 0, 0, false, [], false, []⟩] }
  let s := s.setObj .jrAccepted r (q + 1 : Nat)
  if jobUplink (jdType d) then
    let s := if s.ulJobs.contains (c, S) then s else { s with ulJobs := (c, S) :: s.ulJobs }
    let prach := decide (s.free % 2 = 1)
    let s := s.freeUsed
    if prach ∧ s.praJobs.contains (c, S) = false then { s with praJobs := (c, S) :: s.praJobs } else s
  else if jobDownlink (jdType d) ∧ c < 768 ∧ first then { s with dlJobs := (c, S) :: s.dlJobs }
  else s

/-- A completion gate of the primary (KIND 0x02). -/
def State.mirrorGate (s : State) (r q : Nat) (body : List Byte) : State :=
  match s.job r q with
  | some j => s.setJob r { j with st := 5, outcome := bits (leNat (slice 0 32 body)) 103 100, record := slice 0 32 body }
  | none => s

/-- A journal entry of the primary is written here and takes effect (R546). -/
def State.mirrorEntry (s : State) (p : List Byte) : State :=
  let h := leNat (slice 0 64 p)
  let body := slice 64 64 p
  let jseq := bits h 503 440
  let r := bits h 375 368
  let q := bits h 367 304
  let data := bits h 303 272
  let e : JEntry := ⟨bits h 511 504, jseq, bits h 439 408, bits h 407 376, r, q, data, body⟩
  if s.obj .relJournalBase 0 = 0 then s
  else
    let s := s.writeMem (s.journalAddr jseq) (slice 0 64 p ++ slice 0 64 p ++ body ++ body)
    let s := { s with journal := s.journal ++ [e], jseqNext := jseq + 1 }
    match e.kind with
    | 1 => s.mirrorJob jseq r q body
    | 2 => s.mirrorGate r q body
    | 3 => s.mirrorWrite data body
    | 4 => s.mirrorArm data (signExt 64 (leNat (slice 0 8 body)))
    | 7 =>
      { s with
        journal := s.journal.filter (fun e => decide (data ≤ e.jseq))
        jcopies := s.jcopies.filter (fun c => decide (data ≤ c.1)) }
    | _ => s

/-- A `CR_HEAD` the primary took (R446, R546): the records below it are read. -/
def State.mirrorHead (s : State) (r v : Nat) : State :=
  let x := s.ring r
  let s := s.setRing r { x with jobs := x.jobs.map (fun j => if j.seq < v then { j with st := 6 } else j) }
  let s := s.setObj .crWritten r (max (s.objN .crWritten r) v : Nat)
  (s.setObj .crHead r v).pruneJobs r

/-- The standby's old copy goes before the new one comes (R547): configuration objects, rings with their jobs, and the journal. -/
def State.copyGone (s : State) : State :=
  let s := s.resetObjs (fun r => !copiedObj r)
  { s with rings := [], journal := [], jcopies := [], jseqNext := 0, ulJobs := [], dlJobs := [], praJobs := [] }

/-- A part of the bulk copy (R547), by byte 0: memory 0, a scalar 1, bytes of a DOMAIN 2 from the offset in bytes 1 to 7, the context-store
engine's own state 3, a journal entry 4, the start of the copy 5, a region of zeros 6; bytes 8 to 15 address it. -/
def State.syncTake (s : State) (p : List Byte) : State :=
  let a := beNat (slice 8 8 p)
  let l := p.drop 16
  match (p.getD 0 0).toNat with
  | 0 => if s.inDdr a l.length then s.store a l else s
  | 1 => match rowAt a with
    | some (row, n) => if row.acc = .const then s else s.setObj row.obj n (match row.ty with | .signed _ => signExt 64 (beNat l) | _ => beNat l)
    | none => s
  | 2 => match rowAt a with
    | some (row, n) => if row.acc = .const then s else
        s.setDom row.obj n (domClean row.obj (overlay (beNat (slice 1 7 p)) l (s.dom row.obj n)))
    | none => s
  | 3 => s.ctxLogicTake l
  | 4 => s.mirrorEntry l
  | 5 => s.copyGone
  | 6 =>
    let n := beNat (slice 0 8 l)
    if s.inDdr a n then
      { s with mem := s.mem.filter (fun q => !(decide (a ≤ q.1) && decide (q.1 < a + n))) }
    else s
  | _ => s

/-! ### The Stairway from other devices (R554 to R557) -/

/-- The release of the oldest arrival of a group kept here for the landing above (R555). -/
def State.stairFreed (s : State) (g : Nat) : State :=
  match tabGet [] s.stair g with
  | a :: r => ({ s with stair := tabSet [] s.stair g r }).stairSend a.1 a.2 (swMsg 1 g 0)
  | [] => s

/-- A message of the Stairway from source `src`; `top`: this device has the top landing. -/
def State.stairTake (s : State) (src : Nat) (top : Bool) (m : Nat) : State :=
  match swOp m with
  | 1 => if top then s.stairArrive (swGroup m) (src, swReply m) else s.stairFreed (swGroup m)
  | 2 => s.stairDeliver (swGroup m) (swPayload m) (List.range 16)
  | 3 => s.stairArm (signExt 64 (swPayload m))
  | 0xF2 => if src = 16 then s.stairResetNow else s
  | 0xF3 => if src = 16 then s else s.stairResetNow
  | _ => s

/-! ### Dravut frames (R545) -/

/-- A NAP request of the partner or of the chain; a reply changes nothing, since the device sends no request. -/
def State.linkDict (s : State) (port : Nat) (back : List Byte) (p : List Byte) : State :=
  if nhResponse (beNat (slice 0 16 p)) then s else s.napTake .p port 4096 (fun _ => back) p

/-- A frame acted on by its TYPE. -/
def State.dravutAct (s : State) (x : LinkRx) : State :=
  let standby := decide (s.obj .pairRole 0 = 2)
  match x.ty with
  | 2 =>
    if standby = false then s
    else if x.payload.length = 9 then s.mirrorHead (x.payload.getD 0 0).toNat (beNat (slice 1 8 x.payload))
    else s.mirrorEntry x.payload
  | 3 =>
    let a := beNat (slice 0 8 x.payload)
    if standby && decide (a = ctxLogicAddr) then s.ctxLogicTake (x.payload.drop 8)
    else if standby && s.inDdr a (x.payload.length - 8) then s.store a (x.payload.drop 8) else s
  | 4 => if standby then s.hand 0 49 x.payload else s
  | 5 => s.linkDict 49 [] x.payload
  | 7 => s.stairTake 16 (!standby) (beNat (slice 0 16 x.payload))
  | 8 => if standby then s.syncTake x.payload else s
  | _ => s

/-- DRAVUT_FRAME_RECEIVE (R544 to R550). -/
def execDravutFrameReceive (f : List Byte) (s : State) : Host.Outcome State Fault Refusal :=
  .next <|
    if s.peerMode = false then s
    else
      match linkParse f with
      | none => s.bump .pairLinkRetries 0
      | some x =>
        if x.ty = 0 ∨ 8 < x.ty ∨ epochOlder 32 (s.objN .pairEpoch 0) x.low then s
        else
          let s := s.ackTo x.ack
          if x.ty = 1 then s.heard x.payload
          else if x.ty = 6 then s
          else if x.fseq = s.dravutExpect then
            let s := { s with dravutExpect := (s.dravutExpect + 1) % 2 ^ 32 }
            (s.send (.dravut 6 0 s.dravutExpect (s.objN .pairEpoch 0) [])).dravutAct x
          else if seqBelow x.fseq s.dravutExpect then
            s.send (.dravut 6 0 s.dravutExpect (s.objN .pairEpoch 0) [])
          else s.bump .pairLinkRetries 0

/-! ### Munov frames (R553) -/

/-- The device's address in the chain. -/
def State.munovMe (s : State) : Nat := s.objN .chainAddr 0

/-- A BULK frame (log entry 80): byte 0 is 0 a read of the length in bytes 4 to 7, 1 a write; bytes 8 to 15 the global address. -/
def State.munovBulk (s : State) (down : Bool) (src : Nat) (p : List Byte) : State :=
  let a := beNat (slice 8 8 p)
  let n := beNat (slice 4 4 p)
  match (p.getD 0 0).toNat with
  | 0 =>
    if n ≤ 4096 ∧ s.reachable a n then
      s.munovSend down 10 (munovAddrs src s.munovMe) (beBytes 1 2 ++ beBytes 3 0 ++ beBytes 4 n ++ beBytes 8 a ++ s.readMem a n)
    else s
  | 1 => if (p.drop 16).length ≤ 4096 ∧ s.reachable a (p.drop 16).length then (s.storeAsked a (p.drop 16)).1 else s
  | _ => s

/-- A frame addressed to this device, acted on by its TYPE (R553). -/
def State.munovAct (s : State) (down : Bool) (x : LinkRx) : State :=
  let src := bits x.low 25 20
  match x.ty with
  | 5 => s.linkDict (if down then 51 else 50) (beBytes 4 (munovAddrs src s.munovMe)) x.payload
  | 7 => s.stairTake (16 + max 1 src) (decide (s.obj .chainRole 0 = 1)) (beNat (slice 0 16 x.payload))
  | 9 => if s.obj .chainRole 0 = 1 then (s.hand 4 src x.payload).raiseVec 0 0 else s
  | 10 => s.munovBulk down src x.payload
  | _ => s

/-- A frame passed on, in cut-through, away from where it came; the head has nothing upstream (R552, R553). -/
def State.munovPass (s : State) (down : Bool) (x : LinkRx) : State :=
  if down ∧ s.obj .chainRole 0 = 1 then s else s.munovSend (!down) x.ty x.low x.payload

/-- A frame in sequence: taken, passed on, or both when addressed to all. -/
def State.munovTake (s : State) (down : Bool) (x : LinkRx) : State :=
  let dst := bits x.low 31 26
  let s := if dst ≠ s.munovMe then s.munovPass down x else s
  if dst = s.munovMe ∨ dst = 63 then s.munovAct down x else s

/-- MUNOV_FRAME_RECEIVE (R545, R552, R553): on the downstream or the upstream lanes. -/
def execMunovFrameReceive (down : Bool) (f : List Byte) (s : State) : Host.Outcome State Fault Refusal :=
  .next <|
    if s.obj .laneQuadMode 12 ≠ 10 ∨ s.obj .chainRole 0 = 0 then s
    else
      match linkParse f with
      | none => s.bump .pairLinkRetries 0
      | some x =>
        let d := s.munovDir down
        let s := s.setMunov down { d with sent := d.sent.dropWhile (fun g => seqBelow g.fseq x.ack) }
        let d := s.munovDir down
        if x.ty = 6 then s
        else if x.fseq = d.expect then
          let e := (d.expect + 1) % 2 ^ 32
          let s := s.setMunov down { d with expect := e }
          (s.send (.munov down (linkFrame 6 0 e (munovAddrs (bits x.low 25 20) s.munovMe) []))).munovTake down x
        else if seqBelow x.fseq d.expect then
          s.send (.munov down (linkFrame 6 0 d.expect (munovAddrs (bits x.low 25 20) s.munovMe) []))
        else s.bump .pairLinkRetries 0

end Sys2Proof.Machine
end

