-- ==== Sys2Proof/Machine/Dispatch.lean ====
section
/-! DEFINITION. One arm per command: a direct call of its meaning. -/

namespace Sys2Proof.Machine

/-- The effect of a command on everything but the queue. -/
def exec (i : Instr) (s : State) : Host.Outcome State Fault Refusal :=
  match i with
  | .hallRateSample u rate => Sys2Proof.Machine.execHallRateSample u rate s
  | .pacingPeriodEnd u => Sys2Proof.Machine.execPacingPeriodEnd u s
  | .lowerIntervalEnd u => Sys2Proof.Machine.execLowerIntervalEnd u s
  | .hallPaceSnap a u v => Sys2Proof.Machine.execHallPaceSnap a u v s
  | .hallLevelWrite a u v => Sys2Proof.Machine.execHallLevelWrite a u v s
  | .levelSlewDone u => Sys2Proof.Machine.execLevelSlewDone u s
  | .snapRailSettled u => Sys2Proof.Machine.execSnapRailSettled u s
  | .hallPaceEnWrite a u v => Sys2Proof.Machine.execHallPaceEnWrite a u v s
  | .paceStartHoldExpire u => Sys2Proof.Machine.execPaceStartHoldExpire u s
  | .hallRailUndervoltage u => Sys2Proof.Machine.execHallRailUndervoltage u s
  | .thermalSample tj => Sys2Proof.Machine.execThermalSample tj s
  | .thermTripHoldEnd => Sys2Proof.Machine.execThermTripHoldEnd s
  | .thermWarnWrite a v => Sys2Proof.Machine.execThermWarnWrite a v s
  | .bundleIssue c => Sys2Proof.Machine.execBundleIssue c s
  | .interruptTaken c done debug => Sys2Proof.Machine.execInterruptTaken c done debug s
  | .windowAsync c => Sys2Proof.Machine.execWindowAsync c s
  | .windowLoadResponse c status elem => Sys2Proof.Machine.execWindowLoadResponse c status elem s
  | .fence c => Sys2Proof.Machine.execFence c s
  | .add c d a b f => Sys2Proof.Machine.execAdd c d a b f s
  | .sub c d a b f => Sys2Proof.Machine.execSub c d a b f s
  | .mpy c n a ha b hb sh f => Sys2Proof.Machine.execMpy c n a ha b hb sh f s
  | .mac c n a ha b hb sh f => Sys2Proof.Machine.execMac c n a ha b hb sh f s
  | .msu c n a ha b hb sh f => Sys2Proof.Machine.execMsu c n a ha b hb sh f s
  | .exth c d hd n sc rm f => Sys2Proof.Machine.execExth c d hd n sc rm f s
  | .extw c d n sc rm f => Sys2Proof.Machine.execExtw c d n sc rm f s
  | .asrr c d a n rm f => Sys2Proof.Machine.execAsrr c d a n rm f s
  | .clr c n => Sys2Proof.Machine.execClr c n s
  | .bra c cond off => Sys2Proof.Machine.execBra c cond off s
  | .call c target => Sys2Proof.Machine.execCall c target s
  | .ret c => Sys2Proof.Machine.execRet c s
  | .rep c imm cnt fin => Sys2Proof.Machine.execRep c imm cnt fin s
  | .mvc c dir num n => Sys2Proof.Machine.execMvc c dir num n s
  | .rte c => Sys2Proof.Machine.execRte c s
  | .trap c => Sys2Proof.Machine.execTrap c s
  | .bkpt c => Sys2Proof.Machine.execBkpt c s
  | .nop c => Sys2Proof.Machine.execNop c s
  | .fullFormMove c w => Sys2Proof.Machine.execFullFormMove c w s
  | .compactMove c w => Sys2Proof.Machine.execCompactMove c w s
  | .compactMultiplyMove c w => Sys2Proof.Machine.execCompactMultiplyMove c w s
  | .coreHalt a c v => Sys2Proof.Machine.execCoreHalt a c v s
  | .coreResume a c v => Sys2Proof.Machine.execCoreResume a c v s
  | .vadd c ty d a b hf mk zm rm => Sys2Proof.Machine.execVadd c ty d a b hf mk zm rm s
  | .vsub c ty d a b hf mk zm rm => Sys2Proof.Machine.execVsub c ty d a b hf mk zm rm s
  | .vmin c ty d a b hf mk zm rm => Sys2Proof.Machine.execVmin c ty d a b hf mk zm rm s
  | .vmax c ty d a b hf mk zm rm => Sys2Proof.Machine.execVmax c ty d a b hf mk zm rm s
  | .vabs c ty d a b hf mk zm rm => Sys2Proof.Machine.execVabs c ty d a b hf mk zm rm s
  | .vneg c ty d a b hf mk zm rm => Sys2Proof.Machine.execVneg c ty d a b hf mk zm rm s
  | .vand c ty d a b hf mk zm rm => Sys2Proof.Machine.execVand c ty d a b hf mk zm rm s
  | .vor c ty d a b hf mk zm rm => Sys2Proof.Machine.execVor c ty d a b hf mk zm rm s
  | .vxor c ty d a b hf mk zm rm => Sys2Proof.Machine.execVxor c ty d a b hf mk zm rm s
  | .vasrr c ty d a b hf mk zm rm => Sys2Proof.Machine.execVasrr c ty d a b hf mk zm rm s
  | .vshl c ty d a b hf mk zm rm => Sys2Proof.Machine.execVshl c ty d a b hf mk zm rm s
  | .vmul c ty d a b hf mk zm rm => Sys2Proof.Machine.execVmul c ty d a b hf mk zm rm s
  | .vcmul c ty d a b hf mk zm rm => Sys2Proof.Machine.execVcmul c ty d a b hf mk zm rm s
  | .vmpy c ty d a b hf mk cj sh => Sys2Proof.Machine.execVmpy c ty d a b hf mk cj sh s
  | .vmac c ty d a b hf mk cj sh => Sys2Proof.Machine.execVmac c ty d a b hf mk cj sh s
  | .vmsu c ty d a b hf mk cj sh => Sys2Proof.Machine.execVmsu c ty d a b hf mk cj sh s
  | .vaclr c d mk => Sys2Proof.Machine.execVaclr c d mk s
  | .vexth c ty d a sc mk rm => Sys2Proof.Machine.execVexth c ty d a sc mk rm s
  | .vcmpeq c ty a b hf mk => Sys2Proof.Machine.execVcmpeq c ty a b hf mk s
  | .vcmplt c ty a b hf mk => Sys2Proof.Machine.execVcmplt c ty a b hf mk s
  | .vcmple c ty a b hf mk => Sys2Proof.Machine.execVcmple c ty a b hf mk s
  | .vperm c ty d a b hf mk zm rm => Sys2Proof.Machine.execVperm c ty d a b hf mk zm rm s
  | .vzipl c ty d a b hf mk zm rm => Sys2Proof.Machine.execVzipl c ty d a b hf mk zm rm s
  | .vziph c ty d a b hf mk zm rm => Sys2Proof.Machine.execVziph c ty d a b hf mk zm rm s
  | .vuzpe c ty d a b hf mk zm rm => Sys2Proof.Machine.execVuzpe c ty d a b hf mk zm rm s
  | .vuzpo c ty d a b hf mk zm rm => Sys2Proof.Machine.execVuzpo c ty d a b hf mk zm rm s
  | .vdup c ty d a b hf mk zm rm => Sys2Proof.Machine.execVdup c ty d a b hf mk zm rm s
  | .vrsum c ty d a hf mk => Sys2Proof.Machine.execVrsum c ty d a hf mk s
  | .vrmax c ty d a hf mk => Sys2Proof.Machine.execVrmax c ty d a hf mk s
  | .vrmin c ty d a hf mk => Sys2Proof.Machine.execVrmin c ty d a hf mk s
  | .vgather c ty d a an sc mk => Sys2Proof.Machine.execVgather c ty d a an sc mk s
  | .vscatter c ty d a an sc mk => Sys2Proof.Machine.execVscatter c ty d a an sc mk s
  | .vstr c d => Sys2Proof.Machine.execVstr c d s
  | .vstw c d => Sys2Proof.Machine.execVstw c d s
  | .schSwitch c d a => Sys2Proof.Machine.execSchSwitch c d a s
  | .schYield c d a => Sys2Proof.Machine.execSchYield c d a s
  | .schExit c d a => Sys2Proof.Machine.execSchExit c d a s
  | .schCreate c d a => Sys2Proof.Machine.execSchCreate c d a s
  | .schKill c d a => Sys2Proof.Machine.execSchKill c d a s
  | .schSetPrio c d a => Sys2Proof.Machine.execSchSetPrio c d a s
  | .schDelay c d a => Sys2Proof.Machine.execSchDelay c d a s
  | .schDelayUntil c d a => Sys2Proof.Machine.execSchDelayUntil c d a s
  | .schSemTake c d a => Sys2Proof.Machine.execSchSemTake c d a s
  | .schSemTry c d a => Sys2Proof.Machine.execSchSemTry c d a s
  | .schSemGive c d a => Sys2Proof.Machine.execSchSemGive c d a s
  | .schSemInit c d a => Sys2Proof.Machine.execSchSemInit c d a s
  | .schMsgSend c d a => Sys2Proof.Machine.execSchMsgSend c d a s
  | .schMsgTrySend c d a => Sys2Proof.Machine.execSchMsgTrySend c d a s
  | .schMsgRecv c d a => Sys2Proof.Machine.execSchMsgRecv c d a s
  | .schMsgTryRecv c d a => Sys2Proof.Machine.execSchMsgTryRecv c d a s
  | .schQueueSet c d a => Sys2Proof.Machine.execSchQueueSet c d a s
  | .schSoftInt c d a => Sys2Proof.Machine.execSchSoftInt c d a s
  | .schTrace c d a => Sys2Proof.Machine.execSchTrace c d a s
  | .schTick h => Sys2Proof.Machine.execSchTick h s
  | .schRemoteOp h src => Sys2Proof.Machine.execSchRemoteOp h src s
  | .schWdCheck h => Sys2Proof.Machine.execSchWdCheck h s
  | .schTickNsWrite a h v => Sys2Proof.Machine.execSchTickNsWrite a h v s
  | .schPmemLoad a h v => Sys2Proof.Machine.execSchPmemLoad a h v s
  | .pmemCoreLoad c => Sys2Proof.Machine.execPmemCoreLoad c s
  | .carrierBuildRelease c slot => Sys2Proof.Machine.execCarrierBuildRelease c slot s
  | .ulFrameSteering f => Sys2Proof.Machine.execUlFrameSteering f s
  | .ulWindowClose k => Sys2Proof.Machine.execUlWindowClose k s
  | .ulReleaseAtDeadline k => Sys2Proof.Machine.execUlReleaseAtDeadline k s
  | .ulGainSet h => Sys2Proof.Machine.execUlGainSet h s
  | .ulEngineDescriptor h e => Sys2Proof.Machine.execUlEngineDescriptor h e s
  | .arm h => Sys2Proof.Machine.execArm h s
  | .ulRelease h => Sys2Proof.Machine.execUlRelease h s
  | .chest h => Sys2Proof.Machine.execChest h s
  | .detect h => Sys2Proof.Machine.execDetect h s
  | .weights h => Sys2Proof.Machine.execWeights h s
  | .fft h => Sys2Proof.Machine.execFft h s
  | .outer h => Sys2Proof.Machine.execOuter h s
  | .outerAbandon h => Sys2Proof.Machine.execOuterAbandon h s
  | .praEvaluation e slot rep prof => Sys2Proof.Machine.execPraEvaluation e slot rep prof s
  | .dec h => Sys2Proof.Machine.execDec h s
  | .decBlockStart h => Sys2Proof.Machine.execDecBlockStart h s
  | .harqStore h bad => Sys2Proof.Machine.execHarqStore h bad s
  | .enc h => Sys2Proof.Machine.execEnc h s
  | .polar h fin => Sys2Proof.Machine.execPolar h fin s
  | .turbo h fin => Sys2Proof.Machine.execTurbo h fin s
  | .harqFree h => Sys2Proof.Machine.execHarqFree h s
  | .build h => Sys2Proof.Machine.execBuild h s
  | .shape h => Sys2Proof.Machine.execShape h s
  | .tdTailAlone c slot => Sys2Proof.Machine.execTdTailAlone c slot s
  | .tdMaskUnmute a c v => Sys2Proof.Machine.execTdMaskUnmute a c v s
  | .send h => Sys2Proof.Machine.execSend h s
  | .ctxEnableWrite a v => Sys2Proof.Machine.execCtxEnableWrite a v s
  | .ctxClearDone => Sys2Proof.Machine.execCtxClearDone s
  | .lookup h => Sys2Proof.Machine.execLookup h s
  | .insert h => Sys2Proof.Machine.execInsert h s
  | .update h => Sys2Proof.Machine.execUpdate h s
  | .delete h => Sys2Proof.Machine.execDelete h s
  | .touch h => Sys2Proof.Machine.execTouch h s
  | .ctxSweepBucket => Sys2Proof.Machine.execCtxSweepBucket s
  | .ctxTouchMirrorBatch => Sys2Proof.Machine.execCtxTouchMirrorBatch s
  | .galleryPacketDelivery e => Sys2Proof.Machine.execGalleryPacketDelivery e s
  | .arbRound k req mid => Sys2Proof.Machine.execArbRound k req mid s
  | .galleryHoldRelease h => Sys2Proof.Machine.execGalleryHoldRelease h s
  | .arbFreezeWrite a k v => Sys2Proof.Machine.execArbFreezeWrite a k v s
  | .arbBaseWrite a k ix v => Sys2Proof.Machine.execArbBaseWrite a k ix v s
  | .ddrTrainingEnd found => Sys2Proof.Machine.execDdrTrainingEnd found s
  | .memorySweep m => Sys2Proof.Machine.execMemorySweep m s
  | .demandRead l up => Sys2Proof.Machine.execDemandRead l up s
  | .zeroSweepLine c => Sys2Proof.Machine.execZeroSweepLine c s
  | .ddrBlockFill a data => Sys2Proof.Machine.execDdrBlockFill a data s
  | .scrubLine m up => Sys2Proof.Machine.execScrubLine m up s
  | .scrubHotRewrite m up => Sys2Proof.Machine.execScrubHotRewrite m up s
  | .scrubLate m => Sys2Proof.Machine.execScrubLate m s
  | .terraceRowRepair m ix => Sys2Proof.Machine.execTerraceRowRepair m ix s
  | .ddrPprRepair c ix => Sys2Proof.Machine.execDdrPprRepair c ix s
  | .eccLogClear a m v => Sys2Proof.Machine.execEccLogClear a m v s
  | .laneQuadModeWrite a q v => Sys2Proof.Machine.execLaneQuadModeWrite a q v s
  | .laneQuadFecWrite a q v => Sys2Proof.Machine.execLaneQuadFecWrite a q v s
  | .laneCdrLock l => Sys2Proof.Machine.execLaneCdrLock l s
  | .laneCdrLoss l => Sys2Proof.Machine.execLaneCdrLoss l s
  | .laneBlockLockLoss l => Sys2Proof.Machine.execLaneBlockLockLoss l s
  | .autoNegotiation l modes => Sys2Proof.Machine.execAutoNegotiation l modes s
  | .laneMarkerRx l w bip skew => Sys2Proof.Machine.execLaneMarkerRx l w bip skew s
  | .laneTrainingTimeout l => Sys2Proof.Machine.execLaneTrainingTimeout l s
  | .laneEyeWindowEnd l h a rx slip ctle rise sym good bad => Sys2Proof.Machine.execLaneEyeWindowEnd l h a rx slip ctle rise sym good bad s
  | .laneAdaptPeriodEnd l => Sys2Proof.Machine.execLaneAdaptPeriodEnd l s
  | .laneTxFfeWrite a l v => Sys2Proof.Machine.execLaneTxFfeWrite a l v s
  | .laneLoopbackWrite a l v => Sys2Proof.Machine.execLaneLoopbackWrite a l v s
  | .lanePrbsTxWrite a l v => Sys2Proof.Machine.execLanePrbsTxWrite a l v s
  | .lanePrbsChkWrite a l v => Sys2Proof.Machine.execLanePrbsChkWrite a l v s
  | .lanePrbsClear a l v => Sys2Proof.Machine.execLanePrbsClear a l v s
  | .ethFrameReceive p f occ => Sys2Proof.Machine.execEthFrameReceive p f occ s
  | .ethTxInsert p ix => Sys2Proof.Machine.execEthTxInsert p ix s
  | .ethTxFetch p q ix body => Sys2Proof.Machine.execEthTxFetch p q ix body s
  | .ethTxSelect p => Sys2Proof.Machine.execEthTxSelect p s
  | .ethTxFrameEnd p => Sys2Proof.Machine.execEthTxFrameEnd p s
  | .ethPauseRefresh p occ => Sys2Proof.Machine.execEthPauseRefresh p occ s
  | .ethPauseExpire p q => Sys2Proof.Machine.execEthPauseExpire p q s
  | .ethRxRingDoorbell fn r v addrs => Sys2Proof.Machine.execEthRxRingDoorbell fn r v addrs s
  | .ethTxRingDoorbell fn r v descs => Sys2Proof.Machine.execEthTxRingDoorbell fn r v descs s
  | .mgmtFrameReceive f => Sys2Proof.Machine.execMgmtFrameReceive f s
  | .ptpMessageReceive p m => Sys2Proof.Machine.execPtpMessageReceive p m s
  | .ptpSyncReceive p t1 t2 t3 t4 cSync cDreq age synce => Sys2Proof.Machine.execPtpSyncReceive p t1 t2 t3 t4 cSync cDreq age synce s
  | .ptpTxTimer p kind => Sys2Proof.Machine.execPtpTxTimer p kind s
  | .announceTimeout p => Sys2Proof.Machine.execAnnounceTimeout p s
  | .timeLockHoldExpire => Sys2Proof.Machine.execTimeLockHoldExpire s
  | .holdoverMaxExpire => Sys2Proof.Machine.execHoldoverMaxExpire s
  | .timeSet a v => Sys2Proof.Machine.execTimeSet a v s
  | .synceDisqualify rho => Sys2Proof.Machine.execSynceDisqualify rho s
  | .ppsInEdge => Sys2Proof.Machine.execPpsInEdge s
  | .ppsLoss => Sys2Proof.Machine.execPpsLoss s
  | .ppsOutSecond => Sys2Proof.Machine.execPpsOutSecond s
  | .timeTrigWrite a n v => Sys2Proof.Machine.execTimeTrigWrite a n v s
  | .timeTrigFire n => Sys2Proof.Machine.execTimeTrigFire n s
  | .jrTailDoorbell fn r off wid v => Sys2Proof.Machine.execJrTailDoorbell fn r off wid v s
  | .crHeadDoorbell fn r v => Sys2Proof.Machine.execCrHeadDoorbell fn r v s
  | .jobAcceptance r ok desc prach => Sys2Proof.Machine.execJobAcceptance r ok desc prach s
  | .jobStart r seq rd => Sys2Proof.Machine.execJobStart r seq rd s
  | .jobExpire r seq => Sys2Proof.Machine.execJobExpire r seq s
  | .completionGate r seq msgs => Sys2Proof.Machine.execCompletionGate r seq msgs s
  | .completionRecordWrite r => Sys2Proof.Machine.execCompletionRecordWrite r s
  | .jrCoalesceExpire r => Sys2Proof.Machine.execJrCoalesceExpire r s
  | .jrEnableWrite a r v => Sys2Proof.Machine.execJrEnableWrite a r v s
  | .jrResume a r v => Sys2Proof.Machine.execJrResume a r v s
  | .functionLevelReset fn => Sys2Proof.Machine.execFunctionLevelReset fn s
  | .pcieLinkDown link fn => Sys2Proof.Machine.execPcieLinkDown link fn s
  | .bar4Access fn off wr n data => Sys2Proof.Machine.execBar4Access fn off wr n data s
  | .bar0Read fn addr off wid slots => Sys2Proof.Machine.execBar0Read fn addr off wid slots s
  | .dictWrite a addr off wid v tie => Sys2Proof.Machine.execDictWrite a addr off wid v tie s
  | .dictWriteAck => Sys2Proof.Machine.execDictWriteAck s
  | .winSnapshot fn => Sys2Proof.Machine.execWinSnapshot fn s
  | .winWrite fn => Sys2Proof.Machine.execWinWrite fn s
  | .winGroupRead fn => Sys2Proof.Machine.execWinGroupRead fn s
  | .winReadStaged fn => Sys2Proof.Machine.execWinReadStaged fn s
  | .napRequest p l => Sys2Proof.Machine.execNapRequest p l s
  | .napRead a addr => Sys2Proof.Machine.execNapRead a addr s
  | .napWrite a addr v => Sys2Proof.Machine.execNapWrite a addr v s
  | .napDomainRead a addr off n => Sys2Proof.Machine.execNapDomainRead a addr off n s
  | .napDomainWrite a addr off data fin => Sys2Proof.Machine.execNapDomainWrite a addr off data fin s
  | .napReadStaged a addr => Sys2Proof.Machine.execNapReadStaged a addr s
  | .arpRequest p l => Sys2Proof.Machine.execArpRequest p l s
  | .i3cPrivateWrite d => Sys2Proof.Machine.execI3cPrivateWrite d s
  | .i3cPrivateRead => Sys2Proof.Machine.execI3cPrivateRead s
  | .entdaa da => Sys2Proof.Machine.execEntdaa da s
  | .setdasa sa da => Sys2Proof.Machine.execSetdasa sa da s
  | .rstdaa => Sys2Proof.Machine.execRstdaa s
  | .getpid => Sys2Proof.Machine.execGetpid s
  | .getbcr => Sys2Proof.Machine.execGetbcr s
  | .getdcr => Sys2Proof.Machine.execGetdcr s
  | .getstatus => Sys2Proof.Machine.execGetstatus s
  | .enec ev => Sys2Proof.Machine.execEnec ev s
  | .disec ev => Sys2Proof.Machine.execDisec ev s
  | .stageCommit a k v place => Sys2Proof.Machine.execStageCommit a k v place s
  | .stageCancel a k v => Sys2Proof.Machine.execStageCancel a k v s
  | .stageCommitApply => Sys2Proof.Machine.execStageCommitApply s
  | .pwrReqS2 a n => Sys2Proof.Machine.execPwrReqS2 a n s
  | .pwrReqS3 a n => Sys2Proof.Machine.execPwrReqS3 a n s
  | .pwrReqS4 a n => Sys2Proof.Machine.execPwrReqS4 a n s
  | .pwrReqWake a => Sys2Proof.Machine.execPwrReqWake a s
  | .pwrGate a units n => Sys2Proof.Machine.execPwrGate a units n s
  | .pwrUngate a units => Sys2Proof.Machine.execPwrUngate a units s
  | .pwrDelayExpire n => Sys2Proof.Machine.execPwrDelayExpire n s
  | .pwrStateReached => Sys2Proof.Machine.execPwrStateReached s
  | .wakeNAsserted => Sys2Proof.Machine.execWakeNAsserted s
  | .pwrWakeAtReached => Sys2Proof.Machine.execPwrWakeAtReached s
  | .powerExit => Sys2Proof.Machine.execPowerExit s
  | .startLadderStep iin osc errA errB => Sys2Proof.Machine.execStartLadderStep iin osc errA errB s
  | .vinRise mv => Sys2Proof.Machine.execVinRise mv s
  | .vinLoss mv => Sys2Proof.Machine.execVinLoss mv s
  | .vinWarnCrossing mv ma => Sys2Proof.Machine.execVinWarnCrossing mv ma s
  | .pwrEnFall => Sys2Proof.Machine.execPwrEnFall s
  | .pwrEnRise => Sys2Proof.Machine.execPwrEnRise s
  | .l1Copy => Sys2Proof.Machine.execL1Copy s
  | .shRollbackSet a v => Sys2Proof.Machine.execShRollbackSet a v s
  | .shOtpRevoke a v => Sys2Proof.Machine.execShOtpRevoke a v s
  | .shFlashErase a => Sys2Proof.Machine.execShFlashErase a s
  | .shFlashProgram a => Sys2Proof.Machine.execShFlashProgram a s
  | .shFlashCheck a err => Sys2Proof.Machine.execShFlashCheck a err s
  | .shWatchTableWrite a data => Sys2Proof.Machine.execShWatchTableWrite a data s
  | .shWatchEnWrite a v => Sys2Proof.Machine.execShWatchEnWrite a v s
  | .shWatchEvaluation e rep slot codes clip missing prof => Sys2Proof.Machine.execShWatchEvaluation e rep slot codes clip missing prof s
  | .shWatchMacFrame p f => Sys2Proof.Machine.execShWatchMacFrame p f s
  | .shWatchdogExpire => Sys2Proof.Machine.execShWatchdogExpire s
  | .unitFault u code => Sys2Proof.Machine.execUnitFault u code s
  | .engineTimeout h e => Sys2Proof.Machine.execEngineTimeout h e s
  | .unitDrainEnd u => Sys2Proof.Machine.execUnitDrainEnd u s
  | .unitRejoin u => Sys2Proof.Machine.execUnitRejoin u s
  | .retiredCarrierReplace h => Sys2Proof.Machine.execRetiredCarrierReplace h s
  | .relUnretire a v => Sys2Proof.Machine.execRelUnretire a v s
  | .progressMark h w => Sys2Proof.Machine.execProgressMark h w s
  | .relMarkQueryWrite a v => Sys2Proof.Machine.execRelMarkQueryWrite a v s
  | .pairModeWrite a v => Sys2Proof.Machine.execPairModeWrite a v s
  | .pairRoleReq a v why => Sys2Proof.Machine.execPairRoleReq a v why s
  | .dravutFrameReceive f => Sys2Proof.Machine.execDravutFrameReceive f s
  | .dravutResendTimeout => Sys2Proof.Machine.execDravutResendTimeout s
  | .pairHeartbeatTimer => Sys2Proof.Machine.execPairHeartbeatTimer s
  | .pairHbMiss failIn => Sys2Proof.Machine.execPairHbMiss failIn s
  | .pairSyncComplete => Sys2Proof.Machine.execPairSyncComplete s
  | .takeover => Sys2Proof.Machine.execTakeover s
  | .chainRoleWrite a v => Sys2Proof.Machine.execChainRoleWrite a v s
  | .munovFrameReceive down f => Sys2Proof.Machine.execMunovFrameReceive down f s
  | .barrier h => Sys2Proof.Machine.execBarrier h s
  | .broadcast h => Sys2Proof.Machine.execBroadcast h s
  | .snapshotArm h => Sys2Proof.Machine.execSnapshotArm h s
  | .stairSnapshotLatch => Sys2Proof.Machine.execStairSnapshotLatch s
  | .stairResetDevice a => Sys2Proof.Machine.execStairResetDevice a s
  | .stairResetPair a => Sys2Proof.Machine.execStairResetPair a s
  | .stairResetChain a => Sys2Proof.Machine.execStairResetChain a s
  | .blockLockGain l => Sys2Proof.Machine.execBlockLockGain l s
  | .alignmentLockGain p skew => Sys2Proof.Machine.execAlignmentLockGain p skew s
  | .alignmentLockLoss p => Sys2Proof.Machine.execAlignmentLockLoss p s
  | .lowPowerIdleEntry p => Sys2Proof.Machine.execLowPowerIdleEntry p s
  | .lowPowerIdleExit p => Sys2Proof.Machine.execLowPowerIdleExit p s
  | .trainingFrameReceive l req holds => Sys2Proof.Machine.execTrainingFrameReceive l req holds s
  | .laneTxPllLock l => Sys2Proof.Machine.execLaneTxPllLock l s
  | .pcieLinkUp link fn speed width vfs => Sys2Proof.Machine.execPcieLinkUp link fn speed width vfs s
  | .mgmtLinkUp => Sys2Proof.Machine.execMgmtLinkUp s
  | .mgmtLinkDown => Sys2Proof.Machine.execMgmtLinkDown s
  | .jtagInstruction ins => Sys2Proof.Machine.execJtagInstruction ins s

end Sys2Proof.Machine
end

