-- ==== Sys2Proof/Safety.lean ====
section
/-! DEFINITION. What the claims speak of: the canonical form of the memories, the invariant a step keeps, and a step
that answers. -/

namespace Sys2Proof.Machine

/-- The canonical form of a memory whose unlisted bytes read `d`: addresses strictly rising, no entry equal to `d`. -/
abbrev Memory.wf (d : Byte) (m : Tab Byte) : Prop := TabWf (fun _ => d) m

/-- The memories of the device are in canonical form: global memory and the cores' memories, whose unlisted bytes read
0 (R326), and the boot flash, whose unlisted bytes read 0xFF, erased (R509). -/
abbrev State.memWf (s : State) : Prop :=
  Memory.wf 0 s.mem ∧ Memory.wf 0 s.coreMem ∧ Memory.wf 0xFF s.flash

/-- A step answers a next state: it neither faults nor refuses. -/
def State.steps (s : State) : Prop := ∃ t, step s = .next t

/-- The objects of two states agree but at the instances listed. -/
def State.sameObjsBut (s t : State) (l : List (Obj × Nat)) : Prop := ∀ o n, (o, n) ∉ l → t.obj o n = s.obj o n

/-- The Lodge takes a write of a value to an instance of an object, and no check before the object's own one refuses it
(R457, R460, R461, R488). -/
def State.writable (s : State) (a : Accessor) (o : Obj) (n : Nat) (v : Int) : Prop :=
  s.reach a (objAddr o n / 256) = some .ok ∧ s.writeGate a o n v .ok = .ok

/-- What the Lodge itself writes with an accepted write of an object by an accessor. -/
def lodgeObjs (a : Accessor) : List (Obj × Nat) := [(.lodgeAccesses, classNo a.cls), (.dictLastStatus, accessorNo a)]

/-- An operation ran on core `c` beside NOP: the core's registers are `k`, its cycle count is up by one or more and it does not
stall; its PC is at the next bundle; no other core's registers, no other object and no memory changed. What the core counts to
know when a result is ready (R81) may change. -/
def ranAlone (s t : State) (c : Nat) (k : CoreSt) : Prop :=
  t.core c = { k with cyc := (t.core c).cyc, ready := (t.core c).ready, stall := none }
  ∧ (∃ n, 1 ≤ n ∧ (t.core c).cyc = ((s.core c).cyc + n) % 2 ^ 64)
  ∧ (∀ c', c' ≠ c → t.core c' = s.core c')
  ∧ t.obj .corePc c = (((s.pc c / 8 + 1) * 8 % 16777216 : Nat) : Int)
  ∧ t = { s with objs := t.objs, cores := t.cores }
  ∧ s.sameObjsBut t [(.corePc, c)]

end Sys2Proof.Machine
end

