-- ==== Sys2Proof/Certificates/Slice0/Obligations.lean ====
section
/-! DEFINITION. The statements for the provers. -/

namespace Sys2Proof.Machine

/-- The commands that are a write of one scalar object with a row of its own: accessor, object, instance, value. -/
def scalarWrite : Instr → Option (Accessor × Obj × Nat × Int)
  | .hallPaceSnap a u v => some (a, .hallPaceSnap, u, v)
  | .hallLevelWrite a u v => some (a, .hallLevel, u, v)
  | .hallPaceEnWrite a u v => some (a, .hallPaceEn, u, v)
  | .thermWarnWrite a v => some (a, .thermWarn, 0, v)
  | .coreHalt a c v => some (a, .coreHalt, c, v)
  | .coreResume a c v => some (a, .coreResume, c, v)
  | .schTickNsWrite a h v => some (a, .schTickNs, h, v)
  | .schPmemLoad a h v => some (a, .schPmemLoad, h, v)
  | .tdMaskUnmute a c v => some (a, .tdMaskUnmute, c, v)
  | .ctxEnableWrite a v => some (a, .ctxEnable, 0, v)
  | .arbFreezeWrite a k v => some (a, .arbFreeze, k, v)
  | .arbBaseWrite a k i v => some (a, .arbBase, 32 * k + i, v)
  | .eccLogClear a m v => some (a, .eccLogClear, m, v)
  | .laneTxFfeWrite a l v => some (a, .laneTxFfe, l, v)
  | .laneLoopbackWrite a l v => some (a, .laneLoopback, l, v)
  | .lanePrbsTxWrite a l v => some (a, .lanePrbsTx, l, v)
  | .lanePrbsChkWrite a l v => some (a, .lanePrbsChk, l, v)
  | .lanePrbsClear a l v => some (a, .lanePrbsClear, l, v)
  | .timeSet a v => some (a, .timeSet, 0, v)
  | .timeTrigWrite a n v => some (a, .timeTrig, n, v)
  | .jrEnableWrite a r v => some (a, .jrEnable, r, v)
  | .jrResume a r v => some (a, .jrResume, r, v)
  | .stageCancel a k v => some (a, .stageCancel, k, v)
  | .pwrReqWake a => some (a, .pwrStateReq, 0, 0)
  | .pwrUngate a us => some (a, .pwrGateReq, 0, us.toNat)
  | .shRollbackSet a v => some (a, .shRollbackSet, 0, v)
  | .shOtpRevoke a v => some (a, .shOtpRevoke, 0, v)
  | .shWatchEnWrite a v => some (a, .shWatchEn, 0, v)
  | .relUnretire a v => some (a, .relUnretire, 0, v)
  | .relMarkQueryWrite a v => some (a, .relMarkQuery, 0, v.toNat)
  | .chainRoleWrite a v => some (a, .chainRole, 0, v)
  | .stairResetDevice a => some (a, .stairReset, 0, 1)
  | .stairResetPair a => some (a, .stairReset, 0, 2)
  | .stairResetChain a => some (a, .stairReset, 0, 3)
  | _ => none

/-- MPY, MAC and MSU: the core, the accumulator, its exact new value and F. -/
def multiplyOf : Instr → State → Option (Fin 192 × Nat × Int × Bool)
  | .mpy c n a ha b hb sh f, s => some (c, n, product (s.core c) a ha b hb sh, f)
  | .mac c n a ha b hb sh f, s => some (c, n, (s.core c).racc n + product (s.core c) a ha b hb sh, f)
  | .msu c n a ha b hb sh f, s => some (c, n, (s.core c).racc n - product (s.core c) a ha b hb sh, f)
  | _, _ => none

/-- The SH field of MPY, MAC and MSU. -/
def shOf : Instr → Nat
  | .mpy _ _ _ _ _ _ sh _ | .mac _ _ _ _ _ _ sh _ | .msu _ _ _ _ _ _ sh _ => sh
  | _ => 0

/-- The register a scalar operation writes, and its exact value before saturation, with the width it saturates to. -/
def scalarOf : Instr → State → Option (Fin 192 × Nat × Nat × Int × Bool)
  | .add c d a b f, s => some (c, d, 32, ((s.core c).rd a).toInt + ((s.core c).rd b).toInt, f)
  | .sub c d a b f, s => some (c, d, 32, ((s.core c).rd a).toInt - ((s.core c).rd b).toInt, f)
  | .extw c d n sc _ f, s => some (c, d, 32, (s.core c).racc n * 2 ^ sc.val, f)
  | .asrr c d a n rm f, s => some (c, d, 32, roundShift ((s.core c).rd a).toInt n (roundMode (s.core c).sst.rnd rm), f)
  | _, _ => none

/-- A local address range of X or Y memory holds the `n` bytes from `a` (R58). -/
def inData (a n : Nat) : Prop := (0x100000 ≤ a ∧ a + n ≤ 0x120000) ∨ (0x200000 ≤ a ∧ a + n ≤ 0x220000)

/-- A move of core `c` to X or Y memory whose update and alignment are in order (R58, R59, R72). -/
def localMove (s : State) (c : Nat) (m : Move) (next : Nat) : Prop :=
  1 ≤ m.size ∧ m.size ≤ 4 ∧ (s.core c).moveNext m = some next ∧ next < 16777216
  ∧ (s.core c).moveAddr m % moveBytes m = 0 ∧ inData ((s.core c).moveAddr m) (moveBytes m)

/-- What a load of size `m.size` leaves in its register: the bytes at its address, little-endian (R9, R53, R83). -/
def loadedIs (s : State) (c : Nat) (k : CoreSt) (m : Move) : Prop :=
  let v := leNat (s.coreBytes c ((s.core c).moveAddr m) (moveBytes m))
  (m.size = 1 → k.half m.reg m.high = (BitVec.ofNat 16 v).toInt)
  ∧ (m.size = 2 → k.rd m.reg = BitVec.ofNat 32 v)
  ∧ (m.size = 3 → k.rd m.reg = BitVec.ofNat 32 v ∧ k.rd (m.reg + 1) = BitVec.ofNat 32 (v / 2 ^ 32))
  ∧ (m.size = 4 → k.rv m.reg = BitVec.ofNat 128 v)

/-- What the moves of an X and a Y access in one word leave (R62, R82, R83): a load has its register's bytes from before any
store of the word, but where both load one register; a store has written its register's bytes, the Y store last; no other
byte of any core's memory, no other register but the two address registers, and no other core changed. -/
def bothMoved (s t : State) (c : Nat) (m n : Move) (nx ny : Nat) : Prop :=
  (m.store = false → n.store = true ∨ m.reg ≠ n.reg → loadedIs s c (t.core c) m)
  ∧ (n.store = false → m.store = true ∨ m.reg ≠ n.reg → loadedIs s c (t.core c) n)
  ∧ (m.store = true → n.store = false ∨ (s.core c).moveAddr m + 16 ≤ (s.core c).moveAddr n →
      t.coreBytes c ((s.core c).moveAddr m) (moveBytes m) = storeData (s.core c) m)
  ∧ (n.store = true → t.coreBytes c ((s.core c).moveAddr n) (moveBytes n) = storeData (s.core c) n)
  ∧ (∀ c' a, ¬(m.store = true ∧ c * 16777216 + (s.core c).moveAddr m ≤ c' * 16777216 + a
          ∧ c' * 16777216 + a < c * 16777216 + (s.core c).moveAddr m + moveBytes m) →
      ¬(n.store = true ∧ c * 16777216 + (s.core c).moveAddr n ≤ c' * 16777216 + a
          ∧ c' * 16777216 + a < c * 16777216 + (s.core c).moveAddr n + moveBytes n) →
      t.coreByte c' a = s.coreByte c' a)
  ∧ (t.core c).ra m.an = nx ∧ (t.core c).ra n.an = ny
  ∧ (∀ r : Nat, r ≠ m.reg → r ≠ n.reg → (t.core c).rd r = (s.core c).rd r ∧ (t.core c).rv r = (s.core c).rv r)
  ∧ (∀ c', c' ≠ c → t.core c' = s.core c')
  ∧ t.obj .corePc c = (((s.pc c / 8 + 1) * 8 % 16777216 : Nat) : Int)
  ∧ t.mem = s.mem ∧ s.sameObjsBut t [(.corePc, c)]

/-- The accumulator a compact multiply writes, and its exact new value (R66, R82). -/
def compactResult (k : CoreSt) : CoreOp → Option (Nat × Int)
  | .mpy acc a ha b hb sh _ => some (acc, product k a ha b hb sh)
  | .mac acc a ha b hb sh _ => some (acc, k.racc acc + product k a ha b hb sh)
  | .msu acc a ha b hb sh _ => some (acc, k.racc acc - product k a ha b hb sh)
  | .clr acc => some (acc, 0)
  | _ => none

/-- The vector operations that write a V register element by element: the core, the word issued, the word whose type and half
lay the elements out, and the value of element k with whether it was clamped (R104, R108, R111). -/
def elementsOf (s : State) : Instr → Option (Fin 192 × VecWord × VecWord × (Nat → Nat × Bool))
  | .vadd c ty d a b hf mk zm rm => arith s c ⟨.vadd, ty, d, a, b, hf, mk, zm, false, rm⟩
  | .vsub c ty d a b hf mk zm rm => arith s c ⟨.vsub, ty, d, a, b, hf, mk, zm, false, rm⟩
  | .vmin c ty d a b hf mk zm rm => arith s c ⟨.vmin, ty, d, a, b, hf, mk, zm, false, rm⟩
  | .vmax c ty d a b hf mk zm rm => arith s c ⟨.vmax, ty, d, a, b, hf, mk, zm, false, rm⟩
  | .vabs c ty d a b hf mk zm rm => arith s c ⟨.vabs, ty, d, a, b, hf, mk, zm, false, rm⟩
  | .vneg c ty d a b hf mk zm rm => arith s c ⟨.vneg, ty, d, a, b, hf, mk, zm, false, rm⟩
  | .vand c ty d a b hf mk zm rm => arith s c ⟨.vand, ty, d, a, b, hf, mk, zm, false, rm⟩
  | .vor c ty d a b hf mk zm rm => arith s c ⟨.vor, ty, d, a, b, hf, mk, zm, false, rm⟩
  | .vxor c ty d a b hf mk zm rm => arith s c ⟨.vxor, ty, d, a, b, hf, mk, zm, false, rm⟩
  | .vasrr c ty d a b hf mk zm rm => arith s c ⟨.vasrr, ty, d, a, b, hf, mk, zm, false, rm⟩
  | .vshl c ty d a b hf mk zm rm => arith s c ⟨.vshl, ty, d, a, b, hf, mk, zm, false, rm⟩
  | .vmul c ty d a b hf mk zm rm => arith s c ⟨.vmul, ty, d, a, b, hf, mk, zm, false, rm⟩
  | .vcmul c ty d a b hf mk zm rm => arith s c ⟨.vcmul, ty, d, a, b, hf, mk, zm, false, rm⟩
  | .vperm c ty d a b hf mk zm rm => perm s c ⟨.vperm, ty, d, a, b, hf, mk, zm, false, rm⟩
  | .vzipl c ty d a b hf mk zm rm => perm s c ⟨.vzipl, ty, d, a, b, hf, mk, zm, false, rm⟩
  | .vziph c ty d a b hf mk zm rm => perm s c ⟨.vziph, ty, d, a, b, hf, mk, zm, false, rm⟩
  | .vuzpe c ty d a b hf mk zm rm => perm s c ⟨.vuzpe, ty, d, a, b, hf, mk, zm, false, rm⟩
  | .vuzpo c ty d a b hf mk zm rm => perm s c ⟨.vuzpo, ty, d, a, b, hf, mk, zm, false, rm⟩
  | .vdup c ty d a b hf mk zm rm => perm s c ⟨.vdup, ty, d, a, b, hf, mk, zm, false, rm⟩
  | .vexth c ty d a sc mk rm =>
    let v : VecWord := ⟨.vexth, ty, d, a, sc, 0, mk, false, false, rm⟩
    some (c, v, { v with ty := 1, hf := 0 }, (s.core c).exthElem v)
  | _ => none
where
  /-- An operation of R104. -/
  arith (s : State) (c : Fin 192) (v : VecWord) : Option (Fin 192 × VecWord × VecWord × (Nat → Nat × Bool)) :=
    some (c, v, v, fun i => elemOp v.op v.ty (s.core c).sst.sat (roundMode (s.core c).sst.rnd v.k) v.b
      (getElem v.ty v.hf i ((s.core c).rv v.a)) (getElem v.ty v.hf i ((s.core c).rv v.b)))
  /-- A permute of R111. -/
  perm (s : State) (c : Fin 192) (v : VecWord) : Option (Fin 192 × VecWord × VecWord × (Nat → Nat × Bool)) :=
    some (c, v, v, fun i => (permElem (s.core c) v i, false))

/-- VMPY, VMAC and VMSU: the core, the word issued, and a lane's exact new value from its old one and the product. -/
def lanesOf : Instr → Option (Fin 192 × VecWord × (Int → Int → Int))
  | .vmpy c ty d a b hf mk cj sh => some (c, ⟨.vmpy, ty, d, a, b, hf, mk, false, cj, sh⟩, fun _ p => p)
  | .vmac c ty d a b hf mk cj sh => some (c, ⟨.vmac, ty, d, a, b, hf, mk, false, cj, sh⟩, fun x p => x + p)
  | .vmsu c ty d a b hf mk cj sh => some (c, ⟨.vmsu, ty, d, a, b, hf, mk, false, cj, sh⟩, fun x p => x - p)
  | _ => none

/-- The element that feeds lane j (R106). -/
def laneElem (ty hf j : Nat) : Option Nat :=
  if (hf = 1 ∧ 4 ≤ j) ∨ (hf = 2 ∧ j < 4) then none
  else some ((if hf = 2 then j - 4 else j) / (if ty = 3 then 2 else 1))

/-- The exact product element i contributes to lane j, before its shift (R105, R107): for C16 the real part in an even lane,
the imaginary in an odd one, with b conjugated under CJ. -/
def laneProduct (k : CoreSt) (v : VecWord) (i j : Nat) : Int :=
  let x := getElem v.ty v.hf i (k.rv v.a)
  let y := getElem v.ty v.hf i (k.rv v.b)
  if v.ty = 3 then
    let ar := signExt 16 (x % 65536)
    let ai := signExt 16 (x / 65536)
    let br := signExt 16 (y % 65536)
    let bi := if v.cj then -signExt 16 (y / 65536) else signExt 16 (y / 65536)
    if j % 2 = 0 then ar * br - ai * bi else ar * bi + ai * br
  else signExt 16 x * signExt 16 y

/-- The vector operations that may be reserved, as they issue. -/
def vectorWord (s : State) (i : Instr) : Option (Fin 192 × VecWord) :=
  match elementsOf s i with
  | some (c, v, _) => some (c, v)
  | none => (lanesOf i).map (fun p => (p.1, p.2.1))

/-- A core issues a scheduler call for the thread it runs: it issues, no repeat level is in use, EXL is 0, and the hall keeps no
trace. -/
def callReady (s : State) (c g : Nat) : Prop :=
  s.issues c = true ∧ (s.core c).sst.ld = 0 ∧ (s.core c).sst.exl = false ∧ s.thread c = some g
    ∧ s.obj .schTraceSize (c / 12) = 0

/-- A call was answered at once with a status in Dd: the core goes on at the next bundle, and beyond that only the scheduler of
its hall can have changed. -/
def answered (s t : State) (c d v : Nat) : Prop :=
  t.core c = { (s.core c).wd d (BitVec.ofNat 32 v) with cyc := ((s.core c).cyc + 1) % 2 ^ 64, stall := none }
  ∧ (∀ c', c' ≠ c → t.core c' = s.core c')
  ∧ t.obj .corePc c = (((s.pc c / 8 + 1) * 8 % 16777216 : Nat) : Int)
  ∧ (∀ h, h ≠ c / 12 → t.sch h = s.sch h)

/-- The sub-operation of a call that may go to another hall (R131). -/
def remoteSub : Instr → Nat
  | .schSemTake _ _ _ => 0x10
  | .schSemTry _ _ _ => 0x11
  | .schSemGive _ _ _ => 0x12
  | .schMsgSend _ _ _ => 0x14
  | .schMsgTrySend _ _ _ => 0x15
  | _ => 0

/-- The calling thread waits: it is WAITING for a kind of object, its core is IDLE and runs no thread, and its frame holds the
PC of the bundle after the call. -/
def waitsFor (s t : State) (c g kind : Nat) : Prop :=
  t.obj .coreState c = coreIdle ∧ t.thread c = none ∧ t.tState g = thWaiting ∧ t.tWaitKind g = kind
    ∧ t.memNat (s.frameAddr g + 0xC4) 4 = (s.pc c / 8 + 1) * 8 % 16777216

/-- Engine e of hall h is up and idle, and the head of its queue names a descriptor it can read: `r` is its place, its offset,
its bits and the present time. -/
def engTakes (s : State) (h e : Nat) (r : EngRun) : Prop :=
  s.engUp h e = true ∧ s.engRun h e = none ∧ r.start = s.now ∧ r.desc = s.readDesc h r.off
    ∧ s.anyPoison (terraceBase h + r.off) 8 = false
    ∧ ∃ m, s.engHead h e = some (r.stamp, m) ∧ offOk m = true ∧ r.off = bits m 23 0

/-- Local queue q of hall h is enabled, with room and without waiting threads, and the Gallery holds nothing for the hall. -/
def queueRoom (s : State) (h q : Nat) : Prop :=
  let x := s.queue (256 * h + q)
  (s.sch h).held = [] ∧ isEngineQueue q = false ∧ x.enabled = true ∧ x.recv = [] ∧ x.send = []
    ∧ x.count < x.depth ∧ bitAt x.setting 14 = false ∧ x.ring + 16 * x.depth ≤ terraceSize

/-- The reply queue of a descriptor has room. -/
def replyRoom (s : State) (h d : Nat) : Prop := queueRoom s h (dReply d)

/-- The counter of a completion's status. -/
def statusCounter : Nat → Obj
  | 0 => .ulDescOk | 1 => .ulDescLate | 2 => .ulDescBad | 5 => .ulOuterSkipped | 6 => .ulOuterAbandoned | 7 => .harqBusy
  | _ => .ulDescNoSlot

/-- A completion with a status was sent: one message more in its reply queue, with TAG, OP, STATUS and the time. -/
def replySent (s t : State) (h d st : Nat) : Prop :=
  let x := s.queue (256 * h + dReply d)
  let m := t.memNat (terraceBase h + x.ring + 16 * ((x.head + x.count) % x.depth)) 16
  t.queue (256 * h + dReply d) = { x with count := x.count + 1 }
    ∧ bits m 127 112 = dTag d ∧ bits m 111 108 = dOp d ∧ bits m 107 104 = st ∧ bits m 31 0 = toField 32 s.now

/-- A descriptor was reported with a status of R172: its completion was sent, and the status counted. -/
def replied (s t : State) (h d st : Nat) : Prop :=
  replySent s t h d st ∧ t.obj (statusCounter st) h = (s.obj (statusCounter st) h + 1) % 4294967296

/-- The head of an engine's queue was taken off. -/
def popped (s t : State) (h e : Nat) : Prop :=
  tabGet [] (t.sch h).engq (0xF0 + e) = (tabGet [] (s.sch h).engq (0xF0 + e)).drop 1

/-- The metrics of an evaluation, of each preamble: over the repetitions accumulated in its attempt and the one evaluated. -/
def evalMetrics (s : State) (p : Nat) (S : Int) (rep : Nat) (prof : PraProfile) : List (List Int) :=
  let x := s.praCfg p
  let e := s.praEntry p
  let ts := praStreams (s.praSteer p S) p
  let r := PraRep.mk (ts.map (praCode x e)) prof.corr (decide (s.praLacks p S rep ≠ 0) || s.praReleased p S)
  praMetrics x (s.carrier (pcCarrier x)).mu s.freeCtr ((if e.att = some (s.praAttempt p S) then e.acc else []) ++ [r]) prof.delays

/-- The context store takes a command of hall h: the engine takes its head while the hall holds the grant, the store is in service and
not being cleared, fewer than 256 operations are in flight and the journal has room. -/
def ctxTakes (s : State) (h : Nat) (r : EngRun) (cmd : Nat) : Prop :=
  engTakes s h 11 r ∧ dOp r.desc = 0xF ∧ s.ctxOk r.desc = true ∧ cxCmd r.desc = cmd ∧ s.ctx.clearing = false
    ∧ s.ctxWaiting.length < 256 ∧ s.journal.length < 1048576 ∧ s.arbHold 204 = h

/-- The context store works alone and without errors: no read is in error, the module mirrors nothing, the store's regions lie in DDR and
not on the journal, and the reply queue has room. -/
def ctxQuiet (s : State) (h : Nat) (r : EngRun) : Prop :=
  s.upsets = [] ∧ s.mirroring = false ∧ s.dravutOut = [] ∧ replyRoom s h r.desc
    ∧ ddrBase ≤ s.objN .ctxBase 0 ∧ 2 ≤ s.objN .ctxEntries 0 ∧ s.objN .ctxEntries 0 ≤ 2 ^ 25
    ∧ 0 ≤ s.obj .ctxSeqNext 0 ∧ s.obj .ctxSeqNext 0 < 2 ^ 32
    ∧ (s.obj .relJournalBase 0 = 0 ∨ s.objN .ctxBase 0 + 2 ^ 34 ≤ s.objN .relJournalBase 0
        ∨ s.objN .relJournalBase 0 + 0x10000000 ≤ s.objN .ctxBase 0)

/-- An operation was reported with a status of R284 other than OK, which was counted. -/
def ctxReplied (s t : State) (h d st : Nat) (counter : Obj) : Prop :=
  replySent s t h d st ∧ t.obj counter 0 = (s.obj counter 0 + 1) % 4294967296

/-- The requests that a round of arbiter k samples: those held and those of `req`, of the inputs that have something to send where the
device holds what they send; with a holder that has more to send, the holder's. -/
def roundMask (s : State) (k req : Nat) (mid : Bool) : Nat :=
  let asked := (s.arb k).pend ||| req
  match s.arbLines k with
  | some l => ((l.filter (fun i => bitAt asked i)).map (fun i => 2 ^ i)).sum
  | none => if mid = true ∧ s.arbHold k < arbN k then asked ||| 2 ^ s.arbHold k else asked

/-- The bits that the environment flipped in word k of a line. -/
def lineFlips (up : Upsets) (k : Nat) : Nat :=
  ((up.filter (fun p => decide (p.1 / 8 = k))).map (fun p => p.2 % 2 ^ 80)).foldl (· ^^^ ·) 0

/-- The link of the pair is down, and no port of a lane's quad is UP: a change of the lane ends nothing else. -/
def stillPorts (s : State) (l : Nat) : Prop :=
  s.pair.up = false ∧ (l < 48 → ∀ p, p / 4 = l / 4 → s.obj .ethPortState p ≠ portUp)

/-- A lane's own state, without its locks and adaptation: what a return to ACQUIRE or TEST leaves. -/
def laneFresh (x : LaneSt) : LaneSt := { LaneSt.reset with fails := x.fails, prbsHold := x.prbsHold }

/-- Only a lane and objects changed. -/
def laneFrame (s t : State) (l : Nat) : Prop :=
  t = { s with objs := t.objs, lanes := t.lanes } ∧ ∀ k, k ≠ l → t.lane k = s.lane k

/-- The test objects of a lane. -/
def laneTests (s : State) (l : Nat) : Int × Int × Int := (s.obj .laneLoopback l, s.obj .lanePrbsTx l, s.obj .lanePrbsChk l)

/-- A frame that passes every test of R374 at port p, with room for it in the port's allocation. -/
def goodFrame (s : State) (p : Nat) (f : RxFrame) (occ : List Nat) : Prop :=
  s.obj .ethPortState p = portUp ∧ (s.unit unitEth).st = unitRunning
    ∧ ((occ.sum + frameLen f.body : Nat) : Int) ≤ s.obj .ethRxAlloc p
    ∧ f.code = false ∧ f.fcs = true ∧ 63 < frameLen f.body ∧ frameLen f.body ≤ s.frameLimit p f.body

/-- The counter a frame with room counts in: that of the first test of R374 it fails, or `ETH_RX_FRAMES`. -/
def rxCounter (s : State) (p : Nat) (f : RxFrame) : Obj :=
  if f.code then .ethRxCodeErr else if frameLen f.body ≤ 63 then .ethRxRunts
  else if s.frameLimit p f.body < frameLen f.body then .ethRxOversize else if f.fcs then .ethRxFrames else .ethRxFcsErr

/-- A good frame to the port's own address that nothing before the default ring takes. -/
def toDefault (s : State) (p : Nat) (f : RxFrame) (r : Nat) : Prop :=
  etherType f.body ≠ 0x8808 ∧ isGroup f.body = false ∧ frameDst f.body = s.objN .ethMacAddr p ∧ etherType f.body ≠ 0x88F7
    ∧ etherType f.body ≠ 0xAEFE ∧ udpPort f.body ≠ some 319 ∧ udpPort f.body ≠ some 320 ∧ s.obj .ethNapEn p = 0
    ∧ s.filterFor p f.body = none ∧ s.obj .ethDefRing p = r ∧ r < 64 ∧ s.obj .erxEnable r ≠ 0 ∧ 0 < s.objN .erxBufSize r

/-- An entry of port p as it stands in its queue when it is inserted now. -/
def insertedEntry (s : State) (e : TxEntry) : TxEntry :=
  let l := if e.launch = 0 then s.now else e.launch
  { e with launch := l, late := decide (l < s.now) && (decide (e.close = 0) || decide (s.now < e.close)) }

/-- How a posted transmit descriptor is refused: BAD_DESC, TOO_LONG or PORT_DOWN; 0 when it is not. -/
def ringRefusal (s : State) (d : Nat) (head : List Byte) : Nat :=
  if tdLen d < 14 ∨ 9604 < tdLen d ∨ 48 ≤ tdPort d then 6
  else if s.objN .ethMaxFrame (tdPort d) + 4 * tagCount head < tdLen d + 4 then 5
  else if s.obj .ethPortState (tdPort d) = portDisabled then 7 else 0

/-- The frame of an entry is no forwarded one. -/
def ownFrame (e : TxEntry) : Bool := match e.src with | .fwd _ _ _ => false | _ => true

/-- The head of queue q may not start: the queue is stopped, its launch time has not come, or its body is not staged. -/
def headWaits (s : State) (p q : Nat) : Prop :=
  ∀ e, s.queueHead p q = some e → (e.close = 0 ∨ s.now < e.close)
    ∧ (s.queueStopped p q = true ∨ s.now < e.launch ∨ e.staged = false)

/-- An accessor's write of an object with no row of its own, that nothing refuses: the object and instance are those `addr` names
for the accessor, the value is in range, and no check of the object's own stands against it. -/
def plainWrite (s : State) (a : Accessor) (addr : Nat) (row : ObjRow) (n : Nat) (x : Int) : Prop :=
  rowFor a addr = some (row, n) ∧ s.reach a (addr / 256) = some .ok ∧ s.writable a row.obj n x ∧ row = objRow row.obj
    ∧ s.objCheck row.obj n x = .ok ∧ s.routeCore a row.obj n x.toNat = none ∧ s.routeLink a row.obj n x.toNat = none
    ∧ s.routeSys a row.obj x = none ∧ row.obj ≠ .dictWinGo

/-- A scalar object that an accessor may read at an address, with the value a read returns. -/
def readable (s : State) (a : Accessor) (addr : Nat) (row : ObjRow) (n : Nat) : Prop :=
  rowFor a addr = some (row, n) ∧ s.reach a (addr / 256) = some .ok ∧ s.readStatus a row.obj n = .ok ∧ row.ty.bytes = 0

/-- No write of a NAP session or of the target is in progress. -/
def noneWaits (s : State) (k : Nat) : Prop := ∀ u ∈ s.unacked, u.who.cls = .h ∨ u.who.cls = .v ∨ napRecord u.who ≠ k

/-- Trigger n alone fired: it is disarmed, late or not, and its action took place. -/
def trigFired (s t : State) (n action : Nat) (late : Bool) : Prop :=
  t.trigArmed n = false ∧ t.trigLate = late
    ∧ t.obj .timeTrigLate 0 = (if late then (s.obj .timeTrigLate 0 + 1) % 4294967296 else s.obj .timeTrigLate 0)
    ∧ (action = 2 → t.events = ⟨.timeTrig, unitTime, n⟩ :: s.events)
    ∧ (action = 1 → t.events = s.events ∧ t.stairSnap.units = s.units)
    ∧ (action ≠ 1 → t.stairSnap = s.stairSnap)
    ∧ ∀ k, k < 16 → k ≠ n → t.trigArmed k = s.trigArmed k

/-- The servo took an offset x that is no outlier: it shows in `TIME_OFFSET`, clamped, and starts or ends the time towards LOCKED;
above the step threshold, with no carrier admitted, device time is stepped by it, else ρ is set, within 100 ppm. -/
def takenOffset (s t : State) (x : Int) : Prop :=
  t.obj .timeOffset 0 = max (-2147483648) (min 2147483647 x)
    ∧ (|x| < s.obj .timeLockThresh 0 → t.time.lockSince.isSome = true)
    ∧ (s.obj .timeLockThresh 0 ≤ |x| → t.time.lockSince = none)
    ∧ (s.anyCarrier = true ∨ |x| ≤ s.obj .timeStepThresh 0 → t.now = s.now
        ∧ -6553600000 ≤ t.obj .timeRho 0 ∧ t.obj .timeRho 0 ≤ 6553600000 ∧ t = { s with objs := t.objs, time := t.time }
        ∧ s.sameObjsBut t [(.timeOffset, 0), (.timeRho, 0)])
    ∧ (s.anyCarrier = false → s.obj .timeStepThresh 0 < |x| → 0 ≤ s.now - x → s.now - x < 281474976710656000000000 →
        t.now = s.now - x ∧ t.obj .timeSteps 0 = (s.obj .timeSteps 0 + 1) % 4294967296 ∧ ⟨.timeStep, unitTime, 0⟩ ∈ t.events
        ∧ t.obj .timeRho 0 = s.obj .timeRho 0)

/-- Nothing is mirrored to a standby: a step waits for none. -/
def aloneHere (s : State) : Prop := ¬(s.mirroring = true ∧ s.obj .pairMirror 0 ≠ 0) ∧ s.obj .pairRole 0 ≠ 2

/-- A rollback: the state is kept, and the result, the unit and the code are reported and counted as a refusal. -/
def rolledBack (s t : State) (u code : Nat) : Prop :=
  t.obj .pwrState 0 = s.obj .pwrState 0 ∧ t.pwr.target = 0 ∧ t.pwr.waiting = false ∧ t.pwr.back = none
    ∧ t.obj .pwrLastResult 0 = ((2 * 2 ^ 24 + pwrClass u * 256 + code : Nat) : Int)
    ∧ t.obj .pwrRollbacks 0 = (s.obj .pwrRollbacks 0 + 1) % 4294967296
    ∧ t.obj .pwrRefusals 0 = (s.obj .pwrRefusals 0 + 1) % 4294967296
    ∧ t.events.head? = some ⟨.powerRollback, u, code⟩

/-- An entry is committed: the target is the state, and its final steps run. -/
def entered (s t : State) (target : Nat) : Prop :=
  t.obj .pwrState 0 = target ∧ t.pwr.committed = true ∧ t.pins.pwrGood = true ∧ t.pins.pairFailOut = true
    ∧ t.obj .pwrEntries 0 = (s.obj .pwrEntries 0 + 1) % 4294967296 ∧ t.obj .pwrLastResult 0 = 0x1000000

/-- The faults of unit u within the window that ends now, with the present one. -/
def windowFaults (s : State) (u : Nat) : List Int :=
  s.now :: (s.unit u).faults.filter (fun f => decide (s.now / 1000000 - s.obj .relFaultWindow 0 ≤ f / 1000000))

/-- Unit u restarts for a fault: its record names the fault, and the counts rise. -/
def restarts (s t : State) (u code : Nat) : Prop :=
  t.unit u = { s.unit u with st := unitRestarting, faults := windowFaults s u, lastCode := code, lastTime := s.now, since := s.now, restarts := (s.unit u).restarts + 1 }
    ∧ t.obj .relFaults 0 = (s.obj .relFaults 0 + 1) % 4294967296
    ∧ t.obj .relRestarts 0 = (s.obj .relRestarts 0 + 1) % 4294967296

/-- Hall h's Stairway queue has `m` at its head, and the hall runs. -/
def stairHead (s : State) (h m : Nat) : Prop := s.engUp h 13 = true ∧ ∃ k, s.engHead h 13 = some (k, m)

/-- The place of the next message of a queue's ring in global memory. -/
def nextPlace (s : State) (h q : Nat) : Nat :=
  let x := s.queue (256 * h + q)
  terraceBase h + x.ring + 16 * ((x.head + x.count) % x.depth)

end Sys2Proof.Machine

open Sys2Proof Sys2Proof.Machine

/-- O1. A step takes the command at the front of the queue and is that command's effect on the state with the queue's rest. -/
def Obligations.StepRunsFrontCommand : Prop :=
  ∀ (c : Instr) (r : List Instr) (s : State),
    step { s with pending := c :: r } = exec c { s with pending := r }

/-- O2. With no command waiting, one period of `TD_0` passes (the model's choice, log entry 5; the length of the period is
R406's): with ρ = 0 and no fraction carried, device time grows by 1 ns, and only the time unit, its objects, the `PPS_OUT` pin
and the two objects that follow time alone can change: `CTX_OPS_RATE` at a millisecond of device time, `SCRUB_LAP_AGE` at a
second of the time that has passed. While the time unit sleeps or restarts nothing changes. -/
def Obligations.EmptyQueueCountsTime : Prop :=
  (∀ s : State, s.pending = [] → (s.unit unitTime).st ≠ unitSleeping → (s.unit unitTime).st ≠ unitRestarting →
    s.obj .timeRho 0 = 0 → s.time.resid = 0 → s.obj .timeFrac 0 = 0 →
    0 ≤ s.obj .timeNs 0 → s.obj .timeNs 0 < 1000000000 → 0 ≤ s.obj .timeSec 0 → s.obj .timeSec 0 < 281474976710655 →
    ∃ t, step s = .next t ∧ t.now = s.now + 1
      ∧ t = { s with objs := t.objs, time := t.time, elapsed := s.elapsed + 1, pins := { s.pins with ppsOut := t.pins.ppsOut } }
      ∧ s.sameObjsBut t ([(.timeFrac, 0), (.timeNs, 0), (.timeSec, 0)]
          ++ (if (s.now + 1) / 1000000 = s.now / 1000000 then [] else [(.ctxOpsRate, 0)])
          ++ (if (s.elapsed + 1) % 1000000000 = 0 then (List.range 26).map (fun m => (.scrubLapAge, m)) else [])))
  ∧ (∀ s : State, s.pending = [] → (s.unit unitTime).st = unitSleeping ∨ (s.unit unitTime).st = unitRestarting →
    step s = .next s)

/-- O3. Right after reset: the halls and blocks at P4 with pacing on, their trim 0; every object at the default its table gives;
every byte of memory reads 0. That the queues, the journal and the logs are empty is the model's choice (log entry 1). -/
def Obligations.ResetLeavesDefaults : Prop :=
  (∀ (o : Obj) (n : Nat), State.reset.obj o n = o.default n)
  ∧ (∀ u : Fin 18, State.reset.obj .hallLevel u = 4 ∧ State.reset.obj .hallTrim u = 0)
  ∧ (∀ a : Nat, State.reset.byteAt a = 0)
  ∧ State.reset.pending = [] ∧ State.reset.journal = [] ∧ State.reset.events = [] ∧ State.reset.outbox = []

/-- O4. The memories are in canonical form after reset. The form of the memories is the model's own. -/
def Obligations.ResetMemoryCanonical : Prop := State.reset.memWf

/-- O5. The memories stay in canonical form: whatever the state, a step that answers a next state keeps the addresses listed
in global memory, in the cores' memories and in the boot flash strictly rising, and lists no byte equal to what an
unlisted one reads as. The form of the memories is the model's own. -/
def Obligations.StepKeepsMemoryCanonical : Prop :=
  ∀ s t : State, s.memWf → step s = .next t → t.memWf

/-- O6. A write that does not reach the Lodge changes nothing; one that the Lodge's checks refuse (a class switched off, a
read-only object, a class without the right, another owner, a value out of range, a state that bars it) leaves every
object but the class's two counters and the accessor's `DICT_LAST_STATUS` as it was, and nothing else changes. Which of
several checks answers is the model's choice (log entries 9 and 77). -/
def Obligations.RefusedWriteChangesNothing : Prop :=
  ∀ (i : Instr) (a : Accessor) (o : Obj) (n : Nat) (v : Int) (s : State), scalarWrite i = some (a, o, n, v) →
    (s.reach a (objAddr o n / 256) = none → exec i s = .next s)
    ∧ (∀ r, s.reach a (objAddr o n / 256) = some r → s.writeGate a o n v r ≠ .ok →
        ∃ t, exec i s = .next t
          ∧ t.obj .lodgeRefused (classNo a.cls) = (s.obj .lodgeRefused (classNo a.cls) + 1) % 4294967296
          ∧ t.obj .lodgeAccesses (classNo a.cls) = (s.obj .lodgeAccesses (classNo a.cls) + 1) % 4294967296
          ∧ t.obj .dictLastStatus (accessorNo a) = lastStatusWord (s.writeGate a o n v r) (objAddr o n)
          ∧ t = { s with objs := t.objs }
          ∧ s.sameObjsBut t
              [(.lodgeRefused, classNo a.cls), (.lodgeAccesses, classNo a.cls), (.dictLastStatus, accessorNo a)])

/-- O7. A write of `HALL_PACE_EN` that the Lodge takes: the object takes the value; 0 takes the pacer to OFF with T = 0, in
every state but SLEEP; 1 takes it from OFF, at a level other than P0, to HOLD with T = 0 and the window cleared; a pacer in
SLEEP keeps its state. A write of `HALL_PACE_SNAP` in TRACK sets T to 0, enters SNAP, records cause 4 and counts the snap;
in HOLD, SNAP, HOT and OFF it is recorded and counted and nothing else; in SLEEP it is not even that (R39, R46, R47). -/
def Obligations.PaceEnableAndSnapWrites : Prop :=
  ∀ (s : State) (a : Accessor) (u : Fin 18) (v : Nat),
    (s.writable a .hallPaceEn u v →
      ∃ t, exec (.hallPaceEnWrite a u v) s = .next t
        ∧ t.obj .hallPaceEn u = v
        ∧ (s.obj .hallPaceState u = paceSleep → t.obj .hallPaceState u = paceSleep ∧ t.pacer u = s.pacer u)
        ∧ (s.obj .hallPaceState u ≠ paceSleep → v = 0 → t.obj .hallPaceState u = paceOff ∧ t.obj .hallTrim u = 0)
        ∧ (s.obj .hallPaceState u = paceOff → v ≠ 0 → s.obj .hallLevel u ≠ 0 →
            t.obj .hallPaceState u = paceHold ∧ t.obj .hallTrim u = 0 ∧ (t.pacer u).window = []
            ∧ t.obj .hallSlackSamples u = 0)
        ∧ t = { s with objs := t.objs, pace := t.pace, unacked := t.unacked }
        ∧ s.sameObjsBut t ([(.hallPaceEn, u.val), (.hallPaceState, u.val), (.hallTrim, u.val), (.hallVoltage, u.val),
            (.hallSlackTail, u.val), (.hallSlackMin, u.val), (.hallSlackSamples, u.val)] ++ lodgeObjs a))
    ∧ (s.writable a .hallPaceSnap u v →
      ∃ t, exec (.hallPaceSnap a u v) s = .next t
        ∧ (s.obj .hallPaceState u ≠ paceSleep → t.obj .hallLastSnapCause u = 4
            ∧ t.obj .paceSnaps u = (s.obj .paceSnaps u + 1) % 4294967296)
        ∧ (s.obj .hallPaceState u = paceSleep → t.obj .hallLastSnapCause u = s.obj .hallLastSnapCause u
            ∧ t.obj .paceSnaps u = s.obj .paceSnaps u)
        ∧ (s.obj .hallPaceState u = paceTrack → t.obj .hallPaceState u = paceSnap ∧ t.obj .hallTrim u = 0
            ∧ (t.pacer u).raised = true ∧ (t.pacer u).lastRaise = some s.now
            ∧ (t.pacer u).snapByLevel = (s.pacer u).slewFrom.isSome)
        ∧ (s.obj .hallPaceState u ≠ paceTrack → t.obj .hallPaceState u = s.obj .hallPaceState u
            ∧ t.obj .hallTrim u = s.obj .hallTrim u ∧ t.pacer u = s.pacer u)
        ∧ t = { s with objs := t.objs, pace := t.pace, unacked := t.unacked }
        ∧ s.sameObjsBut t ([(.hallLastSnapCause, u.val), (.paceSnaps, u.val), (.hallPaceState, u.val),
            (.hallTrim, u.val), (.hallVoltage, u.val)] ++ lodgeObjs a))

/-- O8. A write of `HALL_LEVEL` that the Lodge takes: one that arrives in SLEEP is stored and changes nothing else; one of the
level in force changes nothing; any other sets the level, T to 0 and the rail's target to the level's voltage, records
cause 5 and counts a snap; it goes to OFF at P0, and from TRACK or SNAP to SNAP (R34, R36, R39, R46, R47). A stored level
is what a restart of the unit puts in force (R36). That a stored level replaces the level in force only at the restart is
the model's reading (log entry 11). -/
def Obligations.LevelWriteSlewsOrIsStored : Prop :=
  ∀ (s : State) (a : Accessor) (u : Fin 18) (v : Nat), s.writable a .hallLevel u v →
    ∃ t, exec (.hallLevelWrite a u v) s = .next t
      ∧ (s.obj .hallPaceState u = paceSleep → t.pacer u = { s.pacer u with stored := some (v : Int) }
          ∧ s.sameObjsBut t (lodgeObjs a) ∧ (t.paceRestart u).obj .hallLevel u = v)
      ∧ (s.obj .hallPaceState u ≠ paceSleep → (v : Int) = s.obj .hallLevel u →
          t.pacer u = s.pacer u ∧ s.sameObjsBut t (lodgeObjs a))
      ∧ (s.obj .hallPaceState u ≠ paceSleep → (v : Int) ≠ s.obj .hallLevel u →
          t.obj .hallLevel u = v ∧ t.obj .hallTrim u = 0 ∧ t.obj .hallVoltage u = levelMicroVolts v
          ∧ t.obj .hallLastSnapCause u = 5 ∧ t.obj .paceSnaps u = (s.obj .paceSnaps u + 1) % 4294967296
          ∧ (t.pacer u).slewFrom.isSome
          ∧ (s.obj .hallPaceState u = paceTrack → (t.pacer u).raised = true ∧ (t.pacer u).lastRaise = some s.now)
          ∧ t.obj .hallPaceState u =
              (if v = 0 then paceOff
               else if s.obj .hallPaceState u = paceTrack ∨ s.obj .hallPaceState u = paceSnap then paceSnap
               else s.obj .hallPaceState u))
      ∧ t = { s with objs := t.objs, pace := t.pace, unacked := t.unacked }
      ∧ s.sameObjsBut t ([(.hallLevel, u.val), (.hallTrim, u.val), (.hallVoltage, u.val), (.hallPaceState, u.val),
          (.hallLastSnapCause, u.val), (.paceSnaps, u.val)] ++ lodgeObjs a)

/-- O9. The pacer's timed events. In SLEEP they change nothing. A rate sample is published and enters the period's lowest; at
T = 0 below the floor it is counted as a floor fault, with an event at the first of a run; at T > 0 below the guarded floor it
reduces T by one and counts a step and a guard hit. The end of a pacing period publishes the lowest sample and, if a slack
sample was below the margin and T > 0, reduces T by one. A raise takes back a lowering step of the same device time, which then
never happened. The end of a lower interval raises T by one exactly when every condition of R39 and R40 holds (R39, R40, R41,
R47). -/
def Obligations.PacerSamplesAndSteps : Prop :=
  ∀ (s : State) (u : Fin 18),
    (s.obj .hallPaceState u = paceSleep → ∀ rate : Nat, exec (.hallRateSample u rate) s = .next s
      ∧ exec (.pacingPeriodEnd u) s = .next s ∧ exec (.lowerIntervalEnd u) s = .next s)
    ∧ (∀ rate : Nat, s.obj .hallPaceState u ≠ paceSleep → ∃ t, exec (.hallRateSample u rate) s = .next t
      ∧ t.obj .hallRate u = rate
      ∧ (t.pacer u).periodRate = some (match (s.pacer u).periodRate with | some x => min x (rate : Int) | none => rate)
      ∧ t.obj .paceFloorFaults u = (if s.trimBefore u = 0 ∧ (rate : Int) < s.unitFloor u
          then (s.obj .paceFloorFaults u + 1) % 4294967296 else s.obj .paceFloorFaults u)
      ∧ (if 0 < s.trimBefore u ∧ (rate : Int) * 100 < s.unitFloor u * (100 + s.obj .hallPaceRateGuard u)
          then t.obj .hallTrim u = s.trimBefore u - 1
            ∧ t.obj .hallVoltage u = levelMicroVolts (s.obj .hallLevel u) - 6250 * (s.trimBefore u - 1)
            ∧ t.obj .paceStepsUp u = (s.obj .paceStepsUp u + 1) % 4294967296
            ∧ t.obj .paceStepsDown u = (if (s.pacer u).lowered = some s.now then (s.obj .paceStepsDown u - 1) % 4294967296
                else s.obj .paceStepsDown u)
            ∧ t.obj .paceRateGuardHits u = (s.obj .paceRateGuardHits u + 1) % 4294967296
            ∧ (t.pacer u).raised = true ∧ (t.pacer u).lastRaise = some s.now
          else t.obj .hallTrim u = s.obj .hallTrim u ∧ t.obj .paceStepsUp u = s.obj .paceStepsUp u
            ∧ t.obj .paceStepsDown u = s.obj .paceStepsDown u ∧ t.obj .hallVoltage u = s.obj .hallVoltage u
            ∧ t.obj .paceRateGuardHits u = s.obj .paceRateGuardHits u)
      ∧ t.events = (if s.trimBefore u = 0 ∧ (rate : Int) < s.unitFloor u ∧ (s.pacer u).faultRun = false
          then ⟨.floorFault, u, rate⟩ :: s.events else s.events)
      ∧ t = { s with objs := t.objs, pace := t.pace, events := t.events }
      ∧ s.sameObjsBut t [(.hallRate, u.val), (.paceFloorFaults, u.val), (.hallTrim, u.val), (.hallVoltage, u.val),
          (.paceStepsUp, u.val), (.paceStepsDown, u.val), (.paceRateGuardHits, u.val)])
    ∧ (s.obj .hallPaceState u ≠ paceSleep → ∃ t, exec (.pacingPeriodEnd u) s = .next t
      ∧ t.obj .hallRatePaced u = ((s.pacer u).periodRate).getD (s.obj .hallRatePaced u)
      ∧ t.obj .hallTrim u = (if 0 < s.trimBefore u ∧ (s.pacer u).periodLow then s.trimBefore u - 1 else s.obj .hallTrim u)
      ∧ t.obj .paceStepsUp u = (if 0 < s.trimBefore u ∧ (s.pacer u).periodLow then (s.obj .paceStepsUp u + 1) % 4294967296
          else s.obj .paceStepsUp u)
      ∧ t.obj .paceStepsDown u = (if 0 < s.trimBefore u ∧ (s.pacer u).periodLow ∧ (s.pacer u).lowered = some s.now
          then (s.obj .paceStepsDown u - 1) % 4294967296 else s.obj .paceStepsDown u)
      ∧ (t.pacer u).periodLow = false ∧ (t.pacer u).periodRate = none
      ∧ t = { s with objs := t.objs, pace := t.pace }
      ∧ s.sameObjsBut t [(.hallRatePaced, u.val), (.hallTrim, u.val), (.hallVoltage, u.val), (.paceStepsUp, u.val),
          (.paceStepsDown, u.val)])
    ∧ (s.obj .hallPaceState u ≠ paceSleep → ∃ t, exec (.lowerIntervalEnd u) s = .next t
      ∧ t.obj .hallTrim u = (if s.mayLower u then s.obj .hallTrim u + 1 else s.obj .hallTrim u)
      ∧ t.obj .hallVoltage u = (if s.mayLower u then levelMicroVolts (s.obj .hallLevel u) - 6250 * (s.obj .hallTrim u + 1)
          else s.obj .hallVoltage u)
      ∧ t.obj .paceStepsDown u = (if s.mayLower u then (s.obj .paceStepsDown u + 1) % 4294967296
          else s.obj .paceStepsDown u)
      ∧ (t.pacer u).raised = false
      ∧ t = { s with objs := t.objs, pace := t.pace }
      ∧ s.sameObjsBut t [(.hallTrim, u.val), (.hallVoltage, u.val), (.paceStepsDown, u.val)])

/-- O10. The rail settles: SNAP ends in TRACK, or in HOLD after a level change, and a level change completing in HOLD or TRACK
enters HOLD, as one from P0 with `HALL_PACE_EN` at 1 does in OFF; `HALL_PACE_START_HOLD` takes HOLD to TRACK; in each
case, at or above `HALL_HOT_HOLD`, TRACK is left for HOT at once. An undervoltage of a rail is a fault 0x02 of the unit,
which restarts while its faults of the window stay below the limit (R31, R46, R533, R534); a gated or retired unit has
none (the model's choice, log entry 13). That HOT is entered with TRACK at once is the model's reading (log entry 12). -/
def Obligations.RailAndHoldEvents : Prop :=
  ∀ (s : State) (u : Fin 18),
    (s.obj .hallPaceState u = paceSnap →
      ∃ t, exec (.snapRailSettled u) s = .next t
        ∧ t.obj .hallPaceState u =
            (if (s.pacer u).snapByLevel then paceHold else if s.isHot u then paceHot else paceTrack)
        ∧ t.obj .hallTrim u = 0 ∧ (t.pacer u).slewFrom = none
        ∧ t = { s with objs := t.objs, pace := t.pace })
    ∧ (s.obj .hallPaceState u ≠ paceSnap → exec (.snapRailSettled u) s = .next s)
    ∧ ((s.pacer u).slewFrom.isSome → s.obj .hallPaceState u = paceHold ∨ s.obj .hallPaceState u = paceTrack →
      ∃ t, exec (.levelSlewDone u) s = .next t
        ∧ t.obj .hallPaceState u = paceHold ∧ t.obj .hallTrim u = 0 ∧ (t.pacer u).window = []
        ∧ (t.pacer u).slewFrom = none
        ∧ t = { s with objs := t.objs, pace := t.pace })
    ∧ ((s.pacer u).slewFrom.isSome → s.obj .hallPaceState u = paceOff → (s.pacer u).fromP0 = true → s.obj .hallLevel u ≠ 0 →
        s.obj .hallPaceEn u ≠ 0 →
      ∃ t, exec (.levelSlewDone u) s = .next t
        ∧ t.obj .hallPaceState u = paceHold ∧ t.obj .hallTrim u = 0 ∧ (t.pacer u).slewFrom = none
        ∧ t = { s with objs := t.objs, pace := t.pace })
    ∧ ((s.pacer u).slewFrom = none → exec (.levelSlewDone u) s = .next s)
    ∧ (s.obj .hallPaceState u = paceHold →
      ∃ t, exec (.paceStartHoldExpire u) s = .next t
        ∧ t.obj .hallPaceState u = (if s.isHot u then paceHot else paceTrack)
        ∧ t.obj .hallTrim u = 0
        ∧ t.obj .paceHotEntries u = (if s.isHot u then (s.obj .paceHotEntries u + 1) % 4294967296 else s.obj .paceHotEntries u)
        ∧ t = { s with objs := t.objs, pace := t.pace })
    ∧ (∀ x, s.unit (192 + u) = x → x.st ≠ unitSleeping → x.st ≠ unitRetired → s.obj .relFaultLimit 0 > ((x.faults.length + 1 : Nat) : Int) →
      ∃ t, exec (.hallRailUndervoltage u) s = .next t
        ∧ (t.unit (192 + u)).st = unitRestarting ∧ (t.unit (192 + u)).lastCode = 2
        ∧ (t.unit (192 + u)).lastTime = s.now
        ∧ t.obj .relFaults 0 = (s.obj .relFaults 0 + 1) % 4294967296
        ∧ t = { s with objs := t.objs, units := t.units, arbs := t.arbs, cores := t.cores })
    ∧ (∀ x, s.unit (192 + u) = x → x.st = unitSleeping ∨ x.st = unitRetired →
      exec (.hallRailUndervoltage u) s = .next s)

/-- O11. A thermal warning level that the Lodge takes is in force at once: `ALERT_N` is asserted when the highest junction
reads at or above it and it was not asserted, which is counted; it is released 2 °C below, and else stays (R580, R582). IDCODE
reads 0x2966_054F and BYPASS changes nothing, in S0 and S1; any other instruction takes the device out of service; in the
other states the port does nothing (R577). A junction sample: with no sensor running it changes nothing; else each running
sensor's reading is shown and `THERM_TJ_MAX` is the highest of them, a hall or block at `HALL_HOT_HOLD` goes from TRACK or SNAP
to HOT and from HOT, 5 °C below it, to HOLD, and the warning follows (R46, R580, R589); with the tenth sample in a row of one
sensor at 118 °C or more the device is in S3, the trip is recorded with that sensor and counted, and the wakes are held (R581,
R589). The end of the hold takes a wake held (R581). -/
def Obligations.ThermalAndTestPort : Prop :=
  (∀ (s : State) (a : Accessor) (v : Int), s.writable a .thermWarn 0 v →
    ∃ t, exec (.thermWarnWrite a v) s = .next t ∧ t.obj .thermWarn 0 = v
      ∧ t.pins.alertTherm =
          (if s.pins.alertTherm then !decide (s.obj .thermTjMax 0 ≤ v - 16) else decide (v ≤ s.obj .thermTjMax 0))
      ∧ t.obj .thermWarnings 0 = (if s.pins.alertTherm = false ∧ v ≤ s.obj .thermTjMax 0
          then (s.obj .thermWarnings 0 + 1) % 4294967296 else s.obj .thermWarnings 0)
      ∧ t = { s with objs := t.objs, events := t.events, unacked := t.unacked, pins := t.pins }
      ∧ s.sameObjsBut t ([(.thermWarn, 0), (.thermWarnings, 0)] ++ lodgeObjs a))
  ∧ (∀ s : State, s.obj .pwrState 0 ≤ 1 → s.obj .startRung 0 = 0 →
      exec (.jtagInstruction 1) s = .next (s.send (.jtag 0x2966054F)) ∧ exec (.jtagInstruction 0) s = .next s
      ∧ exec (.jtagInstruction 2) s = .next { s with pins := { s.pins with jtagOut := true } })
  ∧ (∀ (s : State) (ins : Fin 3), 1 < s.obj .pwrState 0 ∨ s.obj .startRung 0 ≠ 0 → exec (.jtagInstruction ins) s = .next s)
  ∧ (∀ (s : State) (tj : List Int), (∀ i : Fin 19, i.val < tj.length → s.sensorOn i = false) →
      exec (.thermalSample tj) s = .next s)
  ∧ (∀ (s : State) (tj : List Int) (j : Fin 19), j.val < tj.length → s.sensorOn j = true →
      (∀ i : Fin 19, i.val < tj.length → s.sensorOn i = true → tj.getD i 0 < 944 ∨ tabGet 0 s.therm.runs i < 9) →
      ∃ t, exec (.thermalSample tj) s = .next t
        ∧ (∀ i : Fin 18, i.val < tj.length → s.sensorOn i = true → t.obj .hallTj i = tj.getD i 0
            ∧ t.obj .hallPaceState i =
                (if (s.obj .hallPaceState i = paceTrack ∨ s.obj .hallPaceState i = paceSnap) ∧ s.obj .hallHotHold i ≤ tj.getD i 0
                 then paceHot
                 else if s.obj .hallPaceState i = paceHot ∧ tj.getD i 0 ≤ s.obj .hallHotHold i - 40 then paceHold
                 else s.obj .hallPaceState i))
        ∧ (18 < tj.length → s.sensorOn 18 = true → t.obj .thermIoTj 0 = tj.getD 18 0)
        ∧ (∀ i : Fin 18, ¬(i.val < tj.length ∧ s.sensorOn i = true) → t.obj .hallTj i = s.obj .hallTj i
            ∧ t.obj .hallPaceState i = s.obj .hallPaceState i)
        ∧ (∀ i : Fin 19, i.val < tj.length → s.sensorOn i = true → tj.getD i 0 ≤ t.obj .thermTjMax 0)
        ∧ t.pins = { s.pins with alertTherm :=
            (if s.pins.alertTherm then !decide (t.obj .thermTjMax 0 ≤ s.obj .thermWarn 0 - 16)
             else decide (s.obj .thermWarn 0 ≤ t.obj .thermTjMax 0)) }
        ∧ t.obj .thermWarnings 0 = (if s.pins.alertTherm = false ∧ t.pins.alertTherm = true
            then (s.obj .thermWarnings 0 + 1) % 4294967296 else s.obj .thermWarnings 0)
        ∧ t = { s with objs := t.objs, pace := t.pace, therm := t.therm, events := t.events, pins := t.pins })
  ∧ (∀ (s : State) (tj : List Int) (j : Fin 19),
      (List.range 19).find? (fun i => s.sensorOn i && decide (i < tj.length) && decide (944 ≤ tj.getD i 0)
        && decide (9 ≤ tabGet 0 s.therm.runs i)) = some j.val →
      ∃ t, exec (.thermalSample tj) s = .next t
        ∧ t.obj .pwrState 0 = 3 ∧ t.obj .startRung 0 = 0 ∧ t.therm.hold = true ∧ t.pins.pwrGood = true
        ∧ t.obj .thermTrips 0 = (s.obj .thermTrips 0 + 1) % 4294967296
        ∧ t.obj .thermLastTrip 0 = ((j.val * 65536 + toField 16 (tj.getD j 0) : Nat) : Int))
  ∧ (∀ s : State, s.therm.hold = false → exec .thermTripHoldEnd s = .next s)
  ∧ (∀ s : State, s.therm.hold = true →
      ∃ t, exec .thermTripHoldEnd s = .next t ∧ t.therm = { s.therm with hold := false }
        ∧ (if (s.obj .pwrState 0 = 2 ∨ s.obj .pwrState 0 = 3) ∧ s.obj .startRung 0 = 0 ∧ s.pwr.committed = false
              ∧ s.pwr.back = none ∧ s.pwr.wakes ≠ []
           then t.pwr = { s.pwr with exitDue := true } ∧ t.obj .pwrLastWake 0 = ((s.pwr.wakes.foldl min 255 : Nat) : Int)
           else t.pwr = s.pwr ∧ t.obj .pwrLastWake 0 = s.obj .pwrLastWake 0)
        ∧ t = { s with objs := t.objs, pwr := t.pwr, therm := t.therm }
        ∧ s.sameObjsBut t [(.pwrLastWake, 0)])

/-- O12. R66 and R68: MPY writes, MAC adds and MSU subtracts the signed product of two halves shifted left by SH, exact in 40
bits; a result outside 40 bits sets AV, and is clamped with SV set under SAT, else wraps modulo 2^40. With F set, N and Z
follow the result and V tells that the exact one does not fit; without F they stay. Nothing else of the core changes but
the PC and what counts its cycles. That V tells of 40 bits is the model's reading (log entry 22). -/
def Obligations.MultiplyAccumulateResults : Prop :=
  (∀ (i : Instr) (s : State) (c : Fin 192) (n : Nat) (q : Int) (f : Bool), multiplyOf i s = some (c, n, q, f) → shOf i < 3 →
    s.issues c = true → (s.core c).sst.ld = 0 →
    ∃ t k, exec i s = .next t ∧ ranAlone s t c k
      ∧ (-(2 ^ 39) ≤ q ∧ q < 2 ^ 39 → k.racc n = q ∧ k.sst.av = (s.core c).sst.av ∧ k.sst.sv = (s.core c).sst.sv)
      ∧ (¬(-(2 ^ 39) ≤ q ∧ q < 2 ^ 39) → k.sst.av = true
          ∧ ((s.core c).sst.sat = true → k.racc n = (if 0 ≤ q then 2 ^ 39 - 1 else -(2 ^ 39)) ∧ k.sst.sv = true)
          ∧ ((s.core c).sst.sat = false → (k.racc n - q) % 2 ^ 40 = 0 ∧ k.sst.sv = (s.core c).sst.sv))
      ∧ (f = true → k.sst.n = decide (k.racc n < 0) ∧ k.sst.z = decide (k.racc n = 0) ∧ k.sst.v = !fits 40 q)
      ∧ (f = false → k.sst = { (s.core c).sst with av := k.sst.av, sv := k.sst.sv })
      ∧ (∀ m, m ≠ n → k.racc m = (s.core c).racc m)
      ∧ k = { s.core c with acc := k.acc, sst := { (s.core c).sst with av := k.sst.av, sv := k.sst.sv, n := k.sst.n, z := k.sst.z, c := k.sst.c, v := k.sst.v } })
  ∧ (∀ (k : CoreSt) (a b sh : Nat) (ha hb : Bool), sh < 3 →
      product k a ha b hb sh = k.half a ha * k.half b hb * 2 ^ sh
      ∧ -(2 ^ 39) ≤ product k a ha b hb sh ∧ product k a ha b hb sh < 2 ^ 39)

/-- O13. ADD, SUB, EXTW and ASRR write the D register with the exact result, saturated to 32 bits with SV set under SAT, else
modulo 2^32; with F set, N and Z follow the result and V tells that the unsaturated one does not fit; without F no flag
changes. EXTH writes one half in the same way and leaves the other; CLR zeroes its accumulator (R54, R67, R69, R82). MPY, MAC
and MSU with SH = 3 raise ILLEGAL_INSN in slot 3 (R66, R85; the slot is the model's reading, log entry 25). -/
def Obligations.ScalarArithmeticResults : Prop :=
  (∀ (i : Instr) (s : State) (c : Fin 192) (d w : Nat) (x : Int) (f : Bool), scalarOf i s = some (c, d, w, x, f) →
    s.issues c = true → (s.core c).sst.ld = 0 →
    ∃ t k, exec i s = .next t ∧ ranAlone s t c k
      ∧ (fits 32 x = true → (k.rd d).toInt = x ∧ k.sst.sv = (s.core c).sst.sv)
      ∧ (fits 32 x = false → (s.core c).sst.sat = true →
          (k.rd d).toInt = (if 0 ≤ x then 2 ^ 31 - 1 else -(2 ^ 31)) ∧ k.sst.sv = true)
      ∧ (fits 32 x = false → (s.core c).sst.sat = false → ((k.rd d).toInt - x) % 2 ^ 32 = 0 ∧ k.sst.sv = (s.core c).sst.sv)
      ∧ (f = true → k.sst.n = decide ((k.rd d).toInt < 0) ∧ k.sst.z = decide ((k.rd d).toInt = 0) ∧ k.sst.v = !fits 32 x)
      ∧ (f = false → k.sst = { (s.core c).sst with sv := k.sst.sv })
      ∧ (∀ m, m ≠ d → k.rd m = (s.core c).rd m)
      ∧ k = { s.core c with d := k.d, sst := { (s.core c).sst with sv := k.sst.sv, n := k.sst.n, z := k.sst.z, c := k.sst.c, v := k.sst.v } })
  ∧ (∀ (s : State) (c : Fin 192) (d : Fin 16) (hd : Bool) (n : Fin 4) (sc : Fin 16) (rm : Fin 4) (f : Bool),
    s.issues c = true → (s.core c).sst.ld = 0 →
    ∃ t k, exec (.exth c d hd n sc rm f) s = .next t ∧ ranAlone s t c k
      ∧ k.half d hd = (saturate (s.core c).sst.sat 16
          (roundShift ((s.core c).racc n * 2 ^ sc.val) 16 (roundMode (s.core c).sst.rnd rm))).1
      ∧ k.half d (!hd) = (s.core c).half d (!hd)
      ∧ (∀ m : Nat, m ≠ d → k.rd m = (s.core c).rd m)
      ∧ (f = false → k.sst = { (s.core c).sst with sv := k.sst.sv }))
  ∧ (∀ (s : State) (c : Fin 192) (n : Fin 4), s.issues c = true → (s.core c).sst.ld = 0 →
    ∃ t k, exec (.clr c n) s = .next t ∧ ranAlone s t c k
      ∧ k.racc n = 0 ∧ (∀ m : Nat, m ≠ n → k.racc m = (s.core c).racc m) ∧ k = { s.core c with acc := k.acc })
  ∧ (∀ (i : Instr) (s : State) (c : Fin 192) (n : Nat) (q : Int) (f : Bool), multiplyOf i s = some (c, n, q, f) → shOf i = 3 →
      s.issues c = true → (s.core c).sst.ld = 0 → (s.core c).sst.exl = false →
      ∃ t, exec i s = .next t ∧ (t.core c).ecause = 3 * 2 ^ 28 + 3 ∧ (t.core c).epc = s.pc c ∧ (t.core c).acc = (s.core c).acc)

/-- O14. Control with no repeat level in use: NOP, FENCE with every posted store acknowledged, and a branch not taken go on to
the next bundle; a branch taken, CALL and RET set the PC, three cycles on; a REP of a non-zero count loads level 0 and
takes it, one of zero goes on after its end (R63, R74, R76, R81, R84). Where a call keeps its return address is the
model's choice (log entry 19). -/
def Obligations.ControlTransfers : Prop :=
  ∀ (s : State) (c : Fin 192), s.issues c = true → (s.core c).sst.ld = 0 →
    (∃ t, exec (.nop c) s = .next t ∧ ranAlone s t c (s.core c))
    ∧ ((s.core c).posted = [] → ∃ t, exec (.fence c) s = .next t ∧ ranAlone s t c (s.core c))
    ∧ (∀ (cond : Fin 16) (off : BitVec 21), cond.val < 14 → condHolds (s.core c).sst cond = false →
        ∃ t, exec (.bra c cond off) s = .next t ∧ t.obj .corePc c = (((s.pc c + 8) % 16777216 / 8 * 8 : Nat) : Int)
          ∧ t = { s with objs := t.objs, cores := t.cores } ∧ s.sameObjsBut t [(.corePc, c.val)]
          ∧ t.core c = { s.core c with cyc := ((s.core c).cyc + 1) % 2 ^ 64, stall := none })
    ∧ (∀ (cond : Fin 16) (off : BitVec 21), cond.val < 14 → condHolds (s.core c).sst cond = true →
        ∃ t, exec (.bra c cond off) s = .next t
          ∧ t.obj .corePc c = ((((((s.pc c / 8 : Nat) : Int) + off.toInt) % 2097152).toNat * 8 : Nat) : Int)
          ∧ t = { s with objs := t.objs, cores := t.cores } ∧ s.sameObjsBut t [(.corePc, c.val)]
          ∧ t.core c = { s.core c with cyc := ((s.core c).cyc + 3) % 2 ^ 64, stall := none })
    ∧ (∀ target : BitVec 24, ∃ t, exec (.call c target) s = .next t
          ∧ t.obj .corePc c = ((target.toNat / 8 * 8 : Nat) : Int)
          ∧ t.core c = { s.core c with calls := ((s.pc c + 8) % 16777216) :: (s.core c).calls, cyc := ((s.core c).cyc + 3) % 2 ^ 64, stall := none }
          ∧ t = { s with objs := t.objs, cores := t.cores } ∧ s.sameObjsBut t [(.corePc, c.val)])
    ∧ (∀ (a : Nat) (r : List Nat), (s.core c).calls = a :: r →
        ∃ t, exec (.ret c) s = .next t ∧ t.obj .corePc c = ((a % 16777216 / 8 * 8 : Nat) : Int)
          ∧ t.core c = { s.core c with calls := r, cyc := ((s.core c).cyc + 3) % 2 ^ 64, stall := none }
          ∧ t = { s with objs := t.objs, cores := t.cores, freeCtr := t.freeCtr } ∧ s.sameObjsBut t [(.corePc, c.val)])
    ∧ (∀ (imm : Bool) (cnt : BitVec 10) (fin : BitVec 14) (n : Nat), fin ≠ 0 → s.pc c / 8 + fin.toNat ≤ 12287 →
        n = (if imm then cnt.toNat else ((s.core c).rd (cnt.toNat % 16)).toNat) →
        ∃ t, exec (.rep c imm cnt fin) s = .next t
          ∧ (n ≠ 0 → t.obj .corePc c = (((s.pc c + 8) % 16777216 / 8 * 8 : Nat) : Int)
            ∧ (t.core c).sst = { (s.core c).sst with ld := 1 }
            ∧ (t.core c).rlc 0 = n ∧ (t.core c).lsStart 0 = s.pc c / 8 + 1
            ∧ (t.core c).lsEnd 0 = s.pc c / 8 + fin.toNat
            ∧ t.core c = { s.core c with lc := (t.core c).lc, ls := (t.core c).ls, sst := (t.core c).sst, cyc := (t.core c).cyc, stall := none })
          ∧ (n = 0 → t.obj .corePc c = (((s.pc c / 8 + fin.toNat + 1) * 8 % 16777216 : Nat) : Int)
            ∧ t.core c = { s.core c with cyc := (t.core c).cyc, stall := none })
          ∧ t = { s with objs := t.objs, cores := t.cores } ∧ s.sameObjsBut t [(.corePc, c.val)])

/-- O15. RTE, and MVC of a writable control register: RTE takes SST from ESST, goes on at EPC, and the core is in RUN or HANDLER as
EXL then says; MVC with direction 1 reads a listed register into Dn; with direction 0 it writes WBASE, Mn or EPC; a number
not listed, or a register marked RO, raises ILLEGAL_INSN and changes no register but those of the entry (R56, R57, R89). -/
def Obligations.ReturnAndControlRegisters : Prop :=
  ∀ (s : State) (c : Fin 192), s.issues c = true → (s.core c).sst.ld = 0 →
    (s.obj .coreState c = coreHandler → bitAt (s.core c).esst.toNat 31 = true →
      ∃ t, exec (.rte c) s = .next t ∧ (t.core c).sst = (s.core c).sst.restore (s.core c).esst.toNat
        ∧ t.obj .coreState c = coreHandler
        ∧ t.obj .corePc c = (((s.core c).epc % 16777216 / 8 * 8 : Nat) : Int)
        ∧ t = { s with objs := t.objs, cores := t.cores, freeCtr := t.freeCtr })
    ∧ (s.obj .coreState c = coreHandler → bitAt (s.core c).esst.toNat 31 = false →
      ∃ t, exec (.rte c) s = .next t ∧ (t.core c).sst = (s.core c).sst.restore (s.core c).esst.toNat
        ∧ t.obj .coreState c = coreRun
        ∧ t.obj .corePc c = (((s.core c).epc % 16777216 / 8 * 8 : Nat) : Int))
    ∧ (∀ (num : BitVec 8) (n : Fin 16) (v : Nat), s.ctlRead c (s.core c) num.toNat = some v →
        ∃ t, exec (.mvc c true num n) s = .next t ∧ ranAlone s t c ((s.core c).wd n (BitVec.ofNat 32 v)))
    ∧ (∀ (num : BitVec 8) (n : Fin 16) (k : CoreSt), num.toNat ≠ 0 →
        (s.core c).ctlWrite num.toNat ((s.core c).rd n) = some k →
        ∃ t, exec (.mvc c false num n) s = .next t ∧ ranAlone s t c k)
    ∧ (∀ (num : BitVec 8) (n : Fin 16), (s.core c).ctlWrite num.toNat ((s.core c).rd n) = none → (s.core c).sst.exl = false →
        ∃ t, exec (.mvc c false num n) s = .next t ∧ (t.core c).ecause = 3 * 2 ^ 28 + 3
          ∧ t.core c = { s.core c with esst := (t.core c).esst, epc := s.pc c, ecause := 3 * 2 ^ 28 + 3, sst := { (s.core c).sst with exl := true, ie := false }, stall := none, ints := (t.core c).ints, cyc := (t.core c).cyc })

/-- O16. TRAP takes its exception: ESST has SST, EPC the next bundle, ECAUSE code 11 in slot 3, EXL is set and IE cleared, and
issue goes on at VBASE + 352 in HANDLER, counted; EADDR stays. BKPT does the same with code 12, or, with `CORE_BKPT_HALT`
at 1, halts the core in HALTED_DEBUG (R85, R88, R89, R93, R95, R96). That a trapping bundle commits nothing is the model's
reading (log entry 26). -/
def Obligations.TrapAndBreakpoint : Prop :=
  ∀ (s : State) (c : Fin 192), s.issues c = true → (s.core c).sst.ld = 0 → (s.core c).sst.exl = false →
    s.obj .coreState c = coreRun →
    (∃ t, exec (.trap c) s = .next t
      ∧ t.core c = { s.core c with esst := BitVec.ofNat 32 (s.core c).sst.toWord, epc := (s.pc c / 8 + 1) * 8 % 16777216, ecause := 3 * 2 ^ 28 + 11, sst := { (s.core c).sst with exl := true, ie := false }, stall := none, ints := (t.core c).ints, cyc := (t.core c).cyc }
      ∧ t.obj .coreState c = coreHandler
      ∧ t.obj .corePc c = ((((s.core c).vbase + 352) % 16777216 / 8 * 8 : Nat) : Int)
      ∧ t.obj .coreExceptions c = (s.obj .coreExceptions c + 1) % 4294967296)
    ∧ (s.obj .coreBkptHalt c = 0 → ∃ t, exec (.bkpt c) s = .next t
      ∧ (t.core c).ecause = 3 * 2 ^ 28 + 12 ∧ (t.core c).epc = (s.pc c / 8 + 1) * 8 % 16777216
      ∧ t.obj .coreState c = coreHandler
      ∧ t.obj .corePc c = ((((s.core c).vbase + 384) % 16777216 / 8 * 8 : Nat) : Int))
    ∧ (s.obj .coreBkptHalt c ≠ 0 → ∃ t, exec (.bkpt c) s = .next t
      ∧ t.obj .coreState c = coreHaltedDebug ∧ (t.core c).leftState = coreRun
      ∧ t.obj .corePc c = (((s.pc c / 8 + 1) * 8 % 16777216 : Nat) : Int)
      ∧ (t.core c).d = (s.core c).d ∧ (t.core c).a = (s.core c).a ∧ (t.core c).acc = (s.core c).acc)

/-- O17. R91: a synchronous exception with EXL = 1 stops the core in HALTED_FAULT without entering a handler; it is counted in
`CORE_DOUBLE_FAULTS` and reported to the reliability manager as a fault 0x01 of the core. -/
def Obligations.DoubleFaultHaltsCore : Prop :=
  ∀ (s : State) (c : Fin 192) (code slot epc ea : Nat), (s.core c).sst.exl = true →
    (s.unit (unitCore c)).st ≠ unitSleeping → (s.unit (unitCore c)).st ≠ unitRetired →
    let t := s.raiseExc c code slot epc ea
    t.obj .coreState c = coreHaltedFault
    ∧ t.obj .coreDoubleFaults c = (s.obj .coreDoubleFaults c + 1) % 4294967296
    ∧ (t.unit (unitCore c)).lastCode = 1 ∧ t.obj .relFaults 0 = (s.obj .relFaults 0 + 1) % 4294967296
    ∧ t.pc c = s.pc c ∧ (t.core c).sst = (s.core c).sst ∧ (t.core c).epc = (s.core c).epc
    ∧ (t.core c).ecause = (s.core c).ecause

/-- O18. Full-form moves of X and Y memory, no stored bit of which is flipped: a load puts the bytes at its address into its
register and leaves memory alone; a store writes its register's bytes there, little-endian, and no other byte of any core's
memory; both update An by the address mode, read no other register and go on to the next bundle (R9, R54, R58, R71, R72,
R83). A load from a window that may be read stalls its bundle until the response (R61, R63). -/
def Obligations.FullFormMoves : Prop :=
  ∀ (s : State) (c : Fin 192) (w : BitVec 29) (sl : Nat) (m : Move),
    decodeM (0x60000000 + w.toNat) = oneOp sl (.move m) → s.issues c = true → (s.core c).sst.ld = 0 → s.upsets = [] →
    (∀ next, localMove s c m next → m.store = false →
      ∃ t, exec (.fullFormMove c w) s = .next t ∧ loadedIs s c (t.core c) m ∧ (t.core c).ra m.an = next
        ∧ t.obj .corePc c = (((s.pc c / 8 + 1) * 8 % 16777216 : Nat) : Int)
        ∧ (∀ c', c' ≠ c.val → t.core c' = s.core c')
        ∧ t = { s with objs := t.objs, cores := t.cores } ∧ s.sameObjsBut t [(.corePc, c.val)])
    ∧ (∀ next, localMove s c m next → m.store = true → s.eccLog = [] →
      ∃ t, exec (.fullFormMove c w) s = .next t
        ∧ t.coreBytes c ((s.core c).moveAddr m) (moveBytes m) = storeData (s.core c) m
        ∧ (∀ c' a, ¬(c' * 16777216 + a ≥ c.val * 16777216 + (s.core c).moveAddr m
              ∧ c' * 16777216 + a < c.val * 16777216 + (s.core c).moveAddr m + moveBytes m) →
            t.coreByte c' a = s.coreByte c' a)
        ∧ (t.core c).ra m.an = next ∧ (t.core c).d = (s.core c).d ∧ (t.core c).v = (s.core c).v
        ∧ t.obj .corePc c = (((s.pc c / 8 + 1) * 8 % 16777216 : Nat) : Int)
        ∧ t.mem = s.mem ∧ s.sameObjsBut t [(.corePc, c.val)])
    ∧ (∀ win g next, m.store = false → (s.core c).moveNext m = some next → (s.core c).moveAddr m % moveBytes m = 0 →
      s.movePlace (s.core c) m = .window win g true →
      ∃ t, exec (.fullFormMove c w) s = .next t ∧ t.core c = { s.core c with stall := some ⟨oneOp sl (.move m), nopWord⟩, lost := [] }
        ∧ t = { s with cores := t.cores })

/-- O19. A P word's two moves of X and Y memory, loads and stores, of 32 or of 128 bits, are both made in one bundle; a Q word
does the same beside MAC, MSU, MPY or CLR, whose operands are the old registers (R62, R66, R68, R80, R82, R83). -/
def Obligations.CompactMoves : Prop :=
  ∀ (s : State) (c : Fin 192) (w : BitVec 29) (m n : Move) (nx ny : Nat),
    s.issues c = true → (s.core c).sst.ld = 0 → s.upsets = [] → s.eccLog = [] → localMove s c m nx → localMove s c n ny →
    ((decodeP (0x80000000 + w.toNat)).ops = [.move m, .move n] →
      ∃ t, exec (.compactMove c w) s = .next t ∧ bothMoved s t c m n nx ny ∧ (t.core c).acc = (s.core c).acc)
    ∧ (∀ mul acc x, (decodeQ (0xA0000000 + w.toNat)).ops = [mul, .move m, .move n] →
        compactResult (s.core c) mul = some (acc, x) →
      ∃ t, exec (.compactMultiplyMove c w) s = .next t ∧ bothMoved s t c m n nx ny
        ∧ (t.core c).racc acc = (accResult (s.core c).sst.sat x).1
        ∧ (∀ r : Nat, r ≠ acc → (t.core c).racc r = (s.core c).racc r))

/-- O20. BUNDLE_ISSUE fetches the eight bytes at the PC and runs the two words they decode to: a bundle of ADD beside NOP adds;
a fetch outside program memory raises FETCH_ADDR with EPC at the PC (R58, R78, R85). An interrupt pending is taken at a
boundary with IE = 1 and EXL = 0, the lowest code first: EPC is the bundle not yet issued (R89, R90); the debug unit's request
is INT_DEBUG (R85). The error response of a posted store raises WINDOW_ASYNC at a boundary, with EADDR the store's global
address, and is held pending off one (R64, R90). A window load response of status 0, of a unit that answers, commits the
bundle that waited for it (R63). -/
def Obligations.BundleIssueAndInterrupts : Prop :=
  ∀ (s : State) (c : Fin 192),
    (∀ d a b : Nat, s.issues c = true → (s.core c).sst.ld = 0 → s.upsets = [] → s.pc c < 0x18000 →
      decodeBundle (leNat (s.coreBytes c (s.pc c) 8)) = ⟨oneOp 3 (.add d a b false), nopWord⟩ →
      ∃ t k, exec (.bundleIssue c) s = .next t ∧ ranAlone s t c k
        ∧ k.rd d = BitVec.ofInt 32 (saturate (s.core c).sst.sat 32 (((s.core c).rd a).toInt + ((s.core c).rd b).toInt)).1)
    ∧ (s.issues c = true → s.upsets = [] → s.pc c < 0x18000 →
      exec (.bundleIssue c) s = .next (s.runBundle c (decodeBundle (leNat (s.coreBytes c (s.pc c) 8))) false))
    ∧ (s.issues c = true → 0x18000 ≤ s.pc c → (s.core c).sst.exl = false →
      ∃ t, exec (.bundleIssue c) s = .next t ∧ (t.core c).ecause = 1 ∧ (t.core c).epc = s.pc c
        ∧ t.obj .coreState c = coreHandler
        ∧ (t.core c).d = (s.core c).d ∧ (t.core c).a = (s.core c).a ∧ t.coreMem = s.coreMem)
    ∧ (∀ code r (done : Fin 16), s.atBoundary c = true → (s.core c).stall = none → (s.core c).async = [] → (s.core c).sst.ie = true →
      (s.core c).sst.exl = false → (s.core c).ints = code :: r → (∀ x ∈ r, code < x) → 16 ≤ code → code ≤ 19 →
      ∃ t, exec (.interruptTaken c done false) s = .next t
        ∧ t.core c = { s.core c with ints := r, esst := BitVec.ofNat 32 (s.core c).sst.toWord, epc := s.pc c, ecause := 2 ^ 31 + 5 * 2 ^ 28 + code, sst := { (s.core c).sst with exl := true, ie := false }, cyc := (t.core c).cyc }
        ∧ t.obj .coreState c = coreHandler
        ∧ t.obj .corePc c = ((((s.core c).vbase + 32 * code) % 16777216 / 8 * 8 : Nat) : Int)
        ∧ t.obj .coreInterrupts c = (s.obj .coreInterrupts c + 1) % 4294967296
        ∧ t = { s with objs := t.objs, cores := t.cores, freeCtr := t.freeCtr })
    ∧ (∀ done : Fin 16, s.atBoundary c = true → (s.core c).stall = none → (s.core c).async = [] → (s.core c).sst.ie = true →
      (s.core c).sst.exl = false → (s.core c).ints = [] →
      ∃ t, exec (.interruptTaken c done true) s = .next t ∧ (t.core c).ecause = 2 ^ 31 + 5 * 2 ^ 28 + 0x13
        ∧ (t.core c).epc = s.pc c ∧ (t.core c).ints = [] ∧ t.obj .coreState c = coreHandler)
    ∧ (∀ g r, s.atBoundary c = false → (s.core c).posted = (g, true) :: r →
      exec (.windowAsync c) s = .next (s.setCore c { s.core c with posted := r, async := (s.core c).async ++ [g] }))
    ∧ (∀ g r, s.atBoundary c = true → (s.core c).async = [] → (s.core c).posted = (g, true) :: r →
      ∃ t, exec (.windowAsync c) s = .next t
        ∧ (t.core c).posted = r ∧ (t.core c).async = [] ∧ (t.core c).ecause = 5 * 2 ^ 28 + 13 ∧ (t.core c).eaddr = g ∧ (t.core c).epc = s.pc c
        ∧ (t.core c).sst = { (s.core c).sst with exl := true, ie := false }
        ∧ t.obj .coreState c = coreHandler
        ∧ t.obj .coreWindowAsync c = (s.obj .coreWindowAsync c + 1) % 4294967296)
    ∧ (∀ (m : Move) (sl win g : Nat) (elem : Fin 16), s.atBoundary c = true → (s.core c).sst.ld = 0 → s.upsets = [] →
      (s.core c).stall = some ⟨oneOp sl (.move m), nopWord⟩ → m.store = false → m.size = 2 →
      (s.core c).moveNext m = some ((s.core c).ra m.an) → (s.core c).moveAddr m % 4 = 0 →
      s.movePlace (s.core c) m = .window win g true → s.loadStatus (s.core c) g 0 = 0 →
      ∃ t, exec (.windowLoadResponse c 0 elem) s = .next t
        ∧ (t.core c).rd m.reg = BitVec.ofNat 32 (s.memNat g 4) ∧ (t.core c).stall = none
        ∧ t.obj .corePc c = (((s.pc c / 8 + 1) * 8 % 16777216 : Nat) : Int)
        ∧ t.mem = s.mem ∧ t.coreMem = s.coreMem)

/-- O21. CORE_HALT taken by the Lodge halts a core in HANDLER at a bundle boundary in HALTED_DEBUG, its state to return to kept;
in OFF, REJOINING and IDLE, and while a scheduler call is on its way, it only holds the request; CORE_RESUME takes a halted core back to the handler it left, and in any other
state is refused and changes no object but the Lodge's own (R93, R94). -/
def Obligations.HaltAndResume : Prop :=
  ∀ (s : State) (a : Accessor) (c : Fin 192) (v : Nat),
    (s.writable a .coreHalt c v → s.obj .coreState c = coreHandler → s.atBoundary c = true →
      ∃ t, exec (.coreHalt a c v) s = .next t ∧ t.obj .coreState c = coreHaltedDebug
        ∧ t.core c = { s.core c with leftState := coreHandler, stall := none, haltReq := false }
        ∧ t = { s with objs := t.objs, cores := t.cores, unacked := t.unacked }
        ∧ s.sameObjsBut t ([(.coreState, c.val)] ++ lodgeObjs a))
    ∧ (s.writable a .coreHalt c v →
        s.obj .coreState c = coreOff ∨ s.obj .coreState c = coreRejoining ∨ s.obj .coreState c = coreIdle
          ∨ (s.core c).callWait = true ∧ (s.obj .coreState c = coreRun ∨ s.obj .coreState c = coreHandler) →
      ∃ t, exec (.coreHalt a c v) s = .next t ∧ t.core c = { s.core c with haltReq := true }
        ∧ t = { s with objs := t.objs, cores := t.cores, unacked := t.unacked } ∧ s.sameObjsBut t (lodgeObjs a))
    ∧ (s.writable a .coreResume c v → s.obj .coreState c = coreHaltedDebug → (s.core c).leftState = coreHandler →
      ∃ t, exec (.coreResume a c v) s = .next t ∧ t.obj .coreState c = coreHandler
        ∧ t = { s with objs := t.objs, unacked := t.unacked }
        ∧ s.sameObjsBut t ([(.coreState, c.val)] ++ lodgeObjs a))
    ∧ (s.writable a .coreResume c v → s.obj .coreState c ≠ coreHaltedDebug →
      ∃ t, exec (.coreResume a c v) s = .next t
        ∧ t.obj .dictLastStatus (accessorNo a) = lastStatusWord .state (objAddr .coreResume c)
        ∧ t = { s with objs := t.objs } ∧ s.sameObjsBut t ([(.lodgeRefused, classNo a.cls)] ++ lodgeObjs a))

/-- O22. The element operations, the permutes and VEXTH: each active element of Vd takes its result; an inactive one keeps its
value, or is zeroed under ZM; no bit of Vd outside the elements of the operation changes; VSV is raised exactly when an
active element was clamped; no other register of the core or of any core changes (R97, R99, R103, R104, R108, R109,
R111). -/
def Obligations.VectorElementResults : Prop :=
  ∀ (i : Instr) (s : State) (c : Fin 192) (v l : VecWord) (f : Nat → Nat × Bool), elementsOf s i = some (c, v, l, f) →
    vecIllegal v = false → s.issues c = true → (s.core c).sst.ld = 0 →
    ∃ t k, exec i s = .next t ∧ ranAlone s t c k
      ∧ (∀ j, j < elemCount l.ty l.hf → getElem l.ty l.hf j (k.rv v.d) =
          (if (s.core c).active v j then (f j).1 % 2 ^ elemWidth l.ty
           else if v.zeroing then 0 else getElem l.ty l.hf j ((s.core c).rv v.d)))
      ∧ (∀ b, b < 128 → ¬(halfBase l.hf ≤ b ∧ b < halfBase l.hf + elemCount l.ty l.hf * elemWidth l.ty) →
          (k.rv v.d).getLsbD b = ((s.core c).rv v.d).getLsbD b)
      ∧ (k.vstate.vsv = true ↔
          (s.core c).vstate.vsv = true ∨ ∃ j, j < elemCount l.ty l.hf ∧ (s.core c).active v j = true ∧ (f j).2 = true)
      ∧ (∀ n, n ≠ v.d → k.rv n = (s.core c).rv n)
      ∧ k = { s.core c with v := k.v, vstate := { (s.core c).vstate with vsv := k.vstate.vsv } }

/-- O23. What R104 gives for the plain E16 elements a and b of an operation without masks: the sum and the difference of VADD and
VSUB clamped to 16 bits under SAT, the smaller and the larger, and the bitwise operations. -/
def Obligations.HalfwordArithmetic : Prop :=
  ∀ (a b mode n : Nat), a < 65536 → b < 65536 →
    let x := signExt 16 a
    let y := signExt 16 b
    elemOp .vadd 1 true mode n a b = (toField 16 (max (-32768) (min 32767 (x + y))), decide (x + y < -32768 ∨ 32767 < x + y))
    ∧ elemOp .vsub 1 true mode n a b = (toField 16 (max (-32768) (min 32767 (x - y))), decide (x - y < -32768 ∨ 32767 < x - y))
    ∧ elemOp .vadd 1 false mode n a b = ((a + b) % 65536, false)
    ∧ signExt 16 (elemOp .vmin 1 true mode n a b).1 = min x y ∧ signExt 16 (elemOp .vmax 1 true mode n a b).1 = max x y
    ∧ elemOp .vmul 1 true 1 n 0x8000 0x8000 = (0x7FFF, true)

/-- O24. The compares write the whole of MASK: bit k is 1 exactly when element k is active and the comparison of the signed
elements holds, and the bits above the elements are 0. VSTR copies VSTATE to Dn, and VSTW writes it: RS, EIDX and MASK take
their bits, ECODE stays, and VSV and VAV are cleared by 0 and kept by 1 (R100, R101, R109, R110). -/
def Obligations.VectorMaskAndState : Prop :=
  (∀ (s : State) (c : Fin 192) (ty : Fin 3) (a b : Fin 32) (hf : Fin 3) (mk : Bool), s.issues c = true →
    (s.core c).sst.ld = 0 →
    let e (r k : Nat) : Int := signExt (elemWidth ty) (getElem ty hf k ((s.core c).rv r))
    let act (k : Nat) : Prop := k < elemCount ty hf ∧ (mk = true → bitAt (s.core c).vstate.mask k = true)
    (∃ t k, exec (.vcmpeq c (ty.castLE (by decide)) a b (hf.castLE (by decide)) mk) s = .next t ∧ ranAlone s t c k
      ∧ (∀ j, bitAt k.vstate.mask j = true ↔ act j ∧ e a j = e b j)
      ∧ k = { s.core c with vstate := { (s.core c).vstate with mask := k.vstate.mask } })
    ∧ (∃ t k, exec (.vcmplt c (ty.castLE (by decide)) a b (hf.castLE (by decide)) mk) s = .next t ∧ ranAlone s t c k
      ∧ (∀ j, bitAt k.vstate.mask j = true ↔ act j ∧ e a j < e b j)
      ∧ k = { s.core c with vstate := { (s.core c).vstate with mask := k.vstate.mask } })
    ∧ (∃ t k, exec (.vcmple c (ty.castLE (by decide)) a b (hf.castLE (by decide)) mk) s = .next t ∧ ranAlone s t c k
      ∧ (∀ j, bitAt k.vstate.mask j = true ↔ act j ∧ e a j ≤ e b j)
      ∧ k = { s.core c with vstate := { (s.core c).vstate with mask := k.vstate.mask } }))
  ∧ (∀ (s : State) (c : Fin 192) (d : Fin 16), s.issues c = true → (s.core c).sst.ld = 0 →
    (∃ t, exec (.vstr c d) s = .next t ∧ ranAlone s t c ((s.core c).wd d (BitVec.ofNat 32 (s.core c).vstate.toWord)))
    ∧ (∃ t, exec (.vstw c d) s = .next t
        ∧ ranAlone s t c { s.core c with vstate := (s.core c).vstate.write ((s.core c).rd d).toNat }))
  ∧ (∀ (v : VState) (w : Nat), v.write w = ⟨bitAt w 31, bits w 27 24, v.vsv && bitAt w 21, v.vav && bitAt w 20, v.ecode, bits w 15 0⟩)

/-- O25. VMPY, VMAC and VMSU: each lane that an active element feeds takes the exact product of that element pair, shifted left
by SH, alone or added to or subtracted from the lane, under R68 with VAV and VSV; every other lane stays. VACLR zeroes the
eight lanes of its accumulator. VRSUM puts the sums of the active elements' parts into lane 0 and, for C16, lane 1, and zero
into the others; VRMAX and VRMIN put the extreme of the active elements and its lowest index into Dn, and with none active the
values R112 names (R105 to R109, R112). A reserved field raises ILLEGAL_INSN in slot 4 and changes no vector register (R105,
R107, R108). -/
def Obligations.VectorAccumulators : Prop :=
  (∀ (i : Instr) (s : State) (c : Fin 192) (v : VecWord) (f : Int → Int → Int), lanesOf i = some (c, v, f) →
    vecIllegal v = false → s.issues c = true → (s.core c).sst.ld = 0 →
    ∃ t k, exec i s = .next t ∧ ranAlone s t c k
      ∧ (∀ j, j < 8 → k.lane v.d j =
          (match laneElem v.ty v.hf j with
           | some e => if (s.core c).active v e
               then (accResult (s.core c).sst.sat (f ((s.core c).lane v.d j) (laneProduct (s.core c) v e j * 2 ^ v.k))).1
               else (s.core c).lane v.d j
           | none => (s.core c).lane v.d j))
      ∧ (k.vstate.vav = true ↔ (s.core c).vstate.vav = true ∨ ∃ j e, j < 8 ∧ laneElem v.ty v.hf j = some e
          ∧ (s.core c).active v e = true
          ∧ fits 40 (f ((s.core c).lane v.d j) (laneProduct (s.core c) v e j * 2 ^ v.k)) = false)
      ∧ (∀ n j, n ≠ v.d → j < 8 → k.lane n j = (s.core c).lane n j)
      ∧ k = { s.core c with va := k.va, vstate := { (s.core c).vstate with vav := k.vstate.vav, vsv := k.vstate.vsv } })
  ∧ (∀ (s : State) (c : Fin 192) (d : Fin 4), s.issues c = true → (s.core c).sst.ld = 0 →
    ∃ t k, exec (.vaclr c d false) s = .next t ∧ ranAlone s t c k ∧ (∀ j, j < 8 → k.lane d j = 0)
      ∧ (∀ n j, n ≠ d.val → j < 8 → k.lane n j = (s.core c).lane n j) ∧ k = { s.core c with va := k.va })
  ∧ (∀ (s : State) (c : Fin 192) (cx : Bool) (d : Fin 4) (a : Fin 32) (hf : Fin 3) (mk : Bool), s.issues c = true →
    (s.core c).sst.ld = 0 →
    let ty : Fin 4 := if cx then 3 else 1
    let w := elemWidth ty
    let act (j : Nat) : Bool := !mk || bitAt (s.core c).vstate.mask j
    let x (j : Nat) : Nat := getElem ty hf j ((s.core c).rv a)
    ∃ t k, exec (.vrsum c ty d a (hf.castLE (by decide)) mk) s = .next t ∧ ranAlone s t c k
      ∧ k.lane d 0 = (((List.range (elemCount ty hf)).filter act).map (fun j => signExt 16 (x j % 65536))).sum
      ∧ k.lane d 1 = (if cx then (((List.range (elemCount ty hf)).filter act).map (fun j => signExt 16 (x j / 65536))).sum else 0)
      ∧ (∀ j, 1 < j → j < 8 → k.lane d j = 0) ∧ w * elemCount ty hf ≤ 128
      ∧ (∀ n j, n ≠ d.val → j < 8 → k.lane n j = (s.core c).lane n j) ∧ k = { s.core c with va := k.va })
  ∧ (∀ (s : State) (c : Fin 192) (ty : Fin 2) (n : Fin 16) (a : Fin 32) (hf : Fin 3) (mk : Bool), s.issues c = true →
    (s.core c).sst.ld = 0 →
    let act (j : Nat) : Prop := j < elemCount ty hf ∧ (mk = true → bitAt (s.core c).vstate.mask j = true)
    let x (j : Nat) : Int := signExt (elemWidth ty) (getElem ty hf j ((s.core c).rv a))
    (∃ t k, exec (.vrmax c (ty.castLE (by decide)) n a (hf.castLE (by decide)) mk) s = .next t ∧ ranAlone s t c k
      ∧ ((∀ j, ¬act j) → k.rd n = (if ty = 0 then 0xFFFFFF80 else 0xFFFF8000))
      ∧ (∀ j, act j → (k.half n true).toNat < elemCount ty hf ∧ act (k.half n true).toNat ∧ k.half n false = x (k.half n true).toNat
          ∧ x j ≤ k.half n false ∧ ((j : Int) < k.half n true → x j < k.half n false))
      ∧ (∀ m : Nat, m ≠ n → k.rd m = (s.core c).rd m) ∧ k = { s.core c with d := k.d })
    ∧ (∃ t k, exec (.vrmin c (ty.castLE (by decide)) n a (hf.castLE (by decide)) mk) s = .next t ∧ ranAlone s t c k
      ∧ ((∀ j, ¬act j) → k.rd n = (if ty = 0 then 0xFFFF007F else 0xFFFF7FFF))
      ∧ (∀ j, act j → (k.half n true).toNat < elemCount ty hf ∧ act (k.half n true).toNat ∧ k.half n false = x (k.half n true).toNat
          ∧ k.half n false ≤ x j ∧ ((j : Int) < k.half n true → k.half n false < x j))
      ∧ (∀ m : Nat, m ≠ n → k.rd m = (s.core c).rd m) ∧ k = { s.core c with d := k.d }))
  ∧ (∀ (i : Instr) (s : State) (c : Fin 192) (v : VecWord), vectorWord s i = some (c, v) → vecIllegal v = true →
    s.issues c = true → (s.core c).sst.ld = 0 → (s.core c).sst.exl = false →
    ∃ t, exec i s = .next t ∧ (t.core c).ecause = 4 * 2 ^ 28 + 3 ∧ (t.core c).epc = s.pc c
      ∧ (t.core c).v = (s.core c).v ∧ (t.core c).va = (s.core c).va ∧ (t.core c).vstate = (s.core c).vstate
      ∧ t.obj .coreState c = coreHandler)

/-- O26. A gather or scatter whose elements are all inactive makes no access and completes, with RS and EIDX at 0 and ECODE as it
was; so does a gather that starts above its last element. One whose active elements, from the start on, lie aligned in X and Y
memory loads each from its own address, or stores each there, the last where two share one; every other element, byte and
register stays. A reserved register pairing raises ILLEGAL_INSN without an access (R109, R113, R114, R116, R118, R120). -/
def Obligations.GatherScatterComplete : Prop :=
  ∀ (s : State) (c : Fin 192) (d a : Fin 32) (an : Fin 8) (sc : Fin 4), s.issues c = true → (s.core c).sst.ld = 0 →
    (s.core c).sst.exl = false →
    ((s.core c).vstate.mask % 16 = 0 → (s.core c).vstate.rs = false → d ≠ a →
      (∃ t, exec (.vgather c 2 d a an sc true) s = .next t
        ∧ ranAlone s t c { s.core c with vstate := { (s.core c).vstate with rs := false, eidx := 0 } })
      ∧ (∃ t, exec (.vscatter c 2 d a an sc true) s = .next t
        ∧ ranAlone s t c { s.core c with vstate := { (s.core c).vstate with rs := false, eidx := 0 } }))
    ∧ ((s.core c).vstate.rs = true → 4 ≤ (s.core c).vstate.eidx → d ≠ a →
      ∃ t, exec (.vgather c 2 d a an sc false) s = .next t
        ∧ ranAlone s t c { s.core c with vstate := { (s.core c).vstate with rs := false, eidx := 0 } })
    ∧ (d = a → ∃ t, exec (.vgather c 2 d a an sc false) s = .next t ∧ (t.core c).ecause = 4 * 2 ^ 28 + 3
        ∧ (t.core c).v = (s.core c).v ∧ t.mem = s.mem ∧ t.coreMem = s.coreMem)
    ∧ (∀ (ty : Fin 4) (mk : Bool) (v : VecWord), v = ⟨.vgather, ty, d, a, an, 0, mk, false, false, sc⟩ → vecIllegal v = false →
        s.upsets = [] →
        (∀ j, j < elemCount ty 0 → gatherStart (s.core c) ≤ j → (s.core c).active v j = true →
          gatherAddr (s.core c) v j % elemBytes ty = 0 ∧ inData (gatherAddr (s.core c) v j) (elemBytes ty)) →
        ∃ t k, exec (.vgather c ty d a an sc mk) s = .next t ∧ ranAlone s t c k
          ∧ (∀ j, j < elemCount ty 0 → getElem ty 0 j (k.rv d) =
              (if gatherStart (s.core c) ≤ j ∧ (s.core c).active v j = true
               then leNat (s.coreBytes c (gatherAddr (s.core c) v j) (elemBytes ty))
               else getElem ty 0 j ((s.core c).rv d)))
          ∧ (∀ r : Nat, r ≠ d → k.rv r = (s.core c).rv r)
          ∧ k = { s.core c with v := k.v, vstate := { (s.core c).vstate with rs := false, eidx := 0 } })
    ∧ (∀ (ty : Fin 4) (mk : Bool) (v : VecWord), v = ⟨.vscatter, ty, d, a, an, 0, mk, false, false, sc⟩ → vecIllegal v = false →
        s.upsets = [] → s.eccLog = [] →
        (∀ j, j < elemCount ty 0 → gatherStart (s.core c) ≤ j → (s.core c).active v j = true →
          gatherAddr (s.core c) v j % elemBytes ty = 0 ∧ inData (gatherAddr (s.core c) v j) (elemBytes ty)) →
        ∃ t, exec (.vscatter c ty d a an sc mk) s = .next t
          ∧ (∀ j, j < elemCount ty 0 → gatherStart (s.core c) ≤ j → (s.core c).active v j = true →
              (∀ i, j < i → i < elemCount ty 0 → (s.core c).active v i = true →
                gatherAddr (s.core c) v i ≠ gatherAddr (s.core c) v j) →
              t.coreBytes c (gatherAddr (s.core c) v j) (elemBytes ty) = leBytes (elemBytes ty) (getElem ty 0 j ((s.core c).rv d)))
          ∧ (∀ x : Nat, (∀ j, j < elemCount ty 0 → gatherStart (s.core c) ≤ j → (s.core c).active v j = true →
                ¬(gatherAddr (s.core c) v j ≤ x ∧ x < gatherAddr (s.core c) v j + elemBytes ty)) →
              t.coreByte c x = s.coreByte c x)
          ∧ (t.core c).v = (s.core c).v
          ∧ (t.core c).vstate = { (s.core c).vstate with rs := false, eidx := 0 }
          ∧ t.obj .corePc c = (((s.pc c / 8 + 1) * 8 % 16777216 : Nat) : Int)
          ∧ t.mem = s.mem ∧ s.sameObjsBut t [(.corePc, c.val)])

/-- O27. Semaphore and queue calls answered at once, on objects of the caller's hall: SCH_SEM_INIT sets an unused lock free or a
signal to its count; a take of a positive signal takes one from it, SCH_SEM_TRY of an empty one answers WOULD_BLOCK;
SCH_SEM_GIVE without waiters adds one. A take of a free lock above those the thread holds makes it the owner and is recorded in
its TCB, one at or below them answers ORDER_ERROR and is counted; the owner's give frees the lock. SCH_QUEUE_SET sets an unused
queue; a send puts the message into the ring and a receive takes the oldest message of the ring into D12 to D15; SCH_MSG_TRY_SEND
to a full queue answers WOULD_BLOCK, or drops the message under POLICY 1, and SCH_MSG_TRY_RECV from an empty one answers
WOULD_BLOCK. Each answers its status in Dd. A call on an object of another hall goes there while the core waits (R131, R142 to
R146, R148). -/
def Obligations.SemaphoreAndMessageCalls : Prop :=
  ∀ (s : State) (c : Fin 192) (g : Nat) (d a : Fin 16), callReady s c g →
    let a0 := ((s.core c).rd a).toNat
    let h := c.val / 12
    -- semaphores
    (∀ i : Nat, i = 1024 * h + bits a0 9 0 → (s.sem i).waiters = [] → (s.sem i).owner = none →
      (bitAt a0 10 = false → bits a0 31 16 = 1 →
        ∃ t, exec (.schSemInit c d a) s = .next t ∧ answered s t c d 0 ∧ t.sem i = ⟨1, 1, none, []⟩
          ∧ (∀ j, j ≠ i → t.sem j = s.sem j) ∧ t = { s with objs := t.objs, cores := t.cores, sched := t.sched })
      ∧ (bitAt a0 10 = true →
        ∃ t, exec (.schSemInit c d a) s = .next t ∧ answered s t c d 0 ∧ t.sem i = ⟨2, bits a0 31 16, none, []⟩
          ∧ (∀ j, j ≠ i → t.sem j = s.sem j) ∧ t = { s with objs := t.objs, cores := t.cores, sched := t.sched }))
    ∧ (∀ i : Nat, i = bits a0 13 0 → i / 1024 = h → (s.sem i).kind = 2 → (s.sem i).waiters = [] → s.tHeldV g = 0 →
        g / 4096 = h →
      (0 < (s.sem i).count → ∀ call ∈ [Instr.schSemTry c d a, Instr.schSemTake c d a],
        ∃ t, exec call s = .next t ∧ answered s t c d 0
          ∧ t.sem i = { s.sem i with count := (s.sem i).count - 1 }
          ∧ (∀ j, j ≠ i → t.sem j = s.sem j) ∧ t = { s with objs := t.objs, cores := t.cores, sched := t.sched })
      ∧ ((s.sem i).count = 0 →
        ∃ t, exec (.schSemTry c d a) s = .next t ∧ answered s t c d 1 ∧ t.sch h = s.sch h
          ∧ t = { s with objs := t.objs, cores := t.cores })
      ∧ ((s.sem i).count < 65535 →
        ∃ t, exec (.schSemGive c d a) s = .next t ∧ answered s t c d 0
          ∧ t.sem i = { s.sem i with count := (s.sem i).count + 1 }
          ∧ (∀ j, j ≠ i → t.sem j = s.sem j) ∧ t = { s with objs := t.objs, cores := t.cores, sched := t.sched }))
    -- locks
    ∧ (∀ i : Nat, i = bits a0 13 0 → i / 1024 = h → (s.sem i).kind = 1 → g / 4096 = h → s.tHeldCount g < 15 →
      (0 < (s.sem i).count → s.tHeldV g = 0 ∨ s.tHeldMax g < i → ∀ call ∈ [Instr.schSemTry c d a, Instr.schSemTake c d a],
        ∃ t, exec call s = .next t ∧ answered s t c d 0
          ∧ t.sem i = { s.sem i with count := (s.sem i).count - 1, owner := some g }
          ∧ t.tHeldV g = 1 ∧ t.tHeldMax g = i ∧ t.tHeldCount g = s.tHeldCount g + 1
          ∧ (∀ j, j ≠ i → t.sem j = s.sem j))
      ∧ (s.tHeldV g = 1 → i ≤ s.tHeldMax g → ∀ call ∈ [Instr.schSemTry c d a, Instr.schSemTake c d a],
        ∃ t, exec call s = .next t ∧ answered s t c d 2 ∧ t.sch h = s.sch h
          ∧ t.obj .schOrderErrors h = (s.obj .schOrderErrors h + 1) % 4294967296)
      ∧ ((s.sem i).owner = some g → (s.sem i).waiters = [] → s.tHeldCount g = 1 →
        ∃ t, exec (.schSemGive c d a) s = .next t ∧ answered s t c d 0
          ∧ t.sem i = { s.sem i with count := 1, owner := none } ∧ t.tHeldV g = 0 ∧ t.tHeldCount g = 0
          ∧ (∀ j, j ≠ i → t.sem j = s.sem j)))
    -- other halls
    ∧ (∀ x : Nat, (x = bits a0 13 0 → x / 1024 ≠ h →
        (∀ call ∈ [Instr.schSemTake c d a, Instr.schSemTry c d a, Instr.schSemGive c d a],
          ∃ t, exec call s = .next t ∧ (t.core c).callWait = true
            ∧ (t.sch (x / 1024)).inbound = (s.sch (x / 1024)).inbound ++ [⟨g, remoteSub call, x, 0, d⟩]
            ∧ t.obj .corePc c = (((s.pc c / 8 + 1) * 8 % 16777216 : Nat) : Int)
            ∧ t = { s with objs := t.objs, cores := t.cores, sched := t.sched }))
      ∧ (x = bits a0 11 0 → x / 256 ≠ h →
        (∀ call ∈ [Instr.schMsgSend c d a, Instr.schMsgTrySend c d a],
          ∃ t, exec call s = .next t ∧ (t.core c).callWait = true
            ∧ (t.sch (x / 256)).inbound = (s.sch (x / 256)).inbound ++ [⟨g, remoteSub call, x, msgOf (s.core c), d⟩]
            ∧ t.obj .corePc c = (((s.pc c / 8 + 1) * 8 % 16777216 : Nat) : Int)
            ∧ t = { s with objs := t.objs, cores := t.cores, sched := t.sched })))
    -- queues
    ∧ (∀ q : Nat, q = 256 * h + bits a0 7 0 → a.val < 15 → isEngineQueue (bits a0 7 0) = false →
        (2 ≤ bits a0 11 8 ∧ bits a0 11 8 ≤ 12
          ∧ ((s.core c).rd (a + 1)).toNat % (16 * 2 ^ bits a0 11 8) = 0 ∧ 0x20000 ≤ ((s.core c).rd (a + 1)).toNat
          ∧ ((s.core c).rd (a + 1)).toNat + 16 * 2 ^ bits a0 11 8 ≤ terraceSize) →
        (s.queue q).count = 0 → (s.queue q).recv = [] → (s.queue q).send = [] →
        ∃ t, exec (.schQueueSet c d a) s = .next t ∧ answered s t c d 0
          ∧ t.queue q = ⟨a0 % 2 ^ 28, ((s.core c).rd (a + 1)).toNat, 0, 0, [], []⟩
          ∧ (∀ j, j ≠ q → t.queue j = s.queue j) ∧ t = { s with objs := t.objs, cores := t.cores, sched := t.sched })
    ∧ (∀ q : Nat, q = bits a0 11 0 → q / 256 = h → isEngineQueue (q % 256) = false → (s.queue q).enabled = true →
        bitAt (s.queue q).setting 14 = false → (s.queue q).recv = [] → (s.queue q).send = [] →
        (s.queue q).count < (s.queue q).depth →
        ∀ call ∈ [Instr.schMsgSend c d a, Instr.schMsgTrySend c d a],
        ∃ t, exec call s = .next t ∧ answered s t c d 0
          ∧ t.queue q = { s.queue q with count := (s.queue q).count + 1 }
          ∧ t.memNat (terraceBase h + (s.queue q).ring + 16 * (((s.queue q).head + (s.queue q).count) % (s.queue q).depth)) 16
              = msgOf (s.core c)
          ∧ (∀ x, ¬(terraceBase h + (s.queue q).ring + 16 * (((s.queue q).head + (s.queue q).count) % (s.queue q).depth) ≤ x
              ∧ x < terraceBase h + (s.queue q).ring + 16 * (((s.queue q).head + (s.queue q).count) % (s.queue q).depth) + 16) →
              t.byteAt x = s.byteAt x)
          ∧ (∀ j, j ≠ q → t.queue j = s.queue j))
    ∧ (∀ q : Nat, q = bits a0 11 0 → q / 256 = h → isEngineQueue (q % 256) = false → (s.queue q).enabled = true →
        (s.queue q).recv = [] → (s.queue q).depth ≤ (s.queue q).count →
        ∃ t, exec (.schMsgTrySend c d a) s = .next t ∧ answered s t c d (if (s.queue q).policyDrop then 0 else 1)
          ∧ t.obj .schQueueDrops h = (if (s.queue q).policyDrop then (s.obj .schQueueDrops h + 1) % 4294967296
              else s.obj .schQueueDrops h)
          ∧ t.sch h = s.sch h ∧ t.mem = s.mem)
    ∧ (∀ q : Nat, q = 256 * h + bits a0 7 0 → (s.queue q).enabled = true → (s.queue q).count = 0 → d.val < 12 →
        ∃ t, exec (.schMsgTryRecv c d a) s = .next t ∧ ranAlone s t c ((s.core c).wd d 1))
    ∧ (∀ q : Nat, q = 256 * h + bits a0 7 0 → (s.queue q).enabled = true → 0 < (s.queue q).count →
        (s.queue q).recv = [] → (s.queue q).send = [] → d.val < 12 →
        ∀ call ∈ [Instr.schMsgRecv c d a, Instr.schMsgTryRecv c d a],
        ∃ t, exec call s = .next t ∧ (t.core c).rd d = 0 ∧ msgOf (t.core c) = s.headMsg q
          ∧ (∀ n : Nat, n ≠ d.val → n < 12 → (t.core c).rd n = (s.core c).rd n)
          ∧ t.core c = { s.core c with d := (t.core c).d, cyc := ((s.core c).cyc + 1) % 2 ^ 64, stall := none }
          ∧ t.queue q = { s.queue q with head := ((s.queue q).head + 1) % (s.queue q).depth, count := (s.queue q).count - 1 }
          ∧ (∀ j, j ≠ q → t.queue j = s.queue j) ∧ t = { s with objs := t.objs, cores := t.cores, sched := t.sched })

/-- O28. Calls that give up the core, in a hall with no ready thread: a take of an empty signal, a receive from an empty queue
and a delay make the caller WAITING and the core IDLE; SCH_EXIT without locks frees the thread; after SCH_YIELD the caller
runs again. A delay whose tick has come is answered at once; SCH_SWITCH with nothing ready resumes at EPC and is counted
spurious, and with a ready thread above the interrupted one saves that one with PC = EPC and runs the other (R130, R131,
R134, R135, R137, R139, R142, R146, R147). What SCH_SWITCH and SCH_YIELD write as status is the model's reading (log entry
30). -/
def Obligations.BlockingCallsFreeTheCore : Prop :=
  ∀ (s : State) (c : Fin 192) (g : Nat) (d a : Fin 16),
    let a0 := ((s.core c).rd a).toNat
    let h := c.val / 12
    (callReady s c g → g / 4096 = h → (∀ p, (s.sch h).list p = []) → s.tState g = thRunning → 128 ≤ s.tFrame g →
        s.tFrame g < 12288 →
      (∀ i : Nat, i = bits a0 13 0 → i / 1024 = h → (s.sem i).kind = 2 → (s.sem i).count = 0 → s.tHeldV g = 0 →
        ∃ t, exec (.schSemTake c d a) s = .next t ∧ waitsFor s t c g 2 ∧ (t.sem i).waiters = (s.sem i).waiters ++ [g])
      ∧ (∀ q : Nat, q = 256 * h + bits a0 7 0 → (s.queue q).enabled = true → (s.queue q).count = 0 → d.val < 12 →
        ∃ t, exec (.schMsgRecv c d a) s = .next t ∧ waitsFor s t c g 3 ∧ (t.queue q).recv = (s.queue q).recv ++ [g])
      ∧ (∀ q : Nat, q = bits a0 11 0 → q / 256 = h → isEngineQueue (q % 256) = false → (s.queue q).enabled = true →
          (s.queue q).recv = [] → (s.queue q).depth ≤ (s.queue q).count → (s.queue q).policyDrop = false →
        ∃ t, exec (.schMsgSend c d a) s = .next t ∧ waitsFor s t c g 4
          ∧ (t.queue q).send = (s.queue q).send ++ [(g, msgOf (s.core c))])
      ∧ (a0 ≠ 0 →
        ∃ t, exec (.schDelay c d a) s = .next t ∧ waitsFor s t c g 1 ∧ g ∈ (t.sch h).delay
          ∧ t.tWake g = (s.tick48 h + a0) % 2 ^ 48)
      ∧ (a.val < 15 → reachedTick (s.tick48 h) (a0 + bits ((s.core c).rd (a + 1)).toNat 15 0 * 2 ^ 32) = false →
        ∃ t, exec (.schDelayUntil c d a) s = .next t ∧ waitsFor s t c g 1 ∧ g ∈ (t.sch h).delay
          ∧ t.tWake g = a0 + bits ((s.core c).rd (a + 1)).toNat 15 0 * 2 ^ 32)
      ∧ (s.locksOf g = [] →
        ∃ t, exec (.schExit c d a) s = .next t ∧ t.obj .coreState c = coreIdle ∧ t.thread c = none ∧ t.tState g = thFree
          ∧ t.obj .schFreeThreads h = s.obj .schFreeThreads h + 1)
      ∧ (s.eligible c g = true → (s.sch h).loading = [] → (s.core c).haltReq = false →
        ∃ t, exec (.schYield c d a) s = .next t ∧ t.thread c = some g ∧ t.obj .coreState c = coreRun
          ∧ t.tState g = thRunning ∧ t.pc c = (s.pc c / 8 + 1) * 8 % 16777216
          ∧ t.obj .schDispatches h = (s.obj .schDispatches h + 1) % 4294967296))
    ∧ (callReady s c g → a.val < 15 → reachedTick (s.tick48 h) (a0 + bits ((s.core c).rd (a + 1)).toNat 15 0 * 2 ^ 32) = true →
        ∃ t, exec (.schDelayUntil c d a) s = .next t ∧ ranAlone s t c ((s.core c).wd d 0))
    ∧ (s.issues c = true → (s.core c).sst.ld = 0 → (s.core c).sst.exl = true → s.thread c = some g →
        (∀ p, (s.sch h).list p = []) →
        ∃ t, exec (.schSwitch c d a) s = .next t ∧ t.thread c = some g ∧ t.obj .coreState c = coreRun
          ∧ t.obj .corePc c = (((s.core c).epc % 16777216 / 8 * 8 : Nat) : Int)
          ∧ (t.core c).sst = (s.core c).sst.restore (s.core c).esst.toNat
          ∧ t.obj .schPreemptSpurious h = (s.obj .schPreemptSpurious h + 1) % 4294967296
          ∧ t = { s with objs := t.objs, cores := t.cores, sched := t.sched })
    ∧ (∀ g' p : Nat, s.issues c = true → (s.core c).sst.ld = 0 → (s.core c).sst.exl = true → (s.core c).haltReq = false →
        s.thread c = some g → g / 4096 = h → 128 ≤ s.tFrame g → s.tFrame g < 12288 → s.obj .schTraceSize h = 0 →
        (s.sch h).loading = [] → p < 64 → (s.sch h).list p = [g'] → (∀ q, q ≠ p → (s.sch h).list q = []) → g' ≠ g →
        s.tPrio g' = p → s.eligible c g' = true → s.tPrio g < p →
        ∃ t, exec (.schSwitch c d a) s = .next t ∧ t.thread c = some g' ∧ t.obj .coreState c = coreRun
          ∧ t.memNat (s.frameAddr g + 0xC4) 4 = (s.core c).epc % 4294967296)

/-- O29. Calls on other threads of the hall: SCH_CREATE takes the lowest FREE thread, answers its number and gives its TCB the
priority, the affinity, the frame and the tag of the operands; with no core named or a frame out of place it answers BAD_ARG,
with no FREE thread NO_THREAD, each with bit 31 set. SCH_KILL of a READY thread frees it and takes it off its list; of a FREE or
RUNNING one it answers BAD_STATE (the model's choice, log entry 30), of no thread BAD_ARG. SCH_SET_PRIO changes the priority of a
RUNNING, WAITING or FAULTED thread, moves a READY one to the tail of the new list, and answers BAD_STATE for a FREE one (R127,
R131, R132, R136, R147). -/
def Obligations.CallsOnOtherThreads : Prop :=
  ∀ (s : State) (c : Fin 192) (g : Nat) (d a : Fin 16), callReady s c g →
    let a0 := ((s.core c).rd a).toNat
    let a1 := ((s.core c).rd (a + 1)).toNat
    let h := c.val / 12
    (∀ n : Nat, a.val < 14 → bits a0 31 20 ≠ 0 → frameOk (bits a1 13 0) = true → s.lowestFree h 4096 0 = some n →
      ∃ t, exec (.schCreate c d a) s = .next t ∧ (t.core c).rd d = BitVec.ofNat 32 (n % 4096)
        ∧ t.tPrio n = bits a0 19 14 ∧ t.tAffinity n = bits a0 31 20 ∧ t.tFrame n = bits a1 13 0 ∧ t.tTag n = bits a1 31 16)
    ∧ (a.val < 14 → bits a0 31 20 = 0 ∨ frameOk (bits a1 13 0) = false →
      ∃ t, exec (.schCreate c d a) s = .next t ∧ ranAlone s t c ((s.core c).wd d 0x80000003))
    ∧ (a.val < 14 → bits a0 31 20 ≠ 0 → frameOk (bits a1 13 0) = true → s.lowestFree h 4096 0 = none →
      ∃ t, exec (.schCreate c d a) s = .next t ∧ ranAlone s t c ((s.core c).wd d 0x80000005))
    ∧ (4096 ≤ a0 → ∃ t, exec (.schKill c d a) s = .next t ∧ ranAlone s t c ((s.core c).wd d 3))
    ∧ (a0 < 4096 → s.tState (4096 * h + a0) = thFree ∨ s.tState (4096 * h + a0) = thRunning →
      ∃ t, exec (.schKill c d a) s = .next t ∧ ranAlone s t c ((s.core c).wd d 6))
    ∧ (a0 < 4096 → s.tState (4096 * h + a0) = thReady → s.locksOf (4096 * h + a0) = [] →
      ∃ t, exec (.schKill c d a) s = .next t ∧ (t.core c).rd d = 0 ∧ t.tState (4096 * h + a0) = thFree
        ∧ 4096 * h + a0 ∉ (t.sch h).list (s.tPrio (4096 * h + a0)))
    ∧ (∀ n p : Nat, n = 4096 * h + bits a0 27 16 → p = bits a0 5 0 →
      (s.tState n = thFree → ∃ t, exec (.schSetPrio c d a) s = .next t ∧ ranAlone s t c ((s.core c).wd d 6))
      ∧ (s.tState n = thRunning → ∃ t, exec (.schSetPrio c d a) s = .next t ∧ (t.core c).rd d = 0 ∧ t.tPrio n = p
          ∧ (t.sch h).ready = (s.sch h).ready)
      ∧ (s.tState n = thWaiting ∨ s.tState n = thFaulted → ∃ t, exec (.schSetPrio c d a) s = .next t ∧ answered s t c d 0 ∧ t.tPrio n = p)
      ∧ (s.tState n = thReady → ∃ t, exec (.schSetPrio c d a) s = .next t ∧ (t.core c).rd d = 0 ∧ t.tPrio n = p
          ∧ (t.sch h).list p = (if p = s.tPrio n then ((s.sch h).list p).filter (fun x => decide (x ≠ n))
              else (s.sch h).list p) ++ [n]))

/-- O30. SCH_SOFT_INT makes INT_SOFT pending on the named core; SCH_TRACE writes a record of kind 0x0E at the write pointer,
which moves on by 16 bytes. At a tick edge every entry whose tick has been reached leaves the delay list, and its wait is
ended. The watchdog reports a watched wait longer than its limit once (R85, R90, R131, R140, R149, R154). That the
watchdog reports the thread's number within its hall is the model's reading (log entry 36). -/
def Obligations.SchedulerSignalsAndTicks : Prop :=
  (∀ (s : State) (c : Fin 192) (g : Nat) (d a : Fin 16), s.issues c = true → (s.core c).sst.ld = 0 → s.thread c = some g →
    let h := c.val / 12
    (∀ k : Nat, k = bits ((s.core c).rd a).toNat 7 0 → k < 192 →
      ∃ t, exec (.schSoftInt c d a) s = .next t ∧ 0x12 ∈ (t.core k).ints ∧ (t.core c).rd d = 0
        ∧ (∀ k', k' ≠ k → k' ≠ c.val → t.core k' = s.core k')
        ∧ t = { s with objs := t.objs, cores := t.cores } ∧ s.sameObjsBut t [(.corePc, c.val)])
    ∧ (s.obj .schTraceSize h = 0 → ∃ t, exec (.schTrace c d a) s = .next t ∧ ranAlone s t c ((s.core c).wd d 0))
    ∧ (∀ size base wp : Nat, s.obj .schTraceSize h = size → 0 < size → s.obj .schTraceBase h = base →
        s.obj .schTraceWptr h = wp → bitAt (s.objN .schTraceMask h) 0x0E = true → s.obj .schTraceMode h = 0 →
        s.reachable (base + wp) 16 = true →
      ∃ t, exec (.schTrace c d a) s = .next t ∧ (t.core c).rd d = 0
        ∧ t.readMem (base + wp) 16 = s.traceRecord h 0x0E (c % 12) (some g) ((s.core c).rd a).toNat
        ∧ t.obj .schTraceWptr h = (((wp + 16) % size : Nat) : Int)
        ∧ (∀ x, ¬(base + wp ≤ x ∧ x < base + wp + 16) → t.byteAt x = s.byteAt x)))
  ∧ (∀ (s : State) (h : Fin 16), (∀ g ∈ (s.sch h).delay, g / 4096 = h.val) →
    ∃ t, exec (.schTick h) s = .next t
      ∧ (t.sch h).delay = (s.sch h).delay.filter (fun g => !reachedTick (s.tick48 h) (s.tWake g))
      ∧ (∀ g ∈ (s.sch h).delay, reachedTick (s.tick48 h) (s.tWake g) = true → tabGet 0 (t.sch h).waits g = 0)
      ∧ ((∀ g ∈ (s.sch h).delay, reachedTick (s.tick48 h) (s.tWake g) = false) → t = s))
  ∧ (∀ (s : State) (h : Fin 16) (g w : Nat), s.obj .schWdEn h ≠ 0 → (s.sch h).waits = [(g, w)] → (s.sch h).reported = [] →
      s.tState g = thWaiting → s.tWaitKind g = 4 → s.obj .schTraceSize h = 0 →
      s.obj .schWdLimit h < s.now - tabGet 0 (s.sch h).since g →
    ∃ t, exec (.schWdCheck h) s = .next t
      ∧ t.obj .schWdLastThread h = ((g % 4096 : Nat) : Int) ∧ t.obj .schWdLastKind h = 4
      ∧ t.obj .schWdLastObj h = s.tWaitObj g ∧ t.obj .schWdLastChainLen h = 1
      ∧ t.obj .schWdReports h = (s.obj .schWdReports h + 1) % 4294967296
      ∧ t.events = ⟨.schWatchdog, h, g % 4096⟩ :: s.events ∧ (t.sch h).reported = [g]
      ∧ exec (.schWdCheck h) t = .next t
      ∧ t = { s with objs := t.objs, sched := t.sched, events := t.events })
  ∧ (∀ (s : State) (h : Fin 16), s.obj .schWdEn h = 0 → exec (.schWdCheck h) s = .next s)

/-- O31. R141: `SCH_TICK_NS` may be written only while the hall is gated; a write at any other time is refused with STATE, and
the object keeps its value. -/
def Obligations.TickPeriodWrittenOnlyWhileGated : Prop :=
  ∀ (s : State) (a : Accessor) (h : Fin 16) (v : Nat), s.writable a .schTickNs h v →
    (s.obj .hallPaceState h = paceSleep →
      ∃ t, exec (.schTickNsWrite a h v) s = .next t ∧ t.obj .schTickNs h = v
        ∧ t = { s with objs := t.objs, unacked := t.unacked } ∧ s.sameObjsBut t ((.schTickNs, h.val) :: lodgeObjs a))
    ∧ (s.obj .hallPaceState h ≠ paceSleep →
      ∃ t, exec (.schTickNsWrite a h v) s = .next t ∧ t.obj .schTickNs h = s.obj .schTickNs h
        ∧ t.obj .dictLastStatus (accessorNo a) = lastStatusWord .state (objAddr .schTickNs h)
        ∧ t = { s with objs := t.objs })

/-- O32. A write of `SCH_PMEM_LOAD` that the Lodge takes stops dispatch to the named cores, records those halted or faulted as
skipped, remembers the source, and in a hall with no ready thread changes nothing else; a named core that is IDLE then
takes its 96 KiB of program memory, and the load is complete with the last (R150; words that the source holds and delivers
whole). A signal taken by a call of another hall is taken when the call arrives there (R144, R148, R150). That the calling
core issues nothing meanwhile is the model's reading (log entry 29). -/
def Obligations.ProgramLoadAndRemoteCalls : Prop :=
  (∀ (s : State) (a : Accessor) (h : Fin 16) (v : Nat), s.writable a .schPmemLoad h v →
    ∃ t, exec (.schPmemLoad a h v) s = .next t
      ∧ (∀ i : Nat, i ∈ (t.sch h).loading ↔ i < 12 ∧ bitAt v (52 + i) = true
          ∧ s.obj .coreState (12 * h + i) ≠ coreHaltedDebug ∧ s.obj .coreState (12 * h + i) ≠ coreHaltedFault)
      ∧ (t.sch h).loadSrc = v / 8 % 2 ^ 45 * 8
      ∧ t.obj .schPmemState h / 0x1000 = (if (t.sch h).loading = [] then 2 else 1)
      ∧ ((∀ p, (s.sch h).list p = []) → t = { s with objs := t.objs, sched := t.sched, unacked := t.unacked }
          ∧ s.sameObjsBut t ((.schPmemState, h.val) :: lodgeObjs a)))
  ∧ (∀ (s : State) (c : Fin 192), c.val % 12 ∈ (s.sch (c / 12)).loading → s.obj .coreState c = coreIdle → s.upsets = [] →
    (∀ i, i < 12288 → s.reachable ((s.sch (c / 12)).loadSrc + 8 * i) 8 = true) →
    ∃ t, exec (.pmemCoreLoad c) s = .next t
      ∧ (∀ i, i < 98304 → t.coreByte c i = s.byteAt ((s.sch (c / 12)).loadSrc + i))
      ∧ (t.sch (c / 12)).loading = (s.sch (c / 12)).loading.filter (fun i => decide (i ≠ c.val % 12))
      ∧ ((∀ i ∈ (s.sch (c / 12)).loading, i = c.val % 12) →
          t.obj .schPmemState (c / 12) = s.obj .schPmemState (c / 12) % 0x1000 + 0x2000))
  ∧ (∀ (s : State) (h src : Fin 16) (o : RemoteOp) (c : Nat), (s.sch h).inbound = [o] → o.thread / 4096 = src.val →
      o.sub = 0x10 ∨ o.sub = 0x11 → c = 12 * src.val + s.tLastCore o.thread → c / 12 = src.val →
      s.thread c = some o.thread → s.tHeldV o.thread = 0 →
      o.obj / 1024 = h.val → (s.sem o.obj).kind = 2 → (s.sem o.obj).waiters = [] → 0 < (s.sem o.obj).count →
      s.obj .schTraceSize src = 0 → (s.core c).haltReq = false →
    ∃ t, exec (.schRemoteOp h src) s = .next t
      ∧ (t.sch h).inbound = [] ∧ t.sem o.obj = { s.sem o.obj with count := (s.sem o.obj).count - 1 }
      ∧ t.core c = { (s.core c).wd o.dd 0 with callWait := false }
      ∧ t = { s with cores := t.cores, sched := t.sched })

/-- O33. The slot buffers. A section of a steered frame that passes every check lands: its bytes are stored, its PRBs marked,
an IDLE buffer claimed; a frame without an entry is counted. ARM records what is expected; the gains are set once GREF can
be measured, and the ARM completes; a GAINED buffer closes with its last window; RELEASE and the deadline free it (R158 to
R168, R173, R174). Corners of landing and ARM are the model's readings (log entries 41 and 42). -/
def Obligations.SlotBufferLife : Prop :=
  (∀ (s : State) (f : UlFrame) (sec : UlSection) (tc S : Int) (x : Nat), s.obj .pairUlMode 0 = 0 →
    (s.findEntry f none s.steer = none →
      ∃ t, exec (.ulFrameSteering f) s = .next t ∧ t.obj .ulFhNoEntry 0 = (s.obj .ulFhNoEntry 0 + 1) % 4294967296
        ∧ t = { s with objs := t.objs })
    ∧ (s.findEntry f none s.steer = some (tc, x, S) → f.sections = [sec] → s.upsets = [] → seTarget x ≠ 1 →
        let l := s.landOf x
        let k := l.key + l.buf S
        let old := if (s.ulBuf k).st = 0 then 0 else tabGet 0 (s.ulBuf k).landed (16 * l.stream + sec.symbol)
        let a := terraceBase (s.hallOf l.carrier) + l.offset S sec.symbol sec.start
        let n := min (sec.num * l.prbBytes) (l.symStride - sec.start * l.prbBytes)
        s.hasUlJob (seTarget x) l.carrier S = true → f.arrival < s.windowClose l.carrier S sec.symbol →
        ((s.ulBuf k).st = 0 ∨ ((s.ulBuf k).slot = S ∧ (s.ulBuf k).st ≠ 3)) → sec.rb = false →
        sec.start + sec.num ≤ l.prbs → sec.symbol < l.symbols → sec.comp = (if l.comp then 1 else 0) → sec.width = l.width →
      ∃ t, exec (.ulFrameSteering f) s = .next t
        ∧ (t.ulBuf k).slot = S ∧ (t.ulBuf k).st = (if (s.ulBuf k).st = 0 then 1 else (s.ulBuf k).st)
        ∧ tabGet 0 (t.ulBuf k).landed (16 * l.stream + sec.symbol) = (old ||| ((2 ^ sec.num - 1) * 2 ^ sec.start))
        ∧ (∀ j, j < n → t.byteAt (a + j) = sec.data.getD j 0)
        ∧ (∀ b, ¬(a ≤ b ∧ b < a + n) → t.byteAt b = s.byteAt b)
        ∧ (∀ k', k' ≠ k → t.ulBuf k' = s.ulBuf k')))
  ∧ (∀ (s : State) (k : Fin 6144) (a : ArmSt), s.armOf (k / 8) (s.ulBuf k).slot = some a → (s.ulBuf k).st = 2 →
      s.windowClose (k / 8) (s.ulBuf k).slot ((maskList 14 a.symbols).foldl max 0) ≤ s.now →
    ∃ t, exec (.ulWindowClose k) s = .next t ∧ t.ulBuf k = { s.ulBuf k with st := 3 }
      ∧ (∀ k' : Nat, k' ≠ k → t.ulBuf k' = s.ulBuf k') ∧ t = { s with ulBufs := t.ulBufs })
  ∧ (∀ (s : State) (k : Fin 8192), (s.ulBuf k).st ≠ 0 → s.ulDeadline (s.bufCarrier k) (s.ulBuf k).slot ≤ s.now →
    ∃ t, exec (.ulReleaseAtDeadline k) s = .next t ∧ (t.ulBuf k).st = 0 ∧ (t.ulBuf k).slot = (s.ulBuf k).slot
      ∧ t.obj .ulReleaseAtDeadline (s.hallOf (s.bufCarrier k))
          = (s.obj .ulReleaseAtDeadline (s.hallOf (s.bufCarrier k)) + 1) % 4294967296
      ∧ (k.val < 6144 → t.armOf (s.bufCarrier k) (s.ulBuf k).slot = none)
      ∧ (∀ k' : Nat, k' ≠ k → t.ulBuf k' = s.ulBuf k')
      ∧ t = { s with objs := t.objs, ulBufs := t.ulBufs, arms := t.arms, llrDone := t.llrDone, harq := t.harq })
  ∧ (∀ (s : State) (h : Fin 16) (r : EngRun), engTakes s h 0 r →
      let c := dCarrier r.desc
      let S := s.descSlot r.desc
      (dOp r.desc = 1 → s.armOk h r.desc = true → s.armOf c S = none →
          ¬((s.ulBuf (s.bufOf c S)).st = 0 ∧ (s.ulBuf (s.bufOf c S)).slot = S) →
        ∃ t, exec (.arm h) s = .next t ∧ t.arms = s.arms ++ [armFields r.desc c S] ∧ t.engRun h 0 = some r ∧ popped s t h 0
          ∧ t = { s with sched := t.sched, engBusy := t.engBusy, arms := t.arms })
      ∧ (dOp r.desc = 2 → s.slotFieldsOk r.desc = true → s.earlierWork h r.stamp c S = false →
          s.holds (s.bufOf c S) S = true → s.storesDue h c S = false → s.dravutOut = [] → replyRoom s h r.desc →
        ∃ t, exec (.ulRelease h) s = .next t ∧ t.ulBuf (s.bufOf c S) = { UlBuf.reset with slot := S } ∧ t.armOf c S = none
          ∧ t.engRun h 0 = none ∧ popped s t h 0 ∧ replied s t h r.desc (s.lateStatus r.desc 0)))
  ∧ (∀ (s : State) (h : Fin 16) (r : EngRun) (a : ArmSt), s.engRun h 0 = some r → dOp r.desc = 1 → replyRoom s h r.desc →
      s.arms.find? (fun a => decide (a.carrier = dCarrier r.desc) && decide (s.sameSlot r.desc (dCarrier r.desc) a.slot)) = some a →
      s.grefReady a = true →
      ((s.ulBuf (s.bufOf a.carrier a.slot)).st = 0 ∨ (s.ulBuf (s.bufOf a.carrier a.slot)).slot = a.slot) →
    ∃ t, exec (.ulGainSet h) s = .next t ∧ (t.ulBuf (s.bufOf a.carrier a.slot)).st = 2
      ∧ (t.ulBuf (s.bufOf a.carrier a.slot)).slot = a.slot ∧ t.engRun h 0 = none ∧ t.arms = s.arms
      ∧ (s.objAt (s.slotStart a.carrier a.slot) .ulGainMode a.carrier = 1 → ∀ n, n < 32 → bitAt a.streams n = true →
          (t.ulBuf (s.bufOf a.carrier a.slot)).gain n = (s.objAt (s.slotStart a.carrier a.slot) .ulGainFixed a.carrier).toNat)
      ∧ replied s t h r.desc (s.lateStatus r.desc 0))

/-- O34. The detection engines. A descriptor whose fields are in range, whose slot is held and armed, and whose symbols can be
read, is done and reported OK, or LATE after its deadline: CHEST records the group and streams of its estimates, DETECT
the LLR regions it wrote; WEIGHTS and FFT need no ARM. OUTER starts its iteration when the prediction of R186 lies before
the limit, else is SKIPPED; at the deadline less the guard it is ABANDONED. UL_ENGINE_DESCRIPTOR does what the row of the
descriptor at the head does (R169 to R189). What real arithmetic leaves open is free (log entry 40), and the rounding of
R186 is the model's reading (log entry 44). -/
def Obligations.DetectionDescriptors : Prop :=
  (∀ (s : State) (h : Fin 16) (r : EngRun), replyRoom s h r.desc →
    let d := r.desc
    let c := dCarrier d
    let S := s.descSlot d
    (engTakes s h 1 r → dOp d = 3 → s.chestOk d = true → s.holds (s.bufOf c S) S = true →
      ∀ a, s.armOf c S = some a → s.symbolReady a (dStreams d) (bits d 283 280) = true →
      ∃ t, exec (.chest h) s = .next t ∧ popped s t h 1 ∧ replied s t h d (s.lateStatus d 0)
        ∧ tabGet 0 t.hBufs (65536 * h + bits d 303 288) = bits d 323 322 + 4 * dStreams d ∧ t.arms = s.arms)
    ∧ (engTakes s h 3 r → dOp d = 4 → s.detectOk h d = true → s.holds (s.bufOf c S) S = true →
      ∀ a, s.armOf c S = some a → (maskList 14 (dSymMask d)).all (s.symbolReady a (dStreams d)) = true →
      ∃ t, exec (.detect h) s = .next t ∧ popped s t h 3 ∧ replied s t h d (s.lateStatus d 0)
        ∧ t.llrDone = s.llrDone ++ (ues d).map (fun f => LlrRegion.mk h a.carrier a.slot (ueLlrOut f) (s.ueLlrLen d f))
        ∧ t.obj .ulDetBacklog h = s.detBacklog h)
    ∧ (engTakes s h 3 r → dOp d = 5 → s.slotFieldsOk d = true → s.holds (s.bufOf c S) S = true →
      let hb := tabGet 0 s.hBufs (65536 * h + bits d 139 128)
      1 ≤ bits d 199 192 → bits d 199 192 ≤ 8 → bits d 173 172 < 3 → 1 ≤ dPrbCount d →
      dPrbStart d + dPrbCount d ≤ s.numPrb c S →
      256 * bits d 139 128 + hBytes (hb % 4) (hb / 4) (dPrbCount d) ≤ 2 ^ 20 →
      256 * bits d 155 140 + groupsOf (hb % 4) (dPrbCount d) * popCount 32 (hb / 4) * bits d 199 192 * 4 ≤ terraceSize →
      ∃ t, exec (.weights h) s = .next t ∧ popped s t h 3 ∧ replied s t h d (s.lateStatus d 0)
        ∧ t.ulBufs = s.ulBufs ∧ t.arms = s.arms ∧ t.freeCtr = s.freeCtr + 1)
    ∧ (engTakes s h 2 r → dOp d = 6 → s.slotFieldsOk d = true → bits d 271 266 ≤ 12 → bits d 265 264 < 2 →
      fftSizeOk (bits d 263 251) = true → dStreams d ≠ 0 → dSymMask d ≠ 0 → dSymMask d < 2 ^ s.symbolsPerSlot c →
      inSlice (bits d 223 200) ((maskList 32 (dStreams d)).length * s.fftOutBytes d) = true →
      inSlice (bits d 199 176) ((maskList 32 (dStreams d)).length * s.fftInBytes d) = true → s.holds (s.bufOf c S) S = true →
      s.shapeFirst h r.stamp = false → s.fftReady d = true →
      ∃ t, exec (.fft h) s = .next t ∧ popped s t h 2 ∧ replied s t h d (s.lateStatus d 0)
        ∧ (t.ulBuf (s.bufOf c S)).slot = S)
    ∧ (engTakes s h 3 r → dOp d = 7 → s.outerOk h d = true → s.holds (s.bufOf c S) S = true →
      ∀ a, s.armOf c S = some a →
      let rate := s.predRate h
      let cyc : Int := s.outerDet h d + s.outerDec h d + s.decBacklog h
      let guard := s.objAt (s.slotStart c S) .ulAbandonGuard c
      let limit := (dDeadline d : Int) - max (s.obj .hallPaceMargin h) guard
      (s.now < dDeadline d - guard → s.now * rate + cyc * 1000000 + 1000 * rate < limit * rate →
        ∃ t, exec (.outer h) s = .next t ∧ popped s t h 3 ∧ t.engRun h 3 = some r
          ∧ t.obj .ulOuterStarted h = (s.obj .ulOuterStarted h + 1) % 4294967296
          ∧ t = { s with objs := t.objs, sched := t.sched, engBusy := t.engBusy })
      ∧ (dDeadline d - guard ≤ s.now → ∃ t, exec (.outer h) s = .next t ∧ popped s t h 3 ∧ t.engRun h 3 = none
          ∧ replied s t h d 5))
    ∧ (s.engRun h 3 = some r →
      (dDeadline d : Int) - s.objAt (s.slotStart c S) .ulAbandonGuard c ≤ s.now →
      ∃ t, exec (.outerAbandon h) s = .next t ∧ t.engRun h 3 = none ∧ replied s t h d 6))
  ∧ (∀ (s : State) (h : Fin 16) (r : EngRun),
      (engTakes s h 0 r → dOp r.desc = 1 →
        ∃ t, exec (.ulEngineDescriptor h 0) s = .next t ∧ exec (.arm h) s = .next t)
      ∧ (engTakes s h 0 r → dOp r.desc = 2 →
        ∃ t, exec (.ulEngineDescriptor h 0) s = .next t ∧ exec (.ulRelease h) s = .next t)
      ∧ (engTakes s h 1 r → dOp r.desc = 3 →
        ∃ t, exec (.ulEngineDescriptor h 1) s = .next t ∧ exec (.chest h) s = .next t)
      ∧ (engTakes s h 2 r → dOp r.desc = 6 →
        ∃ t, exec (.ulEngineDescriptor h 2) s = .next t ∧ exec (.fft h) s = .next t)
      ∧ (engTakes s h 3 r → dOp r.desc = 4 →
        ∃ t, exec (.ulEngineDescriptor h 3) s = .next t ∧ exec (.detect h) s = .next t)
      ∧ (s.engRun h 3 = some r → replyRoom s h r.desc →
        ∃ t, exec (.ulEngineDescriptor h 3) s = .next t ∧ t.engRun h 3 = none
          ∧ replied s t h r.desc (s.lateStatus r.desc 0)))

/-- O35. The coding engines. DEC without WAIT_DET, ENC and HARQ_FREE that pass their checks are done and reported, and the
blocks are counted; a DEC that waits decodes one block at each start and is reported with its last. POLAR and TURBO go to
a free codec of their die while their hall holds the grant, and are reported when that codec completes them. A completed
work whose slot is released is stored: when its transport block passed, its process becomes invalid (R214 to R246). The
tables of 3GPP specifications are free (log entry 40), and the fields of TURBO are the model's choice (log entry 43). -/
def Obligations.CodingDescriptors : Prop :=
  (∀ (s : State) (h : Fin 16) (r : EngRun), replyRoom s h r.desc →
    let d := r.desc
    let c := dCarrier d
    let S := s.descSlot d
    (engTakes s h 4 r → dOp d = 8 → s.decOk d = true → decWait d = false → (decStore d = true → (s.armOf c S).isSome) →
      s.procInUse (decProc d) = false →
      ∃ t, exec (.dec h) s = .next t ∧ popped s t h 4 ∧ replied s t h d (s.lateStatus d 0)
        ∧ t.obj .decBlocks h = (s.obj .decBlocks h + (decSeg d).c) % 4294967296)
    ∧ (engTakes s h 5 r → dOp d = 9 → s.slotFieldsOk d = true → encOk d = true →
      ∃ t, exec (.enc h) s = .next t ∧ popped s t h 5 ∧ replied s t h d (s.lateStatus d 0)
        ∧ t.obj .encBlocks h = (s.obj .encBlocks h + (encSeg d).c) % 4294967296 ∧ t.harq = s.harq)
    ∧ (∀ k : Nat, engTakes s h 7 r → dOp d = 0xA → s.slotFieldsOk d = true → polarOk d = true → s.freeCodec h 7 = some k →
      s.arbHold (sharedArb h 7) = h % 8 →
      ∃ t, exec (.polar h none) s = .next t ∧ popped s t h 7 ∧ t.codec k = some ⟨h, r⟩
        ∧ (∀ k' : Nat, k' ≠ k → t.codec k' = s.codec k') ∧ t.arbHold (sharedArb h 7) = 255 ∧ t.mem = s.mem
        ∧ s.sameObjsBut t [(.arbPointer, sharedArb h 7), (.arbHolder, sharedArb h 7), (.arbState, sharedArb h 7)])
    ∧ (∀ k : Nat, engTakes s h 8 r → dOp d = 0xB → s.turboOk d = true → s.freeCodec h 8 = some k →
      s.arbHold (sharedArb h 8) = h % 8 →
      (bitAt d 366 = true → s.procInUse (decProc d) = false ∧ (decStore d = true → (s.armOf c S).isSome)) →
      ∃ t, exec (.turbo h false) s = .next t ∧ popped s t h 8 ∧ t.codec k = some ⟨h, r⟩
        ∧ t.arbHold (sharedArb h 8) = 255
        ∧ (bitAt d 366 = true → (t.workOf h d).isSome))
    ∧ (engTakes s h 6 r → dOp d = 0xC → bits d 215 212 = 1 →
      ((bits d 255 236 + bits d 235 216 + 1 : Nat) : Int) ≤ s.obj .harqProcCount 0 →
      (∀ w ∈ s.harq, bits d 255 236 ≤ decProc w.desc → decProc w.desc ≤ bits d 255 236 + bits d 235 216 →
        s.procInUse (decProc w.desc) = false) →
      ∃ t, exec (.harqFree h) s = .next t ∧ popped s t h 6 ∧ replied s t h d (s.lateStatus d 0)))
  ∧ (∀ (s : State) (h g : Fin 16) (r : EngRun) (j : Fin 2), s.codec (2 * (h / 8) + j) = some ⟨g, r⟩ →
      (s.unit (unitBlock (h / 8))).st = unitRunning → replyRoom s g r.desc →
      ∃ t, exec (.polar h (some j)) s = .next t ∧ t.codec (2 * (h / 8) + j) = none
        ∧ replied s t g r.desc (s.lateStatus r.desc 0)
        ∧ (bitAt r.desc 431 = false → t.obj .polarEncoded (g / 8) = (s.obj .polarEncoded (g / 8) + 1) % 4294967296)
        ∧ (bitAt r.desc 431 = true → t.obj .polarDecoded (g / 8) = (s.obj .polarDecoded (g / 8) + 1) % 4294967296))
  ∧ (∀ (s : State) (h g : Fin 16) (r : EngRun), s.codec (4 + h / 8) = some ⟨g, r⟩ →
      (s.unit (unitBlock (h / 8))).st = unitRunning → replyRoom s g r.desc →
      (bitAt r.desc 366 = true → (s.workOf g r.desc).isSome) →
      ∃ t, exec (.turbo h true) s = .next t ∧ t.codec (4 + h / 8) = none
        ∧ replied s t g r.desc (s.lateStatus r.desc 0))
  ∧ (∀ (s : State) (h : Fin 16) (r : EngRun) (w : HarqWork), s.engRun h 4 = some r → s.workOf h r.desc = some w → w.kind = 0 →
      s.blockReady w = true →
      (w.passed.length + 1 < (decSeg r.desc).c →
        ∃ t, exec (.decBlockStart h) s = .next t ∧ t.engRun h 4 = some r
          ∧ t.obj .decBlocks h = (s.obj .decBlocks h + 1) % 4294967296
          ∧ ∃ w', t.workOf h r.desc = some w' ∧ w'.passed.length = w.passed.length + 1)
      ∧ (w.passed.length + 1 = (decSeg r.desc).c → replyRoom s h r.desc →
        ∃ t, exec (.decBlockStart h) s = .next t ∧ t.engRun h 4 = none
          ∧ t.obj .decBlocks h = (s.obj .decBlocks h + 1) % 4294967296
          ∧ replied s t h r.desc (s.lateStatus r.desc 0)))
  ∧ (∀ (s : State) (h : Fin 16) (bad : List Nat) (w : HarqWork),
      s.harq.find? (fun w => decide (w.hall = h.val) && w.complete && w.released && decStore w.desc) = some w →
      s.engRun h 0 = none →
    ∃ t, exec (.harqStore h bad) s = .next t ∧ w ∉ t.harq
      ∧ (w.passed.all id = true → w.tbOk = true →
          ¬(bitAt (s.commitWord (decProc w.desc)) 63 = true
            ∧ bits (s.commitWord (decProc w.desc)) 61 34 = tagOf w.desc) →
          bitAt (t.commitWord (decProc w.desc)) 63 = false))

/-- O36. Every repetition that is complete is evaluated, in its attempt. A preamble with no reception open, before the attempt's last
repetition: a highest metric at or above the threshold opens its reception at that bin, a lower one opens none (R199 to R202). -/
def Obligations.PreambleDetectionOpensReception : Prop :=
  ∀ (s : State) (p : Fin 256) (S : Int) (rep : Nat) (prof : PraProfile),
    let x := s.praCfg p
    let e := s.praEntry p
    pcUsed x = true → (s.unit (unitBlock (pcCorr x / 2))).st = unitRunning → s.hasUlJob 1 (pcCarrier x) S = true →
    s.praNext p S rep = true → s.praReady p S rep = true →
    ∃ t, exec (.praEvaluation p S rep prof) s = .next t
      ∧ (t.praEntry p).last = some (S, rep) ∧ (t.praEntry p).att = some (s.praAttempt p S)
      ∧ (t.praEntry p).acc.length = (if e.att = some (s.praAttempt p S) then e.acc.length else 0) + 1
      ∧ (rep + 1 < praReps x → t.praNext p S (rep + 1) = true)
      ∧ (∀ (pre q : Nat) (m : Int), pre < pcNpre x → (∀ y ∈ e.rx, y.1 ≠ pre) →
          s.praPlace p S * praReps x + rep + 1 ≠ praReps x * pcReps x →
          bestBin (fun _ => true) ((evalMetrics s p S rep prof).getD pre []) = some (q, m) →
          ((s.pcThreshold x : Int) ≤ m → ∃ y ∈ (t.praEntry p).rx, y.1 = pre ∧ y.2.bin = q ∧ y.2.metric = m)
          ∧ (m < (s.pcThreshold x : Int) → ∀ y ∈ (t.praEntry p).rx, y.1 ≠ pre))

/-- O37. A build release comes once its time has come, and the slot's job waits for none any more; its message enters the
carrier's build queue. A BUILD or SHAPE in range is done and reported, the symbols built marked and the mapped streams'
carry as the slot's. The tail of a slot without SHAPE goes out alone, once. A write of `TD_MASK_UNMUTE` returns every
stream to NORMAL (R151, R152, R250, R261, R263 to R269). The size of a BUILD's grid is the model's reading (log entry 46). -/
def Obligations.DownlinkWork : Prop :=
  (∀ (s : State) (c : Fin 768) (S : Int),
    let T := s.slotStart c S
    let h := s.hallAt T c
    let q := 256 * h + (s.objAt T .carrierBuildQueue c).toNat
    h ≠ 255 → s.dlJobs.contains (c.val, S) = true → s.obj .pairRole 0 ≠ 2 → T - s.objAt T .carrierBuildOffset c ≤ s.now →
    ∃ t, exec (.carrierBuildRelease c S) s = .next t ∧ t.dlJobs = s.dlJobs.filter (fun p => decide (p ≠ (c.val, S)))
      ∧ (h < 16 → s.objAt T .carrierBuildQueue c < 240 → (s.sch h).held = [] → (s.queue q).enabled = true →
          (s.queue q).recv = [] → (s.queue q).send = [] → (s.queue q).count < (s.queue q).depth →
          bitAt (s.queue q).setting 14 = false → s.obj .schTraceSize h = 0 →
          t.queue q = { s.queue q with count := (s.queue q).count + 1 }
          ∧ t.memNat (terraceBase h + (s.queue q).ring + 16 * (((s.queue q).head + (s.queue q).count) % (s.queue q).depth)) 16
              = s.buildReleaseMsg c S false))
  ∧ (∀ (s : State) (h : Fin 16) (r : EngRun), replyRoom s h r.desc →
    let d := r.desc
    let c := dCarrier d
    let S := s.descSlot d
    (engTakes s h 9 r → dOp d = 0xD → s.buildOk h d = true → (bdTd d = true ∨ (s.fs c).used = 0) →
      ∃ t, exec (.build h) s = .next t ∧ popped s t h 9 ∧ replied s t h d (s.lateStatus d 0)
        ∧ (bdTd d = true → t.dlSlot c S = s.dlSlot c S)
        ∧ (bdTd d = false → ∃ x, t.dlSlot c S = some x ∧ ∀ k, k < 14 → bitAt (bdSyms d) k = true →
            s.now < s.symbolStart c S k - s.objAt (s.slotStart c S) .dlUpWinClose c → k < x.next))
    ∧ (engTakes s h 10 r → dOp d = 0xE → s.shapeOk d = true → s.fftFirst h r.stamp = false → (s.fs c).used = 0 →
      ∃ t, exec (.shape h) s = .next t ∧ popped s t h 10 ∧ replied s t h d (s.lateStatus d 0)
        ∧ (∀ n, n < spStreams d → (s.txEntry c n S).isSome → (t.tdSt c n).carry = some S ∧ S ∈ (t.tdSt c n).shaped)))
  ∧ (∀ (s : State) (c : Fin 768) (S : Int) (n x : Nat),
    let T := s.slotStart c S
    let h := s.hallAt T c
    (n, x) ∈ s.tdStreams c S → S ∉ (s.tdSt c n).shaped → S ∉ (s.tdSt c n).alone →
    T - (s.tdSt c n).leadNs - s.objAt T .tdAdvance c - s.objAt T .dlHandoverGuard c ≤ s.now →
    ∃ t, exec (.tdTailAlone c S) s = .next t ∧ S ∈ (t.tdSt c n).alone
      ∧ t.obj .tdTailAlone h = (s.obj .tdTailAlone h + 1) % 4294967296
      ∧ exec (.tdTailAlone c S) t = .next t)
  ∧ (∀ (s : State) (a : Accessor) (c : Fin 768) (v : Nat), s.writable a .tdMaskUnmute c v →
    ∃ t, exec (.tdMaskUnmute a c v) s = .next t
      ∧ (∀ n, n < 8 → t.tdSt c n = { s.tdSt c n with mask := 0, fails := 0, passes := 0 })
      ∧ t.obj .tdMaskState c = 0
      ∧ t = { s with objs := t.objs, td := t.td, unacked := t.unacked }
      ∧ s.sameObjsBut t ((.tdMaskState, c.val) :: lodgeObjs a))

/-- O38. The five operations of the context store. Each takes its descriptor. On a key found in its first bucket: LOOKUP
copies the quarters of QMASK; UPDATE under no condition, or one that holds, gives it the next SEQ, else answers
SEQ_MISMATCH; TOUCH sets its LAST_TOUCH; DELETE clears the way and frees the entry; INSERT answers EXISTS. On an absent
key: INSERT gives it the next entry and SEQ and puts its way into a free way of the first bucket, or answers FULL; the
others answer NOT_FOUND (R275 to R284). Which words an operation reads is the model's reading (log entry 48). -/
def Obligations.ContextStoreOperations : Prop :=
  ∀ (s : State) (h : Fin 16) (r : EngRun) (cmd : Nat), ctxTakes s h r cmd →
    let d := r.desc
    let b := s.ctxH1 (cxKey d)
    let ok := s.lateStatus d 0
    let absent := s.findWay b (cxKey d) = none ∧ s.findStash (cxKey d) = none ∧ s.findWay (s.ctxH2 (cxKey d)) (cxKey d) = none
    (cmd = 1 → ∃ t, exec (.insert h) s = .next t ∧ popped s t h 11 ∧ (ctxQuiet s h r →
      (absent → s.obj .ctxUsed 0 < s.obj .ctxEntries 0 → s.ctx.stack = 0 → ∀ w, s.freeWay b = some w →
        replied s t h d ok ∧ t.way b w = wayOf (cxKey d) (s.objN .ctxSeqNext 0) false s.ctx.high
        ∧ t.ctx.high = s.ctx.high + 1 ∧ t.obj .ctxUsed 0 = s.obj .ctxUsed 0 + 1
        ∧ t.obj .ctxSeqNext 0 = (s.obj .ctxSeqNext 0 + 1) % 4294967296
        ∧ t.obj .ctxInserts 0 = (s.obj .ctxInserts 0 + 1) % 4294967296)
      ∧ (absent → (s.objN .ctxEntries 0 : Int) ≤ s.objN .ctxUsed 0 →
        ctxReplied s t h d 0xB .ctxFull ∧ (∀ b' w', t.way b' w' = s.way b' w'))
      ∧ ((s.findWay b (cxKey d)).isSome → ctxReplied s t h d 9 .ctxExists ∧ (∀ b' w', t.way b' w' = s.way b' w'))))
    ∧ (cmd = 0 → ∃ t, exec (.lookup h) s = .next t ∧ popped s t h 11
      ∧ t.obj .ctxLookups 0 = (s.obj .ctxLookups 0 + 1) % 4294967296
      ∧ (ctxQuiet s h r → (∀ b' w', t.way b' w' = s.way b' w') ∧ (absent → ctxReplied s t h d 8 .ctxNotFound)
        ∧ (∀ w, s.findWay b (cxKey d) = some w → replied s t h d ok
          ∧ (0x20000 ≤ cxBuf d → (s.queue (256 * h + dReply d)).ring + 16 * (s.queue (256 * h + dReply d)).depth ≤ cxBuf d →
              ∀ q j, q ∈ quarters d → j < 64 →
                t.byteAt (terraceBase h + cxBuf d + 64 * q + j) = s.byteAt (s.entryAddr (wayEntry (s.way b w)) + 64 * q + j)))))
    ∧ (cmd = 2 → ∃ t, exec (.update h) s = .next t ∧ popped s t h 11
      ∧ (ctxQuiet s h r → (absent → ctxReplied s t h d 8 .ctxNotFound)
        ∧ (∀ w, s.findWay b (cxKey d) = some w →
          (condFails d (s.way b w) = true → ctxReplied s t h d 0xA .ctxSeqMismatch ∧ t.way b w = s.way b w)
          ∧ (condFails d (s.way b w) = false → replied s t h d ok
            ∧ waySeq (t.way b w) = s.objN .ctxSeqNext 0 ∧ wayKey (t.way b w) = cxKey d
            ∧ wayEntry (t.way b w) = wayEntry (s.way b w)
            ∧ t.obj .ctxSeqNext 0 = (s.obj .ctxSeqNext 0 + 1) % 4294967296
            ∧ t.obj .ctxUpdates 0 = (s.obj .ctxUpdates 0 + 1) % 4294967296 ∧ t.obj .ctxUsed 0 = s.obj .ctxUsed 0))))
    ∧ (cmd = 4 → ∃ t, exec (.touch h) s = .next t ∧ popped s t h 11
      ∧ (ctxQuiet s h r → (absent → ctxReplied s t h d 8 .ctxNotFound)
        ∧ (∀ w, s.findWay b (cxKey d) = some w → -(2 ^ 63) ≤ s.now → s.now < 2 ^ 63 → replied s t h d ok
          ∧ t.lastTouch (wayEntry (s.way b w)) = s.now ∧ t.way b w = s.way b w
          ∧ t.obj .ctxTouches 0 = (s.obj .ctxTouches 0 + 1) % 4294967296
          ∧ t.obj .ctxSeqNext 0 = s.obj .ctxSeqNext 0)))
    ∧ (cmd = 3 → ∃ t, exec (.delete h) s = .next t ∧ popped s t h 11
      ∧ (ctxQuiet s h r → (absent → ctxReplied s t h d 8 .ctxNotFound)
        ∧ (∀ w, s.findWay b (cxKey d) = some w →
          (condFails d (s.way b w) = true → ctxReplied s t h d 0xA .ctxSeqMismatch ∧ t.way b w = s.way b w)
          ∧ (condFails d (s.way b w) = false → s.ctx.stash = [] → replied s t h d ok
            ∧ wayValid (t.way b w) = false ∧ t.ctx.stack = s.ctx.stack + 1
            ∧ t.memNat (s.stackAddr s.ctx.stack) 4 = wayEntry (s.way b w)
            ∧ t.obj .ctxUsed 0 = s.obj .ctxUsed 0 - 1
            ∧ t.obj .ctxDeletes 0 = (s.obj .ctxDeletes 0 + 1) % 4294967296))))

/-- O39. A write of `CTX_ENABLE` that the Lodge takes sets it; taken from 0 with another configuration than before, the store
starts empty and is cleared, which ends with its bucket array zero; `CTX_BASE` outside DDR is refused with STATE. The
sweep visits one bucket and expires a way idle too long; outside a pair the batch of TOUCHes is dropped (R274, R288, R289,
R591). That a base outside DDR is refused follows R320 (log entry 82). -/
def Obligations.ContextStoreUpkeep : Prop :=
  (∀ (s : State) (a : Accessor) (v : Nat), s.writable a .ctxEnable 0 v →
    (v = 0 ∨ s.ctxBaseOk = true →
      ∃ t, exec (.ctxEnableWrite a v) s = .next t ∧ t.obj .ctxEnable 0 = v
        ∧ (v ≠ 0 → s.obj .ctxEnable 0 = 0 → s.ctx.last ≠ some s.ctxConfig →
            t.ctx.clearing = true ∧ t.ctx.high = 0 ∧ t.ctx.stack = 0 ∧ t.ctx.stash = [] ∧ t.ctx.last = some s.ctxConfig
            ∧ t.obj .ctxUsed 0 = 0 ∧ t.obj .ctxStashUsed 0 = 0)
        ∧ (v ≠ 0 → (s.obj .ctxEnable 0 ≠ 0 ∨ s.ctx.last = some s.ctxConfig) → t.ctx = s.ctx)
        ∧ (v = 0 → s.obj .ctxEnable 0 ≠ 0 → t.ctx = { s.ctx with last := some s.ctxConfig })
        ∧ t = { s with objs := t.objs, ctx := t.ctx, unacked := t.unacked }
        ∧ s.sameObjsBut t ([(.ctxEnable, 0), (.ctxUsed, 0), (.ctxStashUsed, 0)] ++ lodgeObjs a))
    ∧ (v ≠ 0 → s.ctxBaseOk = false →
      ∃ t, exec (.ctxEnableWrite a v) s = .next t ∧ t.obj .ctxEnable 0 = s.obj .ctxEnable 0 ∧ t.ctx = s.ctx
        ∧ t.obj .dictLastStatus (accessorNo a) = lastStatusWord .state (objAddr .ctxEnable 0)))
  ∧ (∀ s : State, s.ctx.clearing = true → s.ctxWaiting = [] →
    ∃ t, exec .ctxClearDone s = .next t ∧ t.ctx = { s.ctx with clearing := false } ∧ t.objs = s.objs
      ∧ (∀ base entries seed, s.ctx.last = some (base, entries, seed) →
          ∀ a, t.byteAt a = (if base.toNat ≤ a ∧ a < base.toNat + 64 * (entries.toNat / 2) then 0 else s.byteAt a))
      ∧ (s.mirroring = false → t = { s with mem := t.mem, upsets := t.upsets, ctx := t.ctx }))
  ∧ (∀ s : State, s.obj .ctxEnable 0 ≠ 0 → s.ctx.clearing = false → s.obj .ctxIdleExpire 0 ≠ 0 → s.upsets = [] →
    let b := s.ctx.sweep % s.ctxBuckets
    ∃ t, exec .ctxSweepBucket s = .next t ∧ t.ctx.sweep = (b + 1) % s.ctxBuckets
      ∧ ((∀ w, w < 4 → wayValid (s.way b w) = false) →
          t = { s with objs := t.objs, ctx := { s.ctx with sweep := (b + 1) % s.ctxBuckets } }
          ∧ s.sameObjsBut t ((List.range 8).map (fun c => (.ddrUnwrittenReads, 16 + c))))
      ∧ (s.mirroring = false → ddrBase ≤ s.objN .ctxBase 0 → 2 ≤ s.objN .ctxEntries 0 → s.objN .ctxEntries 0 ≤ 2 ^ 25 →
          s.obj .relJournalBase 0 = 0 →
          wayValid (s.way b 0) = true → (∀ w, 0 < w → w < 4 → wayValid (s.way b w) = false) → s.ctx.stash = [] →
          s.lastTouch (wayEntry (s.way b 0)) + s.obj .ctxIdleExpire 0 * 1000000000 < s.now →
          wayValid (t.way b 0) = false
          ∧ t.obj .ctxExpired 0 = (s.obj .ctxExpired 0 + 1) % 4294967296
          ∧ t.obj .ctxDeletes 0 = (s.obj .ctxDeletes 0 + 1) % 4294967296
          ∧ t.obj .ctxUsed 0 = s.obj .ctxUsed 0 - 1 ∧ t.ctx.stack = s.ctx.stack + 1))
  ∧ (∀ s : State, ∃ t, exec .ctxTouchMirrorBatch s = .next t ∧ t.ctx = { s.ctx with touched := [] }
      ∧ t.mem = s.mem ∧ t.objs = s.objs
      ∧ (s.mirroring = false → t = { s with ctx := { s.ctx with touched := [] } })
      ∧ (s.mirroring = true → t.dravutOut.length = s.dravutOut.length + s.ctx.touched.length))

/-- O40. Arbitration and the Gallery. A round among requests grants an input of age 15 before any other, else one whose base
plus age no other's exceeds; the pointer goes behind it, its age becomes 0, each loser ages by one up to 15 and stays
held; without a request no input holds the grant. A freeze mask or a base within the arbiter's inputs is in force at once.
A packet that may leave takes its credit and stands in its first buffer; a flit slot moves a flit of a packet that
crosses; a WRITE at the head of a hall's ingress stores its bytes and is answered OK; a held message enters its queue once
it has room (R295 to R310). The ports of a router and the layout of MSG are the model's choice (log entries 49 and 106). -/
def Obligations.ArbitersAndGallery : Prop :=
  (∀ (s : State) (k : Fin 573) (req : Nat) (mid : Bool), s.arbDue k = true →
    let n := arbN k
    let asserted := roundMask s k req mid
    let wants (i : Nat) : Prop := i < n ∧ bitAt asserted i = true ∧ bitAt (s.arbFrozen k) i = false
    let age (i : Nat) := tabGet 0 (s.arb k).ages i
    ((∃ i, wants i) → ∃ t, exec (.arbRound k req mid) s = .next t
      ∧ t.arbPtr k = (t.arbHold k + 1) % n ∧ wants (t.arbHold k)
      ∧ ((∃ i, wants i ∧ 15 ≤ age i) → 15 ≤ age (t.arbHold k))
      ∧ ((∀ i, wants i → age i < 15) → ∀ i, wants i → s.arbBaseOf k i + age i ≤ s.arbBaseOf k (t.arbHold k) + age (t.arbHold k))
      ∧ tabGet 0 (t.arb k).ages (t.arbHold k) = 0
      ∧ (∀ i, wants i → i ≠ t.arbHold k → tabGet 0 (t.arb k).ages i = min 15 (age i + 1))
      ∧ (∀ i, ¬wants i → tabGet 0 (t.arb k).ages i = age i)
      ∧ (∀ i, i < n → (bitAt (t.arb k).pend i = true ↔ bitAt asserted i = true ∧ i ≠ t.arbHold k))
      ∧ (k.val < 253 → t.obj .arbGrants k = (s.obj .arbGrants k + 1) % 4294967296)
      ∧ (k.val < 253 → t.gal = s.gal)
      ∧ t = { s with objs := t.objs, arbs := t.arbs, gal := t.gal })
    ∧ ((∀ i, ¬wants i) → ∃ t, exec (.arbRound k req mid) s = .next t ∧ t.arbHold k = 255 ∧ t.arbPtr k = s.arbPtr k
      ∧ (t.arb k).ages = (s.arb k).ages ∧ t = { s with objs := t.objs, arbs := t.arbs }))
  ∧ (∀ (s : State) (a : Accessor) (k : Fin 253) (v : Nat), s.writable a .arbFreeze k v → v < 2 ^ arbN k →
    ∃ t, exec (.arbFreezeWrite a k v) s = .next t ∧ t.obj .arbFreeze k = v
      ∧ ((s.arb k).repair = false → t.obj .arbState k
          = (if v = 0 then 0 else if s.objN .arbHolder k < 32 ∧ bitAt v (s.objN .arbHolder k) = true then 1 else 2))
      ∧ t = { s with objs := t.objs, unacked := t.unacked }
      ∧ s.sameObjsBut t ([(.arbFreeze, k.val), (.arbState, k.val)] ++ lodgeObjs a))
  ∧ (∀ (s : State) (a : Accessor) (k : Fin 253) (i : Fin 32) (v : Nat), s.writable a .arbBase (32 * k + i) v → i.val < arbN k →
    ∃ t, exec (.arbBaseWrite a k i v) s = .next t ∧ t.arbBaseOf k i = v ∧ t.arb k = s.arb k
      ∧ t = { s with objs := t.objs, unacked := t.unacked }
      ∧ s.sameObjsBut t ((.arbBase, 32 * k.val + i.val) :: lodgeObjs a))
  ∧ (∀ (s : State) (p : GalPacket), s.mayLeave p = true →
      let h := p.header
      ∃ t, exec (.galleryPacketDelivery (.leave p)) s = .next t
        ∧ (takesCredit h = true → tabGet 0 t.gal.used (galCreditKey h) = tabGet 0 s.gal.used (galCreditKey h) + gpFlits p)
        ∧ (∀ n i, galEntry h = some (n, i) → t.galBuf n i (gpClass h) = s.galBuf n i (gpClass h) ++ [p])
        ∧ (galEntry h = none → t.galIngress (gpDstNode h) = s.galIngress (gpDstNode h) ++ [p])
        ∧ t.gal.links = s.gal.links ∧ t = { s with gal := t.gal })
  ∧ (∀ (s : State) (n o c i k : Nat) (p : GalPacket) (rest : List GalPacket), slotClass (s.galLink n o) = some c →
      (s.galLink n o).moving.find? (fun q => decide (q.1 = c)) = some (c, i, k) → s.galBuf n i c = p :: rest →
      ∃ t, exec (.galleryPacketDelivery (.slot n o)) s = .next t
        ∧ t.obj (galFlits c) n = (s.obj (galFlits c) n + 1) % 4294967296
        ∧ (1 < k → t.galBuf n i c = s.galBuf n i c ∧ t.galIngress n = s.galIngress n ∧ (c, i, k - 1) ∈ (t.galLink n o).moving)
        ∧ (k ≤ 1 → (∀ m j, galNext n o = some (m, j) → galBufKey m j c ≠ galBufKey n i c →
              t.galBuf n i c = rest ∧ t.galBuf m j c = s.galBuf m j c ++ [p])
            ∧ (galNext n o = none → t.galBuf n i c = rest
                ∧ let d := if o = 0 then n else gpDstNode p.header
                  t.galIngress d = s.galIngress d ++ [p]))
        ∧ t = { s with objs := t.objs, arbs := t.arbs, gal := t.gal })
  ∧ (∀ (s : State) (node j : Nat) (p : GalPacket), (s.galIngress node)[j]? = some p → galFirst (s.galIngress node) j p = true →
      s.ddrServes p = true →
      let h := p.header
      let a := gpAddr h
      let n := gpAux h % 256 + 1
      let l := slice 0 n (if gpLen h = 0 then leBytes 16 (gpInline h) else p.data)
      ∃ t, exec (.galleryPacketDelivery (.reach node j)) s = .next t ∧ t.galIngress node = (s.galIngress node).eraseIdx j
        ∧ (gpOpcode h = 2 → p.errs = [] → gpPoison h = false → gpLen h ≤ 8 → gpDstNode h < 16 → gpDstEp h = 0 →
            (s.unit (unitHall (gpDstNode h))).st = unitRunning →
            epochOlder 16 (tabGet 0 s.galEpochs
              ((64 * gpDstNode h + gpDstEp h) * 512 + unitOfEndpoint (gpSrcNode h) (gpSrcEp h) p.part)) (gpEpoch h) = false →
            s.targetHolds (gpSrcNode h) (gpDstNode h) (gpDstEp h) a n = true → s.mayWrite (gpSrcNode h) (gpSrcEp h) a n = true →
            s.upsets = [] →
            (∀ j, j < n → t.byteAt (a + j) = l.getD j 0)
            ∧ (∀ x, ¬(a ≤ x ∧ x < a + n) → t.byteAt x = s.byteAt x)
            ∧ t.outbox = gpResponse h 9 (s.unit (unitHall (gpDstNode h))).epoch 0 false [] :: s.outbox))
  ∧ (∀ (s : State) (h : Fin 16) (x : HeldMsg), s.firstHeld (s.sch h).held [] = some x → s.stairDone = [] →
    ∃ t, exec (.galleryHoldRelease h) s = .next t ∧ (t.sch h).held.length < (s.sch h).held.length
      ∧ ((s.sch h).held = [x] → x.queue / 256 = h.val → (s.queue x.queue).enabled = true → (s.queue x.queue).recv = [] →
          (s.queue x.queue).send = [] → (s.queue x.queue).count < (s.queue x.queue).depth →
          bitAt (s.queue x.queue).setting 14 = false →
          (t.sch h).held = [] ∧ t.queue x.queue = { s.queue x.queue with count := (s.queue x.queue).count + 1 }
          ∧ t.memNat (terraceBase h + (s.queue x.queue).ring
              + 16 * (((s.queue x.queue).head + (s.queue x.queue).count) % (s.queue x.queue).depth)) 16 = x.msg % 2 ^ 128))

/-- O41. R324: a word is corrected if it differs from a codeword in at most two bits, and it is reported uncorrectable if it
differs in three; no pattern of three bits is ever miscorrected. A pattern is the exclusive-or of the word read and the
codeword. -/
def Obligations.EccCorrectsTwoDetectsThree : Prop :=
  eccDecode 0 = .clean
  ∧ (∀ i, i < 80 → eccDecode (2 ^ i) = .corrected [i] ∧ residual (2 ^ i) = 0)
  ∧ (∀ i j, i < j → j < 80 →
      (eccDecode (2 ^ i + 2 ^ j) = .corrected [i, j] ∨ eccDecode (2 ^ i + 2 ^ j) = .corrected [j, i]) ∧ residual (2 ^ i + 2 ^ j) = 0)
  ∧ (∀ i j k, i < j → j < k → k < 80 → eccDecode (2 ^ i + 2 ^ j + 2 ^ k) = .uncorrectable)

/-- O42. Reads and fills. A demand read, of a place that serves reads, delivers the stored data of a clean word, the corrected
data of a correctable one, counted, with the stored copy as it was, and poison for an uncorrectable one, counted; a line
above the front in no filled block reads zero, counted. A write to such a line fills its block first. The zero sweep moves
the front on by a line, or past a filled block (R325, R327, R328). The order of the fields of a channel's address is the
model's reading (log entry 15). -/
def Obligations.DemandReadsAndFills : Prop :=
  (∀ (s : State) (l : MemLoc) (up : Nat), s.servesRead l = true →
    (s.unwrittenRead l = true →
      ∃ t, exec (.demandRead l up) s = .next t ∧ t.outbox = .memData l 0 false :: s.outbox
        ∧ t.obj .ddrUnwrittenReads (ctrlOf l) = (s.obj .ddrUnwrittenReads (ctrlOf l) + 1) % 4294967296
        ∧ t = { s with objs := t.objs, outbox := t.outbox })
    ∧ (s.unwrittenRead l = false → let w := s.upset l ^^^ (up % 2 ^ 80)
      (w = 0 → ∃ t, exec (.demandRead l up) s = .next t ∧ t.outbox = .memData l (s.wordData l) false :: s.outbox
        ∧ t.upset l = 0 ∧ t = { s with upsets := t.upsets, outbox := t.outbox })
      ∧ (∀ bs, eccDecode w = .corrected bs →
        ∃ t, exec (.demandRead l up) s = .next t ∧ t.outbox = .memData l (s.wordData l ^^^ residual w) false :: s.outbox
          ∧ t.upset l = w ∧ t.mem = s.mem ∧ t.coreMem = s.coreMem
          ∧ t.obj .eccCorrected (ctrlOf l) = (s.obj .eccCorrected (ctrlOf l) + 1) % 4294967296)
      ∧ (eccDecode w = .uncorrectable →
        ∃ t, exec (.demandRead l up) s = .next t ∧ (∃ d : Nat, t.outbox = .memData l d true :: s.outbox) ∧ t.upset l = w
          ∧ t.mem = s.mem ∧ t.coreMem = s.coreMem
          ∧ t.obj .eccUncorr (ctrlOf l) = (s.obj .eccUncorr (ctrlOf l) + 1) % 4294967296)))
  ∧ (∀ (s : State) (a : Nat) (data : List Byte), s.inDdr a data.length = true → data ≠ [] →
      s.unfilled (ddrChannel a) (ddrLocal a) = true →
    ∃ t, exec (.ddrBlockFill a data) s = .next t
      ∧ t.unfilled (ddrChannel a) (ddrLocal a) = false
      ∧ (a % 64 + data.length ≤ 64 →
          t.obj .ddrFillBlocks (16 + ddrChannel a) = (s.obj .ddrFillBlocks (16 + ddrChannel a) + 1) % 4294967296)
      ∧ (∀ j, j < data.length → t.byteAt (a + j) = data.getD j 0)
      ∧ (∀ x, ¬(a ≤ x ∧ x < a + data.length) → t.byteAt x = s.byteAt x))
  ∧ (∀ (s : State) (c : Fin 8), s.obj .ddrState c = ddrReady → s.objN .ddrSweepFront c < s.objN .ddrCapacity c * 1048576 →
    let f := s.objN .ddrSweepFront c
    ((s.ddrCh c).filled.contains (f / 1048576) = true →
      ∃ t, exec (.zeroSweepLine c) s = .next t
        ∧ t.obj .ddrSweepFront c = ((min (s.objN .ddrCapacity c * 1048576) ((f / 1048576 + 1) * 1048576) : Nat) : Int)
        ∧ t = { s with objs := t.objs } ∧ s.sameObjsBut t [(.ddrSweepFront, c.val)])
    ∧ ((s.ddrCh c).filled.contains (f / 1048576) = false →
      ∃ t, exec (.zeroSweepLine c) s = .next t ∧ t.obj .ddrSweepFront c = ((f + 64 : Nat) : Int)
        ∧ (∀ j, j < 64 → t.byteAt (ddrGlobal c f + j) = 0)
        ∧ (∀ x, ¬(ddrGlobal c f ≤ x ∧ x < ddrGlobal c f + 64) → t.byteAt x = s.byteAt x)
        ∧ t = { s with objs := t.objs, mem := t.mem } ∧ s.sameObjsBut t [(.ddrSweepFront, c.val)]))

/-- O43. Scrubbing and sweeping. While its lap counts, a scrubber reads a line, whose correctable words are clean afterwards,
and its position moves on; the last line ends the lap, which is counted and published. A queued entry's line is rewritten,
and a HOT entry becomes REWRITTEN. A lap that is late is counted once, with an event. A sweep zeroes the memory of its
unit, and frees the log entries but LASTING ones without repair (R326, R331, R333, R337, R339). The order of a lap is the
model's choice (log entry 17). -/
def Obligations.ScrubbingAndSweeps : Prop :=
  (∀ (s : State) (m : Fin 26) (up : Upsets), s.lapCounts m = true →
    let pos := s.objN .scrubPos m
    (pos < s.scrubEnd m → ∃ t, exec (.scrubLine m up) s = .next t
      ∧ (∀ k bs, k < 8 → eccDecode (s.upset (scrubPlace m (pos + 8 * k)) ^^^ lineFlips up k) = .corrected bs →
          t.upset (scrubPlace m (pos + 8 * k)) = 0)
      ∧ (pos + 64 < s.scrubEnd m → t.obj .scrubPos m = ((pos + 64 : Nat) : Int) ∧ t.obj .scrubLaps m = s.obj .scrubLaps m
          ∧ t.lapAge m = s.lapAge m)
      ∧ (s.scrubEnd m ≤ pos + 64 → t.obj .scrubPos m = 0 ∧ t.obj .scrubLapTime m = s.lapAge m ∧ t.lapAge m = 0
          ∧ t.obj .scrubLaps m = (s.obj .scrubLaps m + 1) % 4294967296))
    ∧ (s.scrubEnd m ≤ pos → ∃ t, exec (.scrubLine m up) s = .next t
      ∧ t.obj .scrubPos m = 0 ∧ t.obj .scrubLapTime m = s.lapAge m ∧ t.obj .scrubLaps m = (s.obj .scrubLaps m + 1) % 4294967296
      ∧ t = { s with objs := t.objs, scrub := t.scrub, scrubLated := t.scrubLated }))
  ∧ (∀ (s : State) (m : Fin 26) (i : Nat) (up : Upsets), i < 64 →
      s.hotQueue.find? (fun k => decide (k / 64 = m.val)) = some (64 * m + i) →
      let e := s.logEntry m i
    ∃ t, exec (.scrubHotRewrite m up) s = .next t
      ∧ (∀ k bs, k < 8 → eccDecode (s.upset (entryPlace m e k) ^^^ lineFlips up k) = .corrected bs →
          t.upset (entryPlace m e k) = 0)
      ∧ (up = [] → s.upsets = [] → e.st = 2 → ctrlOf (entryPlace m e (e.addr / 8 % 8)) = m.val →
          s.findLog m (logPlace (entryPlace m e (e.addr / 8 % 8))) 64 0 = some i →
          t.logEntry m i = { e with st := 3, count := 0, winStart := s.nowMs } ∧ 64 * m.val + i ∉ t.hotQueue
          ∧ t = { s with objs := t.objs, upsets := t.upsets, eccLog := t.eccLog, hotQueue := t.hotQueue }))
  ∧ (∀ (s : State) (m : Fin 26), s.lapCounts m = true → tabGet 0 s.scrubLated m ≠ 1 → s.obj .scrubLapLimit m ≤ s.lapAge m →
    ∃ t, exec (.scrubLate m) s = .next t
      ∧ t.obj .scrubLate m = (s.obj .scrubLate m + 1) % 4294967296 ∧ t.events = ⟨.scrubLate, m, 0⟩ :: s.events
      ∧ exec (.scrubLate m) t = .next t
      ∧ t = { s with objs := t.objs, events := t.events, scrubLated := t.scrubLated }
      ∧ s.sameObjsBut t [(.scrubLate, m.val)])
  ∧ (∀ (s : State) (m : Nat), m < 16 ∨ m = 24 ∨ m = 25 →
    ∃ t, exec (.memorySweep m) s = .next t
      ∧ (∀ a, t.byteAt a = (if (ctrlRange m).1 ≤ a ∧ a < (ctrlRange m).1 + (ctrlRange m).2 then 0 else s.byteAt a))
      ∧ (∀ c a, a < 16777216 → t.coreByte c a = (if c / 12 = m ∧ m < 16 then 0 else s.coreByte c a))
      ∧ (∀ k, t.upset k = (if keyOfCtrl m (wordKey k) = true then 0 else s.upset k))
      ∧ (∀ i, i < 64 → t.logEntry m i =
          (if (s.logEntry m i).st = 4 ∧ (s.logEntry m i).noRepair = true then s.logEntry m i
           else if (s.logEntry m i).st = 0 then s.logEntry m i else LogEntry.reset))
      ∧ t = { s with objs := t.objs, mem := t.mem, coreMem := t.coreMem, upsets := t.upsets, eccLog := t.eccLog, hotQueue := t.hotQueue })

/-- O44. Training that passes on all eight channels makes them READY, sets `MEM_DDR_SIZE` to the whole capacity and places the
three regions at its top; a failing report makes all FAILED, names the first failing channel and its reason, and raises an
event. A lasting fault moves to a spare row once its bank is drained, or is repaired in its devices, and its entry is REPAIRED, counted
and listed; without a spare, or with the list full, it is UNREPAIRED, counted. A
write of `ECC_LOG_CLEAR` frees the LASTING, UNCORR and REPAIRED entries (R319 to R321, R331, R334 to R336, R466). -/
def Obligations.TrainingAndRepair : Prop :=
  (∀ (s : State) (t0 : DdrTrain) (rest : List DdrTrain), s.obj .ddrState 0 = ddrOff ∨ s.obj .ddrState 0 = ddrTraining →
    rest.length = 7 →
    (firstDdrFail t0 0 (t0 :: rest) = none →
      ∃ t, exec (.ddrTrainingEnd (t0 :: rest)) s = .next t
        ∧ (∀ c, c < 8 → t.obj .ddrState c = ddrReady ∧ t.obj .ddrCapacity c = t0.capacity ∧ t.obj .ddrSweepFront c = 0
            ∧ t.obj .ddrSpeed c = (if t0.dimms = 1 then 6400 else 5200))
        ∧ t.obj .memDdrSize 0 = ((8 * t0.capacity * 1048576 : Nat) : Int) ∧ t.obj .memTrainStatus 0 = 0
        ∧ t.obj .dictReservedBase 0 = t.obj .memDdrBase 0 + t.obj .memDdrSize 0 - 0x4000000
        ∧ t.obj .shL1Base 0 = t.obj .dictReservedBase 0 - 0x2000000
        ∧ t.obj .relJournalBase 0 = t.obj .shL1Base 0 - 0x10000000
        ∧ t = { s with objs := t.objs, ddr := t.ddr, sppr := t.sppr, scrub := t.scrub, repairs := t.repairs })
    ∧ (∀ c why : Nat, firstDdrFail t0 0 (t0 :: rest) = some (c, why) →
      ∃ t, exec (.ddrTrainingEnd (t0 :: rest)) s = .next t ∧ (∀ k, k < 8 → t.obj .ddrState k = ddrFailed)
        ∧ t.obj .memDdrSize 0 = 0 ∧ t.obj .memTrainStatus 0 = ((c * 256 + why : Nat) : Int)
        ∧ t.events = ⟨.ddrTrainFail, c, why⟩ :: s.events))
  ∧ (∀ (s : State) (m : Fin 26) (i : Fin 64), let e := s.logEntry m i
      m.val < 16 ∨ m.val = 24 → e.st = 4 → e.noRepair = false → e.space = 0 →
      (s.repairs.length < 4096 → tabGet 0 s.sparesUsed (subBankOf e.addr) < 2 → s.bankDrained e.addr = true →
        ∃ t, exec (.terraceRowRepair m i) s = .next t ∧ t.logEntry m i = { e with st := 6 }
          ∧ tabGet 0 t.sparesUsed (subBankOf e.addr) = tabGet 0 s.sparesUsed (subBankOf e.addr) + 1
          ∧ t.obj .eccSparesLeft m = s.obj .eccSparesLeft m - 1
          ∧ t.obj .eccRepairs m = (s.obj .eccRepairs m + 1) % 4294967296
          ∧ t.repairs = s.repairs ++ [wordKey (.global e.addr)] ∧ t.obj .memRepairListUsed 0 = ((s.repairs.length + 1 : Nat) : Int)
          ∧ (∀ k bs, k < 128 → eccDecode (s.upset (.global (e.addr / 1024 * 1024 + 8 * k))) = .corrected bs →
              t.upset (.global (e.addr / 1024 * 1024 + 8 * k)) = 0)
          ∧ (∀ k, bankArb e.addr = some k → (t.arb k).repair = false)
          ∧ t = { s with objs := t.objs, mem := t.mem, upsets := t.upsets, eccLog := t.eccLog, sparesUsed := t.sparesUsed
                         repairs := t.repairs, arbs := t.arbs })
      ∧ (s.repairs.length < 4096 → tabGet 0 s.sparesUsed (subBankOf e.addr) < 2 → s.bankDrained e.addr = false →
        ∃ t, exec (.terraceRowRepair m i) s = .next t ∧ (∀ k, bankArb e.addr = some k → (t.arb k).repair = true)
          ∧ t = { s with objs := t.objs, arbs := t.arbs })
      ∧ (2 ≤ tabGet 0 s.sparesUsed (subBankOf e.addr) ∨ 4096 ≤ s.repairs.length →
        ∃ t, exec (.terraceRowRepair m i) s = .next t ∧ t.logEntry m i = { e with noRepair := true }
          ∧ t.obj .eccUnrepaired m = (s.obj .eccUnrepaired m + 1) % 4294967296 ∧ t.repairs = s.repairs))
  ∧ (∀ (s : State) (c : Fin 8) (i : Fin 64), let e := s.logEntry (16 + c.val) i
      let d := s.ddrCh c
      let devs := devicesOf (max 1 d.width) e
      let free (x : Nat) := tabGet 0 s.sppr (spprKey c (spprDevice d (ddrLocal e.addr) x) (bankGroupOf d (ddrLocal e.addr / 128)))
      e.st = 4 → e.noRepair = false →
      (¬(s.obj .ddrPprMode c = 1 ∧ s.obj .ddrState c = ddrReady) → s.repairs.length < 4096 → (∀ x ∈ devs, free x ≠ 0) →
        ∃ t, exec (.ddrPprRepair c i) s = .next t ∧ t.logEntry (16 + c.val) i = { e with st := 6 }
          ∧ t.obj .eccSparesLeft (16 + c.val) = s.obj .eccSparesLeft (16 + c.val) - devs.length
          ∧ t.obj .eccRepairs (16 + c.val) = (s.obj .eccRepairs (16 + c.val) + 1) % 4294967296
          ∧ t.repairs = s.repairs ++ [wordKey (.global e.addr)]
          ∧ t = { s with objs := t.objs, upsets := t.upsets, eccLog := t.eccLog, sppr := t.sppr, repairs := t.repairs })
      ∧ (¬(s.obj .ddrPprMode c = 1 ∧ s.obj .ddrState c = ddrReady) → (4096 ≤ s.repairs.length ∨ ∃ x ∈ devs, free x = 0) →
        ∃ t, exec (.ddrPprRepair c i) s = .next t ∧ t.logEntry (16 + c.val) i = { e with noRepair := true }
          ∧ t.obj .eccUnrepaired (16 + c.val) = (s.obj .eccUnrepaired (16 + c.val) + 1) % 4294967296 ∧ t.repairs = s.repairs)
      ∧ (s.obj .ddrPprMode c = 1 → s.obj .ddrState c = ddrReady →
        ∃ t, exec (.ddrPprRepair c i) s = .next t ∧ 64 * (16 + c.val) + i.val ∈ t.hotQueue
          ∧ t = { s with hotQueue := t.hotQueue }))
  ∧ (∀ (s : State) (a : Accessor) (m : Fin 26) (v : Nat), s.writable a .eccLogClear m v →
    ∃ t, exec (.eccLogClear a m v) s = .next t
      ∧ (∀ i, i < 64 → t.logEntry m i =
          (if (s.logEntry m i).st = 4 ∨ (s.logEntry m i).st = 5 ∨ (s.logEntry m i).st = 6 then LogEntry.reset else s.logEntry m i))
      ∧ t = { s with objs := t.objs, eccLog := t.eccLog, hotQueue := t.hotQueue, unacked := t.unacked }
      ∧ s.sameObjsBut t ((.eccLogUsed, m.val) :: lodgeObjs a))

/-- O45. Quad modes and the bring-up of lanes. A write of a quad's mode or FEC that no case of R346 refuses takes effect, on
both peer quads when it names one of them; every lane of the quad is OFF, and its test objects read 0; a refused one
changes nothing but the reason in `LANE_QUAD_STATUS`. A locked PLL takes a lane from OFF to ACQUIRE, or to TEST; a locked
CDR from ACQUIRE on; a loss of the CDR or of block lock is counted and takes it back; block lock and alignment make a port
UP or DOWN (R345, R346, R348, R349, R357, R361, R365, R372). The status of a refusal is the model's reading (log entry
50). -/
def Obligations.LaneModesAndBringUp : Prop :=
  (∀ (s : State) (a : Accessor) (q : Fin 14) (v : Nat), s.writable a .laneQuadMode q v →
    (q.val ≠ 0 ∨ s.obj .shWatchEn 0 = 0) →
    (s.quadRefusal q v (s.objN .laneQuadFec q) = 0 →
      ∃ t, exec (.laneQuadModeWrite a q v) s = .next t
        ∧ (∀ k, k = q.val ∨ (12 ≤ q.val ∧ 12 ≤ k ∧ k < 14) → t.obj .laneQuadMode k = v
          ∧ ∀ l, l / 4 = k → t.obj .laneState l = laneOff ∧ t.lane l = LaneSt.reset ∧ t.obj .laneLoopback l = 0
            ∧ t.obj .lanePrbsTx l = 0 ∧ t.obj .lanePrbsChk l = 0))
    ∧ (∀ why : Nat, why = s.quadRefusal q v (s.objN .laneQuadFec q) → why ≠ 0 →
      ∃ t, exec (.laneQuadModeWrite a q v) s = .next t ∧ t.obj .laneQuadMode q = s.obj .laneQuadMode q
        ∧ t.obj .laneQuadStatus q = s.obj .laneQuadStatus q / 16 * 16 + why
        ∧ t.obj .dictLastStatus (accessorNo a) = lastStatusWord (quadStatus why) (objAddr .laneQuadMode q)
        ∧ t = { s with objs := t.objs }
        ∧ s.sameObjsBut t ((.laneQuadStatus, q.val) :: (.lodgeRefused, classNo a.cls) :: lodgeObjs a)))
  ∧ (∀ (s : State) (a : Accessor) (q : Fin 14) (v : Nat), s.writable a .laneQuadFec q v → v ≠ 3 →
      s.quadRefusal q (s.objN .laneQuadMode q) v = 0 →
    ∃ t, exec (.laneQuadFecWrite a q v) s = .next t ∧ t.obj .laneQuadFec q = v ∧ t.obj .laneQuadMode q = s.obj .laneQuadMode q
      ∧ ∀ l, l / 4 = q.val → t.obj .laneState l = laneOff ∧ t.lane l = LaneSt.reset)
  ∧ (∀ (s : State) (l : Fin 56),
    (s.obj .laneState l = laneOff → s.laneMode l ≠ 0 → (s.unit (unitLane l)).st = unitRunning →
      ∃ t, exec (.laneTxPllLock l) s = .next t
        ∧ (s.laneTesting l = true → t.obj .laneState l = laneTest ∧ t.lane l = s.lane l)
        ∧ (s.laneTesting l = false → t.obj .laneState l = laneAcquire ∧ t.lane l = laneFresh (s.lane l))
        ∧ (stillPorts s l → laneFrame s t l))
    ∧ (s.obj .laneState l ≠ laneOff →
      ∃ t, exec (.laneCdrLock l) s = .next t ∧ (t.lane l).cdr = true
        ∧ (s.obj .laneState l ≠ laneAcquire ∨ ((s.lane l).an = false ∧ s.laneMode l < 7 ∧ s.obj .laneQuadAnEn (l / 4) ≠ 0) →
            t = s.setLane l { s.lane l with cdr := true })
        ∧ (s.obj .laneState l = laneAcquire → ((s.lane l).an = true ∨ 7 ≤ s.laneMode l ∨ s.obj .laneQuadAnEn (l / 4) = 0) →
            (s.laneMode l = 7 → t.obj .laneState l = (if (s.lane l).lpi || (s.lane l).held then laneFrozen else laneData)
              ∧ t.obj .laneSnapFom l = s.obj .laneFom l
              ∧ t.obj .laneSnapCtle l = s.obj .laneCtleNow l ∧ (t.lane l).snapTime = s.now)
            ∧ (s.laneMode l ≠ 7 → t.obj .laneState l = laneTraining)
            ∧ (8 ≤ s.laneMode l → t.obj .laneTxFfeNow l = ffeOf 0 63 0))
        ∧ (stillPorts s l → laneFrame s t l))
    ∧ (s.obj .laneState l ≠ laneOff →
      ∃ t, exec (.laneCdrLoss l) s = .next t
        ∧ t.obj .laneCdrLosses l = (s.obj .laneCdrLosses l + 1) % 4294967296
        ∧ (s.obj .laneState l = laneTest → t.obj .laneState l = laneTest
            ∧ t.lane l = { s.lane l with cdr := false, blockLock := false })
        ∧ (s.obj .laneState l ≠ laneTest → t.obj .laneState l = laneAcquire ∧ t.lane l = laneFresh (s.lane l))
        ∧ (stillPorts s l → laneFrame s t l))
    ∧ ((s.lane l).blockLock = true →
      ∃ t, exec (.laneBlockLockLoss l) s = .next t
        ∧ t.obj .laneBlockLockLosses l = (s.obj .laneBlockLockLosses l + 1) % 4294967296
        ∧ (s.obj .laneState l = laneTest → t.obj .laneState l = laneTest ∧ t.lane l = { s.lane l with blockLock := false })
        ∧ (s.obj .laneState l ≠ laneTest → t.obj .laneState l = laneAcquire ∧ t.lane l = laneFresh (s.lane l)
            ∧ (portLanes (s.portMode l) l = [l.val] → l.val < 48 → t.obj .ethPortState l = portDown))
        ∧ (stillPorts s l → laneFrame s t l))
    ∧ (s.obj .laneState l ≠ laneOff →
      ∃ t, exec (.blockLockGain l) s = .next t ∧ t.lane l = { s.lane l with blockLock := true }
        ∧ (portLanes (s.portMode l) l = [l.val] → l.val < 48 → s.laneCarries l = true → t.obj .ethPortState l = portUp
            ∧ t.obj .ethPortRate l = portRate (s.portMode l) l)
        ∧ (stillPorts s l → laneFrame s t l))
    ∧ (s.obj .laneState l = laneTraining →
      ∃ t, exec (.laneTrainingTimeout l) s = .next t
        ∧ t.obj .laneTrainFails l = (s.obj .laneTrainFails l + 1) % 4294967296
        ∧ ((s.lane l).fails + 1 < 3 → t.obj .laneState l = laneAcquire ∧ (t.lane l).fails = (s.lane l).fails + 1
            ∧ (stillPorts s l → t.events = ⟨.laneTrainFail, unitLane l, 0⟩ :: s.events
                ∧ t = { s with objs := t.objs, lanes := t.lanes, events := t.events }))
        ∧ (3 ≤ (s.lane l).fails + 1 → t.obj .laneState l = laneOff ∧ (t.unit (unitLane l)).st ≠ unitRunning)))
  ∧ (∀ (s : State) (p : Fin 48) (skew : List Nat), (portLanes (s.portMode p) p).length = 4 →
    let ls := portLanes (s.portMode p) p
    ((∀ l ∈ ls, s.laneCarries l = true ∧ (s.lane l).blockLock = true) →
      ∃ t, exec (.alignmentLockGain p skew) s = .next t ∧ t.lanes = s.lanes
        ∧ (∀ i l : Nat, ls[i]? = some l → t.obj .laneSkew l = ((min 65535 (skew.getD i 0) : Nat) : Int))
        ∧ ((∀ n ∈ skew, n ≤ 180) → t.obj .ethPortState p = portUp ∧ (t.port p).aligned = true)
        ∧ ((∃ n ∈ skew, 180 < n) → t = { s with objs := t.objs }))
    ∧ ((s.port p).aligned = true →
      ∃ t, exec (.alignmentLockLoss p) s = .next t ∧ t.obj .ethPortState p = portDown ∧ (t.port p).aligned = false))
  ∧ (∀ (s : State) (l : Fin 48) (modes : Nat), 1 ≤ s.laneMode l → s.laneMode l ≤ 6 → s.obj .laneQuadAnEn (l / 4) ≠ 0 →
      s.obj .laneState l = laneAcquire → bitAt modes (s.laneMode l).toNat = true →
    ∃ t, exec (.autoNegotiation l modes) s = .next t
      ∧ (∀ k ∈ s.anLanes l, (t.lane k).an = true
        ∧ (s.obj .laneState k = laneAcquire → (s.lane k).cdr = true → t.obj .laneState k = laneTraining))
      ∧ (∀ k, k ∉ s.anLanes l → t.lane k = s.lane k))

/-- O46. Training, low-power idle, markers, the eye and adaptation. A coefficient update moves the taps within the limits of
R354, or sets PRESET or INITIALIZE, and is answered; a partner that holds training, and low-power idle, freeze a lane in
DATA and let it go again. A marker that fails its check is an error of a locked lane; a valid one with the expected MSEQ
locks it, and PRESET in it starts training again. An eye window publishes its figures and ends training that succeeded. An
adaptation period undoes a trial it cannot judge, keeps a better one, makes the next, and reverts to the snapshot on drift
(R350 to R360). The order of trials is the model's reading (log entry 50). -/
def Obligations.LaneTrainingAndAdaptation : Prop :=
  (∀ (s : State) (l : Fin 48) (r : BitVec 16) (holds : Bool),
    ∃ t, exec (.trainingFrameReceive l r holds) s = .next t ∧ (t.lane l).held = holds
      ∧ (s.obj .laneState l = laneTraining →
          (bitAt r.toNat 13 = true → t.obj .laneTxFfeNow l = ffeOf 0 63 0 ∧ t.outbox = .trainStatus l 0x15 :: s.outbox)
          ∧ (bitAt r.toNat 13 = false → bitAt r.toNat 12 = true →
              t.obj .laneTxFfeNow l = ffeOf 4 42 17 ∧ t.outbox = .trainStatus l 0x15 :: s.outbox)
          ∧ (bitAt r.toNat 13 = false → bitAt r.toNat 12 = false →
              (ffeOk (s.objN .laneTxFfeNow l) = true → ffeOk (t.objN .laneTxFfeNow l) = true)
              ∧ (bits r.toNat 5 0 = 0 → t.outbox = .trainStatus l 0 :: s.outbox)
              ∧ (∀ pre main post : Nat, s.obj .laneTxFfeNow l = ffeOf pre main post → pre < 15 → pre + main + post < 63 →
                  main ≤ 63 → post ≤ 31 → pre + 1 + post + 8 ≤ main → bits r.toNat 5 0 = 1 →
                  t.obj .laneTxFfeNow l = ffeOf (pre + 1) main post ∧ t.outbox = .trainStatus l 1 :: s.outbox))
          ∧ t = { s.setLane l { s.lane l with held := holds } with objs := t.objs, outbox := t.outbox }
          ∧ s.sameObjsBut t [(.laneTxFfeNow, l.val)])
      ∧ (s.laneCarries l = true →
          t.obj .laneState l = (if (s.lane l).lpi || holds then laneFrozen else laneData)
          ∧ (s.obj .laneState l = laneData → (s.lane l).lpi || holds → (t.lane l).pending = false)
          ∧ (s.obj .laneState l = laneFrozen → (s.lane l).lpi = false → holds = false →
              t.lane l = { s.lane l with held := false, skip := true }))
      ∧ (s.laneCarries l = false → s.obj .laneState l ≠ laneTraining → t = s.setLane l { s.lane l with held := holds }))
  ∧ (∀ (s : State) (p : Fin 48),
    (1 ≤ s.portMode p → s.portMode p ≤ 6 → s.obj .ethEeeEn p ≠ 0 →
      ∃ t, exec (.lowPowerIdleEntry p) s = .next t
        ∧ ∀ l, (t.obj .laneState l =
            (if l ∈ portLanes (s.portMode p) p ∧ s.obj .laneState l = laneData then laneFrozen else s.obj .laneState l))
          ∧ (l ∈ portLanes (s.portMode p) p → s.obj .laneState l = laneData → (t.lane l).pending = false ∧ (t.lane l).lpi = true))
    ∧ (∃ t, exec (.lowPowerIdleExit p) s = .next t
        ∧ ∀ l, (t.obj .laneState l =
            (if l ∈ portLanes (s.portMode p) p ∧ s.laneCarries l = true
             then (if (s.lane l).held then laneFrozen else laneData) else s.obj .laneState l))
          ∧ (l ∈ portLanes (s.portMode p) p → s.obj .laneState l = laneFrozen → (s.lane l).held = false →
              t.lane l = { s.lane l with lpi := false, skip := true })))
  ∧ (∀ (s : State) (l : Fin 8) (w : BitVec 64) (bip : BitVec 8) (skew : Nat),
    let n := 48 + l.val
    let x := s.lane n
    let q := bits w.toNat 47 32
    8 ≤ s.laneMode n → s.obj .laneState n ≠ laneOff → s.obj .laneState n ≠ laneTest →
    (markerOk w.toNat = false →
      ∃ t, exec (.laneMarkerRx l w bip skew) s = .next t
        ∧ (x.markLock = true → t.obj .laneMarkErrors n = (s.obj .laneMarkErrors n + 1) % 4294967296
            ∧ (t.lane n).markMiss = x.markMiss + 1 ∧ (t.lane n).markLock = decide (x.markMiss + 1 < 4))
        ∧ (x.markLock = false → t = s.setLane n { x with mseq := none })
        ∧ (s.pair.up = false → laneFrame s t n))
    ∧ (markerOk w.toNat = true →
      ∃ t, exec (.laneMarkerRx l w bip skew) s = .next t
        ∧ (t.lane n).markLock = (x.markLock || decide (x.mseq.map (fun k => (k + 1) % 65536) = some q))
        ∧ (t.lane n).mseq = some q
        ∧ t.obj .laneBipErrors n = (if x.markLock = true ∧ bits w.toNat 31 24 ≠ bip.toNat
            then (s.obj .laneBipErrors n + 1) % 4294967296 else s.obj .laneBipErrors n)
        ∧ t.obj .laneMarkErrors n = (if x.markLock = true ∧ x.mseq.map (fun k => (k + 1) % 65536) ≠ some q
            then (s.obj .laneMarkErrors n + 1) % 4294967296 else s.obj .laneMarkErrors n)
        ∧ t.obj .laneSkew n = ((min 65535 skew : Nat) : Int) ∧ t.obj .laneFarFom n = bits w.toNat 23 16
        ∧ (bitAt w.toNat 9 = true → s.obj .laneState n ≠ laneAcquire →
            t.obj .laneState n = laneTraining ∧ t.obj .laneTxFfeNow n = ffeOf 0 63 0)
        ∧ (s.pair.up = false → t = { s with objs := t.objs, lanes := t.lanes, freeCtr := t.freeCtr }
            ∧ ∀ k, k ≠ n → t.lane k = s.lane k)))
  ∧ (∀ (s : State) (l : Fin 56) (h a : Nat) (rx : List Bool) (slip : Bool) (ctle : Nat) (rise : Option Nat) (sym good bad : Nat),
    let fom : Nat := if a = 0 then 0 else min 255 (255 * h / a)
    let low := (fom : Int) < s.obj .laneFomMin l
    let code : Int := if s.obj .laneCtleFixed l ≤ 15 then s.obj .laneCtleFixed l else ((ctle % 16 : Nat) : Int)
    s.obj .laneState l ≠ laneOff →
      ∃ t, exec (.laneEyeWindowEnd l h a rx slip ctle rise sym good bad) s = .next t
        ∧ t.obj .laneFom l = fom
        ∧ (rx ≠ [] → t.obj .laneTdens l = ((min 255 (edgeCount rx * 256 / rx.length) : Nat) : Int))
        ∧ t.obj .laneLowFom l = (if low then (s.obj .laneLowFom l + 1) % 4294967296 else s.obj .laneLowFom l)
        ∧ (s.obj .laneState l = laneData →
            t.obj .laneConfOk l = (if s.obj .laneConfMin l ≤ edgeCount rx ∧ slip = false ∧ (s.lane l).touched = false then 1 else 0)
            ∧ t.events = (if low ∧ (s.lane l).lowRun = false then ⟨.laneLowFom, unitLane l, fom⟩ :: s.events else s.events)
            ∧ t.lane l = { s.lane l with lowRun := decide low, touched := false }
            ∧ t = { s with objs := t.objs, lanes := t.lanes, events := t.events }
            ∧ s.sameObjsBut t [(.laneFom, l.val), (.laneTdens, l.val), (.laneConfOk, l.val), (.laneLowFom, l.val),
                (.laneFecSymbols, l.val), (.laneFecCwCorr, l.val), (.laneFecCwUncorr, l.val)])
        ∧ (s.obj .laneState l = laneTraining → t.obj .laneCtleNow l = code
            ∧ (s.laneMode l < 8 → ¬low → (rise = some 0 ∨ rise = some 1) →
                t.obj .laneState l = (if (s.lane l).lpi || (s.lane l).held then laneFrozen else laneData)
                ∧ t.obj .laneSnapFom l = fom ∧ (t.lane l).fails = 0)
            ∧ (low ∨ rise = none → t.obj .laneState l = laneTraining))
        ∧ (s.obj .laneState l = laneTest → s.objN .lanePrbsChk l % 16 ≠ 0 →
            ∃ k e : Nat, e ≤ k ∧ k ≤ rx.length ∧ t.obj .lanePrbsBits l = (s.obj .lanePrbsBits l + k) % 2 ^ 64
              ∧ t.obj .lanePrbsErrors l = (s.obj .lanePrbsErrors l + e) % 2 ^ 64))
  ∧ (∀ (s : State) (l : Fin 56), s.obj .laneAdaptEn l ≠ 0 → s.obj .laneState l = laneData →
    let x := s.lane l
    let f := s.obj .laneFom l
    let sure := s.obj .laneConfOk l ≠ 0 ∧ s.obj .laneTdensMin l ≤ s.obj .laneTdens l
    (x.skip = true → ∃ t, exec (.laneAdaptPeriodEnd l) s = .next t ∧ t = s.setLane l { x with skip := false })
    ∧ (x.skip = false → ¬sure →
      ∃ t, exec (.laneAdaptPeriodEnd l) s = .next t ∧ (t.lane l).pending = false
        ∧ (x.pending = false → t = s)
        ∧ (x.pending = true → x.trial = 0 →
            t.obj .laneCtleNow l = s.obj .laneCtleNow l - x.dir ∧ laneFrame s t l ∧ s.sameObjsBut t [(.laneCtleNow, l.val)])
        ∧ (x.pending = true → x.trial = 1 → (t.lane l).post = (x.post - x.dir).toNat
            ∧ t.outbox = .laneRequest l 1 (decide (x.dir < 0)) :: s.outbox)
        ∧ (x.pending = true → x.trial = 2 → (t.lane l).pre = (x.pre - x.dir).toNat
            ∧ t.outbox = .laneRequest l 2 (decide (x.dir < 0)) :: s.outbox))
    ∧ (x.skip = false → sure → s.now < x.holdUntil → ∃ t, exec (.laneAdaptPeriodEnd l) s = .next t ∧ t = s)
    ∧ (x.skip = false → sure → x.holdUntil ≤ s.now →
      (x.reverted = true →
        ∃ t, exec (.laneAdaptPeriodEnd l) s = .next t ∧ (t.lane l).reverted = false
          ∧ (f < s.obj .laneSnapFom l - s.obj .laneDriftLimit l → t.obj .laneSnapFom l = f
              ∧ t.obj .laneSnapResets l = (s.obj .laneSnapResets l + 1) % 4294967296)
          ∧ laneFrame s t l)
      ∧ (x.reverted = false → f < s.obj .laneSnapFom l - s.obj .laneDriftLimit l →
        ∃ t, exec (.laneAdaptPeriodEnd l) s = .next t ∧ t.obj .laneCtleNow l = s.obj .laneSnapCtle l
          ∧ (t.lane l).post = x.snapPost ∧ (t.lane l).pre = x.snapPre
          ∧ (t.lane l).holdUntil = s.now + s.obj .laneAdaptHold l * 1000
          ∧ t.obj .laneDriftReverts l = (s.obj .laneDriftReverts l + 1) % 4294967296
          ∧ t.events = ⟨.laneDrift, unitLane l, 0⟩ :: s.events
          ∧ t = { s with objs := t.objs, lanes := t.lanes, events := t.events, outbox := t.outbox })
      ∧ (x.reverted = false → s.obj .laneSnapFom l - s.obj .laneDriftLimit l ≤ f → x.pending = true →
        ∃ t, exec (.laneAdaptPeriodEnd l) s = .next t ∧ (t.lane l).pending = false ∧ (t.lane l).trial = (x.trial + 1) % 3
          ∧ (x.before + 1 < f →
              t.obj .laneAdaptSteps l = (s.obj .laneAdaptSteps l + 1) % 4294967296
              ∧ t.obj .laneCtleNow l = s.obj .laneCtleNow l ∧ (t.lane l).dir = x.dir ∧ laneFrame s t l
              ∧ (s.obj .laneSnapFom l ≤ f → t.obj .laneSnapFom l = f))
          ∧ (f ≤ x.before + 1 → (t.lane l).dir = -x.dir ∧ t.obj .laneAdaptSteps l = s.obj .laneAdaptSteps l
              ∧ (x.trial = 0 → t.obj .laneCtleNow l = s.obj .laneCtleNow l - x.dir ∧ laneFrame s t l)))
      ∧ (x.reverted = false → s.obj .laneSnapFom l - s.obj .laneDriftLimit l ≤ f → x.pending = false →
        ∃ t, exec (.laneAdaptPeriodEnd l) s = .next t
          ∧ (s.coefs l = [] → t = s)
          ∧ (s.coefs l = [0] → 0 ≤ s.obj .laneCtleNow l + x.dir → s.obj .laneCtleNow l + x.dir ≤ 15 →
              (t.lane l).pending = true ∧ (t.lane l).before = f ∧ (t.lane l).trial = 0
              ∧ t.obj .laneCtleNow l = s.obj .laneCtleNow l + x.dir ∧ laneFrame s t l)
          ∧ (s.coefs l = [0] → (s.obj .laneCtleNow l + x.dir < 0 ∨ 15 < s.obj .laneCtleNow l + x.dir) →
              t = s.setLane l { x with dir := -x.dir }))))

/-- O47. The test objects and taps of a lane. `LANE_TX_FFE` takes a setting within R354's limits outside TRAINING; a test object changed
takes a lane that is not OFF to TEST, the last one cleared back to ACQUIRE, and the checker counts nothing for 10 µs;
`LANE_PRBS_CLEAR` zeroes both counts (R354, R361 to R363, R365, R366). -/
def Obligations.LaneTestObjects : Prop :=
  ∀ (s : State) (a : Accessor) (l : Fin 56) (v : Nat),
    (s.writable a .laneTxFfe l v →
      (ffeOk v = true → s.obj .laneState l ≠ laneTraining →
        ∃ t, exec (.laneTxFfeWrite a l v) s = .next t
          ∧ t.obj .laneTxFfe l = ffeOf (bits v 3 0) (bits v 13 8) (bits v 20 16)
          ∧ t.obj .laneTxFfeNow l =
              (if s.laneMode l = 7 ∨ s.obj .laneState l = laneOff ∨ s.obj .laneState l = laneAcquire
               then ((ffeOf (bits v 3 0) (bits v 13 8) (bits v 20 16) : Nat) : Int) else s.obj .laneTxFfeNow l)
          ∧ t = { s with objs := t.objs, unacked := t.unacked }
          ∧ s.sameObjsBut t ((.laneTxFfe, l.val) :: (.laneTxFfeNow, l.val) :: lodgeObjs a))
      ∧ (ffeOk v = false ∨ s.obj .laneState l = laneTraining →
        ∃ t, exec (.laneTxFfeWrite a l v) s = .next t ∧ t.obj .laneTxFfe l = s.obj .laneTxFfe l
          ∧ t.obj .dictLastStatus (accessorNo a)
              = lastStatusWord (if ffeOk v = false then .range else .state) (objAddr .laneTxFfe l)))
    ∧ (∀ c : Instr, (c = .laneLoopbackWrite a l v ∧ s.writable a .laneLoopback l v ∧ v ≤ 3)
        ∨ (c = .lanePrbsTxWrite a l v ∧ s.writable a .lanePrbsTx l v ∧ patternOk v = true)
        ∨ (c = .lanePrbsChkWrite a l v ∧ s.writable a .lanePrbsChk l v ∧ patternOk v = true) →
      ∃ t, exec c s = .next t
        ∧ (c = .laneLoopbackWrite a l v → t.obj .laneLoopback l = v)
        ∧ (c = .lanePrbsTxWrite a l v → t.obj .lanePrbsTx l = v)
        ∧ (c = .lanePrbsChkWrite a l v → t.obj .lanePrbsChk l = v)
        ∧ (laneTests s l ≠ laneTests t l → (t.lane l).prbsHold = s.now + 10000 ∧ t.obj .lanePrbsLock l = 0
            ∧ (t.lane l).chk = PrbsSt.reset
            ∧ (s.obj .laneState l = laneOff → t.obj .laneState l = laneOff)
            ∧ (s.obj .laneState l ≠ laneOff → v ≠ 0 → t.obj .laneState l = laneTest)
            ∧ (s.obj .laneState l = laneTest → t.laneTesting l = false → t.obj .laneState l = laneAcquire))
        ∧ (laneTests s l = laneTests t l → t = { s with objs := t.objs, unacked := t.unacked } ∧ s.sameObjsBut t (lodgeObjs a))
        ∧ (stillPorts s l → t = { s with objs := t.objs, lanes := t.lanes, unacked := t.unacked }))
    ∧ (s.writable a .lanePrbsClear l v →
      ∃ t, exec (.lanePrbsClear a l v) s = .next t ∧ t.obj .lanePrbsBits l = 0 ∧ t.obj .lanePrbsErrors l = 0
        ∧ t = { s with objs := t.objs, unacked := t.unacked }
        ∧ s.sameObjsBut t ((.lanePrbsBits, l.val) :: (.lanePrbsErrors, l.val) :: lodgeObjs a))

/-- O48. Receiving frames. A frame without room in the allocation is dropped and counted; one that fails a test of R374 counts in
the first test's counter; one that passes all counts in `ETH_RX_FRAMES`; a PAUSE or PFC frame stops the queues that honour it for
its quanta; a frame to the port's own address that nothing else takes goes to the port's default ring, or is dropped for want of
descriptors. XOFF begins at `ETH_XOFF_WM` or with a full ring and ends at `ETH_XON_WM`, and a refresh sends it again; a pause that
has run out restarts its queue. A doorbell of the ring's owner posts descriptors; any other is counted and ignored (R374, R375,
R384, R385, R387 to R391, R393, R396, R433). -/
def Obligations.EthernetReception : Prop :=
  (∀ (s : State) (p : Fin 48) (f : RxFrame) (occ : List Nat), s.obj .ethPortState p = portUp → (s.unit unitEth).st = unitRunning →
    let len := frameLen f.body
    (s.obj .ethRxAlloc p < ((occ.sum + len : Nat) : Int) →
      ∃ t, exec (.ethFrameReceive p f occ) s = .next t
        ∧ t.obj .ethRxNoSpace p = (s.obj .ethRxNoSpace p + 1) % 4294967296
        ∧ t = { s with objs := t.objs } ∧ s.sameObjsBut t [(.ethRxNoSpace, p.val)])
    ∧ (((occ.sum + len : Nat) : Int) ≤ s.obj .ethRxAlloc p →
      ∃ t, exec (.ethFrameReceive p f occ) s = .next t
        ∧ (∀ o ∈ [Obj.ethRxCodeErr, .ethRxRunts, .ethRxOversize, .ethRxFcsErr, .ethRxFrames],
            t.obj o p = if o = rxCounter s p f then (s.obj o p + 1) % 4294967296 else s.obj o p)
        ∧ t.obj .ethRxOcc p = (((List.range 8).map (fun k => occ.getD k 0)).sum : Nat)
        ∧ (rxCounter s p f ≠ .ethRxFrames → s.obj .ethFcMode p = 0 → s.obj .ethDeliverBad p = 0 → (∀ g, s.fwdPorts p f.body g = []) →
          t.outbox = s.outbox ∧ t.port p = { s.port p with occ := addOcc occ 0 0 }
            ∧ t = { s with objs := t.objs, ports := t.ports } ∧ s.sameObjsBut t [(rxCounter s p f, p.val), (.ethRxOcc, p.val)])))
  ∧ (∀ (s : State) (p : Fin 48) (f : RxFrame) (occ : List Nat), goodFrame s p f occ →
    let o := payloadAt f.body
    (etherType f.body = 0x8808 → (be16At o f.body = 1 ∧ s.obj .ethFcMode p = 1 ∨ be16At o f.body = 0x0101 ∧ s.obj .ethFcMode p = 2) →
      ∃ t, exec (.ethFrameReceive p f occ) s = .next t
        ∧ t.obj .ethRxFrames p = (s.obj .ethRxFrames p + 1) % 4294967296
        ∧ t.obj .ethFcRxPauses p = (s.obj .ethFcRxPauses p + 1) % 4294967296
        ∧ (∀ q, q < 8 →
            let k := s.objN .ethQueuePcp p / 8 ^ q % 8
            let pfc := be16At o f.body = 0x0101
            let quanta := if pfc then be16At (o + 4 + 2 * k) f.body else be16At (o + 2) f.body
            tabGet 0 (t.port p).stopped q =
              (if bitAt (s.objN .ethFcHonor p) q ∧ (pfc → bitAt (be16At (o + 2) f.body) k = true) then
                (if quanta = 0 then 0 else s.now + ((quanta * 512000 / max 1 (s.objN .ethPortRate p) : Nat) : Int))
               else tabGet 0 (s.port p).stopped q))
        ∧ t = { s with objs := t.objs, ports := t.ports })
    ∧ (etherType f.body ≠ 0x8808 → isGroup f.body = false → frameDst f.body ≠ s.objN .ethMacAddr p → s.fwdPorts p f.body false = [] →
      ∃ t, exec (.ethFrameReceive p f occ) s = .next t
        ∧ t.obj .ethSwNoRoute 0 = (s.obj .ethSwNoRoute 0 + 1) % 4294967296 ∧ t.outbox = s.outbox
        ∧ t = { s with objs := t.objs, ports := t.ports })
    ∧ (isGroup f.body = false → frameDst f.body = s.objN .ethMacAddr p → etherType f.body = 0x88F7 →
      ∃ t, exec (.ethFrameReceive p f occ) s = .next t ∧ t.outbox = .handed 1 p f.body :: s.outbox
        ∧ t = { s with objs := t.objs, ports := t.ports, outbox := t.outbox })
    ∧ (isGroup f.body = false → frameDst f.body = s.objN .ethMacAddr p → etherType f.body = 0xAEFE → isUplink f.body = true →
        (s.endpointOf p f.body = none →
          ∃ t, exec (.ethFrameReceive p f occ) s = .next t ∧ t.outbox = s.outbox
            ∧ t.obj .ethSwNoEndpoint 0 = (s.obj .ethSwNoEndpoint 0 + 1) % 4294967296)
        ∧ (∀ ep : Nat, s.endpointOf p f.body = some ep →
          ∃ t, exec (.ethFrameReceive p f occ) s = .next t
            ∧ t.outbox = .handed (if (s.watchFor p ep f.body).isSome then 3 else 0) p f.body :: s.outbox))
    ∧ (∀ r : Nat, toDefault s p f r →
      let n := ceilDiv (frameLen f.body) (s.objN .erxBufSize r)
      ((s.erxRing r).addrs.length < n →
        ∃ t, exec (.ethFrameReceive p f occ) s = .next t ∧ t.erxRing r = s.erxRing r
          ∧ t.obj .erxNoBuf r = (s.obj .erxNoBuf r + 1) % 4294967296 ∧ t.obj .erxFrames r = s.obj .erxFrames r)
      ∧ (n ≤ (s.erxRing r).addrs.length →
        ∃ t, exec (.ethFrameReceive p f occ) s = .next t
          ∧ t.obj .erxFrames r = (s.obj .erxFrames r + 1) % 4294967296
          ∧ (t.erxRing r).addrs = (s.erxRing r).addrs.drop n ∧ (t.erxRing r).pos = ((s.erxRing r).pos + n) % 2 ^ 32
          ∧ (∀ i, i < n → .host (s.objN .erxOwner r) ((s.erxRing r).addrs.getD i 0)
              (slice (i * s.objN .erxBufSize r) (min (s.objN .erxBufSize r) (frameLen f.body - i * s.objN .erxBufSize r))
                (f.body ++ fcsOf f.body)) ∈ t.outbox))))
  ∧ (∀ (s : State) (p : Fin 48) (occ : List Nat), 0 ≤ s.obj .ethXoffState p →
    ∃ t, exec (.ethPauseRefresh p occ) s = .next t
      ∧ t.obj .ethRxOcc p = (occ.sum : Int)
      ∧ (∀ k, k < 8 → (s.obj .ethFcMode p = 1 ∧ k = 0) ∨ (s.obj .ethFcMode p = 2 ∧ bitAt (s.objN .ethPfcMask p) k = true) →
        let level : Int := if s.obj .ethFcMode p = 1 then (occ.sum : Nat) else (occ.getD k 0 : Nat)
        let full := if s.obj .ethFcMode p = 1 then decide (s.fullRings p ≠ [])
          else (s.fullRings p).any (fun r => decide (s.objN .erxPrio r = k))
        let was := bitAt (s.objN .ethXoffState p) k
        let on := full || (if was then decide (s.obj .ethXonWm p < level) else decide (s.obj .ethXoffWm p ≤ level))
        bitAt (t.objN .ethXoffState p) k = on ∧ (on = true → bitAt (t.port p).xoff k = true)
          ∧ (was = true → on = false → bitAt (t.port p).xon k = true))
      ∧ (t.port p).stopped = (s.port p).stopped ∧ (∀ p' : Nat, p' ≠ p → t.port p' = s.port p')
      ∧ t = { s with objs := t.objs, ports := t.ports }
      ∧ s.sameObjsBut t [(.ethRxOcc, p.val), (.ethXoffState, p.val)])
  ∧ (∀ (s : State) (p : Fin 48) (q : Fin 8), tabGet 0 (s.port p).stopped q ≤ s.now →
    ∃ t, exec (.ethPauseExpire p q) s = .next t ∧ t.queueStopped p q = false
      ∧ (∀ k : Nat, k ≠ q → tabGet 0 (t.port p).stopped k = tabGet 0 (s.port p).stopped k)
      ∧ t = { s with ports := t.ports })
  ∧ (∀ (s : State) (fn r : Fin 64) (v : Nat) (addrs : List Nat), (s.unit unitPcie).st = unitRunning →
    (s.obj .erxOwner r = fn.val → s.obj .erxEnable r ≠ 0 →
      ∃ t, exec (.ethRxRingDoorbell fn r v addrs) s = .next t ∧ (t.erxRing r).posted = v % 2 ^ 32
        ∧ (t.erxRing r).addrs = (s.erxRing r).addrs
            ++ (List.range ((v + 2 ^ 32 - (s.erxRing r).posted) % 2 ^ 32)).map (fun i => addrs.getD i 0)
        ∧ ((t.erxRing r).low = true ↔ ((t.erxRing r).addrs.length : Int)
            < (if (s.erxRing r).low then s.obj .erxXon r else s.obj .erxXoff r))
        ∧ t = { s with objs := t.objs, erx := t.erx, ports := t.ports })
    ∧ ((0 ≤ s.obj .erxOwner r ∧ s.obj .erxOwner r ≠ fn.val) ∨ s.obj .erxEnable r = 0 →
      ∃ t, exec (.ethRxRingDoorbell fn r v addrs) s = .next t
        ∧ t.obj .pcieDbIgnored 0 = (s.obj .pcieDbIgnored 0 + 1) % 4294967296
        ∧ t = { s with objs := t.objs } ∧ s.sameObjsBut t [(.pcieDbIgnored, 0)]))

/-- O49. Sending frames. A SEND in range is offered to its port, any other is BAD_DESC; a descriptor posted by its ring's
owner is offered, or written back with the reason of its refusal. The input that holds a port's insertion arbiter inserts
its next entry, discards a late one where the policy says so, loses one whose port is not UP, and misses a build whose
close has passed. A body is staged within the fetch lead. An idle port that is UP sends the flow control that waits,
discards an entry past its close, holds one that the guard covers, and starts the highest queue's staged one whose launch
time has come: it is on the wire, counted. At its end the wire is free (R261, R376 to R384, R392, R433). What a discard
and a completion count is the model's reading (log entry 51). -/
def Obligations.EthernetTransmission : Prop :=
  (∀ (s : State) (h : Fin 16) (r : EngRun), engTakes s h 12 r → dOp r.desc = 0 →
    (s.sendOk h r.desc = true →
      ∃ t, exec (.send h) s = .next t ∧ popped s t h 12
        ∧ t.txOffers = s.txOffers ++ [{ port := sdPort r.desc, queue := sdQueue r.desc, launch := sdLaunch r.desc, close := sdClose r.desc, input := h, src := .send h r.off r.desc, body := s.readMem (terraceBase h + sdBody r.desc) (sdLen r.desc), staged := false, late := false, held := false, stageLate := false }]
        ∧ t = { s with sched := t.sched, txOffers := t.txOffers })
    ∧ (s.sendOk h r.desc = false → replyRoom s h r.desc →
      ∃ t, exec (.send h) s = .next t ∧ popped s t h 12 ∧ replied s t h r.desc 2 ∧ t.txOffers = s.txOffers))
  ∧ (∀ (s : State) (fn r : Fin 64) (v : Nat) (descs : List (Nat × List Byte)), (s.unit unitPcie).st = unitRunning →
    (s.obj .etxOwner r = fn.val → s.obj .etxEnable r ≠ 0 →
      let x := s.etxRing r
      let d := (descs.getD 0 (0, [])).1
      let head := (descs.getD 0 (0, [])).2
      ∃ t, exec (.ethTxRingDoorbell fn r v descs) s = .next t ∧ (t.etxRing r).posted = v % 2 ^ 32
        ∧ ((v + 2 ^ 32 - x.posted) % 2 ^ 32 = 1 → ringRefusal s d head = 0 →
          (t.etxRing r).open_ = x.open_ ++ [(x.posted, d)]
          ∧ t.txOffers = s.txOffers ++ [{ port := tdPort d, queue := tdQueue d, launch := bits d 159 96, close := bits d 95 32, input := 16, src := .ring r x.posted, body := slice 0 (tdLen d) head, staged := false, late := false, held := false, stageLate := false }]
          ∧ t = { s with etx := t.etx, txOffers := t.txOffers })
        ∧ ((v + 2 ^ 32 - x.posted) % 2 ^ 32 = 1 → ringRefusal s d head ≠ 0 → x.written = [] → x.done = x.posted →
            x.posted < 2 ^ 32 → (∀ y ∈ x.open_, y.1 ≠ x.posted) →
          (t.etxRing r).done = v % 2 ^ 32 ∧ (t.etxRing r).open_ = x.open_ ∧ t.txOffers = s.txOffers
          ∧ .host fn (s.objN .etxBase r + 32 * (x.posted % max 1 (s.objN .etxCount r)))
              (leBytes 32 (d - d % 2 ^ 32 + 2 ^ 31 + ringRefusal s d head * 2 ^ 27)) ∈ t.outbox
          ∧ .host fn (s.objN .etxBase r + 32 * s.objN .etxCount r) (leBytes 4 (v % 2 ^ 32)) ∈ t.outbox
          ∧ t = { s with etx := t.etx, outbox := t.outbox, msixPending := t.msixPending }))
    ∧ ((0 ≤ s.obj .etxOwner r ∧ s.obj .etxOwner r ≠ fn.val) ∨ s.obj .etxEnable r = 0 →
      ∃ t, exec (.ethTxRingDoorbell fn r v descs) s = .next t
        ∧ t.obj .pcieDbIgnored 0 = (s.obj .pcieDbIgnored 0 + 1) % 4294967296
        ∧ t = { s with objs := t.objs } ∧ s.sameObjsBut t [(.pcieDbIgnored, 0)]))
  ∧ (∀ (s : State) (p : Fin 48) (i : Fin 20) (e : TxEntry), s.macRuns p = true → s.arbHold (205 + p) = i →
      s.txOffers.find? (fun e => decide (e.port = p.val) && decide (e.input = i.val)) = some e →
    (missedWaiting s.now e = none → (s.portEntries p).length < 4096 →
      let x := insertedEntry s e
      let dropped := x.late && bitAt (s.objN .ethLatePolicy p) e.queue
      ∃ t, exec (.ethTxInsert p i) s = .next t ∧ t.txOffers = s.txOffers.erase e ∧ t.arbHold (205 + p) = 255
        ∧ (s.obj .ethPortState p ≠ portUp → t.txQueue = s.txQueue
            ∧ t.obj .ethTxPortDown p = (s.obj .ethTxPortDown p + 1) % 4294967296)
        ∧ (s.obj .ethPortState p = portUp → dropped = true → t.txQueue = s.txQueue
            ∧ t.obj .ethTxLateDropped p = (s.obj .ethTxLateDropped p + 1) % 4294967296)
        ∧ (s.obj .ethPortState p = portUp → dropped = false → x ∈ t.txQueue
            ∧ t.obj .ethTxEntries p = (((s.portEntries p).length + 1 : Nat) : Int)
            ∧ (∀ y ∈ s.txQueue, y ∈ t.txQueue) ∧ t.txQueue.length = s.txQueue.length + 1
            ∧ t = { s with objs := t.objs, arbs := t.arbs, txOffers := t.txOffers, txQueue := t.txQueue }
            ∧ s.sameObjsBut t [(.ethTxEntries, p.val), (.arbHolder, 205 + p.val), (.arbPointer, 205 + p.val), (.arbState, 205 + p.val)]))
    ∧ (∀ (h c : Nat) (S : Int), missedWaiting s.now e = some (h, c, S) →
      ∃ t, exec (.ethTxInsert p i) s = .next t ∧ t.txQueue = s.txQueue ∧ t.txOffers = s.txOffers.erase e
        ∧ t.obj .dlFramesMissed h = (s.obj .dlFramesMissed h + 1) % 4294967296
        ∧ t.missedIn c S = s.missedIn c S + 1
        ∧ t = { s with objs := t.objs, arbs := t.arbs, txOffers := t.txOffers, frameStores := t.frameStores, dlMissed := t.dlMissed }
        ∧ s.sameObjsBut t [(.dlFramesMissed, h), (.arbHolder, 205 + p.val), (.arbPointer, 205 + p.val), (.arbState, 205 + p.val)]))
  ∧ (∀ (s : State) (p : Fin 48) (q : Fin 8) (i : Nat) (body : List Byte) (e : TxEntry),
      (s.txQueue.filter (fun e => decide (e.port = p.val) && decide (e.queue = q.val)))[i]? = some e → e.staged = false →
      e.launch - s.obj .ethTxFetchLead 0 ≤ s.now → s.stagedBytes + e.body.length ≤ 2097152 →
    ∃ t, exec (.ethTxFetch p q i body) s = .next t
      ∧ { e with body := s.bodyOf e body, staged := true, stageLate := decide (e.launch < s.now) && !e.late } ∈ t.txQueue
      ∧ (∀ x ∈ s.txQueue, x ≠ e → x ∈ t.txQueue) ∧ t.txQueue.length = s.txQueue.length
      ∧ t = { s with txQueue := t.txQueue })
  ∧ (∀ (s : State) (p : Fin 48), s.obj .ethPortState p = portUp → s.macRuns p = true → s.txSilent = false →
      (s.port p).sending = none →
    (∃ t, exec (.ethTxSelect p) s = .next t
      ∧ (s.watchMac p = false → ((s.port p).xoff ≠ 0 ∨ (s.port p).xon ≠ 0) → .eth p (s.fcFrame p) s.now false ∈ t.outbox
          ∧ (t.port p).xoff = 0 ∧ (t.port p).xon = 0
          ∧ t.obj .ethFcXoffSent p = (if (s.port p).xoff = 0 then s.obj .ethFcXoffSent p else (s.obj .ethFcXoffSent p + 1) % 4294967296))
      ∧ ((∀ q, q < 8 → headWaits s p q) → (t.port p).sending = none ∧ t.txQueue = s.txQueue
          ∧ t.obj .ethTxFrames p = s.obj .ethTxFrames p))
    ∧ (∀ (q : Fin 8) (e : TxEntry), s.queueHead p q = some e →
      ((∀ k, k < 8 → q.val < k → headWaits s p k) → (e.close = 0 ∨ s.now < e.close) → s.queueStopped p q = false →
          e.launch ≤ s.now → e.staged = true →
        (s.guarded p q e = false →
          ∃ t, exec (.ethTxSelect p) s = .next t ∧ (t.port p).sending = some e ∧ t.txQueue = s.txQueue.erase e
            ∧ t.obj .ethTxFrames p = (s.obj .ethTxFrames p + 1) % 4294967296
            ∧ t.obj .ethTxLateSent p = (if e.late then (s.obj .ethTxLateSent p + 1) % 4294967296 else s.obj .ethTxLateSent p)
            ∧ (ownFrame e = true → .eth p (padded e.body) s.now false ∈ t.outbox))
        ∧ (s.guarded p q e = true → e.held = false → (∀ k, k < q.val → s.queueHead p k = none) →
          ∃ t, exec (.ethTxSelect p) s = .next t ∧ (t.port p).sending = none
            ∧ t.obj .ethTxGuardHolds p = (s.obj .ethTxGuardHolds p + 1) % 4294967296
            ∧ t.txQueue = s.txQueue.map (fun x => if x = e then { e with held := true } else x)))
      ∧ (s.portEntries p = [e] → e.close ≠ 0 → e.close ≤ s.now →
        ∃ t, exec (.ethTxSelect p) s = .next t ∧ t.txQueue = s.txQueue.erase e ∧ (t.port p).sending = none
          ∧ t.obj .ethTxEntries p = 0 ∧ t.obj .ethTxExpired p = (s.obj .ethTxExpired p + 1) % 4294967296)))
  ∧ (∀ (s : State) (p : Fin 48),
    ∃ t, exec (.ethTxFrameEnd p) s = .next t ∧ (t.port p).sending = none ∧ t = s.setPort p { s.port p with sending := none })

/-- O50. Access to the dictionary. A write of a plain object that nothing refuses gives it the value, or stages it, and is in
progress until it is journaled; a write of no object is refused with NO_OBJECT. The oldest write in progress gets its
journal entry, and is acknowledged without a pair. BAR0 answers a read with the object's value, all ones when refused, and
nothing while a write of the function is in progress; the window's four actions copy the named object, write it, read a
group, and copy what is staged (R457 to R466, R470 to R473, R536, R538). What counts as an access, and the body of an
entry, are the model's (log entries 81 and 83). -/
def Obligations.DictionaryAccess : Prop :=
  (∀ (s : State) (a : Accessor) (addr : BitVec 24) (off wid : Nat) (v : BitVec 64) (tie : Bool),
      ¬(inWindow addr.toNat = true ∧ (a.cls = .h ∨ a.cls = .v)) →
    (∀ row n x, plainWrite s a addr.toNat row n x → slotFits row.ty off wid = true → slotValue row.ty wid v.toNat = some x →
      (row.acc ≠ .rws →
        ∃ t, exec (.dictWrite a addr off wid v tie) s = .next t ∧ t.obj row.obj n = x
          ∧ t.obj .dictLastStatus (accessorNo a) = lastStatusWord .ok (objAddr row.obj n)
          ∧ t.obj .lodgeAccesses (classNo a.cls) = (s.obj .lodgeAccesses (classNo a.cls) + 1) % 4294967296
          ∧ (s.obj .memDdrSize 0 ≠ 0 → s.lodgeUp = true → t.unacked
              = s.unacked ++ [⟨a, objAddr row.obj n / 256, objAddr row.obj n % 256, x, [], false⟩]))
      ∧ (row.acc = .rws → s.stageArmed (stageCtxOf a) = false → (s.stageCtx (stageCtxOf a)).vals.length < 4096 →
        ∃ t, exec (.dictWrite a addr off wid v tie) s = .next t ∧ t.obj row.obj n = s.obj row.obj n
          ∧ tabFind (t.stageCtx (stageCtxOf a)).vals (objKey row.obj n) = some x
          ∧ (∀ k, k ≠ stageCtxOf a → t.stageCtx k = s.stageCtx k)
          ∧ t = { s with objs := t.objs, staged := t.staged, unacked := t.unacked }))
    ∧ (rowFor a addr.toNat = none → s.reach a (addr.toNat / 256) = some .ok → tie = false →
      ∃ t, exec (.dictWrite a addr off wid v tie) s = .next t
        ∧ t.obj .dictLastStatus (accessorNo a) = lastStatusWord .noObject addr.toNat
        ∧ t.obj .lodgeRefused (classNo a.cls) = (s.obj .lodgeRefused (classNo a.cls) + 1) % 4294967296
        ∧ t = { s with objs := t.objs }
        ∧ s.sameObjsBut t ((.lodgeRefused, classNo a.cls) :: lodgeObjs a)))
  ∧ (∀ (s : State) (u : Unacked) (rest : List Unacked), s.unacked = u :: rest → (∀ x ∈ u :: rest, x.sent = false) →
      s.journal.length < 1048576 → u.dom.length ≤ 48 → s.obj .relJournalBase 0 ≠ 0 →
      ¬(s.mirroring = true ∧ s.obj .pairMirror 0 ≠ 0) →
    ∃ t, exec .dictWriteAck s = .next t ∧ t.unacked = rest ∧ t.jseqNext = s.jseqNext + 1
      ∧ ∃ e, t.journal = s.journal ++ [e] ∧ e.kind = 3 ∧ e.jseq = s.jseqNext ∧ e.data = u.idx * 256 + u.sub)
  ∧ (∀ (s : State) (fn : Fin 64) (addr : BitVec 24) (off wid slots : Nat),
    let a := fnAccessor fn
    ((∃ u ∈ s.unacked, u.who = a) →
      ∃ t, exec (.bar0Read fn addr off wid slots) s = .next t ∧ t = s)
    ∧ ((∀ u ∈ s.unacked, u.who ≠ a) → s.reach a (addr.toNat / 256) = some .ok → inWindow addr.toNat = false → slots ≤ 1 →
        wid = 1 ∨ wid = 2 ∨ wid = 4 ∨ wid = 8 → off % wid = 0 → off + wid ≤ 8 →
      ∀ row n, rowFor a addr.toNat = some (row, n) → row.ty.bytes = 0 →
      (s.readStatus a row.obj n = .ok →
        ∃ t, exec (.bar0Read fn addr off wid slots) s = .next t
          ∧ t.outbox = .read a (slice off wid (leBytes 8 (toField 64 (s.readObj row.obj n)))) :: s.outbox
          ∧ t.obj .lodgeAccesses (classNo a.cls) = (s.obj .lodgeAccesses (classNo a.cls) + 1) % 4294967296
          ∧ t = { s with objs := t.objs, outbox := t.outbox } ∧ s.sameObjsBut t [(.lodgeAccesses, classNo a.cls)])
      ∧ (s.readStatus a row.obj n ≠ .ok →
        ∃ t, exec (.bar0Read fn addr off wid slots) s = .next t
          ∧ t.outbox = .read a (List.replicate wid 0xFF) :: s.outbox
          ∧ t.obj .lodgeRefused (classNo a.cls) = (s.obj .lodgeRefused (classNo a.cls) + 1) % 4294967296
          ∧ t = { s with objs := t.objs, outbox := t.outbox }
          ∧ s.sameObjsBut t [(.lodgeAccesses, classNo a.cls), (.lodgeRefused, classNo a.cls)])))
  ∧ (∀ (s : State) (fn : Fin 64) (row : ObjRow) (n : Nat),
    let a := fnAccessor fn
    let c := s.countAccess a
    let done := fun (t : State) => t.obj .dictLastStatus (accessorNo a) = lastStatusWord .ok (s.winTarget a)
      ∧ t = { s with objs := t.objs, windows := t.windows, unacked := t.unacked } ∧ s.sameObjsBut t (lodgeObjs a)
    rowFor a (s.winTarget a) = some (row, n) → s.readStatus a row.obj n = .ok →
      s.obj .memDdrSize 0 ≠ 0 →
    (s.writable a .dictWinGo (accessorNo a) 1 → (c.objBytes row n).length ≤ 0x40000 →
      ∃ t, exec (.winSnapshot fn) s = .next t ∧ slice 0 (c.objBytes row n).length (t.window fn) = c.objBytes row n ∧ done t)
    ∧ (∀ x : Int, s.writable a .dictWinGo (accessorNo a) 4 → row.ty.bytes = 0 →
        tabFind (s.stageCtx (stageCtxOf a)).doms (objKey row.obj n) = none →
        tabFind (s.stageCtx (stageCtxOf a)).vals (objKey row.obj n) = some x →
      ∃ t, exec (.winReadStaged fn) s = .next t ∧ slice 0 8 (t.window fn) = leBytes 8 (toField 64 x) ∧ done t))
  ∧ (∀ (s : State) (fn : Fin 64) (row : ObjRow) (n w b : Nat),
    let a := fnAccessor fn
    s.obj .memDdrSize 0 ≠ 0 →
    (s.writable a .dictWinGo (accessorNo a) 3 → 0 < w → groupWords (slice 0 256 (s.window fn)) = [w] →
        rowFor a (w / 256) = some (row, n) → s.reach a (w / 256 / 256) = some .ok →
        s.readStatus a row.obj n = .ok → row.ty.bytes = 0 →
      ∃ t, exec (.winGroupRead fn) s = .next t
        ∧ slice 512 8 (t.window fn) = leBytes 8 (toField 64 ((s.countAccess a).readObj row.obj n))
        ∧ t = { s with objs := t.objs, windows := t.windows, unacked := t.unacked })
    ∧ (s.writable a .dictWinGo (accessorNo a) 2 → row.ty = .unsigned b → row.acc ≠ .rws →
        plainWrite s a (s.winTarget a) row n (leNat (slice 0 b (s.window fn))) →
      ∃ t, exec (.winWrite fn) s = .next t ∧ t.obj row.obj n = leNat (slice 0 b (s.window fn)) ∧ t.windows = s.windows))

/-- O51. Staged configuration. A `STAGE_COMMIT` whose instant lies far enough ahead, and whose sets pass every check, arms the
context for that instant; one too late is refused with COMMIT_LATE. A cancel empties the context. When device time reaches
the instant, the staged value is in force, the context is OPEN and empty, and the commit is counted (R465 to R469, R482).
The order of the checks is the model's reading (log entry 61). -/
def Obligations.StagedConfiguration : Prop :=
  (∀ (s : State) (a : Accessor) (k : Fin 64) (v : BitVec 64) (place : List (Nat × Nat)) (T : Int),
    let c := s.countAccess a
    s.writable a .stageCommit k v.toNat → stageGate a k = .ok → s.stageArmed k = false → c.commitInstant k v.toNat = some T →
    (s.now + s.obj .stageLead 0 * 1000 ≤ T → (∃ h, c.armSim k T place = .ok h) →
      ∃ t, exec (.stageCommit a k v place) s = .next t ∧ t.obj .stageState k = 1 ∧ t.obj .stageTime k = T
        ∧ t.obj .stageResult k = lastStatusWord .ok 0 ∧ t.obj .stageRefused 0 = s.obj .stageRefused 0
        ∧ (t.stageCtx k).vals = (s.stageCtx k).vals ∧ (t.stageCtx k).doms = (s.stageCtx k).doms)
    ∧ (T < s.now + s.obj .stageLead 0 * 1000 →
      ∃ t, exec (.stageCommit a k v place) s = .next t ∧ t.obj .stageState k = s.obj .stageState k
        ∧ t.obj .stageResult k = lastStatusWord .commitLate 0
        ∧ t.obj .stageRefused 0 = (s.obj .stageRefused 0 + 1) % 4294967296
        ∧ t.obj .dictLastStatus (accessorNo a) = lastStatusWord .commitLate (objAddr .stageCommit k)
        ∧ t = { s with objs := t.objs }
        ∧ s.sameObjsBut t ([(.stageResult, k.val), (.stageRefused, 0), (.lodgeRefused, classNo a.cls)] ++ lodgeObjs a)))
  ∧ (∀ (s : State) (a : Accessor) (k : Fin 64) (v : Nat), s.writable a .stageCancel k v → stageGate a k = .ok →
    ∃ t, exec (.stageCancel a k v) s = .next t ∧ t.stageCtx k = StageSt.reset ∧ t.obj .stageState k = 0
      ∧ t.obj .stageTime k = 0 ∧ (∀ j : Nat, j ≠ k → t.stageCtx j = s.stageCtx j)
      ∧ t = { s with objs := t.objs, staged := t.staged, steer := t.steer, txMaps := t.txMaps, unacked := t.unacked }
      ∧ s.sameObjsBut t ([(.stageState, k.val), (.stageTime, k.val), (.stageUsed, k.val)] ++ lodgeObjs a))
  ∧ (∀ (s : State) (tc : Int) (k : Nat) (o : Obj) (n : Nat) (x : Int), s.armOrder = [(tc, k)] → tc ≤ s.now →
      (s.stageCtx k).vals = [(objKey o n, x)] → (s.stageCtx k).doms = [] → (s.stageCtx k).cfgs = [] →
      (s.stageCtx k).removed = [] → (objRow o).acc = .rws → objOfNo (objKey o n) = o → objKey o n / 1024 = n →
      (∀ e, e < 8 → s.watchState e < 2) →
    ∃ t, exec .stageCommitApply s = .next t ∧ t.obj o n = x ∧ t.stageCtx k = StageSt.reset ∧ t.obj .stageState k = 0
      ∧ t.obj .stageLastApplied k = tc ∧ t.obj .stageCommits 0 = (s.obj .stageCommits 0 + 1) % 4294967296
      ∧ (∀ c, t.hallOf c = s.hallOf c) ∧ t.mem = s.mem)

/-- O52. NAP, ARP, the management port and the I3C target. READ answers the value in force, READ_STAGED that of the accessor's
context, WRITE writes, and DOMAIN_READ and DOMAIN_WRITE move a DOMAIN in pieces through the session's record. A request
that is not well formed is dropped and counted; one with the last SEQ is answered again, one behind it dropped, each
counted; a later one executes, and the record keeps its SEQ and its reply. An ARP request for the NAP address is answered.
The management port hands NAP and ARP on and counts the rest. The target answers each of its common command codes (R400,
R464, R474 to R478, R523). When a request is malformed, and the target's identity, are the model's (log entries 84 and
85). -/
def Obligations.NapAndManagement : Prop :=
  (∀ (s : State) (a : Accessor) (addr : BitVec 24),
    (∀ row n, readable s a addr.toNat row n →
      (∃ t, exec (.napRead a addr) s = .next t
        ∧ t.outbox = .nap a (opReply 1 0 addr.toNat false (beBytes 8 (toField 64 (s.readObj row.obj n)))) :: s.outbox
        ∧ t.obj .lodgeAccesses (classNo a.cls) = (s.obj .lodgeAccesses (classNo a.cls) + 1) % 4294967296
        ∧ t = { s with objs := t.objs, outbox := t.outbox } ∧ s.sameObjsBut t [(.lodgeAccesses, classNo a.cls)])
      ∧ (∃ t, exec (.napReadStaged a addr) s = .next t
        ∧ t.outbox = .nap a (opReply 6 0 addr.toNat false (beBytes 8
            (((tabFind (s.stageCtx (stageCtxOf a)).vals (objKey row.obj n)).map (fun v => toField 64 v)).getD
              (toField 64 (s.readObj row.obj n))))) :: s.outbox
        ∧ t = { s with objs := t.objs, outbox := t.outbox } ∧ s.sameObjsBut t [(.lodgeAccesses, classNo a.cls)]))
    ∧ (∀ row n x, ∀ v : BitVec 64, plainWrite s a addr.toNat row n x → row.ty.bytes = 0 →
        slotValue row.ty 8 v.toNat = some x → row.acc ≠ .rws → objAddr row.obj n < 2 ^ 24 →
      ∃ t, exec (.napWrite a addr v) s = .next t ∧ t.obj row.obj n = x
        ∧ t.outbox.head? = some (.nap a (opReply 2 0 addr.toNat false [])))
    ∧ (∀ row i, ∀ off n : Nat, rowFor a addr.toNat = some (row, i) → s.reach a (addr.toNat / 256) = some .ok →
        s.readStatus a row.obj i = .ok → row.ty.bytes ≠ 0 → n ≤ 1024 → off + n ≤ row.ty.bytes →
      let x := s.nap (napRecord a)
      (off = 0 → ∃ t, exec (.napDomainRead a addr off n) s = .next t
        ∧ t.outbox = .nap a (opReply 4 0 addr.toNat false (slice 0 n (s.liveDom row.obj i))) :: s.outbox
        ∧ t.nap (napRecord a) = { x with snapObj := addr.toNat, snap := s.liveDom row.obj i }
        ∧ t = { s with objs := t.objs, naps := t.naps, outbox := t.outbox })
      ∧ (off ≠ 0 → x.snapObj = addr.toNat → ∃ t, exec (.napDomainRead a addr off n) s = .next t
        ∧ t.outbox = .nap a (opReply 4 0 addr.toNat false (slice off n x.snap)) :: s.outbox
        ∧ t.nap (napRecord a) = x))
    ∧ (∀ row i, ∀ (off : Nat) (data : List Byte), rowFor a addr.toNat = some (row, i) → row = objRow row.obj →
        s.reach a (addr.toNat / 256) = some .ok → s.reach a (objAddr row.obj i / 256) = some .ok →
        s.writeGate a row.obj i row.lo .ok = .ok → row.ty.bytes ≠ 0 → data.length ≤ 1024 → off + data.length ≤ row.ty.bytes →
      let x := s.nap (napRecord a)
      let asm := overlay off data (if x.asmObj = addr.toNat then x.asm else [])
      (∃ t, exec (.napDomainWrite a addr off data false) s = .next t
        ∧ t.nap (napRecord a) = { x with asmObj := addr.toNat, asm := asm }
        ∧ t.outbox = .nap a (opReply 5 0 addr.toNat false []) :: s.outbox
        ∧ t = { s with objs := t.objs, naps := t.naps, outbox := t.outbox })
      ∧ (asm.length = row.ty.bytes → row.acc ≠ .rws → row.obj ≠ .shWatchTable → row.obj ≠ .apMap →
        ∃ t, exec (.napDomainWrite a addr off data true) s = .next t ∧ t.dom row.obj i = asm
          ∧ (t.nap (napRecord a)).asm = [] ∧ (t.nap (napRecord a)).asmObj = 0)))
  ∧ (∀ (s : State) (p : Fin 49) (l d : List Byte) (ip : Nat), s.napIp p = some ip → udpDst l = some (38496, ip) →
      udpPayload l = some d → s.reach ⟨if p.val = 48 then .m else .f, 0⟩ 0x1000 = some .ok →
    let c : PortClass := if p.val = 48 then .m else .f
    let x := beNat (slice 0 16 d)
    (napParse d = none →
      ∃ t, exec (.napRequest p l) s = .next t ∧ t.obj .napMalformed 0 = (s.obj .napMalformed 0 + 1) % 4294967296
        ∧ t = { s with objs := t.objs } ∧ s.sameObjsBut t [(.napMalformed, 0)])
    ∧ (∀ ops k, napParse d = some ops →
        (List.range 32).find? (fun k => (s.nap k).valid && decide ((s.nap k).session = nhSession x)) = some k →
      let y := s.nap k
      (nhSeq x = y.seq → y.busy = false → y.port < 48 →
        ∃ t, exec (.napRequest p l) s = .next t ∧ t.obj .napDuplicates 0 = (s.obj .napDuplicates 0 + 1) % 4294967296
          ∧ (∃ e, t.txOffers = s.txOffers ++ [e] ∧ e.port = y.port ∧ e.body = y.frame)
          ∧ t = { s with objs := t.objs, txOffers := t.txOffers } ∧ s.sameObjsBut t [(.napDuplicates, 0)])
      ∧ (nhSeq x ≠ y.seq → seqBelow (nhSeq x) y.seq = true →
        ∃ t, exec (.napRequest p l) s = .next t ∧ t.obj .napStale 0 = (s.obj .napStale 0 + 1) % 4294967296
          ∧ t = { s with objs := t.objs } ∧ s.sameObjsBut t [(.napStale, 0)])
      ∧ (∀ o row n, nhSeq x ≠ y.seq → seqBelow (nhSeq x) y.seq = false → ops = [o] → o.op = 1 →
          readable s ⟨c, k⟩ o.addr row n → 32 ≤ s.napRoom p → noneWaits s k →
        ∃ t, exec (.napRequest p l) s = .next t ∧ (t.nap k).seq = nhSeq x ∧ (t.nap k).port = p.val ∧ (t.nap k).busy = false
          ∧ (t.nap k).reply
              = replyHead x 0 16 ++ opReply 1 0 o.addr o.fin (beBytes 8 (toField 64 (s.readObj row.obj n))))))
  ∧ (∀ (s : State) (p : Fin 49) (l : List Byte) (ip : Nat), s.napIp p = some ip → isArpFor ip l = true →
    ∃ t, exec (.arpRequest p l) s = .next t
      ∧ (p.val = 48 → t.outbox = .mgmt (padded (arpReply (s.portMac p) l)) :: s.outbox ∧ t.txOffers = s.txOffers)
      ∧ (p.val < 48 → ∃ e, t.txOffers = s.txOffers ++ [e] ∧ e.port = p.val ∧ e.body = arpReply (s.portMac p) l)
      ∧ t = { s with txOffers := t.txOffers, outbox := t.outbox })
  ∧ (∀ (s : State) (f : RxFrame) (ip : Nat), s.obj .mgmtState 0 = portUp → f.code = false → f.fcs = true →
      63 < frameLen f.body → frameLen f.body ≤ s.objN .mgmtMaxFrame 0 + 4 * tagCount f.body → s.obj .pwrState 0 ≤ 1 →
      s.napIp 48 = some ip →
    (isArpFor ip f.body = true ∨ udpDst f.body = some (38496, ip) →
      ∃ t, exec (.mgmtFrameReceive f) s = .next t ∧ t = s.send (.handed 2 48 f.body))
    ∧ (isArpFor ip f.body = false → udpDst f.body ≠ some (38496, ip) →
      ∃ t, exec (.mgmtFrameReceive f) s = .next t ∧ t.obj .mgmtUnclaimed 0 = (s.obj .mgmtUnclaimed 0 + 1) % 4294967296
        ∧ t = { s with objs := t.objs } ∧ s.sameObjsBut t [(.mgmtUnclaimed, 0)]))
  ∧ (∀ s : State,
    (s.obj .pwrState 0 ≠ 4 → ∃ t, exec .mgmtLinkUp s = .next t ∧ t.obj .mgmtState 0 = portUp
      ∧ t = { s with objs := t.objs } ∧ s.sameObjsBut t [(.mgmtState, 0)])
    ∧ (s.obj .mgmtState 0 = portUp → ∃ t, exec .mgmtLinkDown s = .next t ∧ t.obj .mgmtState 0 = portDown
      ∧ t = { s with objs := t.objs } ∧ s.sameObjsBut t [(.mgmtState, 0)]))
  ∧ (∀ s : State, s.i3cOn = true →
    (∀ d : List Byte,
      (1056 < d.length ∨ napParse d = none → s.reach ⟨.b, 0⟩ 0x1000 = some .ok →
        ∃ t, exec (.i3cPrivateWrite d) s = .next t ∧ t.i3c.ready = false
          ∧ t.obj .napMalformed 0 = (s.obj .napMalformed 0 + 1) % 4294967296
          ∧ t = { s with objs := t.objs, i3c := t.i3c } ∧ s.sameObjsBut t [(.napMalformed, 0)])
      ∧ (∀ o row n, d.length ≤ 1056 → napParse d = some [o] → o.op = 1 → s.reach ⟨.b, 0⟩ 0x1000 = some .ok →
          readable s ⟨.b, 32⟩ o.addr row n → noneWaits s 32 → (s.nap 32).valid = false →
        ∃ t, exec (.i3cPrivateWrite d) s = .next t ∧ t.i3c.ready = true
          ∧ (t.nap 32).session = nhSession (beNat (slice 0 16 d)) ∧ (t.nap 32).seq = nhSeq (beNat (slice 0 16 d))
          ∧ (t.nap 32).reply = replyHead (beNat (slice 0 16 d)) 0 16
              ++ opReply 1 0 o.addr o.fin (beBytes 8 (toField 64 (s.readObj row.obj n)))))
    ∧ (∃ t, exec .i3cPrivateRead s = .next t ∧ t.i3c = { s.i3c with ready := false }
        ∧ t.outbox = (if s.i3c.ready then .i3c true (s.nap 32).reply else .i3c false []) :: s.outbox
        ∧ t = { s with i3c := t.i3c, outbox := t.outbox })
    ∧ (∀ sa da : Fin 128, s.i3c.da = none →
      (∃ t, exec (.entdaa da) s = .next t ∧ t.i3c = { s.i3c with da := some da.val }
        ∧ t.outbox = .i3c true (i3cPid ++ [i3cBcr, i3cDcr]) :: s.outbox)
      ∧ (sa.val = 0x5C → ∃ t, exec (.setdasa sa da) s = .next t ∧ t.i3c = { s.i3c with da := some da.val }
        ∧ t.outbox = .i3c true [] :: s.outbox))
    ∧ (∃ t, exec .rstdaa s = .next t ∧ t.i3c = { s.i3c with da := none } ∧ t.outbox = .i3c true [] :: s.outbox)
    ∧ (∃ t, exec .getpid s = .next t ∧ t = s.send (.i3c true i3cPid))
    ∧ (∃ t, exec .getbcr s = .next t ∧ t = s.send (.i3c true [i3cBcr]))
    ∧ (∃ t, exec .getdcr s = .next t ∧ t = s.send (.i3c true [i3cDcr]))
    ∧ (∃ t d, exec .getstatus s = .next t ∧ d.length = 2 ∧ t = s.freeUsed.send (.i3c true d))
    ∧ (∀ ev : BitVec 8, bitAt ev.toNat 0 = true →
      (∃ t, exec (.enec ev) s = .next t ∧ t = { s with i3c := { s.i3c with ibi := true } })
      ∧ (∃ t, exec (.disec ev) s = .next t ∧ t = { s with i3c := { s.i3c with ibi := false } })))

/-- O53. Time. A write of `TIME_SET` steps device time, counted, with an event, unless a carrier is admitted or the clock is
LOCKED. A trigger armed for a time to come waits; one already passed fires late; one reached fires. An offset measured
over a symmetric path is the clock's error, clamped in `TIME_OFFSET`; ρ stays within 100 ppm; a PPS edge gives its offset,
and one more than 100 ms off is rejected (R406, R407, R410, R414 to R416, R421, R423). The servo's terms are free (log
entry 56). -/
def Obligations.TimeAndTriggers : Prop :=
  (∀ (s : State) (a : Accessor) (v : Nat), s.writable a .timeSet 0 v →
    (s.anyCarrier = false → s.obj .timeState 0 ≠ clkLocked →
      ∃ t, exec (.timeSet a v) s = .next t ∧ t.now = v ∧ t.obj .timeFrac 0 = 0
        ∧ t.obj .timeSteps 0 = (s.obj .timeSteps 0 + 1) % 4294967296
        ∧ ⟨.timeStep, unitTime, 0⟩ ∈ t.events
        ∧ (∀ n, n < 16 → t.trigArmed n = (s.trigArmed n && decide ((v : Int) ≤ tabGet 0 s.time.trigs n)))
        ∧ (s.obj .timeTrigStatus 0 = 0 → t.events = ⟨.timeStep, unitTime, 0⟩ :: s.events
          ∧ t = { s with objs := t.objs, time := { s.time with justSet := true }, events := t.events, unacked := t.unacked }
          ∧ s.sameObjsBut t ([(.timeSec, 0), (.timeNs, 0), (.timeFrac, 0), (.timeSteps, 0)] ++ lodgeObjs a)))
    ∧ (s.anyCarrier = true ∨ s.obj .timeState 0 = clkLocked →
      ∃ t, exec (.timeSet a v) s = .next t ∧ t.now = s.now
        ∧ t.obj .dictLastStatus (accessorNo a) = lastStatusWord .state (objAddr .timeSet 0)))
  ∧ (∀ (s : State) (a : Accessor) (n : Fin 16) (v : Nat), s.writable a .timeTrig n v →
    (v / 2 ^ 56 = 0 →
      ∃ t, exec (.timeTrigWrite a n v) s = .next t ∧ t.trigArmed n = false ∧ t.trigLate = s.trigLate
        ∧ t = { s with objs := t.objs, unacked := t.unacked })
    ∧ (v / 2 ^ 56 = 1 ∨ v / 2 ^ 56 = 2 → s.now ≤ trigValue s.now v →
      ∃ t, exec (.timeTrigWrite a n v) s = .next t ∧ t.trigArmed n = true ∧ t.obj .timeTrig n = v
        ∧ tabGet 0 t.time.trigs n = trigValue s.now v ∧ t.trigLate = s.trigLate
        ∧ (∀ k, k < 16 → k ≠ n.val → t.trigArmed k = s.trigArmed k)
        ∧ t = { s with objs := t.objs, time := t.time, unacked := t.unacked })
    ∧ (v / 2 ^ 56 = 1 ∨ v / 2 ^ 56 = 2 → trigValue s.now v < s.now →
      ∃ t, exec (.timeTrigWrite a n v) s = .next t ∧ trigFired s t n (v / 2 ^ 56) true)
    ∧ (2 < v / 2 ^ 56 →
      ∃ t, exec (.timeTrigWrite a n v) s = .next t ∧ t.obj .timeTrig n = s.obj .timeTrig n
        ∧ t.obj .dictLastStatus (accessorNo a) = lastStatusWord .range (objAddr .timeTrig n) ∧ t = { s with objs := t.objs }))
  ∧ (∀ (s : State) (n : Fin 16), s.timeRuns = true → s.trigArmed n = true → tabGet 0 s.time.trigs n ≤ s.now →
      (∀ k, k < n.val → s.trigArmed k = true → tabGet 0 s.time.trigs n < tabGet 0 s.time.trigs k) →
    ∃ t, exec (.timeTrigFire n) s = .next t ∧ trigFired s t n (s.objN .timeTrig n / 2 ^ 56) false)
  ∧ (∀ (s : State) (p : Fin 48) (t1 t2 t3 t4 cSync cDreq age synce : Int), s.time.slave = some p.val → s.obj .timeSource 0 = 0 →
      age ≤ 1000000000 → s.obj .timeState 0 = clkAcquiring ∨ s.obj .timeState 0 = clkLocked →
    let x := (t2 + s.obj .ptpPortIngLat p / 1000 - t1 - cSync - (t4 - (t3 + s.obj .ptpPortEgrLat p / 1000) - cDreq)
      - 2 * s.obj .ptpPortAsym p) / 2
    (s.outlier x = false →
      ∃ t, exec (.ptpSyncReceive p t1 t2 t3 t4 cSync cDreq age synce) s = .next t ∧ takenOffset s t x)
    ∧ (s.outlier x = true →
      ∃ t, exec (.ptpSyncReceive p t1 t2 t3 t4 cSync cDreq age synce) s = .next t
        ∧ t.obj .ptpOutliers 0 = (s.obj .ptpOutliers 0 + 1) % 4294967296
        ∧ t.time = { s.time with offsets := (x :: s.time.offsets).take 15 }
        ∧ t = { s with objs := t.objs, time := t.time } ∧ s.sameObjsBut t [(.ptpOutliers, 0)]))
  ∧ (∀ s : State, s.obj .timeSource 0 = 1 → s.timeRuns = true → s.time.justSet = false →
    let o := ppsOffset s.now
    let x := o - s.obj .ppsInDelay 0
    (100000000 < |o| → ∃ t, exec .ppsInEdge s = .next t
      ∧ t.obj .ppsInRejects 0 = (s.obj .ppsInRejects 0 + 1) % 4294967296
      ∧ t = { s with objs := t.objs } ∧ s.sameObjsBut t [(.ppsInRejects, 0)])
    ∧ (|o| ≤ 100000000 →
      ∃ t, exec .ppsInEdge s = .next t ∧ t.time.lastPps = some s.now
        ∧ t.obj .timeState 0 = (if s.obj .timeState 0 = clkFreerun ∨ s.obj .timeState 0 = clkHoldover then clkAcquiring
            else s.obj .timeState 0)
        ∧ (s.outlier x = true → t.obj .ptpOutliers 0 = (s.obj .ptpOutliers 0 + 1) % 4294967296 ∧ t.now = s.now)
        ∧ (s.outlier x = false → s.obj .timeState 0 = clkAcquiring ∨ s.obj .timeState 0 = clkLocked → takenOffset s t x)))
  ∧ (∀ s : State, s.obj .ppsOutEn 0 ≠ 0 → s.timeRuns = true → (s.now + s.obj .ppsOutAdvance 0) % 1000000000 < s.obj .ppsOutWidth 0 →
    ∃ t, exec .ppsOutSecond s = .next t ∧ t = { s with pins := { s.pins with ppsOut := true } })

/-- O54. The states of the clock and its sources. A PTP message over UDP is dropped and counted. The second Announce of the
one master heard makes its port the SLAVE and takes the clock from FREERUN to ACQUIRING; a new grandmaster at the slave's
master takes LOCKED to HOLDOVER; so do the loss of the one master and of PPS. `TIME_LOCK_HOLD` ends in LOCKED,
`TIME_HOLDOVER_MAX` in FREERUN. A SyncE source whose port is not UP is disqualified, once. A MASTER port sends Announce
and Sync, the SLAVE port Delay_Req (R408, R409, R413, R414, R417). The choice among masters is that of ITU-T G.8275.1,
which the spec names (log entry 57). -/
def Obligations.ClockStatesAndSources : Prop :=
  (∀ (s : State) (p : Fin 48) (m : PtpMsg),
    (m.udp = true → ∃ t, exec (.ptpMessageReceive p m) s = .next t
      ∧ t.obj .ptpIpDropped 0 = (s.obj .ptpIpDropped 0 + 1) % 4294967296
      ∧ t = { s with objs := t.objs } ∧ s.sameObjsBut t [(.ptpIpDropped, 0)])
    ∧ (m.udp = false → s.ptpActive p = false ∨ (m.domain : Int) ≠ s.obj .ptpDomain 0 ∨ m.announce = false →
      ∃ t, exec (.ptpMessageReceive p m) s = .next t ∧ t = s)
    ∧ (m.udp = false → s.ptpActive p = true → (m.domain : Int) = s.obj .ptpDomain 0 → m.announce = true →
      (tabGet none s.time.masters p = none → s.time.slave ≠ some p.val →
        ∃ t, exec (.ptpMessageReceive p m) s = .next t ∧ tabGet none t.time.masters p = some ⟨m, 1⟩ ∧ t.time.slave ≠ some p.val)
      ∧ (∀ o, tabGet none s.time.masters p = some o → sameMaster o m = true → 1 ≤ o.heard → s.obj .ptpPortNotSlave p = 0 →
          (∀ q : Nat, q ≠ p → tabGet none s.time.masters q = none) → s.obj .timeSource 0 = 0 →
        ∃ t, exec (.ptpMessageReceive p m) s = .next t ∧ t.time.slave = some p.val ∧ t.obj .ptpPortState p = ptpSlave
          ∧ t.obj .timeGmId 0 = m.gmId ∧ t.obj .timeUtcOffset 0 = m.utcOffset
          ∧ (∃ x, tabGet none t.time.masters p = some x ∧ x.msg = m)
          ∧ (s.obj .timeState 0 = clkFreerun ∨ s.obj .timeState 0 = clkHoldover → t.obj .timeState 0 = clkAcquiring)
          ∧ (s.obj .timeState 0 = clkAcquiring ∨ s.obj .timeState 0 = clkLocked → t.obj .timeState 0 = s.obj .timeState 0)
          ∧ t = { s with objs := t.objs, time := t.time })
      ∧ (∀ o, tabGet none s.time.masters p = some o → o.msg.gmId ≠ m.gmId → s.time.slave = some p.val →
          s.obj .timeSource 0 = 0 → s.obj .timeState 0 = clkLocked →
        ∃ t, exec (.ptpMessageReceive p m) s = .next t ∧ t.obj .timeState 0 = clkHoldover ∧ t.obj .timeGmId 0 = m.gmId
          ∧ t.obj .timeHoldovers 0 = (s.obj .timeHoldovers 0 + 1) % 4294967296
          ∧ t.events = ⟨.holdover, unitTime, 0⟩ :: s.events ∧ t.time.holdEntry = s.now
          ∧ t = { s with objs := t.objs, time := t.time, events := t.events })))
  ∧ (∀ (s : State) (p : Fin 48), tabGet none s.time.masters p ≠ none → (∀ q : Nat, q ≠ p → tabGet none s.time.masters q = none) →
      s.time.slave = some p.val → s.obj .timeSource 0 = 0 →
    ∃ t, exec (.announceTimeout p) s = .next t ∧ t.time.slave = none ∧ tabGet none t.time.masters p = none
      ∧ (s.obj .timeState 0 = clkLocked → t.obj .timeState 0 = clkHoldover
          ∧ t.obj .timeHoldovers 0 = (s.obj .timeHoldovers 0 + 1) % 4294967296)
      ∧ (s.obj .timeState 0 = clkAcquiring → s.time.fromHold = false → t.obj .timeState 0 = clkFreerun))
  ∧ (∀ s : State,
    (∀ t0 : Int, s.obj .timeState 0 = clkAcquiring → s.time.lockSince = some t0 → t0 + s.obj .timeLockHold 0 * 1000000000 ≤ s.now →
      ∃ t, exec .timeLockHoldExpire s = .next t ∧ t.obj .timeState 0 = clkLocked
        ∧ t = { s with objs := t.objs } ∧ s.sameObjsBut t [(.timeState, 0)])
    ∧ (s.obj .timeState 0 = clkHoldover → s.time.holdEntry + s.obj .timeHoldoverMax 0 * 1000000000 ≤ s.now →
      ∃ t, exec .holdoverMaxExpire s = .next t ∧ t.obj .timeState 0 = clkFreerun
        ∧ t = { s with objs := t.objs } ∧ s.sameObjsBut t [(.timeState, 0)])
    ∧ (∀ t0 : Int, s.obj .timeSource 0 = 1 → s.time.lastPps = some t0 → t0 + 3000000000 ≤ s.now →
      ∃ t, exec .ppsLoss s = .next t ∧ t.time.lastPps = none
        ∧ (s.obj .timeState 0 = clkLocked → t.obj .timeState 0 = clkHoldover
            ∧ t.obj .timeHoldovers 0 = (s.obj .timeHoldovers 0 + 1) % 4294967296)
        ∧ (s.obj .timeState 0 = clkAcquiring → s.time.fromHold = false → t.obj .timeState 0 = clkFreerun)
        ∧ t = { s with objs := t.objs, time := t.time, events := t.events })
    ∧ (∀ rho : Int, 0 ≤ s.obj .synceSrc 0 → s.obj .synceSrc 0 ≠ 255 → s.time.synceBad = false →
        s.obj .ethPortState (s.objN .synceSrc 0) ≠ portUp ∨ 301465600 < |rho - s.time.synceRho| →
      ∃ t, exec (.synceDisqualify rho) s = .next t ∧ t.time.synceBad = true ∧ t.synceOn = false
        ∧ t.obj .synceLosses 0 = (s.obj .synceLosses 0 + 1) % 4294967296
        ∧ t.events = ⟨.synceLoss, unitTime, s.objN .synceSrc 0⟩ :: s.events
        ∧ (s.obj .synceHybrid 0 ≠ 0 → t.obj .timeRho 0 = max (-6553600000) (min 6553600000 (s.meanRho 1)))
        ∧ (s.obj .synceHybrid 0 = 0 → t.obj .timeRho 0 = s.obj .timeRho 0)
        ∧ t = { s with objs := t.objs, time := t.time, events := t.events }
        ∧ s.sameObjsBut t [(.synceLosses, 0), (.timeRho, 0)]))
  ∧ (∀ (s : State) (p : Fin 48) (kind : Fin 3), s.ptpActive p = true →
      (kind.val < 2 ∧ s.obj .ptpPortState p = ptpMaster) ∨ (kind.val = 2 ∧ s.obj .ptpPortState p = ptpSlave) →
    ∃ t, exec (.ptpTxTimer p kind) s = .next t ∧ t.txOffers.length = s.txOffers.length + 1 ∧ t.txOffers.take s.txOffers.length = s.txOffers
      ∧ (∀ e, t.txOffers.getLast? = some e → e.port = p.val ∧ e.queue = 7 ∧ e.input = 18 ∧ e.launch = 0
          ∧ etherType e.body = 0x88F7 ∧ frameSrc e.body = s.objN .ethMacAddr p
          ∧ (e.body.getD 14 0).toNat % 16 = (if kind.val = 0 then 11 else if kind.val = 1 then 0 else 1))
      ∧ t = { s with txOffers := t.txOffers, freeCtr := t.freeCtr })

/-- O55. Job rings and the host link. A doorbell of the ring's owner in range moves the tail or the head, one out of range is
counted, any other ignored and counted. A descriptor with the next SEQ and the ring's epoch is accepted, in a pair once
the standby has it; one without stops the ring. An accepted job starts, is rejected by the first failing check, or
expires; at its gate its outcome and record are fixed; the record is written in SEQ order and signalled. Enabling sets the
ring's counts from `JR_SEQ_START`; a reset of the function disables its rings. The aperture reads and writes through a
valid entry and refuses any other (R427, R430, R431, R433 to R446, R448). The order of a job's checks is the model's
reading (log entry 64). -/
def Obligations.JobRingsAndHostLink : Prop :=
  (∀ (s : State) (fn : Fin 64) (r : Fin 256) (off wid : Nat) (v : BitVec 64), s.obj .pairRole 0 ≠ 2 → s.pcieUp = true →
    (off ≠ 0 ∨ wid ≠ 8 ∨ s.bellOpen fn r = false →
      ∃ t, exec (.jrTailDoorbell fn r off wid v) s = .next t
        ∧ t.obj .pcieDbIgnored 0 = (s.obj .pcieDbIgnored 0 + 1) % 4294967296
        ∧ t = { s with objs := t.objs } ∧ s.sameObjsBut t [(.pcieDbIgnored, 0)])
    ∧ (off = 0 → wid = 8 → s.bellOpen fn r = true →
      ((s.ring r).tail ≤ v.toNat → v.toNat ≤ s.objN .jrAccepted r + s.objN .jrCount r →
        ∃ t, exec (.jrTailDoorbell fn r off wid v) s = .next t ∧ t = s.setRing r { s.ring r with tail := v.toNat })
      ∧ (v.toNat < (s.ring r).tail ∨ s.objN .jrAccepted r + s.objN .jrCount r < v.toNat →
        ∃ t, exec (.jrTailDoorbell fn r off wid v) s = .next t
          ∧ t.obj .jrBadDoorbells r = (s.obj .jrBadDoorbells r + 1) % 4294967296
          ∧ t = { s with objs := t.objs } ∧ s.sameObjsBut t [(.jrBadDoorbells, r.val)]))
    ∧ (s.bellOpen fn r = false →
      ∃ t, exec (.crHeadDoorbell fn r v) s = .next t
        ∧ t.obj .pcieDbIgnored 0 = (s.obj .pcieDbIgnored 0 + 1) % 4294967296
        ∧ t = { s with objs := t.objs } ∧ s.sameObjsBut t [(.pcieDbIgnored, 0)])
    ∧ (s.bellOpen fn r = true → v.toNat < s.objN .crHead r ∨ s.objN .crWritten r < v.toNat →
      ∃ t, exec (.crHeadDoorbell fn r v) s = .next t
        ∧ t.obj .jrBadDoorbells r = (s.obj .jrBadDoorbells r + 1) % 4294967296
        ∧ t = { s with objs := t.objs } ∧ s.sameObjsBut t [(.jrBadDoorbells, r.val)])
    ∧ (s.bellOpen fn r = true → s.objN .crHead r ≤ v.toNat → v.toNat ≤ s.objN .crWritten r →
      ∃ t, exec (.crHeadDoorbell fn r v) s = .next t
        ∧ (aloneHere s → t.obj .crHead r = v.toNat
          ∧ (∀ j ∈ (s.ring r).jobs, j.st ≠ 6 ∨ v.toNat ≤ j.seq → j ∈ (t.ring r).jobs))
        ∧ (¬aloneHere s → t.obj .crHead r = s.obj .crHead r
          ∧ ∃ x, t.dravutOut = s.dravutOut ++ [x] ∧ x.ty = 2 ∧ x.payload = beBytes 1 r.val ++ beBytes 8 v.toNat)))
  ∧ (∀ (s : State) (r : Fin 256) (ok : Bool) (desc : BitVec 512) (prach : Bool), s.mayAccept r = true →
    let q := (s.ring r).fetch
    (ok = true → jdSeq desc.toNat = q → jdEpoch desc.toNat = s.objN .jrEpoch r → s.journal.length < 1048576 →
        s.obj .jrAccepted r = q → (∀ j ∈ (s.ring r).jobs, j.seq ≠ q) →
      ∃ t, exec (.jobAcceptance r ok desc prach) s = .next t ∧ (t.ring r).fetch = q + 1
        ∧ (∃ j, t.job r q = some j ∧ j.desc = desc.toNat ∧ j.st = 0)
        ∧ (aloneHere s → t.obj .jrAccepted r = ((q + 1 : Nat) : Int)
          ∧ t.obj .jrJobsAccepted r = (s.obj .jrJobsAccepted r + 1) % 4294967296)
        ∧ (¬aloneHere s → t.obj .jrAccepted r = s.obj .jrAccepted r))
    ∧ (∀ why : Nat, (why = 3 ∧ ok = false) ∨ (why = 1 ∧ ok = true ∧ jdSeq desc.toNat ≠ q)
          ∨ (why = 2 ∧ ok = true ∧ jdSeq desc.toNat = q ∧ jdEpoch desc.toNat ≠ s.objN .jrEpoch r) →
      ∃ t, exec (.jobAcceptance r ok desc prach) s = .next t ∧ t.obj .jrState r = 2
        ∧ t.obj .jrLastError r = ((why * 2 ^ 24 + q % 2 ^ 24 : Nat) : Int)
        ∧ t = { s with objs := t.objs, outbox := t.outbox, msixPending := t.msixPending }
        ∧ s.sameObjsBut t [(.jrState, r.val), (.jrLastError, r.val)]))
  ∧ (∀ (s : State) (r : Fin 256) (q : Nat) (j : JobSt), s.job r q = some j → s.obj .pairRole 0 ≠ 2 →
    (j.st < 2 → q < s.objN .jrAccepted r →
      (∀ rd : JobRead, s.jobPast j = false → jdFence j.desc = false ∨ s.fenceOpen r j = true →
        (∀ reason detail, s.jobChecks r j rd = some (reason, detail) →
          ∃ t, exec (.jobStart r q rd) s = .next t
            ∧ t.job r q = some { j with st := 3, outcome := outRejected, reason := reason, detail := detail }
            ∧ t = { s with rings := t.rings })
        ∧ (s.jobChecks r j rd = none →
          let deps := rd.deps.take (jdDepCount j.desc)
          let failed := decide (∃ p ∈ deps, s.depState p = 2) && !jdDepAny j.desc
          let waits := decide (∃ p ∈ deps, s.depState p = 0)
          (failed = true →
            ∃ t, exec (.jobStart r q rd) s = .next t
              ∧ t.job r q = some { j with st := 3, outcome := outRejected, reason := 0x06, detail := 0 }
              ∧ t = { s with rings := t.rings })
          ∧ (failed = false → waits = true →
            ∃ t, exec (.jobStart r q rd) s = .next t ∧ t.job r q = some { j with st := 1, deps := deps }
              ∧ t = { s with rings := t.rings })
          ∧ (failed = false → waits = false → jdType j.desc = 0 →
            ∃ t, exec (.jobStart r q rd) s = .next t ∧ t.job r q = some { j with st := 3 } ∧ t = { s with rings := t.rings })
          ∧ (∀ code : Nat, failed = false → waits = false → jdType j.desc ≠ 0 → rd.bad = some code →
            ∃ t, exec (.jobStart r q rd) s = .next t
              ∧ (∃ x, t.job r q = some x ∧ x.st = 3 ∧ x.outcome = outRejected ∧ x.reason = 0x08 ∧ x.detail = code % 2 ^ 24)
              ∧ t = { s with rings := t.rings })
          ∧ (failed = false → waits = false → jdType j.desc ≠ 0 → rd.bad = none →
            (jobP5 (jdType j.desc) = false →
              let h := s.hallAt (s.slotStart (jdCarrier j.desc) j.slot) (jdCarrier j.desc)
              ∃ t, exec (.jobStart r q rd) s = .next t
                ∧ t.job r q = some (if (s.unit (unitHall h)).st = unitRunning then { j with st := 2, hall := h } else j)
                ∧ t = { s with rings := t.rings })
            ∧ (jobP5 (jdType j.desc) = true →
              ∃ t, exec (.jobStart r q rd) s = .next t ∧ ∃ x, t.job r q = some x ∧ x.st = 3
                ∧ (rd.cfg = none → x.outcome = j.outcome ∧ x.result = jobResult j.desc [rd.resp] ∧ t = { s with rings := t.rings })))))
      ∧ (s.jobPast j = true →
        ∃ t, exec (.jobExpire r q) s = .next t
          ∧ t.job r q = some { j with st := 3, outcome := outExpired, reason := if j.st = 1 then 0x11 else 0x10, detail := 0 }
          ∧ t = { s with rings := t.rings }))
    ∧ (∀ msgs : List (List Byte), j.st = 2 ∨ j.st = 3 → j.outcome < 16 → j.reason < 256 →
      let isLate := s.jobLate j
      let miss := decide (j.outcome = 0) && jobDownlink (jdType j.desc) && decide (s.missedIn (jdCarrier j.desc) j.slot ≠ 0)
      ∃ t, exec (.completionGate r q msgs) s = .next t ∧ ∃ x, t.job r q = some x ∧ x.desc = j.desc
        ∧ x.st = (if (s.mirroring = true ∧ s.obj .pairMirror 0 ≠ 0) then 4 else 5)
        ∧ x.outcome = (if j.outcome ≠ 0 then j.outcome else if j.redo then outRedone
            else if isLate || miss then outDoneLate else outDone)
        ∧ x.reason = j.reason
        ∧ (let w := leNat x.record
           x.record.length = 32 ∧ bits w 255 192 = q % 2 ^ 64 ∧ bits w 191 128 = toField 64 s.now ∧ bits w 127 112 = jdTag j.desc
             ∧ bits w 111 104 = jdType j.desc ∧ bits w 103 100 = x.outcome ∧ bitAt w 99 = isLate ∧ bitAt w 97 = miss
             ∧ bits w 63 56 = j.reason
             ∧ bits w 55 32 = (if miss then s.missedIn (jdCarrier j.desc) j.slot else j.detail) % 2 ^ 24
             ∧ bits w 31 0 = jdEpoch j.desc))
    ∧ (j.st = 5 → s.obj .crWritten r = q → s.obj .jrState r ≠ 0 → s.busMaster (s.objN .jrOwner r) = true →
      ∃ t, exec (.completionRecordWrite r) s = .next t ∧ t.obj .crWritten r = ((q + 1 : Nat) : Int)
        ∧ t.job r q = some { j with st := 6 }
        ∧ .host (s.objN .jrOwner r) (s.objN .crBase r + 32 * (j.seq % max 1 (s.objN .crCount r))) j.record ∈ t.outbox
        ∧ (jdNoIrq j.desc = false → s.obj .jrCoalesce r = 0 →
            s.msixMasked.contains (32 * s.objN .jrOwner r + s.objN .jrVector r) = false →
            t.outbox.head? = some (.msix (s.objN .jrOwner r) (s.objN .jrVector r)))
        ∧ t.obj .jrDoneLate r = (if j.outcome = outDoneLate then (s.obj .jrDoneLate r + 1) % 4294967296 else s.obj .jrDoneLate r)
        ∧ t.obj .jrExpired r = (if j.outcome = outExpired then (s.obj .jrExpired r + 1) % 4294967296 else s.obj .jrExpired r)
        ∧ t.obj .jrRejected r = (if j.outcome = outRejected then (s.obj .jrRejected r + 1) % 4294967296 else s.obj .jrRejected r)
        ∧ t.obj .jrRedone r = (if j.outcome = outRedone then (s.obj .jrRedone r + 1) % 4294967296 else s.obj .jrRedone r)
        ∧ t = { s with objs := t.objs, rings := t.rings, outbox := t.outbox, msixPending := t.msixPending }))
  ∧ (∀ (s : State) (r : Fin 256) (t0 : Int), (s.ring r).unsignalled = some t0 → t0 + s.obj .jrCoalesce r ≤ s.now →
    ∃ t, exec (.jrCoalesceExpire r) s = .next t ∧ t.ring r = { s.ring r with unsignalled := none }
      ∧ (if s.msixMasked.contains (32 * s.objN .jrOwner r + s.objN .jrVector r)
          then t.outbox = s.outbox ∧ 32 * s.objN .jrOwner r + s.objN .jrVector r ∈ t.msixPending
          else t.outbox = .msix (s.objN .jrOwner r) (s.objN .jrVector r) :: s.outbox ∧ t.msixPending = s.msixPending))
  ∧ (∀ (s : State) (a : Accessor) (r : Fin 256) (v : Nat),
    (s.writable a .jrEnable r v → v ≠ 0 → s.obj .jrState r = 0 → s.ringReady r = true →
      ∃ t, exec (.jrEnableWrite a r v) s = .next t ∧ t.obj .jrState r = 1 ∧ t.obj .jrEnable r = 1
        ∧ t.obj .jrEpoch r = (s.obj .jrEpoch r + 1) % 4294967296 ∧ t.obj .jrAccepted r = s.obj .jrSeqStart r
        ∧ t.obj .crWritten r = s.obj .jrSeqStart r ∧ t.obj .crHead r = s.obj .jrSeqStart r
        ∧ t.ring r = ⟨s.objN .jrSeqStart r, s.objN .jrSeqStart r, none, []⟩
        ∧ t = { s with objs := t.objs, rings := t.rings, unacked := t.unacked }
        ∧ s.sameObjsBut t ([(.jrState, r.val), (.jrEnable, r.val), (.jrEpoch, r.val), (.jrAccepted, r.val),
            (.crWritten, r.val), (.crHead, r.val)] ++ lodgeObjs a))
    ∧ (s.writable a .jrEnable r v → v ≠ 0 → s.obj .jrState r = 0 → s.ringReady r = false →
      ∃ t, exec (.jrEnableWrite a r v) s = .next t ∧ t.obj .jrState r = 0 ∧ t.ring r = s.ring r
        ∧ t.obj .dictLastStatus (accessorNo a) = lastStatusWord .state (objAddr .jrEnable r))
    ∧ (s.writable a .jrEnable r v → v = 0 → s.obj .jrState r ≠ 0 →
      (s.objN .jrAccepted r ≤ s.objN .crHead r →
        ∃ t, exec (.jrEnableWrite a r v) s = .next t ∧ t.obj .jrState r = 0 ∧ t.ring r = RingSt.reset)
      ∧ (s.objN .crHead r < s.objN .jrAccepted r →
        ∃ t, exec (.jrEnableWrite a r v) s = .next t ∧ t.obj .jrState r = s.obj .jrState r ∧ t.ring r = s.ring r
          ∧ t.obj .dictLastStatus (accessorNo a) = lastStatusWord .state (objAddr .jrEnable r)))
    ∧ (s.writable a .jrResume r v → s.obj .jrState r = 2 →
      ∃ t, exec (.jrResume a r v) s = .next t ∧ t.obj .jrState r = 1
        ∧ t = { s with objs := t.objs, unacked := t.unacked } ∧ s.sameObjsBut t ((.jrState, r.val) :: lodgeObjs a)))
  ∧ (∀ (s : State) (fn : Fin 64),
    (∃ t, exec (.functionLevelReset fn) s = .next t ∧ fn.val ∉ t.bme
      ∧ (∀ k ∈ t.msixMasked ++ t.msixPending, k / 32 ≠ fn.val)
      ∧ ∀ r, r < 256 →
        (s.objN .jrOwner r = fn.val → s.obj .jrState r ≠ 0 → t.obj .jrState r = 0 ∧ t.ring r = RingSt.reset
          ∧ t.obj .jrFlrDiscards r = (s.obj .jrFlrDiscards r + (((s.ring r).jobs.filter (fun j =>
              decide (j.seq < s.objN .jrAccepted r) && decide (j.st ≠ 6))).length : Nat)) % 4294967296)
        ∧ (s.objN .jrOwner r ≠ fn.val → t.obj .jrState r = s.obj .jrState r ∧ t.ring r = s.ring r))
    ∧ (∃ t, exec (.pcieLinkDown true fn) s = .next t ∧ t.obj .pcieLinkSpeed 0 = 0 ∧ t.obj .pcieLinkWidth 0 = 0
      ∧ t = { s with objs := t.objs } ∧ s.sameObjsBut t [(.pcieLinkSpeed, 0), (.pcieLinkWidth, 0)])
    ∧ (∃ t, exec (.pcieLinkDown false fn) s = .next t ∧ fn.val ∉ t.bme ∧ t = { s with bme := t.bme })
    ∧ (∀ speed width vfs : Nat, 1 ≤ speed → speed ≤ 5 → [1, 2, 4, 8, 16].contains width = true → vfs ≤ 63 →
      ∃ t, exec (.pcieLinkUp true fn speed width vfs) s = .next t ∧ t.obj .pcieLinkSpeed 0 = speed
        ∧ t.obj .pcieLinkWidth 0 = width ∧ t.obj .pcieNumVfs 0 = vfs ∧ t = { s with objs := t.objs, outbox := t.outbox })
    ∧ (∀ speed width vfs : Nat, ∃ t, exec (.pcieLinkUp false fn speed width vfs) s = .next t ∧ fn.val ∈ t.bme
        ∧ t = { s with bme := t.bme, outbox := t.outbox }))
  ∧ (∀ (s : State) (fn : Fin 64) (off n x : Nat) (data : List Byte), s.pcieUp = true → s.apEntry fn off = some x →
    let g := bits x 17 0 * 2 ^ 30 + off % 2 ^ 30
    (bitAt x 63 = true → bitAt x 62 = true → s.reachable g data.length = true → s.ownedRegion g data.length = false →
        isRmw g data.length = false ∨ s.upsets = [] →
      ∃ t, exec (.bar4Access fn off true n data) s = .next t ∧ (∀ j, j < data.length → t.byteAt (g + j) = data.getD j 0)
        ∧ ∀ y, ¬(g ≤ y ∧ y < g + data.length) → t.byteAt y = s.byteAt y)
    ∧ (bitAt x 63 = true → s.reachable g n = true →
      ∃ t, exec (.bar4Access fn off false n data) s = .next t
        ∧ t.outbox.head? = some (.aperture fn 0 (s.readMem g n) (s.anyPoison (g / 8 * 8) (wordSpan g n)))
        ∧ (s.upsets = [] → t = s.send (.aperture fn 0 (s.readMem g n) false)))
    ∧ (bitAt x 63 = true → bitAt x 62 = false ∨ s.reachable g data.length = false →
      ∃ t, exec (.bar4Access fn off true n data) s = .next t ∧ t.obj .pcieApLastRefused 0 = (g : Int)
        ∧ t.obj .pcieApRefused 0 = (s.obj .pcieApRefused 0 + 1) % 4294967296 ∧ t.mem = s.mem
        ∧ t = { s with objs := t.objs, outbox := t.outbox, msixPending := t.msixPending })
    ∧ (bitAt x 63 = false →
      ∃ t, exec (.bar4Access fn off false n data) s = .next t ∧ t.outbox.head? = some (.aperture fn 1 [] false)
        ∧ t.obj .pcieApRefused 0 = (s.obj .pcieApRefused 0 + 1) % 4294967296 ∧ t.obj .pcieApLastRefused 0 = (off : Int)
        ∧ t = { s with objs := t.objs, outbox := t.outbox, msixPending := t.msixPending }))

/-- O56. Power states. A request in a state that allows it asks the units in order: when the last of them, the Lodge, agrees,
the entry commits; a unit that refuses rolls it back; one that asks for a delay gets it, up to the cap. The final steps of
S3 and S4 lose the DDR's contents. A wake makes the exit due; the exit and a power-on set up the start ladder, from S3 and
S4 after a reset; each step of the ladder releases one unit. A gate request puts a hall or block to sleep, an ungate wakes
it. VIN and `PWR_EN` take the device to S4 at once, and back; the crossing of `PWR_VIN_WARN` raises an event (R484 to
R505). That one delay is asked for at a time is the model's choice (log entry 71); what a device reset keeps is its
reading (log entry 72). -/
def Obligations.PowerStates : Prop :=
  (∀ (s : State) (a : Accessor) (n target : Nat) (c : Instr),
      (c = .pwrReqS2 a n ∧ target = 2) ∨ (c = .pwrReqS3 a n ∧ target = 3) ∨ (c = .pwrReqS4 a n ∧ target = 4) →
      s.writable a .pwrStateReq 0 target →
    let p := (s.countAccess a).acceptAt a (objAddr .pwrStateReq 0) target
    let l := (askOrder target).filter (fun u => !s.pwrDown target u)
    (s.entryOk target = .ok → s.pwr.wakes = [] →
      (l = [unitLodge] → p.sleepAnswer target unitLodge = .agree →
        ∃ t, exec c s = .next t ∧ entered s t target ∧ (t.unit unitLodge).st = unitSleeping
          ∧ t.pwr.ran = unitLodge :: s.pwr.ran)
      ∧ (∀ u r code, l = u :: r → p.sleepAnswer target u = .refuse code →
        ∃ t, exec c s = .next t ∧ rolledBack s t u code ∧ t.units = s.units ∧ t.mem = s.mem)
      ∧ (∀ u r least most, l = u :: r → p.sleepAnswer target u = .delay least most → 0 < s.objN .pwrDelayCap 0 →
        ∃ t, exec c s = .next t ∧ t.pwr.target = target ∧ t.pwr.todo = l ∧ t.pwr.waiting = true
          ∧ t.pwr.waited = min (max least (min n most)) (s.objN .pwrDelayCap 0) ∧ t.obj .pwrState 0 = s.obj .pwrState 0
          ∧ t = { s with objs := t.objs, pwr := t.pwr, unacked := t.unacked } ∧ s.sameObjsBut t (lodgeObjs a)))
    ∧ (s.entryOk target ≠ .ok →
      ∃ t, exec c s = .next t ∧ t.obj .dictLastStatus (accessorNo a) = lastStatusWord .state (objAddr .pwrStateReq 0)
        ∧ t = { s with objs := t.objs }
        ∧ s.sameObjsBut t ((.lodgeRefused, classNo a.cls) :: lodgeObjs a)))
  ∧ (∀ (s : State) (n u : Nat) (r : List Nat), s.pwr.waiting = true → s.pwr.todo = u :: r →
    let p := { s with pwr := { s.pwr with waiting := false } }
    (∀ least most, p.sleepAnswer s.pwr.target u = .delay least most → s.objN .pwrDelayCap 0 ≤ s.pwr.waited →
      let back := (ladderOrder.map (fun p => p.2)).filter (fun v => s.pwr.stopped.contains v)
      ∃ t, exec (.pwrDelayExpire n) s = .next t
        ∧ t.obj .pwrDelayCapHits 0 = (s.obj .pwrDelayCapHits 0 + 1) % 4294967296
        ∧ (back = [] → rolledBack s t u 6)
        ∧ (back ≠ [] → t.pwr.restart = back ∧ t.pwr.back = some ⟨2, some u, 6⟩ ∧ t.pwr.target = 0 ∧ t.pwr.stopped = []))
    ∧ (∀ least most, p.sleepAnswer s.pwr.target u = .delay least most → s.pwr.waited < s.objN .pwrDelayCap 0 →
      ∃ t, exec (.pwrDelayExpire n) s = .next t ∧ t.pwr.waiting = true
        ∧ t.pwr.waited = s.pwr.waited + min (max least (min n most)) (s.objN .pwrDelayCap 0 - s.pwr.waited) ∧ t = { s with pwr := t.pwr })
    ∧ (p.sleepAnswer s.pwr.target u = .agree → r = [] → s.pwr.wakes = [] → s.pwr.target = 2 ∨ s.pwr.target = 3 →
        u = 400 ∨ (274 ≤ u ∧ u ≤ 278) → (s.unit u).st = unitRunning →
      ∃ t, exec (.pwrDelayExpire n) s = .next t ∧ entered s t s.pwr.target ∧ (t.unit u).st = unitSleeping))
  ∧ (∀ s : State, s.pwr.committed = true →
    (s.pwr.target = 2 → s.pwr.wakes = [] → s.obj .pwrWakeAt 0 = 0 →
      ∃ t, exec .pwrStateReached s = .next t
        ∧ t = { s with pwr := { s.pwr with target := 0, stopped := [], committed := false } })
    ∧ (s.pwr.target = 2 → s.pwr.wakes ≠ [] → s.obj .pwrWakeAt 0 = 0 → s.obj .pwrState 0 = 2 → s.obj .startRung 0 = 0 →
        s.pwr.back = none → s.therm.hold = false →
      ∃ t, exec .pwrStateReached s = .next t ∧ t.pwr.committed = false ∧ t.pwr.exitDue = true
        ∧ t.obj .pwrLastWake 0 = (s.pwr.wakes.foldl min 255 : Nat))
    ∧ (s.pwr.target = 3 ∨ s.pwr.target = 4 →
      ∃ t, exec .pwrStateReached s = .next t ∧ t.pwr.committed = false ∧ t.pwr.target = 0
        ∧ (∀ c, c < 8 → t.obj .ddrState c = ddrOff) ∧ (s.txQueue = [] → ∀ x, s.inDdr x 1 = true → t.byteAt x = 0)
        ∧ (s.pwr.target = 4 → t.pwr.wakes = [] ∧ t.pins.pwrGood = false ∧ t.pins.pairFailOut = true)))
  ∧ (∀ s : State, s.pwr.target = 0 → s.obj .startRung 0 = 0 → s.pwr.committed = false → s.therm.hold = false →
      s.pwr.wakes = [] → s.pwr.back = none →
    let woken := fun (t : State) (b : Nat) => t.pwr.exitDue = true ∧ t.pwr.wakes = [b] ∧ t.obj .pwrLastWake 0 = (b : Int)
      ∧ t = { s with objs := t.objs, pwr := t.pwr }
    (s.obj .pwrState 0 = 2 ∨ s.obj .pwrState 0 = 3 → bitAt (s.objN .pwrWakeEn 0) 2 = true →
      ∃ t, exec .wakeNAsserted s = .next t ∧ woken t 2)
    ∧ ((s.obj .pwrState 0 ≠ 2 ∧ s.obj .pwrState 0 ≠ 3) ∨ bitAt (s.objN .pwrWakeEn 0) 2 = false →
      ∃ t, exec .wakeNAsserted s = .next t ∧ t = s)
    ∧ (s.obj .pwrWakeAt 0 ≠ 0 → s.obj .pwrWakeAt 0 ≤ s.now → bitAt (s.objN .pwrWakeEn 0) 3 = true →
      (s.obj .pwrState 0 = 2 → ∃ t, exec .pwrWakeAtReached s = .next t ∧ woken t 3)
      ∧ (s.obj .pwrState 0 = 3 → ∃ t, exec .pwrWakeAtReached s = .next t ∧ t = s))
    ∧ (∀ a : Accessor, s.writable a .pwrStateReq 0 0 → s.obj .pwrState 0 = 2 ∨ s.obj .pwrState 0 = 3 → s.pwrIdle = true →
      ∃ t, exec (.pwrReqWake a) s = .next t ∧ t.pwr.exitDue = true ∧ t.obj .pwrLastWake 0 = 4
        ∧ t = { s with objs := t.objs, pwr := t.pwr, unacked := t.unacked })
    ∧ (∀ a : Accessor, s.writable a .pwrStateReq 0 0 → s.obj .pwrState 0 ≠ 2 → s.obj .pwrState 0 ≠ 3 →
      ∃ t, exec (.pwrReqWake a) s = .next t ∧ t.pwr = s.pwr
        ∧ t.obj .dictLastStatus (accessorNo a) = lastStatusWord .state (objAddr .pwrStateReq 0)))
  ∧ (∀ s : State, s.pwr.exitDue = true →
    let l := ladderOrder.filter (fun p => s.pwr.ran.contains p.2)
    ∃ t, exec .powerExit s = .next t ∧ t.pwr.exitDue = false ∧ t.pwr.wakes = [] ∧ t.pwr.ran = [] ∧ t.pwr.ladder = l
      ∧ (l = [] → t.obj .startRung 0 = 0)
      ∧ (∀ r u rest, l = (r, u) :: rest → t.obj .startRung 0 = (r : Int))
      ∧ t.obj .pwrState 0 = (if t.obj .pwrGated 0 = 0 then 0 else 1)
      ∧ (s.obj .pwrState 0 = 3 → ∀ x, t.byteAt x = 0) ∧ (s.obj .pwrState 0 ≠ 3 → t.mem = s.mem ∧ t.units = s.units))
  ∧ (∀ (s : State) (iin osc errA errB : Nat),
    (s.objN .startIinLimit 0 * 9 ≤ iin * 10 → ∃ t, exec (.startLadderStep iin osc errA errB) s = .next t ∧ t = s)
    ∧ (∀ (b : PwrBack) (u : Nat) (rest : List Nat), iin * 10 < s.objN .startIinLimit 0 * 9 → s.pwr.back = some b →
        s.pwr.restart = u :: rest → 192 ≤ u → u < 279 → u < 218 ∨ 274 ≤ u → (s.unit u).st = unitSleeping →
      ∃ t, exec (.startLadderStep iin osc errA errB) s = .next t ∧ t.pwr.restart = rest ∧ (t.unit u).st = unitRejoining
        ∧ (t.unit u).epoch = ((s.unit u).epoch + 1) % 2 ^ 32
        ∧ (u < 210 → bitAt (t.objN .pwrGated 0) (u - 192) = false)
        ∧ (rest ≠ [] → t.pwr.back = some b ∧ t.obj .pwrLastResult 0 = s.obj .pwrLastResult 0)
        ∧ (rest = [] → t.pwr.back = none
          ∧ t.obj .pwrLastResult 0 = ((b.result * 2 ^ 24 + (match b.unit with | some v => pwrClass v | none => 0) * 256 + b.code : Nat) : Int)
          ∧ (b.result = 1 → t.obj .pwrGated 0 = 0 → t.obj .pwrState 0 = 0)))
    ∧ (∀ (r u : Nat) (rest : List (Nat × Nat)), iin * 10 < s.objN .startIinLimit 0 * 9 → s.pwr.back = none →
        s.pwr.ladder = (r, u) :: rest →
      (s.obj .startRung 0 = r → 192 ≤ u → u < 279 → u < 218 ∨ 274 ≤ u → (s.unit u).st = unitSleeping →
        ∃ t, exec (.startLadderStep iin osc errA errB) s = .next t ∧ t.pwr.ladder = rest ∧ (t.unit u).st = unitRejoining
          ∧ (t.unit u).epoch = ((s.unit u).epoch + 1) % 2 ^ 32 ∧ (u = 276 → t.pins.pwrGood = false)
          ∧ (u = 278 → t.obj .timeOscFreq 0 = (oscFreq osc : Int))
          ∧ (u < 210 → bitAt (t.objN .pwrGated 0) (u - 192) = false)
          ∧ (rest = [] → t.obj .startRung 0 = 0 ∧ t.obj .pwrState 0 = (if t.obj .pwrGated 0 = 0 then 0 else 1)))
      ∧ (s.objN .startRung 0 < r → s.obj .startRung 0 ≠ 2 → s.rungLeft (s.objN .startRung 0) = false →
        ∃ t, exec (.startLadderStep iin osc errA errB) s = .next t ∧ t = s)))
  ∧ (∀ (s : State) (a : Accessor) (units : BitVec 18) (n u : Nat), s.gateOk = .ok →
    (s.writable a .pwrGateReq 0 ((2 ^ 31 + units.toNat : Nat) : Int) →
        (gateUnits units.toNat).filter (fun u => !s.pwrDown 1 u) = [u] → bitAt (s.objN .pwrGated 0) (u - 192) = false →
        ((s.countAccess a).acceptAt a (objAddr .pwrGateReq 0) ((2 ^ 31 + units.toNat : Nat) : Int)).sleepAnswer 1 u = .agree →
      ∃ t, exec (.pwrGate a units n) s = .next t ∧ t.obj .pwrState 0 = 1 ∧ (t.unit u).st = unitSleeping
        ∧ t.obj .pwrGated 0 = ((s.objN .pwrGated 0 + 2 ^ (u - 192) : Nat) : Int) ∧ t.obj .hallPaceState (u - 192) = paceSleep)
    ∧ (∀ code r, s.writable a .pwrGateReq 0 ((2 ^ 31 + units.toNat : Nat) : Int) → s.pwr.wakes = [] →
        (gateUnits units.toNat).filter (fun u => !s.pwrDown 1 u) = u :: r →
        ((s.countAccess a).acceptAt a (objAddr .pwrGateReq 0) ((2 ^ 31 + units.toNat : Nat) : Int)).sleepAnswer 1 u = .refuse code →
      ∃ t, exec (.pwrGate a units n) s = .next t ∧ rolledBack s t u code ∧ t.units = s.units)
    ∧ (s.writable a .pwrGateReq 0 units.toNat →
      let l := (gateUnits units.toNat).filter (fun u => bitAt (s.objN .pwrGated 0) (u - 192))
      ∃ t, exec (.pwrUngate a units) s = .next t ∧ t.units = s.units
        ∧ (l = [] → t.pwr = s.pwr)
        ∧ (l ≠ [] → t.pwr = { s.pwr with restart := (ladderOrder.map (fun p => p.2)).filter (fun v => l.contains v), back := some ⟨1, none, 0⟩ })))
  ∧ (∀ (s : State) (mv ma : Nat),
    (s.pwr.vin = true ∨ mv < 5700 → ∃ t, exec (.vinRise mv) s = .next t ∧ t = s)
    ∧ (s.pwr.vin = false ∨ 5400 ≤ mv → ∃ t, exec (.vinLoss mv) s = .next t ∧ t = s)
    ∧ (s.pwr.vin = false → 5700 ≤ mv →
      ∃ t, exec (.vinRise mv) s = .next t ∧ t.pwr.vin = true ∧ t.obj .thermTrips 0 = 0
        ∧ (s.pwr.en = true → t.obj .pwrVin 0 = (mv : Int) ∧ t.obj .startRung 0 = 1 ∧ t.pins.pwrGood = true ∧ (∀ x, t.byteAt x = 0) ∧ t.rings = [])
        ∧ (s.pwr.en = false → t = { s with objs := t.objs, pwr := t.pwr }))
    ∧ (s.pwr.vin = true → mv < 5400 →
      ∃ t, exec (.vinLoss mv) s = .next t ∧ t.pwr.vin = false ∧ t.obj .pwrState 0 = 4 ∧ t.obj .startRung 0 = 0
        ∧ t.pins.pwrGood = false ∧ ∀ c, c < 8 → t.obj .ddrState c = ddrOff)
    ∧ (s.obj .pwrState 0 ≠ 4 →
      ∃ t, exec (.vinWarnCrossing mv ma) s = .next t ∧ t.obj .pwrVin 0 = (mv : Int) ∧ t.obj .pwrIin 0 = (ma : Int)
        ∧ t.obj .pwrPin 0 = ((mv * ma / 1000 : Nat) : Int) ∧ t.pins = { s.pins with alertVin := decide ((mv : Int) < s.obj .pwrVinWarn 0) }
        ∧ t.events = (if decide ((mv : Int) < s.obj .pwrVinWarn 0) = s.pins.alertVin then s.events else ⟨.vinWarn, 0, mv⟩ :: s.events)
        ∧ t.obj .pwrVinWarnings 0 = (if (mv : Int) < s.obj .pwrVinWarn 0 ∧ s.pins.alertVin = false
            then (s.obj .pwrVinWarnings 0 + 1) % 4294967296 else s.obj .pwrVinWarnings 0)
        ∧ t = { s with objs := t.objs, pins := t.pins, events := t.events }
        ∧ s.sameObjsBut t [(.pwrVin, 0), (.pwrIin, 0), (.pwrPin, 0), (.pwrVinWarnings, 0)]))
  ∧ (∀ s : State,
    (s.pwr.en = true → ∃ t, exec .pwrEnFall s = .next t ∧ t.pwr.en = false ∧ t.obj .pwrState 0 = 4
      ∧ t.obj .startRung 0 = 0 ∧ ∀ c, c < 8 → t.obj .ddrState c = ddrOff)
    ∧ (s.pwr.en = false → ∃ t, exec .pwrEnRise s = .next t ∧ t.pwr.en = true
      ∧ (s.pwr.vin = true → s.obj .pwrState 0 = 4 → t.obj .startRung 0 = 1 ∧ (∀ x, t.byteAt x = 0) ∧ t.rings = [])
      ∧ (s.pwr.vin = false ∨ s.obj .pwrState 0 ≠ 4 → t = { s with pwr := t.pwr })))

/-- O57. Summerhouse. A copy of the L1 firmware that matches its digest lies at `SH_L1_BASE` and is good; one that does not is
zeroed, with an event. The rollback level only rises, no further than the booted image's; a key slot other than its own
can be revoked. A flash command outside the booted slot acts on flash and status alone. A watch table that passes is in
force; `SH_WATCH_EN` 0 takes every entry to OFF. The watch MAC hands on what it watches for and counts the rest; a
repetition of an attempt is evaluated; the watchdog restarts Summerhouse (R508, R510 to R522, R525, R533). Digests are
free, and the status of a refused rollback or table is the model's (log entries 70 and 75). -/
def Obligations.SummerhouseCommands : Prop :=
  (∀ s : State, s.sh.slot ≠ 0 → s.obj .memDdrSize 0 ≠ 0 → s.obj .startRung 0 < 1 ∨ 5 < s.obj .startRung 0 →
    let h := s.imageHeader s.sh.slot
    let l := s.flashRead (slotBase s.sh.slot + ihL1Offset h) (ihL1Length h)
    let a := s.objN .shL1Base 0
    (sha384 l = slice 0x50 48 h →
      ∃ t, exec .l1Copy s = .next t ∧ t.obj .shL1State 0 = 2 ∧ (∀ j, j < l.length → t.byteAt (a + j) = l.getD j 0)
        ∧ ∀ x, ¬(a ≤ x ∧ x < a + l.length) → t.byteAt x = s.byteAt x)
    ∧ (sha384 l ≠ slice 0x50 48 h →
      ∃ t, exec .l1Copy s = .next t ∧ t.obj .shL1State 0 = 3 ∧ (∀ j, j < l.length → t.byteAt (a + j) = 0)
        ∧ t.events.head? = some ⟨.l1Bad, unitSummerhouse, s.sh.slot⟩))
  ∧ (∀ (s : State) (a : Accessor) (v : Nat),
    (s.writable a .shRollbackSet 0 v → ∀ h, s.bootedHeader = some h →
      (s.objN .shRollbackMin 0 < v → v ≤ ihRollback h →
        ∃ t, exec (.shRollbackSet a v) s = .next t ∧ t.obj .shRollbackMin 0 = v
          ∧ t = { s with objs := t.objs, unacked := t.unacked } ∧ s.sameObjsBut t ((.shRollbackMin, 0) :: lodgeObjs a))
      ∧ (v ≤ s.objN .shRollbackMin 0 ∨ ihRollback h < v →
        ∃ t, exec (.shRollbackSet a v) s = .next t ∧ t.obj .shRollbackMin 0 = s.obj .shRollbackMin 0
          ∧ t.obj .dictLastStatus (accessorNo a) = lastStatusWord .range (objAddr .shRollbackSet 0)))
    ∧ (s.writable a .shRollbackSet 0 v → s.bootedHeader = none →
      ∃ t, exec (.shRollbackSet a v) s = .next t ∧ t.obj .shRollbackMin 0 = s.obj .shRollbackMin 0
        ∧ t.obj .dictLastStatus (accessorNo a) = lastStatusWord .range (objAddr .shRollbackSet 0))
    ∧ (s.writable a .shOtpRevoke 0 v → (4 ≤ v ∨ ∃ h, s.bootedHeader = some h ∧ ihKeySlot h = v) →
      ∃ t, exec (.shOtpRevoke a v) s = .next t ∧ t.obj .shKeyRevoked 0 = s.obj .shKeyRevoked 0
        ∧ t.obj .dictLastStatus (accessorNo a) = lastStatusWord .range (objAddr .shOtpRevoke 0))
    ∧ (s.writable a .shOtpRevoke 0 v → v < 4 → (∀ h, s.bootedHeader = some h → ihKeySlot h ≠ v) →
      ∃ t, exec (.shOtpRevoke a v) s = .next t ∧ t.obj .shKeyRevoked 0 = ((s.objN .shKeyRevoked 0 ||| 2 ^ v : Nat) : Int)
        ∧ t = { s with objs := t.objs, unacked := t.unacked } ∧ s.sameObjsBut t ((.shKeyRevoked, 0) :: lodgeObjs a)))
  ∧ (∀ (s : State) (a : Accessor),
    let o := s.objN .shFlashOffset 0
    (s.writable a .shFlashCmd 0 1 → s.flashCheck = .ok →
      ∃ t, exec (.shFlashErase a) s = .next t ∧ t.obj .shFlashStatus 0 = 0
        ∧ (∀ x, t.flashByte x = (if o ≤ x ∧ x < o + 0x10000 then 0xFF else s.flashByte x))
        ∧ t = { s with objs := t.objs, flash := t.flash, unacked := t.unacked }
        ∧ s.sameObjsBut t ((.shFlashStatus, 0) :: lodgeObjs a))
    ∧ (s.writable a .shFlashCmd 0 2 → s.flashCheck = .ok →
      ∃ t, exec (.shFlashProgram a) s = .next t ∧ t.obj .shFlashStatus 0 = 0
        ∧ (∀ x, t.flashByte x = (if o ≤ x ∧ x < o + 0x10000 then (slice 0 0x10000 (s.dom .shFlashWin 0)).getD (x - o) 0
            else s.flashByte x))
        ∧ t = { s with objs := t.objs, flash := t.flash, unacked := t.unacked }
        ∧ s.sameObjsBut t ((.shFlashStatus, 0) :: lodgeObjs a))
    ∧ (∀ err : Nat, s.writable a .shFlashCmd 0 3 → s.flashCheck = .ok →
      ∃ t, exec (.shFlashCheck a err) s = .next t
        ∧ (let r := s.imageReason (slotOfOffset o)
           t.obj .shFlashStatus 0 = ((if err ≠ 0 ∧ (r = 0 ∨ err ≤ r) then 8 else r : Nat) : Int))
        ∧ t = { s with objs := t.objs, unacked := t.unacked } ∧ s.sameObjsBut t ((.shFlashStatus, 0) :: lodgeObjs a))
    ∧ (∀ (c : Instr) (err : Nat), (c = .shFlashErase a ∧ s.writable a .shFlashCmd 0 1) ∨ (c = .shFlashProgram a ∧ s.writable a .shFlashCmd 0 2)
          ∨ (c = .shFlashCheck a err ∧ s.writable a .shFlashCmd 0 3) →
        s.flashCheck ≠ .ok →
      ∃ t, exec c s = .next t ∧ t.obj .shFlashStatus 0 = ((s.flashCheck.code * 2 ^ 24 : Nat) : Int) ∧ t.flash = s.flash))
  ∧ (∀ (s : State) (a : Accessor) (data : List Byte), s.writable a .shWatchTable 0 (objRow .shWatchTable).lo → data.length = 256 →
      (objRow .shWatchTable).ty.bytes = 256 →
    (s.watchCheck data = .ok →
      ∃ t, exec (.shWatchTableWrite a data) s = .next t
        ∧ (∀ e, e < 8 → leAt (32 * e) 32 (t.dom .shWatchTable 0) = leAt (32 * e) 32 data / 2 ^ 152 * 2 ^ 152)
        ∧ (s.obj .shWatchEn 0 = 0 → ∀ e, e < 8 → t.watchState e = 0))
    ∧ (s.watchCheck data = .state →
      ∃ t, exec (.shWatchTableWrite a data) s = .next t
        ∧ t.obj .dictLastStatus (accessorNo a) = lastStatusWord .state (objAddr .shWatchTable 0) ∧ t = { s with objs := t.objs })
    ∧ (∀ e r, s.watchBad data = some (e, r) → s.watchCheck data = .range → s.passes a .shWatchTable 0 0 = true →
      ∃ t, exec (.shWatchTableWrite a data) s = .next t ∧ t.dom .shWatchTable 0 = s.dom .shWatchTable 0
        ∧ t.obj .shWatchError 0 = ((e * 65536 + r : Nat) : Int) ∧ t = { s with objs := t.objs }
        ∧ s.sameObjsBut t ((.shWatchError, 0) :: (.lodgeRefused, classNo a.cls) :: lodgeObjs a)))
  ∧ (∀ (s : State) (a : Accessor) (v : Nat), s.writable a .shWatchEn 0 v →
    ∃ t, exec (.shWatchEnWrite a v) s = .next t ∧ t.obj .shWatchEn 0 = v
      ∧ ∀ e, e < 8 → (bitAt v e = false → t.watchState e = 0)
        ∧ (bitAt v e = true → bitAt (s.watchEntry e) 255 = true → s.watchState e < 2 →
            t.watchState e = (if s.hallOf (pcCarrier (s.praCfg (256 + e))) ≠ 255 then 1 else 2)))
  ∧ (∀ (s : State) (e : Fin 8) (rep : Nat) (slot : Int) (codes : List Nat) (clip missing : Bool) (prof : PraProfile),
      let p := 256 + e.val
      let x := s.praCfg p
      (s.watchState e < 2 ∨ (s.unit unitSummerhouse).st ≠ unitRunning →
        ∃ t, exec (.shWatchEvaluation e rep slot codes clip missing prof) s = .next t ∧ t = s)
      ∧ (2 ≤ s.watchState e → (s.unit unitSummerhouse).st = unitRunning →
        let seen := if s.praRank p slot < pcOccasions x then s.seeOccasion p slot else s
        (seen.praNext p slot rep = true →
          ∃ t, exec (.shWatchEvaluation e rep slot codes clip missing prof) s = .next t
            ∧ (t.praEntry p).last = some (slot, rep) ∧ (t.praEntry p).att = some (seen.praAttempt p slot)
            ∧ (t.praEntry p).acc.length = (if (s.praEntry p).att = some (seen.praAttempt p slot) then (s.praEntry p).acc.length else 0) + 1)
        ∧ (seen.praNext p slot rep = false →
          ∃ t, exec (.shWatchEvaluation e rep slot codes clip missing prof) s = .next t ∧ t = seen)))
  ∧ (∀ (s : State) (p : Fin 2) (f : RxFrame), s.obj .pwrState 0 = 2 → s.obj .startRung 0 = 0 →
      (s.unit unitSummerhouse).st = unitRunning → s.obj .ethPortState p = portUp →
    let len := frameLen f.body
    let good := f.code = false ∧ 63 < len ∧ len ≤ s.frameLimit p f.body ∧ f.fcs = true
    (¬good →
      let o := if f.code then Obj.ethRxCodeErr else if len ≤ 63 then .ethRxRunts
        else if s.frameLimit p f.body < len then .ethRxOversize else .ethRxFcsErr
      ∃ t, exec (.shWatchMacFrame p f) s = .next t ∧ t.obj o p = (s.obj o p + 1) % 4294967296
        ∧ t = { s with objs := t.objs } ∧ s.sameObjsBut t [(o, p.val)])
    ∧ (good → etherType f.body = 0x88F7 →
      ∃ t, exec (.shWatchMacFrame p f) s = .next t ∧ t.outbox = .handed 1 p f.body :: s.outbox
        ∧ t.obj .ethRxFrames p = (s.obj .ethRxFrames p + 1) % 4294967296
        ∧ t = { s with objs := t.objs, outbox := t.outbox } ∧ s.sameObjsBut t [(.ethRxFrames, p.val)])
    ∧ (good → etherType f.body ≠ 0x88F7 →
      (s.watchTakes p f.body = true →
        ∃ t, exec (.shWatchMacFrame p f) s = .next t ∧ t.outbox = .handed 3 p f.body :: s.outbox
          ∧ t = { s with objs := t.objs, outbox := t.outbox } ∧ s.sameObjsBut t [(.ethRxFrames, p.val)])
      ∧ (s.watchTakes p f.body = false →
        ∃ t, exec (.shWatchMacFrame p f) s = .next t
          ∧ t.obj .shWatchOther 0 = (s.obj .shWatchOther 0 + 1) % 4294967296
          ∧ t = { s with objs := t.objs } ∧ s.sameObjsBut t [(.ethRxFrames, p.val), (.shWatchOther, 0)])))
  ∧ (∀ s : State, (s.unit unitSummerhouse).st = unitRunning → s.obj .pairState 0 = pairSingle →
    ∃ t, exec .shWatchdogExpire s = .next t ∧ (t.unit unitSummerhouse).st = unitRestarting
      ∧ (t.unit unitSummerhouse).lastCode = 9 ∧ t.obj .shRestarts 0 = (s.obj .shRestarts 0 + 1) % 4294967296
      ∧ ⟨.shRestart, unitSummerhouse, 0⟩ ∈ t.events)

/-- O58. Units. A fault of a unit in service restarts it, or retires it with the fault that reaches `REL_FAULT_LIMIT`; one of
a unit that sleeps or is retired changes nothing; a core that faults is halted, and a lane goes OFF. A drained unit
rejoins with the next epoch, and then runs. The carriers of a retired hall are placed elsewhere or not at all. A retired
unit restarts by `REL_UNRETIRE` (R530 to R535, R541, R560, R561). That a fault of a sleeping unit is ignored is the
model's reading (log entry 13). -/
def Obligations.UnitsRestartAndRejoin : Prop :=
  (∀ (s : State) (u : Fin 280) (code : Nat),
    (faultCode u code = false ∨ (s.unit u).st = unitSleeping ∨ (s.unit u).st = unitRetired →
      ∃ t, exec (.unitFault u code) s = .next t ∧ t = s)
    ∧ (faultCode u code = true → (s.unit u).st ≠ unitSleeping → (s.unit u).st ≠ unitRetired →
      ∃ t, exec (.unitFault u code) s = .next t
        ∧ ((218 ≤ u.val → u.val < 274 → s.pair.up = false ∧ s.txQueue = []) →
          (((windowFaults s u).length : Int) < s.obj .relFaultLimit 0 ∨ s.neverRetired u = true → restarts s t u code
            ∧ (u.val < 192 → t.obj .coreState u = coreHaltedFault ∧ t.thread u = none
                ∧ t.obj .coreDoubleFaults u = (if s.obj .coreState u = coreHaltedFault then s.obj .coreDoubleFaults u
                    else (s.obj .coreDoubleFaults u + 1) % 4294967296))
            ∧ (218 ≤ u.val → u.val < 274 → t.obj .laneState (u.val - 218) = laneOff))
          ∧ (s.obj .relFaultLimit 0 ≤ ((windowFaults s u).length : Int) → s.neverRetired u = false → (t.unit u).st = unitRetired
            ∧ t.obj .relRetired 0 = (s.obj .relRetired 0 + 1) % 4294967296
            ∧ ⟨.unitRetired, u, code⟩ ∈ t.events
            ∧ (s.moduleRetire u = true → t.pins.moduleFault = true ∧ t.pins.pairFailOut = true)))))
  ∧ (∀ (s : State) (h e : Fin 16) (u : Nat), e.val ≤ 10 → s.engUp h e = true →
      (s.engRun h e).isSome = true ∨ (s.engHead h e).isSome = true
        ∨ (e.val = 7 ∧ (s.codec (2 * (h.val / 8))).any (fun r => decide (r.hall = h.val)) = true)
        ∨ (e.val = 8 ∧ (s.codec (4 + h.val / 8)).any (fun r => decide (r.hall = h.val)) = true) →
      u = (if e.val = 7 ∨ e.val = 8 then unitBlock (h.val / 8) else unitHall h) → (s.unit u).st = unitRunning →
      ((windowFaults s u).length : Int) < s.obj .relFaultLimit 0 →
    ∃ t, exec (.engineTimeout h e) s = .next t ∧ restarts s t u 4)
  ∧ (∀ (s : State) (u : Fin 280),
    ((s.unit u).st = unitRestarting →
      (s.unitDrained u = true ∨ (s.unit u).since + s.obj .relDrainMax 0 * 1000 ≤ s.now →
        ∃ t, exec (.unitDrainEnd u) s = .next t ∧ (t.unit u).st = unitRejoining
          ∧ (t.unit u).epoch = ((s.unit u).epoch + 1) % 2 ^ 32
          ∧ (u.val < 192 → (∀ a, a < 16777216 → t.coreByte u a = 0) ∧ t.obj .corePc u = 0 ∧ t.obj .coreState u = coreRejoining
            ∧ t.core u = { CoreSt.reset with haltReq := (s.core u).haltReq, cyc := if s.obj .coreState u = coreOff then 0 else (s.core u).cyc }))
      ∧ (s.unitDrained u = false → s.now < (s.unit u).since + s.obj .relDrainMax 0 * 1000 →
        ∃ t, exec (.unitDrainEnd u) s = .next t ∧ t = s))
    ∧ ((s.unit u).st = unitRejoining →
      ∃ t, exec (.unitRejoin u) s = .next t
        ∧ (s.upsets = [] → (t.unit u).st = unitRunning ∧ (t.unit u).epoch = (s.unit u).epoch
          ∧ (∀ v : Nat, v ≠ u → t.unit v = s.unit v))))
  ∧ (∀ (s : State) (h : Fin 16), (s.unit (unitHall h)).st = unitRetired → s.moduleRetire (unitHall h) = false →
      s.hallCarriers h ≠ [] →
    ∃ t, exec (.retiredCarrierReplace h) s = .next t
      ∧ (∀ c, c < 768 → s.hallOf c = h → t.hallOf c ≠ h)
      ∧ (∀ c, c < 768 → s.hallOf c ≠ h → t.hallOf c = s.hallOf c)
      ∧ (∀ p ∈ t.rings, ∀ j ∈ p.2.jobs, ¬(j.st = 2 ∧ j.hall = h.val)))
  ∧ (∀ (s : State) (a : Accessor) (v : Nat), s.writable a .relUnretire 0 v →
    (v < 280 → (s.unit v).st = unitRetired →
      ∃ t, exec (.relUnretire a v) s = .next t
        ∧ t.unit v = { s.unit v with st := unitRestarting, restarts := (s.unit v).restarts + 1, since := s.now }
        ∧ (∀ u, u ≠ v → t.unit u = s.unit u))
    ∧ (v < 280 → (s.unit v).st ≠ unitRetired →
      ∃ t, exec (.relUnretire a v) s = .next t ∧ t.units = s.units
        ∧ t.obj .dictLastStatus (accessorNo a) = lastStatusWord .state (objAddr .relUnretire 0))
    ∧ (280 ≤ v →
      ∃ t, exec (.relUnretire a v) s = .next t ∧ t.units = s.units
        ∧ t.obj .dictLastStatus (accessorNo a) = lastStatusWord .range (objAddr .relUnretire 0)))

/-- O59. The pair. A progress mark of a running hall is journalled, and is then the latest of its job; a read names the job first.
`PAIR_MODE` 1 is refused by reason, or with STATE in a chain; 0 ends pairing. `PAIR_ROLE_REQ` leads into JOINING, which the end of
the copy makes PAIRED. Heartbeats go out in a pair; missing ones take the link down, which makes a primary SOLO and a standby
DETACHED; unacknowledged frames go out again. A standby that takes over is primary and SOLO, and its unfinished jobs run
again. A frame of the link with a CRC error or out of sequence is counted, one of an older epoch ignored, one repeated
acknowledged; one in sequence is acknowledged and acted on (R539, R543 to R547, R549, R550). What `PAIR_ROLE_REQ` is checked
for is the model's choice (log entry 78). -/
def Obligations.PairAndLink : Prop :=
  (∀ (s : State) (h : Fin 16) (w : BitVec 128),
    ((s.unit (unitHall h)).st = unitRunning → s.journal.length < 1048576 → s.obj .relJournalBase 0 ≠ 0 →
      ∃ t, exec (.progressMark h w) s = .next t
        ∧ t.markOf (bits w.toNat 71 64) (bits w.toNat 63 0 % 2 ^ 56) = bits w.toNat 127 96
        ∧ t.journal.length = s.journal.length + 1 ∧ t.jseqNext = s.jseqNext + 1
        ∧ (∀ x, ¬(s.journalAddr s.jseqNext ≤ x ∧ x < s.journalAddr s.jseqNext + 256) → t.byteAt x = s.byteAt x)
        ∧ (aloneHere s → t = { s with mem := t.mem, journal := t.journal, jseqNext := t.jseqNext })
        ∧ (s.mirroring = true → s.obj .pairMirror 0 ≠ 0 → t.dravutOut.length = s.dravutOut.length + 1))
    ∧ ((s.unit (unitHall h)).st ≠ unitRunning → s.journal.length < 1048576 → exec (.progressMark h w) s = .next s))
  ∧ (∀ (s : State) (a : Accessor) (v : BitVec 64), s.writable a .relMarkQuery 0 v.toNat →
    ∃ t, exec (.relMarkQueryWrite a v) s = .next t ∧ t.obj .relMarkQuery 0 = v.toNat
      ∧ t = { s with objs := t.objs, unacked := t.unacked } ∧ s.sameObjsBut t ((.relMarkQuery, 0) :: lodgeObjs a))
  ∧ (∀ (s : State) (a : Accessor) (v : Nat), s.writable a .pairMode 0 v →
    (v = 0 →
      ∃ t, exec (.pairModeWrite a v) s = .next t ∧ t.obj .pairMode 0 = 0 ∧ t.obj .pairState 0 = pairSingle
        ∧ t.obj .pairRole 0 = 0 ∧ t.pair = PairSt.reset
        ∧ (s.dravutOut = [] → t = { s with objs := t.objs, pair := t.pair, unacked := t.unacked }
          ∧ s.sameObjsBut t ([(.pairMode, 0), (.pairState, 0), (.pairRole, 0)] ++ lodgeObjs a)))
    ∧ (v ≠ 0 → s.pairRefusal = 0 → s.obj .chainRole 0 = 0 →
      ∃ t, exec (.pairModeWrite a v) s = .next t ∧ t.obj .pairMode 0 = v
        ∧ t = { s with objs := t.objs, unacked := t.unacked } ∧ s.sameObjsBut t ((.pairMode, 0) :: lodgeObjs a))
    ∧ (v ≠ 0 → s.pairRefusal ≠ 0 →
      ∃ t, exec (.pairModeWrite a v) s = .next t ∧ t.obj .pairMode 0 = s.obj .pairMode 0
        ∧ t.obj .pairLastRefusal 0 = s.pairRefusal
        ∧ t.obj .dictLastStatus (accessorNo a) = lastStatusWord .range (objAddr .pairMode 0) ∧ t = { s with objs := t.objs })
    ∧ (v ≠ 0 → s.pairRefusal = 0 → s.obj .chainRole 0 ≠ 0 →
      ∃ t, exec (.pairModeWrite a v) s = .next t ∧ t.obj .pairMode 0 = s.obj .pairMode 0
        ∧ t.obj .pairLastRefusal 0 = s.obj .pairLastRefusal 0
        ∧ t.obj .dictLastStatus (accessorNo a) = lastStatusWord .state (objAddr .pairMode 0) ∧ t = { s with objs := t.objs }))
  ∧ (∀ (s : State) (a : Accessor) (why : Fin 6), s.writable a .pairRoleReq 0 1 →
    (s.obj .pairMode 0 ≠ 1 ∨ s.obj .pairState 0 ≠ pairSingle →
      ∃ t, exec (.pairRoleReq a 1 why) s = .next t ∧ t = { s with objs := t.objs }
        ∧ t.obj .dictLastStatus (accessorNo a) = lastStatusWord .state (objAddr .pairRoleReq 0)
        ∧ s.sameObjsBut t ((.lodgeRefused, classNo a.cls) :: lodgeObjs a))
    ∧ (s.obj .pairMode 0 = 1 → s.obj .pairState 0 = pairSingle → s.peerMode = true → why.val < 3 →
      ∃ t, exec (.pairRoleReq a 1 why) s = .next t ∧ t.obj .pairRole 0 = 1 ∧ t.obj .pairState 0 = pairJoining
        ∧ t.obj .pairEpoch 0 = (s.obj .pairEpoch 0 + 1) % 4294967296 ∧ t.pair = { s.pair with up := true, missed := 0 }
        ∧ t.dravutOut.take s.dravutOut.length = s.dravutOut ∧ s.dravutOut.length < t.dravutOut.length
        ∧ (∀ f ∈ t.dravutOut.drop s.dravutOut.length, f.ty = 8)
        ∧ t = { s with objs := t.objs, pair := t.pair, unacked := t.unacked, dravutOut := t.dravutOut, dravutNext := t.dravutNext, outbox := t.outbox }
        ∧ s.sameObjsBut t ([(.pairRole, 0), (.pairState, 0), (.pairEpoch, 0)] ++ lodgeObjs a))
    ∧ (s.obj .pairMode 0 = 1 → s.obj .pairState 0 = pairSingle → s.peerMode = false ∨ 3 ≤ why.val →
      ∃ t, exec (.pairRoleReq a 1 why) s = .next t ∧ t.obj .pairState 0 = pairSingle
        ∧ t.obj .pairLastRefusal 0 = ((if s.peerMode then why.val else 2 : Nat) : Int)
        ∧ t.obj .dictLastStatus (accessorNo a) = lastStatusWord .range (objAddr .pairRoleReq 0) ∧ t = { s with objs := t.objs }))
  ∧ (∀ s : State,
    (¬(s.obj .pairState 0 = pairJoining ∧ s.obj .pairRole 0 = 1 ∧ ∀ f ∈ s.dravutOut, f.ty ≠ 8) →
      ∃ t, exec .pairSyncComplete s = .next t ∧ t = s)
    ∧ (s.obj .pairState 0 = pairJoining → s.obj .pairRole 0 = 1 → (∀ f ∈ s.dravutOut, f.ty ≠ 8) →
      ∃ t, exec .pairSyncComplete s = .next t ∧ t.obj .pairState 0 = pairPaired ∧ t = { s with objs := t.objs }
        ∧ s.sameObjsBut t [(.pairState, 0)])
    ∧ (s.obj .pairMode 0 = 1 → s.peerMode = true →
      exec .pairHeartbeatTimer s = .next (s.send (.dravut 1 0 s.dravutExpect (s.objN .pairEpoch 0) s.heartbeat))
        ∧ s.heartbeat.length = 32)
    ∧ (s.obj .pairMode 0 ≠ 1 ∨ s.peerMode = false → exec .pairHeartbeatTimer s = .next s)
    ∧ (∃ t, exec .dravutResendTimeout s = .next t ∧ t = { s with outbox := t.outbox }
        ∧ t.outbox.drop (t.outbox.length - s.outbox.length) = s.outbox
        ∧ t.outbox.length = s.outbox.length + s.dravutOut.length + (s.munovDir false).sent.length + (s.munovDir true).sent.length
        ∧ (∀ f ∈ s.dravutOut, OutMsg.dravut f.ty f.fseq s.dravutExpect (s.objN .pairEpoch 0) f.payload ∈ t.outbox)
        ∧ (∀ down : Bool, ∀ f ∈ (s.munovDir down).sent,
            OutMsg.munov down (linkFrame f.ty f.fseq (s.munovDir down).expect (beNat (slice 0 4 f.payload)) (f.payload.drop 4)) ∈ t.outbox))
    ∧ (∀ failIn : Bool,
      let inPair := s.obj .pairState 0 = pairJoining ∨ s.obj .pairState 0 = pairPaired
      ∃ t, exec (.pairHbMiss failIn) s = .next t ∧ t.pair = { s.pair with up := false, missed := s.objN .pairHbMiss 0 }
        ∧ ((¬inPair ∨ (s.obj .pairRole 0 ≠ 1 ∧ failIn = true)) → t = { s with pair := t.pair })
        ∧ (inPair → s.obj .pairRole 0 = 1 ∨ failIn = false →
          t.obj .pairState 0 = (if s.obj .pairRole 0 = 1 then pairSolo else pairDetached)
          ∧ t.obj .pairEpoch 0 = (s.obj .pairEpoch 0 + 1) % 4294967296
          ∧ ⟨.pairState, unitLodge, if s.obj .pairRole 0 = 1 then 3 else 4⟩ ∈ t.events
          ∧ (s.dravutOut = [] → t = { s with objs := t.objs, pair := t.pair, events := t.events }
            ∧ s.sameObjsBut t [(.pairState, 0), (.pairEpoch, 0)])))
    ∧ (s.obj .pairState 0 = pairJoining ∨ s.obj .pairState 0 = pairPaired → s.pins.pairFailOut = false → s.obj .pairRole 0 = 2 →
      ∃ t, exec .takeover s = .next t ∧ t.obj .pairRole 0 = 1 ∧ t.obj .pairState 0 = pairSolo
        ∧ t.obj .pairEpoch 0 = (s.obj .pairEpoch 0 + 1) % 4294967296
        ∧ t.obj .pairTakeovers 0 = (s.obj .pairTakeovers 0 + 1) % 4294967296 ∧ t.dravutOut = [] ∧ t.pair.up = false
        ∧ t.rings.length = s.rings.length ∧ (∀ p ∈ t.rings, ∀ j ∈ p.2.jobs, j.st < 4 → j.st = 0 ∧ j.redo = true)
        ∧ t.journal = s.journal
        ∧ ((∀ p ∈ s.rings, ∀ j ∈ p.2.jobs, jobDownlink (jdType j.desc) = false) → t.mem = s.mem ∧ t.cores = s.cores))
    ∧ (s.obj .pairState 0 = pairJoining ∨ s.obj .pairState 0 = pairPaired → s.pins.pairFailOut = false → s.obj .pairRole 0 = 1 →
      ∃ t, exec .takeover s = .next t ∧ t.obj .pairState 0 = pairSolo ∧ t.pair.up = false
        ∧ t.obj .pairEpoch 0 = (s.obj .pairEpoch 0 + 1) % 4294967296)
    ∧ (s.pins.pairFailOut = true → exec .takeover s = .next s)
    ∧ (s.obj .pairState 0 ≠ pairJoining → s.obj .pairState 0 ≠ pairPaired → exec .takeover s = .next s))
  ∧ (∀ (s : State) (f : List Byte), s.peerMode = false → exec (.dravutFrameReceive f) s = .next s)
  ∧ (∀ (s : State) (f : List Byte), s.peerMode = true →
    let ack := OutMsg.dravut 6 0 s.dravutExpect (s.objN .pairEpoch 0) []
    (linkParse f = none →
      ∃ t, exec (.dravutFrameReceive f) s = .next t
        ∧ t.obj .pairLinkRetries 0 = (s.obj .pairLinkRetries 0 + 1) % 4294967296 ∧ t = { s with objs := t.objs }
        ∧ s.sameObjsBut t [(.pairLinkRetries, 0)])
    ∧ (∀ x, linkParse f = some x →
      (epochOlder 32 (s.objN .pairEpoch 0) x.low = true ∨ x.ty = 0 ∨ 8 < x.ty → exec (.dravutFrameReceive f) s = .next s)
      ∧ (epochOlder 32 (s.objN .pairEpoch 0) x.low = false → x.ty = 6 → (∀ g ∈ s.dravutOut, g.acts = []) →
        exec (.dravutFrameReceive f) s = .next { s with dravutOut := s.dravutOut.dropWhile (fun g => seqBelow g.fseq x.ack) })
      ∧ (epochOlder 32 (s.objN .pairEpoch 0) x.low = false → s.dravutOut = [] → 2 ≤ x.ty → x.ty ≤ 8 → x.ty ≠ 6 →
        (x.fseq ≠ s.dravutExpect → seqBelow x.fseq s.dravutExpect = true →
          exec (.dravutFrameReceive f) s = .next (s.send ack))
        ∧ (x.fseq ≠ s.dravutExpect → seqBelow x.fseq s.dravutExpect = false →
          ∃ t, exec (.dravutFrameReceive f) s = .next t
            ∧ t.obj .pairLinkRetries 0 = (s.obj .pairLinkRetries 0 + 1) % 4294967296 ∧ t = { s with objs := t.objs }
            ∧ s.sameObjsBut t [(.pairLinkRetries, 0)])
        ∧ (x.fseq = s.dravutExpect → x.ty = 3 → s.obj .pairRole 0 = 2 →
            beNat (slice 0 8 x.payload) ≠ ctxLogicAddr → s.inDdr (beNat (slice 0 8 x.payload)) (x.payload.length - 8) = true →
          ∃ t, exec (.dravutFrameReceive f) s = .next t ∧ t.dravutExpect = (s.dravutExpect + 1) % 2 ^ 32
            ∧ t.outbox = .dravut 6 0 ((s.dravutExpect + 1) % 2 ^ 32) (s.objN .pairEpoch 0) [] :: s.outbox
            ∧ (∀ j, j < x.payload.length - 8 → t.byteAt (beNat (slice 0 8 x.payload) + j) = x.payload.getD (8 + j) 0)
            ∧ t.rings = s.rings ∧ t.cores = s.cores ∧ t.journal = s.journal))
      ∧ (epochOlder 32 (s.objN .pairEpoch 0) x.low = false → s.dravutOut = [] → x.ty = 1 → s.obj .pairMode 0 = 1 →
          4 ≤ s.linkLanes →
        let role := (x.payload.getD 0 0).toNat
        let st := (x.payload.getD 1 0).toNat
        let mine := s.obj .pairState 0
        let joins := (mine = pairSingle ∧ role = 1 ∧ st = 1) ∨ (mine = pairSolo ∧ role ≠ 1) ∨ (mine = pairDetached ∧ role = 1)
        ∃ t, exec (.dravutFrameReceive f) s = .next t ∧ t.pair = { s.pair with up := true, missed := 0, role := role, st := st }
          ∧ t.obj .pairState 0 = (if joins then pairJoining
              else if mine = pairJoining ∧ s.obj .pairRole 0 = 2 ∧ role = 1 ∧ st = 2 then pairPaired else mine)
          ∧ t.obj .pairRole 0 = (if mine = pairSingle ∧ joins then 2 else s.obj .pairRole 0)
          ∧ t.obj .pairEpoch 0 = (if joins then (s.obj .pairEpoch 0 + 1) % 4294967296 else s.obj .pairEpoch 0)
          ∧ (mine ≠ pairSolo → t = { s with objs := t.objs, pair := t.pair }
            ∧ s.sameObjsBut t [(.pairState, 0), (.pairRole, 0), (.pairEpoch, 0)]))))

/-- O60. The chain and the Stairway. The head of a chain has address 0, a member one from 1 to 63. A bad request is discarded and
counted. An arrival waits until COUNT have reached the top landing, and is then released; a broadcast reaches the delivery
queue, and a completion the reply queue; a snapshot is armed, and latched when its time has come. A reset takes the device to
rung 2 as at power-on, keeping Summerhouse and the flash, and ends pairing; a chain is reset only at its head. A frame of the
chain with a CRC error or a gap is counted; one for another device is acknowledged and passed on (R544, R552 to R557). That
the number a member gets is free, and what a broadcast's reply holds, is the model's choice (log entry 80). -/
def Obligations.StairwayAndChain : Prop :=
  (∀ (s : State) (a : Accessor) (v : Nat), s.writable a .chainRole 0 v →
    (v = 0 ∨ s.obj .pairMode 0 = 0 →
      ∃ t, exec (.chainRoleWrite a v) s = .next t ∧ t.obj .chainRole 0 = v
        ∧ (v = 1 → t.obj .chainAddr 0 = 0) ∧ (v = 2 → 1 ≤ t.obj .chainAddr 0 ∧ t.obj .chainAddr 0 ≤ 63)
        ∧ t = { s with objs := t.objs, unacked := t.unacked }
        ∧ s.sameObjsBut t ([(.chainRole, 0), (.chainAddr, 0)] ++ lodgeObjs a))
    ∧ (v ≠ 0 → s.obj .pairMode 0 ≠ 0 →
      ∃ t, exec (.chainRoleWrite a v) s = .next t ∧ t.obj .chainRole 0 = s.obj .chainRole 0
        ∧ t.obj .dictLastStatus (accessorNo a) = lastStatusWord .state (objAddr .chainRole 0) ∧ t = { s with objs := t.objs }))
  ∧ (∀ (s : State) (h : Fin 16) (m : Nat), stairHead s h m →
    let g := swGroup m
    let x := s.stairGroup g
    let l := tabGet [] s.stair g
    let q := swReply m
    (s.stairBad m = true → ∀ c : Instr, c = .barrier h ∨ c = .broadcast h ∨ c = .snapshotArm h →
      ∃ t, exec c s = .next t ∧ t.obj .stairBad 0 = (s.obj .stairBad 0 + 1) % 4294967296 ∧ popped s t h 13
        ∧ t = { s with objs := t.objs, sched := t.sched } ∧ s.sameObjsBut t [(.stairBad, 0)])
    ∧ (s.stairBad m = false → swOp m = 1 → s.landsAbove (sgScope x) = false →
      (sgCount x = 0 ∨ l.length + 1 < sgCount x →
        ∃ t, exec (.barrier h) s = .next t ∧ tabGet [] t.stair g = l ++ [(h.val, q)] ∧ popped s t h 13
          ∧ t = { s with sched := t.sched, stair := t.stair })
      ∧ (l.length + 1 = sgCount x →
        ∃ t, exec (.barrier h) s = .next t ∧ tabGet [] t.stair g = [])
      ∧ (l = [] → sgCount x = 1 → queueRoom s h q →
        ∃ t, exec (.barrier h) s = .next t ∧ tabGet [] t.stair g = [] ∧ popped s t h 13
          ∧ (t.queue (256 * h + q)).count = (s.queue (256 * h + q)).count + 1
          ∧ t.memNat (nextPlace s h q) 16 = swMsg 1 g 0
          ∧ t.cores = s.cores ∧ t.rings = s.rings ∧ t.stairSnap = s.stairSnap))
    ∧ (s.stairBad m = false → swOp m = 1 → s.landsAbove (sgScope x) = true →
      ∃ t, exec (.barrier h) s = .next t ∧ tabGet [] t.stair g = l ++ [(h.val, q)] ∧ popped s t h 13
        ∧ (sgScope x = 2 → t.dravutOut = s.dravutOut ++ [⟨7, s.dravutNext, beBytes 16 m, []⟩] ∧ t.munov = s.munov)
        ∧ (sgScope x = 3 → t.dravutOut = s.dravutOut
          ∧ (t.munovDir false).sent = (s.munovDir false).sent ++ [⟨7, (s.munovDir false).next, beBytes 4 (munovAddrs 0 (s.objN .chainAddr 0)) ++ beBytes 16 m, []⟩]))
    ∧ (s.stairBad m = false → swOp m = 2 →
      ∃ t, exec (.broadcast h) s = .next t
        ∧ (sgScope x = 2 → s.inPair = true → .dravut 7 s.dravutNext s.dravutExpect (s.objN .pairEpoch 0)
            (beBytes 16 (swMsg 2 g (swPayload m))) ∈ t.outbox))
    ∧ (s.stairBad m = false → swOp m = 2 → sgScope x = 0 → s.stairDone = [] → s.stairHeld (swMsg 2 g (swPayload m)) = false → queueRoom s h q → queueRoom s h (sgQueue x) → sgQueue x ≠ q →
        (nextPlace s h q + 16 ≤ nextPlace s h (sgQueue x) ∨ nextPlace s h (sgQueue x) + 16 ≤ nextPlace s h q) →
      ∃ t, exec (.broadcast h) s = .next t ∧ popped s t h 13
        ∧ (t.queue (256 * h + sgQueue x)).count = (s.queue (256 * h + sgQueue x)).count + 1
        ∧ t.memNat (nextPlace s h (sgQueue x)) 16 = swMsg 2 g (swPayload m)
        ∧ (t.queue (256 * h + q)).count = (s.queue (256 * h + q)).count + 1
        ∧ t.memNat (nextPlace s h q) 16 = swMsg 2 g (swPayload m)
        ∧ t.cores = s.cores ∧ t.rings = s.rings ∧ t.stair = s.stair ∧ t.stairSnap = s.stairSnap)
    ∧ (s.stairBad m = false → swOp m = 3 →
      ∃ t, exec (.snapshotArm h) s = .next t ∧ popped s t h 13
        ∧ t.stairSnap = { s.stairSnap with armed := s.stairSnap.armed ++ [signExt 64 (bits m 63 0)] }
        ∧ (sgScope x ≤ 1 → t = { s with sched := t.sched, stairSnap := t.stairSnap })
        ∧ (sgScope x = 2 → s.inPair = true → .dravut 7 s.dravutNext s.dravutExpect (s.objN .pairEpoch 0)
            (beBytes 16 (swMsg 3 g (swPayload m))) ∈ t.outbox)))
  ∧ (∀ s : State,
    ((∃ T ∈ s.stairSnap.armed, T ≤ s.now) →
      ∃ t, exec .stairSnapshotLatch s = .next t ∧ t = { s with stairSnap := t.stairSnap }
        ∧ t.stairSnap.units = s.units ∧ t.stairSnap.objs = s.objs.filter (fun p => latched p.1)
        ∧ (∀ T, T ∈ t.stairSnap.armed ↔ T ∈ s.stairSnap.armed ∧ s.now < T))
    ∧ ((∀ T ∈ s.stairSnap.armed, s.now < T) → exec .stairSnapshotLatch s = .next s))
  ∧ (∀ (s : State) (a : Accessor) (c : Instr) (v : Nat),
      (c = .stairResetDevice a ∧ v = 1) ∨ (c = .stairResetPair a ∧ v = 2) ∨ (c = .stairResetChain a ∧ v = 3) →
      s.writable a .stairReset 0 v →
    (v ≠ 3 ∨ s.obj .chainRole 0 = 1 →
      ∃ t, exec c s = .next t ∧ t.obj .startRung 0 = 2 ∧ t.obj .pwrState 0 = 0 ∧ t.obj .pairMode 0 = 0
        ∧ t.obj .pairState 0 = pairSingle ∧ t.obj .pairRole 0 = 0 ∧ t.pair = PairSt.reset
        ∧ (∀ x, t.byteAt x = 0) ∧ t.rings = [] ∧ t.pins.pairFailOut = true
        ∧ t.flash = s.flash ∧ t.sh = s.sh ∧ t.obj .shRollbackMin 0 = s.obj .shRollbackMin 0
        ∧ t.obj .shKeyRevoked 0 = s.obj .shKeyRevoked 0 ∧ t.obj .startHallMask 0 = s.obj .startHallMask 0
        ∧ (v = 2 → s.inPair = true → .dravut 7 s.dravutNext s.dravutExpect (s.objN .pairEpoch 0)
            (beBytes 16 (swMsg 0xF2 0 0)) ∈ t.outbox)
        ∧ (v = 3 → .munov true (linkFrame 7 (s.munovDir true).next (s.munovDir true).expect
            (munovAddrs 63 (s.objN .chainAddr 0)) (beBytes 16 (swMsg 0xF3 0 0))) ∈ t.outbox))
    ∧ (v = 3 → s.obj .chainRole 0 ≠ 1 →
      ∃ t, exec c s = .next t ∧ t.obj .dictLastStatus (accessorNo a) = lastStatusWord .state (objAddr .stairReset 0)
        ∧ t = { s with objs := t.objs } ∧ s.sameObjsBut t ((.lodgeRefused, classNo a.cls) :: lodgeObjs a)))
  ∧ (∀ (s : State) (down : Bool) (f : List Byte), s.obj .laneQuadMode 12 ≠ 10 ∨ s.obj .chainRole 0 = 0 →
    exec (.munovFrameReceive down f) s = .next s)
  ∧ (∀ (s : State) (down : Bool) (f : List Byte), s.obj .laneQuadMode 12 = 10 → s.obj .chainRole 0 ≠ 0 →
    let d := s.munovDir down
    let o := s.munovDir (!down)
    (linkParse f = none →
      ∃ t, exec (.munovFrameReceive down f) s = .next t
        ∧ t.obj .pairLinkRetries 0 = (s.obj .pairLinkRetries 0 + 1) % 4294967296 ∧ t = { s with objs := t.objs }
        ∧ s.sameObjsBut t [(.pairLinkRetries, 0)])
    ∧ (∀ x, linkParse f = some x →
      (x.ty = 6 →
        ∃ t, exec (.munovFrameReceive down f) s = .next t ∧ t = { s with munov := t.munov }
          ∧ t.munovDir down = { d with sent := d.sent.dropWhile (fun g => seqBelow g.fseq x.ack) } ∧ t.munovDir (!down) = o)
      ∧ (x.ty ≠ 6 → x.fseq ≠ d.expect → seqBelow x.fseq d.expect = false →
        ∃ t, exec (.munovFrameReceive down f) s = .next t
          ∧ t.obj .pairLinkRetries 0 = (s.obj .pairLinkRetries 0 + 1) % 4294967296
          ∧ t = { s with objs := t.objs, munov := t.munov } ∧ (t.munovDir down).expect = d.expect)
      ∧ (x.ty = 9 → x.fseq = d.expect → bits x.low 31 26 = s.objN .chainAddr 0 → s.obj .chainRole 0 = 1 →
        ∃ t, exec (.munovFrameReceive down f) s = .next t ∧ (t.munovDir down).expect = (d.expect + 1) % 2 ^ 32
          ∧ .handed 4 (bits x.low 25 20) x.payload ∈ t.outbox ∧ (t.munovDir (!down)).next = o.next)
      ∧ (x.ty ≠ 6 → x.fseq = d.expect → bits x.low 31 26 ≠ s.objN .chainAddr 0 → bits x.low 31 26 ≠ 63 →
          (down = false ∨ s.obj .chainRole 0 = 2) →
        let ack := OutMsg.munov down (linkFrame 6 0 ((d.expect + 1) % 2 ^ 32) (munovAddrs (bits x.low 25 20) (s.objN .chainAddr 0)) [])
        ∃ t, exec (.munovFrameReceive down f) s = .next t ∧ (t.munovDir down).expect = (d.expect + 1) % 2 ^ 32
          ∧ (t.munovDir (!down)).next = (o.next + 1) % 2 ^ 32
          ∧ t.outbox = .munov (!down) (linkFrame x.ty o.next o.expect x.low x.payload) :: ack :: s.outbox
          ∧ t = { s with munov := t.munov, outbox := t.outbox })))
end

