-- ==== Sys2Proof/Laws/Ops.lean ====
section
/-! SUPPORT. The laws of the shared operations: sparse tables, the object store, memory. -/

namespace Sys2Proof.Machine

/-! ### Sparse tables -/

theorem tabFind_tabErase_same {α : Type} (t : Tab α) (k : Nat) : tabFind (tabErase t k) k = none := by
  induction t with
  | nil => rfl
  | cons p r ih => obtain ⟨j, v⟩ := p; by_cases h : j = k <;> simp [tabErase, tabFind, h, ih]

theorem tabFind_tabErase_ne {α : Type} (t : Tab α) {k j : Nat} (h : j ≠ k) :
    tabFind (tabErase t k) j = tabFind t j := by
  induction t with
  | nil => rfl
  | cons p r ih =>
    obtain ⟨i, v⟩ := p
    by_cases hi : i = k
    · subst hi; simp [tabErase, tabFind, ih, Ne.symm h]
    · by_cases hj : i = j
      · subst hj; simp [tabErase, tabFind, hi]
      · simp [tabErase, tabFind, hi, hj, ih]

theorem tabFind_tabInsert_same {α : Type} (t : Tab α) (k : Nat) (v : α) (h : tabFind t k = none) :
    tabFind (tabInsert t k v) k = some v := by
  induction t with
  | nil => simp [tabInsert, tabFind]
  | cons p r ih =>
    obtain ⟨i, w⟩ := p
    by_cases hi : i = k
    · simp [tabFind, hi] at h
    · have hr : tabFind r k = none := by simpa [tabFind, hi] using h
      by_cases hk : k < i
      · simp [tabInsert, tabFind, hk]
      · simp [tabInsert, tabFind, hk, hi, ih hr]

theorem tabFind_tabInsert_ne {α : Type} (t : Tab α) {k j : Nat} (v : α) (h : j ≠ k) :
    tabFind (tabInsert t k v) j = tabFind t j := by
  induction t with
  | nil => simp [tabInsert, tabFind, Ne.symm h]
  | cons p r ih =>
    obtain ⟨i, w⟩ := p
    by_cases hk : k < i
    · simp [tabInsert, tabFind, hk, Ne.symm h]
    · by_cases hi : i = j
      · subst hi; simp [tabInsert, tabFind, hk]
      · simp [tabInsert, tabFind, hk, hi, ih]

/-- A read of what was written gives it. -/
@[simp] theorem tabGet_tabSet_same {α : Type} [DecidableEq α] (d : α) (t : Tab α) (k : Nat) (v : α) :
    tabGet d (tabSet d t k v) k = v := by
  unfold tabGet tabSet
  by_cases h : v = d
  · simp [h, tabFind_tabErase_same]
  · simp [h, tabFind_tabInsert_same _ _ _ (tabFind_tabErase_same t k)]

/-- A write leaves every other number alone, whatever either takes as the default. -/
theorem tabGet_tabSet_ne {α : Type} [DecidableEq α] (d d' : α) (t : Tab α) {k j : Nat} (v : α) (h : j ≠ k) :
    tabGet d' (tabSet d t k v) j = tabGet d' t j := by
  unfold tabGet tabSet
  by_cases hv : v = d
  · simp [hv, tabFind_tabErase_ne t h]
  · simp [hv, tabFind_tabInsert_ne _ v h, tabFind_tabErase_ne t h]

/-- What a number reads after a write. -/
theorem tabGet_tabSet {α : Type} [DecidableEq α] (d d' : α) (t : Tab α) (k j : Nat) (v : α) :
    tabGet d' (tabSet d t k v) j = if j = k then (if v = d then d' else v) else tabGet d' t j := by
  split
  · next h =>
    subst h
    unfold tabGet tabSet
    by_cases hv : v = d
    · simp [hv, tabFind_tabErase_same]
    · simp [hv, tabFind_tabInsert_same _ _ _ (tabFind_tabErase_same t j)]
  · next h => exact tabGet_tabSet_ne _ _ _ _ h

theorem tabErase_sublist {α : Type} (t : Tab α) (k : Nat) : (tabErase t k).Sublist t := by
  induction t with
  | nil => exact List.Sublist.slnil
  | cons p r ih =>
    obtain ⟨j, v⟩ := p
    by_cases h : j = k
    · simpa [tabErase, h] using ih.cons (j, v)
    · simpa [tabErase, h] using ih.cons_cons (j, v)

theorem mem_tabErase_ne {α : Type} {t : Tab α} {k : Nat} {p : Nat × α} (h : p ∈ tabErase t k) : p.1 ≠ k := by
  induction t with
  | nil => cases h
  | cons q r ih =>
    obtain ⟨j, v⟩ := q
    by_cases hj : j = k
    · exact ih (by simpa [tabErase, hj] using h)
    · rcases (by simpa [tabErase, hj] using h : p = (j, v) ∨ p ∈ tabErase r k) with rfl | h
      · exact hj
      · exact ih h

theorem mem_tabInsert {α : Type} {t : Tab α} {k : Nat} {v : α} {p : Nat × α} (h : p ∈ tabInsert t k v) :
    p = (k, v) ∨ p ∈ t := by
  induction t with
  | nil => exact .inl (by simpa [tabInsert] using h)
  | cons q r ih =>
    obtain ⟨j, w⟩ := q
    by_cases hk : k < j
    · simpa [tabInsert, hk] using h
    · rcases (by simpa [tabInsert, hk] using h : p = (j, w) ∨ p ∈ tabInsert r k v) with rfl | h
      · simp
      · rcases ih h with h | h <;> simp [h]

theorem tabInsert_sorted {α : Type} {t : Tab α} {k : Nat} {v : α} (h : t.Pairwise (fun a b => a.1 < b.1))
    (hk : ∀ p ∈ t, p.1 ≠ k) : (tabInsert t k v).Pairwise (fun a b => a.1 < b.1) := by
  induction t with
  | nil => simp [tabInsert]
  | cons q r ih =>
    obtain ⟨j, w⟩ := q
    rw [List.pairwise_cons] at h
    by_cases hj : k < j
    · simp only [tabInsert, hj, if_true, List.pairwise_cons]
      refine ⟨fun p hp => ?_, h⟩
      rcases List.mem_cons.mp hp with rfl | hp
      · exact hj
      · exact lt_trans hj (h.1 p hp)
    · simp only [tabInsert, hj, if_false, List.pairwise_cons]
      refine ⟨fun p hp => ?_, ih h.2 fun p hp => hk p (List.mem_cons_of_mem _ hp)⟩
      have := hk (j, w) (by simp)
      rcases mem_tabInsert hp with rfl | hp
      · simp at this ⊢; omega
      · exact h.1 p hp

/-- A write keeps the canonical form. -/
theorem TabWf.tabSet {α : Type} [DecidableEq α] {d : Nat → α} {t : Tab α} (h : TabWf d t) (k : Nat) (v : α) :
    TabWf d (tabSet (d k) t k v) := by
  have he : TabWf d (tabErase t k) :=
    ⟨h.1.sublist (tabErase_sublist t k), fun p hp => h.2 p ((tabErase_sublist t k).subset hp)⟩
  unfold Machine.tabSet
  by_cases hv : v = d k
  · simpa [hv] using he
  · simp only [hv, if_false]
    refine ⟨tabInsert_sorted he.1 fun p hp => mem_tabErase_ne hp, fun p hp => ?_⟩
    rcases mem_tabInsert hp with rfl | hp
    · exact hv
    · exact he.2 p hp

/-- What is left of a table keeps the canonical form. -/
theorem TabWf.filter {α : Type} {d : Nat → α} {t : Tab α} (h : TabWf d t) (f : Nat × α → Bool) :
    TabWf d (t.filter f) :=
  ⟨h.1.sublist List.filter_sublist, fun p hp => h.2 p (List.mem_filter.mp hp).1⟩

/-- A write of bytes to a memory keeps its canonical form. -/
theorem TabWf.memWrite {m : Tab Byte} (h : TabWf (fun _ => 0) m) (a : Nat) (l : List Byte) :
    TabWf (fun _ => 0) (memWrite m a l) := by
  induction l generalizing m a with
  | nil => exact h
  | cons b bs ih => exact ih (h.tabSet a b) (a + 1)

/-! ### The object store -/

/-- An object's number is below the stride of the instances. -/
theorem obj_ctorIdx_lt (o : Obj) : o.ctorIdx < 1024 := by
  cases o <;> decide

/-- No two objects share a number. -/
theorem objKey_inj {o p : Obj} {n m : Nat} (h : objKey o n = objKey p m) : o = p ∧ n = m := by
  have ho := obj_ctorIdx_lt o
  have hp := obj_ctorIdx_lt p
  unfold objKey at h
  have hi : o.ctorIdx = p.ctorIdx := by omega
  refine ⟨?_, by omega⟩
  rw [← Obj.ofNat_ctorIdx o, ← Obj.ofNat_ctorIdx p, hi]

/-- Two numbers of the object store are the same when object and instance are. -/
@[simp] theorem objKey_eq_iff (o p : Obj) (n m : Nat) : objKey o n = objKey p m ↔ o = p ∧ n = m :=
  ⟨objKey_inj, fun h => by rw [h.1, h.2]⟩

/-- States with the same object store read every object alike. -/
theorem State.obj_congr {s t : State} (h : t.objs = s.objs) (o : Obj) (n : Nat) : t.obj o n = s.obj o n := by
  simp [State.obj, h]

/-- The value set is the value read. -/
@[simp] theorem State.obj_setObj_same (s : State) (o : Obj) (n : Nat) (v : Int) : (s.setObj o n v).obj o n = v := by
  simp [State.obj, State.setObj]

/-- Setting an object leaves every other object, and every other instance, alone. -/
theorem State.obj_setObj_ne (s : State) {o p : Obj} {n m : Nat} (v : Int) (h : ¬(p = o ∧ m = n)) :
    (s.setObj o n v).obj p m = s.obj p m := by
  unfold State.obj State.setObj
  exact tabGet_tabSet_ne _ _ _ _ fun e => h (objKey_inj e)

/-- What an object reads after another, or the same, was set. -/
theorem State.obj_setObj (s : State) (o p : Obj) (n m : Nat) (v : Int) :
    (s.setObj o n v).obj p m = if p = o ∧ m = n then v else s.obj p m := by
  split
  · next h => rcases h with ⟨rfl, rfl⟩; simp
  · next h => exact s.obj_setObj_ne v h

/-- An object of another name is not touched. -/
@[simp] theorem State.obj_setObj_of_ne (s : State) {o p : Obj} (n m : Nat) (v : Int) (h : p ≠ o) :
    (s.setObj o n v).obj p m = s.obj p m :=
  s.obj_setObj_ne v fun e => h e.1

/-- Setting an object leaves the STR and DOMAIN objects alone. -/
@[simp] theorem State.dom_setObj (s : State) (o p : Obj) (n m : Nat) (v : Int) : (s.setObj o n v).dom p m = s.dom p m := rfl

/-- Setting bytes of a DOMAIN leaves the scalar objects alone. -/
@[simp] theorem State.obj_setDom (s : State) (o p : Obj) (n m : Nat) (v : List Byte) :
    (s.setDom o n v).obj p m = s.obj p m := rfl

@[simp] theorem State.obj_evt (s : State) (k : EvtKind) (u i : Nat) (o : Obj) (n : Nat) :
    (s.evt k u i).obj o n = s.obj o n := rfl

@[simp] theorem State.obj_send (s : State) (m : OutMsg) (o : Obj) (n : Nat) : (s.send m).obj o n = s.obj o n := rfl

@[simp] theorem State.obj_freeUsed (s : State) (o : Obj) (n : Nat) : s.freeUsed.obj o n = s.obj o n := rfl

@[simp] theorem State.obj_writeMem (s : State) (a : Nat) (l : List Byte) (o : Obj) (n : Nat) :
    (s.writeMem a l).obj o n = s.obj o n := rfl

/-- The bytes set are the bytes read. -/
@[simp] theorem State.dom_setDom_same (s : State) (o : Obj) (n : Nat) (v : List Byte) : (s.setDom o n v).dom o n = v := by
  simp [State.dom, State.setDom]

/-- Setting a DOMAIN leaves every other one alone. -/
theorem State.dom_setDom_ne (s : State) {o p : Obj} {n m : Nat} (v : List Byte) (h : ¬(p = o ∧ m = n)) :
    (s.setDom o n v).dom p m = s.dom p m := by
  unfold State.dom State.setDom
  exact tabGet_tabSet_ne _ _ _ _ fun e => h (objKey_inj e)

/-- A counter that counts conditionally: what it reads. -/
theorem State.obj_bump (s : State) (o : Obj) (n : Nat) : (s.bump o n).obj o n = (s.obj o n + 1) % 4294967296 := by
  simp [State.bump]

/-! ### Memory -/

theorem byteAt_memSetByte (m : Tab Byte) (a j : Nat) (b : Byte) :
    tabGet 0 (memSetByte m a b) j = if j = a then b else tabGet 0 m j := by
  unfold memSetByte
  split
  · next h => subst h; simp
  · next h => exact tabGet_tabSet_ne _ _ _ _ h

/-- What a byte reads after a write of bytes: the byte written there, else what it read before. -/
theorem tabGet_memWrite (m : Tab Byte) (a : Nat) (l : List Byte) (j : Nat) :
    tabGet 0 (memWrite m a l) j = if h : a ≤ j ∧ j - a < l.length then l[j - a] else tabGet 0 m j := by
  induction l generalizing m a with
  | nil => simp [memWrite]
  | cons b bs ih =>
    rw [memWrite, ih, byteAt_memSetByte]
    rcases lt_trichotomy j a with h | rfl | h
    · simp [show ¬ a + 1 ≤ j by omega, show ¬ a ≤ j by omega, show j ≠ a by omega]
    · simp
    · have e : j - a = (j - (a + 1)) + 1 := by omega
      by_cases hl : j - (a + 1) < bs.length
      · simp [show a + 1 ≤ j by omega, show a ≤ j by omega, hl, e]
      · simp [show a + 1 ≤ j by omega, show a ≤ j by omega, hl, e, show j ≠ a by omega]

/-- A write leaves every byte outside it alone. -/
theorem State.byteAt_writeMem_out (s : State) (a : Nat) (l : List Byte) {j : Nat} (h : ¬(a ≤ j ∧ j < a + l.length)) :
    (s.writeMem a l).byteAt j = s.byteAt j := by
  unfold State.byteAt State.writeMem
  rw [tabGet_memWrite]
  exact dif_neg fun e => h ⟨e.1, by omega⟩

end Sys2Proof.Machine
end

