-- ==== Sys2Proof/Laws/Frame.lean ====
section
/-! SUPPORT. Frames of the object store: how `State.sameObjsBut` passes through the shared operations, and what the
Lodge's part of an access leaves alone. -/

namespace Sys2Proof.Machine

theorem State.sameObjsBut.refl (s : State) (l : List (Obj × Nat)) : s.sameObjsBut s l := fun _ _ _ => rfl

theorem State.sameObjsBut.trans {s t u : State} {l : List (Obj × Nat)} (h : s.sameObjsBut t l) (k : t.sameObjsBut u l) :
    s.sameObjsBut u l := fun o n m => (k o n m).trans (h o n m)

theorem State.sameObjsBut.mono {s t : State} {l m : List (Obj × Nat)} (h : s.sameObjsBut t l) (k : l ⊆ m) :
    s.sameObjsBut t m := fun o n hn => h o n fun e => hn (k e)

/-- A state with the same object store as one that keeps the frame. -/
theorem State.sameObjsBut.congr {s t u : State} {l : List (Obj × Nat)} (h : s.sameObjsBut t l) (k : u.objs = t.objs) :
    s.sameObjsBut u l := fun o n hn => (State.obj_congr k o n).trans (h o n hn)

theorem State.sameObjsBut.setObj {s t : State} {l : List (Obj × Nat)} (h : s.sameObjsBut t l) {o : Obj} {n : Nat} (v : Int)
    (k : (o, n) ∈ l) : s.sameObjsBut (t.setObj o n v) l := fun p m hn => by
  rw [State.obj_setObj_ne _ _ (fun e => hn (by rw [e.1, e.2]; exact k))]
  exact h p m hn

theorem State.sameObjsBut.bump {s t : State} {l : List (Obj × Nat)} (h : s.sameObjsBut t l) {o : Obj} {n : Nat}
    (k : (o, n) ∈ l) : s.sameObjsBut (t.bump o n) l := h.setObj _ k

theorem State.sameObjsBut.bumpBy {s t : State} {l : List (Obj × Nat)} (h : s.sameObjsBut t l) {o : Obj} {n : Nat} (v : Nat)
    (k : (o, n) ∈ l) : s.sameObjsBut (t.bumpBy o n v) l := h.setObj _ k

theorem State.sameObjsBut.bumpIf {s t : State} {l : List (Obj × Nat)} (h : s.sameObjsBut t l) {o : Obj} {n : Nat} (c : Bool)
    (k : (o, n) ∈ l) : s.sameObjsBut (t.bumpIf c o n) l := by
  unfold State.bumpIf
  split
  · exact h.bump k
  · exact h

@[simp] theorem State.evtIf_objs (s : State) (c : Bool) (k : EvtKind) (u i : Nat) : (s.evtIf c k u i).objs = s.objs := by
  unfold State.evtIf; split <;> rfl

/-- What the Lodge writes as it accepts a write: the accessor's status; and the write waits for its acknowledgement. -/
theorem State.sameObjsBut.acceptAt {s t : State} {l : List (Obj × Nat)} (h : s.sameObjsBut t l) {a : Accessor} (addr : Nat)
    (v : Int) (k : (Obj.dictLastStatus, accessorNo a) ∈ l) : s.sameObjsBut (t.acceptAt a addr v) l := by
  unfold State.acceptAt
  dsimp only
  split
  · exact h.setObj _ k
  · exact (h.setObj _ k).congr rfl

/-- What the Lodge writes as it refuses an access. -/
theorem State.sameObjsBut.refuseAt {s t : State} {l : List (Obj × Nat)} (h : s.sameObjsBut t l) {a : Accessor} (st : Status)
    (addr : Nat) (k : (Obj.dictLastStatus, accessorNo a) ∈ l) (k' : (Obj.lodgeRefused, classNo a.cls) ∈ l) :
    s.sameObjsBut (t.refuseAt a st addr) l := (h.setObj _ k).bump k'

/-- An accepted write shows its effect on every object but those of the Lodge. -/
theorem State.obj_acceptAt (s : State) (a : Accessor) (addr : Nat) (v : Int) {o : Obj} (n : Nat) (h : o ≠ .dictLastStatus) :
    (s.acceptAt a addr v).obj o n = s.obj o n := by
  unfold State.acceptAt
  dsimp only
  split
  · simp [h]
  · exact (State.obj_congr rfl o n).trans (State.obj_setObj_of_ne _ _ _ _ h)

/-- An accepted write changes the object store and the queue of writes in progress alone. -/
theorem State.acceptAt_frame (s : State) (a : Accessor) (addr : Nat) (v : Int) :
    s.acceptAt a addr v
      = { s with objs := (s.acceptAt a addr v).objs, unacked := (s.acceptAt a addr v).unacked } := by
  unfold State.acceptAt
  dsimp only
  split <;> rfl

/-- A write that passes every check is applied and accepted. -/
theorem State.dictWrite_ok {s : State} {a : Accessor} {o : Obj} {n : Nat} {v : Int} {chk : Status} (eff : State → State)
    (h : s.writable a o n v) (hc : chk = .ok) :
    s.dictWrite a o n v chk eff = (eff (s.countAccess a)).acceptAt a (objAddr o n) v := by
  unfold State.dictWrite
  simp [h.1, h.2, hc, Status.orElse]

/-- A write that its object's own check refuses changes the Lodge's counters and the accessor's status alone. -/
theorem State.dictWrite_refused {s : State} {a : Accessor} {o : Obj} {n : Nat} {v : Int} {chk : Status} (eff : State → State)
    (h : s.writable a o n v) (hc : chk ≠ .ok) :
    s.dictWrite a o n v chk eff = (s.countAccess a).refuseAt a chk (objAddr o n) := by
  unfold State.dictWrite
  simp [h.1, h.2, hc, Status.orElse]

end Sys2Proof.Machine
end

