-- ==== Sys2Proof/Laws/Getters.lean ====
section
/-! SUPPORT. What each read of a structured part of State gives after a setter that does not write it, and after the Lodge
has accepted a write; and the read after the write of the same place. -/

namespace Sys2Proof.Machine

@[simp] theorem State.pacer_setObj (s : State) (o : Obj) (n : Nat) (v : Int) (u : Nat) : (s.setObj o n v).pacer u = s.pacer u := rfl
@[simp] theorem State.unit_setObj (s : State) (o : Obj) (n : Nat) (v : Int) (u : Nat) : (s.setObj o n v).unit u = s.unit u := rfl
@[simp] theorem State.core_setObj (s : State) (o : Obj) (n : Nat) (v : Int) (c : Nat) : (s.setObj o n v).core c = s.core c := rfl
@[simp] theorem State.port_setObj (s : State) (o : Obj) (n : Nat) (v : Int) (p : Nat) : (s.setObj o n v).port p = s.port p := rfl
@[simp] theorem State.ring_setObj (s : State) (o : Obj) (n : Nat) (v : Int) (r : Nat) : (s.setObj o n v).ring r = s.ring r := rfl
@[simp] theorem State.lane_setObj (s : State) (o : Obj) (n : Nat) (v : Int) (l : Nat) : (s.setObj o n v).lane l = s.lane l := rfl
@[simp] theorem State.sch_setObj (s : State) (o : Obj) (n : Nat) (v : Int) (h : Nat) : (s.setObj o n v).sch h = s.sch h := rfl
@[simp] theorem State.nap_setObj (s : State) (o : Obj) (n : Nat) (v : Int) (k : Nat) : (s.setObj o n v).nap k = s.nap k := rfl
@[simp] theorem State.arb_setObj (s : State) (o : Obj) (n : Nat) (v : Int) (k : Nat) : (s.setObj o n v).arb k = s.arb k := rfl
@[simp] theorem State.ddrCh_setObj (s : State) (o : Obj) (n : Nat) (v : Int) (c : Nat) : (s.setObj o n v).ddrCh c = s.ddrCh c := rfl
@[simp] theorem State.ulBuf_setObj (s : State) (o : Obj) (n : Nat) (v : Int) (k : Nat) : (s.setObj o n v).ulBuf k = s.ulBuf k := rfl
@[simp] theorem State.engRun_setObj (s : State) (o : Obj) (n : Nat) (v : Int) (h e : Nat) : (s.setObj o n v).engRun h e = s.engRun h e := rfl
@[simp] theorem State.erxRing_setObj (s : State) (o : Obj) (n : Nat) (v : Int) (r : Nat) : (s.setObj o n v).erxRing r = s.erxRing r := rfl
@[simp] theorem State.etxRing_setObj (s : State) (o : Obj) (n : Nat) (v : Int) (r : Nat) : (s.setObj o n v).etxRing r = s.etxRing r := rfl
@[simp] theorem State.stageCtx_setObj (s : State) (o : Obj) (n : Nat) (v : Int) (k : Nat) : (s.setObj o n v).stageCtx k = s.stageCtx k := rfl
@[simp] theorem State.carrier_setObj (s : State) (o : Obj) (n : Nat) (v : Int) (c : Nat) : (s.setObj o n v).carrier c = s.carrier c := rfl
@[simp] theorem State.byteAt_setObj (s : State) (o : Obj) (n : Nat) (v : Int) (ad : Nat) : (s.setObj o n v).byteAt ad = s.byteAt ad := rfl
@[simp] theorem State.logEntry_setObj (s : State) (o : Obj) (n : Nat) (v : Int) (m e : Nat) : (s.setObj o n v).logEntry m e = s.logEntry m e := rfl
@[simp] theorem State.upset_setObj (s : State) (o : Obj) (n : Nat) (v : Int) (l : MemLoc) : (s.setObj o n v).upset l = s.upset l := rfl
@[simp] theorem State.window_setObj (s : State) (o : Obj) (n : Nat) (v : Int) (fn : Nat) : (s.setObj o n v).window fn = s.window fn := rfl
@[simp] theorem State.munovDir_setObj (s : State) (o : Obj) (n : Nat) (v : Int) (down : Bool) : (s.setObj o n v).munovDir down = s.munovDir down := rfl
@[simp] theorem State.coreByte_setObj (s : State) (o : Obj) (n : Nat) (v : Int) (c ad : Nat) : (s.setObj o n v).coreByte c ad = s.coreByte c ad := rfl
@[simp] theorem State.flashByte_setObj (s : State) (o : Obj) (n : Nat) (v : Int) (ad : Nat) : (s.setObj o n v).flashByte ad = s.flashByte ad := rfl
@[simp] theorem State.praEntry_setObj (s : State) (o : Obj) (n : Nat) (v : Int) (p : Nat) : (s.setObj o n v).praEntry p = s.praEntry p := rfl
@[simp] theorem State.pacer_setDom (s : State) (o : Obj) (n : Nat) (v : List Byte) (u : Nat) : (s.setDom o n v).pacer u = s.pacer u := rfl
@[simp] theorem State.unit_setDom (s : State) (o : Obj) (n : Nat) (v : List Byte) (u : Nat) : (s.setDom o n v).unit u = s.unit u := rfl
@[simp] theorem State.core_setDom (s : State) (o : Obj) (n : Nat) (v : List Byte) (c : Nat) : (s.setDom o n v).core c = s.core c := rfl
@[simp] theorem State.port_setDom (s : State) (o : Obj) (n : Nat) (v : List Byte) (p : Nat) : (s.setDom o n v).port p = s.port p := rfl
@[simp] theorem State.ring_setDom (s : State) (o : Obj) (n : Nat) (v : List Byte) (r : Nat) : (s.setDom o n v).ring r = s.ring r := rfl
@[simp] theorem State.lane_setDom (s : State) (o : Obj) (n : Nat) (v : List Byte) (l : Nat) : (s.setDom o n v).lane l = s.lane l := rfl
@[simp] theorem State.sch_setDom (s : State) (o : Obj) (n : Nat) (v : List Byte) (h : Nat) : (s.setDom o n v).sch h = s.sch h := rfl
@[simp] theorem State.nap_setDom (s : State) (o : Obj) (n : Nat) (v : List Byte) (k : Nat) : (s.setDom o n v).nap k = s.nap k := rfl
@[simp] theorem State.arb_setDom (s : State) (o : Obj) (n : Nat) (v : List Byte) (k : Nat) : (s.setDom o n v).arb k = s.arb k := rfl
@[simp] theorem State.ddrCh_setDom (s : State) (o : Obj) (n : Nat) (v : List Byte) (c : Nat) : (s.setDom o n v).ddrCh c = s.ddrCh c := rfl
@[simp] theorem State.ulBuf_setDom (s : State) (o : Obj) (n : Nat) (v : List Byte) (k : Nat) : (s.setDom o n v).ulBuf k = s.ulBuf k := rfl
@[simp] theorem State.engRun_setDom (s : State) (o : Obj) (n : Nat) (v : List Byte) (h e : Nat) : (s.setDom o n v).engRun h e = s.engRun h e := rfl
@[simp] theorem State.erxRing_setDom (s : State) (o : Obj) (n : Nat) (v : List Byte) (r : Nat) : (s.setDom o n v).erxRing r = s.erxRing r := rfl
@[simp] theorem State.etxRing_setDom (s : State) (o : Obj) (n : Nat) (v : List Byte) (r : Nat) : (s.setDom o n v).etxRing r = s.etxRing r := rfl
@[simp] theorem State.stageCtx_setDom (s : State) (o : Obj) (n : Nat) (v : List Byte) (k : Nat) : (s.setDom o n v).stageCtx k = s.stageCtx k := rfl
@[simp] theorem State.carrier_setDom (s : State) (o : Obj) (n : Nat) (v : List Byte) (c : Nat) : (s.setDom o n v).carrier c = s.carrier c := rfl
@[simp] theorem State.byteAt_setDom (s : State) (o : Obj) (n : Nat) (v : List Byte) (ad : Nat) : (s.setDom o n v).byteAt ad = s.byteAt ad := rfl
@[simp] theorem State.logEntry_setDom (s : State) (o : Obj) (n : Nat) (v : List Byte) (m e : Nat) : (s.setDom o n v).logEntry m e = s.logEntry m e := rfl
@[simp] theorem State.upset_setDom (s : State) (o : Obj) (n : Nat) (v : List Byte) (l : MemLoc) : (s.setDom o n v).upset l = s.upset l := rfl
@[simp] theorem State.window_setDom (s : State) (o : Obj) (n : Nat) (v : List Byte) (fn : Nat) : (s.setDom o n v).window fn = s.window fn := rfl
@[simp] theorem State.munovDir_setDom (s : State) (o : Obj) (n : Nat) (v : List Byte) (down : Bool) : (s.setDom o n v).munovDir down = s.munovDir down := rfl
@[simp] theorem State.coreByte_setDom (s : State) (o : Obj) (n : Nat) (v : List Byte) (c ad : Nat) : (s.setDom o n v).coreByte c ad = s.coreByte c ad := rfl
@[simp] theorem State.flashByte_setDom (s : State) (o : Obj) (n : Nat) (v : List Byte) (ad : Nat) : (s.setDom o n v).flashByte ad = s.flashByte ad := rfl
@[simp] theorem State.praEntry_setDom (s : State) (o : Obj) (n : Nat) (v : List Byte) (p : Nat) : (s.setDom o n v).praEntry p = s.praEntry p := rfl
@[simp] theorem State.dom_evt (s : State) (kd : EvtKind) (un nf : Nat) (o : Obj) (n : Nat) : (s.evt kd un nf).dom o n = s.dom o n := rfl
@[simp] theorem State.pacer_evt (s : State) (kd : EvtKind) (un nf : Nat) (u : Nat) : (s.evt kd un nf).pacer u = s.pacer u := rfl
@[simp] theorem State.unit_evt (s : State) (kd : EvtKind) (un nf : Nat) (u : Nat) : (s.evt kd un nf).unit u = s.unit u := rfl
@[simp] theorem State.core_evt (s : State) (kd : EvtKind) (un nf : Nat) (c : Nat) : (s.evt kd un nf).core c = s.core c := rfl
@[simp] theorem State.port_evt (s : State) (kd : EvtKind) (un nf : Nat) (p : Nat) : (s.evt kd un nf).port p = s.port p := rfl
@[simp] theorem State.ring_evt (s : State) (kd : EvtKind) (un nf : Nat) (r : Nat) : (s.evt kd un nf).ring r = s.ring r := rfl
@[simp] theorem State.lane_evt (s : State) (kd : EvtKind) (un nf : Nat) (l : Nat) : (s.evt kd un nf).lane l = s.lane l := rfl
@[simp] theorem State.sch_evt (s : State) (kd : EvtKind) (un nf : Nat) (h : Nat) : (s.evt kd un nf).sch h = s.sch h := rfl
@[simp] theorem State.nap_evt (s : State) (kd : EvtKind) (un nf : Nat) (k : Nat) : (s.evt kd un nf).nap k = s.nap k := rfl
@[simp] theorem State.arb_evt (s : State) (kd : EvtKind) (un nf : Nat) (k : Nat) : (s.evt kd un nf).arb k = s.arb k := rfl
@[simp] theorem State.ddrCh_evt (s : State) (kd : EvtKind) (un nf : Nat) (c : Nat) : (s.evt kd un nf).ddrCh c = s.ddrCh c := rfl
@[simp] theorem State.ulBuf_evt (s : State) (kd : EvtKind) (un nf : Nat) (k : Nat) : (s.evt kd un nf).ulBuf k = s.ulBuf k := rfl
@[simp] theorem State.engRun_evt (s : State) (kd : EvtKind) (un nf : Nat) (h e : Nat) : (s.evt kd un nf).engRun h e = s.engRun h e := rfl
@[simp] theorem State.erxRing_evt (s : State) (kd : EvtKind) (un nf : Nat) (r : Nat) : (s.evt kd un nf).erxRing r = s.erxRing r := rfl
@[simp] theorem State.etxRing_evt (s : State) (kd : EvtKind) (un nf : Nat) (r : Nat) : (s.evt kd un nf).etxRing r = s.etxRing r := rfl
@[simp] theorem State.stageCtx_evt (s : State) (kd : EvtKind) (un nf : Nat) (k : Nat) : (s.evt kd un nf).stageCtx k = s.stageCtx k := rfl
@[simp] theorem State.carrier_evt (s : State) (kd : EvtKind) (un nf : Nat) (c : Nat) : (s.evt kd un nf).carrier c = s.carrier c := rfl
@[simp] theorem State.byteAt_evt (s : State) (kd : EvtKind) (un nf : Nat) (ad : Nat) : (s.evt kd un nf).byteAt ad = s.byteAt ad := rfl
@[simp] theorem State.logEntry_evt (s : State) (kd : EvtKind) (un nf : Nat) (m e : Nat) : (s.evt kd un nf).logEntry m e = s.logEntry m e := rfl
@[simp] theorem State.upset_evt (s : State) (kd : EvtKind) (un nf : Nat) (l : MemLoc) : (s.evt kd un nf).upset l = s.upset l := rfl
@[simp] theorem State.window_evt (s : State) (kd : EvtKind) (un nf : Nat) (fn : Nat) : (s.evt kd un nf).window fn = s.window fn := rfl
@[simp] theorem State.munovDir_evt (s : State) (kd : EvtKind) (un nf : Nat) (down : Bool) : (s.evt kd un nf).munovDir down = s.munovDir down := rfl
@[simp] theorem State.coreByte_evt (s : State) (kd : EvtKind) (un nf : Nat) (c ad : Nat) : (s.evt kd un nf).coreByte c ad = s.coreByte c ad := rfl
@[simp] theorem State.flashByte_evt (s : State) (kd : EvtKind) (un nf : Nat) (ad : Nat) : (s.evt kd un nf).flashByte ad = s.flashByte ad := rfl
@[simp] theorem State.praEntry_evt (s : State) (kd : EvtKind) (un nf : Nat) (p : Nat) : (s.evt kd un nf).praEntry p = s.praEntry p := rfl
@[simp] theorem State.dom_send (s : State) (msg : OutMsg) (o : Obj) (n : Nat) : (s.send msg).dom o n = s.dom o n := rfl
@[simp] theorem State.pacer_send (s : State) (msg : OutMsg) (u : Nat) : (s.send msg).pacer u = s.pacer u := rfl
@[simp] theorem State.unit_send (s : State) (msg : OutMsg) (u : Nat) : (s.send msg).unit u = s.unit u := rfl
@[simp] theorem State.core_send (s : State) (msg : OutMsg) (c : Nat) : (s.send msg).core c = s.core c := rfl
@[simp] theorem State.port_send (s : State) (msg : OutMsg) (p : Nat) : (s.send msg).port p = s.port p := rfl
@[simp] theorem State.ring_send (s : State) (msg : OutMsg) (r : Nat) : (s.send msg).ring r = s.ring r := rfl
@[simp] theorem State.lane_send (s : State) (msg : OutMsg) (l : Nat) : (s.send msg).lane l = s.lane l := rfl
@[simp] theorem State.sch_send (s : State) (msg : OutMsg) (h : Nat) : (s.send msg).sch h = s.sch h := rfl
@[simp] theorem State.nap_send (s : State) (msg : OutMsg) (k : Nat) : (s.send msg).nap k = s.nap k := rfl
@[simp] theorem State.arb_send (s : State) (msg : OutMsg) (k : Nat) : (s.send msg).arb k = s.arb k := rfl
@[simp] theorem State.ddrCh_send (s : State) (msg : OutMsg) (c : Nat) : (s.send msg).ddrCh c = s.ddrCh c := rfl
@[simp] theorem State.ulBuf_send (s : State) (msg : OutMsg) (k : Nat) : (s.send msg).ulBuf k = s.ulBuf k := rfl
@[simp] theorem State.engRun_send (s : State) (msg : OutMsg) (h e : Nat) : (s.send msg).engRun h e = s.engRun h e := rfl
@[simp] theorem State.erxRing_send (s : State) (msg : OutMsg) (r : Nat) : (s.send msg).erxRing r = s.erxRing r := rfl
@[simp] theorem State.etxRing_send (s : State) (msg : OutMsg) (r : Nat) : (s.send msg).etxRing r = s.etxRing r := rfl
@[simp] theorem State.stageCtx_send (s : State) (msg : OutMsg) (k : Nat) : (s.send msg).stageCtx k = s.stageCtx k := rfl
@[simp] theorem State.carrier_send (s : State) (msg : OutMsg) (c : Nat) : (s.send msg).carrier c = s.carrier c := rfl
@[simp] theorem State.byteAt_send (s : State) (msg : OutMsg) (ad : Nat) : (s.send msg).byteAt ad = s.byteAt ad := rfl
@[simp] theorem State.logEntry_send (s : State) (msg : OutMsg) (m e : Nat) : (s.send msg).logEntry m e = s.logEntry m e := rfl
@[simp] theorem State.upset_send (s : State) (msg : OutMsg) (l : MemLoc) : (s.send msg).upset l = s.upset l := rfl
@[simp] theorem State.window_send (s : State) (msg : OutMsg) (fn : Nat) : (s.send msg).window fn = s.window fn := rfl
@[simp] theorem State.munovDir_send (s : State) (msg : OutMsg) (down : Bool) : (s.send msg).munovDir down = s.munovDir down := rfl
@[simp] theorem State.coreByte_send (s : State) (msg : OutMsg) (c ad : Nat) : (s.send msg).coreByte c ad = s.coreByte c ad := rfl
@[simp] theorem State.flashByte_send (s : State) (msg : OutMsg) (ad : Nat) : (s.send msg).flashByte ad = s.flashByte ad := rfl
@[simp] theorem State.praEntry_send (s : State) (msg : OutMsg) (p : Nat) : (s.send msg).praEntry p = s.praEntry p := rfl
@[simp] theorem State.dom_freeUsed (s : State)  (o : Obj) (n : Nat) : (s.freeUsed ).dom o n = s.dom o n := rfl
@[simp] theorem State.pacer_freeUsed (s : State)  (u : Nat) : (s.freeUsed ).pacer u = s.pacer u := rfl
@[simp] theorem State.unit_freeUsed (s : State)  (u : Nat) : (s.freeUsed ).unit u = s.unit u := rfl
@[simp] theorem State.core_freeUsed (s : State)  (c : Nat) : (s.freeUsed ).core c = s.core c := rfl
@[simp] theorem State.port_freeUsed (s : State)  (p : Nat) : (s.freeUsed ).port p = s.port p := rfl
@[simp] theorem State.ring_freeUsed (s : State)  (r : Nat) : (s.freeUsed ).ring r = s.ring r := rfl
@[simp] theorem State.lane_freeUsed (s : State)  (l : Nat) : (s.freeUsed ).lane l = s.lane l := rfl
@[simp] theorem State.sch_freeUsed (s : State)  (h : Nat) : (s.freeUsed ).sch h = s.sch h := rfl
@[simp] theorem State.nap_freeUsed (s : State)  (k : Nat) : (s.freeUsed ).nap k = s.nap k := rfl
@[simp] theorem State.arb_freeUsed (s : State)  (k : Nat) : (s.freeUsed ).arb k = s.arb k := rfl
@[simp] theorem State.ddrCh_freeUsed (s : State)  (c : Nat) : (s.freeUsed ).ddrCh c = s.ddrCh c := rfl
@[simp] theorem State.ulBuf_freeUsed (s : State)  (k : Nat) : (s.freeUsed ).ulBuf k = s.ulBuf k := rfl
@[simp] theorem State.engRun_freeUsed (s : State)  (h e : Nat) : (s.freeUsed ).engRun h e = s.engRun h e := rfl
@[simp] theorem State.erxRing_freeUsed (s : State)  (r : Nat) : (s.freeUsed ).erxRing r = s.erxRing r := rfl
@[simp] theorem State.etxRing_freeUsed (s : State)  (r : Nat) : (s.freeUsed ).etxRing r = s.etxRing r := rfl
@[simp] theorem State.stageCtx_freeUsed (s : State)  (k : Nat) : (s.freeUsed ).stageCtx k = s.stageCtx k := rfl
@[simp] theorem State.carrier_freeUsed (s : State)  (c : Nat) : (s.freeUsed ).carrier c = s.carrier c := rfl
@[simp] theorem State.byteAt_freeUsed (s : State)  (ad : Nat) : (s.freeUsed ).byteAt ad = s.byteAt ad := rfl
@[simp] theorem State.logEntry_freeUsed (s : State)  (m e : Nat) : (s.freeUsed ).logEntry m e = s.logEntry m e := rfl
@[simp] theorem State.upset_freeUsed (s : State)  (l : MemLoc) : (s.freeUsed ).upset l = s.upset l := rfl
@[simp] theorem State.window_freeUsed (s : State)  (fn : Nat) : (s.freeUsed ).window fn = s.window fn := rfl
@[simp] theorem State.munovDir_freeUsed (s : State)  (down : Bool) : (s.freeUsed ).munovDir down = s.munovDir down := rfl
@[simp] theorem State.coreByte_freeUsed (s : State)  (c ad : Nat) : (s.freeUsed ).coreByte c ad = s.coreByte c ad := rfl
@[simp] theorem State.flashByte_freeUsed (s : State)  (ad : Nat) : (s.freeUsed ).flashByte ad = s.flashByte ad := rfl
@[simp] theorem State.praEntry_freeUsed (s : State)  (p : Nat) : (s.freeUsed ).praEntry p = s.praEntry p := rfl
@[simp] theorem State.dom_writeMem (s : State) (at_ : Nat) (by_ : List Byte) (o : Obj) (n : Nat) : (s.writeMem at_ by_).dom o n = s.dom o n := rfl
@[simp] theorem State.pacer_writeMem (s : State) (at_ : Nat) (by_ : List Byte) (u : Nat) : (s.writeMem at_ by_).pacer u = s.pacer u := rfl
@[simp] theorem State.unit_writeMem (s : State) (at_ : Nat) (by_ : List Byte) (u : Nat) : (s.writeMem at_ by_).unit u = s.unit u := rfl
@[simp] theorem State.core_writeMem (s : State) (at_ : Nat) (by_ : List Byte) (c : Nat) : (s.writeMem at_ by_).core c = s.core c := rfl
@[simp] theorem State.port_writeMem (s : State) (at_ : Nat) (by_ : List Byte) (p : Nat) : (s.writeMem at_ by_).port p = s.port p := rfl
@[simp] theorem State.ring_writeMem (s : State) (at_ : Nat) (by_ : List Byte) (r : Nat) : (s.writeMem at_ by_).ring r = s.ring r := rfl
@[simp] theorem State.lane_writeMem (s : State) (at_ : Nat) (by_ : List Byte) (l : Nat) : (s.writeMem at_ by_).lane l = s.lane l := rfl
@[simp] theorem State.sch_writeMem (s : State) (at_ : Nat) (by_ : List Byte) (h : Nat) : (s.writeMem at_ by_).sch h = s.sch h := rfl
@[simp] theorem State.nap_writeMem (s : State) (at_ : Nat) (by_ : List Byte) (k : Nat) : (s.writeMem at_ by_).nap k = s.nap k := rfl
@[simp] theorem State.arb_writeMem (s : State) (at_ : Nat) (by_ : List Byte) (k : Nat) : (s.writeMem at_ by_).arb k = s.arb k := rfl
@[simp] theorem State.ddrCh_writeMem (s : State) (at_ : Nat) (by_ : List Byte) (c : Nat) : (s.writeMem at_ by_).ddrCh c = s.ddrCh c := rfl
@[simp] theorem State.ulBuf_writeMem (s : State) (at_ : Nat) (by_ : List Byte) (k : Nat) : (s.writeMem at_ by_).ulBuf k = s.ulBuf k := rfl
@[simp] theorem State.engRun_writeMem (s : State) (at_ : Nat) (by_ : List Byte) (h e : Nat) : (s.writeMem at_ by_).engRun h e = s.engRun h e := rfl
@[simp] theorem State.erxRing_writeMem (s : State) (at_ : Nat) (by_ : List Byte) (r : Nat) : (s.writeMem at_ by_).erxRing r = s.erxRing r := rfl
@[simp] theorem State.etxRing_writeMem (s : State) (at_ : Nat) (by_ : List Byte) (r : Nat) : (s.writeMem at_ by_).etxRing r = s.etxRing r := rfl
@[simp] theorem State.stageCtx_writeMem (s : State) (at_ : Nat) (by_ : List Byte) (k : Nat) : (s.writeMem at_ by_).stageCtx k = s.stageCtx k := rfl
@[simp] theorem State.carrier_writeMem (s : State) (at_ : Nat) (by_ : List Byte) (c : Nat) : (s.writeMem at_ by_).carrier c = s.carrier c := rfl
@[simp] theorem State.logEntry_writeMem (s : State) (at_ : Nat) (by_ : List Byte) (m e : Nat) : (s.writeMem at_ by_).logEntry m e = s.logEntry m e := rfl
@[simp] theorem State.upset_writeMem (s : State) (at_ : Nat) (by_ : List Byte) (l : MemLoc) : (s.writeMem at_ by_).upset l = s.upset l := rfl
@[simp] theorem State.window_writeMem (s : State) (at_ : Nat) (by_ : List Byte) (fn : Nat) : (s.writeMem at_ by_).window fn = s.window fn := rfl
@[simp] theorem State.munovDir_writeMem (s : State) (at_ : Nat) (by_ : List Byte) (down : Bool) : (s.writeMem at_ by_).munovDir down = s.munovDir down := rfl
@[simp] theorem State.coreByte_writeMem (s : State) (at_ : Nat) (by_ : List Byte) (c ad : Nat) : (s.writeMem at_ by_).coreByte c ad = s.coreByte c ad := rfl
@[simp] theorem State.flashByte_writeMem (s : State) (at_ : Nat) (by_ : List Byte) (ad : Nat) : (s.writeMem at_ by_).flashByte ad = s.flashByte ad := rfl
@[simp] theorem State.praEntry_writeMem (s : State) (at_ : Nat) (by_ : List Byte) (p : Nat) : (s.writeMem at_ by_).praEntry p = s.praEntry p := rfl
@[simp] theorem State.obj_setCore (s : State) (i : Nat) (x : CoreSt) (o : Obj) (n : Nat) : (s.setCore i x).obj o n = s.obj o n := rfl
@[simp] theorem State.dom_setCore (s : State) (i : Nat) (x : CoreSt) (o : Obj) (n : Nat) : (s.setCore i x).dom o n = s.dom o n := rfl
@[simp] theorem State.pacer_setCore (s : State) (i : Nat) (x : CoreSt) (u : Nat) : (s.setCore i x).pacer u = s.pacer u := rfl
@[simp] theorem State.unit_setCore (s : State) (i : Nat) (x : CoreSt) (u : Nat) : (s.setCore i x).unit u = s.unit u := rfl
@[simp] theorem State.port_setCore (s : State) (i : Nat) (x : CoreSt) (p : Nat) : (s.setCore i x).port p = s.port p := rfl
@[simp] theorem State.ring_setCore (s : State) (i : Nat) (x : CoreSt) (r : Nat) : (s.setCore i x).ring r = s.ring r := rfl
@[simp] theorem State.lane_setCore (s : State) (i : Nat) (x : CoreSt) (l : Nat) : (s.setCore i x).lane l = s.lane l := rfl
@[simp] theorem State.sch_setCore (s : State) (i : Nat) (x : CoreSt) (h : Nat) : (s.setCore i x).sch h = s.sch h := rfl
@[simp] theorem State.nap_setCore (s : State) (i : Nat) (x : CoreSt) (k : Nat) : (s.setCore i x).nap k = s.nap k := rfl
@[simp] theorem State.arb_setCore (s : State) (i : Nat) (x : CoreSt) (k : Nat) : (s.setCore i x).arb k = s.arb k := rfl
@[simp] theorem State.ddrCh_setCore (s : State) (i : Nat) (x : CoreSt) (c : Nat) : (s.setCore i x).ddrCh c = s.ddrCh c := rfl
@[simp] theorem State.ulBuf_setCore (s : State) (i : Nat) (x : CoreSt) (k : Nat) : (s.setCore i x).ulBuf k = s.ulBuf k := rfl
@[simp] theorem State.engRun_setCore (s : State) (i : Nat) (x : CoreSt) (h e : Nat) : (s.setCore i x).engRun h e = s.engRun h e := rfl
@[simp] theorem State.erxRing_setCore (s : State) (i : Nat) (x : CoreSt) (r : Nat) : (s.setCore i x).erxRing r = s.erxRing r := rfl
@[simp] theorem State.etxRing_setCore (s : State) (i : Nat) (x : CoreSt) (r : Nat) : (s.setCore i x).etxRing r = s.etxRing r := rfl
@[simp] theorem State.stageCtx_setCore (s : State) (i : Nat) (x : CoreSt) (k : Nat) : (s.setCore i x).stageCtx k = s.stageCtx k := rfl
@[simp] theorem State.carrier_setCore (s : State) (i : Nat) (x : CoreSt) (c : Nat) : (s.setCore i x).carrier c = s.carrier c := rfl
@[simp] theorem State.byteAt_setCore (s : State) (i : Nat) (x : CoreSt) (ad : Nat) : (s.setCore i x).byteAt ad = s.byteAt ad := rfl
@[simp] theorem State.logEntry_setCore (s : State) (i : Nat) (x : CoreSt) (m e : Nat) : (s.setCore i x).logEntry m e = s.logEntry m e := rfl
@[simp] theorem State.upset_setCore (s : State) (i : Nat) (x : CoreSt) (l : MemLoc) : (s.setCore i x).upset l = s.upset l := rfl
@[simp] theorem State.window_setCore (s : State) (i : Nat) (x : CoreSt) (fn : Nat) : (s.setCore i x).window fn = s.window fn := rfl
@[simp] theorem State.munovDir_setCore (s : State) (i : Nat) (x : CoreSt) (down : Bool) : (s.setCore i x).munovDir down = s.munovDir down := rfl
@[simp] theorem State.coreByte_setCore (s : State) (i : Nat) (x : CoreSt) (c ad : Nat) : (s.setCore i x).coreByte c ad = s.coreByte c ad := rfl
@[simp] theorem State.flashByte_setCore (s : State) (i : Nat) (x : CoreSt) (ad : Nat) : (s.setCore i x).flashByte ad = s.flashByte ad := rfl
@[simp] theorem State.praEntry_setCore (s : State) (i : Nat) (x : CoreSt) (p : Nat) : (s.setCore i x).praEntry p = s.praEntry p := rfl
@[simp] theorem State.obj_setPacer (s : State) (i : Nat) (x : PaceSt) (o : Obj) (n : Nat) : (s.setPacer i x).obj o n = s.obj o n := rfl
@[simp] theorem State.dom_setPacer (s : State) (i : Nat) (x : PaceSt) (o : Obj) (n : Nat) : (s.setPacer i x).dom o n = s.dom o n := rfl
@[simp] theorem State.unit_setPacer (s : State) (i : Nat) (x : PaceSt) (u : Nat) : (s.setPacer i x).unit u = s.unit u := rfl
@[simp] theorem State.core_setPacer (s : State) (i : Nat) (x : PaceSt) (c : Nat) : (s.setPacer i x).core c = s.core c := rfl
@[simp] theorem State.port_setPacer (s : State) (i : Nat) (x : PaceSt) (p : Nat) : (s.setPacer i x).port p = s.port p := rfl
@[simp] theorem State.ring_setPacer (s : State) (i : Nat) (x : PaceSt) (r : Nat) : (s.setPacer i x).ring r = s.ring r := rfl
@[simp] theorem State.lane_setPacer (s : State) (i : Nat) (x : PaceSt) (l : Nat) : (s.setPacer i x).lane l = s.lane l := rfl
@[simp] theorem State.sch_setPacer (s : State) (i : Nat) (x : PaceSt) (h : Nat) : (s.setPacer i x).sch h = s.sch h := rfl
@[simp] theorem State.nap_setPacer (s : State) (i : Nat) (x : PaceSt) (k : Nat) : (s.setPacer i x).nap k = s.nap k := rfl
@[simp] theorem State.arb_setPacer (s : State) (i : Nat) (x : PaceSt) (k : Nat) : (s.setPacer i x).arb k = s.arb k := rfl
@[simp] theorem State.ddrCh_setPacer (s : State) (i : Nat) (x : PaceSt) (c : Nat) : (s.setPacer i x).ddrCh c = s.ddrCh c := rfl
@[simp] theorem State.ulBuf_setPacer (s : State) (i : Nat) (x : PaceSt) (k : Nat) : (s.setPacer i x).ulBuf k = s.ulBuf k := rfl
@[simp] theorem State.engRun_setPacer (s : State) (i : Nat) (x : PaceSt) (h e : Nat) : (s.setPacer i x).engRun h e = s.engRun h e := rfl
@[simp] theorem State.erxRing_setPacer (s : State) (i : Nat) (x : PaceSt) (r : Nat) : (s.setPacer i x).erxRing r = s.erxRing r := rfl
@[simp] theorem State.etxRing_setPacer (s : State) (i : Nat) (x : PaceSt) (r : Nat) : (s.setPacer i x).etxRing r = s.etxRing r := rfl
@[simp] theorem State.stageCtx_setPacer (s : State) (i : Nat) (x : PaceSt) (k : Nat) : (s.setPacer i x).stageCtx k = s.stageCtx k := rfl
@[simp] theorem State.carrier_setPacer (s : State) (i : Nat) (x : PaceSt) (c : Nat) : (s.setPacer i x).carrier c = s.carrier c := rfl
@[simp] theorem State.byteAt_setPacer (s : State) (i : Nat) (x : PaceSt) (ad : Nat) : (s.setPacer i x).byteAt ad = s.byteAt ad := rfl
@[simp] theorem State.logEntry_setPacer (s : State) (i : Nat) (x : PaceSt) (m e : Nat) : (s.setPacer i x).logEntry m e = s.logEntry m e := rfl
@[simp] theorem State.upset_setPacer (s : State) (i : Nat) (x : PaceSt) (l : MemLoc) : (s.setPacer i x).upset l = s.upset l := rfl
@[simp] theorem State.window_setPacer (s : State) (i : Nat) (x : PaceSt) (fn : Nat) : (s.setPacer i x).window fn = s.window fn := rfl
@[simp] theorem State.munovDir_setPacer (s : State) (i : Nat) (x : PaceSt) (down : Bool) : (s.setPacer i x).munovDir down = s.munovDir down := rfl
@[simp] theorem State.coreByte_setPacer (s : State) (i : Nat) (x : PaceSt) (c ad : Nat) : (s.setPacer i x).coreByte c ad = s.coreByte c ad := rfl
@[simp] theorem State.flashByte_setPacer (s : State) (i : Nat) (x : PaceSt) (ad : Nat) : (s.setPacer i x).flashByte ad = s.flashByte ad := rfl
@[simp] theorem State.praEntry_setPacer (s : State) (i : Nat) (x : PaceSt) (p : Nat) : (s.setPacer i x).praEntry p = s.praEntry p := rfl
@[simp] theorem State.obj_setUnit (s : State) (i : Nat) (x : UnitSt) (o : Obj) (n : Nat) : (s.setUnit i x).obj o n = s.obj o n := rfl
@[simp] theorem State.dom_setUnit (s : State) (i : Nat) (x : UnitSt) (o : Obj) (n : Nat) : (s.setUnit i x).dom o n = s.dom o n := rfl
@[simp] theorem State.pacer_setUnit (s : State) (i : Nat) (x : UnitSt) (u : Nat) : (s.setUnit i x).pacer u = s.pacer u := rfl
@[simp] theorem State.core_setUnit (s : State) (i : Nat) (x : UnitSt) (c : Nat) : (s.setUnit i x).core c = s.core c := rfl
@[simp] theorem State.port_setUnit (s : State) (i : Nat) (x : UnitSt) (p : Nat) : (s.setUnit i x).port p = s.port p := rfl
@[simp] theorem State.ring_setUnit (s : State) (i : Nat) (x : UnitSt) (r : Nat) : (s.setUnit i x).ring r = s.ring r := rfl
@[simp] theorem State.lane_setUnit (s : State) (i : Nat) (x : UnitSt) (l : Nat) : (s.setUnit i x).lane l = s.lane l := rfl
@[simp] theorem State.sch_setUnit (s : State) (i : Nat) (x : UnitSt) (h : Nat) : (s.setUnit i x).sch h = s.sch h := rfl
@[simp] theorem State.nap_setUnit (s : State) (i : Nat) (x : UnitSt) (k : Nat) : (s.setUnit i x).nap k = s.nap k := rfl
@[simp] theorem State.arb_setUnit (s : State) (i : Nat) (x : UnitSt) (k : Nat) : (s.setUnit i x).arb k = s.arb k := rfl
@[simp] theorem State.ddrCh_setUnit (s : State) (i : Nat) (x : UnitSt) (c : Nat) : (s.setUnit i x).ddrCh c = s.ddrCh c := rfl
@[simp] theorem State.ulBuf_setUnit (s : State) (i : Nat) (x : UnitSt) (k : Nat) : (s.setUnit i x).ulBuf k = s.ulBuf k := rfl
@[simp] theorem State.engRun_setUnit (s : State) (i : Nat) (x : UnitSt) (h e : Nat) : (s.setUnit i x).engRun h e = s.engRun h e := rfl
@[simp] theorem State.erxRing_setUnit (s : State) (i : Nat) (x : UnitSt) (r : Nat) : (s.setUnit i x).erxRing r = s.erxRing r := rfl
@[simp] theorem State.etxRing_setUnit (s : State) (i : Nat) (x : UnitSt) (r : Nat) : (s.setUnit i x).etxRing r = s.etxRing r := rfl
@[simp] theorem State.stageCtx_setUnit (s : State) (i : Nat) (x : UnitSt) (k : Nat) : (s.setUnit i x).stageCtx k = s.stageCtx k := rfl
@[simp] theorem State.carrier_setUnit (s : State) (i : Nat) (x : UnitSt) (c : Nat) : (s.setUnit i x).carrier c = s.carrier c := rfl
@[simp] theorem State.byteAt_setUnit (s : State) (i : Nat) (x : UnitSt) (ad : Nat) : (s.setUnit i x).byteAt ad = s.byteAt ad := rfl
@[simp] theorem State.logEntry_setUnit (s : State) (i : Nat) (x : UnitSt) (m e : Nat) : (s.setUnit i x).logEntry m e = s.logEntry m e := rfl
@[simp] theorem State.upset_setUnit (s : State) (i : Nat) (x : UnitSt) (l : MemLoc) : (s.setUnit i x).upset l = s.upset l := rfl
@[simp] theorem State.window_setUnit (s : State) (i : Nat) (x : UnitSt) (fn : Nat) : (s.setUnit i x).window fn = s.window fn := rfl
@[simp] theorem State.munovDir_setUnit (s : State) (i : Nat) (x : UnitSt) (down : Bool) : (s.setUnit i x).munovDir down = s.munovDir down := rfl
@[simp] theorem State.coreByte_setUnit (s : State) (i : Nat) (x : UnitSt) (c ad : Nat) : (s.setUnit i x).coreByte c ad = s.coreByte c ad := rfl
@[simp] theorem State.flashByte_setUnit (s : State) (i : Nat) (x : UnitSt) (ad : Nat) : (s.setUnit i x).flashByte ad = s.flashByte ad := rfl
@[simp] theorem State.praEntry_setUnit (s : State) (i : Nat) (x : UnitSt) (p : Nat) : (s.setUnit i x).praEntry p = s.praEntry p := rfl
@[simp] theorem State.obj_setSch (s : State) (i : Nat) (x : SchedSt) (o : Obj) (n : Nat) : (s.setSch i x).obj o n = s.obj o n := rfl
@[simp] theorem State.dom_setSch (s : State) (i : Nat) (x : SchedSt) (o : Obj) (n : Nat) : (s.setSch i x).dom o n = s.dom o n := rfl
@[simp] theorem State.pacer_setSch (s : State) (i : Nat) (x : SchedSt) (u : Nat) : (s.setSch i x).pacer u = s.pacer u := rfl
@[simp] theorem State.unit_setSch (s : State) (i : Nat) (x : SchedSt) (u : Nat) : (s.setSch i x).unit u = s.unit u := rfl
@[simp] theorem State.core_setSch (s : State) (i : Nat) (x : SchedSt) (c : Nat) : (s.setSch i x).core c = s.core c := rfl
@[simp] theorem State.port_setSch (s : State) (i : Nat) (x : SchedSt) (p : Nat) : (s.setSch i x).port p = s.port p := rfl
@[simp] theorem State.ring_setSch (s : State) (i : Nat) (x : SchedSt) (r : Nat) : (s.setSch i x).ring r = s.ring r := rfl
@[simp] theorem State.lane_setSch (s : State) (i : Nat) (x : SchedSt) (l : Nat) : (s.setSch i x).lane l = s.lane l := rfl
@[simp] theorem State.nap_setSch (s : State) (i : Nat) (x : SchedSt) (k : Nat) : (s.setSch i x).nap k = s.nap k := rfl
@[simp] theorem State.arb_setSch (s : State) (i : Nat) (x : SchedSt) (k : Nat) : (s.setSch i x).arb k = s.arb k := rfl
@[simp] theorem State.ddrCh_setSch (s : State) (i : Nat) (x : SchedSt) (c : Nat) : (s.setSch i x).ddrCh c = s.ddrCh c := rfl
@[simp] theorem State.ulBuf_setSch (s : State) (i : Nat) (x : SchedSt) (k : Nat) : (s.setSch i x).ulBuf k = s.ulBuf k := rfl
@[simp] theorem State.engRun_setSch (s : State) (i : Nat) (x : SchedSt) (h e : Nat) : (s.setSch i x).engRun h e = s.engRun h e := rfl
@[simp] theorem State.erxRing_setSch (s : State) (i : Nat) (x : SchedSt) (r : Nat) : (s.setSch i x).erxRing r = s.erxRing r := rfl
@[simp] theorem State.etxRing_setSch (s : State) (i : Nat) (x : SchedSt) (r : Nat) : (s.setSch i x).etxRing r = s.etxRing r := rfl
@[simp] theorem State.stageCtx_setSch (s : State) (i : Nat) (x : SchedSt) (k : Nat) : (s.setSch i x).stageCtx k = s.stageCtx k := rfl
@[simp] theorem State.carrier_setSch (s : State) (i : Nat) (x : SchedSt) (c : Nat) : (s.setSch i x).carrier c = s.carrier c := rfl
@[simp] theorem State.byteAt_setSch (s : State) (i : Nat) (x : SchedSt) (ad : Nat) : (s.setSch i x).byteAt ad = s.byteAt ad := rfl
@[simp] theorem State.logEntry_setSch (s : State) (i : Nat) (x : SchedSt) (m e : Nat) : (s.setSch i x).logEntry m e = s.logEntry m e := rfl
@[simp] theorem State.upset_setSch (s : State) (i : Nat) (x : SchedSt) (l : MemLoc) : (s.setSch i x).upset l = s.upset l := rfl
@[simp] theorem State.window_setSch (s : State) (i : Nat) (x : SchedSt) (fn : Nat) : (s.setSch i x).window fn = s.window fn := rfl
@[simp] theorem State.munovDir_setSch (s : State) (i : Nat) (x : SchedSt) (down : Bool) : (s.setSch i x).munovDir down = s.munovDir down := rfl
@[simp] theorem State.coreByte_setSch (s : State) (i : Nat) (x : SchedSt) (c ad : Nat) : (s.setSch i x).coreByte c ad = s.coreByte c ad := rfl
@[simp] theorem State.flashByte_setSch (s : State) (i : Nat) (x : SchedSt) (ad : Nat) : (s.setSch i x).flashByte ad = s.flashByte ad := rfl
@[simp] theorem State.praEntry_setSch (s : State) (i : Nat) (x : SchedSt) (p : Nat) : (s.setSch i x).praEntry p = s.praEntry p := rfl
@[simp] theorem State.obj_setPort (s : State) (i : Nat) (x : PortSt) (o : Obj) (n : Nat) : (s.setPort i x).obj o n = s.obj o n := rfl
@[simp] theorem State.dom_setPort (s : State) (i : Nat) (x : PortSt) (o : Obj) (n : Nat) : (s.setPort i x).dom o n = s.dom o n := rfl
@[simp] theorem State.pacer_setPort (s : State) (i : Nat) (x : PortSt) (u : Nat) : (s.setPort i x).pacer u = s.pacer u := rfl
@[simp] theorem State.unit_setPort (s : State) (i : Nat) (x : PortSt) (u : Nat) : (s.setPort i x).unit u = s.unit u := rfl
@[simp] theorem State.core_setPort (s : State) (i : Nat) (x : PortSt) (c : Nat) : (s.setPort i x).core c = s.core c := rfl
@[simp] theorem State.ring_setPort (s : State) (i : Nat) (x : PortSt) (r : Nat) : (s.setPort i x).ring r = s.ring r := rfl
@[simp] theorem State.lane_setPort (s : State) (i : Nat) (x : PortSt) (l : Nat) : (s.setPort i x).lane l = s.lane l := rfl
@[simp] theorem State.sch_setPort (s : State) (i : Nat) (x : PortSt) (h : Nat) : (s.setPort i x).sch h = s.sch h := rfl
@[simp] theorem State.nap_setPort (s : State) (i : Nat) (x : PortSt) (k : Nat) : (s.setPort i x).nap k = s.nap k := rfl
@[simp] theorem State.arb_setPort (s : State) (i : Nat) (x : PortSt) (k : Nat) : (s.setPort i x).arb k = s.arb k := rfl
@[simp] theorem State.ddrCh_setPort (s : State) (i : Nat) (x : PortSt) (c : Nat) : (s.setPort i x).ddrCh c = s.ddrCh c := rfl
@[simp] theorem State.ulBuf_setPort (s : State) (i : Nat) (x : PortSt) (k : Nat) : (s.setPort i x).ulBuf k = s.ulBuf k := rfl
@[simp] theorem State.engRun_setPort (s : State) (i : Nat) (x : PortSt) (h e : Nat) : (s.setPort i x).engRun h e = s.engRun h e := rfl
@[simp] theorem State.erxRing_setPort (s : State) (i : Nat) (x : PortSt) (r : Nat) : (s.setPort i x).erxRing r = s.erxRing r := rfl
@[simp] theorem State.etxRing_setPort (s : State) (i : Nat) (x : PortSt) (r : Nat) : (s.setPort i x).etxRing r = s.etxRing r := rfl
@[simp] theorem State.stageCtx_setPort (s : State) (i : Nat) (x : PortSt) (k : Nat) : (s.setPort i x).stageCtx k = s.stageCtx k := rfl
@[simp] theorem State.carrier_setPort (s : State) (i : Nat) (x : PortSt) (c : Nat) : (s.setPort i x).carrier c = s.carrier c := rfl
@[simp] theorem State.byteAt_setPort (s : State) (i : Nat) (x : PortSt) (ad : Nat) : (s.setPort i x).byteAt ad = s.byteAt ad := rfl
@[simp] theorem State.logEntry_setPort (s : State) (i : Nat) (x : PortSt) (m e : Nat) : (s.setPort i x).logEntry m e = s.logEntry m e := rfl
@[simp] theorem State.upset_setPort (s : State) (i : Nat) (x : PortSt) (l : MemLoc) : (s.setPort i x).upset l = s.upset l := rfl
@[simp] theorem State.window_setPort (s : State) (i : Nat) (x : PortSt) (fn : Nat) : (s.setPort i x).window fn = s.window fn := rfl
@[simp] theorem State.munovDir_setPort (s : State) (i : Nat) (x : PortSt) (down : Bool) : (s.setPort i x).munovDir down = s.munovDir down := rfl
@[simp] theorem State.coreByte_setPort (s : State) (i : Nat) (x : PortSt) (c ad : Nat) : (s.setPort i x).coreByte c ad = s.coreByte c ad := rfl
@[simp] theorem State.flashByte_setPort (s : State) (i : Nat) (x : PortSt) (ad : Nat) : (s.setPort i x).flashByte ad = s.flashByte ad := rfl
@[simp] theorem State.praEntry_setPort (s : State) (i : Nat) (x : PortSt) (p : Nat) : (s.setPort i x).praEntry p = s.praEntry p := rfl
@[simp] theorem State.obj_setLane (s : State) (i : Nat) (x : LaneSt) (o : Obj) (n : Nat) : (s.setLane i x).obj o n = s.obj o n := rfl
@[simp] theorem State.dom_setLane (s : State) (i : Nat) (x : LaneSt) (o : Obj) (n : Nat) : (s.setLane i x).dom o n = s.dom o n := rfl
@[simp] theorem State.pacer_setLane (s : State) (i : Nat) (x : LaneSt) (u : Nat) : (s.setLane i x).pacer u = s.pacer u := rfl
@[simp] theorem State.unit_setLane (s : State) (i : Nat) (x : LaneSt) (u : Nat) : (s.setLane i x).unit u = s.unit u := rfl
@[simp] theorem State.core_setLane (s : State) (i : Nat) (x : LaneSt) (c : Nat) : (s.setLane i x).core c = s.core c := rfl
@[simp] theorem State.port_setLane (s : State) (i : Nat) (x : LaneSt) (p : Nat) : (s.setLane i x).port p = s.port p := rfl
@[simp] theorem State.ring_setLane (s : State) (i : Nat) (x : LaneSt) (r : Nat) : (s.setLane i x).ring r = s.ring r := rfl
@[simp] theorem State.sch_setLane (s : State) (i : Nat) (x : LaneSt) (h : Nat) : (s.setLane i x).sch h = s.sch h := rfl
@[simp] theorem State.nap_setLane (s : State) (i : Nat) (x : LaneSt) (k : Nat) : (s.setLane i x).nap k = s.nap k := rfl
@[simp] theorem State.arb_setLane (s : State) (i : Nat) (x : LaneSt) (k : Nat) : (s.setLane i x).arb k = s.arb k := rfl
@[simp] theorem State.ddrCh_setLane (s : State) (i : Nat) (x : LaneSt) (c : Nat) : (s.setLane i x).ddrCh c = s.ddrCh c := rfl
@[simp] theorem State.ulBuf_setLane (s : State) (i : Nat) (x : LaneSt) (k : Nat) : (s.setLane i x).ulBuf k = s.ulBuf k := rfl
@[simp] theorem State.engRun_setLane (s : State) (i : Nat) (x : LaneSt) (h e : Nat) : (s.setLane i x).engRun h e = s.engRun h e := rfl
@[simp] theorem State.erxRing_setLane (s : State) (i : Nat) (x : LaneSt) (r : Nat) : (s.setLane i x).erxRing r = s.erxRing r := rfl
@[simp] theorem State.etxRing_setLane (s : State) (i : Nat) (x : LaneSt) (r : Nat) : (s.setLane i x).etxRing r = s.etxRing r := rfl
@[simp] theorem State.stageCtx_setLane (s : State) (i : Nat) (x : LaneSt) (k : Nat) : (s.setLane i x).stageCtx k = s.stageCtx k := rfl
@[simp] theorem State.carrier_setLane (s : State) (i : Nat) (x : LaneSt) (c : Nat) : (s.setLane i x).carrier c = s.carrier c := rfl
@[simp] theorem State.byteAt_setLane (s : State) (i : Nat) (x : LaneSt) (ad : Nat) : (s.setLane i x).byteAt ad = s.byteAt ad := rfl
@[simp] theorem State.logEntry_setLane (s : State) (i : Nat) (x : LaneSt) (m e : Nat) : (s.setLane i x).logEntry m e = s.logEntry m e := rfl
@[simp] theorem State.upset_setLane (s : State) (i : Nat) (x : LaneSt) (l : MemLoc) : (s.setLane i x).upset l = s.upset l := rfl
@[simp] theorem State.window_setLane (s : State) (i : Nat) (x : LaneSt) (fn : Nat) : (s.setLane i x).window fn = s.window fn := rfl
@[simp] theorem State.munovDir_setLane (s : State) (i : Nat) (x : LaneSt) (down : Bool) : (s.setLane i x).munovDir down = s.munovDir down := rfl
@[simp] theorem State.coreByte_setLane (s : State) (i : Nat) (x : LaneSt) (c ad : Nat) : (s.setLane i x).coreByte c ad = s.coreByte c ad := rfl
@[simp] theorem State.flashByte_setLane (s : State) (i : Nat) (x : LaneSt) (ad : Nat) : (s.setLane i x).flashByte ad = s.flashByte ad := rfl
@[simp] theorem State.praEntry_setLane (s : State) (i : Nat) (x : LaneSt) (p : Nat) : (s.setLane i x).praEntry p = s.praEntry p := rfl
@[simp] theorem State.obj_setRing (s : State) (i : Nat) (x : RingSt) (o : Obj) (n : Nat) : (s.setRing i x).obj o n = s.obj o n := rfl
@[simp] theorem State.dom_setRing (s : State) (i : Nat) (x : RingSt) (o : Obj) (n : Nat) : (s.setRing i x).dom o n = s.dom o n := rfl
@[simp] theorem State.pacer_setRing (s : State) (i : Nat) (x : RingSt) (u : Nat) : (s.setRing i x).pacer u = s.pacer u := rfl
@[simp] theorem State.unit_setRing (s : State) (i : Nat) (x : RingSt) (u : Nat) : (s.setRing i x).unit u = s.unit u := rfl
@[simp] theorem State.core_setRing (s : State) (i : Nat) (x : RingSt) (c : Nat) : (s.setRing i x).core c = s.core c := rfl
@[simp] theorem State.port_setRing (s : State) (i : Nat) (x : RingSt) (p : Nat) : (s.setRing i x).port p = s.port p := rfl
@[simp] theorem State.lane_setRing (s : State) (i : Nat) (x : RingSt) (l : Nat) : (s.setRing i x).lane l = s.lane l := rfl
@[simp] theorem State.sch_setRing (s : State) (i : Nat) (x : RingSt) (h : Nat) : (s.setRing i x).sch h = s.sch h := rfl
@[simp] theorem State.nap_setRing (s : State) (i : Nat) (x : RingSt) (k : Nat) : (s.setRing i x).nap k = s.nap k := rfl
@[simp] theorem State.arb_setRing (s : State) (i : Nat) (x : RingSt) (k : Nat) : (s.setRing i x).arb k = s.arb k := rfl
@[simp] theorem State.ddrCh_setRing (s : State) (i : Nat) (x : RingSt) (c : Nat) : (s.setRing i x).ddrCh c = s.ddrCh c := rfl
@[simp] theorem State.ulBuf_setRing (s : State) (i : Nat) (x : RingSt) (k : Nat) : (s.setRing i x).ulBuf k = s.ulBuf k := rfl
@[simp] theorem State.engRun_setRing (s : State) (i : Nat) (x : RingSt) (h e : Nat) : (s.setRing i x).engRun h e = s.engRun h e := rfl
@[simp] theorem State.erxRing_setRing (s : State) (i : Nat) (x : RingSt) (r : Nat) : (s.setRing i x).erxRing r = s.erxRing r := rfl
@[simp] theorem State.etxRing_setRing (s : State) (i : Nat) (x : RingSt) (r : Nat) : (s.setRing i x).etxRing r = s.etxRing r := rfl
@[simp] theorem State.stageCtx_setRing (s : State) (i : Nat) (x : RingSt) (k : Nat) : (s.setRing i x).stageCtx k = s.stageCtx k := rfl
@[simp] theorem State.carrier_setRing (s : State) (i : Nat) (x : RingSt) (c : Nat) : (s.setRing i x).carrier c = s.carrier c := rfl
@[simp] theorem State.byteAt_setRing (s : State) (i : Nat) (x : RingSt) (ad : Nat) : (s.setRing i x).byteAt ad = s.byteAt ad := rfl
@[simp] theorem State.logEntry_setRing (s : State) (i : Nat) (x : RingSt) (m e : Nat) : (s.setRing i x).logEntry m e = s.logEntry m e := rfl
@[simp] theorem State.upset_setRing (s : State) (i : Nat) (x : RingSt) (l : MemLoc) : (s.setRing i x).upset l = s.upset l := rfl
@[simp] theorem State.window_setRing (s : State) (i : Nat) (x : RingSt) (fn : Nat) : (s.setRing i x).window fn = s.window fn := rfl
@[simp] theorem State.munovDir_setRing (s : State) (i : Nat) (x : RingSt) (down : Bool) : (s.setRing i x).munovDir down = s.munovDir down := rfl
@[simp] theorem State.coreByte_setRing (s : State) (i : Nat) (x : RingSt) (c ad : Nat) : (s.setRing i x).coreByte c ad = s.coreByte c ad := rfl
@[simp] theorem State.flashByte_setRing (s : State) (i : Nat) (x : RingSt) (ad : Nat) : (s.setRing i x).flashByte ad = s.flashByte ad := rfl
@[simp] theorem State.praEntry_setRing (s : State) (i : Nat) (x : RingSt) (p : Nat) : (s.setRing i x).praEntry p = s.praEntry p := rfl
@[simp] theorem State.obj_setNap (s : State) (i : Nat) (x : NapSt) (o : Obj) (n : Nat) : (s.setNap i x).obj o n = s.obj o n := rfl
@[simp] theorem State.dom_setNap (s : State) (i : Nat) (x : NapSt) (o : Obj) (n : Nat) : (s.setNap i x).dom o n = s.dom o n := rfl
@[simp] theorem State.pacer_setNap (s : State) (i : Nat) (x : NapSt) (u : Nat) : (s.setNap i x).pacer u = s.pacer u := rfl
@[simp] theorem State.unit_setNap (s : State) (i : Nat) (x : NapSt) (u : Nat) : (s.setNap i x).unit u = s.unit u := rfl
@[simp] theorem State.core_setNap (s : State) (i : Nat) (x : NapSt) (c : Nat) : (s.setNap i x).core c = s.core c := rfl
@[simp] theorem State.port_setNap (s : State) (i : Nat) (x : NapSt) (p : Nat) : (s.setNap i x).port p = s.port p := rfl
@[simp] theorem State.ring_setNap (s : State) (i : Nat) (x : NapSt) (r : Nat) : (s.setNap i x).ring r = s.ring r := rfl
@[simp] theorem State.lane_setNap (s : State) (i : Nat) (x : NapSt) (l : Nat) : (s.setNap i x).lane l = s.lane l := rfl
@[simp] theorem State.sch_setNap (s : State) (i : Nat) (x : NapSt) (h : Nat) : (s.setNap i x).sch h = s.sch h := rfl
@[simp] theorem State.arb_setNap (s : State) (i : Nat) (x : NapSt) (k : Nat) : (s.setNap i x).arb k = s.arb k := rfl
@[simp] theorem State.ddrCh_setNap (s : State) (i : Nat) (x : NapSt) (c : Nat) : (s.setNap i x).ddrCh c = s.ddrCh c := rfl
@[simp] theorem State.ulBuf_setNap (s : State) (i : Nat) (x : NapSt) (k : Nat) : (s.setNap i x).ulBuf k = s.ulBuf k := rfl
@[simp] theorem State.engRun_setNap (s : State) (i : Nat) (x : NapSt) (h e : Nat) : (s.setNap i x).engRun h e = s.engRun h e := rfl
@[simp] theorem State.erxRing_setNap (s : State) (i : Nat) (x : NapSt) (r : Nat) : (s.setNap i x).erxRing r = s.erxRing r := rfl
@[simp] theorem State.etxRing_setNap (s : State) (i : Nat) (x : NapSt) (r : Nat) : (s.setNap i x).etxRing r = s.etxRing r := rfl
@[simp] theorem State.stageCtx_setNap (s : State) (i : Nat) (x : NapSt) (k : Nat) : (s.setNap i x).stageCtx k = s.stageCtx k := rfl
@[simp] theorem State.carrier_setNap (s : State) (i : Nat) (x : NapSt) (c : Nat) : (s.setNap i x).carrier c = s.carrier c := rfl
@[simp] theorem State.byteAt_setNap (s : State) (i : Nat) (x : NapSt) (ad : Nat) : (s.setNap i x).byteAt ad = s.byteAt ad := rfl
@[simp] theorem State.logEntry_setNap (s : State) (i : Nat) (x : NapSt) (m e : Nat) : (s.setNap i x).logEntry m e = s.logEntry m e := rfl
@[simp] theorem State.upset_setNap (s : State) (i : Nat) (x : NapSt) (l : MemLoc) : (s.setNap i x).upset l = s.upset l := rfl
@[simp] theorem State.window_setNap (s : State) (i : Nat) (x : NapSt) (fn : Nat) : (s.setNap i x).window fn = s.window fn := rfl
@[simp] theorem State.munovDir_setNap (s : State) (i : Nat) (x : NapSt) (down : Bool) : (s.setNap i x).munovDir down = s.munovDir down := rfl
@[simp] theorem State.coreByte_setNap (s : State) (i : Nat) (x : NapSt) (c ad : Nat) : (s.setNap i x).coreByte c ad = s.coreByte c ad := rfl
@[simp] theorem State.flashByte_setNap (s : State) (i : Nat) (x : NapSt) (ad : Nat) : (s.setNap i x).flashByte ad = s.flashByte ad := rfl
@[simp] theorem State.praEntry_setNap (s : State) (i : Nat) (x : NapSt) (p : Nat) : (s.setNap i x).praEntry p = s.praEntry p := rfl
@[simp] theorem State.obj_setUlBuf (s : State) (i : Nat) (x : UlBuf) (o : Obj) (n : Nat) : (s.setUlBuf i x).obj o n = s.obj o n := rfl
@[simp] theorem State.dom_setUlBuf (s : State) (i : Nat) (x : UlBuf) (o : Obj) (n : Nat) : (s.setUlBuf i x).dom o n = s.dom o n := rfl
@[simp] theorem State.pacer_setUlBuf (s : State) (i : Nat) (x : UlBuf) (u : Nat) : (s.setUlBuf i x).pacer u = s.pacer u := rfl
@[simp] theorem State.unit_setUlBuf (s : State) (i : Nat) (x : UlBuf) (u : Nat) : (s.setUlBuf i x).unit u = s.unit u := rfl
@[simp] theorem State.core_setUlBuf (s : State) (i : Nat) (x : UlBuf) (c : Nat) : (s.setUlBuf i x).core c = s.core c := rfl
@[simp] theorem State.port_setUlBuf (s : State) (i : Nat) (x : UlBuf) (p : Nat) : (s.setUlBuf i x).port p = s.port p := rfl
@[simp] theorem State.ring_setUlBuf (s : State) (i : Nat) (x : UlBuf) (r : Nat) : (s.setUlBuf i x).ring r = s.ring r := rfl
@[simp] theorem State.lane_setUlBuf (s : State) (i : Nat) (x : UlBuf) (l : Nat) : (s.setUlBuf i x).lane l = s.lane l := rfl
@[simp] theorem State.sch_setUlBuf (s : State) (i : Nat) (x : UlBuf) (h : Nat) : (s.setUlBuf i x).sch h = s.sch h := rfl
@[simp] theorem State.nap_setUlBuf (s : State) (i : Nat) (x : UlBuf) (k : Nat) : (s.setUlBuf i x).nap k = s.nap k := rfl
@[simp] theorem State.arb_setUlBuf (s : State) (i : Nat) (x : UlBuf) (k : Nat) : (s.setUlBuf i x).arb k = s.arb k := rfl
@[simp] theorem State.ddrCh_setUlBuf (s : State) (i : Nat) (x : UlBuf) (c : Nat) : (s.setUlBuf i x).ddrCh c = s.ddrCh c := rfl
@[simp] theorem State.engRun_setUlBuf (s : State) (i : Nat) (x : UlBuf) (h e : Nat) : (s.setUlBuf i x).engRun h e = s.engRun h e := rfl
@[simp] theorem State.erxRing_setUlBuf (s : State) (i : Nat) (x : UlBuf) (r : Nat) : (s.setUlBuf i x).erxRing r = s.erxRing r := rfl
@[simp] theorem State.etxRing_setUlBuf (s : State) (i : Nat) (x : UlBuf) (r : Nat) : (s.setUlBuf i x).etxRing r = s.etxRing r := rfl
@[simp] theorem State.stageCtx_setUlBuf (s : State) (i : Nat) (x : UlBuf) (k : Nat) : (s.setUlBuf i x).stageCtx k = s.stageCtx k := rfl
@[simp] theorem State.carrier_setUlBuf (s : State) (i : Nat) (x : UlBuf) (c : Nat) : (s.setUlBuf i x).carrier c = s.carrier c := rfl
@[simp] theorem State.byteAt_setUlBuf (s : State) (i : Nat) (x : UlBuf) (ad : Nat) : (s.setUlBuf i x).byteAt ad = s.byteAt ad := rfl
@[simp] theorem State.logEntry_setUlBuf (s : State) (i : Nat) (x : UlBuf) (m e : Nat) : (s.setUlBuf i x).logEntry m e = s.logEntry m e := rfl
@[simp] theorem State.upset_setUlBuf (s : State) (i : Nat) (x : UlBuf) (l : MemLoc) : (s.setUlBuf i x).upset l = s.upset l := rfl
@[simp] theorem State.window_setUlBuf (s : State) (i : Nat) (x : UlBuf) (fn : Nat) : (s.setUlBuf i x).window fn = s.window fn := rfl
@[simp] theorem State.munovDir_setUlBuf (s : State) (i : Nat) (x : UlBuf) (down : Bool) : (s.setUlBuf i x).munovDir down = s.munovDir down := rfl
@[simp] theorem State.coreByte_setUlBuf (s : State) (i : Nat) (x : UlBuf) (c ad : Nat) : (s.setUlBuf i x).coreByte c ad = s.coreByte c ad := rfl
@[simp] theorem State.flashByte_setUlBuf (s : State) (i : Nat) (x : UlBuf) (ad : Nat) : (s.setUlBuf i x).flashByte ad = s.flashByte ad := rfl
@[simp] theorem State.praEntry_setUlBuf (s : State) (i : Nat) (x : UlBuf) (p : Nat) : (s.setUlBuf i x).praEntry p = s.praEntry p := rfl
@[simp] theorem State.obj_setEngRun (s : State) (i q : Nat) (x : Option EngRun) (o : Obj) (n : Nat) : (s.setEngRun i q x).obj o n = s.obj o n := rfl
@[simp] theorem State.dom_setEngRun (s : State) (i q : Nat) (x : Option EngRun) (o : Obj) (n : Nat) : (s.setEngRun i q x).dom o n = s.dom o n := rfl
@[simp] theorem State.pacer_setEngRun (s : State) (i q : Nat) (x : Option EngRun) (u : Nat) : (s.setEngRun i q x).pacer u = s.pacer u := rfl
@[simp] theorem State.unit_setEngRun (s : State) (i q : Nat) (x : Option EngRun) (u : Nat) : (s.setEngRun i q x).unit u = s.unit u := rfl
@[simp] theorem State.core_setEngRun (s : State) (i q : Nat) (x : Option EngRun) (c : Nat) : (s.setEngRun i q x).core c = s.core c := rfl
@[simp] theorem State.port_setEngRun (s : State) (i q : Nat) (x : Option EngRun) (p : Nat) : (s.setEngRun i q x).port p = s.port p := rfl
@[simp] theorem State.ring_setEngRun (s : State) (i q : Nat) (x : Option EngRun) (r : Nat) : (s.setEngRun i q x).ring r = s.ring r := rfl
@[simp] theorem State.lane_setEngRun (s : State) (i q : Nat) (x : Option EngRun) (l : Nat) : (s.setEngRun i q x).lane l = s.lane l := rfl
@[simp] theorem State.sch_setEngRun (s : State) (i q : Nat) (x : Option EngRun) (h : Nat) : (s.setEngRun i q x).sch h = s.sch h := rfl
@[simp] theorem State.nap_setEngRun (s : State) (i q : Nat) (x : Option EngRun) (k : Nat) : (s.setEngRun i q x).nap k = s.nap k := rfl
@[simp] theorem State.arb_setEngRun (s : State) (i q : Nat) (x : Option EngRun) (k : Nat) : (s.setEngRun i q x).arb k = s.arb k := rfl
@[simp] theorem State.ddrCh_setEngRun (s : State) (i q : Nat) (x : Option EngRun) (c : Nat) : (s.setEngRun i q x).ddrCh c = s.ddrCh c := rfl
@[simp] theorem State.ulBuf_setEngRun (s : State) (i q : Nat) (x : Option EngRun) (k : Nat) : (s.setEngRun i q x).ulBuf k = s.ulBuf k := rfl
@[simp] theorem State.erxRing_setEngRun (s : State) (i q : Nat) (x : Option EngRun) (r : Nat) : (s.setEngRun i q x).erxRing r = s.erxRing r := rfl
@[simp] theorem State.etxRing_setEngRun (s : State) (i q : Nat) (x : Option EngRun) (r : Nat) : (s.setEngRun i q x).etxRing r = s.etxRing r := rfl
@[simp] theorem State.stageCtx_setEngRun (s : State) (i q : Nat) (x : Option EngRun) (k : Nat) : (s.setEngRun i q x).stageCtx k = s.stageCtx k := rfl
@[simp] theorem State.carrier_setEngRun (s : State) (i q : Nat) (x : Option EngRun) (c : Nat) : (s.setEngRun i q x).carrier c = s.carrier c := rfl
@[simp] theorem State.byteAt_setEngRun (s : State) (i q : Nat) (x : Option EngRun) (ad : Nat) : (s.setEngRun i q x).byteAt ad = s.byteAt ad := rfl
@[simp] theorem State.logEntry_setEngRun (s : State) (i q : Nat) (x : Option EngRun) (m e : Nat) : (s.setEngRun i q x).logEntry m e = s.logEntry m e := rfl
@[simp] theorem State.upset_setEngRun (s : State) (i q : Nat) (x : Option EngRun) (l : MemLoc) : (s.setEngRun i q x).upset l = s.upset l := rfl
@[simp] theorem State.window_setEngRun (s : State) (i q : Nat) (x : Option EngRun) (fn : Nat) : (s.setEngRun i q x).window fn = s.window fn := rfl
@[simp] theorem State.munovDir_setEngRun (s : State) (i q : Nat) (x : Option EngRun) (down : Bool) : (s.setEngRun i q x).munovDir down = s.munovDir down := rfl
@[simp] theorem State.coreByte_setEngRun (s : State) (i q : Nat) (x : Option EngRun) (c ad : Nat) : (s.setEngRun i q x).coreByte c ad = s.coreByte c ad := rfl
@[simp] theorem State.flashByte_setEngRun (s : State) (i q : Nat) (x : Option EngRun) (ad : Nat) : (s.setEngRun i q x).flashByte ad = s.flashByte ad := rfl
@[simp] theorem State.praEntry_setEngRun (s : State) (i q : Nat) (x : Option EngRun) (p : Nat) : (s.setEngRun i q x).praEntry p = s.praEntry p := rfl
@[simp] theorem State.obj_setArb (s : State) (i : Nat) (x : ArbSt) (o : Obj) (n : Nat) : (s.setArb i x).obj o n = s.obj o n := rfl
@[simp] theorem State.dom_setArb (s : State) (i : Nat) (x : ArbSt) (o : Obj) (n : Nat) : (s.setArb i x).dom o n = s.dom o n := rfl
@[simp] theorem State.pacer_setArb (s : State) (i : Nat) (x : ArbSt) (u : Nat) : (s.setArb i x).pacer u = s.pacer u := rfl
@[simp] theorem State.unit_setArb (s : State) (i : Nat) (x : ArbSt) (u : Nat) : (s.setArb i x).unit u = s.unit u := rfl
@[simp] theorem State.core_setArb (s : State) (i : Nat) (x : ArbSt) (c : Nat) : (s.setArb i x).core c = s.core c := rfl
@[simp] theorem State.port_setArb (s : State) (i : Nat) (x : ArbSt) (p : Nat) : (s.setArb i x).port p = s.port p := rfl
@[simp] theorem State.ring_setArb (s : State) (i : Nat) (x : ArbSt) (r : Nat) : (s.setArb i x).ring r = s.ring r := rfl
@[simp] theorem State.lane_setArb (s : State) (i : Nat) (x : ArbSt) (l : Nat) : (s.setArb i x).lane l = s.lane l := rfl
@[simp] theorem State.sch_setArb (s : State) (i : Nat) (x : ArbSt) (h : Nat) : (s.setArb i x).sch h = s.sch h := rfl
@[simp] theorem State.nap_setArb (s : State) (i : Nat) (x : ArbSt) (k : Nat) : (s.setArb i x).nap k = s.nap k := rfl
@[simp] theorem State.ddrCh_setArb (s : State) (i : Nat) (x : ArbSt) (c : Nat) : (s.setArb i x).ddrCh c = s.ddrCh c := rfl
@[simp] theorem State.ulBuf_setArb (s : State) (i : Nat) (x : ArbSt) (k : Nat) : (s.setArb i x).ulBuf k = s.ulBuf k := rfl
@[simp] theorem State.engRun_setArb (s : State) (i : Nat) (x : ArbSt) (h e : Nat) : (s.setArb i x).engRun h e = s.engRun h e := rfl
@[simp] theorem State.erxRing_setArb (s : State) (i : Nat) (x : ArbSt) (r : Nat) : (s.setArb i x).erxRing r = s.erxRing r := rfl
@[simp] theorem State.etxRing_setArb (s : State) (i : Nat) (x : ArbSt) (r : Nat) : (s.setArb i x).etxRing r = s.etxRing r := rfl
@[simp] theorem State.stageCtx_setArb (s : State) (i : Nat) (x : ArbSt) (k : Nat) : (s.setArb i x).stageCtx k = s.stageCtx k := rfl
@[simp] theorem State.carrier_setArb (s : State) (i : Nat) (x : ArbSt) (c : Nat) : (s.setArb i x).carrier c = s.carrier c := rfl
@[simp] theorem State.byteAt_setArb (s : State) (i : Nat) (x : ArbSt) (ad : Nat) : (s.setArb i x).byteAt ad = s.byteAt ad := rfl
@[simp] theorem State.logEntry_setArb (s : State) (i : Nat) (x : ArbSt) (m e : Nat) : (s.setArb i x).logEntry m e = s.logEntry m e := rfl
@[simp] theorem State.upset_setArb (s : State) (i : Nat) (x : ArbSt) (l : MemLoc) : (s.setArb i x).upset l = s.upset l := rfl
@[simp] theorem State.window_setArb (s : State) (i : Nat) (x : ArbSt) (fn : Nat) : (s.setArb i x).window fn = s.window fn := rfl
@[simp] theorem State.munovDir_setArb (s : State) (i : Nat) (x : ArbSt) (down : Bool) : (s.setArb i x).munovDir down = s.munovDir down := rfl
@[simp] theorem State.coreByte_setArb (s : State) (i : Nat) (x : ArbSt) (c ad : Nat) : (s.setArb i x).coreByte c ad = s.coreByte c ad := rfl
@[simp] theorem State.flashByte_setArb (s : State) (i : Nat) (x : ArbSt) (ad : Nat) : (s.setArb i x).flashByte ad = s.flashByte ad := rfl
@[simp] theorem State.praEntry_setArb (s : State) (i : Nat) (x : ArbSt) (p : Nat) : (s.setArb i x).praEntry p = s.praEntry p := rfl
@[simp] theorem State.obj_setDdrCh (s : State) (i : Nat) (x : DdrSt) (o : Obj) (n : Nat) : (s.setDdrCh i x).obj o n = s.obj o n := rfl
@[simp] theorem State.dom_setDdrCh (s : State) (i : Nat) (x : DdrSt) (o : Obj) (n : Nat) : (s.setDdrCh i x).dom o n = s.dom o n := rfl
@[simp] theorem State.pacer_setDdrCh (s : State) (i : Nat) (x : DdrSt) (u : Nat) : (s.setDdrCh i x).pacer u = s.pacer u := rfl
@[simp] theorem State.unit_setDdrCh (s : State) (i : Nat) (x : DdrSt) (u : Nat) : (s.setDdrCh i x).unit u = s.unit u := rfl
@[simp] theorem State.core_setDdrCh (s : State) (i : Nat) (x : DdrSt) (c : Nat) : (s.setDdrCh i x).core c = s.core c := rfl
@[simp] theorem State.port_setDdrCh (s : State) (i : Nat) (x : DdrSt) (p : Nat) : (s.setDdrCh i x).port p = s.port p := rfl
@[simp] theorem State.ring_setDdrCh (s : State) (i : Nat) (x : DdrSt) (r : Nat) : (s.setDdrCh i x).ring r = s.ring r := rfl
@[simp] theorem State.lane_setDdrCh (s : State) (i : Nat) (x : DdrSt) (l : Nat) : (s.setDdrCh i x).lane l = s.lane l := rfl
@[simp] theorem State.sch_setDdrCh (s : State) (i : Nat) (x : DdrSt) (h : Nat) : (s.setDdrCh i x).sch h = s.sch h := rfl
@[simp] theorem State.nap_setDdrCh (s : State) (i : Nat) (x : DdrSt) (k : Nat) : (s.setDdrCh i x).nap k = s.nap k := rfl
@[simp] theorem State.arb_setDdrCh (s : State) (i : Nat) (x : DdrSt) (k : Nat) : (s.setDdrCh i x).arb k = s.arb k := rfl
@[simp] theorem State.ulBuf_setDdrCh (s : State) (i : Nat) (x : DdrSt) (k : Nat) : (s.setDdrCh i x).ulBuf k = s.ulBuf k := rfl
@[simp] theorem State.engRun_setDdrCh (s : State) (i : Nat) (x : DdrSt) (h e : Nat) : (s.setDdrCh i x).engRun h e = s.engRun h e := rfl
@[simp] theorem State.erxRing_setDdrCh (s : State) (i : Nat) (x : DdrSt) (r : Nat) : (s.setDdrCh i x).erxRing r = s.erxRing r := rfl
@[simp] theorem State.etxRing_setDdrCh (s : State) (i : Nat) (x : DdrSt) (r : Nat) : (s.setDdrCh i x).etxRing r = s.etxRing r := rfl
@[simp] theorem State.stageCtx_setDdrCh (s : State) (i : Nat) (x : DdrSt) (k : Nat) : (s.setDdrCh i x).stageCtx k = s.stageCtx k := rfl
@[simp] theorem State.carrier_setDdrCh (s : State) (i : Nat) (x : DdrSt) (c : Nat) : (s.setDdrCh i x).carrier c = s.carrier c := rfl
@[simp] theorem State.byteAt_setDdrCh (s : State) (i : Nat) (x : DdrSt) (ad : Nat) : (s.setDdrCh i x).byteAt ad = s.byteAt ad := rfl
@[simp] theorem State.logEntry_setDdrCh (s : State) (i : Nat) (x : DdrSt) (m e : Nat) : (s.setDdrCh i x).logEntry m e = s.logEntry m e := rfl
@[simp] theorem State.upset_setDdrCh (s : State) (i : Nat) (x : DdrSt) (l : MemLoc) : (s.setDdrCh i x).upset l = s.upset l := rfl
@[simp] theorem State.window_setDdrCh (s : State) (i : Nat) (x : DdrSt) (fn : Nat) : (s.setDdrCh i x).window fn = s.window fn := rfl
@[simp] theorem State.munovDir_setDdrCh (s : State) (i : Nat) (x : DdrSt) (down : Bool) : (s.setDdrCh i x).munovDir down = s.munovDir down := rfl
@[simp] theorem State.coreByte_setDdrCh (s : State) (i : Nat) (x : DdrSt) (c ad : Nat) : (s.setDdrCh i x).coreByte c ad = s.coreByte c ad := rfl
@[simp] theorem State.flashByte_setDdrCh (s : State) (i : Nat) (x : DdrSt) (ad : Nat) : (s.setDdrCh i x).flashByte ad = s.flashByte ad := rfl
@[simp] theorem State.praEntry_setDdrCh (s : State) (i : Nat) (x : DdrSt) (p : Nat) : (s.setDdrCh i x).praEntry p = s.praEntry p := rfl
@[simp] theorem State.pacer_setPacer_same (s : State) (i : Nat) (x : PaceSt) : (s.setPacer i x).pacer i = x := by
  simp [State.pacer, State.setPacer]
theorem State.pacer_setPacer_ne (s : State) {i j : Nat} (x : PaceSt) (h : j ≠ i) : (s.setPacer i x).pacer j = s.pacer j :=
  tabGet_tabSet_ne _ _ _ _ h
@[simp] theorem State.unit_setUnit_same (s : State) (i : Nat) (x : UnitSt) : (s.setUnit i x).unit i = x := by
  simp [State.unit, State.setUnit]
theorem State.unit_setUnit_ne (s : State) {i j : Nat} (x : UnitSt) (h : j ≠ i) : (s.setUnit i x).unit j = s.unit j :=
  tabGet_tabSet_ne _ _ _ _ h
@[simp] theorem State.core_setCore_same (s : State) (i : Nat) (x : CoreSt) : (s.setCore i x).core i = x := by
  simp [State.core, State.setCore]
theorem State.core_setCore_ne (s : State) {i j : Nat} (x : CoreSt) (h : j ≠ i) : (s.setCore i x).core j = s.core j :=
  tabGet_tabSet_ne _ _ _ _ h
@[simp] theorem State.port_setPort_same (s : State) (i : Nat) (x : PortSt) : (s.setPort i x).port i = x := by
  simp [State.port, State.setPort]
theorem State.port_setPort_ne (s : State) {i j : Nat} (x : PortSt) (h : j ≠ i) : (s.setPort i x).port j = s.port j :=
  tabGet_tabSet_ne _ _ _ _ h
@[simp] theorem State.ring_setRing_same (s : State) (i : Nat) (x : RingSt) : (s.setRing i x).ring i = x := by
  simp [State.ring, State.setRing]
theorem State.ring_setRing_ne (s : State) {i j : Nat} (x : RingSt) (h : j ≠ i) : (s.setRing i x).ring j = s.ring j :=
  tabGet_tabSet_ne _ _ _ _ h
@[simp] theorem State.lane_setLane_same (s : State) (i : Nat) (x : LaneSt) : (s.setLane i x).lane i = x := by
  simp [State.lane, State.setLane]
theorem State.lane_setLane_ne (s : State) {i j : Nat} (x : LaneSt) (h : j ≠ i) : (s.setLane i x).lane j = s.lane j :=
  tabGet_tabSet_ne _ _ _ _ h
@[simp] theorem State.sch_setSch_same (s : State) (i : Nat) (x : SchedSt) : (s.setSch i x).sch i = x := by
  simp [State.sch, State.setSch]
theorem State.sch_setSch_ne (s : State) {i j : Nat} (x : SchedSt) (h : j ≠ i) : (s.setSch i x).sch j = s.sch j :=
  tabGet_tabSet_ne _ _ _ _ h
@[simp] theorem State.nap_setNap_same (s : State) (i : Nat) (x : NapSt) : (s.setNap i x).nap i = x := by
  simp [State.nap, State.setNap]
theorem State.nap_setNap_ne (s : State) {i j : Nat} (x : NapSt) (h : j ≠ i) : (s.setNap i x).nap j = s.nap j :=
  tabGet_tabSet_ne _ _ _ _ h
@[simp] theorem State.arb_setArb_same (s : State) (i : Nat) (x : ArbSt) : (s.setArb i x).arb i = x := by
  simp [State.arb, State.setArb]
theorem State.arb_setArb_ne (s : State) {i j : Nat} (x : ArbSt) (h : j ≠ i) : (s.setArb i x).arb j = s.arb j :=
  tabGet_tabSet_ne _ _ _ _ h
@[simp] theorem State.ddrCh_setDdrCh_same (s : State) (i : Nat) (x : DdrSt) : (s.setDdrCh i x).ddrCh i = x := by
  simp [State.ddrCh, State.setDdrCh]
theorem State.ddrCh_setDdrCh_ne (s : State) {i j : Nat} (x : DdrSt) (h : j ≠ i) : (s.setDdrCh i x).ddrCh j = s.ddrCh j :=
  tabGet_tabSet_ne _ _ _ _ h
@[simp] theorem State.ulBuf_setUlBuf_same (s : State) (i : Nat) (x : UlBuf) : (s.setUlBuf i x).ulBuf i = x := by
  simp [State.ulBuf, State.setUlBuf]
theorem State.ulBuf_setUlBuf_ne (s : State) {i j : Nat} (x : UlBuf) (h : j ≠ i) : (s.setUlBuf i x).ulBuf j = s.ulBuf j :=
  tabGet_tabSet_ne _ _ _ _ h
@[simp] theorem State.pending_acceptAt (s : State) (a : Accessor) (addr : Nat) (v : Int) : (s.acceptAt a addr v).pending = s.pending := by
  rw [State.acceptAt_frame]
@[simp] theorem State.freeCtr_acceptAt (s : State) (a : Accessor) (addr : Nat) (v : Int) : (s.acceptAt a addr v).freeCtr = s.freeCtr := by
  rw [State.acceptAt_frame]
@[simp] theorem State.doms_acceptAt (s : State) (a : Accessor) (addr : Nat) (v : Int) : (s.acceptAt a addr v).doms = s.doms := by
  rw [State.acceptAt_frame]
@[simp] theorem State.events_acceptAt (s : State) (a : Accessor) (addr : Nat) (v : Int) : (s.acceptAt a addr v).events = s.events := by
  rw [State.acceptAt_frame]
@[simp] theorem State.outbox_acceptAt (s : State) (a : Accessor) (addr : Nat) (v : Int) : (s.acceptAt a addr v).outbox = s.outbox := by
  rw [State.acceptAt_frame]
@[simp] theorem State.pace_acceptAt (s : State) (a : Accessor) (addr : Nat) (v : Int) : (s.acceptAt a addr v).pace = s.pace := by
  rw [State.acceptAt_frame]
@[simp] theorem State.units_acceptAt (s : State) (a : Accessor) (addr : Nat) (v : Int) : (s.acceptAt a addr v).units = s.units := by
  rw [State.acceptAt_frame]
@[simp] theorem State.pins_acceptAt (s : State) (a : Accessor) (addr : Nat) (v : Int) : (s.acceptAt a addr v).pins = s.pins := by
  rw [State.acceptAt_frame]
@[simp] theorem State.mem_acceptAt (s : State) (a : Accessor) (addr : Nat) (v : Int) : (s.acceptAt a addr v).mem = s.mem := by
  rw [State.acceptAt_frame]
@[simp] theorem State.journal_acceptAt (s : State) (a : Accessor) (addr : Nat) (v : Int) : (s.acceptAt a addr v).journal = s.journal := by
  rw [State.acceptAt_frame]
@[simp] theorem State.jseqNext_acceptAt (s : State) (a : Accessor) (addr : Nat) (v : Int) : (s.acceptAt a addr v).jseqNext = s.jseqNext := by
  rw [State.acceptAt_frame]
@[simp] theorem State.upsets_acceptAt (s : State) (a : Accessor) (addr : Nat) (v : Int) : (s.acceptAt a addr v).upsets = s.upsets := by
  rw [State.acceptAt_frame]
@[simp] theorem State.eccLog_acceptAt (s : State) (a : Accessor) (addr : Nat) (v : Int) : (s.acceptAt a addr v).eccLog = s.eccLog := by
  rw [State.acceptAt_frame]
@[simp] theorem State.hotQueue_acceptAt (s : State) (a : Accessor) (addr : Nat) (v : Int) : (s.acceptAt a addr v).hotQueue = s.hotQueue := by
  rw [State.acceptAt_frame]
@[simp] theorem State.scrubLated_acceptAt (s : State) (a : Accessor) (addr : Nat) (v : Int) : (s.acceptAt a addr v).scrubLated = s.scrubLated := by
  rw [State.acceptAt_frame]
@[simp] theorem State.scrub_acceptAt (s : State) (a : Accessor) (addr : Nat) (v : Int) : (s.acceptAt a addr v).scrub = s.scrub := by
  rw [State.acceptAt_frame]
@[simp] theorem State.elapsed_acceptAt (s : State) (a : Accessor) (addr : Nat) (v : Int) : (s.acceptAt a addr v).elapsed = s.elapsed := by
  rw [State.acceptAt_frame]
@[simp] theorem State.ddr_acceptAt (s : State) (a : Accessor) (addr : Nat) (v : Int) : (s.acceptAt a addr v).ddr = s.ddr := by
  rw [State.acceptAt_frame]
@[simp] theorem State.sparesUsed_acceptAt (s : State) (a : Accessor) (addr : Nat) (v : Int) : (s.acceptAt a addr v).sparesUsed = s.sparesUsed := by
  rw [State.acceptAt_frame]
@[simp] theorem State.sppr_acceptAt (s : State) (a : Accessor) (addr : Nat) (v : Int) : (s.acceptAt a addr v).sppr = s.sppr := by
  rw [State.acceptAt_frame]
@[simp] theorem State.repairs_acceptAt (s : State) (a : Accessor) (addr : Nat) (v : Int) : (s.acceptAt a addr v).repairs = s.repairs := by
  rw [State.acceptAt_frame]
@[simp] theorem State.coreMem_acceptAt (s : State) (a : Accessor) (addr : Nat) (v : Int) : (s.acceptAt a addr v).coreMem = s.coreMem := by
  rw [State.acceptAt_frame]
@[simp] theorem State.cores_acceptAt (s : State) (a : Accessor) (addr : Nat) (v : Int) : (s.acceptAt a addr v).cores = s.cores := by
  rw [State.acceptAt_frame]
@[simp] theorem State.sched_acceptAt (s : State) (a : Accessor) (addr : Nat) (v : Int) : (s.acceptAt a addr v).sched = s.sched := by
  rw [State.acceptAt_frame]
@[simp] theorem State.carriers_acceptAt (s : State) (a : Accessor) (addr : Nat) (v : Int) : (s.acceptAt a addr v).carriers = s.carriers := by
  rw [State.acceptAt_frame]
@[simp] theorem State.steer_acceptAt (s : State) (a : Accessor) (addr : Nat) (v : Int) : (s.acceptAt a addr v).steer = s.steer := by
  rw [State.acceptAt_frame]
@[simp] theorem State.ulJobs_acceptAt (s : State) (a : Accessor) (addr : Nat) (v : Int) : (s.acceptAt a addr v).ulJobs = s.ulJobs := by
  rw [State.acceptAt_frame]
@[simp] theorem State.dlJobs_acceptAt (s : State) (a : Accessor) (addr : Nat) (v : Int) : (s.acceptAt a addr v).dlJobs = s.dlJobs := by
  rw [State.acceptAt_frame]
@[simp] theorem State.ulSeq_acceptAt (s : State) (a : Accessor) (addr : Nat) (v : Int) : (s.acceptAt a addr v).ulSeq = s.ulSeq := by
  rw [State.acceptAt_frame]
@[simp] theorem State.ulBufs_acceptAt (s : State) (a : Accessor) (addr : Nat) (v : Int) : (s.acceptAt a addr v).ulBufs = s.ulBufs := by
  rw [State.acceptAt_frame]
@[simp] theorem State.ulPrev_acceptAt (s : State) (a : Accessor) (addr : Nat) (v : Int) : (s.acceptAt a addr v).ulPrev = s.ulPrev := by
  rw [State.acceptAt_frame]
@[simp] theorem State.arms_acceptAt (s : State) (a : Accessor) (addr : Nat) (v : Int) : (s.acceptAt a addr v).arms = s.arms := by
  rw [State.acceptAt_frame]
@[simp] theorem State.engBusy_acceptAt (s : State) (a : Accessor) (addr : Nat) (v : Int) : (s.acceptAt a addr v).engBusy = s.engBusy := by
  rw [State.acceptAt_frame]
@[simp] theorem State.codecs_acceptAt (s : State) (a : Accessor) (addr : Nat) (v : Int) : (s.acceptAt a addr v).codecs = s.codecs := by
  rw [State.acceptAt_frame]
@[simp] theorem State.hBufs_acceptAt (s : State) (a : Accessor) (addr : Nat) (v : Int) : (s.acceptAt a addr v).hBufs = s.hBufs := by
  rw [State.acceptAt_frame]
@[simp] theorem State.rnnBufs_acceptAt (s : State) (a : Accessor) (addr : Nat) (v : Int) : (s.acceptAt a addr v).rnnBufs = s.rnnBufs := by
  rw [State.acceptAt_frame]
@[simp] theorem State.harq_acceptAt (s : State) (a : Accessor) (addr : Nat) (v : Int) : (s.acceptAt a addr v).harq = s.harq := by
  rw [State.acceptAt_frame]
@[simp] theorem State.harqPool_acceptAt (s : State) (a : Accessor) (addr : Nat) (v : Int) : (s.acceptAt a addr v).harqPool = s.harqPool := by
  rw [State.acceptAt_frame]
@[simp] theorem State.decIters_acceptAt (s : State) (a : Accessor) (addr : Nat) (v : Int) : (s.acceptAt a addr v).decIters = s.decIters := by
  rw [State.acceptAt_frame]
@[simp] theorem State.pra_acceptAt (s : State) (a : Accessor) (addr : Nat) (v : Int) : (s.acceptAt a addr v).pra = s.pra := by
  rw [State.acceptAt_frame]
@[simp] theorem State.praJobs_acceptAt (s : State) (a : Accessor) (addr : Nat) (v : Int) : (s.acceptAt a addr v).praJobs = s.praJobs := by
  rw [State.acceptAt_frame]
@[simp] theorem State.llrDone_acceptAt (s : State) (a : Accessor) (addr : Nat) (v : Int) : (s.acceptAt a addr v).llrDone = s.llrDone := by
  rw [State.acceptAt_frame]
@[simp] theorem State.txMaps_acceptAt (s : State) (a : Accessor) (addr : Nat) (v : Int) : (s.acceptAt a addr v).txMaps = s.txMaps := by
  rw [State.acceptAt_frame]
@[simp] theorem State.dlSlots_acceptAt (s : State) (a : Accessor) (addr : Nat) (v : Int) : (s.acceptAt a addr v).dlSlots = s.dlSlots := by
  rw [State.acceptAt_frame]
@[simp] theorem State.dlMissed_acceptAt (s : State) (a : Accessor) (addr : Nat) (v : Int) : (s.acceptAt a addr v).dlMissed = s.dlMissed := by
  rw [State.acceptAt_frame]
@[simp] theorem State.frameStores_acceptAt (s : State) (a : Accessor) (addr : Nat) (v : Int) : (s.acceptAt a addr v).frameStores = s.frameStores := by
  rw [State.acceptAt_frame]
@[simp] theorem State.txSeq_acceptAt (s : State) (a : Accessor) (addr : Nat) (v : Int) : (s.acceptAt a addr v).txSeq = s.txSeq := by
  rw [State.acceptAt_frame]
@[simp] theorem State.td_acceptAt (s : State) (a : Accessor) (addr : Nat) (v : Int) : (s.acceptAt a addr v).td = s.td := by
  rw [State.acceptAt_frame]
@[simp] theorem State.txOffers_acceptAt (s : State) (a : Accessor) (addr : Nat) (v : Int) : (s.acceptAt a addr v).txOffers = s.txOffers := by
  rw [State.acceptAt_frame]
@[simp] theorem State.ctx_acceptAt (s : State) (a : Accessor) (addr : Nat) (v : Int) : (s.acceptAt a addr v).ctx = s.ctx := by
  rw [State.acceptAt_frame]
@[simp] theorem State.dravutOut_acceptAt (s : State) (a : Accessor) (addr : Nat) (v : Int) : (s.acceptAt a addr v).dravutOut = s.dravutOut := by
  rw [State.acceptAt_frame]
@[simp] theorem State.dravutNext_acceptAt (s : State) (a : Accessor) (addr : Nat) (v : Int) : (s.acceptAt a addr v).dravutNext = s.dravutNext := by
  rw [State.acceptAt_frame]
@[simp] theorem State.dravutExpect_acceptAt (s : State) (a : Accessor) (addr : Nat) (v : Int) : (s.acceptAt a addr v).dravutExpect = s.dravutExpect := by
  rw [State.acceptAt_frame]
@[simp] theorem State.arbs_acceptAt (s : State) (a : Accessor) (addr : Nat) (v : Int) : (s.acceptAt a addr v).arbs = s.arbs := by
  rw [State.acceptAt_frame]
@[simp] theorem State.galEpochs_acceptAt (s : State) (a : Accessor) (addr : Nat) (v : Int) : (s.acceptAt a addr v).galEpochs = s.galEpochs := by
  rw [State.acceptAt_frame]
@[simp] theorem State.gal_acceptAt (s : State) (a : Accessor) (addr : Nat) (v : Int) : (s.acceptAt a addr v).gal = s.gal := by
  rw [State.acceptAt_frame]
@[simp] theorem State.lanes_acceptAt (s : State) (a : Accessor) (addr : Nat) (v : Int) : (s.acceptAt a addr v).lanes = s.lanes := by
  rw [State.acceptAt_frame]
@[simp] theorem State.ports_acceptAt (s : State) (a : Accessor) (addr : Nat) (v : Int) : (s.acceptAt a addr v).ports = s.ports := by
  rw [State.acceptAt_frame]
@[simp] theorem State.txQueue_acceptAt (s : State) (a : Accessor) (addr : Nat) (v : Int) : (s.acceptAt a addr v).txQueue = s.txQueue := by
  rw [State.acceptAt_frame]
@[simp] theorem State.erx_acceptAt (s : State) (a : Accessor) (addr : Nat) (v : Int) : (s.acceptAt a addr v).erx = s.erx := by
  rw [State.acceptAt_frame]
@[simp] theorem State.etx_acceptAt (s : State) (a : Accessor) (addr : Nat) (v : Int) : (s.acceptAt a addr v).etx = s.etx := by
  rw [State.acceptAt_frame]
@[simp] theorem State.time_acceptAt (s : State) (a : Accessor) (addr : Nat) (v : Int) : (s.acceptAt a addr v).time = s.time := by
  rw [State.acceptAt_frame]
@[simp] theorem State.staged_acceptAt (s : State) (a : Accessor) (addr : Nat) (v : Int) : (s.acceptAt a addr v).staged = s.staged := by
  rw [State.acceptAt_frame]
@[simp] theorem State.rings_acceptAt (s : State) (a : Accessor) (addr : Nat) (v : Int) : (s.acceptAt a addr v).rings = s.rings := by
  rw [State.acceptAt_frame]
@[simp] theorem State.bme_acceptAt (s : State) (a : Accessor) (addr : Nat) (v : Int) : (s.acceptAt a addr v).bme = s.bme := by
  rw [State.acceptAt_frame]
@[simp] theorem State.msixMasked_acceptAt (s : State) (a : Accessor) (addr : Nat) (v : Int) : (s.acceptAt a addr v).msixMasked = s.msixMasked := by
  rw [State.acceptAt_frame]
@[simp] theorem State.msixPending_acceptAt (s : State) (a : Accessor) (addr : Nat) (v : Int) : (s.acceptAt a addr v).msixPending = s.msixPending := by
  rw [State.acceptAt_frame]
@[simp] theorem State.windows_acceptAt (s : State) (a : Accessor) (addr : Nat) (v : Int) : (s.acceptAt a addr v).windows = s.windows := by
  rw [State.acceptAt_frame]
@[simp] theorem State.naps_acceptAt (s : State) (a : Accessor) (addr : Nat) (v : Int) : (s.acceptAt a addr v).naps = s.naps := by
  rw [State.acceptAt_frame]
@[simp] theorem State.i3c_acceptAt (s : State) (a : Accessor) (addr : Nat) (v : Int) : (s.acceptAt a addr v).i3c = s.i3c := by
  rw [State.acceptAt_frame]
@[simp] theorem State.stageLog_acceptAt (s : State) (a : Accessor) (addr : Nat) (v : Int) : (s.acceptAt a addr v).stageLog = s.stageLog := by
  rw [State.acceptAt_frame]
@[simp] theorem State.jcopies_acceptAt (s : State) (a : Accessor) (addr : Nat) (v : Int) : (s.acceptAt a addr v).jcopies = s.jcopies := by
  rw [State.acceptAt_frame]
@[simp] theorem State.pwr_acceptAt (s : State) (a : Accessor) (addr : Nat) (v : Int) : (s.acceptAt a addr v).pwr = s.pwr := by
  rw [State.acceptAt_frame]
@[simp] theorem State.therm_acceptAt (s : State) (a : Accessor) (addr : Nat) (v : Int) : (s.acceptAt a addr v).therm = s.therm := by
  rw [State.acceptAt_frame]
@[simp] theorem State.sh_acceptAt (s : State) (a : Accessor) (addr : Nat) (v : Int) : (s.acceptAt a addr v).sh = s.sh := by
  rw [State.acceptAt_frame]
@[simp] theorem State.flash_acceptAt (s : State) (a : Accessor) (addr : Nat) (v : Int) : (s.acceptAt a addr v).flash = s.flash := by
  rw [State.acceptAt_frame]
@[simp] theorem State.stairSnap_acceptAt (s : State) (a : Accessor) (addr : Nat) (v : Int) : (s.acceptAt a addr v).stairSnap = s.stairSnap := by
  rw [State.acceptAt_frame]
@[simp] theorem State.stair_acceptAt (s : State) (a : Accessor) (addr : Nat) (v : Int) : (s.acceptAt a addr v).stair = s.stair := by
  rw [State.acceptAt_frame]
@[simp] theorem State.stairDone_acceptAt (s : State) (a : Accessor) (addr : Nat) (v : Int) : (s.acceptAt a addr v).stairDone = s.stairDone := by
  rw [State.acceptAt_frame]
@[simp] theorem State.pair_acceptAt (s : State) (a : Accessor) (addr : Nat) (v : Int) : (s.acceptAt a addr v).pair = s.pair := by
  rw [State.acceptAt_frame]
@[simp] theorem State.munov_acceptAt (s : State) (a : Accessor) (addr : Nat) (v : Int) : (s.acceptAt a addr v).munov = s.munov := by
  rw [State.acceptAt_frame]
@[simp] theorem State.pacer_acceptAt (s : State) (a : Accessor) (addr : Nat) (v : Int) (u : Nat) : (s.acceptAt a addr v).pacer u = s.pacer u := by
  rw [State.acceptAt_frame]; rfl
@[simp] theorem State.unit_acceptAt (s : State) (a : Accessor) (addr : Nat) (v : Int) (u : Nat) : (s.acceptAt a addr v).unit u = s.unit u := by
  rw [State.acceptAt_frame]; rfl
@[simp] theorem State.core_acceptAt (s : State) (a : Accessor) (addr : Nat) (v : Int) (c : Nat) : (s.acceptAt a addr v).core c = s.core c := by
  rw [State.acceptAt_frame]; rfl
@[simp] theorem State.port_acceptAt (s : State) (a : Accessor) (addr : Nat) (v : Int) (p : Nat) : (s.acceptAt a addr v).port p = s.port p := by
  rw [State.acceptAt_frame]; rfl
@[simp] theorem State.ring_acceptAt (s : State) (a : Accessor) (addr : Nat) (v : Int) (r : Nat) : (s.acceptAt a addr v).ring r = s.ring r := by
  rw [State.acceptAt_frame]; rfl
@[simp] theorem State.lane_acceptAt (s : State) (a : Accessor) (addr : Nat) (v : Int) (l : Nat) : (s.acceptAt a addr v).lane l = s.lane l := by
  rw [State.acceptAt_frame]; rfl
@[simp] theorem State.sch_acceptAt (s : State) (a : Accessor) (addr : Nat) (v : Int) (h : Nat) : (s.acceptAt a addr v).sch h = s.sch h := by
  rw [State.acceptAt_frame]; rfl
@[simp] theorem State.nap_acceptAt (s : State) (a : Accessor) (addr : Nat) (v : Int) (k : Nat) : (s.acceptAt a addr v).nap k = s.nap k := by
  rw [State.acceptAt_frame]; rfl
@[simp] theorem State.arb_acceptAt (s : State) (a : Accessor) (addr : Nat) (v : Int) (k : Nat) : (s.acceptAt a addr v).arb k = s.arb k := by
  rw [State.acceptAt_frame]; rfl
@[simp] theorem State.ddrCh_acceptAt (s : State) (a : Accessor) (addr : Nat) (v : Int) (c : Nat) : (s.acceptAt a addr v).ddrCh c = s.ddrCh c := by
  rw [State.acceptAt_frame]; rfl
@[simp] theorem State.ulBuf_acceptAt (s : State) (a : Accessor) (addr : Nat) (v : Int) (k : Nat) : (s.acceptAt a addr v).ulBuf k = s.ulBuf k := by
  rw [State.acceptAt_frame]; rfl
@[simp] theorem State.engRun_acceptAt (s : State) (a : Accessor) (addr : Nat) (v : Int) (h e : Nat) : (s.acceptAt a addr v).engRun h e = s.engRun h e := by
  rw [State.acceptAt_frame]; rfl
@[simp] theorem State.erxRing_acceptAt (s : State) (a : Accessor) (addr : Nat) (v : Int) (r : Nat) : (s.acceptAt a addr v).erxRing r = s.erxRing r := by
  rw [State.acceptAt_frame]; rfl
@[simp] theorem State.etxRing_acceptAt (s : State) (a : Accessor) (addr : Nat) (v : Int) (r : Nat) : (s.acceptAt a addr v).etxRing r = s.etxRing r := by
  rw [State.acceptAt_frame]; rfl
@[simp] theorem State.stageCtx_acceptAt (s : State) (a : Accessor) (addr : Nat) (v : Int) (k : Nat) : (s.acceptAt a addr v).stageCtx k = s.stageCtx k := by
  rw [State.acceptAt_frame]; rfl
@[simp] theorem State.carrier_acceptAt (s : State) (a : Accessor) (addr : Nat) (v : Int) (c : Nat) : (s.acceptAt a addr v).carrier c = s.carrier c := by
  rw [State.acceptAt_frame]; rfl
@[simp] theorem State.byteAt_acceptAt (s : State) (a : Accessor) (addr : Nat) (v : Int) (ad : Nat) : (s.acceptAt a addr v).byteAt ad = s.byteAt ad := by
  rw [State.acceptAt_frame]; rfl
@[simp] theorem State.logEntry_acceptAt (s : State) (a : Accessor) (addr : Nat) (v : Int) (m e : Nat) : (s.acceptAt a addr v).logEntry m e = s.logEntry m e := by
  rw [State.acceptAt_frame]; rfl
@[simp] theorem State.upset_acceptAt (s : State) (a : Accessor) (addr : Nat) (v : Int) (l : MemLoc) : (s.acceptAt a addr v).upset l = s.upset l := by
  rw [State.acceptAt_frame]; rfl
@[simp] theorem State.window_acceptAt (s : State) (a : Accessor) (addr : Nat) (v : Int) (fn : Nat) : (s.acceptAt a addr v).window fn = s.window fn := by
  rw [State.acceptAt_frame]; rfl
@[simp] theorem State.munovDir_acceptAt (s : State) (a : Accessor) (addr : Nat) (v : Int) (down : Bool) : (s.acceptAt a addr v).munovDir down = s.munovDir down := by
  rw [State.acceptAt_frame]; rfl
@[simp] theorem State.coreByte_acceptAt (s : State) (a : Accessor) (addr : Nat) (v : Int) (c ad : Nat) : (s.acceptAt a addr v).coreByte c ad = s.coreByte c ad := by
  rw [State.acceptAt_frame]; rfl
@[simp] theorem State.flashByte_acceptAt (s : State) (a : Accessor) (addr : Nat) (v : Int) (ad : Nat) : (s.acceptAt a addr v).flashByte ad = s.flashByte ad := by
  rw [State.acceptAt_frame]; rfl
@[simp] theorem State.praEntry_acceptAt (s : State) (a : Accessor) (addr : Nat) (v : Int) (p : Nat) : (s.acceptAt a addr v).praEntry p = s.praEntry p := by
  rw [State.acceptAt_frame]; rfl
@[simp] theorem State.events_evt (s : State) (k : EvtKind) (u i : Nat) : (s.evt k u i).events = ⟨k, u, i⟩ :: s.events := rfl
@[simp] theorem State.outbox_send (s : State) (m : OutMsg) : (s.send m).outbox = m :: s.outbox := rfl
@[simp] theorem State.freeCtr_freeUsed (s : State) : s.freeUsed.freeCtr = s.freeCtr + 1 := rfl

end Sys2Proof.Machine
end

