-- ==== Sys2Proof/Laws/State.lean ====
section
/-! SUPPORT. What each setter of State leaves alone: one lemma for each field it does not write, all true by unfolding. -/

namespace Sys2Proof.Machine

@[simp] theorem State.setObj_pending (s : State) (o : Obj) (n : Nat) (v : Int) : (s.setObj o n v).pending = s.pending := rfl
@[simp] theorem State.setObj_freeCtr (s : State) (o : Obj) (n : Nat) (v : Int) : (s.setObj o n v).freeCtr = s.freeCtr := rfl
@[simp] theorem State.setObj_doms (s : State) (o : Obj) (n : Nat) (v : Int) : (s.setObj o n v).doms = s.doms := rfl
@[simp] theorem State.setObj_events (s : State) (o : Obj) (n : Nat) (v : Int) : (s.setObj o n v).events = s.events := rfl
@[simp] theorem State.setObj_outbox (s : State) (o : Obj) (n : Nat) (v : Int) : (s.setObj o n v).outbox = s.outbox := rfl
@[simp] theorem State.setObj_pace (s : State) (o : Obj) (n : Nat) (v : Int) : (s.setObj o n v).pace = s.pace := rfl
@[simp] theorem State.setObj_unacked (s : State) (o : Obj) (n : Nat) (v : Int) : (s.setObj o n v).unacked = s.unacked := rfl
@[simp] theorem State.setObj_units (s : State) (o : Obj) (n : Nat) (v : Int) : (s.setObj o n v).units = s.units := rfl
@[simp] theorem State.setObj_pins (s : State) (o : Obj) (n : Nat) (v : Int) : (s.setObj o n v).pins = s.pins := rfl
@[simp] theorem State.setObj_mem (s : State) (o : Obj) (n : Nat) (v : Int) : (s.setObj o n v).mem = s.mem := rfl
@[simp] theorem State.setObj_journal (s : State) (o : Obj) (n : Nat) (v : Int) : (s.setObj o n v).journal = s.journal := rfl
@[simp] theorem State.setObj_jseqNext (s : State) (o : Obj) (n : Nat) (v : Int) : (s.setObj o n v).jseqNext = s.jseqNext := rfl
@[simp] theorem State.setObj_upsets (s : State) (o : Obj) (n : Nat) (v : Int) : (s.setObj o n v).upsets = s.upsets := rfl
@[simp] theorem State.setObj_eccLog (s : State) (o : Obj) (n : Nat) (v : Int) : (s.setObj o n v).eccLog = s.eccLog := rfl
@[simp] theorem State.setObj_hotQueue (s : State) (o : Obj) (n : Nat) (v : Int) : (s.setObj o n v).hotQueue = s.hotQueue := rfl
@[simp] theorem State.setObj_scrubLated (s : State) (o : Obj) (n : Nat) (v : Int) : (s.setObj o n v).scrubLated = s.scrubLated := rfl
@[simp] theorem State.setObj_scrub (s : State) (o : Obj) (n : Nat) (v : Int) : (s.setObj o n v).scrub = s.scrub := rfl
@[simp] theorem State.setObj_elapsed (s : State) (o : Obj) (n : Nat) (v : Int) : (s.setObj o n v).elapsed = s.elapsed := rfl
@[simp] theorem State.setObj_ddr (s : State) (o : Obj) (n : Nat) (v : Int) : (s.setObj o n v).ddr = s.ddr := rfl
@[simp] theorem State.setObj_sparesUsed (s : State) (o : Obj) (n : Nat) (v : Int) : (s.setObj o n v).sparesUsed = s.sparesUsed := rfl
@[simp] theorem State.setObj_sppr (s : State) (o : Obj) (n : Nat) (v : Int) : (s.setObj o n v).sppr = s.sppr := rfl
@[simp] theorem State.setObj_repairs (s : State) (o : Obj) (n : Nat) (v : Int) : (s.setObj o n v).repairs = s.repairs := rfl
@[simp] theorem State.setObj_coreMem (s : State) (o : Obj) (n : Nat) (v : Int) : (s.setObj o n v).coreMem = s.coreMem := rfl
@[simp] theorem State.setObj_cores (s : State) (o : Obj) (n : Nat) (v : Int) : (s.setObj o n v).cores = s.cores := rfl
@[simp] theorem State.setObj_sched (s : State) (o : Obj) (n : Nat) (v : Int) : (s.setObj o n v).sched = s.sched := rfl
@[simp] theorem State.setObj_carriers (s : State) (o : Obj) (n : Nat) (v : Int) : (s.setObj o n v).carriers = s.carriers := rfl
@[simp] theorem State.setObj_steer (s : State) (o : Obj) (n : Nat) (v : Int) : (s.setObj o n v).steer = s.steer := rfl
@[simp] theorem State.setObj_ulJobs (s : State) (o : Obj) (n : Nat) (v : Int) : (s.setObj o n v).ulJobs = s.ulJobs := rfl
@[simp] theorem State.setObj_dlJobs (s : State) (o : Obj) (n : Nat) (v : Int) : (s.setObj o n v).dlJobs = s.dlJobs := rfl
@[simp] theorem State.setObj_ulSeq (s : State) (o : Obj) (n : Nat) (v : Int) : (s.setObj o n v).ulSeq = s.ulSeq := rfl
@[simp] theorem State.setObj_ulBufs (s : State) (o : Obj) (n : Nat) (v : Int) : (s.setObj o n v).ulBufs = s.ulBufs := rfl
@[simp] theorem State.setObj_ulPrev (s : State) (o : Obj) (n : Nat) (v : Int) : (s.setObj o n v).ulPrev = s.ulPrev := rfl
@[simp] theorem State.setObj_arms (s : State) (o : Obj) (n : Nat) (v : Int) : (s.setObj o n v).arms = s.arms := rfl
@[simp] theorem State.setObj_engBusy (s : State) (o : Obj) (n : Nat) (v : Int) : (s.setObj o n v).engBusy = s.engBusy := rfl
@[simp] theorem State.setObj_codecs (s : State) (o : Obj) (n : Nat) (v : Int) : (s.setObj o n v).codecs = s.codecs := rfl
@[simp] theorem State.setObj_hBufs (s : State) (o : Obj) (n : Nat) (v : Int) : (s.setObj o n v).hBufs = s.hBufs := rfl
@[simp] theorem State.setObj_rnnBufs (s : State) (o : Obj) (n : Nat) (v : Int) : (s.setObj o n v).rnnBufs = s.rnnBufs := rfl
@[simp] theorem State.setObj_harq (s : State) (o : Obj) (n : Nat) (v : Int) : (s.setObj o n v).harq = s.harq := rfl
@[simp] theorem State.setObj_harqPool (s : State) (o : Obj) (n : Nat) (v : Int) : (s.setObj o n v).harqPool = s.harqPool := rfl
@[simp] theorem State.setObj_decIters (s : State) (o : Obj) (n : Nat) (v : Int) : (s.setObj o n v).decIters = s.decIters := rfl
@[simp] theorem State.setObj_pra (s : State) (o : Obj) (n : Nat) (v : Int) : (s.setObj o n v).pra = s.pra := rfl
@[simp] theorem State.setObj_praJobs (s : State) (o : Obj) (n : Nat) (v : Int) : (s.setObj o n v).praJobs = s.praJobs := rfl
@[simp] theorem State.setObj_llrDone (s : State) (o : Obj) (n : Nat) (v : Int) : (s.setObj o n v).llrDone = s.llrDone := rfl
@[simp] theorem State.setObj_txMaps (s : State) (o : Obj) (n : Nat) (v : Int) : (s.setObj o n v).txMaps = s.txMaps := rfl
@[simp] theorem State.setObj_dlSlots (s : State) (o : Obj) (n : Nat) (v : Int) : (s.setObj o n v).dlSlots = s.dlSlots := rfl
@[simp] theorem State.setObj_dlMissed (s : State) (o : Obj) (n : Nat) (v : Int) : (s.setObj o n v).dlMissed = s.dlMissed := rfl
@[simp] theorem State.setObj_frameStores (s : State) (o : Obj) (n : Nat) (v : Int) : (s.setObj o n v).frameStores = s.frameStores := rfl
@[simp] theorem State.setObj_txSeq (s : State) (o : Obj) (n : Nat) (v : Int) : (s.setObj o n v).txSeq = s.txSeq := rfl
@[simp] theorem State.setObj_td (s : State) (o : Obj) (n : Nat) (v : Int) : (s.setObj o n v).td = s.td := rfl
@[simp] theorem State.setObj_txOffers (s : State) (o : Obj) (n : Nat) (v : Int) : (s.setObj o n v).txOffers = s.txOffers := rfl
@[simp] theorem State.setObj_ctx (s : State) (o : Obj) (n : Nat) (v : Int) : (s.setObj o n v).ctx = s.ctx := rfl
@[simp] theorem State.setObj_dravutOut (s : State) (o : Obj) (n : Nat) (v : Int) : (s.setObj o n v).dravutOut = s.dravutOut := rfl
@[simp] theorem State.setObj_dravutNext (s : State) (o : Obj) (n : Nat) (v : Int) : (s.setObj o n v).dravutNext = s.dravutNext := rfl
@[simp] theorem State.setObj_dravutExpect (s : State) (o : Obj) (n : Nat) (v : Int) : (s.setObj o n v).dravutExpect = s.dravutExpect := rfl
@[simp] theorem State.setObj_arbs (s : State) (o : Obj) (n : Nat) (v : Int) : (s.setObj o n v).arbs = s.arbs := rfl
@[simp] theorem State.setObj_galEpochs (s : State) (o : Obj) (n : Nat) (v : Int) : (s.setObj o n v).galEpochs = s.galEpochs := rfl
@[simp] theorem State.setObj_gal (s : State) (o : Obj) (n : Nat) (v : Int) : (s.setObj o n v).gal = s.gal := rfl
@[simp] theorem State.setObj_lanes (s : State) (o : Obj) (n : Nat) (v : Int) : (s.setObj o n v).lanes = s.lanes := rfl
@[simp] theorem State.setObj_ports (s : State) (o : Obj) (n : Nat) (v : Int) : (s.setObj o n v).ports = s.ports := rfl
@[simp] theorem State.setObj_txQueue (s : State) (o : Obj) (n : Nat) (v : Int) : (s.setObj o n v).txQueue = s.txQueue := rfl
@[simp] theorem State.setObj_erx (s : State) (o : Obj) (n : Nat) (v : Int) : (s.setObj o n v).erx = s.erx := rfl
@[simp] theorem State.setObj_etx (s : State) (o : Obj) (n : Nat) (v : Int) : (s.setObj o n v).etx = s.etx := rfl
@[simp] theorem State.setObj_time (s : State) (o : Obj) (n : Nat) (v : Int) : (s.setObj o n v).time = s.time := rfl
@[simp] theorem State.setObj_staged (s : State) (o : Obj) (n : Nat) (v : Int) : (s.setObj o n v).staged = s.staged := rfl
@[simp] theorem State.setObj_rings (s : State) (o : Obj) (n : Nat) (v : Int) : (s.setObj o n v).rings = s.rings := rfl
@[simp] theorem State.setObj_bme (s : State) (o : Obj) (n : Nat) (v : Int) : (s.setObj o n v).bme = s.bme := rfl
@[simp] theorem State.setObj_msixMasked (s : State) (o : Obj) (n : Nat) (v : Int) : (s.setObj o n v).msixMasked = s.msixMasked := rfl
@[simp] theorem State.setObj_msixPending (s : State) (o : Obj) (n : Nat) (v : Int) : (s.setObj o n v).msixPending = s.msixPending := rfl
@[simp] theorem State.setObj_windows (s : State) (o : Obj) (n : Nat) (v : Int) : (s.setObj o n v).windows = s.windows := rfl
@[simp] theorem State.setObj_naps (s : State) (o : Obj) (n : Nat) (v : Int) : (s.setObj o n v).naps = s.naps := rfl
@[simp] theorem State.setObj_i3c (s : State) (o : Obj) (n : Nat) (v : Int) : (s.setObj o n v).i3c = s.i3c := rfl
@[simp] theorem State.setObj_stageLog (s : State) (o : Obj) (n : Nat) (v : Int) : (s.setObj o n v).stageLog = s.stageLog := rfl
@[simp] theorem State.setObj_jcopies (s : State) (o : Obj) (n : Nat) (v : Int) : (s.setObj o n v).jcopies = s.jcopies := rfl
@[simp] theorem State.setObj_pwr (s : State) (o : Obj) (n : Nat) (v : Int) : (s.setObj o n v).pwr = s.pwr := rfl
@[simp] theorem State.setObj_therm (s : State) (o : Obj) (n : Nat) (v : Int) : (s.setObj o n v).therm = s.therm := rfl
@[simp] theorem State.setObj_sh (s : State) (o : Obj) (n : Nat) (v : Int) : (s.setObj o n v).sh = s.sh := rfl
@[simp] theorem State.setObj_flash (s : State) (o : Obj) (n : Nat) (v : Int) : (s.setObj o n v).flash = s.flash := rfl
@[simp] theorem State.setObj_stairSnap (s : State) (o : Obj) (n : Nat) (v : Int) : (s.setObj o n v).stairSnap = s.stairSnap := rfl
@[simp] theorem State.setObj_stair (s : State) (o : Obj) (n : Nat) (v : Int) : (s.setObj o n v).stair = s.stair := rfl
@[simp] theorem State.setObj_stairDone (s : State) (o : Obj) (n : Nat) (v : Int) : (s.setObj o n v).stairDone = s.stairDone := rfl
@[simp] theorem State.setObj_pair (s : State) (o : Obj) (n : Nat) (v : Int) : (s.setObj o n v).pair = s.pair := rfl
@[simp] theorem State.setObj_munov (s : State) (o : Obj) (n : Nat) (v : Int) : (s.setObj o n v).munov = s.munov := rfl
@[simp] theorem State.setDom_pending (s : State) (o : Obj) (n : Nat) (v : List Byte) : (s.setDom o n v).pending = s.pending := rfl
@[simp] theorem State.setDom_freeCtr (s : State) (o : Obj) (n : Nat) (v : List Byte) : (s.setDom o n v).freeCtr = s.freeCtr := rfl
@[simp] theorem State.setDom_objs (s : State) (o : Obj) (n : Nat) (v : List Byte) : (s.setDom o n v).objs = s.objs := rfl
@[simp] theorem State.setDom_events (s : State) (o : Obj) (n : Nat) (v : List Byte) : (s.setDom o n v).events = s.events := rfl
@[simp] theorem State.setDom_outbox (s : State) (o : Obj) (n : Nat) (v : List Byte) : (s.setDom o n v).outbox = s.outbox := rfl
@[simp] theorem State.setDom_pace (s : State) (o : Obj) (n : Nat) (v : List Byte) : (s.setDom o n v).pace = s.pace := rfl
@[simp] theorem State.setDom_unacked (s : State) (o : Obj) (n : Nat) (v : List Byte) : (s.setDom o n v).unacked = s.unacked := rfl
@[simp] theorem State.setDom_units (s : State) (o : Obj) (n : Nat) (v : List Byte) : (s.setDom o n v).units = s.units := rfl
@[simp] theorem State.setDom_pins (s : State) (o : Obj) (n : Nat) (v : List Byte) : (s.setDom o n v).pins = s.pins := rfl
@[simp] theorem State.setDom_mem (s : State) (o : Obj) (n : Nat) (v : List Byte) : (s.setDom o n v).mem = s.mem := rfl
@[simp] theorem State.setDom_journal (s : State) (o : Obj) (n : Nat) (v : List Byte) : (s.setDom o n v).journal = s.journal := rfl
@[simp] theorem State.setDom_jseqNext (s : State) (o : Obj) (n : Nat) (v : List Byte) : (s.setDom o n v).jseqNext = s.jseqNext := rfl
@[simp] theorem State.setDom_upsets (s : State) (o : Obj) (n : Nat) (v : List Byte) : (s.setDom o n v).upsets = s.upsets := rfl
@[simp] theorem State.setDom_eccLog (s : State) (o : Obj) (n : Nat) (v : List Byte) : (s.setDom o n v).eccLog = s.eccLog := rfl
@[simp] theorem State.setDom_hotQueue (s : State) (o : Obj) (n : Nat) (v : List Byte) : (s.setDom o n v).hotQueue = s.hotQueue := rfl
@[simp] theorem State.setDom_scrubLated (s : State) (o : Obj) (n : Nat) (v : List Byte) : (s.setDom o n v).scrubLated = s.scrubLated := rfl
@[simp] theorem State.setDom_scrub (s : State) (o : Obj) (n : Nat) (v : List Byte) : (s.setDom o n v).scrub = s.scrub := rfl
@[simp] theorem State.setDom_elapsed (s : State) (o : Obj) (n : Nat) (v : List Byte) : (s.setDom o n v).elapsed = s.elapsed := rfl
@[simp] theorem State.setDom_ddr (s : State) (o : Obj) (n : Nat) (v : List Byte) : (s.setDom o n v).ddr = s.ddr := rfl
@[simp] theorem State.setDom_sparesUsed (s : State) (o : Obj) (n : Nat) (v : List Byte) : (s.setDom o n v).sparesUsed = s.sparesUsed := rfl
@[simp] theorem State.setDom_sppr (s : State) (o : Obj) (n : Nat) (v : List Byte) : (s.setDom o n v).sppr = s.sppr := rfl
@[simp] theorem State.setDom_repairs (s : State) (o : Obj) (n : Nat) (v : List Byte) : (s.setDom o n v).repairs = s.repairs := rfl
@[simp] theorem State.setDom_coreMem (s : State) (o : Obj) (n : Nat) (v : List Byte) : (s.setDom o n v).coreMem = s.coreMem := rfl
@[simp] theorem State.setDom_cores (s : State) (o : Obj) (n : Nat) (v : List Byte) : (s.setDom o n v).cores = s.cores := rfl
@[simp] theorem State.setDom_sched (s : State) (o : Obj) (n : Nat) (v : List Byte) : (s.setDom o n v).sched = s.sched := rfl
@[simp] theorem State.setDom_carriers (s : State) (o : Obj) (n : Nat) (v : List Byte) : (s.setDom o n v).carriers = s.carriers := rfl
@[simp] theorem State.setDom_steer (s : State) (o : Obj) (n : Nat) (v : List Byte) : (s.setDom o n v).steer = s.steer := rfl
@[simp] theorem State.setDom_ulJobs (s : State) (o : Obj) (n : Nat) (v : List Byte) : (s.setDom o n v).ulJobs = s.ulJobs := rfl
@[simp] theorem State.setDom_dlJobs (s : State) (o : Obj) (n : Nat) (v : List Byte) : (s.setDom o n v).dlJobs = s.dlJobs := rfl
@[simp] theorem State.setDom_ulSeq (s : State) (o : Obj) (n : Nat) (v : List Byte) : (s.setDom o n v).ulSeq = s.ulSeq := rfl
@[simp] theorem State.setDom_ulBufs (s : State) (o : Obj) (n : Nat) (v : List Byte) : (s.setDom o n v).ulBufs = s.ulBufs := rfl
@[simp] theorem State.setDom_ulPrev (s : State) (o : Obj) (n : Nat) (v : List Byte) : (s.setDom o n v).ulPrev = s.ulPrev := rfl
@[simp] theorem State.setDom_arms (s : State) (o : Obj) (n : Nat) (v : List Byte) : (s.setDom o n v).arms = s.arms := rfl
@[simp] theorem State.setDom_engBusy (s : State) (o : Obj) (n : Nat) (v : List Byte) : (s.setDom o n v).engBusy = s.engBusy := rfl
@[simp] theorem State.setDom_codecs (s : State) (o : Obj) (n : Nat) (v : List Byte) : (s.setDom o n v).codecs = s.codecs := rfl
@[simp] theorem State.setDom_hBufs (s : State) (o : Obj) (n : Nat) (v : List Byte) : (s.setDom o n v).hBufs = s.hBufs := rfl
@[simp] theorem State.setDom_rnnBufs (s : State) (o : Obj) (n : Nat) (v : List Byte) : (s.setDom o n v).rnnBufs = s.rnnBufs := rfl
@[simp] theorem State.setDom_harq (s : State) (o : Obj) (n : Nat) (v : List Byte) : (s.setDom o n v).harq = s.harq := rfl
@[simp] theorem State.setDom_harqPool (s : State) (o : Obj) (n : Nat) (v : List Byte) : (s.setDom o n v).harqPool = s.harqPool := rfl
@[simp] theorem State.setDom_decIters (s : State) (o : Obj) (n : Nat) (v : List Byte) : (s.setDom o n v).decIters = s.decIters := rfl
@[simp] theorem State.setDom_pra (s : State) (o : Obj) (n : Nat) (v : List Byte) : (s.setDom o n v).pra = s.pra := rfl
@[simp] theorem State.setDom_praJobs (s : State) (o : Obj) (n : Nat) (v : List Byte) : (s.setDom o n v).praJobs = s.praJobs := rfl
@[simp] theorem State.setDom_llrDone (s : State) (o : Obj) (n : Nat) (v : List Byte) : (s.setDom o n v).llrDone = s.llrDone := rfl
@[simp] theorem State.setDom_txMaps (s : State) (o : Obj) (n : Nat) (v : List Byte) : (s.setDom o n v).txMaps = s.txMaps := rfl
@[simp] theorem State.setDom_dlSlots (s : State) (o : Obj) (n : Nat) (v : List Byte) : (s.setDom o n v).dlSlots = s.dlSlots := rfl
@[simp] theorem State.setDom_dlMissed (s : State) (o : Obj) (n : Nat) (v : List Byte) : (s.setDom o n v).dlMissed = s.dlMissed := rfl
@[simp] theorem State.setDom_frameStores (s : State) (o : Obj) (n : Nat) (v : List Byte) : (s.setDom o n v).frameStores = s.frameStores := rfl
@[simp] theorem State.setDom_txSeq (s : State) (o : Obj) (n : Nat) (v : List Byte) : (s.setDom o n v).txSeq = s.txSeq := rfl
@[simp] theorem State.setDom_td (s : State) (o : Obj) (n : Nat) (v : List Byte) : (s.setDom o n v).td = s.td := rfl
@[simp] theorem State.setDom_txOffers (s : State) (o : Obj) (n : Nat) (v : List Byte) : (s.setDom o n v).txOffers = s.txOffers := rfl
@[simp] theorem State.setDom_ctx (s : State) (o : Obj) (n : Nat) (v : List Byte) : (s.setDom o n v).ctx = s.ctx := rfl
@[simp] theorem State.setDom_dravutOut (s : State) (o : Obj) (n : Nat) (v : List Byte) : (s.setDom o n v).dravutOut = s.dravutOut := rfl
@[simp] theorem State.setDom_dravutNext (s : State) (o : Obj) (n : Nat) (v : List Byte) : (s.setDom o n v).dravutNext = s.dravutNext := rfl
@[simp] theorem State.setDom_dravutExpect (s : State) (o : Obj) (n : Nat) (v : List Byte) : (s.setDom o n v).dravutExpect = s.dravutExpect := rfl
@[simp] theorem State.setDom_arbs (s : State) (o : Obj) (n : Nat) (v : List Byte) : (s.setDom o n v).arbs = s.arbs := rfl
@[simp] theorem State.setDom_galEpochs (s : State) (o : Obj) (n : Nat) (v : List Byte) : (s.setDom o n v).galEpochs = s.galEpochs := rfl
@[simp] theorem State.setDom_gal (s : State) (o : Obj) (n : Nat) (v : List Byte) : (s.setDom o n v).gal = s.gal := rfl
@[simp] theorem State.setDom_lanes (s : State) (o : Obj) (n : Nat) (v : List Byte) : (s.setDom o n v).lanes = s.lanes := rfl
@[simp] theorem State.setDom_ports (s : State) (o : Obj) (n : Nat) (v : List Byte) : (s.setDom o n v).ports = s.ports := rfl
@[simp] theorem State.setDom_txQueue (s : State) (o : Obj) (n : Nat) (v : List Byte) : (s.setDom o n v).txQueue = s.txQueue := rfl
@[simp] theorem State.setDom_erx (s : State) (o : Obj) (n : Nat) (v : List Byte) : (s.setDom o n v).erx = s.erx := rfl
@[simp] theorem State.setDom_etx (s : State) (o : Obj) (n : Nat) (v : List Byte) : (s.setDom o n v).etx = s.etx := rfl
@[simp] theorem State.setDom_time (s : State) (o : Obj) (n : Nat) (v : List Byte) : (s.setDom o n v).time = s.time := rfl
@[simp] theorem State.setDom_staged (s : State) (o : Obj) (n : Nat) (v : List Byte) : (s.setDom o n v).staged = s.staged := rfl
@[simp] theorem State.setDom_rings (s : State) (o : Obj) (n : Nat) (v : List Byte) : (s.setDom o n v).rings = s.rings := rfl
@[simp] theorem State.setDom_bme (s : State) (o : Obj) (n : Nat) (v : List Byte) : (s.setDom o n v).bme = s.bme := rfl
@[simp] theorem State.setDom_msixMasked (s : State) (o : Obj) (n : Nat) (v : List Byte) : (s.setDom o n v).msixMasked = s.msixMasked := rfl
@[simp] theorem State.setDom_msixPending (s : State) (o : Obj) (n : Nat) (v : List Byte) : (s.setDom o n v).msixPending = s.msixPending := rfl
@[simp] theorem State.setDom_windows (s : State) (o : Obj) (n : Nat) (v : List Byte) : (s.setDom o n v).windows = s.windows := rfl
@[simp] theorem State.setDom_naps (s : State) (o : Obj) (n : Nat) (v : List Byte) : (s.setDom o n v).naps = s.naps := rfl
@[simp] theorem State.setDom_i3c (s : State) (o : Obj) (n : Nat) (v : List Byte) : (s.setDom o n v).i3c = s.i3c := rfl
@[simp] theorem State.setDom_stageLog (s : State) (o : Obj) (n : Nat) (v : List Byte) : (s.setDom o n v).stageLog = s.stageLog := rfl
@[simp] theorem State.setDom_jcopies (s : State) (o : Obj) (n : Nat) (v : List Byte) : (s.setDom o n v).jcopies = s.jcopies := rfl
@[simp] theorem State.setDom_pwr (s : State) (o : Obj) (n : Nat) (v : List Byte) : (s.setDom o n v).pwr = s.pwr := rfl
@[simp] theorem State.setDom_therm (s : State) (o : Obj) (n : Nat) (v : List Byte) : (s.setDom o n v).therm = s.therm := rfl
@[simp] theorem State.setDom_sh (s : State) (o : Obj) (n : Nat) (v : List Byte) : (s.setDom o n v).sh = s.sh := rfl
@[simp] theorem State.setDom_flash (s : State) (o : Obj) (n : Nat) (v : List Byte) : (s.setDom o n v).flash = s.flash := rfl
@[simp] theorem State.setDom_stairSnap (s : State) (o : Obj) (n : Nat) (v : List Byte) : (s.setDom o n v).stairSnap = s.stairSnap := rfl
@[simp] theorem State.setDom_stair (s : State) (o : Obj) (n : Nat) (v : List Byte) : (s.setDom o n v).stair = s.stair := rfl
@[simp] theorem State.setDom_stairDone (s : State) (o : Obj) (n : Nat) (v : List Byte) : (s.setDom o n v).stairDone = s.stairDone := rfl
@[simp] theorem State.setDom_pair (s : State) (o : Obj) (n : Nat) (v : List Byte) : (s.setDom o n v).pair = s.pair := rfl
@[simp] theorem State.setDom_munov (s : State) (o : Obj) (n : Nat) (v : List Byte) : (s.setDom o n v).munov = s.munov := rfl
@[simp] theorem State.writeMem_pending (s : State) (a : Nat) (l : List Byte) : (s.writeMem a l).pending = s.pending := rfl
@[simp] theorem State.writeMem_freeCtr (s : State) (a : Nat) (l : List Byte) : (s.writeMem a l).freeCtr = s.freeCtr := rfl
@[simp] theorem State.writeMem_objs (s : State) (a : Nat) (l : List Byte) : (s.writeMem a l).objs = s.objs := rfl
@[simp] theorem State.writeMem_doms (s : State) (a : Nat) (l : List Byte) : (s.writeMem a l).doms = s.doms := rfl
@[simp] theorem State.writeMem_events (s : State) (a : Nat) (l : List Byte) : (s.writeMem a l).events = s.events := rfl
@[simp] theorem State.writeMem_outbox (s : State) (a : Nat) (l : List Byte) : (s.writeMem a l).outbox = s.outbox := rfl
@[simp] theorem State.writeMem_pace (s : State) (a : Nat) (l : List Byte) : (s.writeMem a l).pace = s.pace := rfl
@[simp] theorem State.writeMem_unacked (s : State) (a : Nat) (l : List Byte) : (s.writeMem a l).unacked = s.unacked := rfl
@[simp] theorem State.writeMem_units (s : State) (a : Nat) (l : List Byte) : (s.writeMem a l).units = s.units := rfl
@[simp] theorem State.writeMem_pins (s : State) (a : Nat) (l : List Byte) : (s.writeMem a l).pins = s.pins := rfl
@[simp] theorem State.writeMem_journal (s : State) (a : Nat) (l : List Byte) : (s.writeMem a l).journal = s.journal := rfl
@[simp] theorem State.writeMem_jseqNext (s : State) (a : Nat) (l : List Byte) : (s.writeMem a l).jseqNext = s.jseqNext := rfl
@[simp] theorem State.writeMem_upsets (s : State) (a : Nat) (l : List Byte) : (s.writeMem a l).upsets = s.upsets := rfl
@[simp] theorem State.writeMem_eccLog (s : State) (a : Nat) (l : List Byte) : (s.writeMem a l).eccLog = s.eccLog := rfl
@[simp] theorem State.writeMem_hotQueue (s : State) (a : Nat) (l : List Byte) : (s.writeMem a l).hotQueue = s.hotQueue := rfl
@[simp] theorem State.writeMem_scrubLated (s : State) (a : Nat) (l : List Byte) : (s.writeMem a l).scrubLated = s.scrubLated := rfl
@[simp] theorem State.writeMem_scrub (s : State) (a : Nat) (l : List Byte) : (s.writeMem a l).scrub = s.scrub := rfl
@[simp] theorem State.writeMem_elapsed (s : State) (a : Nat) (l : List Byte) : (s.writeMem a l).elapsed = s.elapsed := rfl
@[simp] theorem State.writeMem_ddr (s : State) (a : Nat) (l : List Byte) : (s.writeMem a l).ddr = s.ddr := rfl
@[simp] theorem State.writeMem_sparesUsed (s : State) (a : Nat) (l : List Byte) : (s.writeMem a l).sparesUsed = s.sparesUsed := rfl
@[simp] theorem State.writeMem_sppr (s : State) (a : Nat) (l : List Byte) : (s.writeMem a l).sppr = s.sppr := rfl
@[simp] theorem State.writeMem_repairs (s : State) (a : Nat) (l : List Byte) : (s.writeMem a l).repairs = s.repairs := rfl
@[simp] theorem State.writeMem_coreMem (s : State) (a : Nat) (l : List Byte) : (s.writeMem a l).coreMem = s.coreMem := rfl
@[simp] theorem State.writeMem_cores (s : State) (a : Nat) (l : List Byte) : (s.writeMem a l).cores = s.cores := rfl
@[simp] theorem State.writeMem_sched (s : State) (a : Nat) (l : List Byte) : (s.writeMem a l).sched = s.sched := rfl
@[simp] theorem State.writeMem_carriers (s : State) (a : Nat) (l : List Byte) : (s.writeMem a l).carriers = s.carriers := rfl
@[simp] theorem State.writeMem_steer (s : State) (a : Nat) (l : List Byte) : (s.writeMem a l).steer = s.steer := rfl
@[simp] theorem State.writeMem_ulJobs (s : State) (a : Nat) (l : List Byte) : (s.writeMem a l).ulJobs = s.ulJobs := rfl
@[simp] theorem State.writeMem_dlJobs (s : State) (a : Nat) (l : List Byte) : (s.writeMem a l).dlJobs = s.dlJobs := rfl
@[simp] theorem State.writeMem_ulSeq (s : State) (a : Nat) (l : List Byte) : (s.writeMem a l).ulSeq = s.ulSeq := rfl
@[simp] theorem State.writeMem_ulBufs (s : State) (a : Nat) (l : List Byte) : (s.writeMem a l).ulBufs = s.ulBufs := rfl
@[simp] theorem State.writeMem_ulPrev (s : State) (a : Nat) (l : List Byte) : (s.writeMem a l).ulPrev = s.ulPrev := rfl
@[simp] theorem State.writeMem_arms (s : State) (a : Nat) (l : List Byte) : (s.writeMem a l).arms = s.arms := rfl
@[simp] theorem State.writeMem_engBusy (s : State) (a : Nat) (l : List Byte) : (s.writeMem a l).engBusy = s.engBusy := rfl
@[simp] theorem State.writeMem_codecs (s : State) (a : Nat) (l : List Byte) : (s.writeMem a l).codecs = s.codecs := rfl
@[simp] theorem State.writeMem_hBufs (s : State) (a : Nat) (l : List Byte) : (s.writeMem a l).hBufs = s.hBufs := rfl
@[simp] theorem State.writeMem_rnnBufs (s : State) (a : Nat) (l : List Byte) : (s.writeMem a l).rnnBufs = s.rnnBufs := rfl
@[simp] theorem State.writeMem_harq (s : State) (a : Nat) (l : List Byte) : (s.writeMem a l).harq = s.harq := rfl
@[simp] theorem State.writeMem_harqPool (s : State) (a : Nat) (l : List Byte) : (s.writeMem a l).harqPool = s.harqPool := rfl
@[simp] theorem State.writeMem_decIters (s : State) (a : Nat) (l : List Byte) : (s.writeMem a l).decIters = s.decIters := rfl
@[simp] theorem State.writeMem_pra (s : State) (a : Nat) (l : List Byte) : (s.writeMem a l).pra = s.pra := rfl
@[simp] theorem State.writeMem_praJobs (s : State) (a : Nat) (l : List Byte) : (s.writeMem a l).praJobs = s.praJobs := rfl
@[simp] theorem State.writeMem_llrDone (s : State) (a : Nat) (l : List Byte) : (s.writeMem a l).llrDone = s.llrDone := rfl
@[simp] theorem State.writeMem_txMaps (s : State) (a : Nat) (l : List Byte) : (s.writeMem a l).txMaps = s.txMaps := rfl
@[simp] theorem State.writeMem_dlSlots (s : State) (a : Nat) (l : List Byte) : (s.writeMem a l).dlSlots = s.dlSlots := rfl
@[simp] theorem State.writeMem_dlMissed (s : State) (a : Nat) (l : List Byte) : (s.writeMem a l).dlMissed = s.dlMissed := rfl
@[simp] theorem State.writeMem_frameStores (s : State) (a : Nat) (l : List Byte) : (s.writeMem a l).frameStores = s.frameStores := rfl
@[simp] theorem State.writeMem_txSeq (s : State) (a : Nat) (l : List Byte) : (s.writeMem a l).txSeq = s.txSeq := rfl
@[simp] theorem State.writeMem_td (s : State) (a : Nat) (l : List Byte) : (s.writeMem a l).td = s.td := rfl
@[simp] theorem State.writeMem_txOffers (s : State) (a : Nat) (l : List Byte) : (s.writeMem a l).txOffers = s.txOffers := rfl
@[simp] theorem State.writeMem_ctx (s : State) (a : Nat) (l : List Byte) : (s.writeMem a l).ctx = s.ctx := rfl
@[simp] theorem State.writeMem_dravutOut (s : State) (a : Nat) (l : List Byte) : (s.writeMem a l).dravutOut = s.dravutOut := rfl
@[simp] theorem State.writeMem_dravutNext (s : State) (a : Nat) (l : List Byte) : (s.writeMem a l).dravutNext = s.dravutNext := rfl
@[simp] theorem State.writeMem_dravutExpect (s : State) (a : Nat) (l : List Byte) : (s.writeMem a l).dravutExpect = s.dravutExpect := rfl
@[simp] theorem State.writeMem_arbs (s : State) (a : Nat) (l : List Byte) : (s.writeMem a l).arbs = s.arbs := rfl
@[simp] theorem State.writeMem_galEpochs (s : State) (a : Nat) (l : List Byte) : (s.writeMem a l).galEpochs = s.galEpochs := rfl
@[simp] theorem State.writeMem_gal (s : State) (a : Nat) (l : List Byte) : (s.writeMem a l).gal = s.gal := rfl
@[simp] theorem State.writeMem_lanes (s : State) (a : Nat) (l : List Byte) : (s.writeMem a l).lanes = s.lanes := rfl
@[simp] theorem State.writeMem_ports (s : State) (a : Nat) (l : List Byte) : (s.writeMem a l).ports = s.ports := rfl
@[simp] theorem State.writeMem_txQueue (s : State) (a : Nat) (l : List Byte) : (s.writeMem a l).txQueue = s.txQueue := rfl
@[simp] theorem State.writeMem_erx (s : State) (a : Nat) (l : List Byte) : (s.writeMem a l).erx = s.erx := rfl
@[simp] theorem State.writeMem_etx (s : State) (a : Nat) (l : List Byte) : (s.writeMem a l).etx = s.etx := rfl
@[simp] theorem State.writeMem_time (s : State) (a : Nat) (l : List Byte) : (s.writeMem a l).time = s.time := rfl
@[simp] theorem State.writeMem_staged (s : State) (a : Nat) (l : List Byte) : (s.writeMem a l).staged = s.staged := rfl
@[simp] theorem State.writeMem_rings (s : State) (a : Nat) (l : List Byte) : (s.writeMem a l).rings = s.rings := rfl
@[simp] theorem State.writeMem_bme (s : State) (a : Nat) (l : List Byte) : (s.writeMem a l).bme = s.bme := rfl
@[simp] theorem State.writeMem_msixMasked (s : State) (a : Nat) (l : List Byte) : (s.writeMem a l).msixMasked = s.msixMasked := rfl
@[simp] theorem State.writeMem_msixPending (s : State) (a : Nat) (l : List Byte) : (s.writeMem a l).msixPending = s.msixPending := rfl
@[simp] theorem State.writeMem_windows (s : State) (a : Nat) (l : List Byte) : (s.writeMem a l).windows = s.windows := rfl
@[simp] theorem State.writeMem_naps (s : State) (a : Nat) (l : List Byte) : (s.writeMem a l).naps = s.naps := rfl
@[simp] theorem State.writeMem_i3c (s : State) (a : Nat) (l : List Byte) : (s.writeMem a l).i3c = s.i3c := rfl
@[simp] theorem State.writeMem_stageLog (s : State) (a : Nat) (l : List Byte) : (s.writeMem a l).stageLog = s.stageLog := rfl
@[simp] theorem State.writeMem_jcopies (s : State) (a : Nat) (l : List Byte) : (s.writeMem a l).jcopies = s.jcopies := rfl
@[simp] theorem State.writeMem_pwr (s : State) (a : Nat) (l : List Byte) : (s.writeMem a l).pwr = s.pwr := rfl
@[simp] theorem State.writeMem_therm (s : State) (a : Nat) (l : List Byte) : (s.writeMem a l).therm = s.therm := rfl
@[simp] theorem State.writeMem_sh (s : State) (a : Nat) (l : List Byte) : (s.writeMem a l).sh = s.sh := rfl
@[simp] theorem State.writeMem_flash (s : State) (a : Nat) (l : List Byte) : (s.writeMem a l).flash = s.flash := rfl
@[simp] theorem State.writeMem_stairSnap (s : State) (a : Nat) (l : List Byte) : (s.writeMem a l).stairSnap = s.stairSnap := rfl
@[simp] theorem State.writeMem_stair (s : State) (a : Nat) (l : List Byte) : (s.writeMem a l).stair = s.stair := rfl
@[simp] theorem State.writeMem_stairDone (s : State) (a : Nat) (l : List Byte) : (s.writeMem a l).stairDone = s.stairDone := rfl
@[simp] theorem State.writeMem_pair (s : State) (a : Nat) (l : List Byte) : (s.writeMem a l).pair = s.pair := rfl
@[simp] theorem State.writeMem_munov (s : State) (a : Nat) (l : List Byte) : (s.writeMem a l).munov = s.munov := rfl
@[simp] theorem State.evt_pending (s : State) (k : EvtKind) (unit info : Nat) : (s.evt k unit info).pending = s.pending := rfl
@[simp] theorem State.evt_freeCtr (s : State) (k : EvtKind) (unit info : Nat) : (s.evt k unit info).freeCtr = s.freeCtr := rfl
@[simp] theorem State.evt_objs (s : State) (k : EvtKind) (unit info : Nat) : (s.evt k unit info).objs = s.objs := rfl
@[simp] theorem State.evt_doms (s : State) (k : EvtKind) (unit info : Nat) : (s.evt k unit info).doms = s.doms := rfl
@[simp] theorem State.evt_outbox (s : State) (k : EvtKind) (unit info : Nat) : (s.evt k unit info).outbox = s.outbox := rfl
@[simp] theorem State.evt_pace (s : State) (k : EvtKind) (unit info : Nat) : (s.evt k unit info).pace = s.pace := rfl
@[simp] theorem State.evt_unacked (s : State) (k : EvtKind) (unit info : Nat) : (s.evt k unit info).unacked = s.unacked := rfl
@[simp] theorem State.evt_units (s : State) (k : EvtKind) (unit info : Nat) : (s.evt k unit info).units = s.units := rfl
@[simp] theorem State.evt_pins (s : State) (k : EvtKind) (unit info : Nat) : (s.evt k unit info).pins = s.pins := rfl
@[simp] theorem State.evt_mem (s : State) (k : EvtKind) (unit info : Nat) : (s.evt k unit info).mem = s.mem := rfl
@[simp] theorem State.evt_journal (s : State) (k : EvtKind) (unit info : Nat) : (s.evt k unit info).journal = s.journal := rfl
@[simp] theorem State.evt_jseqNext (s : State) (k : EvtKind) (unit info : Nat) : (s.evt k unit info).jseqNext = s.jseqNext := rfl
@[simp] theorem State.evt_upsets (s : State) (k : EvtKind) (unit info : Nat) : (s.evt k unit info).upsets = s.upsets := rfl
@[simp] theorem State.evt_eccLog (s : State) (k : EvtKind) (unit info : Nat) : (s.evt k unit info).eccLog = s.eccLog := rfl
@[simp] theorem State.evt_hotQueue (s : State) (k : EvtKind) (unit info : Nat) : (s.evt k unit info).hotQueue = s.hotQueue := rfl
@[simp] theorem State.evt_scrubLated (s : State) (k : EvtKind) (unit info : Nat) : (s.evt k unit info).scrubLated = s.scrubLated := rfl
@[simp] theorem State.evt_scrub (s : State) (k : EvtKind) (unit info : Nat) : (s.evt k unit info).scrub = s.scrub := rfl
@[simp] theorem State.evt_elapsed (s : State) (k : EvtKind) (unit info : Nat) : (s.evt k unit info).elapsed = s.elapsed := rfl
@[simp] theorem State.evt_ddr (s : State) (k : EvtKind) (unit info : Nat) : (s.evt k unit info).ddr = s.ddr := rfl
@[simp] theorem State.evt_sparesUsed (s : State) (k : EvtKind) (unit info : Nat) : (s.evt k unit info).sparesUsed = s.sparesUsed := rfl
@[simp] theorem State.evt_sppr (s : State) (k : EvtKind) (unit info : Nat) : (s.evt k unit info).sppr = s.sppr := rfl
@[simp] theorem State.evt_repairs (s : State) (k : EvtKind) (unit info : Nat) : (s.evt k unit info).repairs = s.repairs := rfl
@[simp] theorem State.evt_coreMem (s : State) (k : EvtKind) (unit info : Nat) : (s.evt k unit info).coreMem = s.coreMem := rfl
@[simp] theorem State.evt_cores (s : State) (k : EvtKind) (unit info : Nat) : (s.evt k unit info).cores = s.cores := rfl
@[simp] theorem State.evt_sched (s : State) (k : EvtKind) (unit info : Nat) : (s.evt k unit info).sched = s.sched := rfl
@[simp] theorem State.evt_carriers (s : State) (k : EvtKind) (unit info : Nat) : (s.evt k unit info).carriers = s.carriers := rfl
@[simp] theorem State.evt_steer (s : State) (k : EvtKind) (unit info : Nat) : (s.evt k unit info).steer = s.steer := rfl
@[simp] theorem State.evt_ulJobs (s : State) (k : EvtKind) (unit info : Nat) : (s.evt k unit info).ulJobs = s.ulJobs := rfl
@[simp] theorem State.evt_dlJobs (s : State) (k : EvtKind) (unit info : Nat) : (s.evt k unit info).dlJobs = s.dlJobs := rfl
@[simp] theorem State.evt_ulSeq (s : State) (k : EvtKind) (unit info : Nat) : (s.evt k unit info).ulSeq = s.ulSeq := rfl
@[simp] theorem State.evt_ulBufs (s : State) (k : EvtKind) (unit info : Nat) : (s.evt k unit info).ulBufs = s.ulBufs := rfl
@[simp] theorem State.evt_ulPrev (s : State) (k : EvtKind) (unit info : Nat) : (s.evt k unit info).ulPrev = s.ulPrev := rfl
@[simp] theorem State.evt_arms (s : State) (k : EvtKind) (unit info : Nat) : (s.evt k unit info).arms = s.arms := rfl
@[simp] theorem State.evt_engBusy (s : State) (k : EvtKind) (unit info : Nat) : (s.evt k unit info).engBusy = s.engBusy := rfl
@[simp] theorem State.evt_codecs (s : State) (k : EvtKind) (unit info : Nat) : (s.evt k unit info).codecs = s.codecs := rfl
@[simp] theorem State.evt_hBufs (s : State) (k : EvtKind) (unit info : Nat) : (s.evt k unit info).hBufs = s.hBufs := rfl
@[simp] theorem State.evt_rnnBufs (s : State) (k : EvtKind) (unit info : Nat) : (s.evt k unit info).rnnBufs = s.rnnBufs := rfl
@[simp] theorem State.evt_harq (s : State) (k : EvtKind) (unit info : Nat) : (s.evt k unit info).harq = s.harq := rfl
@[simp] theorem State.evt_harqPool (s : State) (k : EvtKind) (unit info : Nat) : (s.evt k unit info).harqPool = s.harqPool := rfl
@[simp] theorem State.evt_decIters (s : State) (k : EvtKind) (unit info : Nat) : (s.evt k unit info).decIters = s.decIters := rfl
@[simp] theorem State.evt_pra (s : State) (k : EvtKind) (unit info : Nat) : (s.evt k unit info).pra = s.pra := rfl
@[simp] theorem State.evt_praJobs (s : State) (k : EvtKind) (unit info : Nat) : (s.evt k unit info).praJobs = s.praJobs := rfl
@[simp] theorem State.evt_llrDone (s : State) (k : EvtKind) (unit info : Nat) : (s.evt k unit info).llrDone = s.llrDone := rfl
@[simp] theorem State.evt_txMaps (s : State) (k : EvtKind) (unit info : Nat) : (s.evt k unit info).txMaps = s.txMaps := rfl
@[simp] theorem State.evt_dlSlots (s : State) (k : EvtKind) (unit info : Nat) : (s.evt k unit info).dlSlots = s.dlSlots := rfl
@[simp] theorem State.evt_dlMissed (s : State) (k : EvtKind) (unit info : Nat) : (s.evt k unit info).dlMissed = s.dlMissed := rfl
@[simp] theorem State.evt_frameStores (s : State) (k : EvtKind) (unit info : Nat) : (s.evt k unit info).frameStores = s.frameStores := rfl
@[simp] theorem State.evt_txSeq (s : State) (k : EvtKind) (unit info : Nat) : (s.evt k unit info).txSeq = s.txSeq := rfl
@[simp] theorem State.evt_td (s : State) (k : EvtKind) (unit info : Nat) : (s.evt k unit info).td = s.td := rfl
@[simp] theorem State.evt_txOffers (s : State) (k : EvtKind) (unit info : Nat) : (s.evt k unit info).txOffers = s.txOffers := rfl
@[simp] theorem State.evt_ctx (s : State) (k : EvtKind) (unit info : Nat) : (s.evt k unit info).ctx = s.ctx := rfl
@[simp] theorem State.evt_dravutOut (s : State) (k : EvtKind) (unit info : Nat) : (s.evt k unit info).dravutOut = s.dravutOut := rfl
@[simp] theorem State.evt_dravutNext (s : State) (k : EvtKind) (unit info : Nat) : (s.evt k unit info).dravutNext = s.dravutNext := rfl
@[simp] theorem State.evt_dravutExpect (s : State) (k : EvtKind) (unit info : Nat) : (s.evt k unit info).dravutExpect = s.dravutExpect := rfl
@[simp] theorem State.evt_arbs (s : State) (k : EvtKind) (unit info : Nat) : (s.evt k unit info).arbs = s.arbs := rfl
@[simp] theorem State.evt_galEpochs (s : State) (k : EvtKind) (unit info : Nat) : (s.evt k unit info).galEpochs = s.galEpochs := rfl
@[simp] theorem State.evt_gal (s : State) (k : EvtKind) (unit info : Nat) : (s.evt k unit info).gal = s.gal := rfl
@[simp] theorem State.evt_lanes (s : State) (k : EvtKind) (unit info : Nat) : (s.evt k unit info).lanes = s.lanes := rfl
@[simp] theorem State.evt_ports (s : State) (k : EvtKind) (unit info : Nat) : (s.evt k unit info).ports = s.ports := rfl
@[simp] theorem State.evt_txQueue (s : State) (k : EvtKind) (unit info : Nat) : (s.evt k unit info).txQueue = s.txQueue := rfl
@[simp] theorem State.evt_erx (s : State) (k : EvtKind) (unit info : Nat) : (s.evt k unit info).erx = s.erx := rfl
@[simp] theorem State.evt_etx (s : State) (k : EvtKind) (unit info : Nat) : (s.evt k unit info).etx = s.etx := rfl
@[simp] theorem State.evt_time (s : State) (k : EvtKind) (unit info : Nat) : (s.evt k unit info).time = s.time := rfl
@[simp] theorem State.evt_staged (s : State) (k : EvtKind) (unit info : Nat) : (s.evt k unit info).staged = s.staged := rfl
@[simp] theorem State.evt_rings (s : State) (k : EvtKind) (unit info : Nat) : (s.evt k unit info).rings = s.rings := rfl
@[simp] theorem State.evt_bme (s : State) (k : EvtKind) (unit info : Nat) : (s.evt k unit info).bme = s.bme := rfl
@[simp] theorem State.evt_msixMasked (s : State) (k : EvtKind) (unit info : Nat) : (s.evt k unit info).msixMasked = s.msixMasked := rfl
@[simp] theorem State.evt_msixPending (s : State) (k : EvtKind) (unit info : Nat) : (s.evt k unit info).msixPending = s.msixPending := rfl
@[simp] theorem State.evt_windows (s : State) (k : EvtKind) (unit info : Nat) : (s.evt k unit info).windows = s.windows := rfl
@[simp] theorem State.evt_naps (s : State) (k : EvtKind) (unit info : Nat) : (s.evt k unit info).naps = s.naps := rfl
@[simp] theorem State.evt_i3c (s : State) (k : EvtKind) (unit info : Nat) : (s.evt k unit info).i3c = s.i3c := rfl
@[simp] theorem State.evt_stageLog (s : State) (k : EvtKind) (unit info : Nat) : (s.evt k unit info).stageLog = s.stageLog := rfl
@[simp] theorem State.evt_jcopies (s : State) (k : EvtKind) (unit info : Nat) : (s.evt k unit info).jcopies = s.jcopies := rfl
@[simp] theorem State.evt_pwr (s : State) (k : EvtKind) (unit info : Nat) : (s.evt k unit info).pwr = s.pwr := rfl
@[simp] theorem State.evt_therm (s : State) (k : EvtKind) (unit info : Nat) : (s.evt k unit info).therm = s.therm := rfl
@[simp] theorem State.evt_sh (s : State) (k : EvtKind) (unit info : Nat) : (s.evt k unit info).sh = s.sh := rfl
@[simp] theorem State.evt_flash (s : State) (k : EvtKind) (unit info : Nat) : (s.evt k unit info).flash = s.flash := rfl
@[simp] theorem State.evt_stairSnap (s : State) (k : EvtKind) (unit info : Nat) : (s.evt k unit info).stairSnap = s.stairSnap := rfl
@[simp] theorem State.evt_stair (s : State) (k : EvtKind) (unit info : Nat) : (s.evt k unit info).stair = s.stair := rfl
@[simp] theorem State.evt_stairDone (s : State) (k : EvtKind) (unit info : Nat) : (s.evt k unit info).stairDone = s.stairDone := rfl
@[simp] theorem State.evt_pair (s : State) (k : EvtKind) (unit info : Nat) : (s.evt k unit info).pair = s.pair := rfl
@[simp] theorem State.evt_munov (s : State) (k : EvtKind) (unit info : Nat) : (s.evt k unit info).munov = s.munov := rfl
@[simp] theorem State.freeUsed_pending (s : State) : (s.freeUsed ).pending = s.pending := rfl
@[simp] theorem State.freeUsed_objs (s : State) : (s.freeUsed ).objs = s.objs := rfl
@[simp] theorem State.freeUsed_doms (s : State) : (s.freeUsed ).doms = s.doms := rfl
@[simp] theorem State.freeUsed_events (s : State) : (s.freeUsed ).events = s.events := rfl
@[simp] theorem State.freeUsed_outbox (s : State) : (s.freeUsed ).outbox = s.outbox := rfl
@[simp] theorem State.freeUsed_pace (s : State) : (s.freeUsed ).pace = s.pace := rfl
@[simp] theorem State.freeUsed_unacked (s : State) : (s.freeUsed ).unacked = s.unacked := rfl
@[simp] theorem State.freeUsed_units (s : State) : (s.freeUsed ).units = s.units := rfl
@[simp] theorem State.freeUsed_pins (s : State) : (s.freeUsed ).pins = s.pins := rfl
@[simp] theorem State.freeUsed_mem (s : State) : (s.freeUsed ).mem = s.mem := rfl
@[simp] theorem State.freeUsed_journal (s : State) : (s.freeUsed ).journal = s.journal := rfl
@[simp] theorem State.freeUsed_jseqNext (s : State) : (s.freeUsed ).jseqNext = s.jseqNext := rfl
@[simp] theorem State.freeUsed_upsets (s : State) : (s.freeUsed ).upsets = s.upsets := rfl
@[simp] theorem State.freeUsed_eccLog (s : State) : (s.freeUsed ).eccLog = s.eccLog := rfl
@[simp] theorem State.freeUsed_hotQueue (s : State) : (s.freeUsed ).hotQueue = s.hotQueue := rfl
@[simp] theorem State.freeUsed_scrubLated (s : State) : (s.freeUsed ).scrubLated = s.scrubLated := rfl
@[simp] theorem State.freeUsed_scrub (s : State) : (s.freeUsed ).scrub = s.scrub := rfl
@[simp] theorem State.freeUsed_elapsed (s : State) : (s.freeUsed ).elapsed = s.elapsed := rfl
@[simp] theorem State.freeUsed_ddr (s : State) : (s.freeUsed ).ddr = s.ddr := rfl
@[simp] theorem State.freeUsed_sparesUsed (s : State) : (s.freeUsed ).sparesUsed = s.sparesUsed := rfl
@[simp] theorem State.freeUsed_sppr (s : State) : (s.freeUsed ).sppr = s.sppr := rfl
@[simp] theorem State.freeUsed_repairs (s : State) : (s.freeUsed ).repairs = s.repairs := rfl
@[simp] theorem State.freeUsed_coreMem (s : State) : (s.freeUsed ).coreMem = s.coreMem := rfl
@[simp] theorem State.freeUsed_cores (s : State) : (s.freeUsed ).cores = s.cores := rfl
@[simp] theorem State.freeUsed_sched (s : State) : (s.freeUsed ).sched = s.sched := rfl
@[simp] theorem State.freeUsed_carriers (s : State) : (s.freeUsed ).carriers = s.carriers := rfl
@[simp] theorem State.freeUsed_steer (s : State) : (s.freeUsed ).steer = s.steer := rfl
@[simp] theorem State.freeUsed_ulJobs (s : State) : (s.freeUsed ).ulJobs = s.ulJobs := rfl
@[simp] theorem State.freeUsed_dlJobs (s : State) : (s.freeUsed ).dlJobs = s.dlJobs := rfl
@[simp] theorem State.freeUsed_ulSeq (s : State) : (s.freeUsed ).ulSeq = s.ulSeq := rfl
@[simp] theorem State.freeUsed_ulBufs (s : State) : (s.freeUsed ).ulBufs = s.ulBufs := rfl
@[simp] theorem State.freeUsed_ulPrev (s : State) : (s.freeUsed ).ulPrev = s.ulPrev := rfl
@[simp] theorem State.freeUsed_arms (s : State) : (s.freeUsed ).arms = s.arms := rfl
@[simp] theorem State.freeUsed_engBusy (s : State) : (s.freeUsed ).engBusy = s.engBusy := rfl
@[simp] theorem State.freeUsed_codecs (s : State) : (s.freeUsed ).codecs = s.codecs := rfl
@[simp] theorem State.freeUsed_hBufs (s : State) : (s.freeUsed ).hBufs = s.hBufs := rfl
@[simp] theorem State.freeUsed_rnnBufs (s : State) : (s.freeUsed ).rnnBufs = s.rnnBufs := rfl
@[simp] theorem State.freeUsed_harq (s : State) : (s.freeUsed ).harq = s.harq := rfl
@[simp] theorem State.freeUsed_harqPool (s : State) : (s.freeUsed ).harqPool = s.harqPool := rfl
@[simp] theorem State.freeUsed_decIters (s : State) : (s.freeUsed ).decIters = s.decIters := rfl
@[simp] theorem State.freeUsed_pra (s : State) : (s.freeUsed ).pra = s.pra := rfl
@[simp] theorem State.freeUsed_praJobs (s : State) : (s.freeUsed ).praJobs = s.praJobs := rfl
@[simp] theorem State.freeUsed_llrDone (s : State) : (s.freeUsed ).llrDone = s.llrDone := rfl
@[simp] theorem State.freeUsed_txMaps (s : State) : (s.freeUsed ).txMaps = s.txMaps := rfl
@[simp] theorem State.freeUsed_dlSlots (s : State) : (s.freeUsed ).dlSlots = s.dlSlots := rfl
@[simp] theorem State.freeUsed_dlMissed (s : State) : (s.freeUsed ).dlMissed = s.dlMissed := rfl
@[simp] theorem State.freeUsed_frameStores (s : State) : (s.freeUsed ).frameStores = s.frameStores := rfl
@[simp] theorem State.freeUsed_txSeq (s : State) : (s.freeUsed ).txSeq = s.txSeq := rfl
@[simp] theorem State.freeUsed_td (s : State) : (s.freeUsed ).td = s.td := rfl
@[simp] theorem State.freeUsed_txOffers (s : State) : (s.freeUsed ).txOffers = s.txOffers := rfl
@[simp] theorem State.freeUsed_ctx (s : State) : (s.freeUsed ).ctx = s.ctx := rfl
@[simp] theorem State.freeUsed_dravutOut (s : State) : (s.freeUsed ).dravutOut = s.dravutOut := rfl
@[simp] theorem State.freeUsed_dravutNext (s : State) : (s.freeUsed ).dravutNext = s.dravutNext := rfl
@[simp] theorem State.freeUsed_dravutExpect (s : State) : (s.freeUsed ).dravutExpect = s.dravutExpect := rfl
@[simp] theorem State.freeUsed_arbs (s : State) : (s.freeUsed ).arbs = s.arbs := rfl
@[simp] theorem State.freeUsed_galEpochs (s : State) : (s.freeUsed ).galEpochs = s.galEpochs := rfl
@[simp] theorem State.freeUsed_gal (s : State) : (s.freeUsed ).gal = s.gal := rfl
@[simp] theorem State.freeUsed_lanes (s : State) : (s.freeUsed ).lanes = s.lanes := rfl
@[simp] theorem State.freeUsed_ports (s : State) : (s.freeUsed ).ports = s.ports := rfl
@[simp] theorem State.freeUsed_txQueue (s : State) : (s.freeUsed ).txQueue = s.txQueue := rfl
@[simp] theorem State.freeUsed_erx (s : State) : (s.freeUsed ).erx = s.erx := rfl
@[simp] theorem State.freeUsed_etx (s : State) : (s.freeUsed ).etx = s.etx := rfl
@[simp] theorem State.freeUsed_time (s : State) : (s.freeUsed ).time = s.time := rfl
@[simp] theorem State.freeUsed_staged (s : State) : (s.freeUsed ).staged = s.staged := rfl
@[simp] theorem State.freeUsed_rings (s : State) : (s.freeUsed ).rings = s.rings := rfl
@[simp] theorem State.freeUsed_bme (s : State) : (s.freeUsed ).bme = s.bme := rfl
@[simp] theorem State.freeUsed_msixMasked (s : State) : (s.freeUsed ).msixMasked = s.msixMasked := rfl
@[simp] theorem State.freeUsed_msixPending (s : State) : (s.freeUsed ).msixPending = s.msixPending := rfl
@[simp] theorem State.freeUsed_windows (s : State) : (s.freeUsed ).windows = s.windows := rfl
@[simp] theorem State.freeUsed_naps (s : State) : (s.freeUsed ).naps = s.naps := rfl
@[simp] theorem State.freeUsed_i3c (s : State) : (s.freeUsed ).i3c = s.i3c := rfl
@[simp] theorem State.freeUsed_stageLog (s : State) : (s.freeUsed ).stageLog = s.stageLog := rfl
@[simp] theorem State.freeUsed_jcopies (s : State) : (s.freeUsed ).jcopies = s.jcopies := rfl
@[simp] theorem State.freeUsed_pwr (s : State) : (s.freeUsed ).pwr = s.pwr := rfl
@[simp] theorem State.freeUsed_therm (s : State) : (s.freeUsed ).therm = s.therm := rfl
@[simp] theorem State.freeUsed_sh (s : State) : (s.freeUsed ).sh = s.sh := rfl
@[simp] theorem State.freeUsed_flash (s : State) : (s.freeUsed ).flash = s.flash := rfl
@[simp] theorem State.freeUsed_stairSnap (s : State) : (s.freeUsed ).stairSnap = s.stairSnap := rfl
@[simp] theorem State.freeUsed_stair (s : State) : (s.freeUsed ).stair = s.stair := rfl
@[simp] theorem State.freeUsed_stairDone (s : State) : (s.freeUsed ).stairDone = s.stairDone := rfl
@[simp] theorem State.freeUsed_pair (s : State) : (s.freeUsed ).pair = s.pair := rfl
@[simp] theorem State.freeUsed_munov (s : State) : (s.freeUsed ).munov = s.munov := rfl
@[simp] theorem State.send_pending (s : State) (m : OutMsg) : (s.send m).pending = s.pending := rfl
@[simp] theorem State.send_freeCtr (s : State) (m : OutMsg) : (s.send m).freeCtr = s.freeCtr := rfl
@[simp] theorem State.send_objs (s : State) (m : OutMsg) : (s.send m).objs = s.objs := rfl
@[simp] theorem State.send_doms (s : State) (m : OutMsg) : (s.send m).doms = s.doms := rfl
@[simp] theorem State.send_events (s : State) (m : OutMsg) : (s.send m).events = s.events := rfl
@[simp] theorem State.send_pace (s : State) (m : OutMsg) : (s.send m).pace = s.pace := rfl
@[simp] theorem State.send_unacked (s : State) (m : OutMsg) : (s.send m).unacked = s.unacked := rfl
@[simp] theorem State.send_units (s : State) (m : OutMsg) : (s.send m).units = s.units := rfl
@[simp] theorem State.send_pins (s : State) (m : OutMsg) : (s.send m).pins = s.pins := rfl
@[simp] theorem State.send_mem (s : State) (m : OutMsg) : (s.send m).mem = s.mem := rfl
@[simp] theorem State.send_journal (s : State) (m : OutMsg) : (s.send m).journal = s.journal := rfl
@[simp] theorem State.send_jseqNext (s : State) (m : OutMsg) : (s.send m).jseqNext = s.jseqNext := rfl
@[simp] theorem State.send_upsets (s : State) (m : OutMsg) : (s.send m).upsets = s.upsets := rfl
@[simp] theorem State.send_eccLog (s : State) (m : OutMsg) : (s.send m).eccLog = s.eccLog := rfl
@[simp] theorem State.send_hotQueue (s : State) (m : OutMsg) : (s.send m).hotQueue = s.hotQueue := rfl
@[simp] theorem State.send_scrubLated (s : State) (m : OutMsg) : (s.send m).scrubLated = s.scrubLated := rfl
@[simp] theorem State.send_scrub (s : State) (m : OutMsg) : (s.send m).scrub = s.scrub := rfl
@[simp] theorem State.send_elapsed (s : State) (m : OutMsg) : (s.send m).elapsed = s.elapsed := rfl
@[simp] theorem State.send_ddr (s : State) (m : OutMsg) : (s.send m).ddr = s.ddr := rfl
@[simp] theorem State.send_sparesUsed (s : State) (m : OutMsg) : (s.send m).sparesUsed = s.sparesUsed := rfl
@[simp] theorem State.send_sppr (s : State) (m : OutMsg) : (s.send m).sppr = s.sppr := rfl
@[simp] theorem State.send_repairs (s : State) (m : OutMsg) : (s.send m).repairs = s.repairs := rfl
@[simp] theorem State.send_coreMem (s : State) (m : OutMsg) : (s.send m).coreMem = s.coreMem := rfl
@[simp] theorem State.send_cores (s : State) (m : OutMsg) : (s.send m).cores = s.cores := rfl
@[simp] theorem State.send_sched (s : State) (m : OutMsg) : (s.send m).sched = s.sched := rfl
@[simp] theorem State.send_carriers (s : State) (m : OutMsg) : (s.send m).carriers = s.carriers := rfl
@[simp] theorem State.send_steer (s : State) (m : OutMsg) : (s.send m).steer = s.steer := rfl
@[simp] theorem State.send_ulJobs (s : State) (m : OutMsg) : (s.send m).ulJobs = s.ulJobs := rfl
@[simp] theorem State.send_dlJobs (s : State) (m : OutMsg) : (s.send m).dlJobs = s.dlJobs := rfl
@[simp] theorem State.send_ulSeq (s : State) (m : OutMsg) : (s.send m).ulSeq = s.ulSeq := rfl
@[simp] theorem State.send_ulBufs (s : State) (m : OutMsg) : (s.send m).ulBufs = s.ulBufs := rfl
@[simp] theorem State.send_ulPrev (s : State) (m : OutMsg) : (s.send m).ulPrev = s.ulPrev := rfl
@[simp] theorem State.send_arms (s : State) (m : OutMsg) : (s.send m).arms = s.arms := rfl
@[simp] theorem State.send_engBusy (s : State) (m : OutMsg) : (s.send m).engBusy = s.engBusy := rfl
@[simp] theorem State.send_codecs (s : State) (m : OutMsg) : (s.send m).codecs = s.codecs := rfl
@[simp] theorem State.send_hBufs (s : State) (m : OutMsg) : (s.send m).hBufs = s.hBufs := rfl
@[simp] theorem State.send_rnnBufs (s : State) (m : OutMsg) : (s.send m).rnnBufs = s.rnnBufs := rfl
@[simp] theorem State.send_harq (s : State) (m : OutMsg) : (s.send m).harq = s.harq := rfl
@[simp] theorem State.send_harqPool (s : State) (m : OutMsg) : (s.send m).harqPool = s.harqPool := rfl
@[simp] theorem State.send_decIters (s : State) (m : OutMsg) : (s.send m).decIters = s.decIters := rfl
@[simp] theorem State.send_pra (s : State) (m : OutMsg) : (s.send m).pra = s.pra := rfl
@[simp] theorem State.send_praJobs (s : State) (m : OutMsg) : (s.send m).praJobs = s.praJobs := rfl
@[simp] theorem State.send_llrDone (s : State) (m : OutMsg) : (s.send m).llrDone = s.llrDone := rfl
@[simp] theorem State.send_txMaps (s : State) (m : OutMsg) : (s.send m).txMaps = s.txMaps := rfl
@[simp] theorem State.send_dlSlots (s : State) (m : OutMsg) : (s.send m).dlSlots = s.dlSlots := rfl
@[simp] theorem State.send_dlMissed (s : State) (m : OutMsg) : (s.send m).dlMissed = s.dlMissed := rfl
@[simp] theorem State.send_frameStores (s : State) (m : OutMsg) : (s.send m).frameStores = s.frameStores := rfl
@[simp] theorem State.send_txSeq (s : State) (m : OutMsg) : (s.send m).txSeq = s.txSeq := rfl
@[simp] theorem State.send_td (s : State) (m : OutMsg) : (s.send m).td = s.td := rfl
@[simp] theorem State.send_txOffers (s : State) (m : OutMsg) : (s.send m).txOffers = s.txOffers := rfl
@[simp] theorem State.send_ctx (s : State) (m : OutMsg) : (s.send m).ctx = s.ctx := rfl
@[simp] theorem State.send_dravutOut (s : State) (m : OutMsg) : (s.send m).dravutOut = s.dravutOut := rfl
@[simp] theorem State.send_dravutNext (s : State) (m : OutMsg) : (s.send m).dravutNext = s.dravutNext := rfl
@[simp] theorem State.send_dravutExpect (s : State) (m : OutMsg) : (s.send m).dravutExpect = s.dravutExpect := rfl
@[simp] theorem State.send_arbs (s : State) (m : OutMsg) : (s.send m).arbs = s.arbs := rfl
@[simp] theorem State.send_galEpochs (s : State) (m : OutMsg) : (s.send m).galEpochs = s.galEpochs := rfl
@[simp] theorem State.send_gal (s : State) (m : OutMsg) : (s.send m).gal = s.gal := rfl
@[simp] theorem State.send_lanes (s : State) (m : OutMsg) : (s.send m).lanes = s.lanes := rfl
@[simp] theorem State.send_ports (s : State) (m : OutMsg) : (s.send m).ports = s.ports := rfl
@[simp] theorem State.send_txQueue (s : State) (m : OutMsg) : (s.send m).txQueue = s.txQueue := rfl
@[simp] theorem State.send_erx (s : State) (m : OutMsg) : (s.send m).erx = s.erx := rfl
@[simp] theorem State.send_etx (s : State) (m : OutMsg) : (s.send m).etx = s.etx := rfl
@[simp] theorem State.send_time (s : State) (m : OutMsg) : (s.send m).time = s.time := rfl
@[simp] theorem State.send_staged (s : State) (m : OutMsg) : (s.send m).staged = s.staged := rfl
@[simp] theorem State.send_rings (s : State) (m : OutMsg) : (s.send m).rings = s.rings := rfl
@[simp] theorem State.send_bme (s : State) (m : OutMsg) : (s.send m).bme = s.bme := rfl
@[simp] theorem State.send_msixMasked (s : State) (m : OutMsg) : (s.send m).msixMasked = s.msixMasked := rfl
@[simp] theorem State.send_msixPending (s : State) (m : OutMsg) : (s.send m).msixPending = s.msixPending := rfl
@[simp] theorem State.send_windows (s : State) (m : OutMsg) : (s.send m).windows = s.windows := rfl
@[simp] theorem State.send_naps (s : State) (m : OutMsg) : (s.send m).naps = s.naps := rfl
@[simp] theorem State.send_i3c (s : State) (m : OutMsg) : (s.send m).i3c = s.i3c := rfl
@[simp] theorem State.send_stageLog (s : State) (m : OutMsg) : (s.send m).stageLog = s.stageLog := rfl
@[simp] theorem State.send_jcopies (s : State) (m : OutMsg) : (s.send m).jcopies = s.jcopies := rfl
@[simp] theorem State.send_pwr (s : State) (m : OutMsg) : (s.send m).pwr = s.pwr := rfl
@[simp] theorem State.send_therm (s : State) (m : OutMsg) : (s.send m).therm = s.therm := rfl
@[simp] theorem State.send_sh (s : State) (m : OutMsg) : (s.send m).sh = s.sh := rfl
@[simp] theorem State.send_flash (s : State) (m : OutMsg) : (s.send m).flash = s.flash := rfl
@[simp] theorem State.send_stairSnap (s : State) (m : OutMsg) : (s.send m).stairSnap = s.stairSnap := rfl
@[simp] theorem State.send_stair (s : State) (m : OutMsg) : (s.send m).stair = s.stair := rfl
@[simp] theorem State.send_stairDone (s : State) (m : OutMsg) : (s.send m).stairDone = s.stairDone := rfl
@[simp] theorem State.send_pair (s : State) (m : OutMsg) : (s.send m).pair = s.pair := rfl
@[simp] theorem State.send_munov (s : State) (m : OutMsg) : (s.send m).munov = s.munov := rfl
@[simp] theorem State.setDdrCh_pending (s : State) (c : Nat) (d : DdrSt) : (s.setDdrCh c d).pending = s.pending := rfl
@[simp] theorem State.setDdrCh_freeCtr (s : State) (c : Nat) (d : DdrSt) : (s.setDdrCh c d).freeCtr = s.freeCtr := rfl
@[simp] theorem State.setDdrCh_objs (s : State) (c : Nat) (d : DdrSt) : (s.setDdrCh c d).objs = s.objs := rfl
@[simp] theorem State.setDdrCh_doms (s : State) (c : Nat) (d : DdrSt) : (s.setDdrCh c d).doms = s.doms := rfl
@[simp] theorem State.setDdrCh_events (s : State) (c : Nat) (d : DdrSt) : (s.setDdrCh c d).events = s.events := rfl
@[simp] theorem State.setDdrCh_outbox (s : State) (c : Nat) (d : DdrSt) : (s.setDdrCh c d).outbox = s.outbox := rfl
@[simp] theorem State.setDdrCh_pace (s : State) (c : Nat) (d : DdrSt) : (s.setDdrCh c d).pace = s.pace := rfl
@[simp] theorem State.setDdrCh_unacked (s : State) (c : Nat) (d : DdrSt) : (s.setDdrCh c d).unacked = s.unacked := rfl
@[simp] theorem State.setDdrCh_units (s : State) (c : Nat) (d : DdrSt) : (s.setDdrCh c d).units = s.units := rfl
@[simp] theorem State.setDdrCh_pins (s : State) (c : Nat) (d : DdrSt) : (s.setDdrCh c d).pins = s.pins := rfl
@[simp] theorem State.setDdrCh_mem (s : State) (c : Nat) (d : DdrSt) : (s.setDdrCh c d).mem = s.mem := rfl
@[simp] theorem State.setDdrCh_journal (s : State) (c : Nat) (d : DdrSt) : (s.setDdrCh c d).journal = s.journal := rfl
@[simp] theorem State.setDdrCh_jseqNext (s : State) (c : Nat) (d : DdrSt) : (s.setDdrCh c d).jseqNext = s.jseqNext := rfl
@[simp] theorem State.setDdrCh_upsets (s : State) (c : Nat) (d : DdrSt) : (s.setDdrCh c d).upsets = s.upsets := rfl
@[simp] theorem State.setDdrCh_eccLog (s : State) (c : Nat) (d : DdrSt) : (s.setDdrCh c d).eccLog = s.eccLog := rfl
@[simp] theorem State.setDdrCh_hotQueue (s : State) (c : Nat) (d : DdrSt) : (s.setDdrCh c d).hotQueue = s.hotQueue := rfl
@[simp] theorem State.setDdrCh_scrubLated (s : State) (c : Nat) (d : DdrSt) : (s.setDdrCh c d).scrubLated = s.scrubLated := rfl
@[simp] theorem State.setDdrCh_scrub (s : State) (c : Nat) (d : DdrSt) : (s.setDdrCh c d).scrub = s.scrub := rfl
@[simp] theorem State.setDdrCh_elapsed (s : State) (c : Nat) (d : DdrSt) : (s.setDdrCh c d).elapsed = s.elapsed := rfl
@[simp] theorem State.setDdrCh_sparesUsed (s : State) (c : Nat) (d : DdrSt) : (s.setDdrCh c d).sparesUsed = s.sparesUsed := rfl
@[simp] theorem State.setDdrCh_sppr (s : State) (c : Nat) (d : DdrSt) : (s.setDdrCh c d).sppr = s.sppr := rfl
@[simp] theorem State.setDdrCh_repairs (s : State) (c : Nat) (d : DdrSt) : (s.setDdrCh c d).repairs = s.repairs := rfl
@[simp] theorem State.setDdrCh_coreMem (s : State) (c : Nat) (d : DdrSt) : (s.setDdrCh c d).coreMem = s.coreMem := rfl
@[simp] theorem State.setDdrCh_cores (s : State) (c : Nat) (d : DdrSt) : (s.setDdrCh c d).cores = s.cores := rfl
@[simp] theorem State.setDdrCh_sched (s : State) (c : Nat) (d : DdrSt) : (s.setDdrCh c d).sched = s.sched := rfl
@[simp] theorem State.setDdrCh_carriers (s : State) (c : Nat) (d : DdrSt) : (s.setDdrCh c d).carriers = s.carriers := rfl
@[simp] theorem State.setDdrCh_steer (s : State) (c : Nat) (d : DdrSt) : (s.setDdrCh c d).steer = s.steer := rfl
@[simp] theorem State.setDdrCh_ulJobs (s : State) (c : Nat) (d : DdrSt) : (s.setDdrCh c d).ulJobs = s.ulJobs := rfl
@[simp] theorem State.setDdrCh_dlJobs (s : State) (c : Nat) (d : DdrSt) : (s.setDdrCh c d).dlJobs = s.dlJobs := rfl
@[simp] theorem State.setDdrCh_ulSeq (s : State) (c : Nat) (d : DdrSt) : (s.setDdrCh c d).ulSeq = s.ulSeq := rfl
@[simp] theorem State.setDdrCh_ulBufs (s : State) (c : Nat) (d : DdrSt) : (s.setDdrCh c d).ulBufs = s.ulBufs := rfl
@[simp] theorem State.setDdrCh_ulPrev (s : State) (c : Nat) (d : DdrSt) : (s.setDdrCh c d).ulPrev = s.ulPrev := rfl
@[simp] theorem State.setDdrCh_arms (s : State) (c : Nat) (d : DdrSt) : (s.setDdrCh c d).arms = s.arms := rfl
@[simp] theorem State.setDdrCh_engBusy (s : State) (c : Nat) (d : DdrSt) : (s.setDdrCh c d).engBusy = s.engBusy := rfl
@[simp] theorem State.setDdrCh_codecs (s : State) (c : Nat) (d : DdrSt) : (s.setDdrCh c d).codecs = s.codecs := rfl
@[simp] theorem State.setDdrCh_hBufs (s : State) (c : Nat) (d : DdrSt) : (s.setDdrCh c d).hBufs = s.hBufs := rfl
@[simp] theorem State.setDdrCh_rnnBufs (s : State) (c : Nat) (d : DdrSt) : (s.setDdrCh c d).rnnBufs = s.rnnBufs := rfl
@[simp] theorem State.setDdrCh_harq (s : State) (c : Nat) (d : DdrSt) : (s.setDdrCh c d).harq = s.harq := rfl
@[simp] theorem State.setDdrCh_harqPool (s : State) (c : Nat) (d : DdrSt) : (s.setDdrCh c d).harqPool = s.harqPool := rfl
@[simp] theorem State.setDdrCh_decIters (s : State) (c : Nat) (d : DdrSt) : (s.setDdrCh c d).decIters = s.decIters := rfl
@[simp] theorem State.setDdrCh_pra (s : State) (c : Nat) (d : DdrSt) : (s.setDdrCh c d).pra = s.pra := rfl
@[simp] theorem State.setDdrCh_praJobs (s : State) (c : Nat) (d : DdrSt) : (s.setDdrCh c d).praJobs = s.praJobs := rfl
@[simp] theorem State.setDdrCh_llrDone (s : State) (c : Nat) (d : DdrSt) : (s.setDdrCh c d).llrDone = s.llrDone := rfl
@[simp] theorem State.setDdrCh_txMaps (s : State) (c : Nat) (d : DdrSt) : (s.setDdrCh c d).txMaps = s.txMaps := rfl
@[simp] theorem State.setDdrCh_dlSlots (s : State) (c : Nat) (d : DdrSt) : (s.setDdrCh c d).dlSlots = s.dlSlots := rfl
@[simp] theorem State.setDdrCh_dlMissed (s : State) (c : Nat) (d : DdrSt) : (s.setDdrCh c d).dlMissed = s.dlMissed := rfl
@[simp] theorem State.setDdrCh_frameStores (s : State) (c : Nat) (d : DdrSt) : (s.setDdrCh c d).frameStores = s.frameStores := rfl
@[simp] theorem State.setDdrCh_txSeq (s : State) (c : Nat) (d : DdrSt) : (s.setDdrCh c d).txSeq = s.txSeq := rfl
@[simp] theorem State.setDdrCh_td (s : State) (c : Nat) (d : DdrSt) : (s.setDdrCh c d).td = s.td := rfl
@[simp] theorem State.setDdrCh_txOffers (s : State) (c : Nat) (d : DdrSt) : (s.setDdrCh c d).txOffers = s.txOffers := rfl
@[simp] theorem State.setDdrCh_ctx (s : State) (c : Nat) (d : DdrSt) : (s.setDdrCh c d).ctx = s.ctx := rfl
@[simp] theorem State.setDdrCh_dravutOut (s : State) (c : Nat) (d : DdrSt) : (s.setDdrCh c d).dravutOut = s.dravutOut := rfl
@[simp] theorem State.setDdrCh_dravutNext (s : State) (c : Nat) (d : DdrSt) : (s.setDdrCh c d).dravutNext = s.dravutNext := rfl
@[simp] theorem State.setDdrCh_dravutExpect (s : State) (c : Nat) (d : DdrSt) : (s.setDdrCh c d).dravutExpect = s.dravutExpect := rfl
@[simp] theorem State.setDdrCh_arbs (s : State) (c : Nat) (d : DdrSt) : (s.setDdrCh c d).arbs = s.arbs := rfl
@[simp] theorem State.setDdrCh_galEpochs (s : State) (c : Nat) (d : DdrSt) : (s.setDdrCh c d).galEpochs = s.galEpochs := rfl
@[simp] theorem State.setDdrCh_gal (s : State) (c : Nat) (d : DdrSt) : (s.setDdrCh c d).gal = s.gal := rfl
@[simp] theorem State.setDdrCh_lanes (s : State) (c : Nat) (d : DdrSt) : (s.setDdrCh c d).lanes = s.lanes := rfl
@[simp] theorem State.setDdrCh_ports (s : State) (c : Nat) (d : DdrSt) : (s.setDdrCh c d).ports = s.ports := rfl
@[simp] theorem State.setDdrCh_txQueue (s : State) (c : Nat) (d : DdrSt) : (s.setDdrCh c d).txQueue = s.txQueue := rfl
@[simp] theorem State.setDdrCh_erx (s : State) (c : Nat) (d : DdrSt) : (s.setDdrCh c d).erx = s.erx := rfl
@[simp] theorem State.setDdrCh_etx (s : State) (c : Nat) (d : DdrSt) : (s.setDdrCh c d).etx = s.etx := rfl
@[simp] theorem State.setDdrCh_time (s : State) (c : Nat) (d : DdrSt) : (s.setDdrCh c d).time = s.time := rfl
@[simp] theorem State.setDdrCh_staged (s : State) (c : Nat) (d : DdrSt) : (s.setDdrCh c d).staged = s.staged := rfl
@[simp] theorem State.setDdrCh_rings (s : State) (c : Nat) (d : DdrSt) : (s.setDdrCh c d).rings = s.rings := rfl
@[simp] theorem State.setDdrCh_bme (s : State) (c : Nat) (d : DdrSt) : (s.setDdrCh c d).bme = s.bme := rfl
@[simp] theorem State.setDdrCh_msixMasked (s : State) (c : Nat) (d : DdrSt) : (s.setDdrCh c d).msixMasked = s.msixMasked := rfl
@[simp] theorem State.setDdrCh_msixPending (s : State) (c : Nat) (d : DdrSt) : (s.setDdrCh c d).msixPending = s.msixPending := rfl
@[simp] theorem State.setDdrCh_windows (s : State) (c : Nat) (d : DdrSt) : (s.setDdrCh c d).windows = s.windows := rfl
@[simp] theorem State.setDdrCh_naps (s : State) (c : Nat) (d : DdrSt) : (s.setDdrCh c d).naps = s.naps := rfl
@[simp] theorem State.setDdrCh_i3c (s : State) (c : Nat) (d : DdrSt) : (s.setDdrCh c d).i3c = s.i3c := rfl
@[simp] theorem State.setDdrCh_stageLog (s : State) (c : Nat) (d : DdrSt) : (s.setDdrCh c d).stageLog = s.stageLog := rfl
@[simp] theorem State.setDdrCh_jcopies (s : State) (c : Nat) (d : DdrSt) : (s.setDdrCh c d).jcopies = s.jcopies := rfl
@[simp] theorem State.setDdrCh_pwr (s : State) (c : Nat) (d : DdrSt) : (s.setDdrCh c d).pwr = s.pwr := rfl
@[simp] theorem State.setDdrCh_therm (s : State) (c : Nat) (d : DdrSt) : (s.setDdrCh c d).therm = s.therm := rfl
@[simp] theorem State.setDdrCh_sh (s : State) (c : Nat) (d : DdrSt) : (s.setDdrCh c d).sh = s.sh := rfl
@[simp] theorem State.setDdrCh_flash (s : State) (c : Nat) (d : DdrSt) : (s.setDdrCh c d).flash = s.flash := rfl
@[simp] theorem State.setDdrCh_stairSnap (s : State) (c : Nat) (d : DdrSt) : (s.setDdrCh c d).stairSnap = s.stairSnap := rfl
@[simp] theorem State.setDdrCh_stair (s : State) (c : Nat) (d : DdrSt) : (s.setDdrCh c d).stair = s.stair := rfl
@[simp] theorem State.setDdrCh_stairDone (s : State) (c : Nat) (d : DdrSt) : (s.setDdrCh c d).stairDone = s.stairDone := rfl
@[simp] theorem State.setDdrCh_pair (s : State) (c : Nat) (d : DdrSt) : (s.setDdrCh c d).pair = s.pair := rfl
@[simp] theorem State.setDdrCh_munov (s : State) (c : Nat) (d : DdrSt) : (s.setDdrCh c d).munov = s.munov := rfl
@[simp] theorem State.setArb_pending (s : State) (k : Nat) (x : ArbSt) : (s.setArb k x).pending = s.pending := rfl
@[simp] theorem State.setArb_freeCtr (s : State) (k : Nat) (x : ArbSt) : (s.setArb k x).freeCtr = s.freeCtr := rfl
@[simp] theorem State.setArb_objs (s : State) (k : Nat) (x : ArbSt) : (s.setArb k x).objs = s.objs := rfl
@[simp] theorem State.setArb_doms (s : State) (k : Nat) (x : ArbSt) : (s.setArb k x).doms = s.doms := rfl
@[simp] theorem State.setArb_events (s : State) (k : Nat) (x : ArbSt) : (s.setArb k x).events = s.events := rfl
@[simp] theorem State.setArb_outbox (s : State) (k : Nat) (x : ArbSt) : (s.setArb k x).outbox = s.outbox := rfl
@[simp] theorem State.setArb_pace (s : State) (k : Nat) (x : ArbSt) : (s.setArb k x).pace = s.pace := rfl
@[simp] theorem State.setArb_unacked (s : State) (k : Nat) (x : ArbSt) : (s.setArb k x).unacked = s.unacked := rfl
@[simp] theorem State.setArb_units (s : State) (k : Nat) (x : ArbSt) : (s.setArb k x).units = s.units := rfl
@[simp] theorem State.setArb_pins (s : State) (k : Nat) (x : ArbSt) : (s.setArb k x).pins = s.pins := rfl
@[simp] theorem State.setArb_mem (s : State) (k : Nat) (x : ArbSt) : (s.setArb k x).mem = s.mem := rfl
@[simp] theorem State.setArb_journal (s : State) (k : Nat) (x : ArbSt) : (s.setArb k x).journal = s.journal := rfl
@[simp] theorem State.setArb_jseqNext (s : State) (k : Nat) (x : ArbSt) : (s.setArb k x).jseqNext = s.jseqNext := rfl
@[simp] theorem State.setArb_upsets (s : State) (k : Nat) (x : ArbSt) : (s.setArb k x).upsets = s.upsets := rfl
@[simp] theorem State.setArb_eccLog (s : State) (k : Nat) (x : ArbSt) : (s.setArb k x).eccLog = s.eccLog := rfl
@[simp] theorem State.setArb_hotQueue (s : State) (k : Nat) (x : ArbSt) : (s.setArb k x).hotQueue = s.hotQueue := rfl
@[simp] theorem State.setArb_scrubLated (s : State) (k : Nat) (x : ArbSt) : (s.setArb k x).scrubLated = s.scrubLated := rfl
@[simp] theorem State.setArb_scrub (s : State) (k : Nat) (x : ArbSt) : (s.setArb k x).scrub = s.scrub := rfl
@[simp] theorem State.setArb_elapsed (s : State) (k : Nat) (x : ArbSt) : (s.setArb k x).elapsed = s.elapsed := rfl
@[simp] theorem State.setArb_ddr (s : State) (k : Nat) (x : ArbSt) : (s.setArb k x).ddr = s.ddr := rfl
@[simp] theorem State.setArb_sparesUsed (s : State) (k : Nat) (x : ArbSt) : (s.setArb k x).sparesUsed = s.sparesUsed := rfl
@[simp] theorem State.setArb_sppr (s : State) (k : Nat) (x : ArbSt) : (s.setArb k x).sppr = s.sppr := rfl
@[simp] theorem State.setArb_repairs (s : State) (k : Nat) (x : ArbSt) : (s.setArb k x).repairs = s.repairs := rfl
@[simp] theorem State.setArb_coreMem (s : State) (k : Nat) (x : ArbSt) : (s.setArb k x).coreMem = s.coreMem := rfl
@[simp] theorem State.setArb_cores (s : State) (k : Nat) (x : ArbSt) : (s.setArb k x).cores = s.cores := rfl
@[simp] theorem State.setArb_sched (s : State) (k : Nat) (x : ArbSt) : (s.setArb k x).sched = s.sched := rfl
@[simp] theorem State.setArb_carriers (s : State) (k : Nat) (x : ArbSt) : (s.setArb k x).carriers = s.carriers := rfl
@[simp] theorem State.setArb_steer (s : State) (k : Nat) (x : ArbSt) : (s.setArb k x).steer = s.steer := rfl
@[simp] theorem State.setArb_ulJobs (s : State) (k : Nat) (x : ArbSt) : (s.setArb k x).ulJobs = s.ulJobs := rfl
@[simp] theorem State.setArb_dlJobs (s : State) (k : Nat) (x : ArbSt) : (s.setArb k x).dlJobs = s.dlJobs := rfl
@[simp] theorem State.setArb_ulSeq (s : State) (k : Nat) (x : ArbSt) : (s.setArb k x).ulSeq = s.ulSeq := rfl
@[simp] theorem State.setArb_ulBufs (s : State) (k : Nat) (x : ArbSt) : (s.setArb k x).ulBufs = s.ulBufs := rfl
@[simp] theorem State.setArb_ulPrev (s : State) (k : Nat) (x : ArbSt) : (s.setArb k x).ulPrev = s.ulPrev := rfl
@[simp] theorem State.setArb_arms (s : State) (k : Nat) (x : ArbSt) : (s.setArb k x).arms = s.arms := rfl
@[simp] theorem State.setArb_engBusy (s : State) (k : Nat) (x : ArbSt) : (s.setArb k x).engBusy = s.engBusy := rfl
@[simp] theorem State.setArb_codecs (s : State) (k : Nat) (x : ArbSt) : (s.setArb k x).codecs = s.codecs := rfl
@[simp] theorem State.setArb_hBufs (s : State) (k : Nat) (x : ArbSt) : (s.setArb k x).hBufs = s.hBufs := rfl
@[simp] theorem State.setArb_rnnBufs (s : State) (k : Nat) (x : ArbSt) : (s.setArb k x).rnnBufs = s.rnnBufs := rfl
@[simp] theorem State.setArb_harq (s : State) (k : Nat) (x : ArbSt) : (s.setArb k x).harq = s.harq := rfl
@[simp] theorem State.setArb_harqPool (s : State) (k : Nat) (x : ArbSt) : (s.setArb k x).harqPool = s.harqPool := rfl
@[simp] theorem State.setArb_decIters (s : State) (k : Nat) (x : ArbSt) : (s.setArb k x).decIters = s.decIters := rfl
@[simp] theorem State.setArb_pra (s : State) (k : Nat) (x : ArbSt) : (s.setArb k x).pra = s.pra := rfl
@[simp] theorem State.setArb_praJobs (s : State) (k : Nat) (x : ArbSt) : (s.setArb k x).praJobs = s.praJobs := rfl
@[simp] theorem State.setArb_llrDone (s : State) (k : Nat) (x : ArbSt) : (s.setArb k x).llrDone = s.llrDone := rfl
@[simp] theorem State.setArb_txMaps (s : State) (k : Nat) (x : ArbSt) : (s.setArb k x).txMaps = s.txMaps := rfl
@[simp] theorem State.setArb_dlSlots (s : State) (k : Nat) (x : ArbSt) : (s.setArb k x).dlSlots = s.dlSlots := rfl
@[simp] theorem State.setArb_dlMissed (s : State) (k : Nat) (x : ArbSt) : (s.setArb k x).dlMissed = s.dlMissed := rfl
@[simp] theorem State.setArb_frameStores (s : State) (k : Nat) (x : ArbSt) : (s.setArb k x).frameStores = s.frameStores := rfl
@[simp] theorem State.setArb_txSeq (s : State) (k : Nat) (x : ArbSt) : (s.setArb k x).txSeq = s.txSeq := rfl
@[simp] theorem State.setArb_td (s : State) (k : Nat) (x : ArbSt) : (s.setArb k x).td = s.td := rfl
@[simp] theorem State.setArb_txOffers (s : State) (k : Nat) (x : ArbSt) : (s.setArb k x).txOffers = s.txOffers := rfl
@[simp] theorem State.setArb_ctx (s : State) (k : Nat) (x : ArbSt) : (s.setArb k x).ctx = s.ctx := rfl
@[simp] theorem State.setArb_dravutOut (s : State) (k : Nat) (x : ArbSt) : (s.setArb k x).dravutOut = s.dravutOut := rfl
@[simp] theorem State.setArb_dravutNext (s : State) (k : Nat) (x : ArbSt) : (s.setArb k x).dravutNext = s.dravutNext := rfl
@[simp] theorem State.setArb_dravutExpect (s : State) (k : Nat) (x : ArbSt) : (s.setArb k x).dravutExpect = s.dravutExpect := rfl
@[simp] theorem State.setArb_galEpochs (s : State) (k : Nat) (x : ArbSt) : (s.setArb k x).galEpochs = s.galEpochs := rfl
@[simp] theorem State.setArb_gal (s : State) (k : Nat) (x : ArbSt) : (s.setArb k x).gal = s.gal := rfl
@[simp] theorem State.setArb_lanes (s : State) (k : Nat) (x : ArbSt) : (s.setArb k x).lanes = s.lanes := rfl
@[simp] theorem State.setArb_ports (s : State) (k : Nat) (x : ArbSt) : (s.setArb k x).ports = s.ports := rfl
@[simp] theorem State.setArb_txQueue (s : State) (k : Nat) (x : ArbSt) : (s.setArb k x).txQueue = s.txQueue := rfl
@[simp] theorem State.setArb_erx (s : State) (k : Nat) (x : ArbSt) : (s.setArb k x).erx = s.erx := rfl
@[simp] theorem State.setArb_etx (s : State) (k : Nat) (x : ArbSt) : (s.setArb k x).etx = s.etx := rfl
@[simp] theorem State.setArb_time (s : State) (k : Nat) (x : ArbSt) : (s.setArb k x).time = s.time := rfl
@[simp] theorem State.setArb_staged (s : State) (k : Nat) (x : ArbSt) : (s.setArb k x).staged = s.staged := rfl
@[simp] theorem State.setArb_rings (s : State) (k : Nat) (x : ArbSt) : (s.setArb k x).rings = s.rings := rfl
@[simp] theorem State.setArb_bme (s : State) (k : Nat) (x : ArbSt) : (s.setArb k x).bme = s.bme := rfl
@[simp] theorem State.setArb_msixMasked (s : State) (k : Nat) (x : ArbSt) : (s.setArb k x).msixMasked = s.msixMasked := rfl
@[simp] theorem State.setArb_msixPending (s : State) (k : Nat) (x : ArbSt) : (s.setArb k x).msixPending = s.msixPending := rfl
@[simp] theorem State.setArb_windows (s : State) (k : Nat) (x : ArbSt) : (s.setArb k x).windows = s.windows := rfl
@[simp] theorem State.setArb_naps (s : State) (k : Nat) (x : ArbSt) : (s.setArb k x).naps = s.naps := rfl
@[simp] theorem State.setArb_i3c (s : State) (k : Nat) (x : ArbSt) : (s.setArb k x).i3c = s.i3c := rfl
@[simp] theorem State.setArb_stageLog (s : State) (k : Nat) (x : ArbSt) : (s.setArb k x).stageLog = s.stageLog := rfl
@[simp] theorem State.setArb_jcopies (s : State) (k : Nat) (x : ArbSt) : (s.setArb k x).jcopies = s.jcopies := rfl
@[simp] theorem State.setArb_pwr (s : State) (k : Nat) (x : ArbSt) : (s.setArb k x).pwr = s.pwr := rfl
@[simp] theorem State.setArb_therm (s : State) (k : Nat) (x : ArbSt) : (s.setArb k x).therm = s.therm := rfl
@[simp] theorem State.setArb_sh (s : State) (k : Nat) (x : ArbSt) : (s.setArb k x).sh = s.sh := rfl
@[simp] theorem State.setArb_flash (s : State) (k : Nat) (x : ArbSt) : (s.setArb k x).flash = s.flash := rfl
@[simp] theorem State.setArb_stairSnap (s : State) (k : Nat) (x : ArbSt) : (s.setArb k x).stairSnap = s.stairSnap := rfl
@[simp] theorem State.setArb_stair (s : State) (k : Nat) (x : ArbSt) : (s.setArb k x).stair = s.stair := rfl
@[simp] theorem State.setArb_stairDone (s : State) (k : Nat) (x : ArbSt) : (s.setArb k x).stairDone = s.stairDone := rfl
@[simp] theorem State.setArb_pair (s : State) (k : Nat) (x : ArbSt) : (s.setArb k x).pair = s.pair := rfl
@[simp] theorem State.setArb_munov (s : State) (k : Nat) (x : ArbSt) : (s.setArb k x).munov = s.munov := rfl
@[simp] theorem State.setCore_pending (s : State) (c : Nat) (k : CoreSt) : (s.setCore c k).pending = s.pending := rfl
@[simp] theorem State.setCore_freeCtr (s : State) (c : Nat) (k : CoreSt) : (s.setCore c k).freeCtr = s.freeCtr := rfl
@[simp] theorem State.setCore_objs (s : State) (c : Nat) (k : CoreSt) : (s.setCore c k).objs = s.objs := rfl
@[simp] theorem State.setCore_doms (s : State) (c : Nat) (k : CoreSt) : (s.setCore c k).doms = s.doms := rfl
@[simp] theorem State.setCore_events (s : State) (c : Nat) (k : CoreSt) : (s.setCore c k).events = s.events := rfl
@[simp] theorem State.setCore_outbox (s : State) (c : Nat) (k : CoreSt) : (s.setCore c k).outbox = s.outbox := rfl
@[simp] theorem State.setCore_pace (s : State) (c : Nat) (k : CoreSt) : (s.setCore c k).pace = s.pace := rfl
@[simp] theorem State.setCore_unacked (s : State) (c : Nat) (k : CoreSt) : (s.setCore c k).unacked = s.unacked := rfl
@[simp] theorem State.setCore_units (s : State) (c : Nat) (k : CoreSt) : (s.setCore c k).units = s.units := rfl
@[simp] theorem State.setCore_pins (s : State) (c : Nat) (k : CoreSt) : (s.setCore c k).pins = s.pins := rfl
@[simp] theorem State.setCore_mem (s : State) (c : Nat) (k : CoreSt) : (s.setCore c k).mem = s.mem := rfl
@[simp] theorem State.setCore_journal (s : State) (c : Nat) (k : CoreSt) : (s.setCore c k).journal = s.journal := rfl
@[simp] theorem State.setCore_jseqNext (s : State) (c : Nat) (k : CoreSt) : (s.setCore c k).jseqNext = s.jseqNext := rfl
@[simp] theorem State.setCore_upsets (s : State) (c : Nat) (k : CoreSt) : (s.setCore c k).upsets = s.upsets := rfl
@[simp] theorem State.setCore_eccLog (s : State) (c : Nat) (k : CoreSt) : (s.setCore c k).eccLog = s.eccLog := rfl
@[simp] theorem State.setCore_hotQueue (s : State) (c : Nat) (k : CoreSt) : (s.setCore c k).hotQueue = s.hotQueue := rfl
@[simp] theorem State.setCore_scrubLated (s : State) (c : Nat) (k : CoreSt) : (s.setCore c k).scrubLated = s.scrubLated := rfl
@[simp] theorem State.setCore_scrub (s : State) (c : Nat) (k : CoreSt) : (s.setCore c k).scrub = s.scrub := rfl
@[simp] theorem State.setCore_elapsed (s : State) (c : Nat) (k : CoreSt) : (s.setCore c k).elapsed = s.elapsed := rfl
@[simp] theorem State.setCore_ddr (s : State) (c : Nat) (k : CoreSt) : (s.setCore c k).ddr = s.ddr := rfl
@[simp] theorem State.setCore_sparesUsed (s : State) (c : Nat) (k : CoreSt) : (s.setCore c k).sparesUsed = s.sparesUsed := rfl
@[simp] theorem State.setCore_sppr (s : State) (c : Nat) (k : CoreSt) : (s.setCore c k).sppr = s.sppr := rfl
@[simp] theorem State.setCore_repairs (s : State) (c : Nat) (k : CoreSt) : (s.setCore c k).repairs = s.repairs := rfl
@[simp] theorem State.setCore_coreMem (s : State) (c : Nat) (k : CoreSt) : (s.setCore c k).coreMem = s.coreMem := rfl
@[simp] theorem State.setCore_sched (s : State) (c : Nat) (k : CoreSt) : (s.setCore c k).sched = s.sched := rfl
@[simp] theorem State.setCore_carriers (s : State) (c : Nat) (k : CoreSt) : (s.setCore c k).carriers = s.carriers := rfl
@[simp] theorem State.setCore_steer (s : State) (c : Nat) (k : CoreSt) : (s.setCore c k).steer = s.steer := rfl
@[simp] theorem State.setCore_ulJobs (s : State) (c : Nat) (k : CoreSt) : (s.setCore c k).ulJobs = s.ulJobs := rfl
@[simp] theorem State.setCore_dlJobs (s : State) (c : Nat) (k : CoreSt) : (s.setCore c k).dlJobs = s.dlJobs := rfl
@[simp] theorem State.setCore_ulSeq (s : State) (c : Nat) (k : CoreSt) : (s.setCore c k).ulSeq = s.ulSeq := rfl
@[simp] theorem State.setCore_ulBufs (s : State) (c : Nat) (k : CoreSt) : (s.setCore c k).ulBufs = s.ulBufs := rfl
@[simp] theorem State.setCore_ulPrev (s : State) (c : Nat) (k : CoreSt) : (s.setCore c k).ulPrev = s.ulPrev := rfl
@[simp] theorem State.setCore_arms (s : State) (c : Nat) (k : CoreSt) : (s.setCore c k).arms = s.arms := rfl
@[simp] theorem State.setCore_engBusy (s : State) (c : Nat) (k : CoreSt) : (s.setCore c k).engBusy = s.engBusy := rfl
@[simp] theorem State.setCore_codecs (s : State) (c : Nat) (k : CoreSt) : (s.setCore c k).codecs = s.codecs := rfl
@[simp] theorem State.setCore_hBufs (s : State) (c : Nat) (k : CoreSt) : (s.setCore c k).hBufs = s.hBufs := rfl
@[simp] theorem State.setCore_rnnBufs (s : State) (c : Nat) (k : CoreSt) : (s.setCore c k).rnnBufs = s.rnnBufs := rfl
@[simp] theorem State.setCore_harq (s : State) (c : Nat) (k : CoreSt) : (s.setCore c k).harq = s.harq := rfl
@[simp] theorem State.setCore_harqPool (s : State) (c : Nat) (k : CoreSt) : (s.setCore c k).harqPool = s.harqPool := rfl
@[simp] theorem State.setCore_decIters (s : State) (c : Nat) (k : CoreSt) : (s.setCore c k).decIters = s.decIters := rfl
@[simp] theorem State.setCore_pra (s : State) (c : Nat) (k : CoreSt) : (s.setCore c k).pra = s.pra := rfl
@[simp] theorem State.setCore_praJobs (s : State) (c : Nat) (k : CoreSt) : (s.setCore c k).praJobs = s.praJobs := rfl
@[simp] theorem State.setCore_llrDone (s : State) (c : Nat) (k : CoreSt) : (s.setCore c k).llrDone = s.llrDone := rfl
@[simp] theorem State.setCore_txMaps (s : State) (c : Nat) (k : CoreSt) : (s.setCore c k).txMaps = s.txMaps := rfl
@[simp] theorem State.setCore_dlSlots (s : State) (c : Nat) (k : CoreSt) : (s.setCore c k).dlSlots = s.dlSlots := rfl
@[simp] theorem State.setCore_dlMissed (s : State) (c : Nat) (k : CoreSt) : (s.setCore c k).dlMissed = s.dlMissed := rfl
@[simp] theorem State.setCore_frameStores (s : State) (c : Nat) (k : CoreSt) : (s.setCore c k).frameStores = s.frameStores := rfl
@[simp] theorem State.setCore_txSeq (s : State) (c : Nat) (k : CoreSt) : (s.setCore c k).txSeq = s.txSeq := rfl
@[simp] theorem State.setCore_td (s : State) (c : Nat) (k : CoreSt) : (s.setCore c k).td = s.td := rfl
@[simp] theorem State.setCore_txOffers (s : State) (c : Nat) (k : CoreSt) : (s.setCore c k).txOffers = s.txOffers := rfl
@[simp] theorem State.setCore_ctx (s : State) (c : Nat) (k : CoreSt) : (s.setCore c k).ctx = s.ctx := rfl
@[simp] theorem State.setCore_dravutOut (s : State) (c : Nat) (k : CoreSt) : (s.setCore c k).dravutOut = s.dravutOut := rfl
@[simp] theorem State.setCore_dravutNext (s : State) (c : Nat) (k : CoreSt) : (s.setCore c k).dravutNext = s.dravutNext := rfl
@[simp] theorem State.setCore_dravutExpect (s : State) (c : Nat) (k : CoreSt) : (s.setCore c k).dravutExpect = s.dravutExpect := rfl
@[simp] theorem State.setCore_arbs (s : State) (c : Nat) (k : CoreSt) : (s.setCore c k).arbs = s.arbs := rfl
@[simp] theorem State.setCore_galEpochs (s : State) (c : Nat) (k : CoreSt) : (s.setCore c k).galEpochs = s.galEpochs := rfl
@[simp] theorem State.setCore_gal (s : State) (c : Nat) (k : CoreSt) : (s.setCore c k).gal = s.gal := rfl
@[simp] theorem State.setCore_lanes (s : State) (c : Nat) (k : CoreSt) : (s.setCore c k).lanes = s.lanes := rfl
@[simp] theorem State.setCore_ports (s : State) (c : Nat) (k : CoreSt) : (s.setCore c k).ports = s.ports := rfl
@[simp] theorem State.setCore_txQueue (s : State) (c : Nat) (k : CoreSt) : (s.setCore c k).txQueue = s.txQueue := rfl
@[simp] theorem State.setCore_erx (s : State) (c : Nat) (k : CoreSt) : (s.setCore c k).erx = s.erx := rfl
@[simp] theorem State.setCore_etx (s : State) (c : Nat) (k : CoreSt) : (s.setCore c k).etx = s.etx := rfl
@[simp] theorem State.setCore_time (s : State) (c : Nat) (k : CoreSt) : (s.setCore c k).time = s.time := rfl
@[simp] theorem State.setCore_staged (s : State) (c : Nat) (k : CoreSt) : (s.setCore c k).staged = s.staged := rfl
@[simp] theorem State.setCore_rings (s : State) (c : Nat) (k : CoreSt) : (s.setCore c k).rings = s.rings := rfl
@[simp] theorem State.setCore_bme (s : State) (c : Nat) (k : CoreSt) : (s.setCore c k).bme = s.bme := rfl
@[simp] theorem State.setCore_msixMasked (s : State) (c : Nat) (k : CoreSt) : (s.setCore c k).msixMasked = s.msixMasked := rfl
@[simp] theorem State.setCore_msixPending (s : State) (c : Nat) (k : CoreSt) : (s.setCore c k).msixPending = s.msixPending := rfl
@[simp] theorem State.setCore_windows (s : State) (c : Nat) (k : CoreSt) : (s.setCore c k).windows = s.windows := rfl
@[simp] theorem State.setCore_naps (s : State) (c : Nat) (k : CoreSt) : (s.setCore c k).naps = s.naps := rfl
@[simp] theorem State.setCore_i3c (s : State) (c : Nat) (k : CoreSt) : (s.setCore c k).i3c = s.i3c := rfl
@[simp] theorem State.setCore_stageLog (s : State) (c : Nat) (k : CoreSt) : (s.setCore c k).stageLog = s.stageLog := rfl
@[simp] theorem State.setCore_jcopies (s : State) (c : Nat) (k : CoreSt) : (s.setCore c k).jcopies = s.jcopies := rfl
@[simp] theorem State.setCore_pwr (s : State) (c : Nat) (k : CoreSt) : (s.setCore c k).pwr = s.pwr := rfl
@[simp] theorem State.setCore_therm (s : State) (c : Nat) (k : CoreSt) : (s.setCore c k).therm = s.therm := rfl
@[simp] theorem State.setCore_sh (s : State) (c : Nat) (k : CoreSt) : (s.setCore c k).sh = s.sh := rfl
@[simp] theorem State.setCore_flash (s : State) (c : Nat) (k : CoreSt) : (s.setCore c k).flash = s.flash := rfl
@[simp] theorem State.setCore_stairSnap (s : State) (c : Nat) (k : CoreSt) : (s.setCore c k).stairSnap = s.stairSnap := rfl
@[simp] theorem State.setCore_stair (s : State) (c : Nat) (k : CoreSt) : (s.setCore c k).stair = s.stair := rfl
@[simp] theorem State.setCore_stairDone (s : State) (c : Nat) (k : CoreSt) : (s.setCore c k).stairDone = s.stairDone := rfl
@[simp] theorem State.setCore_pair (s : State) (c : Nat) (k : CoreSt) : (s.setCore c k).pair = s.pair := rfl
@[simp] theorem State.setCore_munov (s : State) (c : Nat) (k : CoreSt) : (s.setCore c k).munov = s.munov := rfl
@[simp] theorem State.setEngRun_pending (s : State) (h e : Nat) (r : Option EngRun) : (s.setEngRun h e r).pending = s.pending := rfl
@[simp] theorem State.setEngRun_freeCtr (s : State) (h e : Nat) (r : Option EngRun) : (s.setEngRun h e r).freeCtr = s.freeCtr := rfl
@[simp] theorem State.setEngRun_objs (s : State) (h e : Nat) (r : Option EngRun) : (s.setEngRun h e r).objs = s.objs := rfl
@[simp] theorem State.setEngRun_doms (s : State) (h e : Nat) (r : Option EngRun) : (s.setEngRun h e r).doms = s.doms := rfl
@[simp] theorem State.setEngRun_events (s : State) (h e : Nat) (r : Option EngRun) : (s.setEngRun h e r).events = s.events := rfl
@[simp] theorem State.setEngRun_outbox (s : State) (h e : Nat) (r : Option EngRun) : (s.setEngRun h e r).outbox = s.outbox := rfl
@[simp] theorem State.setEngRun_pace (s : State) (h e : Nat) (r : Option EngRun) : (s.setEngRun h e r).pace = s.pace := rfl
@[simp] theorem State.setEngRun_unacked (s : State) (h e : Nat) (r : Option EngRun) : (s.setEngRun h e r).unacked = s.unacked := rfl
@[simp] theorem State.setEngRun_units (s : State) (h e : Nat) (r : Option EngRun) : (s.setEngRun h e r).units = s.units := rfl
@[simp] theorem State.setEngRun_pins (s : State) (h e : Nat) (r : Option EngRun) : (s.setEngRun h e r).pins = s.pins := rfl
@[simp] theorem State.setEngRun_mem (s : State) (h e : Nat) (r : Option EngRun) : (s.setEngRun h e r).mem = s.mem := rfl
@[simp] theorem State.setEngRun_journal (s : State) (h e : Nat) (r : Option EngRun) : (s.setEngRun h e r).journal = s.journal := rfl
@[simp] theorem State.setEngRun_jseqNext (s : State) (h e : Nat) (r : Option EngRun) : (s.setEngRun h e r).jseqNext = s.jseqNext := rfl
@[simp] theorem State.setEngRun_upsets (s : State) (h e : Nat) (r : Option EngRun) : (s.setEngRun h e r).upsets = s.upsets := rfl
@[simp] theorem State.setEngRun_eccLog (s : State) (h e : Nat) (r : Option EngRun) : (s.setEngRun h e r).eccLog = s.eccLog := rfl
@[simp] theorem State.setEngRun_hotQueue (s : State) (h e : Nat) (r : Option EngRun) : (s.setEngRun h e r).hotQueue = s.hotQueue := rfl
@[simp] theorem State.setEngRun_scrubLated (s : State) (h e : Nat) (r : Option EngRun) : (s.setEngRun h e r).scrubLated = s.scrubLated := rfl
@[simp] theorem State.setEngRun_scrub (s : State) (h e : Nat) (r : Option EngRun) : (s.setEngRun h e r).scrub = s.scrub := rfl
@[simp] theorem State.setEngRun_elapsed (s : State) (h e : Nat) (r : Option EngRun) : (s.setEngRun h e r).elapsed = s.elapsed := rfl
@[simp] theorem State.setEngRun_ddr (s : State) (h e : Nat) (r : Option EngRun) : (s.setEngRun h e r).ddr = s.ddr := rfl
@[simp] theorem State.setEngRun_sparesUsed (s : State) (h e : Nat) (r : Option EngRun) : (s.setEngRun h e r).sparesUsed = s.sparesUsed := rfl
@[simp] theorem State.setEngRun_sppr (s : State) (h e : Nat) (r : Option EngRun) : (s.setEngRun h e r).sppr = s.sppr := rfl
@[simp] theorem State.setEngRun_repairs (s : State) (h e : Nat) (r : Option EngRun) : (s.setEngRun h e r).repairs = s.repairs := rfl
@[simp] theorem State.setEngRun_coreMem (s : State) (h e : Nat) (r : Option EngRun) : (s.setEngRun h e r).coreMem = s.coreMem := rfl
@[simp] theorem State.setEngRun_cores (s : State) (h e : Nat) (r : Option EngRun) : (s.setEngRun h e r).cores = s.cores := rfl
@[simp] theorem State.setEngRun_sched (s : State) (h e : Nat) (r : Option EngRun) : (s.setEngRun h e r).sched = s.sched := rfl
@[simp] theorem State.setEngRun_carriers (s : State) (h e : Nat) (r : Option EngRun) : (s.setEngRun h e r).carriers = s.carriers := rfl
@[simp] theorem State.setEngRun_steer (s : State) (h e : Nat) (r : Option EngRun) : (s.setEngRun h e r).steer = s.steer := rfl
@[simp] theorem State.setEngRun_ulJobs (s : State) (h e : Nat) (r : Option EngRun) : (s.setEngRun h e r).ulJobs = s.ulJobs := rfl
@[simp] theorem State.setEngRun_dlJobs (s : State) (h e : Nat) (r : Option EngRun) : (s.setEngRun h e r).dlJobs = s.dlJobs := rfl
@[simp] theorem State.setEngRun_ulSeq (s : State) (h e : Nat) (r : Option EngRun) : (s.setEngRun h e r).ulSeq = s.ulSeq := rfl
@[simp] theorem State.setEngRun_ulBufs (s : State) (h e : Nat) (r : Option EngRun) : (s.setEngRun h e r).ulBufs = s.ulBufs := rfl
@[simp] theorem State.setEngRun_ulPrev (s : State) (h e : Nat) (r : Option EngRun) : (s.setEngRun h e r).ulPrev = s.ulPrev := rfl
@[simp] theorem State.setEngRun_arms (s : State) (h e : Nat) (r : Option EngRun) : (s.setEngRun h e r).arms = s.arms := rfl
@[simp] theorem State.setEngRun_codecs (s : State) (h e : Nat) (r : Option EngRun) : (s.setEngRun h e r).codecs = s.codecs := rfl
@[simp] theorem State.setEngRun_hBufs (s : State) (h e : Nat) (r : Option EngRun) : (s.setEngRun h e r).hBufs = s.hBufs := rfl
@[simp] theorem State.setEngRun_rnnBufs (s : State) (h e : Nat) (r : Option EngRun) : (s.setEngRun h e r).rnnBufs = s.rnnBufs := rfl
@[simp] theorem State.setEngRun_harq (s : State) (h e : Nat) (r : Option EngRun) : (s.setEngRun h e r).harq = s.harq := rfl
@[simp] theorem State.setEngRun_harqPool (s : State) (h e : Nat) (r : Option EngRun) : (s.setEngRun h e r).harqPool = s.harqPool := rfl
@[simp] theorem State.setEngRun_decIters (s : State) (h e : Nat) (r : Option EngRun) : (s.setEngRun h e r).decIters = s.decIters := rfl
@[simp] theorem State.setEngRun_pra (s : State) (h e : Nat) (r : Option EngRun) : (s.setEngRun h e r).pra = s.pra := rfl
@[simp] theorem State.setEngRun_praJobs (s : State) (h e : Nat) (r : Option EngRun) : (s.setEngRun h e r).praJobs = s.praJobs := rfl
@[simp] theorem State.setEngRun_llrDone (s : State) (h e : Nat) (r : Option EngRun) : (s.setEngRun h e r).llrDone = s.llrDone := rfl
@[simp] theorem State.setEngRun_txMaps (s : State) (h e : Nat) (r : Option EngRun) : (s.setEngRun h e r).txMaps = s.txMaps := rfl
@[simp] theorem State.setEngRun_dlSlots (s : State) (h e : Nat) (r : Option EngRun) : (s.setEngRun h e r).dlSlots = s.dlSlots := rfl
@[simp] theorem State.setEngRun_dlMissed (s : State) (h e : Nat) (r : Option EngRun) : (s.setEngRun h e r).dlMissed = s.dlMissed := rfl
@[simp] theorem State.setEngRun_frameStores (s : State) (h e : Nat) (r : Option EngRun) : (s.setEngRun h e r).frameStores = s.frameStores := rfl
@[simp] theorem State.setEngRun_txSeq (s : State) (h e : Nat) (r : Option EngRun) : (s.setEngRun h e r).txSeq = s.txSeq := rfl
@[simp] theorem State.setEngRun_td (s : State) (h e : Nat) (r : Option EngRun) : (s.setEngRun h e r).td = s.td := rfl
@[simp] theorem State.setEngRun_txOffers (s : State) (h e : Nat) (r : Option EngRun) : (s.setEngRun h e r).txOffers = s.txOffers := rfl
@[simp] theorem State.setEngRun_ctx (s : State) (h e : Nat) (r : Option EngRun) : (s.setEngRun h e r).ctx = s.ctx := rfl
@[simp] theorem State.setEngRun_dravutOut (s : State) (h e : Nat) (r : Option EngRun) : (s.setEngRun h e r).dravutOut = s.dravutOut := rfl
@[simp] theorem State.setEngRun_dravutNext (s : State) (h e : Nat) (r : Option EngRun) : (s.setEngRun h e r).dravutNext = s.dravutNext := rfl
@[simp] theorem State.setEngRun_dravutExpect (s : State) (h e : Nat) (r : Option EngRun) : (s.setEngRun h e r).dravutExpect = s.dravutExpect := rfl
@[simp] theorem State.setEngRun_arbs (s : State) (h e : Nat) (r : Option EngRun) : (s.setEngRun h e r).arbs = s.arbs := rfl
@[simp] theorem State.setEngRun_galEpochs (s : State) (h e : Nat) (r : Option EngRun) : (s.setEngRun h e r).galEpochs = s.galEpochs := rfl
@[simp] theorem State.setEngRun_gal (s : State) (h e : Nat) (r : Option EngRun) : (s.setEngRun h e r).gal = s.gal := rfl
@[simp] theorem State.setEngRun_lanes (s : State) (h e : Nat) (r : Option EngRun) : (s.setEngRun h e r).lanes = s.lanes := rfl
@[simp] theorem State.setEngRun_ports (s : State) (h e : Nat) (r : Option EngRun) : (s.setEngRun h e r).ports = s.ports := rfl
@[simp] theorem State.setEngRun_txQueue (s : State) (h e : Nat) (r : Option EngRun) : (s.setEngRun h e r).txQueue = s.txQueue := rfl
@[simp] theorem State.setEngRun_erx (s : State) (h e : Nat) (r : Option EngRun) : (s.setEngRun h e r).erx = s.erx := rfl
@[simp] theorem State.setEngRun_etx (s : State) (h e : Nat) (r : Option EngRun) : (s.setEngRun h e r).etx = s.etx := rfl
@[simp] theorem State.setEngRun_time (s : State) (h e : Nat) (r : Option EngRun) : (s.setEngRun h e r).time = s.time := rfl
@[simp] theorem State.setEngRun_staged (s : State) (h e : Nat) (r : Option EngRun) : (s.setEngRun h e r).staged = s.staged := rfl
@[simp] theorem State.setEngRun_rings (s : State) (h e : Nat) (r : Option EngRun) : (s.setEngRun h e r).rings = s.rings := rfl
@[simp] theorem State.setEngRun_bme (s : State) (h e : Nat) (r : Option EngRun) : (s.setEngRun h e r).bme = s.bme := rfl
@[simp] theorem State.setEngRun_msixMasked (s : State) (h e : Nat) (r : Option EngRun) : (s.setEngRun h e r).msixMasked = s.msixMasked := rfl
@[simp] theorem State.setEngRun_msixPending (s : State) (h e : Nat) (r : Option EngRun) : (s.setEngRun h e r).msixPending = s.msixPending := rfl
@[simp] theorem State.setEngRun_windows (s : State) (h e : Nat) (r : Option EngRun) : (s.setEngRun h e r).windows = s.windows := rfl
@[simp] theorem State.setEngRun_naps (s : State) (h e : Nat) (r : Option EngRun) : (s.setEngRun h e r).naps = s.naps := rfl
@[simp] theorem State.setEngRun_i3c (s : State) (h e : Nat) (r : Option EngRun) : (s.setEngRun h e r).i3c = s.i3c := rfl
@[simp] theorem State.setEngRun_stageLog (s : State) (h e : Nat) (r : Option EngRun) : (s.setEngRun h e r).stageLog = s.stageLog := rfl
@[simp] theorem State.setEngRun_jcopies (s : State) (h e : Nat) (r : Option EngRun) : (s.setEngRun h e r).jcopies = s.jcopies := rfl
@[simp] theorem State.setEngRun_pwr (s : State) (h e : Nat) (r : Option EngRun) : (s.setEngRun h e r).pwr = s.pwr := rfl
@[simp] theorem State.setEngRun_therm (s : State) (h e : Nat) (r : Option EngRun) : (s.setEngRun h e r).therm = s.therm := rfl
@[simp] theorem State.setEngRun_sh (s : State) (h e : Nat) (r : Option EngRun) : (s.setEngRun h e r).sh = s.sh := rfl
@[simp] theorem State.setEngRun_flash (s : State) (h e : Nat) (r : Option EngRun) : (s.setEngRun h e r).flash = s.flash := rfl
@[simp] theorem State.setEngRun_stairSnap (s : State) (h e : Nat) (r : Option EngRun) : (s.setEngRun h e r).stairSnap = s.stairSnap := rfl
@[simp] theorem State.setEngRun_stair (s : State) (h e : Nat) (r : Option EngRun) : (s.setEngRun h e r).stair = s.stair := rfl
@[simp] theorem State.setEngRun_stairDone (s : State) (h e : Nat) (r : Option EngRun) : (s.setEngRun h e r).stairDone = s.stairDone := rfl
@[simp] theorem State.setEngRun_pair (s : State) (h e : Nat) (r : Option EngRun) : (s.setEngRun h e r).pair = s.pair := rfl
@[simp] theorem State.setEngRun_munov (s : State) (h e : Nat) (r : Option EngRun) : (s.setEngRun h e r).munov = s.munov := rfl
@[simp] theorem State.setPort_pending (s : State) (p : Nat) (x : PortSt) : (s.setPort p x).pending = s.pending := rfl
@[simp] theorem State.setPort_freeCtr (s : State) (p : Nat) (x : PortSt) : (s.setPort p x).freeCtr = s.freeCtr := rfl
@[simp] theorem State.setPort_objs (s : State) (p : Nat) (x : PortSt) : (s.setPort p x).objs = s.objs := rfl
@[simp] theorem State.setPort_doms (s : State) (p : Nat) (x : PortSt) : (s.setPort p x).doms = s.doms := rfl
@[simp] theorem State.setPort_events (s : State) (p : Nat) (x : PortSt) : (s.setPort p x).events = s.events := rfl
@[simp] theorem State.setPort_outbox (s : State) (p : Nat) (x : PortSt) : (s.setPort p x).outbox = s.outbox := rfl
@[simp] theorem State.setPort_pace (s : State) (p : Nat) (x : PortSt) : (s.setPort p x).pace = s.pace := rfl
@[simp] theorem State.setPort_unacked (s : State) (p : Nat) (x : PortSt) : (s.setPort p x).unacked = s.unacked := rfl
@[simp] theorem State.setPort_units (s : State) (p : Nat) (x : PortSt) : (s.setPort p x).units = s.units := rfl
@[simp] theorem State.setPort_pins (s : State) (p : Nat) (x : PortSt) : (s.setPort p x).pins = s.pins := rfl
@[simp] theorem State.setPort_mem (s : State) (p : Nat) (x : PortSt) : (s.setPort p x).mem = s.mem := rfl
@[simp] theorem State.setPort_journal (s : State) (p : Nat) (x : PortSt) : (s.setPort p x).journal = s.journal := rfl
@[simp] theorem State.setPort_jseqNext (s : State) (p : Nat) (x : PortSt) : (s.setPort p x).jseqNext = s.jseqNext := rfl
@[simp] theorem State.setPort_upsets (s : State) (p : Nat) (x : PortSt) : (s.setPort p x).upsets = s.upsets := rfl
@[simp] theorem State.setPort_eccLog (s : State) (p : Nat) (x : PortSt) : (s.setPort p x).eccLog = s.eccLog := rfl
@[simp] theorem State.setPort_hotQueue (s : State) (p : Nat) (x : PortSt) : (s.setPort p x).hotQueue = s.hotQueue := rfl
@[simp] theorem State.setPort_scrubLated (s : State) (p : Nat) (x : PortSt) : (s.setPort p x).scrubLated = s.scrubLated := rfl
@[simp] theorem State.setPort_scrub (s : State) (p : Nat) (x : PortSt) : (s.setPort p x).scrub = s.scrub := rfl
@[simp] theorem State.setPort_elapsed (s : State) (p : Nat) (x : PortSt) : (s.setPort p x).elapsed = s.elapsed := rfl
@[simp] theorem State.setPort_ddr (s : State) (p : Nat) (x : PortSt) : (s.setPort p x).ddr = s.ddr := rfl
@[simp] theorem State.setPort_sparesUsed (s : State) (p : Nat) (x : PortSt) : (s.setPort p x).sparesUsed = s.sparesUsed := rfl
@[simp] theorem State.setPort_sppr (s : State) (p : Nat) (x : PortSt) : (s.setPort p x).sppr = s.sppr := rfl
@[simp] theorem State.setPort_repairs (s : State) (p : Nat) (x : PortSt) : (s.setPort p x).repairs = s.repairs := rfl
@[simp] theorem State.setPort_coreMem (s : State) (p : Nat) (x : PortSt) : (s.setPort p x).coreMem = s.coreMem := rfl
@[simp] theorem State.setPort_cores (s : State) (p : Nat) (x : PortSt) : (s.setPort p x).cores = s.cores := rfl
@[simp] theorem State.setPort_sched (s : State) (p : Nat) (x : PortSt) : (s.setPort p x).sched = s.sched := rfl
@[simp] theorem State.setPort_carriers (s : State) (p : Nat) (x : PortSt) : (s.setPort p x).carriers = s.carriers := rfl
@[simp] theorem State.setPort_steer (s : State) (p : Nat) (x : PortSt) : (s.setPort p x).steer = s.steer := rfl
@[simp] theorem State.setPort_ulJobs (s : State) (p : Nat) (x : PortSt) : (s.setPort p x).ulJobs = s.ulJobs := rfl
@[simp] theorem State.setPort_dlJobs (s : State) (p : Nat) (x : PortSt) : (s.setPort p x).dlJobs = s.dlJobs := rfl
@[simp] theorem State.setPort_ulSeq (s : State) (p : Nat) (x : PortSt) : (s.setPort p x).ulSeq = s.ulSeq := rfl
@[simp] theorem State.setPort_ulBufs (s : State) (p : Nat) (x : PortSt) : (s.setPort p x).ulBufs = s.ulBufs := rfl
@[simp] theorem State.setPort_ulPrev (s : State) (p : Nat) (x : PortSt) : (s.setPort p x).ulPrev = s.ulPrev := rfl
@[simp] theorem State.setPort_arms (s : State) (p : Nat) (x : PortSt) : (s.setPort p x).arms = s.arms := rfl
@[simp] theorem State.setPort_engBusy (s : State) (p : Nat) (x : PortSt) : (s.setPort p x).engBusy = s.engBusy := rfl
@[simp] theorem State.setPort_codecs (s : State) (p : Nat) (x : PortSt) : (s.setPort p x).codecs = s.codecs := rfl
@[simp] theorem State.setPort_hBufs (s : State) (p : Nat) (x : PortSt) : (s.setPort p x).hBufs = s.hBufs := rfl
@[simp] theorem State.setPort_rnnBufs (s : State) (p : Nat) (x : PortSt) : (s.setPort p x).rnnBufs = s.rnnBufs := rfl
@[simp] theorem State.setPort_harq (s : State) (p : Nat) (x : PortSt) : (s.setPort p x).harq = s.harq := rfl
@[simp] theorem State.setPort_harqPool (s : State) (p : Nat) (x : PortSt) : (s.setPort p x).harqPool = s.harqPool := rfl
@[simp] theorem State.setPort_decIters (s : State) (p : Nat) (x : PortSt) : (s.setPort p x).decIters = s.decIters := rfl
@[simp] theorem State.setPort_pra (s : State) (p : Nat) (x : PortSt) : (s.setPort p x).pra = s.pra := rfl
@[simp] theorem State.setPort_praJobs (s : State) (p : Nat) (x : PortSt) : (s.setPort p x).praJobs = s.praJobs := rfl
@[simp] theorem State.setPort_llrDone (s : State) (p : Nat) (x : PortSt) : (s.setPort p x).llrDone = s.llrDone := rfl
@[simp] theorem State.setPort_txMaps (s : State) (p : Nat) (x : PortSt) : (s.setPort p x).txMaps = s.txMaps := rfl
@[simp] theorem State.setPort_dlSlots (s : State) (p : Nat) (x : PortSt) : (s.setPort p x).dlSlots = s.dlSlots := rfl
@[simp] theorem State.setPort_dlMissed (s : State) (p : Nat) (x : PortSt) : (s.setPort p x).dlMissed = s.dlMissed := rfl
@[simp] theorem State.setPort_frameStores (s : State) (p : Nat) (x : PortSt) : (s.setPort p x).frameStores = s.frameStores := rfl
@[simp] theorem State.setPort_txSeq (s : State) (p : Nat) (x : PortSt) : (s.setPort p x).txSeq = s.txSeq := rfl
@[simp] theorem State.setPort_td (s : State) (p : Nat) (x : PortSt) : (s.setPort p x).td = s.td := rfl
@[simp] theorem State.setPort_txOffers (s : State) (p : Nat) (x : PortSt) : (s.setPort p x).txOffers = s.txOffers := rfl
@[simp] theorem State.setPort_ctx (s : State) (p : Nat) (x : PortSt) : (s.setPort p x).ctx = s.ctx := rfl
@[simp] theorem State.setPort_dravutOut (s : State) (p : Nat) (x : PortSt) : (s.setPort p x).dravutOut = s.dravutOut := rfl
@[simp] theorem State.setPort_dravutNext (s : State) (p : Nat) (x : PortSt) : (s.setPort p x).dravutNext = s.dravutNext := rfl
@[simp] theorem State.setPort_dravutExpect (s : State) (p : Nat) (x : PortSt) : (s.setPort p x).dravutExpect = s.dravutExpect := rfl
@[simp] theorem State.setPort_arbs (s : State) (p : Nat) (x : PortSt) : (s.setPort p x).arbs = s.arbs := rfl
@[simp] theorem State.setPort_galEpochs (s : State) (p : Nat) (x : PortSt) : (s.setPort p x).galEpochs = s.galEpochs := rfl
@[simp] theorem State.setPort_gal (s : State) (p : Nat) (x : PortSt) : (s.setPort p x).gal = s.gal := rfl
@[simp] theorem State.setPort_lanes (s : State) (p : Nat) (x : PortSt) : (s.setPort p x).lanes = s.lanes := rfl
@[simp] theorem State.setPort_txQueue (s : State) (p : Nat) (x : PortSt) : (s.setPort p x).txQueue = s.txQueue := rfl
@[simp] theorem State.setPort_erx (s : State) (p : Nat) (x : PortSt) : (s.setPort p x).erx = s.erx := rfl
@[simp] theorem State.setPort_etx (s : State) (p : Nat) (x : PortSt) : (s.setPort p x).etx = s.etx := rfl
@[simp] theorem State.setPort_time (s : State) (p : Nat) (x : PortSt) : (s.setPort p x).time = s.time := rfl
@[simp] theorem State.setPort_staged (s : State) (p : Nat) (x : PortSt) : (s.setPort p x).staged = s.staged := rfl
@[simp] theorem State.setPort_rings (s : State) (p : Nat) (x : PortSt) : (s.setPort p x).rings = s.rings := rfl
@[simp] theorem State.setPort_bme (s : State) (p : Nat) (x : PortSt) : (s.setPort p x).bme = s.bme := rfl
@[simp] theorem State.setPort_msixMasked (s : State) (p : Nat) (x : PortSt) : (s.setPort p x).msixMasked = s.msixMasked := rfl
@[simp] theorem State.setPort_msixPending (s : State) (p : Nat) (x : PortSt) : (s.setPort p x).msixPending = s.msixPending := rfl
@[simp] theorem State.setPort_windows (s : State) (p : Nat) (x : PortSt) : (s.setPort p x).windows = s.windows := rfl
@[simp] theorem State.setPort_naps (s : State) (p : Nat) (x : PortSt) : (s.setPort p x).naps = s.naps := rfl
@[simp] theorem State.setPort_i3c (s : State) (p : Nat) (x : PortSt) : (s.setPort p x).i3c = s.i3c := rfl
@[simp] theorem State.setPort_stageLog (s : State) (p : Nat) (x : PortSt) : (s.setPort p x).stageLog = s.stageLog := rfl
@[simp] theorem State.setPort_jcopies (s : State) (p : Nat) (x : PortSt) : (s.setPort p x).jcopies = s.jcopies := rfl
@[simp] theorem State.setPort_pwr (s : State) (p : Nat) (x : PortSt) : (s.setPort p x).pwr = s.pwr := rfl
@[simp] theorem State.setPort_therm (s : State) (p : Nat) (x : PortSt) : (s.setPort p x).therm = s.therm := rfl
@[simp] theorem State.setPort_sh (s : State) (p : Nat) (x : PortSt) : (s.setPort p x).sh = s.sh := rfl
@[simp] theorem State.setPort_flash (s : State) (p : Nat) (x : PortSt) : (s.setPort p x).flash = s.flash := rfl
@[simp] theorem State.setPort_stairSnap (s : State) (p : Nat) (x : PortSt) : (s.setPort p x).stairSnap = s.stairSnap := rfl
@[simp] theorem State.setPort_stair (s : State) (p : Nat) (x : PortSt) : (s.setPort p x).stair = s.stair := rfl
@[simp] theorem State.setPort_stairDone (s : State) (p : Nat) (x : PortSt) : (s.setPort p x).stairDone = s.stairDone := rfl
@[simp] theorem State.setPort_pair (s : State) (p : Nat) (x : PortSt) : (s.setPort p x).pair = s.pair := rfl
@[simp] theorem State.setPort_munov (s : State) (p : Nat) (x : PortSt) : (s.setPort p x).munov = s.munov := rfl
@[simp] theorem State.setRing_pending (s : State) (r : Nat) (x : RingSt) : (s.setRing r x).pending = s.pending := rfl
@[simp] theorem State.setRing_freeCtr (s : State) (r : Nat) (x : RingSt) : (s.setRing r x).freeCtr = s.freeCtr := rfl
@[simp] theorem State.setRing_objs (s : State) (r : Nat) (x : RingSt) : (s.setRing r x).objs = s.objs := rfl
@[simp] theorem State.setRing_doms (s : State) (r : Nat) (x : RingSt) : (s.setRing r x).doms = s.doms := rfl
@[simp] theorem State.setRing_events (s : State) (r : Nat) (x : RingSt) : (s.setRing r x).events = s.events := rfl
@[simp] theorem State.setRing_outbox (s : State) (r : Nat) (x : RingSt) : (s.setRing r x).outbox = s.outbox := rfl
@[simp] theorem State.setRing_pace (s : State) (r : Nat) (x : RingSt) : (s.setRing r x).pace = s.pace := rfl
@[simp] theorem State.setRing_unacked (s : State) (r : Nat) (x : RingSt) : (s.setRing r x).unacked = s.unacked := rfl
@[simp] theorem State.setRing_units (s : State) (r : Nat) (x : RingSt) : (s.setRing r x).units = s.units := rfl
@[simp] theorem State.setRing_pins (s : State) (r : Nat) (x : RingSt) : (s.setRing r x).pins = s.pins := rfl
@[simp] theorem State.setRing_mem (s : State) (r : Nat) (x : RingSt) : (s.setRing r x).mem = s.mem := rfl
@[simp] theorem State.setRing_journal (s : State) (r : Nat) (x : RingSt) : (s.setRing r x).journal = s.journal := rfl
@[simp] theorem State.setRing_jseqNext (s : State) (r : Nat) (x : RingSt) : (s.setRing r x).jseqNext = s.jseqNext := rfl
@[simp] theorem State.setRing_upsets (s : State) (r : Nat) (x : RingSt) : (s.setRing r x).upsets = s.upsets := rfl
@[simp] theorem State.setRing_eccLog (s : State) (r : Nat) (x : RingSt) : (s.setRing r x).eccLog = s.eccLog := rfl
@[simp] theorem State.setRing_hotQueue (s : State) (r : Nat) (x : RingSt) : (s.setRing r x).hotQueue = s.hotQueue := rfl
@[simp] theorem State.setRing_scrubLated (s : State) (r : Nat) (x : RingSt) : (s.setRing r x).scrubLated = s.scrubLated := rfl
@[simp] theorem State.setRing_scrub (s : State) (r : Nat) (x : RingSt) : (s.setRing r x).scrub = s.scrub := rfl
@[simp] theorem State.setRing_elapsed (s : State) (r : Nat) (x : RingSt) : (s.setRing r x).elapsed = s.elapsed := rfl
@[simp] theorem State.setRing_ddr (s : State) (r : Nat) (x : RingSt) : (s.setRing r x).ddr = s.ddr := rfl
@[simp] theorem State.setRing_sparesUsed (s : State) (r : Nat) (x : RingSt) : (s.setRing r x).sparesUsed = s.sparesUsed := rfl
@[simp] theorem State.setRing_sppr (s : State) (r : Nat) (x : RingSt) : (s.setRing r x).sppr = s.sppr := rfl
@[simp] theorem State.setRing_repairs (s : State) (r : Nat) (x : RingSt) : (s.setRing r x).repairs = s.repairs := rfl
@[simp] theorem State.setRing_coreMem (s : State) (r : Nat) (x : RingSt) : (s.setRing r x).coreMem = s.coreMem := rfl
@[simp] theorem State.setRing_cores (s : State) (r : Nat) (x : RingSt) : (s.setRing r x).cores = s.cores := rfl
@[simp] theorem State.setRing_sched (s : State) (r : Nat) (x : RingSt) : (s.setRing r x).sched = s.sched := rfl
@[simp] theorem State.setRing_carriers (s : State) (r : Nat) (x : RingSt) : (s.setRing r x).carriers = s.carriers := rfl
@[simp] theorem State.setRing_steer (s : State) (r : Nat) (x : RingSt) : (s.setRing r x).steer = s.steer := rfl
@[simp] theorem State.setRing_ulJobs (s : State) (r : Nat) (x : RingSt) : (s.setRing r x).ulJobs = s.ulJobs := rfl
@[simp] theorem State.setRing_dlJobs (s : State) (r : Nat) (x : RingSt) : (s.setRing r x).dlJobs = s.dlJobs := rfl
@[simp] theorem State.setRing_ulSeq (s : State) (r : Nat) (x : RingSt) : (s.setRing r x).ulSeq = s.ulSeq := rfl
@[simp] theorem State.setRing_ulBufs (s : State) (r : Nat) (x : RingSt) : (s.setRing r x).ulBufs = s.ulBufs := rfl
@[simp] theorem State.setRing_ulPrev (s : State) (r : Nat) (x : RingSt) : (s.setRing r x).ulPrev = s.ulPrev := rfl
@[simp] theorem State.setRing_arms (s : State) (r : Nat) (x : RingSt) : (s.setRing r x).arms = s.arms := rfl
@[simp] theorem State.setRing_engBusy (s : State) (r : Nat) (x : RingSt) : (s.setRing r x).engBusy = s.engBusy := rfl
@[simp] theorem State.setRing_codecs (s : State) (r : Nat) (x : RingSt) : (s.setRing r x).codecs = s.codecs := rfl
@[simp] theorem State.setRing_hBufs (s : State) (r : Nat) (x : RingSt) : (s.setRing r x).hBufs = s.hBufs := rfl
@[simp] theorem State.setRing_rnnBufs (s : State) (r : Nat) (x : RingSt) : (s.setRing r x).rnnBufs = s.rnnBufs := rfl
@[simp] theorem State.setRing_harq (s : State) (r : Nat) (x : RingSt) : (s.setRing r x).harq = s.harq := rfl
@[simp] theorem State.setRing_harqPool (s : State) (r : Nat) (x : RingSt) : (s.setRing r x).harqPool = s.harqPool := rfl
@[simp] theorem State.setRing_decIters (s : State) (r : Nat) (x : RingSt) : (s.setRing r x).decIters = s.decIters := rfl
@[simp] theorem State.setRing_pra (s : State) (r : Nat) (x : RingSt) : (s.setRing r x).pra = s.pra := rfl
@[simp] theorem State.setRing_praJobs (s : State) (r : Nat) (x : RingSt) : (s.setRing r x).praJobs = s.praJobs := rfl
@[simp] theorem State.setRing_llrDone (s : State) (r : Nat) (x : RingSt) : (s.setRing r x).llrDone = s.llrDone := rfl
@[simp] theorem State.setRing_txMaps (s : State) (r : Nat) (x : RingSt) : (s.setRing r x).txMaps = s.txMaps := rfl
@[simp] theorem State.setRing_dlSlots (s : State) (r : Nat) (x : RingSt) : (s.setRing r x).dlSlots = s.dlSlots := rfl
@[simp] theorem State.setRing_dlMissed (s : State) (r : Nat) (x : RingSt) : (s.setRing r x).dlMissed = s.dlMissed := rfl
@[simp] theorem State.setRing_frameStores (s : State) (r : Nat) (x : RingSt) : (s.setRing r x).frameStores = s.frameStores := rfl
@[simp] theorem State.setRing_txSeq (s : State) (r : Nat) (x : RingSt) : (s.setRing r x).txSeq = s.txSeq := rfl
@[simp] theorem State.setRing_td (s : State) (r : Nat) (x : RingSt) : (s.setRing r x).td = s.td := rfl
@[simp] theorem State.setRing_txOffers (s : State) (r : Nat) (x : RingSt) : (s.setRing r x).txOffers = s.txOffers := rfl
@[simp] theorem State.setRing_ctx (s : State) (r : Nat) (x : RingSt) : (s.setRing r x).ctx = s.ctx := rfl
@[simp] theorem State.setRing_dravutOut (s : State) (r : Nat) (x : RingSt) : (s.setRing r x).dravutOut = s.dravutOut := rfl
@[simp] theorem State.setRing_dravutNext (s : State) (r : Nat) (x : RingSt) : (s.setRing r x).dravutNext = s.dravutNext := rfl
@[simp] theorem State.setRing_dravutExpect (s : State) (r : Nat) (x : RingSt) : (s.setRing r x).dravutExpect = s.dravutExpect := rfl
@[simp] theorem State.setRing_arbs (s : State) (r : Nat) (x : RingSt) : (s.setRing r x).arbs = s.arbs := rfl
@[simp] theorem State.setRing_galEpochs (s : State) (r : Nat) (x : RingSt) : (s.setRing r x).galEpochs = s.galEpochs := rfl
@[simp] theorem State.setRing_gal (s : State) (r : Nat) (x : RingSt) : (s.setRing r x).gal = s.gal := rfl
@[simp] theorem State.setRing_lanes (s : State) (r : Nat) (x : RingSt) : (s.setRing r x).lanes = s.lanes := rfl
@[simp] theorem State.setRing_ports (s : State) (r : Nat) (x : RingSt) : (s.setRing r x).ports = s.ports := rfl
@[simp] theorem State.setRing_txQueue (s : State) (r : Nat) (x : RingSt) : (s.setRing r x).txQueue = s.txQueue := rfl
@[simp] theorem State.setRing_erx (s : State) (r : Nat) (x : RingSt) : (s.setRing r x).erx = s.erx := rfl
@[simp] theorem State.setRing_etx (s : State) (r : Nat) (x : RingSt) : (s.setRing r x).etx = s.etx := rfl
@[simp] theorem State.setRing_time (s : State) (r : Nat) (x : RingSt) : (s.setRing r x).time = s.time := rfl
@[simp] theorem State.setRing_staged (s : State) (r : Nat) (x : RingSt) : (s.setRing r x).staged = s.staged := rfl
@[simp] theorem State.setRing_bme (s : State) (r : Nat) (x : RingSt) : (s.setRing r x).bme = s.bme := rfl
@[simp] theorem State.setRing_msixMasked (s : State) (r : Nat) (x : RingSt) : (s.setRing r x).msixMasked = s.msixMasked := rfl
@[simp] theorem State.setRing_msixPending (s : State) (r : Nat) (x : RingSt) : (s.setRing r x).msixPending = s.msixPending := rfl
@[simp] theorem State.setRing_windows (s : State) (r : Nat) (x : RingSt) : (s.setRing r x).windows = s.windows := rfl
@[simp] theorem State.setRing_naps (s : State) (r : Nat) (x : RingSt) : (s.setRing r x).naps = s.naps := rfl
@[simp] theorem State.setRing_i3c (s : State) (r : Nat) (x : RingSt) : (s.setRing r x).i3c = s.i3c := rfl
@[simp] theorem State.setRing_stageLog (s : State) (r : Nat) (x : RingSt) : (s.setRing r x).stageLog = s.stageLog := rfl
@[simp] theorem State.setRing_jcopies (s : State) (r : Nat) (x : RingSt) : (s.setRing r x).jcopies = s.jcopies := rfl
@[simp] theorem State.setRing_pwr (s : State) (r : Nat) (x : RingSt) : (s.setRing r x).pwr = s.pwr := rfl
@[simp] theorem State.setRing_therm (s : State) (r : Nat) (x : RingSt) : (s.setRing r x).therm = s.therm := rfl
@[simp] theorem State.setRing_sh (s : State) (r : Nat) (x : RingSt) : (s.setRing r x).sh = s.sh := rfl
@[simp] theorem State.setRing_flash (s : State) (r : Nat) (x : RingSt) : (s.setRing r x).flash = s.flash := rfl
@[simp] theorem State.setRing_stairSnap (s : State) (r : Nat) (x : RingSt) : (s.setRing r x).stairSnap = s.stairSnap := rfl
@[simp] theorem State.setRing_stair (s : State) (r : Nat) (x : RingSt) : (s.setRing r x).stair = s.stair := rfl
@[simp] theorem State.setRing_stairDone (s : State) (r : Nat) (x : RingSt) : (s.setRing r x).stairDone = s.stairDone := rfl
@[simp] theorem State.setRing_pair (s : State) (r : Nat) (x : RingSt) : (s.setRing r x).pair = s.pair := rfl
@[simp] theorem State.setRing_munov (s : State) (r : Nat) (x : RingSt) : (s.setRing r x).munov = s.munov := rfl
@[simp] theorem State.setLane_pending (s : State) (l : Nat) (x : LaneSt) : (s.setLane l x).pending = s.pending := rfl
@[simp] theorem State.setLane_freeCtr (s : State) (l : Nat) (x : LaneSt) : (s.setLane l x).freeCtr = s.freeCtr := rfl
@[simp] theorem State.setLane_objs (s : State) (l : Nat) (x : LaneSt) : (s.setLane l x).objs = s.objs := rfl
@[simp] theorem State.setLane_doms (s : State) (l : Nat) (x : LaneSt) : (s.setLane l x).doms = s.doms := rfl
@[simp] theorem State.setLane_events (s : State) (l : Nat) (x : LaneSt) : (s.setLane l x).events = s.events := rfl
@[simp] theorem State.setLane_outbox (s : State) (l : Nat) (x : LaneSt) : (s.setLane l x).outbox = s.outbox := rfl
@[simp] theorem State.setLane_pace (s : State) (l : Nat) (x : LaneSt) : (s.setLane l x).pace = s.pace := rfl
@[simp] theorem State.setLane_unacked (s : State) (l : Nat) (x : LaneSt) : (s.setLane l x).unacked = s.unacked := rfl
@[simp] theorem State.setLane_units (s : State) (l : Nat) (x : LaneSt) : (s.setLane l x).units = s.units := rfl
@[simp] theorem State.setLane_pins (s : State) (l : Nat) (x : LaneSt) : (s.setLane l x).pins = s.pins := rfl
@[simp] theorem State.setLane_mem (s : State) (l : Nat) (x : LaneSt) : (s.setLane l x).mem = s.mem := rfl
@[simp] theorem State.setLane_journal (s : State) (l : Nat) (x : LaneSt) : (s.setLane l x).journal = s.journal := rfl
@[simp] theorem State.setLane_jseqNext (s : State) (l : Nat) (x : LaneSt) : (s.setLane l x).jseqNext = s.jseqNext := rfl
@[simp] theorem State.setLane_upsets (s : State) (l : Nat) (x : LaneSt) : (s.setLane l x).upsets = s.upsets := rfl
@[simp] theorem State.setLane_eccLog (s : State) (l : Nat) (x : LaneSt) : (s.setLane l x).eccLog = s.eccLog := rfl
@[simp] theorem State.setLane_hotQueue (s : State) (l : Nat) (x : LaneSt) : (s.setLane l x).hotQueue = s.hotQueue := rfl
@[simp] theorem State.setLane_scrubLated (s : State) (l : Nat) (x : LaneSt) : (s.setLane l x).scrubLated = s.scrubLated := rfl
@[simp] theorem State.setLane_scrub (s : State) (l : Nat) (x : LaneSt) : (s.setLane l x).scrub = s.scrub := rfl
@[simp] theorem State.setLane_elapsed (s : State) (l : Nat) (x : LaneSt) : (s.setLane l x).elapsed = s.elapsed := rfl
@[simp] theorem State.setLane_ddr (s : State) (l : Nat) (x : LaneSt) : (s.setLane l x).ddr = s.ddr := rfl
@[simp] theorem State.setLane_sparesUsed (s : State) (l : Nat) (x : LaneSt) : (s.setLane l x).sparesUsed = s.sparesUsed := rfl
@[simp] theorem State.setLane_sppr (s : State) (l : Nat) (x : LaneSt) : (s.setLane l x).sppr = s.sppr := rfl
@[simp] theorem State.setLane_repairs (s : State) (l : Nat) (x : LaneSt) : (s.setLane l x).repairs = s.repairs := rfl
@[simp] theorem State.setLane_coreMem (s : State) (l : Nat) (x : LaneSt) : (s.setLane l x).coreMem = s.coreMem := rfl
@[simp] theorem State.setLane_cores (s : State) (l : Nat) (x : LaneSt) : (s.setLane l x).cores = s.cores := rfl
@[simp] theorem State.setLane_sched (s : State) (l : Nat) (x : LaneSt) : (s.setLane l x).sched = s.sched := rfl
@[simp] theorem State.setLane_carriers (s : State) (l : Nat) (x : LaneSt) : (s.setLane l x).carriers = s.carriers := rfl
@[simp] theorem State.setLane_steer (s : State) (l : Nat) (x : LaneSt) : (s.setLane l x).steer = s.steer := rfl
@[simp] theorem State.setLane_ulJobs (s : State) (l : Nat) (x : LaneSt) : (s.setLane l x).ulJobs = s.ulJobs := rfl
@[simp] theorem State.setLane_dlJobs (s : State) (l : Nat) (x : LaneSt) : (s.setLane l x).dlJobs = s.dlJobs := rfl
@[simp] theorem State.setLane_ulSeq (s : State) (l : Nat) (x : LaneSt) : (s.setLane l x).ulSeq = s.ulSeq := rfl
@[simp] theorem State.setLane_ulBufs (s : State) (l : Nat) (x : LaneSt) : (s.setLane l x).ulBufs = s.ulBufs := rfl
@[simp] theorem State.setLane_ulPrev (s : State) (l : Nat) (x : LaneSt) : (s.setLane l x).ulPrev = s.ulPrev := rfl
@[simp] theorem State.setLane_arms (s : State) (l : Nat) (x : LaneSt) : (s.setLane l x).arms = s.arms := rfl
@[simp] theorem State.setLane_engBusy (s : State) (l : Nat) (x : LaneSt) : (s.setLane l x).engBusy = s.engBusy := rfl
@[simp] theorem State.setLane_codecs (s : State) (l : Nat) (x : LaneSt) : (s.setLane l x).codecs = s.codecs := rfl
@[simp] theorem State.setLane_hBufs (s : State) (l : Nat) (x : LaneSt) : (s.setLane l x).hBufs = s.hBufs := rfl
@[simp] theorem State.setLane_rnnBufs (s : State) (l : Nat) (x : LaneSt) : (s.setLane l x).rnnBufs = s.rnnBufs := rfl
@[simp] theorem State.setLane_harq (s : State) (l : Nat) (x : LaneSt) : (s.setLane l x).harq = s.harq := rfl
@[simp] theorem State.setLane_harqPool (s : State) (l : Nat) (x : LaneSt) : (s.setLane l x).harqPool = s.harqPool := rfl
@[simp] theorem State.setLane_decIters (s : State) (l : Nat) (x : LaneSt) : (s.setLane l x).decIters = s.decIters := rfl
@[simp] theorem State.setLane_pra (s : State) (l : Nat) (x : LaneSt) : (s.setLane l x).pra = s.pra := rfl
@[simp] theorem State.setLane_praJobs (s : State) (l : Nat) (x : LaneSt) : (s.setLane l x).praJobs = s.praJobs := rfl
@[simp] theorem State.setLane_llrDone (s : State) (l : Nat) (x : LaneSt) : (s.setLane l x).llrDone = s.llrDone := rfl
@[simp] theorem State.setLane_txMaps (s : State) (l : Nat) (x : LaneSt) : (s.setLane l x).txMaps = s.txMaps := rfl
@[simp] theorem State.setLane_dlSlots (s : State) (l : Nat) (x : LaneSt) : (s.setLane l x).dlSlots = s.dlSlots := rfl
@[simp] theorem State.setLane_dlMissed (s : State) (l : Nat) (x : LaneSt) : (s.setLane l x).dlMissed = s.dlMissed := rfl
@[simp] theorem State.setLane_frameStores (s : State) (l : Nat) (x : LaneSt) : (s.setLane l x).frameStores = s.frameStores := rfl
@[simp] theorem State.setLane_txSeq (s : State) (l : Nat) (x : LaneSt) : (s.setLane l x).txSeq = s.txSeq := rfl
@[simp] theorem State.setLane_td (s : State) (l : Nat) (x : LaneSt) : (s.setLane l x).td = s.td := rfl
@[simp] theorem State.setLane_txOffers (s : State) (l : Nat) (x : LaneSt) : (s.setLane l x).txOffers = s.txOffers := rfl
@[simp] theorem State.setLane_ctx (s : State) (l : Nat) (x : LaneSt) : (s.setLane l x).ctx = s.ctx := rfl
@[simp] theorem State.setLane_dravutOut (s : State) (l : Nat) (x : LaneSt) : (s.setLane l x).dravutOut = s.dravutOut := rfl
@[simp] theorem State.setLane_dravutNext (s : State) (l : Nat) (x : LaneSt) : (s.setLane l x).dravutNext = s.dravutNext := rfl
@[simp] theorem State.setLane_dravutExpect (s : State) (l : Nat) (x : LaneSt) : (s.setLane l x).dravutExpect = s.dravutExpect := rfl
@[simp] theorem State.setLane_arbs (s : State) (l : Nat) (x : LaneSt) : (s.setLane l x).arbs = s.arbs := rfl
@[simp] theorem State.setLane_galEpochs (s : State) (l : Nat) (x : LaneSt) : (s.setLane l x).galEpochs = s.galEpochs := rfl
@[simp] theorem State.setLane_gal (s : State) (l : Nat) (x : LaneSt) : (s.setLane l x).gal = s.gal := rfl
@[simp] theorem State.setLane_ports (s : State) (l : Nat) (x : LaneSt) : (s.setLane l x).ports = s.ports := rfl
@[simp] theorem State.setLane_txQueue (s : State) (l : Nat) (x : LaneSt) : (s.setLane l x).txQueue = s.txQueue := rfl
@[simp] theorem State.setLane_erx (s : State) (l : Nat) (x : LaneSt) : (s.setLane l x).erx = s.erx := rfl
@[simp] theorem State.setLane_etx (s : State) (l : Nat) (x : LaneSt) : (s.setLane l x).etx = s.etx := rfl
@[simp] theorem State.setLane_time (s : State) (l : Nat) (x : LaneSt) : (s.setLane l x).time = s.time := rfl
@[simp] theorem State.setLane_staged (s : State) (l : Nat) (x : LaneSt) : (s.setLane l x).staged = s.staged := rfl
@[simp] theorem State.setLane_rings (s : State) (l : Nat) (x : LaneSt) : (s.setLane l x).rings = s.rings := rfl
@[simp] theorem State.setLane_bme (s : State) (l : Nat) (x : LaneSt) : (s.setLane l x).bme = s.bme := rfl
@[simp] theorem State.setLane_msixMasked (s : State) (l : Nat) (x : LaneSt) : (s.setLane l x).msixMasked = s.msixMasked := rfl
@[simp] theorem State.setLane_msixPending (s : State) (l : Nat) (x : LaneSt) : (s.setLane l x).msixPending = s.msixPending := rfl
@[simp] theorem State.setLane_windows (s : State) (l : Nat) (x : LaneSt) : (s.setLane l x).windows = s.windows := rfl
@[simp] theorem State.setLane_naps (s : State) (l : Nat) (x : LaneSt) : (s.setLane l x).naps = s.naps := rfl
@[simp] theorem State.setLane_i3c (s : State) (l : Nat) (x : LaneSt) : (s.setLane l x).i3c = s.i3c := rfl
@[simp] theorem State.setLane_stageLog (s : State) (l : Nat) (x : LaneSt) : (s.setLane l x).stageLog = s.stageLog := rfl
@[simp] theorem State.setLane_jcopies (s : State) (l : Nat) (x : LaneSt) : (s.setLane l x).jcopies = s.jcopies := rfl
@[simp] theorem State.setLane_pwr (s : State) (l : Nat) (x : LaneSt) : (s.setLane l x).pwr = s.pwr := rfl
@[simp] theorem State.setLane_therm (s : State) (l : Nat) (x : LaneSt) : (s.setLane l x).therm = s.therm := rfl
@[simp] theorem State.setLane_sh (s : State) (l : Nat) (x : LaneSt) : (s.setLane l x).sh = s.sh := rfl
@[simp] theorem State.setLane_flash (s : State) (l : Nat) (x : LaneSt) : (s.setLane l x).flash = s.flash := rfl
@[simp] theorem State.setLane_stairSnap (s : State) (l : Nat) (x : LaneSt) : (s.setLane l x).stairSnap = s.stairSnap := rfl
@[simp] theorem State.setLane_stair (s : State) (l : Nat) (x : LaneSt) : (s.setLane l x).stair = s.stair := rfl
@[simp] theorem State.setLane_stairDone (s : State) (l : Nat) (x : LaneSt) : (s.setLane l x).stairDone = s.stairDone := rfl
@[simp] theorem State.setLane_pair (s : State) (l : Nat) (x : LaneSt) : (s.setLane l x).pair = s.pair := rfl
@[simp] theorem State.setLane_munov (s : State) (l : Nat) (x : LaneSt) : (s.setLane l x).munov = s.munov := rfl
@[simp] theorem State.setPacer_pending (s : State) (u : Nat) (p : PaceSt) : (s.setPacer u p).pending = s.pending := rfl
@[simp] theorem State.setPacer_freeCtr (s : State) (u : Nat) (p : PaceSt) : (s.setPacer u p).freeCtr = s.freeCtr := rfl
@[simp] theorem State.setPacer_objs (s : State) (u : Nat) (p : PaceSt) : (s.setPacer u p).objs = s.objs := rfl
@[simp] theorem State.setPacer_doms (s : State) (u : Nat) (p : PaceSt) : (s.setPacer u p).doms = s.doms := rfl
@[simp] theorem State.setPacer_events (s : State) (u : Nat) (p : PaceSt) : (s.setPacer u p).events = s.events := rfl
@[simp] theorem State.setPacer_outbox (s : State) (u : Nat) (p : PaceSt) : (s.setPacer u p).outbox = s.outbox := rfl
@[simp] theorem State.setPacer_unacked (s : State) (u : Nat) (p : PaceSt) : (s.setPacer u p).unacked = s.unacked := rfl
@[simp] theorem State.setPacer_units (s : State) (u : Nat) (p : PaceSt) : (s.setPacer u p).units = s.units := rfl
@[simp] theorem State.setPacer_pins (s : State) (u : Nat) (p : PaceSt) : (s.setPacer u p).pins = s.pins := rfl
@[simp] theorem State.setPacer_mem (s : State) (u : Nat) (p : PaceSt) : (s.setPacer u p).mem = s.mem := rfl
@[simp] theorem State.setPacer_journal (s : State) (u : Nat) (p : PaceSt) : (s.setPacer u p).journal = s.journal := rfl
@[simp] theorem State.setPacer_jseqNext (s : State) (u : Nat) (p : PaceSt) : (s.setPacer u p).jseqNext = s.jseqNext := rfl
@[simp] theorem State.setPacer_upsets (s : State) (u : Nat) (p : PaceSt) : (s.setPacer u p).upsets = s.upsets := rfl
@[simp] theorem State.setPacer_eccLog (s : State) (u : Nat) (p : PaceSt) : (s.setPacer u p).eccLog = s.eccLog := rfl
@[simp] theorem State.setPacer_hotQueue (s : State) (u : Nat) (p : PaceSt) : (s.setPacer u p).hotQueue = s.hotQueue := rfl
@[simp] theorem State.setPacer_scrubLated (s : State) (u : Nat) (p : PaceSt) : (s.setPacer u p).scrubLated = s.scrubLated := rfl
@[simp] theorem State.setPacer_scrub (s : State) (u : Nat) (p : PaceSt) : (s.setPacer u p).scrub = s.scrub := rfl
@[simp] theorem State.setPacer_elapsed (s : State) (u : Nat) (p : PaceSt) : (s.setPacer u p).elapsed = s.elapsed := rfl
@[simp] theorem State.setPacer_ddr (s : State) (u : Nat) (p : PaceSt) : (s.setPacer u p).ddr = s.ddr := rfl
@[simp] theorem State.setPacer_sparesUsed (s : State) (u : Nat) (p : PaceSt) : (s.setPacer u p).sparesUsed = s.sparesUsed := rfl
@[simp] theorem State.setPacer_sppr (s : State) (u : Nat) (p : PaceSt) : (s.setPacer u p).sppr = s.sppr := rfl
@[simp] theorem State.setPacer_repairs (s : State) (u : Nat) (p : PaceSt) : (s.setPacer u p).repairs = s.repairs := rfl
@[simp] theorem State.setPacer_coreMem (s : State) (u : Nat) (p : PaceSt) : (s.setPacer u p).coreMem = s.coreMem := rfl
@[simp] theorem State.setPacer_cores (s : State) (u : Nat) (p : PaceSt) : (s.setPacer u p).cores = s.cores := rfl
@[simp] theorem State.setPacer_sched (s : State) (u : Nat) (p : PaceSt) : (s.setPacer u p).sched = s.sched := rfl
@[simp] theorem State.setPacer_carriers (s : State) (u : Nat) (p : PaceSt) : (s.setPacer u p).carriers = s.carriers := rfl
@[simp] theorem State.setPacer_steer (s : State) (u : Nat) (p : PaceSt) : (s.setPacer u p).steer = s.steer := rfl
@[simp] theorem State.setPacer_ulJobs (s : State) (u : Nat) (p : PaceSt) : (s.setPacer u p).ulJobs = s.ulJobs := rfl
@[simp] theorem State.setPacer_dlJobs (s : State) (u : Nat) (p : PaceSt) : (s.setPacer u p).dlJobs = s.dlJobs := rfl
@[simp] theorem State.setPacer_ulSeq (s : State) (u : Nat) (p : PaceSt) : (s.setPacer u p).ulSeq = s.ulSeq := rfl
@[simp] theorem State.setPacer_ulBufs (s : State) (u : Nat) (p : PaceSt) : (s.setPacer u p).ulBufs = s.ulBufs := rfl
@[simp] theorem State.setPacer_ulPrev (s : State) (u : Nat) (p : PaceSt) : (s.setPacer u p).ulPrev = s.ulPrev := rfl
@[simp] theorem State.setPacer_arms (s : State) (u : Nat) (p : PaceSt) : (s.setPacer u p).arms = s.arms := rfl
@[simp] theorem State.setPacer_engBusy (s : State) (u : Nat) (p : PaceSt) : (s.setPacer u p).engBusy = s.engBusy := rfl
@[simp] theorem State.setPacer_codecs (s : State) (u : Nat) (p : PaceSt) : (s.setPacer u p).codecs = s.codecs := rfl
@[simp] theorem State.setPacer_hBufs (s : State) (u : Nat) (p : PaceSt) : (s.setPacer u p).hBufs = s.hBufs := rfl
@[simp] theorem State.setPacer_rnnBufs (s : State) (u : Nat) (p : PaceSt) : (s.setPacer u p).rnnBufs = s.rnnBufs := rfl
@[simp] theorem State.setPacer_harq (s : State) (u : Nat) (p : PaceSt) : (s.setPacer u p).harq = s.harq := rfl
@[simp] theorem State.setPacer_harqPool (s : State) (u : Nat) (p : PaceSt) : (s.setPacer u p).harqPool = s.harqPool := rfl
@[simp] theorem State.setPacer_decIters (s : State) (u : Nat) (p : PaceSt) : (s.setPacer u p).decIters = s.decIters := rfl
@[simp] theorem State.setPacer_pra (s : State) (u : Nat) (p : PaceSt) : (s.setPacer u p).pra = s.pra := rfl
@[simp] theorem State.setPacer_praJobs (s : State) (u : Nat) (p : PaceSt) : (s.setPacer u p).praJobs = s.praJobs := rfl
@[simp] theorem State.setPacer_llrDone (s : State) (u : Nat) (p : PaceSt) : (s.setPacer u p).llrDone = s.llrDone := rfl
@[simp] theorem State.setPacer_txMaps (s : State) (u : Nat) (p : PaceSt) : (s.setPacer u p).txMaps = s.txMaps := rfl
@[simp] theorem State.setPacer_dlSlots (s : State) (u : Nat) (p : PaceSt) : (s.setPacer u p).dlSlots = s.dlSlots := rfl
@[simp] theorem State.setPacer_dlMissed (s : State) (u : Nat) (p : PaceSt) : (s.setPacer u p).dlMissed = s.dlMissed := rfl
@[simp] theorem State.setPacer_frameStores (s : State) (u : Nat) (p : PaceSt) : (s.setPacer u p).frameStores = s.frameStores := rfl
@[simp] theorem State.setPacer_txSeq (s : State) (u : Nat) (p : PaceSt) : (s.setPacer u p).txSeq = s.txSeq := rfl
@[simp] theorem State.setPacer_td (s : State) (u : Nat) (p : PaceSt) : (s.setPacer u p).td = s.td := rfl
@[simp] theorem State.setPacer_txOffers (s : State) (u : Nat) (p : PaceSt) : (s.setPacer u p).txOffers = s.txOffers := rfl
@[simp] theorem State.setPacer_ctx (s : State) (u : Nat) (p : PaceSt) : (s.setPacer u p).ctx = s.ctx := rfl
@[simp] theorem State.setPacer_dravutOut (s : State) (u : Nat) (p : PaceSt) : (s.setPacer u p).dravutOut = s.dravutOut := rfl
@[simp] theorem State.setPacer_dravutNext (s : State) (u : Nat) (p : PaceSt) : (s.setPacer u p).dravutNext = s.dravutNext := rfl
@[simp] theorem State.setPacer_dravutExpect (s : State) (u : Nat) (p : PaceSt) : (s.setPacer u p).dravutExpect = s.dravutExpect := rfl
@[simp] theorem State.setPacer_arbs (s : State) (u : Nat) (p : PaceSt) : (s.setPacer u p).arbs = s.arbs := rfl
@[simp] theorem State.setPacer_galEpochs (s : State) (u : Nat) (p : PaceSt) : (s.setPacer u p).galEpochs = s.galEpochs := rfl
@[simp] theorem State.setPacer_gal (s : State) (u : Nat) (p : PaceSt) : (s.setPacer u p).gal = s.gal := rfl
@[simp] theorem State.setPacer_lanes (s : State) (u : Nat) (p : PaceSt) : (s.setPacer u p).lanes = s.lanes := rfl
@[simp] theorem State.setPacer_ports (s : State) (u : Nat) (p : PaceSt) : (s.setPacer u p).ports = s.ports := rfl
@[simp] theorem State.setPacer_txQueue (s : State) (u : Nat) (p : PaceSt) : (s.setPacer u p).txQueue = s.txQueue := rfl
@[simp] theorem State.setPacer_erx (s : State) (u : Nat) (p : PaceSt) : (s.setPacer u p).erx = s.erx := rfl
@[simp] theorem State.setPacer_etx (s : State) (u : Nat) (p : PaceSt) : (s.setPacer u p).etx = s.etx := rfl
@[simp] theorem State.setPacer_time (s : State) (u : Nat) (p : PaceSt) : (s.setPacer u p).time = s.time := rfl
@[simp] theorem State.setPacer_staged (s : State) (u : Nat) (p : PaceSt) : (s.setPacer u p).staged = s.staged := rfl
@[simp] theorem State.setPacer_rings (s : State) (u : Nat) (p : PaceSt) : (s.setPacer u p).rings = s.rings := rfl
@[simp] theorem State.setPacer_bme (s : State) (u : Nat) (p : PaceSt) : (s.setPacer u p).bme = s.bme := rfl
@[simp] theorem State.setPacer_msixMasked (s : State) (u : Nat) (p : PaceSt) : (s.setPacer u p).msixMasked = s.msixMasked := rfl
@[simp] theorem State.setPacer_msixPending (s : State) (u : Nat) (p : PaceSt) : (s.setPacer u p).msixPending = s.msixPending := rfl
@[simp] theorem State.setPacer_windows (s : State) (u : Nat) (p : PaceSt) : (s.setPacer u p).windows = s.windows := rfl
@[simp] theorem State.setPacer_naps (s : State) (u : Nat) (p : PaceSt) : (s.setPacer u p).naps = s.naps := rfl
@[simp] theorem State.setPacer_i3c (s : State) (u : Nat) (p : PaceSt) : (s.setPacer u p).i3c = s.i3c := rfl
@[simp] theorem State.setPacer_stageLog (s : State) (u : Nat) (p : PaceSt) : (s.setPacer u p).stageLog = s.stageLog := rfl
@[simp] theorem State.setPacer_jcopies (s : State) (u : Nat) (p : PaceSt) : (s.setPacer u p).jcopies = s.jcopies := rfl
@[simp] theorem State.setPacer_pwr (s : State) (u : Nat) (p : PaceSt) : (s.setPacer u p).pwr = s.pwr := rfl
@[simp] theorem State.setPacer_therm (s : State) (u : Nat) (p : PaceSt) : (s.setPacer u p).therm = s.therm := rfl
@[simp] theorem State.setPacer_sh (s : State) (u : Nat) (p : PaceSt) : (s.setPacer u p).sh = s.sh := rfl
@[simp] theorem State.setPacer_flash (s : State) (u : Nat) (p : PaceSt) : (s.setPacer u p).flash = s.flash := rfl
@[simp] theorem State.setPacer_stairSnap (s : State) (u : Nat) (p : PaceSt) : (s.setPacer u p).stairSnap = s.stairSnap := rfl
@[simp] theorem State.setPacer_stair (s : State) (u : Nat) (p : PaceSt) : (s.setPacer u p).stair = s.stair := rfl
@[simp] theorem State.setPacer_stairDone (s : State) (u : Nat) (p : PaceSt) : (s.setPacer u p).stairDone = s.stairDone := rfl
@[simp] theorem State.setPacer_pair (s : State) (u : Nat) (p : PaceSt) : (s.setPacer u p).pair = s.pair := rfl
@[simp] theorem State.setPacer_munov (s : State) (u : Nat) (p : PaceSt) : (s.setPacer u p).munov = s.munov := rfl
@[simp] theorem State.setNap_pending (s : State) (k : Nat) (x : NapSt) : (s.setNap k x).pending = s.pending := rfl
@[simp] theorem State.setNap_freeCtr (s : State) (k : Nat) (x : NapSt) : (s.setNap k x).freeCtr = s.freeCtr := rfl
@[simp] theorem State.setNap_objs (s : State) (k : Nat) (x : NapSt) : (s.setNap k x).objs = s.objs := rfl
@[simp] theorem State.setNap_doms (s : State) (k : Nat) (x : NapSt) : (s.setNap k x).doms = s.doms := rfl
@[simp] theorem State.setNap_events (s : State) (k : Nat) (x : NapSt) : (s.setNap k x).events = s.events := rfl
@[simp] theorem State.setNap_outbox (s : State) (k : Nat) (x : NapSt) : (s.setNap k x).outbox = s.outbox := rfl
@[simp] theorem State.setNap_pace (s : State) (k : Nat) (x : NapSt) : (s.setNap k x).pace = s.pace := rfl
@[simp] theorem State.setNap_unacked (s : State) (k : Nat) (x : NapSt) : (s.setNap k x).unacked = s.unacked := rfl
@[simp] theorem State.setNap_units (s : State) (k : Nat) (x : NapSt) : (s.setNap k x).units = s.units := rfl
@[simp] theorem State.setNap_pins (s : State) (k : Nat) (x : NapSt) : (s.setNap k x).pins = s.pins := rfl
@[simp] theorem State.setNap_mem (s : State) (k : Nat) (x : NapSt) : (s.setNap k x).mem = s.mem := rfl
@[simp] theorem State.setNap_journal (s : State) (k : Nat) (x : NapSt) : (s.setNap k x).journal = s.journal := rfl
@[simp] theorem State.setNap_jseqNext (s : State) (k : Nat) (x : NapSt) : (s.setNap k x).jseqNext = s.jseqNext := rfl
@[simp] theorem State.setNap_upsets (s : State) (k : Nat) (x : NapSt) : (s.setNap k x).upsets = s.upsets := rfl
@[simp] theorem State.setNap_eccLog (s : State) (k : Nat) (x : NapSt) : (s.setNap k x).eccLog = s.eccLog := rfl
@[simp] theorem State.setNap_hotQueue (s : State) (k : Nat) (x : NapSt) : (s.setNap k x).hotQueue = s.hotQueue := rfl
@[simp] theorem State.setNap_scrubLated (s : State) (k : Nat) (x : NapSt) : (s.setNap k x).scrubLated = s.scrubLated := rfl
@[simp] theorem State.setNap_scrub (s : State) (k : Nat) (x : NapSt) : (s.setNap k x).scrub = s.scrub := rfl
@[simp] theorem State.setNap_elapsed (s : State) (k : Nat) (x : NapSt) : (s.setNap k x).elapsed = s.elapsed := rfl
@[simp] theorem State.setNap_ddr (s : State) (k : Nat) (x : NapSt) : (s.setNap k x).ddr = s.ddr := rfl
@[simp] theorem State.setNap_sparesUsed (s : State) (k : Nat) (x : NapSt) : (s.setNap k x).sparesUsed = s.sparesUsed := rfl
@[simp] theorem State.setNap_sppr (s : State) (k : Nat) (x : NapSt) : (s.setNap k x).sppr = s.sppr := rfl
@[simp] theorem State.setNap_repairs (s : State) (k : Nat) (x : NapSt) : (s.setNap k x).repairs = s.repairs := rfl
@[simp] theorem State.setNap_coreMem (s : State) (k : Nat) (x : NapSt) : (s.setNap k x).coreMem = s.coreMem := rfl
@[simp] theorem State.setNap_cores (s : State) (k : Nat) (x : NapSt) : (s.setNap k x).cores = s.cores := rfl
@[simp] theorem State.setNap_sched (s : State) (k : Nat) (x : NapSt) : (s.setNap k x).sched = s.sched := rfl
@[simp] theorem State.setNap_carriers (s : State) (k : Nat) (x : NapSt) : (s.setNap k x).carriers = s.carriers := rfl
@[simp] theorem State.setNap_steer (s : State) (k : Nat) (x : NapSt) : (s.setNap k x).steer = s.steer := rfl
@[simp] theorem State.setNap_ulJobs (s : State) (k : Nat) (x : NapSt) : (s.setNap k x).ulJobs = s.ulJobs := rfl
@[simp] theorem State.setNap_dlJobs (s : State) (k : Nat) (x : NapSt) : (s.setNap k x).dlJobs = s.dlJobs := rfl
@[simp] theorem State.setNap_ulSeq (s : State) (k : Nat) (x : NapSt) : (s.setNap k x).ulSeq = s.ulSeq := rfl
@[simp] theorem State.setNap_ulBufs (s : State) (k : Nat) (x : NapSt) : (s.setNap k x).ulBufs = s.ulBufs := rfl
@[simp] theorem State.setNap_ulPrev (s : State) (k : Nat) (x : NapSt) : (s.setNap k x).ulPrev = s.ulPrev := rfl
@[simp] theorem State.setNap_arms (s : State) (k : Nat) (x : NapSt) : (s.setNap k x).arms = s.arms := rfl
@[simp] theorem State.setNap_engBusy (s : State) (k : Nat) (x : NapSt) : (s.setNap k x).engBusy = s.engBusy := rfl
@[simp] theorem State.setNap_codecs (s : State) (k : Nat) (x : NapSt) : (s.setNap k x).codecs = s.codecs := rfl
@[simp] theorem State.setNap_hBufs (s : State) (k : Nat) (x : NapSt) : (s.setNap k x).hBufs = s.hBufs := rfl
@[simp] theorem State.setNap_rnnBufs (s : State) (k : Nat) (x : NapSt) : (s.setNap k x).rnnBufs = s.rnnBufs := rfl
@[simp] theorem State.setNap_harq (s : State) (k : Nat) (x : NapSt) : (s.setNap k x).harq = s.harq := rfl
@[simp] theorem State.setNap_harqPool (s : State) (k : Nat) (x : NapSt) : (s.setNap k x).harqPool = s.harqPool := rfl
@[simp] theorem State.setNap_decIters (s : State) (k : Nat) (x : NapSt) : (s.setNap k x).decIters = s.decIters := rfl
@[simp] theorem State.setNap_pra (s : State) (k : Nat) (x : NapSt) : (s.setNap k x).pra = s.pra := rfl
@[simp] theorem State.setNap_praJobs (s : State) (k : Nat) (x : NapSt) : (s.setNap k x).praJobs = s.praJobs := rfl
@[simp] theorem State.setNap_llrDone (s : State) (k : Nat) (x : NapSt) : (s.setNap k x).llrDone = s.llrDone := rfl
@[simp] theorem State.setNap_txMaps (s : State) (k : Nat) (x : NapSt) : (s.setNap k x).txMaps = s.txMaps := rfl
@[simp] theorem State.setNap_dlSlots (s : State) (k : Nat) (x : NapSt) : (s.setNap k x).dlSlots = s.dlSlots := rfl
@[simp] theorem State.setNap_dlMissed (s : State) (k : Nat) (x : NapSt) : (s.setNap k x).dlMissed = s.dlMissed := rfl
@[simp] theorem State.setNap_frameStores (s : State) (k : Nat) (x : NapSt) : (s.setNap k x).frameStores = s.frameStores := rfl
@[simp] theorem State.setNap_txSeq (s : State) (k : Nat) (x : NapSt) : (s.setNap k x).txSeq = s.txSeq := rfl
@[simp] theorem State.setNap_td (s : State) (k : Nat) (x : NapSt) : (s.setNap k x).td = s.td := rfl
@[simp] theorem State.setNap_txOffers (s : State) (k : Nat) (x : NapSt) : (s.setNap k x).txOffers = s.txOffers := rfl
@[simp] theorem State.setNap_ctx (s : State) (k : Nat) (x : NapSt) : (s.setNap k x).ctx = s.ctx := rfl
@[simp] theorem State.setNap_dravutOut (s : State) (k : Nat) (x : NapSt) : (s.setNap k x).dravutOut = s.dravutOut := rfl
@[simp] theorem State.setNap_dravutNext (s : State) (k : Nat) (x : NapSt) : (s.setNap k x).dravutNext = s.dravutNext := rfl
@[simp] theorem State.setNap_dravutExpect (s : State) (k : Nat) (x : NapSt) : (s.setNap k x).dravutExpect = s.dravutExpect := rfl
@[simp] theorem State.setNap_arbs (s : State) (k : Nat) (x : NapSt) : (s.setNap k x).arbs = s.arbs := rfl
@[simp] theorem State.setNap_galEpochs (s : State) (k : Nat) (x : NapSt) : (s.setNap k x).galEpochs = s.galEpochs := rfl
@[simp] theorem State.setNap_gal (s : State) (k : Nat) (x : NapSt) : (s.setNap k x).gal = s.gal := rfl
@[simp] theorem State.setNap_lanes (s : State) (k : Nat) (x : NapSt) : (s.setNap k x).lanes = s.lanes := rfl
@[simp] theorem State.setNap_ports (s : State) (k : Nat) (x : NapSt) : (s.setNap k x).ports = s.ports := rfl
@[simp] theorem State.setNap_txQueue (s : State) (k : Nat) (x : NapSt) : (s.setNap k x).txQueue = s.txQueue := rfl
@[simp] theorem State.setNap_erx (s : State) (k : Nat) (x : NapSt) : (s.setNap k x).erx = s.erx := rfl
@[simp] theorem State.setNap_etx (s : State) (k : Nat) (x : NapSt) : (s.setNap k x).etx = s.etx := rfl
@[simp] theorem State.setNap_time (s : State) (k : Nat) (x : NapSt) : (s.setNap k x).time = s.time := rfl
@[simp] theorem State.setNap_staged (s : State) (k : Nat) (x : NapSt) : (s.setNap k x).staged = s.staged := rfl
@[simp] theorem State.setNap_rings (s : State) (k : Nat) (x : NapSt) : (s.setNap k x).rings = s.rings := rfl
@[simp] theorem State.setNap_bme (s : State) (k : Nat) (x : NapSt) : (s.setNap k x).bme = s.bme := rfl
@[simp] theorem State.setNap_msixMasked (s : State) (k : Nat) (x : NapSt) : (s.setNap k x).msixMasked = s.msixMasked := rfl
@[simp] theorem State.setNap_msixPending (s : State) (k : Nat) (x : NapSt) : (s.setNap k x).msixPending = s.msixPending := rfl
@[simp] theorem State.setNap_windows (s : State) (k : Nat) (x : NapSt) : (s.setNap k x).windows = s.windows := rfl
@[simp] theorem State.setNap_i3c (s : State) (k : Nat) (x : NapSt) : (s.setNap k x).i3c = s.i3c := rfl
@[simp] theorem State.setNap_stageLog (s : State) (k : Nat) (x : NapSt) : (s.setNap k x).stageLog = s.stageLog := rfl
@[simp] theorem State.setNap_jcopies (s : State) (k : Nat) (x : NapSt) : (s.setNap k x).jcopies = s.jcopies := rfl
@[simp] theorem State.setNap_pwr (s : State) (k : Nat) (x : NapSt) : (s.setNap k x).pwr = s.pwr := rfl
@[simp] theorem State.setNap_therm (s : State) (k : Nat) (x : NapSt) : (s.setNap k x).therm = s.therm := rfl
@[simp] theorem State.setNap_sh (s : State) (k : Nat) (x : NapSt) : (s.setNap k x).sh = s.sh := rfl
@[simp] theorem State.setNap_flash (s : State) (k : Nat) (x : NapSt) : (s.setNap k x).flash = s.flash := rfl
@[simp] theorem State.setNap_stairSnap (s : State) (k : Nat) (x : NapSt) : (s.setNap k x).stairSnap = s.stairSnap := rfl
@[simp] theorem State.setNap_stair (s : State) (k : Nat) (x : NapSt) : (s.setNap k x).stair = s.stair := rfl
@[simp] theorem State.setNap_stairDone (s : State) (k : Nat) (x : NapSt) : (s.setNap k x).stairDone = s.stairDone := rfl
@[simp] theorem State.setNap_pair (s : State) (k : Nat) (x : NapSt) : (s.setNap k x).pair = s.pair := rfl
@[simp] theorem State.setNap_munov (s : State) (k : Nat) (x : NapSt) : (s.setNap k x).munov = s.munov := rfl
@[simp] theorem State.setUnit_pending (s : State) (u : Nat) (x : UnitSt) : (s.setUnit u x).pending = s.pending := rfl
@[simp] theorem State.setUnit_freeCtr (s : State) (u : Nat) (x : UnitSt) : (s.setUnit u x).freeCtr = s.freeCtr := rfl
@[simp] theorem State.setUnit_objs (s : State) (u : Nat) (x : UnitSt) : (s.setUnit u x).objs = s.objs := rfl
@[simp] theorem State.setUnit_doms (s : State) (u : Nat) (x : UnitSt) : (s.setUnit u x).doms = s.doms := rfl
@[simp] theorem State.setUnit_events (s : State) (u : Nat) (x : UnitSt) : (s.setUnit u x).events = s.events := rfl
@[simp] theorem State.setUnit_outbox (s : State) (u : Nat) (x : UnitSt) : (s.setUnit u x).outbox = s.outbox := rfl
@[simp] theorem State.setUnit_pace (s : State) (u : Nat) (x : UnitSt) : (s.setUnit u x).pace = s.pace := rfl
@[simp] theorem State.setUnit_unacked (s : State) (u : Nat) (x : UnitSt) : (s.setUnit u x).unacked = s.unacked := rfl
@[simp] theorem State.setUnit_pins (s : State) (u : Nat) (x : UnitSt) : (s.setUnit u x).pins = s.pins := rfl
@[simp] theorem State.setUnit_mem (s : State) (u : Nat) (x : UnitSt) : (s.setUnit u x).mem = s.mem := rfl
@[simp] theorem State.setUnit_journal (s : State) (u : Nat) (x : UnitSt) : (s.setUnit u x).journal = s.journal := rfl
@[simp] theorem State.setUnit_jseqNext (s : State) (u : Nat) (x : UnitSt) : (s.setUnit u x).jseqNext = s.jseqNext := rfl
@[simp] theorem State.setUnit_upsets (s : State) (u : Nat) (x : UnitSt) : (s.setUnit u x).upsets = s.upsets := rfl
@[simp] theorem State.setUnit_eccLog (s : State) (u : Nat) (x : UnitSt) : (s.setUnit u x).eccLog = s.eccLog := rfl
@[simp] theorem State.setUnit_hotQueue (s : State) (u : Nat) (x : UnitSt) : (s.setUnit u x).hotQueue = s.hotQueue := rfl
@[simp] theorem State.setUnit_scrubLated (s : State) (u : Nat) (x : UnitSt) : (s.setUnit u x).scrubLated = s.scrubLated := rfl
@[simp] theorem State.setUnit_scrub (s : State) (u : Nat) (x : UnitSt) : (s.setUnit u x).scrub = s.scrub := rfl
@[simp] theorem State.setUnit_elapsed (s : State) (u : Nat) (x : UnitSt) : (s.setUnit u x).elapsed = s.elapsed := rfl
@[simp] theorem State.setUnit_ddr (s : State) (u : Nat) (x : UnitSt) : (s.setUnit u x).ddr = s.ddr := rfl
@[simp] theorem State.setUnit_sparesUsed (s : State) (u : Nat) (x : UnitSt) : (s.setUnit u x).sparesUsed = s.sparesUsed := rfl
@[simp] theorem State.setUnit_sppr (s : State) (u : Nat) (x : UnitSt) : (s.setUnit u x).sppr = s.sppr := rfl
@[simp] theorem State.setUnit_repairs (s : State) (u : Nat) (x : UnitSt) : (s.setUnit u x).repairs = s.repairs := rfl
@[simp] theorem State.setUnit_coreMem (s : State) (u : Nat) (x : UnitSt) : (s.setUnit u x).coreMem = s.coreMem := rfl
@[simp] theorem State.setUnit_cores (s : State) (u : Nat) (x : UnitSt) : (s.setUnit u x).cores = s.cores := rfl
@[simp] theorem State.setUnit_sched (s : State) (u : Nat) (x : UnitSt) : (s.setUnit u x).sched = s.sched := rfl
@[simp] theorem State.setUnit_carriers (s : State) (u : Nat) (x : UnitSt) : (s.setUnit u x).carriers = s.carriers := rfl
@[simp] theorem State.setUnit_steer (s : State) (u : Nat) (x : UnitSt) : (s.setUnit u x).steer = s.steer := rfl
@[simp] theorem State.setUnit_ulJobs (s : State) (u : Nat) (x : UnitSt) : (s.setUnit u x).ulJobs = s.ulJobs := rfl
@[simp] theorem State.setUnit_dlJobs (s : State) (u : Nat) (x : UnitSt) : (s.setUnit u x).dlJobs = s.dlJobs := rfl
@[simp] theorem State.setUnit_ulSeq (s : State) (u : Nat) (x : UnitSt) : (s.setUnit u x).ulSeq = s.ulSeq := rfl
@[simp] theorem State.setUnit_ulBufs (s : State) (u : Nat) (x : UnitSt) : (s.setUnit u x).ulBufs = s.ulBufs := rfl
@[simp] theorem State.setUnit_ulPrev (s : State) (u : Nat) (x : UnitSt) : (s.setUnit u x).ulPrev = s.ulPrev := rfl
@[simp] theorem State.setUnit_arms (s : State) (u : Nat) (x : UnitSt) : (s.setUnit u x).arms = s.arms := rfl
@[simp] theorem State.setUnit_engBusy (s : State) (u : Nat) (x : UnitSt) : (s.setUnit u x).engBusy = s.engBusy := rfl
@[simp] theorem State.setUnit_codecs (s : State) (u : Nat) (x : UnitSt) : (s.setUnit u x).codecs = s.codecs := rfl
@[simp] theorem State.setUnit_hBufs (s : State) (u : Nat) (x : UnitSt) : (s.setUnit u x).hBufs = s.hBufs := rfl
@[simp] theorem State.setUnit_rnnBufs (s : State) (u : Nat) (x : UnitSt) : (s.setUnit u x).rnnBufs = s.rnnBufs := rfl
@[simp] theorem State.setUnit_harq (s : State) (u : Nat) (x : UnitSt) : (s.setUnit u x).harq = s.harq := rfl
@[simp] theorem State.setUnit_harqPool (s : State) (u : Nat) (x : UnitSt) : (s.setUnit u x).harqPool = s.harqPool := rfl
@[simp] theorem State.setUnit_decIters (s : State) (u : Nat) (x : UnitSt) : (s.setUnit u x).decIters = s.decIters := rfl
@[simp] theorem State.setUnit_pra (s : State) (u : Nat) (x : UnitSt) : (s.setUnit u x).pra = s.pra := rfl
@[simp] theorem State.setUnit_praJobs (s : State) (u : Nat) (x : UnitSt) : (s.setUnit u x).praJobs = s.praJobs := rfl
@[simp] theorem State.setUnit_llrDone (s : State) (u : Nat) (x : UnitSt) : (s.setUnit u x).llrDone = s.llrDone := rfl
@[simp] theorem State.setUnit_txMaps (s : State) (u : Nat) (x : UnitSt) : (s.setUnit u x).txMaps = s.txMaps := rfl
@[simp] theorem State.setUnit_dlSlots (s : State) (u : Nat) (x : UnitSt) : (s.setUnit u x).dlSlots = s.dlSlots := rfl
@[simp] theorem State.setUnit_dlMissed (s : State) (u : Nat) (x : UnitSt) : (s.setUnit u x).dlMissed = s.dlMissed := rfl
@[simp] theorem State.setUnit_frameStores (s : State) (u : Nat) (x : UnitSt) : (s.setUnit u x).frameStores = s.frameStores := rfl
@[simp] theorem State.setUnit_txSeq (s : State) (u : Nat) (x : UnitSt) : (s.setUnit u x).txSeq = s.txSeq := rfl
@[simp] theorem State.setUnit_td (s : State) (u : Nat) (x : UnitSt) : (s.setUnit u x).td = s.td := rfl
@[simp] theorem State.setUnit_txOffers (s : State) (u : Nat) (x : UnitSt) : (s.setUnit u x).txOffers = s.txOffers := rfl
@[simp] theorem State.setUnit_ctx (s : State) (u : Nat) (x : UnitSt) : (s.setUnit u x).ctx = s.ctx := rfl
@[simp] theorem State.setUnit_dravutOut (s : State) (u : Nat) (x : UnitSt) : (s.setUnit u x).dravutOut = s.dravutOut := rfl
@[simp] theorem State.setUnit_dravutNext (s : State) (u : Nat) (x : UnitSt) : (s.setUnit u x).dravutNext = s.dravutNext := rfl
@[simp] theorem State.setUnit_dravutExpect (s : State) (u : Nat) (x : UnitSt) : (s.setUnit u x).dravutExpect = s.dravutExpect := rfl
@[simp] theorem State.setUnit_arbs (s : State) (u : Nat) (x : UnitSt) : (s.setUnit u x).arbs = s.arbs := rfl
@[simp] theorem State.setUnit_galEpochs (s : State) (u : Nat) (x : UnitSt) : (s.setUnit u x).galEpochs = s.galEpochs := rfl
@[simp] theorem State.setUnit_gal (s : State) (u : Nat) (x : UnitSt) : (s.setUnit u x).gal = s.gal := rfl
@[simp] theorem State.setUnit_lanes (s : State) (u : Nat) (x : UnitSt) : (s.setUnit u x).lanes = s.lanes := rfl
@[simp] theorem State.setUnit_ports (s : State) (u : Nat) (x : UnitSt) : (s.setUnit u x).ports = s.ports := rfl
@[simp] theorem State.setUnit_txQueue (s : State) (u : Nat) (x : UnitSt) : (s.setUnit u x).txQueue = s.txQueue := rfl
@[simp] theorem State.setUnit_erx (s : State) (u : Nat) (x : UnitSt) : (s.setUnit u x).erx = s.erx := rfl
@[simp] theorem State.setUnit_etx (s : State) (u : Nat) (x : UnitSt) : (s.setUnit u x).etx = s.etx := rfl
@[simp] theorem State.setUnit_time (s : State) (u : Nat) (x : UnitSt) : (s.setUnit u x).time = s.time := rfl
@[simp] theorem State.setUnit_staged (s : State) (u : Nat) (x : UnitSt) : (s.setUnit u x).staged = s.staged := rfl
@[simp] theorem State.setUnit_rings (s : State) (u : Nat) (x : UnitSt) : (s.setUnit u x).rings = s.rings := rfl
@[simp] theorem State.setUnit_bme (s : State) (u : Nat) (x : UnitSt) : (s.setUnit u x).bme = s.bme := rfl
@[simp] theorem State.setUnit_msixMasked (s : State) (u : Nat) (x : UnitSt) : (s.setUnit u x).msixMasked = s.msixMasked := rfl
@[simp] theorem State.setUnit_msixPending (s : State) (u : Nat) (x : UnitSt) : (s.setUnit u x).msixPending = s.msixPending := rfl
@[simp] theorem State.setUnit_windows (s : State) (u : Nat) (x : UnitSt) : (s.setUnit u x).windows = s.windows := rfl
@[simp] theorem State.setUnit_naps (s : State) (u : Nat) (x : UnitSt) : (s.setUnit u x).naps = s.naps := rfl
@[simp] theorem State.setUnit_i3c (s : State) (u : Nat) (x : UnitSt) : (s.setUnit u x).i3c = s.i3c := rfl
@[simp] theorem State.setUnit_stageLog (s : State) (u : Nat) (x : UnitSt) : (s.setUnit u x).stageLog = s.stageLog := rfl
@[simp] theorem State.setUnit_jcopies (s : State) (u : Nat) (x : UnitSt) : (s.setUnit u x).jcopies = s.jcopies := rfl
@[simp] theorem State.setUnit_pwr (s : State) (u : Nat) (x : UnitSt) : (s.setUnit u x).pwr = s.pwr := rfl
@[simp] theorem State.setUnit_therm (s : State) (u : Nat) (x : UnitSt) : (s.setUnit u x).therm = s.therm := rfl
@[simp] theorem State.setUnit_sh (s : State) (u : Nat) (x : UnitSt) : (s.setUnit u x).sh = s.sh := rfl
@[simp] theorem State.setUnit_flash (s : State) (u : Nat) (x : UnitSt) : (s.setUnit u x).flash = s.flash := rfl
@[simp] theorem State.setUnit_stairSnap (s : State) (u : Nat) (x : UnitSt) : (s.setUnit u x).stairSnap = s.stairSnap := rfl
@[simp] theorem State.setUnit_stair (s : State) (u : Nat) (x : UnitSt) : (s.setUnit u x).stair = s.stair := rfl
@[simp] theorem State.setUnit_stairDone (s : State) (u : Nat) (x : UnitSt) : (s.setUnit u x).stairDone = s.stairDone := rfl
@[simp] theorem State.setUnit_pair (s : State) (u : Nat) (x : UnitSt) : (s.setUnit u x).pair = s.pair := rfl
@[simp] theorem State.setUnit_munov (s : State) (u : Nat) (x : UnitSt) : (s.setUnit u x).munov = s.munov := rfl
@[simp] theorem State.setSch_pending (s : State) (h : Nat) (x : SchedSt) : (s.setSch h x).pending = s.pending := rfl
@[simp] theorem State.setSch_freeCtr (s : State) (h : Nat) (x : SchedSt) : (s.setSch h x).freeCtr = s.freeCtr := rfl
@[simp] theorem State.setSch_objs (s : State) (h : Nat) (x : SchedSt) : (s.setSch h x).objs = s.objs := rfl
@[simp] theorem State.setSch_doms (s : State) (h : Nat) (x : SchedSt) : (s.setSch h x).doms = s.doms := rfl
@[simp] theorem State.setSch_events (s : State) (h : Nat) (x : SchedSt) : (s.setSch h x).events = s.events := rfl
@[simp] theorem State.setSch_outbox (s : State) (h : Nat) (x : SchedSt) : (s.setSch h x).outbox = s.outbox := rfl
@[simp] theorem State.setSch_pace (s : State) (h : Nat) (x : SchedSt) : (s.setSch h x).pace = s.pace := rfl
@[simp] theorem State.setSch_unacked (s : State) (h : Nat) (x : SchedSt) : (s.setSch h x).unacked = s.unacked := rfl
@[simp] theorem State.setSch_units (s : State) (h : Nat) (x : SchedSt) : (s.setSch h x).units = s.units := rfl
@[simp] theorem State.setSch_pins (s : State) (h : Nat) (x : SchedSt) : (s.setSch h x).pins = s.pins := rfl
@[simp] theorem State.setSch_mem (s : State) (h : Nat) (x : SchedSt) : (s.setSch h x).mem = s.mem := rfl
@[simp] theorem State.setSch_journal (s : State) (h : Nat) (x : SchedSt) : (s.setSch h x).journal = s.journal := rfl
@[simp] theorem State.setSch_jseqNext (s : State) (h : Nat) (x : SchedSt) : (s.setSch h x).jseqNext = s.jseqNext := rfl
@[simp] theorem State.setSch_upsets (s : State) (h : Nat) (x : SchedSt) : (s.setSch h x).upsets = s.upsets := rfl
@[simp] theorem State.setSch_eccLog (s : State) (h : Nat) (x : SchedSt) : (s.setSch h x).eccLog = s.eccLog := rfl
@[simp] theorem State.setSch_hotQueue (s : State) (h : Nat) (x : SchedSt) : (s.setSch h x).hotQueue = s.hotQueue := rfl
@[simp] theorem State.setSch_scrubLated (s : State) (h : Nat) (x : SchedSt) : (s.setSch h x).scrubLated = s.scrubLated := rfl
@[simp] theorem State.setSch_scrub (s : State) (h : Nat) (x : SchedSt) : (s.setSch h x).scrub = s.scrub := rfl
@[simp] theorem State.setSch_elapsed (s : State) (h : Nat) (x : SchedSt) : (s.setSch h x).elapsed = s.elapsed := rfl
@[simp] theorem State.setSch_ddr (s : State) (h : Nat) (x : SchedSt) : (s.setSch h x).ddr = s.ddr := rfl
@[simp] theorem State.setSch_sparesUsed (s : State) (h : Nat) (x : SchedSt) : (s.setSch h x).sparesUsed = s.sparesUsed := rfl
@[simp] theorem State.setSch_sppr (s : State) (h : Nat) (x : SchedSt) : (s.setSch h x).sppr = s.sppr := rfl
@[simp] theorem State.setSch_repairs (s : State) (h : Nat) (x : SchedSt) : (s.setSch h x).repairs = s.repairs := rfl
@[simp] theorem State.setSch_coreMem (s : State) (h : Nat) (x : SchedSt) : (s.setSch h x).coreMem = s.coreMem := rfl
@[simp] theorem State.setSch_cores (s : State) (h : Nat) (x : SchedSt) : (s.setSch h x).cores = s.cores := rfl
@[simp] theorem State.setSch_carriers (s : State) (h : Nat) (x : SchedSt) : (s.setSch h x).carriers = s.carriers := rfl
@[simp] theorem State.setSch_steer (s : State) (h : Nat) (x : SchedSt) : (s.setSch h x).steer = s.steer := rfl
@[simp] theorem State.setSch_ulJobs (s : State) (h : Nat) (x : SchedSt) : (s.setSch h x).ulJobs = s.ulJobs := rfl
@[simp] theorem State.setSch_dlJobs (s : State) (h : Nat) (x : SchedSt) : (s.setSch h x).dlJobs = s.dlJobs := rfl
@[simp] theorem State.setSch_ulSeq (s : State) (h : Nat) (x : SchedSt) : (s.setSch h x).ulSeq = s.ulSeq := rfl
@[simp] theorem State.setSch_ulBufs (s : State) (h : Nat) (x : SchedSt) : (s.setSch h x).ulBufs = s.ulBufs := rfl
@[simp] theorem State.setSch_ulPrev (s : State) (h : Nat) (x : SchedSt) : (s.setSch h x).ulPrev = s.ulPrev := rfl
@[simp] theorem State.setSch_arms (s : State) (h : Nat) (x : SchedSt) : (s.setSch h x).arms = s.arms := rfl
@[simp] theorem State.setSch_engBusy (s : State) (h : Nat) (x : SchedSt) : (s.setSch h x).engBusy = s.engBusy := rfl
@[simp] theorem State.setSch_codecs (s : State) (h : Nat) (x : SchedSt) : (s.setSch h x).codecs = s.codecs := rfl
@[simp] theorem State.setSch_hBufs (s : State) (h : Nat) (x : SchedSt) : (s.setSch h x).hBufs = s.hBufs := rfl
@[simp] theorem State.setSch_rnnBufs (s : State) (h : Nat) (x : SchedSt) : (s.setSch h x).rnnBufs = s.rnnBufs := rfl
@[simp] theorem State.setSch_harq (s : State) (h : Nat) (x : SchedSt) : (s.setSch h x).harq = s.harq := rfl
@[simp] theorem State.setSch_harqPool (s : State) (h : Nat) (x : SchedSt) : (s.setSch h x).harqPool = s.harqPool := rfl
@[simp] theorem State.setSch_decIters (s : State) (h : Nat) (x : SchedSt) : (s.setSch h x).decIters = s.decIters := rfl
@[simp] theorem State.setSch_pra (s : State) (h : Nat) (x : SchedSt) : (s.setSch h x).pra = s.pra := rfl
@[simp] theorem State.setSch_praJobs (s : State) (h : Nat) (x : SchedSt) : (s.setSch h x).praJobs = s.praJobs := rfl
@[simp] theorem State.setSch_llrDone (s : State) (h : Nat) (x : SchedSt) : (s.setSch h x).llrDone = s.llrDone := rfl
@[simp] theorem State.setSch_txMaps (s : State) (h : Nat) (x : SchedSt) : (s.setSch h x).txMaps = s.txMaps := rfl
@[simp] theorem State.setSch_dlSlots (s : State) (h : Nat) (x : SchedSt) : (s.setSch h x).dlSlots = s.dlSlots := rfl
@[simp] theorem State.setSch_dlMissed (s : State) (h : Nat) (x : SchedSt) : (s.setSch h x).dlMissed = s.dlMissed := rfl
@[simp] theorem State.setSch_frameStores (s : State) (h : Nat) (x : SchedSt) : (s.setSch h x).frameStores = s.frameStores := rfl
@[simp] theorem State.setSch_txSeq (s : State) (h : Nat) (x : SchedSt) : (s.setSch h x).txSeq = s.txSeq := rfl
@[simp] theorem State.setSch_td (s : State) (h : Nat) (x : SchedSt) : (s.setSch h x).td = s.td := rfl
@[simp] theorem State.setSch_txOffers (s : State) (h : Nat) (x : SchedSt) : (s.setSch h x).txOffers = s.txOffers := rfl
@[simp] theorem State.setSch_ctx (s : State) (h : Nat) (x : SchedSt) : (s.setSch h x).ctx = s.ctx := rfl
@[simp] theorem State.setSch_dravutOut (s : State) (h : Nat) (x : SchedSt) : (s.setSch h x).dravutOut = s.dravutOut := rfl
@[simp] theorem State.setSch_dravutNext (s : State) (h : Nat) (x : SchedSt) : (s.setSch h x).dravutNext = s.dravutNext := rfl
@[simp] theorem State.setSch_dravutExpect (s : State) (h : Nat) (x : SchedSt) : (s.setSch h x).dravutExpect = s.dravutExpect := rfl
@[simp] theorem State.setSch_arbs (s : State) (h : Nat) (x : SchedSt) : (s.setSch h x).arbs = s.arbs := rfl
@[simp] theorem State.setSch_galEpochs (s : State) (h : Nat) (x : SchedSt) : (s.setSch h x).galEpochs = s.galEpochs := rfl
@[simp] theorem State.setSch_gal (s : State) (h : Nat) (x : SchedSt) : (s.setSch h x).gal = s.gal := rfl
@[simp] theorem State.setSch_lanes (s : State) (h : Nat) (x : SchedSt) : (s.setSch h x).lanes = s.lanes := rfl
@[simp] theorem State.setSch_ports (s : State) (h : Nat) (x : SchedSt) : (s.setSch h x).ports = s.ports := rfl
@[simp] theorem State.setSch_txQueue (s : State) (h : Nat) (x : SchedSt) : (s.setSch h x).txQueue = s.txQueue := rfl
@[simp] theorem State.setSch_erx (s : State) (h : Nat) (x : SchedSt) : (s.setSch h x).erx = s.erx := rfl
@[simp] theorem State.setSch_etx (s : State) (h : Nat) (x : SchedSt) : (s.setSch h x).etx = s.etx := rfl
@[simp] theorem State.setSch_time (s : State) (h : Nat) (x : SchedSt) : (s.setSch h x).time = s.time := rfl
@[simp] theorem State.setSch_staged (s : State) (h : Nat) (x : SchedSt) : (s.setSch h x).staged = s.staged := rfl
@[simp] theorem State.setSch_rings (s : State) (h : Nat) (x : SchedSt) : (s.setSch h x).rings = s.rings := rfl
@[simp] theorem State.setSch_bme (s : State) (h : Nat) (x : SchedSt) : (s.setSch h x).bme = s.bme := rfl
@[simp] theorem State.setSch_msixMasked (s : State) (h : Nat) (x : SchedSt) : (s.setSch h x).msixMasked = s.msixMasked := rfl
@[simp] theorem State.setSch_msixPending (s : State) (h : Nat) (x : SchedSt) : (s.setSch h x).msixPending = s.msixPending := rfl
@[simp] theorem State.setSch_windows (s : State) (h : Nat) (x : SchedSt) : (s.setSch h x).windows = s.windows := rfl
@[simp] theorem State.setSch_naps (s : State) (h : Nat) (x : SchedSt) : (s.setSch h x).naps = s.naps := rfl
@[simp] theorem State.setSch_i3c (s : State) (h : Nat) (x : SchedSt) : (s.setSch h x).i3c = s.i3c := rfl
@[simp] theorem State.setSch_stageLog (s : State) (h : Nat) (x : SchedSt) : (s.setSch h x).stageLog = s.stageLog := rfl
@[simp] theorem State.setSch_jcopies (s : State) (h : Nat) (x : SchedSt) : (s.setSch h x).jcopies = s.jcopies := rfl
@[simp] theorem State.setSch_pwr (s : State) (h : Nat) (x : SchedSt) : (s.setSch h x).pwr = s.pwr := rfl
@[simp] theorem State.setSch_therm (s : State) (h : Nat) (x : SchedSt) : (s.setSch h x).therm = s.therm := rfl
@[simp] theorem State.setSch_sh (s : State) (h : Nat) (x : SchedSt) : (s.setSch h x).sh = s.sh := rfl
@[simp] theorem State.setSch_flash (s : State) (h : Nat) (x : SchedSt) : (s.setSch h x).flash = s.flash := rfl
@[simp] theorem State.setSch_stairSnap (s : State) (h : Nat) (x : SchedSt) : (s.setSch h x).stairSnap = s.stairSnap := rfl
@[simp] theorem State.setSch_stair (s : State) (h : Nat) (x : SchedSt) : (s.setSch h x).stair = s.stair := rfl
@[simp] theorem State.setSch_stairDone (s : State) (h : Nat) (x : SchedSt) : (s.setSch h x).stairDone = s.stairDone := rfl
@[simp] theorem State.setSch_pair (s : State) (h : Nat) (x : SchedSt) : (s.setSch h x).pair = s.pair := rfl
@[simp] theorem State.setSch_munov (s : State) (h : Nat) (x : SchedSt) : (s.setSch h x).munov = s.munov := rfl
@[simp] theorem State.setUlBuf_pending (s : State) (k : Nat) (b : UlBuf) : (s.setUlBuf k b).pending = s.pending := rfl
@[simp] theorem State.setUlBuf_freeCtr (s : State) (k : Nat) (b : UlBuf) : (s.setUlBuf k b).freeCtr = s.freeCtr := rfl
@[simp] theorem State.setUlBuf_objs (s : State) (k : Nat) (b : UlBuf) : (s.setUlBuf k b).objs = s.objs := rfl
@[simp] theorem State.setUlBuf_doms (s : State) (k : Nat) (b : UlBuf) : (s.setUlBuf k b).doms = s.doms := rfl
@[simp] theorem State.setUlBuf_events (s : State) (k : Nat) (b : UlBuf) : (s.setUlBuf k b).events = s.events := rfl
@[simp] theorem State.setUlBuf_outbox (s : State) (k : Nat) (b : UlBuf) : (s.setUlBuf k b).outbox = s.outbox := rfl
@[simp] theorem State.setUlBuf_pace (s : State) (k : Nat) (b : UlBuf) : (s.setUlBuf k b).pace = s.pace := rfl
@[simp] theorem State.setUlBuf_unacked (s : State) (k : Nat) (b : UlBuf) : (s.setUlBuf k b).unacked = s.unacked := rfl
@[simp] theorem State.setUlBuf_units (s : State) (k : Nat) (b : UlBuf) : (s.setUlBuf k b).units = s.units := rfl
@[simp] theorem State.setUlBuf_pins (s : State) (k : Nat) (b : UlBuf) : (s.setUlBuf k b).pins = s.pins := rfl
@[simp] theorem State.setUlBuf_mem (s : State) (k : Nat) (b : UlBuf) : (s.setUlBuf k b).mem = s.mem := rfl
@[simp] theorem State.setUlBuf_journal (s : State) (k : Nat) (b : UlBuf) : (s.setUlBuf k b).journal = s.journal := rfl
@[simp] theorem State.setUlBuf_jseqNext (s : State) (k : Nat) (b : UlBuf) : (s.setUlBuf k b).jseqNext = s.jseqNext := rfl
@[simp] theorem State.setUlBuf_upsets (s : State) (k : Nat) (b : UlBuf) : (s.setUlBuf k b).upsets = s.upsets := rfl
@[simp] theorem State.setUlBuf_eccLog (s : State) (k : Nat) (b : UlBuf) : (s.setUlBuf k b).eccLog = s.eccLog := rfl
@[simp] theorem State.setUlBuf_hotQueue (s : State) (k : Nat) (b : UlBuf) : (s.setUlBuf k b).hotQueue = s.hotQueue := rfl
@[simp] theorem State.setUlBuf_scrubLated (s : State) (k : Nat) (b : UlBuf) : (s.setUlBuf k b).scrubLated = s.scrubLated := rfl
@[simp] theorem State.setUlBuf_scrub (s : State) (k : Nat) (b : UlBuf) : (s.setUlBuf k b).scrub = s.scrub := rfl
@[simp] theorem State.setUlBuf_elapsed (s : State) (k : Nat) (b : UlBuf) : (s.setUlBuf k b).elapsed = s.elapsed := rfl
@[simp] theorem State.setUlBuf_ddr (s : State) (k : Nat) (b : UlBuf) : (s.setUlBuf k b).ddr = s.ddr := rfl
@[simp] theorem State.setUlBuf_sparesUsed (s : State) (k : Nat) (b : UlBuf) : (s.setUlBuf k b).sparesUsed = s.sparesUsed := rfl
@[simp] theorem State.setUlBuf_sppr (s : State) (k : Nat) (b : UlBuf) : (s.setUlBuf k b).sppr = s.sppr := rfl
@[simp] theorem State.setUlBuf_repairs (s : State) (k : Nat) (b : UlBuf) : (s.setUlBuf k b).repairs = s.repairs := rfl
@[simp] theorem State.setUlBuf_coreMem (s : State) (k : Nat) (b : UlBuf) : (s.setUlBuf k b).coreMem = s.coreMem := rfl
@[simp] theorem State.setUlBuf_cores (s : State) (k : Nat) (b : UlBuf) : (s.setUlBuf k b).cores = s.cores := rfl
@[simp] theorem State.setUlBuf_sched (s : State) (k : Nat) (b : UlBuf) : (s.setUlBuf k b).sched = s.sched := rfl
@[simp] theorem State.setUlBuf_carriers (s : State) (k : Nat) (b : UlBuf) : (s.setUlBuf k b).carriers = s.carriers := rfl
@[simp] theorem State.setUlBuf_steer (s : State) (k : Nat) (b : UlBuf) : (s.setUlBuf k b).steer = s.steer := rfl
@[simp] theorem State.setUlBuf_ulJobs (s : State) (k : Nat) (b : UlBuf) : (s.setUlBuf k b).ulJobs = s.ulJobs := rfl
@[simp] theorem State.setUlBuf_dlJobs (s : State) (k : Nat) (b : UlBuf) : (s.setUlBuf k b).dlJobs = s.dlJobs := rfl
@[simp] theorem State.setUlBuf_ulSeq (s : State) (k : Nat) (b : UlBuf) : (s.setUlBuf k b).ulSeq = s.ulSeq := rfl
@[simp] theorem State.setUlBuf_ulPrev (s : State) (k : Nat) (b : UlBuf) : (s.setUlBuf k b).ulPrev = s.ulPrev := rfl
@[simp] theorem State.setUlBuf_arms (s : State) (k : Nat) (b : UlBuf) : (s.setUlBuf k b).arms = s.arms := rfl
@[simp] theorem State.setUlBuf_engBusy (s : State) (k : Nat) (b : UlBuf) : (s.setUlBuf k b).engBusy = s.engBusy := rfl
@[simp] theorem State.setUlBuf_codecs (s : State) (k : Nat) (b : UlBuf) : (s.setUlBuf k b).codecs = s.codecs := rfl
@[simp] theorem State.setUlBuf_hBufs (s : State) (k : Nat) (b : UlBuf) : (s.setUlBuf k b).hBufs = s.hBufs := rfl
@[simp] theorem State.setUlBuf_rnnBufs (s : State) (k : Nat) (b : UlBuf) : (s.setUlBuf k b).rnnBufs = s.rnnBufs := rfl
@[simp] theorem State.setUlBuf_harq (s : State) (k : Nat) (b : UlBuf) : (s.setUlBuf k b).harq = s.harq := rfl
@[simp] theorem State.setUlBuf_harqPool (s : State) (k : Nat) (b : UlBuf) : (s.setUlBuf k b).harqPool = s.harqPool := rfl
@[simp] theorem State.setUlBuf_decIters (s : State) (k : Nat) (b : UlBuf) : (s.setUlBuf k b).decIters = s.decIters := rfl
@[simp] theorem State.setUlBuf_pra (s : State) (k : Nat) (b : UlBuf) : (s.setUlBuf k b).pra = s.pra := rfl
@[simp] theorem State.setUlBuf_praJobs (s : State) (k : Nat) (b : UlBuf) : (s.setUlBuf k b).praJobs = s.praJobs := rfl
@[simp] theorem State.setUlBuf_llrDone (s : State) (k : Nat) (b : UlBuf) : (s.setUlBuf k b).llrDone = s.llrDone := rfl
@[simp] theorem State.setUlBuf_txMaps (s : State) (k : Nat) (b : UlBuf) : (s.setUlBuf k b).txMaps = s.txMaps := rfl
@[simp] theorem State.setUlBuf_dlSlots (s : State) (k : Nat) (b : UlBuf) : (s.setUlBuf k b).dlSlots = s.dlSlots := rfl
@[simp] theorem State.setUlBuf_dlMissed (s : State) (k : Nat) (b : UlBuf) : (s.setUlBuf k b).dlMissed = s.dlMissed := rfl
@[simp] theorem State.setUlBuf_frameStores (s : State) (k : Nat) (b : UlBuf) : (s.setUlBuf k b).frameStores = s.frameStores := rfl
@[simp] theorem State.setUlBuf_txSeq (s : State) (k : Nat) (b : UlBuf) : (s.setUlBuf k b).txSeq = s.txSeq := rfl
@[simp] theorem State.setUlBuf_td (s : State) (k : Nat) (b : UlBuf) : (s.setUlBuf k b).td = s.td := rfl
@[simp] theorem State.setUlBuf_txOffers (s : State) (k : Nat) (b : UlBuf) : (s.setUlBuf k b).txOffers = s.txOffers := rfl
@[simp] theorem State.setUlBuf_ctx (s : State) (k : Nat) (b : UlBuf) : (s.setUlBuf k b).ctx = s.ctx := rfl
@[simp] theorem State.setUlBuf_dravutOut (s : State) (k : Nat) (b : UlBuf) : (s.setUlBuf k b).dravutOut = s.dravutOut := rfl
@[simp] theorem State.setUlBuf_dravutNext (s : State) (k : Nat) (b : UlBuf) : (s.setUlBuf k b).dravutNext = s.dravutNext := rfl
@[simp] theorem State.setUlBuf_dravutExpect (s : State) (k : Nat) (b : UlBuf) : (s.setUlBuf k b).dravutExpect = s.dravutExpect := rfl
@[simp] theorem State.setUlBuf_arbs (s : State) (k : Nat) (b : UlBuf) : (s.setUlBuf k b).arbs = s.arbs := rfl
@[simp] theorem State.setUlBuf_galEpochs (s : State) (k : Nat) (b : UlBuf) : (s.setUlBuf k b).galEpochs = s.galEpochs := rfl
@[simp] theorem State.setUlBuf_gal (s : State) (k : Nat) (b : UlBuf) : (s.setUlBuf k b).gal = s.gal := rfl
@[simp] theorem State.setUlBuf_lanes (s : State) (k : Nat) (b : UlBuf) : (s.setUlBuf k b).lanes = s.lanes := rfl
@[simp] theorem State.setUlBuf_ports (s : State) (k : Nat) (b : UlBuf) : (s.setUlBuf k b).ports = s.ports := rfl
@[simp] theorem State.setUlBuf_txQueue (s : State) (k : Nat) (b : UlBuf) : (s.setUlBuf k b).txQueue = s.txQueue := rfl
@[simp] theorem State.setUlBuf_erx (s : State) (k : Nat) (b : UlBuf) : (s.setUlBuf k b).erx = s.erx := rfl
@[simp] theorem State.setUlBuf_etx (s : State) (k : Nat) (b : UlBuf) : (s.setUlBuf k b).etx = s.etx := rfl
@[simp] theorem State.setUlBuf_time (s : State) (k : Nat) (b : UlBuf) : (s.setUlBuf k b).time = s.time := rfl
@[simp] theorem State.setUlBuf_staged (s : State) (k : Nat) (b : UlBuf) : (s.setUlBuf k b).staged = s.staged := rfl
@[simp] theorem State.setUlBuf_rings (s : State) (k : Nat) (b : UlBuf) : (s.setUlBuf k b).rings = s.rings := rfl
@[simp] theorem State.setUlBuf_bme (s : State) (k : Nat) (b : UlBuf) : (s.setUlBuf k b).bme = s.bme := rfl
@[simp] theorem State.setUlBuf_msixMasked (s : State) (k : Nat) (b : UlBuf) : (s.setUlBuf k b).msixMasked = s.msixMasked := rfl
@[simp] theorem State.setUlBuf_msixPending (s : State) (k : Nat) (b : UlBuf) : (s.setUlBuf k b).msixPending = s.msixPending := rfl
@[simp] theorem State.setUlBuf_windows (s : State) (k : Nat) (b : UlBuf) : (s.setUlBuf k b).windows = s.windows := rfl
@[simp] theorem State.setUlBuf_naps (s : State) (k : Nat) (b : UlBuf) : (s.setUlBuf k b).naps = s.naps := rfl
@[simp] theorem State.setUlBuf_i3c (s : State) (k : Nat) (b : UlBuf) : (s.setUlBuf k b).i3c = s.i3c := rfl
@[simp] theorem State.setUlBuf_stageLog (s : State) (k : Nat) (b : UlBuf) : (s.setUlBuf k b).stageLog = s.stageLog := rfl
@[simp] theorem State.setUlBuf_jcopies (s : State) (k : Nat) (b : UlBuf) : (s.setUlBuf k b).jcopies = s.jcopies := rfl
@[simp] theorem State.setUlBuf_pwr (s : State) (k : Nat) (b : UlBuf) : (s.setUlBuf k b).pwr = s.pwr := rfl
@[simp] theorem State.setUlBuf_therm (s : State) (k : Nat) (b : UlBuf) : (s.setUlBuf k b).therm = s.therm := rfl
@[simp] theorem State.setUlBuf_sh (s : State) (k : Nat) (b : UlBuf) : (s.setUlBuf k b).sh = s.sh := rfl
@[simp] theorem State.setUlBuf_flash (s : State) (k : Nat) (b : UlBuf) : (s.setUlBuf k b).flash = s.flash := rfl
@[simp] theorem State.setUlBuf_stairSnap (s : State) (k : Nat) (b : UlBuf) : (s.setUlBuf k b).stairSnap = s.stairSnap := rfl
@[simp] theorem State.setUlBuf_stair (s : State) (k : Nat) (b : UlBuf) : (s.setUlBuf k b).stair = s.stair := rfl
@[simp] theorem State.setUlBuf_stairDone (s : State) (k : Nat) (b : UlBuf) : (s.setUlBuf k b).stairDone = s.stairDone := rfl
@[simp] theorem State.setUlBuf_pair (s : State) (k : Nat) (b : UlBuf) : (s.setUlBuf k b).pair = s.pair := rfl
@[simp] theorem State.setUlBuf_munov (s : State) (k : Nat) (b : UlBuf) : (s.setUlBuf k b).munov = s.munov := rfl

end Sys2Proof.Machine
end

