-- ==== Sys2Proof/Laws/Core.lean ====
section
/-! SUPPORT. One operation of a Wylen core issued beside NOP: what the issue of it comes to, said once. -/

namespace Sys2Proof.Machine

/-- The scheduler has no part in an operation that leaves the core in its state. -/
theorem State.afterCore_same (t : State) (b : Int) (c : Nat) (h : t.obj .coreState c = b) : t.afterCore b c = t := by
  simp [State.afterCore, h]
/-- What issuing asks of a core. -/
theorem State.issues_spec {s : State} {c : Nat} (h : s.issues c = true) :
    s.atBoundary c = true ∧ (s.core c).stall = none ∧ (s.core c).async = [] := by
  simp [State.issues] at h; exact ⟨h.1.1, h.1.2, h.2⟩
/-- A core that issues runs what is to issue, no WINDOW_ASYNC first. -/
theorem State.atIssue_issues {s : State} {c : Nat} (f : State → State) (h : s.issues c = true) : s.atIssue c f = f s := by
  simp [State.atIssue, h]
/-- A bundle issues at the core's cycle or later. -/
theorem CoreSt.issueAt_ge (k : CoreSt) (ops : List CoreOp) : k.cyc ≤ k.issueAt ops := by
  have h : ∀ (l : List Nat) (n : Nat), n ≤ l.foldl (fun n r => max n (tabGet 0 k.ready r)) n := by
    intro l
    induction l with
    | nil => intro n; exact le_rfl
    | cons a r ih => intro n; exact le_trans (le_max_left _ _) (ih _)
  exact h _ _
/-- A bundle takes a cycle or more. -/
theorem State.issueCycles_pos (s : State) (k : CoreSt) (ops : List CoreOp) : 1 ≤ s.issueCycles k ops := by
  unfold State.issueCycles
  refine le_trans ?_ (Nat.le_add_left _ _)
  split
  · split <;> decide
  · decide
  · decide
  · exact le_trans (by decide) (Nat.le_add_right 3 _)
  · decide
/-- What a bundle spends: everything it can do to the core. -/
theorem State.spendCycles_spec (s : State) (old k : CoreSt) (ops : List CoreOp) :
    s.spendCycles old ops k = { k with cyc := (s.spendCycles old ops k).cyc, ready := (s.spendCycles old ops k).ready }
    ∧ ∃ n, 1 ≤ n ∧ (s.spendCycles old ops k).cyc = (old.cyc + n) % 2 ^ 64 := by
  refine ⟨rfl, old.issueAt ops - old.cyc + s.issueCycles old ops, ?_, ?_⟩
  · have := s.issueCycles_pos old ops; omega
  · have := old.issueAt_ge ops
    simp only [State.spendCycles]
    congr 1; omega
/-- One operation beside NOP, with no cause of an exception, no repeat level in use and nothing to wait for, commits. -/
theorem State.issueSolo_commits {s : State} {c slot : Nat} {op : CoreOp} (h : s.issues c = true) (hl : (s.core c).sst.ld = 0)
    (hc : s.opCauses c (s.core c) (s.pc c) op = []) (hg : isGather op = false) (hf : op ≠ .fence ∨ (s.core c).posted = []) (hm : s.isWindowLoad (s.core c) op = false) :
    s.issueSolo c slot op = (s.commit c [op] (State.schedCall c)).afterCore (s.obj .coreState c) c := by
  have hi : bundleIllegal (s.core c) (s.pc c) (soloBundle slot op) = false := by
    simp [bundleIllegal, soloBundle, oneOp, nopWord, shares, CoreSt.atEnd, hl, hg]
  have hp : s.bundleCauses c (soloBundle slot op) = [] := by simp [State.bundleCauses, hi]; simp [soloBundle, oneOp, nopWord, hc]
  rw [State.issueSolo, State.atIssue_issues _ h]
  simp only [State.runBundle, State.issueBundle, hp, pickCause]
  simp [soloBundle, oneOp, nopWord, gatherOf, hg, hm]
  rcases hf with hf | hf
  · simp [hf]
  · simp [hf]
/-- One register operation beside NOP: everything it can do. -/
theorem State.issueSolo_regs {s : State} {c slot : Nat} {op : CoreOp} (h : s.issues c = true) (hl : (s.core c).sst.ld = 0)
    (hc : s.opCauses c (s.core c) (s.pc c) op = []) (hg : isGather op = false) (hf : op ≠ .fence ∨ (s.core c).posted = [])
    (hm : ∀ m, op ≠ .move m) (hs : ∀ a b, op ≠ .sched a b) (hr : isControl op = false) (hb : op ≠ .bkpt)
    (hld : (s.applyOp c (s.core c) op (s.core c)).sst.ld = 0) :
    ranAlone s (s.issueSolo c slot op) c (s.applyOp c (s.core c) op (s.core c)) := by
  have hwl : s.isWindowLoad (s.core c) op = false := by
    unfold State.isWindowLoad; split
    · exact absurd rfl (hm _)
    · rfl
  have e : s.commit c [op] (State.schedCall c) = ((s.setCore c (s.spendCycles (s.core c) [op] { s.applyOp c (s.core c) op (s.core c) with stall := none })).setPc c ((s.pc c / 8 + 1) * 8)) := by
    have hx : xThenY [op] = [op] := by
      cases op <;> first | rfl | exact absurd rfl (hm _)
    have hd : dupLoad [op] = none := by
      unfold dupLoad
      cases op <;> first | rfl | exact absurd rfl (hm _)
    have hlo : s.loadOps c (s.core c) [op] = s := by cases op <;> first | rfl | exact absurd rfl (hm _)
    have hst : ∀ t : State, t.storeOps c (s.core c) [op] = t := by intro t; cases op <;> first | rfl | exact absurd rfl (hm _)
    have hn : ∀ k : CoreSt, k.sst.ld = 0 → s.nextPc c (s.core c) k [op] = (k, (s.pc c / 8 + 1) * 8) := by
      intro k hk
      simp [State.nextPc, hr, hk, loopEnd, bundleIndex]
    have h1 : op ≠ .ret := by intro e; subst e; simp [isControl] at hr
    have h2 : op ≠ .rte := by intro e; subst e; simp [isControl] at hr
    unfold State.commit
    simp only [hx, hd, hst, List.foldl_cons, List.foldl_nil]
    simp only [hn _ hld]
    simp [h1, h2, hb, hlo]
  rw [State.issueSolo_commits h hl hc hg hf hwl, e, State.afterCore_same]
  · obtain ⟨hk, hn⟩ := s.spendCycles_spec (s.core c) { s.applyOp c (s.core c) op (s.core c) with stall := none } [op]
    refine ⟨?_, ?_, ?_, ?_, ?_, ?_⟩
    · simp only [State.setPc, State.core_setObj, State.core_setCore_same]; rw [hk]
    · simp only [State.setPc, State.core_setObj, State.core_setCore_same]; exact hn
    · intro c' hc'; simp [State.setPc, State.core_setCore_ne _ _ hc']
    · simp [State.setPc]; omega
    · apply State.ext <;> simp [State.setPc]
    · simp only [State.setPc]; exact State.sameObjsBut.setObj ((State.sameObjsBut.refl _ _).congr rfl) _ (by simp)
  · simp [State.setPc]

/-- One branch, CALL or REP beside NOP commits: everything it can do. -/
theorem State.commit_control {s : State} {c : Nat} {op : CoreOp} 
    (hm : ∀ m, op ≠ .move m) (hs : ∀ a b, op ≠ .sched a b) (hb : op ≠ .bkpt) (h2 : op ≠ .rte) (h1 : op ≠ .ret) :
    s.commit c [op] (State.schedCall c) = ((s.setCore c (s.spendCycles (s.core c) [op] { (s.nextPc c (s.core c) (s.applyOp c (s.core c) op (s.core c)) [op]).1 with stall := none })).setPc c (s.nextPc c (s.core c) (s.applyOp c (s.core c) op (s.core c)) [op]).2) := by
    have hx : xThenY [op] = [op] := by
      cases op <;> first | rfl | exact absurd rfl (hm _)
    have hd : dupLoad [op] = none := by
      unfold dupLoad
      cases op <;> first | rfl | exact absurd rfl (hm _)
    have hlo : s.loadOps c (s.core c) [op] = s := by cases op <;> first | rfl | exact absurd rfl (hm _)
    have hst : ∀ t : State, t.storeOps c (s.core c) [op] = t := by intro t; cases op <;> first | rfl | exact absurd rfl (hm _)
    unfold State.commit
    simp only [hx, hd, hst, List.foldl_cons, List.foldl_nil]
    simp [h1, h2, hb, hlo]

end Sys2Proof.Machine
end

