-- ==== Sys2Proof/Laws/Exec.lean ====
section
/-! SUPPORT. What exec is on each command: its meaning. -/

namespace Sys2Proof.Machine

@[simp] theorem exec_hallRateSample (u : Fin 18) (rate : Nat) (s : State) :
    exec (.hallRateSample u rate) s = execHallRateSample u rate s := rfl

@[simp] theorem exec_pacingPeriodEnd (u : Fin 18) (s : State) :
    exec (.pacingPeriodEnd u) s = execPacingPeriodEnd u s := rfl

@[simp] theorem exec_lowerIntervalEnd (u : Fin 18) (s : State) :
    exec (.lowerIntervalEnd u) s = execLowerIntervalEnd u s := rfl

@[simp] theorem exec_hallPaceSnap (a : Accessor) (u : Fin 18) (v : Nat) (s : State) :
    exec (.hallPaceSnap a u v) s = execHallPaceSnap a u v s := rfl

@[simp] theorem exec_hallLevelWrite (a : Accessor) (u : Fin 18) (v : Nat) (s : State) :
    exec (.hallLevelWrite a u v) s = execHallLevelWrite a u v s := rfl

@[simp] theorem exec_levelSlewDone (u : Fin 18) (s : State) :
    exec (.levelSlewDone u) s = execLevelSlewDone u s := rfl

@[simp] theorem exec_snapRailSettled (u : Fin 18) (s : State) :
    exec (.snapRailSettled u) s = execSnapRailSettled u s := rfl

@[simp] theorem exec_hallPaceEnWrite (a : Accessor) (u : Fin 18) (v : Nat) (s : State) :
    exec (.hallPaceEnWrite a u v) s = execHallPaceEnWrite a u v s := rfl

@[simp] theorem exec_paceStartHoldExpire (u : Fin 18) (s : State) :
    exec (.paceStartHoldExpire u) s = execPaceStartHoldExpire u s := rfl

@[simp] theorem exec_hallRailUndervoltage (u : Fin 18) (s : State) :
    exec (.hallRailUndervoltage u) s = execHallRailUndervoltage u s := rfl

@[simp] theorem exec_thermalSample (tj : List Int) (s : State) :
    exec (.thermalSample tj) s = execThermalSample tj s := rfl

@[simp] theorem exec_thermTripHoldEnd (s : State) :
    exec .thermTripHoldEnd s = execThermTripHoldEnd s := rfl

@[simp] theorem exec_thermWarnWrite (a : Accessor) (v : Int) (s : State) :
    exec (.thermWarnWrite a v) s = execThermWarnWrite a v s := rfl

@[simp] theorem exec_bundleIssue (c : Fin 192) (s : State) :
    exec (.bundleIssue c) s = execBundleIssue c s := rfl

@[simp] theorem exec_interruptTaken (c : Fin 192) (done : Fin 16) (debug : Bool) (s : State) :
    exec (.interruptTaken c done debug) s = execInterruptTaken c done debug s := rfl

@[simp] theorem exec_windowAsync (c : Fin 192) (s : State) :
    exec (.windowAsync c) s = execWindowAsync c s := rfl

@[simp] theorem exec_windowLoadResponse (c : Fin 192) (status : Fin 5) (elem : Fin 16) (s : State) :
    exec (.windowLoadResponse c status elem) s = execWindowLoadResponse c status elem s := rfl

@[simp] theorem exec_fence (c : Fin 192) (s : State) :
    exec (.fence c) s = execFence c s := rfl

@[simp] theorem exec_add (c : Fin 192) (d a b : Fin 16) (f : Bool) (s : State) :
    exec (.add c d a b f) s = execAdd c d a b f s := rfl

@[simp] theorem exec_sub (c : Fin 192) (d a b : Fin 16) (f : Bool) (s : State) :
    exec (.sub c d a b f) s = execSub c d a b f s := rfl

@[simp] theorem exec_mpy (c : Fin 192) (n : Fin 4) (a : Fin 16) (ha : Bool) (b : Fin 16) (hb : Bool) (sh : Fin 4) (f : Bool) (s : State) :
    exec (.mpy c n a ha b hb sh f) s = execMpy c n a ha b hb sh f s := rfl

@[simp] theorem exec_mac (c : Fin 192) (n : Fin 4) (a : Fin 16) (ha : Bool) (b : Fin 16) (hb : Bool) (sh : Fin 4) (f : Bool) (s : State) :
    exec (.mac c n a ha b hb sh f) s = execMac c n a ha b hb sh f s := rfl

@[simp] theorem exec_msu (c : Fin 192) (n : Fin 4) (a : Fin 16) (ha : Bool) (b : Fin 16) (hb : Bool) (sh : Fin 4) (f : Bool) (s : State) :
    exec (.msu c n a ha b hb sh f) s = execMsu c n a ha b hb sh f s := rfl

@[simp] theorem exec_exth (c : Fin 192) (d : Fin 16) (hd : Bool) (n : Fin 4) (sc : Fin 16) (rm : Fin 4) (f : Bool) (s : State) :
    exec (.exth c d hd n sc rm f) s = execExth c d hd n sc rm f s := rfl

@[simp] theorem exec_extw (c : Fin 192) (d : Fin 16) (n : Fin 4) (sc : Fin 16) (rm : Fin 4) (f : Bool) (s : State) :
    exec (.extw c d n sc rm f) s = execExtw c d n sc rm f s := rfl

@[simp] theorem exec_asrr (c : Fin 192) (d a n : Fin 16) (rm : Fin 4) (f : Bool) (s : State) :
    exec (.asrr c d a n rm f) s = execAsrr c d a n rm f s := rfl

@[simp] theorem exec_clr (c : Fin 192) (n : Fin 4) (s : State) :
    exec (.clr c n) s = execClr c n s := rfl

@[simp] theorem exec_bra (c : Fin 192) (cond : Fin 16) (off : BitVec 21) (s : State) :
    exec (.bra c cond off) s = execBra c cond off s := rfl

@[simp] theorem exec_call (c : Fin 192) (target : BitVec 24) (s : State) :
    exec (.call c target) s = execCall c target s := rfl

@[simp] theorem exec_ret (c : Fin 192) (s : State) :
    exec (.ret c) s = execRet c s := rfl

@[simp] theorem exec_rep (c : Fin 192) (imm : Bool) (cnt : BitVec 10) (fin : BitVec 14) (s : State) :
    exec (.rep c imm cnt fin) s = execRep c imm cnt fin s := rfl

@[simp] theorem exec_mvc (c : Fin 192) (dir : Bool) (num : BitVec 8) (n : Fin 16) (s : State) :
    exec (.mvc c dir num n) s = execMvc c dir num n s := rfl

@[simp] theorem exec_rte (c : Fin 192) (s : State) :
    exec (.rte c) s = execRte c s := rfl

@[simp] theorem exec_trap (c : Fin 192) (s : State) :
    exec (.trap c) s = execTrap c s := rfl

@[simp] theorem exec_bkpt (c : Fin 192) (s : State) :
    exec (.bkpt c) s = execBkpt c s := rfl

@[simp] theorem exec_nop (c : Fin 192) (s : State) :
    exec (.nop c) s = execNop c s := rfl

@[simp] theorem exec_fullFormMove (c : Fin 192) (w : BitVec 29) (s : State) :
    exec (.fullFormMove c w) s = execFullFormMove c w s := rfl

@[simp] theorem exec_compactMove (c : Fin 192) (w : BitVec 29) (s : State) :
    exec (.compactMove c w) s = execCompactMove c w s := rfl

@[simp] theorem exec_compactMultiplyMove (c : Fin 192) (w : BitVec 29) (s : State) :
    exec (.compactMultiplyMove c w) s = execCompactMultiplyMove c w s := rfl

@[simp] theorem exec_coreHalt (a : Accessor) (c : Fin 192) (v : Nat) (s : State) :
    exec (.coreHalt a c v) s = execCoreHalt a c v s := rfl

@[simp] theorem exec_coreResume (a : Accessor) (c : Fin 192) (v : Nat) (s : State) :
    exec (.coreResume a c v) s = execCoreResume a c v s := rfl

@[simp] theorem exec_vadd (c : Fin 192) (ty : Fin 4) (d a b : Fin 32) (hf : Fin 4) (mk zm : Bool) (rm : Fin 4) (s : State) :
    exec (.vadd c ty d a b hf mk zm rm) s = execVadd c ty d a b hf mk zm rm s := rfl

@[simp] theorem exec_vsub (c : Fin 192) (ty : Fin 4) (d a b : Fin 32) (hf : Fin 4) (mk zm : Bool) (rm : Fin 4) (s : State) :
    exec (.vsub c ty d a b hf mk zm rm) s = execVsub c ty d a b hf mk zm rm s := rfl

@[simp] theorem exec_vmin (c : Fin 192) (ty : Fin 4) (d a b : Fin 32) (hf : Fin 4) (mk zm : Bool) (rm : Fin 4) (s : State) :
    exec (.vmin c ty d a b hf mk zm rm) s = execVmin c ty d a b hf mk zm rm s := rfl

@[simp] theorem exec_vmax (c : Fin 192) (ty : Fin 4) (d a b : Fin 32) (hf : Fin 4) (mk zm : Bool) (rm : Fin 4) (s : State) :
    exec (.vmax c ty d a b hf mk zm rm) s = execVmax c ty d a b hf mk zm rm s := rfl

@[simp] theorem exec_vabs (c : Fin 192) (ty : Fin 4) (d a b : Fin 32) (hf : Fin 4) (mk zm : Bool) (rm : Fin 4) (s : State) :
    exec (.vabs c ty d a b hf mk zm rm) s = execVabs c ty d a b hf mk zm rm s := rfl

@[simp] theorem exec_vneg (c : Fin 192) (ty : Fin 4) (d a b : Fin 32) (hf : Fin 4) (mk zm : Bool) (rm : Fin 4) (s : State) :
    exec (.vneg c ty d a b hf mk zm rm) s = execVneg c ty d a b hf mk zm rm s := rfl

@[simp] theorem exec_vand (c : Fin 192) (ty : Fin 4) (d a b : Fin 32) (hf : Fin 4) (mk zm : Bool) (rm : Fin 4) (s : State) :
    exec (.vand c ty d a b hf mk zm rm) s = execVand c ty d a b hf mk zm rm s := rfl

@[simp] theorem exec_vor (c : Fin 192) (ty : Fin 4) (d a b : Fin 32) (hf : Fin 4) (mk zm : Bool) (rm : Fin 4) (s : State) :
    exec (.vor c ty d a b hf mk zm rm) s = execVor c ty d a b hf mk zm rm s := rfl

@[simp] theorem exec_vxor (c : Fin 192) (ty : Fin 4) (d a b : Fin 32) (hf : Fin 4) (mk zm : Bool) (rm : Fin 4) (s : State) :
    exec (.vxor c ty d a b hf mk zm rm) s = execVxor c ty d a b hf mk zm rm s := rfl

@[simp] theorem exec_vasrr (c : Fin 192) (ty : Fin 4) (d a b : Fin 32) (hf : Fin 4) (mk zm : Bool) (rm : Fin 4) (s : State) :
    exec (.vasrr c ty d a b hf mk zm rm) s = execVasrr c ty d a b hf mk zm rm s := rfl

@[simp] theorem exec_vshl (c : Fin 192) (ty : Fin 4) (d a b : Fin 32) (hf : Fin 4) (mk zm : Bool) (rm : Fin 4) (s : State) :
    exec (.vshl c ty d a b hf mk zm rm) s = execVshl c ty d a b hf mk zm rm s := rfl

@[simp] theorem exec_vmul (c : Fin 192) (ty : Fin 4) (d a b : Fin 32) (hf : Fin 4) (mk zm : Bool) (rm : Fin 4) (s : State) :
    exec (.vmul c ty d a b hf mk zm rm) s = execVmul c ty d a b hf mk zm rm s := rfl

@[simp] theorem exec_vcmul (c : Fin 192) (ty : Fin 4) (d a b : Fin 32) (hf : Fin 4) (mk zm : Bool) (rm : Fin 4) (s : State) :
    exec (.vcmul c ty d a b hf mk zm rm) s = execVcmul c ty d a b hf mk zm rm s := rfl

@[simp] theorem exec_vmpy (c : Fin 192) (ty : Fin 4) (d : Fin 4) (a b : Fin 32) (hf : Fin 4) (mk cj : Bool) (sh : Fin 4) (s : State) :
    exec (.vmpy c ty d a b hf mk cj sh) s = execVmpy c ty d a b hf mk cj sh s := rfl

@[simp] theorem exec_vmac (c : Fin 192) (ty : Fin 4) (d : Fin 4) (a b : Fin 32) (hf : Fin 4) (mk cj : Bool) (sh : Fin 4) (s : State) :
    exec (.vmac c ty d a b hf mk cj sh) s = execVmac c ty d a b hf mk cj sh s := rfl

@[simp] theorem exec_vmsu (c : Fin 192) (ty : Fin 4) (d : Fin 4) (a b : Fin 32) (hf : Fin 4) (mk cj : Bool) (sh : Fin 4) (s : State) :
    exec (.vmsu c ty d a b hf mk cj sh) s = execVmsu c ty d a b hf mk cj sh s := rfl

@[simp] theorem exec_vaclr (c : Fin 192) (d : Fin 4) (mk : Bool) (s : State) :
    exec (.vaclr c d mk) s = execVaclr c d mk s := rfl

@[simp] theorem exec_vexth (c : Fin 192) (ty : Fin 4) (d : Fin 32) (a : Fin 4) (sc : Fin 16) (mk : Bool) (rm : Fin 4) (s : State) :
    exec (.vexth c ty d a sc mk rm) s = execVexth c ty d a sc mk rm s := rfl

@[simp] theorem exec_vcmpeq (c : Fin 192) (ty : Fin 4) (a b : Fin 32) (hf : Fin 4) (mk : Bool) (s : State) :
    exec (.vcmpeq c ty a b hf mk) s = execVcmpeq c ty a b hf mk s := rfl

@[simp] theorem exec_vcmplt (c : Fin 192) (ty : Fin 4) (a b : Fin 32) (hf : Fin 4) (mk : Bool) (s : State) :
    exec (.vcmplt c ty a b hf mk) s = execVcmplt c ty a b hf mk s := rfl

@[simp] theorem exec_vcmple (c : Fin 192) (ty : Fin 4) (a b : Fin 32) (hf : Fin 4) (mk : Bool) (s : State) :
    exec (.vcmple c ty a b hf mk) s = execVcmple c ty a b hf mk s := rfl

@[simp] theorem exec_vperm (c : Fin 192) (ty : Fin 4) (d a b : Fin 32) (hf : Fin 4) (mk zm : Bool) (rm : Fin 4) (s : State) :
    exec (.vperm c ty d a b hf mk zm rm) s = execVperm c ty d a b hf mk zm rm s := rfl

@[simp] theorem exec_vzipl (c : Fin 192) (ty : Fin 4) (d a b : Fin 32) (hf : Fin 4) (mk zm : Bool) (rm : Fin 4) (s : State) :
    exec (.vzipl c ty d a b hf mk zm rm) s = execVzipl c ty d a b hf mk zm rm s := rfl

@[simp] theorem exec_vziph (c : Fin 192) (ty : Fin 4) (d a b : Fin 32) (hf : Fin 4) (mk zm : Bool) (rm : Fin 4) (s : State) :
    exec (.vziph c ty d a b hf mk zm rm) s = execVziph c ty d a b hf mk zm rm s := rfl

@[simp] theorem exec_vuzpe (c : Fin 192) (ty : Fin 4) (d a b : Fin 32) (hf : Fin 4) (mk zm : Bool) (rm : Fin 4) (s : State) :
    exec (.vuzpe c ty d a b hf mk zm rm) s = execVuzpe c ty d a b hf mk zm rm s := rfl

@[simp] theorem exec_vuzpo (c : Fin 192) (ty : Fin 4) (d a b : Fin 32) (hf : Fin 4) (mk zm : Bool) (rm : Fin 4) (s : State) :
    exec (.vuzpo c ty d a b hf mk zm rm) s = execVuzpo c ty d a b hf mk zm rm s := rfl

@[simp] theorem exec_vdup (c : Fin 192) (ty : Fin 4) (d a b : Fin 32) (hf : Fin 4) (mk zm : Bool) (rm : Fin 4) (s : State) :
    exec (.vdup c ty d a b hf mk zm rm) s = execVdup c ty d a b hf mk zm rm s := rfl

@[simp] theorem exec_vrsum (c : Fin 192) (ty : Fin 4) (d : Fin 4) (a : Fin 32) (hf : Fin 4) (mk : Bool) (s : State) :
    exec (.vrsum c ty d a hf mk) s = execVrsum c ty d a hf mk s := rfl

@[simp] theorem exec_vrmax (c : Fin 192) (ty : Fin 4) (d : Fin 16) (a : Fin 32) (hf : Fin 4) (mk : Bool) (s : State) :
    exec (.vrmax c ty d a hf mk) s = execVrmax c ty d a hf mk s := rfl

@[simp] theorem exec_vrmin (c : Fin 192) (ty : Fin 4) (d : Fin 16) (a : Fin 32) (hf : Fin 4) (mk : Bool) (s : State) :
    exec (.vrmin c ty d a hf mk) s = execVrmin c ty d a hf mk s := rfl

@[simp] theorem exec_vgather (c : Fin 192) (ty : Fin 4) (d a : Fin 32) (an : Fin 8) (sc : Fin 4) (mk : Bool) (s : State) :
    exec (.vgather c ty d a an sc mk) s = execVgather c ty d a an sc mk s := rfl

@[simp] theorem exec_vscatter (c : Fin 192) (ty : Fin 4) (d a : Fin 32) (an : Fin 8) (sc : Fin 4) (mk : Bool) (s : State) :
    exec (.vscatter c ty d a an sc mk) s = execVscatter c ty d a an sc mk s := rfl

@[simp] theorem exec_vstr (c : Fin 192) (d : Fin 16) (s : State) :
    exec (.vstr c d) s = execVstr c d s := rfl

@[simp] theorem exec_vstw (c : Fin 192) (d : Fin 16) (s : State) :
    exec (.vstw c d) s = execVstw c d s := rfl

@[simp] theorem exec_schSwitch (c : Fin 192) (d a : Fin 16) (s : State) :
    exec (.schSwitch c d a) s = execSchSwitch c d a s := rfl

@[simp] theorem exec_schYield (c : Fin 192) (d a : Fin 16) (s : State) :
    exec (.schYield c d a) s = execSchYield c d a s := rfl

@[simp] theorem exec_schExit (c : Fin 192) (d a : Fin 16) (s : State) :
    exec (.schExit c d a) s = execSchExit c d a s := rfl

@[simp] theorem exec_schCreate (c : Fin 192) (d a : Fin 16) (s : State) :
    exec (.schCreate c d a) s = execSchCreate c d a s := rfl

@[simp] theorem exec_schKill (c : Fin 192) (d a : Fin 16) (s : State) :
    exec (.schKill c d a) s = execSchKill c d a s := rfl

@[simp] theorem exec_schSetPrio (c : Fin 192) (d a : Fin 16) (s : State) :
    exec (.schSetPrio c d a) s = execSchSetPrio c d a s := rfl

@[simp] theorem exec_schDelay (c : Fin 192) (d a : Fin 16) (s : State) :
    exec (.schDelay c d a) s = execSchDelay c d a s := rfl

@[simp] theorem exec_schDelayUntil (c : Fin 192) (d a : Fin 16) (s : State) :
    exec (.schDelayUntil c d a) s = execSchDelayUntil c d a s := rfl

@[simp] theorem exec_schSemTake (c : Fin 192) (d a : Fin 16) (s : State) :
    exec (.schSemTake c d a) s = execSchSemTake c d a s := rfl

@[simp] theorem exec_schSemTry (c : Fin 192) (d a : Fin 16) (s : State) :
    exec (.schSemTry c d a) s = execSchSemTry c d a s := rfl

@[simp] theorem exec_schSemGive (c : Fin 192) (d a : Fin 16) (s : State) :
    exec (.schSemGive c d a) s = execSchSemGive c d a s := rfl

@[simp] theorem exec_schSemInit (c : Fin 192) (d a : Fin 16) (s : State) :
    exec (.schSemInit c d a) s = execSchSemInit c d a s := rfl

@[simp] theorem exec_schMsgSend (c : Fin 192) (d a : Fin 16) (s : State) :
    exec (.schMsgSend c d a) s = execSchMsgSend c d a s := rfl

@[simp] theorem exec_schMsgTrySend (c : Fin 192) (d a : Fin 16) (s : State) :
    exec (.schMsgTrySend c d a) s = execSchMsgTrySend c d a s := rfl

@[simp] theorem exec_schMsgRecv (c : Fin 192) (d a : Fin 16) (s : State) :
    exec (.schMsgRecv c d a) s = execSchMsgRecv c d a s := rfl

@[simp] theorem exec_schMsgTryRecv (c : Fin 192) (d a : Fin 16) (s : State) :
    exec (.schMsgTryRecv c d a) s = execSchMsgTryRecv c d a s := rfl

@[simp] theorem exec_schQueueSet (c : Fin 192) (d a : Fin 16) (s : State) :
    exec (.schQueueSet c d a) s = execSchQueueSet c d a s := rfl

@[simp] theorem exec_schSoftInt (c : Fin 192) (d a : Fin 16) (s : State) :
    exec (.schSoftInt c d a) s = execSchSoftInt c d a s := rfl

@[simp] theorem exec_schTrace (c : Fin 192) (d a : Fin 16) (s : State) :
    exec (.schTrace c d a) s = execSchTrace c d a s := rfl

@[simp] theorem exec_schTick (h : Fin 16) (s : State) :
    exec (.schTick h) s = execSchTick h s := rfl

@[simp] theorem exec_schRemoteOp (h src : Fin 16) (s : State) :
    exec (.schRemoteOp h src) s = execSchRemoteOp h src s := rfl

@[simp] theorem exec_schWdCheck (h : Fin 16) (s : State) :
    exec (.schWdCheck h) s = execSchWdCheck h s := rfl

@[simp] theorem exec_schTickNsWrite (a : Accessor) (h : Fin 16) (v : Nat) (s : State) :
    exec (.schTickNsWrite a h v) s = execSchTickNsWrite a h v s := rfl

@[simp] theorem exec_schPmemLoad (a : Accessor) (h : Fin 16) (v : Nat) (s : State) :
    exec (.schPmemLoad a h v) s = execSchPmemLoad a h v s := rfl

@[simp] theorem exec_pmemCoreLoad (c : Fin 192) (s : State) :
    exec (.pmemCoreLoad c) s = execPmemCoreLoad c s := rfl

@[simp] theorem exec_carrierBuildRelease (c : Fin 768) (slot : Int) (s : State) :
    exec (.carrierBuildRelease c slot) s = execCarrierBuildRelease c slot s := rfl

@[simp] theorem exec_ulFrameSteering (f : UlFrame) (s : State) :
    exec (.ulFrameSteering f) s = execUlFrameSteering f s := rfl

@[simp] theorem exec_ulWindowClose (k : Fin 6144) (s : State) :
    exec (.ulWindowClose k) s = execUlWindowClose k s := rfl

@[simp] theorem exec_ulReleaseAtDeadline (k : Fin 8192) (s : State) :
    exec (.ulReleaseAtDeadline k) s = execUlReleaseAtDeadline k s := rfl

@[simp] theorem exec_ulGainSet (h : Fin 16) (s : State) :
    exec (.ulGainSet h) s = execUlGainSet h s := rfl

@[simp] theorem exec_ulEngineDescriptor (h : Fin 16) (e : Fin 4) (s : State) :
    exec (.ulEngineDescriptor h e) s = execUlEngineDescriptor h e s := rfl

@[simp] theorem exec_arm (h : Fin 16) (s : State) :
    exec (.arm h) s = execArm h s := rfl

@[simp] theorem exec_ulRelease (h : Fin 16) (s : State) :
    exec (.ulRelease h) s = execUlRelease h s := rfl

@[simp] theorem exec_chest (h : Fin 16) (s : State) :
    exec (.chest h) s = execChest h s := rfl

@[simp] theorem exec_detect (h : Fin 16) (s : State) :
    exec (.detect h) s = execDetect h s := rfl

@[simp] theorem exec_weights (h : Fin 16) (s : State) :
    exec (.weights h) s = execWeights h s := rfl

@[simp] theorem exec_fft (h : Fin 16) (s : State) :
    exec (.fft h) s = execFft h s := rfl

@[simp] theorem exec_outer (h : Fin 16) (s : State) :
    exec (.outer h) s = execOuter h s := rfl

@[simp] theorem exec_outerAbandon (h : Fin 16) (s : State) :
    exec (.outerAbandon h) s = execOuterAbandon h s := rfl

@[simp] theorem exec_praEvaluation (e : Fin 256) (slot : Int) (rep : Nat) (prof : PraProfile) (s : State) :
    exec (.praEvaluation e slot rep prof) s = execPraEvaluation e slot rep prof s := rfl

@[simp] theorem exec_dec (h : Fin 16) (s : State) :
    exec (.dec h) s = execDec h s := rfl

@[simp] theorem exec_decBlockStart (h : Fin 16) (s : State) :
    exec (.decBlockStart h) s = execDecBlockStart h s := rfl

@[simp] theorem exec_harqStore (h : Fin 16) (bad : List Nat) (s : State) :
    exec (.harqStore h bad) s = execHarqStore h bad s := rfl

@[simp] theorem exec_enc (h : Fin 16) (s : State) :
    exec (.enc h) s = execEnc h s := rfl

@[simp] theorem exec_polar (h : Fin 16) (fin : Option (Fin 2)) (s : State) :
    exec (.polar h fin) s = execPolar h fin s := rfl

@[simp] theorem exec_turbo (h : Fin 16) (fin : Bool) (s : State) :
    exec (.turbo h fin) s = execTurbo h fin s := rfl

@[simp] theorem exec_harqFree (h : Fin 16) (s : State) :
    exec (.harqFree h) s = execHarqFree h s := rfl

@[simp] theorem exec_build (h : Fin 16) (s : State) :
    exec (.build h) s = execBuild h s := rfl

@[simp] theorem exec_shape (h : Fin 16) (s : State) :
    exec (.shape h) s = execShape h s := rfl

@[simp] theorem exec_tdTailAlone (c : Fin 768) (slot : Int) (s : State) :
    exec (.tdTailAlone c slot) s = execTdTailAlone c slot s := rfl

@[simp] theorem exec_tdMaskUnmute (a : Accessor) (c : Fin 768) (v : Nat) (s : State) :
    exec (.tdMaskUnmute a c v) s = execTdMaskUnmute a c v s := rfl

@[simp] theorem exec_send (h : Fin 16) (s : State) :
    exec (.send h) s = execSend h s := rfl

@[simp] theorem exec_ctxEnableWrite (a : Accessor) (v : Nat) (s : State) :
    exec (.ctxEnableWrite a v) s = execCtxEnableWrite a v s := rfl

@[simp] theorem exec_ctxClearDone (s : State) :
    exec .ctxClearDone s = execCtxClearDone s := rfl

@[simp] theorem exec_lookup (h : Fin 16) (s : State) :
    exec (.lookup h) s = execLookup h s := rfl

@[simp] theorem exec_insert (h : Fin 16) (s : State) :
    exec (.insert h) s = execInsert h s := rfl

@[simp] theorem exec_update (h : Fin 16) (s : State) :
    exec (.update h) s = execUpdate h s := rfl

@[simp] theorem exec_delete (h : Fin 16) (s : State) :
    exec (.delete h) s = execDelete h s := rfl

@[simp] theorem exec_touch (h : Fin 16) (s : State) :
    exec (.touch h) s = execTouch h s := rfl

@[simp] theorem exec_ctxSweepBucket (s : State) :
    exec .ctxSweepBucket s = execCtxSweepBucket s := rfl

@[simp] theorem exec_ctxTouchMirrorBatch (s : State) :
    exec .ctxTouchMirrorBatch s = execCtxTouchMirrorBatch s := rfl

@[simp] theorem exec_galleryPacketDelivery (e : GalStep) (s : State) :
    exec (.galleryPacketDelivery e) s = execGalleryPacketDelivery e s := rfl

@[simp] theorem exec_arbRound (k : Fin 573) (req : Nat) (mid : Bool) (s : State) :
    exec (.arbRound k req mid) s = execArbRound k req mid s := rfl

@[simp] theorem exec_galleryHoldRelease (h : Fin 16) (s : State) :
    exec (.galleryHoldRelease h) s = execGalleryHoldRelease h s := rfl

@[simp] theorem exec_arbFreezeWrite (a : Accessor) (k : Fin 253) (v : Nat) (s : State) :
    exec (.arbFreezeWrite a k v) s = execArbFreezeWrite a k v s := rfl

@[simp] theorem exec_arbBaseWrite (a : Accessor) (k : Fin 253) (i : Fin 32) (v : Nat) (s : State) :
    exec (.arbBaseWrite a k ix v) s = execArbBaseWrite a k ix v s := rfl

@[simp] theorem exec_ddrTrainingEnd (found : List DdrTrain) (s : State) :
    exec (.ddrTrainingEnd found) s = execDdrTrainingEnd found s := rfl

@[simp] theorem exec_memorySweep (m : Nat) (s : State) :
    exec (.memorySweep m) s = execMemorySweep m s := rfl

@[simp] theorem exec_demandRead (l : MemLoc) (up : Nat) (s : State) :
    exec (.demandRead l up) s = execDemandRead l up s := rfl

@[simp] theorem exec_zeroSweepLine (c : Fin 8) (s : State) :
    exec (.zeroSweepLine c) s = execZeroSweepLine c s := rfl

@[simp] theorem exec_ddrBlockFill (a : Nat) (data : List Byte) (s : State) :
    exec (.ddrBlockFill a data) s = execDdrBlockFill a data s := rfl

@[simp] theorem exec_scrubLine (m : Fin 26) (up : Upsets) (s : State) :
    exec (.scrubLine m up) s = execScrubLine m up s := rfl

@[simp] theorem exec_scrubHotRewrite (m : Fin 26) (up : Upsets) (s : State) :
    exec (.scrubHotRewrite m up) s = execScrubHotRewrite m up s := rfl

@[simp] theorem exec_scrubLate (m : Fin 26) (s : State) :
    exec (.scrubLate m) s = execScrubLate m s := rfl

@[simp] theorem exec_terraceRowRepair (m : Fin 26) (i : Fin 64) (s : State) :
    exec (.terraceRowRepair m ix) s = execTerraceRowRepair m ix s := rfl

@[simp] theorem exec_ddrPprRepair (c : Fin 8) (i : Fin 64) (s : State) :
    exec (.ddrPprRepair c ix) s = execDdrPprRepair c ix s := rfl

@[simp] theorem exec_eccLogClear (a : Accessor) (m : Fin 26) (v : Nat) (s : State) :
    exec (.eccLogClear a m v) s = execEccLogClear a m v s := rfl

@[simp] theorem exec_laneQuadModeWrite (a : Accessor) (q : Fin 14) (v : Nat) (s : State) :
    exec (.laneQuadModeWrite a q v) s = execLaneQuadModeWrite a q v s := rfl

@[simp] theorem exec_laneQuadFecWrite (a : Accessor) (q : Fin 14) (v : Nat) (s : State) :
    exec (.laneQuadFecWrite a q v) s = execLaneQuadFecWrite a q v s := rfl

@[simp] theorem exec_laneCdrLock (l : Fin 56) (s : State) :
    exec (.laneCdrLock l) s = execLaneCdrLock l s := rfl

@[simp] theorem exec_laneCdrLoss (l : Fin 56) (s : State) :
    exec (.laneCdrLoss l) s = execLaneCdrLoss l s := rfl

@[simp] theorem exec_laneBlockLockLoss (l : Fin 56) (s : State) :
    exec (.laneBlockLockLoss l) s = execLaneBlockLockLoss l s := rfl

@[simp] theorem exec_autoNegotiation (l : Fin 48) (modes : Nat) (s : State) :
    exec (.autoNegotiation l modes) s = execAutoNegotiation l modes s := rfl

@[simp] theorem exec_laneMarkerRx (l : Fin 8) (w : BitVec 64) (bip : BitVec 8) (skew : Nat) (s : State) :
    exec (.laneMarkerRx l w bip skew) s = execLaneMarkerRx l w bip skew s := rfl

@[simp] theorem exec_laneTrainingTimeout (l : Fin 56) (s : State) :
    exec (.laneTrainingTimeout l) s = execLaneTrainingTimeout l s := rfl

@[simp] theorem exec_laneEyeWindowEnd (l : Fin 56) (h a : Nat) (rx : List Bool) (slip : Bool) (ctle : Nat) (rise : Option Nat) (sym good bad : Nat) (s : State) :
    exec (.laneEyeWindowEnd l h a rx slip ctle rise sym good bad) s = execLaneEyeWindowEnd l h a rx slip ctle rise sym good bad s := rfl

@[simp] theorem exec_laneAdaptPeriodEnd (l : Fin 56) (s : State) :
    exec (.laneAdaptPeriodEnd l) s = execLaneAdaptPeriodEnd l s := rfl

@[simp] theorem exec_laneTxFfeWrite (a : Accessor) (l : Fin 56) (v : Nat) (s : State) :
    exec (.laneTxFfeWrite a l v) s = execLaneTxFfeWrite a l v s := rfl

@[simp] theorem exec_laneLoopbackWrite (a : Accessor) (l : Fin 56) (v : Nat) (s : State) :
    exec (.laneLoopbackWrite a l v) s = execLaneLoopbackWrite a l v s := rfl

@[simp] theorem exec_lanePrbsTxWrite (a : Accessor) (l : Fin 56) (v : Nat) (s : State) :
    exec (.lanePrbsTxWrite a l v) s = execLanePrbsTxWrite a l v s := rfl

@[simp] theorem exec_lanePrbsChkWrite (a : Accessor) (l : Fin 56) (v : Nat) (s : State) :
    exec (.lanePrbsChkWrite a l v) s = execLanePrbsChkWrite a l v s := rfl

@[simp] theorem exec_lanePrbsClear (a : Accessor) (l : Fin 56) (v : Nat) (s : State) :
    exec (.lanePrbsClear a l v) s = execLanePrbsClear a l v s := rfl

@[simp] theorem exec_ethFrameReceive (p : Fin 48) (f : RxFrame) (occ : List Nat) (s : State) :
    exec (.ethFrameReceive p f occ) s = execEthFrameReceive p f occ s := rfl

@[simp] theorem exec_ethTxInsert (p : Fin 48) (i : Fin 20) (s : State) :
    exec (.ethTxInsert p ix) s = execEthTxInsert p ix s := rfl

@[simp] theorem exec_ethTxFetch (p : Fin 48) (q : Fin 8) (i : Nat) (body : List Byte) (s : State) :
    exec (.ethTxFetch p q ix body) s = execEthTxFetch p q ix body s := rfl

@[simp] theorem exec_ethTxSelect (p : Fin 48) (s : State) :
    exec (.ethTxSelect p) s = execEthTxSelect p s := rfl

@[simp] theorem exec_ethTxFrameEnd (p : Fin 48) (s : State) :
    exec (.ethTxFrameEnd p) s = execEthTxFrameEnd p s := rfl

@[simp] theorem exec_ethPauseRefresh (p : Fin 48) (occ : List Nat) (s : State) :
    exec (.ethPauseRefresh p occ) s = execEthPauseRefresh p occ s := rfl

@[simp] theorem exec_ethPauseExpire (p : Fin 48) (q : Fin 8) (s : State) :
    exec (.ethPauseExpire p q) s = execEthPauseExpire p q s := rfl

@[simp] theorem exec_ethRxRingDoorbell (fn r : Fin 64) (v : Nat) (addrs : List Nat) (s : State) :
    exec (.ethRxRingDoorbell fn r v addrs) s = execEthRxRingDoorbell fn r v addrs s := rfl

@[simp] theorem exec_ethTxRingDoorbell (fn r : Fin 64) (v : Nat) (descs : List (Nat × List Byte)) (s : State) :
    exec (.ethTxRingDoorbell fn r v descs) s = execEthTxRingDoorbell fn r v descs s := rfl

@[simp] theorem exec_mgmtFrameReceive (f : RxFrame) (s : State) :
    exec (.mgmtFrameReceive f) s = execMgmtFrameReceive f s := rfl

@[simp] theorem exec_ptpMessageReceive (p : Fin 48) (m : PtpMsg) (s : State) :
    exec (.ptpMessageReceive p m) s = execPtpMessageReceive p m s := rfl

@[simp] theorem exec_ptpSyncReceive (p : Fin 48) (t1 t2 t3 t4 cSync cDreq age synce : Int) (s : State) :
    exec (.ptpSyncReceive p t1 t2 t3 t4 cSync cDreq age synce) s = execPtpSyncReceive p t1 t2 t3 t4 cSync cDreq age synce s := rfl

@[simp] theorem exec_ptpTxTimer (p : Fin 48) (kind : Fin 3) (s : State) :
    exec (.ptpTxTimer p kind) s = execPtpTxTimer p kind s := rfl

@[simp] theorem exec_announceTimeout (p : Fin 48) (s : State) :
    exec (.announceTimeout p) s = execAnnounceTimeout p s := rfl

@[simp] theorem exec_timeLockHoldExpire (s : State) :
    exec .timeLockHoldExpire s = execTimeLockHoldExpire s := rfl

@[simp] theorem exec_holdoverMaxExpire (s : State) :
    exec .holdoverMaxExpire s = execHoldoverMaxExpire s := rfl

@[simp] theorem exec_timeSet (a : Accessor) (v : Nat) (s : State) :
    exec (.timeSet a v) s = execTimeSet a v s := rfl

@[simp] theorem exec_synceDisqualify (rho : Int) (s : State) :
    exec (.synceDisqualify rho) s = execSynceDisqualify rho s := rfl

@[simp] theorem exec_ppsInEdge (s : State) :
    exec .ppsInEdge s = execPpsInEdge s := rfl

@[simp] theorem exec_ppsLoss (s : State) :
    exec .ppsLoss s = execPpsLoss s := rfl

@[simp] theorem exec_ppsOutSecond (s : State) :
    exec .ppsOutSecond s = execPpsOutSecond s := rfl

@[simp] theorem exec_timeTrigWrite (a : Accessor) (n : Fin 16) (v : Nat) (s : State) :
    exec (.timeTrigWrite a n v) s = execTimeTrigWrite a n v s := rfl

@[simp] theorem exec_timeTrigFire (n : Fin 16) (s : State) :
    exec (.timeTrigFire n) s = execTimeTrigFire n s := rfl

@[simp] theorem exec_jrTailDoorbell (fn : Fin 64) (r : Fin 256) (off wid : Nat) (v : BitVec 64) (s : State) :
    exec (.jrTailDoorbell fn r off wid v) s = execJrTailDoorbell fn r off wid v s := rfl

@[simp] theorem exec_crHeadDoorbell (fn : Fin 64) (r : Fin 256) (v : BitVec 64) (s : State) :
    exec (.crHeadDoorbell fn r v) s = execCrHeadDoorbell fn r v s := rfl

@[simp] theorem exec_jobAcceptance (r : Fin 256) (ok : Bool) (desc : BitVec 512) (prach : Bool) (s : State) :
    exec (.jobAcceptance r ok desc prach) s = execJobAcceptance r ok desc prach s := rfl

@[simp] theorem exec_jobStart (r : Fin 256) (seq : Nat) (rd : JobRead) (s : State) :
    exec (.jobStart r seq rd) s = execJobStart r seq rd s := rfl

@[simp] theorem exec_jobExpire (r : Fin 256) (seq : Nat) (s : State) :
    exec (.jobExpire r seq) s = execJobExpire r seq s := rfl

@[simp] theorem exec_completionGate (r : Fin 256) (seq : Nat) (msgs : List (List Byte)) (s : State) :
    exec (.completionGate r seq msgs) s = execCompletionGate r seq msgs s := rfl

@[simp] theorem exec_completionRecordWrite (r : Fin 256) (s : State) :
    exec (.completionRecordWrite r) s = execCompletionRecordWrite r s := rfl

@[simp] theorem exec_jrCoalesceExpire (r : Fin 256) (s : State) :
    exec (.jrCoalesceExpire r) s = execJrCoalesceExpire r s := rfl

@[simp] theorem exec_jrEnableWrite (a : Accessor) (r : Fin 256) (v : Nat) (s : State) :
    exec (.jrEnableWrite a r v) s = execJrEnableWrite a r v s := rfl

@[simp] theorem exec_jrResume (a : Accessor) (r : Fin 256) (v : Nat) (s : State) :
    exec (.jrResume a r v) s = execJrResume a r v s := rfl

@[simp] theorem exec_functionLevelReset (fn : Fin 64) (s : State) :
    exec (.functionLevelReset fn) s = execFunctionLevelReset fn s := rfl

@[simp] theorem exec_pcieLinkDown (link : Bool) (fn : Fin 64) (s : State) :
    exec (.pcieLinkDown link fn) s = execPcieLinkDown link fn s := rfl

@[simp] theorem exec_bar4Access (fn : Fin 64) (off : Nat) (wr : Bool) (n : Nat) (data : List Byte) (s : State) :
    exec (.bar4Access fn off wr n data) s = execBar4Access fn off wr n data s := rfl

@[simp] theorem exec_bar0Read (fn : Fin 64) (addr : BitVec 24) (off wid slots : Nat) (s : State) :
    exec (.bar0Read fn addr off wid slots) s = execBar0Read fn addr off wid slots s := rfl

@[simp] theorem exec_dictWrite (a : Accessor) (addr : BitVec 24) (off wid : Nat) (v : BitVec 64) (tie : Bool) (s : State) :
    exec (.dictWrite a addr off wid v tie) s = execDictWrite a addr off wid v tie s := rfl

@[simp] theorem exec_dictWriteAck (s : State) :
    exec .dictWriteAck s = execDictWriteAck s := rfl

@[simp] theorem exec_winSnapshot (fn : Fin 64) (s : State) :
    exec (.winSnapshot fn) s = execWinSnapshot fn s := rfl

@[simp] theorem exec_winWrite (fn : Fin 64) (s : State) :
    exec (.winWrite fn) s = execWinWrite fn s := rfl

@[simp] theorem exec_winGroupRead (fn : Fin 64) (s : State) :
    exec (.winGroupRead fn) s = execWinGroupRead fn s := rfl

@[simp] theorem exec_winReadStaged (fn : Fin 64) (s : State) :
    exec (.winReadStaged fn) s = execWinReadStaged fn s := rfl

@[simp] theorem exec_napRequest (p : Fin 49) (l : List Byte) (s : State) :
    exec (.napRequest p l) s = execNapRequest p l s := rfl

@[simp] theorem exec_napRead (a : Accessor) (addr : BitVec 24) (s : State) :
    exec (.napRead a addr) s = execNapRead a addr s := rfl

@[simp] theorem exec_napWrite (a : Accessor) (addr : BitVec 24) (v : BitVec 64) (s : State) :
    exec (.napWrite a addr v) s = execNapWrite a addr v s := rfl

@[simp] theorem exec_napDomainRead (a : Accessor) (addr : BitVec 24) (off n : Nat) (s : State) :
    exec (.napDomainRead a addr off n) s = execNapDomainRead a addr off n s := rfl

@[simp] theorem exec_napDomainWrite (a : Accessor) (addr : BitVec 24) (off : Nat) (data : List Byte) (fin : Bool) (s : State) :
    exec (.napDomainWrite a addr off data fin) s = execNapDomainWrite a addr off data fin s := rfl

@[simp] theorem exec_napReadStaged (a : Accessor) (addr : BitVec 24) (s : State) :
    exec (.napReadStaged a addr) s = execNapReadStaged a addr s := rfl

@[simp] theorem exec_arpRequest (p : Fin 49) (l : List Byte) (s : State) :
    exec (.arpRequest p l) s = execArpRequest p l s := rfl

@[simp] theorem exec_i3cPrivateWrite (d : List Byte) (s : State) :
    exec (.i3cPrivateWrite d) s = execI3cPrivateWrite d s := rfl

@[simp] theorem exec_i3cPrivateRead (s : State) :
    exec .i3cPrivateRead s = execI3cPrivateRead s := rfl

@[simp] theorem exec_entdaa (da : Fin 128) (s : State) :
    exec (.entdaa da) s = execEntdaa da s := rfl

@[simp] theorem exec_setdasa (sa da : Fin 128) (s : State) :
    exec (.setdasa sa da) s = execSetdasa sa da s := rfl

@[simp] theorem exec_rstdaa (s : State) :
    exec .rstdaa s = execRstdaa s := rfl

@[simp] theorem exec_getpid (s : State) :
    exec .getpid s = execGetpid s := rfl

@[simp] theorem exec_getbcr (s : State) :
    exec .getbcr s = execGetbcr s := rfl

@[simp] theorem exec_getdcr (s : State) :
    exec .getdcr s = execGetdcr s := rfl

@[simp] theorem exec_getstatus (s : State) :
    exec .getstatus s = execGetstatus s := rfl

@[simp] theorem exec_enec (ev : BitVec 8) (s : State) :
    exec (.enec ev) s = execEnec ev s := rfl

@[simp] theorem exec_disec (ev : BitVec 8) (s : State) :
    exec (.disec ev) s = execDisec ev s := rfl

@[simp] theorem exec_stageCommit (a : Accessor) (k : Fin 64) (v : BitVec 64) (place : List (Nat × Nat)) (s : State) :
    exec (.stageCommit a k v place) s = execStageCommit a k v place s := rfl

@[simp] theorem exec_stageCancel (a : Accessor) (k : Fin 64) (v : Nat) (s : State) :
    exec (.stageCancel a k v) s = execStageCancel a k v s := rfl

@[simp] theorem exec_stageCommitApply (s : State) :
    exec .stageCommitApply s = execStageCommitApply s := rfl

@[simp] theorem exec_pwrReqS2 (a : Accessor) (n : Nat) (s : State) :
    exec (.pwrReqS2 a n) s = execPwrReqS2 a n s := rfl

@[simp] theorem exec_pwrReqS3 (a : Accessor) (n : Nat) (s : State) :
    exec (.pwrReqS3 a n) s = execPwrReqS3 a n s := rfl

@[simp] theorem exec_pwrReqS4 (a : Accessor) (n : Nat) (s : State) :
    exec (.pwrReqS4 a n) s = execPwrReqS4 a n s := rfl

@[simp] theorem exec_pwrReqWake (a : Accessor) (s : State) :
    exec (.pwrReqWake a) s = execPwrReqWake a s := rfl

@[simp] theorem exec_pwrGate (a : Accessor) (units : BitVec 18) (n : Nat) (s : State) :
    exec (.pwrGate a units n) s = execPwrGate a units n s := rfl

@[simp] theorem exec_pwrUngate (a : Accessor) (units : BitVec 18) (s : State) :
    exec (.pwrUngate a units) s = execPwrUngate a units s := rfl

@[simp] theorem exec_pwrDelayExpire (n : Nat) (s : State) :
    exec (.pwrDelayExpire n) s = execPwrDelayExpire n s := rfl

@[simp] theorem exec_pwrStateReached (s : State) :
    exec .pwrStateReached s = execPwrStateReached s := rfl

@[simp] theorem exec_wakeNAsserted (s : State) :
    exec .wakeNAsserted s = execWakeNAsserted s := rfl

@[simp] theorem exec_pwrWakeAtReached (s : State) :
    exec .pwrWakeAtReached s = execPwrWakeAtReached s := rfl

@[simp] theorem exec_powerExit (s : State) :
    exec .powerExit s = execPowerExit s := rfl

@[simp] theorem exec_startLadderStep (iin osc errA errB : Nat) (s : State) :
    exec (.startLadderStep iin osc errA errB) s = execStartLadderStep iin osc errA errB s := rfl

@[simp] theorem exec_vinRise (mv : Nat) (s : State) :
    exec (.vinRise mv) s = execVinRise mv s := rfl

@[simp] theorem exec_vinLoss (mv : Nat) (s : State) :
    exec (.vinLoss mv) s = execVinLoss mv s := rfl

@[simp] theorem exec_vinWarnCrossing (mv ma : Nat) (s : State) :
    exec (.vinWarnCrossing mv ma) s = execVinWarnCrossing mv ma s := rfl

@[simp] theorem exec_pwrEnFall (s : State) :
    exec .pwrEnFall s = execPwrEnFall s := rfl

@[simp] theorem exec_pwrEnRise (s : State) :
    exec .pwrEnRise s = execPwrEnRise s := rfl

@[simp] theorem exec_l1Copy (s : State) :
    exec .l1Copy s = execL1Copy s := rfl

@[simp] theorem exec_shRollbackSet (a : Accessor) (v : Nat) (s : State) :
    exec (.shRollbackSet a v) s = execShRollbackSet a v s := rfl

@[simp] theorem exec_shOtpRevoke (a : Accessor) (v : Nat) (s : State) :
    exec (.shOtpRevoke a v) s = execShOtpRevoke a v s := rfl

@[simp] theorem exec_shFlashErase (a : Accessor) (s : State) :
    exec (.shFlashErase a) s = execShFlashErase a s := rfl

@[simp] theorem exec_shFlashProgram (a : Accessor) (s : State) :
    exec (.shFlashProgram a) s = execShFlashProgram a s := rfl

@[simp] theorem exec_shFlashCheck (a : Accessor) (err : Nat) (s : State) :
    exec (.shFlashCheck a err) s = execShFlashCheck a err s := rfl

@[simp] theorem exec_shWatchTableWrite (a : Accessor) (data : List Byte) (s : State) :
    exec (.shWatchTableWrite a data) s = execShWatchTableWrite a data s := rfl

@[simp] theorem exec_shWatchEnWrite (a : Accessor) (v : Nat) (s : State) :
    exec (.shWatchEnWrite a v) s = execShWatchEnWrite a v s := rfl

@[simp] theorem exec_shWatchEvaluation (e : Fin 8) (rep : Nat) (slot : Int) (codes : List Nat) (clip missing : Bool) (prof : PraProfile) (s : State) :
    exec (.shWatchEvaluation e rep slot codes clip missing prof) s = execShWatchEvaluation e rep slot codes clip missing prof s := rfl

@[simp] theorem exec_shWatchMacFrame (p : Fin 2) (f : RxFrame) (s : State) :
    exec (.shWatchMacFrame p f) s = execShWatchMacFrame p f s := rfl

@[simp] theorem exec_shWatchdogExpire (s : State) :
    exec .shWatchdogExpire s = execShWatchdogExpire s := rfl

@[simp] theorem exec_unitFault (u : Fin 280) (code : Nat) (s : State) :
    exec (.unitFault u code) s = execUnitFault u code s := rfl

@[simp] theorem exec_engineTimeout (h : Fin 16) (e : Fin 16) (s : State) :
    exec (.engineTimeout h e) s = execEngineTimeout h e s := rfl

@[simp] theorem exec_unitDrainEnd (u : Fin 280) (s : State) :
    exec (.unitDrainEnd u) s = execUnitDrainEnd u s := rfl

@[simp] theorem exec_unitRejoin (u : Fin 280) (s : State) :
    exec (.unitRejoin u) s = execUnitRejoin u s := rfl

@[simp] theorem exec_retiredCarrierReplace (h : Fin 16) (s : State) :
    exec (.retiredCarrierReplace h) s = execRetiredCarrierReplace h s := rfl

@[simp] theorem exec_relUnretire (a : Accessor) (v : Nat) (s : State) :
    exec (.relUnretire a v) s = execRelUnretire a v s := rfl

@[simp] theorem exec_progressMark (h : Fin 16) (w : BitVec 128) (s : State) :
    exec (.progressMark h w) s = execProgressMark h w s := rfl

@[simp] theorem exec_relMarkQueryWrite (a : Accessor) (v : BitVec 64) (s : State) :
    exec (.relMarkQueryWrite a v) s = execRelMarkQueryWrite a v s := rfl

@[simp] theorem exec_pairModeWrite (a : Accessor) (v : Nat) (s : State) :
    exec (.pairModeWrite a v) s = execPairModeWrite a v s := rfl

@[simp] theorem exec_pairRoleReq (a : Accessor) (v : Nat) (why : Fin 6) (s : State) :
    exec (.pairRoleReq a v why) s = execPairRoleReq a v why s := rfl

@[simp] theorem exec_dravutFrameReceive (f : List Byte) (s : State) :
    exec (.dravutFrameReceive f) s = execDravutFrameReceive f s := rfl

@[simp] theorem exec_dravutResendTimeout (s : State) :
    exec .dravutResendTimeout s = execDravutResendTimeout s := rfl

@[simp] theorem exec_pairHeartbeatTimer (s : State) :
    exec .pairHeartbeatTimer s = execPairHeartbeatTimer s := rfl

@[simp] theorem exec_pairHbMiss (failIn : Bool) (s : State) :
    exec (.pairHbMiss failIn) s = execPairHbMiss failIn s := rfl

@[simp] theorem exec_pairSyncComplete (s : State) :
    exec .pairSyncComplete s = execPairSyncComplete s := rfl

@[simp] theorem exec_takeover (s : State) :
    exec .takeover s = execTakeover s := rfl

@[simp] theorem exec_chainRoleWrite (a : Accessor) (v : Nat) (s : State) :
    exec (.chainRoleWrite a v) s = execChainRoleWrite a v s := rfl

@[simp] theorem exec_munovFrameReceive (down : Bool) (f : List Byte) (s : State) :
    exec (.munovFrameReceive down f) s = execMunovFrameReceive down f s := rfl

@[simp] theorem exec_barrier (h : Fin 16) (s : State) :
    exec (.barrier h) s = execBarrier h s := rfl

@[simp] theorem exec_broadcast (h : Fin 16) (s : State) :
    exec (.broadcast h) s = execBroadcast h s := rfl

@[simp] theorem exec_snapshotArm (h : Fin 16) (s : State) :
    exec (.snapshotArm h) s = execSnapshotArm h s := rfl

@[simp] theorem exec_stairSnapshotLatch (s : State) :
    exec .stairSnapshotLatch s = execStairSnapshotLatch s := rfl

@[simp] theorem exec_stairResetDevice (a : Accessor) (s : State) :
    exec (.stairResetDevice a) s = execStairResetDevice a s := rfl

@[simp] theorem exec_stairResetPair (a : Accessor) (s : State) :
    exec (.stairResetPair a) s = execStairResetPair a s := rfl

@[simp] theorem exec_stairResetChain (a : Accessor) (s : State) :
    exec (.stairResetChain a) s = execStairResetChain a s := rfl

@[simp] theorem exec_blockLockGain (l : Fin 56) (s : State) :
    exec (.blockLockGain l) s = execBlockLockGain l s := rfl

@[simp] theorem exec_alignmentLockGain (p : Fin 48) (skew : List Nat) (s : State) :
    exec (.alignmentLockGain p skew) s = execAlignmentLockGain p skew s := rfl

@[simp] theorem exec_alignmentLockLoss (p : Fin 48) (s : State) :
    exec (.alignmentLockLoss p) s = execAlignmentLockLoss p s := rfl

@[simp] theorem exec_lowPowerIdleEntry (p : Fin 48) (s : State) :
    exec (.lowPowerIdleEntry p) s = execLowPowerIdleEntry p s := rfl

@[simp] theorem exec_lowPowerIdleExit (p : Fin 48) (s : State) :
    exec (.lowPowerIdleExit p) s = execLowPowerIdleExit p s := rfl

@[simp] theorem exec_trainingFrameReceive (l : Fin 48) (req : BitVec 16) (holds : Bool) (s : State) :
    exec (.trainingFrameReceive l req holds) s = execTrainingFrameReceive l req holds s := rfl

@[simp] theorem exec_laneTxPllLock (l : Fin 56) (s : State) :
    exec (.laneTxPllLock l) s = execLaneTxPllLock l s := rfl

@[simp] theorem exec_pcieLinkUp (link : Bool) (fn : Fin 64) (speed width vfs : Nat) (s : State) :
    exec (.pcieLinkUp link fn speed width vfs) s = execPcieLinkUp link fn speed width vfs s := rfl

@[simp] theorem exec_mgmtLinkUp (s : State) :
    exec .mgmtLinkUp s = execMgmtLinkUp s := rfl

@[simp] theorem exec_mgmtLinkDown (s : State) :
    exec .mgmtLinkDown s = execMgmtLinkDown s := rfl

@[simp] theorem exec_jtagInstruction (ins : Fin 3) (s : State) :
    exec (.jtagInstruction ins) s = execJtagInstruction ins s := rfl

end Sys2Proof.Machine
end

