-- ==== Sys2Proof/WellFormed.lean ====
section
/-! DEFINITION. What makes a command well formed: accessors as R459 and R481 number them, values of at most 64 bits (R456), and
blocks of at most 128 KiB (R456). -/

namespace Sys2Proof

/-- An accessor of R459: function 0 for H, 1 to 63 for V, a session record of R477 for M and F, that of the pair link for P. -/
def Accessor.ok (a : Accessor) : Bool :=
  match a.cls with
  | .h => decide (a.num = 0)
  | .v => decide (1 ≤ a.num) && decide (a.num ≤ 63)
  | .m => decide (a.num ≤ 31)
  | .b => true
  | .p => decide (a.num = 33)
  | .f => decide (a.num ≤ 31)

/-- A value of at most 64 bits. -/
def wordOk (v : Nat) : Bool := decide (v < 2 ^ 64)

/-- A signed value of at most 64 bits. -/
def intOk (v : Int) : Bool := decide (-(2 ^ 63) ≤ v) && decide (v < 2 ^ 63)

/-- A block of at most 128 KiB. -/
def bytesOk (l : List Byte) : Bool := decide (l.length ≤ 131072)

/-- A command is well formed. -/
def Instr.wf (i : Instr) : Bool :=
  match i with
  | .hallRateSample _ _ => true
  | .pacingPeriodEnd _ => true
  | .lowerIntervalEnd _ => true
  | .hallPaceSnap a _ v => a.ok && wordOk v
  | .hallLevelWrite a _ v => a.ok && wordOk v
  | .levelSlewDone _ => true
  | .snapRailSettled _ => true
  | .hallPaceEnWrite a _ v => a.ok && wordOk v
  | .paceStartHoldExpire _ => true
  | .hallRailUndervoltage _ => true
  | .thermalSample _ => true
  | .thermTripHoldEnd => true
  | .thermWarnWrite a v => a.ok && intOk v
  | .bundleIssue _ => true
  | .interruptTaken _ _ _ => true
  | .windowAsync _ => true
  | .windowLoadResponse _ _ _ => true
  | .fence _ => true
  | .add _ _ _ _ _ => true
  | .sub _ _ _ _ _ => true
  | .mpy _ _ _ _ _ _ _ _ => true
  | .mac _ _ _ _ _ _ _ _ => true
  | .msu _ _ _ _ _ _ _ _ => true
  | .exth _ _ _ _ _ _ _ => true
  | .extw _ _ _ _ _ _ => true
  | .asrr _ _ _ _ _ _ => true
  | .clr _ _ => true
  | .bra _ _ _ => true
  | .call _ _ => true
  | .ret _ => true
  | .rep _ _ _ _ => true
  | .mvc _ _ _ _ => true
  | .rte _ => true
  | .trap _ => true
  | .bkpt _ => true
  | .nop _ => true
  | .fullFormMove _ _ => true
  | .compactMove _ _ => true
  | .compactMultiplyMove _ _ => true
  | .coreHalt a _ v => a.ok && wordOk v
  | .coreResume a _ v => a.ok && wordOk v
  | .vadd _ _ _ _ _ _ _ _ _ => true
  | .vsub _ _ _ _ _ _ _ _ _ => true
  | .vmin _ _ _ _ _ _ _ _ _ => true
  | .vmax _ _ _ _ _ _ _ _ _ => true
  | .vabs _ _ _ _ _ _ _ _ _ => true
  | .vneg _ _ _ _ _ _ _ _ _ => true
  | .vand _ _ _ _ _ _ _ _ _ => true
  | .vor _ _ _ _ _ _ _ _ _ => true
  | .vxor _ _ _ _ _ _ _ _ _ => true
  | .vasrr _ _ _ _ _ _ _ _ _ => true
  | .vshl _ _ _ _ _ _ _ _ _ => true
  | .vmul _ _ _ _ _ _ _ _ _ => true
  | .vcmul _ _ _ _ _ _ _ _ _ => true
  | .vmpy _ _ _ _ _ _ _ _ _ => true
  | .vmac _ _ _ _ _ _ _ _ _ => true
  | .vmsu _ _ _ _ _ _ _ _ _ => true
  | .vaclr _ _ _ => true
  | .vexth _ _ _ _ _ _ _ => true
  | .vcmpeq _ _ _ _ _ _ => true
  | .vcmplt _ _ _ _ _ _ => true
  | .vcmple _ _ _ _ _ _ => true
  | .vperm _ _ _ _ _ _ _ _ _ => true
  | .vzipl _ _ _ _ _ _ _ _ _ => true
  | .vziph _ _ _ _ _ _ _ _ _ => true
  | .vuzpe _ _ _ _ _ _ _ _ _ => true
  | .vuzpo _ _ _ _ _ _ _ _ _ => true
  | .vdup _ _ _ _ _ _ _ _ _ => true
  | .vrsum _ _ _ _ _ _ => true
  | .vrmax _ _ _ _ _ _ => true
  | .vrmin _ _ _ _ _ _ => true
  | .vgather _ _ _ _ _ _ _ => true
  | .vscatter _ _ _ _ _ _ _ => true
  | .vstr _ _ => true
  | .vstw _ _ => true
  | .schSwitch _ _ _ => true
  | .schYield _ _ _ => true
  | .schExit _ _ _ => true
  | .schCreate _ _ _ => true
  | .schKill _ _ _ => true
  | .schSetPrio _ _ _ => true
  | .schDelay _ _ _ => true
  | .schDelayUntil _ _ _ => true
  | .schSemTake _ _ _ => true
  | .schSemTry _ _ _ => true
  | .schSemGive _ _ _ => true
  | .schSemInit _ _ _ => true
  | .schMsgSend _ _ _ => true
  | .schMsgTrySend _ _ _ => true
  | .schMsgRecv _ _ _ => true
  | .schMsgTryRecv _ _ _ => true
  | .schQueueSet _ _ _ => true
  | .schSoftInt _ _ _ => true
  | .schTrace _ _ _ => true
  | .schTick _ => true
  | .schRemoteOp _ _ => true
  | .schWdCheck _ => true
  | .schTickNsWrite a _ v => a.ok && wordOk v
  | .schPmemLoad a _ v => a.ok && wordOk v
  | .pmemCoreLoad _ => true
  | .carrierBuildRelease _ _ => true
  | .ulFrameSteering _ => true
  | .ulWindowClose _ => true
  | .ulReleaseAtDeadline _ => true
  | .ulGainSet _ => true
  | .ulEngineDescriptor _ _ => true
  | .arm _ => true
  | .ulRelease _ => true
  | .chest _ => true
  | .detect _ => true
  | .weights _ => true
  | .fft _ => true
  | .outer _ => true
  | .outerAbandon _ => true
  | .praEvaluation _ _ _ _ => true
  | .dec _ => true
  | .decBlockStart _ => true
  | .harqStore _ _ => true
  | .enc _ => true
  | .polar _ _ => true
  | .turbo _ _ => true
  | .harqFree _ => true
  | .build _ => true
  | .shape _ => true
  | .tdTailAlone _ _ => true
  | .tdMaskUnmute a _ v => a.ok && wordOk v
  | .send _ => true
  | .ctxEnableWrite a v => a.ok && wordOk v
  | .ctxClearDone => true
  | .lookup _ => true
  | .insert _ => true
  | .update _ => true
  | .delete _ => true
  | .touch _ => true
  | .ctxSweepBucket => true
  | .ctxTouchMirrorBatch => true
  | .galleryPacketDelivery _ => true
  | .arbRound _ _ _ => true
  | .galleryHoldRelease _ => true
  | .arbFreezeWrite a _ v => a.ok && wordOk v
  | .arbBaseWrite a _ _ v => a.ok && wordOk v
  | .ddrTrainingEnd _ => true
  | .memorySweep _ => true
  | .demandRead _ _ => true
  | .zeroSweepLine _ => true
  | .ddrBlockFill _ data => bytesOk data
  | .scrubLine _ _ => true
  | .scrubHotRewrite _ _ => true
  | .scrubLate _ => true
  | .terraceRowRepair _ _ => true
  | .ddrPprRepair _ _ => true
  | .eccLogClear a _ v => a.ok && wordOk v
  | .laneQuadModeWrite a _ v => a.ok && wordOk v
  | .laneQuadFecWrite a _ v => a.ok && wordOk v
  | .laneCdrLock _ => true
  | .laneCdrLoss _ => true
  | .laneBlockLockLoss _ => true
  | .autoNegotiation _ _ => true
  | .laneMarkerRx _ _ _ _ => true
  | .laneTrainingTimeout _ => true
  | .laneEyeWindowEnd _ _ _ _ _ _ _ _ _ _ => true
  | .laneAdaptPeriodEnd _ => true
  | .laneTxFfeWrite a _ v => a.ok && wordOk v
  | .laneLoopbackWrite a _ v => a.ok && wordOk v
  | .lanePrbsTxWrite a _ v => a.ok && wordOk v
  | .lanePrbsChkWrite a _ v => a.ok && wordOk v
  | .lanePrbsClear a _ v => a.ok && wordOk v
  | .ethFrameReceive _ f _ => bytesOk f.body
  | .ethTxInsert _ _ => true
  | .ethTxFetch _ _ _ body => bytesOk body
  | .ethTxSelect _ => true
  | .ethTxFrameEnd _ => true
  | .ethPauseRefresh _ _ => true
  | .ethPauseExpire _ _ => true
  | .ethRxRingDoorbell _ _ v _ => wordOk v
  | .ethTxRingDoorbell _ _ v _ => wordOk v
  | .mgmtFrameReceive f => bytesOk f.body
  | .ptpMessageReceive _ _ => true
  | .ptpSyncReceive _ _ _ _ _ _ _ _ _ => true
  | .ptpTxTimer _ _ => true
  | .announceTimeout _ => true
  | .timeLockHoldExpire => true
  | .holdoverMaxExpire => true
  | .timeSet a v => a.ok && wordOk v
  | .synceDisqualify _ => true
  | .ppsInEdge => true
  | .ppsLoss => true
  | .ppsOutSecond => true
  | .timeTrigWrite a _ v => a.ok && wordOk v
  | .timeTrigFire _ => true
  | .jrTailDoorbell _ _ _ _ _ => true
  | .crHeadDoorbell _ _ _ => true
  | .jobAcceptance _ _ _ _ => true
  | .jobStart _ _ _ => true
  | .jobExpire _ _ => true
  | .completionGate _ _ _ => true
  | .completionRecordWrite _ => true
  | .jrCoalesceExpire _ => true
  | .jrEnableWrite a _ v => a.ok && wordOk v
  | .jrResume a _ v => a.ok && wordOk v
  | .functionLevelReset _ => true
  | .pcieLinkDown _ _ => true
  | .bar4Access _ _ _ _ data => bytesOk data
  | .bar0Read _ _ _ _ _ => true
  | .dictWrite a _ _ _ _ _ => a.ok
  | .dictWriteAck => true
  | .winSnapshot _ => true
  | .winWrite _ => true
  | .winGroupRead _ => true
  | .winReadStaged _ => true
  | .napRequest _ l => bytesOk l
  | .napRead a _ => a.ok
  | .napWrite a _ _ => a.ok
  | .napDomainRead a _ _ _ => a.ok
  | .napDomainWrite a _ _ data _ => a.ok && bytesOk data
  | .napReadStaged a _ => a.ok
  | .arpRequest _ l => bytesOk l
  | .i3cPrivateWrite d => bytesOk d
  | .i3cPrivateRead => true
  | .entdaa _ => true
  | .setdasa _ _ => true
  | .rstdaa => true
  | .getpid => true
  | .getbcr => true
  | .getdcr => true
  | .getstatus => true
  | .enec _ => true
  | .disec _ => true
  | .stageCommit a _ _ _ => a.ok
  | .stageCancel a _ v => a.ok && wordOk v
  | .stageCommitApply => true
  | .pwrReqS2 a _ => a.ok
  | .pwrReqS3 a _ => a.ok
  | .pwrReqS4 a _ => a.ok
  | .pwrReqWake a => a.ok
  | .pwrGate a _ _ => a.ok
  | .pwrUngate a _ => a.ok
  | .pwrDelayExpire _ => true
  | .pwrStateReached => true
  | .wakeNAsserted => true
  | .pwrWakeAtReached => true
  | .powerExit => true
  | .startLadderStep _ _ _ _ => true
  | .vinRise _ => true
  | .vinLoss _ => true
  | .vinWarnCrossing _ _ => true
  | .pwrEnFall => true
  | .pwrEnRise => true
  | .l1Copy => true
  | .shRollbackSet a v => a.ok && wordOk v
  | .shOtpRevoke a v => a.ok && wordOk v
  | .shFlashErase a => a.ok
  | .shFlashProgram a => a.ok
  | .shFlashCheck a _ => a.ok
  | .shWatchTableWrite a data => a.ok && bytesOk data
  | .shWatchEnWrite a v => a.ok && wordOk v
  | .shWatchEvaluation _ _ _ _ _ _ _ => true
  | .shWatchMacFrame _ f => bytesOk f.body
  | .shWatchdogExpire => true
  | .unitFault _ _ => true
  | .engineTimeout _ _ => true
  | .unitDrainEnd _ => true
  | .unitRejoin _ => true
  | .retiredCarrierReplace _ => true
  | .relUnretire a v => a.ok && wordOk v
  | .progressMark _ _ => true
  | .relMarkQueryWrite a _ => a.ok
  | .pairModeWrite a v => a.ok && wordOk v
  | .pairRoleReq a v _ => a.ok && wordOk v
  | .dravutFrameReceive f => bytesOk f
  | .dravutResendTimeout => true
  | .pairHeartbeatTimer => true
  | .pairHbMiss _ => true
  | .pairSyncComplete => true
  | .takeover => true
  | .chainRoleWrite a v => a.ok && wordOk v
  | .munovFrameReceive _ f => bytesOk f
  | .barrier _ => true
  | .broadcast _ => true
  | .snapshotArm _ => true
  | .stairSnapshotLatch => true
  | .stairResetDevice a => a.ok
  | .stairResetPair a => a.ok
  | .stairResetChain a => a.ok
  | .blockLockGain _ => true
  | .alignmentLockGain _ _ => true
  | .alignmentLockLoss _ => true
  | .lowPowerIdleEntry _ => true
  | .lowPowerIdleExit _ => true
  | .trainingFrameReceive _ _ _ => true
  | .laneTxPllLock _ => true
  | .pcieLinkUp _ _ _ _ _ => true
  | .mgmtLinkUp => true
  | .mgmtLinkDown => true
  | .jtagInstruction _ => true

end Sys2Proof
end

