-- ==== Sys2Proof/Tests/Slice0.lean ====
section
/-! SUPPORT. Tests: commands that are not well formed, worked examples of the spec, and for every obligation with hypotheses
states and operands that meet the hypotheses of each of its clauses together. -/

namespace Sys2Proof.Tests
open Sys2Proof Sys2Proof.Machine

-- One theorem after the other: many at once run Lean out of threads.
set_option Elab.async false

/-! ### Commands that are not well formed, one for each check -/

theorem test_wf_h_is_function_0 : (Instr.timeSet ⟨.h, 1⟩ 0).wf = false := by decide
theorem test_wf_v_is_1_to_63 : (Instr.timeSet ⟨.v, 0⟩ 0).wf = false ∧ (Instr.timeSet ⟨.v, 64⟩ 0).wf = false := by decide
theorem test_wf_m_and_f_are_sessions :
    (Instr.timeSet ⟨.m, 32⟩ 0).wf = false ∧ (Instr.timeSet ⟨.f, 32⟩ 0).wf = false := by decide
theorem test_wf_p_is_33 : (Instr.timeSet ⟨.p, 0⟩ 0).wf = false := by decide
theorem test_wf_value_has_64_bits :
    (Instr.timeSet ⟨.h, 0⟩ (2 ^ 64)).wf = false ∧ (Instr.thermWarnWrite ⟨.h, 0⟩ (2 ^ 63)).wf = false
      ∧ (Instr.thermWarnWrite ⟨.h, 0⟩ (-(2 ^ 63) - 1)).wf = false := by decide
theorem test_wf_block_has_128_KiB : (Instr.i3cPrivateWrite (List.replicate 131073 0)).wf = false := by
  show bytesOk (List.replicate 131073 0) = false
  unfold bytesOk
  rw [List.length_replicate]
  decide
theorem test_wf_accepts : (Instr.timeSet ⟨.v, 63⟩ (2 ^ 64 - 1)).wf = true := by decide

/-! ### Worked examples and stated encodings of the spec -/

/-- The state after a command, or the state it ran in. -/
def after (i : Instr) (s : State) : State := match exec i s with | .next t => t | _ => s

/-- Core 0 in RUN with accumulators, D registers and a rounding mode. -/
def core0 (acc : Tab (BitVec 40)) (d : Tab Word) (rnd : Nat) : State :=
  { State.reset.setObj .coreState 0 coreRun with
    cores := [(0, { CoreSt.reset with acc := acc, d := d, sst := { Sst.reset with rnd := rnd } })] }

/-- 03_wylen_core.md, the worked example of R66 to R69: EXTH of 0x00_1234_8000 with RM 1, 2 and 3. -/
theorem test_exth_rounds :
    ([1, 2, 3] : List (Fin 4)).map (fun rm => ((after (.exth 0 6 false 1 0 rm false) (core0 [(1, 0x12348000)] [] 0)).core 0).rd 6)
      = [0x1234, 0x1235, 0x1234] := by decide +kernel

/-- The same of the negated accumulator. -/
theorem test_exth_rounds_negative :
    ([1, 2, 3] : List (Fin 4)).map (fun rm => ((after (.exth 0 6 false 1 0 rm false) (core0 [(1, 0xFFEDCB8000)] [] 0)).core 0).rd 6)
      = [0xEDCB, 0xEDCB, 0xEDCC] := by decide +kernel

/-- R66: two Q15 MACs leave 0x00_AFFE_0002 and no AV. -/
theorem test_mac_guard_bits :
    ((after (.mac 0 0 0 false 1 false 1 false) (core0 [(0, 0x30000000)] [(0, 0x7FFF), (1, 0x7FFF)] 0)).core 0).racc 0 = 0xAFFE0002
      ∧ ((after (.mac 0 0 0 false 1 false 1 false) (core0 [(0, 0x30000000)] [(0, 0x7FFF), (1, 0x7FFF)] 0)).core 0).sst.av = false := by
  decide +kernel

/-- R67: its EXTH saturates to 0x7FFF and sets SV. -/
theorem test_exth_saturates :
    let t := after (.exth 0 0 false 0 0 0 false) (core0 [(0, 0xAFFE0002)] [] 0)
    (t.core 0).rd 0 = 0x7FFF ∧ (t.core 0).sst.sv = true := by decide +kernel

/-- R82: the FIR body 0xA002_0109 is MAC ACC0, D0.L, D1.L beside loads of D0 through (A0)+ and D1 through (A4)+. -/
theorem test_decode_fir_word : (decodeWord 0xA0020109).ops
    = [.mac 0 0 false 1 false 1 false, .move ⟨false, false, 2, 0, false, 0, .plus⟩, .move ⟨true, false, 2, 1, false, 4, .plus⟩] := by
  decide +kernel

/-- R82: the P word 0x9002_0108 loads V0 through (A0)+ and V1 through (A4)+. -/
theorem test_decode_p_word : ((decodeWord 0x90020108).ops.filter (fun o => match o with | .move _ => true | _ => false))
    = [.move ⟨false, false, 4, 0, false, 0, .plus⟩, .move ⟨true, false, 4, 1, false, 4, .plus⟩] := by decide +kernel

/-- R123: 0x48E1_2145 is VMAC.C16 VA1, V4, V5, conjugate, Q15. -/
theorem test_decode_vmac_word : (decodeWord 0x48E12145).slots.length = 1
    ∧ ((decodeWord 0x48E12145).ops.map (fun o => match o with
        | .vec v => (v.ty, v.d, v.a, v.b, v.cj, v.k) | _ => (9, 9, 9, 9, false, 9))) = [(3, 1, 4, 5, true, 1)] := by decide +kernel

/-- R217: TBS 1,164,240 in base graph 1 is 139 blocks, K' 8,400, K 8,448, Zc 384. -/
theorem test_ldpc_segmentation : (ldpcSeg 1164240 false).c = 139 ∧ (ldpcSeg 1164240 false).kp = 8400
    ∧ (ldpcSeg 1164240 false).k = 8448 ∧ (ldpcSeg 1164240 false).zc = 384 := by decide +kernel

/-- R321: address 0x1000_4A3C_2D48 is word 1 of local line 0x12_8F0B of channel 7. -/
theorem test_ddr_address : ddrChannel 0x10004A3C2D48 = 7 ∧ ddrLocal 0x10004A3C2D48 / 64 = 0x25_1E16
    ∧ ddrLocal 0x10004A3C2D48 % 64 / 8 = 1 := by decide +kernel

/-- Bank 5 of `HALL_4` after one round in which `CORE_3`, the uplink and coding engines and the ingress ask. -/
def bankRound : State := after (.arbRound 53 (2 ^ 3 + 2 ^ 13 + 2 ^ 14 + 2 ^ 16) false) State.reset

/-- 11_gallery.md, worked example of R305 to R311, round 1. -/
theorem test_arb_round_1 : bankRound.obj .arbHolder 53 = 13 ∧ bankRound.obj .arbPointer 53 = 14
    ∧ [3, 13, 14, 16].map (tabGet 0 (bankRound.arb 53).ages) = [1, 0, 1, 1] := by decide +kernel

/-- Round 2: the coding engines win while input 13 is half way through its packet. -/
theorem test_arb_round_2 :
    let t := after (.arbRound 53 0 true) bankRound
    t.obj .arbHolder 53 = 14 ∧ t.obj .arbPointer 53 = 15 ∧ t.obj .arbTakebacks 53 = 1
      ∧ [3, 13, 14, 16].map (tabGet 0 (t.arb 53).ages) = [2, 1, 0, 2] := by decide +kernel

/-- 15_time.md, worked example: at 30 kHz the slot of that instant is slot 6 of SFN 160. -/
theorem test_time_slot :
    let s : State := { State.reset with carriers := [(9, { CarrierCfg.reset with mu := 1 })] }
    let t : Int := 1750000000123456789
    s.frameNow 9 t = 143403518112 ∧ s.frameNow 9 t % 1024 = 160 ∧ nearestFrame 256 160 159 = 159 ∧ nearestFrame 256 160 40 = 40 := by
  decide +kernel

/-- 10_context_store.md: the key of a UE of operator 3 with full I-RNTI 0x00_5A3C_91E7 is well formed. -/
theorem test_context_key : keyOk 0x20C000005A3C91E7 = true ∧ keyOk 0x00C000005A3C91E7 = false := by decide +kernel

/-! ### The queue -/

theorem test_step_takes_the_front :
    step { State.reset with pending := [.thermTripHoldEnd, .vaclr 0 0 false] } =
      exec .thermTripHoldEnd { State.reset with pending := [.vaclr 0 0 false] } := rfl

/-- No table row gives bits, so no word spells a command. -/
theorem test_no_word_spells : decodeTableWord 32 0xA0020109 = none := by decide

/-! ### What the witnesses are built with -/

/-- Element k of a list of samples. -/
def pick {α : Type} (l : List α) (k : Nat) (h : k < l.length := by decide +kernel) : α := l.get ⟨k, h⟩

theorem noReady (x : SchedSt) (h : x.ready = []) (p : Nat) : x.list p = [] := by
  unfold SchedSt.list; rw [h]; rfl

theorem oneReady (x : SchedSt) (p g : Nat) (h : x.ready = [(p, [g])]) (q : Nat) (hq : q ≠ p) : x.list q = [] := by
  unfold SchedSt.list; rw [h]; simp [tabGet, tabFind, Ne.symm hq]

theorem existsOk {ε α : Type} (x : Except ε α) (h : x.toBool = true) : ∃ v, x = .ok v := by
  cases x with
  | error _ => exact absurd h (by simp [Except.toBool])
  | ok v => exact ⟨v, rfl⟩

theorem oneMaster {α : Type} (l : Tab (Option α)) (p : Nat) (h : l.map Prod.fst = [p]) (q : Nat) (hq : q ≠ p) : tabGet none l q = none := by
  match l with
  | [(k, v)] =>
    have : k = p := by simpa using h
    simp [tabGet, tabFind, this, Ne.symm hq]

theorem inTerrace (s : State) (a i : Nat) (hi : i < 12288) (h : a = terraceBase 0 + 0x10000) : s.reachable (a + 8 * i) 8 = true := by
  have : (terraceHall (a + 8 * i)).isSome = true := by
    subst h; unfold terraceHall terraceBase terraceSize; split
    · rfl
    · omega
  simp [State.reachable, this]


/-- No free number of PT-RS elements makes a DETECT equalise more than this. -/
def resBound (s : State) (d : Nat) : Nat :=
  ((maskList 14 (dSymMask d)).map (fun k =>
    dPrbCount d * dataPerPrb d (tabGet 0 (s.ulBuf (s.bufOf (dCarrier d) (s.descSlot d))).refs k))).sum

theorem detRes_le (s : State) (d : Nat) : s.detRes d ≤ resBound s d :=
  List.sum_le_sum (fun _ _ => Nat.sub_le _ _)

theorem detectOk_of (s : State) (h d : Nat)
    (b : (s.rangeOk d = true ∧ dSymMask d ≠ 0 ∧ dSymMask d < 2 ^ s.symbolsPerSlot (dCarrier d))
      ∧ (∀ f ∈ ues d, qmOk (ueQm f) = true ∧ 1 ≤ ueLayers f ∧ ueFirst f + ueLayers f ≤ 8
        ∧ ueLlrOut f + resBound s d * ueLayers f * ueQm f ≤ terraceSize)
      ∧ s.detectReads h d = true ∧ (bits d 225 225 = 0 ∨ (bits d 231 230 = 0 ∧ detLayers d = 1))) : s.detectOk h d = true := by
  obtain ⟨⟨a1, a2, a3⟩, a4, a5, a6⟩ := b
  have a7 : (ues d).all (fun f => qmOk (ueQm f) && decide (1 ≤ ueLayers f) && decide (ueFirst f + ueLayers f ≤ 8)
      && inSlice (ueLlrOut f) (s.ueLlrLen d f)) = true := by
    rw [List.all_eq_true]
    intro f hf
    obtain ⟨b1, b2, b3, b4⟩ := a4 f hf
    have : s.ueLlrLen d f ≤ resBound s d * ueLayers f * ueQm f :=
      Nat.mul_le_mul_right _ (Nat.mul_le_mul_right _ (detRes_le s d))
    simp [b1, b2, b3, inSlice]
    omega
  unfold State.detectOk
  simp only [a1, a3, a5, a7]
  simpa [a2] using a6

/-- What R184 charges at most. -/
def outerDetBound (s : State) (h d : Nat) : Nat :=
  ((s.outerDets h d).map (fun x =>
    let nr := popCount 32 (dStreams x)
    let l := detLayers x
    2 * (s.detGroups h x * weightCycles nr l) + (reCycles nr l (((ues x).map ueQm).foldl max 0) + 1) * resBound s x)).sum

theorem outerTest_of (s : State) (h d : Nat) (o : Nat) (rate limit : Int)
    (b : s.now * rate + ((outerDetBound s h d + o : Nat) : Int) * 1000000 + 1000 * rate < limit * rate) (cyc : Int)
    (e : cyc = s.outerDet h d + o) : s.now * rate + cyc * 1000000 + 1000 * rate < limit * rate := by
  have : s.outerDet h d ≤ outerDetBound s h d :=
    List.sum_le_sum (fun x _ => Nat.add_le_add_left (Nat.mul_le_mul_left _ (detRes_le s x)) _)
  subst e
  push_cast at b
  have : (s.outerDet h d : Int) ≤ outerDetBound s h d := by exact_mod_cast this
  linarith

/-- `engTakes` from what can be evaluated. -/
theorem engTakes_of (s : State) (h e : Nat) (r : EngRun) (a : (s.engHead h e).isSome = true)
    (b : s.engUp h e = true ∧ s.engRun h e = none ∧ r.start = s.now ∧ r.desc = s.readDesc h r.off
      ∧ s.anyPoison (terraceBase h + r.off) 8 = false ∧ ((s.engHead h e).get a).1 = r.stamp
      ∧ offOk ((s.engHead h e).get a).2 = true ∧ r.off = bits ((s.engHead h e).get a).2 23 0) : engTakes s h e r := by
  obtain ⟨b1, b2, b3, b4, b5, b6, b7, b8⟩ := b
  exact ⟨b1, b2, b3, b4, b5, _, by rw [← b6]; simp, b7, b8⟩

/-- `ctxTakes` from what can be evaluated. -/
theorem ctxTakes_of (s : State) (h : Nat) (r : EngRun) (cmd : Nat) (a : engTakes s h 11 r)
    (b : dOp r.desc = 0xF ∧ s.ctxOk r.desc = true ∧ cxCmd r.desc = cmd ∧ s.ctx.clearing = false
      ∧ s.ctxWaiting.length < 256 ∧ s.journal.length < 1048576 ∧ s.arbHold 204 = h) : ctxTakes s h r cmd := ⟨a, b⟩

/-- Memory in which `n` TCBs from address `b` hold RUNNING threads of priority 0. -/
def usedTcbs (b : Nat) : Nat → Tab Byte
  | 0 => []
  | n + 1 => (b + 7, 1) :: usedTcbs (b + 32) n

theorem usedTcbs_find (n : Nat) : ∀ (b k j : Nat), k < n → j < 32 →
    tabFind (usedTcbs b n) (b + 32 * k + j) = if j = 7 then some 1 else none := by
  induction n with
  | zero => intro b k j h; omega
  | succ n ih =>
    intro b k j hk hj
    unfold usedTcbs tabFind
    cases k with
    | zero =>
      by_cases e : j = 7
      · simp [e]
      · rw [if_neg (by omega), if_neg e]
        have : ∀ (m c a : Nat), a < c + 7 → tabFind (usedTcbs c m) a = none := by
          intro m
          induction m with
          | zero => intro c a _; rfl
          | succ m ih => intro c a h; unfold usedTcbs tabFind; rw [if_neg (by omega)]; exact ih _ _ (by omega)
        exact this _ _ _ (by omega)
    | succ k =>
      rw [if_neg (by omega)]
      have := ih (b + 32) k j (by omega) hj
      rwa [show b + 32 + 32 * k + j = b + 32 * (k + 1) + j by ring] at this

theorem readMem_map (s : State) (n : Nat) : ∀ a, s.readMem a n = (List.range n).map (fun j => s.byteAt (a + j)) := by
  induction n with
  | zero => intro a; rfl
  | succ n ih =>
    intro a
    rw [List.range_succ_eq_map]
    simp [State.readMem, ih, Function.comp_def]
    intro j _; congr 1; omega

theorem allUsed (s : State) (h : s.mem = usedTcbs (terraceBase 0) 4096) : s.lowestFree 0 4096 0 = none := by
  have t : ∀ k, k < 4096 → s.tState (4096 * 0 + k) = 2 := by
    intro k hk
    have e : s.readMem (terraceBase 0 + 32 * k) 32 = (List.range 32).map (fun j => if j = 7 then (1 : Byte) else 0) := by
      rw [readMem_map]
      apply List.map_congr_left
      intro j hj
      have hj := List.mem_range.mp hj
      unfold State.byteAt tabGet
      rw [h, usedTcbs_find _ _ _ _ hk hj]
      split <;> rfl
    unfold State.tState State.tcb State.memNat tcbAddr
    rw [show (4096 * 0 + k) / 4096 = 0 by omega, show (4096 * 0 + k) % 4096 = k by omega, e]
    decide +kernel
  have : ∀ f a, f + a ≤ 4096 → s.lowestFree 0 f a = none := by
    intro f
    induction f with
    | zero => intro a _; rfl
    | succ f ih => intro a ha; unfold State.lowestFree; rw [t a (by omega)]; simpa using ih (a + 1) (by omega)
  exact this 4096 0 (by omega)
/-- `stairHead` from what can be evaluated. -/
theorem stairHead_of (s : State) (h m : Nat) (a : (s.engHead h 13).isSome = true)
    (b : s.engUp h 13 = true ∧ ((s.engHead h 13).get a).2 = m) : stairHead s h m :=
  ⟨b.1, ((s.engHead h 13).get a).1, by rw [← b.2]; simp⟩

end Sys2Proof.Tests

open Sys2Proof
namespace Sys2Proof.Machine
/-- A descriptor in the slice of a hall, queued for engine e. -/
def State.withDesc (s : State) (h e off d : Nat) : State :=
  let s := { s with mem := memWrite s.mem (terraceBase h + off) (leBytes 64 d) }
  { s with sched := [(h, { s.sch h with engq := [(0xF0 + e, [(5, off)])], queues := [(3, ⟨0x8207, 0x20000, 0, 0, [], []⟩)] })] }
def State.withReply (s : State) (h : Nat) : State :=
  { s with sched := [(h, { s.sch h with queues := [(3, ⟨0x8207, 0x20000, 0, 0, [], []⟩)] })] }
def State.ent (s : State) : State := { s with mem := memWrite s.mem (terraceBase 0 + 0x80000) (leBytes 32 (3 * 2 ^ 240 + 1 * 2 ^ 222 + 0xFFF * 2 ^ 210 + 2 * 2 ^ 196 + 1000 * 2 ^ 180 + 0x81000 * 2 ^ 104)) }
end Sys2Proof.Machine

namespace Sys2Proof.Tests
open Sys2Proof Sys2Proof.Machine

-- One theorem after the other: many at once run Lean out of threads.
set_option Elab.async false

namespace Wa
def w0 : State := State.reset
def wits1 : List (State) :=
  [w0, { w0 with pending := [.nop 0] }, w0.setObj .pwrState 0 4, w0.setObj .timeRho 0 5, w0.setUnit unitTime { UnitSt.reset with st := 3 }, (w0.setObj .timeNs 0 999999999), { w0.setObj .timeNs 0 999999 with elapsed := 999999999 }]
end Wa

namespace Wb
/-- Unit u's pacer in a state, at trim T. -/
def paced (u : Nat) (st T : Int) : State := (State.reset.setObj .hallPaceState u st).setObj .hallTrim u T
def pst : List State := [State.reset] ++ (List.range 6).flatMap (fun (i : Nat) => [paced 0 i 3, paced 17 i 0]) ++
  [(paced 0 paceHold 0).setObj .hallTj 0 1700,
   { paced 0 paceSnap 2 with pace := [(0, { PaceSt.reset with snapByLevel := true })] },
   { paced 0 paceTrack 2 with pace := [(0, { PaceSt.reset with slewFrom := some 2, window := [3], periodLow := true, periodRate := some 77 })] },
   { paced 0 paceHold 2 with pace := [(0, { PaceSt.reset with slewFrom := some 2, window := [3] })] },
   { paced 0 paceSleep 0 with pace := [(0, { PaceSt.reset with stored := some 3 })] },
   (State.reset.setObj .thermTjMax 0 1000),
   { State.reset with pins := { State.reset.pins with alertTherm := true } },
   { (State.reset.setObj .pwrState 0 3) with therm := { ThermSt.reset with hold := true }, pwr := { State.reset.pwr with wakes := [4, 2] } },
   { (State.reset.setObj .pwrState 0 2) with pins := { State.reset.pins with alertTherm := true } },
   { (State.reset.setObj .pwrState 0 2) with therm := { ThermSt.reset with runs := [(18, 9)] } },
   { State.reset with therm := { ThermSt.reset with runs := [(3, 9), (0, 10)] } },
   { paced 0 paceTrack 1 with pace := [(0, { PaceSt.reset with lowered := some 0 })] },
   { paced 0 paceTrack 2 with pace := [(0, { PaceSt.reset with lowered := some 0, periodLow := true, periodRate := some 5 })] },
   { paced 0 paceOff 0 with pace := [(0, { PaceSt.reset with slewFrom := some 0, fromP0 := true })] },
   (State.reset.setUnit 192 { UnitSt.reset with st := 3 }),
   (paced 0 paceTrack 1).setObj .timeSec 0 1000,
   (((((paced 0 paceTrack 1).setObj .timeSec 0 1000).setObj .hallRatePaced 0 500000).setObj .hallSlackTail 0 4000).setObj .hallSlackSamples 0 100000000)]
def wits1 : List (State) :=
  pst
def wits2 : List (List Int) :=
  [[], [944], (List.range 19).map (fun i => if i = 3 then 1000 else 100), (List.range 19).map (fun i => if i = 18 then 1000 else (100 : Int) * i), List.replicate 18 0 ++ [943]]
end Wb

namespace Wc
/-- Core c runs with registers k, its PC at `pc`. -/
def running (c pc : Nat) (k : CoreSt) : State :=
  { (State.reset.setObj .coreState c coreRun).setObj .corePc c pc with cores := [(c, k)] }
/-- The same in HANDLER. -/
def handling (c pc : Nat) (k : CoreSt) : State :=
  { (State.reset.setObj .coreState c coreHandler).setObj .corePc c pc with cores := [(c, k)] }
/-- Registers with some contents. -/
def kk : CoreSt :=
  { CoreSt.reset with
    d := [(0, 0x7FFF8000), (1, 0x7FFFFFFF), (2, 0x80000000), (3, 5), (4, 0xFFFFFFFF)]
    a := [(0, 0x100000), (1, 0x120000), (2, 0x100040)]
    acc := [(0, 0x7FFFFFFFFF), (1, 0x8000000000), (2, 0x123456)], epc := 0x40, vbase := 0x400, esst := 0x80000000
    calls := [0x88, 0x100] }
def kks : List CoreSt := [CoreSt.reset, kk, { kk with sst := { Sst.reset with sat := false, n := true, c := true }, esst := 0 },
  { kk with sst := { Sst.reset with exl := true } }]
def cst : List State := kks.flatMap (fun k => [running 0 0x10 k, handling 0 0x20 k, (running 0 0x10 k).setObj .coreBkptHalt 0 1])
def wits1 : List (State) :=
  cst
noncomputable def wits3 : List (Instr) :=
  (([(0, 0), (1, 1), (2, 2), (1, 2)] : List (Fin 16 × Fin 16)).flatMap (fun p => [false, true].flatMap (fun h => ([0, 1, 2, 3] : List (Fin 4)).flatMap (fun m =>
  [Instr.mac 0 m p.1 h p.2 (!h) m h, .mpy 0 m p.1 h p.2 h m h, .msu 0 (3 - m) p.1 h p.2 h m (!h), .mac 0 0 p.1 h p.2 h m (!h), .msu 0 1 p.1 h p.2 h m h, .add 0 5 p.1 p.2 h, .sub 0 p.1 p.1 p.2 h, .extw 0 3 m 8 m h, .extw 0 3 m 0 m h, .asrr 0 3 p.1 1 m h, .asrr 0 3 p.1 31 m h]))))
end Wc

namespace Wd
def running (c pc : Nat) (k : CoreSt) : State :=
  { (State.reset.setObj .coreState c coreRun).setObj .corePc c pc with cores := [(c, k)] }
def handling (c pc : Nat) (k : CoreSt) : State :=
  { (State.reset.setObj .coreState c coreHandler).setObj .corePc c pc with cores := [(c, k)] }
/-- Registers that address X and Y memory and a window onto Terrace 0. -/
def km : CoreSt :=
  { CoreSt.reset with
    d := [(0, 0x7FFF8000), (1, 0x7FFFFFFF), (2, 0x80000000), (3, 5), (4, 0xFFFFFFFF)]
    a := [(0, 0x100000), (1, 0x100100), (2, 0x11FFF0), (3, 0x200000), (4, 0x200000), (5, 0x200100), (6, 0x21FFF0), (7, 0x400010)]
    m := [(0, 0x100000)], wbase := [(0, 0x80000800)]
    v := [(1, 0x80007FFF00010002000300040005FFFF), (2, 0x80007FFF0001FFFE000300048005FFFF), (3, 0x00000001000000020000000300000004), (4, 0xC0008000400000)]
    va := [(0, 0x7FFFFFFFFF), (9, 0x8000000000)]
    acc := [(0, 0x7FFFFFFFFF), (1, 0x8000000000), (2, 0x123456)], epc := 0x40, vbase := 0x400 }
/-- Memory of core 0: a bundle of ADD beside NOP at 0x10, and data. -/
def filled (s : State) : State :=
  { s with
    coreMem := [(0x17, 0xE0), (0x100000, 0x11), (0x100001, 0x22), (0x100002, 0x33), (0x100003, 0x84), (0x100006, 0x99), (0x200000, 0x12)]
    mem := [(terraceBase 0 + 0x10, 0x77), (terraceBase 0 + 0x13, 0x88)] }
def kks : List CoreSt := [km, { km with sst := { Sst.reset with sat := false } }, { km with vstate := { VState.reset with mask := 0x5A5A } }]
def lst : List State := kks.map (fun k => filled (running 0 0x10 k))
def ist : List State := [filled (running 0 0x18000 km), filled (running 0 0x10 { km with sst := { Sst.reset with ie := true }, ints := [16, 17] }),
   filled (running 0 0x10 { km with sst := { Sst.reset with ie := true }, ints := [17] }),
   filled (running 0 0x10 { km with posted := [(0x100000000, true)] }),
   filled (running 0 0x10 { km with stall := some ⟨oneOp 1 (.move ⟨false, false, 2, 3, false, 7, .keep⟩), nopWord⟩ }),
   filled (running 0 0x10 { km with sst := { Sst.reset with ie := true } }), (filled (running 0 0x10 { km with posted := [(0x100000000, true)] })).setObj .coreState 0 1,
   { filled (running 0 0x10 km) with coreMem := [(0x11, 0x90), (0x12, 0x98), (0x17, 0xE0)] }]
def hst : List State := [handling 0 0x10 km, handling 0 0x10 { km with callWait := true }] ++ ([coreOff, coreRejoining, coreIdle, coreHaltedDebug, coreHaltedFault] : List Int).map (fun (i : Int) => ({ (handling 0 0x10 { km with leftState := coreHandler }) with pwr := State.reset.pwr }).setObj .coreState 0 i)
namespace A
def wits1 : List (State) :=
  lst
end A
namespace B
def ws : List (BitVec 29) := [0x8000000 + 0x2000, 0x2000, 0x10002000 + 0x8000000, 0x8000, 0x2000000, 0x4000080 + 0x4000000, 0x8000, 0x8080, 0x8008080,0x00000000, 0x00400001 * 256, 0x10000000 + 0x100 * 0x4000, 0x100 * 0x4000 + 8 * 0x4000 + 0x200 + 64, 0x10000000 + 3 * 256 * 0x4000 + 8 + 64, 0x0000 + 0x0900 + 2, 0x10000000 + 0x1900 + 0x0, 0x0110800 + 0x0900 + 1]
def wits2 : List (Move) :=
  ((ws.flatMap (fun w => (decodeP (0x80000000 + w.toNat)).ops ++ (decodeQ (0xA0000000 + w.toNat)).ops)).filterMap (fun o => match o with | .move m => some m | _ => none)).eraseDups
end B
namespace C
def wits3 : List (State) :=
  lst ++ ist
def wits6 : List (Move) :=
  [⟨false, false, 2, 3, false, 7, .keep⟩]
end C
namespace D
def wits7 : List (State) :=
  hst
end D
namespace E
def wits8 : List (State) :=
  lst
def ops (ty : Fin 4) (d a b : Fin 32) (hf : Fin 4) (mk zm : Bool) (rm : Fin 4) : List Instr :=
  [.vadd 0 ty d a b hf mk zm rm, .vsub 0 ty d a b hf mk zm rm, .vmin 0 ty d a b hf mk zm rm, .vmax 0 ty d a b hf mk zm rm, .vabs 0 ty d a b hf mk zm rm, .vneg 0 ty d a b hf mk zm rm,
   .vand 0 ty d a b hf mk zm rm, .vor 0 ty d a b hf mk zm rm, .vxor 0 ty d a b hf mk zm rm, .vasrr 0 ty d a b hf mk zm rm, .vshl 0 ty d a b hf mk zm rm, .vmul 0 ty d a b hf mk zm rm,
   .vcmul 0 ty d a b hf mk zm rm, .vperm 0 ty d a b hf mk zm rm, .vzipl 0 ty d a b hf mk zm rm, .vziph 0 ty d a b hf mk zm rm, .vuzpe 0 ty d a b hf mk zm rm, .vuzpo 0 ty d a b hf mk zm rm, .vdup 0 ty d a b hf mk zm rm,
   .vexth 0 ty d 0 3 mk rm, .vexth 0 ty d 1 16 mk rm]
def mops (ty : Fin 4) (d : Fin 4) (a b : Fin 32) (hf : Fin 4) (mk cj : Bool) (sh : Fin 4) : List Instr := [.vmpy 0 ty d a b hf mk cj sh, .vmac 0 ty d a b hf mk cj sh, .vmsu 0 ty d a b hf mk cj sh]
noncomputable def wits9 : List (Instr) :=
  ([(0,0),(1,0),(1,1),(1,2),(1,3),(3,0),(3,1),(3,2)] : List (Fin 4 × Fin 4)).flatMap (fun p => mops p.1 0 1 2 p.2 false false 0 ++ mops p.1 1 1 2 p.2 true false 2 ++ mops p.1 0 2 1 p.2 false true 1 ++ mops p.1 0 2 1 p.2 false true 3) ++ ([0, 1, 2, 3] : List (Fin 4)).flatMap (fun ty => ops ty 5 1 2 0 false false 0 ++ ops ty 1 1 2 1 true false 1 ++ ops ty 2 1 2 2 true true 2 ++ ops ty 2 2 1 0 true false 3)
end E
namespace F
def kg (d : List (Nat × BitVec 128)) (x : VState) : CoreSt := { km with v := d, vstate := x }
def wits11 : List (State) :=
  [filled (running 0 0x10 (kg [(1, 3)] { VState.reset with mask := 0x10 })), filled (running 0 0x10 (kg [] { VState.reset with rs := true, eidx := 4 })),
  filled (running 0 0x10 (kg [(0, 0x00112233445566778899AABBCCDDEEFF), (2, 0x000E000C000A00080006000400020000)] { VState.reset with mask := 0x2D })),
  filled (running 0 0x10 (kg [(0, 0x00112233445566778899AABBCCDDEEFF), (2, 0x001C001800140010000C000800040000), (3, 0x00010001000000020003000400050006)] { VState.reset with rs := true, eidx := 2 })),
  filled (running 0 0x10 (kg [(0, 0x00112233445566778899AABBCCDDEEFF), (2, 0x00040004000000000008000800040004), (3, 0x00010001000000020003000400050006)] VState.reset))]
end F
end Wd

namespace We
def running (c pc : Nat) (k : CoreSt) : State :=
  { (State.reset.setObj .coreState c coreRun).setObj .corePc c pc with cores := [(c, k)] }
/-- The TCB of a thread: state, priority, affinity to every core, frame, and its core. -/
def State.withThread (s : State) (g st prio frame : Nat) : State :=
  ((((s.setTcb g 57 55 st).setTcb g 63 58 prio).setTcb g 79 68 0xFFF).setTcb g 111 98 frame)
/-- Core 0 runs thread 5 with registers k. -/
def calling (k : CoreSt) (x : SchedSt) : State :=
  State.withThread { running 0 0x10 k with sched := [(0, { x with running := [(0, 6)] })] } 5 thRunning 3 200
/-- Operands of scheduler calls in D registers. -/
def kcall : CoreSt :=
  { CoreSt.reset with
    d := [(1, 3), (2, 0x00010003), (3, 0x00050403), (4, 0x8207), (5, 0x20000), (6, 7), (7, 9), (8, 0xFFF0C009), (9, 0x00770100), (12, 0x11223344), (15, 8)] }
def qs (n : Nat) : QueueSt := ⟨0x8207, 0x20000, 1, n, [], []⟩
def sx (l : List (Nat × SemSt)) (q : List (Nat × QueueSt)) : SchedSt := { SchedSt.reset with sems := l, queues := q }
def xs : List SchedSt := [SchedSt.reset, sx [(3, ⟨2, 4, none, []⟩)] [(7, qs 2)], sx [(3, ⟨2, 0, none, []⟩)] [(7, qs 0)], sx [(3, ⟨2, 65535, none, [9]⟩)] [(7, qs 4)], sx [(3, ⟨1, 1, none, []⟩)] [(7, ⟨0x9207, 0x20000, 1, 4, [], []⟩)], sx [(3, ⟨1, 0, some 5, []⟩)] []]
def hx (s : State) : State := ((s.setTcb 5 207 207 1).setTcb 5 206 193 3).setTcb 5 83 80 1
def s1 : List State := xs.map (fun x => calling kcall x) ++ [hx (calling kcall (sx [(3, ⟨1, 0, some 5, []⟩)] [])), hx (calling kcall (sx [(3, ⟨1, 1, none, []⟩)] [])), calling { kcall with d := [(1, 0x2C03), (2, 0xF07), (3, 3)] } SchedSt.reset]
namespace A
def wits1 : List (State) :=
  s1
end A
namespace B
def wits2 : List (State) :=
  s1 ++ [(calling kcall SchedSt.reset).setObj .schTickNs 0 5, (calling kcall SchedSt.reset).setObj .timeSec 0 20000,
   calling { kcall with sst := { Sst.reset with exl := true }, epc := 0x48, esst := 0x7FF } SchedSt.reset,
   State.withThread (calling { kcall with sst := { Sst.reset with exl := true }, epc := 0x48, esst := 0x7FF } { SchedSt.reset with ready := [(7, [9])] }) 9 thReady 7 300]
end B
namespace C
def wits3 : List (State) :=
  [calling kcall SchedSt.reset, calling { kcall with d := [(8, 0x0009C009), (9, 0x00770100)] } SchedSt.reset, calling { kcall with d := [(8, 5)] } SchedSt.reset, calling { kcall with d := [(8, 5 * 65536 + 9)] } SchedSt.reset, calling { kcall with d := [(8, 6)] } SchedSt.reset, State.withThread (calling kcall { SchedSt.reset with ready := [(7, [7, 9])] }) 9 thReady 7 300,
   State.withThread (calling kcall { SchedSt.reset with ready := [(3, [9, 7])] }) 9 thReady 3 300, State.withThread (calling { kcall with d := (6, 7 + 9 * 65536) :: kcall.d } { SchedSt.reset with ready := [(3, [9, 7])] }) 9 thReady 3 300,
   State.withThread (calling { kcall with d := (6, 3 + 9 * 65536) :: kcall.d } { SchedSt.reset with ready := [(3, [9, 7])] }) 9 thReady 3 300,
   State.withThread (calling { kcall with d := (6, 7 + 9 * 65536) :: kcall.d } { SchedSt.reset with sems := [(3, ⟨2, 0, none, [9]⟩)] }) 9 thWaiting 3 300]
end C
namespace D
def tr (s : State) (m : Int) : State := (((s.setObj .schTraceSize 0 64).setObj .schTraceBase 0 (terraceBase 0 + 0x30000 : Nat)).setObj .schTraceWptr 0 48).setObj .schTraceMask 0 m
def wits4 : List (State) :=
  [calling kcall SchedSt.reset, State.reset.setObj .schWdEn 0 0, tr (calling kcall SchedSt.reset) 0xFFFF, tr (calling kcall SchedSt.reset) 0,
   (State.withThread { State.reset with sched := [(0, { SchedSt.reset with delay := [9], waits := [(9, 1)] })] } 9 thWaiting 3 300),
   (State.withThread ({ State.reset with sched := [(0, { SchedSt.reset with delay := [9], waits := [(9, 1)] })] }.setObj .timeSec 0 5) 9 thWaiting 3 300),
   ((State.withThread (({ State.reset with sched := [(0, { SchedSt.reset with delay := [9, 7], waits := [(9, 1)] })] }.setObj .timeSec 0 5)) 9 thWaiting 3 300).setTcb 9 191 144 0xFFFFFFFFFF),
   (((State.withThread (({ State.reset.setObj .schWdLimit 0 5 with sched := [(0, { SchedSt.reset with waits := [(9, 1)] })] }.setObj .timeSec 0 5).setObj .schWdEn 0 1) 9 thWaiting 3 300).setTcb 9 143 140 4))]
end D
namespace E
def wits5 : List (State) :=
  [State.reset, State.reset.setObj .hallPaceState 0 paceSleep]
end E
namespace F
def wits6 : List (State) :=
  [State.reset, (State.reset.setObj .coreState 0 coreHaltedDebug).setObj .coreState 1 coreHaltedFault,
  { (State.reset.setObj .coreState 0 coreIdle).setObj .schPmemState 0 0x1007 with sched := [(0, { SchedSt.reset with loading := [0, 3], loadSrc := terraceBase 0 + 0x10000 })], mem := [(terraceBase 0 + 0x10001, 7)] },
  { (State.reset.setObj .coreState 0 coreIdle).setObj .schPmemState 0 0x1007 with sched := [(0, { SchedSt.reset with loading := [0], loadSrc := terraceBase 0 + 0x10000 })], mem := [(terraceBase 0 + 0x10001, 7)] },
  State.withThread { running 0 0x10 { kcall with callWait := true } with sched := [(0, { SchedSt.reset with running := [(0, 6)] }), (15, { SchedSt.reset with inbound := [⟨5, 0x11, 15 * 1024 + 2, 0, 4⟩], sems := [(2, ⟨2, 3, none, []⟩)] })] } 5 thRunning 3 200]
end F
end We

namespace Wf
/-- Frame 100,000 of GPS time: SFN 672; slot 0 of numerology 0 is slot 1,000,000. -/
def atFrame (s : State) (ns : Int) : State := (s.setObj .timeSec 0 315965819).setObj .timeNs 0 ns
/-- Header: reply queue 3, OP, TAG 0x55, carrier 0, SFN 672, slot 0. -/
def hdr (op : Nat) : Nat := 3 * 2 ^ 56 + op * 2 ^ 52 + 0x55 * 2 ^ 32 + 672 * 2 ^ 12
/-- Steering entry of stream t of carrier 0: two PRBs, 16 bit, four buffers, page 16. -/
def steerE (t : Nat) : Nat := 2 ^ 127 + 5 * 2 ^ 121 + t * 2 ^ 105 + t * 2 ^ 84 + (16 + 16 * t) * 2 ^ 68 + 3 * 2 ^ 65 + 15 * 2 ^ 61 + 2 * 2 ^ 51
def s0f : State :=
  { (atFrame State.reset 1000).setObj .carrierHall 0 0 with
    steer := [(0, leBytes 16 (steerE 0) ++ leBytes 16 (steerE 1))], ulJobs := [(0, 1000000)] }
def buf2 (st : Nat) : UlBuf := { UlBuf.reset with st := st, slot := 1000000, landed := [(0, 3), (1, 3), (16, 3), (17, 3)], gains := [(0, 129), (1, 129)] }
def arm0 : ArmSt := ⟨0, 1000000, 3, 3, 0, 0, 2, 0x40000⟩
def heldf (st : Nat) : State := { s0f with ulBufs := [(0, buf2 st)], arms := [arm0] }
def secf (sym start num : Nat) : UlSection := ⟨sym, false, start, num, 0, 16, (List.range 96).map (fun i => BitVec.ofNat 8 (i + 1))⟩
def ff (sec : UlSection) : UlFrame := { endpoint := 5, eaxc := 0, filter := 0, frameId := 100000 % 256, subframe := 0, slotId := 0, seq := 1, arrival := (atFrame State.reset 2000).now, sections := [sec] }
def wits2 : List (UlFrame) :=
  [ff (secf 0 0 2), ff (secf 1 1 1), { ff (secf 0 0 2) with eaxc := 9 }]
def er (s : State) (e : Nat) : EngRun := ⟨0x8000, s.readDesc 0 0x8000, 5, s.now⟩
namespace A
def armD : Nat := hdr 1 + 3 * 2 ^ 128 + 3 * 2 ^ 164 + 0 * 2 ^ 178 + 2 * 2 ^ 191 + 0x40000 * 2 ^ 200
def relD : Nat := hdr 2
def runArm (s : State) : State := { s.withReply 0 with engBusy := [(0, some ⟨0x8000, armD, 5, s.now⟩)] }
def ss : List State := [s0f, heldf 1, heldf 2, { heldf 2 with }.setObj .timeNs 0 4000000, (heldf 3).setObj .timeNs 0 4000000,
  s0f.withDesc 0 0 0x8000 armD, (heldf 2).withDesc 0 0 0x8000 relD, runArm (heldf 1), (runArm (heldf 1)).setObj .ulGainMode 0 1,
  (runArm { s0f with arms := [arm0] }).setObj .timeNs 0 500000, (((runArm { s0f with arms := [arm0] }).setObj .timeNs 0 500000)).setObj .ulGainMode 0 1,
  {(heldf 2).setObj .timeNs 0 4000000 with ulBufs := [(6144, buf2 2)]}]
def wits3 : List (State) :=
  ss
def wits4 : List (EngRun) :=
  ss.flatMap (fun s => [er s 0, ((s.engRun 0 0).getD (er s 0))])
def wits5 : List (ArmSt) :=
  [arm0]
end A
namespace B
def chD := hdr 3 + 3 * 2 ^ 128 + 2 * 2 ^ 183 + 1 * 2 ^ 212 + 1 * 2 ^ 280 + 0x400 * 2 ^ 288
def ue : Nat := 0x500 * 2 ^ 42 + 2 * 2 ^ 7 + 1 * 2 ^ 3
def deD := hdr 4 + 3 * 2 ^ 128 + 2 * 2 ^ 160 + 2 * 2 ^ 183 + ue * 2 ^ 232 + 0x400 * 2 ^ 192
def weD := hdr 5 + 0x400 * 2 ^ 128 + 0x600 * 2 ^ 140 + 1 * 2 ^ 192 + 2 * 2 ^ 183
def ffD := hdr 6 + 1 * 2 ^ 128 + 2 * 2 ^ 160 + 12 * 2 ^ 251 + 1 * 2 ^ 264 + 0x70000 * 2 ^ 200
def dl (n : Nat) (d : Nat) : Nat := d + n * 2 ^ 64
def ouD := dl (((heldf 2).ulDeadline 0 1000000).toNat) (hdr 7) + 0x240 * 2 ^ 128 + 0 * 2 ^ 146 + 1 * 2 ^ 150 + 0x250 * 2 ^ 168 + 1 * 2 ^ 186 + 4 * 2 ^ 194
def decD := hdr 8
def wOut (s : State) : State := { s with mem := memWrite (memWrite s.mem (terraceBase 0 + 64 * 0x240) (leBytes 64 deD)) (terraceBase 0 + 64 * 0x250) (leBytes 64 (hdr 8 + 100 * 2 ^ 367 + 2 * 2 ^ 360 + 1 * 2 ^ 357 + 300 * 2 ^ 336 + 4 * 2 ^ 310 + 2 ^ 309)) }
def runO (s : State) : State := { wOut (s.withReply 0) with engBusy := [(3, some ⟨0x8000, ouD, 5, s.now⟩)] }
def ss : List State := [(heldf 2).withDesc 0 1 0x8000 chD, (heldf 2).withDesc 0 1 0x8000 (dl 5 chD), (heldf 2).withDesc 0 3 0x8000 deD,
  {(heldf 3).withDesc 0 3 0x8000 weD with hBufs := [(0x400, 0 + 4 * 3)] }, (heldf 2).withDesc 0 2 0x8000 ffD, (wOut ((heldf 2).withDesc 0 3 0x8000 ouD)).setObj .ulOuterMax 0 3,
  ((wOut ((heldf 2).withDesc 0 3 0x8000 ouD)).setObj .ulOuterMax 0 3).setObj .timeNs 0 1999999, (runO (heldf 2)), (runO (heldf 2)).setObj .timeNs 0 1999999,
  (heldf 2).withDesc 0 0 0x8000 (hdr 1), (heldf 2).withDesc 0 0 0x8000 (hdr 2)]
def wits6 : List (State) :=
  ss
def wits7 : List (EngRun) :=
  ss.flatMap (fun s => [er s 0] ++ ((s.engRun 0 3).toList))
end B
namespace C
def decD (st nd wt tbs : Nat) := hdr 8 + tbs * 2 ^ 367 + 2 * 2 ^ 360 + 1 * 2 ^ 357 + 20000 * 2 ^ 336 + 4 * 2 ^ 310 + nd * 2 ^ 309 + st * 2 ^ 308 + wt * 2 ^ 307 + 7 * 2 ^ 388 + 0x80000 * 2 ^ 408 + 0x90000 * 2 ^ 432 + 0xA0000 * 2 ^ 456
def encD := hdr 9 + 0x80000 * 2 ^ 456 + 0x90000 * 2 ^ 432 + 100 * 2 ^ 411 + 2 * 2 ^ 404 + 1 * 2 ^ 401 + 300 * 2 ^ 380
def polD (dec : Nat) := hdr 0xA + 0x80000 * 2 ^ 456 + 0x90000 * 2 ^ 432 + dec * 2 ^ 431 + 20 * 2 ^ 417 + 100 * 2 ^ 403
def turD (dec : Nat) := hdr 0xB + 100 * 2 ^ 369 + dec * 2 ^ 366 + 2 * 2 ^ 360 + 1 * 2 ^ 357 + 400 * 2 ^ 336 + 4 * 2 ^ 310 + 1 * 2 ^ 309 + 7 * 2 ^ 388 + 0x80000 * 2 ^ 408 + 0x90000 * 2 ^ 432 + 0xA0000 * 2 ^ 456
def hfD := hdr 0xC + 7 * 2 ^ 236 + 1 * 2 ^ 216 + 1 * 2 ^ 212
def base : State := ((heldf 2).setObj .harqProcCount 0 1024).setObj .harqProcBase 0 (0x100010000 : Nat)
def wk (d : Nat) (c r : Bool) (ps : List Bool) (tb : Bool) : HarqWork := ⟨0, 0, 1000000, d, 0, 0, c, r, ps, ps.map (fun _ => []), tb⟩
def runD (d : Nat) (ps : List Bool) : State := { (base.setObj .timeNs 0 4000000).withReply 0 with engBusy := [(4, some ⟨0x8000, d, 5, base.now⟩)], harq := [wk d false true ps false], ulBufs := [(0, { UlBuf.reset with slot := 1000000 })] }
def grant (s : State) : State := (s.setObj .arbHolder 200 0).setObj .arbHolder 201 0
def cod (k d : Nat) : State := { base.withReply 0 with codecs := [(k, some ⟨0, ⟨0x8000, d, 5, base.now⟩⟩)] }
def ss : List State := [base.withDesc 0 4 0x8000 (decD 0 1 0 100), base.withDesc 0 4 0x8000 (decD 1 0 0 100), base.withDesc 0 4 0x8000 (decD 1 1 0 9000),
  base.withDesc 0 5 0x8000 encD, grant (base.withDesc 0 7 0x8000 (polD 0)), grant (base.withDesc 0 7 0x8000 (polD 1)), grant (base.withDesc 0 8 0x8000 (turD 0)), grant (base.withDesc 0 8 0x8000 (turD 1)),
  cod 1 (polD 0), cod 1 (polD 1), cod 4 (turD 0), { cod 4 (turD 1) with harq := [{ wk (turD 1) false false [] false with kind := 1 }] }, base.withDesc 0 6 0x8000 hfD,
  runD (decD 0 1 1 9000) [], runD (decD 0 1 1 9000) [true], runD (decD 1 1 1 100) [],
  { base with harq := [wk (decD 1 1 0 100) true true [true] true] }, { base with harq := [wk (decD 1 1 0 100) true true [false] false] },
  { base with harq := [wk (decD 1 1 0 100) true true [true] true], mem := memWrite base.mem (0x100010000 + 2048 * 7) (leBytes 8 (2 ^ 63 + 3)) }]
def wits10 : List (State) :=
  ss
def wits11 : List (EngRun) :=
  ss.flatMap (fun s => [er s 0] ++ ((s.engRun 0 4).toList) ++ ((s.codec 1).toList.map (fun r => r.run)) ++ ((s.codec 4).toList.map (fun r => r.run)))
def wits12 : List (HarqWork) :=
  ss.flatMap (fun s => s.harq)
end C
namespace D
def pc : Nat := 1 * 2 ^ 241 + 1 * 2 ^ 197 + 100 * 2 ^ 165 + 5 * 2 ^ 200 + 1 * 2 ^ 237 + 3 * 2 ^ 189 + 10 * 2 ^ 113
def se : Nat := 2 ^ 127 + 1 * 2 ^ 99 + 5 * 2 ^ 121 + 15 * 2 ^ 61
def base (l : Option (Int × Nat)) : State := { s0f.setDom .praCfgTable 0 (leBytes 32 pc) with steer := [(0, leBytes 16 se)], praJobs := [(0, 1000000)], ulBufs := [(6144, { UlBuf.reset with slot := 1000000 })], pra := [(0, { PraSt.reset with last := l })] }
def wits13 : List (State) :=
  [base none, base (some (1000000, 0))]
end D
end Wf

namespace Wg
/-- Frame 100,000 of GPS time: SFN 672; slot 0 of numerology 0 is slot 1,000,000. -/
def atFrame (s : State) (ns : Int) : State := (s.setObj .timeSec 0 315965819).setObj .timeNs 0 ns
/-- Header: reply queue 3, OP, TAG 0x55, carrier 0, SFN 672, slot 0. -/
def hdr (op : Nat) : Nat := 3 * 2 ^ 56 + op * 2 ^ 52 + 0x55 * 2 ^ 32 + 672 * 2 ^ 12
def key0 : Nat := 2 ^ 60 + 5
def ctxBase0 : Nat := 0x100040000000
/-- The context store in service with 64 entries. -/
def ctxUp : State := ((((atFrame State.reset 1000).setObj .ctxBase 0 ctxBase0).setObj .ctxEntries 0 64).setObj .ctxEnable 0 1).setObj .ctxSeqNext 0 0xFFFFFFFF
def ctxD (cmd extra : Nat) : Nat := hdr 0xF + key0 * 2 ^ 448 + cmd * 2 ^ 412 + 0xB * 2 ^ 408 + 0x60000 * 2 ^ 384 + extra
/-- The same with key 0 in way 1 of its bucket, entry 9. -/
def ctxHeld : State := { (ctxUp.setObj .ctxUsed 0 1) with
  mem := memWrite (memWrite ctxUp.mem (ctxUp.wayAddr (ctxUp.ctxH1 key0) 1) (leBytes 16 (wayOf key0 77 false 9))) (ctxUp.entryAddr 9) ((List.range 256).map (fun i => BitVec.ofNat 8 (i + 1))), ctx := { CtxSt.reset with high := 10 } }
def er (s : State) (e : Nat) : EngRun := ⟨0x8000, s.readDesc 0 0x8000, 5, s.now⟩
namespace A
def bd (syms td : Nat) : Nat := hdr 0xD + 0x80000 * 2 ^ 456 + 1 * 2 ^ 446 + syms * 2 ^ 432 + 15 * 2 ^ 420 + td * 2 ^ 398 + 0x90000 * 2 ^ 374 + 2 * 2 ^ 365
def sp : Nat := hdr 0xE + 0x90000 * 2 ^ 456 + 1 * 2 ^ 453 + 7 * 2 ^ 449 + 4 * 2 ^ 440 + 3 * 2 ^ 414
def base : State := ((atFrame State.reset 1000).setObj .carrierHall 0 0).setObj .ethFsSize 0 65536
def tme (t m : Nat) : Nat := 2 ^ 127 + t * 2 ^ 112 + m * 2 ^ 77
def mapped (m : Nat) : State := { base with txMaps := [(0, leBytes 16 (tme 0 m))] }
def queued (dep : Nat) (s : State) : State := { s.withReply 0 with dlJobs := [(0, 1000000), (1, 5)], sched := [(0, { SchedSt.reset with queues := [(3, ⟨0x8207, 0x20000, 0, dep, [], []⟩)] })] }
def ss : List State := [(queued 0 base).setObj .carrierBuildQueue 0 3, (queued 3 base).setObj .carrierBuildQueue 0 3, (queued 0 base).setObj .carrierBuildQueue 0 3 |>.setObj .timeSec 0 0,
  State.ent (base.withDesc 0 9 0x8000 (bd 3 1)), State.ent (base.withDesc 0 9 0x8000 (bd 0x2000 1)), State.ent (base.withDesc 0 9 0x8000 (bd 3 0)), State.ent ((mapped 0).withDesc 0 9 0x8000 (bd 3 0)), base.withDesc 0 10 0x8000 sp, (mapped 1).withDesc 0 10 0x8000 sp,
  mapped 1, { mapped 1 with td := [(0, { TdSt.reset with mask := 2, fails := 3, passes := 4, syms := 1, carry := some 999999, shaped := [999999], lead := 64, leadNs := 500 }), (7, { TdSt.reset with mask := 1, fails := 1, passes := 1, syms := 1 })] }]
def wits1 : List (State) :=
  ss
def wits2 : List (EngRun) :=
  ss.flatMap (fun s => [er s 0])
end A
namespace B
def gr (s : State) : State := (s.setObj .arbHolder 204 0).setObj .relJournalBase 0 0x180000000000
def ss : List State := [gr ctxUp, gr ctxHeld, { gr ctxHeld with dravutOut := [] }].flatMap (fun s => [0, 1, 2, 3, 4].map (fun c => s.withDesc 0 11 0x8000 (ctxD c 0)) ++ [s.withDesc 0 11 0x8000 (ctxD 2 (77 * 2 ^ 416 + 2 ^ 415)), s.withDesc 0 11 0x8000 (ctxD 3 (77 * 2 ^ 416 + 2 ^ 415)), (s.withDesc 0 11 0x8000 (ctxD 1 0)).setObj .ctxUsed 0 64])
def wits3 : List (State) :=
  ss
def wits4 : List (EngRun) :=
  ss.flatMap (fun s => [er s 0])
end B
namespace C
def swept (b : Nat) : State := { (ctxUp.setObj .ctxIdleExpire 0 1000) with mem := memWrite ctxUp.mem (ctxUp.wayAddr b 0) (leBytes 16 (wayOf key0 77 false 9)), ctx := { CtxSt.reset with high := 10, sweep := b, touched := [3] } }
def pm (s : State) : State := ((s.setObj .pairState 0 pairPaired).setObj .pairRole 0 1)
def cfg (s : State) : State := { s with ctx := { s.ctx with last := some s.ctxConfig, high := 4 } }
def wits5 : List (State) :=
  [State.reset, ctxUp, cfg ctxUp, ctxUp.setObj .ctxEnable 0 0, cfg (ctxUp.setObj .ctxEnable 0 0), ctxUp.setObj .ctxBase 0 5, swept 3, swept (ctxUp.ctxH1 key0), swept 31, swept 200, { swept 3 with ctx := { CtxSt.reset with sweep := 31, clearing := true } }, { swept 3 with ctx := { CtxSt.reset with sweep := 31, clearing := true, last := some ((swept 3).ctxConfig) } }, pm (swept 3), pm { swept 3 with ctx := { CtxSt.reset with sweep := 31, clearing := true, last := some ((swept 3).ctxConfig) } }, { ctxUp.setObj .ctxIdleExpire 0 1000 with ctx := { CtxSt.reset with sweep := 31 } }]
end C
namespace D
def hW (a op len aux inl : Nat) : Nat := 3 * 2 ^ 251 + 0 * 2 ^ 245 + 2 * 2 ^ 240 + 3 * 2 ^ 234 + len * 2 ^ 228 + op * 2 ^ 222 + 7 * 2 ^ 210 + a * 2 ^ 162 + aux * 2 ^ 128 + inl
def pks : List GalPacket := [⟨hW (terraceBase 3 + 0x30003) 2 0 6 0x1122334455667788, [], [], 0⟩, ⟨hW (terraceBase 3 + 0x30003) 2 2 60 0, (List.range 64).map (fun i => BitVec.ofNat 8 (i + 1)), [], 0⟩, ⟨hW (terraceBase 3 + 0x30003) 2 8 255 0, (List.range 256).map (fun i => BitVec.ofNat 8 (i + 1)), [], 0⟩,
  ⟨hW (terraceBase 3 + 0x30003) 1 0 255 0 + 2 ^ 255, [], [], 0⟩, ⟨hW (terraceBase 3 + 0x30003) 1 0 255 0 + 2 ^ 255 + 2 ^ 244, [], [], 0⟩]
def wits6 : List (GalPacket) :=
  pks
def ar (ages : Tab Nat) (fr hold : Int) (k : Nat) : State := (({ State.reset with arbs := [(k, { ArbSt.reset with ages := ages, holder := 1, ptr := 2 })] }.setObj .arbFreeze k fr).setObj .arbHolder k hold).setObj .arbPointer k 2
def gl (mv : List (Nat × List (Nat × Nat × Nat))) : State := { State.reset with gal := { GalSt.reset with bufs := [(galBufKey 2 0 0, pks.take 2)], links := mv.map (fun x => (5 * 2 + x.1, ⟨x.2, []⟩)) } }
def wits9 : List (State) :=
  [State.reset, ar [(0, 15), (2, 3)] 0 1 0, ar [(1, 4), (2, 3), (3, 14)] 4 1 0, (ar [(1, 4), (2, 3), (3, 14)] 2 1 30).setObj .arbBase (32 * 30 + 1) 12, ar [(1, 4), (2, 3), (3, 14)] 2 1 252, ar [(1, 4), (2, 15), (3, 15)] 2 1 572,
  { State.reset with sched := [(0, { SchedSt.reset with held := [⟨70, 3, 2 ^ 130 + 77⟩], queues := [(3, ⟨0x8207, 0x20000, 3, 1, [], []⟩)] })], mem := [(terraceBase 3 + 0x30004, 9)] },
  gl [], gl [(0, [(0, 0, 1)])], gl [(2, [(0, 0, 1)])], gl [(2, [(0, 0, 3), (3, 1, 2)])],
  { State.reset with gal := { GalSt.reset with ingress := [(3, pks)] } }, { State.reset with sched := [(0, { SchedSt.reset with engq := [(0xFB, [(5, 0)])] })] }.setObj .arbHolder 204 255]
end D
end Wg

namespace Wh
def tb := terraceBase 0
def upw (l : List (MemLoc × Nat)) (s : State) : State := l.foldl (fun s p => s.setUpset p.1 p.2) s
def ddrUp : State := (((State.reset.setObj .ddrState 0 2).setObj .memDdrSize 0 (8 * 1048576 * 16384 : Nat)).setObj .ddrCapacity 0 16384).setObj .ddrSweepFront 0 1048576
namespace A
def wits1 : List (MemLoc) :=
  [.global (tb + 8), .global (tb + 0x40000), .global ddrBase, .global (ddrGlobal 0 (1048576 * 3)), .core 5 16, .buffer 3 8, .summerhouse 64, .global 5]
def wits2 : List (List Byte) :=
  [[], [1, 2, 3], (List.range 64).map (fun i => BitVec.ofNat 8 (i + 1))]
def wits4 : List (State) :=
  [State.reset, upw [(.global (tb + 8), 3), (.core 5 16, 1), (.global ddrBase, 1)] ddrUp, { ddrUp with ddr := [(0, { DdrSt.reset with filled := [1] })] }, upw [(.global (tb + 8), 7)] ddrUp]
end A
namespace B
def e0 (st : Nat) (a : Nat) : LogEntry := { LogEntry.reset with st := st, addr := a, count := 2 }
def sc (m : Nat) (pos : Nat) (s : State) : State := ((s.setObj .scrubEn m 1).setObj .scrubPos m pos).setLap m ⟨5000000000, some 0⟩
def full : State := upw [(.global (tb + 8), 3), (.global (tb + 16), 1), (.core 5 16, 1), (.buffer 0 8, 1), (.global 0x200000008, 1)] { State.reset with mem := [(tb, 1), (tb + terraceSize, 2), (0x200000000, 9)], coreMem := [(5, 5), (16777216 * 13 + 1, 3)], eccLog := [(0, e0 2 (tb + 8)), (1, { e0 4 (tb + 16) with noRepair := true }), (2, e0 4 (tb + 24))], hotQueue := [0, 64 * 24] }
def wits8 : List (State) :=
  [full, sc 0 0 full, sc 0 0xFFFFFFFF full, sc 24 0 full, sc 24 0x80FFC0 full, sc 0 (0xC00000 - 64) full, (sc 0 0 full).setObj .scrubLapLimit 0 3, { State.reset with eccLog := [(0, e0 2 (tb + 8))], hotQueue := [0] }, 
  sc 16 0 ddrUp, sc 25 0x3FFC0 full]
end B
namespace C
def tr (w : Nat) : DdrTrain := ⟨0, 1, 16384, 6400, 8, 4, 1, w, [(0, 1, 2)]⟩
def wits9 : List (DdrTrain) :=
  [tr 4, tr 8, { tr 4 with speed := 1 }, { tr 4 with reason := 9 }]
def wits10 : List (List DdrTrain) :=
  [List.replicate 7 (tr 4), List.replicate 3 (tr 4) ++ [tr 8] ++ List.replicate 3 (tr 4)]
def le (a : Nat) : LogEntry := { LogEntry.reset with st := 4, addr := a, bitA := 3, bitB := 40 }
def base : State := { upw [(.global (tb + 8), 3), (.global (tb + 16), 7), (.global ddrBase, 8)] State.reset with eccLog := [(0, le (tb + 8)), (1, le (tb + 0x50000)), (64 * 16, le ddrBase), (64 * 24, le 0x200000010), (65, { LogEntry.reset with st := 5 }), (66, { LogEntry.reset with st := 1 })] }
def free : State := { base with ddr := [(0, ⟨true, 8, 4, 1, 4, []⟩)], sppr := (List.range 16).map (fun x => (spprKey 0 x 0, 1)) }
def wits12 : List (State) :=
  [base, free, { base with sparesUsed := [(0, 2), (768, 1)] }, base.setObj .arbHolder 0 3, (free.setObj .ddrPprMode 0 1).setObj .ddrState 0 2, (State.reset.setObj .ddrHpprEn 0 1)]
end C
end Wh

namespace Wi
/-- Lane l with a mode of its quad, a state, and what else it holds. -/
def laneIn (l : Nat) (mode st : Int) (x : LaneSt) : State :=
  { (State.reset.setObj .laneQuadMode (l / 4) mode).setObj .laneState l st with lanes := [(l, x)] }
/-- The four lanes of quad 1 as a port of mode m, all in state st with block lock. -/
def quadIn (m st : Int) (x : LaneSt) : State :=
  { ((((State.reset.setObj .laneQuadMode 1 m).setObj .laneState 4 st).setObj .laneState 5 st).setObj .laneState 6 st).setObj .laneState 7 st with lanes := [(4, x), (5, x), (6, x), (7, x)] }
def L : LaneSt := LaneSt.reset
def ls : List LaneSt := [L, { L with cdr := true, blockLock := true, an := true, fails := 1, markLock := true, mseq := some 7, markMiss := 2 }, { L with blockLock := true, cdr := true, pending := true, before := 20, dir := 1, lowRun := true, touched := true, markLock := true, markMiss := 3 }, { L with skip := true, an := true, fails := 2, sentDone := true, recvDone := true, held := true }, { L with lpi := true, reverted := true, cdr := true, an := true }, { L with reverted := true, holdUntil := 10 ^ 20 }, { L with pending := true, trial := 1, before := 200, dir := -1, post := 3, snapPost := 9, snapPre := 2, cdr := true }]
def mix (l : Nat) (mode : Int) : List State := [0, 1, 2, 3, 4, 5].flatMap (fun st => ls.map (fun x => laneIn l mode st x))
namespace A1
def wits4 : List (State) :=
  [laneIn 5 1 3 (ls.getD 1 L), laneIn 48 8 3 (ls.getD 1 L),
  { State.reset with staged := [(0, { StageSt.reset with doms := [(objKey .dlTxmapTable 0, leBytes 16 (2 ^ 127 + 5 * 2 ^ 84))] })] }]
end A1
namespace A2
def wits5 : List (State) :=
  mix 5 1 ++ mix 48 8 ++ (mix 5 7).take 12 ++ (mix 5 1).map (fun s => s.setObj .laneQuadAnEn 1 1) ++ ((mix 5 1).map (fun s => s.setObj .lanePrbsTx 5 2)).take 6
end A2
namespace A3
def wits6 : List (State) :=
  [quadIn 4 3 { L with blockLock := true }, { quadIn 4 3 { L with blockLock := true } with ports := [(4, { PortSt.reset with aligned := true })] }, (quadIn 5 1 { L with cdr := true }).setObj .laneQuadAnEn 1 1, laneIn 5 1 1 (ls.getD 1 L) |>.setObj .laneQuadAnEn 1 1]
end A3
namespace B
def ex (s : State) (f : Int) (sure : Int) (sn : Int) : State := (((((s.setObj .laneAdaptEn 5 1).setObj .laneFom 5 f).setObj .laneConfOk 5 sure).setObj .laneTdens 5 250).setObj .laneSnapFom 5 sn)
namespace B1
def wits7 : List (State) :=
  (mix 5 1).map (fun s => (s.setObj .laneTxFfeNow 5 (ffeOf 4 42 17)).setObj .ethEeeEn 5 1)
end B1
namespace B3
def wits8 : List (State) :=
  mix 48 8
end B3
namespace B4
def wits9 : List (State) :=
  mix 5 1
end B4
namespace B2
def wits10 : List (State) :=
  ((mix 5 7) ++ mix 5 9).flatMap (fun s => [(0, 1, 100), (100, 1, 100), (10, 1, 100), (21, 1, 21), (22, 1, 21), (23, 1, 24), (5, 0, 0)].map (fun p => ex s p.1 p.2.1 p.2.2))
end B2
end B
namespace C
def vs : List Nat := [0, 1, 4, 9, 10, 0x83, 0x112A04, ffeOf 1 63 0, 0xF1000304 + 0x2A00]
noncomputable def wits11 : List (Instr) :=
  [(⟨.h, 0⟩ : Accessor)].flatMap (fun a => [5, 48].flatMap (fun l => vs.flatMap (fun v => [Instr.laneLoopbackWrite a l v, .lanePrbsTxWrite a l v, .lanePrbsChkWrite a l v])))
def wits12 : List (State) :=
  (mix 5 1 ++ mix 48 8).take 40 ++ ((mix 5 1).map (fun s => s.setObj .lanePrbsTx 5 2)).take 12
end C
end Wi

namespace Wj
/-- Header: reply queue 3, OP, TAG 0x55, carrier 0, SFN 672, slot 0. -/
def hdr (op : Nat) : Nat := 3 * 2 ^ 56 + op * 2 ^ 52 + 0x55 * 2 ^ 32 + 672 * 2 ^ 12
/-- A port's own address set. -/
def withMac (s : State) (p : Nat) (v : Int) : State := { s with objs := tabInsert s.objs (objKey .ethMacAddr p) v }
/-- Port 4 is UP at 25 Gb/s with MAC address 0x0200000000AA. -/
def portIn : State :=
  withMac ((State.reset.setObj .ethPortState 4 portUp).setObj .ethPortRate 4 25000) 4 0x0200000000AA
def frameTo (dst ty : Nat) (l : List Byte) : List Byte := beBytes 6 dst ++ beBytes 6 0x020000000001 ++ beBytes 2 ty ++ l ++ List.replicate (60 - l.length) 0
def txE (p q : Nat) (launch close : Int) (src : TxSource) : TxEntry := ⟨p, q, launch, close, 3, src, List.replicate 60 7, true, false, false, false⟩
def wits1 : List (List Nat) :=
  [[], [0x1000, 0x2000], [100000, 5, 0, 0, 0, 0, 0, 0, 7], [3, 0, 0, 0, 0, 6]]
def fr (b : List Byte) (fcs code : Bool) : RxFrame := ⟨b, fcs, code, 5⟩
def pause : List Byte := frameTo 0x0180C2000001 0x8808 ([0, 1, 0, 9])
def pfcF : List Byte := frameTo 0x0180C2000001 0x8808 ([1, 1, 0, 0x21, 0, 9] ++ List.replicate 8 0 ++ [0, 3, 0, 0, 0, 0])
def big : List Byte := frameTo 0x0200000000AA 0x1234 (List.replicate 100 3)
def wits2 : List (RxFrame) :=
  [fr pfcF true false, fr (frameTo 0x0200000000AB 0x1234 []) true false, fr (frameTo 0x0200000000AA 0x88F7 [0, 2]) true false, fr (frameTo 0x0200000000AA 0xAEFE [0x10, 0, 0, 20, 0, 0, 0, 0, 0, 0, 0, 0]) true false, fr big true false, fr (frameTo 0x0200000000AA 0x0800 ([0x45, 0, 0, 0, 0, 0, 0, 0, 0, 17] ++ List.replicate 10 0 ++ [0, 0, 1, 63])) true false, fr pause true false, fr (frameTo 0x0180C2000001 0x8808 [0,1,0,0]) true false, fr (frameTo 0x0200000000AA 0x1234 [1,2,3]) true false, fr (frameTo 0x0200000000AA 0x1234 [1,2,3]) false false, fr (frameTo 0x0200000000AA 0x1234 [1,2,3]) true true, fr [1,2,3] true false, fr (frameTo 0x0200000000AA 0x1234 (List.replicate 2000 1)) true false]
namespace A
def rp (s : State) : State := s.setDom .swEndpointTable 0 (leBytes 16 (2 ^ 127 + 4 * 2 ^ 121 + 0x020000000001 * 2 ^ 60))
def ring : State := { (((((portIn.setObj .ethDefRing 4 2).setObj .erxEnable 2 1).setObj .erxOwner 2 2).setObj .erxBufSize 2 2048).setObj .erxXoff 2 5).setObj .erxPorts 2 16 with erx := [(2, ⟨2^32 - 1, 2^32 - 1, [0x9000, 0xA000], false⟩)] }
def wits3 : List (State) :=
  [State.reset, portIn, portIn.setObj .ethRxAlloc 4 50, (portIn.setObj .ethFcMode 4 1).setObj .ethFcHonor 4 0x21, ((portIn.setObj .ethFcMode 4 1).setObj .ethXoffState 4 1).setObj .ethXonWm 4 7, ((portIn.setObj .ethFcMode 4 1).setObj .ethXoffState 4 1).setObj .ethXonWm 4 1000000, ring, { portIn with ports := [(4, { PortSt.reset with stopped := [(0, 5), (5, 0), (6, 9)] })] }, (portIn.setObj .ethXonWm 4 0).setObj .ethXoffState 4 1 |>.setObj .ethFcMode 4 1, ring.setObj .erxOwner 2 0, rp portIn, ring.setObj .erxBufSize 2 64, ring.setObj .erxBufSize 2 40, ring.setObj .erxPorts 2 16 |>.setErx 2 ⟨0, 2, [1, 2, 3], true⟩ |>.setObj .ethFcMode 4 1, (((portIn.setObj .ethFcMode 4 2).setObj .ethPfcMask 4 0x21).setObj .ethXoffState 4 0x21).setObj .ethXonWm 4 5, (((portIn.setObj .ethFcMode 4 2).setObj .ethPfcMask 4 0x21).setObj .ethFcHonor 4 0x33).setObj .ethXoffWm 4 5]
end A
namespace B
def sdD : Nat := hdr 0 + 100 * 2 ^ 346 + 4 * 2 ^ 340 + 5 * 2 ^ 337 + 0x60000 * 2 ^ 360 + 77 * 2 ^ 448
def er (s : State) (e : Nat) : EngRun := ⟨0x8000, s.readDesc 0 0x8000, 5, s.now⟩
def eng : State := portIn.withDesc 0 12 0x8000 sdD
def ring : State := { (((portIn.setObj .ethMaxFrame 4 1518).setObj .etxEnable 2 1).setObj .etxOwner 2 2).setObj .etxCount 2 8 with etx := [(2, ⟨2^32-1, 2^32-1, [], []⟩)] }
def at5 (s : State) : State := s.setObj .timeNs 0 500
def arb (i : Nat) (s : State) : State := s.setObj .arbHolder 209 i
def es : List TxEntry := [txE 4 5 0 0 .own, txE 4 5 100 0 .own, txE 4 5 100 400 .own, txE 4 5 900 0 .own, txE 4 5 100 400 (.build 1 3 7), { txE 4 5 100 600 .own with late := true }, { txE 4 5 501 0 .own with staged := false }]
def wits6 : List (State) :=
  [eng, eng.setObj .ethMaxFrame 4 50, ring, { ring with etx := [(2, ⟨0, 0, [], []⟩)] }, { ring with etx := [(2, ⟨0, 5, [], [(9, 9)]⟩)] }] ++ es.map (fun e => at5 (arb 3 { portIn with txOffers := [txE 3 3 0 0 .own, e] })) ++ es.map (fun e => at5 (arb 3 { portIn.setObj .ethLatePolicy 4 32 with txOffers := [txE 3 3 0 0 .own, e] })) ++ [at5 (arb 3 { State.reset with txOffers := [txE 4 3 0 0 .own] })]
  ++ es.map (fun e => at5 { portIn with txQueue := [txE 3 3 0 0 .own, e] }) ++ [at5 { portIn with txQueue := [txE 4 5 7 0 .own, { txE 4 5 9 0 .own with staged := false }, { txE 4 5 9 0 .own with staged := false }], txOffers := [txE 4 5 8 0 .own] }, at5 { (portIn.setObj .ethGuardEn 4 1) with txQueue := [txE 4 5 7 0 .own, txE 4 7 505 0 .own] }, at5 (portIn.setPort 4 { PortSt.reset with xoff := 1 }), at5 (portIn.setPort 4 { PortSt.reset with xon := 3 })]
def wits7 : List (EngRun) :=
  [er eng 12]
def wits8 : List (TxEntry) :=
  es
end B
end Wj

namespace Wk
/-- DDR is sized and the journal has its place. -/
def ddrUp : State := ((State.reset.setObj .memDdrSize 0 (0x4000000000 : Nat)).setObj .relJournalBase 0 (ddrBase + 0x1000000 : Nat))
/-- Context k holds one staged value, armed for device time 0. -/
def armed1 (k : Nat) (o : Obj) (n : Nat) (x : Int) : State :=
  { State.reset.setObj .stageState k 1 with staged := [(k, { StageSt.reset with vals := [(objKey o n, x)] })] }
def wits2 : List (List (Nat × Nat)) :=
  [[]]
namespace A
def un : Unacked := ⟨⟨.v, 3⟩, 0x4400, 6, 9, [], false⟩
def win (fn : Nat) (o : Obj) (n : Nat) : State := { ddrUp.setObj .dictWinObj (accessorNo (fnAccessor fn)) (objAddr o n * 256 : Nat) with windows := [(fn, [7, 0, 0, 0, 3])], staged := [(stageCtxOf (fnAccessor fn), { StageSt.reset with vals := [(objKey .carrierBuildQueue 5, 77)] })] }
def grp (fn : Nat) (o : Obj) (n : Nat) : State := { ddrUp with windows := [(fn, leBytes 4 (objAddr o n * 256) ++ leBytes 4 0)] }
namespace A1
def wits5 : List (State) :=
  [ddrUp, { ddrUp with unacked := [un, { un with who := ⟨.h, 0⟩ }] }, win 0 .ctxIdleExpire 0, win 0 .carrierBuildQueue 5, grp 0 .ctxIdleExpire 0, grp 3 .carrierBuildQueue 5]
def wits6 : List (ObjRow) :=
  [objRow .ctxIdleExpire, objRow .carrierBuildQueue]
end A1
end A
namespace B
def past : State := (State.reset.setObj .timeSec 0 315965819)
def wits7 : List (State) :=
  [State.reset, past, { past with staged := [(0, { StageSt.reset with vals := [(objKey .carrierBuildQueue 5, 77)] }), (3, { StageSt.reset with vals := [(objKey .ulGainTarget 5, -77)] })] }, armed1 0 .carrierBuildQueue 5 77, armed1 3 .ulGainTarget 2 (-40), armed1 3 .carrierHall 2 4]
end B
end Wk

namespace Wl
/-- NAP on port 4 and on the management port, with addresses. -/
def napUp : State := (((State.reset.setObj .ethNapEn 4 1).setObj .napFhIp 0 0x0A000001).setObj .mgmtIp 0 0x0A000002).setObj .mgmtState 0 portUp
def napOp (op addr fin : Nat) (data : List Byte) : List Byte := beBytes 8 (op * 2 ^ 56 + addr * 2 ^ 24 + fin * 65536 + data.length) ++ data
def napD (session seq n : Nat) (ops : List Byte) : List Byte := beBytes 16 (2 ^ 120 + n * 2 ^ 104 + session * 2 ^ 72 + seq * 2 ^ 40 + ops.length * 2 ^ 16) ++ ops
/-- A UDP datagram in IPv4 in an Ethernet frame. -/
def udpF (ip : Nat) (d : List Byte) : List Byte :=
  beBytes 12 5 ++ beBytes 2 0x0800 ++ [0x45, 0] ++ beBytes 2 (28 + d.length) ++ beBytes 5 0 ++ [17] ++ beBytes 2 0 ++ beBytes 4 9 ++ beBytes 4 ip
    ++ beBytes 2 1000 ++ beBytes 2 38496 ++ beBytes 2 (8 + d.length) ++ beBytes 2 0 ++ d
def arpF (ip : Nat) : List Byte := beBytes 12 5 ++ beBytes 2 0x0806 ++ beBytes 8 0x0001080006040001 ++ beBytes 10 7 ++ beBytes 6 0 ++ beBytes 4 ip ++ List.replicate 18 0
def wA : Nat := objAddr .shWakePatterns 0
def rd : List Byte := napOp 1 (objAddr .ctxIdleExpire 0) 0 []
def ds : List (List Byte) := [napD 9 5 1 rd, napD 9 6 1 (napOp 1 (objAddr .ctxIdleExpire 0) 1 []), napD 9 4 1 rd, napD 8 4 1 rd, napD 9 6 2 rd, []]
def y : NapSt := { NapSt.reset with valid := true, session := 9, seq := 5, port := 4, frame := [1, 2, 3], snapObj := wA, snap := [1, 2, 3, 4], asmObj := wA, asm := [9, 8] }
def st (n : NapSt) : State := { napUp with naps := [(3, n), (1, { n with session := 77, asm := List.replicate (objRow .shWakePatterns).ty.bytes 5 }), (33, n)], staged := [(0, { StageSt.reset with vals := [(objKey .carrierBuildQueue 5, 77)] })] }
def wits3 : List (RxFrame) :=
  [⟨arpF 0x0A000002, true, false, 5⟩, ⟨udpF 0x0A000002 (ds.getD 0 [] ++ List.replicate 20 0), true, false, 5⟩, ⟨udpF 0x0A000003 (ds.getD 0 []), true, false, 5⟩, ⟨arpF 0x0A000003, true, false, 5⟩]
def wits4 : List (List Byte) :=
  ds ++ [[0, 0], arpF 0x0A000001, arpF 0x0A000002] ++ ds.flatMap (fun d => [udpF 0x0A000001 d, udpF 0x0A000002 d])
def wits5 : List (State) :=
  [State.reset, st y, st { y with busy := true }, { st y with i3c := ⟨none, true, true⟩ }, (st y).setObj .carrierBuildQueue 5 3 |>.setObj .pwrState 0 4]
end Wl

namespace Wm
def pm (gm : Nat) : PtpMsg := { announce := true, domain := 24, udp := false, gmId := gm, gmClass := 6, gmAccuracy := 33, gmVariance := 9, prio2 := 128, steps := 1, sender := 5, utcOffset := 37 }
/-- Port 4 takes part in PTP, in a clock state, with a master heard. -/
def ptpIn (st : Int) (heard : Nat) : State :=
  { ((((State.reset.setObj .ethPortState 4 portUp).setObj .ptpPortEn 4 1).setObj .timeState 0 st).setObj .timeSec 0 1000).setObj .ptpDomain 0 24 with
    time := { TimeSt.reset with masters := [(4, some ⟨pm 77, heard⟩)], slave := if heard = 2 then some 4 else none, offsets := [100, 110, 90], rhoLog := [(999000000000, 65536)], lockSince := some 5 } }
def wits1 : List (PtpMsg) :=
  [pm 77, pm 78, { pm 77 with udp := true }, { pm 77 with domain := 3 }]
def trg (s : State) : State := { (s.setObj .timeTrigStatus 0 (2^3 + 2^15 + 2^31 : Nat)).setObj .timeTrig 3 (2 * 2^56 + 999 * 10^9 : Nat) with time := { s.time with trigs := [(3, 999 * 10^9), (15, 1001 * 10^9)] } }
def el (s : State) : State := { ((s.setObj .timeLockHold 0 2).setObj .timeHoldoverMax 0 3) with time := { s.time with lockSince := some 0, holdEntry := 5, lastPps := some 7 } }
def base : List State := [0, 1, 2, 3].flatMap (fun st => [1, 2].map (fun h => ptpIn st h))
namespace A
def wits3 : List (State) :=
  [State.reset, ((ptpIn 0 1).setObj .ppsOutEn 0 1).setObj .ppsOutWidth 0 100000000, ((ptpIn 1 2).setObj .ptpPortIngLat 4 3500).setObj .ptpPortAsym 4 2, { (ptpIn 1 2) with time := { (ptpIn 1 2).time with offsets := [1, 2, 3] } }, ptpIn 0 1, ptpIn 1 2, ptpIn 2 2, trg (ptpIn 0 1), (trg (ptpIn 0 1)).setObj .carrierHall 3 0] ++ (([1, 500000000, 100000000, 100000001, 999999999, 890000000] : List Int).map (fun n => ((ptpIn 3 1).setObj .timeSource 0 1).setObj .timeNs 0 n)) ++ [((ptpIn 3 1).setObj .timeSource 0 1).setObj .carrierHall 3 0, (ptpIn 1 2).setObj .carrierHall 3 0]
end A
namespace B
def wits4 : List (State) :=
  base ++ base.map el ++ (base.map (fun s => { s with time := { s.time with masters := [], slave := none } })) ++ [el ((ptpIn 2 1).setObj .timeSource 0 1), el ((ptpIn 1 1).setObj .timeSource 0 1), ((ptpIn 1 1).setObj .synceSrc 0 4), { ((ptpIn 2 1).setObj .timeSource 0 1).setObj .synceSrc 0 6 with time := { (ptpIn 2 1).time with lastPps := some 3 } }, { ((ptpIn 1 1).setObj .timeSource 0 1).setObj .synceSrc 0 6 with time := { (ptpIn 2 1).time with lastPps := some 3 } } , ((ptpIn 1 1).setObj .synceHybrid 0 1).setObj .synceSrc 0 6, (ptpIn 1 1).setObj .ptpPortState 4 ptpMaster, (ptpIn 1 1).setObj .ptpPortState 4 ptpSlave]
end B
end Wm

namespace Wn
/-- Ring 2 of function 3: 64 entries, enabled, the link up, two descriptors posted; the jobs it holds. -/
def ringIn (jobs : List JobSt) (fetch : Nat) : State :=
  { ((((((((((State.reset.setObj .memDdrSize 0 (2 ^ 37 : Nat)).setObj .jrOwner 2 3).setObj .jrState 2 1).setObj .jrCount 2 64).setObj .crCount 2 64).setObj .jrBase 2 0x1000).setObj .crBase 2 0x2000).setObj .jrWbAddr 2 0x3000).setObj .pcieLinkSpeed 0 5).setObj .jrAccepted 2 fetch).setObj .timeSec 0 1000 with
    bme := [3], rings := [(2, ⟨7, fetch, none, jobs⟩)] }
def jobD (ty seq ep dl : Nat) : Nat := ty * 2 ^ 444 + ep * 2 ^ 384 + 64 * 2 ^ 320 + dl * 2 ^ 64 + seq
def jobIn (d q st : Nat) : JobSt := ⟨q, d, 0, 4, [], st, 255, [], 0, 0, 0, false, [], false, []⟩
def readOk : JobRead := { ok := true, deps := [], resv := false, bad := none, error := [], cfg := none, resp := [1, 2] }
def ep : Nat := 0
def late : Nat := 5
def dj : JobSt := jobIn (jobD 0 3 0 0 + 2 ^ 460 + 16 * 2 ^ 256) 3 0
def js : List JobSt := [jobIn (jobD 0 3 0 0) 3 0, jobIn (jobD 0x11 3 0 0) 3 0, jobIn (jobD 0x11 3 0 late) 3 1, jobIn (jobD 0x99 3 0 0) 3 0, jobIn (jobD 0x10 3 0 0) 3 2, jobIn (jobD 0x10 3 0 late) 3 2, { jobIn (jobD 0x10 3 0 0) 3 2 with redo := true, hall := 0 }, { jobIn (jobD 0x10 3 0 0) 3 3 with outcome := 4, reason := 8, detail := 9 }, { jobIn (jobD 0x10 3 0 0) 3 5 with outcome := 2, record := [1] }, { jobIn (jobD 0x10 3 0 0) 3 5 with outcome := 3, record := [1], result := [7] }, jobIn (jobD 0x10 3 0 0 + 2 ^ 456) 3 5, jobIn (jobD 1 3 0 0) 3 0, dj]
def depS : List State := [((ringIn [dj, jobIn (jobD 0 2 0 0) 2 0] 5)), ((ringIn [dj, { jobIn (jobD 0 2 0 0) 2 5 with outcome := 4 }] 5))]
def wits2 : List (JobRead) :=
  [readOk, { readOk with deps := [(2, 2)] }, { readOk with bad := some 0x800000 }, { readOk with resv := true }, { readOk with ok := false }]
def own (s : State) : State := ((s.setObj .carrierOwner 0 3).setObj .carrierHall 0 4).setObj .crWritten 2 3
def ss : List State := depS ++ [State.reset, ringIn [] 5, (ringIn [] 5).setObj .crHead 2 3, (ringIn [] 5).setObj .crHead 2 5, (ringIn [] 5).setObj .crWritten 2 5, (ringIn [] 5).setObj .jrState 2 0, (ringIn [] 5).setObj .jrState 2 2, { ringIn [] 5 with rings := [(2, ⟨7, 5, some 999000000000, []⟩)], msixMasked := [96] }, { ringIn [] 5 with rings := [(2, ⟨7, 5, some 999000000000, []⟩)] }] ++ js.flatMap (fun j => [own (ringIn [j] 5), (own (ringIn [j] 5)).setObj .jrCoalesce 2 100])
def ap : State := { State.reset with doms := [(objKey .apMap 0, (leBytes 8 (2 ^ 63 + 2 ^ 62 + 4) ++ leBytes 8 (2 ^ 63 + 4)) ++ List.replicate 500 0 ++ leBytes 8 (2^63 + 4))], mem := [(0x100000004, 9)] }
def wits5 : List (State) :=
  ss
end Wn

namespace Wo
/-- Every unit of a list sleeps. -/
def asleep (s : State) (l : List Nat) : State := { s with units := l.foldl (fun t u => tabSet UnitSt.reset t u { UnitSt.reset with st := unitSleeping }) [] }
/-- All that S2 asks sleeps but the units of a list. -/
def allBut (l : List Nat) : State :=
  asleep State.reset ((((List.range 18).map (192 + ·)) ++ ((List.range 56).map (218 + ·)) ++ ((List.range 8).map (210 + ·)) ++ [274, 275, 276, 277, 278, 400]).filter (fun u => !l.contains u))
def rd (s : State) : State := s.setObj .startRung 0 0
def d1 : State := { rd State.reset with pwr := { State.reset.pwr with vin := true, en := true } }
def bs (l : List Nat) : State := { rd (allBut l) with pwr := { State.reset.pwr with vin := true, en := true } }
def cap (s : State) (n : Nat) : State := s.setObj .pwrDelayCap 0 n
def up0 (s : State) : State := { s with unacked := [⟨⟨.v, 3⟩, 0x4400, 6, 9, [], false⟩] }
def wt (s : State) (t : Nat) (l : List Nat) (w : Nat) : State := { s with pwr := { s.pwr with waiting := true, todo := l, target := t, waited := w } }
def cm (s : State) (t : Nat) : State := { s with pwr := { s.pwr with committed := true, target := t }, mem := [(0x100040000000, 7)] }
def st (s : State) (n : Nat) : State := s.setObj .pwrState 0 n
def all : State := bs []
def ss : List State := [State.reset, d1, all, bs [400], bs [274], bs [276], bs [277], up0 (bs [277]), up0 (bs [400]), cap (up0 (bs [277])) 5, cap (up0 (bs [400, 277])) 5, (bs [277]).setObj .stageState 3 1, bs [277, 278],
  ((bs [276, 277]).setObj .jrState 5 1), (bs [400, 277]).setObj .pairMode 0 1, bs [400, 277], st all 2, st all 4, st d1 3, st d1 2,
  wt (cap (up0 (bs [277])) 5) 2 [277] 5, wt (cap (up0 (bs [277])) 5) 2 [277] 2, wt (bs [277]) 2 [277] 5, wt (bs [278]) 3 [278] 0,
  wt (cap { up0 (bs [277]) with pwr := { (up0 (bs [277])).pwr with stopped := [192, 274] } } 5) 2 [277] 5, { cm (st d1 2) 2 with pwr := { (cm d1 2).pwr with wakes := [3, 1] } }, cm d1 2, cm d1 3, cm d1 4, cm (d1.setObj .pwrWakeAt 0 5) 2]
def gated (s : State) (u : Nat) : State := (s.setObj .pwrGated 0 (2 ^ (u - 192) : Nat)).setObj .pwrState 0 1
def s6 : List State := [d1, st d1 4, { d1 with pwr := { d1.pwr with vin := false } }, { d1 with pwr := { d1.pwr with vin := false, en := false } }, { d1 with pwr := { d1.pwr with en := false } }, { (st d1 4) with pwr := { d1.pwr with en := false } }, { d1 with pins := { d1.pins with alertVin := true } }, (d1.setObj .pwrVinWarn 0 5000)]

namespace o0
def wits2 : List (State) :=
  ss
noncomputable def wits3 : List (Instr) :=
  [.pwrReqS2 ⟨.h, 0⟩ 3, .pwrReqS3 ⟨.h, 0⟩ 0, .pwrReqS4 ⟨.h, 0⟩ 30000]
end o0

namespace o1
def wits2 : List (State) :=
  ss
end o1

namespace o2
def wits2 : List (State) :=
  ss
end o2

namespace o3
def s2 : List State := [d1, st all 0, (st (bs [277]) 2).setObj .pwrWakeEn 0 0] ++ [st (bs [277]) 2, st (bs [277]) 3].flatMap (fun s => [s, (s.setObj .pwrWakeEn 0 0xF), { s with units := [] }, { s with pins := s.pins, units := [] }, ((s.setObj .pwrWakeEn 0 0xF).setObj .pwrWakeAt 0 (-5)), (s.setObj .pwrWakeAt 0 100000)])
def wits2 : List (State) :=
  s2
end o3

namespace o4
def ex (s : State) (l : List Nat) : State := { s with pwr := { s.pwr with exitDue := true, ran := l }, mem := [(0x100040000000, 7)] }
def s3 : List State := [2, 3, 0].flatMap (fun n => [[], [400, 278], [200, 209]].map (fun l => ex (st (bs [300]) n) l)) ++ [ex ((st (bs [300]) 3).setObj .pwrGated 0 4) [277]]
def wits2 : List (State) :=
  s3
end o4

namespace o5
def lad (s : State) (r : Nat) (l : List (Nat × Nat)) : State := (({ s with pwr := { s.pwr with ladder := l } }).setObj .startRung 0 r).setObj .startIinLimit 0 1000
def bk (s : State) (l : List Nat) (b : PwrBack) : State := { s with pwr := { s.pwr with restart := l, back := some b } }.setObj .startIinLimit 0 1000
def s4 : List State := [bk (gated all 195) [195] ⟨1, none, 0⟩, bk (gated all 195) [274, 195] ⟨1, none, 0⟩, bk (gated all 195) [274] ⟨2, some 277, 6⟩, bk all [210] ⟨3, none, 0⟩, lad all 5 [(5, 210), (5, 211)], lad all 8 [(8, 208), (9, 195)], lad (gated all 195) 9 [(9, 195)], lad all 1 [(2, 278)], lad all 7 [(7, 275), (7, 274)], lad all 7 [(7, 275)], lad all 4 [(4, 276)], lad all 2 [(2, 278)], lad (bs [278]) 2 [(4, 276)], lad all 3 [(4, 276)], lad (gated all 195) 4 [(4, 276)], lad ((bs []).setObj .ddrState 0 ddrTraining) 5 [(7, 275)]]
def wits2 : List (State) :=
  s4
end o5

namespace o6
def s5 : List State := [d1, gated (bs [192, 277]) 195, gated (bs [193,277]) 192, bs [192,277], bs [193,277], bs [209,277], gated (gated (bs [277]) 192) 193, (bs [192,277]).setObj .carrierHall 0 0, gated (bs [277]) 193, (gated (bs [277]) 193).setObj .pwrGated 0 6]
def wits2 : List (State) :=
  s5
end o6

namespace o7
def wits2 : List (State) :=
  s6
end o7

namespace o8
def wits2 : List (State) :=
  s6
end o8

end Wo

namespace Wp
/-- DDR is sized and the journal has its place. -/
def ddrUp : State := ((State.reset.setObj .memDdrSize 0 (0x4000000000 : Nat)).setObj .relJournalBase 0 (ddrBase + 0x1000000 : Nat))
/-- Slot 1 booted; its header says where a three-byte L1 image lies, with a digest. -/
def booted (dig : List Byte) : State :=
  { (ddrUp.setObj .shL1Base 0 (ddrBase + 0x100 : Nat)) with
    sh := { ShSt.reset with slot := 1 }
    flash := flashWrite (flashWrite (flashWrite (flashWrite (flashWrite [] 0x100006 [2]) 0x10000C [9, 0]) 0x100018 [0, 2, 0, 0, 3, 0, 0, 0]) 0x100050 dig) 0x100200 [1, 2, 3] }
def up (s : State) : State := s.setObj .startRung 0 0
def tb (x : Nat) : List Byte := leBytes 32 x ++ List.replicate 224 0

namespace p0
def wits1 : List (State) :=
  [up (booted (sha384 [1,2,3])), up (booted [1,2]), booted [1,2], (booted []).setObj .memDdrSize 0 0]
end p0

namespace p1
def wits1 : List (State) :=
  [up (booted []), (up (booted [])).setObj .shRollbackMin 0 3, up State.reset]
end p1

namespace p2
def wits1 : List (State) :=
  [((up (booted [])).setDom .shFlashWin 0 [1, 2]).setObj .shFlashOffset 0 0x2000000, (up (booted [])).setObj .shFlashOffset 0 0x100000, up (booted []), { (up (booted [])).setObj .shFlashOffset 0 0x2000000 with flash := [(0x2000001, 7), (0x2010000, 4)] }]
noncomputable def wits2 : List (Instr) :=
  [.shFlashErase ⟨.m, 1⟩, .shFlashProgram ⟨.m, 1⟩, .shFlashErase ⟨.h, 0⟩]
end p2

namespace p3
def wits1 : List (List Byte) :=
  [tb 0, tb (2^255), tb (2^255 + 7 * 2 ^ 213), [1], List.replicate 32 0 ++ tb (2 ^ 255) |>.take 256]
def wits2 : List (State) :=
  [up (booted []), (up (booted [])).setObj .shWatchEn 0 1, (up (booted [])).setObj .laneQuadMode 0 1, (up (booted [])).setObj .shWatchState 0 2]
end p3

namespace p4
def w : State := (up (booted [])).setDom .shWatchTable 0 (tb (2 ^ 255))
def wits1 : List (State) :=
  [w, (w).setObj .carrierHall 0 3, (w).setObj .shWatchEn 0 1].map (fun s => s)
end p4

namespace p5
def w (c k : Nat) : State := { (booted []).setObj .shWatchState 0 (2 + 2*16 : Nat) with sh := { (booted []).sh with cfgs := [(0, leBytes 32 c), (2, leBytes 32 c)] }, pra := [(256, { PraSt.reset with last := if k = 1 then some (0, 0) else none, seen := if k = 2 then [0] else [] }), (258, PraSt.reset)] }
def wits3 : List (State) :=
  [0, 2 ^ 241 + 4 * 2^200, 3 * 2 ^ 237].flatMap (fun c => [1, 2, 3].map (fun k => w c k))
end p5

namespace p6
def fr (ty : Nat) (n : Nat) : List Byte := beBytes 6 0xAA ++ beBytes 6 1 ++ beBytes 2 ty ++ [0x10, 0, 0, 0, 0, 5, 0, 0, 0] ++ List.replicate n 0
def rx (b : List Byte) (c f : Bool) : RxFrame := { body := b, code := c, fcs := f, arrival := 0 }
def wits1 : List (RxFrame) :=
  [rx (fr 0xAEFE 60) false true, rx (fr 0x88F7 60) false true, rx (fr 0xAEFE 60) true true, rx (fr 0xAEFE 60) false false, rx (fr 0xAEFE 20) false true, rx (fr 0xAEFE 9700) false true, rx (fr 0x800 60) false true]
def withMac (s : State) (p : Nat) (v : Int) : State := { s with objs := tabInsert s.objs (objKey .ethMacAddr p) v }
def s2 (w : Nat) : State := let s := (withMac (((up (booted [])).setObj .ethPortState 0 portUp).setObj .pwrState 0 2) 0 0xAA).setObj .shWatchState 0 w; { s.setDom .shWatchTable 0 (leBytes 32 (2 ^ 255 + 2 ^ 217 + 5 * 2 ^ 224) ++ List.replicate 224 0) with sh := { s.sh with eps := [(0, leBytes 16 (2 ^ 127 + 1 * 2 ^ 60))] } }
def wits2 : List (State) :=
  [s2 0, s2 2, (s2 2).setObj .pwrState 0 0]
end p6

namespace p7
def wits1 : List (State) :=
  [booted [], State.reset, { State.reset with units := [(279, { UnitSt.reset with st := 4 })] }]
end p7

namespace p8
def flt (u : Nat) (n : Nat) (st : Nat) : State := { booted [] with units := [(u, { UnitSt.reset with st := st, faults := List.replicate n 0 })] }
def wits1 : List (State) :=
  [State.reset, booted []] ++ [0, 195, 209, 213, 230, 276, 277, 278].flatMap (fun u => [flt u 0 3, flt u 0 4, flt u 2 0, flt u 1 2])
end p8

namespace p9
def d1 (h e : Nat) : State := { State.reset with sched := [(h, { SchedSt.reset with engq := [(0xF0 + e, [(5, 64)])] })] }
def wits1 : List (State) :=
  [State.reset] ++ [(0,0),(3,7),(3,3),(15,8),(8,7),(8,15)].map (fun p => d1 p.1 p.2)
end p9

namespace p10
def flt (u : Nat) (n : Nat) (st : Nat) : State := { booted [] with units := [(u, { UnitSt.reset with st := st, faults := List.replicate n 0 })] , coreMem := [(5 * 2^24 + 5, 7)]}
def wits1 : List (State) :=
  [State.reset] ++ [0, 5, 195, 209, 213, 230, 274, 276, 277, 278, 279].flatMap (fun u => [flt u 0 1, flt u 0 2, flt u 2 0, (if u = 195 then ((flt u 0 1).setObj .arbHolder 204 3).setObj .arbFreeze 204 8 else flt u 0 1), ({ flt u 0 1 with objs := (flt u 0 1).objs }).setObj .arbFreeze 192 (2 ^ 3 : Nat) |>.setObj .arbHolder 192 3])
end p10

namespace p11
def rt (h : Nat) : State := ({ State.reset with units := [(192 + h, { UnitSt.reset with st := 4 })], rings := [(2, ⟨7, 5, none, [⟨0, 3, 0, h, [], 2, 255, [], 0, 0, 0, false, [], false, []⟩, ⟨1, 3, 0, 9, [], 2, 255, [], 0, 0, 0, false, [], false, []⟩]⟩)] })
def wits1 : List (State) :=
  [(rt 3).setObj .carrierHall 1 3, ((rt 3).setObj .carrierHall 1 3).setObj .carrierHall 2 4, ((rt 15).setObj .carrierHall 1 15).setObj .carrierHall 5 15, rt 3]
end p11

namespace p12
def flt (u : Nat) (st : Nat) : State := up { booted [] with units := [(u, { UnitSt.reset with st := st })]}
def wits1 : List (State) :=
  [State.reset, up State.reset] ++ [5, 195, 279].flatMap (fun u => [flt u 4, flt u 2])
end p12

end Wp

namespace Wq
def ddrUp : State := ((State.reset.setObj .memDdrSize 0 (0x4000000000 : Nat)).setObj .relJournalBase 0 (ddrBase + 0x1000000 : Nat))
def up (s : State) : State := s.setObj .startRung 0 0
/-- The peer lanes in the mode of the link, all eight locked. -/
def peered (role : Nat) (st : Int) : State :=
  { ((((up ddrUp).setObj .laneQuadMode 12 8).setObj .pairMode 0 1).setObj .pairRole 0 role).setObj .pairState 0 st with
    lanes := (List.range 8).map (fun i => (48 + i, { LaneSt.reset with markLock := true })) }
def sts : List State := ([pairSingle, pairJoining, pairPaired, pairSolo, pairDetached] : List Int).flatMap (fun st => [0, 1, 2].map (fun r => peered r st))
def peerRun (s : State) : State := (List.range 8).foldl (fun (s : State) i => s.setObj .laneState (48 + i) laneData) s

namespace q0
def wits1 : List (State) :=
  [ddrUp, State.reset, { ddrUp with units := [(195, { UnitSt.reset with st := 3 })] }, peered 1 2, peered 2 2]
end q0

namespace q1
def wits1 : List (State) :=
  [ddrUp, up ddrUp, State.reset]
end q1

namespace q2
def wits1 : List (State) :=
  [up ddrUp, peered 0 0, peered 1 2, (peered 0 0).setObj .chainRole 0 1]
end q2

namespace q3
def wits1 : List (State) :=
  [up ddrUp, peered 0 pairSingle, peered 1 pairSingle, peered 0 pairSolo]
end q3

namespace q4
def jj (st : Nat) : JobSt := ⟨0, 3, 0, 9, [], st, 255, [], 0, 0, 0, false, [], false, []⟩
def wits1 : List (State) :=
  [up ddrUp, { up ddrUp with pins := { (up ddrUp).pins with pairFailOut := true } }, peered 1 pairPaired, { peered 2 pairPaired with pins := { (up ddrUp).pins with pairFailOut := true } }] ++ sts ++ sts.map (fun s => { s with pins := { s.pins with pairFailOut := false }, dravutOut := [⟨7, 3, [1, 2], []⟩, ⟨8, 4, [], []⟩], rings := [(2, ⟨7, 5, none, [jj 0, jj 2, jj 4, jj 3]⟩)] }) ++ sts.map (fun s => { s with pins := { s.pins with pairFailOut := false }, rings := [(2, ⟨7, 5, none, [jj 0, jj 2, jj 4, jj 3]⟩)], mem := [(5, 7)] })
end q4

namespace q5
def wits2 : List (State) :=
  [up ddrUp] ++ sts ++ sts.map peerRun
end q5

namespace q6
def fs : List (List Byte) := [linkFrame 6 3 5 0 [], linkFrame 6 3 0 0xFFFFFFFF [], linkFrame 0 3 5 0 [], linkFrame 3 1 0 0 (beBytes 8 (ddrBase + 0x100) ++ [1,2,3]), linkFrame 3 2 0 0 (beBytes 8 (ddrBase + 0x100) ++ [1,2,3]), linkFrame 3 0 0 0 (beBytes 8 (ddrBase + 0x100) ++ [1,2,3]), linkFrame 1 9 0 0 (1 :: 2 :: List.replicate 30 0), linkFrame 1 9 0 0 (2 :: 2 :: List.replicate 30 0), linkFrame 1 9 0 0xFFFFFFFF (1 :: 2 :: List.replicate 30 0), linkFrame 7 0xFFFFFFFF 0 0 [], [1, 2]]
def wits1 : List (List Byte) :=
  fs
def wits2 : List (State) :=
  [up ddrUp] ++ sts ++ sts.map peerRun ++ sts.map (fun s => { s with dravutOut := [⟨7, 3, [1, 2], []⟩, ⟨8, 7, [], []⟩] })
end q6

namespace q7
def wits1 : List (State) :=
  [up ddrUp, peered 0 0, peered 1 2, (peered 0 0).setObj .chainRole 0 1]
end q7

namespace q8
def gt (sc q n : Nat) : Nat := 2 ^ 63 + sc * 2 ^ 61 + q * 2 ^ 53 + n * 2 ^ 32
def st (op : Nat) (g : Nat) (x : Nat) (l : List (Nat × Nat)) (b : State := up ddrUp) : State := { b.setDom .stairGroupTable 0 (leBytes 8 (gt 0 4 1) ++ leBytes 8 (gt 0 4 2) ++ leBytes 8 (gt 1 4 0) ++ leBytes 8 0 ++ leBytes 8 (gt 3 4 1) ++ leBytes 8 (gt 0 3 1) ++ leBytes 8 (gt 2 4 2) ++ leBytes 8 (gt 3 4 2)) with
  sched := [(3, { SchedSt.reset with engq := [(0xF0 + 13, [(5, op * 2 ^ 120 + g * 2 ^ 112 + 3 * 2 ^ 104 + x), (6, 7)])], queues := [(3, ⟨0x8207, 0x20000, 0, 0, [], []⟩), (4, ⟨0x8207, 0x21000, 0, 0, [], []⟩)] })], stair := if l = [] then [] else [(g, l)] }
def wits1 : List (State) :=
  [0, 1, 2, 3, 4].flatMap (fun op => [0, 1, 2, 3, 4, 5, 6, 7].flatMap (fun g => [st op g 0x1234 [], st op g (2 ^ 95 + 5) [(7, 9)], st op g 0x1234 [] (peered 2 pairPaired), st op g 0x1234 [] (peered 1 pairPaired), st op g 0x1234 [] ((up ddrUp).setObj .chainRole 0 2), st op g 0x1234 [] ((up ddrUp).setObj .chainRole 0 1)]))
noncomputable def wits2 : List (Instr) :=
  [.barrier 3, .broadcast 3, .snapshotArm 3]
end q8

namespace q9
def wits1 : List (State) :=
  [up ddrUp, { up ddrUp with stairSnap := { (up ddrUp).stairSnap with armed := [0, -5, 7, 10^18] } }, { up ddrUp with stairSnap := { (up ddrUp).stairSnap with armed := [10^18] } }]
end q9

namespace q10
noncomputable def wits1 : List (Instr) :=
  [.stairResetDevice ⟨.h, 0⟩, .stairResetPair ⟨.h, 0⟩, .stairResetChain ⟨.h, 0⟩]
def wits2 : List (State) :=
  [up ddrUp, peered 1 pairPaired, peered 2 pairPaired, (up ddrUp).setObj .chainRole 0 1, (up ddrUp).setObj .chainRole 0 2]
end q10

namespace q11
def wits2 : List (State) :=
  [up ddrUp, (up ddrUp).setObj .chainRole 0 1, (up ddrUp).setObj .chainRole 0 2, ((up ddrUp).setObj .chainRole 0 2).setObj .chainAddr 0 5].map (fun s => { s.setObj .laneQuadMode 12 8 with munov := [(0, ⟨4, 1, [⟨7, 1, [], []⟩, ⟨7, 2, [], []⟩]⟩)] })
end q11

namespace q12
def fs : List (List Byte) := [6, 7, 9, 8].flatMap (fun ty => [0, 1, 2].flatMap (fun f => [0, 1, 5, 63].map (fun d => linkFrame ty f 2 (munovAddrs d 9) [1, 2]))) ++ [[1, 2]]
def wits1 : List (List Byte) :=
  fs
def wits2 : List (State) :=
  [((up ddrUp).setObj .chainRole 0 1).setObj .chainAddr 0 0, (up ddrUp).setObj .chainRole 0 1, (up ddrUp).setObj .chainRole 0 2, ((up ddrUp).setObj .chainRole 0 2).setObj .chainAddr 0 5].map (fun s => { s.setObj .laneQuadMode 12 10 with munov := [(0, ⟨4, 1, [⟨7, 1, [], []⟩, ⟨7, 2, [], []⟩]⟩)] })
end q12

end Wq

/-! ### The hypotheses of the obligations are met -/

/-- The hypotheses of `EmptyQueueCountsTime`, each clause's together, hold somewhere. -/
theorem test_hyp_EmptyQueueCountsTime :
    (∃ (s : State), s.pending = [] ∧ (s.unit unitTime).st ≠ unitSleeping ∧ (s.unit unitTime).st ≠ unitRestarting ∧ s.obj .timeRho 0 = 0 ∧ s.time.resid = 0 ∧ s.obj .timeFrac 0 = 0 ∧ 0 ≤ s.obj .timeNs 0 ∧ s.obj .timeNs 0 < 1000000000 ∧ 0 ≤ s.obj .timeSec 0 ∧ s.obj .timeSec 0 < 281474976710655)
    ∧ (∃ (s : State), s.pending = [] ∧ ((s.unit unitTime).st = unitSleeping ∨ (s.unit unitTime).st = unitRestarting)) := by
  refine ⟨?_, ?_⟩
  · let s : State := pick Wa.wits1 0
    exact ⟨s, by decide +kernel +zetaReduce⟩
  · let s : State := pick Wa.wits1 4
    exact ⟨s, by decide +kernel +zetaReduce⟩

/-- The hypotheses of `StepKeepsMemoryCanonical`, each clause's together, hold somewhere. -/
theorem test_hyp_StepKeepsMemoryCanonical :
    (∃ (s : State), s.memWf) := by
  exact ⟨State.reset, by unfold State.memWf; decide +kernel +zetaReduce⟩

/-- The hypotheses of `RefusedWriteChangesNothing`, each clause's together, hold somewhere. -/
theorem test_hyp_RefusedWriteChangesNothing :
    (∃ (i : Instr) (a : Accessor) (o : Obj) (n : Nat) (v : Int) (s : State), scalarWrite i = some (a, o, n, v) ∧ s.reach a (objAddr o n / 256) = none)
    ∧ (∃ (i : Instr) (a : Accessor) (o : Obj) (n : Nat) (v : Int) (s : State) (r : _), scalarWrite i = some (a, o, n, v) ∧ s.reach a (objAddr o n / 256) = some r ∧ s.writeGate a o n v r ≠ .ok) := by
  refine ⟨?_, ?_⟩
  · let i : Instr := .hallPaceSnap { cls := .h, num := 0 } 0 0
    let q1 := (scalarWrite i).get (by decide +kernel +zetaReduce)
    let a := q1.1
    let o := q1.2.1
    let n := q1.2.2.1
    let v := q1.2.2.2
    let s : State := pick Wa.wits1 2
    exact ⟨i, a, o, n, v, s, by decide +kernel +zetaReduce⟩
  · let i : Instr := .hallPaceEnWrite { cls := .v, num := 3 } 0 7
    let q1 := (scalarWrite i).get (by decide +kernel +zetaReduce)
    let a := q1.1
    let o := q1.2.1
    let n := q1.2.2.1
    let v := q1.2.2.2
    let s : State := pick Wa.wits1 0
    let r := (s.reach a (objAddr o n / 256)).get (by decide +kernel +zetaReduce)
    exact ⟨i, a, o, n, v, s, r, by decide +kernel +zetaReduce⟩

/-- The hypotheses of `PaceEnableAndSnapWrites`, each clause's together, hold somewhere. -/
theorem test_hyp_PaceEnableAndSnapWrites :
    (∃ (s : State) (a : Accessor) (u : Fin 18) (v : Nat), s.writable a .hallPaceEn u v)
    ∧ (∃ (s : State) (a : Accessor) (u : Fin 18) (v : Nat), s.writable a .hallPaceSnap u v) := by
  refine ⟨?_, ?_⟩
  · let s : State := pick Wb.wits1 0
    let a : Accessor := ⟨.h, 0⟩
    let u : Fin 18 := 0
    let v : Nat := 0
    exact ⟨s, a, u, v, by unfold State.writable; decide +kernel +zetaReduce⟩
  · let s : State := pick Wb.wits1 0
    let a : Accessor := ⟨.h, 0⟩
    let u : Fin 18 := 0
    let v : Nat := 0
    exact ⟨s, a, u, v, by unfold State.writable; decide +kernel +zetaReduce⟩

/-- The hypotheses of `LevelWriteSlewsOrIsStored`, each clause's together, hold somewhere. -/
theorem test_hyp_LevelWriteSlewsOrIsStored :
    (∃ (s : State) (a : Accessor) (u : Fin 18) (v : Nat), s.writable a .hallLevel u v) := by
  let s : State := pick Wb.wits1 0
  let a : Accessor := ⟨.h, 0⟩
  let u : Fin 18 := 0
  let v : Nat := 0
  exact ⟨s, a, u, v, by unfold State.writable; decide +kernel +zetaReduce⟩

/-- The hypotheses of `PacerSamplesAndSteps`, each clause's together, hold somewhere. -/
theorem test_hyp_PacerSamplesAndSteps :
    (∃ (s : State) (u : Fin 18), s.obj .hallPaceState u = paceSleep)
    ∧ (∃ (s : State) (u : Fin 18), s.obj .hallPaceState u ≠ paceSleep) := by
  refine ⟨?_, ?_⟩
  · let s : State := pick Wb.wits1 11
    let u : Fin 18 := 0
    exact ⟨s, u, by decide +kernel +zetaReduce⟩
  · let s : State := pick Wb.wits1 0
    let u : Fin 18 := 0
    exact ⟨s, u, by decide +kernel +zetaReduce⟩

/-- The hypotheses of `RailAndHoldEvents`, each clause's together, hold somewhere. -/
theorem test_hyp_RailAndHoldEvents :
    (∃ (s : State) (u : Fin 18), s.obj .hallPaceState u = paceSnap)
    ∧ (∃ (s : State) (u : Fin 18), s.obj .hallPaceState u ≠ paceSnap)
    ∧ (∃ (s : State) (u : Fin 18), (s.pacer u).slewFrom.isSome ∧ (s.obj .hallPaceState u = paceHold ∨ s.obj .hallPaceState u = paceTrack))
    ∧ (∃ (s : State) (u : Fin 18), (s.pacer u).slewFrom.isSome ∧ s.obj .hallPaceState u = paceOff ∧ (s.pacer u).fromP0 = true ∧ s.obj .hallLevel u ≠ 0 ∧ s.obj .hallPaceEn u ≠ 0)
    ∧ (∃ (s : State) (u : Fin 18), (s.pacer u).slewFrom = none)
    ∧ (∃ (s : State) (u : Fin 18), s.obj .hallPaceState u = paceHold)
    ∧ (∃ (s : State) (u : Fin 18) (x : _), s.unit (192 + u) = x ∧ x.st ≠ unitSleeping ∧ x.st ≠ unitRetired ∧ s.obj .relFaultLimit 0 > ((x.faults.length + 1 : Nat) : Int))
    ∧ (∃ (s : State) (u : Fin 18) (x : _), s.unit (192 + u) = x ∧ (x.st = unitSleeping ∨ x.st = unitRetired)) := by
  refine ⟨?_, ?_, ?_, ?_, ?_, ?_, ?_, ?_⟩
  · let s : State := pick Wb.wits1 7
    let u : Fin 18 := 0
    exact ⟨s, u, by decide +kernel +zetaReduce⟩
  · let s : State := pick Wb.wits1 0
    let u : Fin 18 := 0
    exact ⟨s, u, by decide +kernel +zetaReduce⟩
  · let s : State := pick Wb.wits1 15
    let u : Fin 18 := 0
    exact ⟨s, u, by decide +kernel +zetaReduce⟩
  · let s : State := pick Wb.wits1 26
    let u : Fin 18 := 0
    exact ⟨s, u, by decide +kernel +zetaReduce⟩
  · let s : State := pick Wb.wits1 0
    let u : Fin 18 := 0
    exact ⟨s, u, by decide +kernel +zetaReduce⟩
  · let s : State := pick Wb.wits1 0
    let u : Fin 18 := 0
    exact ⟨s, u, by decide +kernel +zetaReduce⟩
  · let s : State := pick Wb.wits1 0
    let u : Fin 18 := 0
    let x := s.unit (192 + u)
    exact ⟨s, u, x, by decide +kernel +zetaReduce⟩
  · let s : State := pick Wb.wits1 27
    let u : Fin 18 := 0
    let x := s.unit (192 + u)
    exact ⟨s, u, x, by decide +kernel +zetaReduce⟩

/-- The hypotheses of `ThermalAndTestPort`, each clause's together, hold somewhere. -/
theorem test_hyp_ThermalAndTestPort :
    (∃ (s : State) (a : Accessor) (v : Int), s.writable a .thermWarn 0 v)
    ∧ (∃ (s : State), s.obj .pwrState 0 ≤ 1 ∧ s.obj .startRung 0 = 0)
    ∧ (∃ (s : State), (1 < s.obj .pwrState 0 ∨ s.obj .startRung 0 ≠ 0))
    ∧ (∃ (s : State) (tj : List Int), ((∀ i : Fin 19, i.val < tj.length → s.sensorOn i = false)))
    ∧ (∃ (s : State) (tj : List Int) (j : Fin 19), j.val < tj.length ∧ s.sensorOn j = true ∧ ((∀ i : Fin 19, i.val < tj.length → s.sensorOn i = true → tj.getD i 0 < 944 ∨ tabGet 0 s.therm.runs i < 9)))
    ∧ (∃ (s : State) (tj : List Int) (j : Fin 19), ((List.range 19).find? (fun i => s.sensorOn i && decide (i < tj.length) && decide (944 ≤ tj.getD i 0) && decide (9 ≤ tabGet 0 s.therm.runs i)) = some j.val))
    ∧ (∃ (s : State), s.therm.hold = false)
    ∧ (∃ (s : State), s.therm.hold = true) := by
  refine ⟨?_, ?_, ?_, ?_, ?_, ?_, ?_, ?_⟩
  · let s : State := pick Wb.wits1 0
    let a : Accessor := ⟨.h, 0⟩
    let v : Int := 640
    exact ⟨s, a, v, by unfold State.writable; decide +kernel +zetaReduce⟩
  · let s : State := pick Wb.wits1 0
    exact ⟨s, by decide +kernel +zetaReduce⟩
  · let s : State := pick Wb.wits1 20
    exact ⟨s, by decide +kernel +zetaReduce⟩
  · let s : State := pick Wb.wits1 0
    let tj : List Int := pick Wb.wits2 0
    exact ⟨s, tj, by decide +kernel +zetaReduce⟩
  · let tj : List Int := pick Wb.wits2 1
    let j : Fin 19 := 0
    let s : State := pick Wb.wits1 0
    exact ⟨s, tj, j, by decide +kernel +zetaReduce⟩
  · let s : State := pick Wb.wits1 22
    let tj : List Int := pick Wb.wits2 3
    let j : Fin 19 := 18
    exact ⟨s, tj, j, by decide +kernel +zetaReduce⟩
  · let s : State := pick Wb.wits1 0
    exact ⟨s, by decide +kernel +zetaReduce⟩
  · let s : State := pick Wb.wits1 20
    exact ⟨s, by decide +kernel +zetaReduce⟩

/-- The hypotheses of `MultiplyAccumulateResults`, each clause's together, hold somewhere. -/
theorem test_hyp_MultiplyAccumulateResults :
    (∃ (i : Instr) (s : State) (c : Fin 192) (n : Nat) (q : Int) (f : Bool), multiplyOf i s = some (c, n, q, f) ∧ shOf i < 3 ∧ s.issues c = true ∧ (s.core c).sst.ld = 0)
    ∧ (∃ (sh : Nat), sh < 3) := by
  refine ⟨?_, ?_⟩
  · let i : Instr := pick Wc.wits3 0
    let s : State := pick Wc.wits1 0
    let q1 := (multiplyOf i s).get (by decide +kernel +zetaReduce)
    let c := q1.1
    let n := q1.2.1
    let q := q1.2.2.1
    let f := q1.2.2.2
    exact ⟨i, s, c, n, q, f, by decide +kernel +zetaReduce⟩
  · let sh : Nat := 0
    exact ⟨sh, by decide +kernel +zetaReduce⟩

/-- The hypotheses of `ScalarArithmeticResults`, each clause's together, hold somewhere. -/
theorem test_hyp_ScalarArithmeticResults :
    (∃ (i : Instr) (s : State) (c : Fin 192) (d : Nat) (w : Nat) (x : Int) (f : Bool), scalarOf i s = some (c, d, w, x, f) ∧ s.issues c = true ∧ (s.core c).sst.ld = 0)
    ∧ (∃ (s : State) (c : Fin 192), s.issues c = true ∧ (s.core c).sst.ld = 0)
    ∧ (∃ (i : Instr) (s : State) (c : Fin 192) (n : Nat) (q : Int) (f : Bool), multiplyOf i s = some (c, n, q, f) ∧ shOf i = 3 ∧ s.issues c = true ∧ (s.core c).sst.ld = 0 ∧ (s.core c).sst.exl = false) := by
  refine ⟨?_, ?_, ?_⟩
  · let i : Instr := pick Wc.wits3 5
    let s : State := pick Wc.wits1 0
    let q1 := (scalarOf i s).get (by decide +kernel +zetaReduce)
    let c := q1.1
    let d := q1.2.1
    let w := q1.2.2.1
    let x := q1.2.2.2.1
    let f := q1.2.2.2.2
    exact ⟨i, s, c, d, w, x, f, by decide +kernel +zetaReduce⟩
  · let s : State := pick Wc.wits1 0
    let c : Fin 192 := 0
    exact ⟨s, c, by decide +kernel +zetaReduce⟩
  · let i : Instr := pick Wc.wits3 33
    let s : State := pick Wc.wits1 0
    let q1 := (multiplyOf i s).get (by decide +kernel +zetaReduce)
    let c := q1.1
    let n := q1.2.1
    let q := q1.2.2.1
    let f := q1.2.2.2
    exact ⟨i, s, c, n, q, f, by decide +kernel +zetaReduce⟩

/-- The hypotheses of `ControlTransfers`, each clause's together, hold somewhere. -/
theorem test_hyp_ControlTransfers :
    (∃ (s : State) (c : Fin 192), s.issues c = true ∧ (s.core c).sst.ld = 0)
    ∧ (∃ (s : State) (c : Fin 192), s.issues c = true ∧ (s.core c).sst.ld = 0 ∧ (s.core c).posted = [])
    ∧ (∃ (s : State) (c : Fin 192) (cond : Fin 16), s.issues c = true ∧ (s.core c).sst.ld = 0 ∧ cond.val < 14 ∧ condHolds (s.core c).sst cond = false)
    ∧ (∃ (s : State) (c : Fin 192) (cond : Fin 16), s.issues c = true ∧ (s.core c).sst.ld = 0 ∧ cond.val < 14 ∧ condHolds (s.core c).sst cond = true)
    ∧ (∃ (s : State) (c : Fin 192) (a : Nat) (r : List Nat), s.issues c = true ∧ (s.core c).sst.ld = 0 ∧ (s.core c).calls = a :: r)
    ∧ (∃ (s : State) (c : Fin 192) (imm : Bool) (cnt : BitVec 10) (fin : BitVec 14) (n : Nat), s.issues c = true ∧ (s.core c).sst.ld = 0 ∧ fin ≠ 0 ∧ s.pc c / 8 + fin.toNat ≤ 12287 ∧ n = (if imm then cnt.toNat else ((s.core c).rd (cnt.toNat % 16)).toNat)) := by
  refine ⟨?_, ?_, ?_, ?_, ?_, ?_⟩
  · let s : State := pick Wc.wits1 0
    let c : Fin 192 := 0
    exact ⟨s, c, by decide +kernel +zetaReduce⟩
  · let s : State := pick Wc.wits1 0
    let c : Fin 192 := 0
    exact ⟨s, c, by decide +kernel +zetaReduce⟩
  · let s : State := pick Wc.wits1 0
    let c : Fin 192 := 0
    let cond : Fin 16 := 1
    exact ⟨s, c, cond, by decide +kernel +zetaReduce⟩
  · let s : State := pick Wc.wits1 0
    let c : Fin 192 := 0
    let cond : Fin 16 := 0
    exact ⟨s, c, cond, by decide +kernel +zetaReduce⟩
  · let s : State := pick Wc.wits1 3
    let c : Fin 192 := 0
    let a := ((s.core c).calls).head (by decide +kernel +zetaReduce)
    let r := ((s.core c).calls).tail
    exact ⟨s, c, a, r, by decide +kernel +zetaReduce⟩
  · let s : State := pick Wc.wits1 0
    let c : Fin 192 := 0
    let fin : BitVec 14 := (0x0003 : BitVec 14)
    let imm : Bool := false
    let cnt : BitVec 10 := (0x000 : BitVec 10)
    let n : Nat := (if imm then cnt.toNat else ((s.core c).rd (cnt.toNat % 16)).toNat)
    exact ⟨s, c, imm, cnt, fin, n, by decide +kernel +zetaReduce⟩

/-- The hypotheses of `ReturnAndControlRegisters`, each clause's together, hold somewhere. -/
theorem test_hyp_ReturnAndControlRegisters :
    (∃ (s : State) (c : Fin 192), s.issues c = true ∧ (s.core c).sst.ld = 0 ∧ s.obj .coreState c = coreHandler ∧ bitAt (s.core c).esst.toNat 31 = true)
    ∧ (∃ (s : State) (c : Fin 192), s.issues c = true ∧ (s.core c).sst.ld = 0 ∧ s.obj .coreState c = coreHandler ∧ bitAt (s.core c).esst.toNat 31 = false)
    ∧ (∃ (s : State) (c : Fin 192) (num : BitVec 8) (v : Nat), s.issues c = true ∧ (s.core c).sst.ld = 0 ∧ s.ctlRead c (s.core c) num.toNat = some v)
    ∧ (∃ (s : State) (c : Fin 192) (num : BitVec 8) (n : Fin 16) (k : CoreSt), s.issues c = true ∧ (s.core c).sst.ld = 0 ∧ num.toNat ≠ 0 ∧ (s.core c).ctlWrite num.toNat ((s.core c).rd n) = some k)
    ∧ (∃ (s : State) (c : Fin 192) (num : BitVec 8) (n : Fin 16), s.issues c = true ∧ (s.core c).sst.ld = 0 ∧ (s.core c).ctlWrite num.toNat ((s.core c).rd n) = none ∧ (s.core c).sst.exl = false) := by
  refine ⟨?_, ?_, ?_, ?_, ?_⟩
  · let s : State := pick Wc.wits1 4
    let c : Fin 192 := 0
    exact ⟨s, c, by decide +kernel +zetaReduce⟩
  · let s : State := pick Wc.wits1 1
    let c : Fin 192 := 0
    exact ⟨s, c, by decide +kernel +zetaReduce⟩
  · let s : State := pick Wc.wits1 0
    let c : Fin 192 := 0
    let num : BitVec 8 := (0x00 : BitVec 8)
    let v := (s.ctlRead c (s.core c) num.toNat).get (by decide +kernel +zetaReduce)
    exact ⟨s, c, num, v, by decide +kernel +zetaReduce⟩
  · let s : State := pick Wc.wits1 0
    let c : Fin 192 := 0
    let num : BitVec 8 := (0x01 : BitVec 8)
    let n : Fin 16 := 0
    let k := ((s.core c).ctlWrite num.toNat ((s.core c).rd n)).get (by decide +kernel +zetaReduce)
    exact ⟨s, c, num, n, k, by decide +kernel +zetaReduce⟩
  · let s : State := pick Wc.wits1 0
    let c : Fin 192 := 0
    let num : BitVec 8 := (0x03 : BitVec 8)
    let n : Fin 16 := 0
    exact ⟨s, c, num, n, by decide +kernel +zetaReduce⟩

/-- The hypotheses of `TrapAndBreakpoint`, each clause's together, hold somewhere. -/
theorem test_hyp_TrapAndBreakpoint :
    (∃ (s : State) (c : Fin 192), s.issues c = true ∧ (s.core c).sst.ld = 0 ∧ (s.core c).sst.exl = false ∧ s.obj .coreState c = coreRun)
    ∧ (∃ (s : State) (c : Fin 192), s.issues c = true ∧ (s.core c).sst.ld = 0 ∧ (s.core c).sst.exl = false ∧ s.obj .coreState c = coreRun ∧ s.obj .coreBkptHalt c = 0)
    ∧ (∃ (s : State) (c : Fin 192), s.issues c = true ∧ (s.core c).sst.ld = 0 ∧ (s.core c).sst.exl = false ∧ s.obj .coreState c = coreRun ∧ s.obj .coreBkptHalt c ≠ 0) := by
  refine ⟨?_, ?_, ?_⟩
  · let s : State := pick Wc.wits1 0
    let c : Fin 192 := 0
    exact ⟨s, c, by decide +kernel +zetaReduce⟩
  · let s : State := pick Wc.wits1 0
    let c : Fin 192 := 0
    exact ⟨s, c, by decide +kernel +zetaReduce⟩
  · let s : State := pick Wc.wits1 2
    let c : Fin 192 := 0
    exact ⟨s, c, by decide +kernel +zetaReduce⟩

/-- The hypotheses of `DoubleFaultHaltsCore`, each clause's together, hold somewhere. -/
theorem test_hyp_DoubleFaultHaltsCore :
    (∃ (s : State) (c : Fin 192), (s.core c).sst.exl = true ∧ (s.unit (unitCore c)).st ≠ unitSleeping ∧ (s.unit (unitCore c)).st ≠ unitRetired) := by
  let s : State := pick Wc.wits1 9
  let c : Fin 192 := 0
  exact ⟨s, c, by decide +kernel +zetaReduce⟩

/-- The hypotheses of `FullFormMoves`, each clause's together, hold somewhere. -/
theorem test_hyp_FullFormMoves :
    (∃ (s : State) (c : Fin 192) (w : BitVec 29) (sl : Nat) (m : Move) (next : _), decodeM (0x60000000 + w.toNat) = oneOp sl (.move m) ∧ s.issues c = true ∧ (s.core c).sst.ld = 0 ∧ s.upsets = [] ∧ localMove s c m next ∧ m.store = false)
    ∧ (∃ (s : State) (c : Fin 192) (w : BitVec 29) (sl : Nat) (m : Move) (next : _), decodeM (0x60000000 + w.toNat) = oneOp sl (.move m) ∧ s.issues c = true ∧ (s.core c).sst.ld = 0 ∧ s.upsets = [] ∧ localMove s c m next ∧ m.store = true ∧ s.eccLog = [])
    ∧ (∃ (s : State) (c : Fin 192) (w : BitVec 29) (sl : Nat) (m : Move) (win : _) (g : _) (next : _), decodeM (0x60000000 + w.toNat) = oneOp sl (.move m) ∧ s.issues c = true ∧ (s.core c).sst.ld = 0 ∧ s.upsets = [] ∧ m.store = false ∧ (s.core c).moveNext m = some next ∧ (s.core c).moveAddr m % moveBytes m = 0 ∧ s.movePlace (s.core c) m = .window win g true) := by
  refine ⟨?_, ?_, ?_⟩
  · let s : State := Wd.filled (Wd.running 0 0x10 Wd.km)
    let w : BitVec 29 := 78397440
    let m : Move := ⟨false,false,3,10,false,6,.plus⟩
    exact ⟨s, 0, w, 1, m, 2228216, by unfold localMove inData; decide +kernel +zetaReduce⟩
  · let s : State := Wd.filled (Wd.running 0 0x10 Wd.km)
    let w : BitVec 29 := 212103168
    let m : Move := ⟨false,true,3,10,false,2,.plus⟩
    exact ⟨s, 0, w, 1, m, 1179640, by unfold localMove inData; decide +kernel +zetaReduce⟩
  · let s : State := Wd.filled (Wd.running 0 0x10 Wd.km)
    let w : BitVec 29 := 278831104
    let m : Move := ⟨true,false,1,4,true,7,.byM 4⟩
    exact ⟨s, 0, w, 2, m, 0, 4294967312, 4194320, by decide +kernel +zetaReduce⟩

/-- The hypotheses of `CompactMoves`, each clause's together, hold somewhere. -/
theorem test_hyp_CompactMoves :
    (∃ (s : State) (c : Fin 192) (w : BitVec 29) (m : Move) (n : Move) (nx : Nat) (ny : Nat), s.issues c = true ∧ (s.core c).sst.ld = 0 ∧ s.upsets = [] ∧ s.eccLog = [] ∧ localMove s c m nx ∧ localMove s c n ny ∧ (decodeP (0x80000000 + w.toNat)).ops = [.move m, .move n])
    ∧ (∃ (s : State) (c : Fin 192) (w : BitVec 29) (m : Move) (n : Move) (nx : Nat) (ny : Nat) (mul : _) (acc : _) (x : _), s.issues c = true ∧ (s.core c).sst.ld = 0 ∧ s.upsets = [] ∧ s.eccLog = [] ∧ localMove s c m nx ∧ localMove s c n ny ∧ (decodeQ (0xA0000000 + w.toNat)).ops = [mul, .move m, .move n] ∧ compactResult (s.core c) mul = some (acc, x)) := by
  refine ⟨?_, ?_⟩
  · let s : State := pick Wd.A.wits1 0
    let c : Fin 192 := 0
    let m : Move := pick Wd.B.wits2 0
    let nx : Nat := 1048576
    let n : Move := pick Wd.B.wits2 1
    let ny : Nat := 2097152
    let w : BitVec 29 := (0x08002000 : BitVec 29)
    exact ⟨s, c, w, m, n, nx, ny, by unfold localMove inData; decide +kernel +zetaReduce⟩
  · let s : State := Wd.filled (Wd.running 0 0x10 Wd.km)
    let w : BitVec 29 := 8192
    let m : Move := ⟨false,false,2,4,false,0,.keep⟩
    let n : Move := ⟨true,false,2,0,false,4,.keep⟩
    exact ⟨s, 0, w, m, n, 1048576, 2097152, .mac 0 0 false 0 false 1 false, _, _, by decide +kernel +zetaReduce, by decide +kernel +zetaReduce, by decide +kernel +zetaReduce, by decide +kernel +zetaReduce, by unfold localMove inData; decide +kernel +zetaReduce, by unfold localMove inData; decide +kernel +zetaReduce, by decide +kernel +zetaReduce, rfl⟩

/-- The hypotheses of `BundleIssueAndInterrupts`, each clause's together, hold somewhere. -/
theorem test_hyp_BundleIssueAndInterrupts :
    (∃ (s : State) (c : Fin 192) (d : Nat) (a : Nat) (b : Nat), s.issues c = true ∧ (s.core c).sst.ld = 0 ∧ s.upsets = [] ∧ s.pc c < 0x18000 ∧ decodeBundle (leNat (s.coreBytes c (s.pc c) 8)) = ⟨oneOp 3 (.add d a b false), nopWord⟩)
    ∧ (∃ (s : State) (c : Fin 192), s.issues c = true ∧ s.upsets = [] ∧ s.pc c < 0x18000)
    ∧ (∃ (s : State) (c : Fin 192), s.issues c = true ∧ 0x18000 ≤ s.pc c ∧ (s.core c).sst.exl = false)
    ∧ (∃ (s : State) (c : Fin 192) (code : _) (r : _), s.atBoundary c = true ∧ (s.core c).stall = none ∧ (s.core c).async = [] ∧ (s.core c).sst.ie = true ∧ (s.core c).sst.exl = false ∧ (s.core c).ints = code :: r ∧ ((∀ x ∈ r, code < x)) ∧ 16 ≤ code ∧ code ≤ 19)
    ∧ (∃ (s : State) (c : Fin 192), s.atBoundary c = true ∧ (s.core c).stall = none ∧ (s.core c).async = [] ∧ (s.core c).sst.ie = true ∧ (s.core c).sst.exl = false ∧ (s.core c).ints = [])
    ∧ (∃ (s : State) (c : Fin 192) (g : _) (r : _), s.atBoundary c = false ∧ (s.core c).posted = (g, true) :: r)
    ∧ (∃ (s : State) (c : Fin 192) (g : _) (r : _), s.atBoundary c = true ∧ (s.core c).async = [] ∧ (s.core c).posted = (g, true) :: r)
    ∧ (∃ (s : State) (c : Fin 192) (m : Move) (sl : Nat) (win : Nat) (g : Nat), s.atBoundary c = true ∧ (s.core c).sst.ld = 0 ∧ s.upsets = [] ∧ (s.core c).stall = some ⟨oneOp sl (.move m), nopWord⟩ ∧ m.store = false ∧ m.size = 2 ∧ (s.core c).moveNext m = some ((s.core c).ra m.an) ∧ (s.core c).moveAddr m % 4 = 0 ∧ s.movePlace (s.core c) m = .window win g true ∧ s.loadStatus (s.core c) g 0 = 0) := by
  refine ⟨?_, ?_, ?_, ?_, ?_, ?_, ?_, ?_⟩
  · let s : State := pick Wd.C.wits3 10
    let c : Fin 192 := 0
    let d : Nat := 3
    let a : Nat := 1
    let b : Nat := 2
    exact ⟨s, c, d, a, b, by decide +kernel +zetaReduce⟩
  · let s : State := pick Wd.C.wits3 0
    let c : Fin 192 := 0
    exact ⟨s, c, by decide +kernel +zetaReduce⟩
  · let s : State := pick Wd.C.wits3 3
    let c : Fin 192 := 0
    exact ⟨s, c, by decide +kernel +zetaReduce⟩
  · let s : State := pick Wd.C.wits3 4
    let c : Fin 192 := 0
    let code := ((s.core c).ints).head (by decide +kernel +zetaReduce)
    let r := ((s.core c).ints).tail
    exact ⟨s, c, code, r, by decide +kernel +zetaReduce⟩
  · let s : State := pick Wd.C.wits3 8
    let c : Fin 192 := 0
    exact ⟨s, c, by decide +kernel +zetaReduce⟩
  · let s : State := pick Wd.C.wits3 9
    let c : Fin 192 := 0
    let g := 4294967296
    let r : List (Nat × Bool) := []
    exact ⟨s, c, g, r, by decide +kernel +zetaReduce⟩
  · let s : State := pick Wd.C.wits3 6
    let c : Fin 192 := 0
    let g := 4294967296
    let r : List (Nat × Bool) := []
    exact ⟨s, c, g, r, by decide +kernel +zetaReduce⟩
  · let s : State := pick Wd.C.wits3 7
    let c : Fin 192 := 0
    let m : Move := pick Wd.C.wits6 0
    let sl : Nat := 1
    let win : Nat := 0
    let g : Nat := 4294967312
    exact ⟨s, c, m, sl, win, g, by decide +kernel +zetaReduce⟩

/-- The hypotheses of `HaltAndResume`, each clause's together, hold somewhere. -/
theorem test_hyp_HaltAndResume :
    (∃ (s : State) (a : Accessor) (c : Fin 192) (v : Nat), s.writable a .coreHalt c v ∧ s.obj .coreState c = coreHandler ∧ s.atBoundary c = true)
    ∧ (∃ (s : State) (a : Accessor) (c : Fin 192) (v : Nat), s.writable a .coreHalt c v ∧ (s.obj .coreState c = coreOff ∨ s.obj .coreState c = coreRejoining ∨ s.obj .coreState c = coreIdle ∨ (s.core c).callWait = true ∧ (s.obj .coreState c = coreRun ∨ s.obj .coreState c = coreHandler)))
    ∧ (∃ (s : State) (a : Accessor) (c : Fin 192) (v : Nat), s.writable a .coreResume c v ∧ s.obj .coreState c = coreHaltedDebug ∧ (s.core c).leftState = coreHandler)
    ∧ (∃ (s : State) (a : Accessor) (c : Fin 192) (v : Nat), s.writable a .coreResume c v ∧ s.obj .coreState c ≠ coreHaltedDebug) := by
  refine ⟨?_, ?_, ?_, ?_⟩
  · let s : State := pick Wd.D.wits7 0
    let a : Accessor := ⟨.h, 0⟩
    let c : Fin 192 := 0
    let v : Nat := 0
    exact ⟨s, a, c, v, by unfold State.writable; decide +kernel +zetaReduce⟩
  · let s : State := pick Wd.D.wits7 1
    let a : Accessor := ⟨.h, 0⟩
    let c : Fin 192 := 0
    let v : Nat := 0
    exact ⟨s, a, c, v, by unfold State.writable; decide +kernel +zetaReduce⟩
  · let s : State := pick Wd.D.wits7 5
    let a : Accessor := ⟨.h, 0⟩
    let c : Fin 192 := 0
    let v : Nat := 0
    exact ⟨s, a, c, v, by unfold State.writable; decide +kernel +zetaReduce⟩
  · let s : State := pick Wd.D.wits7 0
    let a : Accessor := ⟨.h, 0⟩
    let c : Fin 192 := 0
    let v : Nat := 0
    exact ⟨s, a, c, v, by unfold State.writable; decide +kernel +zetaReduce⟩

/-- The hypotheses of `VectorElementResults`, each clause's together, hold somewhere. -/
theorem test_hyp_VectorElementResults :
    (∃ (i : Instr) (s : State) (c : Fin 192) (v : VecWord) (l : VecWord) (f : Nat → Nat × Bool), elementsOf s i = some (c, v, l, f) ∧ vecIllegal v = false ∧ s.issues c = true ∧ (s.core c).sst.ld = 0) := by
  let s : State := Wd.filled (Wd.running 0 0x10 Wd.km)
  exact ⟨.vadd 0 1 5 1 2 0 false false 0, s, 0, _, _, _, rfl, by decide +kernel +zetaReduce, by decide +kernel +zetaReduce, by decide +kernel +zetaReduce⟩

/-- The hypotheses of `HalfwordArithmetic`, each clause's together, hold somewhere. -/
theorem test_hyp_HalfwordArithmetic :
    (∃ (a : Nat) (b : Nat), a < 65536 ∧ b < 65536) := by
  let a : Nat := 0
  let b : Nat := 0
  exact ⟨a, b, by decide +kernel +zetaReduce⟩

/-- The hypotheses of `VectorMaskAndState`, each clause's together, hold somewhere. -/
theorem test_hyp_VectorMaskAndState :
    (∃ (s : State) (c : Fin 192) (ty : Fin 3) (hf : Fin 3) (mk : Bool), let e (r k : Nat) : Int := signExt (elemWidth ty) (getElem ty hf k ((s.core c).rv r)); let act (k : Nat) : Prop := k < elemCount ty hf ∧ (mk = true → bitAt (s.core c).vstate.mask k = true); s.issues c = true ∧ (s.core c).sst.ld = 0)
    ∧ (∃ (s : State) (c : Fin 192), s.issues c = true ∧ (s.core c).sst.ld = 0) := by
  refine ⟨?_, ?_⟩
  · let s : State := pick Wd.E.wits8 0
    let c : Fin 192 := 0
    let ty : Fin 3 := 0
    let hf : Fin 3 := 0
    let e (r k : Nat) : Int := signExt (elemWidth ty) (getElem ty hf k ((s.core c).rv r))
    let mk : Bool := false
    let act (k : Nat) : Prop := k < elemCount ty hf ∧ (mk = true → bitAt (s.core c).vstate.mask k = true)
    exact ⟨s, c, ty, hf, mk, by decide +kernel +zetaReduce⟩
  · let s : State := pick Wd.E.wits8 0
    let c : Fin 192 := 0
    exact ⟨s, c, by decide +kernel +zetaReduce⟩

/-- The hypotheses of `VectorAccumulators`, each clause's together, hold somewhere. -/
theorem test_hyp_VectorAccumulators :
    (∃ (i : Instr) (s : State) (c : Fin 192) (v : VecWord) (f : Int → Int → Int), lanesOf i = some (c, v, f) ∧ vecIllegal v = false ∧ s.issues c = true ∧ (s.core c).sst.ld = 0)
    ∧ (∃ (s : State) (c : Fin 192), s.issues c = true ∧ (s.core c).sst.ld = 0)
    ∧ (∃ (s : State) (c : Fin 192) (cx : Bool) (a : Fin 32) (hf : Fin 3) (mk : Bool), let ty : Fin 4 := if cx then 3 else 1; let act (j : Nat) : Bool := !mk || bitAt (s.core c).vstate.mask j; let x (j : Nat) : Nat := getElem ty hf j ((s.core c).rv a); s.issues c = true ∧ (s.core c).sst.ld = 0)
    ∧ (∃ (s : State) (c : Fin 192) (ty : Fin 2) (a : Fin 32) (hf : Fin 3) (mk : Bool), let act (j : Nat) : Prop := j < elemCount ty hf ∧ (mk = true → bitAt (s.core c).vstate.mask j = true); let x (j : Nat) : Int := signExt (elemWidth ty) (getElem ty hf j ((s.core c).rv a)); s.issues c = true ∧ (s.core c).sst.ld = 0)
    ∧ (∃ (i : Instr) (s : State) (c : Fin 192) (v : VecWord), vectorWord s i = some (c, v) ∧ vecIllegal v = true ∧ s.issues c = true ∧ (s.core c).sst.ld = 0 ∧ (s.core c).sst.exl = false) := by
  refine ⟨?_, ?_, ?_, ?_, ?_⟩
  · let s : State := Wd.filled (Wd.running 0 0x10 Wd.km)
    exact ⟨.vmpy 0 1 0 1 2 0 false false 0, s, 0, _, _, rfl, by decide +kernel +zetaReduce, by decide +kernel +zetaReduce, by decide +kernel +zetaReduce⟩
  · let s : State := pick Wd.E.wits8 0
    let c : Fin 192 := 0
    exact ⟨s, c, by decide +kernel +zetaReduce⟩
  · let s : State := pick Wd.E.wits8 0
    let c : Fin 192 := 0
    let cx : Bool := false
    let ty : Fin 4 := if cx then 3 else 1
    let mk : Bool := false
    let act (j : Nat) : Bool := !mk || bitAt (s.core c).vstate.mask j
    let a : Fin 32 := 0
    let hf : Fin 3 := 0
    let x (j : Nat) : Nat := getElem ty hf j ((s.core c).rv a)
    exact ⟨s, c, cx, a, hf, mk, by decide +kernel +zetaReduce⟩
  · let s : State := pick Wd.E.wits8 0
    let c : Fin 192 := 0
    let ty : Fin 2 := 0
    let hf : Fin 3 := 0
    let mk : Bool := false
    let act (j : Nat) : Prop := j < elemCount ty hf ∧ (mk = true → bitAt (s.core c).vstate.mask j = true)
    let a : Fin 32 := 0
    let x (j : Nat) : Int := signExt (elemWidth ty) (getElem ty hf j ((s.core c).rv a))
    exact ⟨s, c, ty, a, hf, mk, by decide +kernel +zetaReduce⟩
  · let i : Instr := pick Wd.E.wits9 0
    let s : State := pick Wd.E.wits8 0
    let q1 := (vectorWord s i).get (by decide +kernel +zetaReduce)
    let c := q1.1
    let v := q1.2
    exact ⟨i, s, c, v, by decide +kernel +zetaReduce⟩

/-- The hypotheses of `GatherScatterComplete`, each clause's together, hold somewhere. -/
theorem test_hyp_GatherScatterComplete :
    (∃ (s : State) (c : Fin 192) (d : Fin 32) (a : Fin 32), s.issues c = true ∧ (s.core c).sst.ld = 0 ∧ (s.core c).sst.exl = false ∧ (s.core c).vstate.mask % 16 = 0 ∧ (s.core c).vstate.rs = false ∧ d ≠ a)
    ∧ (∃ (s : State) (c : Fin 192) (d : Fin 32) (a : Fin 32), s.issues c = true ∧ (s.core c).sst.ld = 0 ∧ (s.core c).sst.exl = false ∧ (s.core c).vstate.rs = true ∧ 4 ≤ (s.core c).vstate.eidx ∧ d ≠ a)
    ∧ (∃ (s : State) (c : Fin 192) (d : Fin 32) (a : Fin 32), s.issues c = true ∧ (s.core c).sst.ld = 0 ∧ (s.core c).sst.exl = false ∧ d = a)
    ∧ (∃ (s : State) (c : Fin 192) (d : Fin 32) (a : Fin 32) (an : Fin 8) (sc : Fin 4) (ty : Fin 4) (mk : Bool) (v : VecWord), s.issues c = true ∧ (s.core c).sst.ld = 0 ∧ (s.core c).sst.exl = false ∧ v = ⟨.vgather, ty, d, a, an, 0, mk, false, false, sc⟩ ∧ vecIllegal v = false ∧ s.upsets = [] ∧ ((∀ j, j < elemCount ty 0 → gatherStart (s.core c) ≤ j → (s.core c).active v j = true → gatherAddr (s.core c) v j % elemBytes ty = 0 ∧ inData (gatherAddr (s.core c) v j) (elemBytes ty))))
    ∧ (∃ (s : State) (c : Fin 192) (d : Fin 32) (a : Fin 32) (an : Fin 8) (sc : Fin 4) (ty : Fin 4) (mk : Bool) (v : VecWord), s.issues c = true ∧ (s.core c).sst.ld = 0 ∧ (s.core c).sst.exl = false ∧ v = ⟨.vscatter, ty, d, a, an, 0, mk, false, false, sc⟩ ∧ vecIllegal v = false ∧ s.upsets = [] ∧ s.eccLog = [] ∧ ((∀ j, j < elemCount ty 0 → gatherStart (s.core c) ≤ j → (s.core c).active v j = true → gatherAddr (s.core c) v j % elemBytes ty = 0 ∧ inData (gatherAddr (s.core c) v j) (elemBytes ty)))) := by
  refine ⟨?_, ?_, ?_, ?_, ?_⟩
  · let s : State := pick Wd.F.wits11 0
    let c : Fin 192 := 0
    let d : Fin 32 := 0
    let a : Fin 32 := 1
    exact ⟨s, c, d, a, by decide +kernel +zetaReduce⟩
  · let s : State := pick Wd.F.wits11 1
    let c : Fin 192 := 0
    let d : Fin 32 := 0
    let a : Fin 32 := 1
    exact ⟨s, c, d, a, by decide +kernel +zetaReduce⟩
  · let s : State := pick Wd.F.wits11 0
    let c : Fin 192 := 0
    let d : Fin 32 := 0
    let a : Fin 32 := Fin.ofNat _ (d)
    exact ⟨s, c, d, a, by decide +kernel +zetaReduce⟩
  · let s : State := pick Wd.F.wits11 0
    let c : Fin 192 := 0
    let d : Fin 32 := 0
    let a : Fin 32 := 1
    let an : Fin 8 := 0
    let sc : Fin 4 := 0
    let ty : Fin 4 := 1
    let mk : Bool := true
    let v : VecWord := ⟨.vgather, ty, d, a, an, 0, mk, false, false, sc⟩
    exact ⟨s, c, d, a, an, sc, ty, mk, v, by unfold inData; decide +kernel +zetaReduce⟩
  · let s : State := pick Wd.F.wits11 0
    let c : Fin 192 := 0
    let d : Fin 32 := 0
    let a : Fin 32 := 0
    let an : Fin 8 := 0
    let sc : Fin 4 := 0
    let ty : Fin 4 := 0
    let mk : Bool := false
    let v : VecWord := ⟨.vscatter, ty, d, a, an, 0, mk, false, false, sc⟩
    exact ⟨s, c, d, a, an, sc, ty, mk, v, by unfold inData; decide +kernel +zetaReduce⟩

/-- The hypotheses of `SemaphoreAndMessageCalls`, each clause's together, hold somewhere. -/
theorem test_hyp_SemaphoreAndMessageCalls :
    (∃ (s : State) (c : Fin 192) (g : Nat), callReady s c g)
    ∧ (∃ (s : State) (c : Fin 192) (g : Nat) (a : Fin 16) (q : Nat), let a0 := ((s.core c).rd a).toNat; let h := c.val / 12; callReady s c g ∧ q = 256 * h + bits a0 7 0 ∧ a.val < 15 ∧ isEngineQueue (bits a0 7 0) = false ∧ ((2 ≤ bits a0 11 8 ∧ bits a0 11 8 ≤ 12 ∧ ((s.core c).rd (a + 1)).toNat % (16 * 2 ^ bits a0 11 8) = 0 ∧ 0x20000 ≤ ((s.core c).rd (a + 1)).toNat ∧ ((s.core c).rd (a + 1)).toNat + 16 * 2 ^ bits a0 11 8 ≤ terraceSize)) ∧ (s.queue q).count = 0 ∧ (s.queue q).recv = [] ∧ (s.queue q).send = [])
    ∧ (∃ (s : State) (c : Fin 192) (g : Nat) (a : Fin 16) (q : Nat), let a0 := ((s.core c).rd a).toNat; let h := c.val / 12; callReady s c g ∧ q = bits a0 11 0 ∧ q / 256 = h ∧ isEngineQueue (q % 256) = false ∧ (s.queue q).enabled = true ∧ bitAt (s.queue q).setting 14 = false ∧ (s.queue q).recv = [] ∧ (s.queue q).send = [] ∧ (s.queue q).count < (s.queue q).depth)
    ∧ (∃ (s : State) (c : Fin 192) (g : Nat) (a : Fin 16) (q : Nat), let a0 := ((s.core c).rd a).toNat; let h := c.val / 12; callReady s c g ∧ q = bits a0 11 0 ∧ q / 256 = h ∧ isEngineQueue (q % 256) = false ∧ (s.queue q).enabled = true ∧ (s.queue q).recv = [] ∧ (s.queue q).depth ≤ (s.queue q).count)
    ∧ (∃ (s : State) (c : Fin 192) (g : Nat) (d : Fin 16) (a : Fin 16) (q : Nat), let a0 := ((s.core c).rd a).toNat; let h := c.val / 12; callReady s c g ∧ q = 256 * h + bits a0 7 0 ∧ (s.queue q).enabled = true ∧ (s.queue q).count = 0 ∧ d.val < 12)
    ∧ (∃ (s : State) (c : Fin 192) (g : Nat) (d : Fin 16) (a : Fin 16) (q : Nat), let a0 := ((s.core c).rd a).toNat; let h := c.val / 12; callReady s c g ∧ q = 256 * h + bits a0 7 0 ∧ (s.queue q).enabled = true ∧ 0 < (s.queue q).count ∧ (s.queue q).recv = [] ∧ (s.queue q).send = [] ∧ d.val < 12) := by
  refine ⟨?_, ?_, ?_, ?_, ?_, ?_⟩
  · let s : State := pick We.A.wits1 0
    let c : Fin 192 := 0
    let g : Nat := 5
    exact ⟨s, c, g, by unfold callReady; decide +kernel +zetaReduce⟩
  · let s : State := pick We.A.wits1 0
    let c : Fin 192 := 0
    let g : Nat := 5
    let a : Fin 16 := 4
    let a0 := ((s.core c).rd a).toNat
    let h := c.val / 12
    let q : Nat := 256 * h + bits a0 7 0
    exact ⟨s, c, g, a, q, by unfold callReady; decide +kernel +zetaReduce⟩
  · let s : State := pick We.A.wits1 1
    let c : Fin 192 := 0
    let g : Nat := 5
    let a : Fin 16 := 6
    let a0 := ((s.core c).rd a).toNat
    let h := c.val / 12
    let q : Nat := bits a0 11 0
    exact ⟨s, c, g, a, q, by unfold callReady; decide +kernel +zetaReduce⟩
  · let s : State := pick We.A.wits1 3
    let c : Fin 192 := 0
    let g : Nat := 5
    let a : Fin 16 := 6
    let a0 := ((s.core c).rd a).toNat
    let h := c.val / 12
    let q : Nat := bits a0 11 0
    exact ⟨s, c, g, a, q, by unfold callReady; decide +kernel +zetaReduce⟩
  · let s : State := pick We.A.wits1 2
    let c : Fin 192 := 0
    let g : Nat := 5
    let a : Fin 16 := 4
    let a0 := ((s.core c).rd a).toNat
    let h := c.val / 12
    let q : Nat := 256 * h + bits a0 7 0
    let d : Fin 16 := 0
    exact ⟨s, c, g, d, a, q, by unfold callReady; decide +kernel +zetaReduce⟩
  · let s : State := pick We.A.wits1 1
    let c : Fin 192 := 0
    let g : Nat := 5
    let a : Fin 16 := 4
    let a0 := ((s.core c).rd a).toNat
    let h := c.val / 12
    let q : Nat := 256 * h + bits a0 7 0
    let d : Fin 16 := 0
    exact ⟨s, c, g, d, a, q, by unfold callReady; decide +kernel +zetaReduce⟩

/-- The hypotheses of `BlockingCallsFreeTheCore`, each clause's together, hold somewhere. -/
theorem test_hyp_BlockingCallsFreeTheCore :
    (∃ (s : State) (c : Fin 192) (g : Nat) (a : Fin 16) (i : Nat), let a0 := ((s.core c).rd a).toNat; let h := c.val / 12; callReady s c g ∧ g / 4096 = h ∧ ((∀ p, (s.sch h).list p = [])) ∧ s.tState g = thRunning ∧ 128 ≤ s.tFrame g ∧ s.tFrame g < 12288 ∧ i = bits a0 13 0 ∧ i / 1024 = h ∧ (s.sem i).kind = 2 ∧ (s.sem i).count = 0 ∧ s.tHeldV g = 0)
    ∧ (∃ (s : State) (c : Fin 192) (g : Nat) (d : Fin 16) (a : Fin 16) (q : Nat), let a0 := ((s.core c).rd a).toNat; let h := c.val / 12; callReady s c g ∧ g / 4096 = h ∧ ((∀ p, (s.sch h).list p = [])) ∧ s.tState g = thRunning ∧ 128 ≤ s.tFrame g ∧ s.tFrame g < 12288 ∧ q = 256 * h + bits a0 7 0 ∧ (s.queue q).enabled = true ∧ (s.queue q).count = 0 ∧ d.val < 12)
    ∧ (∃ (s : State) (c : Fin 192) (g : Nat) (a : Fin 16) (q : Nat), let a0 := ((s.core c).rd a).toNat; let h := c.val / 12; callReady s c g ∧ g / 4096 = h ∧ ((∀ p, (s.sch h).list p = [])) ∧ s.tState g = thRunning ∧ 128 ≤ s.tFrame g ∧ s.tFrame g < 12288 ∧ q = bits a0 11 0 ∧ q / 256 = h ∧ isEngineQueue (q % 256) = false ∧ (s.queue q).enabled = true ∧ (s.queue q).recv = [] ∧ (s.queue q).depth ≤ (s.queue q).count ∧ (s.queue q).policyDrop = false)
    ∧ (∃ (s : State) (c : Fin 192) (g : Nat) (a : Fin 16), let a0 := ((s.core c).rd a).toNat; let h := c.val / 12; callReady s c g ∧ g / 4096 = h ∧ ((∀ p, (s.sch h).list p = [])) ∧ s.tState g = thRunning ∧ 128 ≤ s.tFrame g ∧ s.tFrame g < 12288 ∧ a0 ≠ 0)
    ∧ (∃ (s : State) (c : Fin 192) (g : Nat) (a : Fin 16), let a0 := ((s.core c).rd a).toNat; let h := c.val / 12; callReady s c g ∧ g / 4096 = h ∧ ((∀ p, (s.sch h).list p = [])) ∧ s.tState g = thRunning ∧ 128 ≤ s.tFrame g ∧ s.tFrame g < 12288 ∧ a.val < 15 ∧ reachedTick (s.tick48 h) (a0 + bits ((s.core c).rd (a + 1)).toNat 15 0 * 2 ^ 32) = false)
    ∧ (∃ (s : State) (c : Fin 192) (g : Nat), let h := c.val / 12; callReady s c g ∧ g / 4096 = h ∧ ((∀ p, (s.sch h).list p = [])) ∧ s.tState g = thRunning ∧ 128 ≤ s.tFrame g ∧ s.tFrame g < 12288 ∧ s.locksOf g = [])
    ∧ (∃ (s : State) (c : Fin 192) (g : Nat), let h := c.val / 12; callReady s c g ∧ g / 4096 = h ∧ ((∀ p, (s.sch h).list p = [])) ∧ s.tState g = thRunning ∧ 128 ≤ s.tFrame g ∧ s.tFrame g < 12288 ∧ s.eligible c g = true ∧ (s.sch h).loading = [] ∧ (s.core c).haltReq = false)
    ∧ (∃ (s : State) (c : Fin 192) (g : Nat) (a : Fin 16), let a0 := ((s.core c).rd a).toNat; let h := c.val / 12; callReady s c g ∧ a.val < 15 ∧ reachedTick (s.tick48 h) (a0 + bits ((s.core c).rd (a + 1)).toNat 15 0 * 2 ^ 32) = true)
    ∧ (∃ (s : State) (c : Fin 192) (g : Nat), let h := c.val / 12; s.issues c = true ∧ (s.core c).sst.ld = 0 ∧ (s.core c).sst.exl = true ∧ s.thread c = some g ∧ ((∀ p, (s.sch h).list p = [])))
    ∧ (∃ (s : State) (c : Fin 192) (g : Nat) (g' : Nat) (p : Nat), let h := c.val / 12; s.issues c = true ∧ (s.core c).sst.ld = 0 ∧ (s.core c).sst.exl = true ∧ (s.core c).haltReq = false ∧ s.thread c = some g ∧ g / 4096 = h ∧ 128 ≤ s.tFrame g ∧ s.tFrame g < 12288 ∧ s.obj .schTraceSize h = 0 ∧ (s.sch h).loading = [] ∧ p < 64 ∧ (s.sch h).list p = [g'] ∧ ((∀ q, q ≠ p → (s.sch h).list q = [])) ∧ g' ≠ g ∧ s.tPrio g' = p ∧ s.eligible c g' = true ∧ s.tPrio g < p) := by
  refine ⟨?_, ?_, ?_, ?_, ?_, ?_, ?_, ?_, ?_, ?_⟩
  · let s : State := pick We.B.wits2 2
    let c : Fin 192 := 0
    let a : Fin 16 := 1
    let a0 := ((s.core c).rd a).toNat
    let h := c.val / 12
    let g : Nat := 5
    let i : Nat := bits a0 13 0
    exact ⟨s, c, g, a, i, by unfold callReady; decide +kernel +zetaReduce, by decide +kernel +zetaReduce, fun p => noReady (s.sch (c.val / 12)) (by decide +kernel +zetaReduce) p, by decide +kernel +zetaReduce, by decide +kernel +zetaReduce, by decide +kernel +zetaReduce, by decide +kernel +zetaReduce, by decide +kernel +zetaReduce, by decide +kernel +zetaReduce, by decide +kernel +zetaReduce, by decide +kernel +zetaReduce⟩
  · let s : State := pick We.B.wits2 2
    let c : Fin 192 := 0
    let a : Fin 16 := 4
    let a0 := ((s.core c).rd a).toNat
    let h := c.val / 12
    let g : Nat := 5
    let q : Nat := 256 * h + bits a0 7 0
    let d : Fin 16 := 0
    exact ⟨s, c, g, d, a, q, by unfold callReady; decide +kernel +zetaReduce, by decide +kernel +zetaReduce, fun p => noReady (s.sch (c.val / 12)) (by decide +kernel +zetaReduce) p, by decide +kernel +zetaReduce, by decide +kernel +zetaReduce, by decide +kernel +zetaReduce, by decide +kernel +zetaReduce, by decide +kernel +zetaReduce, by decide +kernel +zetaReduce, by decide +kernel +zetaReduce⟩
  · let s : State := pick We.B.wits2 3
    let c : Fin 192 := 0
    let a : Fin 16 := 6
    let a0 := ((s.core c).rd a).toNat
    let h := c.val / 12
    let g : Nat := 5
    let q : Nat := bits a0 11 0
    exact ⟨s, c, g, a, q, by unfold callReady; decide +kernel +zetaReduce, by decide +kernel +zetaReduce, fun p => noReady (s.sch (c.val / 12)) (by decide +kernel +zetaReduce) p, by decide +kernel +zetaReduce, by decide +kernel +zetaReduce, by decide +kernel +zetaReduce, by decide +kernel +zetaReduce, by decide +kernel +zetaReduce, by decide +kernel +zetaReduce, by decide +kernel +zetaReduce, by decide +kernel +zetaReduce, by decide +kernel +zetaReduce, by decide +kernel +zetaReduce⟩
  · let s : State := pick We.B.wits2 0
    let c : Fin 192 := 0
    let a : Fin 16 := 1
    let a0 := ((s.core c).rd a).toNat
    let h := c.val / 12
    let g : Nat := 5
    exact ⟨s, c, g, a, by unfold callReady; decide +kernel +zetaReduce, by decide +kernel +zetaReduce, fun p => noReady (s.sch (c.val / 12)) (by decide +kernel +zetaReduce) p, by decide +kernel +zetaReduce, by decide +kernel +zetaReduce, by decide +kernel +zetaReduce, by decide +kernel +zetaReduce⟩
  · let s : State := pick We.B.wits2 0
    let c : Fin 192 := 0
    let a : Fin 16 := 0
    let a0 := ((s.core c).rd a).toNat
    let h := c.val / 12
    let g : Nat := 5
    exact ⟨s, c, g, a, by unfold callReady; decide +kernel +zetaReduce, by decide +kernel +zetaReduce, fun p => noReady (s.sch (c.val / 12)) (by decide +kernel +zetaReduce) p, by decide +kernel +zetaReduce, by decide +kernel +zetaReduce, by decide +kernel +zetaReduce, by decide +kernel +zetaReduce, by decide +kernel +zetaReduce⟩
  · let c : Fin 192 := 0
    let h := c.val / 12
    let s : State := pick We.B.wits2 0
    let g : Nat := 5
    exact ⟨s, c, g, by unfold callReady; decide +kernel +zetaReduce, by decide +kernel +zetaReduce, fun p => noReady (s.sch (c.val / 12)) (by decide +kernel +zetaReduce) p, by decide +kernel +zetaReduce, by decide +kernel +zetaReduce, by decide +kernel +zetaReduce, by decide +kernel +zetaReduce⟩
  · let c : Fin 192 := 0
    let h := c.val / 12
    let s : State := pick We.B.wits2 0
    let g : Nat := 5
    exact ⟨s, c, g, by unfold callReady; decide +kernel +zetaReduce, by decide +kernel +zetaReduce, fun p => noReady (s.sch (c.val / 12)) (by decide +kernel +zetaReduce) p, by decide +kernel +zetaReduce, by decide +kernel +zetaReduce, by decide +kernel +zetaReduce, by decide +kernel +zetaReduce, by decide +kernel +zetaReduce, by decide +kernel +zetaReduce⟩
  · let s : State := pick We.B.wits2 0
    let c : Fin 192 := 0
    let a : Fin 16 := 3
    let a0 := ((s.core c).rd a).toNat
    let h := c.val / 12
    let g : Nat := 5
    exact ⟨s, c, g, a, by unfold callReady; decide +kernel +zetaReduce⟩
  · let c : Fin 192 := 0
    let h := c.val / 12
    let s : State := pick We.B.wits2 11
    let g := (s.thread c).get (by decide +kernel +zetaReduce)
    exact ⟨s, c, g, by decide +kernel +zetaReduce, by decide +kernel +zetaReduce, by decide +kernel +zetaReduce, by decide +kernel +zetaReduce, fun p => noReady (s.sch (c.val / 12)) (by decide +kernel +zetaReduce) p⟩
  · let c : Fin 192 := 0
    let h := c.val / 12
    let s : State := pick We.B.wits2 12
    let g := (s.thread c).get (by decide +kernel +zetaReduce)
    let p : Nat := 7
    let g' : Nat := 9
    exact ⟨s, c, g, g', p, by decide +kernel +zetaReduce, by decide +kernel +zetaReduce, by decide +kernel +zetaReduce, by decide +kernel +zetaReduce, by decide +kernel +zetaReduce, by decide +kernel +zetaReduce, by decide +kernel +zetaReduce, by decide +kernel +zetaReduce, by decide +kernel +zetaReduce, by decide +kernel +zetaReduce, by decide +kernel +zetaReduce, by decide +kernel +zetaReduce, fun q hq => oneReady (s.sch (c.val / 12)) 7 9 (by decide +kernel +zetaReduce) q hq, by decide +kernel +zetaReduce, by decide +kernel +zetaReduce, by decide +kernel +zetaReduce, by decide +kernel +zetaReduce⟩

/-- The hypotheses of `CallsOnOtherThreads`, each clause's together, hold somewhere. -/
theorem test_hyp_CallsOnOtherThreads :
    (∃ (s : State) (c : Fin 192) (g : Nat) (a : Fin 16) (n : Nat), let a0 := ((s.core c).rd a).toNat; let a1 := ((s.core c).rd (a + 1)).toNat; let h := c.val / 12; callReady s c g ∧ a.val < 14 ∧ bits a0 31 20 ≠ 0 ∧ frameOk (bits a1 13 0) = true ∧ s.lowestFree h 4096 0 = some n)
    ∧ (∃ (s : State) (c : Fin 192) (g : Nat) (a : Fin 16), let a0 := ((s.core c).rd a).toNat; let a1 := ((s.core c).rd (a + 1)).toNat; callReady s c g ∧ a.val < 14 ∧ (bits a0 31 20 = 0 ∨ frameOk (bits a1 13 0) = false))
    ∧ (∃ (s : State) (c : Fin 192) (g : Nat) (a : Fin 16), let a0 := ((s.core c).rd a).toNat; let a1 := ((s.core c).rd (a + 1)).toNat; let h := c.val / 12; callReady s c g ∧ a.val < 14 ∧ bits a0 31 20 ≠ 0 ∧ frameOk (bits a1 13 0) = true ∧ s.lowestFree h 4096 0 = none)
    ∧ (∃ (s : State) (c : Fin 192) (g : Nat) (a : Fin 16), let a0 := ((s.core c).rd a).toNat; callReady s c g ∧ 4096 ≤ a0)
    ∧ (∃ (s : State) (c : Fin 192) (g : Nat) (a : Fin 16), let a0 := ((s.core c).rd a).toNat; let h := c.val / 12; callReady s c g ∧ a0 < 4096 ∧ (s.tState (4096 * h + a0) = thFree ∨ s.tState (4096 * h + a0) = thRunning))
    ∧ (∃ (s : State) (c : Fin 192) (g : Nat) (a : Fin 16), let a0 := ((s.core c).rd a).toNat; let h := c.val / 12; callReady s c g ∧ a0 < 4096 ∧ s.tState (4096 * h + a0) = thReady ∧ s.locksOf (4096 * h + a0) = [])
    ∧ (∃ (s : State) (c : Fin 192) (g : Nat) (a : Fin 16) (n : Nat) (p : Nat), let a0 := ((s.core c).rd a).toNat; let h := c.val / 12; callReady s c g ∧ n = 4096 * h + bits a0 27 16 ∧ p = bits a0 5 0 ∧ s.tState n = thFree)
    ∧ (∃ (s : State) (c : Fin 192) (g : Nat) (a : Fin 16) (n : Nat) (p : Nat), let a0 := ((s.core c).rd a).toNat; let h := c.val / 12; callReady s c g ∧ n = 4096 * h + bits a0 27 16 ∧ p = bits a0 5 0 ∧ s.tState n = thRunning)
    ∧ (∃ (s : State) (c : Fin 192) (g : Nat) (a : Fin 16) (n : Nat) (p : Nat), let a0 := ((s.core c).rd a).toNat; let h := c.val / 12; callReady s c g ∧ n = 4096 * h + bits a0 27 16 ∧ p = bits a0 5 0 ∧ (s.tState n = thWaiting ∨ s.tState n = thFaulted))
    ∧ (∃ (s : State) (c : Fin 192) (g : Nat) (a : Fin 16) (n : Nat) (p : Nat), let a0 := ((s.core c).rd a).toNat; let h := c.val / 12; callReady s c g ∧ n = 4096 * h + bits a0 27 16 ∧ p = bits a0 5 0 ∧ s.tState n = thReady) := by
  refine ⟨?_, ?_, ?_, ?_, ?_, ?_, ?_, ?_, ?_, ?_⟩
  · let s : State := pick We.C.wits3 0
    let c : Fin 192 := 0
    let g : Nat := 5
    let a : Fin 16 := 8
    let a0 := ((s.core c).rd a).toNat
    let a1 := ((s.core c).rd (a + 1)).toNat
    let h := c.val / 12
    let n := (s.lowestFree h 4096 0).get (by decide +kernel +zetaReduce)
    exact ⟨s, c, g, a, n, by unfold callReady; decide +kernel +zetaReduce⟩
  · let s : State := pick We.C.wits3 0
    let c : Fin 192 := 0
    let g : Nat := 5
    let a : Fin 16 := 0
    let a0 := ((s.core c).rd a).toNat
    let a1 := ((s.core c).rd (a + 1)).toNat
    exact ⟨s, c, g, a, by unfold callReady; decide +kernel +zetaReduce⟩
  · let s : State := { We.running 0 0x10 We.kcall with sched := [(0, { SchedSt.reset with running := [(0, 6)] })], mem := usedTcbs (terraceBase 0) 4096 }
    exact ⟨s, 0, 5, 8, by unfold callReady; decide +kernel +zetaReduce, by decide +kernel +zetaReduce, by decide +kernel +zetaReduce, by decide +kernel +zetaReduce, allUsed s rfl⟩
  · let s : State := pick We.C.wits3 0
    let c : Fin 192 := 0
    let g : Nat := 5
    let a : Fin 16 := 2
    let a0 := ((s.core c).rd a).toNat
    exact ⟨s, c, g, a, by unfold callReady; decide +kernel +zetaReduce⟩
  · let s : State := pick We.C.wits3 0
    let c : Fin 192 := 0
    let g : Nat := 5
    let a : Fin 16 := 0
    let a0 := ((s.core c).rd a).toNat
    let h := c.val / 12
    exact ⟨s, c, g, a, by unfold callReady; decide +kernel +zetaReduce⟩
  · let s : State := pick We.C.wits3 5
    let c : Fin 192 := 0
    let g : Nat := 5
    let a : Fin 16 := 7
    let a0 := ((s.core c).rd a).toNat
    let h := c.val / 12
    exact ⟨s, c, g, a, by unfold callReady; decide +kernel +zetaReduce⟩
  · let s : State := pick We.C.wits3 0
    let c : Fin 192 := 0
    let g : Nat := 5
    let a : Fin 16 := 0
    let a0 := ((s.core c).rd a).toNat
    let h := c.val / 12
    let n : Nat := 4096 * h + bits a0 27 16
    let p : Nat := bits a0 5 0
    exact ⟨s, c, g, a, n, p, by unfold callReady; decide +kernel +zetaReduce⟩
  · let s : State := pick We.C.wits3 0
    let c : Fin 192 := 0
    let g : Nat := 5
    let a : Fin 16 := 3
    let a0 := ((s.core c).rd a).toNat
    let h := c.val / 12
    let n : Nat := 4096 * h + bits a0 27 16
    let p : Nat := bits a0 5 0
    exact ⟨s, c, g, a, n, p, by unfold callReady; decide +kernel +zetaReduce⟩
  · let s : State := pick We.C.wits3 9
    let c : Fin 192 := 0
    let g : Nat := 5
    let a : Fin 16 := 6
    let a0 := ((s.core c).rd a).toNat
    let h := c.val / 12
    let n : Nat := 4096 * h + bits a0 27 16
    let p : Nat := bits a0 5 0
    exact ⟨s, c, g, a, n, p, by unfold callReady; decide +kernel +zetaReduce⟩
  · let s : State := pick We.C.wits3 7
    let c : Fin 192 := 0
    let g : Nat := 5
    let a : Fin 16 := 6
    let a0 := ((s.core c).rd a).toNat
    let h := c.val / 12
    let n : Nat := 4096 * h + bits a0 27 16
    let p : Nat := bits a0 5 0
    exact ⟨s, c, g, a, n, p, by unfold callReady; decide +kernel +zetaReduce⟩

/-- The hypotheses of `SchedulerSignalsAndTicks`, each clause's together, hold somewhere. -/
theorem test_hyp_SchedulerSignalsAndTicks :
    (∃ (s : State) (c : Fin 192) (g : Nat) (a : Fin 16) (k : Nat), s.issues c = true ∧ (s.core c).sst.ld = 0 ∧ s.thread c = some g ∧ k = bits ((s.core c).rd a).toNat 7 0 ∧ k < 192)
    ∧ (∃ (s : State) (c : Fin 192) (g : Nat), let h := c.val / 12; s.issues c = true ∧ (s.core c).sst.ld = 0 ∧ s.thread c = some g ∧ s.obj .schTraceSize h = 0)
    ∧ (∃ (s : State) (c : Fin 192) (g : Nat) (size : Nat) (base : Nat) (wp : Nat), let h := c.val / 12; s.issues c = true ∧ (s.core c).sst.ld = 0 ∧ s.thread c = some g ∧ s.obj .schTraceSize h = size ∧ 0 < size ∧ s.obj .schTraceBase h = base ∧ s.obj .schTraceWptr h = wp ∧ bitAt (s.objN .schTraceMask h) 0x0E = true ∧ s.obj .schTraceMode h = 0 ∧ s.reachable (base + wp) 16 = true)
    ∧ (∃ (s : State) (h : Fin 16), ((∀ g ∈ (s.sch h).delay, g / 4096 = h.val)))
    ∧ (∃ (s : State) (h : Fin 16) (g : Nat) (w : Nat), s.obj .schWdEn h ≠ 0 ∧ (s.sch h).waits = [(g, w)] ∧ (s.sch h).reported = [] ∧ s.tState g = thWaiting ∧ s.tWaitKind g = 4 ∧ s.obj .schTraceSize h = 0 ∧ s.obj .schWdLimit h < s.now - tabGet 0 (s.sch h).since g)
    ∧ (∃ (s : State) (h : Fin 16), s.obj .schWdEn h = 0) := by
  refine ⟨?_, ?_, ?_, ?_, ?_, ?_⟩
  · let s : State := pick We.D.wits4 0
    let c : Fin 192 := 0
    let g := (s.thread c).get (by decide +kernel +zetaReduce)
    let a : Fin 16 := 0
    let k : Nat := bits ((s.core c).rd a).toNat 7 0
    exact ⟨s, c, g, a, k, by decide +kernel +zetaReduce⟩
  · let s : State := pick We.D.wits4 0
    let c : Fin 192 := 0
    let g := (s.thread c).get (by decide +kernel +zetaReduce)
    let h := c.val / 12
    exact ⟨s, c, g, by decide +kernel +zetaReduce⟩
  · let s : State := pick We.D.wits4 2
    let c : Fin 192 := 0
    let g := (s.thread c).get (by decide +kernel +zetaReduce)
    let h := c.val / 12
    let size : Nat := Int.toNat (s.obj .schTraceSize h)
    let base : Nat := Int.toNat (s.obj .schTraceBase h)
    let wp : Nat := Int.toNat (s.obj .schTraceWptr h)
    exact ⟨s, c, g, size, base, wp, by decide +kernel +zetaReduce⟩
  · let s : State := pick We.D.wits4 0
    let h : Fin 16 := 0
    exact ⟨s, h, by decide +kernel +zetaReduce⟩
  · let s : State := pick We.D.wits4 7
    let h : Fin 16 := 0
    let g : Nat := 9
    let w : Nat := 1
    exact ⟨s, h, g, w, by decide +kernel +zetaReduce⟩
  · let s : State := pick We.D.wits4 1
    let h : Fin 16 := 0
    exact ⟨s, h, by decide +kernel +zetaReduce⟩

/-- The hypotheses of `TickPeriodWrittenOnlyWhileGated`, each clause's together, hold somewhere. -/
theorem test_hyp_TickPeriodWrittenOnlyWhileGated :
    (∃ (s : State) (a : Accessor) (h : Fin 16) (v : Nat), s.writable a .schTickNs h v ∧ s.obj .hallPaceState h = paceSleep)
    ∧ (∃ (s : State) (a : Accessor) (h : Fin 16) (v : Nat), s.writable a .schTickNs h v ∧ s.obj .hallPaceState h ≠ paceSleep) := by
  refine ⟨?_, ?_⟩
  · let s : State := pick We.E.wits5 1
    let a : Accessor := ⟨.h, 0⟩
    let h : Fin 16 := 0
    let v : Nat := 100000
    exact ⟨s, a, h, v, by unfold State.writable; decide +kernel +zetaReduce⟩
  · let s : State := pick We.E.wits5 0
    let a : Accessor := ⟨.h, 0⟩
    let h : Fin 16 := 0
    let v : Nat := 100000
    exact ⟨s, a, h, v, by unfold State.writable; decide +kernel +zetaReduce⟩

/-- The hypotheses of `ProgramLoadAndRemoteCalls`, each clause's together, hold somewhere. -/
theorem test_hyp_ProgramLoadAndRemoteCalls :
    (∃ (s : State) (a : Accessor) (h : Fin 16) (v : Nat), s.writable a .schPmemLoad h v)
    ∧ (∃ (s : State) (c : Fin 192), c.val % 12 ∈ (s.sch (c / 12)).loading ∧ s.obj .coreState c = coreIdle ∧ s.upsets = [] ∧ ((∀ i, i < 12288 → s.reachable ((s.sch (c / 12)).loadSrc + 8 * i) 8 = true)))
    ∧ (∃ (s : State) (h : Fin 16) (src : Fin 16) (o : RemoteOp) (c : Nat), (s.sch h).inbound = [o] ∧ o.thread / 4096 = src.val ∧ (o.sub = 0x10 ∨ o.sub = 0x11) ∧ c = 12 * src.val + s.tLastCore o.thread ∧ c / 12 = src.val ∧ s.thread c = some o.thread ∧ s.tHeldV o.thread = 0 ∧ o.obj / 1024 = h.val ∧ (s.sem o.obj).kind = 2 ∧ (s.sem o.obj).waiters = [] ∧ 0 < (s.sem o.obj).count ∧ s.obj .schTraceSize src = 0 ∧ (s.core c).haltReq = false) := by
  refine ⟨?_, ?_, ?_⟩
  · let s : State := pick We.F.wits6 0
    let a : Accessor := ⟨.h, 0⟩
    let h : Fin 16 := 0
    let v : Nat := 0
    exact ⟨s, a, h, v, by unfold State.writable; decide +kernel +zetaReduce⟩
  · let s : State := pick We.F.wits6 2
    let c : Fin 192 := 0
    exact ⟨s, c, by decide +kernel +zetaReduce, by decide +kernel +zetaReduce, by decide +kernel +zetaReduce, fun i hi => inTerrace s _ i hi (by decide +kernel +zetaReduce)⟩
  · let s : State := pick We.F.wits6 4
    let h : Fin 16 := 15
    let o := ((s.sch h).inbound).head (by decide +kernel +zetaReduce)
    let src : Fin 16 := 0
    let c : Nat := 12 * src.val + s.tLastCore o.thread
    exact ⟨s, h, src, o, c, by decide +kernel +zetaReduce⟩

/-- The hypotheses of `SlotBufferLife`, each clause's together, hold somewhere. -/
theorem test_hyp_SlotBufferLife :
    (∃ (s : State) (f : UlFrame), s.obj .pairUlMode 0 = 0 ∧ s.findEntry f none s.steer = none)
    ∧ (∃ (s : State) (f : UlFrame) (sec : UlSection) (tc : Int) (S : Int) (x : Nat), let l := s.landOf x; let k := l.key + l.buf S; s.obj .pairUlMode 0 = 0 ∧ s.findEntry f none s.steer = some (tc, x, S) ∧ f.sections = [sec] ∧ s.upsets = [] ∧ seTarget x ≠ 1 ∧ s.hasUlJob (seTarget x) l.carrier S = true ∧ f.arrival < s.windowClose l.carrier S sec.symbol ∧ (((s.ulBuf k).st = 0 ∨ ((s.ulBuf k).slot = S ∧ (s.ulBuf k).st ≠ 3))) ∧ sec.rb = false ∧ sec.start + sec.num ≤ l.prbs ∧ sec.symbol < l.symbols ∧ sec.comp = (if l.comp then 1 else 0) ∧ sec.width = l.width)
    ∧ (∃ (s : State) (k : Fin 6144) (a : ArmSt), s.armOf (k / 8) (s.ulBuf k).slot = some a ∧ (s.ulBuf k).st = 2 ∧ s.windowClose (k / 8) (s.ulBuf k).slot ((maskList 14 a.symbols).foldl max 0) ≤ s.now)
    ∧ (∃ (s : State) (k : Fin 8192), (s.ulBuf k).st ≠ 0 ∧ s.ulDeadline (s.bufCarrier k) (s.ulBuf k).slot ≤ s.now)
    ∧ (∃ (s : State) (h : Fin 16) (r : EngRun), let c := dCarrier r.desc; let S := s.descSlot r.desc; engTakes s h 0 r ∧ dOp r.desc = 1 ∧ s.armOk h r.desc = true ∧ s.armOf c S = none ∧ (¬((s.ulBuf (s.bufOf c S)).st = 0 ∧ (s.ulBuf (s.bufOf c S)).slot = S)))
    ∧ (∃ (s : State) (h : Fin 16) (r : EngRun), let c := dCarrier r.desc; let S := s.descSlot r.desc; engTakes s h 0 r ∧ dOp r.desc = 2 ∧ s.slotFieldsOk r.desc = true ∧ s.earlierWork h r.stamp c S = false ∧ s.holds (s.bufOf c S) S = true ∧ s.storesDue h c S = false ∧ s.dravutOut = [] ∧ replyRoom s h r.desc)
    ∧ (∃ (s : State) (h : Fin 16) (r : EngRun) (a : ArmSt), s.engRun h 0 = some r ∧ dOp r.desc = 1 ∧ replyRoom s h r.desc ∧ (s.arms.find? (fun a => decide (a.carrier = dCarrier r.desc) && decide (s.sameSlot r.desc (dCarrier r.desc) a.slot)) = some a) ∧ s.grefReady a = true ∧ (((s.ulBuf (s.bufOf a.carrier a.slot)).st = 0 ∨ (s.ulBuf (s.bufOf a.carrier a.slot)).slot = a.slot))) := by
  refine ⟨?_, ?_, ?_, ?_, ?_, ?_, ?_⟩
  · let s : State := pick Wf.A.wits3 0
    let f : UlFrame := pick Wf.wits2 2
    exact ⟨s, f, by decide +kernel +zetaReduce⟩
  · let s : State := pick Wf.A.wits3 0
    let f : UlFrame := pick Wf.wits2 0
    let q1 := (s.findEntry f none s.steer).get (by decide +kernel +zetaReduce)
    let tc := q1.1
    let x := q1.2.1
    let S := q1.2.2
    let sec := (f.sections).head (by decide +kernel +zetaReduce)
    let l := s.landOf x
    let k := l.key + l.buf S
    exact ⟨s, f, sec, tc, S, x, by decide +kernel +zetaReduce⟩
  · let s : State := pick Wf.A.wits3 3
    let k : Fin 6144 := 0
    let a := (s.armOf (k / 8) (s.ulBuf k).slot).get (by decide +kernel +zetaReduce)
    exact ⟨s, k, a, by decide +kernel +zetaReduce⟩
  · let s : State := pick Wf.A.wits3 3
    let k : Fin 8192 := 0
    exact ⟨s, k, by decide +kernel +zetaReduce⟩
  · let s : State := pick Wf.A.wits3 5
    let h : Fin 16 := 0
    let r : EngRun := pick Wf.A.wits4 10
    let c := dCarrier r.desc
    let S := s.descSlot r.desc
    exact ⟨s, h, r, engTakes_of s h 0 r (by decide +kernel +zetaReduce) (by decide +kernel +zetaReduce), by decide +kernel +zetaReduce, by decide +kernel +zetaReduce, by decide +kernel +zetaReduce, by decide +kernel +zetaReduce⟩
  · let s : State := pick Wf.A.wits3 6
    let h : Fin 16 := 0
    let r : EngRun := pick Wf.A.wits4 12
    let c := dCarrier r.desc
    let S := s.descSlot r.desc
    exact ⟨s, h, r, engTakes_of s h 0 r (by decide +kernel +zetaReduce) (by decide +kernel +zetaReduce), by decide +kernel +zetaReduce, by decide +kernel +zetaReduce, by decide +kernel +zetaReduce, by decide +kernel +zetaReduce, by decide +kernel +zetaReduce, by decide +kernel +zetaReduce, by unfold replyRoom queueRoom; decide +kernel +zetaReduce⟩
  · let s : State := pick Wf.A.wits3 7
    let h : Fin 16 := 0
    let r := (s.engRun h 0).get (by decide +kernel +zetaReduce)
    let a : ArmSt := pick Wf.A.wits5 0
    exact ⟨s, h, r, a, by unfold replyRoom queueRoom; decide +kernel +zetaReduce⟩

/-- The hypotheses of `DetectionDescriptors`, each clause's together, hold somewhere. -/
theorem test_hyp_DetectionDescriptors :
    (∃ (s : State) (h : Fin 16) (r : EngRun) (a : _), let d := r.desc; let c := dCarrier d; let S := s.descSlot d; replyRoom s h r.desc ∧ engTakes s h 1 r ∧ dOp d = 3 ∧ s.chestOk d = true ∧ s.holds (s.bufOf c S) S = true ∧ s.armOf c S = some a ∧ s.symbolReady a (dStreams d) (bits d 283 280) = true)
    ∧ (∃ (s : State) (h : Fin 16) (r : EngRun) (a : _), let d := r.desc; let c := dCarrier d; let S := s.descSlot d; replyRoom s h r.desc ∧ engTakes s h 3 r ∧ dOp d = 4 ∧ s.detectOk h d = true ∧ s.holds (s.bufOf c S) S = true ∧ s.armOf c S = some a ∧ (maskList 14 (dSymMask d)).all (s.symbolReady a (dStreams d)) = true)
    ∧ (∃ (s : State) (h : Fin 16) (r : EngRun), let d := r.desc; let c := dCarrier d; let S := s.descSlot d; let hb := tabGet 0 s.hBufs (65536 * h + bits d 139 128); replyRoom s h r.desc ∧ engTakes s h 3 r ∧ dOp d = 5 ∧ s.slotFieldsOk d = true ∧ s.holds (s.bufOf c S) S = true ∧ 1 ≤ bits d 199 192 ∧ bits d 199 192 ≤ 8 ∧ bits d 173 172 < 3 ∧ 1 ≤ dPrbCount d ∧ dPrbStart d + dPrbCount d ≤ s.numPrb c S ∧ 256 * bits d 139 128 + hBytes (hb % 4) (hb / 4) (dPrbCount d) ≤ 2 ^ 20 ∧ 256 * bits d 155 140 + groupsOf (hb % 4) (dPrbCount d) * popCount 32 (hb / 4) * bits d 199 192 * 4 ≤ terraceSize)
    ∧ (∃ (s : State) (h : Fin 16) (r : EngRun), let d := r.desc; let c := dCarrier d; let S := s.descSlot d; replyRoom s h r.desc ∧ engTakes s h 2 r ∧ dOp d = 6 ∧ s.slotFieldsOk d = true ∧ bits d 271 266 ≤ 12 ∧ bits d 265 264 < 2 ∧ fftSizeOk (bits d 263 251) = true ∧ dStreams d ≠ 0 ∧ dSymMask d ≠ 0 ∧ dSymMask d < 2 ^ s.symbolsPerSlot c ∧ inSlice (bits d 223 200) ((maskList 32 (dStreams d)).length * s.fftOutBytes d) = true ∧ inSlice (bits d 199 176) ((maskList 32 (dStreams d)).length * s.fftInBytes d) = true ∧ s.holds (s.bufOf c S) S = true ∧ s.shapeFirst h r.stamp = false ∧ s.fftReady d = true)
    ∧ (∃ (s : State) (h : Fin 16) (r : EngRun) (a : _), let d := r.desc; let c := dCarrier d; let S := s.descSlot d; let rate := s.predRate h; let cyc : Int := s.outerDet h d + s.outerDec h d + s.decBacklog h; let guard := s.objAt (s.slotStart c S) .ulAbandonGuard c; let limit := (dDeadline d : Int) - max (s.obj .hallPaceMargin h) guard; replyRoom s h r.desc ∧ engTakes s h 3 r ∧ dOp d = 7 ∧ s.outerOk h d = true ∧ s.holds (s.bufOf c S) S = true ∧ s.armOf c S = some a ∧ s.now < dDeadline d - guard ∧ s.now * rate + cyc * 1000000 + 1000 * rate < limit * rate)
    ∧ (∃ (s : State) (h : Fin 16) (r : EngRun) (a : _), let d := r.desc; let c := dCarrier d; let S := s.descSlot d; let cyc : Int := s.outerDet h d + s.outerDec h d + s.decBacklog h; let guard := s.objAt (s.slotStart c S) .ulAbandonGuard c; replyRoom s h r.desc ∧ engTakes s h 3 r ∧ dOp d = 7 ∧ s.outerOk h d = true ∧ s.holds (s.bufOf c S) S = true ∧ s.armOf c S = some a ∧ dDeadline d - guard ≤ s.now)
    ∧ (∃ (s : State) (h : Fin 16) (r : EngRun), let d := r.desc; let c := dCarrier d; let S := s.descSlot d; replyRoom s h r.desc ∧ s.engRun h 3 = some r ∧ (dDeadline d : Int) - s.objAt (s.slotStart c S) .ulAbandonGuard c ≤ s.now)
    ∧ (∃ (s : State) (h : Fin 16) (r : EngRun), engTakes s h 0 r ∧ dOp r.desc = 1)
    ∧ (∃ (s : State) (h : Fin 16) (r : EngRun), engTakes s h 0 r ∧ dOp r.desc = 2)
    ∧ (∃ (s : State) (h : Fin 16) (r : EngRun), engTakes s h 1 r ∧ dOp r.desc = 3)
    ∧ (∃ (s : State) (h : Fin 16) (r : EngRun), engTakes s h 2 r ∧ dOp r.desc = 6)
    ∧ (∃ (s : State) (h : Fin 16) (r : EngRun), engTakes s h 3 r ∧ dOp r.desc = 4)
    ∧ (∃ (s : State) (h : Fin 16) (r : EngRun), s.engRun h 3 = some r ∧ replyRoom s h r.desc) := by
  refine ⟨?_, ?_, ?_, ?_, ?_, ?_, ?_, ?_, ?_, ?_, ?_, ?_, ?_⟩
  · let s : State := pick Wf.B.wits6 0
    let h : Fin 16 := 0
    let r : EngRun := pick Wf.B.wits7 0
    let d := r.desc
    let c := dCarrier d
    let S := s.descSlot d
    let a := (s.armOf c S).get (by decide +kernel +zetaReduce)
    exact ⟨s, h, r, a, by unfold replyRoom queueRoom; decide +kernel +zetaReduce, engTakes_of s h 1 r (by decide +kernel +zetaReduce) (by decide +kernel +zetaReduce), by decide +kernel +zetaReduce, by decide +kernel +zetaReduce, by decide +kernel +zetaReduce, by decide +kernel +zetaReduce, by decide +kernel +zetaReduce⟩
  · let s : State := pick Wf.B.wits6 2
    let h : Fin 16 := 0
    let r : EngRun := pick Wf.B.wits7 2
    let d := r.desc
    let c := dCarrier d
    let S := s.descSlot d
    let a := (s.armOf c S).get (by decide +kernel +zetaReduce)
    exact ⟨s, h, r, a, by unfold replyRoom queueRoom; decide +kernel +zetaReduce, engTakes_of s h 3 r (by decide +kernel +zetaReduce) (by decide +kernel +zetaReduce), by decide +kernel +zetaReduce, detectOk_of s h d (by decide +kernel +zetaReduce), by decide +kernel +zetaReduce, by decide +kernel +zetaReduce, by decide +kernel +zetaReduce⟩
  · let s : State := pick Wf.B.wits6 3
    let h : Fin 16 := 0
    let r : EngRun := pick Wf.B.wits7 3
    let d := r.desc
    let c := dCarrier d
    let S := s.descSlot d
    let hb := tabGet 0 s.hBufs (65536 * h + bits d 139 128)
    exact ⟨s, h, r, by unfold replyRoom queueRoom; decide +kernel +zetaReduce, engTakes_of s h 3 r (by decide +kernel +zetaReduce) (by decide +kernel +zetaReduce), by decide +kernel +zetaReduce, by decide +kernel +zetaReduce, by decide +kernel +zetaReduce, by decide +kernel +zetaReduce, by decide +kernel +zetaReduce, by decide +kernel +zetaReduce, by decide +kernel +zetaReduce, by decide +kernel +zetaReduce, by decide +kernel +zetaReduce, by decide +kernel +zetaReduce⟩
  · let s : State := pick Wf.B.wits6 4
    let h : Fin 16 := 0
    let r : EngRun := pick Wf.B.wits7 4
    let d := r.desc
    let c := dCarrier d
    let S := s.descSlot d
    exact ⟨s, h, r, by unfold replyRoom queueRoom; decide +kernel +zetaReduce, engTakes_of s h 2 r (by decide +kernel +zetaReduce) (by decide +kernel +zetaReduce), by decide +kernel +zetaReduce, by decide +kernel +zetaReduce, by decide +kernel +zetaReduce, by decide +kernel +zetaReduce, by decide +kernel +zetaReduce, by decide +kernel +zetaReduce, by decide +kernel +zetaReduce, by decide +kernel +zetaReduce, by decide +kernel +zetaReduce, by decide +kernel +zetaReduce, by decide +kernel +zetaReduce, by decide +kernel +zetaReduce, by decide +kernel +zetaReduce⟩
  · let s : State := pick Wf.B.wits6 5
    let h : Fin 16 := 0
    let r : EngRun := pick Wf.B.wits7 5
    let d := r.desc
    let c := dCarrier d
    let S := s.descSlot d
    let a := (s.armOf c S).get (by decide +kernel +zetaReduce)
    let rate := s.predRate h
    let cyc : Int := s.outerDet h d + s.outerDec h d + s.decBacklog h
    let guard := s.objAt (s.slotStart c S) .ulAbandonGuard c
    let limit := (dDeadline d : Int) - max (s.obj .hallPaceMargin h) guard
    exact ⟨s, h, r, a, by unfold replyRoom queueRoom; decide +kernel +zetaReduce, engTakes_of s h 3 r (by decide +kernel +zetaReduce) (by decide +kernel +zetaReduce), by decide +kernel +zetaReduce, by decide +kernel +zetaReduce, by decide +kernel +zetaReduce, by decide +kernel +zetaReduce, by decide +kernel +zetaReduce, outerTest_of s h d (s.outerDec h d + s.decBacklog h) rate limit (by decide +kernel +zetaReduce) cyc (by simp only [cyc]; push_cast; ring)⟩
  · let s : State := pick Wf.B.wits6 6
    let h : Fin 16 := 0
    let r : EngRun := pick Wf.B.wits7 6
    let d := r.desc
    let c := dCarrier d
    let S := s.descSlot d
    let a := (s.armOf c S).get (by decide +kernel +zetaReduce)
    let cyc : Int := s.outerDet h d + s.outerDec h d + s.decBacklog h
    let guard := s.objAt (s.slotStart c S) .ulAbandonGuard c
    exact ⟨s, h, r, a, by unfold replyRoom queueRoom; decide +kernel +zetaReduce, engTakes_of s h 3 r (by decide +kernel +zetaReduce) (by decide +kernel +zetaReduce), by decide +kernel +zetaReduce, by decide +kernel +zetaReduce, by decide +kernel +zetaReduce, by decide +kernel +zetaReduce, by decide +kernel +zetaReduce⟩
  · let s : State := pick Wf.B.wits6 8
    let h : Fin 16 := 0
    let r : EngRun := pick Wf.B.wits7 5
    let d := r.desc
    let c := dCarrier d
    let S := s.descSlot d
    exact ⟨s, h, r, by unfold replyRoom queueRoom; decide +kernel +zetaReduce⟩
  · let s : State := pick Wf.B.wits6 9
    let h : Fin 16 := 0
    let r : EngRun := pick Wf.B.wits7 11
    exact ⟨s, h, r, engTakes_of s h 0 r (by decide +kernel +zetaReduce) (by decide +kernel +zetaReduce), by decide +kernel +zetaReduce⟩
  · let s : State := pick Wf.B.wits6 10
    let h : Fin 16 := 0
    let r : EngRun := pick Wf.B.wits7 12
    exact ⟨s, h, r, engTakes_of s h 0 r (by decide +kernel +zetaReduce) (by decide +kernel +zetaReduce), by decide +kernel +zetaReduce⟩
  · let s : State := pick Wf.B.wits6 0
    let h : Fin 16 := 0
    let r : EngRun := pick Wf.B.wits7 0
    exact ⟨s, h, r, engTakes_of s h 1 r (by decide +kernel +zetaReduce) (by decide +kernel +zetaReduce), by decide +kernel +zetaReduce⟩
  · let s : State := pick Wf.B.wits6 4
    let h : Fin 16 := 0
    let r : EngRun := pick Wf.B.wits7 4
    exact ⟨s, h, r, engTakes_of s h 2 r (by decide +kernel +zetaReduce) (by decide +kernel +zetaReduce), by decide +kernel +zetaReduce⟩
  · let s : State := pick Wf.B.wits6 2
    let h : Fin 16 := 0
    let r : EngRun := pick Wf.B.wits7 2
    exact ⟨s, h, r, engTakes_of s h 3 r (by decide +kernel +zetaReduce) (by decide +kernel +zetaReduce), by decide +kernel +zetaReduce⟩
  · let s : State := pick Wf.B.wits6 7
    let h : Fin 16 := 0
    let r := (s.engRun h 3).get (by decide +kernel +zetaReduce)
    exact ⟨s, h, r, by unfold replyRoom queueRoom; decide +kernel +zetaReduce⟩

/-- The hypotheses of `CodingDescriptors`, each clause's together, hold somewhere. -/
theorem test_hyp_CodingDescriptors :
    (∃ (s : State) (h : Fin 16) (r : EngRun), let d := r.desc; let c := dCarrier d; let S := s.descSlot d; replyRoom s h r.desc ∧ engTakes s h 4 r ∧ dOp d = 8 ∧ s.decOk d = true ∧ decWait d = false ∧ ((decStore d = true → (s.armOf c S).isSome)) ∧ s.procInUse (decProc d) = false)
    ∧ (∃ (s : State) (h : Fin 16) (r : EngRun), let d := r.desc; replyRoom s h r.desc ∧ engTakes s h 5 r ∧ dOp d = 9 ∧ s.slotFieldsOk d = true ∧ encOk d = true)
    ∧ (∃ (s : State) (h : Fin 16) (r : EngRun) (k : Nat), let d := r.desc; replyRoom s h r.desc ∧ engTakes s h 7 r ∧ dOp d = 0xA ∧ s.slotFieldsOk d = true ∧ polarOk d = true ∧ s.freeCodec h 7 = some k ∧ s.arbHold (sharedArb h 7) = h % 8)
    ∧ (∃ (s : State) (h : Fin 16) (r : EngRun) (k : Nat), let d := r.desc; let c := dCarrier d; let S := s.descSlot d; replyRoom s h r.desc ∧ engTakes s h 8 r ∧ dOp d = 0xB ∧ s.turboOk d = true ∧ s.freeCodec h 8 = some k ∧ s.arbHold (sharedArb h 8) = h % 8 ∧ ((bitAt d 366 = true → s.procInUse (decProc d) = false ∧ (decStore d = true → (s.armOf c S).isSome))))
    ∧ (∃ (s : State) (h : Fin 16) (r : EngRun), let d := r.desc; replyRoom s h r.desc ∧ engTakes s h 6 r ∧ dOp d = 0xC ∧ bits d 215 212 = 1 ∧ ((bits d 255 236 + bits d 235 216 + 1 : Nat) : Int) ≤ s.obj .harqProcCount 0 ∧ ((∀ w ∈ s.harq, bits d 255 236 ≤ decProc w.desc → decProc w.desc ≤ bits d 255 236 + bits d 235 216 → s.procInUse (decProc w.desc) = false)))
    ∧ (∃ (s : State) (h : Fin 16) (g : Fin 16) (r : EngRun) (j : Fin 2), s.codec (2 * (h / 8) + j) = some ⟨g, r⟩ ∧ (s.unit (unitBlock (h / 8))).st = unitRunning ∧ replyRoom s g r.desc)
    ∧ (∃ (s : State) (h : Fin 16) (g : Fin 16) (r : EngRun), s.codec (4 + h / 8) = some ⟨g, r⟩ ∧ (s.unit (unitBlock (h / 8))).st = unitRunning ∧ replyRoom s g r.desc ∧ ((bitAt r.desc 366 = true → (s.workOf g r.desc).isSome)))
    ∧ (∃ (s : State) (h : Fin 16) (r : EngRun) (w : HarqWork), s.engRun h 4 = some r ∧ s.workOf h r.desc = some w ∧ w.kind = 0 ∧ s.blockReady w = true ∧ w.passed.length + 1 < (decSeg r.desc).c)
    ∧ (∃ (s : State) (h : Fin 16) (r : EngRun) (w : HarqWork), s.engRun h 4 = some r ∧ s.workOf h r.desc = some w ∧ w.kind = 0 ∧ s.blockReady w = true ∧ w.passed.length + 1 = (decSeg r.desc).c ∧ replyRoom s h r.desc)
    ∧ (∃ (s : State) (h : Fin 16) (w : HarqWork), (s.harq.find? (fun w => decide (w.hall = h.val) && w.complete && w.released && decStore w.desc) = some w) ∧ s.engRun h 0 = none) := by
  refine ⟨?_, ?_, ?_, ?_, ?_, ?_, ?_, ?_, ?_, ?_⟩
  · let s : State := pick Wf.C.wits10 0
    let h : Fin 16 := 0
    let r : EngRun := pick Wf.C.wits11 0
    let d := r.desc
    let c := dCarrier d
    let S := s.descSlot d
    exact ⟨s, h, r, by unfold replyRoom queueRoom; decide +kernel +zetaReduce, engTakes_of s h 4 r (by decide +kernel +zetaReduce) (by decide +kernel +zetaReduce), by decide +kernel +zetaReduce, by decide +kernel +zetaReduce, by decide +kernel +zetaReduce, by decide +kernel +zetaReduce, by decide +kernel +zetaReduce⟩
  · let s : State := pick Wf.C.wits10 3
    let h : Fin 16 := 0
    let r : EngRun := pick Wf.C.wits11 3
    let d := r.desc
    exact ⟨s, h, r, by unfold replyRoom queueRoom; decide +kernel +zetaReduce, engTakes_of s h 5 r (by decide +kernel +zetaReduce) (by decide +kernel +zetaReduce), by decide +kernel +zetaReduce, by decide +kernel +zetaReduce, by decide +kernel +zetaReduce⟩
  · let s : State := pick Wf.C.wits10 4
    let h : Fin 16 := 0
    let r : EngRun := pick Wf.C.wits11 4
    let d := r.desc
    let k := (s.freeCodec h 7).get (by decide +kernel +zetaReduce)
    exact ⟨s, h, r, k, by unfold replyRoom queueRoom; decide +kernel +zetaReduce, engTakes_of s h 7 r (by decide +kernel +zetaReduce) (by decide +kernel +zetaReduce), by decide +kernel +zetaReduce, by decide +kernel +zetaReduce, by decide +kernel +zetaReduce, by decide +kernel +zetaReduce, by decide +kernel +zetaReduce⟩
  · let s : State := pick Wf.C.wits10 6
    let h : Fin 16 := 0
    let r : EngRun := pick Wf.C.wits11 6
    let d := r.desc
    let c := dCarrier d
    let S := s.descSlot d
    let k := (s.freeCodec h 8).get (by decide +kernel +zetaReduce)
    exact ⟨s, h, r, k, by unfold replyRoom queueRoom; decide +kernel +zetaReduce, engTakes_of s h 8 r (by decide +kernel +zetaReduce) (by decide +kernel +zetaReduce), by decide +kernel +zetaReduce, by decide +kernel +zetaReduce, by decide +kernel +zetaReduce, by decide +kernel +zetaReduce, by decide +kernel +zetaReduce⟩
  · let s : State := pick Wf.C.wits10 12
    let h : Fin 16 := 0
    let r : EngRun := pick Wf.C.wits11 16
    let d := r.desc
    exact ⟨s, h, r, by unfold replyRoom queueRoom; decide +kernel +zetaReduce, engTakes_of s h 6 r (by decide +kernel +zetaReduce) (by decide +kernel +zetaReduce), by decide +kernel +zetaReduce, by decide +kernel +zetaReduce, by decide +kernel +zetaReduce, by decide +kernel +zetaReduce⟩
  · let s : State := pick Wf.C.wits10 8
    let h : Fin 16 := 0
    let g : Fin 16 := 0
    let r : EngRun := pick Wf.C.wits11 4
    let j : Fin 2 := 1
    exact ⟨s, h, g, r, j, by unfold replyRoom queueRoom; decide +kernel +zetaReduce⟩
  · let s : State := pick Wf.C.wits10 10
    let h : Fin 16 := 0
    let g : Fin 16 := 0
    let r : EngRun := pick Wf.C.wits11 6
    exact ⟨s, h, g, r, by unfold replyRoom queueRoom; decide +kernel +zetaReduce⟩
  · let s : State := pick Wf.C.wits10 13
    let h : Fin 16 := 0
    let r := (s.engRun h 4).get (by decide +kernel +zetaReduce)
    let w := (s.workOf h r.desc).get (by decide +kernel +zetaReduce)
    exact ⟨s, h, r, w, by decide +kernel +zetaReduce⟩
  · let s : State := pick Wf.C.wits10 14
    let h : Fin 16 := 0
    let r := (s.engRun h 4).get (by decide +kernel +zetaReduce)
    let w := (s.workOf h r.desc).get (by decide +kernel +zetaReduce)
    exact ⟨s, h, r, w, by unfold replyRoom queueRoom; decide +kernel +zetaReduce⟩
  · let s : State := pick Wf.C.wits10 16
    let h : Fin 16 := 0
    let w : HarqWork := pick Wf.C.wits12 4
    exact ⟨s, h, w, by decide +kernel +zetaReduce⟩

/-- The hypotheses of `PreambleDetectionOpensReception`, each clause's together, hold somewhere. -/
theorem test_hyp_PreambleDetectionOpensReception :
    (∃ (s : State) (p : Fin 256) (S : Int) (rep : Nat), let x := s.praCfg p; pcUsed x = true ∧ (s.unit (unitBlock (pcCorr x / 2))).st = unitRunning ∧ s.hasUlJob 1 (pcCarrier x) S = true ∧ s.praNext p S rep = true ∧ s.praReady p S rep = true) := by
  let s : State := pick Wf.D.wits13 0
  let p : Fin 256 := 0
  let x := s.praCfg p
  let S : Int := 1000000
  let rep : Nat := 0
  exact ⟨s, p, S, rep, by decide +kernel +zetaReduce⟩

/-- The hypotheses of `DownlinkWork`, each clause's together, hold somewhere. -/
theorem test_hyp_DownlinkWork :
    (∃ (s : State) (c : Fin 768) (S : Int), let T := s.slotStart c S; let h := s.hallAt T c; h ≠ 255 ∧ s.dlJobs.contains (c.val, S) = true ∧ s.obj .pairRole 0 ≠ 2 ∧ T - s.objAt T .carrierBuildOffset c ≤ s.now)
    ∧ (∃ (s : State) (h : Fin 16) (r : EngRun), let d := r.desc; let c := dCarrier d; replyRoom s h r.desc ∧ engTakes s h 9 r ∧ dOp d = 0xD ∧ s.buildOk h d = true ∧ ((bdTd d = true ∨ (s.fs c).used = 0)))
    ∧ (∃ (s : State) (h : Fin 16) (r : EngRun), let d := r.desc; let c := dCarrier d; replyRoom s h r.desc ∧ engTakes s h 10 r ∧ dOp d = 0xE ∧ s.shapeOk d = true ∧ s.fftFirst h r.stamp = false ∧ (s.fs c).used = 0)
    ∧ (∃ (s : State) (c : Fin 768) (S : Int) (n : Nat) (x : Nat), let T := s.slotStart c S; (n, x) ∈ s.tdStreams c S ∧ S ∉ (s.tdSt c n).shaped ∧ S ∉ (s.tdSt c n).alone ∧ T - (s.tdSt c n).leadNs - s.objAt T .tdAdvance c - s.objAt T .dlHandoverGuard c ≤ s.now)
    ∧ (∃ (s : State) (a : Accessor) (c : Fin 768) (v : Nat), s.writable a .tdMaskUnmute c v) := by
  refine ⟨?_, ?_, ?_, ?_, ?_⟩
  · let s : State := pick Wg.A.wits1 0
    let c : Fin 768 := 0
    let S : Int := 1000000
    let T := s.slotStart c S
    let h := s.hallAt T c
    exact ⟨s, c, S, by decide +kernel +zetaReduce⟩
  · let s : State := pick Wg.A.wits1 3
    let h : Fin 16 := 0
    let r : EngRun := pick Wg.A.wits2 3
    let d := r.desc
    let c := dCarrier d
    exact ⟨s, h, r, by unfold replyRoom queueRoom; decide +kernel +zetaReduce, engTakes_of s h 9 r (by decide +kernel +zetaReduce) (by decide +kernel +zetaReduce), by decide +kernel +zetaReduce, by decide +kernel +zetaReduce, by decide +kernel +zetaReduce⟩
  · let s : State := pick Wg.A.wits1 7
    let h : Fin 16 := 0
    let r : EngRun := pick Wg.A.wits2 7
    let d := r.desc
    let c := dCarrier d
    exact ⟨s, h, r, by unfold replyRoom queueRoom; decide +kernel +zetaReduce, engTakes_of s h 10 r (by decide +kernel +zetaReduce) (by decide +kernel +zetaReduce), by decide +kernel +zetaReduce, by decide +kernel +zetaReduce, by decide +kernel +zetaReduce, by decide +kernel +zetaReduce⟩
  · let s : State := pick Wg.A.wits1 8
    let c : Fin 768 := 0
    let S : Int := 0
    let T := s.slotStart c S
    let n : Nat := 0
    let x : Nat := 170141183460469382847414755544530944000
    exact ⟨s, c, S, n, x, by decide +kernel +zetaReduce⟩
  · let s : State := pick Wg.A.wits1 0
    let a : Accessor := ⟨.h, 0⟩
    let c : Fin 768 := 0
    let v : Nat := 0
    exact ⟨s, a, c, v, by unfold State.writable; decide +kernel +zetaReduce⟩

/-- The hypotheses of `ContextStoreOperations`, each clause's together, hold somewhere. -/
theorem test_hyp_ContextStoreOperations :
    (∃ (s : State) (h : Fin 16) (r : EngRun) (cmd : Nat), ctxTakes s h r cmd ∧ cmd = 1)
    ∧ (∃ (s : State) (h : Fin 16) (r : EngRun) (cmd : Nat), ctxTakes s h r cmd ∧ cmd = 0)
    ∧ (∃ (s : State) (h : Fin 16) (r : EngRun) (cmd : Nat), ctxTakes s h r cmd ∧ cmd = 2)
    ∧ (∃ (s : State) (h : Fin 16) (r : EngRun) (cmd : Nat), ctxTakes s h r cmd ∧ cmd = 4)
    ∧ (∃ (s : State) (h : Fin 16) (r : EngRun) (cmd : Nat), ctxTakes s h r cmd ∧ cmd = 3) := by
  refine ⟨?_, ?_, ?_, ?_, ?_⟩
  · let s : State := pick Wg.B.wits3 1
    let h : Fin 16 := 0
    let r : EngRun := pick Wg.B.wits4 1
    let cmd : Nat := 1
    exact ⟨s, h, r, cmd, ctxTakes_of s h r cmd (engTakes_of s h 11 r (by decide +kernel +zetaReduce) (by decide +kernel +zetaReduce)) (by decide +kernel +zetaReduce), by decide +kernel +zetaReduce⟩
  · let s : State := pick Wg.B.wits3 0
    let h : Fin 16 := 0
    let r : EngRun := pick Wg.B.wits4 0
    let cmd : Nat := 0
    exact ⟨s, h, r, cmd, ctxTakes_of s h r cmd (engTakes_of s h 11 r (by decide +kernel +zetaReduce) (by decide +kernel +zetaReduce)) (by decide +kernel +zetaReduce), by decide +kernel +zetaReduce⟩
  · let s : State := pick Wg.B.wits3 2
    let h : Fin 16 := 0
    let r : EngRun := pick Wg.B.wits4 2
    let cmd : Nat := 2
    exact ⟨s, h, r, cmd, ctxTakes_of s h r cmd (engTakes_of s h 11 r (by decide +kernel +zetaReduce) (by decide +kernel +zetaReduce)) (by decide +kernel +zetaReduce), by decide +kernel +zetaReduce⟩
  · let s : State := pick Wg.B.wits3 4
    let h : Fin 16 := 0
    let r : EngRun := pick Wg.B.wits4 4
    let cmd : Nat := 4
    exact ⟨s, h, r, cmd, ctxTakes_of s h r cmd (engTakes_of s h 11 r (by decide +kernel +zetaReduce) (by decide +kernel +zetaReduce)) (by decide +kernel +zetaReduce), by decide +kernel +zetaReduce⟩
  · let s : State := pick Wg.B.wits3 3
    let h : Fin 16 := 0
    let r : EngRun := pick Wg.B.wits4 3
    let cmd : Nat := 3
    exact ⟨s, h, r, cmd, ctxTakes_of s h r cmd (engTakes_of s h 11 r (by decide +kernel +zetaReduce) (by decide +kernel +zetaReduce)) (by decide +kernel +zetaReduce), by decide +kernel +zetaReduce⟩

/-- The hypotheses of `ContextStoreUpkeep`, each clause's together, hold somewhere. -/
theorem test_hyp_ContextStoreUpkeep :
    (∃ (s : State) (a : Accessor) (v : Nat), s.writable a .ctxEnable 0 v ∧ (v = 0 ∨ s.ctxBaseOk = true))
    ∧ (∃ (s : State) (a : Accessor) (v : Nat), s.writable a .ctxEnable 0 v ∧ v ≠ 0 ∧ s.ctxBaseOk = false)
    ∧ (∃ (s : State), s.ctx.clearing = true ∧ s.ctxWaiting = [])
    ∧ (∃ (s : State), s.obj .ctxEnable 0 ≠ 0 ∧ s.ctx.clearing = false ∧ s.obj .ctxIdleExpire 0 ≠ 0 ∧ s.upsets = []) := by
  refine ⟨?_, ?_, ?_, ?_⟩
  · let s : State := pick Wg.C.wits5 0
    let a : Accessor := ⟨.h, 0⟩
    let v : Nat := 0
    exact ⟨s, a, v, by unfold State.writable; decide +kernel +zetaReduce⟩
  · let s : State := pick Wg.C.wits5 0
    let a : Accessor := ⟨.h, 0⟩
    let v : Nat := 1
    exact ⟨s, a, v, by unfold State.writable; decide +kernel +zetaReduce⟩
  · let s : State := pick Wg.C.wits5 10
    exact ⟨s, by decide +kernel +zetaReduce⟩
  · let s : State := pick Wg.C.wits5 6
    exact ⟨s, by decide +kernel +zetaReduce⟩

/-- The hypotheses of `ArbitersAndGallery`, each clause's together, hold somewhere. -/
theorem test_hyp_ArbitersAndGallery :
    (∃ (s : State) (k : Fin 573) (req : Nat) (mid : Bool), let n := arbN k; let asserted := roundMask s k req mid; let wants (i : Nat) : Prop := i < n ∧ bitAt asserted i = true ∧ bitAt (s.arbFrozen k) i = false; s.arbDue k = true ∧ ((∃ i, wants i)))
    ∧ (∃ (s : State) (k : Fin 573) (req : Nat) (mid : Bool), let n := arbN k; let asserted := roundMask s k req mid; let wants (i : Nat) : Prop := i < n ∧ bitAt asserted i = true ∧ bitAt (s.arbFrozen k) i = false; s.arbDue k = true ∧ ((∀ i, ¬wants i)))
    ∧ (∃ (s : State) (a : Accessor) (k : Fin 253) (v : Nat), s.writable a .arbFreeze k v ∧ v < 2 ^ arbN k)
    ∧ (∃ (s : State) (a : Accessor) (k : Fin 253) (i : Fin 32) (v : Nat), s.writable a .arbBase (32 * k + i) v ∧ i.val < arbN k)
    ∧ (∃ (s : State) (p : GalPacket), s.mayLeave p = true)
    ∧ (∃ (s : State) (n : Nat) (o : Nat) (c : Nat) (i : Nat) (k : Nat) (p : GalPacket) (rest : List GalPacket), slotClass (s.galLink n o) = some c ∧ ((s.galLink n o).moving.find? (fun q => decide (q.1 = c)) = some (c, i, k)) ∧ s.galBuf n i c = p :: rest)
    ∧ (∃ (s : State) (node : Nat) (j : Nat) (p : GalPacket), (s.galIngress node)[j]? = some p ∧ galFirst (s.galIngress node) j p = true ∧ s.ddrServes p = true)
    ∧ (∃ (s : State) (h : Fin 16) (x : HeldMsg), s.firstHeld (s.sch h).held [] = some x ∧ s.stairDone = []) := by
  refine ⟨?_, ?_, ?_, ?_, ?_, ?_, ?_, ?_⟩
  · let s : State := pick Wg.D.wits9 0
    let k : Fin 573 := 0
    let n := arbN k
    let req : Nat := 1
    let mid : Bool := false
    let asserted := roundMask s k req mid
    let wants (i : Nat) : Prop := i < n ∧ bitAt asserted i = true ∧ bitAt (s.arbFrozen k) i = false
    exact ⟨s, k, req, mid, by decide +kernel +zetaReduce⟩
  · let s : State := pick Wg.D.wits9 0
    let k : Fin 573 := 0
    let n := arbN k
    let req : Nat := 0
    let mid : Bool := false
    let asserted := roundMask s k req mid
    let wants (i : Nat) : Prop := i < n ∧ bitAt asserted i = true ∧ bitAt (s.arbFrozen k) i = false
    exact ⟨s, k, req, mid, by decide +kernel +zetaReduce, fun i hi => (by decide +kernel +zetaReduce : ∀ i, i < n → ¬(bitAt asserted i = true ∧ bitAt (s.arbFrozen k) i = false)) i hi.1 hi.2⟩
  · let s : State := pick Wg.D.wits9 0
    let a : Accessor := ⟨.h, 0⟩
    let k : Fin 253 := 0
    let v : Nat := 0
    exact ⟨s, a, k, v, by unfold State.writable; decide +kernel +zetaReduce⟩
  · let s : State := pick Wg.D.wits9 0
    let a : Accessor := ⟨.h, 0⟩
    let k : Fin 253 := 0
    let i : Fin 32 := 0
    let v : Nat := 0
    exact ⟨s, a, k, i, v, by unfold State.writable; decide +kernel +zetaReduce⟩
  · let s : State := pick Wg.D.wits9 0
    let p : GalPacket := pick Wg.D.wits6 0
    exact ⟨s, p, by decide +kernel +zetaReduce⟩
  · let s : State := pick Wg.D.wits9 8
    let n : Nat := 2
    let o : Nat := 0
    let c := (slotClass (s.galLink n o)).get (by decide +kernel +zetaReduce)
    let i : Nat := 0
    let k : Nat := 1
    let p := (s.galBuf n i c).head (by decide +kernel +zetaReduce)
    let rest := (s.galBuf n i c).tail
    exact ⟨s, n, o, c, i, k, p, rest, by decide +kernel +zetaReduce⟩
  · let s : State := pick Wg.D.wits9 11
    let node : Nat := 3
    let j : Nat := 0
    let p := ((s.galIngress node)[j]?).get (by decide +kernel +zetaReduce)
    exact ⟨s, node, j, p, by decide +kernel +zetaReduce⟩
  · let s : State := pick Wg.D.wits9 6
    let h : Fin 16 := 0
    let x := (s.firstHeld (s.sch h).held []).get (by decide +kernel +zetaReduce)
    exact ⟨s, h, x, by decide +kernel +zetaReduce⟩

/-- The hypotheses of `DemandReadsAndFills`, each clause's together, hold somewhere. -/
theorem test_hyp_DemandReadsAndFills :
    (∃ (s : State) (l : MemLoc), s.servesRead l = true ∧ s.unwrittenRead l = true)
    ∧ (∃ (s : State) (l : MemLoc) (up : Nat), let w := s.upset l ^^^ (up % 2 ^ 80); s.servesRead l = true ∧ s.unwrittenRead l = false ∧ w = 0)
    ∧ (∃ (s : State) (l : MemLoc) (up : Nat) (bs : _), let w := s.upset l ^^^ (up % 2 ^ 80); s.servesRead l = true ∧ s.unwrittenRead l = false ∧ eccDecode w = .corrected bs)
    ∧ (∃ (s : State) (l : MemLoc) (up : Nat), let w := s.upset l ^^^ (up % 2 ^ 80); s.servesRead l = true ∧ s.unwrittenRead l = false ∧ eccDecode w = .uncorrectable)
    ∧ (∃ (s : State) (a : Nat) (data : List Byte), s.inDdr a data.length = true ∧ data ≠ [] ∧ s.unfilled (ddrChannel a) (ddrLocal a) = true)
    ∧ (∃ (s : State) (c : Fin 8), let f := s.objN .ddrSweepFront c; s.obj .ddrState c = ddrReady ∧ s.objN .ddrSweepFront c < s.objN .ddrCapacity c * 1048576 ∧ (s.ddrCh c).filled.contains (f / 1048576) = true)
    ∧ (∃ (s : State) (c : Fin 8), let f := s.objN .ddrSweepFront c; s.obj .ddrState c = ddrReady ∧ s.objN .ddrSweepFront c < s.objN .ddrCapacity c * 1048576 ∧ (s.ddrCh c).filled.contains (f / 1048576) = false) := by
  refine ⟨?_, ?_, ?_, ?_, ?_, ?_, ?_⟩
  · let s : State := pick Wh.A.wits4 1
    let l : MemLoc := pick Wh.A.wits1 3
    exact ⟨s, l, by decide +kernel +zetaReduce⟩
  · let s : State := pick Wh.A.wits4 0
    let l : MemLoc := pick Wh.A.wits1 0
    let up : Nat := 0
    let w := s.upset l ^^^ (up % 2 ^ 80)
    exact ⟨s, l, up, by decide +kernel +zetaReduce⟩
  · let s : State := pick Wh.A.wits4 0
    let l : MemLoc := pick Wh.A.wits1 0
    let up : Nat := 1
    let w := s.upset l ^^^ (up % 2 ^ 80)
    let bs := [0]
    exact ⟨s, l, up, bs, by decide +kernel +zetaReduce⟩
  · let s : State := pick Wh.A.wits4 0
    let l : MemLoc := pick Wh.A.wits1 0
    let up : Nat := 7
    let w := s.upset l ^^^ (up % 2 ^ 80)
    exact ⟨s, l, up, by decide +kernel +zetaReduce⟩
  · let s : State := pick Wh.A.wits4 1
    let a : Nat := 17592211210304
    let data : List Byte := pick Wh.A.wits2 1
    exact ⟨s, a, data, by decide +kernel +zetaReduce⟩
  · let s : State := pick Wh.A.wits4 2
    let c : Fin 8 := 0
    let f := s.objN .ddrSweepFront c
    exact ⟨s, c, by decide +kernel +zetaReduce⟩
  · let s : State := pick Wh.A.wits4 1
    let c : Fin 8 := 0
    let f := s.objN .ddrSweepFront c
    exact ⟨s, c, by decide +kernel +zetaReduce⟩

/-- The hypotheses of `ScrubbingAndSweeps`, each clause's together, hold somewhere. -/
theorem test_hyp_ScrubbingAndSweeps :
    (∃ (s : State) (m : Fin 26), let pos := s.objN .scrubPos m; s.lapCounts m = true ∧ pos < s.scrubEnd m)
    ∧ (∃ (s : State) (m : Fin 26), let pos := s.objN .scrubPos m; s.lapCounts m = true ∧ s.scrubEnd m ≤ pos)
    ∧ (∃ (s : State) (m : Fin 26) (i : Nat), i < 64 ∧ (s.hotQueue.find? (fun k => decide (k / 64 = m.val)) = some (64 * m + i)))
    ∧ (∃ (s : State) (m : Fin 26), s.lapCounts m = true ∧ tabGet 0 s.scrubLated m ≠ 1 ∧ s.obj .scrubLapLimit m ≤ s.lapAge m)
    ∧ (∃ (m : Nat), (m < 16 ∨ m = 24 ∨ m = 25)) := by
  refine ⟨?_, ?_, ?_, ?_, ?_⟩
  · let s : State := pick Wh.B.wits8 0
    let m : Fin 26 := 0
    let pos := s.objN .scrubPos m
    exact ⟨s, m, by decide +kernel +zetaReduce⟩
  · let s : State := pick Wh.B.wits8 2
    let m : Fin 26 := 0
    let pos := s.objN .scrubPos m
    exact ⟨s, m, by decide +kernel +zetaReduce⟩
  · let i : Nat := 0
    let s : State := pick Wh.B.wits8 0
    let m : Fin 26 := 0
    exact ⟨s, m, i, by decide +kernel +zetaReduce⟩
  · let s : State := pick Wh.B.wits8 6
    let m : Fin 26 := 0
    exact ⟨s, m, by decide +kernel +zetaReduce⟩
  · let m : Nat := 0
    exact ⟨m, by decide +kernel +zetaReduce⟩

/-- The hypotheses of `TrainingAndRepair`, each clause's together, hold somewhere. -/
theorem test_hyp_TrainingAndRepair :
    (∃ (s : State) (t0 : DdrTrain) (rest : List DdrTrain), (s.obj .ddrState 0 = ddrOff ∨ s.obj .ddrState 0 = ddrTraining) ∧ rest.length = 7 ∧ firstDdrFail t0 0 (t0 :: rest) = none)
    ∧ (∃ (s : State) (t0 : DdrTrain) (rest : List DdrTrain) (c : Nat) (why : Nat), (s.obj .ddrState 0 = ddrOff ∨ s.obj .ddrState 0 = ddrTraining) ∧ rest.length = 7 ∧ firstDdrFail t0 0 (t0 :: rest) = some (c, why))
    ∧ (∃ (s : State) (m : Fin 26) (i : Fin 64), let e := s.logEntry m i; (m.val < 16 ∨ m.val = 24) ∧ e.st = 4 ∧ e.noRepair = false ∧ e.space = 0 ∧ s.repairs.length < 4096 ∧ tabGet 0 s.sparesUsed (subBankOf e.addr) < 2 ∧ s.bankDrained e.addr = true)
    ∧ (∃ (s : State) (m : Fin 26) (i : Fin 64), let e := s.logEntry m i; (m.val < 16 ∨ m.val = 24) ∧ e.st = 4 ∧ e.noRepair = false ∧ e.space = 0 ∧ s.repairs.length < 4096 ∧ tabGet 0 s.sparesUsed (subBankOf e.addr) < 2 ∧ s.bankDrained e.addr = false)
    ∧ (∃ (s : State) (m : Fin 26) (i : Fin 64), let e := s.logEntry m i; (m.val < 16 ∨ m.val = 24) ∧ e.st = 4 ∧ e.noRepair = false ∧ e.space = 0 ∧ (2 ≤ tabGet 0 s.sparesUsed (subBankOf e.addr) ∨ 4096 ≤ s.repairs.length))
    ∧ (∃ (s : State) (c : Fin 8) (i : Fin 64), let e := s.logEntry (16 + c.val) i; let d := s.ddrCh c; let devs := devicesOf (max 1 d.width) e; let free (x : Nat) := tabGet 0 s.sppr (spprKey c (spprDevice d (ddrLocal e.addr) x) (bankGroupOf d (ddrLocal e.addr / 128))); e.st = 4 ∧ e.noRepair = false ∧ (¬(s.obj .ddrPprMode c = 1 ∧ s.obj .ddrState c = ddrReady)) ∧ s.repairs.length < 4096 ∧ ((∀ x ∈ devs, free x ≠ 0)))
    ∧ (∃ (s : State) (c : Fin 8) (i : Fin 64), let e := s.logEntry (16 + c.val) i; let d := s.ddrCh c; let devs := devicesOf (max 1 d.width) e; let free (x : Nat) := tabGet 0 s.sppr (spprKey c (spprDevice d (ddrLocal e.addr) x) (bankGroupOf d (ddrLocal e.addr / 128))); e.st = 4 ∧ e.noRepair = false ∧ (¬(s.obj .ddrPprMode c = 1 ∧ s.obj .ddrState c = ddrReady)) ∧ ((4096 ≤ s.repairs.length ∨ ∃ x ∈ devs, free x = 0)))
    ∧ (∃ (s : State) (c : Fin 8) (i : Fin 64), let e := s.logEntry (16 + c.val) i; e.st = 4 ∧ e.noRepair = false ∧ s.obj .ddrPprMode c = 1 ∧ s.obj .ddrState c = ddrReady)
    ∧ (∃ (s : State) (a : Accessor) (m : Fin 26) (v : Nat), s.writable a .eccLogClear m v) := by
  refine ⟨?_, ?_, ?_, ?_, ?_, ?_, ?_, ?_, ?_⟩
  · let s : State := pick Wh.C.wits12 0
    let rest : List DdrTrain := pick Wh.C.wits10 0
    let t0 : DdrTrain := pick Wh.C.wits9 0
    exact ⟨s, t0, rest, by decide +kernel +zetaReduce⟩
  · let s : State := pick Wh.C.wits12 0
    let rest : List DdrTrain := pick Wh.C.wits10 0
    let t0 : DdrTrain := pick Wh.C.wits9 1
    let q1 := (firstDdrFail t0 0 (t0 :: rest)).get (by decide +kernel +zetaReduce)
    let c := q1.1
    let why := q1.2
    exact ⟨s, t0, rest, c, why, by decide +kernel +zetaReduce⟩
  · let s : State := pick Wh.C.wits12 0
    let m : Fin 26 := 0
    let i : Fin 64 := 0
    let e := s.logEntry m i
    exact ⟨s, m, i, by decide +kernel +zetaReduce⟩
  · let s : State := pick Wh.C.wits12 3
    let m : Fin 26 := 0
    let i : Fin 64 := 0
    let e := s.logEntry m i
    exact ⟨s, m, i, by decide +kernel +zetaReduce⟩
  · let s : State := pick Wh.C.wits12 2
    let m : Fin 26 := 0
    let i : Fin 64 := 0
    let e := s.logEntry m i
    exact ⟨s, m, i, by decide +kernel +zetaReduce⟩
  · let s : State := pick Wh.C.wits12 1
    let c : Fin 8 := 0
    let i : Fin 64 := 0
    let e := s.logEntry (16 + c.val) i
    let d := s.ddrCh c
    let devs := devicesOf (max 1 d.width) e
    let free (x : Nat) := tabGet 0 s.sppr (spprKey c (spprDevice d (ddrLocal e.addr) x) (bankGroupOf d (ddrLocal e.addr / 128)))
    exact ⟨s, c, i, by decide +kernel +zetaReduce⟩
  · let s : State := pick Wh.C.wits12 0
    let c : Fin 8 := 0
    let i : Fin 64 := 0
    let e := s.logEntry (16 + c.val) i
    let d := s.ddrCh c
    let devs := devicesOf (max 1 d.width) e
    let free (x : Nat) := tabGet 0 s.sppr (spprKey c (spprDevice d (ddrLocal e.addr) x) (bankGroupOf d (ddrLocal e.addr / 128)))
    exact ⟨s, c, i, by decide +kernel +zetaReduce⟩
  · let s : State := pick Wh.C.wits12 4
    let c : Fin 8 := 0
    let i : Fin 64 := 0
    let e := s.logEntry (16 + c.val) i
    exact ⟨s, c, i, by decide +kernel +zetaReduce⟩
  · let s : State := pick Wh.C.wits12 0
    let a : Accessor := ⟨.h, 0⟩
    let m : Fin 26 := 0
    let v : Nat := 0
    exact ⟨s, a, m, v, by unfold State.writable; decide +kernel +zetaReduce⟩

/-- The hypotheses of `LaneModesAndBringUp`, each clause's together, hold somewhere. -/
theorem test_hyp_LaneModesAndBringUp :
    (∃ (s : State) (a : Accessor) (q : Fin 14) (v : Nat), s.writable a .laneQuadMode q v ∧ ((q.val ≠ 0 ∨ s.obj .shWatchEn 0 = 0)) ∧ s.quadRefusal q v (s.objN .laneQuadFec q) = 0)
    ∧ (∃ (s : State) (a : Accessor) (q : Fin 14) (v : Nat) (why : Nat), s.writable a .laneQuadMode q v ∧ ((q.val ≠ 0 ∨ s.obj .shWatchEn 0 = 0)) ∧ why = s.quadRefusal q v (s.objN .laneQuadFec q) ∧ why ≠ 0)
    ∧ (∃ (s : State) (a : Accessor) (q : Fin 14) (v : Nat), s.writable a .laneQuadFec q v ∧ v ≠ 3 ∧ s.quadRefusal q (s.objN .laneQuadMode q) v = 0)
    ∧ (∃ (s : State) (l : Fin 56), s.obj .laneState l = laneOff ∧ s.laneMode l ≠ 0 ∧ (s.unit (unitLane l)).st = unitRunning)
    ∧ (∃ (s : State) (l : Fin 56), s.obj .laneState l ≠ laneOff)
    ∧ (∃ (s : State) (l : Fin 56), (s.lane l).blockLock = true)
    ∧ (∃ (s : State) (l : Fin 56), s.obj .laneState l = laneTraining)
    ∧ (∃ (s : State) (p : Fin 48), let ls := portLanes (s.portMode p) p; (portLanes (s.portMode p) p).length = 4 ∧ ((∀ l ∈ ls, s.laneCarries l = true ∧ (s.lane l).blockLock = true)))
    ∧ (∃ (s : State) (p : Fin 48), (portLanes (s.portMode p) p).length = 4 ∧ (s.port p).aligned = true)
    ∧ (∃ (s : State) (l : Fin 48) (modes : Nat), 1 ≤ s.laneMode l ∧ s.laneMode l ≤ 6 ∧ s.obj .laneQuadAnEn (l / 4) ≠ 0 ∧ s.obj .laneState l = laneAcquire ∧ bitAt modes (s.laneMode l).toNat = true) := by
  refine ⟨?_, ?_, ?_, ?_, ?_, ?_, ?_, ?_, ?_, ?_⟩
  · let s : State := pick Wi.A1.wits4 0
    let a : Accessor := ⟨.h, 0⟩
    let q : Fin 14 := 0
    let v : Nat := 0
    exact ⟨s, a, q, v, by unfold State.writable; decide +kernel +zetaReduce⟩
  · let s : State := pick Wi.A1.wits4 0
    let a : Accessor := ⟨.h, 0⟩
    let q : Fin 14 := 0
    let v : Nat := 5
    let why : Nat := s.quadRefusal q v (s.objN .laneQuadFec q)
    exact ⟨s, a, q, v, why, by unfold State.writable; decide +kernel +zetaReduce⟩
  · let s : State := pick Wi.A1.wits4 0
    let a : Accessor := ⟨.h, 0⟩
    let q : Fin 14 := 0
    let v : Nat := 0
    exact ⟨s, a, q, v, by unfold State.writable; decide +kernel +zetaReduce⟩
  · let s : State := pick Wi.A2.wits5 0
    let l : Fin 56 := 5
    exact ⟨s, l, by decide +kernel +zetaReduce⟩
  · let s : State := pick Wi.A2.wits5 7
    let l : Fin 56 := 5
    exact ⟨s, l, by decide +kernel +zetaReduce⟩
  · let s : State := pick Wi.A2.wits5 1
    let l : Fin 56 := 5
    exact ⟨s, l, by decide +kernel +zetaReduce⟩
  · let s : State := pick Wi.A2.wits5 14
    let l : Fin 56 := 5
    exact ⟨s, l, by decide +kernel +zetaReduce⟩
  · let s : State := pick Wi.A3.wits6 0
    let p : Fin 48 := 4
    let ls := portLanes (s.portMode p) p
    exact ⟨s, p, by decide +kernel +zetaReduce⟩
  · let s : State := pick Wi.A3.wits6 1
    let p : Fin 48 := 4
    exact ⟨s, p, by decide +kernel +zetaReduce⟩
  · let s : State := pick Wi.A2.wits5 7
    let l : Fin 48 := 5
    let modes : Nat := 2
    exact ⟨s, l, modes, by decide +kernel +zetaReduce⟩

/-- The hypotheses of `LaneTrainingAndAdaptation`, each clause's together, hold somewhere. -/
theorem test_hyp_LaneTrainingAndAdaptation :
    (∃ (s : State) (p : Fin 48), 1 ≤ s.portMode p ∧ s.portMode p ≤ 6 ∧ s.obj .ethEeeEn p ≠ 0)
    ∧ (∃ (s : State) (l : Fin 8) (w : BitVec 64), let n := 48 + l.val; 8 ≤ s.laneMode n ∧ s.obj .laneState n ≠ laneOff ∧ s.obj .laneState n ≠ laneTest ∧ markerOk w.toNat = false)
    ∧ (∃ (s : State) (l : Fin 8) (w : BitVec 64), let n := 48 + l.val; 8 ≤ s.laneMode n ∧ s.obj .laneState n ≠ laneOff ∧ s.obj .laneState n ≠ laneTest ∧ markerOk w.toNat = true)
    ∧ (∃ (s : State) (l : Fin 56) (h : Nat) (a : Nat) (ctle : Nat), let fom : Nat := if a = 0 then 0 else min 255 (255 * h / a); let code : Int := if s.obj .laneCtleFixed l ≤ 15 then s.obj .laneCtleFixed l else ((ctle % 16 : Nat) : Int); s.obj .laneState l ≠ laneOff)
    ∧ (∃ (s : State) (l : Fin 56), let x := s.lane l; s.obj .laneAdaptEn l ≠ 0 ∧ s.obj .laneState l = laneData ∧ x.skip = true)
    ∧ (∃ (s : State) (l : Fin 56), let x := s.lane l; let sure := s.obj .laneConfOk l ≠ 0 ∧ s.obj .laneTdensMin l ≤ s.obj .laneTdens l; s.obj .laneAdaptEn l ≠ 0 ∧ s.obj .laneState l = laneData ∧ x.skip = false ∧ ¬sure)
    ∧ (∃ (s : State) (l : Fin 56), let x := s.lane l; let sure := s.obj .laneConfOk l ≠ 0 ∧ s.obj .laneTdensMin l ≤ s.obj .laneTdens l; s.obj .laneAdaptEn l ≠ 0 ∧ s.obj .laneState l = laneData ∧ x.skip = false ∧ sure ∧ s.now < x.holdUntil)
    ∧ (∃ (s : State) (l : Fin 56), let x := s.lane l; let sure := s.obj .laneConfOk l ≠ 0 ∧ s.obj .laneTdensMin l ≤ s.obj .laneTdens l; s.obj .laneAdaptEn l ≠ 0 ∧ s.obj .laneState l = laneData ∧ x.skip = false ∧ sure ∧ x.holdUntil ≤ s.now ∧ x.reverted = true)
    ∧ (∃ (s : State) (l : Fin 56), let x := s.lane l; let f := s.obj .laneFom l; let sure := s.obj .laneConfOk l ≠ 0 ∧ s.obj .laneTdensMin l ≤ s.obj .laneTdens l; s.obj .laneAdaptEn l ≠ 0 ∧ s.obj .laneState l = laneData ∧ x.skip = false ∧ sure ∧ x.holdUntil ≤ s.now ∧ x.reverted = false ∧ f < s.obj .laneSnapFom l - s.obj .laneDriftLimit l)
    ∧ (∃ (s : State) (l : Fin 56), let x := s.lane l; let f := s.obj .laneFom l; let sure := s.obj .laneConfOk l ≠ 0 ∧ s.obj .laneTdensMin l ≤ s.obj .laneTdens l; s.obj .laneAdaptEn l ≠ 0 ∧ s.obj .laneState l = laneData ∧ x.skip = false ∧ sure ∧ x.holdUntil ≤ s.now ∧ x.reverted = false ∧ s.obj .laneSnapFom l - s.obj .laneDriftLimit l ≤ f ∧ x.pending = true)
    ∧ (∃ (s : State) (l : Fin 56), let x := s.lane l; let f := s.obj .laneFom l; let sure := s.obj .laneConfOk l ≠ 0 ∧ s.obj .laneTdensMin l ≤ s.obj .laneTdens l; s.obj .laneAdaptEn l ≠ 0 ∧ s.obj .laneState l = laneData ∧ x.skip = false ∧ sure ∧ x.holdUntil ≤ s.now ∧ x.reverted = false ∧ s.obj .laneSnapFom l - s.obj .laneDriftLimit l ≤ f ∧ x.pending = false) := by
  refine ⟨?_, ?_, ?_, ?_, ?_, ?_, ?_, ?_, ?_, ?_, ?_⟩
  · let s : State := pick Wi.B.B1.wits7 0
    let p : Fin 48 := 5
    exact ⟨s, p, by decide +kernel +zetaReduce⟩
  · let l : Fin 8 := 0
    let n := 48 + l.val
    let s : State := pick Wi.B.B3.wits8 7
    let w : BitVec 64 := (0x0000000000000000 : BitVec 64)
    exact ⟨s, l, w, by decide +kernel +zetaReduce⟩
  · let l : Fin 8 := 0
    let n := 48 + l.val
    let s : State := pick Wi.B.B3.wits8 7
    let w : BitVec 64 := (0xd500000803c800fe : BitVec 64)
    exact ⟨s, l, w, by decide +kernel +zetaReduce⟩
  · let h : Nat := 20
    let a : Nat := 20
    let fom : Nat := if a = 0 then 0 else min 255 (255 * h / a)
    let s : State := pick Wi.B.B4.wits9 7
    let l : Fin 56 := 5
    let ctle : Nat := 20
    let code : Int := if s.obj .laneCtleFixed l ≤ 15 then s.obj .laneCtleFixed l else ((ctle % 16 : Nat) : Int)
    exact ⟨s, l, h, a, ctle, by decide +kernel +zetaReduce⟩
  · let s : State := pick Wi.B.B4.wits9 24
    let l : Fin 56 := 5
    let x := s.lane l
    exact ⟨s, l, by decide +kernel +zetaReduce⟩
  · let s : State := pick Wi.B.B4.wits9 21
    let l : Fin 56 := 5
    let x := s.lane l
    let sure := s.obj .laneConfOk l ≠ 0 ∧ s.obj .laneTdensMin l ≤ s.obj .laneTdens l
    exact ⟨s, l, by decide +kernel +zetaReduce⟩
  · let s : State := pick Wi.B.B2.wits10 182
    let l : Fin 56 := 5
    let x := s.lane l
    let sure := s.obj .laneConfOk l ≠ 0 ∧ s.obj .laneTdensMin l ≤ s.obj .laneTdens l
    exact ⟨s, l, by decide +kernel +zetaReduce⟩
  · let s : State := pick Wi.B.B2.wits10 175
    let l : Fin 56 := 5
    let x := s.lane l
    let sure := s.obj .laneConfOk l ≠ 0 ∧ s.obj .laneTdensMin l ≤ s.obj .laneTdens l
    exact ⟨s, l, by decide +kernel +zetaReduce⟩
  · let s : State := pick Wi.B.B2.wits10 147
    let l : Fin 56 := 5
    let x := s.lane l
    let f := s.obj .laneFom l
    let sure := s.obj .laneConfOk l ≠ 0 ∧ s.obj .laneTdensMin l ≤ s.obj .laneTdens l
    exact ⟨s, l, by decide +kernel +zetaReduce⟩
  · let s : State := pick Wi.B.B2.wits10 162
    let l : Fin 56 := 5
    let x := s.lane l
    let f := s.obj .laneFom l
    let sure := s.obj .laneConfOk l ≠ 0 ∧ s.obj .laneTdensMin l ≤ s.obj .laneTdens l
    exact ⟨s, l, by decide +kernel +zetaReduce⟩
  · let s : State := pick Wi.B.B2.wits10 148
    let l : Fin 56 := 5
    let x := s.lane l
    let f := s.obj .laneFom l
    let sure := s.obj .laneConfOk l ≠ 0 ∧ s.obj .laneTdensMin l ≤ s.obj .laneTdens l
    exact ⟨s, l, by decide +kernel +zetaReduce⟩

/-- The hypotheses of `LaneTestObjects`, each clause's together, hold somewhere. -/
theorem test_hyp_LaneTestObjects :
    (∃ (s : State) (a : Accessor) (l : Fin 56) (v : Nat), s.writable a .laneTxFfe l v ∧ ffeOk v = true ∧ s.obj .laneState l ≠ laneTraining)
    ∧ (∃ (s : State) (a : Accessor) (l : Fin 56) (v : Nat), s.writable a .laneTxFfe l v ∧ (ffeOk v = false ∨ s.obj .laneState l = laneTraining))
    ∧ (∃ (s : State) (a : Accessor) (l : Fin 56) (v : Nat) (c : Instr), ((c = .laneLoopbackWrite a l v ∧ s.writable a .laneLoopback l v ∧ v ≤ 3) ∨ (c = .lanePrbsTxWrite a l v ∧ s.writable a .lanePrbsTx l v ∧ patternOk v = true) ∨ (c = .lanePrbsChkWrite a l v ∧ s.writable a .lanePrbsChk l v ∧ patternOk v = true)))
    ∧ (∃ (s : State) (a : Accessor) (l : Fin 56) (v : Nat), s.writable a .lanePrbsClear l v) := by
  refine ⟨?_, ?_, ?_, ?_⟩
  · let s : State := pick Wi.C.wits12 0
    let a : Accessor := ⟨.h, 0⟩
    let l : Fin 56 := 5
    let v : Nat := 1124868
    exact ⟨s, a, l, v, by unfold State.writable; decide +kernel +zetaReduce⟩
  · let s : State := pick Wi.C.wits12 0
    let a : Accessor := ⟨.h, 0⟩
    let l : Fin 56 := 5
    let v : Nat := 0
    exact ⟨s, a, l, v, by unfold State.writable; decide +kernel +zetaReduce⟩
  · let s : State := pick Wi.C.wits12 0
    let a : Accessor := ⟨.h, 0⟩
    let l : Fin 56 := 5
    let v : Nat := 0
    let c : Instr := pick Wi.C.wits11 0
    exact ⟨s, a, l, v, c, by unfold State.writable; decide +kernel +zetaReduce⟩
  · let s : State := pick Wi.C.wits12 0
    let a : Accessor := ⟨.h, 0⟩
    let l : Fin 56 := 5
    let v : Nat := 0
    exact ⟨s, a, l, v, by unfold State.writable; decide +kernel +zetaReduce⟩

/-- The hypotheses of `EthernetReception`, each clause's together, hold somewhere. -/
theorem test_hyp_EthernetReception :
    (∃ (s : State) (p : Fin 48) (f : RxFrame) (occ : List Nat), let len := frameLen f.body; s.obj .ethPortState p = portUp ∧ (s.unit unitEth).st = unitRunning ∧ s.obj .ethRxAlloc p < ((occ.sum + len : Nat) : Int))
    ∧ (∃ (s : State) (p : Fin 48) (f : RxFrame) (occ : List Nat), let len := frameLen f.body; s.obj .ethPortState p = portUp ∧ (s.unit unitEth).st = unitRunning ∧ ((occ.sum + len : Nat) : Int) ≤ s.obj .ethRxAlloc p)
    ∧ (∃ (s : State) (p : Fin 48) (f : RxFrame) (occ : List Nat), let o := payloadAt f.body; goodFrame s p f occ ∧ etherType f.body = 0x8808 ∧ ((be16At o f.body = 1 ∧ s.obj .ethFcMode p = 1 ∨ be16At o f.body = 0x0101 ∧ s.obj .ethFcMode p = 2)))
    ∧ (∃ (s : State) (p : Fin 48) (f : RxFrame) (occ : List Nat), goodFrame s p f occ ∧ etherType f.body ≠ 0x8808 ∧ isGroup f.body = false ∧ frameDst f.body ≠ s.objN .ethMacAddr p ∧ s.fwdPorts p f.body false = [])
    ∧ (∃ (s : State) (p : Fin 48) (f : RxFrame) (occ : List Nat), goodFrame s p f occ ∧ isGroup f.body = false ∧ frameDst f.body = s.objN .ethMacAddr p ∧ etherType f.body = 0x88F7)
    ∧ (∃ (s : State) (p : Fin 48) (f : RxFrame) (occ : List Nat), goodFrame s p f occ ∧ isGroup f.body = false ∧ frameDst f.body = s.objN .ethMacAddr p ∧ etherType f.body = 0xAEFE ∧ isUplink f.body = true ∧ s.endpointOf p f.body = none)
    ∧ (∃ (s : State) (p : Fin 48) (f : RxFrame) (occ : List Nat) (ep : Nat), goodFrame s p f occ ∧ isGroup f.body = false ∧ frameDst f.body = s.objN .ethMacAddr p ∧ etherType f.body = 0xAEFE ∧ isUplink f.body = true ∧ s.endpointOf p f.body = some ep)
    ∧ (∃ (s : State) (p : Fin 48) (f : RxFrame) (occ : List Nat) (r : Nat), let n := ceilDiv (frameLen f.body) (s.objN .erxBufSize r); goodFrame s p f occ ∧ toDefault s p f r ∧ (s.erxRing r).addrs.length < n)
    ∧ (∃ (s : State) (p : Fin 48) (f : RxFrame) (occ : List Nat) (r : Nat), let n := ceilDiv (frameLen f.body) (s.objN .erxBufSize r); goodFrame s p f occ ∧ toDefault s p f r ∧ n ≤ (s.erxRing r).addrs.length)
    ∧ (∃ (s : State) (p : Fin 48), 0 ≤ s.obj .ethXoffState p)
    ∧ (∃ (s : State) (p : Fin 48) (q : Fin 8), tabGet 0 (s.port p).stopped q ≤ s.now)
    ∧ (∃ (s : State) (fn : Fin 64) (r : Fin 64), (s.unit unitPcie).st = unitRunning ∧ s.obj .erxOwner r = fn.val ∧ s.obj .erxEnable r ≠ 0)
    ∧ (∃ (s : State) (fn : Fin 64) (r : Fin 64), (s.unit unitPcie).st = unitRunning ∧ ((0 ≤ s.obj .erxOwner r ∧ s.obj .erxOwner r ≠ fn.val) ∨ s.obj .erxEnable r = 0)) := by
  refine ⟨?_, ?_, ?_, ?_, ?_, ?_, ?_, ?_, ?_, ?_, ?_, ?_, ?_⟩
  · let s : State := pick Wj.A.wits3 1
    let p : Fin 48 := 4
    let f : RxFrame := pick Wj.wits2 0
    let len := frameLen f.body
    let occ : List Nat := pick Wj.wits1 2
    exact ⟨s, p, f, occ, by decide +kernel +zetaReduce⟩
  · let s : State := pick Wj.A.wits3 1
    let p : Fin 48 := 4
    let f : RxFrame := pick Wj.wits2 0
    let len := frameLen f.body
    let occ : List Nat := pick Wj.wits1 0
    exact ⟨s, p, f, occ, by decide +kernel +zetaReduce⟩
  · let s : State := pick Wj.A.wits3 3
    let p : Fin 48 := 4
    let f : RxFrame := pick Wj.wits2 6
    let occ : List Nat := pick Wj.wits1 0
    let o := payloadAt f.body
    exact ⟨s, p, f, occ, by unfold goodFrame; decide +kernel +zetaReduce⟩
  · let s : State := pick Wj.A.wits3 1
    let p : Fin 48 := 4
    let f : RxFrame := pick Wj.wits2 1
    let occ : List Nat := pick Wj.wits1 0
    exact ⟨s, p, f, occ, by unfold goodFrame; decide +kernel +zetaReduce⟩
  · let s : State := pick Wj.A.wits3 1
    let p : Fin 48 := 4
    let f : RxFrame := pick Wj.wits2 2
    let occ : List Nat := pick Wj.wits1 0
    exact ⟨s, p, f, occ, by unfold goodFrame; decide +kernel +zetaReduce⟩
  · let s : State := pick Wj.A.wits3 1
    let p : Fin 48 := 4
    let f : RxFrame := pick Wj.wits2 3
    let occ : List Nat := pick Wj.wits1 0
    exact ⟨s, p, f, occ, by unfold goodFrame; decide +kernel +zetaReduce⟩
  · let s : State := pick Wj.A.wits3 10
    let p : Fin 48 := 4
    let f : RxFrame := pick Wj.wits2 3
    let occ : List Nat := pick Wj.wits1 0
    let ep := (s.endpointOf p f.body).get (by decide +kernel +zetaReduce)
    exact ⟨s, p, f, occ, ep, by unfold goodFrame; decide +kernel +zetaReduce⟩
  · let s : State := pick Wj.A.wits3 11
    let p : Fin 48 := 4
    let f : RxFrame := pick Wj.wits2 12
    let occ : List Nat := pick Wj.wits1 0
    let r : Nat := 2
    let n := ceilDiv (frameLen f.body) (s.objN .erxBufSize r)
    exact ⟨s, p, f, occ, r, by unfold goodFrame toDefault; decide +kernel +zetaReduce⟩
  · let s : State := pick Wj.A.wits3 6
    let p : Fin 48 := 4
    let f : RxFrame := pick Wj.wits2 4
    let occ : List Nat := pick Wj.wits1 0
    let r : Nat := 2
    let n := ceilDiv (frameLen f.body) (s.objN .erxBufSize r)
    exact ⟨s, p, f, occ, r, by unfold goodFrame toDefault; decide +kernel +zetaReduce⟩
  · let s : State := pick Wj.A.wits3 0
    let p : Fin 48 := 4
    exact ⟨s, p, by decide +kernel +zetaReduce⟩
  · let s : State := pick Wj.A.wits3 0
    let p : Fin 48 := 4
    let q : Fin 8 := 0
    exact ⟨s, p, q, by decide +kernel +zetaReduce⟩
  · let s : State := pick Wj.A.wits3 6
    let fn : Fin 64 := 2
    let r : Fin 64 := 2
    exact ⟨s, fn, r, by decide +kernel +zetaReduce⟩
  · let s : State := pick Wj.A.wits3 0
    let fn : Fin 64 := 0
    let r : Fin 64 := 0
    exact ⟨s, fn, r, by decide +kernel +zetaReduce⟩

/-- The hypotheses of `EthernetTransmission`, each clause's together, hold somewhere. -/
theorem test_hyp_EthernetTransmission :
    (∃ (s : State) (h : Fin 16) (r : EngRun), engTakes s h 12 r ∧ dOp r.desc = 0 ∧ s.sendOk h r.desc = true)
    ∧ (∃ (s : State) (h : Fin 16) (r : EngRun), engTakes s h 12 r ∧ dOp r.desc = 0 ∧ s.sendOk h r.desc = false ∧ replyRoom s h r.desc)
    ∧ (∃ (s : State) (fn : Fin 64) (r : Fin 64), (s.unit unitPcie).st = unitRunning ∧ s.obj .etxOwner r = fn.val ∧ s.obj .etxEnable r ≠ 0)
    ∧ (∃ (s : State) (fn : Fin 64) (r : Fin 64), (s.unit unitPcie).st = unitRunning ∧ ((0 ≤ s.obj .etxOwner r ∧ s.obj .etxOwner r ≠ fn.val) ∨ s.obj .etxEnable r = 0))
    ∧ (∃ (s : State) (p : Fin 48) (i : Fin 20) (e : TxEntry), s.macRuns p = true ∧ s.arbHold (205 + p) = i ∧ (s.txOffers.find? (fun e => decide (e.port = p.val) && decide (e.input = i.val)) = some e) ∧ missedWaiting s.now e = none ∧ (s.portEntries p).length < 4096)
    ∧ (∃ (s : State) (p : Fin 48) (i : Fin 20) (e : TxEntry) (h : Nat) (c : Nat) (S : Int), s.macRuns p = true ∧ s.arbHold (205 + p) = i ∧ (s.txOffers.find? (fun e => decide (e.port = p.val) && decide (e.input = i.val)) = some e) ∧ missedWaiting s.now e = some (h, c, S))
    ∧ (∃ (s : State) (p : Fin 48) (q : Fin 8) (i : Nat) (e : TxEntry), ((s.txQueue.filter (fun e => decide (e.port = p.val) && decide (e.queue = q.val)))[i]? = some e) ∧ e.staged = false ∧ e.launch - s.obj .ethTxFetchLead 0 ≤ s.now ∧ s.stagedBytes + e.body.length ≤ 2097152)
    ∧ (∃ (s : State) (p : Fin 48), s.obj .ethPortState p = portUp ∧ s.macRuns p = true ∧ s.txSilent = false ∧ (s.port p).sending = none)
    ∧ (∃ (s : State) (p : Fin 48) (q : Fin 8) (e : TxEntry), s.obj .ethPortState p = portUp ∧ s.macRuns p = true ∧ s.txSilent = false ∧ (s.port p).sending = none ∧ s.queueHead p q = some e ∧ ((∀ k, k < 8 → q.val < k → headWaits s p k)) ∧ ((e.close = 0 ∨ s.now < e.close)) ∧ s.queueStopped p q = false ∧ e.launch ≤ s.now ∧ e.staged = true ∧ s.guarded p q e = false)
    ∧ (∃ (s : State) (p : Fin 48) (q : Fin 8) (e : TxEntry), s.obj .ethPortState p = portUp ∧ s.macRuns p = true ∧ s.txSilent = false ∧ (s.port p).sending = none ∧ s.queueHead p q = some e ∧ ((∀ k, k < 8 → q.val < k → headWaits s p k)) ∧ ((e.close = 0 ∨ s.now < e.close)) ∧ s.queueStopped p q = false ∧ e.launch ≤ s.now ∧ e.staged = true ∧ s.guarded p q e = true ∧ e.held = false ∧ ((∀ k, k < q.val → s.queueHead p k = none)))
    ∧ (∃ (s : State) (p : Fin 48) (q : Fin 8) (e : TxEntry), s.obj .ethPortState p = portUp ∧ s.macRuns p = true ∧ s.txSilent = false ∧ (s.port p).sending = none ∧ s.queueHead p q = some e ∧ s.portEntries p = [e] ∧ e.close ≠ 0 ∧ e.close ≤ s.now) := by
  refine ⟨?_, ?_, ?_, ?_, ?_, ?_, ?_, ?_, ?_, ?_, ?_⟩
  · let s : State := pick Wj.B.wits6 0
    let h : Fin 16 := 0
    let r : EngRun := pick Wj.B.wits7 0
    exact ⟨s, h, r, engTakes_of s h 12 r (by decide +kernel +zetaReduce) (by decide +kernel +zetaReduce), by decide +kernel +zetaReduce, by decide +kernel +zetaReduce⟩
  · let s : State := pick Wj.B.wits6 1
    let h : Fin 16 := 0
    let r : EngRun := pick Wj.B.wits7 0
    exact ⟨s, h, r, engTakes_of s h 12 r (by decide +kernel +zetaReduce) (by decide +kernel +zetaReduce), by decide +kernel +zetaReduce, by decide +kernel +zetaReduce, by unfold replyRoom queueRoom; decide +kernel +zetaReduce⟩
  · let s : State := pick Wj.B.wits6 2
    let fn : Fin 64 := 2
    let r : Fin 64 := 2
    exact ⟨s, fn, r, by decide +kernel +zetaReduce⟩
  · let s : State := pick Wj.B.wits6 0
    let fn : Fin 64 := 0
    let r : Fin 64 := 0
    exact ⟨s, fn, r, by decide +kernel +zetaReduce⟩
  · let s : State := pick Wj.B.wits6 5
    let p : Fin 48 := 4
    let i : Fin 20 := Fin.ofNat _ (s.arbHold (205 + p))
    let e : TxEntry := pick Wj.B.wits8 0
    exact ⟨s, p, i, e, by decide +kernel +zetaReduce⟩
  · let s : State := pick Wj.B.wits6 9
    let p : Fin 48 := 4
    let i : Fin 20 := Fin.ofNat _ (s.arbHold (205 + p))
    let e : TxEntry := pick Wj.B.wits8 4
    let q2 := (missedWaiting s.now e).get (by decide +kernel +zetaReduce)
    let h := q2.1
    let c := q2.2.1
    let S := q2.2.2
    exact ⟨s, p, i, e, h, c, S, by decide +kernel +zetaReduce⟩
  · let s : State := pick Wj.B.wits6 26
    let p : Fin 48 := 4
    let q : Fin 8 := 5
    let i : Nat := 0
    let e : TxEntry := pick Wj.B.wits8 6
    exact ⟨s, p, q, i, e, by decide +kernel +zetaReduce⟩
  · let s : State := pick Wj.B.wits6 0
    let p : Fin 48 := 4
    exact ⟨s, p, by decide +kernel +zetaReduce⟩
  · let s : State := pick Wj.B.wits6 20
    let p : Fin 48 := 4
    let q : Fin 8 := 5
    let e := (s.queueHead p q).get (by decide +kernel +zetaReduce)
    exact ⟨s, p, q, e, by unfold headWaits; decide +kernel +zetaReduce⟩
  · let s : State := pick Wj.B.wits6 28
    let p : Fin 48 := 4
    let q : Fin 8 := 5
    let e := (s.queueHead p q).get (by decide +kernel +zetaReduce)
    exact ⟨s, p, q, e, by unfold headWaits; decide +kernel +zetaReduce⟩
  · let s : State := pick Wj.B.wits6 22
    let p : Fin 48 := 4
    let q : Fin 8 := 5
    let e := (s.queueHead p q).get (by decide +kernel +zetaReduce)
    exact ⟨s, p, q, e, by decide +kernel +zetaReduce⟩

/-- The hypotheses of `DictionaryAccess`, each clause's together, hold somewhere. -/
theorem test_hyp_DictionaryAccess :
    (∃ (s : State) (a : Accessor) (addr : BitVec 24) (off : Nat) (wid : Nat) (v : BitVec 64) (row : _) (n : _) (x : _), (¬(inWindow addr.toNat = true ∧ (a.cls = .h ∨ a.cls = .v))) ∧ plainWrite s a addr.toNat row n x ∧ slotFits row.ty off wid = true ∧ slotValue row.ty wid v.toNat = some x ∧ row.acc ≠ .rws)
    ∧ (∃ (s : State) (a : Accessor) (addr : BitVec 24) (off : Nat) (wid : Nat) (v : BitVec 64) (row : _) (n : _) (x : _), (¬(inWindow addr.toNat = true ∧ (a.cls = .h ∨ a.cls = .v))) ∧ plainWrite s a addr.toNat row n x ∧ slotFits row.ty off wid = true ∧ slotValue row.ty wid v.toNat = some x ∧ row.acc = .rws ∧ s.stageArmed (stageCtxOf a) = false ∧ (s.stageCtx (stageCtxOf a)).vals.length < 4096)
    ∧ (∃ (s : State) (a : Accessor) (addr : BitVec 24) (tie : Bool), (¬(inWindow addr.toNat = true ∧ (a.cls = .h ∨ a.cls = .v))) ∧ rowFor a addr.toNat = none ∧ s.reach a (addr.toNat / 256) = some .ok ∧ tie = false)
    ∧ (∃ (s : State) (u : Unacked) (rest : List Unacked), s.unacked = u :: rest ∧ ((∀ x ∈ u :: rest, x.sent = false)) ∧ s.journal.length < 1048576 ∧ u.dom.length ≤ 48 ∧ s.obj .relJournalBase 0 ≠ 0 ∧ (¬(s.mirroring = true ∧ s.obj .pairMirror 0 ≠ 0)))
    ∧ (∃ (s : State) (fn : Fin 64), let a := fnAccessor fn; ((∃ u ∈ s.unacked, u.who = a)))
    ∧ (∃ (s : State) (fn : Fin 64) (addr : BitVec 24) (off : Nat) (wid : Nat) (slots : Nat) (row : _) (n : _), let a := fnAccessor fn; ((∀ u ∈ s.unacked, u.who ≠ a)) ∧ s.reach a (addr.toNat / 256) = some .ok ∧ inWindow addr.toNat = false ∧ slots ≤ 1 ∧ (wid = 1 ∨ wid = 2 ∨ wid = 4 ∨ wid = 8) ∧ off % wid = 0 ∧ off + wid ≤ 8 ∧ rowFor a addr.toNat = some (row, n) ∧ row.ty.bytes = 0 ∧ s.readStatus a row.obj n = .ok)
    ∧ (∃ (s : State) (fn : Fin 64) (addr : BitVec 24) (off : Nat) (wid : Nat) (slots : Nat) (row : _) (n : _), let a := fnAccessor fn; ((∀ u ∈ s.unacked, u.who ≠ a)) ∧ s.reach a (addr.toNat / 256) = some .ok ∧ inWindow addr.toNat = false ∧ slots ≤ 1 ∧ (wid = 1 ∨ wid = 2 ∨ wid = 4 ∨ wid = 8) ∧ off % wid = 0 ∧ off + wid ≤ 8 ∧ rowFor a addr.toNat = some (row, n) ∧ row.ty.bytes = 0 ∧ s.readStatus a row.obj n ≠ .ok)
    ∧ (∃ (s : State) (fn : Fin 64) (row : ObjRow) (n : Nat), let a := fnAccessor fn; let c := s.countAccess a; rowFor a (s.winTarget a) = some (row, n) ∧ s.readStatus a row.obj n = .ok ∧ s.obj .memDdrSize 0 ≠ 0 ∧ s.writable a .dictWinGo (accessorNo a) 1 ∧ (c.objBytes row n).length ≤ 0x40000)
    ∧ (∃ (s : State) (fn : Fin 64) (row : ObjRow) (n : Nat) (x : Int), let a := fnAccessor fn; rowFor a (s.winTarget a) = some (row, n) ∧ s.readStatus a row.obj n = .ok ∧ s.obj .memDdrSize 0 ≠ 0 ∧ s.writable a .dictWinGo (accessorNo a) 4 ∧ row.ty.bytes = 0 ∧ tabFind (s.stageCtx (stageCtxOf a)).doms (objKey row.obj n) = none ∧ tabFind (s.stageCtx (stageCtxOf a)).vals (objKey row.obj n) = some x)
    ∧ (∃ (s : State) (fn : Fin 64) (row : ObjRow) (n : Nat) (w : Nat), let a := fnAccessor fn; s.obj .memDdrSize 0 ≠ 0 ∧ s.writable a .dictWinGo (accessorNo a) 3 ∧ 0 < w ∧ groupWords (slice 0 256 (s.window fn)) = [w] ∧ rowFor a (w / 256) = some (row, n) ∧ s.reach a (w / 256 / 256) = some .ok ∧ s.readStatus a row.obj n = .ok ∧ row.ty.bytes = 0)
    ∧ (∃ (s : State) (fn : Fin 64) (row : ObjRow) (n : Nat) (b : Nat), let a := fnAccessor fn; s.obj .memDdrSize 0 ≠ 0 ∧ s.writable a .dictWinGo (accessorNo a) 2 ∧ row.ty = .unsigned b ∧ row.acc ≠ .rws ∧ plainWrite s a (s.winTarget a) row n (leNat (slice 0 b (s.window fn)))) := by
  refine ⟨?_, ?_, ?_, ?_, ?_, ?_, ?_, ?_, ?_, ?_, ?_⟩
  · let a : Accessor := ⟨.h, 0⟩
    let addr : BitVec 24 := (0x440006 : BitVec 24)
    let s : State := pick Wk.A.A1.wits5 0
    let row : ObjRow := { obj := Sys2Proof.Machine.Obj.ctxIdleExpire,   fam := 17408,   sub := 6,   subs := 1,   ty := Sys2Proof.Machine.ObjType.unsigned 4,   acc := Sys2Proof.Machine.AccClass.rw,   rmask := 63,   wmask := 29,   lo := 0,   hi := 4294967295 }
    let n := 0
    let x := 5
    let off : Nat := 0
    let wid : Nat := 4
    let v : BitVec 64 := (0x0000000000000005 : BitVec 64)
    exact ⟨s, a, addr, off, wid, v, row, n, x, by unfold plainWrite State.writable; decide +kernel +zetaReduce⟩
  · let a : Accessor := ⟨.h, 0⟩
    let addr : BitVec 24 := (0x2c0503 : BitVec 24)
    let s : State := pick Wk.A.A1.wits5 0
    let row : ObjRow := { obj := Sys2Proof.Machine.Obj.carrierBuildQueue,   fam := 11264,   sub := 3,   subs := 1,   ty := Sys2Proof.Machine.ObjType.unsigned 1,   acc := Sys2Proof.Machine.AccClass.rws,   rmask := 63,   wmask := 31,   lo := 0,   hi := 255 }
    let n := 5
    let x := 5
    let off : Nat := 0
    let wid : Nat := 4
    let v : BitVec 64 := (0x0000000000000005 : BitVec 64)
    exact ⟨s, a, addr, off, wid, v, row, n, x, by unfold plainWrite State.writable; decide +kernel +zetaReduce⟩
  · let a : Accessor := ⟨.h, 0⟩
    let addr : BitVec 24 := (0x123456 : BitVec 24)
    let s : State := pick Wk.A.A1.wits5 0
    let tie : Bool := false
    exact ⟨s, a, addr, tie, by decide +kernel +zetaReduce⟩
  · let s : State := pick Wk.A.A1.wits5 1
    let u := (s.unacked).head (by decide +kernel +zetaReduce)
    let rest := (s.unacked).tail
    exact ⟨s, u, rest, by decide +kernel +zetaReduce⟩
  · let fn : Fin 64 := 3
    let a := fnAccessor fn
    let s : State := pick Wk.A.A1.wits5 1
    exact ⟨s, fn, by decide +kernel +zetaReduce⟩
  · let fn : Fin 64 := 0
    let a := fnAccessor fn
    let s : State := pick Wk.A.A1.wits5 0
    let addr : BitVec 24 := (0x440006 : BitVec 24)
    let slots : Nat := 0
    let wid : Nat := 1
    let off : Nat := 0
    let q1 := (rowFor a addr.toNat).get (by decide +kernel +zetaReduce)
    let row := q1.1
    let n := q1.2
    exact ⟨s, fn, addr, off, wid, slots, row, n, by decide +kernel +zetaReduce⟩
  · let fn : Fin 64 := 3
    let a := fnAccessor fn
    let s : State := pick Wk.A.A1.wits5 0
    let addr : BitVec 24 := (0x2c0503 : BitVec 24)
    let slots : Nat := 0
    let wid : Nat := 1
    let off : Nat := 0
    let q1 := (rowFor a addr.toNat).get (by decide +kernel +zetaReduce)
    let row := q1.1
    let n := q1.2
    exact ⟨s, fn, addr, off, wid, slots, row, n, by decide +kernel +zetaReduce⟩
  · let fn : Fin 64 := 0
    let a := fnAccessor fn
    let s : State := pick Wk.A.A1.wits5 2
    let c := s.countAccess a
    let q1 := (rowFor a (s.winTarget a)).get (by decide +kernel +zetaReduce)
    let row := q1.1
    let n := q1.2
    exact ⟨s, fn, row, n, by unfold State.writable; decide +kernel +zetaReduce⟩
  · let fn : Fin 64 := 0
    let a := fnAccessor fn
    let s : State := pick Wk.A.A1.wits5 3
    let q1 := (rowFor a (s.winTarget a)).get (by decide +kernel +zetaReduce)
    let row := q1.1
    let n := q1.2
    let x := (tabFind (s.stageCtx (stageCtxOf a)).vals (objKey row.obj n)).get (by decide +kernel +zetaReduce)
    exact ⟨s, fn, row, n, x, by unfold State.writable; decide +kernel +zetaReduce⟩
  · let fn : Fin 64 := 0
    let a := fnAccessor fn
    let s : State := pick Wk.A.A1.wits5 4
    let w : Nat := 1140852224
    let q1 := (rowFor a (w / 256)).get (by decide +kernel +zetaReduce)
    let row := q1.1
    let n := q1.2
    exact ⟨s, fn, row, n, w, by unfold State.writable; decide +kernel +zetaReduce⟩
  · let fn : Fin 64 := 0
    let a := fnAccessor fn
    let s : State := pick Wk.A.A1.wits5 2
    let row : ObjRow := pick Wk.A.A1.wits6 0
    let b : Nat := 4
    let n : Nat := 0
    exact ⟨s, fn, row, n, b, by unfold plainWrite State.writable; decide +kernel +zetaReduce⟩

/-- The hypotheses of `StagedConfiguration`, each clause's together, hold somewhere. -/
theorem test_hyp_StagedConfiguration :
    (∃ (s : State) (a : Accessor) (k : Fin 64) (v : BitVec 64) (place : List (Nat × Nat)) (T : Int), let c := s.countAccess a; s.writable a .stageCommit k v.toNat ∧ stageGate a k = .ok ∧ s.stageArmed k = false ∧ c.commitInstant k v.toNat = some T ∧ s.now + s.obj .stageLead 0 * 1000 ≤ T ∧ ((∃ h, c.armSim k T place = .ok h)))
    ∧ (∃ (s : State) (a : Accessor) (k : Fin 64) (v : BitVec 64) (T : Int), let c := s.countAccess a; s.writable a .stageCommit k v.toNat ∧ stageGate a k = .ok ∧ s.stageArmed k = false ∧ c.commitInstant k v.toNat = some T ∧ T < s.now + s.obj .stageLead 0 * 1000)
    ∧ (∃ (s : State) (a : Accessor) (k : Fin 64) (v : Nat), s.writable a .stageCancel k v ∧ stageGate a k = .ok)
    ∧ (∃ (s : State) (tc : Int) (k : Nat) (o : Obj) (n : Nat) (x : Int), s.armOrder = [(tc, k)] ∧ tc ≤ s.now ∧ (s.stageCtx k).vals = [(objKey o n, x)] ∧ (s.stageCtx k).doms = [] ∧ (s.stageCtx k).cfgs = [] ∧ (s.stageCtx k).removed = [] ∧ (objRow o).acc = .rws ∧ objOfNo (objKey o n) = o ∧ objKey o n / 1024 = n ∧ ((∀ e, e < 8 → s.watchState e < 2))) := by
  refine ⟨?_, ?_, ?_, ?_⟩
  · let s : State := pick Wk.B.wits7 0
    let a : Accessor := ⟨.h, 0⟩
    let c := s.countAccess a
    let k : Fin 64 := 0
    let v : BitVec 64 := (0x000003ff15080000 : BitVec 64)
    let T := (c.commitInstant k v.toNat).get (by decide +kernel +zetaReduce)
    let place : List (Nat × Nat) := pick Wk.wits2 0
    exact ⟨s, a, k, v, place, T, by unfold State.writable; decide +kernel +zetaReduce, by decide +kernel +zetaReduce, by decide +kernel +zetaReduce, by decide +kernel +zetaReduce, by decide +kernel +zetaReduce, existsOk _ (by decide +kernel +zetaReduce)⟩
  · let s : State := pick Wk.B.wits7 0
    let a : Accessor := ⟨.h, 0⟩
    let c := s.countAccess a
    let k : Fin 64 := 0
    let v : BitVec 64 := (0x000003ff12c01800 : BitVec 64)
    let T := (c.commitInstant k v.toNat).get (by decide +kernel +zetaReduce)
    exact ⟨s, a, k, v, T, by unfold State.writable; decide +kernel +zetaReduce⟩
  · let s : State := pick Wk.B.wits7 0
    let a : Accessor := ⟨.h, 0⟩
    let k : Fin 64 := 0
    let v : Nat := 0
    exact ⟨s, a, k, v, by unfold State.writable; decide +kernel +zetaReduce⟩
  · let s : State := pick Wk.B.wits7 3
    let tc : Int := 0
    let k : Nat := 0
    let o : Obj := Sys2Proof.Machine.Obj.carrierBuildQueue
    let n : Nat := 5
    let x : Int := 77
    exact ⟨s, tc, k, o, n, x, by decide +kernel +zetaReduce⟩

/-- The hypotheses of `NapAndManagement`, each clause's together, hold somewhere. -/
theorem test_hyp_NapAndManagement :
    (∃ (s : State) (a : Accessor) (addr : BitVec 24) (row : _) (n : _), readable s a addr.toNat row n)
    ∧ (∃ (s : State) (a : Accessor) (addr : BitVec 24) (row : _) (n : _) (x : _) (v : BitVec 64), plainWrite s a addr.toNat row n x ∧ row.ty.bytes = 0 ∧ slotValue row.ty 8 v.toNat = some x ∧ row.acc ≠ .rws ∧ objAddr row.obj n < 2 ^ 24)
    ∧ (∃ (s : State) (a : Accessor) (addr : BitVec 24) (row : _) (i : _) (off : Nat) (n : Nat), rowFor a addr.toNat = some (row, i) ∧ s.reach a (addr.toNat / 256) = some .ok ∧ s.readStatus a row.obj i = .ok ∧ row.ty.bytes ≠ 0 ∧ n ≤ 1024 ∧ off + n ≤ row.ty.bytes ∧ off = 0)
    ∧ (∃ (s : State) (a : Accessor) (addr : BitVec 24) (row : _) (i : _) (off : Nat) (n : Nat), let x := s.nap (napRecord a); rowFor a addr.toNat = some (row, i) ∧ s.reach a (addr.toNat / 256) = some .ok ∧ s.readStatus a row.obj i = .ok ∧ row.ty.bytes ≠ 0 ∧ n ≤ 1024 ∧ off + n ≤ row.ty.bytes ∧ off ≠ 0 ∧ x.snapObj = addr.toNat)
    ∧ (∃ (s : State) (a : Accessor) (addr : BitVec 24) (row : _) (i : _) (off : Nat) (data : List Byte), rowFor a addr.toNat = some (row, i) ∧ row = objRow row.obj ∧ s.reach a (addr.toNat / 256) = some .ok ∧ s.reach a (objAddr row.obj i / 256) = some .ok ∧ s.writeGate a row.obj i row.lo .ok = .ok ∧ row.ty.bytes ≠ 0 ∧ data.length ≤ 1024 ∧ off + data.length ≤ row.ty.bytes)
    ∧ (∃ (s : State) (a : Accessor) (addr : BitVec 24) (row : _) (i : _) (off : Nat) (data : List Byte), let x := s.nap (napRecord a); let asm := overlay off data (if x.asmObj = addr.toNat then x.asm else []); rowFor a addr.toNat = some (row, i) ∧ row = objRow row.obj ∧ s.reach a (addr.toNat / 256) = some .ok ∧ s.reach a (objAddr row.obj i / 256) = some .ok ∧ s.writeGate a row.obj i row.lo .ok = .ok ∧ row.ty.bytes ≠ 0 ∧ data.length ≤ 1024 ∧ off + data.length ≤ row.ty.bytes ∧ asm.length = row.ty.bytes ∧ row.acc ≠ .rws ∧ row.obj ≠ .shWatchTable ∧ row.obj ≠ .apMap)
    ∧ (∃ (s : State) (p : Fin 49) (l : List Byte) (d : List Byte) (ip : Nat), let c : PortClass := if p.val = 48 then .m else .f; s.napIp p = some ip ∧ udpDst l = some (38496, ip) ∧ udpPayload l = some d ∧ s.reach ⟨if p.val = 48 then .m else .f, 0⟩ 0x1000 = some .ok ∧ napParse d = none)
    ∧ (∃ (s : State) (p : Fin 49) (l : List Byte) (d : List Byte) (ip : Nat) (ops : _) (k : _), let c : PortClass := if p.val = 48 then .m else .f; let x := beNat (slice 0 16 d); let y := s.nap k; s.napIp p = some ip ∧ udpDst l = some (38496, ip) ∧ udpPayload l = some d ∧ s.reach ⟨if p.val = 48 then .m else .f, 0⟩ 0x1000 = some .ok ∧ napParse d = some ops ∧ ((List.range 32).find? (fun k => (s.nap k).valid && decide ((s.nap k).session = nhSession x)) = some k) ∧ nhSeq x = y.seq ∧ y.busy = false ∧ y.port < 48)
    ∧ (∃ (s : State) (p : Fin 49) (l : List Byte) (d : List Byte) (ip : Nat) (ops : _) (k : _), let c : PortClass := if p.val = 48 then .m else .f; let x := beNat (slice 0 16 d); let y := s.nap k; s.napIp p = some ip ∧ udpDst l = some (38496, ip) ∧ udpPayload l = some d ∧ s.reach ⟨if p.val = 48 then .m else .f, 0⟩ 0x1000 = some .ok ∧ napParse d = some ops ∧ ((List.range 32).find? (fun k => (s.nap k).valid && decide ((s.nap k).session = nhSession x)) = some k) ∧ nhSeq x ≠ y.seq ∧ seqBelow (nhSeq x) y.seq = true)
    ∧ (∃ (s : State) (p : Fin 49) (l : List Byte) (d : List Byte) (ip : Nat) (ops : _) (k : _) (o : _) (row : _) (n : _), let c : PortClass := if p.val = 48 then .m else .f; let x := beNat (slice 0 16 d); let y := s.nap k; s.napIp p = some ip ∧ udpDst l = some (38496, ip) ∧ udpPayload l = some d ∧ s.reach ⟨if p.val = 48 then .m else .f, 0⟩ 0x1000 = some .ok ∧ napParse d = some ops ∧ ((List.range 32).find? (fun k => (s.nap k).valid && decide ((s.nap k).session = nhSession x)) = some k) ∧ nhSeq x ≠ y.seq ∧ seqBelow (nhSeq x) y.seq = false ∧ ops = [o] ∧ o.op = 1 ∧ readable s ⟨c, k⟩ o.addr row n ∧ 32 ≤ s.napRoom p ∧ noneWaits s k)
    ∧ (∃ (s : State) (p : Fin 49) (l : List Byte) (ip : Nat), s.napIp p = some ip ∧ isArpFor ip l = true)
    ∧ (∃ (s : State) (f : RxFrame) (ip : Nat), s.obj .mgmtState 0 = portUp ∧ f.code = false ∧ f.fcs = true ∧ 63 < frameLen f.body ∧ frameLen f.body ≤ s.objN .mgmtMaxFrame 0 + 4 * tagCount f.body ∧ s.obj .pwrState 0 ≤ 1 ∧ s.napIp 48 = some ip ∧ (isArpFor ip f.body = true ∨ udpDst f.body = some (38496, ip)))
    ∧ (∃ (s : State) (f : RxFrame) (ip : Nat), s.obj .mgmtState 0 = portUp ∧ f.code = false ∧ f.fcs = true ∧ 63 < frameLen f.body ∧ frameLen f.body ≤ s.objN .mgmtMaxFrame 0 + 4 * tagCount f.body ∧ s.obj .pwrState 0 ≤ 1 ∧ s.napIp 48 = some ip ∧ isArpFor ip f.body = false ∧ udpDst f.body ≠ some (38496, ip))
    ∧ (∃ (s : State), s.obj .pwrState 0 ≠ 4)
    ∧ (∃ (s : State), s.obj .mgmtState 0 = portUp)
    ∧ (∃ (s : State) (d : List Byte), s.i3cOn = true ∧ (1056 < d.length ∨ napParse d = none) ∧ s.reach ⟨.b, 0⟩ 0x1000 = some .ok)
    ∧ (∃ (s : State) (d : List Byte) (o : _) (row : _) (n : _), s.i3cOn = true ∧ d.length ≤ 1056 ∧ napParse d = some [o] ∧ o.op = 1 ∧ s.reach ⟨.b, 0⟩ 0x1000 = some .ok ∧ readable s ⟨.b, 32⟩ o.addr row n ∧ noneWaits s 32 ∧ (s.nap 32).valid = false)
    ∧ (∃ (s : State), s.i3cOn = true)
    ∧ (∃ (s : State), s.i3cOn = true ∧ s.i3c.da = none)
    ∧ (∃ (s : State) (sa : Fin 128), s.i3cOn = true ∧ s.i3c.da = none ∧ sa.val = 0x5C)
    ∧ (∃ (s : State) (ev : BitVec 8), s.i3cOn = true ∧ bitAt ev.toNat 0 = true) := by
  refine ⟨?_, ?_, ?_, ?_, ?_, ?_, ?_, ?_, ?_, ?_, ?_, ?_, ?_, ?_, ?_, ?_, ?_, ?_, ?_, ?_, ?_⟩
  · let s : State := pick Wl.wits5 0
    let a : Accessor := ⟨.h, 0⟩
    let addr : BitVec 24 := (0x440006 : BitVec 24)
    let row : ObjRow := { obj := Sys2Proof.Machine.Obj.ctxIdleExpire,   fam := 17408,   sub := 6,   subs := 1,   ty := Sys2Proof.Machine.ObjType.unsigned 4,   acc := Sys2Proof.Machine.AccClass.rw,   rmask := 63,   wmask := 29,   lo := 0,   hi := 4294967295 }
    let n := 0
    exact ⟨s, a, addr, row, n, by unfold readable; decide +kernel +zetaReduce⟩
  · let s : State := pick Wl.wits5 0
    let a : Accessor := ⟨.h, 0⟩
    let addr : BitVec 24 := (0x440006 : BitVec 24)
    let row : ObjRow := { obj := Sys2Proof.Machine.Obj.ctxIdleExpire,   fam := 17408,   sub := 6,   subs := 1,   ty := Sys2Proof.Machine.ObjType.unsigned 4,   acc := Sys2Proof.Machine.AccClass.rw,   rmask := 63,   wmask := 29,   lo := 0,   hi := 4294967295 }
    let n := 0
    let x := 0
    let v : BitVec 64 := (0x0000000000000000 : BitVec 64)
    exact ⟨s, a, addr, row, n, x, v, by unfold plainWrite State.writable; decide +kernel +zetaReduce⟩
  · let a : Accessor := ⟨.h, 0⟩
    let addr : BitVec 24 := (0x600005 : BitVec 24)
    let q1 := (rowFor a addr.toNat).get (by decide +kernel +zetaReduce)
    let row := q1.1
    let i := q1.2
    let s : State := pick Wl.wits5 0
    let n : Nat := 0
    let off : Nat := 0
    exact ⟨s, a, addr, row, i, off, n, by decide +kernel +zetaReduce⟩
  · let a : Accessor := ⟨.m, 1⟩
    let addr : BitVec 24 := (0x600005 : BitVec 24)
    let q1 := (rowFor a addr.toNat).get (by decide +kernel +zetaReduce)
    let row := q1.1
    let i := q1.2
    let s : State := pick Wl.wits5 1
    let n : Nat := 0
    let off : Nat := 1
    let x := s.nap (napRecord a)
    exact ⟨s, a, addr, row, i, off, n, by decide +kernel +zetaReduce⟩
  · let a : Accessor := ⟨.h, 0⟩
    let addr : BitVec 24 := (0x600005 : BitVec 24)
    let q1 := (rowFor a addr.toNat).get (by decide +kernel +zetaReduce)
    let row := q1.1
    let i := q1.2
    let s : State := pick Wl.wits5 0
    let data : List Byte := pick Wl.wits4 0
    let off : Nat := 0
    exact ⟨s, a, addr, row, i, off, data, by decide +kernel +zetaReduce⟩
  · let a : Accessor := ⟨.m, 1⟩
    let addr : BitVec 24 := (0x600005 : BitVec 24)
    let q1 := (rowFor a addr.toNat).get (by decide +kernel +zetaReduce)
    let row := q1.1
    let i := q1.2
    let s : State := pick Wl.wits5 1
    let data : List Byte := pick Wl.wits4 0
    let off : Nat := 0
    let x := s.nap (napRecord a)
    let asm := overlay off data (if x.asmObj = addr.toNat then x.asm else [])
    exact ⟨s, a, addr, row, i, off, data, by decide +kernel +zetaReduce⟩
  · let s : State := pick Wl.wits5 1
    let p : Fin 49 := 4
    let ip := (s.napIp p).get (by decide +kernel +zetaReduce)
    let l : List Byte := pick Wl.wits4 17
    let d := (udpPayload l).get (by decide +kernel +zetaReduce)
    let c : PortClass := if p.val = 48 then .m else .f
    exact ⟨s, p, l, d, ip, by decide +kernel +zetaReduce⟩
  · let s : State := pick Wl.wits5 1
    let p : Fin 49 := 4
    let ip := (s.napIp p).get (by decide +kernel +zetaReduce)
    let l : List Byte := pick Wl.wits4 9
    let d := (udpPayload l).get (by decide +kernel +zetaReduce)
    let c : PortClass := if p.val = 48 then .m else .f
    let x := beNat (slice 0 16 d)
    let ops := (napParse d).get (by decide +kernel +zetaReduce)
    let k := 3
    let y := s.nap k
    exact ⟨s, p, l, d, ip, ops, k, by decide +kernel +zetaReduce⟩
  · let s : State := pick Wl.wits5 1
    let p : Fin 49 := 4
    let ip := (s.napIp p).get (by decide +kernel +zetaReduce)
    let l : List Byte := pick Wl.wits4 13
    let d := (udpPayload l).get (by decide +kernel +zetaReduce)
    let c : PortClass := if p.val = 48 then .m else .f
    let x := beNat (slice 0 16 d)
    let ops := (napParse d).get (by decide +kernel +zetaReduce)
    let k := 3
    let y := s.nap k
    exact ⟨s, p, l, d, ip, ops, k, by decide +kernel +zetaReduce⟩
  · let s : State := pick Wl.wits5 1
    let p : Fin 49 := 4
    let ip := (s.napIp p).get (by decide +kernel +zetaReduce)
    let l : List Byte := pick Wl.wits4 11
    let d := (udpPayload l).get (by decide +kernel +zetaReduce)
    let c : PortClass := if p.val = 48 then .m else .f
    let x := beNat (slice 0 16 d)
    let ops := (napParse d).get (by decide +kernel +zetaReduce)
    let k := 3
    let y := s.nap k
    let o := (ops).head (by decide +kernel +zetaReduce)
    let row : ObjRow := { obj := Sys2Proof.Machine.Obj.ctxIdleExpire,   fam := 17408,   sub := 6,   subs := 1,   ty := Sys2Proof.Machine.ObjType.unsigned 4,   acc := Sys2Proof.Machine.AccClass.rw,   rmask := 63,   wmask := 29,   lo := 0,   hi := 4294967295 }
    let n := 0
    exact ⟨s, p, l, d, ip, ops, k, o, row, n, by unfold readable noneWaits; decide +kernel +zetaReduce⟩
  · let s : State := pick Wl.wits5 1
    let p : Fin 49 := 4
    let ip := (s.napIp p).get (by decide +kernel +zetaReduce)
    let l : List Byte := pick Wl.wits4 7
    exact ⟨s, p, l, ip, by decide +kernel +zetaReduce⟩
  · let s : State := pick Wl.wits5 1
    let f : RxFrame := pick Wl.wits3 0
    let ip := (s.napIp 48).get (by decide +kernel +zetaReduce)
    exact ⟨s, f, ip, by decide +kernel +zetaReduce⟩
  · let s : State := pick Wl.wits5 1
    let f : RxFrame := pick Wl.wits3 2
    let ip := (s.napIp 48).get (by decide +kernel +zetaReduce)
    exact ⟨s, f, ip, by decide +kernel +zetaReduce⟩
  · let s : State := pick Wl.wits5 0
    exact ⟨s, by decide +kernel +zetaReduce⟩
  · let s : State := pick Wl.wits5 1
    exact ⟨s, by decide +kernel +zetaReduce⟩
  · let s : State := pick Wl.wits5 0
    let d : List Byte := pick Wl.wits4 4
    exact ⟨s, d, by decide +kernel +zetaReduce⟩
  · let s : State := pick Wl.wits5 0
    let d : List Byte := pick Wl.wits4 0
    let o : NapOp := { op := 1, addr := 4456454, fin := false, data := [] }
    let row : ObjRow := { obj := Sys2Proof.Machine.Obj.ctxIdleExpire,   fam := 17408,   sub := 6,   subs := 1,   ty := Sys2Proof.Machine.ObjType.unsigned 4,   acc := Sys2Proof.Machine.AccClass.rw,   rmask := 63,   wmask := 29,   lo := 0,   hi := 4294967295 }
    let n := 0
    exact ⟨s, d, o, row, n, by unfold readable noneWaits; decide +kernel +zetaReduce⟩
  · let s : State := pick Wl.wits5 0
    exact ⟨s, by decide +kernel +zetaReduce⟩
  · let s : State := pick Wl.wits5 0
    exact ⟨s, by decide +kernel +zetaReduce⟩
  · let s : State := pick Wl.wits5 0
    let sa : Fin 128 := 92
    exact ⟨s, sa, by decide +kernel +zetaReduce⟩
  · let s : State := pick Wl.wits5 0
    let ev : BitVec 8 := (0x01 : BitVec 8)
    exact ⟨s, ev, by decide +kernel +zetaReduce⟩

/-- The hypotheses of `TimeAndTriggers`, each clause's together, hold somewhere. -/
theorem test_hyp_TimeAndTriggers :
    (∃ (s : State) (a : Accessor) (v : Nat), s.writable a .timeSet 0 v ∧ s.anyCarrier = false ∧ s.obj .timeState 0 ≠ clkLocked)
    ∧ (∃ (s : State) (a : Accessor) (v : Nat), s.writable a .timeSet 0 v ∧ (s.anyCarrier = true ∨ s.obj .timeState 0 = clkLocked))
    ∧ (∃ (s : State) (a : Accessor) (n : Fin 16) (v : Nat), s.writable a .timeTrig n v ∧ v / 2 ^ 56 = 0)
    ∧ (∃ (s : State) (a : Accessor) (n : Fin 16) (v : Nat), s.writable a .timeTrig n v ∧ (v / 2 ^ 56 = 1 ∨ v / 2 ^ 56 = 2) ∧ s.now ≤ trigValue s.now v)
    ∧ (∃ (s : State) (a : Accessor) (n : Fin 16) (v : Nat), s.writable a .timeTrig n v ∧ (v / 2 ^ 56 = 1 ∨ v / 2 ^ 56 = 2) ∧ trigValue s.now v < s.now)
    ∧ (∃ (s : State) (a : Accessor) (n : Fin 16) (v : Nat), s.writable a .timeTrig n v ∧ 2 < v / 2 ^ 56)
    ∧ (∃ (s : State) (n : Fin 16), s.timeRuns = true ∧ s.trigArmed n = true ∧ tabGet 0 s.time.trigs n ≤ s.now ∧ ((∀ k, k < n.val → s.trigArmed k = true → tabGet 0 s.time.trigs n < tabGet 0 s.time.trigs k)))
    ∧ (∃ (s : State) (p : Fin 48) (t1 : Int) (t2 : Int) (t3 : Int) (t4 : Int) (cSync : Int) (cDreq : Int) (age : Int), let x := (t2 + s.obj .ptpPortIngLat p / 1000 - t1 - cSync - (t4 - (t3 + s.obj .ptpPortEgrLat p / 1000) - cDreq) - 2 * s.obj .ptpPortAsym p) / 2; s.time.slave = some p.val ∧ s.obj .timeSource 0 = 0 ∧ age ≤ 1000000000 ∧ (s.obj .timeState 0 = clkAcquiring ∨ s.obj .timeState 0 = clkLocked) ∧ s.outlier x = false)
    ∧ (∃ (s : State) (p : Fin 48) (t1 : Int) (t2 : Int) (t3 : Int) (t4 : Int) (cSync : Int) (cDreq : Int) (age : Int), let x := (t2 + s.obj .ptpPortIngLat p / 1000 - t1 - cSync - (t4 - (t3 + s.obj .ptpPortEgrLat p / 1000) - cDreq) - 2 * s.obj .ptpPortAsym p) / 2; s.time.slave = some p.val ∧ s.obj .timeSource 0 = 0 ∧ age ≤ 1000000000 ∧ (s.obj .timeState 0 = clkAcquiring ∨ s.obj .timeState 0 = clkLocked) ∧ s.outlier x = true)
    ∧ (∃ (s : State), let o := ppsOffset s.now; s.obj .timeSource 0 = 1 ∧ s.timeRuns = true ∧ s.time.justSet = false ∧ 100000000 < |o|)
    ∧ (∃ (s : State), let o := ppsOffset s.now; s.obj .timeSource 0 = 1 ∧ s.timeRuns = true ∧ s.time.justSet = false ∧ |o| ≤ 100000000)
    ∧ (∃ (s : State), s.obj .ppsOutEn 0 ≠ 0 ∧ s.timeRuns = true ∧ (s.now + s.obj .ppsOutAdvance 0) % 1000000000 < s.obj .ppsOutWidth 0) := by
  refine ⟨?_, ?_, ?_, ?_, ?_, ?_, ?_, ?_, ?_, ?_, ?_, ?_⟩
  · let s : State := pick Wm.A.wits3 0
    let a : Accessor := ⟨.h, 0⟩
    let v : Nat := 0
    exact ⟨s, a, v, by unfold State.writable; decide +kernel +zetaReduce⟩
  · let s : State := pick Wm.A.wits3 6
    let a : Accessor := ⟨.h, 0⟩
    let v : Nat := 0
    exact ⟨s, a, v, by unfold State.writable; decide +kernel +zetaReduce⟩
  · let s : State := pick Wm.A.wits3 0
    let a : Accessor := ⟨.h, 0⟩
    let n : Fin 16 := 0
    let v : Nat := 0
    exact ⟨s, a, n, v, by unfold State.writable; decide +kernel +zetaReduce⟩
  · let s : State := pick Wm.A.wits3 0
    let a : Accessor := ⟨.h, 0⟩
    let n : Fin 16 := 0
    let v : Nat := 72058594037927941
    exact ⟨s, a, n, v, by unfold State.writable; decide +kernel +zetaReduce⟩
  · let s : State := pick Wm.A.wits3 1
    let a : Accessor := ⟨.h, 0⟩
    let n : Fin 16 := 0
    let v : Nat := 72058593037927936
    exact ⟨s, a, n, v, by unfold State.writable; decide +kernel +zetaReduce⟩
  · let s : State := pick Wm.A.wits3 0
    let a : Accessor := ⟨.h, 0⟩
    let n : Fin 16 := 0
    let v : Nat := 216172782113783808
    exact ⟨s, a, n, v, by unfold State.writable; decide +kernel +zetaReduce⟩
  · let s : State := pick Wm.A.wits3 7
    let n : Fin 16 := 3
    exact ⟨s, n, by decide +kernel +zetaReduce⟩
  · let s : State := pick Wm.A.wits3 2
    let p : Fin 48 := 4
    let age : Int := 0
    let t1 : Int := 0
    let t2 : Int := 0
    let t3 : Int := 0
    let t4 : Int := 0
    let cSync : Int := 0
    let cDreq : Int := 0
    let x := (t2 + s.obj .ptpPortIngLat p / 1000 - t1 - cSync - (t4 - (t3 + s.obj .ptpPortEgrLat p / 1000) - cDreq) - 2 * s.obj .ptpPortAsym p) / 2
    exact ⟨s, p, t1, t2, t3, t4, cSync, cDreq, age, by decide +kernel +zetaReduce⟩
  · let s : State := pick Wm.A.wits3 2
    let p : Fin 48 := 4
    let age : Int := 0
    let t1 : Int := 0
    let t2 : Int := 0
    let t3 : Int := 0
    let t4 : Int := 0
    let cSync : Int := 0
    let cDreq : Int := -70000000000000
    let x := (t2 + s.obj .ptpPortIngLat p / 1000 - t1 - cSync - (t4 - (t3 + s.obj .ptpPortEgrLat p / 1000) - cDreq) - 2 * s.obj .ptpPortAsym p) / 2
    exact ⟨s, p, t1, t2, t3, t4, cSync, cDreq, age, by decide +kernel +zetaReduce⟩
  · let s : State := pick Wm.A.wits3 10
    let o := ppsOffset s.now
    exact ⟨s, by decide +kernel +zetaReduce⟩
  · let s : State := pick Wm.A.wits3 9
    let o := ppsOffset s.now
    exact ⟨s, by decide +kernel +zetaReduce⟩
  · let s : State := pick Wm.A.wits3 1
    exact ⟨s, by decide +kernel +zetaReduce⟩

/-- The hypotheses of `ClockStatesAndSources`, each clause's together, hold somewhere. -/
theorem test_hyp_ClockStatesAndSources :
    (∃ (m : PtpMsg), m.udp = true)
    ∧ (∃ (s : State) (p : Fin 48) (m : PtpMsg), m.udp = false ∧ (s.ptpActive p = false ∨ (m.domain : Int) ≠ s.obj .ptpDomain 0 ∨ m.announce = false))
    ∧ (∃ (s : State) (p : Fin 48) (m : PtpMsg), m.udp = false ∧ s.ptpActive p = true ∧ (m.domain : Int) = s.obj .ptpDomain 0 ∧ m.announce = true ∧ tabGet none s.time.masters p = none ∧ s.time.slave ≠ some p.val)
    ∧ (∃ (s : State) (p : Fin 48) (m : PtpMsg) (o : _), m.udp = false ∧ s.ptpActive p = true ∧ (m.domain : Int) = s.obj .ptpDomain 0 ∧ m.announce = true ∧ tabGet none s.time.masters p = some o ∧ sameMaster o m = true ∧ 1 ≤ o.heard ∧ s.obj .ptpPortNotSlave p = 0 ∧ ((∀ q : Nat, q ≠ p → tabGet none s.time.masters q = none)) ∧ s.obj .timeSource 0 = 0)
    ∧ (∃ (s : State) (p : Fin 48) (m : PtpMsg) (o : _), m.udp = false ∧ s.ptpActive p = true ∧ (m.domain : Int) = s.obj .ptpDomain 0 ∧ m.announce = true ∧ tabGet none s.time.masters p = some o ∧ o.msg.gmId ≠ m.gmId ∧ s.time.slave = some p.val ∧ s.obj .timeSource 0 = 0 ∧ s.obj .timeState 0 = clkLocked)
    ∧ (∃ (s : State) (p : Fin 48), tabGet none s.time.masters p ≠ none ∧ ((∀ q : Nat, q ≠ p → tabGet none s.time.masters q = none)) ∧ s.time.slave = some p.val ∧ s.obj .timeSource 0 = 0)
    ∧ (∃ (s : State) (t0 : Int), s.obj .timeState 0 = clkAcquiring ∧ s.time.lockSince = some t0 ∧ t0 + s.obj .timeLockHold 0 * 1000000000 ≤ s.now)
    ∧ (∃ (s : State), s.obj .timeState 0 = clkHoldover ∧ s.time.holdEntry + s.obj .timeHoldoverMax 0 * 1000000000 ≤ s.now)
    ∧ (∃ (s : State) (t0 : Int), s.obj .timeSource 0 = 1 ∧ s.time.lastPps = some t0 ∧ t0 + 3000000000 ≤ s.now)
    ∧ (∃ (s : State) (rho : Int), 0 ≤ s.obj .synceSrc 0 ∧ s.obj .synceSrc 0 ≠ 255 ∧ s.time.synceBad = false ∧ (s.obj .ethPortState (s.objN .synceSrc 0) ≠ portUp ∨ 301465600 < |rho - s.time.synceRho|))
    ∧ (∃ (s : State) (p : Fin 48) (kind : Fin 3), s.ptpActive p = true ∧ ((kind.val < 2 ∧ s.obj .ptpPortState p = ptpMaster) ∨ (kind.val = 2 ∧ s.obj .ptpPortState p = ptpSlave))) := by
  refine ⟨?_, ?_, ?_, ?_, ?_, ?_, ?_, ?_, ?_, ?_, ?_⟩
  · let m : PtpMsg := pick Wm.wits1 2
    exact ⟨m, by decide +kernel +zetaReduce⟩
  · let m : PtpMsg := pick Wm.wits1 0
    let s : State := pick Wm.B.wits4 0
    let p : Fin 48 := 5
    exact ⟨s, p, m, by decide +kernel +zetaReduce⟩
  · let m : PtpMsg := pick Wm.wits1 0
    let s : State := pick Wm.B.wits4 16
    let p : Fin 48 := 4
    exact ⟨s, p, m, by decide +kernel +zetaReduce⟩
  · let m : PtpMsg := pick Wm.wits1 0
    let s : State := pick Wm.B.wits4 0
    let p : Fin 48 := 4
    let o := (tabGet none s.time.masters p).get (by decide +kernel +zetaReduce)
    exact ⟨s, p, m, o, by decide +kernel +zetaReduce, by decide +kernel +zetaReduce, by decide +kernel +zetaReduce, by decide +kernel +zetaReduce, by decide +kernel +zetaReduce, by decide +kernel +zetaReduce, by decide +kernel +zetaReduce, by decide +kernel +zetaReduce, oneMaster s.time.masters p (by decide +kernel +zetaReduce), by decide +kernel +zetaReduce⟩
  · let m : PtpMsg := pick Wm.wits1 1
    let s : State := pick Wm.B.wits4 5
    let p : Fin 48 := 4
    let o := (tabGet none s.time.masters p).get (by decide +kernel +zetaReduce)
    exact ⟨s, p, m, o, by decide +kernel +zetaReduce⟩
  · let s : State := pick Wm.B.wits4 1
    let p : Fin 48 := 4
    exact ⟨s, p, by decide +kernel +zetaReduce, oneMaster s.time.masters p (by decide +kernel +zetaReduce), by decide +kernel +zetaReduce, by decide +kernel +zetaReduce⟩
  · let s : State := pick Wm.B.wits4 2
    let t0 := (s.time.lockSince).get (by decide +kernel +zetaReduce)
    exact ⟨s, t0, by decide +kernel +zetaReduce⟩
  · let s : State := pick Wm.B.wits4 14
    exact ⟨s, by decide +kernel +zetaReduce⟩
  · let s : State := pick Wm.B.wits4 24
    let t0 := (s.time.lastPps).get (by decide +kernel +zetaReduce)
    exact ⟨s, t0, by decide +kernel +zetaReduce⟩
  · let s : State := pick Wm.B.wits4 26
    let rho : Int := -70000000000000
    exact ⟨s, rho, by decide +kernel +zetaReduce⟩
  · let s : State := pick Wm.B.wits4 30
    let p : Fin 48 := 4
    let kind : Fin 3 := 0
    exact ⟨s, p, kind, by decide +kernel +zetaReduce⟩

/-- The hypotheses of `JobRingsAndHostLink`, each clause's together, hold somewhere. -/
theorem test_hyp_JobRingsAndHostLink :
    (∃ (s : State) (fn : Fin 64) (r : Fin 256) (off : Nat) (wid : Nat), s.obj .pairRole 0 ≠ 2 ∧ s.pcieUp = true ∧ (off ≠ 0 ∨ wid ≠ 8 ∨ s.bellOpen fn r = false))
    ∧ (∃ (s : State) (fn : Fin 64) (r : Fin 256) (off : Nat) (wid : Nat) (v : BitVec 64), s.obj .pairRole 0 ≠ 2 ∧ s.pcieUp = true ∧ off = 0 ∧ wid = 8 ∧ s.bellOpen fn r = true ∧ (s.ring r).tail ≤ v.toNat ∧ v.toNat ≤ s.objN .jrAccepted r + s.objN .jrCount r)
    ∧ (∃ (s : State) (fn : Fin 64) (r : Fin 256) (off : Nat) (wid : Nat) (v : BitVec 64), s.obj .pairRole 0 ≠ 2 ∧ s.pcieUp = true ∧ off = 0 ∧ wid = 8 ∧ s.bellOpen fn r = true ∧ (v.toNat < (s.ring r).tail ∨ s.objN .jrAccepted r + s.objN .jrCount r < v.toNat))
    ∧ (∃ (s : State) (fn : Fin 64) (r : Fin 256), s.obj .pairRole 0 ≠ 2 ∧ s.pcieUp = true ∧ s.bellOpen fn r = false)
    ∧ (∃ (s : State) (fn : Fin 64) (r : Fin 256) (v : BitVec 64), s.obj .pairRole 0 ≠ 2 ∧ s.pcieUp = true ∧ s.bellOpen fn r = true ∧ (v.toNat < s.objN .crHead r ∨ s.objN .crWritten r < v.toNat))
    ∧ (∃ (s : State) (fn : Fin 64) (r : Fin 256) (v : BitVec 64), s.obj .pairRole 0 ≠ 2 ∧ s.pcieUp = true ∧ s.bellOpen fn r = true ∧ s.objN .crHead r ≤ v.toNat ∧ v.toNat ≤ s.objN .crWritten r)
    ∧ (∃ (s : State) (r : Fin 256) (ok : Bool) (desc : BitVec 512), let q := (s.ring r).fetch; s.mayAccept r = true ∧ ok = true ∧ jdSeq desc.toNat = q ∧ jdEpoch desc.toNat = s.objN .jrEpoch r ∧ s.journal.length < 1048576 ∧ s.obj .jrAccepted r = q ∧ ((∀ j ∈ (s.ring r).jobs, j.seq ≠ q)))
    ∧ (∃ (s : State) (r : Fin 256) (ok : Bool) (desc : BitVec 512) (why : Nat), let q := (s.ring r).fetch; s.mayAccept r = true ∧ ((why = 3 ∧ ok = false) ∨ (why = 1 ∧ ok = true ∧ jdSeq desc.toNat ≠ q) ∨ (why = 2 ∧ ok = true ∧ jdSeq desc.toNat = q ∧ jdEpoch desc.toNat ≠ s.objN .jrEpoch r)))
    ∧ (∃ (s : State) (r : Fin 256) (q : Nat) (j : JobSt) (rd : JobRead) (reason : _) (detail : _), s.job r q = some j ∧ s.obj .pairRole 0 ≠ 2 ∧ j.st < 2 ∧ q < s.objN .jrAccepted r ∧ s.jobPast j = false ∧ (jdFence j.desc = false ∨ s.fenceOpen r j = true) ∧ s.jobChecks r j rd = some (reason, detail))
    ∧ (∃ (s : State) (r : Fin 256) (q : Nat) (j : JobSt) (rd : JobRead), let deps := rd.deps.take (jdDepCount j.desc); let failed := decide (∃ p ∈ deps, s.depState p = 2) && !jdDepAny j.desc; s.job r q = some j ∧ s.obj .pairRole 0 ≠ 2 ∧ j.st < 2 ∧ q < s.objN .jrAccepted r ∧ s.jobPast j = false ∧ (jdFence j.desc = false ∨ s.fenceOpen r j = true) ∧ s.jobChecks r j rd = none ∧ failed = true)
    ∧ (∃ (s : State) (r : Fin 256) (q : Nat) (j : JobSt) (rd : JobRead), let deps := rd.deps.take (jdDepCount j.desc); let failed := decide (∃ p ∈ deps, s.depState p = 2) && !jdDepAny j.desc; let waits := decide (∃ p ∈ deps, s.depState p = 0); s.job r q = some j ∧ s.obj .pairRole 0 ≠ 2 ∧ j.st < 2 ∧ q < s.objN .jrAccepted r ∧ s.jobPast j = false ∧ (jdFence j.desc = false ∨ s.fenceOpen r j = true) ∧ s.jobChecks r j rd = none ∧ failed = false ∧ waits = true)
    ∧ (∃ (s : State) (r : Fin 256) (q : Nat) (j : JobSt) (rd : JobRead), let deps := rd.deps.take (jdDepCount j.desc); let failed := decide (∃ p ∈ deps, s.depState p = 2) && !jdDepAny j.desc; let waits := decide (∃ p ∈ deps, s.depState p = 0); s.job r q = some j ∧ s.obj .pairRole 0 ≠ 2 ∧ j.st < 2 ∧ q < s.objN .jrAccepted r ∧ s.jobPast j = false ∧ (jdFence j.desc = false ∨ s.fenceOpen r j = true) ∧ s.jobChecks r j rd = none ∧ failed = false ∧ waits = false ∧ jdType j.desc = 0)
    ∧ (∃ (s : State) (r : Fin 256) (q : Nat) (j : JobSt) (rd : JobRead) (code : Nat), let deps := rd.deps.take (jdDepCount j.desc); let failed := decide (∃ p ∈ deps, s.depState p = 2) && !jdDepAny j.desc; let waits := decide (∃ p ∈ deps, s.depState p = 0); s.job r q = some j ∧ s.obj .pairRole 0 ≠ 2 ∧ j.st < 2 ∧ q < s.objN .jrAccepted r ∧ s.jobPast j = false ∧ (jdFence j.desc = false ∨ s.fenceOpen r j = true) ∧ s.jobChecks r j rd = none ∧ failed = false ∧ waits = false ∧ jdType j.desc ≠ 0 ∧ rd.bad = some code)
    ∧ (∃ (s : State) (r : Fin 256) (q : Nat) (j : JobSt) (rd : JobRead), let deps := rd.deps.take (jdDepCount j.desc); let failed := decide (∃ p ∈ deps, s.depState p = 2) && !jdDepAny j.desc; let waits := decide (∃ p ∈ deps, s.depState p = 0); s.job r q = some j ∧ s.obj .pairRole 0 ≠ 2 ∧ j.st < 2 ∧ q < s.objN .jrAccepted r ∧ s.jobPast j = false ∧ (jdFence j.desc = false ∨ s.fenceOpen r j = true) ∧ s.jobChecks r j rd = none ∧ failed = false ∧ waits = false ∧ jdType j.desc ≠ 0 ∧ rd.bad = none ∧ jobP5 (jdType j.desc) = false)
    ∧ (∃ (s : State) (r : Fin 256) (q : Nat) (j : JobSt) (rd : JobRead), let deps := rd.deps.take (jdDepCount j.desc); let failed := decide (∃ p ∈ deps, s.depState p = 2) && !jdDepAny j.desc; let waits := decide (∃ p ∈ deps, s.depState p = 0); s.job r q = some j ∧ s.obj .pairRole 0 ≠ 2 ∧ j.st < 2 ∧ q < s.objN .jrAccepted r ∧ s.jobPast j = false ∧ (jdFence j.desc = false ∨ s.fenceOpen r j = true) ∧ s.jobChecks r j rd = none ∧ failed = false ∧ waits = false ∧ jdType j.desc ≠ 0 ∧ rd.bad = none ∧ jobP5 (jdType j.desc) = true)
    ∧ (∃ (s : State) (r : Fin 256) (q : Nat) (j : JobSt), s.job r q = some j ∧ s.obj .pairRole 0 ≠ 2 ∧ j.st < 2 ∧ q < s.objN .jrAccepted r ∧ s.jobPast j = true)
    ∧ (∃ (s : State) (r : Fin 256) (q : Nat) (j : JobSt), s.job r q = some j ∧ s.obj .pairRole 0 ≠ 2 ∧ (j.st = 2 ∨ j.st = 3) ∧ j.outcome < 16 ∧ j.reason < 256)
    ∧ (∃ (s : State) (r : Fin 256) (q : Nat) (j : JobSt), s.job r q = some j ∧ s.obj .pairRole 0 ≠ 2 ∧ j.st = 5 ∧ s.obj .crWritten r = q ∧ s.obj .jrState r ≠ 0 ∧ s.busMaster (s.objN .jrOwner r) = true)
    ∧ (∃ (s : State) (r : Fin 256) (t0 : Int), (s.ring r).unsignalled = some t0 ∧ t0 + s.obj .jrCoalesce r ≤ s.now)
    ∧ (∃ (s : State) (a : Accessor) (r : Fin 256) (v : Nat), s.writable a .jrEnable r v ∧ v ≠ 0 ∧ s.obj .jrState r = 0 ∧ s.ringReady r = true)
    ∧ (∃ (s : State) (a : Accessor) (r : Fin 256) (v : Nat), s.writable a .jrEnable r v ∧ v ≠ 0 ∧ s.obj .jrState r = 0 ∧ s.ringReady r = false)
    ∧ (∃ (s : State) (a : Accessor) (r : Fin 256) (v : Nat), s.writable a .jrEnable r v ∧ v = 0 ∧ s.obj .jrState r ≠ 0 ∧ s.objN .jrAccepted r ≤ s.objN .crHead r)
    ∧ (∃ (s : State) (a : Accessor) (r : Fin 256) (v : Nat), s.writable a .jrEnable r v ∧ v = 0 ∧ s.obj .jrState r ≠ 0 ∧ s.objN .crHead r < s.objN .jrAccepted r)
    ∧ (∃ (s : State) (a : Accessor) (r : Fin 256) (v : Nat), s.writable a .jrResume r v ∧ s.obj .jrState r = 2)
    ∧ (∃ (speed : Nat) (width : Nat) (vfs : Nat), 1 ≤ speed ∧ speed ≤ 5 ∧ [1, 2, 4, 8, 16].contains width = true ∧ vfs ≤ 63)
    ∧ (∃ (s : State) (fn : Fin 64) (off : Nat) (x : Nat) (data : List Byte), let g := bits x 17 0 * 2 ^ 30 + off % 2 ^ 30; s.pcieUp = true ∧ s.apEntry fn off = some x ∧ bitAt x 63 = true ∧ bitAt x 62 = true ∧ s.reachable g data.length = true ∧ s.ownedRegion g data.length = false ∧ (isRmw g data.length = false ∨ s.upsets = []))
    ∧ (∃ (s : State) (fn : Fin 64) (off : Nat) (n : Nat) (x : Nat), let g := bits x 17 0 * 2 ^ 30 + off % 2 ^ 30; s.pcieUp = true ∧ s.apEntry fn off = some x ∧ bitAt x 63 = true ∧ s.reachable g n = true)
    ∧ (∃ (s : State) (fn : Fin 64) (off : Nat) (x : Nat) (data : List Byte), let g := bits x 17 0 * 2 ^ 30 + off % 2 ^ 30; s.pcieUp = true ∧ s.apEntry fn off = some x ∧ bitAt x 63 = true ∧ (bitAt x 62 = false ∨ s.reachable g data.length = false))
    ∧ (∃ (s : State) (fn : Fin 64) (off : Nat) (x : Nat), s.pcieUp = true ∧ s.apEntry fn off = some x ∧ bitAt x 63 = false) := by
  refine ⟨?_, ?_, ?_, ?_, ?_, ?_, ?_, ?_, ?_, ?_, ?_, ?_, ?_, ?_, ?_, ?_, ?_, ?_, ?_, ?_, ?_, ?_, ?_, ?_, ?_, ?_, ?_, ?_, ?_⟩
  · let s : State := pick Wn.wits5 0
    let fn : Fin 64 := 0
    let r : Fin 256 := 2
    let off : Nat := 0
    let wid : Nat := 0
    exact ⟨s, fn, r, off, wid, by decide +kernel +zetaReduce⟩
  · let s : State := pick Wn.wits5 0
    let off : Nat := 0
    let wid : Nat := 8
    let fn : Fin 64 := 3
    let r : Fin 256 := 2
    let v : BitVec 64 := (0x0000000000000007 : BitVec 64)
    exact ⟨s, fn, r, off, wid, v, by decide +kernel +zetaReduce⟩
  · let s : State := pick Wn.wits5 0
    let off : Nat := 0
    let wid : Nat := 8
    let fn : Fin 64 := 3
    let r : Fin 256 := 2
    let v : BitVec 64 := (0x0000000000000003 : BitVec 64)
    exact ⟨s, fn, r, off, wid, v, by decide +kernel +zetaReduce⟩
  · let s : State := pick Wn.wits5 0
    let fn : Fin 64 := 0
    let r : Fin 256 := 2
    exact ⟨s, fn, r, by decide +kernel +zetaReduce⟩
  · let s : State := pick Wn.wits5 0
    let fn : Fin 64 := 3
    let r : Fin 256 := 2
    let v : BitVec 64 := (0x0000000000000003 : BitVec 64)
    exact ⟨s, fn, r, v, by decide +kernel +zetaReduce⟩
  · let s : State := pick Wn.wits5 6
    let fn : Fin 64 := 3
    let r : Fin 256 := 2
    let v : BitVec 64 := (0x0000000000000003 : BitVec 64)
    exact ⟨s, fn, r, v, by decide +kernel +zetaReduce⟩
  · let s : State := pick Wn.wits5 0
    let r : Fin 256 := 2
    let q := (s.ring r).fetch
    let ok : Bool := true
    let desc : BitVec 512 := (0x00000000000000000000000000000000000000000000004000000000000000000000000000000000000000000000000000000000000000000000000000000005 : BitVec 512)
    exact ⟨s, r, ok, desc, by decide +kernel +zetaReduce⟩
  · let s : State := pick Wn.wits5 0
    let r : Fin 256 := 2
    let q := (s.ring r).fetch
    let ok : Bool := false
    let desc : BitVec 512 := (0x00000000000000000000000000000000000000000000004000000000000000000000000000000000000000000000000000000000000000000000000000000005 : BitVec 512)
    let why : Nat := 3
    exact ⟨s, r, ok, desc, why, by decide +kernel +zetaReduce⟩
  · let s : State := pick Wn.wits5 0
    let r : Fin 256 := 2
    let q : Nat := 3
    let j := (s.job r q).get (by decide +kernel +zetaReduce)
    let rd : JobRead := pick Wn.wits2 3
    let q2 := (s.jobChecks r j rd).get (by decide +kernel +zetaReduce)
    let reason := q2.1
    let detail := q2.2
    exact ⟨s, r, q, j, rd, reason, detail, by decide +kernel +zetaReduce⟩
  · let s : State := pick Wn.depS 1
    let r : Fin 256 := 2
    let q : Nat := 3
    let j : JobSt := Wn.dj
    let rd : JobRead := { Wn.readOk with deps := [(2, 2)] }
    let deps := rd.deps.take (jdDepCount j.desc)
    let failed := decide (∃ p ∈ deps, s.depState p = 2) && !jdDepAny j.desc
    exact ⟨s, r, q, j, rd, by decide +kernel +zetaReduce⟩
  · let s : State := pick Wn.depS 0
    let r : Fin 256 := 2
    let q : Nat := 3
    let j : JobSt := Wn.dj
    let rd : JobRead := { Wn.readOk with deps := [(2, 2)] }
    let deps := rd.deps.take (jdDepCount j.desc)
    let failed := decide (∃ p ∈ deps, s.depState p = 2) && !jdDepAny j.desc
    let waits := decide (∃ p ∈ deps, s.depState p = 0)
    exact ⟨s, r, q, j, rd, by decide +kernel +zetaReduce⟩
  · let s : State := pick Wn.wits5 0
    let r : Fin 256 := 2
    let q : Nat := 3
    let j := (s.job r q).get (by decide +kernel +zetaReduce)
    let rd : JobRead := pick Wn.wits2 0
    let deps := rd.deps.take (jdDepCount j.desc)
    let failed := decide (∃ p ∈ deps, s.depState p = 2) && !jdDepAny j.desc
    let waits := decide (∃ p ∈ deps, s.depState p = 0)
    exact ⟨s, r, q, j, rd, by decide +kernel +zetaReduce⟩
  · let s : State := pick Wn.wits5 13
    let r : Fin 256 := 2
    let q : Nat := 3
    let j := (s.job r q).get (by decide +kernel +zetaReduce)
    let rd : JobRead := pick Wn.wits2 2
    let deps := rd.deps.take (jdDepCount j.desc)
    let failed := decide (∃ p ∈ deps, s.depState p = 2) && !jdDepAny j.desc
    let waits := decide (∃ p ∈ deps, s.depState p = 0)
    let code := (rd.bad).get (by decide +kernel +zetaReduce)
    exact ⟨s, r, q, j, rd, code, by decide +kernel +zetaReduce⟩
  · let s : State := pick Wn.wits5 13
    let r : Fin 256 := 2
    let q : Nat := 3
    let j := (s.job r q).get (by decide +kernel +zetaReduce)
    let rd : JobRead := pick Wn.wits2 0
    let deps := rd.deps.take (jdDepCount j.desc)
    let failed := decide (∃ p ∈ deps, s.depState p = 2) && !jdDepAny j.desc
    let waits := decide (∃ p ∈ deps, s.depState p = 0)
    exact ⟨s, r, q, j, rd, by decide +kernel +zetaReduce⟩
  · let s : State := pick Wn.wits5 33
    let r : Fin 256 := 2
    let q : Nat := 3
    let j := (s.job r q).get (by decide +kernel +zetaReduce)
    let rd : JobRead := pick Wn.wits2 0
    let deps := rd.deps.take (jdDepCount j.desc)
    let failed := decide (∃ p ∈ deps, s.depState p = 2) && !jdDepAny j.desc
    let waits := decide (∃ p ∈ deps, s.depState p = 0)
    exact ⟨s, r, q, j, rd, by decide +kernel +zetaReduce⟩
  · let s : State := pick Wn.wits5 15
    let r : Fin 256 := 2
    let q : Nat := 3
    let j := (s.job r q).get (by decide +kernel +zetaReduce)
    exact ⟨s, r, q, j, by decide +kernel +zetaReduce⟩
  · let s : State := pick Wn.wits5 19
    let r : Fin 256 := 2
    let q : Nat := 3
    let j := (s.job r q).get (by decide +kernel +zetaReduce)
    exact ⟨s, r, q, j, by decide +kernel +zetaReduce⟩
  · let s : State := pick Wn.wits5 27
    let r : Fin 256 := 2
    let q : Nat := 3
    let j := (s.job r q).get (by decide +kernel +zetaReduce)
    exact ⟨s, r, q, j, by decide +kernel +zetaReduce⟩
  · let s : State := pick Wn.wits5 9
    let r : Fin 256 := 2
    let t0 := ((s.ring r).unsignalled).get (by decide +kernel +zetaReduce)
    exact ⟨s, r, t0, by decide +kernel +zetaReduce⟩
  · let s : State := pick Wn.wits5 7
    let a : Accessor := ⟨.h, 0⟩
    let r : Fin 256 := 2
    let v : Nat := 1
    exact ⟨s, a, r, v, by unfold State.writable; decide +kernel +zetaReduce⟩
  · let s : State := pick Wn.wits5 0
    let a : Accessor := ⟨.h, 0⟩
    let r : Fin 256 := 3
    let v : Nat := 1
    exact ⟨s, a, r, v, by unfold State.writable; decide +kernel +zetaReduce⟩
  · let s : State := pick Wn.wits5 5
    let a : Accessor := ⟨.h, 0⟩
    let r : Fin 256 := 2
    let v : Nat := 0
    exact ⟨s, a, r, v, by unfold State.writable; decide +kernel +zetaReduce⟩
  · let s : State := pick Wn.wits5 0
    let a : Accessor := ⟨.h, 0⟩
    let r : Fin 256 := 2
    let v : Nat := 0
    exact ⟨s, a, r, v, by unfold State.writable; decide +kernel +zetaReduce⟩
  · let s : State := pick Wn.wits5 8
    let a : Accessor := ⟨.h, 0⟩
    let r : Fin 256 := 2
    let v : Nat := 0
    exact ⟨s, a, r, v, by unfold State.writable; decide +kernel +zetaReduce⟩
  · let speed : Nat := 1
    let width : Nat := 1
    let vfs : Nat := 0
    exact ⟨speed, width, vfs, by decide +kernel +zetaReduce⟩
  · let s : State := Wn.ap
    let fn : Fin 64 := 0
    let off : Nat := 0x40000
    let x : Nat := 2 ^ 63 + 2 ^ 62 + 4
    let data : List Byte := [1, 2, 3]
    let g := bits x 17 0 * 2 ^ 30 + off % 2 ^ 30
    exact ⟨s, fn, off, x, data, by decide +kernel +zetaReduce⟩
  · let s : State := Wn.ap
    let fn : Fin 64 := 0
    let off : Nat := 0x40000
    let x : Nat := 2 ^ 63 + 2 ^ 62 + 4
    let g := bits x 17 0 * 2 ^ 30 + off % 2 ^ 30
    exact ⟨s, fn, off, 8, x, by decide +kernel +zetaReduce⟩
  · let s : State := Wn.ap
    let fn : Fin 64 := 0
    let off : Nat := 0x40040000
    let x : Nat := 2 ^ 63 + 4
    let data : List Byte := [1, 2, 3]
    let g := bits x 17 0 * 2 ^ 30 + off % 2 ^ 30
    exact ⟨s, fn, off, x, data, by decide +kernel +zetaReduce⟩
  · let s : State := pick Wn.wits5 0
    let fn : Fin 64 := 0
    let off : Nat := 0
    let x := (s.apEntry fn off).get (by decide +kernel +zetaReduce)
    exact ⟨s, fn, off, x, by decide +kernel +zetaReduce⟩

/-- The hypotheses of `PowerStates`, each clause's together, hold somewhere. -/
theorem test_hyp_PowerStates :
    (∃ (s : State) (a : Accessor) (n : Nat) (target : Nat) (c : Instr), let p := (s.countAccess a).acceptAt a (objAddr .pwrStateReq 0) target; let l := (askOrder target).filter (fun u => !s.pwrDown target u); ((c = .pwrReqS2 a n ∧ target = 2) ∨ (c = .pwrReqS3 a n ∧ target = 3) ∨ (c = .pwrReqS4 a n ∧ target = 4)) ∧ s.writable a .pwrStateReq 0 target ∧ s.entryOk target = .ok ∧ s.pwr.wakes = [] ∧ l = [unitLodge] ∧ p.sleepAnswer target unitLodge = .agree)
    ∧ (∃ (s : State) (a : Accessor) (n : Nat) (target : Nat) (c : Instr) (u : _) (r : _) (code : _), let p := (s.countAccess a).acceptAt a (objAddr .pwrStateReq 0) target; let l := (askOrder target).filter (fun u => !s.pwrDown target u); ((c = .pwrReqS2 a n ∧ target = 2) ∨ (c = .pwrReqS3 a n ∧ target = 3) ∨ (c = .pwrReqS4 a n ∧ target = 4)) ∧ s.writable a .pwrStateReq 0 target ∧ s.entryOk target = .ok ∧ s.pwr.wakes = [] ∧ l = u :: r ∧ p.sleepAnswer target u = .refuse code)
    ∧ (∃ (s : State) (a : Accessor) (n : Nat) (target : Nat) (c : Instr) (u : _) (r : _) (least : _) (most : _), let p := (s.countAccess a).acceptAt a (objAddr .pwrStateReq 0) target; let l := (askOrder target).filter (fun u => !s.pwrDown target u); ((c = .pwrReqS2 a n ∧ target = 2) ∨ (c = .pwrReqS3 a n ∧ target = 3) ∨ (c = .pwrReqS4 a n ∧ target = 4)) ∧ s.writable a .pwrStateReq 0 target ∧ s.entryOk target = .ok ∧ s.pwr.wakes = [] ∧ l = u :: r ∧ p.sleepAnswer target u = .delay least most ∧ 0 < s.objN .pwrDelayCap 0)
    ∧ (∃ (s : State) (a : Accessor) (n : Nat) (target : Nat) (c : Instr), ((c = .pwrReqS2 a n ∧ target = 2) ∨ (c = .pwrReqS3 a n ∧ target = 3) ∨ (c = .pwrReqS4 a n ∧ target = 4)) ∧ s.writable a .pwrStateReq 0 target ∧ s.entryOk target ≠ .ok)
    ∧ (∃ (s : State) (u : Nat) (r : List Nat) (least : _) (most : _), let p := { s with pwr := { s.pwr with waiting := false } }; s.pwr.waiting = true ∧ s.pwr.todo = u :: r ∧ p.sleepAnswer s.pwr.target u = .delay least most ∧ s.objN .pwrDelayCap 0 ≤ s.pwr.waited)
    ∧ (∃ (s : State) (u : Nat) (r : List Nat) (least : _) (most : _), let p := { s with pwr := { s.pwr with waiting := false } }; s.pwr.waiting = true ∧ s.pwr.todo = u :: r ∧ p.sleepAnswer s.pwr.target u = .delay least most ∧ s.pwr.waited < s.objN .pwrDelayCap 0)
    ∧ (∃ (s : State) (u : Nat) (r : List Nat), let p := { s with pwr := { s.pwr with waiting := false } }; s.pwr.waiting = true ∧ s.pwr.todo = u :: r ∧ p.sleepAnswer s.pwr.target u = .agree ∧ r = [] ∧ s.pwr.wakes = [] ∧ (s.pwr.target = 2 ∨ s.pwr.target = 3) ∧ (u = 400 ∨ (274 ≤ u ∧ u ≤ 278)) ∧ (s.unit u).st = unitRunning)
    ∧ (∃ (s : State), s.pwr.committed = true ∧ s.pwr.target = 2 ∧ s.pwr.wakes = [] ∧ s.obj .pwrWakeAt 0 = 0)
    ∧ (∃ (s : State), s.pwr.committed = true ∧ s.pwr.target = 2 ∧ s.pwr.wakes ≠ [] ∧ s.obj .pwrWakeAt 0 = 0 ∧ s.obj .pwrState 0 = 2 ∧ s.obj .startRung 0 = 0 ∧ s.pwr.back = none ∧ s.therm.hold = false)
    ∧ (∃ (s : State), s.pwr.committed = true ∧ (s.pwr.target = 3 ∨ s.pwr.target = 4))
    ∧ (∃ (s : State), s.pwr.target = 0 ∧ s.obj .startRung 0 = 0 ∧ s.pwr.committed = false ∧ s.therm.hold = false ∧ s.pwr.wakes = [] ∧ s.pwr.back = none ∧ (s.obj .pwrState 0 = 2 ∨ s.obj .pwrState 0 = 3) ∧ bitAt (s.objN .pwrWakeEn 0) 2 = true)
    ∧ (∃ (s : State), s.pwr.target = 0 ∧ s.obj .startRung 0 = 0 ∧ s.pwr.committed = false ∧ s.therm.hold = false ∧ s.pwr.wakes = [] ∧ s.pwr.back = none ∧ ((s.obj .pwrState 0 ≠ 2 ∧ s.obj .pwrState 0 ≠ 3) ∨ bitAt (s.objN .pwrWakeEn 0) 2 = false))
    ∧ (∃ (s : State), s.pwr.target = 0 ∧ s.obj .startRung 0 = 0 ∧ s.pwr.committed = false ∧ s.therm.hold = false ∧ s.pwr.wakes = [] ∧ s.pwr.back = none ∧ s.obj .pwrWakeAt 0 ≠ 0 ∧ s.obj .pwrWakeAt 0 ≤ s.now ∧ bitAt (s.objN .pwrWakeEn 0) 3 = true ∧ s.obj .pwrState 0 = 2)
    ∧ (∃ (s : State), s.pwr.target = 0 ∧ s.obj .startRung 0 = 0 ∧ s.pwr.committed = false ∧ s.therm.hold = false ∧ s.pwr.wakes = [] ∧ s.pwr.back = none ∧ s.obj .pwrWakeAt 0 ≠ 0 ∧ s.obj .pwrWakeAt 0 ≤ s.now ∧ bitAt (s.objN .pwrWakeEn 0) 3 = true ∧ s.obj .pwrState 0 = 3)
    ∧ (∃ (s : State) (a : Accessor), s.pwr.target = 0 ∧ s.obj .startRung 0 = 0 ∧ s.pwr.committed = false ∧ s.therm.hold = false ∧ s.pwr.wakes = [] ∧ s.pwr.back = none ∧ s.writable a .pwrStateReq 0 0 ∧ (s.obj .pwrState 0 = 2 ∨ s.obj .pwrState 0 = 3) ∧ s.pwrIdle = true)
    ∧ (∃ (s : State) (a : Accessor), s.pwr.target = 0 ∧ s.obj .startRung 0 = 0 ∧ s.pwr.committed = false ∧ s.therm.hold = false ∧ s.pwr.wakes = [] ∧ s.pwr.back = none ∧ s.writable a .pwrStateReq 0 0 ∧ s.obj .pwrState 0 ≠ 2 ∧ s.obj .pwrState 0 ≠ 3)
    ∧ (∃ (s : State), s.pwr.exitDue = true)
    ∧ (∃ (s : State) (iin : Nat), s.objN .startIinLimit 0 * 9 ≤ iin * 10)
    ∧ (∃ (s : State) (iin : Nat) (b : PwrBack) (u : Nat) (rest : List Nat), iin * 10 < s.objN .startIinLimit 0 * 9 ∧ s.pwr.back = some b ∧ s.pwr.restart = u :: rest ∧ 192 ≤ u ∧ u < 279 ∧ (u < 218 ∨ 274 ≤ u) ∧ (s.unit u).st = unitSleeping)
    ∧ (∃ (s : State) (iin : Nat) (r : Nat) (u : Nat) (rest : List (Nat × Nat)), iin * 10 < s.objN .startIinLimit 0 * 9 ∧ s.pwr.back = none ∧ s.pwr.ladder = (r, u) :: rest ∧ s.obj .startRung 0 = r ∧ 192 ≤ u ∧ u < 279 ∧ (u < 218 ∨ 274 ≤ u) ∧ (s.unit u).st = unitSleeping)
    ∧ (∃ (s : State) (iin : Nat) (r : Nat) (u : Nat) (rest : List (Nat × Nat)), iin * 10 < s.objN .startIinLimit 0 * 9 ∧ s.pwr.back = none ∧ s.pwr.ladder = (r, u) :: rest ∧ s.objN .startRung 0 < r ∧ s.obj .startRung 0 ≠ 2 ∧ s.rungLeft (s.objN .startRung 0) = false)
    ∧ (∃ (s : State) (a : Accessor) (units : BitVec 18) (u : Nat), s.gateOk = .ok ∧ s.writable a .pwrGateReq 0 ((2 ^ 31 + units.toNat : Nat) : Int) ∧ ((gateUnits units.toNat).filter (fun u => !s.pwrDown 1 u) = [u]) ∧ bitAt (s.objN .pwrGated 0) (u - 192) = false ∧ ((s.countAccess a).acceptAt a (objAddr .pwrGateReq 0) ((2 ^ 31 + units.toNat : Nat) : Int)).sleepAnswer 1 u = .agree)
    ∧ (∃ (s : State) (a : Accessor) (units : BitVec 18) (u : Nat) (code : _) (r : _), s.gateOk = .ok ∧ s.writable a .pwrGateReq 0 ((2 ^ 31 + units.toNat : Nat) : Int) ∧ s.pwr.wakes = [] ∧ ((gateUnits units.toNat).filter (fun u => !s.pwrDown 1 u) = u :: r) ∧ ((s.countAccess a).acceptAt a (objAddr .pwrGateReq 0) ((2 ^ 31 + units.toNat : Nat) : Int)).sleepAnswer 1 u = .refuse code)
    ∧ (∃ (s : State) (a : Accessor) (units : BitVec 18), s.gateOk = .ok ∧ s.writable a .pwrGateReq 0 units.toNat)
    ∧ (∃ (s : State) (mv : Nat), (s.pwr.vin = true ∨ mv < 5700))
    ∧ (∃ (s : State) (mv : Nat), (s.pwr.vin = false ∨ 5400 ≤ mv))
    ∧ (∃ (s : State) (mv : Nat), s.pwr.vin = false ∧ 5700 ≤ mv)
    ∧ (∃ (s : State) (mv : Nat), s.pwr.vin = true ∧ mv < 5400)
    ∧ (∃ (s : State), s.obj .pwrState 0 ≠ 4)
    ∧ (∃ (s : State), s.pwr.en = true)
    ∧ (∃ (s : State), s.pwr.en = false) := by
  refine ⟨?_, ?_, ?_, ?_, ?_, ?_, ?_, ?_, ?_, ?_, ?_, ?_, ?_, ?_, ?_, ?_, ?_, ?_, ?_, ?_, ?_, ?_, ?_, ?_, ?_, ?_, ?_, ?_, ?_, ?_, ?_⟩
  · let a : Accessor := ⟨.h, 0⟩
    let n : Nat := 0
    let target : Nat := 3
    let c : Instr := pick Wo.o0.wits3 1
    let s : State := pick Wo.o0.wits2 6
    let p := (s.countAccess a).acceptAt a (objAddr .pwrStateReq 0) target
    let l := (askOrder target).filter (fun u => !s.pwrDown target u)
    exact ⟨s, a, n, target, c, by unfold State.writable; decide +kernel +zetaReduce⟩
  · let a : Accessor := ⟨.h, 0⟩
    let n : Nat := 0
    let target : Nat := 3
    let c : Instr := pick Wo.o0.wits3 1
    let s : State := pick Wo.o0.wits2 11
    let p := (s.countAccess a).acceptAt a (objAddr .pwrStateReq 0) target
    let l := (askOrder target).filter (fun u => !s.pwrDown target u)
    let u := (l).head (by decide +kernel +zetaReduce)
    let r := (l).tail
    let code := 5
    exact ⟨s, a, n, target, c, u, r, code, by unfold State.writable; decide +kernel +zetaReduce⟩
  · let a : Accessor := ⟨.h, 0⟩
    let n : Nat := 0
    let target : Nat := 3
    let c : Instr := pick Wo.o0.wits3 1
    let s : State := pick Wo.o0.wits2 7
    let p := (s.countAccess a).acceptAt a (objAddr .pwrStateReq 0) target
    let l := (askOrder target).filter (fun u => !s.pwrDown target u)
    let u := (l).head (by decide +kernel +zetaReduce)
    let r := (l).tail
    let least := 1
    let most := 5
    exact ⟨s, a, n, target, c, u, r, least, most, by unfold State.writable; decide +kernel +zetaReduce⟩
  · let a : Accessor := ⟨.h, 0⟩
    let n : Nat := 0
    let target : Nat := 3
    let c : Instr := pick Wo.o0.wits3 1
    let s : State := pick Wo.o0.wits2 20
    exact ⟨s, a, n, target, c, by unfold State.writable; decide +kernel +zetaReduce⟩
  · let s : State := pick Wo.o1.wits2 20
    let u := (s.pwr.todo).head (by decide +kernel +zetaReduce)
    let r := (s.pwr.todo).tail
    let p := { s with pwr := { s.pwr with waiting := false } }
    let least := 1
    let most := 5
    exact ⟨s, u, r, least, most, by decide +kernel +zetaReduce⟩
  · let s : State := pick Wo.o1.wits2 21
    let u := (s.pwr.todo).head (by decide +kernel +zetaReduce)
    let r := (s.pwr.todo).tail
    let p := { s with pwr := { s.pwr with waiting := false } }
    let least := 1
    let most := 5
    exact ⟨s, u, r, least, most, by decide +kernel +zetaReduce⟩
  · let s : State := pick Wo.o1.wits2 22
    let u := (s.pwr.todo).head (by decide +kernel +zetaReduce)
    let r := (s.pwr.todo).tail
    let p := { s with pwr := { s.pwr with waiting := false } }
    exact ⟨s, u, r, by decide +kernel +zetaReduce⟩
  · let s : State := pick Wo.o2.wits2 26
    exact ⟨s, by decide +kernel +zetaReduce⟩
  · let s : State := pick Wo.o2.wits2 25
    exact ⟨s, by decide +kernel +zetaReduce⟩
  · let s : State := pick Wo.o2.wits2 27
    exact ⟨s, by decide +kernel +zetaReduce⟩
  · let s : State := pick Wo.o3.wits2 3
    exact ⟨s, by decide +kernel +zetaReduce⟩
  · let s : State := pick Wo.o3.wits2 0
    exact ⟨s, by decide +kernel +zetaReduce⟩
  · let s : State := pick Wo.o3.wits2 7
    exact ⟨s, by decide +kernel +zetaReduce⟩
  · let s : State := pick Wo.o3.wits2 13
    exact ⟨s, by decide +kernel +zetaReduce⟩
  · let s : State := pick Wo.o3.wits2 2
    let a : Accessor := ⟨.m, 1⟩
    exact ⟨s, a, by unfold State.writable; decide +kernel +zetaReduce⟩
  · let s : State := pick Wo.o3.wits2 0
    let a : Accessor := ⟨.m, 1⟩
    exact ⟨s, a, by unfold State.writable; decide +kernel +zetaReduce⟩
  · let s : State := pick Wo.o4.wits2 0
    exact ⟨s, by decide +kernel +zetaReduce⟩
  · let s : State := pick Wo.o5.wits2 0
    let iin : Nat := 20000
    exact ⟨s, iin, by decide +kernel +zetaReduce⟩
  · let s : State := pick Wo.o5.wits2 0
    let iin : Nat := 0
    let b := (s.pwr.back).get (by decide +kernel +zetaReduce)
    let u := (s.pwr.restart).head (by decide +kernel +zetaReduce)
    let rest := (s.pwr.restart).tail
    exact ⟨s, iin, b, u, rest, by decide +kernel +zetaReduce⟩
  · let s : State := pick Wo.o5.wits2 4
    let iin : Nat := 0
    let q1 := (s.pwr.ladder).head (by decide +kernel +zetaReduce)
    let r := q1.1
    let u := q1.2
    let rest := (s.pwr.ladder).tail
    exact ⟨s, iin, r, u, rest, by decide +kernel +zetaReduce⟩
  · let s : State := pick Wo.o5.wits2 7
    let iin : Nat := 0
    let q1 := (s.pwr.ladder).head (by decide +kernel +zetaReduce)
    let r := q1.1
    let u := q1.2
    let rest := (s.pwr.ladder).tail
    exact ⟨s, iin, r, u, rest, by decide +kernel +zetaReduce⟩
  · let s : State := pick Wo.o6.wits2 0
    let a : Accessor := ⟨.h, 0⟩
    let units : BitVec 18 := (0x00001 : BitVec 18)
    let u : Nat := 192
    exact ⟨s, a, units, u, by unfold State.writable; decide +kernel +zetaReduce⟩
  · let s : State := pick Wo.o6.wits2 7
    let a : Accessor := ⟨.h, 0⟩
    let units : BitVec 18 := (0x00001 : BitVec 18)
    let u : Nat := 192
    let r : List Nat := []
    let code := 1
    exact ⟨s, a, units, u, code, r, by unfold State.writable; decide +kernel +zetaReduce⟩
  · let s : State := pick Wo.o6.wits2 0
    let a : Accessor := ⟨.h, 0⟩
    let units : BitVec 18 := (0x00001 : BitVec 18)
    exact ⟨s, a, units, by unfold State.writable; decide +kernel +zetaReduce⟩
  · let s : State := pick Wo.o7.wits2 0
    let mv : Nat := 0
    exact ⟨s, mv, by decide +kernel +zetaReduce⟩
  · let s : State := pick Wo.o7.wits2 0
    let mv : Nat := 5700
    exact ⟨s, mv, by decide +kernel +zetaReduce⟩
  · let s : State := pick Wo.o7.wits2 2
    let mv : Nat := 5700
    exact ⟨s, mv, by decide +kernel +zetaReduce⟩
  · let s : State := pick Wo.o7.wits2 0
    let mv : Nat := 0
    exact ⟨s, mv, by decide +kernel +zetaReduce⟩
  · let s : State := pick Wo.o7.wits2 0
    exact ⟨s, by decide +kernel +zetaReduce⟩
  · let s : State := pick Wo.o8.wits2 0
    exact ⟨s, by decide +kernel +zetaReduce⟩
  · let s : State := pick Wo.o8.wits2 3
    exact ⟨s, by decide +kernel +zetaReduce⟩

/-- The hypotheses of `SummerhouseCommands`, each clause's together, hold somewhere. -/
theorem test_hyp_SummerhouseCommands :
    (∃ (s : State), let h := s.imageHeader s.sh.slot; let l := s.flashRead (slotBase s.sh.slot + ihL1Offset h) (ihL1Length h); s.sh.slot ≠ 0 ∧ s.obj .memDdrSize 0 ≠ 0 ∧ (s.obj .startRung 0 < 1 ∨ 5 < s.obj .startRung 0) ∧ sha384 l = slice 0x50 48 h)
    ∧ (∃ (s : State), let h := s.imageHeader s.sh.slot; let l := s.flashRead (slotBase s.sh.slot + ihL1Offset h) (ihL1Length h); s.sh.slot ≠ 0 ∧ s.obj .memDdrSize 0 ≠ 0 ∧ (s.obj .startRung 0 < 1 ∨ 5 < s.obj .startRung 0) ∧ sha384 l ≠ slice 0x50 48 h)
    ∧ (∃ (s : State) (a : Accessor) (v : Nat) (h : _), s.writable a .shRollbackSet 0 v ∧ s.bootedHeader = some h ∧ s.objN .shRollbackMin 0 < v ∧ v ≤ ihRollback h)
    ∧ (∃ (s : State) (a : Accessor) (v : Nat) (h : _), s.writable a .shRollbackSet 0 v ∧ s.bootedHeader = some h ∧ (v ≤ s.objN .shRollbackMin 0 ∨ ihRollback h < v))
    ∧ (∃ (s : State) (a : Accessor) (v : Nat), s.writable a .shRollbackSet 0 v ∧ s.bootedHeader = none)
    ∧ (∃ (s : State) (a : Accessor) (v : Nat), s.writable a .shOtpRevoke 0 v ∧ ((4 ≤ v ∨ ∃ h, s.bootedHeader = some h ∧ ihKeySlot h = v)))
    ∧ (∃ (s : State) (a : Accessor) (v : Nat), s.writable a .shOtpRevoke 0 v ∧ v < 4 ∧ ((∀ h, s.bootedHeader = some h → ihKeySlot h ≠ v)))
    ∧ (∃ (s : State) (a : Accessor), s.writable a .shFlashCmd 0 1 ∧ s.flashCheck = .ok)
    ∧ (∃ (s : State) (a : Accessor), s.writable a .shFlashCmd 0 2 ∧ s.flashCheck = .ok)
    ∧ (∃ (s : State) (a : Accessor), s.writable a .shFlashCmd 0 3 ∧ s.flashCheck = .ok)
    ∧ (∃ (s : State) (a : Accessor) (c : Instr) (err : Nat), ((c = .shFlashErase a ∧ s.writable a .shFlashCmd 0 1) ∨ (c = .shFlashProgram a ∧ s.writable a .shFlashCmd 0 2) ∨ (c = .shFlashCheck a err ∧ s.writable a .shFlashCmd 0 3)) ∧ s.flashCheck ≠ .ok)
    ∧ (∃ (s : State) (a : Accessor) (data : List Byte), s.writable a .shWatchTable 0 (objRow .shWatchTable).lo ∧ data.length = 256 ∧ (objRow .shWatchTable).ty.bytes = 256 ∧ s.watchCheck data = .ok)
    ∧ (∃ (s : State) (a : Accessor) (data : List Byte), s.writable a .shWatchTable 0 (objRow .shWatchTable).lo ∧ data.length = 256 ∧ (objRow .shWatchTable).ty.bytes = 256 ∧ s.watchCheck data = .state)
    ∧ (∃ (s : State) (a : Accessor) (data : List Byte) (e : _) (r : _), s.writable a .shWatchTable 0 (objRow .shWatchTable).lo ∧ data.length = 256 ∧ (objRow .shWatchTable).ty.bytes = 256 ∧ s.watchBad data = some (e, r) ∧ s.watchCheck data = .range ∧ s.passes a .shWatchTable 0 0 = true)
    ∧ (∃ (s : State) (a : Accessor) (v : Nat), s.writable a .shWatchEn 0 v)
    ∧ (∃ (s : State) (e : Fin 8), (s.watchState e < 2 ∨ (s.unit unitSummerhouse).st ≠ unitRunning))
    ∧ (∃ (s : State) (e : Fin 8) (rep : Nat) (slot : Int), let p := 256 + e.val; let x := s.praCfg p; let seen := if s.praRank p slot < pcOccasions x then s.seeOccasion p slot else s; 2 ≤ s.watchState e ∧ (s.unit unitSummerhouse).st = unitRunning ∧ seen.praNext p slot rep = true)
    ∧ (∃ (s : State) (e : Fin 8) (rep : Nat) (slot : Int), let p := 256 + e.val; let x := s.praCfg p; let seen := if s.praRank p slot < pcOccasions x then s.seeOccasion p slot else s; 2 ≤ s.watchState e ∧ (s.unit unitSummerhouse).st = unitRunning ∧ seen.praNext p slot rep = false)
    ∧ (∃ (s : State) (p : Fin 2) (f : RxFrame), let len := frameLen f.body; let good := f.code = false ∧ 63 < len ∧ len ≤ s.frameLimit p f.body ∧ f.fcs = true; s.obj .pwrState 0 = 2 ∧ s.obj .startRung 0 = 0 ∧ (s.unit unitSummerhouse).st = unitRunning ∧ s.obj .ethPortState p = portUp ∧ ¬good)
    ∧ (∃ (s : State) (p : Fin 2) (f : RxFrame), let len := frameLen f.body; let good := f.code = false ∧ 63 < len ∧ len ≤ s.frameLimit p f.body ∧ f.fcs = true; s.obj .pwrState 0 = 2 ∧ s.obj .startRung 0 = 0 ∧ (s.unit unitSummerhouse).st = unitRunning ∧ s.obj .ethPortState p = portUp ∧ good ∧ etherType f.body = 0x88F7)
    ∧ (∃ (s : State) (p : Fin 2) (f : RxFrame), let len := frameLen f.body; let good := f.code = false ∧ 63 < len ∧ len ≤ s.frameLimit p f.body ∧ f.fcs = true; s.obj .pwrState 0 = 2 ∧ s.obj .startRung 0 = 0 ∧ (s.unit unitSummerhouse).st = unitRunning ∧ s.obj .ethPortState p = portUp ∧ good ∧ etherType f.body ≠ 0x88F7 ∧ s.watchTakes p f.body = true)
    ∧ (∃ (s : State) (p : Fin 2) (f : RxFrame), let len := frameLen f.body; let good := f.code = false ∧ 63 < len ∧ len ≤ s.frameLimit p f.body ∧ f.fcs = true; s.obj .pwrState 0 = 2 ∧ s.obj .startRung 0 = 0 ∧ (s.unit unitSummerhouse).st = unitRunning ∧ s.obj .ethPortState p = portUp ∧ good ∧ etherType f.body ≠ 0x88F7 ∧ s.watchTakes p f.body = false)
    ∧ (∃ (s : State), (s.unit unitSummerhouse).st = unitRunning ∧ s.obj .pairState 0 = pairSingle) := by
  refine ⟨?_, ?_, ?_, ?_, ?_, ?_, ?_, ?_, ?_, ?_, ?_, ?_, ?_, ?_, ?_, ?_, ?_, ?_, ?_, ?_, ?_, ?_, ?_⟩
  · let s : State := pick Wp.p0.wits1 0
    let h := s.imageHeader s.sh.slot
    let l := s.flashRead (slotBase s.sh.slot + ihL1Offset h) (ihL1Length h)
    exact ⟨s, by decide +kernel +zetaReduce⟩
  · let s : State := pick Wp.p0.wits1 1
    let h := s.imageHeader s.sh.slot
    let l := s.flashRead (slotBase s.sh.slot + ihL1Offset h) (ihL1Length h)
    exact ⟨s, by decide +kernel +zetaReduce⟩
  · let s : State := pick Wp.p1.wits1 0
    let a : Accessor := ⟨.h, 0⟩
    let v : Nat := 1
    let h := (s.bootedHeader).get (by decide +kernel +zetaReduce)
    exact ⟨s, a, v, h, by unfold State.writable; decide +kernel +zetaReduce⟩
  · let s : State := pick Wp.p1.wits1 0
    let a : Accessor := ⟨.h, 0⟩
    let v : Nat := 0
    let h := (s.bootedHeader).get (by decide +kernel +zetaReduce)
    exact ⟨s, a, v, h, by unfold State.writable; decide +kernel +zetaReduce⟩
  · let s : State := pick Wp.p1.wits1 2
    let a : Accessor := ⟨.h, 0⟩
    let v : Nat := 0
    exact ⟨s, a, v, by unfold State.writable; decide +kernel +zetaReduce⟩
  · let s : State := pick Wp.p1.wits1 0
    let a : Accessor := ⟨.h, 0⟩
    let v : Nat := 2
    exact ⟨s, a, v, by unfold State.writable; decide +kernel +zetaReduce⟩
  · let s : State := pick Wp.p1.wits1 0
    let a : Accessor := ⟨.h, 0⟩
    let v : Nat := 0
    exact ⟨s, a, v, by unfold State.writable; decide +kernel +zetaReduce⟩
  · let s : State := pick Wp.p2.wits1 0
    let a : Accessor := ⟨.m, 1⟩
    exact ⟨s, a, by unfold State.writable; decide +kernel +zetaReduce⟩
  · let s : State := pick Wp.p2.wits1 0
    let a : Accessor := ⟨.m, 1⟩
    exact ⟨s, a, by unfold State.writable; decide +kernel +zetaReduce⟩
  · let s : State := pick Wp.p2.wits1 0
    let a : Accessor := ⟨.m, 1⟩
    exact ⟨s, a, by unfold State.writable; decide +kernel +zetaReduce⟩
  · let s : State := pick Wp.p2.wits1 1
    let a : Accessor := ⟨.m, 1⟩
    let c : Instr := pick Wp.p2.wits2 0
    let err : Nat := 0
    exact ⟨s, a, c, err, by unfold State.writable; decide +kernel +zetaReduce⟩
  · let s : State := pick Wp.p3.wits2 0
    let a : Accessor := ⟨.m, 1⟩
    let data : List Byte := pick Wp.p3.wits1 0
    exact ⟨s, a, data, by unfold State.writable; decide +kernel +zetaReduce⟩
  · let s : State := pick Wp.p3.wits2 3
    let a : Accessor := ⟨.m, 1⟩
    let data : List Byte := pick Wp.p3.wits1 0
    exact ⟨s, a, data, by unfold State.writable; decide +kernel +zetaReduce⟩
  · let s : State := pick Wp.p3.wits2 0
    let a : Accessor := ⟨.m, 1⟩
    let data : List Byte := pick Wp.p3.wits1 1
    let q1 := (s.watchBad data).get (by decide +kernel +zetaReduce)
    let e := q1.1
    let r := q1.2
    exact ⟨s, a, data, e, r, by unfold State.writable; decide +kernel +zetaReduce⟩
  · let s : State := pick Wp.p4.wits1 0
    let a : Accessor := ⟨.m, 1⟩
    let v : Nat := 0
    exact ⟨s, a, v, by unfold State.writable; decide +kernel +zetaReduce⟩
  · let s : State := pick Wp.p5.wits3 0
    let e : Fin 8 := 3
    exact ⟨s, e, by decide +kernel +zetaReduce⟩
  · let e : Fin 8 := 0
    let p := 256 + e.val
    let s : State := pick Wp.p5.wits3 3
    let x := s.praCfg p
    let slot : Int := 0
    let seen := if s.praRank p slot < pcOccasions x then s.seeOccasion p slot else s
    let rep : Nat := 1
    exact ⟨s, e, rep, slot, by decide +kernel +zetaReduce⟩
  · let e : Fin 8 := 0
    let p := 256 + e.val
    let s : State := pick Wp.p5.wits3 0
    let x := s.praCfg p
    let slot : Int := 0
    let seen := if s.praRank p slot < pcOccasions x then s.seeOccasion p slot else s
    let rep : Nat := 0
    exact ⟨s, e, rep, slot, by decide +kernel +zetaReduce⟩
  · let s : State := pick Wp.p6.wits2 0
    let p : Fin 2 := 0
    let f : RxFrame := pick Wp.p6.wits1 2
    let len := frameLen f.body
    let good := f.code = false ∧ 63 < len ∧ len ≤ s.frameLimit p f.body ∧ f.fcs = true
    exact ⟨s, p, f, by decide +kernel +zetaReduce⟩
  · let s : State := pick Wp.p6.wits2 0
    let p : Fin 2 := 0
    let f : RxFrame := pick Wp.p6.wits1 1
    let len := frameLen f.body
    let good := f.code = false ∧ 63 < len ∧ len ≤ s.frameLimit p f.body ∧ f.fcs = true
    exact ⟨s, p, f, by decide +kernel +zetaReduce⟩
  · let s : State := pick Wp.p6.wits2 1
    let p : Fin 2 := 0
    let f : RxFrame := pick Wp.p6.wits1 0
    let len := frameLen f.body
    let good := f.code = false ∧ 63 < len ∧ len ≤ s.frameLimit p f.body ∧ f.fcs = true
    exact ⟨s, p, f, by decide +kernel +zetaReduce⟩
  · let s : State := pick Wp.p6.wits2 0
    let p : Fin 2 := 0
    let f : RxFrame := pick Wp.p6.wits1 0
    let len := frameLen f.body
    let good := f.code = false ∧ 63 < len ∧ len ≤ s.frameLimit p f.body ∧ f.fcs = true
    exact ⟨s, p, f, by decide +kernel +zetaReduce⟩
  · let s : State := pick Wp.p7.wits1 0
    exact ⟨s, by decide +kernel +zetaReduce⟩

/-- The hypotheses of `UnitsRestartAndRejoin`, each clause's together, hold somewhere. -/
theorem test_hyp_UnitsRestartAndRejoin :
    (∃ (s : State) (u : Fin 280) (code : Nat), (faultCode u code = false ∨ (s.unit u).st = unitSleeping ∨ (s.unit u).st = unitRetired))
    ∧ (∃ (s : State) (u : Fin 280) (code : Nat), faultCode u code = true ∧ (s.unit u).st ≠ unitSleeping ∧ (s.unit u).st ≠ unitRetired)
    ∧ (∃ (s : State) (h : Fin 16) (e : Fin 16) (u : Nat), e.val ≤ 10 ∧ s.engUp h e = true ∧ ((s.engRun h e).isSome = true ∨ (s.engHead h e).isSome = true ∨ (e.val = 7 ∧ (s.codec (2 * (h.val / 8))).any (fun r => decide (r.hall = h.val)) = true) ∨ (e.val = 8 ∧ (s.codec (4 + h.val / 8)).any (fun r => decide (r.hall = h.val)) = true)) ∧ (u = (if e.val = 7 ∨ e.val = 8 then unitBlock (h.val / 8) else unitHall h)) ∧ (s.unit u).st = unitRunning ∧ ((windowFaults s u).length : Int) < s.obj .relFaultLimit 0)
    ∧ (∃ (s : State) (u : Fin 280), (s.unit u).st = unitRestarting ∧ (s.unitDrained u = true ∨ (s.unit u).since + s.obj .relDrainMax 0 * 1000 ≤ s.now))
    ∧ (∃ (s : State) (u : Fin 280), (s.unit u).st = unitRestarting ∧ s.unitDrained u = false ∧ s.now < (s.unit u).since + s.obj .relDrainMax 0 * 1000)
    ∧ (∃ (s : State) (u : Fin 280), (s.unit u).st = unitRejoining)
    ∧ (∃ (s : State) (h : Fin 16), (s.unit (unitHall h)).st = unitRetired ∧ s.moduleRetire (unitHall h) = false ∧ s.hallCarriers h ≠ [])
    ∧ (∃ (s : State) (a : Accessor) (v : Nat), s.writable a .relUnretire 0 v ∧ v < 280 ∧ (s.unit v).st = unitRetired)
    ∧ (∃ (s : State) (a : Accessor) (v : Nat), s.writable a .relUnretire 0 v ∧ v < 280 ∧ (s.unit v).st ≠ unitRetired)
    ∧ (∃ (s : State) (a : Accessor) (v : Nat), s.writable a .relUnretire 0 v ∧ 280 ≤ v) := by
  refine ⟨?_, ?_, ?_, ?_, ?_, ?_, ?_, ?_, ?_, ?_⟩
  · let s : State := pick Wp.p8.wits1 0
    let u : Fin 280 := 0
    let code : Nat := 2
    exact ⟨s, u, code, by decide +kernel +zetaReduce⟩
  · let u : Fin 280 := 0
    let code : Nat := 1
    let s : State := pick Wp.p8.wits1 0
    exact ⟨s, u, code, by decide +kernel +zetaReduce⟩
  · let e : Fin 16 := 0
    let s : State := pick Wp.p9.wits1 1
    let h : Fin 16 := 0
    let u : Nat := 192
    exact ⟨s, h, e, u, by decide +kernel +zetaReduce⟩
  · let s : State := pick Wp.p10.wits1 1
    let u : Fin 280 := 0
    exact ⟨s, u, by decide +kernel +zetaReduce⟩
  · let s : State := pick Wp.p10.wits1 14
    let u : Fin 280 := 195
    exact ⟨s, u, by decide +kernel +zetaReduce⟩
  · let s : State := pick Wp.p10.wits1 2
    let u : Fin 280 := 0
    exact ⟨s, u, by decide +kernel +zetaReduce⟩
  · let s : State := pick Wp.p11.wits1 0
    let h : Fin 16 := 3
    exact ⟨s, h, by decide +kernel +zetaReduce⟩
  · let s : State := pick Wp.p12.wits1 2
    let a : Accessor := ⟨.m, 1⟩
    let v : Nat := 5
    exact ⟨s, a, v, by unfold State.writable; decide +kernel +zetaReduce⟩
  · let s : State := pick Wp.p12.wits1 0
    let a : Accessor := ⟨.m, 1⟩
    let v : Nat := 0
    exact ⟨s, a, v, by unfold State.writable; decide +kernel +zetaReduce⟩
  · let s : State := pick Wp.p12.wits1 0
    let a : Accessor := ⟨.m, 1⟩
    let v : Nat := 280
    exact ⟨s, a, v, by unfold State.writable; decide +kernel +zetaReduce⟩

/-- The hypotheses of `PairAndLink`, each clause's together, hold somewhere. -/
theorem test_hyp_PairAndLink :
    (∃ (s : State) (h : Fin 16), (s.unit (unitHall h)).st = unitRunning ∧ s.journal.length < 1048576 ∧ s.obj .relJournalBase 0 ≠ 0)
    ∧ (∃ (s : State) (h : Fin 16), (s.unit (unitHall h)).st ≠ unitRunning ∧ s.journal.length < 1048576)
    ∧ (∃ (s : State) (a : Accessor) (v : BitVec 64), s.writable a .relMarkQuery 0 v.toNat)
    ∧ (∃ (s : State) (a : Accessor) (v : Nat), s.writable a .pairMode 0 v ∧ v = 0)
    ∧ (Config.orderCode = 1 → (∃ (s : State) (a : Accessor) (v : Nat), s.writable a .pairMode 0 v ∧ v ≠ 0 ∧ s.pairRefusal = 0 ∧ s.obj .chainRole 0 = 0))
    ∧ (∃ (s : State) (a : Accessor) (v : Nat), s.writable a .pairMode 0 v ∧ v ≠ 0 ∧ s.pairRefusal ≠ 0)
    ∧ (Config.orderCode = 1 → (∃ (s : State) (a : Accessor) (v : Nat), s.writable a .pairMode 0 v ∧ v ≠ 0 ∧ s.pairRefusal = 0 ∧ s.obj .chainRole 0 ≠ 0))
    ∧ (∃ (s : State) (a : Accessor), s.writable a .pairRoleReq 0 1 ∧ (s.obj .pairMode 0 ≠ 1 ∨ s.obj .pairState 0 ≠ pairSingle))
    ∧ (∃ (s : State) (a : Accessor) (why : Fin 6), s.writable a .pairRoleReq 0 1 ∧ s.obj .pairMode 0 = 1 ∧ s.obj .pairState 0 = pairSingle ∧ s.peerMode = true ∧ why.val < 3)
    ∧ (∃ (s : State) (a : Accessor) (why : Fin 6), s.writable a .pairRoleReq 0 1 ∧ s.obj .pairMode 0 = 1 ∧ s.obj .pairState 0 = pairSingle ∧ (s.peerMode = false ∨ 3 ≤ why.val))
    ∧ (∃ (s : State), (¬(s.obj .pairState 0 = pairJoining ∧ s.obj .pairRole 0 = 1 ∧ ∀ f ∈ s.dravutOut, f.ty ≠ 8)))
    ∧ (∃ (s : State), s.obj .pairState 0 = pairJoining ∧ s.obj .pairRole 0 = 1 ∧ ((∀ f ∈ s.dravutOut, f.ty ≠ 8)))
    ∧ (∃ (s : State), s.obj .pairMode 0 = 1 ∧ s.peerMode = true)
    ∧ (∃ (s : State), (s.obj .pairMode 0 ≠ 1 ∨ s.peerMode = false))
    ∧ (∃ (s : State), (s.obj .pairState 0 = pairJoining ∨ s.obj .pairState 0 = pairPaired) ∧ s.pins.pairFailOut = false ∧ s.obj .pairRole 0 = 2)
    ∧ (∃ (s : State), (s.obj .pairState 0 = pairJoining ∨ s.obj .pairState 0 = pairPaired) ∧ s.pins.pairFailOut = false ∧ s.obj .pairRole 0 = 1)
    ∧ (∃ (s : State), s.pins.pairFailOut = true)
    ∧ (∃ (s : State), s.obj .pairState 0 ≠ pairJoining ∧ s.obj .pairState 0 ≠ pairPaired)
    ∧ (∃ (s : State), s.peerMode = false)
    ∧ (∃ (s : State) (f : List Byte), s.peerMode = true ∧ linkParse f = none)
    ∧ (∃ (s : State) (f : List Byte) (x : _), s.peerMode = true ∧ linkParse f = some x ∧ (epochOlder 32 (s.objN .pairEpoch 0) x.low = true ∨ x.ty = 0 ∨ 8 < x.ty))
    ∧ (∃ (s : State) (f : List Byte) (x : _), s.peerMode = true ∧ linkParse f = some x ∧ epochOlder 32 (s.objN .pairEpoch 0) x.low = false ∧ x.ty = 6 ∧ ((∀ g ∈ s.dravutOut, g.acts = [])))
    ∧ (∃ (s : State) (f : List Byte) (x : _), s.peerMode = true ∧ linkParse f = some x ∧ epochOlder 32 (s.objN .pairEpoch 0) x.low = false ∧ s.dravutOut = [] ∧ 2 ≤ x.ty ∧ x.ty ≤ 8 ∧ x.ty ≠ 6 ∧ x.fseq ≠ s.dravutExpect ∧ seqBelow x.fseq s.dravutExpect = true)
    ∧ (∃ (s : State) (f : List Byte) (x : _), s.peerMode = true ∧ linkParse f = some x ∧ epochOlder 32 (s.objN .pairEpoch 0) x.low = false ∧ s.dravutOut = [] ∧ 2 ≤ x.ty ∧ x.ty ≤ 8 ∧ x.ty ≠ 6 ∧ x.fseq ≠ s.dravutExpect ∧ seqBelow x.fseq s.dravutExpect = false)
    ∧ (∃ (s : State) (f : List Byte) (x : _), s.peerMode = true ∧ linkParse f = some x ∧ epochOlder 32 (s.objN .pairEpoch 0) x.low = false ∧ s.dravutOut = [] ∧ 2 ≤ x.ty ∧ x.ty ≤ 8 ∧ x.ty ≠ 6 ∧ x.fseq = s.dravutExpect ∧ x.ty = 3 ∧ s.obj .pairRole 0 = 2 ∧ beNat (slice 0 8 x.payload) ≠ ctxLogicAddr ∧ s.inDdr (beNat (slice 0 8 x.payload)) (x.payload.length - 8) = true)
    ∧ (∃ (s : State) (f : List Byte) (x : _), s.peerMode = true ∧ linkParse f = some x ∧ epochOlder 32 (s.objN .pairEpoch 0) x.low = false ∧ s.dravutOut = [] ∧ x.ty = 1 ∧ s.obj .pairMode 0 = 1 ∧ 4 ≤ s.linkLanes) := by
  refine ⟨?_, ?_, ?_, ?_, ?_, ?_, ?_, ?_, ?_, ?_, ?_, ?_, ?_, ?_, ?_, ?_, ?_, ?_, ?_, ?_, ?_, ?_, ?_, ?_, ?_, ?_⟩
  · let s : State := pick Wq.q0.wits1 0
    let h : Fin 16 := 0
    exact ⟨s, h, by decide +kernel +zetaReduce⟩
  · let s : State := pick Wq.q0.wits1 2
    let h : Fin 16 := 3
    exact ⟨s, h, by decide +kernel +zetaReduce⟩
  · let s : State := pick Wq.q1.wits1 0
    let a : Accessor := ⟨.h, 0⟩
    let v : BitVec 64 := (0x0000000000000000 : BitVec 64)
    exact ⟨s, a, v, by unfold State.writable; decide +kernel +zetaReduce⟩
  · let s : State := pick Wq.q2.wits1 0
    let a : Accessor := ⟨.h, 0⟩
    let v : Nat := 0
    exact ⟨s, a, v, by unfold State.writable; decide +kernel +zetaReduce⟩
  · intro hoc
    let s : State := Wq.peered 1 2
    let a : Accessor := ⟨.h, 0⟩
    exact ⟨s, a, 1, by unfold State.writable; decide +kernel +zetaReduce, by decide, by unfold State.pairRefusal; rw [hoc]; decide +kernel +zetaReduce, by decide +kernel +zetaReduce⟩
  · let s : State := Wq.up Wq.ddrUp
    let a : Accessor := ⟨.h, 0⟩
    exact ⟨s, a, 1, by unfold State.writable; decide +kernel +zetaReduce, by decide, by unfold State.pairRefusal; split <;> decide +kernel +zetaReduce⟩
  · intro hoc
    let s : State := (Wq.peered 0 0).setObj .chainRole 0 1
    let a : Accessor := ⟨.h, 0⟩
    exact ⟨s, a, 1, by unfold State.writable; decide +kernel +zetaReduce, by decide, by unfold State.pairRefusal; rw [hoc]; decide +kernel +zetaReduce, by decide +kernel +zetaReduce⟩
  · let s : State := pick Wq.q3.wits1 0
    let a : Accessor := ⟨.h, 0⟩
    exact ⟨s, a, by unfold State.writable; decide +kernel +zetaReduce⟩
  · let s : State := pick Wq.q3.wits1 1
    let a : Accessor := ⟨.h, 0⟩
    let why : Fin 6 := 0
    exact ⟨s, a, why, by unfold State.writable; decide +kernel +zetaReduce⟩
  · let s : State := pick Wq.q3.wits1 1
    let a : Accessor := ⟨.h, 0⟩
    let why : Fin 6 := 3
    exact ⟨s, a, why, by unfold State.writable; decide +kernel +zetaReduce⟩
  · let s : State := pick Wq.q4.wits1 0
    exact ⟨s, by decide +kernel +zetaReduce⟩
  · let s : State := pick Wq.q4.wits1 8
    exact ⟨s, by decide +kernel +zetaReduce⟩
  · let s : State := pick Wq.q4.wits1 2
    exact ⟨s, by decide +kernel +zetaReduce⟩
  · let s : State := pick Wq.q4.wits1 0
    exact ⟨s, by decide +kernel +zetaReduce⟩
  · let s : State := pick Wq.q4.wits1 9
    exact ⟨s, by decide +kernel +zetaReduce⟩
  · let s : State := pick Wq.q4.wits1 2
    exact ⟨s, by decide +kernel +zetaReduce⟩
  · let s : State := pick Wq.q4.wits1 1
    exact ⟨s, by decide +kernel +zetaReduce⟩
  · let s : State := pick Wq.q4.wits1 0
    exact ⟨s, by decide +kernel +zetaReduce⟩
  · let s : State := pick Wq.q5.wits2 0
    exact ⟨s, by decide +kernel +zetaReduce⟩
  · let s : State := pick Wq.q6.wits2 1
    let f : List Byte := pick Wq.q6.wits1 10
    exact ⟨s, f, by decide +kernel +zetaReduce⟩
  · let s : State := pick Wq.q6.wits2 1
    let f : List Byte := pick Wq.q6.wits1 1
    let x := (linkParse f).get (by decide +kernel +zetaReduce)
    exact ⟨s, f, x, by decide +kernel +zetaReduce⟩
  · let s : State := pick Wq.q6.wits2 1
    let f : List Byte := pick Wq.q6.wits1 0
    let x := (linkParse f).get (by decide +kernel +zetaReduce)
    exact ⟨s, f, x, by decide +kernel +zetaReduce⟩
  · let s : State := pick Wq.q6.wits2 1
    let f : List Byte := pick Wq.q6.wits1 5
    let x := (linkParse f).get (by decide +kernel +zetaReduce)
    exact ⟨s, f, x, by decide +kernel +zetaReduce⟩
  · let s : State := pick Wq.q6.wits2 1
    let f : List Byte := pick Wq.q6.wits1 4
    let x := (linkParse f).get (by decide +kernel +zetaReduce)
    exact ⟨s, f, x, by decide +kernel +zetaReduce⟩
  · let s : State := pick Wq.q6.wits2 3
    let f : List Byte := pick Wq.q6.wits1 3
    let x := (linkParse f).get (by decide +kernel +zetaReduce)
    exact ⟨s, f, x, by decide +kernel +zetaReduce⟩
  · let s : State := pick Wq.q6.wits2 16
    let f : List Byte := pick Wq.q6.wits1 6
    let x := (linkParse f).get (by decide +kernel +zetaReduce)
    exact ⟨s, f, x, by decide +kernel +zetaReduce⟩

/-- The hypotheses of `StairwayAndChain`, each clause's together, hold somewhere. -/
theorem test_hyp_StairwayAndChain :
    (∃ (s : State) (a : Accessor) (v : Nat), s.writable a .chainRole 0 v ∧ (v = 0 ∨ s.obj .pairMode 0 = 0))
    ∧ (∃ (s : State) (a : Accessor) (v : Nat), s.writable a .chainRole 0 v ∧ v ≠ 0 ∧ s.obj .pairMode 0 ≠ 0)
    ∧ (∃ (s : State) (h : Fin 16) (m : Nat) (c : Instr), stairHead s h m ∧ s.stairBad m = true ∧ (c = .barrier h ∨ c = .broadcast h ∨ c = .snapshotArm h))
    ∧ (∃ (s : State) (h : Fin 16) (m : Nat), let g := swGroup m; let x := s.stairGroup g; let l := tabGet [] s.stair g; stairHead s h m ∧ s.stairBad m = false ∧ swOp m = 1 ∧ s.landsAbove (sgScope x) = false ∧ (sgCount x = 0 ∨ l.length + 1 < sgCount x))
    ∧ (∃ (s : State) (h : Fin 16) (m : Nat), let g := swGroup m; let x := s.stairGroup g; let l := tabGet [] s.stair g; stairHead s h m ∧ s.stairBad m = false ∧ swOp m = 1 ∧ s.landsAbove (sgScope x) = false ∧ l.length + 1 = sgCount x)
    ∧ (∃ (s : State) (h : Fin 16) (m : Nat), let g := swGroup m; let x := s.stairGroup g; let l := tabGet [] s.stair g; let q := swReply m; stairHead s h m ∧ s.stairBad m = false ∧ swOp m = 1 ∧ s.landsAbove (sgScope x) = false ∧ l = [] ∧ sgCount x = 1 ∧ queueRoom s h q)
    ∧ (∃ (s : State) (h : Fin 16) (m : Nat), let g := swGroup m; let x := s.stairGroup g; stairHead s h m ∧ s.stairBad m = false ∧ swOp m = 1 ∧ s.landsAbove (sgScope x) = true)
    ∧ (∃ (s : State) (h : Fin 16) (m : Nat), stairHead s h m ∧ s.stairBad m = false ∧ swOp m = 2)
    ∧ (∃ (s : State) (h : Fin 16) (m : Nat), let g := swGroup m; let x := s.stairGroup g; let q := swReply m; stairHead s h m ∧ s.stairBad m = false ∧ swOp m = 2 ∧ sgScope x = 0 ∧ s.stairDone = [] ∧ s.stairHeld (swMsg 2 g (swPayload m)) = false ∧ queueRoom s h q ∧ queueRoom s h (sgQueue x) ∧ sgQueue x ≠ q ∧ ((nextPlace s h q + 16 ≤ nextPlace s h (sgQueue x) ∨ nextPlace s h (sgQueue x) + 16 ≤ nextPlace s h q)))
    ∧ (∃ (s : State) (h : Fin 16) (m : Nat), stairHead s h m ∧ s.stairBad m = false ∧ swOp m = 3)
    ∧ (∃ (s : State), ((∃ T ∈ s.stairSnap.armed, T ≤ s.now)))
    ∧ (∃ (s : State), ((∀ T ∈ s.stairSnap.armed, s.now < T)))
    ∧ (∃ (s : State) (a : Accessor) (c : Instr) (v : Nat), ((c = .stairResetDevice a ∧ v = 1) ∨ (c = .stairResetPair a ∧ v = 2) ∨ (c = .stairResetChain a ∧ v = 3)) ∧ s.writable a .stairReset 0 v ∧ (v ≠ 3 ∨ s.obj .chainRole 0 = 1))
    ∧ (∃ (s : State) (a : Accessor) (c : Instr) (v : Nat), ((c = .stairResetDevice a ∧ v = 1) ∨ (c = .stairResetPair a ∧ v = 2) ∨ (c = .stairResetChain a ∧ v = 3)) ∧ s.writable a .stairReset 0 v ∧ v = 3 ∧ s.obj .chainRole 0 ≠ 1)
    ∧ (∃ (s : State), (s.obj .laneQuadMode 12 ≠ 10 ∨ s.obj .chainRole 0 = 0))
    ∧ (∃ (s : State) (f : List Byte), s.obj .laneQuadMode 12 = 10 ∧ s.obj .chainRole 0 ≠ 0 ∧ linkParse f = none)
    ∧ (∃ (s : State) (f : List Byte) (x : _), s.obj .laneQuadMode 12 = 10 ∧ s.obj .chainRole 0 ≠ 0 ∧ linkParse f = some x ∧ x.ty = 6)
    ∧ (∃ (s : State) (down : Bool) (f : List Byte) (x : _), let d := s.munovDir down; s.obj .laneQuadMode 12 = 10 ∧ s.obj .chainRole 0 ≠ 0 ∧ linkParse f = some x ∧ x.ty ≠ 6 ∧ x.fseq ≠ d.expect ∧ seqBelow x.fseq d.expect = false)
    ∧ (∃ (s : State) (down : Bool) (f : List Byte) (x : _), let d := s.munovDir down; s.obj .laneQuadMode 12 = 10 ∧ s.obj .chainRole 0 ≠ 0 ∧ linkParse f = some x ∧ x.ty = 9 ∧ x.fseq = d.expect ∧ bits x.low 31 26 = s.objN .chainAddr 0 ∧ s.obj .chainRole 0 = 1)
    ∧ (∃ (s : State) (down : Bool) (f : List Byte) (x : _), let d := s.munovDir down; s.obj .laneQuadMode 12 = 10 ∧ s.obj .chainRole 0 ≠ 0 ∧ linkParse f = some x ∧ x.ty ≠ 6 ∧ x.fseq = d.expect ∧ bits x.low 31 26 ≠ s.objN .chainAddr 0 ∧ bits x.low 31 26 ≠ 63 ∧ ((down = false ∨ s.obj .chainRole 0 = 2))) := by
  refine ⟨?_, ?_, ?_, ?_, ?_, ?_, ?_, ?_, ?_, ?_, ?_, ?_, ?_, ?_, ?_, ?_, ?_, ?_, ?_, ?_⟩
  · let s : State := pick Wq.q7.wits1 0
    let a : Accessor := ⟨.h, 0⟩
    let v : Nat := 0
    exact ⟨s, a, v, by unfold State.writable; decide +kernel +zetaReduce⟩
  · let s : State := pick Wq.q7.wits1 1
    let a : Accessor := ⟨.h, 0⟩
    let v : Nat := 1
    exact ⟨s, a, v, by unfold State.writable; decide +kernel +zetaReduce⟩
  · let s : State := pick Wq.q8.wits1 0
    let h : Fin 16 := 3
    let m : Nat := 60847228810955011271841753862708
    let c : Instr := pick Wq.q8.wits2 0
    exact ⟨s, h, m, c, stairHead_of s h m (by decide +kernel +zetaReduce) (by decide +kernel +zetaReduce), by decide +kernel +zetaReduce, by decide +kernel +zetaReduce⟩
  · let s : State := pick Wq.q8.wits1 54
    let h : Fin 16 := 3
    let m : Nat := 1334481139872261655543609398363427380
    let g := swGroup m
    let x := s.stairGroup g
    let l := tabGet [] s.stair g
    exact ⟨s, h, m, stairHead_of s h m (by decide +kernel +zetaReduce) (by decide +kernel +zetaReduce), by decide +kernel +zetaReduce, by decide +kernel +zetaReduce, by decide +kernel +zetaReduce, by decide +kernel +zetaReduce⟩
  · let s : State := pick Wq.q8.wits1 48
    let h : Fin 16 := 3
    let m : Nat := 1329288843013726827915078902034207284
    let g := swGroup m
    let x := s.stairGroup g
    let l := tabGet [] s.stair g
    exact ⟨s, h, m, stairHead_of s h m (by decide +kernel +zetaReduce) (by decide +kernel +zetaReduce), by decide +kernel +zetaReduce, by decide +kernel +zetaReduce, by decide +kernel +zetaReduce, by decide +kernel +zetaReduce⟩
  · let s : State := pick Wq.q8.wits1 48
    let h : Fin 16 := 3
    let m : Nat := 1329288843013726827915078902034207284
    let g := swGroup m
    let x := s.stairGroup g
    let l := tabGet [] s.stair g
    let q := swReply m
    exact ⟨s, h, m, stairHead_of s h m (by decide +kernel +zetaReduce) (by decide +kernel +zetaReduce), by decide +kernel +zetaReduce, by decide +kernel +zetaReduce, by decide +kernel +zetaReduce, by decide +kernel +zetaReduce, by decide +kernel +zetaReduce, by unfold queueRoom; decide +kernel +zetaReduce⟩
  · let s : State := pick Wq.q8.wits1 76
    let h : Fin 16 := 3
    let m : Nat := 1350058030447866138429200887351087668
    let g := swGroup m
    let x := s.stairGroup g
    exact ⟨s, h, m, stairHead_of s h m (by decide +kernel +zetaReduce) (by decide +kernel +zetaReduce), by decide +kernel +zetaReduce, by decide +kernel +zetaReduce, by decide +kernel +zetaReduce⟩
  · let s : State := pick Wq.q8.wits1 96
    let h : Fin 16 := 3
    let m : Nat := 2658516838798642700818885962314551860
    exact ⟨s, h, m, stairHead_of s h m (by decide +kernel +zetaReduce) (by decide +kernel +zetaReduce), by decide +kernel +zetaReduce, by decide +kernel +zetaReduce⟩
  · let s : State := pick Wq.q8.wits1 96
    let h : Fin 16 := 3
    let m : Nat := 2658516838798642700818885962314551860
    let g := swGroup m
    let x := s.stairGroup g
    let q := swReply m
    exact ⟨s, h, m, stairHead_of s h m (by decide +kernel +zetaReduce) (by decide +kernel +zetaReduce), by decide +kernel +zetaReduce, by decide +kernel +zetaReduce, by decide +kernel +zetaReduce, by decide +kernel +zetaReduce, by decide +kernel +zetaReduce, by unfold queueRoom; decide +kernel +zetaReduce, by unfold queueRoom; decide +kernel +zetaReduce, by decide +kernel +zetaReduce, by decide +kernel +zetaReduce⟩
  · let s : State := pick Wq.q8.wits1 144
    let h : Fin 16 := 3
    let m : Nat := 3987744834583558573722693022594896436
    exact ⟨s, h, m, stairHead_of s h m (by decide +kernel +zetaReduce) (by decide +kernel +zetaReduce), by decide +kernel +zetaReduce, by decide +kernel +zetaReduce⟩
  · let s : State := pick Wq.q9.wits1 1
    exact ⟨s, by decide +kernel +zetaReduce⟩
  · let s : State := pick Wq.q9.wits1 0
    exact ⟨s, by decide +kernel +zetaReduce⟩
  · let a : Accessor := ⟨.h, 0⟩
    let c : Instr := pick Wq.q10.wits1 0
    let v : Nat := 1
    let s : State := pick Wq.q10.wits2 0
    exact ⟨s, a, c, v, by unfold State.writable; decide +kernel +zetaReduce⟩
  · let a : Accessor := ⟨.h, 0⟩
    let c : Instr := pick Wq.q10.wits1 2
    let v : Nat := 3
    let s : State := pick Wq.q10.wits2 0
    exact ⟨s, a, c, v, by unfold State.writable; decide +kernel +zetaReduce⟩
  · let s : State := pick Wq.q11.wits2 0
    exact ⟨s, by decide +kernel +zetaReduce⟩
  · let s : State := pick Wq.q12.wits2 0
    let f : List Byte := pick Wq.q12.wits1 48
    exact ⟨s, f, by decide +kernel +zetaReduce⟩
  · let s : State := pick Wq.q12.wits2 0
    let f : List Byte := pick Wq.q12.wits1 0
    let x := (linkParse f).get (by decide +kernel +zetaReduce)
    exact ⟨s, f, x, by decide +kernel +zetaReduce⟩
  · let s : State := pick Wq.q12.wits2 0
    let down : Bool := false
    let d := s.munovDir down
    let f : List Byte := pick Wq.q12.wits1 20
    let x := (linkParse f).get (by decide +kernel +zetaReduce)
    exact ⟨s, down, f, x, by decide +kernel +zetaReduce⟩
  · let s : State := pick Wq.q12.wits2 0
    let down : Bool := false
    let d := s.munovDir down
    let f : List Byte := pick Wq.q12.wits1 28
    let x := (linkParse f).get (by decide +kernel +zetaReduce)
    exact ⟨s, down, f, x, by decide +kernel +zetaReduce⟩
  · let s : State := pick Wq.q12.wits2 0
    let down : Bool := false
    let d := s.munovDir down
    let f : List Byte := pick Wq.q12.wits1 17
    let x := (linkParse f).get (by decide +kernel +zetaReduce)
    exact ⟨s, down, f, x, by decide +kernel +zetaReduce⟩

end Sys2Proof.Tests
end

section
/-! SUPPORT. The laws of the pacers: what each operation of a pacer (R30 to R52) shows and what it leaves alone, and from them the
statements about halls and pacing. -/

namespace Sys2Proof.Machine

/-! ### Frames -/

/-- From one state to the other nothing but the objects listed and the pacers changed. -/
structure State.pacesOnly (s t : State) (l : List (Obj × Nat)) : Prop where
  frame : ∃ os ps, t = { s with objs := os, pace := ps }
  objs : s.sameObjsBut t l

section
variable {s t : State} {l : List (Obj × Nat)} {u : Nat}

theorem State.pacesOnly.refl (s : State) (l : List (Obj × Nat)) : s.pacesOnly s l :=
  ⟨⟨_, _, rfl⟩, State.sameObjsBut.refl s l⟩

theorem State.pacesOnly.setObj (h : s.pacesOnly t l) {o : Obj} {n : Nat} (v : Int) (k : (o, n) ∈ l) :
    s.pacesOnly (t.setObj o n v) l := by
  obtain ⟨⟨os, ps, rfl⟩, ho⟩ := h
  exact ⟨⟨_, _, rfl⟩, ho.setObj v k⟩

theorem State.pacesOnly.bump (h : s.pacesOnly t l) {o : Obj} {n : Nat} (k : (o, n) ∈ l) : s.pacesOnly (t.bump o n) l :=
  h.setObj _ k

theorem State.pacesOnly.setPacer (h : s.pacesOnly t l) (u : Nat) (p : PaceSt) : s.pacesOnly (t.setPacer u p) l := by
  obtain ⟨⟨os, ps, rfl⟩, ho⟩ := h
  exact ⟨⟨_, _, rfl⟩, ho.congr rfl⟩

theorem State.pacesOnly.setTrim (h : s.pacesOnly t l) (x : Int) (k : (.hallTrim, u) ∈ l) (k' : (.hallVoltage, u) ∈ l) :
    s.pacesOnly (t.setTrim u x) l :=
  (h.setObj _ k).setObj _ k'

theorem State.pacesOnly.paceEnter (h : s.pacesOnly t l) (st : Int) (k : (.hallPaceState, u) ∈ l) (k' : (.hallTrim, u) ∈ l)
    (k'' : (.hallVoltage, u) ∈ l) : s.pacesOnly (t.paceEnter u st) l :=
  (h.setObj _ k).setTrim _ k' k''

theorem State.pacesOnly.setWindow (h : s.pacesOnly t l) (w : List Int) (k : (.hallSlackTail, u) ∈ l) (k' : (.hallSlackMin, u) ∈ l)
    (k'' : (.hallSlackSamples, u) ∈ l) : s.pacesOnly (t.setWindow u w) l :=
  (((h.setPacer _ _).setObj _ k).setObj _ k').setObj _ k''

/-- Nothing a pacer does removes an event or raises one. -/
theorem State.pacesOnly.events (h : s.pacesOnly t l) : t.events = s.events := by
  obtain ⟨⟨os, ps, rfl⟩, -⟩ := h
  rfl

theorem State.pacesOnly.frame_eq (h : s.pacesOnly t l) : t = { s with objs := t.objs, pace := t.pace } := by
  obtain ⟨⟨os, ps, rfl⟩, -⟩ := h
  rfl

/-- A pacer operation that may raise an event at its end. -/
theorem State.pacesOnly.evtIf (h : s.pacesOnly t l) (c : Bool) (k : EvtKind) (i : Nat) :
    t.evtIf c k u i = { s with objs := (t.evtIf c k u i).objs, pace := (t.evtIf c k u i).pace,
                               events := (t.evtIf c k u i).events } ∧ s.sameObjsBut (t.evtIf c k u i) l := by
  refine ⟨?_, h.objs.congr (State.evtIf_objs ..)⟩
  obtain ⟨⟨os, ps, rfl⟩, -⟩ := h
  unfold State.evtIf
  split <;> rfl

theorem State.pacesOnly.frame_events (h : s.pacesOnly t l) :
    t = { s with objs := t.objs, pace := t.pace, events := t.events } := by
  obtain ⟨⟨os, ps, rfl⟩, -⟩ := h
  rfl

end

/-! ### What each operation shows -/

/-- What an object reads after a counter counted once. -/
@[simp] theorem State.obj_bump_ite (s : State) (o p : Obj) (n m : Nat) :
    (s.bump o n).obj p m = if p = o ∧ m = n then (s.obj o n + 1) % 4294967296 else s.obj p m :=
  s.obj_setObj ..

@[simp] theorem State.events_bump (s : State) (o : Obj) (n : Nat) : (s.bump o n).events = s.events := rfl

@[simp] theorem State.unit_bump (s : State) (o : Obj) (n u : Nat) : (s.bump o n).unit u = s.unit u := rfl

@[simp] theorem State.pacer_bump (s : State) (o : Obj) (n u : Nat) : (s.bump o n).pacer u = s.pacer u := rfl

@[simp] theorem State.obj_setTrim (s : State) (u : Nat) (t : Int) (o : Obj) (n : Nat) :
    (s.setTrim u t).obj o n = if o = .hallVoltage ∧ n = u then levelMicroVolts (s.obj .hallLevel u) - 6250 * t
      else if o = .hallTrim ∧ n = u then t else s.obj o n := by
  simp [State.setTrim, State.obj_setObj]

@[simp] theorem State.pacer_setTrim (s : State) (u : Nat) (t : Int) (n : Nat) : (s.setTrim u t).pacer n = s.pacer n := rfl

@[simp] theorem State.obj_markRaise (s : State) (u : Nat) (o : Obj) (n : Nat) : (s.markRaise u).obj o n = s.obj o n := rfl

@[simp] theorem State.pacer_markRaise (s : State) (u : Nat) :
    (s.markRaise u).pacer u = { s.pacer u with lastRaise := some s.now, raised := true } := by
  simp [State.markRaise]

@[simp] theorem State.obj_paceEnter (s : State) (u : Nat) (st : Int) (o : Obj) (n : Nat) :
    (s.paceEnter u st).obj o n = if o = .hallVoltage ∧ n = u then levelMicroVolts (s.obj .hallLevel u)
      else if o = .hallTrim ∧ n = u then 0 else if o = .hallPaceState ∧ n = u then st else s.obj o n := by
  simp [State.paceEnter, State.obj_setObj]

@[simp] theorem State.pacer_paceEnter (s : State) (u : Nat) (st : Int) (n : Nat) : (s.paceEnter u st).pacer n = s.pacer n := rfl

@[simp] theorem State.obj_setWindow (s : State) (u : Nat) (w : List Int) (o : Obj) (n : Nat) :
    (s.setWindow u w).obj o n = if o = .hallSlackSamples ∧ n = u then (w.length : Int)
      else if o = .hallSlackMin ∧ n = u then windowMin w else if o = .hallSlackTail ∧ n = u then tailEstimate w
      else s.obj o n := by
  simp [State.setWindow, State.obj_setObj]

@[simp] theorem State.pacer_setWindow (s : State) (u : Nat) (w : List Int) :
    (s.setWindow u w).pacer u = { s.pacer u with window := w } := by
  simp [State.setWindow]

@[simp] theorem State.now_setObj (s : State) {o : Obj} (n : Nat) (v : Int) (h : .timeSec ≠ o) (h' : .timeNs ≠ o) :
    (s.setObj o n v).now = s.now := by
  simp [State.now, h, h']

@[simp] theorem State.now_bump (s : State) {o : Obj} (n : Nat) (h : .timeSec ≠ o) (h' : .timeNs ≠ o) :
    (s.bump o n).now = s.now :=
  s.now_setObj n _ h h'

@[simp] theorem State.now_setTrim (s : State) (u : Nat) (t : Int) : (s.setTrim u t).now = s.now := by
  simp [State.setTrim]

@[simp] theorem State.now_markRaise (s : State) (u : Nat) : (s.markRaise u).now = s.now := rfl

@[simp] theorem State.now_setPacer (s : State) (u : Nat) (p : PaceSt) : (s.setPacer u p).now = s.now := rfl

/-! ### Into HOLD, HOT and TRACK -/

/-- What entering HOLD writes. -/
def holdObjs (u : Nat) : List (Obj × Nat) :=
  [(.hallPaceState, u), (.hallTrim, u), (.hallVoltage, u), (.hallSlackTail, u), (.hallSlackMin, u), (.hallSlackSamples, u)]

theorem State.pacesOnly.enterHold {s t : State} {l : List (Obj × Nat)} {u : Nat} (h : s.pacesOnly t l) (k : holdObjs u ⊆ l) :
    s.pacesOnly (t.enterHold u) l := by
  simp only [holdObjs, List.cons_subset] at k
  obtain ⟨kState, kTrim, kVoltage, kTail, kMin, kSamples, -⟩ := k
  exact (h.paceEnter _ kState kTrim kVoltage).setWindow _ kTail kMin kSamples

@[simp] theorem State.paceState_enterHold (s : State) (u : Nat) : (s.enterHold u).obj .hallPaceState u = paceHold := by
  simp [State.enterHold]

@[simp] theorem State.trim_enterHold (s : State) (u : Nat) : (s.enterHold u).obj .hallTrim u = 0 := by
  simp [State.enterHold]

@[simp] theorem State.slackSamples_enterHold (s : State) (u : Nat) : (s.enterHold u).obj .hallSlackSamples u = 0 := by
  simp [State.enterHold]

@[simp] theorem State.paceEn_enterHold (s : State) (u : Nat) : (s.enterHold u).obj .hallPaceEn u = s.obj .hallPaceEn u := by
  simp [State.enterHold]

@[simp] theorem State.level_enterHold (s : State) (u : Nat) : (s.enterHold u).obj .hallLevel u = s.obj .hallLevel u := by
  simp [State.enterHold]

@[simp] theorem State.pacer_enterHold (s : State) (u : Nat) : (s.enterHold u).pacer u = { s.pacer u with window := [] } := by
  simp [State.enterHold]

/-- TRACK is entered, and left for HOT at once at `HALL_HOT_HOLD` or above (R40, R46, log entry 12). -/
def State.enterTrack (s : State) (u : Nat) : State := (s.paceEnter u paceTrack).hotTest u

/-- The one branch of the HOT test that entering TRACK can take. -/
theorem State.enterTrack_eq (s : State) (u : Nat) :
    s.enterTrack u = if s.isHot u then (s.paceEnter u paceTrack).enterHot u else s.paceEnter u paceTrack := by
  simp [State.enterTrack, State.hotTest, State.isHot]

@[simp] theorem State.paceState_enterTrack (s : State) (u : Nat) :
    (s.enterTrack u).obj .hallPaceState u = if s.isHot u then paceHot else paceTrack := by
  rw [State.enterTrack_eq]
  split <;> simp [State.enterHot]

@[simp] theorem State.trim_enterTrack (s : State) (u : Nat) : (s.enterTrack u).obj .hallTrim u = 0 := by
  rw [State.enterTrack_eq]
  split <;> simp [State.enterHot]

@[simp] theorem State.hotEntries_enterTrack (s : State) (u : Nat) : (s.enterTrack u).obj .paceHotEntries u =
    if s.isHot u then (s.obj .paceHotEntries u + 1) % 4294967296 else s.obj .paceHotEntries u := by
  rw [State.enterTrack_eq]
  split <;> simp [State.enterHot]

@[simp] theorem State.pacer_enterTrack (s : State) (u n : Nat) : (s.enterTrack u).pacer n = s.pacer n := by
  rw [State.enterTrack_eq]
  split <;> simp [State.enterHot]

/-- What entering TRACK, and HOT from there, writes. -/
def trackObjs (u : Nat) : List (Obj × Nat) := [(.hallPaceState, u), (.hallTrim, u), (.hallVoltage, u), (.paceHotEntries, u)]

theorem State.pacesOnly.enterTrack {s t : State} {l : List (Obj × Nat)} {u : Nat} (h : s.pacesOnly t l) (k : trackObjs u ⊆ l) :
    s.pacesOnly (t.enterTrack u) l := by
  simp only [trackObjs, List.cons_subset] at k
  obtain ⟨kState, kTrim, kVoltage, kHot, -⟩ := k
  have hTrack := h.paceEnter paceTrack kState kTrim kVoltage
  rw [State.enterTrack_eq]
  split
  · exact (hTrack.paceEnter _ kState kTrim kVoltage).bump kHot
  · exact hTrack

/-! ### Writes -/

/-- What the Lodge counts is no object of a pacer. -/
@[simp] theorem State.obj_countAccess_of_ne (s : State) (a : Accessor) {o : Obj} (n : Nat) (h : o ≠ .lodgeAccesses) :
    (s.countAccess a).obj o n = s.obj o n :=
  State.obj_setObj_of_ne _ _ _ _ h

@[simp] theorem State.pacer_countAccess (s : State) (a : Accessor) (u : Nat) : (s.countAccess a).pacer u = s.pacer u := rfl

@[simp] theorem State.now_countAccess (s : State) (a : Accessor) : (s.countAccess a).now = s.now := by
  simp [State.now]

/-- An accepted write whose effect is on pacers alone: what it changes, with the Lodge's part. -/
theorem State.pacesOnly.accept {s t : State} {a : Accessor} {l : List (Obj × Nat)} (addr : Nat) (v : Int)
    (h : (s.countAccess a).pacesOnly t l) :
    t.acceptAt a addr v = { s with objs := (t.acceptAt a addr v).objs, pace := (t.acceptAt a addr v).pace,
                                   unacked := (t.acceptAt a addr v).unacked }
      ∧ s.sameObjsBut (t.acceptAt a addr v) (l ++ lodgeObjs a) := by
  have hAll := (((State.sameObjsBut.refl s (l ++ lodgeObjs a)).bump (o := .lodgeAccesses) (n := classNo a.cls)
    (by simp [lodgeObjs])).trans (h.objs.mono (List.subset_append_left _ _))).acceptAt (a := a) addr v (by simp [lodgeObjs])
  refine ⟨?_, hAll⟩
  obtain ⟨⟨os, ps, rfl⟩, -⟩ := h
  rw [State.acceptAt_frame]
  rfl

/-! ### A write of `HALL_PACE_EN` -/

/-- The effect of a write of `HALL_PACE_EN` (R46). -/
def State.writePaceEn (s : State) (u v : Nat) : State :=
  if s.obj .hallPaceState u = paceSleep then s.setObj .hallPaceEn u v
  else if v = 0 then (s.setObj .hallPaceEn u v).paceEnter u paceOff
  else if s.obj .hallPaceState u = paceOff ∧ s.obj .hallLevel u ≠ 0 then (s.setObj .hallPaceEn u v).enterHold u
  else s.setObj .hallPaceEn u v

theorem execHallPaceEnWrite_ok {s : State} {a : Accessor} {u : Fin 18} {v : Nat} (h : s.writable a .hallPaceEn u v) :
    execHallPaceEnWrite a u v s
      = .next (((s.countAccess a).writePaceEn u v).acceptAt a (objAddr .hallPaceEn u) v) := by
  simp [execHallPaceEnWrite, State.dictWrite_ok _ h, State.writePaceEn]

theorem State.pacesOnly.writePaceEn (s : State) (u v : Nat) :
    s.pacesOnly (s.writePaceEn u v) ((.hallPaceEn, u) :: holdObjs u) := by
  have hSet := (State.pacesOnly.refl s ((.hallPaceEn, u) :: holdObjs u)).setObj (o := .hallPaceEn) (n := u) v (by simp)
  unfold State.writePaceEn
  split_ifs
  · exact hSet
  · exact hSet.paceEnter _ (by simp [holdObjs]) (by simp [holdObjs]) (by simp [holdObjs])
  · exact hSet.enterHold (List.subset_cons_self _ _)
  · exact hSet

theorem State.paceEn_writePaceEn (s : State) (u v : Nat) : (s.writePaceEn u v).obj .hallPaceEn u = v := by
  unfold State.writePaceEn
  split_ifs <;> simp

/-! ### Snaps -/

theorem State.snap_of_sleep {s : State} {u : Nat} (h : s.obj .hallPaceState u = paceSleep) (c : Int) : s.snap u c = s := by
  simp [State.snap, h]

/-- Outside TRACK and SLEEP a snap is recorded and counted alone (R46). -/
theorem State.snap_of_recorded {s : State} {u : Nat} (h : s.obj .hallPaceState u ≠ paceSleep)
    (h' : s.obj .hallPaceState u ≠ paceTrack) (c : Int) :
    s.snap u c = (s.setObj .hallLastSnapCause u c).bump .paceSnaps u := by
  simp [State.snap, h, h']

/-- A pacer that a snap took out of TRACK (R39, R47, R49). -/
def PaceSt.snapped (p : PaceSt) (now : Int) : PaceSt :=
  { p with lastRaise := some now, raised := true, snapByLevel := p.slewFrom.isSome,
           settleBy := if p.slewFrom.isSome then max p.settleBy (now + 5000) else now + 5000 }

theorem State.snap_of_track {s : State} {u : Nat} (h : s.obj .hallPaceState u = paceTrack) (c : Int) :
    s.snap u c = ((((s.setObj .hallLastSnapCause u c).bump .paceSnaps u).markRaise u).setPacer u
      ((s.pacer u).snapped s.now)).paceEnter u paceSnap := by
  simp [State.snap, h, PaceSt.snapped]

/-- What a snap writes. -/
def snapObjs (u : Nat) : List (Obj × Nat) :=
  [(.hallLastSnapCause, u), (.paceSnaps, u), (.hallPaceState, u), (.hallTrim, u), (.hallVoltage, u)]

theorem State.pacesOnly.snap (s : State) (u : Nat) (c : Int) : s.pacesOnly (s.snap u c) (snapObjs u) := by
  have hCounted := ((State.pacesOnly.refl s (snapObjs u)).setObj (o := .hallLastSnapCause) (n := u) c (by simp [snapObjs])).bump
    (o := .paceSnaps) (n := u) (by simp [snapObjs])
  by_cases hSleep : s.obj .hallPaceState u = paceSleep
  · rw [State.snap_of_sleep hSleep]
    exact State.pacesOnly.refl s _
  · by_cases hTrack : s.obj .hallPaceState u = paceTrack
    · rw [State.snap_of_track hTrack]
      exact ((hCounted.setPacer _ _).setPacer _ _).paceEnter _ (by simp [snapObjs]) (by simp [snapObjs]) (by simp [snapObjs])
    · rw [State.snap_of_recorded hSleep hTrack]
      exact hCounted

/-- A snap outside SLEEP is recorded and counted (R39, R46). -/
theorem State.snap_counted {s : State} {u : Nat} (h : s.obj .hallPaceState u ≠ paceSleep) (c : Int) :
    (s.snap u c).obj .hallLastSnapCause u = c
      ∧ (s.snap u c).obj .paceSnaps u = (s.obj .paceSnaps u + 1) % 4294967296 := by
  by_cases hTrack : s.obj .hallPaceState u = paceTrack
  · simp [State.snap_of_track hTrack]
  · simp [State.snap_of_recorded h hTrack]

/-- A snap outside TRACK leaves the pacer and its trim as they were (R46). -/
theorem State.snap_keeps {s : State} {u : Nat} (h : s.obj .hallPaceState u ≠ paceTrack) (c : Int) :
    (s.snap u c).obj .hallPaceState u = s.obj .hallPaceState u ∧ (s.snap u c).obj .hallTrim u = s.obj .hallTrim u
      ∧ (s.snap u c).pacer u = s.pacer u := by
  by_cases hSleep : s.obj .hallPaceState u = paceSleep
  · simp [State.snap_of_sleep hSleep]
  · simp [State.snap_of_recorded hSleep h]

theorem execHallPaceSnap_ok {s : State} {a : Accessor} {u : Fin 18} {v : Nat} (h : s.writable a .hallPaceSnap u v) :
    execHallPaceSnap a u v s = .next (((s.countAccess a).snap u 4).acceptAt a (objAddr .hallPaceSnap u) v) := by
  simp [execHallPaceSnap, State.dictWrite_ok _ h]

/-! ### A write of `HALL_LEVEL` -/

/-- The effect of a write of `HALL_LEVEL` (R34, R36, R47). -/
def State.writeLevel (s : State) (u v : Nat) : State :=
  if s.obj .hallPaceState u = paceSleep then s.setPacer u { s.pacer u with stored := some (v : Int) }
  else if (v : Int) = s.obj .hallLevel u then s
  else s.levelChange u v

theorem execHallLevelWrite_ok {s : State} {a : Accessor} {u : Fin 18} {v : Nat} (h : s.writable a .hallLevel u v) :
    execHallLevelWrite a u v s = .next (((s.countAccess a).writeLevel u v).acceptAt a (objAddr .hallLevel u) v) := by
  simp [execHallLevelWrite, State.dictWrite_ok _ h, State.writeLevel]

/-- What a change of level writes. -/
def levelObjs (u : Nat) : List (Obj × Nat) :=
  [(.hallLevel, u), (.hallTrim, u), (.hallVoltage, u), (.hallPaceState, u), (.hallLastSnapCause, u), (.paceSnaps, u)]

/-- A pacer whose rail slews from level `old` (R35, R49). -/
def PaceSt.slewing (p : PaceSt) (old now : Int) : PaceSt :=
  { p with slewFrom := some (match p.slewFrom with | some x => min x old | none => old),
           fromP0 := p.fromP0 || decide (old = 0), settleBy := now + 35000 }

/-- A change of level as far as every state shares it: recorded, counted, the level set and the rail slewing; in TRACK it is
a raise too (R39). -/
def State.startSlew (s : State) (u : Nat) (l : Int) : State :=
  let t := (((s.setObj .hallLastSnapCause u 5).bump .paceSnaps u).setObj .hallLevel u l).setPacer u
    ((s.pacer u).slewing (s.obj .hallLevel u) s.now)
  if s.obj .hallPaceState u = paceTrack then t.markRaise u else t

theorem State.levelChange_eq (s : State) (u : Nat) (l : Int) :
    s.levelChange u l =
      if l = 0 then (s.startSlew u l).paceEnter u paceOff
      else if s.obj .hallPaceState u = paceTrack ∨ s.obj .hallPaceState u = paceSnap then
        ((s.startSlew u l).setPacer u { (s.startSlew u l).pacer u with snapByLevel := true }).paceEnter u paceSnap
      else (s.startSlew u l).setTrim u 0 := by
  cases hSlew : (s.pacer u).slewFrom <;> simp [State.levelChange, State.startSlew, PaceSt.slewing, hSlew]

@[simp] theorem State.obj_startSlew (s : State) (u : Nat) (l : Int) (o : Obj) (n : Nat) :
    (s.startSlew u l).obj o n = if o = .hallLevel ∧ n = u then l
      else if o = .paceSnaps ∧ n = u then (s.obj .paceSnaps u + 1) % 4294967296
      else if o = .hallLastSnapCause ∧ n = u then 5 else s.obj o n := by
  unfold State.startSlew
  split <;> simp [State.obj_setObj]

theorem State.slewFrom_startSlew (s : State) (u : Nat) (l : Int) : ((s.startSlew u l).pacer u).slewFrom.isSome := by
  unfold State.startSlew
  split <;> simp [PaceSt.slewing]

theorem State.raised_startSlew {s : State} {u : Nat} (h : s.obj .hallPaceState u = paceTrack) (l : Int) :
    ((s.startSlew u l).pacer u).raised = true ∧ ((s.startSlew u l).pacer u).lastRaise = some s.now := by
  simp [State.startSlew, h]

theorem State.pacesOnly.startSlew (s : State) (u : Nat) (l : Int) : s.pacesOnly (s.startSlew u l) (levelObjs u) := by
  have hSlew := ((((State.pacesOnly.refl s (levelObjs u)).setObj (o := .hallLastSnapCause) (n := u) 5 (by simp [levelObjs])).bump
    (o := .paceSnaps) (n := u) (by simp [levelObjs])).setObj (o := .hallLevel) (n := u) l (by simp [levelObjs])).setPacer u
    ((s.pacer u).slewing (s.obj .hallLevel u) s.now)
  unfold State.startSlew
  split
  · exact hSlew.setPacer _ _
  · exact hSlew

theorem State.pacesOnly.levelChange (s : State) (u : Nat) (l : Int) : s.pacesOnly (s.levelChange u l) (levelObjs u) := by
  have hSlew := State.pacesOnly.startSlew s u l
  rw [State.levelChange_eq]
  split_ifs
  · exact hSlew.paceEnter _ (by simp [levelObjs]) (by simp [levelObjs]) (by simp [levelObjs])
  · exact (hSlew.setPacer _ _).paceEnter _ (by simp [levelObjs]) (by simp [levelObjs]) (by simp [levelObjs])
  · exact hSlew.setTrim _ (by simp [levelObjs]) (by simp [levelObjs])

/-- What a change of level shows in every state (R34, R39). -/
theorem State.levelChange_objs (s : State) (u : Nat) (l : Int) :
    (s.levelChange u l).obj .hallLevel u = l ∧ (s.levelChange u l).obj .hallTrim u = 0
      ∧ (s.levelChange u l).obj .hallVoltage u = levelMicroVolts l ∧ (s.levelChange u l).obj .hallLastSnapCause u = 5
      ∧ (s.levelChange u l).obj .paceSnaps u = (s.obj .paceSnaps u + 1) % 4294967296 := by
  rw [State.levelChange_eq]
  split_ifs <;> simp

/-- Where a change of level leaves the pacer (R46, R47). -/
theorem State.levelChange_state (s : State) (u : Nat) (l : Int) :
    (s.levelChange u l).obj .hallPaceState u = if l = 0 then paceOff
      else if s.obj .hallPaceState u = paceTrack ∨ s.obj .hallPaceState u = paceSnap then paceSnap
      else s.obj .hallPaceState u := by
  rw [State.levelChange_eq]
  split_ifs <;> simp

/-- After a change of level the rail slews, and in TRACK it was a raise (R35, R39). -/
theorem State.levelChange_pacer (s : State) (u : Nat) (l : Int) :
    ((s.levelChange u l).pacer u).slewFrom.isSome
      ∧ (s.obj .hallPaceState u = paceTrack →
          ((s.levelChange u l).pacer u).raised = true ∧ ((s.levelChange u l).pacer u).lastRaise = some s.now) := by
  have hSlew := s.slewFrom_startSlew u l
  have hRaise := fun h => s.raised_startSlew (u := u) h l
  rw [State.levelChange_eq]
  split_ifs <;> simpa using ⟨hSlew, hRaise⟩

theorem State.writeLevel_of_sleep {s : State} {u : Nat} (h : s.obj .hallPaceState u = paceSleep) (v : Nat) :
    s.writeLevel u v = s.setPacer u { s.pacer u with stored := some (v : Int) } := by
  simp [State.writeLevel, h]

theorem State.writeLevel_of_inForce {s : State} {u v : Nat} (h : s.obj .hallPaceState u ≠ paceSleep)
    (hv : (v : Int) = s.obj .hallLevel u) : s.writeLevel u v = s := by
  simp [State.writeLevel, h, hv]

theorem State.writeLevel_of_change {s : State} {u v : Nat} (h : s.obj .hallPaceState u ≠ paceSleep)
    (hv : (v : Int) ≠ s.obj .hallLevel u) : s.writeLevel u v = s.levelChange u v := by
  simp [State.writeLevel, h, hv]

theorem State.pacesOnly.writeLevel (s : State) (u v : Nat) : s.pacesOnly (s.writeLevel u v) (levelObjs u) := by
  unfold State.writeLevel
  split_ifs
  · exact (State.pacesOnly.refl s _).setPacer _ _
  · exact State.pacesOnly.refl s _
  · exact State.pacesOnly.levelChange s u v

/-- A level stored while gated is in force after the restart (R36). -/
theorem State.level_paceRestart {s : State} {u : Nat} {l : Int} (h : (s.pacer u).stored = some l) :
    (s.paceRestart u).obj .hallLevel u = l := by
  unfold State.paceRestart
  simp only [h]
  split <;> simp

/-! ### Raises and lowering steps -/

/-- A pacer whose trim was raised (R39, R47). -/
def PaceSt.raisedAt (p : PaceSt) (now : Int) : PaceSt :=
  { p with lowered := if p.lowered = some now then none else p.lowered, lastRaise := some now, raised := true }

/-- T taken back to what it was before a lowering step of the same instant, which is no longer counted (R39, R47). -/
theorem State.obj_undoLower (s : State) (u : Nat) (o : Obj) (n : Nat) :
    (s.undoLower u).obj o n =
      if (s.pacer u).lowered = some s.now then
        if o = .paceStepsDown ∧ n = u then (s.obj .paceStepsDown u - 1) % 4294967296
        else if o = .hallVoltage ∧ n = u then levelMicroVolts (s.obj .hallLevel u) - 6250 * s.trimBefore u
        else if o = .hallTrim ∧ n = u then s.trimBefore u
        else s.obj o n
      else s.obj o n := by
  unfold State.undoLower
  split <;> simp [State.obj_setObj]

theorem State.now_undoLower (s : State) (u : Nat) : (s.undoLower u).now = s.now := by
  unfold State.undoLower
  split <;> simp

theorem State.pacer_undoLower (s : State) (u : Nat) : (s.undoLower u).pacer u
    = { s.pacer u with lowered := if (s.pacer u).lowered = some s.now then none else (s.pacer u).lowered } := by
  unfold State.undoLower
  split <;> simp

theorem State.trim_undoLower (s : State) (u : Nat) : (s.undoLower u).obj .hallTrim u = s.trimBefore u := by
  rw [State.obj_undoLower]
  split <;> simp [State.trimBefore, *]

@[simp] theorem State.pacer_paceRaise (s : State) (u : Nat) : (s.paceRaise u).pacer u = (s.pacer u).raisedAt s.now := by
  simp [State.paceRaise, PaceSt.raisedAt, State.pacer_undoLower, State.now_undoLower]

/-- A raise takes T down by one from what it was before a lowering step of the same instant, which is taken back (R39, R47). -/
@[simp] theorem State.obj_paceRaise (s : State) (u : Nat) (o : Obj) (n : Nat) :
    (s.paceRaise u).obj o n =
      if o = .paceStepsUp ∧ n = u then (s.obj .paceStepsUp u + 1) % 4294967296
      else if o = .hallVoltage ∧ n = u then levelMicroVolts (s.obj .hallLevel u) - 6250 * (s.trimBefore u - 1)
      else if o = .hallTrim ∧ n = u then s.trimBefore u - 1
      else if o = .paceStepsDown ∧ n = u ∧ (s.pacer u).lowered = some s.now then (s.obj .paceStepsDown u - 1) % 4294967296
      else s.obj o n := by
  simp only [State.paceRaise, State.obj_bump_ite, State.obj_markRaise, State.obj_setTrim, State.trim_undoLower]
  by_cases h : (s.pacer u).lowered = some s.now
  · simp [State.obj_undoLower, h]
    split_ifs <;> rfl
  · simp [State.obj_undoLower, h]

/-- What a raise writes. -/
def raiseObjs (u : Nat) : List (Obj × Nat) := [(.hallTrim, u), (.hallVoltage, u), (.paceStepsUp, u), (.paceStepsDown, u)]

theorem State.pacesOnly.paceRaise {s t : State} {l : List (Obj × Nat)} {u : Nat} (h : s.pacesOnly t l) (k : raiseObjs u ⊆ l) :
    s.pacesOnly (t.paceRaise u) l := by
  simp only [raiseObjs, List.cons_subset] at k
  obtain ⟨kTrim, kVoltage, kUp, kDown, -⟩ := k
  have hUndo : s.pacesOnly (t.undoLower u) l := by
    unfold State.undoLower
    split
    · exact ((h.setTrim _ kTrim kVoltage).setObj _ kDown).setPacer _ _
    · exact h
  exact ((hUndo.setTrim _ kTrim kVoltage).setPacer _ _).bump kUp

/-! ### Rate samples -/

@[simp] theorem State.obj_evtIf (s : State) (c : Bool) (k : EvtKind) (u i : Nat) (o : Obj) (n : Nat) :
    (s.evtIf c k u i).obj o n = s.obj o n :=
  State.obj_congr (State.evtIf_objs ..) o n

@[simp] theorem State.pacer_evtIf (s : State) (c : Bool) (k : EvtKind) (u i n : Nat) : (s.evtIf c k u i).pacer n = s.pacer n := by
  unfold State.evtIf
  split <;> simp

theorem State.events_evtIf (s : State) (c : Bool) (k : EvtKind) (u i : Nat) :
    (s.evtIf c k u i).events = if c then ⟨k, u, i⟩ :: s.events else s.events := by
  unfold State.evtIf
  split <;> simp


/-- A pacer that saw a rate sample (R39, R41). -/
def PaceSt.sampled (p : PaceSt) (rate : Nat) (fault : Bool) : PaceSt :=
  { p with periodRate := some (match p.periodRate with | some x => min x (rate : Int) | none => (rate : Int)),
           faultRun := fault }

/-- A rate sample published and entered in the period's lowest (R39). -/
def State.seeRate (s : State) (u rate : Nat) (fault : Bool) : State :=
  (s.setObj .hallRate u rate).setPacer u ((s.pacer u).sampled rate fault)

@[simp] theorem State.obj_seeRate (s : State) (u rate : Nat) (f : Bool) (o : Obj) (n : Nat) :
    (s.seeRate u rate f).obj o n = if o = .hallRate ∧ n = u then (rate : Int) else s.obj o n := by
  simp [State.seeRate, State.obj_setObj]

@[simp] theorem State.pacer_seeRate (s : State) (u rate : Nat) (f : Bool) :
    (s.seeRate u rate f).pacer u = (s.pacer u).sampled rate f := by
  simp [State.seeRate]

@[simp] theorem State.now_seeRate (s : State) (u rate : Nat) (f : Bool) : (s.seeRate u rate f).now = s.now := by
  simp [State.seeRate]

@[simp] theorem State.events_seeRate (s : State) (u rate : Nat) (f : Bool) : (s.seeRate u rate f).events = s.events := rfl

@[simp] theorem State.trimBefore_seeRate (s : State) (u rate : Nat) (f : Bool) :
    (s.seeRate u rate f).trimBefore u = s.trimBefore u := by
  simp [State.trimBefore, PaceSt.sampled]

theorem PaceSt.periodRate_sampled (p : PaceSt) (rate : Nat) (f : Bool) :
    (p.sampled rate f).periodRate = some (p.periodRate.elim (rate : Int) (min · (rate : Int))) := by
  unfold PaceSt.sampled
  cases p.periodRate <;> rfl

theorem State.pacesOnly.seeRate (s : State) (u rate : Nat) (f : Bool) {l : List (Obj × Nat)} (k : (.hallRate, u) ∈ l) :
    s.pacesOnly (s.seeRate u rate f) l :=
  ((State.pacesOnly.refl s l).setObj _ k).setPacer _ _

/-- What a rate sample writes. -/
def rateObjs (u : Nat) : List (Obj × Nat) :=
  [(.hallRate, u), (.paceFloorFaults, u), (.hallTrim, u), (.hallVoltage, u), (.paceStepsUp, u), (.paceStepsDown, u),
    (.paceRateGuardHits, u)]

section
variable {s : State} {u : Fin 18} {rate : Nat}

/-- A sample below the floor at T = 0 is a floor fault; the rate guard, which asks for T above 0, does not act (R39, R41). -/
theorem execHallRateSample_of_fault (h : s.obj .hallPaceState u ≠ paceSleep) (hT : s.trimBefore u = 0)
    (hR : (rate : Int) < s.unitFloor u) :
    execHallRateSample u rate s = .next (((s.seeRate u rate true).bump .paceFloorFaults u).evtIf (!(s.pacer u).faultRun)
      .floorFault u rate) := by
  cases hRate : (s.pacer u).periodRate <;> simp [execHallRateSample, h, hT, hR, State.seeRate, PaceSt.sampled, hRate]

/-- A sample below the guarded floor at T > 0 reduces T (R39). -/
theorem execHallRateSample_of_guard (h : s.obj .hallPaceState u ≠ paceSleep) (hT : 0 < s.trimBefore u)
    (hR : (rate : Int) * 100 < s.unitFloor u * (100 + s.obj .hallPaceRateGuard u)) :
    execHallRateSample u rate s
      = .next (((s.seeRate u rate false).paceRaise u).bump .paceRateGuardHits u) := by
  cases hRate : (s.pacer u).periodRate <;> simp [execHallRateSample, h, hT, hT.ne', hR, State.seeRate, PaceSt.sampled, hRate]

/-- Any other sample is seen and nothing more. -/
theorem execHallRateSample_of_neither (h : s.obj .hallPaceState u ≠ paceSleep)
    (hF : ¬(s.trimBefore u = 0 ∧ (rate : Int) < s.unitFloor u))
    (hG : ¬(0 < s.trimBefore u ∧ (rate : Int) * 100 < s.unitFloor u * (100 + s.obj .hallPaceRateGuard u))) :
    execHallRateSample u rate s = .next (s.seeRate u rate false) := by
  cases hRate : (s.pacer u).periodRate <;> simp [execHallRateSample, h, hF, hG, State.seeRate, PaceSt.sampled, hRate]

end

/-! ### Periods and lower intervals -/

/-- `HALL_RATE_PACED` takes the lowest sample of the period, if there was one, and the period starts again (R39). -/
def State.closePeriod (s : State) (u : Nat) : State :=
  (match (s.pacer u).periodRate with
    | some r => s.setObj .hallRatePaced u r
    | none => s).setPacer u { s.pacer u with periodLow := false, periodRate := none }

@[simp] theorem State.obj_closePeriod (s : State) (u : Nat) (o : Obj) (n : Nat) :
    (s.closePeriod u).obj o n =
      if o = .hallRatePaced ∧ n = u then (s.pacer u).periodRate.getD (s.obj .hallRatePaced u) else s.obj o n := by
  unfold State.closePeriod
  cases (s.pacer u).periodRate with
  | some r => simp [State.obj_setObj]
  | none =>
    simp only [State.obj_setPacer, Option.getD_none]
    split_ifs with h
    · rw [h.1, h.2]
    · rfl

@[simp] theorem State.pacer_closePeriod (s : State) (u : Nat) :
    (s.closePeriod u).pacer u = { s.pacer u with periodLow := false, periodRate := none } := by
  simp [State.closePeriod]

@[simp] theorem State.now_closePeriod (s : State) (u : Nat) : (s.closePeriod u).now = s.now := by
  unfold State.closePeriod
  cases (s.pacer u).periodRate <;> simp

@[simp] theorem State.trimBefore_closePeriod (s : State) (u : Nat) : (s.closePeriod u).trimBefore u = s.trimBefore u := by
  simp [State.trimBefore]

theorem State.pacesOnly.closePeriod (s : State) (u : Nat) {l : List (Obj × Nat)} (k : (.hallRatePaced, u) ∈ l) :
    s.pacesOnly (s.closePeriod u) l := by
  have hRefl := State.pacesOnly.refl s l
  unfold State.closePeriod
  cases (s.pacer u).periodRate with
  | some r => exact (hRefl.setObj r k).setPacer _ _
  | none => exact hRefl.setPacer _ _

theorem execPacingPeriodEnd_awake {s : State} {u : Fin 18} (h : s.obj .hallPaceState u ≠ paceSleep) :
    execPacingPeriodEnd u s = .next (if 0 < s.trimBefore u ∧ (s.pacer u).periodLow then (s.closePeriod u).paceRaise u
      else s.closePeriod u) := by
  have hExec : execPacingPeriodEnd u s = .next (if 0 < (s.closePeriod u).trimBefore u ∧ (s.pacer u).periodLow then
      (s.closePeriod u).paceRaise u else s.closePeriod u) := by
    rw [execPacingPeriodEnd, if_neg h]
    rfl
  rw [hExec, State.trimBefore_closePeriod]

/-- A lowering step (R39, R47). -/
def State.lowerStep (s : State) (u : Nat) : State :=
  ((s.setTrim u (s.obj .hallTrim u + 1)).setPacer u { s.pacer u with raised := false, lowered := some s.now }).bump
    .paceStepsDown u

/-- The end of a lower interval takes back its raise flag (R39). -/
def State.closeInterval (s : State) (u : Nat) : State := s.setPacer u { s.pacer u with raised := false }

theorem State.pacesOnly.lowerStep {s t : State} {l : List (Obj × Nat)} {u : Nat} (h : s.pacesOnly t l)
    (k : (.hallTrim, u) ∈ l) (k' : (.hallVoltage, u) ∈ l) (k'' : (.paceStepsDown, u) ∈ l) : s.pacesOnly (t.lowerStep u) l :=
  ((h.setTrim _ k k').setPacer _ _).bump k''

theorem execLowerIntervalEnd_awake {s : State} {u : Fin 18} (h : s.obj .hallPaceState u ≠ paceSleep) :
    execLowerIntervalEnd u s
      = .next (if s.mayLower u then (s.closeInterval u).lowerStep u else s.closeInterval u) := by
  simp [execLowerIntervalEnd, h, State.lowerStep, State.closeInterval]

/-! ### Settled rails -/

/-- A pacer whose rail has reached its target (R46). -/
def PaceSt.settled (p : PaceSt) : PaceSt := { p with slewFrom := none, fromP0 := false, snapByLevel := false }

/-- The rail settles and HOLD is entered (R46). -/
def State.settleHold (s : State) (u : Nat) : State := (s.setPacer u (s.pacer u).settled).enterHold u

/-- The rail settles and TRACK is entered, or HOT (R46). -/
def State.settleTrack (s : State) (u : Nat) : State := (s.setPacer u (s.pacer u).settled).enterTrack u

theorem State.settleHold_spec (s : State) (u : Nat) :
    (s.settleHold u).obj .hallPaceState u = paceHold ∧ (s.settleHold u).obj .hallTrim u = 0
      ∧ ((s.settleHold u).pacer u).window = [] ∧ ((s.settleHold u).pacer u).slewFrom = none
      ∧ s.settleHold u = { s with objs := (s.settleHold u).objs, pace := (s.settleHold u).pace } := by
  have hOnly : s.pacesOnly (s.settleHold u) (holdObjs u) := ((State.pacesOnly.refl s _).setPacer _ _).enterHold (List.Subset.refl _)
  refine ⟨State.paceState_enterHold .., State.trim_enterHold .., ?_, ?_, hOnly.frame_eq⟩ <;>
    simp [State.settleHold, PaceSt.settled]

theorem State.settleTrack_spec (s : State) (u : Nat) :
    (s.settleTrack u).obj .hallPaceState u = (if s.isHot u then paceHot else paceTrack) ∧ (s.settleTrack u).obj .hallTrim u = 0
      ∧ ((s.settleTrack u).pacer u).slewFrom = none
      ∧ s.settleTrack u = { s with objs := (s.settleTrack u).objs, pace := (s.settleTrack u).pace } := by
  have hOnly : s.pacesOnly (s.settleTrack u) (trackObjs u) :=
    ((State.pacesOnly.refl s _).setPacer _ _).enterTrack (List.Subset.refl _)
  exact ⟨State.paceState_enterTrack .., State.trim_enterTrack .., by simp [State.settleTrack, PaceSt.settled], hOnly.frame_eq⟩

section
variable {s : State} {u : Nat}

theorem State.railSettled_of_snap (h : s.obj .hallPaceState u = paceSnap) :
    s.railSettled u = if (s.pacer u).snapByLevel then s.settleHold u else s.settleTrack u := by
  simp [State.railSettled, h, PaceSt.settled, State.settleHold, State.settleTrack, State.enterTrack]

/-- A level change that completes in HOLD or TRACK enters HOLD (R46). -/
theorem State.railSettled_of_slew (h : (s.pacer u).slewFrom.isSome)
    (hs : s.obj .hallPaceState u = paceHold ∨ s.obj .hallPaceState u = paceTrack) :
    s.railSettled u = s.settleHold u := by
  rcases hs with hs | hs <;> simp [State.railSettled, hs, h, PaceSt.settled, State.settleHold]

/-- A level change from P0 that completes in OFF with pacing on enters HOLD (R46). -/
theorem State.railSettled_of_start (h : (s.pacer u).slewFrom.isSome) (hs : s.obj .hallPaceState u = paceOff)
    (hp : (s.pacer u).fromP0 = true) (hl : s.obj .hallLevel u ≠ 0) (he : s.obj .hallPaceEn u ≠ 0) :
    s.railSettled u = s.settleHold u := by
  simp [State.railSettled, hs, h, hp, hl, he, PaceSt.settled, State.settleHold]

end

/-! ### Faults of a unit -/

/-- From one state to the other nothing but the freeze bits and states of arbiters changed (R310). -/
structure State.arbitersOnly (s t : State) : Prop where
  frame : ∃ os as, t = { s with objs := os, arbs := as }
  objs : ∀ o n, o ≠ .arbFreeze → o ≠ .arbState → t.obj o n = s.obj o n

theorem State.arbitersOnly.refl (s : State) : s.arbitersOnly s := ⟨⟨_, _, rfl⟩, fun _ _ _ _ => rfl⟩

theorem State.arbitersOnly.trans {s t r : State} (h : s.arbitersOnly t) (k : t.arbitersOnly r) : s.arbitersOnly r := by
  have ho := fun o n hf hs => (k.objs o n hf hs).trans (h.objs o n hf hs)
  obtain ⟨⟨os, as, rfl⟩, -⟩ := h
  obtain ⟨⟨os', as', rfl⟩, -⟩ := k
  exact ⟨⟨_, _, rfl⟩, ho⟩

theorem State.arbitersOnly.setFrozen (s : State) (k f : Nat) : s.arbitersOnly (s.setFrozen k f) := by
  unfold State.setFrozen
  split
  · exact ⟨⟨_, _, rfl⟩, fun o n hf _ => State.obj_setObj_of_ne _ _ _ _ hf⟩
  · exact ⟨⟨_, _, rfl⟩, fun _ _ _ _ => rfl⟩

theorem State.arbitersOnly.arbRefresh (s : State) (k : Nat) : s.arbitersOnly (s.arbRefresh k) := by
  unfold State.arbRefresh
  split
  · exact ⟨⟨_, _, rfl⟩, fun o n _ hs => State.obj_setObj_of_ne _ _ _ _ hs⟩
  · exact .refl s

theorem State.arbitersOnly.freezeInput (s : State) (on : Bool) (k i : Nat) : s.arbitersOnly (s.freezeInput on k i) := by
  unfold State.freezeInput
  dsimp only
  split
  · exact .refl s
  · exact (State.arbitersOnly.setFrozen ..).trans (.arbRefresh ..)

/-- Freezing or thawing a unit's inputs touches arbiters alone (R310, R532). -/
theorem State.arbitersOnly.freezeUnit (s : State) (on : Bool) (u : Nat) : s.arbitersOnly (s.freezeUnit on u) := by
  unfold State.freezeUnit
  induction unitInputs u generalizing s with
  | nil => exact .refl s
  | cons x xs ih => exact (State.arbitersOnly.freezeInput s on x.1 x.2).trans (ih _)

@[simp] theorem State.unit_freezeUnit (s : State) (on : Bool) (u n : Nat) : (s.freezeUnit on u).unit n = s.unit n := by
  obtain ⟨os, as, h⟩ := (State.arbitersOnly.freezeUnit s on u).frame
  rw [h]
  rfl

@[simp] theorem State.obj_loseRequests (s : State) (u : Nat) (o : Obj) (n : Nat) : (s.loseRequests u).obj o n = s.obj o n := rfl

@[simp] theorem State.unit_loseRequests (s : State) (u n : Nat) : (s.loseRequests u).unit n = s.unit n := rfl

/-- A restart writes objects, units, arbiters and what the cores wait for. -/
theorem State.arbitersOnly.loseRequests_frame {s t r : State} (h : t.arbitersOnly r)
    (ht : ∃ os us, t = { s with objs := os, units := us }) (u : Nat) :
    r.loseRequests u = { s with objs := (r.loseRequests u).objs, units := (r.loseRequests u).units,
                                arbs := (r.loseRequests u).arbs, cores := (r.loseRequests u).cores } := by
  obtain ⟨os, us, rfl⟩ := ht
  obtain ⟨⟨os', as, rfl⟩, -⟩ := h
  rfl

/-- A unit that a fault restarts, with its record of the faults within the window (R534, R560). -/
def UnitSt.restarted (x : UnitSt) (code : Nat) (now : Int) (faults : List Int) : UnitSt :=
  { x with faults := faults, lastCode := code, lastTime := now, st := unitRestarting, restarts := x.restarts + 1, since := now }

theorem State.unitFault_ignored {s : State} {u : Nat} (h : (s.unit u).st = unitSleeping ∨ (s.unit u).st = unitRetired)
    (code : Nat) : s.unitFault u code = s := by
  simp [State.unitFault, h]

/-- The window holds no more faults than are recorded, and the present one. -/
theorem windowFaults_length_le (s : State) (u : Nat) : (windowFaults s u).length ≤ (s.unit u).faults.length + 1 :=
  Nat.succ_le_succ (List.length_filter_le _ _)

/-- While the faults of the window stay below the limit, a fault restarts the unit (R534). -/
theorem State.unitFault_restarts {s : State} {u : Nat} (hSleep : (s.unit u).st ≠ unitSleeping)
    (hRetired : (s.unit u).st ≠ unitRetired) (hLimit : ((windowFaults s u).length : Int) < s.obj .relFaultLimit 0) (code : Nat) :
    s.unitFault u code = ((((s.bump .relFaults 0).setUnit u ((s.unit u).restarted code s.now (windowFaults s u))).bump
      .relRestarts 0).freezeUnit true u).loseRequests u := by
  have hKept : (s.bump .relFaults 0).obj .relFaultLimit 0 = s.obj .relFaultLimit 0 := by simp
  unfold State.unitFault
  rw [if_neg (not_or.mpr ⟨hSleep, hRetired⟩)]
  exact if_neg fun hRetire => absurd (hKept ▸ hRetire.1) (not_le.mpr hLimit)

end Sys2Proof.Machine

section
open Sys2Proof Sys2Proof.Machine

/-- Settles O7: what each write does is one case of its effect, `State.writePaceEn` or `State.snap`, and the Lodge's part of an
accepted write touches neither the pacers nor their objects. -/
theorem paceEnableAndSnapWrites : Obligations.PaceEnableAndSnapWrites := by
  intro s a u v
  refine ⟨fun h => ?_, fun h => ?_⟩
  · obtain ⟨hFrame, hObjs⟩ := (State.pacesOnly.writePaceEn (s.countAccess a) u v).accept (objAddr .hallPaceEn u) v
    refine ⟨_, execHallPaceEnWrite_ok h, ?_, fun hSleep => ?_, fun hAwake hZero => ?_, fun hOff hOne hLevel => ?_, hFrame, hObjs⟩
    · simp [State.obj_acceptAt, State.paceEn_writePaceEn]
    · simp [State.obj_acceptAt, State.writePaceEn, hSleep]
    · simp [State.obj_acceptAt, State.writePaceEn, hAwake, hZero]
    · simp [State.obj_acceptAt, State.writePaceEn, hOff, hOne, hLevel]
  · obtain ⟨hFrame, hObjs⟩ := (State.pacesOnly.snap (s.countAccess a) u 4).accept (objAddr .hallPaceSnap u) v
    have hState : (s.countAccess a).obj .hallPaceState u = s.obj .hallPaceState u := by simp
    refine ⟨_, execHallPaceSnap_ok h, fun hAwake => ?_, fun hSleep => ?_, fun hTrack => ?_, fun hOther => ?_, hFrame, hObjs⟩
    · simpa [State.obj_acceptAt] using State.snap_counted (hState.trans_ne hAwake) 4
    · simp [State.obj_acceptAt, State.snap_of_sleep (hState.trans hSleep)]
    · simp [State.obj_acceptAt, State.snap_of_track (hState.trans hTrack), PaceSt.snapped]
    · simpa [State.obj_acceptAt] using State.snap_keeps (hState.trans_ne hOther) 4

/-- Settles O8: the three cases of `State.writeLevel`, with the laws of a change of level. -/
theorem levelWriteSlewsOrIsStored : Obligations.LevelWriteSlewsOrIsStored := by
  intro s a u v h
  have hState : (s.countAccess a).obj .hallPaceState u = s.obj .hallPaceState u := by simp
  have hLevel : (s.countAccess a).obj .hallLevel u = s.obj .hallLevel u := by simp
  obtain ⟨hFrame, hObjs⟩ := (State.pacesOnly.writeLevel (s.countAccess a) u v).accept (objAddr .hallLevel u) v
  refine ⟨_, execHallLevelWrite_ok h, fun hSleep => ?_, fun hAwake hSame => ?_, fun hAwake hNew => ?_, hFrame, hObjs⟩
  · rw [State.writeLevel_of_sleep (hState.trans hSleep)]
    have hKept := ((State.pacesOnly.refl (s.countAccess a) []).setPacer u
      { (s.countAccess a).pacer u with stored := some (v : Int) }).accept (objAddr .hallLevel u) v
    exact ⟨by simp, hKept.2, State.level_paceRestart (by simp)⟩
  · rw [State.writeLevel_of_inForce (hState.trans_ne hAwake) (hSame.trans hLevel.symm)]
    exact ⟨by simp, ((State.pacesOnly.refl (s.countAccess a) []).accept (objAddr .hallLevel u) v).2⟩
  · rw [State.writeLevel_of_change (hState.trans_ne hAwake) (fun e => hNew (e.trans hLevel))]
    obtain ⟨hSet, hTrim, hVolts, hCause, hCount⟩ := (s.countAccess a).levelChange_objs u v
    obtain ⟨hSlew, hRaise⟩ := (s.countAccess a).levelChange_pacer u v
    simp only [ne_eq, reduceCtorEq, not_false_eq_true, State.obj_acceptAt, State.pacer_acceptAt]
    refine ⟨hSet, hTrim, hVolts, hCause, by simpa using hCount, hSlew, by simpa using hRaise, ?_⟩
    simpa using (s.countAccess a).levelChange_state u v

/-- Settles O9: a rate sample is one of three cases, of which only the floor fault raises an event and only the guard moves the
trim; the ends of periods and intervals are one case each. -/
theorem pacerSamplesAndSteps : Obligations.PacerSamplesAndSteps := by
  intro s u
  refine ⟨fun hSleep rate => ?_, fun rate hAwake => ?_, fun hAwake => ?_, fun hAwake => ?_⟩
  · simp [execHallRateSample, execPacingPeriodEnd, execLowerIntervalEnd, hSleep]
  · by_cases hFault : s.trimBefore u = 0 ∧ (rate : Int) < s.unitFloor u
    · obtain ⟨hTrim, hFloor⟩ := hFault
      obtain ⟨hFrame, hObjs⟩ := ((State.pacesOnly.seeRate s u rate true (l := rateObjs u) (by simp [rateObjs])).bump
        (o := .paceFloorFaults) (n := u) (by simp [rateObjs])).evtIf (u := u) (!(s.pacer u).faultRun) .floorFault rate
      refine ⟨_, execHallRateSample_of_fault hAwake hTrim hFloor, ?_, ?_, ?_, ?_, ?_, hFrame, hObjs⟩
      · simp
      · simp only [State.pacer_evtIf, State.pacer_bump, State.pacer_seeRate, PaceSt.periodRate_sampled]
        cases (s.pacer u).periodRate <;> rfl
      · simp [hTrim, hFloor]
      · simp [hTrim]
      · simp [State.events_evtIf, hTrim, hFloor]
    · by_cases hGuard : 0 < s.trimBefore u ∧ (rate : Int) * 100 < s.unitFloor u * (100 + s.obj .hallPaceRateGuard u)
      · have hOnly := ((State.pacesOnly.seeRate s u rate false (l := rateObjs u) (by simp [rateObjs])).paceRaise (u := u)
          (by simp [rateObjs, raiseObjs])).bump (o := .paceRateGuardHits) (n := u) (by simp [rateObjs])
        refine ⟨_, execHallRateSample_of_guard hAwake hGuard.1 hGuard.2, ?_, ?_, ?_, ?_, ?_, hOnly.frame_events, hOnly.objs⟩
        · simp
        · simp only [State.pacer_bump, State.pacer_paceRaise, PaceSt.raisedAt, State.pacer_seeRate, PaceSt.periodRate_sampled]
          cases (s.pacer u).periodRate <;> rfl
        · simp [hFault]
        · rw [if_pos hGuard]
          simp [PaceSt.raisedAt, PaceSt.sampled]
        · rw [hOnly.events, if_neg fun h => hFault ⟨h.1, h.2.1⟩]
      · have hOnly := State.pacesOnly.seeRate s u rate false (l := rateObjs u) (by simp [rateObjs])
        refine ⟨_, execHallRateSample_of_neither hAwake hFault hGuard, ?_, ?_, ?_, ?_, ?_, hOnly.frame_events, hOnly.objs⟩
        · simp
        · simp only [State.pacer_seeRate, PaceSt.periodRate_sampled]
          cases (s.pacer u).periodRate <;> rfl
        · simp [hFault]
        · rw [if_neg hGuard]
          simp
        · rw [hOnly.events, if_neg fun h => hFault ⟨h.1, h.2.1⟩]
  · have hClose := State.pacesOnly.closePeriod s u (l := (.hallRatePaced, u.val) :: raiseObjs u) (by simp)
    refine ⟨_, execPacingPeriodEnd_awake hAwake, ?_⟩
    by_cases hRaise : 0 < s.trimBefore u ∧ (s.pacer u).periodLow
    · have hOnly := hClose.paceRaise (u := u) (List.subset_cons_self _ _)
      rw [if_pos hRaise]
      refine ⟨?_, ?_, ?_, ?_, ?_, ?_, hOnly.frame_eq, hOnly.objs⟩ <;> simp [hRaise, PaceSt.raisedAt]
    · rw [if_neg hRaise]
      have hNoStep : ¬(0 < s.trimBefore u ∧ (s.pacer u).periodLow ∧ (s.pacer u).lowered = some s.now) :=
        fun h => hRaise ⟨h.1, h.2.1⟩
      refine ⟨?_, ?_, ?_, ?_, ?_, ?_, hClose.frame_eq, hClose.objs⟩ <;> simp [hRaise, hNoStep]
  · have hClose := (State.pacesOnly.refl s [(.hallTrim, u.val), (.hallVoltage, u.val), (.paceStepsDown, u.val)]).setPacer u
      { s.pacer u with raised := false }
    refine ⟨_, execLowerIntervalEnd_awake hAwake, ?_⟩
    by_cases hLower : s.mayLower u
    · have hOnly := hClose.lowerStep (u := u) (by simp) (by simp) (by simp)
      rw [if_pos hLower]
      refine ⟨?_, ?_, ?_, ?_, hOnly.frame_eq, hOnly.objs⟩ <;> simp [hLower, State.closeInterval, State.lowerStep]
    · rw [if_neg hLower]
      refine ⟨?_, ?_, ?_, ?_, hClose.frame_eq, hClose.objs⟩ <;> simp [hLower, State.closeInterval]

/-- Settles O10: each settled rail is one case of `State.railSettled`; the faults recorded bound those of the window. -/
theorem railAndHoldEvents : Obligations.RailAndHoldEvents := by
  intro s u
  obtain ⟨hHold, hHoldTrim, hHoldWindow, hHoldSlew, hHoldFrame⟩ := s.settleHold_spec u
  refine ⟨fun hSnap => ?_, fun hSnap => ?_, fun hSlew hState => ?_, fun hSlew hOff hP0 hLevel hEn => ?_, fun hNone => ?_,
    fun hState => ?_, fun x hx hSleep hRetired hLimit => ?_, fun x hx hDown => ?_⟩
  · refine ⟨_, congrArg Host.Outcome.next (if_pos hSnap), ?_⟩
    rw [State.railSettled_of_snap hSnap]
    by_cases hLevel : (s.pacer u).snapByLevel
    · simp only [if_pos hLevel]
      exact ⟨hHold, hHoldTrim, hHoldSlew, hHoldFrame⟩
    · simp only [if_neg hLevel]
      exact s.settleTrack_spec u
  · simp [execSnapRailSettled, hSnap]
  · refine ⟨_, congrArg Host.Outcome.next (if_pos hSlew), ?_⟩
    rw [State.railSettled_of_slew hSlew hState]
    exact ⟨hHold, hHoldTrim, hHoldWindow, hHoldSlew, hHoldFrame⟩
  · refine ⟨_, congrArg Host.Outcome.next (if_pos hSlew), ?_⟩
    rw [State.railSettled_of_start hSlew hOff hP0 hLevel hEn]
    exact ⟨hHold, hHoldTrim, hHoldSlew, hHoldFrame⟩
  · simp [execLevelSlewDone, hNone]
  · have hTrack := (State.pacesOnly.refl s (trackObjs u)).enterTrack (u := u) (List.Subset.refl _)
    exact ⟨_, congrArg Host.Outcome.next (if_pos hState), State.paceState_enterTrack s u, State.trim_enterTrack s u,
      State.hotEntries_enterTrack s u, hTrack.frame_eq⟩
  · subst hx
    have hWindow := windowFaults_length_le s (192 + u)
    have hFreeze := State.arbitersOnly.freezeUnit (((s.bump .relFaults 0).setUnit (192 + u)
      ((s.unit (192 + u)).restarted 2 s.now (windowFaults s (192 + u)))).bump .relRestarts 0) true (192 + u)
    refine ⟨_, congrArg Host.Outcome.next (State.unitFault_restarts (u := 192 + u) hSleep hRetired (by omega) 2), ?_, ?_, ?_, ?_,
      hFreeze.loseRequests_frame ⟨_, _, rfl⟩ _⟩
    · simp [UnitSt.restarted]
    · simp [UnitSt.restarted]
    · simp [UnitSt.restarted]
    · simp [hFreeze.objs .relFaults 0 (by simp) (by simp)]
  · subst hx
    simp [execHallRailUndervoltage, State.unitFault_ignored (u := unitOfPacer u) hDown]

/-- Settles O3: at reset the store of objects and the memory list nothing, so that each reads its default. -/
theorem resetLeavesDefaults : Obligations.ResetLeavesDefaults := by
  have hDefault : ∀ (o : Obj) (n : Nat), State.reset.obj o n = o.default n := fun _ _ => rfl
  exact ⟨hDefault, fun u => ⟨hDefault .hallLevel u, hDefault .hallTrim u⟩, fun _ => rfl, rfl, rfl, rfl, rfl⟩

end
end

section
/-! SUPPORT. Every step keeps the memories in canonical form. A lemma per function of the model that answers a state says that
it keeps the form, each from the lemmas of the functions it calls, in the order of the model's files. The memories are written
only through `memWrite` and `flashWrite`, and cleared only by a filter. -/

namespace Sys2Proof.Machine

/-! ### The canonical form of the three memories -/

/-- Bytes programmed into the flash keep its canonical form. -/
theorem Memory.wf.flashWrite {m : Tab Byte} {a : Nat} {l : List Byte} (h : Memory.wf 0xFF m) :
    Memory.wf 0xFF (flashWrite m a l) := by
  induction l generalizing m a with
  | nil => exact h
  | cons b r ih => exact ih (h.tabSet a b)

/-- Global memory, the cores' memories and the boot flash are in canonical form. -/
structure MemsCanon (mem coreMem flash : Tab Byte) : Prop where
  mem : Memory.wf 0 mem
  coreMem : Memory.wf 0 coreMem
  flash : Memory.wf 0xFF flash

/-- The memories of a state are in canonical form. -/
def State.Canon (s : State) : Prop := MemsCanon s.mem s.coreMem s.flash

theorem State.canon_iff {s : State} : s.Canon ↔ s.memWf :=
  ⟨fun h => ⟨h.mem, h.coreMem, h.flash⟩, fun ⟨hMem, hCoreMem, hFlash⟩ => ⟨hMem, hCoreMem, hFlash⟩⟩

/-- The next state, if the outcome is one, has its memories in canonical form. -/
def AnswersCanon : Host.Outcome State Fault Refusal → Prop
  | .next t => t.Canon
  | _ => True

theorem AnswersCanon.of_next {t : State} (h : t.Canon) : AnswersCanon (.next t) := h

namespace MemsCanon

theorem of {s : State} (hs : s.Canon) : MemsCanon s.mem s.coreMem s.flash := hs

section
variable {mem coreMem flash : Tab Byte} (h : MemsCanon mem coreMem flash)
include h

theorem write_mem {a : Nat} {l : List Byte} : MemsCanon (memWrite mem a l) coreMem flash :=
  ⟨h.mem.memWrite a l, h.coreMem, h.flash⟩

theorem write_coreMem {a : Nat} {l : List Byte} : MemsCanon mem (memWrite coreMem a l) flash :=
  ⟨h.mem, h.coreMem.memWrite a l, h.flash⟩

theorem flashWrite {a : Nat} {l : List Byte} : MemsCanon mem coreMem (flashWrite flash a l) :=
  ⟨h.mem, h.coreMem, h.flash.flashWrite⟩

theorem filter_mem {f : Nat × Byte → Bool} : MemsCanon (mem.filter f) coreMem flash :=
  ⟨h.mem.filter f, h.coreMem, h.flash⟩

theorem filter_coreMem {f : Nat × Byte → Bool} : MemsCanon mem (coreMem.filter f) flash :=
  ⟨h.mem, h.coreMem.filter f, h.flash⟩

theorem filter_flash {f : Nat × Byte → Bool} : MemsCanon mem coreMem (flash.filter f) :=
  ⟨h.mem, h.coreMem, h.flash.filter f⟩

end

end MemsCanon

namespace State.Canon
variable {s : State}

/-! ### Ways to build a state -/

/-- Only the memories count: the other fields of a state are what they will. Stated over the constructor, so that its
arguments are matched and no record update is computed. -/
theorem of_mems {pending freeCtr objs doms events outbox pace unacked units pins mem journal jseqNext upsets eccLog
    hotQueue scrubLated scrub elapsed ddr sparesUsed sppr repairs coreMem cores sched carriers steer ulJobs dlJobs ulSeq
    ulBufs ulPrev arms engBusy codecs hBufs rnnBufs harq harqPool decIters pra praJobs llrDone txMaps dlSlots dlMissed
    frameStores txSeq td txOffers ctx dravutOut dravutNext dravutExpect arbs galEpochs gal lanes ports txQueue erx etx time
    staged rings bme msixMasked msixPending windows naps i3c stageLog jcopies pwr therm sh flash stairSnap stair stairDone
    pair munov} (h : MemsCanon mem coreMem flash) : (State.mk pending freeCtr objs doms events outbox pace unacked units
    pins mem journal jseqNext upsets eccLog hotQueue scrubLated scrub elapsed ddr sparesUsed sppr repairs coreMem cores
    sched carriers steer ulJobs dlJobs ulSeq ulBufs ulPrev arms engBusy codecs hBufs rnnBufs harq harqPool decIters pra
    praJobs llrDone txMaps dlSlots dlMissed frameStores txSeq td txOffers ctx dravutOut dravutNext dravutExpect arbs
    galEpochs gal lanes ports txQueue erx etx time staged rings bme msixMasked msixPending windows naps i3c stageLog jcopies
    pwr therm sh flash stairSnap stair stairDone pair munov).Canon := h

theorem writeMem {a : Nat} {l : List Byte} (hs : s.Canon) : (s.writeMem a l).Canon := .of_mems (.write_mem (.of hs))
theorem writeCore {c a : Nat} {l : List Byte} (hs : s.Canon) : (s.writeCore c a l).Canon := .of_mems (.write_coreMem (.of hs))

theorem ite {p : Prop} [Decidable p] {t : State} (hs : s.Canon) (ht : t.Canon) : (if p then s else t).Canon := by
  split <;> assumption

theorem ite_fst {α : Type} {p : Prop} [Decidable p] {s t : State × α} (hs : s.1.Canon) (ht : t.1.Canon) :
    (if p then s else t).1.Canon := by
  split <;> assumption

theorem foldl {α : Type} {f : State → α → State} {l : List α} (hs : s.Canon) (hf : ∀ s x, s.Canon → (f s x).Canon) :
    (l.foldl f s).Canon := by
  induction l generalizing s with
  | nil => exact hs
  | cons x r ih => exact ih (hf _ _ hs)

theorem foldl_fst {α β : Type} {p : State × β} {f : State × β → α → State × β} {l : List α} (hs : p.1.Canon)
    (hf : ∀ p x, p.1.Canon → (f p x).1.Canon) : (l.foldl f p).1.Canon := by
  induction l generalizing p with
  | nil => exact hs
  | cons x r ih => exact ih (hf _ _ hs)

/-! ### Ops -/

theorem setObj {o : Obj} {n : Nat} {v : Int} (hs : s.Canon) : (s.setObj o n v).Canon := hs
theorem bump {o : Obj} {n : Nat} (hs : s.Canon) : (s.bump o n).Canon := .setObj hs
theorem bumpBy {o : Obj} {n k : Nat} (hs : s.Canon) : (s.bumpBy o n k).Canon := .setObj hs
theorem bumpIf {c : Bool} {o : Obj} {n : Nat} (hs : s.Canon) : (s.bumpIf c o n).Canon := .ite (.bump hs) hs
theorem setDom {o : Obj} {n : Nat} {v : List Byte} (hs : s.Canon) : (s.setDom o n v).Canon := hs
theorem evt {k : EvtKind} {unit info : Nat} (hs : s.Canon) : (s.evt k unit info).Canon := hs
theorem evtIf {c : Bool} {k : EvtKind} {unit info : Nat} (hs : s.Canon) : (s.evtIf c k unit info).Canon := .ite (.evt hs) hs
theorem freeUsed (hs : s.Canon) : s.freeUsed.Canon := hs
theorem send {m : OutMsg} (hs : s.Canon) : (s.send m).Canon := hs

/-! ### Lodge -/

theorem countAccess {a : Accessor} (hs : s.Canon) : (s.countAccess a).Canon := .bump hs
theorem refuseAt {a : Accessor} {st : Status} {addr : Nat} (hs : s.Canon) : (s.refuseAt a st addr).Canon := .bump (.setObj hs)

theorem acceptAt {a : Accessor} {addr : Nat} {v : Int} (hs : s.Canon) : (s.acceptAt a addr v).Canon :=
  .ite (.setObj hs) (.of_mems (.of (.setObj hs)))

theorem dictWrite {a : Accessor} {o : Obj} {n : Nat} {v : Int} {chk : Status} {eff : State → State} (hs : s.Canon)
    (heff : ∀ t, t.Canon → (eff t).Canon) : (s.dictWrite a o n v chk eff).Canon := by
  unfold State.dictWrite
  split; exacts [hs, .ite (.acceptAt (heff _ (.countAccess hs))) (.refuseAt (.countAccess hs))]

/-! ### ArbOps -/

theorem setArb {k : Nat} {x : ArbSt} (hs : s.Canon) : (s.setArb k x).Canon := hs
theorem arbRefresh {k : Nat} (hs : s.Canon) : (s.arbRefresh k).Canon := .ite (.setObj hs) hs
theorem setFrozen {k f : Nat} (hs : s.Canon) : (s.setFrozen k f).Canon := .ite (.setObj hs) (.setArb hs)
theorem arbGrant {k ptr holder : Nat} (hs : s.Canon) : (s.arbGrant k ptr holder).Canon := .ite (.setObj (.setObj hs)) (.setArb hs)
theorem freezeInput {on : Bool} {k i : Nat} (hs : s.Canon) : (s.freezeInput on k i).Canon := .ite hs (.arbRefresh (.setFrozen hs))
theorem arbRelease {k i : Nat} (hs : s.Canon) : (s.arbRelease k i).Canon := .ite (.arbRefresh (.arbGrant hs)) hs
theorem freezeUnit {on : Bool} {u : Nat} (hs : s.Canon) : (s.freezeUnit on u).Canon := .foldl hs fun _ _ hs => .freezeInput hs

theorem cutUnit {u : Nat} (hs : s.Canon) : (s.cutUnit u).Canon :=
  .foldl hs fun _ _ hs => .ite (.setArb (.arbRelease hs)) (.arbRelease hs)

/-! ### RelOps -/

theorem setUnit {u : Nat} {x : UnitSt} (hs : s.Canon) : (s.setUnit u x).Canon := hs
theorem assertModuleFault (hs : s.Canon) : s.assertModuleFault.Canon := hs
theorem loseRequests {u : Nat} (hs : s.Canon) : (s.loseRequests u).Canon := hs

theorem unitFault {u code : Nat} (hs : s.Canon) : (s.unitFault u code).Canon :=
  .ite hs (.ite (.ite (.assertModuleFault (.evt (.bump (.setUnit (.bump hs))))) (.evt (.bump (.setUnit (.bump hs)))))
    (.loseRequests (.freezeUnit (.bump (.setUnit (.bump hs))))))

theorem takeWake (hs : s.Canon) : s.takeWake.Canon := .ite (.of_mems (.of (.setObj hs))) hs
theorem assertWake {b : Nat} (hs : s.Canon) : (s.assertWake b).Canon := .ite (.takeWake (.of_mems (.of (.bumpIf hs)))) hs

theorem journalAppend {kind unitNo ring seq data : Nat} {body : List Byte} (hs : s.Canon) :
    (s.journalAppend kind unitNo ring seq data body).Canon :=
  .ite hs (.of_mems (.of (.writeMem hs)))

/-! ### EccOps -/

theorem setUpset {l : MemLoc} {w : Nat} (hs : s.Canon) : (s.setUpset l w).Canon := hs
theorem setLogEntry {m i : Nat} {e : LogEntry} (hs : s.Canon) : (s.setLogEntry m i e).Canon := .setObj (.of_mems (.of hs))

theorem takeEntry {m : Nat} {p : Nat × Nat × Nat} (hs : s.Canon) : (s.takeEntry m p).2.Canon := by
  unfold State.takeEntry
  split
  · exact hs
  · split
    · exact hs
    · split
      · exact .bump hs
      · exact .bump hs

theorem queueHot {m i : Nat} (hs : s.Canon) : (s.queueHot m i).Canon := .ite hs (.of_mems (.of hs))
theorem unrepairedFault {m : Nat} (hs : s.Canon) : (s.unrepairedFault m).Canon := .ite (.unitFault hs) (.ite (.unitFault hs) hs)

theorem markUnrepaired {m i : Nat} (hs : s.Canon) : (s.markUnrepaired m i).Canon :=
  .unrepairedFault (.evt (.bump (.setLogEntry hs)))

theorem logCorrection {l : MemLoc} {src : Nat} {bs : List Nat} (hs : s.Canon) : (s.logCorrection l src bs).Canon := by
  have ht := takeEntry (m := ctrlOf l) (p := logPlace l) hs
  unfold State.logCorrection
  dsimp only
  split
  · next heq => rwa [heq] at ht
  · next heq =>
    rw [heq] at ht
    exact .ite (.ite (.queueHot (.bump (.setLogEntry ht))) (.setLogEntry ht))
      (.ite (.ite (.evt (.bump (.setLogEntry ht))) (.markUnrepaired (.evt (.bump (.setLogEntry ht)))))
        (.ite (.queueHot (.setLogEntry ht)) (.setLogEntry ht)))

theorem logUncorrectable {l : MemLoc} {src : Nat} (hs : s.Canon) : (s.logUncorrectable l src).Canon := by
  have ht := takeEntry (m := ctrlOf l) (p := logPlace l)
    (evt (k := .eccUncorr) (unit := ctrlOf l) (info := (logPlace l).2.2) (bump (o := .eccUncorr) (n := ctrlOf l) hs))
  unfold State.logUncorrectable
  dsimp only
  split
  · next heq => rwa [heq] at ht
  · next heq =>
    rw [heq] at ht
    exact .setLogEntry ht

theorem logWrite {l : MemLoc} (hs : s.Canon) : (s.logWrite l).Canon := by
  unfold State.logWrite
  dsimp only
  split; exacts [hs, .ite (.of_mems (.of (.setLogEntry hs))) hs]

theorem demandWord {l : MemLoc} {src : Nat} (hs : s.Canon) : (s.demandWord l src).Canon := by
  unfold State.demandWord
  split; exacts [hs, .logCorrection (.bump hs), .logUncorrectable hs]

theorem setLap {m : Nat} {x : ScrubSt} (hs : s.Canon) : (s.setLap m x).Canon := hs

theorem lapSettle {m : Nat} (hs : s.Canon) : (s.lapSettle m).Canon := by
  unfold State.lapSettle
  dsimp only
  split; exacts [.ite hs (.setLap hs), .ite (.setLap hs) hs]

theorem lapUnit {u : Nat} (hs : s.Canon) : (s.lapUnit u).Canon :=
  .ite (.lapSettle hs) (.ite (.lapSettle hs) (.ite (.lapSettle hs) hs))

theorem showLaps (hs : s.Canon) : s.showLaps.Canon := .foldl hs fun _ _ hs => .setObj hs
theorem setDdrCh {c : Nat} {d : DdrSt} (hs : s.Canon) : (s.setDdrCh c d).Canon := hs
theorem fillBlock {c l : Nat} (hs : s.Canon) : (s.fillBlock c l).Canon := .ite (.bump (.setDdrCh hs)) hs

theorem wordWritten {l : MemLoc} (hs : s.Canon) : (s.wordWritten l).Canon := by
  refine .logWrite (.setUpset ?_)
  split
  · exact .ite (.fillBlock hs) hs
  · exact hs

theorem wordsWritten {a n : Nat} (hs : s.Canon) : (s.wordsWritten a n).Canon := by
  induction n generalizing s with
  | zero => exact hs
  | succ n ih => exact ih (.wordWritten hs)

theorem store {a : Nat} {l : List Byte} (hs : s.Canon) : (s.store a l).Canon := .writeMem (.wordsWritten hs)

theorem demandWords {a src n : Nat} (hs : s.Canon) : (s.demandWords a src n).Canon := by
  induction n with
  | zero => exact hs
  | succ n ih => exact .ite (.bumpIf ih) (.demandWord ih)

theorem storeRmw {a : Nat} {l : List Byte} (hs : s.Canon) : (s.storeRmw a l).1.Canon :=
  .ite_fst (.ite_fst (.demandWords hs) (.store (.demandWords hs))) (.store hs)

theorem storeAsked {a : Nat} {l : List Byte} (hs : s.Canon) : (s.storeAsked a l).1.Canon := .ite_fst hs (.storeRmw hs)

/-! ### Pacing -/

theorem setPacer {u : Nat} {p : PaceSt} (hs : s.Canon) : (s.setPacer u p).Canon := hs
theorem setWindow {u : Nat} {w : List Int} (hs : s.Canon) : (s.setWindow u w).Canon := .setObj (.setObj (.setObj (.setPacer hs)))
theorem setTrim {u : Nat} {t : Int} (hs : s.Canon) : (s.setTrim u t).Canon := .setObj (.setObj hs)
theorem markRaise {u : Nat} (hs : s.Canon) : (s.markRaise u).Canon := .setPacer hs
theorem paceEnter {u : Nat} {st : Int} (hs : s.Canon) : (s.paceEnter u st).Canon := .setTrim (.setObj hs)
theorem enterHold {u : Nat} (hs : s.Canon) : (s.enterHold u).Canon := .setWindow (.paceEnter hs)
theorem enterSleep {u : Nat} (hs : s.Canon) : (s.enterSleep u).Canon := .setPacer (.setObj (.setWindow (.paceEnter hs)))

theorem paceRestart {u : Nat} (hs : s.Canon) : (s.paceRestart u).Canon := by
  refine .ite (.paceEnter (.setPacer ?_)) (.enterHold (.setPacer ?_))
  · split
    · exact .setObj hs
    · exact hs
  · split
    · exact .setObj hs
    · exact hs

theorem enterHot {u : Nat} (hs : s.Canon) : (s.enterHot u).Canon := .bump (.paceEnter hs)
theorem hotTest {u : Nat} (hs : s.Canon) : (s.hotTest u).Canon := .ite (.enterHot hs) (.ite (.enterHold hs) hs)

theorem snap {u : Nat} {cause : Int} (hs : s.Canon) : (s.snap u cause).Canon :=
  .ite hs (.ite (.paceEnter (.setPacer (.markRaise (.bump (.setObj hs))))) (.bump (.setObj hs)))

theorem paceCompletion {u : Nat} {slack : Int} {late : Bool} (hs : s.Canon) : (s.paceCompletion u slack late).Canon :=
  .ite hs (.ite (.snap (.setWindow (.setPacer hs))) (.ite (.snap (.setWindow (.setPacer hs))) (.setWindow (.setPacer hs))))

theorem undoLower {u : Nat} (hs : s.Canon) : (s.undoLower u).Canon := .ite (.setPacer (.setObj (.setTrim hs))) hs
theorem paceRaise {u : Nat} (hs : s.Canon) : (s.paceRaise u).Canon := .bump (.markRaise (.setTrim (.undoLower hs)))

theorem answersHallRateSample {u : Fin 18} {rate : Nat} (hs : s.Canon) : AnswersCanon (execHallRateSample u rate s) :=
  ite hs (.ite (.bump (.paceRaise (.ite (.evtIf (.bump (.setPacer (.setObj hs)))) (.setPacer (.setObj hs)))))
    (.ite (.evtIf (.bump (.setPacer (.setObj hs)))) (.setPacer (.setObj hs))))

theorem answersPacingPeriodEnd {u : Fin 18} (hs : s.Canon) : AnswersCanon (execPacingPeriodEnd u s) := by
  refine ite hs (.ite (.paceRaise (.setPacer ?_)) (.setPacer ?_))
  · split
    · exact .setObj hs
    · exact hs
  · split
    · exact .setObj hs
    · exact hs

theorem answersHallPaceSnap {a : Accessor} {u : Fin 18} {v : Nat} (hs : s.Canon) : AnswersCanon (execHallPaceSnap a u v s) :=
  dictWrite hs fun _ hs => .snap hs

theorem levelChange {u : Nat} {l : Int} (hs : s.Canon) : (s.levelChange u l).Canon := by
  unfold State.levelChange
  extract_lets old st p s₁ s₂ s₃
  have h₂ : s₂.Canon := .setPacer (.setObj (.bump (.setObj hs)))
  have h₃ : s₃.Canon := .ite (.markRaise h₂) h₂
  exact .ite (.paceEnter h₃) (.ite (.paceEnter (.setPacer h₃)) (.setTrim h₃))

theorem answersHallLevelWrite {a : Accessor} {u : Fin 18} {v : Nat} (hs : s.Canon) : AnswersCanon (execHallLevelWrite a u v s) :=
  dictWrite hs fun _ hs => .ite (.setPacer hs) (.ite hs (.levelChange hs))

theorem railSettled {u : Nat} (hs : s.Canon) : (s.railSettled u).Canon :=
  .ite (.ite (.enterHold (.setPacer hs)) (.hotTest (.paceEnter (.setPacer hs))))
    (.ite (.enterHold (.setPacer hs)) (.ite (.enterHold (.setPacer hs)) (.setPacer hs)))

theorem answersHallPaceEnWrite {a : Accessor} {u : Fin 18} {v : Nat} (hs : s.Canon) :
    AnswersCanon (execHallPaceEnWrite a u v s) :=
  dictWrite hs fun _ hs => .ite (.setObj hs) (.ite (.paceEnter (.setObj hs)) (.ite (.enterHold (.setObj hs)) (.setObj hs)))

/-! ### CoreRegs -/

theorem setCore {c : Nat} {k : CoreSt} (hs : s.Canon) : (s.setCore c k).Canon := hs
theorem setPc {c a : Nat} (hs : s.Canon) : (s.setPc c a).Canon := .setObj hs

theorem placeDemand {c n src : Nat} {p : Place} (hs : s.Canon) : (s.placeDemand c n src p).Canon := by
  refine .foldl hs fun _ _ hs => ?_
  split
  · exact .demandWord hs
  · exact hs

/-! ### CoreExec -/

theorem recordCause {c code slot epc ea : Nat} (hs : s.Canon) : (s.recordCause c code slot epc ea).Canon :=
  .ite (.setObj (.setObj (.setObj hs))) (.setObj (.setObj hs))

theorem enterHandler {c code slot epc ea : Nat} (hs : s.Canon) : (s.enterHandler c code slot epc ea).Canon :=
  .setPc (.setObj (.recordCause (.freeUsed (.setCore hs))))

theorem countRaised {c code : Nat} (hs : s.Canon) : (s.countRaised c code).Canon := .bumpIf (.bumpIf (.bumpIf hs))

theorem doubleFault {c code slot epc ea : Nat} (hs : s.Canon) : (s.doubleFault c code slot epc ea).Canon :=
  .unitFault (.bump (.setObj (.recordCause (.setCore hs))))

theorem raiseExc {c code slot epc ea : Nat} (hs : s.Canon) : (s.raiseExc c code slot epc ea).Canon :=
  .ite (.doubleFault (.countRaised hs)) (.bump (.enterHandler (.countRaised hs)))

theorem storePlace {c : Nat} {p : Place} {l : List Byte} (hs : s.Canon) : (s.storePlace c p l).Canon := by
  unfold State.storePlace
  split
  · exact .foldl (.writeCore (.ite (.placeDemand hs) hs)) fun _ _ hs => .wordWritten hs
  · exact .setCore (.storeAsked hs)
  · exact hs

theorem storeOps {c : Nat} {old : CoreSt} {ops : List CoreOp} (hs : s.Canon) : (s.storeOps c old ops).Canon := by
  fun_induction State.storeOps s c old ops with
  | case1 => exact hs
  | case2 _ _ _ _ ih => exact ih (.ite (.storePlace hs) hs)
  | case3 _ _ _ _ ih => exact ih hs

theorem loadOps {c : Nat} {old : CoreSt} {ops : List CoreOp} (hs : s.Canon) : (s.loadOps c old ops).Canon := by
  fun_induction State.loadOps s c old ops with
  | case1 => exact hs
  | case2 _ _ _ _ ih => exact ih (.ite hs (.placeDemand hs))
  | case3 _ _ _ _ ih => exact ih hs

theorem demandFaults {c : Nat} {k : CoreSt} {ops : List CoreOp} (hs : s.Canon) : (s.demandFaults c k ops).Canon := by
  fun_induction State.demandFaults s c k ops with
  | case1 => exact hs
  | case2 _ _ _ _ ih => exact ih (.ite (.placeDemand hs) hs)
  | case3 _ _ _ _ ih => exact ih hs

theorem elemCommit {c : Nat} {v : VecWord} {i : Nat} (hs : s.Canon) : (s.elemCommit c v i).Canon :=
  .ite (.setCore (.placeDemand hs)) (.storePlace hs)

theorem elemRun {c : Nat} {old : CoreSt} {v : VecWord} {n i : Nat} (hs : s.Canon) : (s.elemRun c old v n i).1.Canon := by
  fun_induction State.elemRun s c old v n i with
  | case1 => exact hs
  | case2 _ _ _ _ ih => exact ih hs
  | case3 => exact hs
  | case4 _ _ _ _ _ ih => exact ih (.elemCommit hs)

theorem advance {c cycles : Nat} (hs : s.Canon) : (s.advance c cycles).Canon := .setPc (.setCore hs)

theorem elemFault {c : Nat} {v : VecWord} {i code ea : Nat} (hs : s.Canon) : (s.elemFault c v i code ea).Canon :=
  .ite (.raiseExc (.ite (.bump (.placeDemand hs)) hs)) (.raiseExc (.setObj (.setCore (.ite (.bump (.placeDemand hs)) hs))))

theorem gatherIssue {c : Nat} {v : VecWord} (hs : s.Canon) : (s.gatherIssue c v).Canon := by
  have hr := elemRun (c := c) (old := s.core c) (v := v) (n := elemCount v.ty 0 - gatherStart (s.core c))
    (i := gatherStart (s.core c)) hs
  unfold State.gatherIssue
  dsimp only
  split
  · next heq =>
    rw [heq] at hr
    exact .advance (.ite hr (.setCore hr))
  · next heq =>
    rw [heq] at hr
    exact .ite (.elemFault hs) (.elemFault hr)

theorem commit {c : Nat} {ops : List CoreOp} {sched : CoreSt → Nat → Nat → State → State} (hs : s.Canon)
    (hsched : ∀ x y z t, t.Canon → (sched x y z t).Canon) : (s.commit c ops sched).Canon := by
  unfold State.commit
  extract_lets old k₁ k₂ n src k s₁ s₂ s₃ s₄ left s₅
  have h₃ : s₃.Canon := .storeOps (.setCore (.loadOps (.ite (.freeUsed hs) hs)))
  have h₄ : s₄.Canon := .ite (.setObj h₃) h₃
  have h₅ : s₅.Canon := .ite (.setObj (.setCore h₄)) h₄
  split
  · exact hsched _ _ _ _ (.setPc h₅)
  · exact .setPc h₅

theorem issueBundle {c : Nat} {b : Bundle} {resp : Bool} {sched : CoreSt → Nat → Nat → State → State} (hs : s.Canon)
    (hsched : ∀ x y z t, t.Canon → (sched x y z t).Canon) : (s.issueBundle c b resp sched).Canon := by
  unfold State.issueBundle
  split
  · exact .raiseExc (.ite (.demandFaults hs) hs)
  · refine .ite (.setCore hs) ?_
    split
    · exact .ite (.setCore hs) (.gatherIssue hs)
    · exact .ite (.setCore hs) (.commit hs (fun _ _ _ _ hs => hsched _ _ _ _ hs))

/-! ### Scheduler -/

theorem setSch {h : Nat} {x : SchedSt} (hs : s.Canon) : (s.setSch h x).Canon := hs
theorem setTcb {g hi lo v : Nat} (hs : s.Canon) : (s.setTcb g hi lo v).Canon := .store hs

theorem countThread {h st : Nat} {up : Bool} (hs : s.Canon) : (s.countThread h st up).Canon :=
  .ite (.setObj hs) (.ite (.setObj hs) (.ite (.setObj hs) hs))

theorem setTState {g st : Nat} (hs : s.Canon) : (s.setTState g st).Canon := .setTcb (.countThread (.countThread hs))

theorem relink {l : List Nat} (hs : s.Canon) : (s.relink l).Canon := by
  fun_induction State.relink s l with
  | case1 => exact hs
  | case2 => exact .setTcb hs
  | case3 s g g' r ih => exact ih (.setTcb hs)

theorem schTraceRec {h kind core : Nat} {g : Option Nat} {arg : Nat} (hs : s.Canon) : (s.schTraceRec h kind core g arg).Canon :=
  .ite hs (.ite (.bump hs) (.setObj (.setSch (.store hs))))

theorem saveContext {g c sst pc : Nat} (hs : s.Canon) : (s.saveContext g c sst pc).Canon := .setSch (.store hs)
theorem loadContext {g c : Nat} (hs : s.Canon) : (s.loadContext g c).Canon := .setSch (.setPc (.setCore hs))
theorem setReady {h p : Nat} {l : List Nat} (hs : s.Canon) : (s.setReady h p l).Canon := .relink (.setSch hs)
theorem readyTail {g : Nat} (hs : s.Canon) : (s.readyTail g).Canon := .setReady (.setTState hs)
theorem readyHead {g : Nat} (hs : s.Canon) : (s.readyHead g).Canon := .setReady (.setTState hs)
theorem readyDrop {g : Nat} (hs : s.Canon) : (s.readyDrop g).Canon := .setReady hs
theorem setThread {c : Nat} {g : Option Nat} (hs : s.Canon) : (s.setThread c g).Canon := .setSch hs
theorem setPre {c v : Nat} (hs : s.Canon) : (s.setPre c v).Canon := .setSch hs

theorem runThread {c g : Nat} (hs : s.Canon) : (s.runThread c g).Canon :=
  .ite (.setObj (.setCore (.schTraceRec (.bump (.loadContext (.setThread (.setTcb (.setTState (.readyDrop hs)))))))))
    (.setObj (.schTraceRec (.bump (.loadContext (.setThread (.setTcb (.setTState (.readyDrop hs))))))))

theorem dispatch {c : Nat} (hs : s.Canon) : (s.dispatch c).Canon := by
  refine .ite ?_ hs
  split
  · exact .runThread hs
  · exact hs

theorem dispatchHall {h : Nat} (hs : s.Canon) : (s.dispatchHall h).Canon := .foldl hs fun _ _ hs => .dispatch hs
theorem releaseCore {c : Nat} (hs : s.Canon) : (s.releaseCore c).Canon := .dispatch (.setObj (.setPre (.setThread (.setCore hs))))
theorem raiseInt {c code : Nat} (hs : s.Canon) : (s.raiseInt c code).Canon := .ite hs (.setCore hs)
theorem raisePreempt {c g : Nat} (hs : s.Canon) : (s.raisePreempt c g).Canon := .ite hs (.bump (.setPre (.raiseInt hs)))

theorem preemptFor {g : Nat} (hs : s.Canon) : (s.preemptFor g).Canon := by
  refine .ite ?_ hs
  split
  · exact .raisePreempt hs
  · exact hs

theorem settle {h : Nat} {new : List Nat} (hs : s.Canon) : (s.settle h new).Canon :=
  .foldl (.dispatchHall hs) fun _ _ hs => .preemptFor hs

theorem preemptAgain {c : Nat} (hs : s.Canon) : (s.preemptAgain c).Canon := by
  unfold State.preemptAgain
  split; exacts [hs, .raisePreempt hs]

theorem giveStatus {c dd status : Nat} (hs : s.Canon) : (s.giveStatus c dd status).Canon := .setCore hs

theorem blockThread {g c kind obj dd arg : Nat} (hs : s.Canon) : (s.blockThread g c kind obj dd arg).Canon := by
  unfold State.blockThread
  exact .releaseCore (.schTraceRec (.saveContext (.setSch (.setTcb (.setTcb (.setTcb (.setTState hs)))))))

theorem endWait {g status : Nat} {msg : Option Nat} (hs : s.Canon) : (s.endWait g status msg).Canon := by
  refine .schTraceRec (.readyTail (.setTcb (.setSch ?_)))
  split
  · exact .store (.store hs)
  · exact .store hs

theorem wake {g status : Nat} {msg : Option Nat} (hs : s.Canon) : (s.wake g status msg).Canon := .settle (.endWait hs)
theorem setDelay {h : Nat} {l : List Nat} (hs : s.Canon) : (s.setDelay h l).Canon := .relink (.setSch hs)
theorem setSem {i : Nat} {x : SemSt} (hs : s.Canon) : (s.setSem i x).Canon := .relink (.setSch hs)

theorem heldTake {g i : Nat} (hs : s.Canon) : (s.heldTake g i).Canon :=
  .ite (.setTcb (.setTcb (.setTcb hs))) (.setTcb (.freeUsed (.setTcb (.setTcb hs))))

theorem heldDrop {g : Nat} (hs : s.Canon) : (s.heldDrop g).Canon := .ite (.setTcb (.setTcb (.setTcb hs))) (.setTcb hs)

theorem semTake {g i : Nat} {block : Bool} (hs : s.Canon) : (s.semTake g i block).1.Canon :=
  .ite_fst hs (.ite_fst (.schTraceRec (.bump hs)) (.ite_fst (.schTraceRec (.ite (.heldTake (.setSem hs)) (.setSem hs)))
    (.ite_fst (.setSem hs) hs)))

theorem passLock {i : Nat} (hs : s.Canon) : (s.passLock i).Canon := by
  unfold State.passLock
  dsimp only
  split; exacts [.setSem hs, .wake (.schTraceRec (.heldTake (.setSem hs)))]

theorem semGive {g i : Nat} (hs : s.Canon) : (s.semGive g i).1.Canon := by
  unfold State.semGive
  dsimp only
  refine .ite_fst hs (.ite_fst ?_ ?_)
  · split
    · exact passLock (heldDrop hs)
    · exact hs
  · split
    · dsimp only
      exact wake (schTraceRec (setSem hs))
    · exact .ite_fst hs (.setSem hs)

theorem releaseLocks {g : Nat} (hs : s.Canon) : (s.releaseLocks g).Canon := .foldl hs fun _ _ hs => .passLock (.heldDrop hs)
theorem setQueue {q : Nat} {x : QueueSt} (hs : s.Canon) : (s.setQueue q x).Canon := .relink (.relink (.setSch hs))
theorem notify {q : Nat} (hs : s.Canon) : (s.notify q).Canon := .ite (.raiseInt hs) hs
theorem enqueue {q m : Nat} (hs : s.Canon) : (s.enqueue q m).Canon := .setQueue (.store hs)

theorem arriveMsg {q m : Nat} (hs : s.Canon) : (s.arriveMsg q m).Canon := by
  unfold State.arriveMsg
  dsimp only
  split; exacts [.wake (.setQueue hs), .notify (.enqueue hs)]

theorem pushEngine {q m : Nat} (hs : s.Canon) : (s.pushEngine q m).Canon := .setSch hs
theorem dropMsg {q : Nat} {g : Option Nat} (hs : s.Canon) : (s.dropMsg q g).Canon := .schTraceRec (.bump hs)

theorem threadSend {g q m : Nat} {block : Bool} (hs : s.Canon) : (s.threadSend g q m block).1.Canon :=
  .ite_fst (.pushEngine hs) (.ite_fst hs (.ite_fst (.arriveMsg hs)
    (.ite_fst (.dropMsg hs) (.ite_fst (.bump (.setQueue hs)) hs))))

theorem hwSend {src q m : Nat} (hs : s.Canon) : (s.hwSend src q m).Canon :=
  .ite (.setSch hs) (.ite (.pushEngine hs) (.ite hs (.ite (.arriveMsg hs) (.ite (.dropMsg hs) (.bump (.setSch hs))))))

theorem senderEnters {q : Nat} (hs : s.Canon) : (s.senderEnters q).Canon := by
  unfold State.senderEnters
  dsimp only
  split; exacts [hs, .wake (.notify (.enqueue (.setQueue hs)))]

theorem threadRecv {g q : Nat} {block : Bool} (hs : s.Canon) : (s.threadRecv g q block).1.Canon :=
  .ite_fst hs (.ite_fst (.senderEnters (.setQueue hs)) (.ite_fst (.setQueue hs) hs))

theorem callSwitch {c : Nat} (hs : s.Canon) : (s.callSwitch c).Canon := by
  unfold State.callSwitch
  split
  · exact hs
  · exact .ite (.settle (.releaseCore (.schTraceRec (.readyHead (.setCore (.saveContext hs))))))
      (.bump (.setPre (.setObj (.setPc (.setCore hs)))))

theorem callCreate {h : Nat} {a0 a1 a2 : Word} (hs : s.Canon) : (s.callCreate h a0 a1 a2).1.Canon := by
  refine .ite_fst hs ?_
  split
  · exact hs
  · exact .settle (.schTraceRec (.readyTail (.store (.store hs))))

theorem leaveWait {g : Nat} (hs : s.Canon) : (s.leaveWait g).Canon :=
  .setSch (.ite (.setDelay hs) (.ite (.setSem hs) (.ite (.setQueue hs) (.setQueue hs))))

theorem freeThread {g : Nat} (hs : s.Canon) : (s.freeThread g).Canon := .setSch (.setTState (.setTcb (.releaseLocks hs)))

theorem callKill {h t : Nat} (hs : s.Canon) : (s.callKill h t).1.Canon :=
  .ite_fst hs (.ite_fst hs (.schTraceRec (.freeThread (.ite (.readyDrop hs) (.ite (.leaveWait hs) hs)))))

theorem callSetPrio {h : Nat} {a0 : Word} (hs : s.Canon) : (s.callSetPrio h a0).1.Canon := by
  unfold State.callSetPrio
  dsimp only
  refine .ite_fst hs (.ite_fst (.setReady (.setTcb (.readyDrop hs))) (.ite_fst ?_ (.setTcb hs)))
  split
  · exact .preemptFor (.setTcb hs)
  · exact .setTcb hs

theorem callQueueSet {h : Nat} {a0 a1 : Word} (hs : s.Canon) : (s.callQueueSet h a0 a1).1.Canon :=
  .ite_fst hs (.ite_fst hs (.ite_fst hs (.setQueue hs)))

theorem callSemInit {h : Nat} {a0 : Word} (hs : s.Canon) : (s.callSemInit h a0).1.Canon :=
  .ite_fst hs (.ite_fst (.setSem hs) (.ite_fst hs (.setSem hs)))

theorem callDelay {c g target dd : Nat} (hs : s.Canon) : (s.callDelay c g target dd).Canon :=
  .ite (.giveStatus hs) (.blockThread (.setDelay (.setTcb hs)))

theorem performOp {o : RemoteOp} (hs : s.Canon) : (s.performOp o).1.Canon :=
  .ite_fst (.semTake hs) (.ite_fst (.semTake hs) (.ite_fst (.semGive hs) (.ite_fst (.threadSend hs) (.threadSend hs))))

theorem finishOp {c : Nat} {o : RemoteOp} {st : Option Nat} (hs : s.Canon) : (s.finishOp c o st).Canon := by
  unfold State.finishOp
  split; exacts [.giveStatus hs, .blockThread hs]

theorem callOp {c target : Nat} {o : RemoteOp} (hs : s.Canon) : (s.callOp c target o).Canon :=
  .ite (.finishOp (.performOp hs)) (.setCore (.setSch hs))

theorem recvAnswer {c g q : Nat} {wait : Bool} {f : State → State}
    (hf : ∀ t, t.Canon → (f t).Canon) {dd : Nat} (hs : s.Canon) :
    (match s.threadRecv g q wait with
        | (s, some m, _) => (s.setCore c ((s.core c).takeMsg m)).giveStatus c dd 0
        | (s, none, some st) => s.giveStatus c dd st
        | (s, none, none) => f s).Canon := by
  have hr := threadRecv (g := g) (q := q) (block := wait) hs
  split
  · next heq => rw [heq] at hr; exact .giveStatus (.setCore hr)
  · next heq => rw [heq] at hr; exact .giveStatus hr
  · next heq => rw [heq] at hr; exact hf _ hr

theorem schedCall {c : Nat} {old : CoreSt} {sub opnd : Nat} (hs : s.Canon) : (State.schedCall c old sub opnd s).Canon := by
  unfold State.schedCall
  dsimp only
  split
  · exact .giveStatus hs
  · next g _ =>
    refine .ite (.giveStatus hs) ?_
    split
    · exact .callSwitch hs
    · exact .settle (.releaseCore (.schTraceRec (.readyTail (.saveContext (.giveStatus hs)))))
    · exact .releaseCore (.schTraceRec (.freeThread hs))
    · exact .giveStatus (.callCreate hs)
    · exact .giveStatus (.callKill hs)
    · exact .giveStatus (.callSetPrio hs)
    · exact .ite (.giveStatus hs) (.callDelay hs)
    · exact .callDelay hs
    · exact .callOp hs
    · exact .callOp hs
    · exact .callOp hs
    · exact .giveStatus (.callSemInit hs)
    · exact .callOp hs
    · exact .callOp hs
    · exact recvAnswer (fun t ht => .blockThread ht) hs
    · exact recvAnswer (fun t ht => ht) hs
    · exact .giveStatus (.callQueueSet hs)
    · exact .ite (.giveStatus hs) (.giveStatus (.raiseInt hs))
    · exact .giveStatus (.schTraceRec hs)

theorem threadFaulted {c : Nat} (hs : s.Canon) : (s.threadFaulted c).Canon := by
  unfold State.threadFaulted
  split; exacts [hs, .setTState (.setPre (.setThread (.setCore hs)))]

theorem withdrawPreempt {c : Nat} (hs : s.Canon) : (s.withdrawPreempt c).Canon := .setCore hs

theorem takeHalt {c : Nat} (hs : s.Canon) : (s.takeHalt c).Canon :=
  .ite (.ite (.withdrawPreempt (.setObj (.setCore hs))) (.setObj (.setCore hs))) hs

theorem dropAffinity {c : Nat} (hs : s.Canon) : (s.dropAffinity c).Canon := .foldl hs fun _ _ hs => .ite (.setTcb hs) hs

theorem evict {h : Nat} {l : List Nat} (hs : s.Canon) : (s.evict h l).Canon := by
  induction l generalizing s with
  | nil => exact hs
  | cons x r ih => exact ih (.ite hs (.wake hs))

theorem dropForeign {h : Nat} {l : List (Nat × SemSt)} (hs : s.Canon) : (s.dropForeign h l).Canon := by
  induction l generalizing s with
  | nil => exact hs
  | cons p r ih =>
    unfold State.dropForeign
    refine ih ?_
    split
    · exact .ite hs (.heldDrop hs)
    · exact hs

theorem forgetAt {h x : Nat} (hs : s.Canon) : (s.forgetAt h x).Canon :=
  .foldl (.foldl (.setSch hs) fun _ _ hs => .relink hs) fun _ _ hs => .relink hs

theorem forgetThreads {h : Nat} (hs : s.Canon) : (s.forgetThreads h).Canon := .foldl hs fun _ _ hs => .forgetAt hs

theorem answerInbound {l : List RemoteOp} (hs : s.Canon) : (s.answerInbound l).Canon := by
  induction l generalizing s with
  | nil => exact hs
  | cons x r ih => exact ih (.ite (.takeHalt (.giveStatus (.setCore hs))) hs)

theorem hallRestart {h : Nat} (hs : s.Canon) : (s.hallRestart h).Canon :=
  .setObj (.setObj (.setObj (.setObj (.setSch (.answerInbound
    (.evict (.evict (.foldl (.forgetThreads (.dropForeign (.setSch hs))) fun _ _ hs => .passLock hs))))))))

/-! ### Engine -/

theorem engWrite {h off : Nat} {l : List Byte} (hs : s.Canon) : (s.engWrite h off l).Canon := .storeAsked hs
theorem putFree {h off n : Nat} (hs : s.Canon) : (s.putFree h off n).Canon := .freeUsed (.engWrite hs)
theorem engPop {h e : Nat} (hs : s.Canon) : (s.engPop h e).Canon := .setSch hs
theorem setEngRun {h e : Nat} {r : Option EngRun} (hs : s.Canon) : (s.setEngRun h e r).Canon := hs

theorem countStatus {h st : Nat} (hs : s.Canon) : (s.countStatus h st).Canon := by
  unfold State.countStatus
  split; exacts [.bump hs, .bump hs, .bump hs, .bump hs, .bump hs, .bump hs, .bump hs, .bump hs, hs]

theorem engSlack {h e d : Nat} (hs : s.Canon) : (s.engSlack h e d).Canon := by
  unfold State.engSlack
  split; exacts [.ite (.paceCompletion hs) hs, hs]

theorem finish {h e d : Nat} {r : Result} (hs : s.Canon) : (s.finish h e d r).Canon := .hwSend (.engSlack (.countStatus hs))
theorem finishHead {h e d : Nat} {r : Result} (hs : s.Canon) : (s.finishHead h e d r).Canon := .finish (.engPop hs)
theorem finishRun {h e d : Nat} {r : Result} (hs : s.Canon) : (s.finishRun h e d r).Canon := .finish (.setEngRun hs)
theorem writeBack {h off cycles : Nat} (hs : s.Canon) : (s.writeBack h off cycles).Canon := .engWrite hs

theorem takeHead {h e : Nat} {ops : List Nat} {f : EngRun → State → State} (hs : s.Canon)
    (hf : ∀ x t, t.Canon → (f x t).Canon) : (s.takeHead h e ops f).Canon := by
  refine .ite hs ?_
  split
  · exact .ite (.bump (.engPop hs)) (.ite (.unitFault (.demandWords (.engPop hs))) (.ite (.finishHead hs) (.ite (hf _ _ hs) hs)))
  · exact hs

theorem granted {k i h e : Nat} {f : State → State} (hs : s.Canon) (hf : ∀ t, t.Canon → (f t).Canon) :
    (s.granted k i h e f).Canon :=
  .ite (.ite (hf _ hs) (.arbRelease (hf _ hs))) hs

theorem setCodec {k : Nat} {r : Option CodecRun} (hs : s.Canon) : (s.setCodec k r).Canon := hs

/-! ### Uplink -/

theorem setUlBuf {k : Nat} {b : UlBuf} (hs : s.Canon) : (s.setUlBuf k b).Canon := hs

theorem landIt {l : Land} {tc S : Int} {sec : UlSection} (hs : s.Canon) : (s.landIt l tc S sec).Canon :=
  .ite hs (.bumpBy (.setUlBuf (.storeRmw hs)))

theorem landSection {l : Land} {tc S arrival : Int} {sec : UlSection} (hs : s.Canon) :
    (s.landSection l tc S arrival sec).Canon :=
  .ite (.bump hs) (.ite (.bump hs) (.ite (.bump hs) (.ite (.bump hs) (.landIt hs))))

theorem setPra {p : Nat} {x : PraSt} (hs : s.Canon) : (s.setPra p x).Canon := hs
theorem checkSeq {f : UlFrame} (hs : s.Canon) : (s.checkSeq f).Canon := .ite (.bump (.of_mems (.of hs))) (.of_mems (.of hs))

theorem dravutSend {ty : Nat} {payload : List Byte} {acts : List PairAct} (hs : s.Canon) :
    (s.dravutSend ty payload acts).Canon :=
  .send (.of_mems (.of hs))

theorem afterAck {act : PairAct} {k : State → State} (hs : s.Canon) (hk : ∀ t, t.Canon → (k t).Canon) :
    (s.afterAck act k).Canon :=
  .ite (hk _ hs) (.of_mems (.of hs))

theorem journalPut {kind unitNo ring seq data : Nat} {body : List Byte} {act : PairAct} {k : State → State} (hs : s.Canon)
    (hk : ∀ t, t.Canon → (k t).Canon) : (s.journalPut kind unitNo ring seq data body act k).Canon :=
  .ite (.dravutSend (.journalAppend hs)) (hk _ (.journalAppend hs))

theorem journalNote {kind unitNo ring seq data : Nat} {body : List Byte} (hs : s.Canon) :
    (s.journalNote kind unitNo ring seq data body).Canon :=
  .ite (.dravutSend (.journalAppend hs)) (.journalAppend hs)

theorem mirrorFrames {a : Nat} {l : List Byte} {n : Nat} (hs : s.Canon) : (s.mirrorFrames a l n).Canon := by
  induction n generalizing s a l with
  | zero => exact hs
  | succ n ih => exact .ite hs (ih (.dravutSend hs))

theorem mirrorMem {a : Nat} {l : List Byte} (hs : s.Canon) : (s.mirrorMem a l).Canon := .ite (.mirrorFrames hs) hs
theorem forwardUl {f : UlFrame} (hs : s.Canon) : (s.forwardUl f).Canon := .ite (.dravutSend hs) hs

theorem answersUlFrameSteering {f : UlFrame} (hs : s.Canon) : AnswersCanon (execUlFrameSteering f s) := by
  unfold execUlFrameSteering
  dsimp only
  split
  · exact .bump (.forwardUl hs)
  · exact .ite (.bump (.checkSeq (.forwardUl hs))) (.ite (.ite (.bumpBy (.checkSeq (.forwardUl hs)))
      (.foldl (.checkSeq (.forwardUl hs)) fun _ _ hs => .landSection hs))
      (.foldl (.checkSeq (.forwardUl hs)) fun _ _ hs => .landSection hs))

theorem noteRead {h : Nat} {a : ArmSt} {missing : Nat} {clip : Bool} (hs : s.Canon) : (s.noteRead h a missing clip).Canon :=
  .ite (.bump (.setUlBuf (.bumpBy hs))) (.bumpBy hs)

theorem setGains {h : Nat} {r : EngRun} {a : ArmSt} (hs : s.Canon) : (s.setGains h r a).Canon :=
  .finishRun (.freeUsed (.engWrite (.of_mems (.of (.setUlBuf (.bumpBy hs))))))

theorem answersUlGainSet {h : Fin 16} (hs : s.Canon) : AnswersCanon (execUlGainSet h s) := by
  unfold execUlGainSet
  dsimp only
  split
  · refine .ite hs ?_
    split
    · exact .finishRun hs
    · exact .ite hs (.ite (.finishRun (.of_mems (.of hs))) (.setGains hs))
  · exact hs

theorem answersUlWindowClose {k : Fin 6144} (hs : s.Canon) : AnswersCanon (execUlWindowClose k s) := by
  unfold execUlWindowClose
  dsimp only
  split; exacts [.ite (.setUlBuf hs) hs, hs]

theorem armTaken {h : Nat} {r : EngRun} (hs : s.Canon) : (s.armTaken h r).Canon :=
  .ite (.finishHead hs) (.ite (.finishHead hs) (.of_mems (.of (.setEngRun (.engPop hs)))))

theorem workFinal {w : HarqWork} (hs : s.Canon) : (s.workFinal w).Canon := .ite (.bumpIf (.bumpBy hs)) hs

theorem releaseSlot {k c : Nat} {S : Int} (hs : s.Canon) : (s.releaseSlot k c S).Canon :=
  .of_mems (.of (.foldl (.setUlBuf hs) fun _ _ hs => .workFinal hs))

theorem releaseDone {h : Nat} {r : EngRun} (hs : s.Canon) : (s.releaseDone h r).Canon := .afterAck hs fun _ hs => .finishRun hs

theorem releaseTaken {h : Nat} {r : EngRun} (hs : s.Canon) : (s.releaseTaken h r).Canon :=
  .ite (.finishHead hs) (.ite hs (.ite (.finishHead hs) (.ite (.setEngRun (.releaseSlot (.engPop hs)))
    (.releaseDone (.setEngRun (.releaseSlot (.engPop hs)))))))

/-! ### CodingOps -/

theorem harqWrite {a : Nat} {l : List Byte} (hs : s.Canon) : (s.harqWrite a l).Canon := .mirrorMem (.store hs)
theorem poolShow (hs : s.Canon) : s.poolShow.Canon := .setObj (.setObj hs)

theorem freeHalf {p m n : Nat} (hs : s.Canon) : (s.freeHalf p m n).1.Canon := by
  induction n with
  | zero => exact hs
  | succ n ih => exact .ite_fst (.harqWrite (.of_mems (.of ih))) ih

theorem setCommit {p w : Nat} (hs : s.Canon) : (s.setCommit p w).Canon := .setObj (.harqWrite hs)
theorem freeProc {p : Nat} (hs : s.Canon) : (s.freeProc p).1.Canon := .poolShow (.setCommit (.freeHalf (.freeHalf hs)))
theorem readPrior {d half ncb r : Nat} (hs : s.Canon) : (s.readPrior d half ncb r).Canon := .ite hs (.ite (.demandWords hs) hs)
theorem setEntry {p m b e : Nat} (hs : s.Canon) : (s.setEntry p m b e).Canon := .harqWrite hs
theorem markStatus {h d r bit : Nat} (hs : s.Canon) : (s.markStatus h d r bit).Canon := .engWrite hs
theorem notStored {h d r : Nat} (hs : s.Canon) : (s.notStored h d r).Canon := .bump (.markStatus hs)
theorem priorLost {h d r : Nat} (hs : s.Canon) : (s.priorLost h d r).Canon := .ite hs (.bump (.markStatus hs))

theorem storeBlocks {w : HarqWork} {bad : List Nat} {n b : Nat} (hs : s.Canon) : (s.storeBlocks w bad n b).Canon := by
  induction b with
  | zero => exact hs
  | succ b ih =>
    unfold State.storeBlocks
    dsimp only
    refine .ite (.setEntry ih) ?_
    split
    · exact .notStored (.setEntry (.ite (.priorLost (.readPrior ih)) (.readPrior ih)))
    · exact .ite (.notStored (.setEntry (.ite (.priorLost (.readPrior ih)) (.readPrior ih))))
        (.poolShow (.setEntry (.bump (.harqWrite (.of_mems (.of (.ite (.priorLost (.readPrior ih)) (.readPrior ih))))))))

theorem storeWork {w : HarqWork} {bad : List Nat} (hs : s.Canon) : (s.storeWork w bad).Canon :=
  .ite hs (.ite (.freeProc hs) (.poolShow (.setCommit (.harqWrite (.storeBlocks (.freeHalf (.ite (.bump hs) hs)))))))

theorem choosePrior {h kind d : Nat} (hs : s.Canon) : (s.choosePrior h kind d).1.Canon :=
  .ite_fst hs (.ite_fst (.bump hs) (.ite_fst (.bump hs) hs))

theorem setWork {w w' : HarqWork} (hs : s.Canon) : (s.setWork w w').Canon := hs
theorem writeTb {kind h d : Nat} {blocks : List (List Bool)} (hs : s.Canon) : (s.writeTb kind h d blocks).Canon := .engWrite hs
theorem noteIters {h iters : Nat} (hs : s.Canon) : (s.noteIters h iters).Canon := .setObj (.of_mems (.of hs))

/-! ### Detect -/

theorem withArm {h e : Nat} {r : EngRun} {f : ArmSt → State} (hs : s.Canon) (hf : ∀ a, (f a).Canon) :
    (s.withArm h e r f).Canon := by
  unfold State.withArm
  refine .ite (.finishHead hs) ?_
  split
  · exact .finishHead hs
  · exact hf _

theorem writeEstimates {h d n : Nat} (hs : s.Canon) : (s.writeEstimates h d n).Canon := by
  induction n with
  | zero => exact hs
  | succ n ih => exact .putFree ih

theorem noteRef {k d : Nat} (hs : s.Canon) : (s.noteRef k d).Canon := .ite hs (.setUlBuf hs)

theorem chest {h : Nat} {r : EngRun} {a : ArmSt} (hs : s.Canon) : (s.chest h r a).Canon :=
  .finishHead (.freeUsed (.of_mems (.of (.noteRef (.ite (.writeEstimates (.noteRead hs))
    (.of_mems (.of (.putFree (.writeEstimates (.noteRead hs))))))))))

theorem chestTaken {h : Nat} {r : EngRun} (hs : s.Canon) : (s.chestTaken h r).Canon :=
  .ite (.finishHead hs) (.withArm hs fun _ => .ite (.chest hs) hs)

theorem putLlrs {h off n : Nat} (hs : s.Canon) : (s.putLlrs h off n).Canon := .freeUsed (.engWrite hs)

theorem takeDet {h : Nat} {ops : List Nat} {f : EngRun → State → State} (hs : s.Canon)
    (hf : ∀ x t, t.Canon → (f x t).Canon) : (s.takeDet h ops f).Canon :=
  .takeHead hs fun _ _ hs => hf _ _ (.setObj hs)

theorem detect {h : Nat} {r : EngRun} {a : ArmSt} (hs : s.Canon) : (s.detect h r a).Canon :=
  .finishHead (.freeUsed (.writeBack (.of_mems (.of (.foldl (.noteRead hs) fun _ _ hs => .putLlrs hs)))))

theorem detectTaken {h : Nat} {r : EngRun} (hs : s.Canon) : (s.detectTaken h r).Canon :=
  .ite (.finishHead hs) (.withArm hs fun _ => .ite (.detect hs) hs)

theorem weightsTaken {h : Nat} {r : EngRun} (hs : s.Canon) : (s.weightsTaken h r).Canon :=
  .ite (.finishHead hs) (.ite (.finishHead hs) (.finishHead (.freeUsed (.engWrite hs))))

theorem fftSymbol {h d inp o t i k : Nat} (hs : s.Canon) : (s.fftSymbol h d inp o t i k).Canon :=
  .ite (.freeUsed (.engWrite hs)) (.setUlBuf (.freeUsed (.engWrite hs)))

theorem fftWrite {h d n : Nat} {l : List Nat} (hs : s.Canon) : (s.fftWrite h d n l).Canon := by
  induction l generalizing s n with
  | nil => exact hs
  | cons t ts ih => exact ih (.foldl hs fun _ _ hs => .fftSymbol hs)

theorem fftTaken {h : Nat} {r : EngRun} (hs : s.Canon) : (s.fftTaken h r).Canon :=
  .ite (.finishHead hs) (.ite (.finishHead hs) (.ite hs (.finishHead (.fftWrite (.bumpBy hs)))))

theorem outerTaken {h : Nat} {r : EngRun} (hs : s.Canon) : (s.outerTaken h r).Canon :=
  .ite (.finishHead hs) (.withArm hs fun _ =>
    .ite (.bump (.setEngRun (.engPop (.setObj (.setObj hs))))) (.finishHead (.setObj (.setObj hs))))

theorem outerLlrs {h d : Nat} (hs : s.Canon) : (s.outerLlrs h d).Canon :=
  .foldl hs fun _ _ hs => .foldl hs fun _ _ hs => .putLlrs hs

theorem outerRun_block {q : OuterRun} {h iters iter : Nat} {budget : Option Nat} {x b : Nat} (hs : q.st.Canon) :
    (q.block h iters iter budget x b).st.Canon := by
  unfold OuterRun.block
  dsimp only
  split
  · exact hs
  · split
    · exact hs
    · exact .bumpIf (.setWork (.engWrite (.bumpIf (.bumpIf (.bumpIf (.noteIters (.bumpBy (.bump (.readPrior hs)))))))))

theorem outerRun_dec {q : OuterRun} {h iters iter : Nat} {budget : Option Nat} {x : Nat} (hs : q.st.Canon) :
    (q.dec h iters iter budget x).st.Canon := by
  have hBlocks : ∀ l : List Nat, (l.foldl (fun (q : OuterRun) b => q.block h iters iter budget x b) q).st.Canon := by
    intro l
    induction l generalizing q with
    | nil => exact hs
    | cons b r ih => exact ih (outerRun_block hs)
  unfold OuterRun.dec
  dsimp only
  split
  · exact hBlocks _
  · exact .setWork (.writeTb (hBlocks _))

theorem outerRun_decs {q : OuterRun} {h iters iter : Nat} {budget : Option Nat} {l : List Nat} (hs : q.st.Canon) :
    (l.foldl (fun (q : OuterRun) x => q.dec h iters iter budget x) q).st.Canon := by
  induction l generalizing q with
  | nil => exact hs
  | cons x r ih => exact ih (outerRun_dec hs)

theorem outerRun {h d : Nat} {budget : Option Nat} (hs : s.Canon) : (s.outerRun h d budget).1.st.Canon := by
  unfold State.outerRun
  dsimp only
  refine outerRun_decs (.outerLlrs ?_)
  split
  · exact .noteRead hs
  · exact hs

theorem outerDone {h : Nat} {r : EngRun} (hs : s.Canon) : (s.outerDone h r).Canon := .finishRun (.outerRun hs)

theorem answersOuterAbandon {h : Fin 16} (hs : s.Canon) : AnswersCanon (execOuterAbandon h s) := by
  refine .of_next ?_
  split
  · exact .ite (.ite (.finishRun (.freeUsed hs)) (.finishRun (.outerRun (.freeUsed hs)))) hs
  · exact hs

theorem answersUlEngineDescriptor {h : Fin 16} {e : Fin 4} (hs : s.Canon) : AnswersCanon (execUlEngineDescriptor h e s) := by
  unfold execUlEngineDescriptor
  split
  · exact .outerDone hs
  · exact hs
  · refine .takeHead hs (fun _ _ hs => ?_)
    split
    · exact .armTaken hs
    · exact .releaseTaken hs
    · exact .chestTaken hs
    · exact .detectTaken hs
    · exact .weightsTaken hs
    · exact .fftTaken hs
    · exact .outerTaken hs

/-! ### Coding -/

theorem decodeBlock {w : HarqWork} {b : Nat} (hs : s.Canon) : (s.decodeBlock w b).Canon :=
  .setWork (.ite (.bumpIf (.bump (.engWrite (.bumpIf (.bumpIf (.readPrior hs))))))
    (.bumpIf (.noteIters (.bumpBy (.bump (.engWrite (.bumpIf (.bumpIf (.readPrior hs)))))))))

theorem decodeNext {h d : Nat} (hs : s.Canon) : (s.decodeNext h d).Canon := by
  unfold State.decodeNext
  split; exacts [.decodeBlock hs, hs]

theorem decodeAll {h d n : Nat} (hs : s.Canon) : (s.decodeAll h d n).Canon := by
  induction n generalizing s with
  | zero => exact hs
  | succ n ih => exact ih (.decodeNext hs)

theorem decodeEnd {w : HarqWork} (hs : s.Canon) : (s.decodeEnd w).1.Canon :=
  .ite (.setWork (.ite (.workFinal (.writeTb hs)) (.writeTb hs)))
    (.of_mems (.of (.ite (.workFinal (.writeTb hs)) (.writeTb hs))))

theorem decodeDone {h e off d : Nat} {running : Bool} (hs : s.Canon) : (s.decodeDone h e off d running).Canon := by
  unfold State.decodeDone
  split
  · exact hs
  · exact .ite (.finishRun (.writeBack (.decodeEnd hs))) (.finishHead (.writeBack (.decodeEnd hs)))

theorem beginWork {h kind d : Nat} {released : Bool} (hs : s.Canon) : (s.beginWork h kind d released).Canon :=
  .of_mems (.of (.choosePrior hs))

theorem decTaken {h : Nat} {r : EngRun} (hs : s.Canon) : (s.decTaken h r).Canon :=
  .ite (.finishHead hs) (.ite (.finishHead hs) (.ite (.finishHead hs)
    (.ite (.setEngRun (.engPop (.beginWork hs))) (.decodeDone (.decodeAll (.beginWork hs))))))

theorem answersDecBlockStart {h : Fin 16} (hs : s.Canon) : AnswersCanon (execDecBlockStart h s) := by
  unfold execDecBlockStart
  split
  · exact hs
  · split
    · exact hs
    · exact .ite hs (.ite (.decodeDone (.decodeBlock hs)) (.decodeBlock hs))

theorem answersHarqStore {h : Fin 16} {bad : List Nat} (hs : s.Canon) : AnswersCanon (execHarqStore h bad s) := by
  unfold execHarqStore
  dsimp only
  split
  · exact hs
  · split
    · exact .ite (.releaseDone (.of_mems (.of (.storeWork hs)))) (.of_mems (.of (.storeWork hs)))
    · exact .of_mems (.of (.storeWork hs))

theorem encTaken {h : Nat} {r : EngRun} (hs : s.Canon) : (s.encTaken h r).Canon :=
  .ite (.finishHead hs) (.finishHead (.writeBack (.bumpBy (.freeUsed (.engWrite hs)))))

theorem toCodec {h e k : Nat} {r : EngRun} (hs : s.Canon) : (s.toCodec h e k r).Canon := .setCodec (.engPop hs)
theorem polarTaken {h k : Nat} {r : EngRun} (hs : s.Canon) : (s.polarTaken h k r).Canon := .ite (.finishHead hs) (.toCodec hs)
theorem polarEncoded {h d : Nat} (hs : s.Canon) : (s.polarEncoded h d).Canon := .bump (.freeUsed (.engWrite hs))
theorem polarDecoded {h d : Nat} (hs : s.Canon) : (s.polarDecoded h d).1.Canon := .bumpIf (.bump (.engWrite hs))

theorem polarDone {h : Nat} {r : EngRun} (hs : s.Canon) : (s.polarDone h r).Canon :=
  .ite (.finish (.writeBack (.polarDecoded hs))) (.finish (.writeBack (.polarEncoded hs)))

theorem codecDone {h k : Nat} {f : Nat → EngRun → State → State} (hs : s.Canon)
    (hf : ∀ x y t, t.Canon → (f x y t).Canon) : (s.codecDone h k f).Canon := by
  unfold State.codecDone
  split; exacts [.ite (hf _ _ _ (.setCodec hs)) hs, hs]

theorem answersPolar {h : Fin 16} {fin : Option (Fin 2)} (hs : s.Canon) : AnswersCanon (execPolar h fin s) := by
  unfold execPolar
  split
  · exact .codecDone hs (fun _ _ _ hs => .polarDone hs)
  · split
    · exact .granted hs (fun _ hs => .takeHead hs (fun _ _ hs => .polarTaken hs))
    · exact hs

theorem turboTaken {h k : Nat} {r : EngRun} (hs : s.Canon) : (s.turboTaken h k r).Canon :=
  .ite (.finishHead hs) (.ite (.toCodec hs) (.ite (.finishHead hs) (.ite (.finishHead hs) (.toCodec (.beginWork hs)))))

theorem turboEncoded {h d : Nat} (hs : s.Canon) : (s.turboEncoded h d).Canon := .freeUsed (.engWrite hs)

theorem turboDone {h : Nat} {r : EngRun} (hs : s.Canon) : (s.turboDone h r).Canon := by
  refine .ite (.finish (.writeBack (.turboEncoded hs))) ?_
  split
  · exact .decodeAll hs
  · exact .finish (.writeBack (.decodeEnd (.decodeAll hs)))

theorem answersTurbo {h : Fin 16} {fin : Bool} (hs : s.Canon) : AnswersCanon (execTurbo h fin s) := by
  refine ite (.codecDone hs (fun _ _ _ hs => .turboDone hs)) ?_
  split
  · exact .granted hs (fun _ hs => .takeHead hs (fun _ _ hs => .turboTaken hs))
  · exact hs

theorem freeRange {p n : Nat} (hs : s.Canon) : (s.freeRange p n).1.Canon := by
  induction n with
  | zero => exact hs
  | succ n ih => exact .freeProc ih

theorem harqFreeTaken {h : Nat} {r : EngRun} (hs : s.Canon) : (s.harqFreeTaken h r).Canon :=
  .ite (.finishHead hs) (.ite hs (.finishHead (.freeUsed (.freeRange hs))))

/-! ### Bundle -/

theorem afterCore {before : Int} {c : Nat} (hs : s.Canon) : (s.afterCore before c).Canon :=
  .ite (.ite (.dropAffinity (.threadFaulted hs)) (.threadFaulted hs)) (.ite (.preemptAgain hs) (.ite (.withdrawPreempt hs) hs))

theorem runBundle {c : Nat} {b : Bundle} {resp : Bool} (hs : s.Canon) : (s.runBundle c b resp).Canon :=
  .afterCore (.issueBundle hs (fun _ _ _ _ hs => .schedCall hs))

theorem takeAsync {c : Nat} (hs : s.Canon) : (s.takeAsync c).Canon := by
  unfold State.takeAsync
  split; exacts [hs, .ite (.afterCore (.bump (.enterHandler (.countRaised (.setCore hs))))) hs]

theorem atIssue {c : Nat} {f : State → State} (hs : s.Canon) (hf : ∀ t, t.Canon → (f t).Canon) : (s.atIssue c f).Canon :=
  .ite (hf _ hs) (.takeAsync hs)

theorem issueSolo {c slot : Nat} {op : CoreOp} (hs : s.Canon) : (s.issueSolo c slot op).Canon :=
  .atIssue hs fun _ hs => .runBundle hs

theorem issueWords {c : Nat} {b : Bundle} (hs : s.Canon) : (s.issueWords c b).Canon := .atIssue hs fun _ hs => .runBundle hs

theorem answersBundleIssue {c : Fin 192} (hs : s.Canon) : AnswersCanon (execBundleIssue c s) := by
  unfold execBundleIssue
  dsimp only
  refine atIssue hs fun _ hs => ?_
  split
  · exact .runBundle (.ite (.demandWord hs) hs)
  · exact .afterCore (.raiseExc (.ite (.demandWord hs) hs))

/-! ### CoreScalar -/

theorem abandonGather {c : Nat} {v : VecWord} {done : Nat} (hs : s.Canon) : (s.abandonGather c v done).Canon :=
  .setObj (.setCore (.elemRun hs))

theorem answersInterruptTaken {c : Fin 192} {done : Fin 16} {debug : Bool} (hs : s.Canon) :
    AnswersCanon (execInterruptTaken c done debug s) := by
  refine ite (.takeAsync (.ite (.raiseInt hs) hs)) (.ite (.ite (.raiseInt hs) hs) ?_)
  split
  · exact .ite (.raiseInt hs) hs
  · refine .bump (.enterHandler (.setCore ?_))
    split
    · split
      · exact .abandonGather (.ite (.raiseInt hs) hs)
      · exact .ite (.raiseInt hs) hs
    · exact .ite (.raiseInt hs) hs

theorem answersWindowAsync {c : Fin 192} (hs : s.Canon) : AnswersCanon (execWindowAsync c s) := by
  unfold execWindowAsync
  dsimp only
  split; exacts [.takeAsync hs, .takeAsync (.setCore hs)]

theorem spendLoad {c g : Nat} (hs : s.Canon) : (s.spendLoad c g).Canon := .freeUsed (.setCore hs)

theorem elemError {c : Nat} {v : VecWord} {i code g : Nat} (hs : s.Canon) : (s.elemError c v i code g).Canon := by
  unfold State.elemError
  dsimp only
  split <;> exact .elemFault (.ite hs (.elemRun hs))

theorem answersWindowLoadResponse {c : Fin 192} {status : Fin 5} {elem : Fin 16} (hs : s.Canon) :
    AnswersCanon (execWindowLoadResponse c status elem s) := by
  unfold execWindowLoadResponse
  dsimp only
  split
  · exact hs
  · refine .ite hs ?_
    split
    · split
      · exact .ite (.runBundle (.spendLoad (.setCore hs))) (.afterCore (.elemError (.spendLoad (.setCore hs))))
      · exact hs
    · split
      · exact .ite (.runBundle (.spendLoad (.setCore hs))) (.afterCore (.raiseExc (.spendLoad (.setCore hs))))
      · exact hs

theorem answersFence {c : Fin 192} (hs : s.Canon) : AnswersCanon (execFence c s) := by
  unfold execFence
  dsimp only
  split; exacts [.ite (.runBundle (.setCore hs)) (.takeAsync hs), .issueSolo hs]

theorem answersCoreHalt {a : Accessor} {c : Fin 192} {v : Nat} (hs : s.Canon) : AnswersCanon (execCoreHalt a c v s) :=
  dictWrite hs fun _ hs => .ite hs (.takeHalt (.setCore hs))

theorem answersCoreResume {a : Accessor} {c : Fin 192} {v : Nat} (hs : s.Canon) : AnswersCanon (execCoreResume a c v s) :=
  dictWrite hs fun _ hs => .afterCore (.setObj hs)

/-! ### Downlink -/

theorem postBuildRelease {c : Nat} {S : Int} {late : Bool} (hs : s.Canon) : (s.postBuildRelease c S late).Canon :=
  .schTraceRec (.hwSend (.of_mems (.of hs)))

theorem frameUp {c t x ty queue : Nat} {launch close : Int} {l : List (List Byte)} (hs : s.Canon) :
    (s.frameUp c t x ty queue launch close l).1.Canon := by
  induction l generalizing s with
  | nil => exact hs
  | cons p r ih => exact ih (.of_mems (.of hs))

theorem fsWrite {c w : Nat} {l : List Byte} (hs : s.Canon) : (s.fsWrite c w l).Canon := .storeAsked (.storeAsked hs)

theorem addMissed {h c : Nat} {S : Int} {n : Nat} (hs : s.Canon) : (s.addMissed h c S n).Canon :=
  .ite hs (.of_mems (.of (.bumpBy hs)))

theorem handOver {h c : Nat} {S : Int} {f : DlFrame} (hs : s.Canon) : (s.handOver h c S f).Canon :=
  .bump (.of_mems (.of (.of_mems (.of (.fsWrite hs)))))

theorem handAll {h c : Nat} {S : Int} {l : List DlFrame} (hs : s.Canon) : (s.handAll h c S l).1.Canon := by
  induction l generalizing s with
  | nil => exact hs
  | cons f r ih => exact .ite_fst (ih (.addMissed hs)) (ih (.handOver hs))

theorem buildFrames {h d : Nat} {g : Grid} {syms ts : List Nat} (hs : s.Canon) : (s.buildFrames h d g syms ts).1.Canon := by
  refine .foldl_fst (.ite_fst (.foldl_fst hs fun _ _ hs => ?_) hs) fun _ _ hs => .foldl_fst hs fun _ _ hs => ?_
  · split
    · exact .frameUp hs
    · exact hs
  · split
    · exact .frameUp hs
    · exact hs

theorem markBuilt {c : Nat} {S : Int} {next : Nat} (hs : s.Canon) : (s.markBuilt c S next).Canon := hs

theorem writeGrid {h d : Nat} {g : Grid} {ts : List Nat} (hs : s.Canon) : (s.writeGrid h d g ts).Canon :=
  .foldl hs fun _ _ hs => .foldl hs fun _ _ hs => .engWrite hs

theorem buildTaken {h : Nat} {r : EngRun} (hs : s.Canon) : (s.buildTaken h r).Canon :=
  .ite (.finishHead hs) (.ite (.finishHead (.writeBack (.writeGrid (.bumpBy (.bumpBy (.bumpBy hs))))))
    (.ite hs (.finishHead (.writeBack (.freeUsed (.markBuilt (.handAll
    (.addMissed (.buildFrames (.bumpBy (.bumpBy (.bumpBy hs))))))))))))

/-! ### Shape -/

theorem setTd {c t : Nat} {x : TdSt} (hs : s.Canon) : (s.setTd c t x).Canon := .setObj (.of_mems (.of hs))

theorem noteWorst {c t bin : Nat} {excess : Int} {fresh : Bool} (hs : s.Canon) : (s.noteWorst c t bin excess fresh).Canon :=
  .ite (.setObj hs) hs

theorem maskStep {h c t bin : Nat} {excess : Int} (hs : s.Canon) : (s.maskStep h c t bin excess).Canon :=
  .ite (.ite (.ite (.evt (.bump (.setTd (.noteWorst (.bump hs))))) (.evt (.bump (.setTd (.noteWorst (.bump hs))))))
    (.setTd (.ite (.bump hs) (.noteWorst (.bump hs))))) (.setTd hs)

theorem shapeSymbol {h d t k : Nat} {samples : List Cplx} (hs : s.Canon) : (s.shapeSymbol h d t k samples).1.Canon := by
  unfold State.shapeSymbol
  dsimp only
  refine .ite_fst (.setTd hs) ?_
  split
  · exact .freeUsed (.setTd hs)
  · exact .freeUsed (.maskStep (.setTd hs))

theorem tdFrame {T : Int} {c t x : Nat} {l : List Cplx} {first : Int} (hs : s.Canon) : (s.tdFrame T c t x l first).1.Canon :=
  .of_mems (.of hs)

theorem shapeFrames {d : Nat} {streams : List (Nat × Nat × List Cplx)} (hs : s.Canon) : (s.shapeFrames d streams).1.Canon := by
  unfold State.shapeFrames
  refine .foldl_fst hs fun p n hp => .foldl_fst hp fun q x hq => ?_
  split
  · exact hq
  · dsimp only
    exact .tdFrame hq

theorem shapeTaken {h : Nat} {r : EngRun} (hs : s.Canon) : (s.shapeTaken h r).Canon := by
  unfold State.shapeTaken
  refine .ite (.finishHead hs) (.ite hs ?_)
  dsimp only
  refine .ite hs (.finishHead (.writeBack (.foldl (.handAll (.bumpBy ?_)) fun _ _ hs => .setTd hs)))
  refine shapeFrames (foldl_fst (freeUsed hs) fun p x hp => .foldl_fst hp fun q n hq => ?_)
  dsimp only
  exact shapeSymbol hq

theorem answersTdMaskUnmute {a : Accessor} {c : Fin 768} {v : Nat} (hs : s.Canon) : AnswersCanon (execTdMaskUnmute a c v s) :=
  dictWrite hs fun _ hs => .foldl hs fun _ _ hs => .setTd hs

/-! ### EthOps -/

theorem setPort {p : Nat} {x : PortSt} (hs : s.Canon) : (s.setPort p x).Canon := hs
theorem raiseVec {fn v : Nat} (hs : s.Canon) : (s.raiseVec fn v).Canon := .ite (.of_mems (.of hs)) (.send hs)
theorem setEtx {r : Nat} {x : EtxSt} (hs : s.Canon) : (s.setEtx r x).Canon := hs

theorem etxWriteBack {r idx outcome : Nat} {launch : Int} (hs : s.Canon) : (s.etxWriteBack r idx outcome launch).Canon := by
  unfold State.etxWriteBack
  dsimp only
  split; exacts [hs, .raiseVec (.send (.send (.setEtx hs)))]

theorem fsRelease {c n : Nat} (hs : s.Canon) : (s.fsRelease c n).Canon := hs

theorem txDone {e : TxEntry} {outcome : Nat} {launch : Int} (hs : s.Canon) : (s.txDone e outcome launch).Canon := by
  unfold State.txDone
  split; exacts [.fsRelease hs, .finish (.freeUsed hs), .etxWriteBack hs, hs, hs]

theorem countEntries {p : Nat} (hs : s.Canon) : (s.countEntries p).Canon := .setObj hs
theorem dropEntry {e : TxEntry} (hs : s.Canon) : (s.dropEntry e).Canon := .countEntries (.of_mems (.of hs))
theorem offerOwn {p q input : Nat} {body : List Byte} (hs : s.Canon) : (s.offerOwn p q input body).Canon := hs

theorem discardAll {p : Nat} {l : List TxEntry} (hs : s.Canon) : (s.discardAll p l).Canon := by
  induction l generalizing s with
  | nil => exact hs
  | cons x r ih => exact ih (.txDone (.bump (.dropEntry hs)))

theorem setErx {r : Nat} {x : ErxSt} (hs : s.Canon) : (s.setErx r x).Canon := hs

theorem fcLevel {p k : Nat} {occ : Int} {full : Bool} (hs : s.Canon) : (s.fcLevel p k occ full).Canon :=
  .ite (.setObj (.setPort hs)) (.ite (.setObj (.setPort hs)) hs)

theorem fcEval {p : Nat} {occ : List Nat} (hs : s.Canon) : (s.fcEval p occ).Canon :=
  .ite (.fcLevel (.setPort (.setObj hs))) (.ite (.foldl (.setPort (.setObj hs)) fun _ _ hs => .fcLevel hs)
    (.setPort (.setObj hs)))

/-! ### Preamble -/

theorem setWatchState {e st : Nat} (hs : s.Canon) : (s.setWatchState e st).Canon := .setObj hs

theorem wakeDecision {e outcome : Nat} {metric : Int} (hs : s.Canon) : (s.wakeDecision e outcome metric).Canon := by
  unfold State.wakeDecision
  extract_lets w t hits sh s₁ s₂ s₃
  have h₁ : s₁.Canon := .of_mems (.of hs)
  have h₃ : s₃.Canon := .bump (.setObj (.setWatchState h₁))
  exact .ite (.ite (.ite (.ite (.assertWake h₃) (.evt h₃)) h₃) h₁) hs

theorem watchClose {p pre : Nat} {r : PraRx} {outcome : Nat} (hs : s.Canon) : (s.watchClose p pre r outcome).Canon :=
  .wakeDecision (.ite (.bump (.setPra (.of_mems (.of (.setDom hs)))))
    (.ite (.bump (.setPra (.of_mems (.of (.setDom hs))))) (.setPra (.of_mems (.of (.setDom hs))))))

theorem praClose {p pre : Nat} {r : PraRx} {outcome : Nat} (hs : s.Canon) : (s.praClose p pre r outcome).Canon :=
  .ite (.watchClose hs) (.setObj (.bump (.setPra (.store hs))))

theorem praOpenAt {p pre : Nat} {r : PraRx} (hs : s.Canon) : (s.praOpenAt p pre r).Canon :=
  .ite (.setPra hs) (.setObj (.setPra hs))

theorem praUpdate {p pre : Nat} {r : PraRx} (hs : s.Canon) : (s.praUpdate p pre r).Canon := .setPra hs

theorem praSearch {p pre gain : Nat} {prof : PraProfile} {ev : PraEval} (hs : s.Canon) :
    (s.praSearch p pre gain prof ev).Canon := by
  unfold State.praSearch
  split; exacts [.ite (.praOpenAt hs) hs, hs]

theorem praReceive {p pre gain : Nat} {prof : PraProfile} {ev : PraEval} {r0 : PraRx} (hs : s.Canon) :
    (s.praReceive p pre gain prof ev r0).1.Canon := by
  refine .ite_fst (.praSearch (.praClose hs)) ?_
  split
  · exact .ite_fst (.ite_fst (.praOpenAt (.bumpIf (.praClose hs))) (.bumpIf (.praUpdate hs))) (.praUpdate hs)
  · exact .praUpdate hs

theorem praClip {p : Nat} {ev : PraEval} (hs : s.Canon) : (s.praClip p ev).Canon := .ite (.setPra hs) hs

theorem praLast {p pre : Nat} {ev : PraEval} (hs : s.Canon) : (s.praLast p pre ev).Canon := by
  unfold State.praLast
  split; exacts [.ite (.praClose hs) hs, hs]

theorem praEvalAll {p gain : Nat} {prof : PraProfile} {ev : PraEval} (hs : s.Canon) : (s.praEvalAll p gain prof ev).1.Canon := by
  refine .foldl_fst hs fun _ _ hs => ?_
  split
  · exact .praReceive hs
  · exact .praSearch hs

theorem praGains {p : Nat} {measured : List (Nat × Nat)} {captured : Bool} (hs : s.Canon) :
    (s.praGains p measured captured).Canon :=
  .setPra hs

theorem praEvaluate {p : Nat} {S : Int} {rep : Nat} {streams : List Nat} {clip missing : Bool} {measured : List (Nat × Nat)}
    {prof : PraProfile} (hs : s.Canon) : (s.praEvaluate p S rep streams clip missing measured prof).Canon :=
  .praGains (.praClip (.foldl (.praEvalAll (.freeUsed (.setPra hs))) fun _ _ hs => .praLast hs))

theorem praMessage {p : Nat} {S : Int} (hs : s.Canon) : (s.praMessage p S).Canon := .hwSend (.paceCompletion (.setPra hs))

theorem answersPraEvaluation {p : Fin 256} {S : Int} {rep : Nat} {prof : PraProfile} (hs : s.Canon) :
    AnswersCanon (execPraEvaluation p S rep prof s) :=
  ite hs (.ite (.praMessage (.praEvaluate (.bumpBy (.bumpIf (.bumpBy hs))))) (.praEvaluate (.bumpBy (.bumpIf (.bumpBy hs)))))

theorem praTruncate {p : Nat} (hs : s.Canon) : (s.praTruncate p).Canon := .setPra (.foldl hs fun _ _ hs => .praClose hs)
theorem praSkip {p : Nat} (hs : s.Canon) : (s.praSkip p).Canon := .setPra hs

/-! ### TimeOps -/

theorem setRho {v : Int} (hs : s.Canon) : (s.setRho v).Canon := .of_mems (.of (.setObj hs))
theorem enterHoldover (hs : s.Canon) : s.enterHoldover.Canon := .of_mems (.of (.setRho (.evt (.bump (.setObj hs)))))
theorem enterAcquiring (hs : s.Canon) : s.enterAcquiring.Canon := .of_mems (.of (.setObj hs))

theorem sourceLost (hs : s.Canon) : s.sourceLost.Canon :=
  .ite (.enterHoldover hs) (.ite (.ite (.enterHoldover hs) (.setObj hs)) hs)

theorem ptpPortLost {p : Nat} (hs : s.Canon) : (s.ptpPortLost p).Canon :=
  .ite hs (.ite (.ite (.sourceLost (.of_mems (.of (.of_mems (.of (.setObj hs))))))
    (.of_mems (.of (.of_mems (.of (.setObj hs)))))) (.of_mems (.of (.setObj hs))))

theorem stepTime {v : Int} (hs : s.Canon) : (s.stepTime v).Canon := .evt (.bump (.setObj (.setObj (.setObj hs))))
theorem showCtxRate (hs : s.Canon) : s.showCtxRate.Canon := .setObj hs

/-! ### Time -/

theorem latchSnapshot (hs : s.Canon) : s.latchSnapshot.Canon := hs
theorem setTrigStatus {n : Nat} {armed late : Bool} (hs : s.Canon) : (s.setTrigStatus n armed late).Canon := .setObj hs

theorem fireTrig {n : Nat} {late : Bool} (hs : s.Canon) : (s.fireTrig n late).Canon := by
  unfold State.fireTrig
  dsimp only
  split
  · exact .latchSnapshot (.bumpIf (.setTrigStatus hs))
  · exact .evt (.bumpIf (.setTrigStatus hs))
  · exact .bumpIf (.setTrigStatus hs)

theorem firePassed (hs : s.Canon) : s.firePassed.Canon := .foldl hs fun _ _ hs => .ite (.fireTrig hs) hs
theorem stepAndFire {v : Int} (hs : s.Canon) : (s.stepAndFire v).Canon := .firePassed (.stepTime hs)

theorem answersTimeSet {a : Accessor} {v : Nat} (hs : s.Canon) : AnswersCanon (execTimeSet a v s) :=
  dictWrite hs fun _ hs => .of_mems (.of (.stepAndFire hs))

theorem answersTimeTrigWrite {a : Accessor} {n : Fin 16} {v : Nat} (hs : s.Canon) : AnswersCanon (execTimeTrigWrite a n v s) :=
  dictWrite hs fun _ hs => .ite (.setTrigStatus (.setObj hs))
    (.ite (.fireTrig (.setTrigStatus (.of_mems (.of (.setObj hs))))) (.setTrigStatus (.of_mems (.of (.setObj hs)))))

theorem servoRho {offset synce : Int} (hs : s.Canon) : (s.servoRho offset synce).Canon :=
  .setRho (.ite (.of_mems (.of (.of_mems (.of hs)))) (.of_mems (.of hs)))

theorem servo {offset synce : Int} (hs : s.Canon) : (s.servo offset synce).Canon :=
  .ite (.bump (.of_mems (.of hs))) (.ite (.stepAndFire (.of_mems (.of (.setObj (.of_mems (.of hs))))))
    (.servoRho (.of_mems (.of (.setObj (.of_mems (.of hs)))))))

theorem runBmca (hs : s.Canon) : s.runBmca.Canon := .foldl (.of_mems (.of hs)) fun _ _ hs => .ite hs (.setObj hs)
theorem sourceQualified (hs : s.Canon) : s.sourceQualified.Canon := .ite (.enterAcquiring hs) hs

theorem slaveAnnounce {m : PtpMsg} (hs : s.Canon) : (s.slaveAnnounce m).Canon :=
  .ite (.sourceQualified (.setObj (.setObj hs))) (.setObj (.setObj hs))

theorem newGrandmaster {m : PtpMsg} (hs : s.Canon) : (s.newGrandmaster m).Canon := .ite (.enterHoldover (.setObj hs)) (.setObj hs)
theorem setMaster {p : Nat} {m : Option PtpMaster} (hs : s.Canon) : (s.setMaster p m).Canon := hs

theorem announce {p : Nat} {m : PtpMsg} (hs : s.Canon) : (s.announce p m).Canon :=
  .ite (.newGrandmaster (.setMaster hs)) (.ite (.ite (.sourceLost (.runBmca (.setMaster hs))) (.runBmca (.setMaster hs)))
    (.ite (.runBmca (.setMaster hs)) (.ite (.newGrandmaster (.runBmca (.setMaster hs)))
    (.slaveAnnounce (.runBmca (.setMaster hs))))))

theorem showPassing {before : Int} (hs : s.Canon) : (s.showPassing before).Canon :=
  .ite (.showLaps (.ite (.showCtxRate hs) hs)) (.ite (.showCtxRate hs) hs)

theorem tickTime (hs : s.Canon) : s.tickTime.Canon := .setObj (.setObj (.setObj (.of_mems (.of hs))))
theorem ppsFall (hs : s.Canon) : s.ppsFall.Canon := .ite (.of_mems (.of hs)) hs
theorem tick (hs : s.Canon) : s.tick.Canon := .ite hs (.ppsFall (.showPassing (.tickTime hs)))

/-! ### Staging -/

theorem setKey {k : Nat} {v : Int} (hs : s.Canon) : (s.setKey k v).Canon := hs
theorem setDomKey {k : Nat} {l : List Byte} (hs : s.Canon) : (s.setDomKey k l).Canon := hs
theorem setStage {k : Nat} {x : StageSt} (hs : s.Canon) : (s.setStage k x).Canon := .setObj (.of_mems (.of hs))
theorem stageVal {k key : Nat} {v : Int} (hs : s.Canon) : (s.stageVal k key v).1.Canon := .ite_fst hs (.ite_fst hs (.setStage hs))

theorem stageDom {k key : Nat} {l : List Byte} (hs : s.Canon) : (s.stageDom k key l).1.Canon :=
  .ite_fst hs (.ite_fst hs (.ite_fst hs (.setStage hs)))

theorem stageClear {k : Nat} (hs : s.Canon) : (s.stageClear k).Canon := .setObj (.setObj (.setStage hs))

theorem applySet {x : StageSt} (hs : s.Canon) : (s.applySet x).1.Canon :=
  .foldl (.foldl (.foldl (.foldl hs fun _ _ hs => .setKey hs) fun _ _ hs => .setDomKey hs) fun _ _ hs => .setObj hs) fun _ _ hs
    => .of_mems (.of hs)

theorem putCarriers {halls : List (Nat × Nat)} (hs : s.Canon) : (s.putCarriers halls).Canon := .foldl hs fun _ _ hs => .setObj hs

theorem showArmed {tc : Int} {x : StageSt} (hs : s.Canon) : (s.showArmed tc x).Canon := by
  refine .foldl ?_ fun _ _ hs => .of_mems (.of hs)
  split
  · refine .of_mems (.of ?_)
    split
    · exact .of_mems (.of hs)
    · exact hs
  · split
    · exact .of_mems (.of hs)
    · exact hs

theorem hideArmed {tc : Int} {x : StageSt} (hs : s.Canon) : (s.hideArmed tc x).Canon := hs
theorem armResult {k : Nat} {st : Status} {addr : Nat} (hs : s.Canon) : (s.armResult k st addr).Canon := .bumpIf (.setObj hs)

theorem armAccept {k : Nat} {T : Int} {a : ArmCheck} (hs : s.Canon) : (s.armAccept k T a).Canon :=
  .journalNote (.showArmed (.setObj (.setObj (.foldl hs fun _ _ hs => .setStage hs))))

theorem arm {k v : Nat} {choice : List (Nat × Nat)} (hs : s.Canon) : (s.arm k v choice).1.Canon := by
  refine .ite_fst hs ?_
  split
  · exact .armResult hs
  · refine .ite_fst (.armResult hs) ?_
    split
    · exact .armResult (.foldl hs fun _ _ hs => .setObj hs)
    · exact .armResult (.armAccept hs)

theorem answersStageCommit {a : Accessor} {k : Fin 64} {v : BitVec 64} {place : List (Nat × Nat)} (hs : s.Canon) :
    AnswersCanon (execStageCommit a k v place s) := by
  unfold execStageCommit
  dsimp only
  split
  · exact hs
  · exact .ite (.refuseAt (.countAccess hs)) (.ite (.acceptAt (.arm (.countAccess hs))) (.refuseAt (.arm (.countAccess hs))))

theorem stageCancel {k : Nat} (hs : s.Canon) : (s.stageCancel k).Canon := .stageClear (.ite (.hideArmed hs) hs)

theorem answersStageCancel {a : Accessor} {k : Fin 64} {v : Nat} (hs : s.Canon) : AnswersCanon (execStageCancel a k v s) :=
  dictWrite hs fun _ hs => .stageCancel hs

theorem admitRefresh (hs : s.Canon) : s.admitRefresh.Canon :=
  .foldl (.foldl (.setObj (.setObj (.setObj (.setObj (.setObj hs))))) fun _ _ hs => .setObj (.setObj hs)) fun _ _ hs => .setObj
    hs

theorem watchRefresh {e : Nat} (hs : s.Canon) : (s.watchRefresh e).Canon :=
  .setWatchState (.ite (.setObj (.ite (.of_mems (.of (.praTruncate hs))) hs)) (.ite (.of_mems (.of (.praTruncate hs))) hs))

theorem placeLow {c : Nat} (hs : s.Canon) : (s.placeLow c).Canon := by
  unfold State.placeLow
  split; exacts [.setObj hs, .evt (.setObj (.setObj hs))]

theorem praReplace {x : StageSt} (hs : s.Canon) : (s.praReplace x).Canon := by
  unfold State.praReplace
  split; exacts [.foldl hs fun _ _ hs => .praTruncate hs, hs]

theorem praBegin {old : List Byte} {x : StageSt} (hs : s.Canon) : (s.praBegin old x).Canon := by
  unfold State.praBegin
  split; exacts [.foldl hs fun _ _ hs => .praSkip hs, hs]

theorem applyCtx {tc : Int} {k : Nat} (hs : s.Canon) : (s.applyCtx tc k).Canon :=
  .bump (.setObj (.stageClear (.foldl (.foldl (.praBegin (.putCarriers (.applySet (.of_mems (.of (.praReplace hs))))))
    fun _ _ hs => .placeLow hs) fun _ _ hs => .foldl hs fun _ _ hs => .setTd hs)))

theorem commitDue {tc : Int} {ks : List Nat} (hs : s.Canon) : (s.commitDue tc ks).Canon :=
  .foldl (.admitRefresh (.foldl (.foldl hs fun _ _ hs => .applyCtx hs) fun _ _ hs => .snap hs)) fun _ _ hs => .watchRefresh hs

theorem answersStageCommitApply (hs : s.Canon) : AnswersCanon (execStageCommitApply s) := by
  unfold execStageCommitApply
  split; exacts [.ite (.commitDue hs) hs, hs]

/-! ### Jobs -/

theorem setRing {r : Nat} {x : RingSt} (hs : s.Canon) : (s.setRing r x).Canon := hs
theorem setJob {r : Nat} {j : JobSt} (hs : s.Canon) : (s.setJob r j).Canon := .setRing hs
theorem jrWriteBack {r : Nat} (hs : s.Canon) : (s.jrWriteBack r).Canon := .ite (.send hs) hs
theorem ringError {r reason q : Nat} (hs : s.Canon) : (s.ringError r reason q).Canon := .raiseVec (.setObj (.setObj hs))
theorem reclaim (hs : s.Canon) : s.reclaim.Canon := .ite (.of_mems (.of (.journalNote hs))) hs
theorem journalRoom (hs : s.Canon) : s.journalRoom.Canon := .ite (.reclaim hs) hs
theorem pruneJobs {r : Nat} (hs : s.Canon) : (s.pruneJobs r).Canon := .setRing hs
theorem crHeadDone {r v : Nat} (hs : s.Canon) : (s.crHeadDone r v).Canon := .ite (.reclaim (.pruneJobs (.setObj hs))) hs

theorem slotAccepted {j : JobSt} {first : Bool} (hs : s.Canon) : (s.slotAccepted j first).Canon :=
  .ite (.ite hs (.of_mems (.of hs))) (.ite (.ite (.postBuildRelease (.of_mems (.of hs))) (.of_mems (.of hs))) hs)

theorem acceptDone {r q : Nat} (hs : s.Canon) : (s.acceptDone r q).Canon := by
  unfold State.acceptDone
  split; exacts [.ite (.slotAccepted (.jrWriteBack (.bump (.setObj (.setJob hs))))) hs, hs]

theorem takeJob {r d : Nat} {prach : Bool} (hs : s.Canon) : (s.takeJob r d prach).Canon :=
  .journalPut (.ite (.of_mems (.of (.setRing hs))) (.setRing hs)) fun _ hs => .acceptDone hs

theorem answersJobAcceptance {r : Fin 256} {ok : Bool} {desc : BitVec 512} {prach : Bool} (hs : s.Canon) :
    AnswersCanon (execJobAcceptance r ok desc prach s) :=
  ite hs (.ite (.ringError hs) (.ite (.ringError hs) (.ite (.ringError hs)
    (.ite (.bump (.journalRoom hs)) (.takeJob (.journalRoom hs))))))

theorem jobEnds {r : Nat} {j : JobSt} {outcome reason detail : Nat} (hs : s.Canon) :
    (s.jobEnds r j outcome reason detail).Canon :=
  .setJob hs

theorem cfgStage {a : Accessor} {k : Nat} {w : Nat × Int} (hs : s.Canon) : (s.cfgStage a k w).1.Canon := by
  unfold State.cfgStage
  split; exacts [.countAccess hs, .ite_fst (.stageVal (.countAccess hs)) (.countAccess hs)]

theorem cfgStageDom {a : Accessor} {k : Nat} {w : Nat × List Byte} (hs : s.Canon) : (s.cfgStageDom a k w).1.Canon := by
  unfold State.cfgStageDom
  split; exacts [.countAccess hs, .ite_fst (.stageDom (.countAccess hs)) (.countAccess hs)]

theorem stageList {α : Type} {f : State → Nat × α → State × Status} {l : List (Nat × α)} (hs : s.Canon)
    (hf : ∀ s x, s.Canon → (f s x).1.Canon) : (Machine.stageList f s l).1.Canon := by
  induction l generalizing s with
  | nil => exact hs
  | cons w r ih => exact .ite_fst (ih (hf _ _ hs)) (hf _ _ hs)

theorem configure {fn : Nat} {q : CfgReq} (hs : s.Canon) : (s.configure fn q).1.Canon := by
  unfold State.configure
  extract_lets a w₁ w₂
  have h₁ : w₁.1.Canon := .stageList hs fun _ _ hs => .cfgStage hs
  have h₂ : w₂.1.Canon := .ite_fst (.stageList h₁ fun _ _ hs => .cfgStageDom hs) h₁
  exact .ite_fst hs (.ite_fst h₂ (.arm (.setStage h₂)))

theorem startConfig {r : Nat} {j : JobSt} {rd : JobRead} {q : CfgReq} (hs : s.Canon) : (s.startConfig r j rd q).Canon :=
  .ite (.setJob (.configure hs)) (.ite (.jobEnds (.configure hs)) (.jobEnds (.configure hs)))

theorem runJob {r : Nat} {j : JobSt} {rd : JobRead} (hs : s.Canon) : (s.runJob r j rd).Canon := by
  refine .ite (.setJob hs) (.ite ?_ (.ite (.setJob hs) hs))
  split
  · exact .startConfig hs
  · exact .setJob hs

theorem jobProceeds {r : Nat} {j : JobSt} {rd : JobRead} (hs : s.Canon) : (s.jobProceeds r j rd).Canon := by
  refine .ite (.jobEnds hs) (.ite (.setJob hs) ?_)
  split
  · exact .jobEnds hs
  · exact .runJob hs

theorem answersJobStart {r : Fin 256} {seq : Nat} {rd : JobRead} (hs : s.Canon) : AnswersCanon (execJobStart r seq rd s) := by
  unfold execJobStart
  split
  · exact hs
  · refine .ite hs (.ite (.jobEnds hs) (.ite hs ?_))
    split
    · exact .jobEnds hs
    · exact .jobProceeds hs

theorem answersJobExpire {r : Fin 256} {seq : Nat} (hs : s.Canon) : AnswersCanon (execJobExpire r seq s) := by
  unfold execJobExpire
  split; exacts [hs, .ite hs (.jobEnds hs)]

theorem gateDone {r q : Nat} (hs : s.Canon) : (s.gateDone r q).Canon := by
  unfold State.gateDone
  split; exacts [.ite (.setJob hs) hs, hs]

theorem paceJob {j : JobSt} {outcome : Nat} (hs : s.Canon) : (s.paceJob j outcome).Canon :=
  .ite hs (.ite (.paceCompletion hs) (.ite (.snap hs) hs))

theorem answersCompletionGate {r : Fin 256} {seq : Nat} {msgs : List (List Byte)} (hs : s.Canon) :
    AnswersCanon (execCompletionGate r seq msgs s) := by
  unfold execCompletionGate
  split; exacts [hs, .ite hs (.journalPut (.paceJob (.setJob hs)) (fun _ hs => .gateDone hs))]

theorem sendRecord {r : Nat} {j : JobSt} (hs : s.Canon) : (s.sendRecord r j).Canon := .send (.ite hs (.send hs))
theorem signalRecord {r : Nat} (hs : s.Canon) : (s.signalRecord r).Canon := .ite (.raiseVec hs) (.ite hs (.setRing hs))

theorem countRecord {r outcome : Nat} (hs : s.Canon) : (s.countRecord r outcome).Canon := by
  unfold State.countRecord
  split; exacts [.bump hs, .bump hs, .bump hs, .bump hs, hs]

theorem answersCompletionRecordWrite {r : Fin 256} (hs : s.Canon) : AnswersCanon (execCompletionRecordWrite r s) := by
  unfold execCompletionRecordWrite
  dsimp only
  split
  · exact hs
  · exact .ite hs (.ite (.jrWriteBack (.countRecord (.setObj (.setJob (.sendRecord hs)))))
      (.signalRecord (.jrWriteBack (.countRecord (.setObj (.setJob (.sendRecord hs)))))))

theorem answersJrCoalesceExpire {r : Fin 256} (hs : s.Canon) : AnswersCanon (execJrCoalesceExpire r s) := by
  unfold execJrCoalesceExpire
  split; exacts [.ite (.raiseVec (.setRing hs)) hs, hs]

theorem redoJobs {h : Nat} (hs : s.Canon) : (s.redoJobs h).Canon := hs
theorem redoAll (hs : s.Canon) : s.redoAll.Canon := hs

theorem releaseAgain {mine : Nat → Bool} (hs : s.Canon) : (s.releaseAgain mine).Canon :=
  .foldl (.of_mems (.of hs)) fun _ _ hs => .ite (.postBuildRelease hs) hs

theorem rewriteRecords (hs : s.Canon) : s.rewriteRecords.Canon :=
  .foldl hs fun _ _ hs => .ite (.jrWriteBack (.foldl hs fun _ _ hs => .sendRecord hs)) hs

theorem enableRing {r : Nat} (hs : s.Canon) : (s.enableRing r).Canon :=
  .setRing (.setObj (.setObj (.setObj (.bump (.setObj (.setObj hs))))))

theorem disableRing {r : Nat} (hs : s.Canon) : (s.disableRing r).Canon := .setRing (.setObj (.setObj hs))

theorem answersJrEnableWrite {a : Accessor} {r : Fin 256} {v : Nat} (hs : s.Canon) : AnswersCanon (execJrEnableWrite a r v s) :=
  dictWrite hs fun _ hs => .ite (.ite (.enableRing hs) hs) (.ite hs (.disableRing hs))

theorem answersJrResume {a : Accessor} {r : Fin 256} {v : Nat} (hs : s.Canon) : AnswersCanon (execJrResume a r v s) :=
  dictWrite hs fun _ hs => .setObj hs

theorem flrRing {r : Nat} (hs : s.Canon) : (s.flrRing r).Canon := .disableRing (.bumpBy hs)
theorem busReturns {who : Nat → Bool} (hs : s.Canon) : (s.busReturns who).Canon := .foldl hs fun _ _ hs => .jrWriteBack hs
theorem apRefuse {fn addr : Nat} (hs : s.Canon) : (s.apRefuse fn addr).Canon := .raiseVec (.setObj (.bump hs))

theorem answersBar4Access {fn : Fin 64} {off : Nat} {wr : Bool} {n : Nat} {data : List Byte} (hs : s.Canon) :
    AnswersCanon (execBar4Access fn off wr n data s) := by
  unfold execBar4Access
  split
  · exact hs
  · exact .ite (.ite (.apRefuse hs) (.ite (.apRefuse hs) (.ite (.storeAsked hs) (.apRefuse (.storeAsked hs)))))
      (.ite (.send (.apRefuse hs)) (.ite (.send (.apRefuse hs)) (.send (.demandWords hs))))

/-! ### Context -/

theorem ctxStore {a : Nat} {l : List Byte} (hs : s.Canon) : (s.ctxStore a l).Canon := .mirrorMem (.store hs)
theorem setWay {b w v : Nat} (hs : s.Canon) : (s.setWay b w v).Canon := .ctxStore hs
theorem setStash {i v : Nat} (hs : s.Canon) : (s.setStash i v).Canon := .setObj (.of_mems (.of hs))
theorem ctxRead {a n : Nat} (hs : s.Canon) : (s.ctxRead a n).1.Canon := .demandWords hs
theorem readBucket {b : Nat} (hs : s.Canon) : (s.readBucket b).1.Canon := .ctxRead hs

theorem ctxMemError {structural : Bool} (hs : s.Canon) : (s.ctxMemError structural).Canon := by
  refine .ite (.bump hs) ?_
  split
  · exact .ite (.unitFault (.of_mems (.of (.bump hs)))) (.of_mems (.of (.bump hs)))
  · exact .of_mems (.of (.bump hs))

theorem setWayAt {v : Nat} {x1 : CtxPlace} (hs : s.Canon) : (s.setWayAt v x1).Canon := by
  unfold State.setWayAt
  split; exacts [.setWay hs, .setStash hs]

theorem ctxFind {key : Nat} (hs : s.Canon) : (s.ctxFind key).1.Canon := by
  refine .ite_fst (.readBucket hs) ?_
  split
  · exact .readBucket hs
  · exact .readBucket hs
  · refine .ite_fst (.readBucket (.readBucket hs)) ?_
    split <;> exact .readBucket (.readBucket hs)

theorem countCtxOp (hs : s.Canon) : s.countCtxOp.Canon := .setObj (.of_mems (.of hs))

theorem countCtxStatus {st : Nat} (hs : s.Canon) : (s.countCtxStatus st).Canon := by
  unfold State.countCtxStatus
  split; exacts [.bump hs, .bump hs, .bump hs, .bump hs, hs]

theorem ctxDone {h d st seq : Nat} (hs : s.Canon) : (s.ctxDone h d st seq).Canon := .finish (.countCtxStatus (.freeUsed hs))

theorem ctxDoneMirrored {h jseq d seq : Nat} (hs : s.Canon) : (s.ctxDoneMirrored h jseq d seq).Canon :=
  .afterAck hs fun _ hs => .ctxDone hs

theorem mirrorLogic {cleared : Bool} (hs : s.Canon) : (s.mirrorLogic cleared).Canon := .ite (.dravutSend hs) hs
theorem ctxJournal {key seq cmd : Nat} (hs : s.Canon) : (s.ctxJournal key seq cmd).Canon := .journalNote hs

theorem takeCtx {h cmd : Nat} {f : EngRun → State → State} (hs : s.Canon) (hf : ∀ x t, t.Canon → (f x t).Canon) :
    (s.takeCtx h cmd f).Canon :=
  .ite (.journalRoom hs) (.granted (.journalRoom hs) (fun _ hs => .takeHead hs
    (fun _ _ hs => .ite (.finishHead hs) (.ite hs (hf _ _ (.countCtxOp (.engPop hs)))))))

theorem copyQuarters {h d e : Nat} {l : List Nat} (hs : s.Canon) : (s.copyQuarters h d e l).1.Canon := by
  induction l generalizing s with
  | nil => exact hs
  | cons q qs ih => exact ih (.ite (.ctxRead hs) (.engWrite (.ctxRead hs)))

theorem answersLookup {h : Fin 16} (hs : s.Canon) : AnswersCanon (execLookup h s) := by
  unfold execLookup
  dsimp only
  refine takeCtx hs fun _ _ hs => ?_
  split
  · exact .ctxDone (.ctxMemError (.ctxFind (.bump hs)))
  · exact .ctxDone (.ctxFind (.bump hs))
  · exact .ite (.ctxDone (.ctxMemError (.copyQuarters (.ctxFind (.bump hs))))) (.ctxDone (.copyQuarters (.ctxFind (.bump hs))))

theorem takeSeq (hs : s.Canon) : s.takeSeq.Canon := .setObj hs

theorem kick {v b : Nat} {undo : List (Nat × Nat × Nat)} {n k : Nat} (hs : s.Canon) : (s.kick v b undo n k).s.Canon := by
  induction k generalizing s v b undo n with
  | zero => exact hs
  | succ k ih =>
    unfold State.kick
    dsimp only
    split
    · exact .readBucket (.setWay hs)
    · split
      · exact .setWay (.readBucket (.setWay hs))
      · exact ih (.readBucket (.setWay hs))

theorem undoKicks {l : List (Nat × Nat × Nat)} (hs : s.Canon) : (s.undoKicks l).Canon := .foldl hs fun _ _ hs => .setWay hs
theorem pushEntry {e : Nat} (hs : s.Canon) : (s.pushEntry e).Canon := .of_mems (.of (.ctxStore hs))

theorem placeWay {key seq e : Nat} (hs : s.Canon) : (s.placeWay key seq e).1.Canon := by
  unfold State.placeWay
  dsimp only
  split
  · exact .setWay hs
  · exact .setWay hs
  · refine .ite_fst (.bumpBy (.kick hs)) (.ite_fst (.undoKicks (.kick hs)) ?_)
    split
    · exact .bumpBy (.bump (.setStash (.kick hs)))
    · exact .undoKicks (.kick hs)

theorem takeEntry? (hs : s.Canon) : s.takeEntry?.1.Canon :=
  .ite_fst (.ite_fst (.ctxRead hs) (.of_mems (.of (.ctxRead hs)))) (.of_mems (.of hs))

theorem untakeEntry {c : CtxSt} (hs : s.Canon) : (s.untakeEntry c).Canon := hs

theorem insertNew {h d : Nat} (hs : s.Canon) : (s.insertNew h d).Canon := by
  have ht := takeEntry? hs
  unfold State.insertNew
  dsimp only
  refine .ite (.ctxDone (.setObj hs)) ?_
  split
  · next heq =>
    rw [heq] at ht
    exact .ctxDone (.ctxMemError ht)
  · next t e heq =>
    rw [heq] at ht
    have hp : ((t.ctxJournal (cxKey d) (t.objN .ctxSeqNext 0) 1).placeWay (cxKey d) (t.objN .ctxSeqNext 0) e).1.Canon :=
      .placeWay (.ctxJournal ht)
    exact .ite (.ctxDone (.ctxMemError (.untakeEntry hp)))
      (.ite (.ctxDoneMirrored (.mirrorLogic (.bump (.setObj (.takeSeq (.ctxStore hp))))))
        (.ctxDone (.mirrorLogic (.setObj (.pushEntry (.ctxStore hp))))))

theorem answersInsert {h : Fin 16} (hs : s.Canon) : AnswersCanon (execInsert h s) := by
  unfold execInsert
  dsimp only
  refine takeCtx hs fun _ _ hs => ?_
  split
  · exact .ctxDone (.ctxMemError (.ctxFind hs))
  · exact .ctxDone (.ctxFind hs)
  · exact .insertNew (.ctxFind hs)

theorem writeTouch {d e seq : Nat} (hs : s.Canon) : (s.writeTouch d e seq).Canon := .ctxStore hs

theorem writeQuarters {h d e : Nat} (hs : s.Canon) : (s.writeQuarters h d e).Canon :=
  .foldl hs fun _ _ hs => .ite (.ctxStore hs) (.ctxStore hs)

theorem readHeader {e : Nat} (hs : s.Canon) : (s.readHeader e).1.Canon := .ctxRead hs

theorem answersUpdate {h : Fin 16} (hs : s.Canon) : AnswersCanon (execUpdate h s) := by
  unfold execUpdate
  dsimp only
  refine takeCtx hs fun _ _ hs => ?_
  split
  · exact .ctxDone (.ctxMemError (.ctxFind hs))
  · exact .ctxDone (.ctxFind hs)
  · exact .ite (.ctxDone (.ctxFind hs)) (.ite (.ctxDone (.ctxMemError (.readHeader (.ctxFind hs))))
      (.ctxDoneMirrored (.mirrorLogic (.bump (.setWayAt (.writeTouch
      (.writeQuarters (.takeSeq (.ctxJournal (.readHeader (.ctxFind hs)))))))))))

theorem answersTouch {h : Fin 16} (hs : s.Canon) : AnswersCanon (execTouch h s) := by
  unfold execTouch
  dsimp only
  refine takeCtx hs fun _ _ hs => ?_
  split
  · exact .ctxDone (.ctxMemError (.ctxFind hs))
  · exact .ctxDone (.ctxFind hs)
  · exact .ite (.ctxDone (.ctxMemError (.readHeader (.ctxFind hs))))
      (.ctxDone (.bump (.ite (.of_mems (.of (.store (.readHeader (.ctxFind hs))))) (.store (.readHeader (.ctxFind hs))))))

theorem moveBack {b w : Nat} (hs : s.Canon) : (s.moveBack b w).Canon := by
  unfold State.moveBack
  split; exacts [.setStash (.setWay hs), hs]

theorem removeWay {p : CtxPlace} (hs : s.Canon) : (s.removeWay p).Canon := by
  unfold State.removeWay
  split; exacts [.moveBack (.setObj (.pushEntry (.setWayAt hs))), .setObj (.pushEntry (.setWayAt hs))]

theorem stackRead (hs : s.Canon) : s.stackRead.1.Canon := .ctxRead hs

theorem answersDelete {h : Fin 16} (hs : s.Canon) : AnswersCanon (execDelete h s) := by
  unfold execDelete
  dsimp only
  refine takeCtx hs fun _ _ hs => ?_
  split
  · exact .ctxDone (.ctxMemError (.ctxFind hs))
  · exact .ctxDone (.ctxFind hs)
  · exact .ite (.ctxDone (.ctxFind hs)) (.ite (.ctxDone (.ctxMemError (.stackRead (.ctxFind hs))))
      (.ctxDoneMirrored (.mirrorLogic (.bump (.removeWay (.ctxJournal (.stackRead (.ctxFind hs))))))))

theorem sweepWay {b w : Nat} (hs : s.Canon) : (s.sweepWay b w).Canon :=
  .ite hs (.ite (.ctxMemError (.ctxRead hs)) (.ite (.ite (.ctxMemError (.stackRead (.ctxRead hs)))
    (.mirrorLogic (.bump (.bump (.removeWay (.ctxJournal (.journalRoom (.stackRead (.ctxRead hs))))))))) (.ctxRead hs)))

theorem answersCtxSweepBucket (hs : s.Canon) : AnswersCanon (execCtxSweepBucket s) :=
  ite hs (.ite (.ctxMemError (.readBucket (.of_mems (.of hs))))
    (.foldl (.readBucket (.of_mems (.of hs))) fun _ _ hs => .sweepWay hs))

theorem ctxStartEmpty (hs : s.Canon) : s.ctxStartEmpty.Canon := .setObj (.setObj (.of_mems (.of hs)))

theorem ctxEnableTo {v : Nat} (hs : s.Canon) : (s.ctxEnableTo v).Canon :=
  .ite (.ite (.setObj hs) (.of_mems (.of (.setObj hs)))) (.ite (.setObj hs) (.ctxStartEmpty (.setObj hs)))

theorem answersCtxEnableWrite {a : Accessor} {v : Nat} (hs : s.Canon) : AnswersCanon (execCtxEnableWrite a v s) :=
  dictWrite hs fun _ hs => .ctxEnableTo hs

theorem ctxWipe (hs : s.Canon) : s.ctxWipe.Canon := by
  unfold State.ctxWipe
  split
  · exact .of_mems (.filter_mem (.of hs))
  · exact .of_mems (.of hs)

theorem ctxLogicTake {l : List Byte} (hs : s.Canon) : (s.ctxLogicTake l).Canon :=
  .setObj (.setObj (.setObj (.of_mems (.of (.ite (.ctxWipe hs) hs)))))

/-! ### Gallery -/

theorem arbRound {k asserted : Nat} {mid : Bool} (hs : s.Canon) : (s.arbRound k asserted mid).Canon := by
  unfold State.arbRound
  dsimp only
  split
  · exact .arbRefresh (.arbGrant (.setArb hs))
  · exact .ite (.arbRefresh (.bumpIf (.bumpIf (.bumpIf (.bump (.setObj (.arbGrant (.setArb hs)))))))) (.arbGrant (.setArb hs))

theorem answersArbFreezeWrite {a : Accessor} {k : Fin 253} {v : Nat} (hs : s.Canon) :
    AnswersCanon (execArbFreezeWrite a k v s) :=
  dictWrite hs fun _ hs => .arbRefresh (.setObj hs)

theorem answersArbBaseWrite {a : Accessor} {k : Fin 253} {i : Fin 32} {v : Nat} (hs : s.Canon) :
    AnswersCanon (execArbBaseWrite a k i v s) :=
  dictWrite hs fun _ hs => .setObj hs

theorem respond {h opcode status : Nat} {poison : Bool} {data : List Byte} (hs : s.Canon) :
    (s.respond h opcode status poison data).Canon :=
  .send hs

theorem gpStore {a : Nat} {bad : Nat → Bool} {i : Nat} {l : List Byte} {n : Nat} (hs : s.Canon) :
    (s.gpStore a bad i l n).1.Canon := by
  induction n generalizing s i l with
  | zero => exact hs
  | succ n ih => exact .ite_fst hs (ih (.ite_fst hs (.storeRmw hs)))

theorem progressMark {h v : Nat} (hs : s.Canon) : (s.progressMark h v).Canon :=
  .ite (.journalRoom hs) (.journalNote (.journalRoom hs))

theorem gpWrite {h : Nat} {data : List Byte} {poison : Bool} {bad : Nat → Bool} (hs : s.Canon) :
    (s.gpWrite h data poison bad).Canon :=
  .ite (.ite (.ite (.respond hs) (.respond (.progressMark hs))) (.respond hs))
    (.ite (.respond hs) (.ite (.respond hs) (.respond (.gpStore hs))))

theorem gpRead {h : Nat} (hs : s.Canon) : (s.gpRead h).Canon := .ite (.respond hs) (.respond (.demandWords hs))

theorem storeAck {c status : Nat} (hs : s.Canon) : (s.storeAck c status).Canon := by
  refine .ite (.setCore hs) ?_
  split
  · exact .takeAsync (.setCore hs)
  · exact .takeAsync (.setCore hs)
  · exact hs

theorem gpMsg {src q m : Nat} (hs : s.Canon) : (s.gpMsg src q m).Canon :=
  .ite (.ite hs (.ite (.arriveMsg hs) (.ite (.dropMsg hs) hs))) (.hwSend hs)

theorem gpPerform {p : GalPacket} {poison : Bool} {bad : Nat → Bool} (hs : s.Canon) : (s.gpPerform p poison bad).Canon := by
  unfold State.gpPerform
  dsimp only
  split
  · exact .gpRead hs
  · exact .gpWrite hs
  · exact .ite (.ite (.respond hs) (.respond (.gpMsg hs))) (.respond hs)
  · exact hs
  · exact .ite (.storeAck hs) hs
  · exact .respond (.freeUsed hs)
  · exact .respond hs
  · exact hs

theorem galErrors {l : List GalErr} {poisoned : Bool} (hs : s.Canon) : (s.galErrors l poisoned).Canon := by
  induction l generalizing s poisoned with
  | nil => exact hs
  | cons e r ih => exact .ite (ih (.bumpIf hs)) (ih (.bump hs))

theorem setGalBuf {n i c : Nat} {l : List GalPacket} (hs : s.Canon) : (s.setGalBuf n i c l).Canon := hs
theorem setIngress {n : Nat} {l : List GalPacket} (hs : s.Canon) : (s.setIngress n l).Canon := hs
theorem setGalLink {n o : Nat} {x : GalLink} (hs : s.Canon) : (s.setGalLink n o x).Canon := hs
theorem setCredit {h used : Nat} (hs : s.Canon) : (s.setCredit h used).Canon := hs

theorem galLeave {p : GalPacket} (hs : s.Canon) : (s.galLeave p).Canon := by
  unfold State.galLeave
  dsimp only
  split
  · exact .setGalBuf (.ite (.of_mems (.of (.ite (.setCredit hs) hs))) (.ite (.setCredit hs) hs))
  · exact .setIngress (.ite (.of_mems (.of (.ite (.setCredit hs) hs))) (.ite (.setCredit hs) hs))

theorem galGrant {k : Nat} (hs : s.Canon) : (s.galGrant k).Canon := by
  unfold State.galGrant
  dsimp only
  split; exacts [.setGalLink hs, hs]

theorem answersArbRound {k : Fin 573} {req : Nat} {mid : Bool} (hs : s.Canon) : AnswersCanon (execArbRound k req mid s) := by
  refine ite hs ?_
  split
  · exact .ite (.galGrant (.arbRound hs)) (.arbRound hs)
  · exact .arbRound hs

theorem galCrossed {n o c i : Nat} (hs : s.Canon) : (s.galCrossed n o c i).Canon := by
  unfold State.galCrossed
  split
  · split
    · exact .setGalBuf (.arbRelease (.galErrors (.setGalBuf hs)))
    · exact .setIngress (.arbRelease (.galErrors (.setGalBuf hs)))
  · exact hs

theorem galSlot {n o : Nat} (hs : s.Canon) : (s.galSlot n o).Canon := by
  unfold State.galSlot
  dsimp only
  split
  · exact hs
  · split
    · exact hs
    · exact .ite (.galCrossed (.setGalLink (.bump hs))) (.setGalLink (.bump hs))

theorem galRelease {p : GalPacket} (hs : s.Canon) : (s.galRelease p).Canon := .ite (.setCredit hs) (.of_mems (.of hs))

theorem galArrive {p : GalPacket} (hs : s.Canon) : (s.galArrive p).Canon := by
  unfold State.galArrive
  extract_lets h unit key s₁ s₂
  have h₁ : s₁.Canon := .of_mems (.of hs)
  have h₂ : s₂.Canon := .ite (.bump h₁) h₁
  exact .ite (.bump hs) (.ite (.ite (.respond h₂) h₂) (.ite (.respond h₁) (.gpPerform h₁)))

theorem answersGalleryPacketDelivery {e : GalStep} (hs : s.Canon) : AnswersCanon (execGalleryPacketDelivery e s) := by
  unfold execGalleryPacketDelivery
  split
  · exact .ite (.galLeave hs) hs
  · exact .galSlot hs
  · split
    · exact .ite (.galArrive (.galRelease (.setIngress hs))) hs
    · exact hs

theorem sendBehind {h src n : Nat} (hs : s.Canon) : (s.sendBehind h src n).Canon := by
  induction n generalizing s with
  | zero => exact hs
  | succ n ih =>
    unfold State.sendBehind
    split
    · exact hs
    · exact .ite (.bump hs) (ih (.setSch (.hwSend (.setSch (.setSch hs)))))

theorem stairSend {h q m : Nat} (hs : s.Canon) : (s.stairSend h q m).Canon := .hwSend hs
theorem stairSettle (hs : s.Canon) : s.stairSettle.Canon := .foldl (.of_mems (.of hs)) fun _ _ hs => .stairSend hs

theorem answersGalleryHoldRelease {h : Fin 16} (hs : s.Canon) : AnswersCanon (execGalleryHoldRelease h s) := by
  unfold execGalleryHoldRelease
  split
  · exact hs
  · exact .stairSettle (.sendBehind (.ite (.setSch hs) (.ite (.arriveMsg (.setSch hs)) (.dropMsg (.setSch hs)))))

/-! ### LaneOps -/

theorem setLane {l : Nat} {x : LaneSt} (hs : s.Canon) : (s.setLane l x).Canon := hs
theorem quadRefresh {q : Nat} (hs : s.Canon) : (s.quadRefresh q).Canon := .setObj hs

theorem portLeaves {p : Nat} (hs : s.Canon) : (s.portLeaves p).Canon :=
  .ptpPortLost (.setObj (.setObj (.setPort (.discardAll hs))))

theorem portRefresh {p : Nat} (hs : s.Canon) : (s.portRefresh p).Canon :=
  .ite (.setObj hs) (.ite (.portLeaves (.setObj (.setObj hs)))
    (.ite (.fcEval (.ite (.setObj (.setObj (.setObj hs))) (.setObj (.setObj hs)))) (.setObj (.setObj hs))))

theorem laneChanged {l : Nat} (hs : s.Canon) : (s.laneChanged l).Canon :=
  .quadRefresh (.ite (.foldl hs fun _ _ hs => .portRefresh hs) hs)

theorem laneEnter {l : Nat} {st : Int} (hs : s.Canon) : (s.laneEnter l st).Canon := .laneChanged (.setObj hs)
theorem laneToOff {l : Nat} (hs : s.Canon) : (s.laneToOff l).Canon := .laneEnter (.setObj (.setObj (.setLane hs)))
theorem laneToAcquire {l : Nat} (hs : s.Canon) : (s.laneToAcquire l).Canon := .laneEnter (.setLane (.setObj hs))
theorem laneTrain {l : Nat} (hs : s.Canon) : (s.laneTrain l).Canon := .laneEnter (.ite (.setObj (.setLane hs)) (.setLane hs))
theorem takeSnapshot {l : Nat} {fom : Int} (hs : s.Canon) : (s.takeSnapshot l fom).Canon := .setObj (.setObj (.setLane hs))
theorem trainedTaps {l : Nat} (hs : s.Canon) : (s.trainedTaps l).Canon := .ite hs (.freeUsed (.setLane (.freeUsed (.setLane hs))))
theorem laneTrained {l : Nat} (hs : s.Canon) : (s.laneTrained l).Canon := .laneEnter (.takeSnapshot (.setLane (.trainedTaps hs)))
theorem laneProceed {l : Nat} (hs : s.Canon) : (s.laneProceed l).Canon := .ite hs (.ite (.laneTrained hs) (.laneTrain hs))
theorem laneStopped {l : Nat} (hs : s.Canon) : (s.laneStopped l).Canon := .ite hs (.laneToOff hs)

theorem laneFails {l : Nat} (hs : s.Canon) : (s.laneFails l).Canon :=
  .ite (.laneStopped (.unitFault (.laneToAcquire (.setLane (.evt (.bump hs)))))) (.laneToAcquire (.setLane (.evt (.bump hs))))

/-! ### PairOps -/

theorem pairEnter {st : Int} (hs : s.Canon) : (s.pairEnter st).Canon := .evtIf (.ite (.setObj (.setObj hs)) (.setObj hs))
theorem setNap {k : Nat} {x : NapSt} (hs : s.Canon) : (s.setNap k x).Canon := hs
theorem setMunov {down : Bool} {x : MunovSt} (hs : s.Canon) : (s.setMunov down x).Canon := hs

theorem munovSend {down : Bool} {ty addrs : Nat} {payload : List Byte} (hs : s.Canon) :
    (s.munovSend down ty addrs payload).Canon :=
  .send (.setMunov hs)

theorem napEmit {k : Nat} (hs : s.Canon) : (s.napEmit k).Canon :=
  .ite (.of_mems (.of hs)) (.ite (.offerOwn hs) (.ite (.send hs) (.ite (.dravutSend hs) (.munovSend hs))))

theorem napFlush (hs : s.Canon) : s.napFlush.Canon := .foldl hs fun _ _ hs => .ite (.napEmit (.setNap hs)) hs

theorem ackWrite (hs : s.Canon) : s.ackWrite.Canon := by
  unfold State.ackWrite
  split; exacts [.napFlush (.of_mems (.of hs)), hs]

theorem syncStart (hs : s.Canon) : s.syncStart.Canon := .foldl hs fun _ _ hs => .dravutSend hs

theorem runAct {act : PairAct} (hs : s.Canon) : (s.runAct act).Canon := by
  unfold State.runAct
  split
  · exact .ite (.finish (.countCtxStatus hs)) (.ite (.finishRun hs) hs)
  · exact .acceptDone hs
  · exact .gateDone hs
  · exact .ackWrite hs
  · exact .crHeadDone hs
  · exact .ite (.pairEnter hs) hs

theorem ackTo {k : Nat} (hs : s.Canon) : (s.ackTo k).Canon := .foldl (.of_mems (.of hs)) fun _ _ hs => .runAct hs

theorem ackAll (hs : s.Canon) : s.ackAll.Canon := by
  refine .foldl (.of_mems (.of hs)) fun _ _ hs => ?_
  split
  · exact hs
  · exact .runAct hs

theorem linkDown {failIn : Bool} (hs : s.Canon) : (s.linkDown failIn).Canon :=
  .ite (.ite (.ackAll (.pairEnter (.of_mems (.of hs)))) (.ite (.of_mems (.of hs))
    (.pairEnter (.of_mems (.of (.of_mems (.of hs))))))) (.of_mems (.of hs))

theorem peerRefresh (hs : s.Canon) : s.peerRefresh.Canon := .ite (.linkDown hs) hs

/-! ### Lanes -/

theorem noteRefusal {q why : Nat} (hs : s.Canon) : (s.noteRefusal q why).Canon := .ite hs (.setObj hs)

theorem quadRestart {q : Nat} (hs : s.Canon) : (s.quadRestart q).Canon :=
  .foldl (.setPort hs) fun _ _ hs => .laneToOff (.setObj (.setObj (.setObj hs)))

theorem setQuadMode {q v : Nat} (hs : s.Canon) : (s.setQuadMode q v).Canon := .quadRestart (.setObj hs)

theorem answersLaneQuadModeWrite {a : Accessor} {q : Fin 14} {v : Nat} (hs : s.Canon) :
    AnswersCanon (execLaneQuadModeWrite a q v s) :=
  dictWrite (.ite (.noteRefusal hs) hs) fun _ hs => .ite (.peerRefresh (.setQuadMode (.setQuadMode hs))) (.setQuadMode hs)

theorem answersLaneQuadFecWrite {a : Accessor} {q : Fin 14} {v : Nat} (hs : s.Canon) :
    AnswersCanon (execLaneQuadFecWrite a q v s) :=
  dictWrite (.ite (.noteRefusal hs) hs) fun _ hs => .peerRefresh (.quadRestart (.setObj hs))

theorem undoTrial {l : Nat} (hs : s.Canon) : (s.undoTrial l).Canon := by
  refine .ite hs ?_
  split
  · exact .setObj (.setLane hs)
  · exact .send (.setLane hs)

theorem laneFreeze {l : Nat} (hs : s.Canon) : (s.laneFreeze l).Canon :=
  .ite (.ite (.laneEnter (.undoTrial hs)) hs) (.ite (.laneEnter (.setLane hs)) hs)

theorem answersTrainingFrameReceive {l : Fin 48} {req : BitVec 16} {holds : Bool} (hs : s.Canon) :
    AnswersCanon (execTrainingFrameReceive l req holds s) :=
  ite (.laneFreeze (.setLane hs)) (.ite (.setLane hs) (.ite (.send (.setObj (.setLane hs)))
    (.ite (.send (.setObj (.setLane hs))) (.send (.setObj (.setLane hs))))))

theorem markerBack {l w : Nat} (hs : s.Canon) : (s.markerBack l w).Canon :=
  .ite (.setObj (.laneTrain (.setObj hs))) (.ite (.laneTrained (.setLane (.setObj (.setObj hs))))
    (.setLane (.setObj (.setObj hs))))

theorem answersLaneMarkerRx {l : Fin 8} {w : BitVec 64} {bip : BitVec 8} {skew : Nat} (hs : s.Canon) :
    AnswersCanon (execLaneMarkerRx l w bip skew s) :=
  ite hs (.ite (.ite (.peerRefresh (.laneChanged (.setLane (.bump hs)))) (.setLane hs))
    (.peerRefresh (.markerBack (.laneChanged (.setObj (.setLane (.bumpIf (.bumpIf hs))))))))

theorem prbsWindow {l : Nat} {rx : List Bool} (hs : s.Canon) : (s.prbsWindow l rx).Canon :=
  .ite hs (.setObj (.setObj (.setObj (.setLane hs))))

theorem fecWindow {l sym good bad : Nat} (hs : s.Canon) : (s.fecWindow l sym good bad).Canon :=
  .ite hs (.ite (.bumpBy hs) (.bumpBy (.bumpBy (.bumpBy hs))))

theorem answersLaneEyeWindowEnd {l : Fin 56} {h a : Nat} {rx : List Bool} {slip : Bool} {ctle : Nat} {rise : Option Nat}
    {sym good bad : Nat} (hs : s.Canon) : AnswersCanon (execLaneEyeWindowEnd l h a rx slip ctle rise sym good bad s) := by
  refine .of_next (.ite hs ?_)
  extract_lets s₁ x trans nbits fom dens adapting code ok s₂ s₃ low s₄ s₅
  have h₂ : s₂.Canon := .setObj (.setObj (.setObj (.fecWindow (.prbsWindow hs))))
  have h₃ : s₃.Canon := .ite (.setObj h₂) h₂
  have h₅ : s₅.Canon := .setLane (.evtIf (.bumpIf h₃))
  exact .ite (.ite (.ite (.laneTrained (.setLane h₅)) (.setLane h₅)) (.laneTrained h₅)) h₅

theorem setCoef {l t : Nat} {v : Int} {up : Bool} (hs : s.Canon) : (s.setCoef l t v up).Canon := by
  unfold State.setCoef
  split; exacts [.send (.setLane hs), .send (.setLane hs), .setObj (.setLane hs)]

theorem askTap {l t : Nat} {d : Int} (hs : s.Canon) : (s.askTap l t d).Canon := .foldl hs fun _ _ hs => .send hs
theorem revert {l : Nat} (hs : s.Canon) : (s.revert l).Canon := .evt (.bump (.setObj (.askTap (.askTap (.setLane hs)))))

theorem nextTrial {l : Nat} {f : Int} (hs : s.Canon) : (s.nextTrial l f).Canon := by
  unfold State.nextTrial
  split; exacts [hs, .ite (.setCoef (.setLane hs)) (.setLane hs)]

theorem judgeTrial {l : Nat} {f : Int} (hs : s.Canon) : (s.judgeTrial l f).Canon :=
  .ite (.takeSnapshot (.setLane (.ite (.bump (.setLane hs)) (.setLane (.undoTrial hs)))))
    (.setLane (.ite (.bump (.setLane hs)) (.setLane (.undoTrial hs))))

theorem answersLaneAdaptPeriodEnd {l : Fin 56} (hs : s.Canon) : AnswersCanon (execLaneAdaptPeriodEnd l s) :=
  ite hs (.ite (.setLane hs) (.ite (.undoTrial hs) (.ite hs
    (.ite (.ite (.bump (.takeSnapshot (.setLane hs))) (.setLane hs))
    (.ite (.revert hs) (.ite (.judgeTrial hs) (.nextTrial hs)))))))

theorem answersLaneTxFfeWrite {a : Accessor} {l : Fin 56} {v : Nat} (hs : s.Canon) : AnswersCanon (execLaneTxFfeWrite a l v s) :=
  dictWrite hs fun _ hs => .ite (.setObj (.setObj hs)) (.setObj hs)

theorem testChanged {l : Nat} (hs : s.Canon) : (s.testChanged l).Canon :=
  .ite (.setObj (.setLane hs)) (.ite (.ite (.setObj (.setLane hs)) (.laneEnter (.setLane (.setObj (.setLane hs)))))
    (.ite (.laneToAcquire (.setObj (.setLane hs))) (.setObj (.setLane hs))))

theorem answersLaneLoopbackWrite {a : Accessor} {l : Fin 56} {v : Nat} (hs : s.Canon) :
    AnswersCanon (execLaneLoopbackWrite a l v s) :=
  dictWrite hs fun _ hs => .ite hs (.peerRefresh (.testChanged (.setObj hs)))

theorem answersLanePrbsTxWrite {a : Accessor} {l : Fin 56} {v : Nat} (hs : s.Canon) :
    AnswersCanon (execLanePrbsTxWrite a l v s) :=
  dictWrite hs fun _ hs => .ite hs (.peerRefresh (.testChanged (.setObj hs)))

theorem answersLanePrbsChkWrite {a : Accessor} {l : Fin 56} {v : Nat} (hs : s.Canon) :
    AnswersCanon (execLanePrbsChkWrite a l v s) :=
  dictWrite hs fun _ hs => .ite hs (.peerRefresh (.testChanged (.setObj hs)))

theorem answersLanePrbsClear {a : Accessor} {l : Fin 56} {v : Nat} (hs : s.Canon) : AnswersCanon (execLanePrbsClear a l v s) :=
  dictWrite hs fun _ hs => .setObj (.setObj hs)

/-! ### Memory -/

theorem setResources {c : Nat} {l : List (Nat × Nat × Nat)} (hs : s.Canon) : (s.setResources c l).Canon := by
  induction l generalizing s with
  | nil => exact hs
  | cons x r ih => exact ih (.of_mems (.of hs))

theorem trainChannel {c : Nat} {t : DdrTrain} {st : Int} (hs : s.Canon) : (s.trainChannel c t st).Canon :=
  .setResources (.setLap (.setDdrCh (.setObj (.setObj (.setObj (.setObj (.setObj (.setObj hs))))))))

theorem hardRepair {c : Nat} (hs : s.Canon) : (s.hardRepair c).Canon := .ite hs (.setObj (.of_mems (.of hs)))

theorem trainAll {st : Int} {c : Nat} {l : List DdrTrain} (hs : s.Canon) : (s.trainAll st c l).Canon := by
  induction l generalizing s c with
  | nil => exact hs
  | cons t r ih => exact ih (.hardRepair (.trainChannel hs))

theorem placeRegions (hs : s.Canon) : s.placeRegions.Canon := .setObj (.setObj (.setObj hs))

theorem answersDdrTrainingEnd {found : List DdrTrain} (hs : s.Canon) : AnswersCanon (execDdrTrainingEnd found s) := by
  refine ite hs ?_
  split
  · exact hs
  · split
    · exact .evt (.setObj (.setObj (.trainAll hs)))
    · exact .placeRegions (.setObj (.setObj (.trainAll hs)))

theorem sweepLog {m n : Nat} (hs : s.Canon) : (s.sweepLog m n).Canon := by
  induction n generalizing s with
  | zero => exact hs
  | succ n ih => exact ih (.ite (.setLogEntry hs) hs)

theorem sweepSram {m : Nat} (hs : s.Canon) : (s.sweepSram m).Canon := by
  unfold State.sweepSram
  dsimp only
  refine .setObj (.sweepLog (.of_mems ?_))
  split
  · exact .filter_mem (.filter_coreMem (.of hs))
  · exact .filter_mem (.of hs)

theorem answersDemandRead {l : MemLoc} {up : Nat} (hs : s.Canon) : AnswersCanon (execDemandRead l up s) := by
  refine ite hs (.ite (.send (.bump hs)) (.send (.ite ?_ (.demandWord (.setUpset hs)))))
  split
  · exact .unitFault (.demandWord (.setUpset hs))
  · exact .demandWord (.setUpset hs)

theorem scrubWord {l : MemLoc} (hs : s.Canon) : (s.scrubWord l).Canon := by
  unfold State.scrubWord
  dsimp only
  split
  · exact hs
  · refine .logWrite (.setUpset ?_)
    split
    · exact .ite (.logCorrection (.bump hs)) (.writeMem (.logCorrection (.bump hs)))
    · exact .logCorrection (.bump hs)
  · exact .logUncorrectable hs

theorem scrubWords {m off : Nat} {up : Upsets} {n : Nat} (hs : s.Canon) : (s.scrubWords m off up n).Canon := by
  induction n with
  | zero => exact hs
  | succ n ih => exact .scrubWord (.setUpset ih)

theorem scrubWrap {m : Nat} (hs : s.Canon) : (s.scrubWrap m).Canon :=
  .of_mems (.of (.bump (.setObj (.setObj (.setLap (.setObj hs))))))

theorem rewriteLine {m : Nat} {e : LogEntry} {up : Upsets} {n : Nat} (hs : s.Canon) : (s.rewriteLine m e up n).Canon := by
  induction n with
  | zero => exact hs
  | succ n ih => exact .scrubWord (.setUpset ih)

theorem answersScrubHotRewrite {m : Fin 26} {up : Upsets} (hs : s.Canon) : AnswersCanon (execScrubHotRewrite m up s) := by
  unfold execScrubHotRewrite
  split; exacts [hs, .logWrite (.rewriteLine (.of_mems (.of hs)))]

theorem copyRow {a n : Nat} (hs : s.Canon) : (s.copyRow a n).Canon := by
  induction n generalizing s with
  | zero => exact hs
  | succ n ih =>
    unfold State.copyRow
    refine ih ?_
    dsimp only
    split
    · exact .setUpset (.ite hs (.writeMem hs))
    · exact hs

theorem repairDone {m i : Nat} {l : MemLoc} (hs : s.Canon) : (s.repairDone m i l).Canon :=
  .setObj (.of_mems (.of (.bump (.setLogEntry hs))))

theorem repairFreeze {on : Bool} {k : Nat} (hs : s.Canon) : (s.repairFreeze on k).Canon := .arbRefresh (.setArb hs)

theorem bankFreeze {on : Bool} {a : Nat} (hs : s.Canon) : (s.bankFreeze on a).Canon := by
  unfold State.bankFreeze
  split; exacts [.repairFreeze hs, hs]

theorem answersTerraceRowRepair {m : Fin 26} {i : Fin 64} (hs : s.Canon) : AnswersCanon (execTerraceRowRepair m i s) :=
  ite hs (.ite (.markUnrepaired hs) (.ite (.bankFreeze hs) (.repairDone
    (.setObj (.of_mems (.of (.copyRow (.bankFreeze hs))))))))

theorem useResources {c bg : Nat} {l : List Nat} (hs : s.Canon) : (s.useResources c bg l).Canon := by
  induction l generalizing s with
  | nil => exact hs
  | cons x r ih => exact ih (.of_mems (.of hs))

theorem repairRowBits {c width : Nat} {d : DdrSt} {row sub : Nat} {devs : List Nat} (hs : s.Canon) :
    (s.repairRowBits c width d row sub devs).Canon :=
  hs

theorem answersDdrPprRepair {c : Fin 8} {i : Fin 64} (hs : s.Canon) : AnswersCanon (execDdrPprRepair c i s) :=
  ite hs (.ite (.queueHot hs) (.ite (.markUnrepaired hs) (.repairDone (.setObj (.repairRowBits (.useResources hs))))))

theorem clearLog {m n : Nat} (hs : s.Canon) : (s.clearLog m n).Canon := by
  induction n generalizing s with
  | zero => exact hs
  | succ n ih => exact ih (.ite (.of_mems (.of (.setLogEntry hs))) hs)

theorem answersEccLogClear {a : Accessor} {m : Fin 26} {v : Nat} (hs : s.Canon) : AnswersCanon (execEccLogClear a m v s) :=
  dictWrite hs fun _ hs => .clearLog hs

/-! ### Units -/

theorem freeHeld {u : Nat} (hs : s.Canon) : (s.freeHeld u).Canon := hs
theorem freeRooms {u : Nat} (hs : s.Canon) : (s.freeRooms u).Canon := hs
theorem sweepCore {c : Nat} (hs : s.Canon) : (s.sweepCore c).Canon := .of_mems (.filter_coreMem (.of hs))

theorem resetCore {c : Nat} {st : Int} (hs : s.Canon) : (s.resetCore c st).Canon :=
  .ite (.setObj (.setCore (.setSch (.sweepCore (.threadFaulted hs)))))
    (.setObj (.setObj (.setCore (.setSch (.sweepCore (.threadFaulted hs))))))

theorem clearEngines {h : Nat} (hs : s.Canon) : (s.clearEngines h).Canon := hs
theorem clearCodecs {b : Nat} (hs : s.Canon) : (s.clearCodecs b).Canon := hs
theorem withdrawArrivals {h : Nat} (hs : s.Canon) : (s.withdrawArrivals h).Canon := .bumpBy (.of_mems (.of hs))

theorem resetHall {h : Nat} {st : Int} (hs : s.Canon) : (s.resetHall h st).Canon :=
  .freeHeld (.withdrawArrivals (.clearEngines (.foldl (.sweepSram (.hallRestart hs)) fun _ _ hs => .resetCore hs)))

theorem resetTime (hs : s.Canon) : s.resetTime.Canon :=
  .foldl (.foldl (.of_mems (.of hs)) fun _ _ hs => .setObj hs) fun _ _ hs => .setObj hs

theorem resetUnit {u : Nat} (hs : s.Canon) : (s.resetUnit u).Canon := by
  unfold State.resetUnit
  extract_lets s₁ s₂ s₃
  have h₁ : s₁.Canon := .freeHeld hs
  have h₂ : s₂.Canon := .foldl h₁ fun _ _ hs => .discardAll hs
  have h₃ : s₃.Canon := .foldl h₁ fun _ _ hs => .praTruncate hs
  exact .ite (.resetCore h₁) (.ite (.paceRestart (.resetHall h₁)) (.ite (.paceRestart (.clearCodecs h₁)) (.ite h₁
    (.ite (.laneToOff h₁) (.ite (.sweepSram h₂) (.ite (.resetTime h₁) (.ite (.sweepSram (.of_mems (.of h₃))) h₁)))))))

theorem enterRejoin {u : Nat} (hs : s.Canon) : (s.enterRejoin u).Canon :=
  .ite (.foldl (.freezeUnit (.freeRooms (.cutUnit (.setUnit hs)))) fun _ _ hs => .ite hs
    (.freezeUnit (.freeRooms (.cutUnit (.setUnit hs))))) (.freezeUnit (.freeRooms (.cutUnit (.setUnit hs))))

theorem faultNow {u code : Nat} (hs : s.Canon) : (s.faultNow u code).Canon := by
  unfold State.faultNow
  extract_lets asleep s₁ s₂ s₃
  have h₁ : s₁.Canon := .unitFault hs
  have h₃ : s₃.Canon := .setObj (.threadFaulted (.bumpIf h₁))
  exact .ite h₁ (.ite (.ite (.dropAffinity h₃) h₃) (.ite (.peerRefresh (.laneStopped h₁)) (.ite (.evt (.bump h₁)) h₁)))

theorem truncateBlock {b : Nat} (hs : s.Canon) : (s.truncateBlock b).Canon := .foldl hs fun _ _ hs => .praSkip (.praTruncate hs)

theorem reload {u : Nat} (hs : s.Canon) : (s.reload u).Canon :=
  .ite (.dispatch (.setObj hs)) (.ite (.dispatchHall (.releaseAgain (.redoJobs hs)))
    (.ite (.truncateBlock hs) (.ite (.rewriteRecords hs) hs)))

theorem replaceCarriers {h : Nat} (hs : s.Canon) : (s.replaceCarriers h).Canon := by
  unfold State.replaceCarriers
  exact .admitRefresh (.redoJobs (.foldl (.foldl (.clearEngines hs) fun _ _ hs => .setObj hs) fun _ _ hs => .placeLow hs))

theorem answersRelUnretire {a : Accessor} {v : Nat} (hs : s.Canon) : AnswersCanon (execRelUnretire a v s) :=
  dictWrite hs fun _ hs => .freezeUnit (.setUnit hs)

/-! ### Boot -/

theorem bootCheck {errA errB : Nat} (hs : s.Canon) : (s.bootCheck errA errB).Canon := .of_mems (.of (.setObj (.setObj hs)))

theorem answersShRollbackSet {a : Accessor} {v : Nat} (hs : s.Canon) : AnswersCanon (execShRollbackSet a v s) :=
  dictWrite hs fun _ hs => .setObj hs

theorem answersShOtpRevoke {a : Accessor} {v : Nat} (hs : s.Canon) : AnswersCanon (execShOtpRevoke a v s) :=
  dictWrite hs fun _ hs => .setObj hs

theorem flashCmd {a : Accessor} {c : Nat} {eff : State → State} (hs : s.Canon) (heff : ∀ t, t.Canon → (eff t).Canon) :
    (s.flashCmd a c eff).Canon :=
  .ite (.setObj (.dictWrite hs (fun _ hs => heff _ hs))) (.dictWrite hs (fun _ hs => heff _ hs))

theorem answersShFlashErase {a : Accessor} (hs : s.Canon) : AnswersCanon (execShFlashErase a s) :=
  flashCmd hs fun _ hs => .setObj (.of_mems (.filter_flash (.of hs)))

theorem answersShFlashProgram {a : Accessor} (hs : s.Canon) : AnswersCanon (execShFlashProgram a s) :=
  flashCmd hs fun _ hs => .setObj (.of_mems (.flashWrite (.of hs)))

theorem answersShFlashCheck {a : Accessor} {err : Nat} (hs : s.Canon) : AnswersCanon (execShFlashCheck a err s) :=
  flashCmd hs fun _ hs => .setObj hs

/-! ### Power -/

theorem sleepUnit {u : Nat} (hs : s.Canon) : (s.sleepUnit u).Canon := .ite hs (.lapUnit (.freezeUnit (.setUnit hs)))

theorem hallDown {h : Nat} (hs : s.Canon) : (s.hallDown h).Canon :=
  .sweepSram (.setSch (.foldl (.sleepUnit (.enterSleep hs)) fun _ _ hs => .sleepUnit (.setObj (.setCore hs))))

theorem stopUnit {target u : Nat} (hs : s.Canon) : (s.stopUnit target u).Canon :=
  .ite (.hallDown hs) (.ite (.sleepUnit (.enterSleep hs)) (.ite (.ite (.sleepUnit (.setObj hs)) (.sleepUnit hs))
    (.ite (.foldl hs fun _ _ hs => .sleepUnit (.laneToOff hs)) (.sleepUnit hs))))

theorem wakeUnit {u : Nat} (hs : s.Canon) : (s.wakeUnit u).Canon := .ite (.enterRejoin (.resetUnit hs)) hs
theorem setGated {u : Nat} {on : Bool} (hs : s.Canon) : (s.setGated u on).Canon := .ite hs (.setObj hs)

theorem releaseUnit {u : Nat} (hs : s.Canon) : (s.releaseUnit u).Canon :=
  .ite (.setGated (.wakeUnit hs)) (.ite (.lapUnit (.wakeUnit (.ite (.setObj hs) (.ite (.setObj hs) hs))))
    (.ite (.freezeUnit (.setUnit hs)) (.ite (.foldl hs fun _ _ hs => .wakeUnit hs) (.wakeUnit hs))))

theorem pwrResult {result : Nat} {u : Option Nat} {code : Nat} (hs : s.Canon) : (s.pwrResult result u code).Canon := .setObj hs

theorem restartDone {b : PwrBack} (hs : s.Canon) : (s.restartDone b).Canon :=
  .ite (.ite (.setObj (.pwrResult (.of_mems (.of hs)))) (.pwrResult (.of_mems (.of hs))))
    (.takeWake (.evt (.bump (.bump (.of_mems (.of (.pwrResult (.of_mems (.of hs)))))))))

theorem beginRestart {l : List Nat} {b : PwrBack} (hs : s.Canon) : (s.beginRestart l b).Canon :=
  .ite (.restartDone (.of_mems (.of hs))) (.of_mems (.of hs))

theorem rollback {result : Nat} {u : Option Nat} {code : Nat} (hs : s.Canon) : (s.rollback result u code).Canon :=
  .beginRestart (.of_mems (.of hs))

theorem commitEntry (hs : s.Canon) : s.commitEntry.Canon :=
  .ite (.setObj (.pwrResult (.of_mems (.of hs)))) (.ite (.rollback hs)
    (.of_mems (.of (.pwrResult (.bump (.lapSettle (.setObj (.of_mems (.of hs)))))))))

theorem askUnits {n : Nat} {l : List Nat} (hs : s.Canon) : (State.askUnits n s l).Canon := by
  induction l generalizing s with
  | nil => exact .commitEntry (.of_mems (.of hs))
  | cons u r ih =>
    unfold State.askUnits
    split
    · have ht : ∀ {x : PwrSt}, ({ (if s.pwr.target = 1 then (s.stopUnit s.pwr.target u).setGated u true
          else s.stopUnit s.pwr.target u) with pwr := x } : State).Canon :=
        .of_mems (.of (.ite (.setGated (.stopUnit hs)) (.stopUnit hs)))
      exact .ite (.rollback ht) (ih ht)
    · exact .ite (.rollback (.bump hs)) (.of_mems (.of hs))
    · exact .rollback hs

theorem beginEntry {target n : Nat} {l : List Nat} (hs : s.Canon) : (s.beginEntry target n l).Canon :=
  .askUnits (.of_mems (.of hs))

theorem pwrRequest {a : Accessor} {target n : Nat} (hs : s.Canon) : (s.pwrRequest a target n).Canon :=
  .ite (.beginEntry (.dictWrite hs fun _ hs => hs)) (.dictWrite hs fun _ hs => hs)

theorem answersPwrReqS2 {a : Accessor} {n : Nat} (hs : s.Canon) : AnswersCanon (execPwrReqS2 a n s) := pwrRequest hs
theorem answersPwrReqS3 {a : Accessor} {n : Nat} (hs : s.Canon) : AnswersCanon (execPwrReqS3 a n s) := pwrRequest hs
theorem answersPwrReqS4 {a : Accessor} {n : Nat} (hs : s.Canon) : AnswersCanon (execPwrReqS4 a n s) := pwrRequest hs

theorem answersPwrReqWake {a : Accessor} (hs : s.Canon) : AnswersCanon (execPwrReqWake a s) :=
  dictWrite hs fun _ hs => .assertWake hs

theorem answersPwrGate {a : Accessor} {units : BitVec 18} {n : Nat} (hs : s.Canon) : AnswersCanon (execPwrGate a units n s) :=
  ite (.beginEntry (.dictWrite hs fun _ hs => hs)) (.dictWrite hs fun _ hs => hs)

theorem answersPwrUngate {a : Accessor} {units : BitVec 18} (hs : s.Canon) : AnswersCanon (execPwrUngate a units s) :=
  dictWrite hs fun _ hs => .ite hs (.beginRestart hs)

theorem ddrDown {c : Nat} (hs : s.Canon) : (s.ddrDown c).Canon := .of_mems (.filter_mem (.of (.setDdrCh (.setObj hs))))

theorem s3Down (hs : s.Canon) : s.s3Down.Canon :=
  .foldl (.foldl (.of_mems (.of hs)) fun _ _ hs => .ddrDown hs) fun _ _ hs => .ite hs (.sleepUnit (.laneToOff hs))

theorem answersPwrStateReached (hs : s.Canon) : AnswersCanon (execPwrStateReached s) := by
  unfold execPwrStateReached
  refine .of_next (.ite hs ?_)
  extract_lets t pwr₁ s₁ s₂ pwr₂ s₃ w s₄
  have h₁ : s₁.Canon := .of_mems (.of hs)
  have h₂ : s₂.Canon := .s3Down h₁
  have h₃ : s₃.Canon := .ite h₂ h₁
  exact .ite (.of_mems (.of h₂)) (.ite (.assertWake (.bumpIf h₃)) (.takeWake h₃))

theorem resetObjs {keep : ObjRow → Bool} (hs : s.Canon) : (s.resetObjs keep).Canon := hs

theorem deviceReset {keep : ObjRow → Bool} (hs : s.Canon) : (s.deviceReset keep).Canon :=
  .of_mems ⟨⟨.nil, nofun⟩, ⟨.nil, nofun⟩, hs.flash⟩

theorem sleepAll {l : List Nat} (hs : s.Canon) : (s.sleepAll l).Canon :=
  .foldl hs fun _ _ hs => .ite (.hallDown hs) (.ite (.sleepUnit (.enterSleep hs))
    (.ite (.foldl hs fun _ _ hs => .sleepUnit (.laneToOff hs)) (.sleepUnit hs)))

theorem ladderDone (hs : s.Canon) : s.ladderDone.Canon := .of_mems (.of (.setObj (.setObj hs)))

theorem rungSettle (hs : s.Canon) : s.rungSettle.Canon := by
  unfold State.rungSettle
  split; exacts [.ladderDone hs, .ite (.setObj hs) hs]

theorem beginLadder {l : List (Nat × Nat)} (hs : s.Canon) : (s.beginLadder l).Canon := by
  unfold State.beginLadder
  split; exacts [.ladderDone (.of_mems (.of hs)), .setObj (.of_mems (.of hs))]

theorem ladderRelease {u osc errA errB : Nat} (hs : s.Canon) : (s.ladderRelease u osc errA errB).Canon :=
  .ite (.bootCheck (.ite hs (.releaseUnit hs))) (.ite (.setObj (.ite hs (.releaseUnit hs)))
    (.ite (.of_mems (.of (.ite hs (.releaseUnit hs)))) (.ite hs (.releaseUnit hs))))

theorem restartStep {b : PwrBack} (hs : s.Canon) : (s.restartStep b).Canon := by
  unfold State.restartStep
  split
  · exact .restartDone hs
  · exact .ite (.restartDone (.of_mems (.of (.releaseUnit hs)))) (.of_mems (.of (.releaseUnit hs)))

theorem answersStartLadderStep {iin osc errA errB : Nat} (hs : s.Canon) :
    AnswersCanon (execStartLadderStep iin osc errA errB s) := by
  unfold execStartLadderStep
  dsimp only
  refine ite hs ?_
  split
  · exact .restartStep hs
  · split
    · exact .ite (.setObj hs) hs
    · exact .ite (.ite (.setObj hs) hs) (.rungSettle (.of_mems (.of (.ladderRelease (.setObj (.ite (.setObj hs) hs))))))

theorem powerOn {r : Nat} (hs : s.Canon) : (s.powerOn r).Canon := .beginLadder (.of_mems (.of (.setObj (.sleepAll hs))))
theorem coldReset {keep : ObjRow → Bool} (hs : s.Canon) : (s.coldReset keep).Canon := .of_mems (.of (.deviceReset hs))
theorem forceS4 (hs : s.Canon) : s.forceS4.Canon := .of_mems (.of (.setObj (.setObj (.s3Down (.sleepAll hs)))))
theorem vinAlert (hs : s.Canon) : s.vinAlert.Canon := hs

theorem answersVinRise {mv : Nat} (hs : s.Canon) : AnswersCanon (execVinRise mv s) :=
  ite hs (.ite (.vinAlert (.powerOn (.setObj (.coldReset (.setObj (.of_mems (.of hs)))))))
    (.setObj (.setObj (.of_mems (.of hs)))))

theorem vinWarn (hs : s.Canon) : s.vinWarn.Canon := .ite hs (.of_mems (.of (.bumpIf (.evt hs))))

/-! ### Pair -/

theorem answersRelMarkQueryWrite {a : Accessor} {v : BitVec 64} (hs : s.Canon) : AnswersCanon (execRelMarkQueryWrite a v s) :=
  dictWrite hs fun _ hs => .setObj hs

theorem unpair (hs : s.Canon) : s.unpair.Canon := .ackAll (.of_mems (.of (.setObj (.setObj hs))))

theorem answersPairModeWrite {a : Accessor} {v : Nat} (hs : s.Canon) : AnswersCanon (execPairModeWrite a v s) :=
  ite (.setObj (.dictWrite hs (fun _ hs => .ite (.unpair (.setObj hs)) (.setObj hs))))
    (.dictWrite hs (fun _ hs => .ite (.unpair (.setObj hs)) (.setObj hs)))

theorem answersPairRoleReq {a : Accessor} {v : Nat} {why : Fin 6} (hs : s.Canon) : AnswersCanon (execPairRoleReq a v why s) :=
  ite (.setObj (.dictWrite hs (fun _ hs => .syncStart (.of_mems (.of (.pairEnter (.setObj hs)))))))
    (.dictWrite hs (fun _ hs => .syncStart (.of_mems (.of (.pairEnter (.setObj hs))))))

theorem munovResend {down : Bool} (hs : s.Canon) : (s.munovResend down).Canon := .foldl hs fun _ _ hs => .send hs

theorem takeOver (hs : s.Canon) : s.takeOver.Canon :=
  .foldl (.foldl (.rewriteRecords (.releaseAgain (.redoAll (.bump
    (.pairEnter (.of_mems (.of (.setObj (.of_mems (.of hs)))))))))) fun _ _ hs => .raiseVec hs) fun _ _ hs => .jrWriteBack hs

theorem answersChainRoleWrite {a : Accessor} {v : Nat} (hs : s.Canon) : AnswersCanon (execChainRoleWrite a v s) :=
  dictWrite hs fun _ hs => .setObj (.setObj hs)

theorem stairPair {m : Nat} (hs : s.Canon) : (s.stairPair m).Canon := .dravutSend hs
theorem stairChain {down : Bool} {dst m : Nat} (hs : s.Canon) : (s.stairChain down dst m).Canon := .munovSend hs

theorem stairRelease {g : Nat} {l : List (Nat × Nat)} (hs : s.Canon) : (s.stairRelease g l).Canon :=
  .foldl hs fun _ _ hs => .ite (.stairSend hs) (.ite (.stairPair hs) (.stairChain hs))

theorem stairArrive {g : Nat} {a : Nat × Nat} (hs : s.Canon) : (s.stairArrive g a).Canon :=
  .ite (.stairRelease (.of_mems (.of hs))) (.of_mems (.of hs))

theorem stairBarrier {h m : Nat} (hs : s.Canon) : (s.stairBarrier h m).Canon :=
  .ite (.ite (.stairPair (.of_mems (.of hs))) (.stairChain (.of_mems (.of hs)))) (.stairArrive hs)

theorem stairDeliver {g payload : Nat} {halls : List Nat} (hs : s.Canon) : (s.stairDeliver g payload halls).Canon :=
  .foldl hs fun _ _ hs => .stairSend hs

theorem stairOthers {scope m : Nat} (hs : s.Canon) : (s.stairOthers scope m).Canon :=
  .ite (.ite (.stairPair hs) hs) (.ite (.stairChain (.stairChain hs)) hs)

theorem stairArm {t : Int} (hs : s.Canon) : (s.stairArm t).Canon := hs

theorem takeStair {h op : Nat} {f : Nat → State → State} (hs : s.Canon) (hf : ∀ x t, t.Canon → (f x t).Canon) :
    (s.takeStair h op f).Canon := by
  unfold State.takeStair
  split; exacts [.ite hs (.ite (.bump (.engPop hs)) (.ite (hf _ _ (.engPop hs)) hs)), hs]

theorem stairResetNow (hs : s.Canon) : s.stairResetNow.Canon := by
  unfold State.stairResetNow
  exact .powerOn (.of_mems (.of (.setObj (.deviceReset hs))))

theorem answersStairResetDevice {a : Accessor} (hs : s.Canon) : AnswersCanon (execStairResetDevice a s) :=
  dictWrite hs fun _ hs => .stairResetNow hs

theorem answersStairResetPair {a : Accessor} (hs : s.Canon) : AnswersCanon (execStairResetPair a s) :=
  dictWrite hs fun _ hs => .stairResetNow (.ite (.stairPair hs) hs)

theorem answersStairResetChain {a : Accessor} (hs : s.Canon) : AnswersCanon (execStairResetChain a s) :=
  dictWrite hs fun _ hs => .stairResetNow (.stairChain hs)

/-! ### SchedCalls -/

theorem call {c sub dd ds : Nat} (hs : s.Canon) : (s.call c sub dd ds).Canon := .issueSolo hs

theorem answersSchRemoteOp {h src : Fin 16} (hs : s.Canon) : AnswersCanon (execSchRemoteOp h src s) := by
  unfold execSchRemoteOp
  dsimp only
  split; exacts [hs, .ite (.takeHalt (.finishOp (.performOp (.setCore (.setSch hs))))) (.setSch hs)]

theorem wdReport {h g : Nat} (hs : s.Canon) : (s.wdReport h g).Canon :=
  .setSch (.evt (.schTraceRec (.bump (.setObj (.setObj (.setObj (.setObj (.setObj hs))))))))

theorem answersSchTickNsWrite {a : Accessor} {h : Fin 16} {v : Nat} (hs : s.Canon) : AnswersCanon (execSchTickNsWrite a h v s) :=
  dictWrite hs fun _ hs => .setObj hs

theorem answersSchPmemLoad {a : Accessor} {h : Fin 16} {v : Nat} (hs : s.Canon) : AnswersCanon (execSchPmemLoad a h v s) :=
  dictWrite hs fun _ hs => .setObj (.dispatchHall (.setSch hs))

theorem copyPmem {c src : Nat} (hs : s.Canon) : (s.copyPmem c src).Canon :=
  .foldl (.demandWords hs) fun _ _ hs => .ite (.writeCore (.wordWritten hs)) hs

/-! ### Thermal -/

theorem sampleOne {i : Nat} {tj : Int} (hs : s.Canon) : (s.sampleOne i tj).Canon := .ite (.hotTest (.setObj hs)) (.setObj hs)
theorem thermTest (hs : s.Canon) : s.thermTest.Canon := .ite (.of_mems (.of (.evt (.bump hs)))) (.ite (.of_mems (.of hs)) hs)
theorem hotRun {i : Nat} {tj : Int} (hs : s.Canon) : (s.hotRun i tj).Canon := hs

theorem thermTrip {i : Nat} {tj : Int} (hs : s.Canon) : (s.thermTrip i tj).Canon :=
  .of_mems (.of (.bump (.setObj (.setObj (.setObj (.s3Down (.sleepAll hs)))))))

theorem answersThermalSample {tj : List Int} (hs : s.Canon) : AnswersCanon (execThermalSample tj s) := by
  unfold execThermalSample
  dsimp only
  refine ite hs ?_
  split
  · exact .thermTrip (.thermTest (.setObj (.foldl hs fun _ _ hs => .hotRun (.sampleOne hs))))
  · exact .thermTest (.setObj (.foldl hs fun _ _ hs => .hotRun (.sampleOne hs)))

theorem answersThermWarnWrite {a : Accessor} {v : Int} (hs : s.Canon) : AnswersCanon (execThermWarnWrite a v s) :=
  dictWrite hs fun _ hs => .thermTest (.setObj hs)

/-! ### Switch -/

theorem fcSend {p : Nat} (hs : s.Canon) : (s.fcSend p).Canon := .ite hs (.setPort (.send (.bumpIf hs)))
theorem stopQueue {p q quanta : Nat} (hs : s.Canon) : (s.stopQueue p q quanta).Canon := .setPort hs

theorem macControl {p : Nat} {l : List Byte} (hs : s.Canon) : (s.macControl p l).Canon :=
  .ite (.foldl (.bumpIf hs) fun _ _ hs => .stopQueue hs) (.ite (.foldl (.bumpIf hs) fun _ _ hs => .ite (.stopQueue hs) hs)
    (.bumpIf hs))

theorem erxPortsEval {r : Nat} (hs : s.Canon) : (s.erxPortsEval r).Canon := .foldl hs fun _ _ hs => .ite (.fcEval hs) hs
theorem erxRestart {r : Nat} (hs : s.Canon) : (s.erxRestart r).Canon := .erxPortsEval (.setErx hs)
theorem erxLevel {r : Nat} (hs : s.Canon) : (s.erxLevel r).Canon := .ite hs (.erxPortsEval (.bumpIf (.setErx hs)))

theorem erxMove {r : Nat} {l : List Nat} {bytes : List Byte} (hs : s.Canon) : (s.erxMove r l bytes).Canon := by
  induction l generalizing s bytes with
  | nil => exact hs
  | cons a as ih => exact .ite hs (ih (.send hs))

theorem erxWrite {r p : Nat} {f : RxFrame} {m : RxMeta} {total pos : Nat} {l : List Nat} {bytes : List Byte} {first : Bool}
    (hs : s.Canon) : (s.erxWrite r p f m total pos l bytes first).Canon := by
  induction l generalizing s pos bytes first with
  | nil => exact hs
  | cons a as ih => exact ih (.send hs)

theorem erxDeliver {r p : Nat} {f : RxFrame} {m : RxMeta} (hs : s.Canon) : (s.erxDeliver r p f m).Canon :=
  .ite (.bump hs) (.ite (.bump (.erxMove hs)) (.erxLevel (.raiseVec (.bump (.setErx (.erxWrite (.erxMove hs)))))))

theorem tcCorrect {p i : Nat} {arrival : Int} {l : List Byte} (hs : s.Canon) : (s.tcCorrect p i arrival l).1.Canon := by
  refine .ite_fst hs ?_
  split
  · exact hs
  · exact .ite_fst hs (.ite_fst (.bump hs) hs)

theorem forwardTo {p : Nat} {f : RxFrame} {bad : Bool} {e : Nat} (hs : s.Canon) : (s.forwardTo p f bad e).Canon :=
  .ite (.of_mems (.of (.bump hs))) (.ite hs (.ite (.bump hs) (.ite (.bump hs) (.of_mems (.of (.bump hs))))))

theorem hand {dest p : Nat} {l : List Byte} (hs : s.Canon) : (s.hand dest p l).Canon := .send hs

theorem toRing {p : Nat} {f : RxFrame} (hs : s.Canon) : (s.toRing p f).Canon := by
  unfold State.toRing
  split; exacts [.erxDeliver hs, .ite (.bump hs) (.erxDeliver hs)]

theorem classifyRest {p : Nat} {f : RxFrame} (hs : s.Canon) : (s.classifyRest p f).Canon := .ite (.hand hs) (.toRing hs)

theorem classifyOwn {p : Nat} {f : RxFrame} (hs : s.Canon) : (s.classifyOwn p f).Canon := by
  refine .ite (.hand hs) (.ite (.bump hs) (.ite ?_ (.classifyRest hs)))
  split
  · exact .bump hs
  · exact .ite (.hand hs) (.classifyRest hs)

theorem classify {p : Nat} {f : RxFrame} (hs : s.Canon) : (s.classify p f).Canon := by
  refine .ite (.macControl hs) (.ite (.classifyOwn (.foldl hs fun _ _ hs => .forwardTo hs)) (.ite ?_ (.classifyOwn hs)))
  split
  · exact .bump hs
  · exact .foldl hs fun _ _ hs => .forwardTo hs

theorem stompCopies {p : Nat} {f : RxFrame} (hs : s.Canon) : (s.stompCopies p f).Canon :=
  .ite hs (.ite (.foldl hs fun _ _ hs => .forwardTo hs) (.ite (.foldl hs fun _ _ hs => .forwardTo hs) hs))

theorem badFrame {p : Nat} {f : RxFrame} {flag : Nat} (hs : s.Canon) : (s.badFrame p f flag).Canon :=
  .ite (.erxDeliver (.ite hs (.stompCopies hs))) (.ite hs (.stompCopies hs))

theorem answersEthFrameReceive {p : Fin 48} {f : RxFrame} {occ : List Nat} (hs : s.Canon) :
    AnswersCanon (execEthFrameReceive p f occ s) :=
  ite hs (.ite (.bump hs) (.fcEval (.ite (.badFrame (.bump (.fcEval hs)))
    (.ite (.badFrame (.bump (.fcEval hs))) (.ite (.badFrame (.bump (.fcEval hs)))
    (.ite (.badFrame (.bump (.fcEval hs))) (.classify (.bump (.fcEval hs)))))))))

/-! ### Transmit -/

theorem etxPost {r idx : Nat} {l : List (Nat × List Byte)} (hs : s.Canon) : (s.etxPost r idx l).Canon := by
  induction l generalizing s idx with
  | nil => exact hs
  | cons x rest ih =>
    exact ih (.ite (.etxWriteBack (.setEtx hs)) (.ite (.etxWriteBack (.setEtx hs))
      (.ite (.etxWriteBack (.setEtx hs)) (.of_mems (.of (.setEtx hs))))))

theorem insertTx {e : TxEntry} (hs : s.Canon) : (s.insertTx e).Canon :=
  .ite (.txDone (.bump hs)) (.ite (.txDone (.bump hs)) (.countEntries (.of_mems (.of hs))))

theorem answersEthTxInsert {p : Fin 48} {i : Fin 20} (hs : s.Canon) : AnswersCanon (execEthTxInsert p i s) := by
  unfold execEthTxInsert
  dsimp only
  split
  · exact hs
  · split
    · exact .txDone (.addMissed (.of_mems (.of (.arbRelease hs))))
    · exact .ite (.arbRelease hs) (.insertTx (.of_mems (.of (.arbRelease hs))))

theorem answersEthTxFetch {p : Fin 48} {q : Fin 8} {i : Nat} {body : List Byte} (hs : s.Canon) :
    AnswersCanon (execEthTxFetch p q i body s) := by
  unfold execEthTxFetch
  split; exacts [hs, .ite hs (.of_mems (.of hs))]

theorem startFrame {p : Nat} {e : TxEntry} (hs : s.Canon) : (s.startFrame p e).Canon := by
  refine .txDone (.send ?_)
  split
  · exact .bumpIf (.tcCorrect (.bumpIf (.bumpIf (.bump (.setPort (.dropEntry hs))))))
  · exact .bumpIf (.bumpIf (.bump (.setPort (.dropEntry hs))))

theorem selectTx {p n q : Nat} (hs : s.Canon) : (s.selectTx p n q).1.Canon := by
  induction n generalizing s q with
  | zero => exact hs
  | succ n ih =>
    cases q with
    | zero => exact hs
    | succ q =>
      unfold State.selectTx
      split
      · exact ih hs
      · exact .ite_fst (ih (.txDone (.bump (.dropEntry hs))))
          (.ite_fst (ih hs) (.ite_fst (ih (.ite hs (.bump (.of_mems (.of hs))))) hs))

theorem answersEthTxSelect {p : Fin 48} (hs : s.Canon) : AnswersCanon (execEthTxSelect p s) := by
  unfold execEthTxSelect
  dsimp only
  refine ite hs ?_
  split
  · exact .startFrame (.selectTx (.ite hs (.fcSend hs)))
  · exact .selectTx (.ite hs (.fcSend hs))

/-! ### Watch -/

theorem acceptDom {a : Accessor} {addr : Nat} {l : List Byte} (hs : s.Canon) : (s.acceptDom a addr l).Canon :=
  .ite (.setObj hs) (.of_mems (.of (.setObj hs)))

theorem dictWriteDom {a : Accessor} {o : Obj} {n : Nat} {l : List Byte} {chk : Status} {eff : State → State} (hs : s.Canon)
    (heff : ∀ t, t.Canon → (eff t).Canon) : (s.dictWriteDom a o n l chk eff).Canon := by
  unfold State.dictWriteDom
  split; exacts [hs, .ite (.acceptDom (heff _ (.countAccess hs))) (.refuseAt (.countAccess hs))]

theorem watchInstall {t : List Byte} (hs : s.Canon) : (s.watchInstall t).Canon :=
  .foldl (.of_mems (.of (.setObj (.setDom hs)))) fun _ _ hs => .watchRefresh hs

theorem watchNote {t : List Byte} (hs : s.Canon) : (s.watchNote t).Canon := by
  unfold State.watchNote
  split; exacts [.setObj hs, hs]

theorem answersShWatchTableWrite {a : Accessor} {data : List Byte} (hs : s.Canon) :
    AnswersCanon (execShWatchTableWrite a data s) :=
  ite (.watchNote (.dictWriteDom hs (fun _ hs => .watchInstall hs))) (.dictWriteDom hs (fun _ hs => .watchInstall hs))

theorem answersShWatchEnWrite {a : Accessor} {v : Nat} (hs : s.Canon) : AnswersCanon (execShWatchEnWrite a v s) :=
  dictWrite hs fun _ hs => .foldl (.setObj hs) fun _ _ hs => .watchRefresh hs

theorem seeOccasion {p : Nat} {S : Int} (hs : s.Canon) : (s.seeOccasion p S).Canon := .setPra hs

theorem answersShWatchMacFrame {p : Fin 2} {f : RxFrame} (hs : s.Canon) : AnswersCanon (execShWatchMacFrame p f s) :=
  ite hs (.ite (.bump hs) (.ite (.bump hs) (.ite (.bump hs)
    (.ite (.bump hs) (.ite (.hand (.bump hs)) (.ite (.hand (.bump hs)) (.bump (.bump hs))))))))

/-! ### Dict -/

theorem nextOr {x : Host.Outcome State Fault Refusal} (hs : s.Canon) (hx : AnswersCanon x) : (Machine.nextOr s x).Canon := by
  unfold Machine.nextOr
  split
  · exact hx
  · exact hs

theorem countRead {a : Accessor} {st : Status} (hs : s.Canon) : (s.countRead a st).Canon :=
  .ite (.countAccess hs) (.bump (.countAccess hs))

theorem ptpEnable {p : Nat} {v : Int} (hs : s.Canon) : (s.ptpEnable p v).Canon :=
  .ite hs (.ite (.setObj (.setObj (.ptpPortLost hs))) (.setObj (.setObj hs)))

theorem prbsSuspend {l : Nat} (hs : s.Canon) : (s.prbsSuspend l).Canon := .setLane hs

theorem objEffect {o : Obj} {n : Nat} {v : Int} (hs : s.Canon) : (s.objEffect o n v).Canon := by
  unfold State.objEffect
  split
  · exact .setObj (.setObj hs)
  · exact .lapSettle (.setObj hs)
  · exact .setSch (.setObj (.setObj hs))
  · exact .setSch (.setObj (.setObj hs))
  · exact .ite (.setObj (.setLane (.setObj hs))) (.setObj hs)
  · exact .ite hs (.prbsSuspend (.setObj hs))
  · exact .ite hs (.prbsSuspend (.setObj hs))
  · exact .ite hs (.prbsSuspend (.setObj hs))
  · exact .foldl (.setObj hs) fun _ _ hs => .laneProceed hs
  · exact .ite hs (.sourceLost (.setObj hs))
  · exact .ite (.setRho (.setObj hs)) (.setObj hs)
  · exact .of_mems (.of (.setObj hs))
  · exact .ite (.of_mems (.of (.setObj hs))) (.setObj hs)
  · exact .ptpEnable hs
  · exact .ite (.setObj hs) (.vinAlert (.setObj hs))
  · exact .ite hs (.erxRestart (.setObj hs))
  · exact .ite hs (.setEtx (.setObj hs))
  · exact .setObj hs

theorem stageWrite {a : Accessor} {o : Obj} {n : Nat} {v : Int} (hs : s.Canon) : (s.stageWrite a o n v).Canon := by
  unfold State.stageWrite
  split
  · exact hs
  · exact .ite (.refuseAt (.countAccess hs)) (.ite (.acceptAt (.stageVal (.countAccess hs)))
      (.refuseAt (.stageVal (.countAccess hs))))

theorem stageWriteDom {a : Accessor} {o : Obj} {n : Nat} {l : List Byte} (hs : s.Canon) : (s.stageWriteDom a o n l).Canon := by
  unfold State.stageWriteDom
  split
  · exact hs
  · exact .ite (.refuseAt (.countAccess hs)) (.ite (.acceptDom (.stageDom (.countAccess hs)))
      (.refuseAt (.stageDom (.countAccess hs))))

theorem routeCore {a : Accessor} {o : Obj} {n v : Nat} (hs : s.Canon) : ∀ t ∈ s.routeCore a o n v, t.Canon := by
  unfold State.routeCore
  split
  all_goals rintro t ⟨⟩
  exacts [.nextOr hs (answersHallLevelWrite hs), .nextOr hs (answersHallPaceEnWrite hs), .nextOr hs (answersHallPaceSnap hs),
    .nextOr hs (answersCoreHalt hs), .nextOr hs (answersCoreResume hs), .nextOr hs (answersSchTickNsWrite hs),
    .nextOr hs (answersSchPmemLoad hs), .nextOr hs (answersTdMaskUnmute hs), .nextOr hs (answersCtxEnableWrite hs),
    .nextOr hs (answersArbBaseWrite hs), .nextOr hs (answersArbFreezeWrite hs), .nextOr hs (answersEccLogClear hs)]

theorem routeLink {a : Accessor} {o : Obj} {n v : Nat} (hs : s.Canon) : ∀ t ∈ s.routeLink a o n v, t.Canon := by
  unfold State.routeLink
  split
  all_goals rintro t ⟨⟩
  exacts [.nextOr hs (answersLaneTxFfeWrite hs), .nextOr hs (answersLaneLoopbackWrite hs), .nextOr hs (answersLanePrbsTxWrite hs),
    .nextOr hs (answersLanePrbsChkWrite hs), .nextOr hs (answersLanePrbsClear hs), .nextOr hs (answersLaneQuadModeWrite hs),
    .nextOr hs (answersLaneQuadFecWrite hs), .nextOr hs (answersTimeSet hs), .nextOr hs (answersTimeTrigWrite hs),
    .nextOr hs (answersJrEnableWrite hs), .nextOr hs (answersJrResume hs), .nextOr hs (answersStageCommit hs),
    .nextOr hs (answersStageCancel hs)]

theorem routePwrState {a : Accessor} {v : Nat} (hs : s.Canon) : (s.routePwrState a v).Canon := by
  unfold State.routePwrState
  split
  · exact .nextOr hs (answersPwrReqWake hs)
  · exact .nextOr hs (answersPwrReqS2 (.freeUsed hs))
  · exact .nextOr hs (answersPwrReqS3 (.freeUsed hs))
  · exact .nextOr hs (answersPwrReqS4 (.freeUsed hs))
  · exact .dictWrite hs fun _ hs => hs

theorem routePwrGate {a : Accessor} {v : Nat} (hs : s.Canon) : (s.routePwrGate a v).Canon :=
  .ite (.nextOr hs (answersPwrGate (.freeUsed hs))) (.nextOr hs (answersPwrUngate hs))

theorem routeFlash {a : Accessor} {v : Nat} (hs : s.Canon) : (s.routeFlash a v).Canon := by
  unfold State.routeFlash
  split
  · exact .nextOr hs (answersShFlashErase hs)
  · exact .nextOr hs (answersShFlashProgram hs)
  · exact .nextOr hs (answersShFlashCheck (.freeUsed hs))
  · exact .dictWrite hs fun _ hs => hs

theorem routeReset {a : Accessor} {v : Nat} (hs : s.Canon) : (s.routeReset a v).Canon := by
  unfold State.routeReset
  split
  · exact .nextOr hs (answersStairResetDevice hs)
  · exact .nextOr hs (answersStairResetPair hs)
  · exact .nextOr hs (answersStairResetChain hs)
  · exact .dictWrite hs fun _ hs => hs

theorem routeSys {a : Accessor} {o : Obj} {v : Int} (hs : s.Canon) : ∀ t ∈ s.routeSys a o v, t.Canon := by
  unfold State.routeSys
  split
  all_goals rintro t ⟨⟩
  exacts [.routePwrState hs, .routePwrGate hs, .nextOr hs (answersThermWarnWrite hs), .routeFlash hs,
    .nextOr hs (answersShOtpRevoke hs), .nextOr hs (answersShRollbackSet hs), .nextOr hs (answersShWatchEnWrite hs),
    .nextOr hs (answersRelUnretire hs), .nextOr hs (answersRelMarkQueryWrite hs), .nextOr hs (answersPairModeWrite hs),
    .nextOr hs (answersPairRoleReq (.freeUsed hs)), .nextOr hs (answersChainRoleWrite hs), .routeReset hs]

theorem writePlain {a : Accessor} {o : Obj} {n : Nat} {v : Int} (hs : s.Canon) : (s.writePlain a o n v).Canon := by
  unfold State.writePlain
  refine .ite (.dictWrite hs fun _ hs => hs) ?_
  split
  · next t heq =>
    rcases hc : s.routeCore a o n v.toNat with _ | u
    · rcases hl : s.routeLink a o n v.toNat with _ | u
      · exact routeSys hs t (a := a) (o := o) (v := v) (by simpa [hc, hl] using heq)
      · exact routeLink hs t (hl.trans (by simpa [hc, hl] using heq))
    · exact routeCore hs t (hc.trans (by simpa [hc] using heq))
  · exact .ite (.stageWrite hs) (.dictWrite hs fun _ hs => .objEffect hs)

theorem writeDomain {a : Accessor} {o : Obj} {n : Nat} {l : List Byte} (hs : s.Canon) : (s.writeDomain a o n l).Canon :=
  .ite (.nextOr hs (answersShWatchTableWrite hs)) (.ite (.stageWriteDom hs) (.dictWriteDom hs (fun _ hs => .setDom hs)))

/-! ### Access -/

theorem putWindow {fn o : Nat} {l : List Byte} (hs : s.Canon) : (s.putWindow fn o l).Canon := hs

theorem winGo {fn v : Nat} {act : Accessor → State → State} (hs : s.Canon)
    (hact : ∀ x t, t.Canon → (act x t).Canon) :
    (s.winGo fn v act).Canon := by
  unfold State.winGo
  dsimp only
  split; exacts [hs, .ite (hact _ _ hs) (.refuseAt (.countAccess hs))]

theorem winDone {a : Accessor} {v : Nat} {st : Status} {addr : Nat} (hs : s.Canon) : (s.winDone a v st addr).Canon :=
  .ite (.setObj (.acceptAt hs)) (.refuseAt hs)

theorem winCopy {fn v : Nat} {a : Accessor} {f : State → ObjRow → Nat → List Byte}
    (hs : s.Canon) : (s.winCopy fn v a f).Canon := by
  unfold State.winCopy
  dsimp only
  split; exacts [.winDone (.countAccess hs), .winDone (.ite (.putWindow (.countAccess hs)) (.countAccess hs))]

theorem answersWinSnapshot {fn : Fin 64} (hs : s.Canon) : AnswersCanon (execWinSnapshot fn s) :=
  winGo hs fun _ _ hs => .winCopy hs

theorem answersWinWrite {fn : Fin 64} (hs : s.Canon) : AnswersCanon (execWinWrite fn s) := by
  unfold execWinWrite
  dsimp only
  refine winGo hs fun _ _ hs => ?_
  split
  · exact .refuseAt (.countAccess hs)
  · split
    · exact .writeDomain hs
    · exact .writePlain hs
    · exact .writePlain hs

theorem readGroup {a : Accessor} {l : List Nat} (hs : s.Canon) : (s.readGroup a l).1.Canon := by
  induction l generalizing s with
  | nil => exact hs
  | cons addr r ih => exact ih (.countRead hs)

theorem answersWinGroupRead {fn : Fin 64} (hs : s.Canon) : AnswersCanon (execWinGroupRead fn s) :=
  winGo hs fun _ _ hs => .winDone (.putWindow (.readGroup (.countAccess hs)))

theorem answersWinReadStaged {fn : Fin 64} (hs : s.Canon) : AnswersCanon (execWinReadStaged fn s) :=
  winGo hs fun _ _ hs => .winCopy hs

theorem routeWindow {a : Accessor} {v : Nat} (hs : s.Canon) : (s.routeWindow a v).Canon := by
  unfold State.routeWindow
  dsimp only
  split
  · exact .nextOr hs (answersWinSnapshot hs)
  · exact .nextOr hs (answersWinWrite hs)
  · exact .nextOr hs (answersWinGroupRead hs)
  · exact .nextOr hs (answersWinReadStaged hs)
  · exact .dictWrite hs fun _ hs => hs

theorem writeScalar {a : Accessor} {o : Obj} {n : Nat} {v : Int} (hs : s.Canon) : (s.writeScalar a o n v).Canon :=
  .ite (.routeWindow hs) (.writePlain hs)

theorem writeWord {a : Accessor} {addr off wid v : Nat} (hs : s.Canon) : (s.writeWord a addr off wid v).Canon := by
  unfold State.writeWord
  split
  · exact hs
  · split
    · exact .refuseAt (.countAccess hs)
    · split
      · exact .ite (.writeScalar hs) (.refuseAt (.countAccess hs))
      · exact .refuseAt (.countAccess hs)

theorem writeWindow {a : Accessor} {addr off wid v : Nat} (hs : s.Canon) : (s.writeWindow a addr off wid v).Canon :=
  .ite (.ite (.refuseAt hs) (.putWindow hs)) hs

theorem readSlot {a : Accessor} {addr off wid : Nat} {r : Status} (hs : s.Canon) : (s.readSlot a addr off wid r).1.Canon :=
  .countRead hs

theorem answersBar0Read {fn : Fin 64} {addr : BitVec 24} {off wid slots : Nat} (hs : s.Canon) :
    AnswersCanon (execBar0Read fn addr off wid slots s) := by
  refine ite hs ?_
  split
  · exact hs
  · exact .ite (.send hs) (.ite (.send (.readSlot hs)) (.send (.readGroup hs)))

theorem journalWrite {u : Unacked} {body : List Byte} (hs : s.Canon) : (s.journalWrite u body).Canon :=
  .journalPut (.of_mems (.of hs)) fun _ hs => .ackWrite hs

theorem journalLong {u : Unacked} (hs : s.Canon) : (s.journalLong u).Canon := by
  unfold State.journalLong
  dsimp only
  split; exacts [hs, .journalWrite (.of_mems (.of (.mirrorMem (.store hs))))]

theorem answersDictWriteAck (hs : s.Canon) : AnswersCanon (execDictWriteAck s) := by
  unfold execDictWriteAck
  split; exacts [hs, .ite hs (.ite (.journalWrite hs) (.journalLong hs))]

/-! ### Nap -/

theorem opRefused {a : Accessor} {st : Status} (hs : s.Canon) : (s.opRefused a st).1.Canon := .countRead hs
theorem opRead {g : State} {a : Accessor} {addr : Nat} (hs : s.Canon) : (s.opRead g a addr).1.Canon := .countRead hs
theorem opWrite {a : Accessor} {addr v : Nat} (hs : s.Canon) : (s.opWrite a addr v).1.Canon := .writeWord hs

theorem opDomainRead {a : Accessor} {addr off n : Nat} (hs : s.Canon) : (s.opDomainRead a addr off n).1.Canon := by
  unfold State.opDomainRead
  split; exacts [.opRefused hs, .ite_fst (.opRefused hs) (.countAccess (.setNap hs))]

theorem opDomainWrite {a : Accessor} {addr off : Nat} {data : List Byte} {fin : Bool} (hs : s.Canon) :
    (s.opDomainWrite a addr off data fin).1.Canon := by
  unfold State.opDomainWrite
  split
  · exact .refuseAt (.countAccess hs)
  · exact .ite_fst (.refuseAt (.countAccess hs)) (.ite_fst (.writeDomain (.setNap hs)) (.countAccess (.setNap hs)))

theorem opStaged {a : Accessor} {addr : Nat} (hs : s.Canon) : (s.opStaged a addr).1.Canon := .countRead hs

theorem opAnswer {a : Accessor} {op addr : Nat} {fin : Bool} {q : State × Nat × List Byte} (hs : s.Canon) (hq :
    q.1.Canon) :
    (s.opAnswer a op addr fin q).Canon :=
  .ite hs (.send hq)

theorem napOp {g : State} {a : Accessor} {o : NapOp} (hs : s.Canon) : (s.napOp g a o).1.Canon := by
  unfold State.napOp
  split
  · exact .opRead hs
  · exact .ite_fst (.opWrite hs) (.opRefused hs)
  · exact .ite_fst (.opDomainRead hs) (.opRefused hs)
  · exact .ite_fst (.opDomainWrite hs) (.opRefused hs)
  · exact .opStaged hs
  · exact .opRefused hs

theorem napRun {a : Accessor} {group : Bool} {g : Option State} {room : Nat} {out : List Byte} {st : Nat} {l : List NapOp}
    (hs : s.Canon) : (s.napRun a group g room out st l).1.Canon := by
  induction l generalizing s g out st with
  | nil => exact hs
  | cons o r ih => exact ih (.ite_fst (.opRefused hs) (.napOp hs))

theorem newSession {k session : Nat} (hs : s.Canon) : (s.newSession k session).Canon :=
  .setNap (.ite (.bumpIf hs) (.setObj (.bumpIf hs)))

theorem napExecute {c : PortClass} {k port room : Nat} {frameOf : List Byte → List Byte} {x : Nat} {ops : List NapOp}
    (hs : s.Canon) : (s.napExecute c k port room frameOf x ops).Canon :=
  .ite (.setNap (.napRun hs)) (.napEmit (.setNap (.napRun hs)))

theorem napTake {c : PortClass} {port room : Nat} {frameOf : List Byte → List Byte} {d : List Byte} (hs : s.Canon) :
    (s.napTake c port room frameOf d).Canon := by
  unfold State.napTake
  dsimp only
  refine .ite hs ?_
  split
  · exact .bump hs
  · split
    · exact .ite (.ite (.bump hs) (.napEmit (.bump hs))) (.ite (.bump hs) (.napExecute hs))
    · exact .napExecute (.newSession hs)

theorem answersNapRequest {p : Fin 49} {l : List Byte} (hs : s.Canon) : AnswersCanon (execNapRequest p l s) := by
  unfold execNapRequest
  split
  · exact hs
  · refine .ite hs ?_
    split
    · exact .bump hs
    · exact .napTake hs

theorem answersArpRequest {p : Fin 49} {l : List Byte} (hs : s.Canon) : AnswersCanon (execArpRequest p l s) := by
  unfold execArpRequest
  split; exacts [hs, .ite hs (.ite (.send hs) (.offerOwn hs))]

theorem mgmtWake {l : List Byte} (hs : s.Canon) : (s.mgmtWake l).Canon := .ite (.assertWake (.bump hs)) hs

/-! ### Link -/

theorem heard {p : List Byte} (hs : s.Canon) : (s.heard p).Canon := by
  unfold State.heard
  extract_lets role st pair₁ s₁ pair₂ s₂ mine
  have h₁ : s₁.Canon := .of_mems (.of hs)
  have h₂ : s₂.Canon := .of_mems (.of h₁)
  exact .ite h₁ (.ite (.pairEnter (.setObj h₂)) (.ite (.syncStart (.pairEnter h₂)) (.ite (.pairEnter h₂)
    (.ite (.pairEnter h₂) h₂))))

theorem mirrorValue {o : Obj} {n : Nat} {v : Int} {k : Nat} (hs : s.Canon) : (s.mirrorValue o n v k).Canon := by
  refine .ite (.ite (.enableRing hs) (.disableRing hs)) (.ite (.stageCancel hs) (.ite (.ctxEnableTo hs) (.ite hs ?_)))
  split
  · exact .stageVal hs
  · exact hs
  · exact hs
  · exact .objEffect hs

theorem mirrorWrite {addr : Nat} {body : List Byte} (hs : s.Canon) : (s.mirrorWrite addr body).Canon := by
  unfold State.mirrorWrite
  split; exacts [hs, .ite (.mirrorValue hs) (.ite (.stageDom hs) (.ite hs (.setDom hs)))]

theorem mirrorArm {k : Nat} {T : Int} (hs : s.Canon) : (s.mirrorArm k T).Canon := by
  refine .showArmed (.setObj (.setObj (.setStage ?_)))
  split
  · exact .foldl hs fun _ _ hs => .setStage hs
  · exact hs

theorem mirrorJob {jseq r q : Nat} {body : List Byte} (hs : s.Canon) : (s.mirrorJob jseq r q body).Canon := by
  unfold State.mirrorJob
  extract_lets d c S x seen first s₁ s₂ s₃ prach s₄
  have h₂ : s₂.Canon := .setObj (.setRing hs)
  have h₄ : s₄.Canon := .freeUsed (.ite h₂ (.of_mems (.of h₂)))
  exact .ite (.ite (.of_mems (.of h₄)) h₄) (.ite (.of_mems (.of h₂)) h₂)

theorem mirrorGate {r q : Nat} {body : List Byte} (hs : s.Canon) : (s.mirrorGate r q body).Canon := by
  unfold State.mirrorGate
  split; exacts [.setJob hs, hs]

theorem mirrorEntry {p : List Byte} (hs : s.Canon) : (s.mirrorEntry p).Canon := by
  refine .ite hs ?_
  split
  · exact .mirrorJob (.of_mems (.of (.writeMem hs)))
  · exact .mirrorGate (.of_mems (.of (.writeMem hs)))
  · exact .mirrorWrite (.of_mems (.of (.writeMem hs)))
  · exact .mirrorArm (.of_mems (.of (.writeMem hs)))
  · exact .of_mems (.of (.of_mems (.of (.writeMem hs))))
  · exact .of_mems (.of (.writeMem hs))

theorem mirrorHead {r v : Nat} (hs : s.Canon) : (s.mirrorHead r v).Canon := .pruneJobs (.setObj (.setObj (.setRing hs)))
theorem copyGone (hs : s.Canon) : s.copyGone.Canon := .of_mems (.of (.resetObjs hs))

theorem syncTake {p : List Byte} (hs : s.Canon) : (s.syncTake p).Canon := by
  unfold State.syncTake
  dsimp only
  split
  · exact .ite (.store hs) hs
  · split
    · exact .ite hs (.setObj hs)
    · exact hs
  · split
    · exact .ite hs (.setDom hs)
    · exact hs
  · exact .ctxLogicTake hs
  · exact .mirrorEntry hs
  · exact .copyGone hs
  · exact .ite (.of_mems (.filter_mem (.of hs))) hs
  · exact hs

theorem stairFreed {g : Nat} (hs : s.Canon) : (s.stairFreed g).Canon := by
  unfold State.stairFreed
  split; exacts [.stairSend (.of_mems (.of hs)), hs]

theorem stairTake {src : Nat} {top : Bool} {m : Nat} (hs : s.Canon) : (s.stairTake src top m).Canon := by
  unfold State.stairTake
  split
  · exact .ite (.stairArrive hs) (.stairFreed hs)
  · exact .stairDeliver hs
  · exact .stairArm hs
  · exact .ite (.stairResetNow hs) hs
  · exact .ite hs (.stairResetNow hs)
  · exact hs

theorem linkDict {port : Nat} {back p : List Byte} (hs : s.Canon) : (s.linkDict port back p).Canon := .ite hs (.napTake hs)

theorem dravutAct {x : LinkRx} (hs : s.Canon) : (s.dravutAct x).Canon := by
  unfold State.dravutAct
  split
  · exact .ite hs (.ite (.mirrorHead hs) (.mirrorEntry hs))
  · exact .ite (.ctxLogicTake hs) (.ite (.store hs) hs)
  · exact .ite (.hand hs) hs
  · exact .linkDict hs
  · exact .stairTake hs
  · exact .ite (.syncTake hs) hs
  · exact hs

theorem answersDravutFrameReceive {f : List Byte} (hs : s.Canon) : AnswersCanon (execDravutFrameReceive f s) := by
  refine ite hs ?_
  split
  · exact .bump hs
  · exact .ite hs (.ite (.heard (.ackTo hs)) (.ite (.ackTo hs)
      (.ite (.dravutAct (.send (.of_mems (.of (.ackTo hs))))) (.ite (.send (.ackTo hs)) (.bump (.ackTo hs))))))

theorem munovBulk {down : Bool} {src : Nat} {p : List Byte} (hs : s.Canon) : (s.munovBulk down src p).Canon := by
  unfold State.munovBulk
  split; exacts [.ite (.munovSend hs) hs, .ite (.storeAsked hs) hs, hs]

theorem munovAct {down : Bool} {x : LinkRx} (hs : s.Canon) : (s.munovAct down x).Canon := by
  unfold State.munovAct
  split; exacts [.linkDict hs, .stairTake hs, .ite (.raiseVec (.hand hs)) hs, .munovBulk hs, hs]

theorem munovPass {down : Bool} {x : LinkRx} (hs : s.Canon) : (s.munovPass down x).Canon := .ite hs (.munovSend hs)

theorem munovTake {down : Bool} {x : LinkRx} (hs : s.Canon) : (s.munovTake down x).Canon :=
  .ite (.munovAct (.ite (.munovPass hs) hs)) (.ite (.munovPass hs) hs)

theorem answersMunovFrameReceive {down : Bool} {f : List Byte} (hs : s.Canon) : AnswersCanon
    (execMunovFrameReceive down f s) := by
  refine ite hs ?_
  split
  · exact .bump hs
  · exact .ite (.setMunov hs) (.ite (.munovTake (.send (.setMunov (.setMunov hs))))
      (.ite (.send (.setMunov hs)) (.bump (.setMunov hs))))

/-! ### Dispatch -/

/-- Every instruction keeps the memories in canonical form. -/
theorem answers {i : Instr} (hs : s.Canon) : AnswersCanon (exec i s) :=
  match i with
  | .hallRateSample .. => answersHallRateSample hs
  | .pacingPeriodEnd .. => answersPacingPeriodEnd hs
  | .lowerIntervalEnd .. => ite hs (.ite (.bump (.setPacer (.setTrim (.setPacer hs)))) (.setPacer hs))
  | .hallPaceSnap .. => answersHallPaceSnap hs
  | .hallLevelWrite .. => answersHallLevelWrite hs
  | .levelSlewDone .. | .snapRailSettled .. => ite (.railSettled hs) hs
  | .hallPaceEnWrite .. => answersHallPaceEnWrite hs
  | .paceStartHoldExpire .. => ite (.hotTest (.paceEnter hs)) hs
  | .hallRailUndervoltage .. => unitFault hs
  | .thermalSample .. => answersThermalSample hs
  | .thermTripHoldEnd => ite (.takeWake (.of_mems (.of hs))) hs
  | .thermWarnWrite .. => answersThermWarnWrite hs
  | .bundleIssue .. => answersBundleIssue hs
  | .interruptTaken .. => answersInterruptTaken hs
  | .windowAsync .. => answersWindowAsync hs
  | .windowLoadResponse .. => answersWindowLoadResponse hs
  | .fence .. => answersFence hs
  | .add .. | .sub .. | .mpy .. | .mac .. | .msu .. | .exth .. | .extw .. | .asrr .. | .clr .. | .bra .. | .call .. | .ret ..
  | .rep .. | .mvc .. | .rte .. | .trap .. | .bkpt .. | .vadd .. | .vsub .. | .vmin .. | .vmax .. | .vabs .. | .vneg ..
  | .vand .. | .vor .. | .vxor .. | .vasrr .. | .vshl .. | .vmul .. | .vcmul .. | .vmpy .. | .vmac .. | .vmsu .. | .vaclr ..
  | .vexth .. | .vcmpeq .. | .vcmplt .. | .vcmple .. | .vperm .. | .vzipl .. | .vziph .. | .vuzpe .. | .vuzpo .. | .vdup ..
  | .vrsum .. | .vrmax .. | .vrmin .. | .vgather .. | .vscatter .. | .vstr .. | .vstw .. => issueSolo hs
  | .nop .. | .fullFormMove .. | .compactMove .. | .compactMultiplyMove .. => issueWords hs
  | .coreHalt .. => answersCoreHalt hs
  | .coreResume .. => answersCoreResume hs
  | .schSwitch .. | .schYield .. | .schExit .. | .schCreate .. | .schKill .. | .schSetPrio .. | .schDelay ..
  | .schDelayUntil .. | .schSemTake .. | .schSemTry .. | .schSemGive .. | .schSemInit .. | .schMsgSend .. | .schMsgTrySend ..
  | .schMsgRecv .. | .schMsgTryRecv .. | .schQueueSet .. | .schSoftInt .. | .schTrace .. => call hs
  | .schTick .. => ite hs (.settle (.foldl (.setDelay hs) fun _ _ hs => .endWait hs))
  | .schRemoteOp .. => answersSchRemoteOp hs
  | .schWdCheck .. => ite hs (.foldl hs fun _ _ hs => .wdReport hs)
  | .schTickNsWrite .. => answersSchTickNsWrite hs
  | .schPmemLoad .. => answersSchPmemLoad hs
  | .pmemCoreLoad .. => ite (.dispatch (.ite (.setObj (.setSch (.copyPmem hs))) (.setSch (.copyPmem hs)))) hs
  | .carrierBuildRelease .. => ite (.postBuildRelease hs) hs
  | .ulFrameSteering .. => answersUlFrameSteering hs
  | .ulWindowClose .. => answersUlWindowClose hs
  | .ulReleaseAtDeadline .. => ite (.ite (.releaseSlot (.bump hs)) (.setUlBuf (.bump hs))) hs
  | .ulGainSet .. => answersUlGainSet hs
  | .ulEngineDescriptor .. => answersUlEngineDescriptor hs
  | .arm .. => takeHead hs fun _ _ hs => .armTaken hs
  | .ulRelease .. => takeHead hs fun _ _ hs => .releaseTaken hs
  | .chest .. => takeHead hs fun _ _ hs => .chestTaken hs
  | .detect .. => takeDet hs fun _ _ hs => .detectTaken hs
  | .weights .. => takeDet hs fun _ _ hs => .weightsTaken hs
  | .fft .. => takeHead hs fun _ _ hs => .fftTaken hs
  | .outer .. => takeDet hs fun _ _ hs => .outerTaken hs
  | .outerAbandon .. => answersOuterAbandon hs
  | .praEvaluation .. => answersPraEvaluation hs
  | .dec .. => takeHead hs fun _ _ hs => .decTaken hs
  | .decBlockStart .. => answersDecBlockStart hs
  | .harqStore .. => answersHarqStore hs
  | .enc .. => takeHead hs fun _ _ hs => .encTaken hs
  | .polar .. => answersPolar hs
  | .turbo .. => answersTurbo hs
  | .harqFree .. => takeHead hs fun _ _ hs => .harqFreeTaken hs
  | .build .. => takeHead hs fun _ _ hs => .buildTaken hs
  | .shape .. => takeHead hs fun _ _ hs => .shapeTaken hs
  | .tdTailAlone .. => ite hs (.foldl (.bump hs) fun _ _ hs => .handAll (.setTd (.tdFrame (.freeUsed hs))))
  | .tdMaskUnmute .. => answersTdMaskUnmute hs
  | .send .. => takeHead hs fun _ _ hs => .ite (.finishHead hs) (.of_mems (.of (.engPop hs)))
  | .ctxEnableWrite .. => answersCtxEnableWrite hs
  | .ctxClearDone => ite (.mirrorLogic (.ctxWipe hs)) hs
  | .lookup .. => answersLookup hs
  | .insert .. => answersInsert hs
  | .update .. => answersUpdate hs
  | .delete .. => answersDelete hs
  | .touch .. => answersTouch hs
  | .ctxSweepBucket => answersCtxSweepBucket hs
  | .ctxTouchMirrorBatch => of_mems (.of (.foldl hs fun _ _ hs => .mirrorMem hs))
  | .galleryPacketDelivery .. => answersGalleryPacketDelivery hs
  | .arbRound .. => answersArbRound hs
  | .galleryHoldRelease .. => answersGalleryHoldRelease hs
  | .arbFreezeWrite .. => answersArbFreezeWrite hs
  | .arbBaseWrite .. => answersArbBaseWrite hs
  | .ddrTrainingEnd .. => answersDdrTrainingEnd hs
  | .memorySweep .. => ite (.sweepSram hs) hs
  | .demandRead .. => answersDemandRead hs
  | .zeroSweepLine .. => ite hs (.ite (.setObj hs) (.setObj (.writeMem hs)))
  | .ddrBlockFill .. => ite (.store hs) hs
  | .scrubLine .. => ite hs (.ite (.scrubWrap hs) (.ite (.scrubWrap (.setObj (.scrubWords hs))) (.setObj (.scrubWords hs))))
  | .scrubHotRewrite .. => answersScrubHotRewrite hs
  | .scrubLate .. => ite hs (.of_mems (.of (.evt (.bump hs))))
  | .terraceRowRepair .. => answersTerraceRowRepair hs
  | .ddrPprRepair .. => answersDdrPprRepair hs
  | .eccLogClear .. => answersEccLogClear hs
  | .laneQuadModeWrite .. => answersLaneQuadModeWrite hs
  | .laneQuadFecWrite .. => answersLaneQuadFecWrite hs
  | .laneCdrLock .. => ite hs (.laneProceed (.setLane hs))
  | .laneCdrLoss .. | .laneBlockLockLoss .. => ite hs (.ite (.setLane (.bump hs)) (.peerRefresh (.laneToAcquire (.bump hs))))
  | .autoNegotiation .. => ite (.foldl hs fun _ _ hs => .laneProceed (.setLane hs)) hs
  | .laneMarkerRx .. => answersLaneMarkerRx hs
  | .laneTrainingTimeout .. => ite (.peerRefresh (.laneFails hs)) hs
  | .laneEyeWindowEnd .. => answersLaneEyeWindowEnd hs
  | .laneAdaptPeriodEnd .. => answersLaneAdaptPeriodEnd hs
  | .laneTxFfeWrite .. => answersLaneTxFfeWrite hs
  | .laneLoopbackWrite .. => answersLaneLoopbackWrite hs
  | .lanePrbsTxWrite .. => answersLanePrbsTxWrite hs
  | .lanePrbsChkWrite .. => answersLanePrbsChkWrite hs
  | .lanePrbsClear .. => answersLanePrbsClear hs
  | .ethFrameReceive .. => answersEthFrameReceive hs
  | .ethTxInsert .. => answersEthTxInsert hs
  | .ethTxFetch .. => answersEthTxFetch hs
  | .ethTxSelect .. => answersEthTxSelect hs
  | .ethTxFrameEnd .. => setPort hs
  | .ethPauseRefresh .. => setPort (.fcEval hs)
  | .ethPauseExpire .. => ite (.setPort hs) hs
  | .ethRxRingDoorbell .. => ite hs (.ite (.bump hs) (.erxLevel (.setErx hs)))
  | .ethTxRingDoorbell .. => ite hs (.ite (.bump hs) (.etxPost (.setEtx hs)))
  | .mgmtFrameReceive .. => ite hs (.ite (.hand (.mgmtWake hs)) (.bump (.mgmtWake hs)))
  | .ptpMessageReceive .. => ite (.bump hs) (.ite hs (.announce hs))
  | .ptpSyncReceive .. => ite (.servo hs) hs
  | .ptpTxTimer .. => ite (.freeUsed (.offerOwn hs)) hs
  | .announceTimeout .. => ite hs (.ite (.sourceLost (.runBmca (.setMaster hs))) (.runBmca (.setMaster hs)))
  | .timeLockHoldExpire | .holdoverMaxExpire | .mgmtLinkDown => ite (.setObj hs) hs
  | .timeSet .. => answersTimeSet hs
  | .synceDisqualify .. => ite hs (.ite (.evt (.bump (.of_mems (.of (.ite (.setRho hs) hs))))) hs)
  | .ppsInEdge => ite hs (.ite (.bump hs) (.servo (.sourceQualified (.of_mems (.of hs)))))
  | .ppsLoss => ite (.sourceLost (.of_mems (.of hs))) hs
  | .ppsOutSecond => ite hs (.of_mems (.of hs))
  | .timeTrigWrite .. => answersTimeTrigWrite hs
  | .timeTrigFire .. => ite (.fireTrig hs) hs
  | .jrTailDoorbell .. => ite hs (.ite (.bump hs) (.ite (.bump hs) (.setRing hs)))
  | .crHeadDoorbell .. => ite hs (.ite (.bump hs) (.ite (.bump hs) (.ite (.dravutSend hs) (.crHeadDone hs))))
  | .jobAcceptance .. => answersJobAcceptance hs
  | .jobStart .. => answersJobStart hs
  | .jobExpire .. => answersJobExpire hs
  | .completionGate .. => answersCompletionGate hs
  | .completionRecordWrite .. => answersCompletionRecordWrite hs
  | .jrCoalesceExpire .. => answersJrCoalesceExpire hs
  | .jrEnableWrite .. => answersJrEnableWrite hs
  | .jrResume .. => answersJrResume hs
  | .functionLevelReset .. => of_mems (.of (.foldl hs fun _ _ hs => .flrRing hs))
  | .pcieLinkDown .. => ite (.setObj (.setObj hs)) (.of_mems (.of hs))
  | .bar4Access .. => answersBar4Access hs
  | .bar0Read .. => answersBar0Read hs
  | .dictWrite .. => ite (.writeWindow (.bumpIf hs)) (.writeWord (.bumpIf hs))
  | .dictWriteAck => answersDictWriteAck hs
  | .winSnapshot .. => answersWinSnapshot hs
  | .winWrite .. => answersWinWrite hs
  | .winGroupRead .. => answersWinGroupRead hs
  | .winReadStaged .. => answersWinReadStaged hs
  | .napRequest .. => answersNapRequest hs
  | .napRead .. => opAnswer hs (.opRead hs)
  | .napWrite .. => opAnswer hs (.opWrite hs)
  | .napDomainRead .. => opAnswer hs (.opDomainRead hs)
  | .napDomainWrite .. => opAnswer hs (.opDomainWrite hs)
  | .napReadStaged .. => opAnswer hs (.opStaged hs)
  | .arpRequest .. => answersArpRequest hs
  | .i3cPrivateWrite .. => ite hs (.ite (.bump (.of_mems (.of hs))) (.napTake (.of_mems (.of hs))))
  | .i3cPrivateRead => ite hs (.ite (.send (.of_mems (.of hs))) (.send hs))
  | .entdaa .. | .setdasa .. | .rstdaa => ite (.send (.of_mems (.of hs))) hs
  | .getpid | .getbcr | .getdcr | .pairHeartbeatTimer => ite (.send hs) hs
  | .getstatus => ite (.send (.freeUsed hs)) hs
  | .enec .. | .disec .. => ite (.of_mems (.of hs)) hs
  | .stageCommit .. => answersStageCommit hs
  | .stageCancel .. => answersStageCancel hs
  | .stageCommitApply => answersStageCommitApply hs
  | .pwrReqS2 .. => answersPwrReqS2 hs
  | .pwrReqS3 .. => answersPwrReqS3 hs
  | .pwrReqS4 .. => answersPwrReqS4 hs
  | .pwrReqWake .. => answersPwrReqWake hs
  | .pwrGate .. => answersPwrGate hs
  | .pwrUngate .. => answersPwrUngate hs
  | .pwrDelayExpire .. => ite (.askUnits (.of_mems (.of hs))) hs
  | .pwrStateReached => answersPwrStateReached hs
  | .wakeNAsserted => assertWake hs
  | .pwrWakeAtReached => ite (.assertWake hs) hs
  | .powerExit => ite hs (.beginLadder (.of_mems (.of (.lapSettle (.setObj (.ite (.sleepAll (.deviceReset hs)) hs))))))
  | .startLadderStep .. => answersStartLadderStep hs
  | .vinRise .. => answersVinRise hs
  | .vinLoss .. | .pwrEnFall => ite (.forceS4 (.of_mems (.of hs))) hs
  | .vinWarnCrossing .. => ite hs (.vinWarn (.setObj (.setObj (.setObj hs))))
  | .pwrEnRise => ite hs (.ite (.vinAlert (.powerOn (.coldReset (.of_mems (.of hs))))) (.of_mems (.of hs)))
  | .l1Copy => ite hs (.ite (.setObj (.store hs)) (.evt (.setObj (.store hs))))
  | .shRollbackSet .. => answersShRollbackSet hs
  | .shOtpRevoke .. => answersShOtpRevoke hs
  | .shFlashErase .. => answersShFlashErase hs
  | .shFlashProgram .. => answersShFlashProgram hs
  | .shFlashCheck .. => answersShFlashCheck hs
  | .shWatchTableWrite .. => answersShWatchTableWrite hs
  | .shWatchEnWrite .. => answersShWatchEnWrite hs
  | .shWatchEvaluation .. => ite hs (.ite (.ite (.seeOccasion hs) hs) (.praEvaluate (.ite (.seeOccasion hs) hs)))
  | .shWatchMacFrame .. => answersShWatchMacFrame hs
  | .shWatchdogExpire => ite hs (.faultNow hs)
  | .unitFault .. | .engineTimeout .. => ite (.faultNow hs) hs
  | .unitDrainEnd .. => ite (.enterRejoin (.resetUnit hs)) hs
  | .unitRejoin .. => ite (.reload (.lapUnit (.setUnit hs))) hs
  | .retiredCarrierReplace .. => ite (.replaceCarriers hs) hs
  | .relUnretire .. => answersRelUnretire hs
  | .progressMark .. => progressMark hs
  | .relMarkQueryWrite .. => answersRelMarkQueryWrite hs
  | .pairModeWrite .. => answersPairModeWrite hs
  | .pairRoleReq .. => answersPairRoleReq hs
  | .dravutFrameReceive .. => answersDravutFrameReceive hs
  | .dravutResendTimeout => munovResend (.munovResend (.foldl hs fun _ _ hs => .send hs))
  | .pairHbMiss .. => linkDown (.of_mems (.of hs))
  | .pairSyncComplete => runAct hs
  | .takeover => ite hs (.ite hs (.ite (.takeOver hs) (.linkDown hs)))
  | .chainRoleWrite .. => answersChainRoleWrite hs
  | .munovFrameReceive .. => answersMunovFrameReceive hs
  | .barrier .. => takeStair hs fun _ _ hs => .stairBarrier hs
  | .broadcast .. => takeStair hs fun _ _ hs => .stairSettle (.of_mems (.of (.stairOthers (.stairDeliver hs))))
  | .snapshotArm .. => takeStair hs fun _ _ hs => .stairOthers (.stairArm hs)
  | .stairSnapshotLatch => ite (.of_mems (.of (.latchSnapshot hs))) hs
  | .stairResetDevice .. => answersStairResetDevice hs
  | .stairResetPair .. => answersStairResetPair hs
  | .stairResetChain .. => answersStairResetChain hs
  | .blockLockGain .. => ite hs (.laneChanged (.setLane hs))
  | .alignmentLockGain .. =>
    ite (.laneChanged (.setPort (.foldl hs fun _ _ hs => .setObj hs))) (.foldl hs fun _ _ hs => .setObj hs)
  | .alignmentLockLoss .. => ite (.laneChanged (.setPort hs)) hs
  | .lowPowerIdleEntry .. => ite (.foldl hs fun _ _ hs => .ite (.laneFreeze (.setLane hs)) hs) hs
  | .lowPowerIdleExit .. => foldl hs fun _ _ hs => .laneFreeze (.setLane hs)
  | .trainingFrameReceive .. => answersTrainingFrameReceive hs
  | .laneTxPllLock .. => ite hs (.ite (.laneEnter hs) (.laneToAcquire hs))
  | .pcieLinkUp .. => ite (.ite (.busReturns (.setObj (.setObj (.setObj hs)))) hs) (.busReturns (.ite hs (.of_mems (.of hs))))
  | .mgmtLinkUp => ite hs (.setObj hs)
  | .jtagInstruction .. => ite hs (.ite (.send hs) (.ite (.of_mems (.of hs)) hs))

/-! ### Step -/

theorem answersStep (hs : s.Canon) : AnswersCanon (Machine.step s) := by
  unfold Machine.step
  split
  · exact tick hs
  · exact answers (.of_mems (.of hs))

end State.Canon

end Sys2Proof.Machine

open Sys2Proof Sys2Proof.Machine in
/-- Settles O5: every instruction and every tick keeps the canonical form. -/
theorem stepKeepsMemoryCanonical : Obligations.StepKeepsMemoryCanonical := by
  intro s t hs h
  have hNext := State.Canon.answersStep (State.canon_iff.mpr hs)
  rw [h] at hNext
  exact State.canon_iff.mp hNext
end

section
/-! SUPPORT. The registers of a Wylen core: what is read after a write, what the accumulator's arithmetic (R66, R68) comes to, and
the operations that change registers alone. -/

namespace Sys2Proof.Machine

/-! ### Fields -/

/-- A field of 40 bits read back is within 40 bits. -/
theorem signExt_toField_range (q : Int) : -(2 ^ 39) ≤ signExt 40 (toField 40 q) ∧ signExt 40 (toField 40 q) < 2 ^ 39 := by
  unfold signExt toField
  norm_num
  split <;> omega

/-- A field of 40 bits read back is the number modulo 2^40. -/
theorem signExt_toField_emod (q : Int) : (signExt 40 (toField 40 q) - q) % 2 ^ 40 = 0 := by
  unfold signExt toField
  norm_num
  split <;> omega

/-- A number fits 40 bits when it is in their range. -/
theorem fits_40 (q : Int) : fits 40 q = true ↔ -(2 ^ 39) ≤ q ∧ q < 2 ^ 39 := by
  simp [fits]

/-! ### Accumulators -/

theorem CoreSt.racc_wacc_same (k : CoreSt) (n : Nat) {v : Int} (h : -(2 ^ 39) ≤ v ∧ v < 2 ^ 39) : (k.wacc n v).racc n = v := by
  simp only [CoreSt.racc, CoreSt.wacc, tabGet_tabSet_same, BitVec.toInt_ofInt]
  exact Int.bmod_eq_of_le (by norm_num at h ⊢; omega) (by norm_num at h ⊢; omega)

theorem CoreSt.racc_wacc_ne (k : CoreSt) {n m : Nat} (v : Int) (h : m ≠ n) : (k.wacc n v).racc m = k.racc m := by
  simp [CoreSt.racc, CoreSt.wacc, tabGet_tabSet_ne _ _ _ _ h]

theorem CoreSt.half_range (k : CoreSt) (n : Nat) (hi : Bool) : -(2 ^ 15) ≤ k.half n hi ∧ k.half n hi < 2 ^ 15 := by
  unfold CoreSt.half
  split
  · exact ⟨BitVec.le_toInt _, BitVec.toInt_lt⟩
  · exact ⟨BitVec.le_toInt _, BitVec.toInt_lt⟩

/-- A product of two halves with SH below 3 fits 40 bits (R66). -/
theorem product_range (k : CoreSt) (a b : Nat) (ha hb : Bool) {sh : Nat} (h : sh < 3) :
    -(2 ^ 39) ≤ product k a ha b hb sh ∧ product k a ha b hb sh < 2 ^ 39 := by
  obtain ⟨hxl, hxu⟩ := k.half_range a ha
  obtain ⟨hyl, hyu⟩ := k.half_range b hb
  have hProd : |k.half a ha * k.half b hb| ≤ 2 ^ 15 * 2 ^ 15 := by
    rw [abs_mul]
    exact mul_le_mul (abs_le.mpr ⟨hxl, hxu.le⟩) (abs_le.mpr ⟨hyl, hyu.le⟩) (abs_nonneg _) (by norm_num)
  have hShift : (2 : Int) ^ sh ≤ 4 := by
    calc (2 : Int) ^ sh ≤ 2 ^ 2 := pow_le_pow_right₀ (by norm_num) (by omega)
      _ = 4 := by norm_num
  have hAll : |product k a ha b hb sh| ≤ 2 ^ 15 * 2 ^ 15 * 4 := by
    unfold product
    rw [abs_mul, abs_of_pos (pow_pos (by norm_num) sh : (0 : Int) < 2 ^ sh)]
    exact mul_le_mul hProd hShift (by positivity) (by norm_num)
  obtain ⟨hl, hu⟩ := abs_le.mp hAll
  constructor
  · norm_num at hl ⊢
    omega
  · norm_num at hu ⊢
    omega

/-! ### A result in 40 bits (R68) -/

theorem accResult_of_fits (sat : Bool) {q : Int} (h : fits 40 q = true) : accResult sat q = (q, false, false) := by
  simp [accResult, h]

theorem accResult_of_clamp {q : Int} (h : fits 40 q = false) :
    accResult true q = (if 0 ≤ q then 2 ^ 39 - 1 else -(2 ^ 39), true, true) := by
  simp [accResult, h]

theorem accResult_of_wrap {q : Int} (h : fits 40 q = false) : accResult false q = (signExt 40 (toField 40 q), true, false) := by
  simp [accResult, h]

theorem accResult_range (sat : Bool) (q : Int) : -(2 ^ 39) ≤ (accResult sat q).1 ∧ (accResult sat q).1 < 2 ^ 39 := by
  by_cases h : fits 40 q = true
  · rw [accResult_of_fits _ h]
    exact (fits_40 q).mp h
  · rw [Bool.not_eq_true] at h
    cases sat with
    | true =>
      rw [accResult_of_clamp h]
      dsimp only
      split <;> norm_num
    | false =>
      rw [accResult_of_wrap h]
      exact signExt_toField_range q

/-- MPY, MAC and MSU: the accumulator's new value. -/
theorem CoreSt.racc_accOp_same (k old : CoreSt) (n : Nat) (q : Int) (f : Bool) :
    (k.accOp old n q f).racc n = (accResult old.sst.sat q).1 := by
  have hStore : (k.accStore old n q).racc n = (accResult old.sst.sat q).1 := k.racc_wacc_same n (accResult_range _ q)
  cases f <;> exact hStore

theorem CoreSt.racc_accOp_ne (k old : CoreSt) {n m : Nat} (q : Int) (f : Bool) (h : m ≠ n) :
    (k.accOp old n q f).racc m = k.racc m := by
  cases f <;> exact k.racc_wacc_ne _ h

/-- MPY, MAC and MSU: the status bits. -/
theorem CoreSt.sst_accOp (k old : CoreSt) (n : Nat) (q : Int) (f : Bool) :
    (k.accOp old n q f).sst =
      let r := accResult old.sst.sat q
      let t := { k.sst with av := k.sst.av || r.2.1, sv := k.sst.sv || r.2.2 }
      if f then { t with n := decide (r.1 < 0), z := decide (r.1 = 0), c := freeCarry 4 (old.racc n) n, v := !fits 40 q } else t := by
  cases f <;> rfl

/-- MPY, MAC and MSU change the accumulators and the status alone. -/
theorem CoreSt.accOp_frame (k old : CoreSt) (n : Nat) (q : Int) (f : Bool) :
    k.accOp old n q f = { k with acc := (k.accOp old n q f).acc, sst := (k.accOp old n q f).sst } := by
  cases f <;> rfl

/-! ### Operations of registers alone -/

/-- An operation that only changes registers: no move, no control, no scheduler call, no gather, and neither BKPT nor FENCE. -/
def regsOnly : CoreOp → Bool
  | .add .. | .sub .. | .mpy .. | .mac .. | .msu .. | .exth .. | .extw .. | .asrr .. | .clr _ | .mvc .. => true
  | .vec v => decide (v.op ≠ .vgather) && decide (v.op ≠ .vscatter)
  | _ => false

/-- An operation of registers alone, issued beside NOP without a cause of an exception: everything it can do. -/
theorem State.issueSolo_regsOnly {s : State} {c slot : Nat} {op : CoreOp} (h : s.issues c = true) (hl : (s.core c).sst.ld = 0)
    (hop : regsOnly op = true) (hc : s.opCauses c (s.core c) (s.pc c) op = [])
    (hld : (s.applyOp c (s.core c) op (s.core c)).sst.ld = 0) :
    ranAlone s (s.issueSolo c slot op) c (s.applyOp c (s.core c) op (s.core c)) := by
  have hGather : isGather op = false := by cases op <;> simp_all [regsOnly, isGather]
  have hControl : isControl op = false := by cases op <;> simp_all [regsOnly, isControl]
  exact State.issueSolo_regs h hl hc hGather (.inl (by rintro rfl; cases hop)) (by rintro m rfl; cases hop)
    (by rintro a b rfl; cases hop) hControl (by rintro rfl; cases hop) hld

/-! ### MPY, MAC and MSU -/

/-- MPY, MAC and MSU are operations of registers alone, that write their accumulator with its exact new value under R68. -/
theorem multiplyOf_spec {i : Instr} {s : State} {c : Fin 192} {n : Nat} {q : Int} {f : Bool}
    (h : multiplyOf i s = some (c, n, q, f)) (hsh : shOf i < 3) :
    ∃ op, exec i s = .next (s.issueSolo c 3 op) ∧ regsOnly op = true ∧ s.opCauses c (s.core c) (s.pc c) op = []
      ∧ s.applyOp c (s.core c) op (s.core c) = (s.core c).accOp (s.core c) n q f := by
  unfold multiplyOf at h
  split at h
  · cases h
    exact ⟨_, rfl, rfl, if_neg (Nat.ne_of_lt hsh), rfl⟩
  · cases h
    exact ⟨_, rfl, rfl, if_neg (Nat.ne_of_lt hsh), rfl⟩
  · cases h
    exact ⟨_, rfl, rfl, if_neg (Nat.ne_of_lt hsh), rfl⟩
  · cases h

end Sys2Proof.Machine

section
open Sys2Proof Sys2Proof.Machine

/-- Settles O12: `CoreSt.accOp` writes the accumulator with `accResult`, whose three cases are R68's. -/
theorem multiplyAccumulateResults : Obligations.MultiplyAccumulateResults := by
  refine ⟨fun i s c n q f hMul hsh hIssues hld => ?_, fun k a b sh ha hb hsh => ⟨rfl, product_range k a b ha hb hsh⟩⟩
  obtain ⟨op, hExec, hRegs, hCauses, hApply⟩ := multiplyOf_spec hMul hsh
  have hSst := (s.core c).sst_accOp (s.core c) n q f
  have hRan := State.issueSolo_regsOnly (slot := 3) hIssues hld hRegs hCauses (by rw [hApply, hSst]; cases f <;> exact hld)
  rw [hApply] at hRan
  have hValue := (s.core c).racc_accOp_same (s.core c) n q f
  refine ⟨_, _, hExec, hRan, fun hFits => ?_, fun hFits => ?_, ?_, ?_, fun m hm => (s.core c).racc_accOp_ne _ q f hm, ?_⟩
  · have hAcc := accResult_of_fits (s.core c).sst.sat ((fits_40 q).mpr hFits)
    rw [hValue, hSst, hAcc]
    cases f <;> simp
  · have hNot : fits 40 q = false := by rwa [← Bool.not_eq_true, fits_40]
    rw [hValue, hSst]
    refine ⟨?_, fun hSat => ?_, fun hSat => ?_⟩
    · cases (s.core c).sst.sat <;> cases f <;> simp [accResult_of_clamp hNot, accResult_of_wrap hNot]
    · rw [hSat, accResult_of_clamp hNot]
      cases f <;> simp
    · rw [hSat, accResult_of_wrap hNot]
      refine ⟨signExt_toField_emod q, ?_⟩
      cases f <;> simp
  · rintro rfl
    simp [hSst, hValue]
  · rintro rfl
    simp [hSst]
  · conv_lhs => rw [(s.core c).accOp_frame]
    rw [hSst]
    cases f <;> rfl

end
end

section
/-! SUPPORT. Control transfers of a Wylen core: what a branch, CALL, RET, REP and RTE come to beside NOP. -/

namespace Sys2Proof.Machine

/-! ### Operations that set the PC -/

/-- BRA, CALL, RET and REP. -/
def jumps : CoreOp → Bool
  | .bra .. | .call _ | .ret | .rep .. => true
  | _ => false

/-- A bundle of one operation that sets the PC commits as it issues. -/
theorem State.issueSolo_jump {s : State} {c slot : Nat} {op : CoreOp} (h : s.issues c = true) (hl : (s.core c).sst.ld = 0)
    (hop : jumps op = true) (hc : s.opCauses c (s.core c) (s.pc c) op = []) :
    s.issueSolo c slot op = (s.commit c [op] (State.schedCall c)).afterCore (s.obj .coreState c) c := by
  have hGather : isGather op = false := by cases op <;> simp_all [jumps, isGather]
  have hLoad : s.isWindowLoad (s.core c) op = false := by cases op <;> simp_all [jumps, State.isWindowLoad]
  exact State.issueSolo_commits h hl hc hGather (.inl (by rintro rfl; cases hop)) hLoad

/-- The registers and the PC after a jump: what it writes, and the cycles it takes. It waits for no resource. -/
def State.afterJump (s : State) (c : Nat) (op : CoreOp) : CoreSt × Nat :=
  let old := s.core c
  let n := s.nextPc c old (s.applyOp c old op old) [op]
  ({ n.1 with stall := none, cyc := (old.cyc + s.issueCycles old [op]) % 2 ^ 64, ready := old.ready }, n.2)

theorem State.spendCycles_jump (s : State) (old k : CoreSt) {op : CoreOp} (hop : jumps op = true) :
    s.spendCycles old [op] k = { k with cyc := (old.cyc + s.issueCycles old [op]) % 2 ^ 64, ready := old.ready } := by
  cases op with
  | bra | call | ret | rep => rfl
  | _ => cases hop

/-- A branch, CALL or REP beside NOP. -/
theorem State.issueSolo_transfer {s : State} {c slot : Nat} {op : CoreOp} (h : s.issues c = true) (hl : (s.core c).sst.ld = 0)
    (hop : jumps op = true) (hret : op ≠ .ret) (hc : s.opCauses c (s.core c) (s.pc c) op = []) :
    s.issueSolo c slot op = (s.setCore c (s.afterJump c op).1).setPc c (s.afterJump c op).2 := by
  rw [State.issueSolo_jump h hl hop hc, State.commit_control (by rintro m rfl; cases hop) (by rintro a b rfl; cases hop)
    (by rintro rfl; cases hop) (by rintro rfl; cases hop) hret, State.spendCycles_jump _ _ _ hop]
  exact State.afterCore_same _ _ _ (by simp [State.setPc])

/-- RET beside NOP. -/
theorem State.issueSolo_ret {s : State} {c slot : Nat} (h : s.issues c = true) (hl : (s.core c).sst.ld = 0) :
    s.issueSolo c slot .ret = (s.freeUsed.setCore c (s.afterJump c .ret).1).setPc c (s.afterJump c .ret).2 := by
  rw [State.issueSolo_jump h hl rfl rfl]
  exact State.afterCore_same _ _ _ (by simp [State.commit, xThenY, State.storeOps, State.loadOps, dupLoad, State.setPc])

/-- A jump leaves the objects alone but the PC. -/
theorem State.sameObjsBut_setPc (s : State) (c : Nat) (k : CoreSt) (a : Nat) :
    s.sameObjsBut ((s.setCore c k).setPc c a) [(.corePc, c)] :=
  State.sameObjsBut.setObj (t := s.setCore c k) (State.sameObjsBut.refl s _) _ (by simp)

@[simp] theorem State.core_setPc (s : State) (c a i : Nat) : (s.setPc c a).core i = s.core i := rfl

@[simp] theorem State.obj_setPc_same (s : State) (c a : Nat) :
    (s.setPc c a).obj .corePc c = ((a % 16777216 / 8 * 8 : Nat) : Int) := by
  simp [State.setPc]

@[simp] theorem State.obj_setPc_of_ne (s : State) (c a : Nat) {o : Obj} (n : Nat) (h : o ≠ .corePc) :
    (s.setPc c a).obj o n = s.obj o n := by
  simp [State.setPc, h]

/-! ### Where each goes -/

section
variable {s : State} {c : Nat}

theorem State.afterJump_bra_not {cond : Nat} {off : Int} (h : condHolds (s.core c).sst cond = false) :
    s.afterJump c (.bra cond off) = ({ s.core c with stall := none, cyc := ((s.core c).cyc + 1) % 2 ^ 64 }, s.pc c + 8) := by
  simp [State.afterJump, State.nextPc, isControl, h, State.applyOp, State.issueCycles, CoreSt.sameMemory]

theorem State.afterJump_bra_taken {cond : Nat} {off : Int} (hl : (s.core c).sst.ld = 0)
    (h : condHolds (s.core c).sst cond = true) :
    s.afterJump c (.bra cond off) = ({ s.core c with stall := none, cyc := ((s.core c).cyc + 3) % 2 ^ 64 },
      ((((s.pc c / 8 : Nat) : Int) + off) % 2097152).toNat * 8) := by
  have hSst : { (s.core c).sst with ld := 0 } = (s.core c).sst := by rw [← hl]
  simp [State.afterJump, State.nextPc, isControl, h, State.applyOp, State.issueCycles, CoreSt.sameMemory, hl, discardLevels,
    bundleIndex, hSst]

theorem State.afterJump_call {target : Nat} :
    s.afterJump c (.call target) = ({ s.core c with
      calls := ((s.pc c + 8) % 16777216) :: (s.core c).calls, stall := none, cyc := ((s.core c).cyc + 3) % 2 ^ 64 }, target) := by
  simp [State.afterJump, State.nextPc, isControl, State.applyOp, State.issueCycles, CoreSt.sameMemory]

theorem State.afterJump_ret {a : Nat} {r : List Nat} (h : (s.core c).calls = a :: r) :
    s.afterJump c .ret = ({ s.core c with calls := r, stall := none, cyc := ((s.core c).cyc + 3) % 2 ^ 64 }, a) := by
  simp [State.afterJump, State.nextPc, isControl, State.applyOp, State.issueCycles, CoreSt.sameMemory, h]

theorem State.afterJump_rep_zero {imm : Bool} {cnt fin : Nat} (h : (if imm then cnt else ((s.core c).rd cnt).toNat) = 0) :
    s.afterJump c (.rep imm cnt fin) = ({ s.core c with stall := none, cyc := ((s.core c).cyc + 1) % 2 ^ 64 },
      (s.pc c / 8 + fin + 1) * 8) := by
  simp [State.afterJump, State.nextPc, isControl, State.applyOp, State.issueCycles, CoreSt.sameMemory, h, bundleIndex]

theorem State.afterJump_rep {imm : Bool} {cnt fin : Nat} (hl : (s.core c).sst.ld = 0)
    (h : (if imm then cnt else ((s.core c).rd cnt).toNat) ≠ 0) :
    s.afterJump c (.rep imm cnt fin) = ({ ((s.core c).wls 0 (s.pc c / 8 + 1) (s.pc c / 8 + fin)).wlc 0
        (if imm then cnt else ((s.core c).rd cnt).toNat) with
      sst := { (s.core c).sst with ld := 1 }, stall := none, cyc := ((s.core c).cyc + 1) % 2 ^ 64 }, s.pc c + 8) := by
  simp [State.afterJump, State.nextPc, isControl, State.applyOp, State.issueCycles, CoreSt.sameMemory, h, bundleIndex, hl,
    CoreSt.wls, CoreSt.wlc]

end

/-! ### The registers of a block repeat (R73) -/

theorem CoreSt.rlc_wlc_same (k : CoreSt) (n : Nat) {v : Nat} (h : v < 2 ^ 32) : (k.wlc n v).rlc n = v := by
  simp [CoreSt.rlc, CoreSt.wlc]
  omega

theorem CoreSt.lsStart_wls_same (k : CoreSt) (n : Nat) {start fin : Nat} (h : start < 2 ^ 14) :
    (k.wls n start fin).lsStart n = start := by
  simp [CoreSt.lsStart, CoreSt.wls, bits]
  omega

theorem CoreSt.lsEnd_wls_same (k : CoreSt) (n : Nat) {start fin : Nat} (h : fin < 2 ^ 14) :
    (k.wls n start fin).lsEnd n = fin := by
  simp [CoreSt.lsEnd, CoreSt.wls, bits]
  omega

/-! ### Bundles without a jump -/

/-- A bundle that spends its cycles, leaves the core's registers as `k` and goes on to the next one. -/
theorem State.ranAlone_next (s : State) (c : Nat) (k : CoreSt) (ops : List CoreOp) :
    ranAlone s ((s.setCore c (s.spendCycles (s.core c) ops { k with stall := none })).setPc c ((s.pc c / 8 + 1) * 8)) c k := by
  obtain ⟨hSpent, hCyc⟩ := s.spendCycles_spec (s.core c) { k with stall := none } ops
  refine ⟨?_, ?_, fun c' hc' => s.core_setCore_ne _ hc', ?_, rfl, s.sameObjsBut_setPc _ _ _⟩
  · simp only [State.core_setPc, State.core_setCore_same]
    rw [hSpent]
  · simpa using hCyc
  · simp
    omega

/-- NOP beside NOP. -/
theorem State.issueWords_nop {s : State} {c : Nat} (h : s.issues c = true) (hl : (s.core c).sst.ld = 0) :
    ranAlone s (s.issueWords c ⟨nopWord, nopWord⟩) c (s.core c) := by
  have hCauses : s.bundleCauses c ⟨nopWord, nopWord⟩ = [] := by
    simp [State.bundleCauses, bundleIllegal, nopWord, shares]
  have hIssue : s.issueWords c ⟨nopWord, nopWord⟩
      = (s.setCore c (s.spendCycles (s.core c) [] { s.core c with stall := none })).setPc c ((s.pc c / 8 + 1) * 8) := by
    rw [State.issueWords, State.atIssue_issues _ h]
    simp only [State.runBundle, State.issueBundle, hCauses, pickCause]
    rw [State.afterCore_same _ _ _ (by simp [nopWord, gatherOf, State.commit, xThenY, State.storeOps, State.loadOps, dupLoad])]
    simp [nopWord, gatherOf, State.commit, xThenY, State.storeOps, State.loadOps, dupLoad, State.nextPc, hl, loopEnd, bundleIndex]
  rw [hIssue]
  exact s.ranAlone_next c (s.core c) []

end Sys2Proof.Machine

section
open Sys2Proof Sys2Proof.Machine

/-- Settles O14: NOP and FENCE commit nothing, and each jump goes where `State.afterJump` says. -/
theorem controlTransfers : Obligations.ControlTransfers := by
  intro s c h hl
  have hFrame : ∀ (k : CoreSt) (a : Nat), (s.setCore c k).setPc c a
      = { s with objs := ((s.setCore c k).setPc c a).objs, cores := ((s.setCore c k).setPc c a).cores } := fun _ _ => rfl
  refine ⟨?_, fun hp => ?_, fun cond off hcond hNot => ?_, fun cond off hcond hTaken => ?_, fun target => ?_, fun a r hcalls => ?_,
    fun imm cnt fin n hfin hend hn => ?_⟩
  · exact ⟨_, rfl, State.issueWords_nop h hl⟩
  · have hFence : exec (.fence c) s = .next (s.issueSolo c 3 .fence) := by
      simp [execFence, (State.issues_spec h).2.1]
    exact ⟨_, hFence, State.issueSolo_regs h hl rfl rfl (.inr hp) (by simp) (by simp) rfl (by simp) hl⟩
  · refine ⟨_, congrArg Host.Outcome.next (State.issueSolo_transfer h hl rfl (by simp) ?_), ?_, hFrame _ _, s.sameObjsBut_setPc _ _ _, ?_⟩
    · simp [State.opCauses]; omega
    · simp [State.afterJump_bra_not hNot]
    · simp [State.afterJump_bra_not hNot]
  · refine ⟨_, congrArg Host.Outcome.next (State.issueSolo_transfer h hl rfl (by simp) ?_), ?_, hFrame _ _, s.sameObjsBut_setPc _ _ _, ?_⟩
    · simp [State.opCauses]; omega
    · simp [State.afterJump_bra_taken hl hTaken]
      omega
    · simp [State.afterJump_bra_taken hl hTaken]
  · refine ⟨_, congrArg Host.Outcome.next (State.issueSolo_transfer h hl rfl (by simp) rfl), ?_, ?_, hFrame _ _, s.sameObjsBut_setPc _ _ _⟩
    · simp [State.afterJump_call]
      omega
    · simp [State.afterJump_call]
  · refine ⟨_, congrArg Host.Outcome.next (State.issueSolo_ret h hl), ?_, ?_, rfl, s.freeUsed.sameObjsBut_setPc _ _ _⟩
    · simp [State.afterJump_ret hcalls]
    · simp [State.afterJump_ret hcalls]
  · have hCount : (if imm then (if imm then cnt.toNat else cnt.toNat % 16)
        else ((s.core c).rd (if imm then cnt.toNat else cnt.toNat % 16)).toNat) = n := by
      rw [hn]; cases imm <;> rfl
    have hLt : n < 2 ^ 32 := by
      rw [hn]
      split
      · have := cnt.isLt
        omega
      · exact BitVec.isLt _
    have hPos : 0 < fin.toNat := Nat.pos_of_ne_zero fun e => hfin (BitVec.eq_of_toNat_eq e)
    refine ⟨_, congrArg Host.Outcome.next (State.issueSolo_transfer h hl rfl (by simp) ?_), fun hNot => ?_, fun hZero => ?_,
      hFrame _ _, s.sameObjsBut_setPc _ _ _⟩
    · simp [State.opCauses, bundleIndex, hl]
      omega
    · rw [State.afterJump_rep hl (by rwa [hCount]), hCount]
      simp only [State.core_setPc, State.core_setCore_same, State.obj_setPc_same]
      exact ⟨trivial, trivial, CoreSt.rlc_wlc_same _ 0 hLt, CoreSt.lsStart_wls_same (s.core c) 0 (by omega),
        CoreSt.lsEnd_wls_same (s.core c) 0 (by omega), rfl⟩
    · rw [State.afterJump_rep_zero (by rwa [hCount])]
      simp
      omega
end
end

section
/-! SUPPORT. Exceptions and interrupts of a Wylen core (R85 to R91): the entry into a handler, once for all causes. -/

namespace Sys2Proof.Machine

/-! ### What only touches cores and objects -/

/-- From one state to the other nothing but objects, the cores' registers and the use of free values changed. -/
structure State.coresOnly (s t : State) : Prop where
  only : ∃ os cs n, t = { s with objs := os, cores := cs, freeCtr := n }

section
variable {s t : State}

theorem State.coresOnly.refl (s : State) : s.coresOnly s := ⟨⟨_, _, _, rfl⟩⟩

theorem State.coresOnly.setObj (h : s.coresOnly t) {o : Obj} {n : Nat} {v : Int} : s.coresOnly (t.setObj o n v) := by
  obtain ⟨⟨_, _, _, rfl⟩⟩ := h
  exact ⟨⟨_, _, _, rfl⟩⟩

theorem State.coresOnly.bump (h : s.coresOnly t) {o : Obj} {n : Nat} : s.coresOnly (t.bump o n) := h.setObj

theorem State.coresOnly.bumpIf (h : s.coresOnly t) {b : Bool} {o : Obj} {n : Nat} : s.coresOnly (t.bumpIf b o n) := by
  cases b
  · exact h
  · exact h.bump

theorem State.coresOnly.setPc (h : s.coresOnly t) {c a : Nat} : s.coresOnly (t.setPc c a) := h.setObj

theorem State.coresOnly.setCore (h : s.coresOnly t) {c : Nat} {k : CoreSt} : s.coresOnly (t.setCore c k) := by
  obtain ⟨⟨_, _, _, rfl⟩⟩ := h
  exact ⟨⟨_, _, _, rfl⟩⟩

theorem State.coresOnly.freeUsed (h : s.coresOnly t) : s.coresOnly t.freeUsed := by
  obtain ⟨⟨_, _, _, rfl⟩⟩ := h
  exact ⟨⟨_, _, _, rfl⟩⟩

theorem State.coresOnly.ite {u : State} {p : Prop} [Decidable p] (h : s.coresOnly t) (h' : s.coresOnly u) :
    s.coresOnly (if p then t else u) := by
  split <;> assumption

theorem State.coresOnly.eq (h : s.coresOnly t) : t = { s with objs := t.objs, cores := t.cores, freeCtr := t.freeCtr } := by
  obtain ⟨⟨_, _, _, rfl⟩⟩ := h
  rfl

end

/-! ### Entry into a handler (R89) -/

/-- A core's registers at the entry into a handler, but for the cycles it took. -/
def CoreSt.entered (k : CoreSt) (code slot epc ea : Nat) : CoreSt :=
  { k with
    esst := BitVec.ofNat 32 k.sst.toWord
    epc := epc
    ecause := ecauseWord code slot
    eaddr := if writesEaddr code then ea else k.eaddr
    sst := { k.sst with exl := true, ie := false }
    stall := none }

section
variable (s : State) (c code slot epc ea : Nat)

theorem State.coresOnly.recordCause {s t : State} (h : s.coresOnly t) : s.coresOnly (t.recordCause c code slot epc ea) :=
  .ite (.setObj (.setObj (.setObj h))) (.setObj (.setObj h))

theorem State.core_recordCause (i : Nat) : (s.recordCause c code slot epc ea).core i = s.core i := by
  unfold State.recordCause
  generalize ecauseWord code slot = w
  split
  · rw [State.core_setObj, State.core_setObj, State.core_setObj]
  · rw [State.core_setObj, State.core_setObj]

/-- The objects that show the last cause are the only ones it sets. -/
theorem State.obj_recordCause {o : Obj} (n : Nat) (h₁ : o ≠ .coreLastEcause) (h₂ : o ≠ .coreLastEpc) (h₃ : o ≠ .coreLastEaddr) :
    (s.recordCause c code slot epc ea).obj o n = s.obj o n := by
  unfold State.recordCause
  dsimp only
  split <;> simp [h₁, h₂, h₃]

theorem State.coresOnly.enterHandler {s t : State} (h : s.coresOnly t) : s.coresOnly (t.enterHandler c code slot epc ea) :=
  .setPc (.setObj (.recordCause c code slot epc ea (.freeUsed (.setCore h))))

theorem State.core_enterHandler : ∃ n, (s.enterHandler c code slot epc ea).core c = { (s.core c).entered code slot epc ea with cyc := n } := by
  refine ⟨((s.core c).cyc + 5 + s.free % 4) % 2 ^ 64, ?_⟩
  simp [State.enterHandler, State.core_recordCause, CoreSt.entered]

theorem State.state_enterHandler : (s.enterHandler c code slot epc ea).obj .coreState c = coreHandler := by
  simp [State.enterHandler]

theorem State.pc_enterHandler :
    (s.enterHandler c code slot epc ea).obj .corePc c = (((((s.core c).vbase + 32 * code) % 16777216 / 8 * 8 : Nat) : Int)) := by
  simp [State.enterHandler]

/-- The entry counts nothing. -/
theorem State.obj_enterHandler {o : Obj} (n : Nat) (h₁ : o ≠ .coreLastEcause) (h₂ : o ≠ .coreLastEpc) (h₃ : o ≠ .coreLastEaddr)
    (h₄ : o ≠ .coreState) (h₅ : o ≠ .corePc) : (s.enterHandler c code slot epc ea).obj o n = s.obj o n := by
  simp [State.enterHandler, h₄, h₅, State.obj_recordCause _ _ _ _ _ _ _ h₁ h₂ h₃]

end

/-! ### An exception taken (R85, R89, R91) -/

/-- Core c took an exception: its registers, its state, its PC and the count, and nothing else but what shows the cause. -/
structure tookException (s t : State) (c code slot epc ea : Nat) : Prop where
  core : t.core c = { (s.core c).entered code slot epc ea with ints := (t.core c).ints, cyc := (t.core c).cyc }
  state : t.obj .coreState c = coreHandler
  pc : t.obj .corePc c = ((((s.core c).vbase + 32 * code) % 16777216 / 8 * 8 : Nat) : Int)
  count : t.obj .coreExceptions c = (s.obj .coreExceptions c + 1) % 4294967296
  only : s.coresOnly t

/-- The scheduler's part when a core enters a handler: at most INT_PREEMPT is withdrawn. -/
theorem State.afterCore_handler {t : State} {b : Int} {c : Nat} (h : t.obj .coreState c = coreHandler) :
    t.afterCore b c = if b = coreRun then t.withdrawPreempt c else t := by
  simp [State.afterCore, h]

theorem tookException.afterCore {s t : State} {c code slot epc ea : Nat} (h : tookException s t c code slot epc ea) (b : Int) :
    tookException s (t.afterCore b c) c code slot epc ea := by
  rw [State.afterCore_handler h.state]
  split
  · refine ⟨?_, h.state, h.pc, h.count, .setCore h.only⟩
    have hCore := h.core
    simp only [State.withdrawPreempt, State.core_setCore_same]
    rw [hCore]
  · exact h

theorem State.core_countRaised (s : State) (c code i : Nat) : (s.countRaised c code).core i = s.core i := by
  unfold State.countRaised
  simp only [State.bumpIf]
  split <;> split <;> split <;> rfl

theorem State.coresOnly.countRaised {s t : State} {c code : Nat} (h : s.coresOnly t) : s.coresOnly (t.countRaised c code) :=
  .bumpIf (.bumpIf (.bumpIf h))

theorem State.obj_bumpIf_of_ne (s : State) (b : Bool) {o p : Obj} (n m : Nat) (h : p ≠ o) :
    (s.bumpIf b o n).obj p m = s.obj p m := by
  cases b
  · rfl
  · exact s.obj_setObj_of_ne n m _ h

theorem State.obj_countRaised (s : State) (c code : Nat) {o : Obj} (n : Nat) (h₁ : o ≠ .coreEccUncorr)
    (h₂ : o ≠ .coreWindowAsync) (h₃ : o ≠ .coreVectorFaults) : (s.countRaised c code).obj o n = s.obj o n := by
  simp [State.countRaised, State.obj_bumpIf_of_ne, h₁, h₂, h₃]

/-- An exception with EXL = 0 is taken (R89). -/
theorem State.raiseExc_took (s : State) {c : Nat} (code slot epc ea : Nat) (h : (s.core c).sst.exl = false) :
    tookException s (s.raiseExc c code slot epc ea) c code slot epc ea := by
  have hCore := s.core_countRaised c code c
  have hRaise : s.raiseExc c code slot epc ea = ((s.countRaised c code).enterHandler c code slot epc ea).bump .coreExceptions c := by
    simp [State.raiseExc, hCore, h]
  obtain ⟨n, hEntered⟩ := (s.countRaised c code).core_enterHandler c code slot epc ea
  rw [hRaise]
  refine ⟨?_, ?_, ?_, ?_, .bump (.enterHandler _ _ _ _ _ (.countRaised (.refl s)))⟩
  · simp only [State.bump, State.core_setObj, hEntered, hCore]
  · simp [State.bump, State.state_enterHandler]
  · simp [State.bump, State.pc_enterHandler, hCore]
  · simp [State.bump, State.obj_enterHandler, State.obj_countRaised]

/-- One operation beside NOP with one cause of an exception, none of memory, raises it (R79, R85, R87). -/
theorem State.issueSolo_raises {s : State} {c slot : Nat} {op : CoreOp} {code sl ea : Nat} (h : s.issues c = true)
    (hl : (s.core c).sst.ld = 0) (hg : isGather op = false) (hc : s.opCauses c (s.core c) (s.pc c) op = [(code, sl, ea)])
    (h9 : code ≠ 9) : s.issueSolo c slot op
      = (s.raiseExc c code sl (if code = 11 ∨ code = 12 then s.followingPc c (s.core c) else s.pc c) ea).afterCore
        (s.obj .coreState c) c := by
  have hLegal : bundleIllegal (s.core c) (s.pc c) (soloBundle slot op) = false := by
    simp [bundleIllegal, soloBundle, oneOp, nopWord, shares, CoreSt.atEnd, hl, hg]
  have hCauses : s.bundleCauses c (soloBundle slot op) = [(code, sl, ea)] := by
    simp [State.bundleCauses, hLegal]
    simp [soloBundle, oneOp, nopWord, hc]
  rw [State.issueSolo, State.atIssue_issues _ h]
  simp [State.runBundle, State.issueBundle, hCauses, pickCause, h9]

/-- The bundle after the present one, outside every repeat level. -/
theorem State.followingPc_eq {s : State} {c : Nat} (hl : (s.core c).sst.ld = 0) :
    s.followingPc c (s.core c) = (s.pc c / 8 + 1) * 8 % 16777216 := by
  simp [State.followingPc, hl, loopEnd, bundleIndex]

/-- One operation beside NOP that raises an exception with EXL = 0 takes it. -/
theorem State.issueSolo_took {s : State} {c slot : Nat} {op : CoreOp} {code sl ea : Nat} (h : s.issues c = true)
    (hl : (s.core c).sst.ld = 0) (hexl : (s.core c).sst.exl = false) (hg : isGather op = false)
    (hc : s.opCauses c (s.core c) (s.pc c) op = [(code, sl, ea)]) (h9 : code ≠ 9) :
    tookException s (s.issueSolo c slot op) c code sl
      (if code = 11 ∨ code = 12 then (s.pc c / 8 + 1) * 8 % 16777216 else s.pc c) ea := by
  rw [State.issueSolo_raises h hl hg hc h9, State.followingPc_eq hl]
  exact (s.raiseExc_took _ _ _ _ hexl).afterCore _

/-! ### RTE and BKPT (R89, R93, R94) -/

/-- RTE beside NOP, before the scheduler's part: SST is restored, issue goes on at EPC, and the core's state follows EXL. -/
def State.returned (s : State) (c : Nat) : State :=
  let k := s.core c
  let sst := k.sst.restore k.esst.toNat
  ((s.freeUsed.setCore c (s.spendCycles k [.rte] { k with sst := sst, stall := none })).setObj .coreState c
    (if sst.exl then coreHandler else coreRun)).setPc c k.epc

theorem State.issueSolo_rte {s : State} {c slot : Nat} (h : s.issues c = true) (hl : (s.core c).sst.ld = 0) :
    s.issueSolo c slot .rte = (s.returned c).afterCore (s.obj .coreState c) c := by
  rw [State.issueSolo_commits h hl rfl rfl (.inl (by simp)) rfl]
  have hCommit : s.commit c [.rte] (State.schedCall c) = s.returned c := by
    simp [State.commit, xThenY, State.storeOps, State.loadOps, dupLoad, State.nextPc, isControl, State.applyOp, State.returned]
    rfl
  rw [hCommit]

/-- BKPT beside NOP with `CORE_BKPT_HALT` set, before the scheduler's part. -/
def State.broke (s : State) (c : Nat) : State :=
  let t := s.setCore c (s.spendCycles (s.core c) [.bkpt] { s.core c with stall := none })
  ((t.setCore c { t.core c with leftState := s.obj .coreState c }).setObj .coreState c coreHaltedDebug).setPc c
    ((s.pc c / 8 + 1) * 8)

theorem State.issueSolo_bkpt {s : State} {c slot : Nat} (h : s.issues c = true) (hl : (s.core c).sst.ld = 0)
    (hb : s.obj .coreBkptHalt c ≠ 0) : s.issueSolo c slot .bkpt = (s.broke c).afterCore (s.obj .coreState c) c := by
  have hNext : s.nextPc c (s.core c) (s.core c) [.bkpt] = (s.core c, (s.pc c / 8 + 1) * 8) := by
    simp [State.nextPc, isControl, hl, loopEnd, bundleIndex]
  have hCommit : s.commit c [.bkpt] (State.schedCall c) = s.broke c := by
    unfold State.commit
    simp only [show xThenY [CoreOp.bkpt] = [.bkpt] from rfl, show dupLoad [CoreOp.bkpt] = none from rfl, List.foldl_cons,
      List.foldl_nil, show s.applyOp c (s.core c) .bkpt (s.core c) = s.core c from rfl, hNext]
    rfl
  rw [State.issueSolo_commits h hl (by simp [State.opCauses, hb]) rfl (.inl (by simp)) rfl, hCommit]

end Sys2Proof.Machine
end

section
/-! SUPPORT. RTE, MVC, TRAP and BKPT (R56, R57, R85 to R96). -/

namespace Sys2Proof.Machine

/-! ### The scheduler's part in a return to RUN (R138) -/

/-- Asking again for a preemption touches the core's pending interrupts alone, of what the core holds. -/
theorem State.core_preemptAgain (s : State) (c : Nat) :
    (s.preemptAgain c).core c = { s.core c with ints := ((s.preemptAgain c).core c).ints } := by
  unfold State.preemptAgain
  split
  · rfl
  · unfold State.raisePreempt
    split
    · rfl
    · simp only [State.bump, State.core_setObj, State.setPre, State.core_setSch, State.raiseInt]
      split
      · rfl
      · simp only [State.core_setCore_same]

theorem State.obj_preemptAgain (s : State) (c : Nat) {o : Obj} (n : Nat) (h : o ≠ .schPreemptions) :
    (s.preemptAgain c).obj o n = s.obj o n := by
  unfold State.preemptAgain
  split
  · rfl
  · unfold State.raisePreempt
    split
    · rfl
    · simp only [State.bump, State.raiseInt, State.setPre]
      split <;> simp [h]

/-! ### The core after RTE and after BKPT -/

section
variable (s : State) (c : Nat)

theorem State.sst_returned : ((s.returned c).core c).sst = (s.core c).sst.restore (s.core c).esst.toNat := by
  simp [State.returned, State.spendCycles]

theorem State.state_returned : (s.returned c).obj .coreState c
    = if ((s.core c).sst.restore (s.core c).esst.toNat).exl then coreHandler else coreRun := by
  simp [State.returned]

theorem State.pc_returned : (s.returned c).obj .corePc c = (((s.core c).epc % 16777216 / 8 * 8 : Nat) : Int) := by
  simp [State.returned]

theorem State.coresOnly_returned : s.coresOnly (s.returned c) :=
  .setPc (.setObj (.setCore (.freeUsed (.refl s))))

theorem State.state_broke : (s.broke c).obj .coreState c = coreHaltedDebug := by
  simp [State.broke]

theorem State.pc_broke : (s.broke c).obj .corePc c = (((s.pc c / 8 + 1) * 8 % 16777216 : Nat) : Int) := by
  simp [State.broke]
  omega

theorem State.core_broke : (s.broke c).core c
    = { s.spendCycles (s.core c) [.bkpt] { s.core c with stall := none } with leftState := s.obj .coreState c } := by
  simp [State.broke]

end

/-- Only control register 0 holds LD (R56). -/
theorem CoreSt.ld_ctlWrite {k k' : CoreSt} {n : Nat} {w : Word} (hn : n ≠ 0) (h : k.ctlWrite n w = some k')
    (hl : k.sst.ld = 0) : k'.sst.ld = 0 := by
  unfold CoreSt.ctlWrite at h
  rw [if_neg hn] at h
  repeat' split at h
  all_goals cases h
  all_goals exact hl

/-- What an exception with code, slot and EPC known leaves in the core, when its code writes no EADDR (R89). -/
theorem tookException.core_eq {s t : State} {c code slot epc ea w : Nat} (h : tookException s t c code slot epc ea)
    (hEaddr : writesEaddr code = false) (hCause : ecauseWord code slot = w) :
    t.core c = { s.core c with
      esst := BitVec.ofNat 32 (s.core c).sst.toWord, epc := epc, ecause := w, sst := { (s.core c).sst with exl := true, ie := false }, stall := none, ints := (t.core c).ints, cyc := (t.core c).cyc } := by
  have hCore := h.core
  rw [CoreSt.entered, hEaddr, hCause] at hCore
  exact hCore

end Sys2Proof.Machine

section
open Sys2Proof Sys2Proof.Machine

/-- Settles O15: RTE by what it restores, MVC by what it reads or writes, a bad MVC by the exception it takes. -/
theorem returnAndControlRegisters : Obligations.ReturnAndControlRegisters := by
  intro s c h hl
  have hRte : exec (.rte c) s = .next ((s.returned c).afterCore (s.obj .coreState c) c) :=
    congrArg Host.Outcome.next (State.issueSolo_rte h hl)
  refine ⟨fun hState hExl => ?_, fun hState hExl => ?_, fun num n v hRead => ?_, fun num n k hNum hWrite => ?_,
    fun num n hWrite hExl => ?_⟩
  · have hNow : (s.returned c).obj .coreState c = coreHandler := by simp [State.state_returned, Sst.restore, hExl]
    rw [State.afterCore_same _ _ _ (hNow.trans hState.symm)] at hRte
    exact ⟨_, hRte, s.sst_returned c, hNow, s.pc_returned c, (s.coresOnly_returned c).eq⟩
  · have hNow : (s.returned c).obj .coreState c = coreRun := by simp [State.state_returned, Sst.restore, hExl]
    have hAsked : (s.returned c).afterCore (s.obj .coreState c) c = (s.returned c).preemptAgain c := by
      simp [State.afterCore, hNow, hState]
    rw [hAsked] at hRte
    refine ⟨_, hRte, ?_, ?_, ?_⟩
    · rw [State.core_preemptAgain]
      exact s.sst_returned c
    · rw [State.obj_preemptAgain _ _ _ (by decide), hNow]
    · rw [State.obj_preemptAgain _ _ _ (by decide), s.pc_returned]
  · have hApply : s.applyOp c (s.core c) (.mvc true num.toNat n) (s.core c) = (s.core c).wd n (BitVec.ofNat 32 v) := by
      simp [State.applyOp, hRead]
    have hRan := State.issueSolo_regsOnly (slot := 3) (op := .mvc true num.toNat n) h hl rfl
      (by simp [State.opCauses, hRead]) (by rw [hApply]; exact hl)
    rw [hApply] at hRan
    exact ⟨_, rfl, hRan⟩
  · have hApply : s.applyOp c (s.core c) (.mvc false num.toNat n) (s.core c) = k := by simp [State.applyOp, hWrite]
    have hRan := State.issueSolo_regsOnly (slot := 3) (op := .mvc false num.toNat n) h hl rfl
      (by simp [State.opCauses, hWrite]) (by rw [hApply]; exact CoreSt.ld_ctlWrite hNum hWrite hl)
    rw [hApply] at hRan
    exact ⟨_, rfl, hRan⟩
  · have hTook := State.issueSolo_took (slot := 3) (op := .mvc false num.toNat n) h hl hExl rfl
      (by simp [State.opCauses, hWrite]; exact ⟨rfl, rfl, rfl⟩) (by decide)
    have hCore := hTook.core_eq (w := 3 * 2 ^ 28 + 3) rfl rfl
    refine ⟨_, rfl, ?_, ?_⟩
    · rw [hCore]
    · rw [hCore]; rfl

/-- Settles O16: TRAP and BKPT raise their exception; BKPT halts instead where `CORE_BKPT_HALT` says so. -/
theorem trapAndBreakpoint : Obligations.TrapAndBreakpoint := by
  intro s c h hl hExl hState
  refine ⟨?_, fun hHalt => ?_, fun hHalt => ?_⟩
  · have hTook := State.issueSolo_took (slot := 3) (op := .trap) h hl hExl rfl rfl (by decide)
    exact ⟨_, rfl, hTook.core_eq rfl rfl, hTook.state, hTook.pc, hTook.count⟩
  · have hTook := State.issueSolo_took (slot := 3) (op := .bkpt) (code := 12) (sl := 3) (ea := 0) h hl hExl rfl
      (by simp [State.opCauses, hHalt]) (by decide)
    have hCore := hTook.core_eq (w := 3 * 2 ^ 28 + 12) rfl rfl
    exact ⟨_, rfl, by rw [hCore], by rw [hCore]; rfl, hTook.state, hTook.pc⟩
  · have hAfter : (s.broke c).afterCore (s.obj .coreState c) c = (s.broke c).withdrawPreempt c := by
      simp [State.afterCore, State.state_broke, hState]
    have hBkpt : exec (.bkpt c) s = .next ((s.broke c).withdrawPreempt c) :=
      congrArg Host.Outcome.next ((State.issueSolo_bkpt h hl hHalt).trans hAfter)
    have hCore : ((s.broke c).withdrawPreempt c).core c
        = { (s.broke c).core c with ints := (((s.broke c).withdrawPreempt c).core c).ints } := by
      simp only [State.withdrawPreempt, State.core_setCore_same]
    rw [s.core_broke] at hCore
    refine ⟨_, hBkpt, s.state_broke c, ?_, s.pc_broke c, ?_, ?_, ?_⟩
    · rw [hCore]; exact hState
    · rw [hCore]; rfl
    · rw [hCore]; rfl
    · rw [hCore]; rfl
end
end

section
/-! SUPPORT. A double fault (R91): what the fault of its unit (R532, R534) leaves of a core. -/

namespace Sys2Proof.Machine

/-! ### Tables mapped value by value -/

theorem tabFind_mapValue {α : Type} (f : α → α) (m : Tab α) (k : Nat) :
    tabFind (m.map (fun p => (p.1, f p.2))) k = (tabFind m k).map f := by
  induction m with
  | nil => rfl
  | cons p r ih =>
    simp only [List.map_cons, tabFind]
    split
    · rfl
    · exact ih

/-- What a core keeps when it loses its requests: all but whether its posted stores failed and its load was lost. -/
theorem State.core_loseRequests (s : State) (u c : Nat) : (s.loseRequests u).core c
    = { s.core c with posted := ((s.loseRequests u).core c).posted, lost := ((s.loseRequests u).core c).lost } := by
  simp only [State.core, State.loseRequests, tabGet]
  rw [tabFind_mapValue (fun x : CoreSt => { x with
    posted := x.posted.map (fun q => (q.1, q.2 || decide (s.unitOfAddr q.1 = some u)))
    lost := if x.stall.isSome then u :: x.lost else x.lost })]
  cases tabFind s.cores c <;> rfl

/-! ### The fault of a unit that runs -/

@[simp] theorem State.obj_assertModuleFault (s : State) (o : Obj) (n : Nat) : s.assertModuleFault.obj o n = s.obj o n := rfl
@[simp] theorem State.unit_assertModuleFault (s : State) (u : Nat) : s.assertModuleFault.unit u = s.unit u := rfl
@[simp] theorem State.core_assertModuleFault (s : State) (c : Nat) : s.assertModuleFault.core c = s.core c := rfl

/-- A fault of unit u is taken: it is counted, the unit's record names it, and of the objects only the manager's and the arbiters'
change; a core keeps all but its outstanding requests. -/
structure faultTaken (s t : State) (u code : Nat) : Prop where
  lastCode : (t.unit u).lastCode = code
  count : t.obj .relFaults 0 = (s.obj .relFaults 0 + 1) % 4294967296
  objs : ∀ o n, o ≠ .relFaults → o ≠ .relRetired → o ≠ .relRestarts → o ≠ .arbFreeze → o ≠ .arbState → t.obj o n = s.obj o n
  cores : ∀ c, t.core c = { s.core c with posted := (t.core c).posted, lost := (t.core c).lost }

/-- A fault of a unit neither asleep nor retired restarts or retires it (R534). -/
theorem State.unitFault_taken {s : State} {u : Nat} (hSleep : (s.unit u).st ≠ unitSleeping)
    (hRetired : (s.unit u).st ≠ unitRetired) (code : Nat) : faultTaken s (s.unitFault u code) u code := by
  unfold State.unitFault
  rw [if_neg (not_or.mpr ⟨hSleep, hRetired⟩)]
  dsimp only
  split
  · refine ⟨?_, ?_, fun o n h₁ h₂ _ _ _ => ?_, fun c => ?_⟩
    · split <;> simp
    · split <;> simp
    · split <;> simp [h₁, h₂]
    · split <;> rfl
  · generalize hRestarting : State.bump (State.setUnit (s.bump .relFaults 0) u _) .relRestarts 0 = r
    have hFreeze := State.arbitersOnly.freezeUnit r true u
    have hCore : (r.freezeUnit true u).core = s.core := by
      obtain ⟨_, _, hFrame⟩ := hFreeze.frame
      rw [hFrame, ← hRestarting]
      rfl
    refine ⟨?_, ?_, fun o n h₁ _ h₃ h₄ h₅ => ?_, fun c => ?_⟩
    · rw [State.unit_loseRequests, State.unit_freezeUnit, ← hRestarting]
      simp
    · rw [State.obj_loseRequests, hFreeze.objs _ _ (by decide) (by decide), ← hRestarting]
      simp
    · rw [State.obj_loseRequests, hFreeze.objs _ _ h₄ h₅, ← hRestarting]
      simp [h₁, h₃]
    · have hLost := (r.freezeUnit true u).core_loseRequests u c
      rwa [hCore] at hLost

/-! ### The double fault -/

/-- A double fault before its unit's fault: the core stops and counts it. -/
def State.halted (s : State) (c code slot epc ea : Nat) : State :=
  (((s.setCore c { s.core c with stall := none }).recordCause c code slot epc ea).setObj .coreState c coreHaltedFault).bump
    .coreDoubleFaults c

theorem State.doubleFault_eq (s : State) (c code slot epc ea : Nat) :
    s.doubleFault c code slot epc ea = (s.halted c code slot epc ea).unitFault (unitCore c) 1 := by
  unfold State.doubleFault State.halted
  with_reducible rfl

theorem State.raiseExc_double {s : State} {c : Nat} (code slot epc ea : Nat) (h : (s.core c).sst.exl = true) :
    s.raiseExc c code slot epc ea = (s.countRaised c code).doubleFault c code slot epc ea := by
  have hExl : ((s.countRaised c code).core c).sst.exl = true := by rwa [State.core_countRaised]
  unfold State.raiseExc
  generalize s.countRaised c code = t at *
  exact if_pos hExl

section
variable (s : State) (c code slot epc ea : Nat)

theorem State.unit_recordCause (u : Nat) : (s.recordCause c code slot epc ea).unit u = s.unit u := by
  unfold State.recordCause
  generalize ecauseWord code slot = w
  split
  · rw [State.unit_setObj, State.unit_setObj, State.unit_setObj]
  · rw [State.unit_setObj, State.unit_setObj]

theorem State.unit_countRaised (u : Nat) : (s.countRaised c code).unit u = s.unit u := by
  unfold State.countRaised
  simp only [State.bumpIf]
  split <;> split <;> split <;> rfl

theorem State.unit_halted (u : Nat) : (s.halted c code slot epc ea).unit u = s.unit u := by
  simp [State.halted, State.unit_recordCause]

theorem State.core_halted : (s.halted c code slot epc ea).core c = { s.core c with stall := none } := by
  simp only [State.halted, State.bump, State.core_setObj, State.core_recordCause, State.core_setCore_same]

theorem State.state_halted : (s.halted c code slot epc ea).obj .coreState c = coreHaltedFault := by
  simp [State.halted]

theorem State.count_halted : (s.halted c code slot epc ea).obj .coreDoubleFaults c = (s.obj .coreDoubleFaults c + 1) % 4294967296 := by
  simp [State.halted, State.obj_recordCause]

theorem State.obj_halted {o : Obj} (n : Nat) (h₁ : o ≠ .coreLastEcause) (h₂ : o ≠ .coreLastEpc) (h₃ : o ≠ .coreLastEaddr)
    (h₄ : o ≠ .coreState) (h₅ : o ≠ .coreDoubleFaults) : (s.halted c code slot epc ea).obj o n = s.obj o n := by
  simp [State.halted, State.obj_recordCause, h₁, h₂, h₃, h₄, h₅]

end

end Sys2Proof.Machine

section
open Sys2Proof Sys2Proof.Machine

/-- Settles O17: the core stops and counts, and its unit's fault leaves the rest of what the statement names. -/
theorem doubleFaultHaltsCore : Obligations.DoubleFaultHaltsCore := by
  intro s c code slot epc ea hExl hSleep hRetired
  have hFault : faultTaken ((s.countRaised c code).halted c code slot epc ea) (s.raiseExc c code slot epc ea) (unitCore c) 1 := by
    rw [State.raiseExc_double code slot epc ea hExl, State.doubleFault_eq]
    exact State.unitFault_taken (by rwa [State.unit_halted, State.unit_countRaised])
      (by rwa [State.unit_halted, State.unit_countRaised]) 1
  have hCore := hFault.cores c
  rw [State.core_halted, State.core_countRaised] at hCore
  refine ⟨?_, ?_, hFault.lastCode, ?_, ?_, by rw [hCore], by rw [hCore], by rw [hCore]⟩
  · rw [hFault.objs _ _ (by decide) (by decide) (by decide) (by decide) (by decide), State.state_halted]
  · rw [hFault.objs _ _ (by decide) (by decide) (by decide) (by decide) (by decide), State.count_halted,
      State.obj_countRaised _ _ _ _ (by decide) (by decide) (by decide)]
  · rw [hFault.count, State.obj_halted _ _ _ _ _ _ _ (by decide) (by decide) (by decide) (by decide) (by decide),
      State.obj_countRaised _ _ _ _ (by decide) (by decide) (by decide)]
  · unfold State.pc State.objN
    rw [hFault.objs _ _ (by decide) (by decide) (by decide) (by decide) (by decide),
      State.obj_halted _ _ _ _ _ _ _ (by decide) (by decide) (by decide) (by decide) (by decide),
      State.obj_countRaised _ _ _ _ (by decide) (by decide) (by decide)]
end
end

section
/-! SUPPORT. The debug writes of a core, CORE_HALT and CORE_RESUME (R94). -/

namespace Sys2Proof.Machine

/-! ### What an accepted write of a core's debug object leaves alone -/

/-- An accepted write whose effect is on objects and cores: what it changes, with the Lodge's part. -/
theorem State.acceptAt_cores {s t : State} {a : Accessor} {l : List (Obj × Nat)} (addr : Nat) (v : Int)
    (h : ∃ os cs, t = { s with objs := os, cores := cs }) (hObjs : (s.countAccess a).sameObjsBut t l) :
    t.acceptAt a addr v = { s with objs := (t.acceptAt a addr v).objs, cores := t.cores, unacked := (t.acceptAt a addr v).unacked }
      ∧ s.sameObjsBut (t.acceptAt a addr v) (l ++ lodgeObjs a) := by
  have hAll := (((State.sameObjsBut.refl s (l ++ lodgeObjs a)).bump (o := .lodgeAccesses) (n := classNo a.cls)
    (by simp [lodgeObjs])).trans (hObjs.mono (List.subset_append_left _ _))).acceptAt (a := a) addr v (by simp [lodgeObjs])
  refine ⟨?_, hAll⟩
  obtain ⟨os, cs, rfl⟩ := h
  rw [State.acceptAt_frame]

/-! ### A halt request -/

/-- A core that a halt request stops at a boundary (R94). -/
def CoreSt.stopped (k : CoreSt) (left : Int) : CoreSt := { k with leftState := left, stall := none, haltReq := false }

/-- Core c holds a halt request. -/
def State.haltAsked (s : State) (c : Nat) : State := s.setCore c { s.core c with haltReq := true }

theorem State.atBoundary_haltAsked (s : State) (c : Nat) : (s.haltAsked c).atBoundary c = s.atBoundary c := by
  unfold State.atBoundary State.haltAsked
  rw [State.core_setCore_same]
  rfl

theorem State.atBoundary_countAccess (s : State) (a : Accessor) (c : Nat) : (s.countAccess a).atBoundary c = s.atBoundary c := by
  unfold State.atBoundary
  rw [State.obj_countAccess_of_ne _ _ _ (by decide)]
  rfl

/-- Off a boundary a request is held. -/
theorem State.takeHalt_held {s : State} {c : Nat} (h : s.atBoundary c = false) : (s.haltAsked c).takeHalt c = s.haltAsked c := by
  unfold State.takeHalt
  rw [State.atBoundary_haltAsked, h]
  simp

/-- A core in HANDLER at a boundary halts. -/
theorem State.takeHalt_handler {s : State} {c : Nat} (h : s.atBoundary c = true) (hs : s.obj .coreState c = coreHandler) :
    (s.haltAsked c).takeHalt c
      = ((s.haltAsked c).setCore c ((s.core c).stopped coreHandler)).setObj .coreState c coreHaltedDebug := by
  unfold State.takeHalt
  rw [State.atBoundary_haltAsked, h]
  simp [State.haltAsked, CoreSt.stopped, hs]

theorem execCoreHalt_ok {s : State} {a : Accessor} {c : Fin 192} {v : Nat} (h : s.writable a .coreHalt c v)
    (hd : s.obj .coreState c ≠ coreHaltedDebug) (hf : s.obj .coreState c ≠ coreHaltedFault) :
    exec (.coreHalt a c v) s = .next ((((s.countAccess a).haltAsked c).takeHalt c).acceptAt a (objAddr .coreHalt c) v) := by
  simp [execCoreHalt, State.dictWrite_ok _ h, hd, hf, State.haltAsked]

/-- States and waits in which a core is at no bundle boundary. -/
theorem State.atBoundary_off {s : State} {c : Nat}
    (h : s.obj .coreState c = coreOff ∨ s.obj .coreState c = coreRejoining ∨ s.obj .coreState c = coreIdle
      ∨ (s.core c).callWait = true ∧ (s.obj .coreState c = coreRun ∨ s.obj .coreState c = coreHandler)) :
    s.atBoundary c = false ∧ s.obj .coreState c ≠ coreHaltedDebug ∧ s.obj .coreState c ≠ coreHaltedFault := by
  rcases h with h | h | h | ⟨hWait, h | h⟩
  · simp [State.atBoundary, h]
  · simp [State.atBoundary, h]
  · simp [State.atBoundary, h]
  · simp [State.atBoundary, h, hWait]
  · simp [State.atBoundary, h, hWait]

end Sys2Proof.Machine

section
open Sys2Proof Sys2Proof.Machine

/-- Settles O21: a halt is taken or held by whether the core is at a boundary, a resume accepted or refused by its state. -/
theorem haltAndResume : Obligations.HaltAndResume := by
  intro s a c v
  have hState : ∀ r, s.obj .coreState c = r → (s.countAccess a).obj .coreState c = r :=
    fun r h => (State.obj_countAccess_of_ne _ _ _ (by decide)).trans h
  refine ⟨fun h hHandler hBoundary => ?_, fun h hOff => ?_, fun h hDebug hLeft => ?_, fun h hNot => ?_⟩
  · have hExec := execCoreHalt_ok h (by simp [hHandler]) (by simp [hHandler])
    rw [State.takeHalt_handler ((s.atBoundary_countAccess a c).trans hBoundary) (hState _ hHandler)] at hExec
    obtain ⟨hFrame, hObjs⟩ := State.acceptAt_cores (s := s) (a := a) (l := [(.coreState, c.val)]) (objAddr .coreHalt c) v
      ⟨_, _, rfl⟩ (State.sameObjsBut.setObj (t := ((s.countAccess a).haltAsked c).setCore c (((s.countAccess a).core c).stopped
        coreHandler)) (.refl _ _) (o := .coreState) (n := c) coreHaltedDebug (by simp))
    refine ⟨_, hExec, ?_, ?_, ?_, hObjs⟩
    · rw [State.obj_acceptAt _ _ _ _ _ (by decide), State.obj_setObj_same]
    · rw [State.core_acceptAt, State.core_setObj, State.core_setCore_same]
      rfl
    · rw [State.cores_acceptAt]
      exact hFrame
  · obtain ⟨hBoundary, hDebug, hFault⟩ := State.atBoundary_off hOff
    have hExec := execCoreHalt_ok h hDebug hFault
    rw [State.takeHalt_held ((s.atBoundary_countAccess a c).trans hBoundary)] at hExec
    obtain ⟨hFrame, hObjs⟩ := State.acceptAt_cores (s := s) (a := a) (l := []) (objAddr .coreHalt c) v
      ⟨_, _, rfl⟩ (State.sameObjsBut.refl ((s.countAccess a).haltAsked c) [])
    refine ⟨_, hExec, ?_, ?_, hObjs⟩
    · rw [State.core_acceptAt, State.haltAsked, State.core_setCore_same]
      rfl
    · rw [State.cores_acceptAt]
      exact hFrame
  · have hExec : exec (.coreResume a c v) s
        = .next (((s.countAccess a).setObj .coreState c coreHandler).acceptAt a (objAddr .coreResume c) v) := by
      have hChk : Status.unless (decide (s.obj .coreState c = coreHaltedDebug)) .state = .ok := by simp [hDebug, Status.unless]
      have hLeft' : ((s.countAccess a).core c).leftState = coreHandler := hLeft
      simp [execCoreResume, State.dictWrite_ok _ h hChk, hLeft', State.afterCore]
    obtain ⟨hFrame, hObjs⟩ := State.acceptAt_cores (s := s) (a := a) (l := [(.coreState, c.val)]) (objAddr .coreResume c) v
      ⟨_, _, rfl⟩ (State.sameObjsBut.setObj (.refl (s.countAccess a) _) (o := .coreState) (n := c) coreHandler (by simp))
    refine ⟨_, hExec, ?_, hFrame, hObjs⟩
    rw [State.obj_acceptAt _ _ _ _ _ (by decide), State.obj_setObj_same]
  · have hChk : Status.unless (decide (s.obj .coreState c = coreHaltedDebug)) .state = .state := by simp [hNot, Status.unless]
    have hExec : exec (.coreResume a c v) s = .next ((s.countAccess a).refuseAt a .state (objAddr .coreResume c)) := by
      simp only [exec_coreResume, execCoreResume]
      rw [State.dictWrite_refused _ h (by rw [hChk]; decide), hChk]
    refine ⟨_, hExec, ?_, rfl, ?_⟩
    · simp [State.refuseAt]
    · exact ((State.sameObjsBut.refl s _).bump (by simp [lodgeObjs])).refuseAt _ _ (by simp [lodgeObjs]) (by simp)
end
end

section
/-! SUPPORT. A scheduler call beside NOP, and a trace whose ring lies in another hall's TCBs (R127, R154). -/

namespace Sys2Proof.Machine

/-! ### A scheduler call -/

/-- The state in which the scheduler performs a call: the call's bundle is over (R131). -/
def State.callMade (s : State) (c sub o : Nat) : State :=
  (s.setCore c (s.spendCycles (s.core c) [.sched sub o] { s.core c with stall := none })).setPc c ((s.pc c / 8 + 1) * 8)

theorem State.issueSolo_sched {s : State} {c sub o : Nat} (h : s.issues c = true) (hl : (s.core c).sst.ld = 0)
    (hLegal : schedIllegal sub o = false) : s.issueSolo c 3 (.sched sub o)
      = (State.schedCall c (s.core c) sub o (s.callMade c sub o)).afterCore (s.obj .coreState c) c := by
  have hNext : s.nextPc c (s.core c) (s.core c) [.sched sub o] = (s.core c, (s.pc c / 8 + 1) * 8) := by
    simp [State.nextPc, isControl, hl, loopEnd, bundleIndex]
  have hCommit : s.commit c [.sched sub o] (State.schedCall c) = State.schedCall c (s.core c) sub o (s.callMade c sub o) := by
    unfold State.commit
    simp only [show xThenY [CoreOp.sched sub o] = [.sched sub o] from rfl, show dupLoad [CoreOp.sched sub o] = none from rfl,
      List.foldl_cons, List.foldl_nil, show s.applyOp c (s.core c) (.sched sub o) (s.core c) = s.core c from rfl, hNext]
    rfl
  rw [State.issueSolo_commits h hl (by simp [State.opCauses, hLegal]) rfl (.inl (by simp)) rfl, hCommit]

/-! ### A record dropped -/

/-- No trace writes into the TCBs of another hall (R127). -/
theorem State.traceWritable_tcb {s : State} {h a : Nat} (hTcb : inTcbRegion a 16 = true) (hOther : terraceHall a ≠ some h) :
    s.traceWritable h a = false := by
  simp [State.traceWritable, State.ownedRegion, hTcb, hOther]

/-- A record whose place the trace may not write is dropped and counted (R154). -/
theorem State.schTraceRec_dropped {s : State} {h kind core : Nat} {g : Option Nat} {arg : Nat}
    (hSize : s.objN .schTraceSize h ≠ 0) (hMask : bitAt (s.objN .schTraceMask h) kind = true)
    (hPlace : s.traceWritable h (s.objN .schTraceBase h + s.objN .schTraceWptr h) = false) :
    s.schTraceRec h kind core g arg = s.bump .schTraceDrops h := by
  simp [State.schTraceRec, hSize, hMask, hPlace]

/-- SCH_TRACE where the record is dropped leaves the write pointer. -/
theorem execSchTrace_dropped {s : State} {c : Fin 192} {d a : Fin 16} {g : Nat} (h : s.issues c = true)
    (hl : (s.core c).sst.ld = 0) (hThread : s.thread c = some g) (hSize : s.objN .schTraceSize (c / 12) ≠ 0)
    (hMask : bitAt (s.objN .schTraceMask (c / 12)) 0x0E = true)
    (hTcb : inTcbRegion (s.objN .schTraceBase (c / 12) + s.objN .schTraceWptr (c / 12)) 16 = true)
    (hOther : terraceHall (s.objN .schTraceBase (c / 12) + s.objN .schTraceWptr (c / 12)) ≠ some (c / 12)) :
    ∃ t, exec (.schTrace c d a) s = .next t ∧ t.obj .schTraceWptr (c / 12) = s.obj .schTraceWptr (c / 12) := by
  have hKept : ∀ {o : Obj} (n : Nat), o ≠ .corePc → (s.callMade c 0x1A (16 * d + a)).objN o n = s.objN o n :=
    fun n ho => congrArg Int.toNat (State.obj_setPc_of_ne _ _ _ n ho)
  have hRec : ∀ arg, (s.callMade c 0x1A (16 * d + a)).schTraceRec (c / 12) 0x0E (c % 12) (some g) arg
      = (s.callMade c 0x1A (16 * d + a)).bump .schTraceDrops (c / 12) := fun arg =>
    State.schTraceRec_dropped (by rwa [hKept _ (by decide)]) (by rwa [hKept _ (by decide)])
      (State.traceWritable_tcb (by rwa [hKept _ (by decide), hKept _ (by decide)])
        (by rwa [hKept _ (by decide), hKept _ (by decide)]))
  have hCall : State.schedCall c (s.core c) 0x1A (16 * d + a) (s.callMade c 0x1A (16 * d + a))
      = ((s.callMade c 0x1A (16 * d + a)).bump .schTraceDrops (c / 12)).giveStatus c ((16 * d + a) / 16) 0 := by
    have hRuns : (s.callMade c 0x1A (16 * d + a)).thread c = some g := hThread
    simp [State.schedCall, hRuns, hRec, exlCall]
  have hSolo := State.issueSolo_sched (o := 16 * d + a) h hl (show schedIllegal 0x1A (16 * d + a) = false by rfl)
  rw [hCall, State.afterCore_same _ _ _ (by simp [State.giveStatus, State.callMade])] at hSolo
  exact ⟨_, congrArg Host.Outcome.next hSolo, by simp [State.giveStatus, State.callMade]⟩

/-! ### The counterexample -/

/-- A device whose core 0 runs thread 0 of hall 0, and whose hall 0 traces into the TCBs of hall 1. -/
def tracesAbroad : State :=
  ((((State.reset.setObj .coreState 0 coreRun).setObj .schTraceSize 0 32).setObj .schTraceBase 0 0x000101000000).setObj
    .schTraceMask 0 0x4000).setThread 0 (some 0)

end Sys2Proof.Machine

section
open Sys2Proof Sys2Proof.Machine

/-- Refutes O30: its clause on SCH_TRACE asks only that a memory is reachable at the write pointer, but a record that would fall into
the TCBs of another hall, which only that hall's scheduler writes (R127), is dropped: the write pointer stays at 0, not 16. -/
theorem not_schedulerSignalsAndTicks : ¬ Obligations.SchedulerSignalsAndTicks := by
  intro hAll
  have hIssues : tracesAbroad.issues 0 = true := by decide
  obtain ⟨-, -, hTrace⟩ := hAll.1 tracesAbroad 0 0 0 0 hIssues (by decide) (by decide)
  obtain ⟨t, hExec, -, -, hMoved, -⟩ := hTrace 32 0x000101000000 0 (by decide) (by decide) (by decide) (by decide) (by decide)
    (by decide) (by decide)
  obtain ⟨u, hExec', hStays⟩ := execSchTrace_dropped (c := 0) (d := 0) (a := 0) (g := 0) hIssues (by decide) (by decide)
    (by decide) (by decide) (by decide) (by decide)
  obtain rfl : t = u := Host.Outcome.next.inj (hExec.symm.trans hExec')
  exact absurd (hMoved.symm.trans hStays) (by decide)
end
end

section
/-! SUPPORT. Accumulator lanes and reductions of WVX (R105 to R112): what a vector operation leaves in each lane. -/

namespace Sys2Proof.Machine

/-! ### Lanes -/

section
variable (k old : CoreSt)

theorem CoreSt.lane_wlane_same (n j : Nat) {x : Int} (h : -(2 ^ 39) ≤ x ∧ x < 2 ^ 39) : (k.wlane n j x).lane n j = x := by
  simp only [CoreSt.lane, CoreSt.wlane, tabGet_tabSet_same, BitVec.toInt_ofInt]
  exact Int.bmod_eq_of_le (by norm_num at h ⊢; omega) (by norm_num at h ⊢; omega)

/-- Two lanes with different numbers are different places. -/
theorem CoreSt.lane_wlane_ne {n m i j : Nat} (x : Int) (hi : i < 8) (hj : j < 8) (h : m ≠ n ∨ j ≠ i) :
    (k.wlane n i x).lane m j = k.lane m j := by
  simp only [CoreSt.lane, CoreSt.wlane]
  rw [tabGet_tabSet_ne _ _ _ _ (by omega)]

/-- A lane written under R68. -/
theorem CoreSt.lane_laneStore_same (n j : Nat) (q : Int) :
    (k.laneStore old n j q).lane n j = (accResult old.sst.sat q).1 :=
  k.lane_wlane_same n j (accResult_range _ q)

theorem CoreSt.lane_laneStore_ne {n m i j : Nat} (q : Int) (hi : i < 8) (hj : j < 8) (h : m ≠ n ∨ j ≠ i) :
    (k.laneStore old n i q).lane m j = k.lane m j :=
  k.lane_wlane_ne _ hi hj h

theorem CoreSt.vav_laneStore (n j : Nat) (q : Int) :
    (k.laneStore old n j q).vstate.vav = (k.vstate.vav || !fits 40 q) := by
  simp only [CoreSt.laneStore, CoreSt.vsticky, CoreSt.wlane, accResult]
  split
  · simp [*]
  · split <;> simp [*]

/-- An exact result in range is stored with no sticky bit raised. -/
theorem CoreSt.laneStore_of_fits (n j : Nat) {q : Int} (h : fits 40 q = true) : k.laneStore old n j q = k.wlane n j q := by
  simp [CoreSt.laneStore, accResult_of_fits _ h, CoreSt.vsticky, CoreSt.wlane]

end

/-- From one core to the other only lanes and the sticky bits of VSTATE changed. -/
def CoreSt.lanesOnly (k k' : CoreSt) : Prop :=
  k' = { k with va := k'.va, vstate := { k.vstate with vav := k'.vstate.vav, vsv := k'.vstate.vsv } }

theorem CoreSt.lanesOnly.refl (k : CoreSt) : k.lanesOnly k := rfl

theorem CoreSt.lanesOnly.laneStore {k k' : CoreSt} (h : k.lanesOnly k') (old : CoreSt) (n j : Nat) (q : Int) :
    k.lanesOnly (k'.laneStore old n j q) := by
  unfold CoreSt.lanesOnly at *
  rw [h]
  rfl

/-! ### Clearing lanes (R108, R112) -/

theorem CoreSt.clearLanes_frame (k : CoreSt) (n lo i : Nat) : k.clearLanes n lo i = { k with va := (k.clearLanes n lo i).va } := by
  induction i generalizing k with
  | zero => rfl
  | succ i ih =>
    unfold CoreSt.clearLanes
    split
    · rw [ih]
      rfl
    · rfl

/-- The lanes cleared are those of the accumulator from `lo` up to `i`. -/
theorem CoreSt.lane_clearLanes (k : CoreSt) (n lo : Nat) {i m j : Nat} (hi : i ≤ 8) (hj : j < 8) :
    (k.clearLanes n lo i).lane m j = if m = n ∧ lo ≤ j ∧ j < i then 0 else k.lane m j := by
  induction i generalizing k with
  | zero => simp [CoreSt.clearLanes]
  | succ i ih =>
    unfold CoreSt.clearLanes
    split
    next hlo =>
      rw [ih _ (by omega)]
      by_cases hHere : m = n ∧ j = i
      · obtain ⟨rfl, rfl⟩ := hHere
        simp [hlo, k.lane_wlane_same m j (x := 0) (by norm_num)]
      · rw [k.lane_wlane_ne 0 (by omega) hj (by omega)]
        congr 1
        simp only [eq_iff_iff]
        omega
    next hlo =>
      rw [if_neg (by omega)]

/-! ### VMPY, VMAC and VMSU -/

/-- A lane's exact new value, from its old one and the shifted product (R105). -/
def laneNext (v : VecWord) (x q : Int) : Int := if v.op = .vmac then x + q else if v.op = .vmsu then x - q else q

/-- The products of the active elements below `n`, with the lanes they feed. -/
def laneFeeds (old : CoreSt) (v : VecWord) (n : Nat) : List (Nat × Int) :=
  ((List.range n).filter (old.active v)).flatMap
    (fun i => macProducts v i (getElem v.ty v.hf i (old.rv v.a)) (getElem v.ty v.hf i (old.rv v.b)))

section
variable (k old : CoreSt) (v : VecWord)

theorem CoreSt.macLanes_cons (j : Nat) (p : Int) (r : List (Nat × Int)) : k.macLanes old v ((j, p) :: r)
    = (k.laneStore old v.d j (laneNext v (old.lane v.d j) (p * 2 ^ v.k))).macLanes old v r := rfl

theorem CoreSt.macLanes_append (l r : List (Nat × Int)) :
    k.macLanes old v (l ++ r) = (k.macLanes old v l).macLanes old v r := by
  induction l generalizing k with
  | nil => rfl
  | cons x l ih => exact ih _

theorem CoreSt.macAll_eq (n : Nat) : k.macAll old v n = k.macLanes old v (laneFeeds old v n) := by
  induction n with
  | zero => rfl
  | succ n ih =>
    simp only [CoreSt.macAll, laneFeeds, List.range_succ, List.filter_append, List.flatMap_append, CoreSt.macLanes_append]
    rw [ih]
    cases hActive : old.active v n <;> simp [hActive, laneFeeds, CoreSt.macLanes]

/-- A lane that no product feeds stays. -/
theorem CoreSt.lane_macLanes_unfed {l : List (Nat × Int)} {n j : Nat} (hl : ∀ x ∈ l, x.1 < 8) (hj : j < 8)
    (h : n ≠ v.d ∨ ∀ p, (j, p) ∉ l) : (k.macLanes old v l).lane n j = k.lane n j := by
  induction l generalizing k with
  | nil => rfl
  | cons x r ih =>
    obtain ⟨i, p⟩ := x
    rw [CoreSt.macLanes_cons, ih _ (fun x hx => hl x (List.mem_cons_of_mem _ hx))
      (h.imp_right fun h p hp => h p (List.mem_cons_of_mem _ hp)),
      k.lane_laneStore_ne old _ (hl (i, p) List.mem_cons_self) hj]
    refine h.imp_right fun h e => h p ?_
    rw [e]
    exact List.mem_cons_self

/-- A lane that one product feeds takes its result. -/
theorem CoreSt.lane_macLanes_fed {l : List (Nat × Int)} {j : Nat} {p : Int} (hl : ∀ x ∈ l, x.1 < 8) (hj : j < 8)
    (hMem : (j, p) ∈ l) (hOne : ∀ q, (j, q) ∈ l → q = p) :
    (k.macLanes old v l).lane v.d j = (accResult old.sst.sat (laneNext v (old.lane v.d j) (p * 2 ^ v.k))).1 := by
  induction l generalizing k with
  | nil => cases hMem
  | cons x r ih =>
    obtain ⟨i, q⟩ := x
    have hr : ∀ x ∈ r, x.1 < 8 := fun x hx => hl x (List.mem_cons_of_mem _ hx)
    rw [CoreSt.macLanes_cons]
    by_cases hLater : (j, p) ∈ r
    · exact ih _ hr hLater fun q hq => hOne q (List.mem_cons_of_mem _ hq)
    · obtain ⟨rfl, rfl⟩ : j = i ∧ p = q := by simpa [hLater] using hMem
      rw [CoreSt.lane_macLanes_unfed _ old v hr hj (.inr fun q hq => hLater (hOne q (List.mem_cons_of_mem _ hq) ▸ hq))]
      exact k.lane_laneStore_same old v.d j _

/-- VAV is raised by a result outside 40 bits alone. -/
theorem CoreSt.vav_macLanes (l : List (Nat × Int)) : (k.macLanes old v l).vstate.vav = true ↔ k.vstate.vav = true
    ∨ ∃ j p, (j, p) ∈ l ∧ fits 40 (laneNext v (old.lane v.d j) (p * 2 ^ v.k)) = false := by
  induction l generalizing k with
  | nil => simp [CoreSt.macLanes]
  | cons x r ih =>
    obtain ⟨i, q⟩ := x
    rw [CoreSt.macLanes_cons, ih, k.vav_laneStore old]
    simp only [Bool.or_eq_true, Bool.not_eq_true', List.mem_cons, Prod.mk.injEq, or_assoc, or_and_right, exists_or, and_assoc,
      exists_eq_left, exists_and_left]

theorem CoreSt.lanesOnly.macLanes {k k' : CoreSt} (h : k.lanesOnly k') (l : List (Nat × Int)) :
    k.lanesOnly (k'.macLanes old v l) := by
  induction l generalizing k' with
  | nil => exact h
  | cons x r ih => exact ih (h.laneStore old _ _ _)

end

/-- The first lane an operation uses (R99). -/
def laneBase (hf : Nat) : Nat := if hf = 2 then 4 else 0

/-- Element i of E16 feeds one lane (R106). -/
theorem laneElem_e16 {hf i : Nat} (h : hf ≤ 2) (hi : i < elemCount 1 hf) (j : Nat) :
    j < 8 ∧ laneElem 1 hf j = some i ↔ j = laneBase hf + i := by
  interval_cases hf <;> simp [elemCount, elemWidth, laneElem, laneBase] at hi ⊢ <;> omega

/-- Element i of C16 feeds two lanes (R106). -/
theorem laneElem_c16 {hf i : Nat} (h : hf ≤ 2) (hi : i < elemCount 3 hf) (j : Nat) :
    j < 8 ∧ laneElem 3 hf j = some i ↔ j = laneBase hf + 2 * i ∨ j = laneBase hf + 2 * i + 1 := by
  interval_cases hf <;> simp [elemCount, elemWidth, laneElem, laneBase] at hi ⊢ <;> omega

/-- A lane is fed by an element of the operation (R106). -/
theorem laneElem_lt {ty hf i j : Nat} (hTy : ty = 1 ∨ ty = 3) (h : hf ≤ 2) (hj : j < 8) (he : laneElem ty hf j = some i) :
    i < elemCount ty hf := by
  rcases hTy with rfl | rfl <;> interval_cases hf <;> simp [elemCount, elemWidth, laneElem] at he ⊢ <;> omega

/-- The products of element i, by the lane they feed (R105 to R107). -/
theorem mem_macProducts {v : VecWord} (hTy : v.ty = 1 ∨ v.ty = 3) (hHf : v.hf ≤ 2) {i : Nat} (hi : i < elemCount v.ty v.hf)
    (k : CoreSt) (j : Nat) (p : Int) :
    (j, p) ∈ macProducts v i (getElem v.ty v.hf i (k.rv v.a)) (getElem v.ty v.hf i (k.rv v.b))
      ↔ (j < 8 ∧ laneElem v.ty v.hf j = some i) ∧ p = laneProduct k v i j := by
  rcases hTy with hTy | hTy
  · rw [hTy] at hi ⊢
    rw [laneElem_e16 hHf hi]
    simp [macProducts, laneProduct, laneBase, hTy]
  · rw [hTy] at hi ⊢
    have hBase : (if v.hf = 2 then 4 else 0) = laneBase v.hf := rfl
    have hEven : laneBase v.hf % 2 = 0 := by unfold laneBase; split <;> rfl
    rw [laneElem_c16 hHf hi]
    have hFirst : (laneBase v.hf + 2 * i) % 2 = 0 := by omega
    have hSecond : (laneBase v.hf + 2 * i + 1) % 2 = 1 := by omega
    have hSplit : ∀ q : Nat → Int, (j = laneBase v.hf + 2 * i ∨ j = laneBase v.hf + 2 * i + 1) ∧ p = q j
        ↔ j = laneBase v.hf + 2 * i ∧ p = q (laneBase v.hf + 2 * i)
          ∨ j = laneBase v.hf + 2 * i + 1 ∧ p = q (laneBase v.hf + 2 * i + 1) := by
      intro q
      constructor
      · rintro ⟨rfl | rfl, rfl⟩ <;> simp
      · rintro (⟨rfl, rfl⟩ | ⟨rfl, rfl⟩) <;> simp
    rw [hSplit]
    cases hcj : v.cj <;>
      simp only [macProducts, laneProduct, hTy, parts, hcj, hFirst, hSecond, hBase, if_true, List.mem_cons, Prod.mk.injEq,
        List.not_mem_nil, or_false] <;> simp [sub_eq_add_neg, add_comm]

/-- A lane takes exactly the product of the active element that feeds it. -/
theorem mem_laneFeeds {v : VecWord} (hTy : v.ty = 1 ∨ v.ty = 3) (hHf : v.hf ≤ 2) (k : CoreSt) (j : Nat) (p : Int) :
    (j, p) ∈ laneFeeds k v (elemCount v.ty v.hf)
      ↔ ∃ i, j < 8 ∧ laneElem v.ty v.hf j = some i ∧ k.active v i = true ∧ p = laneProduct k v i j := by
  simp only [laneFeeds, List.mem_flatMap, List.mem_filter, List.mem_range]
  constructor
  · rintro ⟨i, ⟨hi, hActive⟩, hMem⟩
    obtain ⟨⟨hj, hElem⟩, hp⟩ := (mem_macProducts hTy hHf hi k j p).mp hMem
    exact ⟨i, hj, hElem, hActive, hp⟩
  · rintro ⟨i, hj, hElem, hActive, hp⟩
    have hi := laneElem_lt hTy hHf hj hElem
    exact ⟨i, ⟨hi, hActive⟩, (mem_macProducts hTy hHf hi k j p).mpr ⟨⟨hj, hElem⟩, hp⟩⟩

/-! ### Operations on lanes, as they issue -/

/-- VMPY, VMAC and VMSU. -/
def isLaneMac : VOp → Bool
  | .vmpy | .vmac | .vmsu => true
  | _ => false

theorem lanesOf_spec {i : Instr} {c : Fin 192} {v : VecWord} {f : Int → Int → Int} (h : lanesOf i = some (c, v, f)) (s : State) :
    exec i s = .next (s.issueSolo c 4 (.vec v)) ∧ isLaneMac v.op = true ∧ f = laneNext v ∧ v.hf < 4 := by
  cases i <;> simp only [lanesOf, Option.some.injEq, Prod.mk.injEq, reduceCtorEq] at h
  all_goals
    obtain ⟨rfl, rfl, rfl⟩ := h
    exact ⟨rfl, rfl, rfl, Fin.isLt _⟩

/-- What a legal VMPY, VMAC or VMSU admits (R105, R107). -/
theorem legal_laneMac {v : VecWord} (hOp : isLaneMac v.op = true) (h : vecIllegal v = false) :
    (v.ty = 1 ∨ v.ty = 3) ∧ v.hf ≠ 3 := by
  unfold vecIllegal at h
  cases hv : v.op <;> simp only [hv, isLaneMac, reduceCtorEq] at hOp
  all_goals
    simp [typeOk, hv] at h
    omega

theorem vecExec_laneMac (k old : CoreSt) {v : VecWord} (hOp : isLaneMac v.op = true) :
    k.vecExec old v = k.macLanes old v (laneFeeds old v (elemCount v.ty v.hf)) := by
  rw [← CoreSt.macAll_eq]
  cases hv : v.op <;> simp only [hv, isLaneMac, reduceCtorEq] at hOp <;> simp only [CoreSt.vecExec, hv]

/-- A legal vector operation that makes no access, issued beside NOP. -/
theorem State.issueSolo_vec {s : State} {c : Nat} {v : VecWord} (h : s.issues c = true) (hl : (s.core c).sst.ld = 0)
    (hLegal : vecIllegal v = false) (hOp : v.op ≠ .vgather ∧ v.op ≠ .vscatter)
    (hSst : ((s.core c).vecExec (s.core c) v).sst = (s.core c).sst) :
    ranAlone s (s.issueSolo c 4 (.vec v)) c ((s.core c).vecExec (s.core c) v) :=
  State.issueSolo_regsOnly (op := .vec v) h hl (by simp [regsOnly, hOp]) (by simp [State.opCauses, hLegal])
    (by simp only [State.applyOp, hSst]; exact hl)

/-- VMPY, VMAC and VMSU: the lanes after one (R105, R106). -/
theorem lane_laneMac {v : VecWord} (hTy : v.ty = 1 ∨ v.ty = 3) (hHf : v.hf ≤ 2) (k : CoreSt) {j : Nat} (hj : j < 8) :
    (k.macLanes k v (laneFeeds k v (elemCount v.ty v.hf))).lane v.d j =
      match laneElem v.ty v.hf j with
      | some e => if k.active v e
          then (accResult k.sst.sat (laneNext v (k.lane v.d j) (laneProduct k v e j * 2 ^ v.k))).1
          else k.lane v.d j
      | none => k.lane v.d j := by
  have hFeeds := mem_laneFeeds hTy hHf k
  have hBelow : ∀ x ∈ laneFeeds k v (elemCount v.ty v.hf), x.1 < 8 := fun x hx => by
    obtain ⟨-, hx, -⟩ := (hFeeds x.1 x.2).mp hx
    exact hx
  split
  next e he =>
    split
    next hActive =>
      refine k.lane_macLanes_fed k v hBelow hj ((hFeeds j _).mpr ⟨e, hj, he, hActive, rfl⟩) fun q hq => ?_
      obtain ⟨i, -, hi, -, rfl⟩ := (hFeeds j q).mp hq
      obtain rfl : e = i := Option.some.inj (he.symm.trans hi)
      rfl
    next hActive =>
      refine k.lane_macLanes_unfed k v hBelow hj (.inr fun q hq => hActive ?_)
      obtain ⟨i, -, hi, hOn, -⟩ := (hFeeds j q).mp hq
      obtain rfl : e = i := Option.some.inj (he.symm.trans hi)
      exact hOn
  next he =>
    refine k.lane_macLanes_unfed k v hBelow hj (.inr fun q hq => ?_)
    obtain ⟨i, -, hi, -⟩ := (hFeeds j q).mp hq
    cases he.symm.trans hi

/-- VMPY, VMAC and VMSU: when VAV is 1 after one (R68, R105). -/
theorem vav_laneMac {v : VecWord} (hTy : v.ty = 1 ∨ v.ty = 3) (hHf : v.hf ≤ 2) (k : CoreSt) :
    (k.macLanes k v (laneFeeds k v (elemCount v.ty v.hf))).vstate.vav = true ↔ k.vstate.vav = true
      ∨ ∃ j e, j < 8 ∧ laneElem v.ty v.hf j = some e ∧ k.active v e = true
          ∧ fits 40 (laneNext v (k.lane v.d j) (laneProduct k v e j * 2 ^ v.k)) = false := by
  rw [CoreSt.vav_macLanes]
  refine or_congr_right ⟨?_, ?_⟩
  · rintro ⟨j, p, hMem, hFits⟩
    obtain ⟨e, hj, he, hActive, rfl⟩ := (mem_laneFeeds hTy hHf k j p).mp hMem
    exact ⟨j, e, hj, he, hActive, hFits⟩
  · rintro ⟨j, e, hj, he, hActive, hFits⟩
    exact ⟨j, _, (mem_laneFeeds hTy hHf k j _).mpr ⟨e, hj, he, hActive, rfl⟩, hFits⟩

/-! ### Sums and extremes (R112) -/

/-- The sums of the real and the imaginary parts of the active elements below `n`. -/
theorem sumParts_eq (k : CoreSt) {v : VecWord} (hTy : v.ty = 1 ∨ v.ty = 3) (n : Nat) :
    sumParts k v n =
      ((((List.range n).filter (k.active v)).map (fun j => signExt 16 (getElem v.ty v.hf j (k.rv v.a) % 65536))).sum,
        if v.ty = 3 then
          (((List.range n).filter (k.active v)).map (fun j => signExt 16 (getElem v.ty v.hf j (k.rv v.a) / 65536))).sum
        else 0) := by
  induction n with
  | zero => simp [sumParts]
  | succ n ih =>
    simp only [sumParts, List.range_succ, List.filter_append, List.map_append, List.sum_append]
    rw [ih]
    rcases hTy with hTy | hTy <;> cases hActive : k.active v n
    · simp [hTy, List.filter, hActive]
    · have hMod : signExt 16 (getElem 1 v.hf n (k.rv v.a) % 65536) = signExt 16 (getElem 1 v.hf n (k.rv v.a)) := by
        simp [signExt]
      simp [hTy, parts, elemWidth, List.filter, hActive, hMod]
    · simp [hTy, List.filter, hActive]
    · simp [hTy, parts, List.filter, hActive]

/-- Sums of 16-bit parts stay far within 40 bits. -/
theorem sum_parts_fits (l : List Nat) (x : Nat → Nat) (h : l.length ≤ 16) :
    fits 40 (l.map (fun j => signExt 16 (x j))).sum = true := by
  have hRange : ∀ l : List Nat, -(2 ^ 15 * l.length : Int) ≤ (l.map (fun j => signExt 16 (x j))).sum
      ∧ (l.map (fun j => signExt 16 (x j))).sum ≤ 2 ^ 15 * l.length := by
    intro l
    induction l with
    | nil => simp
    | cons j r ih =>
      have hPart : -(2 ^ 15) ≤ signExt 16 (x j) ∧ signExt 16 (x j) ≤ 2 ^ 15 := by
        unfold signExt
        split <;> omega
      simp only [List.map_cons, List.sum_cons, List.length_cons]
      push_cast
      omega
  obtain ⟨hLow, hHigh⟩ := hRange l
  rw [fits_40]
  constructor <;> omega

/-- The order VRMAX or VRMIN looks for the top of. -/
def rank (v : VecWord) (x : Int) : Int := if v.op = .vrmax then x else -x

/-- The value of an element to VRMAX and VRMIN. -/
def elemValue (k : CoreSt) (v : VecWord) (i : Nat) : Int := signExt (elemWidth v.ty) (getElem v.ty v.hf i (k.rv v.a))

/-- The top of the active elements below `n`, at its lowest index. -/
def isTop (k : CoreSt) (v : VecWord) (n j : Nat) : Prop :=
  j < n ∧ k.active v j = true ∧ ∀ i, i < n → k.active v i = true →
    rank v (elemValue k v i) ≤ rank v (elemValue k v j) ∧ (i < j → rank v (elemValue k v i) < rank v (elemValue k v j))

theorem extremum_spec (k : CoreSt) (v : VecWord) (n : Nat) :
    (extremum k v n = none ∧ ∀ i, i < n → k.active v i = false)
      ∨ ∃ j, extremum k v n = some (elemValue k v j, j) ∧ isTop k v n j := by
  induction n with
  | zero => exact .inl ⟨rfl, by simp⟩
  | succ n ih =>
    cases hActive : k.active v n
    · rcases ih with ⟨hNone, hOff⟩ | ⟨j, hSome, hj, hOn, hTop⟩
      · refine .inl ⟨by simp [extremum, hActive, hNone], fun i hi => ?_⟩
        rcases Nat.lt_succ_iff_lt_or_eq.mp hi with hi | rfl
        · exact hOff i hi
        · exact hActive
      · refine .inr ⟨j, by simp [extremum, hActive, hSome], by omega, hOn, fun i hi hiOn => ?_⟩
        rcases Nat.lt_succ_iff_lt_or_eq.mp hi with hi | rfl
        · exact hTop i hi hiOn
        · rw [hActive] at hiOn
          cases hiOn
    · rcases ih with ⟨hNone, hOff⟩ | ⟨j, hSome, hj, hOn, hTop⟩
      · refine .inr ⟨n, by simp [extremum, hActive, hNone, elemValue], by omega, hActive, fun i hi hiOn => ?_⟩
        rcases Nat.lt_succ_iff_lt_or_eq.mp hi with hi | rfl
        · rw [hOff i hi] at hiOn
          cases hiOn
        · exact ⟨le_rfl, fun h => absurd h (lt_irrefl _)⟩
      · have hStep : extremum k v (n + 1) = if rank v (elemValue k v j) < rank v (elemValue k v n)
            then some (elemValue k v n, n) else some (elemValue k v j, j) := by
          by_cases hMax : v.op = .vrmax <;> simp [extremum, hActive, hSome, rank, hMax, elemValue]
        by_cases hLess : rank v (elemValue k v j) < rank v (elemValue k v n)
        · refine .inr ⟨n, by rw [hStep, if_pos hLess], by omega, hActive, fun i hi hiOn => ?_⟩
          rcases Nat.lt_succ_iff_lt_or_eq.mp hi with hi | rfl
          · have hBelow := (hTop i hi hiOn).1
            exact ⟨by omega, fun _ => by omega⟩
          · exact ⟨le_rfl, fun h => absurd h (lt_irrefl _)⟩
        · refine .inr ⟨j, by rw [hStep, if_neg hLess], by omega, hOn, fun i hi hiOn => ?_⟩
          rcases Nat.lt_succ_iff_lt_or_eq.mp hi with hi | rfl
          · exact hTop i hi hiOn
          · exact ⟨by omega, fun h => absurd h (by omega)⟩

/-- The halves of a word made of an index and an element (R112). -/
theorem half_of_extreme (k : CoreSt) (n : Nat) {i : Nat} {x : Int} (hi : i < 2 ^ 15) (hx : -(2 ^ 15) ≤ x ∧ x < 2 ^ 15) :
    (k.wd n (BitVec.ofNat 32 (i * 65536 + toField 16 x))).half n true = i
      ∧ (k.wd n (BitVec.ofNat 32 (i * 65536 + toField 16 x))).half n false = x := by
  have hField : ((toField 16 x : Nat) : Int) = x % 2 ^ 16 := by
    unfold toField
    exact Int.toNat_of_nonneg (Int.emod_nonneg _ (by norm_num))
  have hLt : toField 16 x < 65536 := by
    have := Int.emod_lt_of_pos x (b := 2 ^ 16) (by norm_num)
    omega
  simp only [CoreSt.half, CoreSt.rd, CoreSt.wd, tabGet_tabSet_same, if_true, Bool.false_eq_true, if_false, BitVec.toInt,
    BitVec.extractLsb'_toNat, BitVec.toNat_ofNat, Nat.shiftRight_eq_div_pow]
  constructor
  · have hHigh : (i * 65536 + toField 16 x) % 2 ^ 32 / 2 ^ 16 % 2 ^ 16 = i := by omega
    rw [hHigh]
    omega
  · have hLow : (i * 65536 + toField 16 x) % 2 ^ 32 / 2 ^ 0 % 2 ^ 16 = toField 16 x := by omega
    rw [hLow]
    omega

/-- An element of E8 or E16 is a halfword. -/
theorem elemValue_range (k : CoreSt) {v : VecWord} (hTy : v.ty ≤ 1) (i : Nat) :
    -(2 ^ 15) ≤ elemValue k v i ∧ elemValue k v i < 2 ^ 15 := by
  unfold elemValue signExt
  have hWidth : elemWidth v.ty = 8 ∨ elemWidth v.ty = 16 := by
    unfold elemWidth
    split
    · exact .inl rfl
    · rw [if_pos (by omega)]
      exact .inr rfl
  rcases hWidth with hWidth | hWidth <;> rw [hWidth] <;> split <;> omega

/-- What VRMAX and VRMIN leave in Dn while an element is active (R112). -/
theorem half_extremum (k : CoreSt) {v : VecWord} (n : Nat) (hTy : v.ty ≤ 1) {j : Nat} (hj : j < elemCount v.ty v.hf)
    (hActive : k.active v j = true) :
    ∃ i, isTop k v (elemCount v.ty v.hf) i
      ∧ (k.wd n (BitVec.ofNat 32 (extremumWord k v))).half n true = i
      ∧ (k.wd n (BitVec.ofNat 32 (extremumWord k v))).half n false = elemValue k v i := by
  rcases extremum_spec k v (elemCount v.ty v.hf) with ⟨-, hOff⟩ | ⟨i, hSome, hTop⟩
  · rw [hOff j hj] at hActive
    cases hActive
  · have hCount : elemCount v.ty v.hf ≤ 16 := by
      unfold elemCount elemWidth
      split_ifs <;> omega
    have hWord : extremumWord k v = i * 65536 + toField 16 (elemValue k v i) := by simp [extremumWord, hSome]
    rw [hWord]
    have hi := hTop.1
    exact ⟨i, hTop, half_of_extreme k n (by omega) (elemValue_range k hTy i)⟩

theorem CoreSt.active_iff (k : CoreSt) (v : VecWord) (j : Nat) :
    k.active v j = true ↔ (v.masked = true → bitAt k.vstate.mask j = true) := by
  cases h : v.masked <;> simp [CoreSt.active, h]

/-- With no element active VRMAX and VRMIN leave the values R112 names. -/
theorem extremumWord_inactive (k : CoreSt) {v : VecWord}
    (h : ∀ j, ¬(j < elemCount v.ty v.hf ∧ (v.masked = true → bitAt k.vstate.mask j = true))) : extremumWord k v
      = 0xFFFF0000 + (if v.op = .vrmax then (if v.ty = 0 then 0xFF80 else 0x8000) else (if v.ty = 0 then 0x007F else 0x7FFF)) := by
  rcases extremum_spec k v (elemCount v.ty v.hf) with ⟨hNone, -⟩ | ⟨i, -, hi, hOn, -⟩
  · simp [extremumWord, hNone]
  · exact absurd ⟨hi, (k.active_iff v i).mp hOn⟩ (h i)

theorem CoreSt.rd_wd_same (k : CoreSt) (n : Nat) (x : Word) : (k.wd n x).rd n = x := by
  simp [CoreSt.rd, CoreSt.wd]

theorem CoreSt.rd_wd_ne (k : CoreSt) {n m : Nat} (x : Word) (h : m ≠ n) : (k.wd n x).rd m = k.rd m := by
  simp [CoreSt.rd, CoreSt.wd, tabGet_tabSet_ne _ _ _ _ h]

/-- What Dn shows of the top of the active elements, against each of them (R112). -/
theorem extremumWord_top (k : CoreSt) {v : VecWord} (n : Nat) (hTy : v.ty ≤ 1) {j : Nat}
    (hj : j < elemCount v.ty v.hf ∧ (v.masked = true → bitAt k.vstate.mask j = true)) :
    let k' := k.wd n (BitVec.ofNat 32 (extremumWord k v))
    let i := (k'.half n true).toNat
    (i < elemCount v.ty v.hf ∧ (i < elemCount v.ty v.hf ∧ (v.masked = true → bitAt k.vstate.mask i = true))
      ∧ k'.half n false = elemValue k v i) ∧ rank v (elemValue k v j) ≤ rank v (k'.half n false)
      ∧ ((j : Int) < k'.half n true → rank v (elemValue k v j) < rank v (k'.half n false)) := by
  have hOn := (k.active_iff v j).mpr hj.2
  obtain ⟨i, ⟨hi, hiOn, hTop⟩, hIndex, hValue⟩ := half_extremum k n hTy hj.1 hOn
  obtain ⟨hLe, hLt⟩ := hTop j hj.1 hOn
  dsimp only
  rw [hIndex, hValue, Int.toNat_natCast]
  exact ⟨⟨hi, ⟨hi, (k.active_iff v i).mp hiOn⟩, rfl⟩, hLe, fun h => hLt (by omega)⟩

/-- VRSUM's accumulator: the sums in lanes 0 and 1, and zero in the others. -/
def CoreSt.summed (k : CoreSt) (v : VecWord) (re im : Int) : CoreSt :=
  let z := (k.clearLanes v.d (if v.ty = 3 then 2 else 1) 8).wlane v.d 0 re
  if v.ty = 3 then z.wlane v.d 1 im else z

theorem CoreSt.summed_frame (k : CoreSt) (v : VecWord) (re im : Int) : k.summed v re im = { k with va := (k.summed v re im).va } := by
  unfold CoreSt.summed
  rw [CoreSt.clearLanes_frame]
  split <;> rfl

theorem CoreSt.lane_summed (k : CoreSt) {v : VecWord} {re im : Int} (hRe : fits 40 re = true) (hIm : fits 40 im = true) {m j : Nat}
    (hj : j < 8) : (k.summed v re im).lane m j
      = if m = v.d then (if j = 0 then re else if v.ty = 3 ∧ j = 1 then im else 0) else k.lane m j := by
  rw [fits_40] at hRe hIm
  have hFirst : ∀ z : CoreSt, (z.wlane v.d 0 re).lane m j = if m = v.d ∧ j = 0 then re else z.lane m j := by
    intro z
    split
    next hHere => rw [hHere.1, hHere.2, z.lane_wlane_same _ _ hRe]
    next hElse => exact z.lane_wlane_ne _ (by norm_num) hj (by tauto)
  have hSecond : ∀ z : CoreSt, (z.wlane v.d 1 im).lane m j = if m = v.d ∧ j = 1 then im else z.lane m j := by
    intro z
    split
    next hHere => rw [hHere.1, hHere.2, z.lane_wlane_same _ _ hIm]
    next hElse => exact z.lane_wlane_ne _ (by norm_num) hj (by tauto)
  unfold CoreSt.summed
  by_cases hTy : v.ty = 3
  · simp only [hTy, if_true, hFirst, hSecond, CoreSt.lane_clearLanes _ _ _ le_rfl hj]
    grind
  · simp only [hTy, if_false, hFirst, CoreSt.lane_clearLanes _ _ _ le_rfl hj]
    grind

/-- The sum of one part of the active elements, of its lower or its upper half. -/
def partSum (k : CoreSt) (v : VecWord) (part : Nat → Nat) : Int :=
  (((List.range (elemCount v.ty v.hf)).filter (k.active v)).map (fun j => signExt 16 (part (getElem v.ty v.hf j (k.rv v.a))))).sum

theorem partSum_fits (k : CoreSt) {v : VecWord} (hTy : v.ty = 1 ∨ v.ty = 3) (part : Nat → Nat) :
    fits 40 (partSum k v part) = true := by
  refine sum_parts_fits _ (fun j => part (getElem v.ty v.hf j (k.rv v.a))) ((List.length_filter_le _ _).trans ?_)
  rw [List.length_range]
  unfold elemCount elemWidth
  rcases hTy with hTy | hTy <;> rw [hTy] <;> split_ifs <;> omega

/-- VRSUM: the registers after it. -/
theorem vecExec_vrsum (k : CoreSt) {v : VecWord} (hOp : v.op = .vrsum) (hTy : v.ty = 1 ∨ v.ty = 3) :
    k.vecExec k v = k.summed v (partSum k v (· % 65536)) (if v.ty = 3 then partSum k v (· / 65536) else 0) := by
  have hSums := sumParts_eq k hTy (elemCount v.ty v.hf)
  have hRe := partSum_fits k hTy (· % 65536)
  have hIm := partSum_fits k hTy (· / 65536)
  simp only [CoreSt.vecExec, hOp, hSums]
  change (if v.ty = 3 then ((k.clearLanes v.d _ 8).laneStore k v.d 0 (partSum k v (· % 65536))).laneStore k v.d 1
    (if v.ty = 3 then partSum k v (· / 65536) else 0) else (k.clearLanes v.d _ 8).laneStore k v.d 0 (partSum k v (· % 65536))) = _
  rw [CoreSt.laneStore_of_fits _ _ _ _ hRe]
  unfold CoreSt.summed
  by_cases h : v.ty = 3
  · simp only [h, if_true, CoreSt.laneStore_of_fits _ _ _ _ hIm]
  · simp only [h, if_false]

/-! ### Reserved fields -/

theorem vectorWord_spec {s : State} {i : Instr} {c : Fin 192} {v : VecWord} (h : vectorWord s i = some (c, v)) :
    exec i s = .next (s.issueSolo c 4 (.vec v)) ∧ isGather (.vec v) = false := by
  cases i <;> simp only [vectorWord, elementsOf, elementsOf.arith, elementsOf.perm, lanesOf, Option.map, Option.some.injEq,
    Prod.mk.injEq, reduceCtorEq] at h
  all_goals
    obtain ⟨rfl, rfl⟩ := h
    exact ⟨rfl, rfl⟩

/-- A vector operation with a reserved field, issued with EXL = 0 (R105, R107, R108). -/
theorem State.issueSolo_reserved {s : State} {c : Nat} {v : VecWord} (h : s.issues c = true) (hl : (s.core c).sst.ld = 0)
    (hExl : (s.core c).sst.exl = false) (hGather : isGather (.vec v) = false) (hv : vecIllegal v = true) :
    tookException s (s.issueSolo c 4 (.vec v)) c 3 4 (s.pc c) 0 :=
  State.issueSolo_took (code := 3) (sl := 4) (ea := 0) h hl hExl hGather (by simp [State.opCauses, hv]) (by decide)

/-! ### VRSUM, VRMAX and VRMIN as they issue -/

/-- VRSUM (R112). -/
theorem execVrsum_sums {s : State} {c : Fin 192} (ty : Fin 4) (d : Fin 4) (a : Fin 32) (hf : Fin 3) (mk : Bool)
    (hTy : ty.val = 1 ∨ ty.val = 3) (h : s.issues c = true) (hl : (s.core c).sst.ld = 0) :
    let v : VecWord := ⟨.vrsum, ty, d, a, 0, hf, mk, false, false, 0⟩
    ∃ t k, exec (.vrsum c ty d a (hf.castLE (by decide)) mk) s = .next t ∧ ranAlone s t c k
      ∧ k.lane d 0 = partSum (s.core c) v (· % 65536)
      ∧ k.lane d 1 = (if ty.val = 3 then partSum (s.core c) v (· / 65536) else 0)
      ∧ (∀ j, 1 < j → j < 8 → k.lane d j = 0)
      ∧ (∀ n j, n ≠ d.val → j < 8 → k.lane n j = (s.core c).lane n j) ∧ k = { s.core c with va := k.va } := by
  intro v
  have hRe := partSum_fits (s.core c) (v := v) hTy (· % 65536)
  have hIm : fits 40 (if ty.val = 3 then partSum (s.core c) v (· / 65536) else 0) = true := by
    split
    · exact partSum_fits (s.core c) hTy _
    · decide
  have hExec := vecExec_vrsum (s.core c) (v := v) rfl hTy
  have hLanes := fun m j hj => (s.core c).lane_summed (v := v) (m := m) (j := j) hRe hIm hj
  have hRan := State.issueSolo_vec (v := v) h hl
    (by simp [v, vecIllegal, typeOk, hf.isLt.ne]; omega) ⟨nofun, nofun⟩ (by rw [hExec, CoreSt.summed_frame])
  rw [hExec] at hRan
  refine ⟨_, _, rfl, hRan, ?_, ?_, fun j hj hj' => ?_, fun n j hn hj => ?_, CoreSt.summed_frame _ _ _ _⟩
  · exact (hLanes d 0 (by norm_num)).trans (by simp [v])
  · refine (hLanes d 1 (by norm_num)).trans ?_
    simp only [v, if_true, one_ne_zero, if_false, and_true]
    split <;> simp
  · refine (hLanes d j hj').trans ?_
    rw [if_pos rfl, if_neg (by omega), if_neg (by omega)]
  · exact (hLanes n j hj).trans (if_neg hn)

/-- VRMAX and VRMIN (R112). -/
theorem State.issueSolo_extreme {s : State} {c : Nat} {v : VecWord} (h : s.issues c = true) (hl : (s.core c).sst.ld = 0)
    (hOp : v.op = .vrmax ∨ v.op = .vrmin) (hTy : v.ty ≤ 1) (hHf : v.hf ≠ 3) :
    ranAlone s (s.issueSolo c 4 (.vec v)) c ((s.core c).wd v.d (BitVec.ofNat 32 (extremumWord (s.core c) v))) := by
  have hExec : (s.core c).vecExec (s.core c) v = (s.core c).wd v.d (BitVec.ofNat 32 (extremumWord (s.core c) v)) := by
    rcases hOp with hOp | hOp <;> simp only [CoreSt.vecExec, hOp]
  have hRan := State.issueSolo_vec (v := v) h hl (by rcases hOp with hOp | hOp <;> simp [vecIllegal, typeOk, hOp, hTy, hHf])
    (by rcases hOp with hOp | hOp <;> simp [hOp]) (by rw [hExec]; rfl)
  rwa [hExec] at hRan

end Sys2Proof.Machine

section
open Sys2Proof Sys2Proof.Machine

/-- Settles O25: lanes by the one product that feeds each, sums and extremes by induction over the elements. -/
theorem vectorAccumulators : Obligations.VectorAccumulators := by
  refine ⟨fun i s c v f hLanes hLegal h hl => ?_, fun s c d h hl => ?_, fun s c cx d a hf mk h hl => ?_,
    fun s c ty n a hf mk h hl => ⟨?_, ?_⟩, fun i s c v hWord hv h hl hExl => ?_⟩
  · obtain ⟨hExec, hOp, rfl, hHf⟩ := lanesOf_spec hLanes s
    obtain ⟨hTy, hHf'⟩ := legal_laneMac hOp hLegal
    have hHalf : v.hf ≤ 2 := by omega
    have hOnly := (CoreSt.lanesOnly.refl (s.core c)).macLanes (s.core c) v (laneFeeds (s.core c) v (elemCount v.ty v.hf))
    have hRan := State.issueSolo_vec h hl hLegal (by constructor <;> intro e <;> simp [e, isLaneMac] at hOp)
      (by rw [vecExec_laneMac _ _ hOp, hOnly])
    rw [vecExec_laneMac _ _ hOp] at hRan
    refine ⟨_, _, hExec, hRan, fun j hj => lane_laneMac hTy hHalf _ hj, vav_laneMac hTy hHalf _, fun m j hm hj => ?_, hOnly⟩
    refine CoreSt.lane_macLanes_unfed _ _ _ (fun x hx => ?_) hj (.inl hm)
    obtain ⟨-, hx, -⟩ := (mem_laneFeeds hTy hHalf (s.core c) x.1 x.2).mp hx
    exact hx
  · have hRan := State.issueSolo_vec (v := ⟨.vaclr, 0, d, 0, 0, 0, false, false, false, 0⟩) h hl rfl ⟨nofun, nofun⟩
      (by simp only [CoreSt.vecExec]; rw [CoreSt.clearLanes_frame])
    refine ⟨_, _, rfl, hRan, fun j hj => ?_, fun m j hm hj => ?_, CoreSt.clearLanes_frame _ _ _ _⟩
    · exact (CoreSt.lane_clearLanes _ _ _ le_rfl hj).trans (if_pos ⟨rfl, Nat.zero_le _, hj⟩)
    · exact (CoreSt.lane_clearLanes _ _ _ le_rfl hj).trans (if_neg fun hHere => hm hHere.1)
  · obtain ⟨t, k, hExec, hRan, hRe, hIm, hZero, hOther, hFrame⟩ :=
      execVrsum_sums (if cx then 3 else 1) d a hf mk (by cases cx <;> simp) h hl
    refine ⟨t, k, hExec, hRan, hRe, ?_, hZero, ?_, hOther, hFrame⟩
    · rw [hIm]
      cases cx <;> rfl
    · cases cx <;> simp [elemCount, elemWidth] <;> split_ifs <;> norm_num
  · have hRan := State.issueSolo_extreme (v := ⟨.vrmax, ty, n, a, 0, hf, mk, false, false, 0⟩) h hl (.inl rfl)
      (Nat.lt_succ_iff.mp ty.isLt) hf.isLt.ne
    refine ⟨_, _, rfl, hRan, fun hOff => ?_, fun j hj => ?_, fun m hm => CoreSt.rd_wd_ne _ _ hm, rfl⟩
    · rw [CoreSt.rd_wd_same, extremumWord_inactive _ hOff]
      fin_cases ty <;> simp
    · obtain ⟨⟨hi, hOn, hValue⟩, hLe, hLt⟩ := extremumWord_top (s.core c) (v := ⟨.vrmax, ty, n, a, 0, hf, mk, false, false, 0⟩) n
        (Nat.lt_succ_iff.mp ty.isLt) hj
      simp only [rank, if_true] at hLe hLt
      exact ⟨hi, hOn, hValue, hLe, hLt⟩
  · have hRan := State.issueSolo_extreme (v := ⟨.vrmin, ty, n, a, 0, hf, mk, false, false, 0⟩) h hl (.inr rfl)
      (Nat.lt_succ_iff.mp ty.isLt) hf.isLt.ne
    refine ⟨_, _, rfl, hRan, fun hOff => ?_, fun j hj => ?_, fun m hm => CoreSt.rd_wd_ne _ _ hm, rfl⟩
    · rw [CoreSt.rd_wd_same, extremumWord_inactive _ hOff]
      fin_cases ty <;> simp
    · obtain ⟨⟨hi, hOn, hValue⟩, hLe, hLt⟩ := extremumWord_top (s.core c) (v := ⟨.vrmin, ty, n, a, 0, hf, mk, false, false, 0⟩) n
        (Nat.lt_succ_iff.mp ty.isLt) hj
      simp only [rank, reduceCtorEq, if_false, neg_le_neg_iff, neg_lt_neg_iff] at hLe hLt
      exact ⟨hi, hOn, hValue, hLe, hLt⟩
  · obtain ⟨hExec, hGather⟩ := vectorWord_spec hWord
    have hTook := State.issueSolo_reserved h hl hExl hGather hv
    have hCore := hTook.core_eq (w := 4 * 2 ^ 28 + 3) rfl rfl
    exact ⟨_, hExec, by rw [hCore], by rw [hCore], by rw [hCore], by rw [hCore], by rw [hCore], hTook.state⟩
end
end

section
/-! SUPPORT. Fetch, interrupts and window responses of a Wylen core (R58, R63, R64, R78, R85 to R90). -/

namespace Sys2Proof.Machine

/-! ### Memories without flipped bits -/

theorem eccDecode_zero : eccDecode 0 = .clean := by decide

theorem residual_zero : residual 0 = 0 := by decide

section
variable {s : State} (h : s.upsets = [])
include h

theorem State.upset_of_none (l : MemLoc) : s.upset l = 0 := by
  simp [State.upset, h, tabGet, tabFind]

theorem State.isPoison_of_none (l : MemLoc) : s.isPoison l = false := by
  simp [State.isPoison, State.upset_of_none h, eccDecode_zero]

theorem State.demandWord_of_none (l : MemLoc) (src : Nat) : s.demandWord l src = s := by
  simp [State.demandWord, State.upset_of_none h, eccDecode_zero]

theorem State.readError_of_none (loc : Nat → MemLoc) (a n : Nat) : s.readError loc a n = 0 := by
  unfold State.readError
  induction List.range n with
  | nil => rfl
  | cons i r ih =>
    rw [List.map_cons, leNat, ih, State.upset_of_none h, residual_zero]
    simp

theorem State.placePoison_of_none (c n : Nat) (p : Place) : s.placePoison c n p = false := by
  unfold State.placePoison
  rw [List.any_eq_false]
  intro i _
  split
  · simp [State.isPoison_of_none h]
  · simp

theorem State.placeDemand_of_none (c n src : Nat) (p : Place) : s.placeDemand c n src p = s := by
  unfold State.placeDemand
  induction List.range (if n ≤ 8 then 1 else 2) with
  | nil => rfl
  | cons i r ih =>
    rw [List.foldl_cons]
    split
    · rw [State.demandWord_of_none h, ih]
    · exact ih

theorem State.readPlace_local_of_none (c n a : Nat) : s.readPlace c n (.local a) = leNat (s.coreBytes c a n) := by
  simp [State.readPlace, State.readError_of_none h]

theorem State.readPlace_window_of_none (c n w g : Nat) (ok : Bool) : s.readPlace c n (.window w g ok) = s.memNat g n := by
  simp [State.readPlace, State.readError_of_none h]

/-- A fetch from program memory delivers the bytes that stand there (R58, R78). -/
theorem State.fetchBundle_of_none {c : Nat} (hPc : s.pc c < 0x18000) :
    s.fetchBundle c = .inl (decodeBundle (leNat (s.coreBytes c (s.pc c) 8))) := by
  simp [State.fetchBundle, State.isPoison_of_none h, State.readError_of_none h, Nat.not_le.mpr hPc]

end

/-! ### BUNDLE_ISSUE -/

theorem execBundleIssue_fetched {s : State} {c : Fin 192} (h : s.issues c = true) (hUp : s.upsets = []) (hPc : s.pc c < 0x18000) :
    exec (.bundleIssue c) s = .next (s.runBundle c (decodeBundle (leNat (s.coreBytes c (s.pc c) 8))) false) := by
  simp [execBundleIssue, State.atIssue_issues _ h, hPc, State.demandWord_of_none hUp, State.fetchBundle_of_none hUp hPc]

theorem execBundleIssue_outside {s : State} {c : Fin 192} (h : s.issues c = true) (hPc : 0x18000 ≤ s.pc c) :
    exec (.bundleIssue c) s = .next ((s.raiseExc c 1 0 (s.pc c) 0).afterCore (s.obj .coreState c) c) := by
  simp [execBundleIssue, State.atIssue_issues _ h, Nat.not_lt.mpr hPc, State.fetchBundle, hPc]

/-! ### Interrupts and WINDOW_ASYNC (R64, R90) -/

/-- Whether a core is at a boundary does not hang on its registers, but on its wait for a call. -/
theorem State.atBoundary_setCore {s : State} {c : Nat} {k : CoreSt} (h : k.callWait = (s.core c).callWait) :
    (s.setCore c k).atBoundary c = s.atBoundary c := by
  unfold State.atBoundary
  rw [State.core_setCore_same, h]
  rfl

/-- Core c takes interrupt `code` at a boundary: it is no longer pending, and the handler is entered (R89, R90). -/
def State.interrupted (s : State) (c code : Nat) : State :=
  ((s.setCore c { s.core c with ints := (s.core c).ints.filter (fun x => decide (x ≠ code)) }).enterHandler c code 5 (s.pc c) 0).bump
    .coreInterrupts c

theorem lowestInt_cons {code : Nat} {r : List Nat} (h : ∀ x ∈ r, code < x) : lowestInt (code :: r) = some code := by
  have hMem : ∀ {l : List Nat} {y : Nat}, lowestInt l = some y → y ∈ l := by
    intro l
    induction l with
    | nil => intro y hy; cases hy
    | cons x l ih =>
      intro y hy
      unfold lowestInt at hy
      split at hy
      · cases hy
        exact List.mem_cons_self
      next z hz =>
        cases hy
        rcases min_choice x z with e | e <;> rw [e]
        · exact List.mem_cons_self
        · exact List.mem_cons_of_mem _ (ih hz)
  unfold lowestInt
  split
  · rfl
  next y hy => rw [min_eq_left (h y (hMem hy)).le]

/-- The lowest pending interrupt, the debug unit's request among them, is taken at a boundary with IE = 1 and EXL = 0, when the
core waits for nothing. -/
theorem execInterruptTaken_ready {s u : State} {c : Fin 192} (done : Fin 16) {debug : Bool} {code : Nat}
    (hAsked : (if debug then s.raiseInt c 0x13 else s) = u) (hBoundary : u.atBoundary c = true)
    (hStall : (u.core c).stall = none) (hAsync : (u.core c).async = []) (hIe : (u.core c).sst.ie = true)
    (hExl : (u.core c).sst.exl = false) (hCode : lowestInt (u.core c).ints = some code) :
    exec (.interruptTaken c done debug) s = .next (u.interrupted c code) := by
  rw [exec_interruptTaken, execInterruptTaken, hAsked]
  dsimp only
  rw [if_neg (by simp [hAsync]), if_neg (by simp [hBoundary, hIe, hExl]), hCode]
  dsimp only
  split
  next b hb => cases hb.symm.trans hStall
  next => rfl

section
variable (s : State) (c code : Nat)

theorem State.core_interrupted : ∃ n, (s.interrupted c code).core c = { ({ s.core c with
    ints := (s.core c).ints.filter (fun x => decide (x ≠ code)) } : CoreSt).entered code 5 (s.pc c) 0 with cyc := n } := by
  obtain ⟨n, hEntered⟩ := (s.setCore c { s.core c with ints := (s.core c).ints.filter (fun x => decide (x ≠ code)) }).core_enterHandler
    c code 5 (s.pc c) 0
  rw [State.core_setCore_same] at hEntered
  exact ⟨n, hEntered⟩

theorem State.state_interrupted : (s.interrupted c code).obj .coreState c = coreHandler := by
  simp [State.interrupted, State.state_enterHandler]

theorem State.pc_interrupted : (s.interrupted c code).obj .corePc c
    = (((((s.core c).vbase + 32 * code) % 16777216 / 8 * 8 : Nat) : Int)) := by
  simp [State.interrupted, State.pc_enterHandler]

theorem State.count_interrupted : (s.interrupted c code).obj .coreInterrupts c = (s.obj .coreInterrupts c + 1) % 4294967296 := by
  simp [State.interrupted, State.obj_enterHandler]

theorem State.coresOnly_interrupted : s.coresOnly (s.interrupted c code) :=
  .bump (.enterHandler _ _ _ _ _ (.setCore (.refl s)))

end

/-- A pending WINDOW_ASYNC at a boundary, before the scheduler's part (R64, R90). -/
def State.asyncTaken (s : State) (c a : Nat) (rest : List Nat) : State :=
  (((s.setCore c { s.core c with async := rest }).countRaised c 13).enterHandler c 13 5 (s.pc c) a).bump .coreExceptions c

theorem State.takeAsync_held {s : State} {c : Nat} (h : s.atBoundary c = false) : s.takeAsync c = s := by
  unfold State.takeAsync
  split
  · rfl
  · rw [if_neg (by simp [h])]

theorem State.takeAsync_taken {s : State} {c a : Nat} {rest : List Nat} (hAsync : (s.core c).async = a :: rest)
    (h : s.atBoundary c = true) : s.takeAsync c = (s.asyncTaken c a rest).afterCore (s.obj .coreState c) c := by
  unfold State.takeAsync
  split
  next hNone => cases hNone.symm.trans hAsync
  next a' rest' hSome =>
    obtain ⟨rfl, rfl⟩ := List.cons.inj (hSome.symm.trans hAsync)
    rw [if_pos h]
    dsimp only
    have hKept : ∀ {o : Obj}, o ≠ .coreEccUncorr → o ≠ .coreWindowAsync → o ≠ .coreVectorFaults →
        ((s.setCore c { s.core c with async := rest' }).countRaised c 13).obj o c = s.obj o c :=
      fun h₁ h₂ h₃ => State.obj_countRaised _ c 13 c h₁ h₂ h₃
    have hPc : ((s.setCore c { s.core c with async := rest' }).countRaised c 13).pc c = s.pc c :=
      congrArg Int.toNat (hKept (by decide) (by decide) (by decide))
    rw [hPc, hKept (by decide) (by decide) (by decide)]
    rfl

/-- What a WINDOW_ASYNC taken leaves. -/
theorem State.asyncTaken_took {s : State} {c a : Nat} {rest : List Nat} :
    tookException (s.setCore c { s.core c with async := rest }) (s.asyncTaken c a rest) c 13 5 (s.pc c) a := by
  have hCore := (s.setCore c { s.core c with async := rest }).core_countRaised c 13 c
  obtain ⟨n, hEntered⟩ := ((s.setCore c { s.core c with async := rest }).countRaised c 13).core_enterHandler c 13 5 (s.pc c) a
  refine ⟨?_, ?_, ?_, ?_, .bump (.enterHandler _ _ _ _ _ (.countRaised (.refl _)))⟩
  · simp only [State.asyncTaken, State.bump, State.core_setObj, hEntered, hCore]
  · simp [State.asyncTaken, State.bump, State.state_enterHandler]
  · simp [State.asyncTaken, State.bump, State.pc_enterHandler, hCore]
  · simp [State.asyncTaken, State.bump, State.obj_enterHandler, State.obj_countRaised]

theorem State.asyncCount {s : State} {c a : Nat} {rest : List Nat} :
    (s.asyncTaken c a rest).obj .coreWindowAsync c = (s.obj .coreWindowAsync c + 1) % 4294967296 := by
  simp [State.asyncTaken, State.obj_enterHandler, State.countRaised, State.bumpIf]

/-- The error response of a posted store to global address `g` has arrived, and `r` remains posted (R64). -/
def State.errorBack (s : State) (c g : Nat) (r : List (Nat × Bool)) : State :=
  s.setCore c { s.core c with posted := r, async := (s.core c).async ++ [g] }

theorem State.core_errorBack (s : State) (c g : Nat) (r : List (Nat × Bool)) :
    (s.errorBack c g r).core c = { s.core c with posted := r, async := (s.core c).async ++ [g] } :=
  s.core_setCore_same c _

theorem State.atBoundary_errorBack (s : State) (c g : Nat) (r : List (Nat × Bool)) :
    (s.errorBack c g r).atBoundary c = s.atBoundary c :=
  State.atBoundary_setCore (by rfl)

theorem State.obj_errorBack (s : State) (c g : Nat) (r : List (Nat × Bool)) (o : Obj) (n : Nat) :
    (s.errorBack c g r).obj o n = s.obj o n := rfl

theorem State.obj_withdrawPreempt (s : State) (c : Nat) (o : Obj) (n : Nat) : (s.withdrawPreempt c).obj o n = s.obj o n := rfl

theorem execWindowAsync_error {s : State} {c : Fin 192} {g : Nat} {r : List (Nat × Bool)} (h : (s.core c).posted = (g, true) :: r) :
    exec (.windowAsync c) s = .next ((s.errorBack c g r).takeAsync c) := by
  have hFailed : firstFailed (s.core c).posted = some (g, r) := by rw [h]; rfl
  rw [exec_windowAsync, execWindowAsync]
  dsimp only
  rw [hFailed]
  rfl

/-! ### A window load and its response (R63) -/

theorem xThenY_move (m : Move) : xThenY [.move m] = [.move m] := by
  cases h : m.y <;> simp [xThenY, h]

theorem dupLoad_move (m : Move) : dupLoad [.move m] = none := by
  cases h : m.store <;> simp [dupLoad, h]

/-- A move changes no status. -/
theorem State.sst_applyOp_move (s : State) (c : Nat) (old k : CoreSt) (m : Move) : (s.applyOp c old (.move m) k).sst = k.sst := by
  unfold State.applyOp
  dsimp only
  cases old.moveNext m with
  | none => split_ifs <;> rfl
  | some a => split_ifs <;> rfl

/-- A bundle of one load commits. -/
theorem State.commit_load {t : State} {c : Nat} {m : Move} (sched : CoreSt → Nat → Nat → State → State) (hLoad : m.store = false)
    (hUp : t.upsets = []) (hl : (t.core c).sst.ld = 0) :
    t.commit c [.move m] sched = (t.setCore c (t.spendCycles (t.core c) [.move m]
      { t.applyOp c (t.core c) (.move m) (t.core c) with stall := none })).setPc c ((t.pc c / 8 + 1) * 8) := by
  have hNext : t.nextPc c (t.core c) (t.applyOp c (t.core c) (.move m) (t.core c)) [.move m]
      = (t.applyOp c (t.core c) (.move m) (t.core c), (t.pc c / 8 + 1) * 8) := by
    simp [State.nextPc, isControl, State.sst_applyOp_move, hl, loopEnd, bundleIndex]
  have hLoads : t.loadOps c (t.core c) [.move m] = t := by
    simp [State.loadOps, hLoad, State.placeDemand_of_none hUp]
  have hStores : ∀ u : State, u.storeOps c (t.core c) [.move m] = u := fun u => by simp [State.storeOps, hLoad]
  unfold State.commit
  simp only [xThenY_move, dupLoad_move, List.foldl_cons, List.foldl_nil, hNext, hStores]
  simp [hLoads]

/-- What a load of 32 bits that leaves its address register puts into its register. -/
theorem State.rd_applyOp_load {s : State} {c : Nat} {old k : CoreSt} {m : Move} (hLoad : m.store = false) (hSize : m.size = 2) :
    (s.applyOp c old (.move m) k).rd m.reg = BitVec.ofNat 32 (s.readPlace c 4 (s.movePlace old m)) := by
  simp only [State.applyOp, hLoad, hSize, moveBytes]
  exact CoreSt.rd_wd_same _ _ _

/-- A window load whose place is in order has no cause of an exception. -/
theorem State.moveCauses_window {s : State} {c : Nat} {k : CoreSt} {m : Move} {a win g : Nat} (hUp : s.upsets = [])
    (hNext : k.moveNext m = some a) (hAlign : k.moveAddr m % moveBytes m = 0) (hPlace : s.movePlace k m = .window win g true) :
    s.moveCauses c k m = [] := by
  simp [State.moveCauses, hNext, hAlign, hPlace, State.placePoison_of_none hUp]

/-- A word beside NOP is legal as a whole when it sets no PC and gathers nothing (R77, R79, R115). -/
theorem bundleIllegal_alone (k : CoreSt) (pc : Nat) {w : BWord} (hExt : w.ext = false) (hControl : w.ops.any isControl = false)
    (hGather : w.ops.any isGather = false) : bundleIllegal k pc ⟨w, nopWord⟩ = false := by
  simp [bundleIllegal, nopWord, shares, hExt, hControl, hGather]

/-- A word beside NOP without a cause of an exception, that holds neither FENCE nor a gather and whose window loads have arrived,
commits. -/
theorem State.runBundle_commits {s : State} {c : Nat} {w : BWord} {resp : Bool} (hExt : w.ext = false)
    (hControl : w.ops.any isControl = false) (hGather : w.ops.any isGather = false) (hFence : .fence ∉ w.ops)
    (hCauses : w.ops.flatMap (s.opCauses c (s.core c) (s.pc c)) = [])
    (hLoads : resp = true ∨ w.ops.any (s.isWindowLoad (s.core c)) = false) :
    s.runBundle c ⟨w, nopWord⟩ resp = (s.commit c w.ops (State.schedCall c)).afterCore (s.obj .coreState c) c := by
  have hOps : w.ops ++ nopWord.ops = w.ops := List.append_nil _
  have hNone : s.bundleCauses c ⟨w, nopWord⟩ = [] := by
    simp only [State.bundleCauses, bundleIllegal_alone _ _ hExt hControl hGather, hOps, hCauses]
    rfl
  have hGathers : gatherOf w.ops = none := by
    have hFind : w.ops.find? isGather = none := by
      rw [List.find?_eq_none]
      simpa using hGather
    simp [gatherOf, hFind]
  have hFences : w.ops.any (fun o => decide (o = .fence)) = false := by
    rw [List.any_eq_false]
    exact fun o ho => by simpa using ne_of_mem_of_not_mem ho hFence
  have hWaits : (!resp && w.ops.any (s.isWindowLoad (s.core c))) = false := by
    rcases hLoads with h | h <;> simp [h]
  simp only [State.runBundle, State.issueBundle, hNone, pickCause, hOps, hFences, hGathers, hWaits, Bool.false_and,
    Bool.false_eq_true, if_false]

/-- The bundle of core c that waited for a load at global address `g` is free to run (R63, R81). -/
def State.resumed (s : State) (c g : Nat) : State := (s.setCore c { s.core c with stall := none }).spendLoad c g

theorem State.core_resumed (s : State) (c g : Nat) : ∃ x, (s.resumed c g).core c = { s.core c with stall := none, cyc := x } := by
  refine ⟨((s.core c).cyc + (s.setCore c { s.core c with stall := none }).loadWait c g) % 2 ^ 64, ?_⟩
  simp only [State.resumed, State.spendLoad, State.core_freeUsed, State.core_setCore_same]

/-- The response of status 0 to a bundle that waits for one window load runs it (R63). -/
theorem execWindowLoadResponse_ok {s : State} {c : Fin 192} {m : Move} {sl win g : Nat} (elem : Fin 16)
    (hBoundary : s.atBoundary c = true) (hStall : (s.core c).stall = some ⟨oneOp sl (.move m), nopWord⟩)
    (hLoad : m.store = false) (hPlace : s.movePlace (s.core c) m = .window win g true)
    (hStatus : s.loadStatus (s.core c) g 0 = 0) :
    exec (.windowLoadResponse c 0 elem) s = .next ((s.resumed c g).runBundle c ⟨oneOp sl (.move m), nopWord⟩ true) := by
  have hOps : (oneOp sl (.move m)).ops ++ nopWord.ops = [.move m] := rfl
  have hWaits : s.isWindowLoad (s.core c) (.move m) = true := by simp [State.isWindowLoad, hLoad, hPlace]
  have hFind : (xThenY [.move m]).find? (s.isWindowLoad (s.core c)) = some (.move m) := by
    rw [xThenY_move, List.find?_cons_of_pos hWaits]
  rw [exec_windowLoadResponse, execWindowLoadResponse]
  dsimp only
  rw [hStall]
  dsimp only
  rw [if_neg (by simp [hBoundary, oneOp, nopWord]), hOps]
  simp only [show gatherOf [CoreOp.move m] = none from rfl, hFind, hPlace, placeAddr]
  rw [if_pos (show s.loadStatus (s.core c) g ((0 : Fin 5) : Nat) = 0 from hStatus)]
  rfl

end Sys2Proof.Machine

section
open Sys2Proof Sys2Proof.Machine

/-- Settles O20: a fetch without flipped bits, the entry into a handler, and the bundle a window load held up. -/
theorem bundleIssueAndInterrupts : Obligations.BundleIssueAndInterrupts := by
  intro s c
  refine ⟨fun d a b h hl hUp hPc hDecode => ?_, fun h hUp hPc => execBundleIssue_fetched h hUp hPc, fun h hPc hExl => ?_,
    fun code r done hBoundary hStall hAsync hIe hExl hInts hLow hCode hCode' => ?_,
    fun done hBoundary hStall hAsync hIe hExl hInts => ?_, fun g r hBoundary hPosted => ?_,
    fun g r hBoundary hAsync hPosted => ?_, fun m sl win g elem hBoundary hl hUp hStall hLoad hSize hNext hAlign hPlace hStatus => ?_⟩
  · have hExec := execBundleIssue_fetched h hUp hPc
    have hSolo : s.issueSolo c 3 (.add d a b false) = s.runBundle c (soloBundle 3 (.add d a b false)) false := by
      rw [State.issueSolo, State.atIssue_issues _ h]
    rw [hDecode, ← soloBundle, ← hSolo] at hExec
    have hRan := State.issueSolo_regsOnly (slot := 3) (op := .add d a b false) h hl rfl rfl hl
    refine ⟨_, _, hExec, hRan, ?_⟩
    exact CoreSt.rd_wd_same _ _ _
  · have hTook := (s.raiseExc_took 1 0 (s.pc c) 0 hExl).afterCore (s.obj .coreState c)
    have hCore := hTook.core_eq (w := 1) rfl rfl
    refine ⟨_, execBundleIssue_outside h hPc, by rw [hCore], by rw [hCore], hTook.state, by rw [hCore], by rw [hCore], ?_⟩
    rw [hTook.only.eq]
  · have hTaken := execInterruptTaken_ready (u := s) (debug := false) done rfl hBoundary hStall hAsync hIe hExl
      ((congrArg lowestInt hInts).trans (lowestInt_cons hLow))
    refine ⟨_, hTaken, ?_, s.state_interrupted c code, s.pc_interrupted c code, s.count_interrupted c code,
      (s.coresOnly_interrupted c code).eq⟩
    obtain ⟨n, hCore⟩ := s.core_interrupted c code
    have hFilter : (s.core c).ints.filter (fun x => decide (x ≠ code)) = r := by
      rw [hInts, List.filter_cons_of_neg (by simp), List.filter_eq_self]
      exact fun x hx => by simpa using (hLow x hx).ne'
    have hCause : ecauseWord code 5 = 2 ^ 31 + 5 * 2 ^ 28 + code := by rw [ecauseWord, if_pos hCode]
    have hEaddr : writesEaddr code = false := by simp [writesEaddr]; omega
    rw [hCore, CoreSt.entered, hFilter, hCause, hEaddr]
    simp only [hStall, Bool.false_eq_true, if_false]
  · have hRaised : s.raiseInt c 0x13 = s.setCore c { s.core c with ints := [0x13] } := by simp [State.raiseInt, hInts]
    have hCore := s.core_setCore_same c { s.core c with ints := [0x13] }
    have hTaken := execInterruptTaken_ready (debug := true) (code := 0x13) done hRaised
      ((State.atBoundary_setCore (by rfl)).trans hBoundary) (by rw [hCore]; exact hStall) (by rw [hCore]; exact hAsync)
      (by rw [hCore]; exact hIe) (by rw [hCore]; exact hExl) (by rw [hCore]; rfl)
    obtain ⟨n, hEntered⟩ := (s.setCore c { s.core c with ints := [0x13] }).core_interrupted c 0x13
    rw [hCore] at hEntered
    refine ⟨_, hTaken, ?_, ?_, ?_, State.state_interrupted _ _ _⟩ <;> rw [hEntered] <;> rfl
  · rw [execWindowAsync_error hPosted, State.takeAsync_held ((s.atBoundary_errorBack c g r).trans hBoundary)]
    rfl
  · have hCore := s.core_errorBack c g r
    have hExec := execWindowAsync_error hPosted
    rw [State.takeAsync_taken (a := g) (rest := []) (by rw [hCore, hAsync]; rfl)
      ((s.atBoundary_errorBack c g r).trans hBoundary)] at hExec
    have hTook := State.asyncTaken_took (s := s.errorBack c g r) (c := c) (a := g) (rest := [])
    have hAfter := hTook.afterCore ((s.errorBack c g r).obj .coreState c)
    have hEntered := hAfter.core
    rw [State.core_setCore_same, hCore] at hEntered
    refine ⟨_, hExec, ?_, ?_, ?_, ?_, ?_, ?_, hAfter.state, ?_⟩
    · rw [hEntered]; rfl
    · rw [hEntered]; rfl
    · rw [hEntered]; rfl
    · rw [hEntered]; rfl
    · rw [hEntered]; rfl
    · rw [hEntered]; rfl
    · rw [State.afterCore_handler hTook.state]
      split
      · rw [State.obj_withdrawPreempt, State.asyncCount, State.obj_errorBack]
      · rw [State.asyncCount, State.obj_errorBack]
  · have hExec := execWindowLoadResponse_ok elem hBoundary hStall hLoad hPlace hStatus
    obtain ⟨x, hCore⟩ := s.core_resumed c g
    have hNext' : ((s.resumed c g).core c).moveNext m = some ((s.core c).ra m.an) := by rw [hCore]; exact hNext
    have hAlign' : ((s.resumed c g).core c).moveAddr m % moveBytes m = 0 := by
      rw [hCore, show moveBytes m = 4 by simp [moveBytes, hSize]]
      exact hAlign
    have hPlace' : (s.resumed c g).movePlace ((s.resumed c g).core c) m = .window win g true := by rw [hCore]; exact hPlace
    have hl' : ((s.resumed c g).core c).sst.ld = 0 := by rw [hCore]; exact hl
    have hUp' : (s.resumed c g).upsets = [] := hUp
    have hCommit := State.commit_load (State.schedCall c) hLoad hUp' hl'
    rw [State.runBundle_commits (w := oneOp sl (.move m)) rfl rfl rfl (by simp [oneOp])
      (by simp [oneOp, State.opCauses, State.moveCauses_window hUp' hNext' hAlign' hPlace']) (.inl rfl),
      show (oneOp sl (.move m)).ops = [.move m] from rfl, hCommit, State.afterCore_same _ _ _ (by simp)] at hExec
    refine ⟨_, hExec, ?_, ?_, ?_, rfl, rfl⟩
    · rw [State.core_setPc, State.core_setCore_same]
      refine (State.rd_applyOp_load hLoad hSize).trans ?_
      rw [hPlace', State.readPlace_window_of_none hUp']
      rfl
    · rw [State.core_setPc, State.core_setCore_same]
      rfl
    · rw [State.obj_setPc_same, show (s.resumed c g).pc c = s.pc c from rfl]
      omega
end
end

section
/-! SUPPORT. The compact words of a Wylen core (R62, R80, R82): two moves of X and Y memory in one bundle, with a multiply beside
them or none. -/

namespace Sys2Proof.Machine

/-! ### The two moves of a compact word (R82) -/

/-- An X move and a Y move of one word: of one size, 32 or 128 bits, and by different address registers. -/
structure movePair (m n : Move) : Prop where
  inX : m.y = false
  inY : n.y = true
  an : m.an ≠ n.an
  same : m.size = n.size
  size : m.size = 2 ∨ m.size = 4

/-- The fields of a compact move: its memory, its size, and the four address registers of that memory. -/
structure compactFields (y big : Bool) (m : Move) : Prop where
  memory : m.y = y
  size : m.size = if big then 4 else 2
  low : (if y then 4 else 0) ≤ m.an
  high : m.an < (if y then 4 else 0) + 4

theorem bits_two_lt (w : Nat) {hi lo : Nat} (h : hi = lo + 1) : bits w hi lo < 4 := by
  unfold bits
  rw [show hi - lo + 1 = 2 by omega]
  omega

theorem compactP_fields {y big : Bool} {w : Nat} {m : Move} (h : compactP y big w = .move m) : compactFields y big m := by
  have hAn := bits_two_lt w (hi := 7) (lo := 6) rfl
  unfold compactP at h
  dsimp only at h
  split at h
  · cases h
  · split at h <;> cases h <;> exact ⟨rfl, rfl, by dsimp only; omega, by dsimp only; omega⟩

theorem compactQ_fields (y big : Bool) (w : Nat) : ∃ m, compactQ y big w = .move m ∧ compactFields y big m := by
  have hAn := bits_two_lt w (hi := 2) (lo := 1) rfl
  exact ⟨_, rfl, rfl, rfl, by dsimp only; omega, by dsimp only; omega⟩

theorem compactFields.pair {big : Bool} {m n : Move} (hm : compactFields false big m) (hn : compactFields true big n) :
    movePair m n := by
  have hHigh := hm.high
  have hLow := hn.low
  refine ⟨hm.memory, hn.memory, ?_, hm.size.trans hn.size.symm, ?_⟩
  · simp at hHigh hLow
    omega
  · rw [hm.size]
    cases big <;> simp

theorem decodeP_pair {w : Nat} {m n : Move} (h : (decodeP w).ops = [.move m, .move n]) : movePair m n := by
  simp only [decodeP, List.cons.injEq, and_true] at h
  exact (compactP_fields h.1).pair (compactP_fields h.2)

theorem decodeQ_pair {w : Nat} {mul : CoreOp} {m n : Move} (h : (decodeQ w).ops = [mul, .move m, .move n]) :
    movePair m n ∧ ∃ x, mul = compactMul x := by
  obtain ⟨m', hm', hm⟩ := compactQ_fields false (bitAt w 28) (bits w 15 8)
  obtain ⟨n', hn', hn⟩ := compactQ_fields true (bitAt w 28) (bits w 7 0)
  simp only [decodeQ, hm', hn', List.cons.injEq, CoreOp.move.injEq, and_true] at h
  obtain ⟨hMul, rfl, rfl⟩ := h
  exact ⟨hm.pair hn, _, hMul.symm⟩

/-! ### What a move leaves in the registers (R53, R62, R71) -/

section
variable {s : State} {c : Nat} {old k : CoreSt} {m : Move} {next : Nat}

theorem CoreSt.ra_wa (k : CoreSt) (n r : Nat) {v : Nat} (h : v < 16777216) : (k.wa n v).ra r = if r = n then v else k.ra r := by
  simp only [CoreSt.ra, CoreSt.wa]
  split
  next hSame =>
    rw [hSame, tabGet_tabSet_same, BitVec.toNat_ofNat]
    omega
  next hOther => rw [tabGet_tabSet_ne _ _ _ _ hOther]

/-- A move's address register takes the address after it; a form without an update leaves it (R71). -/
theorem State.moved_address (hNext : old.moveNext m = some next) (hBound : next < 16777216) (hSame : k.ra m.an = old.ra m.an)
    (r : Nat) : (if opUpdates (.move m) = [] then k else k.wa m.an next).ra r = if r = m.an then next else k.ra r := by
  split
  next hKeep =>
    split
    next hHere =>
      rw [hHere, hSame]
      cases hUpd : m.upd <;> simp_all [opUpdates, CoreSt.moveNext]
    next => rfl
  next => exact k.ra_wa m.an r hBound

/-- A move of 32 or 128 bits changes address registers, D registers and V registers alone. -/
theorem State.applyOp_move_frame : s.applyOp c old (.move m) k
    = { k with d := (s.applyOp c old (.move m) k).d, a := (s.applyOp c old (.move m) k).a, v := (s.applyOp c old (.move m) k).v } := by
  unfold State.applyOp
  dsimp only
  cases old.moveNext m with
  | none => split_ifs <;> rfl
  | some a => split_ifs <;> rfl

/-- The registers after a move of 32 or 128 bits: its address, and what it loaded. -/
theorem State.applyOp_move (hSize : m.size = 2 ∨ m.size = 4) (hNext : old.moveNext m = some next) :
    s.applyOp c old (.move m) k =
      let z := if opUpdates (.move m) = [] then k else k.wa m.an next
      if m.store then z
      else if m.size = 2 then z.wd m.reg (BitVec.ofNat 32 (s.readPlace c (moveBytes m) (s.movePlace old m)))
      else z.wv m.reg (BitVec.ofNat 128 (s.readPlace c (moveBytes m) (s.movePlace old m))) := by
  rcases hSize with hSize | hSize <;> simp [State.applyOp, hNext, hSize]

theorem State.ra_applyOp_move (hSize : m.size = 2 ∨ m.size = 4) (hNext : old.moveNext m = some next) (hBound : next < 16777216)
    (hSame : k.ra m.an = old.ra m.an) (r : Nat) :
    (s.applyOp c old (.move m) k).ra r = if r = m.an then next else k.ra r := by
  rw [State.applyOp_move hSize hNext, ← State.moved_address hNext hBound hSame]
  dsimp only
  split_ifs <;> rfl

theorem CoreSt.rd_wd (k : CoreSt) (n r : Nat) (x : Word) : (k.wd n x).rd r = if r = n then x else k.rd r := by
  split
  next h => rw [h, CoreSt.rd_wd_same]
  next h => exact k.rd_wd_ne x h

theorem CoreSt.rv_wv (k : CoreSt) (n r : Nat) (x : BitVec 128) : (k.wv n x).rv r = if r = n then x else k.rv r := by
  simp only [CoreSt.rv, CoreSt.wv]
  split
  next h => rw [h, tabGet_tabSet_same]
  next h => rw [tabGet_tabSet_ne _ _ _ _ h]

theorem State.rd_applyOp_move (hSize : m.size = 2 ∨ m.size = 4) (hNext : old.moveNext m = some next) (r : Nat) :
    (s.applyOp c old (.move m) k).rd r = if m.store = false ∧ m.size = 2 ∧ r = m.reg
      then BitVec.ofNat 32 (s.readPlace c (moveBytes m) (s.movePlace old m)) else k.rd r := by
  have hMoved : (if opUpdates (.move m) = [] then k else k.wa m.an next).rd r = k.rd r := by split <;> rfl
  rw [State.applyOp_move hSize hNext]
  generalize (if opUpdates (.move m) = [] then k else k.wa m.an next) = z at hMoved
  dsimp only
  split
  next hStore => rw [hMoved, if_neg (by simp [hStore])]
  next hStore =>
    split
    next hTwo =>
      rw [CoreSt.rd_wd, hMoved]
      simp [hStore, hTwo]
    next hTwo =>
      rw [if_neg (by simp [hTwo])]
      exact hMoved

theorem State.rv_applyOp_move (hSize : m.size = 2 ∨ m.size = 4) (hNext : old.moveNext m = some next) (r : Nat) :
    (s.applyOp c old (.move m) k).rv r = if m.store = false ∧ m.size = 4 ∧ r = m.reg
      then BitVec.ofNat 128 (s.readPlace c (moveBytes m) (s.movePlace old m)) else k.rv r := by
  have hMoved : (if opUpdates (.move m) = [] then k else k.wa m.an next).rv r = k.rv r := by split <;> rfl
  rw [State.applyOp_move hSize hNext]
  generalize (if opUpdates (.move m) = [] then k else k.wa m.an next) = z at hMoved
  dsimp only
  split
  next hStore => rw [hMoved, if_neg (by simp [hStore])]
  next hStore =>
    split
    next hTwo =>
      rw [if_neg (by simp [hTwo])]
      exact hMoved
    next hTwo =>
      rw [CoreSt.rv_wv, hMoved]
      simp [hStore, hSize.resolve_left hTwo]

/-- A move without an exception puts what it loaded into its register (R53, R62). -/
theorem loadedIs_of_reads {k' : CoreSt} (hSize : m.size = 2 ∨ m.size = 4) (hUp : s.upsets = [])
    (hPlace : s.movePlace (s.core c) m = .local ((s.core c).moveAddr m))
    (hD : m.size = 2 → k'.rd m.reg = BitVec.ofNat 32 (s.readPlace c (moveBytes m) (s.movePlace (s.core c) m)))
    (hV : m.size = 4 → k'.rv m.reg = BitVec.ofNat 128 (s.readPlace c (moveBytes m) (s.movePlace (s.core c) m))) :
    loadedIs s c k' m := by
  rw [hPlace, State.readPlace_local_of_none hUp] at hD hV
  refine ⟨fun h => ?_, hD, fun h => ?_, hV⟩
  · omega
  · omega

end

/-! ### Stores to X and Y memory -/

theorem wordKey_erased (l : MemLoc) : tabSet 0 ([] : Tab Nat) (wordKey l) 0 = [] := rfl

/-- A rewrite of a core's word leaves a device alone that has no flipped bits and no log entry (R332). -/
theorem State.wordWritten_quiet {s : State} (hUp : s.upsets = []) (hLog : s.eccLog = []) (c a : Nat) :
    s.wordWritten (.core c a) = s := by
  have hFlips : s.setUpset (.core c a) 0 = s := by
    rw [State.setUpset, hUp, wordKey_erased, ← hUp]
  have hFind : ∀ f i m p, s.findLog m p f i = none := by
    intro f
    induction f with
    | zero => intros; rfl
    | succ f ih =>
      intro i m p
      have hFree : (s.logEntry m i).st = 0 := by simp [State.logEntry, hLog, tabGet, tabFind, LogEntry.reset]
      simp [State.findLog, hFree, ih]
  unfold State.wordWritten State.logWrite
  dsimp only
  rw [hFlips, hFind]

theorem State.storePlace_local {s : State} (hUp : s.upsets = []) (hLog : s.eccLog = []) (c a : Nat) (l : List Byte) :
    s.storePlace c (.local a) l = s.writeCore c a l := by
  have hWords : ∀ (u : State) (r : List Nat), u.upsets = [] → u.eccLog = [] →
      r.foldl (fun (s : State) i => s.wordWritten (.core c (a / 8 * 8 + 8 * i))) u = u := by
    intro u r hUp hLog
    induction r with
    | nil => rfl
    | cons i r ih => rw [List.foldl_cons, State.wordWritten_quiet hUp hLog, ih]
  simp only [State.storePlace, State.placeDemand_of_none hUp, ite_self]
  exact hWords _ _ hUp hLog

/-- A byte of a core's memory after a write of bytes. -/
theorem State.coreByte_writeCore (s : State) (c a : Nat) (l : List Byte) (i x : Nat) : (s.writeCore c a l).coreByte i x
    = if h : c * 16777216 + a ≤ i * 16777216 + x ∧ i * 16777216 + x - (c * 16777216 + a) < l.length
      then l[i * 16777216 + x - (c * 16777216 + a)] else s.coreByte i x :=
  tabGet_memWrite _ _ _ _

theorem State.coreBytes_congr {s t : State} {c a n : Nat} (h : ∀ i, i < n → t.coreByte c (a + i) = s.coreByte c (a + i)) :
    t.coreBytes c a n = s.coreBytes c a n := by
  induction n generalizing a with
  | zero => rfl
  | succ n ih =>
    have hFirst := h 0 (by omega)
    simp only [Nat.add_zero] at hFirst
    rw [State.coreBytes, State.coreBytes, hFirst, ih fun i hi => by
      rw [show a + 1 + i = a + (i + 1) by omega]
      exact h (i + 1) (by omega)]

/-- The bytes written are the bytes read. -/
theorem State.coreBytes_writeCore_same (s : State) (c a : Nat) (l : List Byte) : (s.writeCore c a l).coreBytes c a l.length = l := by
  have hRead : ∀ n (t : State) (b : Nat) (r : List Byte), r.length = n → (∀ i (hi : i < r.length), t.coreByte c (b + i) = r[i]) →
      t.coreBytes c b n = r := by
    intro n
    induction n with
    | zero =>
      intro t b r hr _
      rw [List.length_eq_zero_iff.mp hr]
      rfl
    | succ n ih =>
      intro t b r hr h
      cases r with
      | nil => cases hr
      | cons x r =>
        have hFirst := h 0 (by simp)
        rw [State.coreBytes, ih t (b + 1) r (by simpa using hr) fun i hi => by
          have hNext := h (i + 1) (by simpa using hi)
          rw [show b + 1 + i = b + (i + 1) by omega]
          exact hNext]
        exact congrArg (· :: r) hFirst
  refine hRead _ _ _ _ rfl fun i hi => ?_
  rw [State.coreByte_writeCore, dif_pos (by omega)]
  congr 1
  omega

/-- A move of X or Y memory, in order as R58, R59 and R72 ask. -/
theorem State.movePlace_local (s : State) {k : CoreSt} {m : Move} (h : inData (k.moveAddr m) (moveBytes m)) :
    s.movePlace k m = .local (k.moveAddr m) := by
  have hPos : 0 < moveBytes m := Nat.two_pow_pos _
  unfold State.movePlace State.place
  rcases h with h | h
  · rw [if_pos (by omega)]
  · rw [if_neg (by omega), if_pos (by omega)]

/-- The store of a move, if it is one. -/
def State.stored (s : State) (c : Nat) (old : CoreSt) (m : Move) : State :=
  if m.store then s.writeCore c (old.moveAddr m) (storeData old m) else s

theorem State.stored_frame (s : State) (c : Nat) (old : CoreSt) (m : Move) :
    s.stored c old m = { s with coreMem := (s.stored c old m).coreMem } := by
  unfold State.stored
  split <;> rfl

theorem State.storeOps_move {s : State} (hUp : s.upsets = []) (hLog : s.eccLog = []) (c : Nat) {old : CoreSt} {m : Move}
    (h : inData (old.moveAddr m) (moveBytes m)) (r : List CoreOp) :
    s.storeOps c old (.move m :: r) = (s.stored c old m).storeOps c old r := by
  simp only [State.storeOps, State.movePlace_local _ h, State.storePlace_local hUp hLog, State.stored]

/-! ### The operation beside the moves -/

/-- An operation of an accumulator alone: what a Q word may hold beside its moves. -/
def accOnly : CoreOp → Bool
  | .mpy .. | .mac .. | .msu .. | .clr _ => true
  | _ => false

/-- What an operation of an accumulator alone leaves of the other registers, and the level of repeats it keeps. -/
theorem State.applyOp_accOnly {mul : CoreOp} (h : accOnly mul = true) (s : State) (c : Nat) (old k : CoreSt) :
    s.applyOp c old mul k = { k with acc := (s.applyOp c old mul k).acc, sst := (s.applyOp c old mul k).sst }
      ∧ (s.applyOp c old mul k).sst.ld = k.sst.ld := by
  have hAcc : ∀ n q f, (k.accOp old n q f).sst.ld = k.sst.ld := by
    intro n q f
    rw [CoreSt.sst_accOp]
    dsimp only
    split <;> rfl
  cases mul with
  | mpy n a ha b hb sh f => exact ⟨k.accOp_frame old n _ f, hAcc _ _ _⟩
  | mac n a ha b hb sh f => exact ⟨k.accOp_frame old n _ f, hAcc _ _ _⟩
  | msu n a ha b hb sh f => exact ⟨k.accOp_frame old n _ f, hAcc _ _ _⟩
  | clr n => exact ⟨rfl, rfl⟩
  | _ => cases h

/-- A compact multiply: its accumulator's new value, and that no cause of an exception stands against it (R66, R68, R82). -/
theorem compactMul_spec {x : Nat} {old : CoreSt} {n : Nat} {q : Int} (h : compactResult old (compactMul x) = some (n, q)) (s : State)
    (c pc : Nat) (k : CoreSt) :
    accOnly (compactMul x) = true ∧ s.opCauses c old pc (compactMul x) = []
      ∧ (s.applyOp c old (compactMul x) k).racc n = (accResult old.sst.sat q).1
      ∧ ∀ r, r ≠ n → (s.applyOp c old (compactMul x) k).racc r = k.racc r := by
  unfold compactMul at *
  dsimp only at *
  split at h
  · cases h
    exact ⟨rfl, rfl, k.racc_accOp_same old _ _ _, fun r hr => k.racc_accOp_ne old _ _ hr⟩
  · cases h
    exact ⟨rfl, rfl, k.racc_accOp_same old _ _ _, fun r hr => k.racc_accOp_ne old _ _ hr⟩
  · cases h
    exact ⟨rfl, rfl, k.racc_accOp_same old _ _ _, fun r hr => k.racc_accOp_ne old _ _ hr⟩
  · cases h
    refine ⟨rfl, rfl, ?_, fun r hr => k.racc_wacc_ne _ hr⟩
    rw [accResult_of_fits _ (by decide)]
    exact k.racc_wacc_same _ (by norm_num)
  · cases h

/-! ### A compact word commits (R62, R80) -/

theorem accOnly_kind {o : CoreOp} (h : accOnly o = true) : isControl o = false ∧ isGather o = false := by
  cases o with
  | mpy | mac | msu | clr => exact ⟨rfl, rfl⟩
  | _ => cases h

theorem accOnly_ne {o x : CoreOp} (h : accOnly o = true) (hx : accOnly x = false) : decide (o = x) = false :=
  decide_eq_false fun e => by
    rw [e, hx] at h
    cases h

theorem State.loadOps_of_none {s : State} (h : s.upsets = []) (c : Nat) (old : CoreSt) (l : List CoreOp) : s.loadOps c old l = s := by
  induction l with
  | nil => rfl
  | cons o r ih =>
    cases o with
    | move m =>
      rw [State.loadOps, State.placeDemand_of_none h, ite_self]
      exact ih
    | _ => exact ih

section
variable {pre : List CoreOp} {m n : Move} (hPre : ∀ o ∈ pre, accOnly o = true)
include hPre

/-- Every member of a compact word lacks a property that moves and accumulator operations lack. -/
theorem compact_none {p : CoreOp → Bool} (hMove : ∀ x, p (.move x) = false) (hAcc : ∀ o, accOnly o = true → p o = false) {o : CoreOp}
    (ho : o ∈ pre ++ [CoreOp.move m, CoreOp.move n]) : p o = false := by
  rcases List.mem_append.mp ho with ho | ho
  · exact hAcc o (hPre o ho)
  · rcases List.mem_cons.mp ho with rfl | ho
    · exact hMove m
    · obtain rfl := List.mem_singleton.mp ho
      exact hMove n

theorem compact_any {p : CoreOp → Bool} (hMove : ∀ x, p (.move x) = false) (hAcc : ∀ o, accOnly o = true → p o = false) :
    (pre ++ [CoreOp.move m, CoreOp.move n]).any p = false := by
  rw [List.any_eq_false]
  exact fun o ho => by simp [compact_none hPre hMove hAcc ho]

theorem compact_find {p : CoreOp → Bool} (hMove : ∀ x, p (.move x) = false) (hAcc : ∀ o, accOnly o = true → p o = false) :
    (pre ++ [CoreOp.move m, CoreOp.move n]).find? p = none := by
  rw [List.find?_eq_none]
  exact fun o ho => by simp [compact_none hPre hMove hAcc ho]

omit hPre in
theorem filter_accOnly_none (hPre : ∀ o ∈ pre, accOnly o = true) {p : CoreOp → Bool} (h : ∀ o, accOnly o = true → p o = false) :
    pre.filter p = [] := by
  rw [List.filter_eq_nil_iff]
  exact fun o ho => by simp [h o (hPre o ho)]

omit hPre in
theorem filter_accOnly_all (hPre : ∀ o ∈ pre, accOnly o = true) {p : CoreOp → Bool} (h : ∀ o, accOnly o = true → p o = true) :
    pre.filter p = pre := by
  rw [List.filter_eq_self]
  exact fun o ho => h o (hPre o ho)

/-- The X move goes first, the rest keep their order (R62). -/
theorem xThenY_compact (hx : m.y = false) (hy : n.y = true) :
    xThenY (pre ++ [.move m, .move n]) = .move m :: (pre ++ [.move n]) := by
  unfold xThenY
  rw [List.filter_append, List.filter_append, filter_accOnly_none hPre, filter_accOnly_all hPre]
  · simp [hx, hy]
  · intro o ho
    cases o with
    | move => cases ho
    | _ => rfl
  · intro o ho
    cases o with
    | move => cases ho
    | _ => rfl

theorem dupLoad_compact : dupLoad (pre ++ [.move m, .move n]) = dupLoad [.move m, .move n] := by
  unfold dupLoad
  rw [List.filter_append, filter_accOnly_none hPre, List.nil_append]
  intro o ho
  cases o with
  | move => cases ho
  | _ => rfl

theorem State.storeOps_compact (s : State) (c : Nat) (old : CoreSt) (r : List CoreOp) : s.storeOps c old (pre ++ r) = s.storeOps c old r := by
  induction pre with
  | nil => rfl
  | cons o p ih =>
    have hAcc := hPre o List.mem_cons_self
    have hRest := ih fun o ho => hPre o (List.mem_cons_of_mem _ ho)
    cases o with
    | mpy | mac | msu | clr => exact hRest
    | _ => cases hAcc

end

/-- The registers after a compact word: the X move, what stands beside the moves, and the Y move, all from the old registers (R80);
two loads of one register leave it open (R62). -/
def State.pairRegs (s : State) (c : Nat) (pre : List CoreOp) (m n : Move) : CoreSt :=
  let old := s.core c
  let k := s.applyOp c old (.move n) (pre.foldl (fun k op => s.applyOp c old op k) (s.applyOp c old (.move m) old))
  match dupLoad [.move m, .move n] with
  | some (true, r) => k.wv r (BitVec.ofNat 128 s.free)
  | some (false, r) => k.wd r (BitVec.ofNat 32 s.free)
  | none => k

/-- The state after a compact word, but for the PC and the stores. -/
def State.pairSpent (s : State) (c : Nat) (pre : List CoreOp) (m n : Move) : State :=
  (if (dupLoad [.move m, .move n]).isSome then s.freeUsed else s).setCore c
    (s.spendCycles (s.core c) (pre ++ [.move m, .move n]) { s.pairRegs c pre m n with stall := none })

/-- The state after a compact word. -/
def State.pairDone (s : State) (c : Nat) (pre : List CoreOp) (m n : Move) : State :=
  (((s.pairSpent c pre m n).stored c (s.core c) m).stored c (s.core c) n).setPc c ((s.pc c / 8 + 1) * 8)

/-- The stores of a compact word: the X store, then the Y store (R62). -/
theorem State.storeOps_pair {u : State} {c : Nat} {old : CoreSt} {pre : List CoreOp} {m n : Move} (hPre : ∀ o ∈ pre, accOnly o = true)
    (hUp : u.upsets = []) (hLog : u.eccLog = []) (hm : inData (old.moveAddr m) (moveBytes m))
    (hn : inData (old.moveAddr n) (moveBytes n)) :
    u.storeOps c old (.move m :: (pre ++ [.move n])) = (u.stored c old m).stored c old n := by
  have hUp' : (u.stored c old m).upsets = [] := by rw [State.stored_frame]; exact hUp
  have hLog' : (u.stored c old m).eccLog = [] := by rw [State.stored_frame]; exact hLog
  rw [State.storeOps_move hUp hLog c hm, State.storeOps_compact hPre, State.storeOps_move hUp' hLog' c hn]
  rfl

theorem State.commit_compact {s : State} {c : Nat} {pre : List CoreOp} {m n : Move} (sched : CoreSt → Nat → Nat → State → State)
    (hPre : ∀ o ∈ pre, accOnly o = true) (hPair : movePair m n) (hUp : s.upsets = []) (hLog : s.eccLog = [])
    (hm : inData ((s.core c).moveAddr m) (moveBytes m)) (hn : inData ((s.core c).moveAddr n) (moveBytes n))
    (hl : (s.pairRegs c pre m n).sst.ld = 0) :
    s.commit c (pre ++ [.move m, .move n]) sched = s.pairDone c pre m n := by
  have hNext : s.nextPc c (s.core c) (s.pairRegs c pre m n) (pre ++ [.move m, .move n])
      = (s.pairRegs c pre m n, (s.pc c / 8 + 1) * 8) := by
    have hFind : (pre ++ [CoreOp.move m, CoreOp.move n]).find? isControl = none :=
      compact_find hPre (fun _ => rfl) fun o ho => (accOnly_kind ho).1
    simp [State.nextPc, hFind, hl, loopEnd, bundleIndex]
  have hRet : (pre ++ [CoreOp.move m, CoreOp.move n]).any (fun o => decide (o = .ret) || decide (o = .rte)) = false := by
    refine compact_any hPre (fun _ => by simp) fun o ho => ?_
    rw [accOnly_ne ho rfl, accOnly_ne ho rfl]
    rfl
  have hRte : (pre ++ [CoreOp.move m, CoreOp.move n]).any (fun o => decide (o = .rte)) = false :=
    compact_any hPre (fun _ => by simp) fun o ho => accOnly_ne ho rfl
  have hBkpt : (pre ++ [CoreOp.move m, CoreOp.move n]).any (fun o => decide (o = .bkpt)) = false :=
    compact_any hPre (fun _ => by simp) fun o ho => accOnly_ne ho rfl
  unfold State.commit
  simp only [xThenY_compact hPre hPair.inX hPair.inY, dupLoad_compact hPre, hRet, hRte, hBkpt]
  rw [compact_find hPre]
  · unfold State.pairDone State.pairSpent State.pairRegs at *
    have hStores : ∀ u : State, u.upsets = [] → u.eccLog = [] → u.storeOps c (s.core c) (.move m :: (pre ++ [.move n]))
        = (u.stored c (s.core c) m).stored c (s.core c) n := fun u hu hv => State.storeOps_pair hPre hu hv hm hn
    have hLoads : ∀ u : State, u.upsets = [] → u.loadOps c (s.core c) (pre ++ [.move m, .move n]) = u :=
      fun u hu => State.loadOps_of_none hu _ _ _
    rcases hDup : dupLoad [.move m, .move n] with _ | ⟨_ | _, r⟩ <;>
    · simp only [hDup, List.foldl_cons, List.foldl_append, List.foldl_nil] at hNext ⊢
      rw [hNext]
      simp [hLoads, hStores, State.setCore, State.freeUsed, hUp, hLog]
  · exact fun _ => rfl
  · intro o ho
    cases o with
    | sched => cases ho
    | _ => rfl

/-! ### The registers after a compact word -/

/-- Operations of an accumulator alone leave every other register. -/
theorem State.foldl_accOnly {pre : List CoreOp} (hPre : ∀ o ∈ pre, accOnly o = true) (s : State) (c : Nat) (old k : CoreSt) :
    let f := pre.foldl (fun k op => s.applyOp c old op k) k
    f = { k with acc := f.acc, sst := f.sst } ∧ f.sst.ld = k.sst.ld := by
  induction pre generalizing k with
  | nil => exact ⟨rfl, rfl⟩
  | cons o r ih =>
    obtain ⟨hStep, hLd⟩ := State.applyOp_accOnly (hPre o List.mem_cons_self) s c old k
    obtain ⟨hRest, hLd'⟩ := ih (fun o ho => hPre o (List.mem_cons_of_mem _ ho)) (s.applyOp c old o k)
    refine ⟨?_, hLd'.trans hLd⟩
    rw [List.foldl_cons, hRest, hStep]

theorem dupLoad_pair (m n : Move) (same : m.size = n.size) : dupLoad [.move m, .move n]
    = if m.store = false ∧ n.store = false ∧ m.reg = n.reg then some (decide (m.size = 4), m.reg) else none := by
  cases hm : m.store <;> cases hn : n.store <;> simp [dupLoad, hm, hn, same]

section
variable {s : State} {c : Nat} {pre : List CoreOp} {m n : Move} {nx ny : Nat}

theorem localMove.inData (hSize : localMove s c m nx) : inData ((s.core c).moveAddr m) (moveBytes m) := by
  obtain ⟨-, -, -, -, -, hIn⟩ := hSize
  exact hIn

theorem localMove.next (hSize : localMove s c m nx) : (s.core c).moveNext m = some nx ∧ nx < 16777216 := by
  obtain ⟨-, -, hNext, hBound, -, -⟩ := hSize
  exact ⟨hNext, hBound⟩

/-- The registers before the Y move: the X move, and what stands beside the moves. -/
def State.besideRegs (s : State) (c : Nat) (pre : List CoreOp) (m : Move) : CoreSt :=
  pre.foldl (fun k op => s.applyOp c (s.core c) op k) (s.applyOp c (s.core c) (.move m) (s.core c))

theorem State.besideRegs_frame (hPre : ∀ o ∈ pre, accOnly o = true) : s.besideRegs c pre m
    = { s.applyOp c (s.core c) (.move m) (s.core c) with acc := (s.besideRegs c pre m).acc, sst := (s.besideRegs c pre m).sst } :=
  (State.foldl_accOnly hPre s c _ _).1

/-- Two loads of one register change that register alone; else the registers are those after the Y move (R62). -/
theorem State.pairRegs_regs (same : m.size = n.size) :
    let k := s.applyOp c (s.core c) (.move n) (s.besideRegs c pre m)
    s.pairRegs c pre m n = { k with d := (s.pairRegs c pre m n).d, v := (s.pairRegs c pre m n).v }
      ∧ (m.store = true ∨ n.store = true ∨ m.reg ≠ n.reg → s.pairRegs c pre m n = k)
      ∧ ∀ r, r ≠ m.reg → (s.pairRegs c pre m n).rd r = k.rd r ∧ (s.pairRegs c pre m n).rv r = k.rv r := by
  unfold State.pairRegs State.besideRegs
  dsimp only
  rw [dupLoad_pair m n same]
  generalize s.applyOp c (s.core c) (.move n) _ = k
  by_cases hDup : m.store = false ∧ n.store = false ∧ m.reg = n.reg
  · rw [if_pos hDup]
    obtain ⟨hm, hn, hReg⟩ := hDup
    have hOne : ¬(m.store = true ∨ n.store = true ∨ m.reg ≠ n.reg) := by simp [hm, hn, hReg]
    rcases decide (m.size = 4) with _ | _
    · exact ⟨rfl, fun h => absurd h hOne, fun r hr => ⟨k.rd_wd_ne _ hr, rfl⟩⟩
    · refine ⟨rfl, fun h => absurd h hOne, fun r hr => ⟨rfl, ?_⟩⟩
      rw [CoreSt.rv_wv, if_neg hr]
  · rw [if_neg hDup]
    exact ⟨rfl, fun _ => rfl, fun r _ => ⟨rfl, rfl⟩⟩

section
variable (hPre : ∀ o ∈ pre, accOnly o = true) (hPair : movePair m n)
include hPre hPair

theorem State.ld_pairRegs (hl : (s.core c).sst.ld = 0) : (s.pairRegs c pre m n).sst.ld = 0 := by
  obtain ⟨hFrame, -, -⟩ := State.pairRegs_regs (s := s) (c := c) (pre := pre) hPair.same
  rw [hFrame]
  dsimp only
  rw [State.sst_applyOp_move]
  exact (State.foldl_accOnly hPre s c _ _).2.trans ((congrArg Sst.ld (State.sst_applyOp_move _ _ _ _ _)).trans hl)

omit hPre in
theorem State.acc_pairRegs : (s.pairRegs c pre m n).acc = (s.besideRegs c pre m).acc := by
  obtain ⟨hFrame, -, -⟩ := State.pairRegs_regs (s := s) (c := c) (pre := pre) hPair.same
  rw [hFrame, State.applyOp_move_frame]

/-- Each address register has taken the address after its own move (R71). -/
theorem State.ra_pairRegs (hm : localMove s c m nx) (hn : localMove s c n ny) :
    (s.pairRegs c pre m n).ra m.an = nx ∧ (s.pairRegs c pre m n).ra n.an = ny := by
  obtain ⟨hFrame, -, -⟩ := State.pairRegs_regs (s := s) (c := c) (pre := pre) hPair.same
  have hFirst : ∀ r, (s.besideRegs c pre m).ra r = if r = m.an then nx else (s.core c).ra r := fun r => by
    rw [State.besideRegs_frame hPre]
    exact State.ra_applyOp_move hPair.size hm.next.1 hm.next.2 rfl r
  have hBoth : ∀ r, (s.pairRegs c pre m n).ra r = if r = n.an then ny else (s.besideRegs c pre m).ra r := fun r => by
    rw [hFrame]
    refine State.ra_applyOp_move (hPair.same ▸ hPair.size) hn.next.1 hn.next.2 ?_ r
    rw [hFirst, if_neg hPair.an.symm]
  rw [hBoth, hBoth, if_neg hPair.an, if_pos rfl, hFirst, if_pos rfl]
  exact ⟨rfl, rfl⟩

/-- A register that neither move names stays. -/
theorem State.pairRegs_others (hm : localMove s c m nx) (hn : localMove s c n ny) {r : Nat} (h₁ : r ≠ m.reg) (h₂ : r ≠ n.reg) :
    (s.pairRegs c pre m n).rd r = (s.core c).rd r ∧ (s.pairRegs c pre m n).rv r = (s.core c).rv r := by
  obtain ⟨-, -, hOther⟩ := State.pairRegs_regs (s := s) (c := c) (pre := pre) hPair.same
  obtain ⟨hRd, hRv⟩ := hOther r h₁
  rw [hRd, hRv, State.rd_applyOp_move (hPair.same ▸ hPair.size) hn.next.1, State.rv_applyOp_move (hPair.same ▸ hPair.size) hn.next.1,
    State.besideRegs_frame hPre]
  simp only [h₂, and_false, if_false]
  constructor
  · exact (State.rd_applyOp_move hPair.size hm.next.1 r).trans (by simp [h₁])
  · exact (State.rv_applyOp_move hPair.size hm.next.1 r).trans (by simp [h₁])

/-- The X load, unless the Y move loads the same register (R62). -/
theorem State.loadedIs_pairX (hUp : s.upsets = []) (hm : localMove s c m nx) (hn : localMove s c n ny) (hLoad : m.store = false)
    (hReg : n.store = true ∨ m.reg ≠ n.reg) : loadedIs s c (s.pairRegs c pre m n) m := by
  obtain ⟨-, hKeep, -⟩ := State.pairRegs_regs (s := s) (c := c) (pre := pre) hPair.same
  have hLater : ∀ z, ¬(n.store = false ∧ n.size = z ∧ m.reg = n.reg) := by
    rintro z ⟨hn, -, hSame⟩
    rcases hReg with h | h
    · simp [hn] at h
    · exact h hSame
  rw [hKeep (.inr hReg)]
  refine loadedIs_of_reads hPair.size hUp (s.movePlace_local hm.inData) (fun hz => ?_) (fun hz => ?_)
  · rw [State.rd_applyOp_move (hPair.same ▸ hPair.size) hn.next.1, if_neg (hLater 2), State.besideRegs_frame hPre]
    exact (State.rd_applyOp_move hPair.size hm.next.1 m.reg).trans (if_pos ⟨hLoad, hz, rfl⟩)
  · rw [State.rv_applyOp_move (hPair.same ▸ hPair.size) hn.next.1, if_neg (hLater 4), State.besideRegs_frame hPre]
    exact (State.rv_applyOp_move hPair.size hm.next.1 m.reg).trans (if_pos ⟨hLoad, hz, rfl⟩)

omit hPre in
/-- The Y load, unless the X move loads the same register (R62). -/
theorem State.loadedIs_pairY (hUp : s.upsets = []) (hn : localMove s c n ny) (hLoad : n.store = false)
    (hReg : m.store = true ∨ m.reg ≠ n.reg) : loadedIs s c (s.pairRegs c pre m n) n := by
  obtain ⟨-, hKeep, -⟩ := State.pairRegs_regs (s := s) (c := c) (pre := pre) hPair.same
  have hSize : n.size = 2 ∨ n.size = 4 := hPair.same ▸ hPair.size
  rw [hKeep (hReg.imp_right .inr)]
  refine loadedIs_of_reads hSize hUp (s.movePlace_local hn.inData) (fun hz => ?_) (fun hz => ?_)
  · exact (State.rd_applyOp_move hSize hn.next.1 n.reg).trans (if_pos ⟨hLoad, hz, rfl⟩)
  · exact (State.rv_applyOp_move hSize hn.next.1 n.reg).trans (if_pos ⟨hLoad, hz, rfl⟩)

end

/-! ### The memory after a compact word -/

theorem length_leBytes (n v : Nat) : (leBytes n v).length = n := by
  induction n generalizing v with
  | zero => rfl
  | succ n ih => simp [leBytes, ih]

theorem length_storeData {k : CoreSt} (hSize : m.size = 2 ∨ m.size = 4) : (storeData k m).length = moveBytes m := by
  rcases hSize with h | h <;> simp [storeData, moveBytes, h, length_leBytes]

theorem State.coreBytes_stored {k : CoreSt} (hSize : m.size = 2 ∨ m.size = 4) (hStore : m.store = true) :
    (s.stored c k m).coreBytes c (k.moveAddr m) (moveBytes m) = storeData k m := by
  rw [State.stored, if_pos hStore, ← length_storeData (k := k) hSize]
  exact s.coreBytes_writeCore_same c _ _

/-- A byte that a move does not store stays. -/
theorem State.coreByte_stored {k : CoreSt} (hSize : m.size = 2 ∨ m.size = 4) {i x : Nat}
    (h : ¬(m.store = true ∧ c * 16777216 + k.moveAddr m ≤ i * 16777216 + x
      ∧ i * 16777216 + x < c * 16777216 + k.moveAddr m + moveBytes m)) : (s.stored c k m).coreByte i x = s.coreByte i x := by
  unfold State.stored
  split
  next hStore =>
    rw [State.coreByte_writeCore, dif_neg]
    rw [length_storeData hSize]
    exact fun ⟨h₁, h₂⟩ => h ⟨hStore, h₁, by omega⟩
  next => rfl

theorem State.core_of_cores {s t : State} (h : t.cores = s.cores) (i : Nat) : t.core i = s.core i := by
  rw [State.core, h, State.core]

/-- What a compact word changes besides the core memories: the core's registers and its PC. -/
theorem State.pairDone_frame : (s.pairDone c pre m n).cores = (s.pairSpent c pre m n).cores
    ∧ (s.pairDone c pre m n).objs = (s.setPc c ((s.pc c / 8 + 1) * 8)).objs ∧ (s.pairDone c pre m n).mem = s.mem := by
  rw [State.pairDone, State.stored_frame _ c _ n, State.stored_frame _ c _ m]
  unfold State.pairSpent
  split <;> exact ⟨rfl, rfl, rfl⟩

theorem State.coreByte_pairSpent (i x : Nat) : (s.pairSpent c pre m n).coreByte i x = s.coreByte i x := by
  unfold State.pairSpent
  split <;> rfl

theorem State.core_pairDone : (s.pairDone c pre m n).core c
    = s.spendCycles (s.core c) (pre ++ [.move m, .move n]) { s.pairRegs c pre m n with stall := none } := by
  obtain ⟨hCores, -, -⟩ := State.pairDone_frame (s := s) (c := c) (pre := pre) (m := m) (n := n)
  exact (State.core_of_cores hCores c).trans (State.core_setCore_same _ _ _)

theorem State.core_pairDone_ne {i : Nat} (h : i ≠ c) : (s.pairDone c pre m n).core i = s.core i := by
  obtain ⟨hCores, -, -⟩ := State.pairDone_frame (s := s) (c := c) (pre := pre) (m := m) (n := n)
  refine (State.core_of_cores hCores i).trans ((State.core_setCore_ne _ _ h).trans ?_)
  split <;> rfl

/-- A compact word moves what its two moves say (R62, R80, R82). -/
theorem State.bothMoved_pairDone (hPre : ∀ o ∈ pre, accOnly o = true) (hPair : movePair m n) (hUp : s.upsets = [])
    (hm : localMove s c m nx) (hn : localMove s c n ny) : bothMoved s (s.pairDone c pre m n) c m n nx ny := by
  obtain ⟨-, hObjs, hMem⟩ := State.pairDone_frame (s := s) (c := c) (pre := pre) (m := m) (n := n)
  obtain ⟨hX, hY⟩ := State.ra_pairRegs hPre hPair hm hn
  have hSize : n.size = 2 ∨ n.size = 4 := hPair.same ▸ hPair.size
  have hDone : ∀ i x, (s.pairDone c pre m n).coreByte i x
      = (((s.pairSpent c pre m n).stored c (s.core c) m).stored c (s.core c) n).coreByte i x := fun _ _ => rfl
  have hBytes : moveBytes m ≤ 16 := by rcases hPair.size with h | h <;> simp [moveBytes, h]
  unfold bothMoved
  rw [State.core_pairDone]
  refine ⟨fun hLoad hReg => State.loadedIs_pairX hPre hPair hUp hm hn hLoad hReg,
    fun hLoad hReg => State.loadedIs_pairY hPair hUp hn hLoad hReg, fun hStore hApart => ?_,
    fun hStore => (State.coreBytes_congr fun _ _ => hDone c _).trans (State.coreBytes_stored hSize hStore), fun i x h₁ h₂ => ?_, hX, hY,
    fun r h₁ h₂ => State.pairRegs_others hPre hPair hm hn h₁ h₂, fun i hi => State.core_pairDone_ne hi, ?_, hMem, ?_⟩
  · refine Eq.trans (State.coreBytes_congr (s := (s.pairSpent c pre m n).stored c (s.core c) m) fun i hi => ?_)
      (State.coreBytes_stored hPair.size hStore)
    refine (hDone c _).trans (State.coreByte_stored hSize ?_)
    rintro ⟨h₁, h₂, -⟩
    rcases hApart with h | h
    · simp [h] at h₁
    · omega
  · exact (hDone i x).trans <| (State.coreByte_stored hSize h₂).trans ((State.coreByte_stored hPair.size h₁).trans (State.coreByte_pairSpent i x))
  · rw [State.obj_congr hObjs, State.obj_setPc_same]
    omega
  · exact State.sameObjsBut.congr (.setObj (.refl s _) _ (by simp)) hObjs

end

/-! ### A compact word issues -/

theorem State.moveCauses_local {s : State} {c : Nat} {m : Move} {nx : Nat} (hUp : s.upsets = []) (h : localMove s c m nx) :
    s.moveCauses c (s.core c) m = [] := by
  obtain ⟨-, -, hNext, -, hAlign, hIn⟩ := h
  simp [State.moveCauses, hNext, hAlign, s.movePlace_local hIn, State.placePoison_of_none hUp]

/-- A compact word without a cause of an exception beside its moves commits (R80). -/
theorem State.issueWords_compact {s : State} {c : Nat} {w : BWord} {pre : List CoreOp} {m n : Move} {nx ny : Nat}
    (h : s.issues c = true) (hl : (s.core c).sst.ld = 0) (hUp : s.upsets = []) (hLog : s.eccLog = []) (hm : localMove s c m nx)
    (hn : localMove s c n ny) (hPre : ∀ o ∈ pre, accOnly o = true) (hCauses : ∀ o ∈ pre, s.opCauses c (s.core c) (s.pc c) o = [])
    (hPair : movePair m n) (hExt : w.ext = false) (hOps : w.ops = pre ++ [.move m, .move n]) :
    s.issueWords c ⟨w, nopWord⟩ = s.pairDone c pre m n := by
  have hState : (s.pairDone c pre m n).obj .coreState c = s.obj .coreState c := by
    obtain ⟨-, hObjs, -⟩ := State.pairDone_frame (s := s) (c := c) (pre := pre) (m := m) (n := n)
    rw [State.obj_congr hObjs, State.obj_setPc_of_ne _ _ _ _ (by decide)]
  have hLocal : ∀ o ∈ pre ++ [CoreOp.move m, CoreOp.move n], s.opCauses c (s.core c) (s.pc c) o = []
      ∧ s.isWindowLoad (s.core c) o = false := by
    intro o ho
    rcases List.mem_append.mp ho with ho | ho
    · refine ⟨hCauses o ho, ?_⟩
      have hAcc := hPre o ho
      cases o with
      | move => cases hAcc
      | _ => rfl
    · rcases List.mem_cons.mp ho with rfl | ho
      · exact ⟨State.moveCauses_local hUp hm, by simp [State.isWindowLoad, s.movePlace_local hm.inData]⟩
      · obtain rfl := List.mem_singleton.mp ho
        exact ⟨State.moveCauses_local hUp hn, by simp [State.isWindowLoad, s.movePlace_local hn.inData]⟩
  have hFence : CoreOp.fence ∉ w.ops := by
    intro hMem
    rw [hOps] at hMem
    simpa using compact_none hPre (p := fun o => decide (o = .fence)) (by simp) (fun o ho => accOnly_ne ho rfl) hMem
  have hRun : s.runBundle c ⟨w, nopWord⟩ false = (s.commit c w.ops (State.schedCall c)).afterCore (s.obj .coreState c) c := by
    refine State.runBundle_commits hExt ?_ ?_ hFence ?_ (.inr ?_)
    · rw [hOps]
      exact compact_any hPre (fun _ => rfl) fun o ho => (accOnly_kind ho).1
    · rw [hOps]
      exact compact_any hPre (fun _ => rfl) fun o ho => (accOnly_kind ho).2
    · rw [hOps, List.flatMap_eq_nil_iff]
      exact fun o ho => (hLocal o ho).1
    · rw [hOps, List.any_eq_false]
      exact fun o ho => by simp [(hLocal o ho).2]
  rw [State.issueWords, State.atIssue_issues _ h, hRun, hOps,
    State.commit_compact _ hPre hPair hUp hLog hm.inData hn.inData (State.ld_pairRegs hPre hPair hl), State.afterCore_same _ _ _ hState]

end Sys2Proof.Machine

section
open Sys2Proof Sys2Proof.Machine

/-- Settles O19: a compact word commits its two moves, and the multiply beside them, at once. -/
theorem compactMoves : Obligations.CompactMoves := by
  intro s c w m n nx ny h hl hUp hLog hm hn
  refine ⟨fun hOps => ?_, fun mul acc x hOps hResult => ?_⟩
  · have hPre : ∀ o ∈ ([] : List CoreOp), accOnly o = true := by simp
    have hPair := decodeP_pair hOps
    have hIssue := State.issueWords_compact h hl hUp hLog hm hn hPre (by simp) hPair rfl hOps
    refine ⟨_, congrArg Host.Outcome.next hIssue, State.bothMoved_pairDone hPre hPair hUp hm hn, ?_⟩
    rw [State.core_pairDone]
    refine (State.acc_pairRegs hPair).trans ?_
    rw [State.besideRegs, List.foldl_nil, State.applyOp_move_frame]
  · obtain ⟨hPair, y, rfl⟩ := decodeQ_pair hOps
    obtain ⟨hAcc, hCauses, hSame, hOther⟩ := compactMul_spec hResult s c (s.pc c) (s.applyOp c (s.core c) (.move m) (s.core c))
    have hPre : ∀ o ∈ [compactMul y], accOnly o = true := by simpa using hAcc
    have hIssue := State.issueWords_compact h hl hUp hLog hm hn hPre (by simpa using hCauses) hPair rfl hOps
    have hRegs : ∀ r, (((s.pairDone c [compactMul y] m n).core c).racc r)
        = (s.applyOp c (s.core c) (compactMul y) (s.applyOp c (s.core c) (.move m) (s.core c))).racc r := fun r => by
      rw [State.core_pairDone]
      exact congrArg (fun a => (tabGet 0 a r).toInt) (State.acc_pairRegs hPair)
    refine ⟨_, congrArg Host.Outcome.next hIssue, State.bothMoved_pairDone hPre hPair hUp hm hn, (hRegs acc).trans hSame,
      fun r hr => (hRegs r).trans ((hOther r hr).trans ?_)⟩
    rw [State.applyOp_move_frame]
    rfl

end
end


section
/-! SUPPORT. Elements of WVX (R98, R99, R109): what an element reads after a write of one, a register written element by element, and
the mask a compare writes (R110). -/

namespace Sys2Proof.Machine

/-! ### Elements (R98, R99) -/

theorem elemWidth_cases (ty : Nat) : elemWidth ty = 8 ∨ elemWidth ty = 16 ∨ elemWidth ty = 32 := by
  unfold elemWidth
  split_ifs <;> simp

/-- The elements of an operation lie within the register. -/
theorem elems_fit (ty hf : Nat) : halfBase hf + elemWidth ty * elemCount ty hf ≤ 128 := by
  unfold elemCount halfBase
  rcases elemWidth_cases ty with h | h | h <;> rw [h] <;> split_ifs <;> omega

theorem elem_fits {ty hf i : Nat} (hi : i < elemCount ty hf) : halfBase hf + elemWidth ty * i + elemWidth ty ≤ 128 :=
  calc halfBase hf + elemWidth ty * i + elemWidth ty = halfBase hf + elemWidth ty * (i + 1) := by ring
    _ ≤ halfBase hf + elemWidth ty * elemCount ty hf := by gcongr; exact hi
    _ ≤ 128 := elems_fit ty hf

/-- Two elements share no bit. -/
theorem elem_bits_apart {ty hf i j b : Nat} (h : j ≠ i) (hb : b < elemWidth ty) :
    halfBase hf + elemWidth ty * j + b < halfBase hf + elemWidth ty * i
      ∨ halfBase hf + elemWidth ty * i + elemWidth ty ≤ halfBase hf + elemWidth ty * j + b := by
  rcases elemWidth_cases ty with hw | hw | hw <;> rw [hw] at hb ⊢ <;> omega

theorem testBit_getElem (ty hf i : Nat) (x : BitVec 128) (b : Nat) :
    (getElem ty hf i x).testBit b = (decide (b < elemWidth ty) && x.getLsbD (halfBase hf + elemWidth ty * i + b)) := by
  rw [getElem, Nat.testBit_mod_two_pow, Nat.testBit_div_two_pow, Nat.add_comm b, BitVec.getLsbD]

/-- The bits of a register with one element replaced. -/
theorem getLsbD_putElem (ty hf i : Nat) (x : BitVec 128) (e : Nat) {b : Nat} (hb : b < 128) :
    (putElem ty hf i x e).getLsbD b =
      if b < halfBase hf + elemWidth ty * i then x.getLsbD b
      else if b < halfBase hf + elemWidth ty * i + elemWidth ty then e.testBit (b - (halfBase hf + elemWidth ty * i))
      else x.getLsbD b := by
  unfold putElem
  dsimp only
  generalize halfBase hf + elemWidth ty * i = p
  generalize elemWidth ty = w
  have hSplit : x.toNat / 2 ^ (p + w) * 2 ^ (p + w) + e % 2 ^ w * 2 ^ p + x.toNat % 2 ^ p
      = 2 ^ p * (2 ^ w * (x.toNat / 2 ^ (p + w)) + e % 2 ^ w) + x.toNat % 2 ^ p := by ring
  rw [BitVec.getLsbD_ofNat, decide_eq_true hb, Bool.true_and, hSplit,
    Nat.testBit_two_pow_mul_add _ (Nat.mod_lt _ (Nat.two_pow_pos _)), Nat.testBit_two_pow_mul_add _ (Nat.mod_lt _ (Nat.two_pow_pos _)),
    Nat.testBit_mod_two_pow, Nat.testBit_mod_two_pow, Nat.testBit_div_two_pow, BitVec.getLsbD]
  split
  next h => simp [h]
  next h =>
    split
    next h' => rw [if_pos (by omega), decide_eq_true h', Bool.true_and]
    next h' => rw [if_neg (by omega), show b - p - w + (p + w) = b by omega]

/-- The element written is the element read, within its width. -/
theorem getElem_putElem_same {ty hf i : Nat} (hi : i < elemCount ty hf) (x : BitVec 128) (e : Nat) :
    getElem ty hf i (putElem ty hf i x e) = e % 2 ^ elemWidth ty := by
  have hFits := elem_fits hi
  refine Nat.eq_of_testBit_eq fun b => ?_
  rw [testBit_getElem, Nat.testBit_mod_two_pow]
  by_cases hb : b < elemWidth ty
  · rw [getLsbD_putElem _ _ _ _ _ (by omega), if_neg (by omega), if_pos (by omega), Nat.add_sub_cancel_left]
  · simp [hb]

theorem getElem_putElem_ne {ty hf i j : Nat} (hj : j < elemCount ty hf) (h : j ≠ i) (x : BitVec 128) (e : Nat) :
    getElem ty hf j (putElem ty hf i x e) = getElem ty hf j x := by
  have hFits := elem_fits hj
  refine Nat.eq_of_testBit_eq fun b => ?_
  rw [testBit_getElem, testBit_getElem]
  by_cases hb : b < elemWidth ty
  · rw [getLsbD_putElem _ _ _ _ _ (by omega)]
    rcases elem_bits_apart (hf := hf) h hb with hLow | hHigh
    · rw [if_pos hLow]
    · rw [if_neg (by omega), if_neg (by omega)]
  · simp [hb]

/-- An element replaced leaves the bits outside the elements of the operation. -/
theorem getLsbD_putElem_outside {ty hf i b : Nat} (hi : i < elemCount ty hf) (x : BitVec 128) (e : Nat) (hb : b < 128)
    (h : ¬(halfBase hf ≤ b ∧ b < halfBase hf + elemCount ty hf * elemWidth ty)) :
    (putElem ty hf i x e).getLsbD b = x.getLsbD b := by
  have hLast : elemWidth ty * i + elemWidth ty ≤ elemCount ty hf * elemWidth ty :=
    calc elemWidth ty * i + elemWidth ty = (i + 1) * elemWidth ty := by ring
      _ ≤ elemCount ty hf * elemWidth ty := by gcongr; exact hi
  rw [getLsbD_putElem _ _ _ _ _ hb]
  split_ifs with hBelow hHere
  · rfl
  · omega
  · rfl

/-! ### A register written element by element (R109) -/

section
variable (old : CoreSt) (v : VecWord) (f : Nat → Nat × Bool)

/-- What an operation puts into its element i, if anything (R109). -/
def elemPut (i : Nat) : Option Nat :=
  if old.active v i then some (f i).1 else if v.zeroing then some 0 else none

theorem vecFill_succ (i : Nat) (acc : BitVec 128 × Bool) : vecFill old v f (i + 1) acc =
    ((elemPut old v f i).elim (vecFill old v f i acc).1 (putElem v.ty v.hf i (vecFill old v f i acc).1),
      (vecFill old v f i acc).2 || (old.active v i && (f i).2)) := by
  rw [vecFill, elemPut]
  cases old.active v i
  · cases v.zeroing <;> simp
  · simp

/-- The elements below `n` are written, those from `n` on stay. -/
theorem getElem_vecFill {n j : Nat} (hn : n ≤ elemCount v.ty v.hf) (hj : j < elemCount v.ty v.hf) (acc : BitVec 128 × Bool) :
    getElem v.ty v.hf j (vecFill old v f n acc).1 =
      if j < n then (elemPut old v f j).elim (getElem v.ty v.hf j acc.1) (· % 2 ^ elemWidth v.ty)
      else getElem v.ty v.hf j acc.1 := by
  induction n with
  | zero => rfl
  | succ n ih =>
    have hBelow := ih (by omega)
    rw [vecFill_succ]
    by_cases hHere : j = n
    · subst hHere
      rw [if_neg (lt_irrefl _)] at hBelow
      rw [if_pos (Nat.lt_succ_self _)]
      cases elemPut old v f j with
      | none => exact hBelow
      | some e => exact getElem_putElem_same hj _ e
    · have hLater : j < n + 1 ↔ j < n := by omega
      simp only [hLater]
      rw [← hBelow]
      cases elemPut old v f n with
      | none => rfl
      | some e => exact getElem_putElem_ne hj hHere _ e

theorem getLsbD_vecFill {n b : Nat} (hn : n ≤ elemCount v.ty v.hf) (hb : b < 128)
    (h : ¬(halfBase v.hf ≤ b ∧ b < halfBase v.hf + elemCount v.ty v.hf * elemWidth v.ty)) (acc : BitVec 128 × Bool) :
    (vecFill old v f n acc).1.getLsbD b = acc.1.getLsbD b := by
  induction n with
  | zero => rfl
  | succ n ih =>
    rw [vecFill_succ, ← ih (by omega)]
    cases elemPut old v f n with
    | none => rfl
    | some e => exact getLsbD_putElem_outside (by omega) _ e hb h

/-- A clamp is told when an active element was clamped. -/
theorem vecFill_clamped (n : Nat) (acc : BitVec 128 × Bool) : (vecFill old v f n acc).2 = true ↔
    acc.2 = true ∨ ∃ j, j < n ∧ old.active v j = true ∧ (f j).2 = true := by
  induction n with
  | zero => simp [vecFill]
  | succ n ih =>
    rw [vecFill_succ, Bool.or_eq_true, ih, Bool.and_eq_true, or_assoc]
    simp only [Nat.lt_succ_iff_lt_or_eq, or_and_right, exists_or, exists_eq_left]

end

section
variable (k : CoreSt) (v : VecWord) (f : Nat → Nat × Bool)

theorem CoreSt.vecWrite_frame : k.vecWrite k v f
    = { k with v := (k.vecWrite k v f).v, vstate := { k.vstate with vsv := (k.vecWrite k v f).vstate.vsv } } := by
  simp [CoreSt.vecWrite, CoreSt.vsticky, CoreSt.wv]

theorem CoreSt.rv_vecWrite (n : Nat) : (k.vecWrite k v f).rv n
    = if n = v.d then (vecFill k v f (elemCount v.ty v.hf) (k.rv v.d, false)).1 else k.rv n :=
  k.rv_wv v.d n _

theorem CoreSt.vsv_vecWrite : (k.vecWrite k v f).vstate.vsv = true ↔
    k.vstate.vsv = true ∨ ∃ j, j < elemCount v.ty v.hf ∧ k.active v j = true ∧ (f j).2 = true := by
  have hClamped := vecFill_clamped k v f (elemCount v.ty v.hf) (k.rv v.d, false)
  simp only [Bool.false_eq_true, false_or] at hClamped
  rw [← hClamped, ← Bool.or_eq_true]
  rfl

/-- The elements of Vd after an operation on its elements (R109). -/
theorem CoreSt.getElem_vecWrite {j : Nat} (hj : j < elemCount v.ty v.hf) : getElem v.ty v.hf j ((k.vecWrite k v f).rv v.d)
    = if k.active v j then (f j).1 % 2 ^ elemWidth v.ty else if v.zeroing then 0 else getElem v.ty v.hf j (k.rv v.d) := by
  rw [CoreSt.rv_vecWrite, if_pos rfl, getElem_vecFill k v f le_rfl hj, if_pos hj, elemPut]
  split_ifs <;> simp

end

/-- What an operation on elements comes to: its word, written element by element. -/
theorem elementsOf_spec {s : State} {i : Instr} {c : Fin 192} {v l : VecWord} {f : Nat → Nat × Bool}
    (h : elementsOf s i = some (c, v, l, f)) :
    (s.core c).vecExec (s.core c) v = (s.core c).vecWrite (s.core c) l f
      ∧ l = { v with ty := l.ty, hf := l.hf } := by
  cases i <;> simp only [elementsOf, elementsOf.arith, elementsOf.perm, Option.some.injEq, Prod.mk.injEq, reduceCtorEq] at h
  all_goals
    obtain ⟨rfl, rfl, rfl, rfl⟩ := h
    exact ⟨rfl, rfl⟩

/-! ### The mask of a compare (R110) -/

theorem bitAt_eq_testBit (w i : Nat) : bitAt w i = w.testBit i := by
  rw [Nat.testBit_eq_decide_div_mod_eq, bitAt, beq_eq_decide]

/-- The comparison of VCMPEQ, VCMPLT and VCMPLE. -/
def compares (op : VOp) (x y : Int) : Bool :=
  match op with
  | .vcmpeq => decide (x = y)
  | .vcmplt => decide (x < y)
  | _ => decide (x ≤ y)

theorem compareMask_succ (old : CoreSt) (v : VecWord) (i : Nat) : compareMask old v (i + 1) = compareMask old v i
    + bit1 (old.active v i && compares v.op (elemValue old v i) (elemValue old { v with a := v.b } i)) i := rfl

/-- Bit i added above a number of i bits. -/
theorem testBit_add_bit1 {m i : Nat} (h : m < 2 ^ i) (b : Bool) (j : Nat) :
    (m + bit1 b i).testBit j = if j < i then m.testBit j else decide (j = i) && b := by
  have hSplit : m + bit1 b i = 2 ^ i * b.toNat + m := by
    cases b <;> simp [bit1, Nat.add_comm]
  rw [hSplit, Nat.testBit_two_pow_mul_add _ h]
  split
  · rfl
  · by_cases hHere : j = i
    · subst hHere
      cases b <;> simp
    · have hAbove : b.toNat < 2 ^ (j - i) :=
        (Bool.toNat_lt b).trans_le (Nat.le_self_pow (by omega) 2)
      rw [Nat.testBit_lt_two_pow hAbove]
      simp [hHere]

theorem compareMask_lt (old : CoreSt) (v : VecWord) (n : Nat) : compareMask old v n < 2 ^ n := by
  induction n with
  | zero => exact Nat.one_pos
  | succ n ih =>
    rw [compareMask_succ, Nat.pow_succ, bit1]
    split <;> omega

/-- The bits of the mask a compare writes. -/
theorem bitAt_compareMask (old : CoreSt) (v : VecWord) (n j : Nat) : bitAt (compareMask old v n) j = true ↔
    (j < n ∧ old.active v j = true) ∧ compares v.op (elemValue old v j) (elemValue old { v with a := v.b } j) = true := by
  rw [bitAt_eq_testBit]
  induction n with
  | zero => simp [compareMask]
  | succ n ih =>
    rw [compareMask_succ, testBit_add_bit1 (compareMask_lt old v n)]
    split
    next h => rw [ih, iff_true_intro h, iff_true_intro (Nat.lt_succ_of_lt h)]
    next h =>
      by_cases hHere : j = n
      · subst hHere
        simp
      · have hAbove : ¬ j < n + 1 := by omega
        simp [hHere, hAbove]

/-- A compare, issued beside NOP: the mask it leaves (R110). -/
theorem State.issueSolo_compare {s : State} {c : Nat} {v : VecWord} (hOp : v.op = .vcmpeq ∨ v.op = .vcmplt ∨ v.op = .vcmple)
    (hTy : v.ty ≠ 3) (hHf : v.hf ≠ 3) (hD : v.d = 0) (hZero : v.zeroing = false) (h : s.issues c = true)
    (hl : (s.core c).sst.ld = 0) :
    ∃ k, ranAlone s (s.issueSolo c 4 (.vec v)) c k
      ∧ (∀ j, bitAt k.vstate.mask j = true ↔
          (j < elemCount v.ty v.hf ∧ (v.masked = true → bitAt (s.core c).vstate.mask j = true))
          ∧ compares v.op (elemValue (s.core c) v j) (elemValue (s.core c) { v with a := v.b } j) = true)
      ∧ k = { s.core c with vstate := { (s.core c).vstate with mask := k.vstate.mask } } := by
  have hExec : (s.core c).vecExec (s.core c) v
      = { s.core c with vstate := { (s.core c).vstate with mask := compareMask (s.core c) v (elemCount v.ty v.hf) } } := by
    rcases hOp with hOp | hOp | hOp <;> simp only [CoreSt.vecExec, hOp]
  have hLegal : vecIllegal v = false := by
    rcases hOp with hOp | hOp | hOp <;> simp [vecIllegal, typeOk, hOp, hTy, hHf, hD, hZero]
  have hPlain : v.op ≠ .vgather ∧ v.op ≠ .vscatter := by
    rcases hOp with hOp | hOp | hOp <;> simp [hOp]
  have hRan := State.issueSolo_vec h hl hLegal hPlain (by rw [hExec])
  rw [hExec] at hRan
  refine ⟨_, hRan, fun j => ?_, rfl⟩
  rw [bitAt_compareMask, CoreSt.active_iff]

theorem CoreSt.sst_wd (k : CoreSt) (n : Nat) (x : Word) : (k.wd n x).sst = k.sst := rfl

/-- VSTR, issued beside NOP (R101). -/
theorem State.issueSolo_vstr {s : State} {c : Nat} {v : VecWord} (hOp : v.op = .vstr) (hLegal : vecIllegal v = false)
    (h : s.issues c = true) (hl : (s.core c).sst.ld = 0) :
    ranAlone s (s.issueSolo c 4 (.vec v)) c ((s.core c).wd v.d (BitVec.ofNat 32 (s.core c).vstate.toWord)) := by
  have hExec : (s.core c).vecExec (s.core c) v = (s.core c).wd v.d (BitVec.ofNat 32 (s.core c).vstate.toWord) := by
    simp only [CoreSt.vecExec, hOp]
  have hRan := State.issueSolo_vec h hl hLegal (by simp [hOp]) (by rw [hExec, CoreSt.sst_wd])
  rwa [hExec] at hRan

end Sys2Proof.Machine

section
open Sys2Proof Sys2Proof.Machine

/-- Settles O22: each operation is its word written element by element, and `vecFill` writes each active element once. -/
theorem vectorElementResults : Obligations.VectorElementResults := by
  intro i s c v l f hElements hLegal h hl
  obtain ⟨hWrite, hWord⟩ := elementsOf_spec hElements
  obtain ⟨hExec, hGather⟩ := vectorWord_spec (s := s) (i := i) (c := c) (v := v) (by rw [vectorWord, hElements])
  have hPlain : v.op ≠ .vgather ∧ v.op ≠ .vscatter := by simpa [isGather] using hGather
  have hRan := State.issueSolo_vec h hl hLegal hPlain (by rw [hWrite, CoreSt.vecWrite_frame])
  have hActive : ∀ j, (s.core c).active l j = (s.core c).active v j := by
    intro j
    rw [hWord]
    rfl
  have hD : l.d = v.d := by rw [hWord]
  have hZero : l.zeroing = v.zeroing := by rw [hWord]
  rw [hWrite] at hRan
  refine ⟨_, _, hExec, hRan, fun j hj => ?_, fun b hb hOut => ?_, ?_, fun n hn => ?_, CoreSt.vecWrite_frame _ _ _⟩
  · have hElem := (s.core c).getElem_vecWrite l f hj
    rwa [hActive, hD, hZero] at hElem
  · rw [CoreSt.rv_vecWrite, hD, if_pos rfl]
    exact getLsbD_vecFill _ l f le_rfl hb hOut _
  · simpa only [hActive] using (s.core c).vsv_vecWrite l f
  · rw [CoreSt.rv_vecWrite, hD, if_neg hn]

/-- Settles O24: a compare sets the bits of MASK in the order of the elements; VSTR and VSTW write one register. -/
theorem vectorMaskAndState : Obligations.VectorMaskAndState := by
  refine ⟨fun s c ty a b hf mk h hl => ?_, fun s c d h hl => ⟨⟨_, rfl, ?_⟩, ⟨_, rfl, ?_⟩⟩, fun v w => rfl⟩
  · have hCompare := fun op hOp => State.issueSolo_compare (v := ⟨op, ty, 0, a, b, hf, mk, false, false, 0⟩) hOp ty.isLt.ne hf.isLt.ne
      rfl rfl h hl
    refine ⟨?_, ?_, ?_⟩
    · obtain ⟨k, hRan, hMask, hFrame⟩ := hCompare .vcmpeq (.inl rfl)
      exact ⟨_, k, rfl, hRan, fun j => (hMask j).trans (and_congr_right' decide_eq_true_iff), hFrame⟩
    · obtain ⟨k, hRan, hMask, hFrame⟩ := hCompare .vcmplt (.inr (.inl rfl))
      exact ⟨_, k, rfl, hRan, fun j => (hMask j).trans (and_congr_right' decide_eq_true_iff), hFrame⟩
    · obtain ⟨k, hRan, hMask, hFrame⟩ := hCompare .vcmple (.inr (.inr rfl))
      exact ⟨_, k, rfl, hRan, fun j => (hMask j).trans (and_congr_right' decide_eq_true_iff), hFrame⟩
  · exact State.issueSolo_vstr (v := ⟨.vstr, 0, d, 0, 0, 0, false, false, false, 0⟩) rfl rfl h hl
  · exact State.issueSolo_vec (v := ⟨.vstw, 0, d, 0, 0, 0, false, false, false, 0⟩) h hl rfl ⟨nofun, nofun⟩ rfl
end
end

section
/-! SUPPORT. Gather and scatter of X and Y memory (R113 to R120): what each element commits, what the elements leave together, and
the end of the operation. -/

namespace Sys2Proof.Machine

/-! ### One element (R113, R116) -/

theorem elemBytes_cases (ty : Nat) :
    elemBytes ty = 1 ∧ elemWidth ty = 8 ∨ elemBytes ty = 2 ∧ elemWidth ty = 16 ∨ elemBytes ty = 4 ∧ elemWidth ty = 32 := by
  unfold elemBytes
  rcases elemWidth_cases ty with h | h | h <;> simp [h]

theorem elemBytes_pos (ty : Nat) : 0 < elemBytes ty := by
  have := elemBytes_cases ty
  omega

theorem State.place_local (s : State) (k : CoreSt) {a n : Nat} (hPos : 0 < n) (h : inData a n) : s.place k a n = .local a := by
  unfold State.place
  rcases h with h | h
  · rw [if_pos (by omega)]
  · rw [if_neg (by omega), if_pos (by omega)]

/-- Element i of a gather or scatter is one aligned access of X or Y memory (R58, R59, R113). -/
def elemLocal (k : CoreSt) (v : VecWord) (i : Nat) : Prop :=
  gatherAddr k v i % elemBytes v.ty = 0 ∧ inData (gatherAddr k v i) (elemBytes v.ty)

section
variable {s : State} {c : Nat} {k : CoreSt} {v : VecWord} {i : Nat}

theorem State.place_elemLocal (h : elemLocal k v i) (k' : CoreSt) :
    s.place k' (gatherAddr k v i) (elemBytes v.ty) = .local (gatherAddr k v i) :=
  s.place_local k' (elemBytes_pos v.ty) h.2

theorem State.elemCause_local (hUp : s.upsets = []) (h : elemLocal k v i) : s.elemCause c k v i = none := by
  simp [State.elemCause, h.1, State.place_elemLocal h, State.placePoison_of_none hUp]

/-- An element gathered from X or Y memory goes into Vd. -/
theorem State.elemCommit_gather (hOp : v.op = .vgather) (hUp : s.upsets = []) (h : elemLocal (s.core c) v i) :
    s.elemCommit c v i = s.setCore c ((s.core c).wv v.d
      (putElem v.ty 0 i ((s.core c).rv v.d) (leNat (s.coreBytes c (gatherAddr (s.core c) v i) (elemBytes v.ty))))) := by
  simp [State.elemCommit, hOp, State.place_elemLocal h, State.placeDemand_of_none hUp, State.readPlace_local_of_none hUp]

/-- An element scattered to X or Y memory is stored there. -/
theorem State.elemCommit_scatter (hOp : v.op = .vscatter) (hUp : s.upsets = []) (hLog : s.eccLog = [])
    (h : elemLocal (s.core c) v i) : s.elemCommit c v i
      = s.writeCore c (gatherAddr (s.core c) v i) (leBytes (elemBytes v.ty) (getElem v.ty 0 i ((s.core c).rv v.d))) := by
  simp [State.elemCommit, hOp, State.place_elemLocal h, State.storePlace_local hUp hLog]

end

theorem leNat_lt (l : List Byte) : leNat l < 2 ^ (8 * l.length) := by
  induction l with
  | nil => simp [leNat]
  | cons b r ih =>
    have hByte := b.isLt
    rw [leNat, List.length_cons, show 8 * (r.length + 1) = 8 * r.length + 8 by ring, Nat.pow_add]
    omega

theorem State.length_coreBytes (s : State) (c a n : Nat) : (s.coreBytes c a n).length = n := by
  induction n generalizing a with
  | zero => rfl
  | succ n ih => rw [State.coreBytes, List.length_cons, ih]

theorem State.coreBytes_setCore (s : State) (i : Nat) (k : CoreSt) (c a n : Nat) :
    (s.setCore i k).coreBytes c a n = s.coreBytes c a n :=
  State.coreBytes_congr fun _ _ => rfl

/-- The bytes of an element fit it. -/
theorem leNat_elem (s : State) (c a ty : Nat) :
    leNat (s.coreBytes c a (elemBytes ty)) % 2 ^ elemWidth ty = leNat (s.coreBytes c a (elemBytes ty)) := by
  refine Nat.mod_eq_of_lt ((leNat_lt _).trans_le ?_)
  rw [State.length_coreBytes]
  refine Nat.pow_le_pow_right (by norm_num) ?_
  have := elemBytes_cases ty
  omega

/-! ### A run of elements (R116) -/

/-- Inactive elements make no access (R109). -/
theorem State.elemRun_inactive (s : State) (c : Nat) {old : CoreSt} {v : VecWord} {n i : Nat}
    (h : ∀ j, i ≤ j → j < i + n → old.active v j = false) : s.elemRun c old v n i = (s, none) := by
  induction n generalizing i with
  | zero => rfl
  | succ n ih =>
    rw [State.elemRun, h i le_rfl (by omega)]
    exact ih fun j hj hj' => h j (by omega) (by omega)

/-- From one state to the other only V registers of core c changed. -/
structure State.vectorsOnly (s t : State) (c : Nat) : Prop where
  core : t.core c = { s.core c with v := (t.core c).v }
  others : ∀ i, i ≠ c → t.core i = s.core i
  frame : t = { s with cores := t.cores }

theorem State.vectorsOnly.refl (s : State) (c : Nat) : s.vectorsOnly s c := ⟨rfl, fun _ _ => rfl, rfl⟩

theorem State.vectorsOnly.of_wv {s t : State} {c n : Nat} {x : BitVec 128}
    (h : (s.setCore c ((s.core c).wv n x)).vectorsOnly t c) : s.vectorsOnly t c := by
  refine ⟨?_, fun i hi => (h.others i hi).trans (s.core_setCore_ne _ hi), h.frame⟩
  rw [h.core, State.core_setCore_same]
  rfl

/-- The index register of a gather is not the register it writes (R114). -/
theorem gatherAddr_wv {k : CoreSt} {v : VecWord} {x : BitVec 128} {j : Nat} (hA : v.d ≠ v.a) (hNext : 8 ≤ j → v.d ≠ v.a + 1) :
    gatherAddr (k.wv v.d x) v j = gatherAddr k v j := by
  have hIndex : gatherIndex (k.wv v.d x) v j = gatherIndex k v j := by
    unfold gatherIndex
    rw [CoreSt.rv_wv, CoreSt.rv_wv, if_neg hA.symm]
    split
    · rfl
    · rw [if_neg (hNext (by omega)).symm]
  rw [gatherAddr, hIndex]
  rfl

/-- The first of a range of elements may be left out where nothing is said of it. -/
theorem range_skip {i j n : Nat} {p : Prop} (h : j = i → ¬p) :
    (i + 1 ≤ j ∧ j < i + 1 + n ∧ p) ↔ (i ≤ j ∧ j < i + (n + 1) ∧ p) := by
  constructor
  · rintro ⟨hLow, hHigh, hp⟩
    exact ⟨by omega, by omega, hp⟩
  · rintro ⟨hLow, hHigh, hp⟩
    have hNe : j ≠ i := fun e => h e hp
    exact ⟨by omega, by omega, hp⟩

section
variable {c : Nat} {old : CoreSt} {v : VecWord}

/-- A gather of X and Y memory: the elements from `i` on, `n` of them. -/
theorem State.elemRun_gather {n i : Nat} (s : State) (hOp : v.op = .vgather) (hA : v.d ≠ v.a)
    (hNext : ∀ j, j < elemCount v.ty 0 → 8 ≤ j → v.d ≠ v.a + 1) (hCount : ∀ j, i ≤ j → j < i + n → j < elemCount v.ty 0)
    (hUp : s.upsets = [])
    (hOld : ∀ j, j < elemCount v.ty 0 → gatherAddr (s.core c) v j = gatherAddr old v j)
    (hLocal : ∀ j, i ≤ j → j < i + n → old.active v j = true → elemLocal old v j) :
    ∃ t, s.elemRun c old v n i = (t, none) ∧ s.vectorsOnly t c
      ∧ (∀ j, j < elemCount v.ty 0 → getElem v.ty 0 j ((t.core c).rv v.d) =
          if i ≤ j ∧ j < i + n ∧ old.active v j = true then leNat (s.coreBytes c (gatherAddr old v j) (elemBytes v.ty))
          else getElem v.ty 0 j ((s.core c).rv v.d))
      ∧ ∀ r, r ≠ v.d → (t.core c).rv r = (s.core c).rv r := by
  induction n generalizing s i with
  | zero => exact ⟨s, rfl, .refl s c, fun j _ => by rw [if_neg (by omega)], fun _ _ => rfl⟩
  | succ n ih =>
    rw [State.elemRun]
    cases hActive : old.active v i with
    | false =>
      obtain ⟨t, hRun, hOnly, hElems, hRegs⟩ :=
        ih (i := i + 1) s (fun j hj hj' => hCount j (by omega) (by omega)) hUp hOld fun j hj hj' => hLocal j (by omega) (by omega)
      refine ⟨t, hRun, hOnly, fun j hj => (hElems j hj).trans ?_, hRegs⟩
      have hMoved : j = i → old.active v j ≠ true := by
        rintro rfl
        simp [hActive]
      simp only [range_skip hMoved]
    | true =>
      have hHere := hLocal i le_rfl (by omega) hActive
      have hAddr := hOld i (hCount i le_rfl (by omega))
      have hPlace : elemLocal (s.core c) v i := by
        unfold elemLocal
        rw [hAddr]
        exact hHere
      rw [State.elemCause_local hUp hHere, State.elemCommit_gather hOp hUp hPlace, hAddr]
      generalize hx : leNat (s.coreBytes c (gatherAddr old v i) (elemBytes v.ty)) = x
      obtain ⟨t, hRun, hOnly, hElems, hRegs⟩ :=
        ih (i := i + 1) (s.setCore c ((s.core c).wv v.d (putElem v.ty 0 i ((s.core c).rv v.d) x)))
          (fun j hj hj' => hCount j (by omega) (by omega)) hUp
          (fun j hj => by rw [State.core_setCore_same, gatherAddr_wv hA (hNext j hj), hOld j hj])
          fun j hj hj' => hLocal j (by omega) (by omega)
      refine ⟨t, hRun, hOnly.of_wv, fun j hj => (hElems j hj).trans ?_, fun r hr => (hRegs r hr).trans ?_⟩
      · rw [State.core_setCore_same, CoreSt.rv_wv, if_pos rfl]
        rcases eq_or_ne j i with rfl | hj'
        · rw [if_neg (by omega), if_pos ⟨le_rfl, by omega, hActive⟩, getElem_putElem_same hj, ← hx, leNat_elem]
        · rw [getElem_putElem_ne hj hj']
          simp only [range_skip fun e => absurd e hj', State.coreBytes_setCore]
      · rw [State.core_setCore_same, CoreSt.rv_wv, if_neg hr]

/-- Two aligned elements at different addresses share no byte. -/
theorem aligned_apart {a b n x : Nat} (ha : a % n = 0) (hb : b % n = 0) (h : a ≠ b) (hx : a ≤ x ∧ x < a + n) :
    ¬(b ≤ x ∧ x < b + n) := by
  rintro ⟨hLow, hHigh⟩
  obtain ⟨p, rfl⟩ := Nat.dvd_of_mod_eq_zero ha
  obtain ⟨q, rfl⟩ := Nat.dvd_of_mod_eq_zero hb
  have hSame : ∀ r, n * r ≤ x → x < n * r + n → x / n = r := fun r h₁ h₂ =>
    Nat.div_eq_of_lt_le (by rwa [Nat.mul_comm]) (by rw [Nat.add_mul, Nat.mul_comm r]; omega)
  exact h (by rw [← hSame p hx.1 hx.2, ← hSame q hLow hHigh])

/-- A scatter to X and Y memory: the elements from `i` on, `n` of them. Where two have one address the later one remains. -/
theorem State.elemRun_scatter {n i : Nat} (s : State) (hOp : v.op = .vscatter) (hUp : s.upsets = []) (hLog : s.eccLog = [])
    (hLocal : ∀ j, i ≤ j → j < i + n → (s.core c).active v j = true → elemLocal (s.core c) v j) :
    ∃ t, s.elemRun c (s.core c) v n i = (t, none) ∧ t = { s with coreMem := t.coreMem }
      ∧ (∀ j, i ≤ j → j < i + n → (s.core c).active v j = true →
          (∀ l, j < l → l < i + n → (s.core c).active v l = true → gatherAddr (s.core c) v l ≠ gatherAddr (s.core c) v j) →
          t.coreBytes c (gatherAddr (s.core c) v j) (elemBytes v.ty)
            = leBytes (elemBytes v.ty) (getElem v.ty 0 j ((s.core c).rv v.d)))
      ∧ ∀ x, (∀ j, i ≤ j → j < i + n → (s.core c).active v j = true →
            ¬(gatherAddr (s.core c) v j ≤ x ∧ x < gatherAddr (s.core c) v j + elemBytes v.ty)) →
          t.coreByte c x = s.coreByte c x := by
  induction n generalizing s i with
  | zero => exact ⟨s, rfl, rfl, fun j hj hj' => absurd hj' (by omega), fun _ _ => rfl⟩
  | succ n ih =>
    rw [State.elemRun]
    cases hActive : (s.core c).active v i with
    | false =>
      obtain ⟨t, hRun, hFrame, hStored, hOther⟩ :=
        ih (i := i + 1) s hUp hLog fun j hj hj' => hLocal j (by omega) (by omega)
      refine ⟨t, hRun, hFrame, fun j hj hj' hOn hLast => hStored j ?_ (by omega) hOn fun l hl hl' => hLast l hl (by omega),
        fun x hx => hOther x fun j hj hj' => hx j (by omega) (by omega)⟩
      have hMoved : j ≠ i := fun e => by simp [e, hActive] at hOn
      omega
    | true =>
      have hHere := hLocal i le_rfl (by omega) hActive
      rw [State.elemCause_local hUp hHere, State.elemCommit_scatter hOp hUp hLog hHere]
      generalize hData : leBytes (elemBytes v.ty) (getElem v.ty 0 i ((s.core c).rv v.d)) = data
      have hLength : data.length = elemBytes v.ty := by rw [← hData, length_leBytes]
      obtain ⟨t, hRun, hFrame, hStored, hOther⟩ :=
        ih (i := i + 1) (s.writeCore c (gatherAddr (s.core c) v i) data) hUp hLog fun j hj hj' => hLocal j (by omega) (by omega)
      refine ⟨t, hRun, hFrame, fun j hj hj' hOn hLast => ?_, fun x hx => ?_⟩
      · rcases eq_or_ne j i with rfl | hMoved
        · have hKept : t.coreBytes c (gatherAddr (s.core c) v j) (elemBytes v.ty)
              = (s.writeCore c (gatherAddr (s.core c) v j) data).coreBytes c (gatherAddr (s.core c) v j) (elemBytes v.ty) :=
            State.coreBytes_congr fun b hb => hOther _ fun l hl hl' hOn' =>
              aligned_apart hHere.1 (hLocal l (by omega) (by omega) hOn').1 (hLast l (by omega) (by omega) hOn').symm
                ⟨Nat.le_add_right _ _, by omega⟩
          rw [hKept, hData, ← hLength]
          exact s.coreBytes_writeCore_same c _ data
        · exact hStored j (by omega) (by omega) hOn fun l hl hl' => hLast l hl (by omega)
      · refine (hOther x fun j hj hj' => hx j (by omega) (by omega)).trans ?_
        rw [State.coreByte_writeCore, dif_neg]
        have hOut := hx i le_rfl (by omega) hActive
        omega

end

/-! ### A gather or scatter as it issues (R115, R118, R120) -/

/-- One operation beside NOP, no repeat level in use: its own causes of an exception are all there are (R79, R115). -/
theorem State.bundleCauses_solo (s : State) {c slot : Nat} {op : CoreOp} (hl : (s.core c).sst.ld = 0) :
    s.bundleCauses c (soloBundle slot op) = s.opCauses c (s.core c) (s.pc c) op := by
  have hLegal : bundleIllegal (s.core c) (s.pc c) (soloBundle slot op) = false := by
    simp [bundleIllegal, soloBundle, oneOp, nopWord, shares, CoreSt.atEnd, hl]
  simp only [State.bundleCauses, hLegal]
  simp [soloBundle, oneOp, nopWord]

/-- A gather or scatter with no active element in a window runs at once. -/
theorem State.issueSolo_gather {s : State} {c : Nat} {v : VecWord} (h : s.issues c = true) (hl : (s.core c).sst.ld = 0)
    (hGather : isGather (.vec v) = true) (hLegal : vecIllegal v = false) (hWaits : s.gatherWaits (s.core c) v = false) :
    s.issueSolo c 4 (.vec v) = (s.gatherIssue c v).afterCore (s.obj .coreState c) c := by
  have hCauses : s.bundleCauses c (soloBundle 4 (.vec v)) = [] := by
    rw [State.bundleCauses_solo s hl]
    simp [State.opCauses, hLegal]
  rw [State.issueSolo, State.atIssue_issues _ h]
  simp only [State.runBundle, State.issueBundle, hCauses, pickCause]
  simp [soloBundle, oneOp, nopWord, gatherOf, hGather, hWaits]

/-- A gather or scatter with reserved fields raises ILLEGAL_INSN, with EXL = 0 (R114). -/
theorem State.issueSolo_gatherReserved {s : State} {c : Nat} {v : VecWord} (h : s.issues c = true) (hl : (s.core c).sst.ld = 0)
    (hExl : (s.core c).sst.exl = false) (hv : vecIllegal v = true) :
    tookException s (s.issueSolo c 4 (.vec v)) c 3 4 (s.pc c) 0 := by
  have hCauses : s.bundleCauses c (soloBundle 4 (.vec v)) = [(3, 4, 0)] := by
    rw [State.bundleCauses_solo s hl]
    simp [State.opCauses, hv]
  have hRaise : s.issueSolo c 4 (.vec v) = (s.raiseExc c 3 4 (s.pc c) 0).afterCore (s.obj .coreState c) c := by
    rw [State.issueSolo, State.atIssue_issues _ h]
    simp [State.runBundle, State.issueBundle, hCauses, pickCause]
  rw [hRaise]
  exact (s.raiseExc_took 3 4 _ 0 hExl).afterCore _

theorem State.gatherWaits_of_local {s : State} {k : CoreSt} {v : VecWord}
    (h : ∀ j, j < elemCount v.ty 0 → gatherStart k ≤ j → k.active v j = true → elemLocal k v j) : s.gatherWaits k v = false := by
  rw [State.gatherWaits, Bool.and_eq_false_iff]
  right
  rw [List.any_eq_false]
  intro j hj
  by_cases hOn : gatherStart k ≤ j ∧ k.active v j = true
  · simp [State.place_elemLocal (h j (List.mem_range.mp hj) hOn.1 hOn.2)]
  · simp only [Bool.and_eq_true, decide_eq_true_eq]
    exact fun hAll => hOn hAll.1

theorem State.gatherCycles_pos (s : State) (k : CoreSt) (v : VecWord) : 1 ≤ s.gatherCycles k v := by
  unfold State.gatherCycles
  split
  · exact le_rfl
  · exact Nat.le_add_right _ _

/-- Core c's state at the end of a gather or scatter: RS and EIDX are cleared (R120). -/
def CoreSt.resumeCleared (k : CoreSt) : CoreSt := { k with vstate := { k.vstate with rs := false, eidx := 0 } }

/-- The PC goes to the next bundle when no repeat level is in use. -/
theorem State.advance_eq {s : State} {c : Nat} (hl : (s.core c).sst.ld = 0) (n : Nat) : s.advance c n
    = (s.setCore c { s.core c with stall := none, cyc := ((s.core c).cyc + n) % 2 ^ 64 }).setPc c ((s.pc c / 8 + 1) * 8) := by
  simp [State.advance, hl, loopEnd, bundleIndex]

theorem State.setCore_setPc_frame (s : State) (c : Nat) (k : CoreSt) (a : Nat) : (s.setCore c k).setPc c a
    = { s with objs := ((s.setCore c k).setPc c a).objs, cores := ((s.setCore c k).setPc c a).cores } := rfl

theorem State.advance_frame (s : State) (c n : Nat) : s.advance c n
    = { s with objs := (s.advance c n).objs, cores := (s.advance c n).cores } :=
  s.setCore_setPc_frame c _ _

/-- The end of a gather or scatter whose elements left state `t` (R120). -/
def State.gatherDone (s t : State) (c : Nat) (v : VecWord) : State :=
  (t.setCore c (t.core c).resumeCleared).advance c (s.gatherCycles (s.core c) v)

section
variable {s t : State} {c : Nat} {v : VecWord}

/-- A gather or scatter none of whose elements faults or waits completes. -/
theorem State.issueSolo_gatherDone (h : s.issues c = true) (hl : (s.core c).sst.ld = 0) (hExl : (s.core c).sst.exl = false)
    (hGather : isGather (.vec v) = true) (hLegal : vecIllegal v = false) (hWaits : s.gatherWaits (s.core c) v = false)
    (hRun : s.elemRun c (s.core c) v (elemCount v.ty 0 - gatherStart (s.core c)) (gatherStart (s.core c)) = (t, none))
    (hObjs : t.objs = s.objs) :
    s.issueSolo c 4 (.vec v) = s.gatherDone t c v := by
  have hIssue : s.gatherIssue c v = s.gatherDone t c v := by
    simp only [State.gatherIssue, hRun, hExl]
    rfl
  rw [State.issueSolo_gather h hl hGather hLegal hWaits, hIssue]
  refine State.afterCore_same _ _ _ ?_
  rw [State.gatherDone, State.advance, State.obj_setPc_of_ne _ _ _ _ (by decide)]
  exact State.obj_congr hObjs _ _

theorem State.gatherDone_core (hl : (t.core c).sst.ld = 0) : (s.gatherDone t c v).core c
    = { (t.core c).resumeCleared with stall := none, cyc := ((t.core c).cyc + s.gatherCycles (s.core c) v) % 2 ^ 64 } := by
  rw [State.gatherDone, State.advance_eq (by rwa [State.core_setCore_same]), State.core_setPc, State.core_setCore_same,
    State.core_setCore_same]
  rfl

theorem State.gatherDone_others {i : Nat} (hi : i ≠ c) : (s.gatherDone t c v).core i = t.core i := by
  rw [State.gatherDone, State.advance, State.core_setPc, State.core_setCore_ne _ _ hi, State.core_setCore_ne _ _ hi]

theorem State.gatherDone_frame : s.gatherDone t c v
    = { t with objs := (s.gatherDone t c v).objs, cores := (s.gatherDone t c v).cores } :=
  State.advance_frame _ _ _

theorem State.coreByte_gatherDone (i x : Nat) : (s.gatherDone t c v).coreByte i x = t.coreByte i x := by
  rw [State.coreByte, State.gatherDone_frame, State.coreByte]

/-- The objects after a gather or scatter: the PC alone has changed. -/
theorem State.gatherDone_objs (hl : (t.core c).sst.ld = 0) (hObjs : t.objs = s.objs) :
    (s.gatherDone t c v).obj .corePc c = (((s.pc c / 8 + 1) * 8 % 16777216 : Nat) : Int)
      ∧ s.sameObjsBut (s.gatherDone t c v) [(.corePc, c)] := by
  have hPc : (t.setCore c (t.core c).resumeCleared).pc c = s.pc c := congrArg Int.toNat (State.obj_congr hObjs _ _)
  rw [State.gatherDone, State.advance_eq (by rwa [State.core_setCore_same]), hPc]
  constructor
  · rw [State.obj_setPc_same]
    omega
  · have hRun : s.sameObjsBut (t.setCore c (t.core c).resumeCleared) [(.corePc, c)] := .congr (.refl s _) hObjs
    exact hRun.trans (State.sameObjsBut_setPc _ c _ _)

/-- A gather or scatter that changed V registers at most ran alone. -/
theorem State.gatherDone_ranAlone (hOnly : s.vectorsOnly t c) (hl : (s.core c).sst.ld = 0) :
    ranAlone s (s.gatherDone t c v) c (t.core c).resumeCleared := by
  have hObjs : t.objs = s.objs := by rw [hOnly.frame]
  have hLd : (t.core c).sst.ld = 0 := by rw [hOnly.core]; exact hl
  have hCyc : (t.core c).cyc = (s.core c).cyc := by rw [hOnly.core]
  obtain ⟨hPc, hOther⟩ := s.gatherDone_objs (v := v) hLd hObjs
  refine ⟨?_, ⟨_, s.gatherCycles_pos (s.core c) v, ?_⟩, fun i hi => ?_, hPc, ?_, hOther⟩
  · rw [State.gatherDone_core hLd]
  · rw [State.gatherDone_core hLd, ← hCyc]
  · rw [State.gatherDone_others hi, hOnly.others i hi]
  · rw [State.gatherDone_frame, hOnly.frame]

/-- A gather or scatter with no active element from its start on makes no access and completes (R109, R120). -/
theorem State.issueSolo_gatherNone (h : s.issues c = true) (hl : (s.core c).sst.ld = 0) (hExl : (s.core c).sst.exl = false)
    (hGather : isGather (.vec v) = true) (hLegal : vecIllegal v = false)
    (hNone : ∀ j, j < elemCount v.ty 0 → gatherStart (s.core c) ≤ j → (s.core c).active v j = false) :
    ranAlone s (s.issueSolo c 4 (.vec v)) c (s.core c).resumeCleared := by
  have hRun := s.elemRun_inactive c (n := elemCount v.ty 0 - gatherStart (s.core c)) fun j hj hj' => hNone j (by omega) hj
  have hWaits : s.gatherWaits (s.core c) v = false :=
    State.gatherWaits_of_local fun j hj hj' hOn => by simp [hNone j hj hj'] at hOn
  rw [State.issueSolo_gatherDone h hl hExl hGather hLegal hWaits hRun rfl]
  exact State.gatherDone_ranAlone (.refl s c) hl

end

/-- What a legal gather asks of its registers (R114). -/
theorem legal_gather {v : VecWord} (hOp : v.op = .vgather) (h : vecIllegal v = false) :
    v.d ≠ v.a ∧ ∀ j, j < elemCount v.ty 0 → 8 ≤ j → v.d ≠ v.a + 1 := by
  simp [vecIllegal, hOp] at h
  obtain ⟨-, ⟨-, hA⟩, hNext⟩ := h
  refine ⟨hA, fun j hj hj' => hNext ?_⟩
  unfold elemCount elemWidth at hj
  by_contra hTy
  rw [if_pos rfl, if_neg hTy] at hj
  split at hj <;> omega

theorem State.vectorsOnly.resumeCleared {s t : State} {c : Nat} (h : s.vectorsOnly t c) : (t.core c).resumeCleared
    = { s.core c with v := (t.core c).v, vstate := { (s.core c).vstate with rs := false, eidx := 0 } } := by
  rw [h.core]
  rfl

section
variable {s : State} {c : Nat} {v : VecWord} (h : s.issues c = true) (hl : (s.core c).sst.ld = 0) (hExl : (s.core c).sst.exl = false)
include h hl hExl

/-- A gather of X and Y memory, issued beside NOP (R113, R116). -/
theorem State.issueSolo_gatherLocal (hOp : v.op = .vgather) (hLegal : vecIllegal v = false) (hUp : s.upsets = [])
    (hLocal : ∀ j, j < elemCount v.ty 0 → gatherStart (s.core c) ≤ j → (s.core c).active v j = true → elemLocal (s.core c) v j) :
    ∃ t k, s.issueSolo c 4 (.vec v) = t ∧ ranAlone s t c k
      ∧ (∀ j, j < elemCount v.ty 0 → getElem v.ty 0 j (k.rv v.d) =
          if gatherStart (s.core c) ≤ j ∧ (s.core c).active v j = true
          then leNat (s.coreBytes c (gatherAddr (s.core c) v j) (elemBytes v.ty)) else getElem v.ty 0 j ((s.core c).rv v.d))
      ∧ (∀ r, r ≠ v.d → k.rv r = (s.core c).rv r)
      ∧ k = { s.core c with v := k.v, vstate := { (s.core c).vstate with rs := false, eidx := 0 } } := by
  obtain ⟨hA, hNext⟩ := legal_gather hOp hLegal
  obtain ⟨t, hRun, hOnly, hElems, hRegs⟩ := State.elemRun_gather (old := s.core c)
    (n := elemCount v.ty 0 - gatherStart (s.core c)) (i := gatherStart (s.core c)) s hOp hA hNext (fun j _ _ => by omega) hUp
    (fun _ _ => rfl) fun j hj hj' => hLocal j (by omega) hj
  refine ⟨_, _, State.issueSolo_gatherDone h hl hExl (by simp [isGather, hOp]) hLegal (State.gatherWaits_of_local hLocal) hRun
    (by rw [hOnly.frame]), State.gatherDone_ranAlone hOnly hl, fun j hj => (hElems j hj).trans ?_, hRegs, hOnly.resumeCleared⟩
  have hInside : gatherStart (s.core c) ≤ j → j < gatherStart (s.core c) + (elemCount v.ty 0 - gatherStart (s.core c)) := by omega
  have hSame : (gatherStart (s.core c) ≤ j ∧ j < gatherStart (s.core c) + (elemCount v.ty 0 - gatherStart (s.core c))
      ∧ (s.core c).active v j = true) ↔ (gatherStart (s.core c) ≤ j ∧ (s.core c).active v j = true) := by tauto
  simp only [hSame]

/-- A scatter to X and Y memory, issued beside NOP (R113, R116). -/
theorem State.issueSolo_scatterLocal (hOp : v.op = .vscatter) (hLegal : vecIllegal v = false) (hUp : s.upsets = [])
    (hLog : s.eccLog = [])
    (hLocal : ∀ j, j < elemCount v.ty 0 → gatherStart (s.core c) ≤ j → (s.core c).active v j = true → elemLocal (s.core c) v j) :
    ∃ t, s.issueSolo c 4 (.vec v) = t
      ∧ (∀ j, j < elemCount v.ty 0 → gatherStart (s.core c) ≤ j → (s.core c).active v j = true →
          (∀ i, j < i → i < elemCount v.ty 0 → (s.core c).active v i = true →
            gatherAddr (s.core c) v i ≠ gatherAddr (s.core c) v j) →
          t.coreBytes c (gatherAddr (s.core c) v j) (elemBytes v.ty)
            = leBytes (elemBytes v.ty) (getElem v.ty 0 j ((s.core c).rv v.d)))
      ∧ (∀ x, (∀ j, j < elemCount v.ty 0 → gatherStart (s.core c) ≤ j → (s.core c).active v j = true →
            ¬(gatherAddr (s.core c) v j ≤ x ∧ x < gatherAddr (s.core c) v j + elemBytes v.ty)) →
          t.coreByte c x = s.coreByte c x)
      ∧ (t.core c).v = (s.core c).v
      ∧ (t.core c).vstate = { (s.core c).vstate with rs := false, eidx := 0 }
      ∧ t.obj .corePc c = (((s.pc c / 8 + 1) * 8 % 16777216 : Nat) : Int)
      ∧ t.mem = s.mem ∧ s.sameObjsBut t [(.corePc, c)] := by
  obtain ⟨t, hRun, hFrame, hStored, hOther⟩ := State.elemRun_scatter (c := c) (n := elemCount v.ty 0 - gatherStart (s.core c))
    (i := gatherStart (s.core c)) s hOp hUp hLog fun j hj hj' => hLocal j (by omega) hj
  have hCore : t.core c = s.core c := by rw [hFrame]; rfl
  have hObjs : t.objs = s.objs := by rw [hFrame]
  have hLd : (t.core c).sst.ld = 0 := by rw [hCore]; exact hl
  obtain ⟨hPc, hSame⟩ := State.gatherDone_objs (s := s) (v := v) hLd hObjs
  refine ⟨_, State.issueSolo_gatherDone h hl hExl (by simp [isGather, hOp]) hLegal (State.gatherWaits_of_local hLocal) hRun hObjs,
    fun j hj hj' hOn hLast => ?_, fun x hx => ?_, ?_, ?_, hPc, ?_, hSame⟩
  · exact (State.coreBytes_congr fun _ _ => State.coreByte_gatherDone _ _).trans
      (hStored j hj' (by omega) hOn fun l hl hl' => hLast l hl (by omega))
  · exact (State.coreByte_gatherDone _ _).trans (hOther x fun j hj hj' => hx j (by omega) hj)
  · rw [State.gatherDone_core hLd, hCore]
    rfl
  · rw [State.gatherDone_core hLd, hCore]
    rfl
  · rw [State.gatherDone_frame, hFrame]

end

end Sys2Proof.Machine

section
open Sys2Proof Sys2Proof.Machine

/-- Settles O26: a run of elements by induction over the elements left, of X and Y memory each committed in one step. -/
theorem gatherScatterComplete : Obligations.GatherScatterComplete := by
  intro s c d a an sc h hl hExl
  have hCount : elemCount (2 : Fin 4) 0 = 4 := by decide
  refine ⟨fun hMask hRs hDa => ?_, fun hRs hIdx hDa => ?_, ?_, ?_, ?_⟩
  · have hOff : ∀ op j, j < 4 → (s.core c).active ⟨op, (2 : Fin 4), d, a, an, 0, true, false, false, sc⟩ j = false := by
      intro op j hj
      simp only [CoreSt.active, bitAt]
      interval_cases j <;> simp <;> omega
    have hNe : d.val ≠ a.val := Fin.val_ne_of_ne hDa
    exact ⟨⟨_, rfl, State.issueSolo_gatherNone h hl hExl rfl (by simp [vecIllegal, typeOk, hNe])
        fun j hj _ => hOff .vgather j (hj.trans_eq hCount)⟩,
      ⟨_, rfl, State.issueSolo_gatherNone h hl hExl rfl rfl fun j hj _ => hOff .vscatter j (hj.trans_eq hCount)⟩⟩
  · have hNe : d.val ≠ a.val := Fin.val_ne_of_ne hDa
    have hStart : gatherStart (s.core c) = (s.core c).vstate.eidx := by simp [gatherStart, hRs, hExl]
    refine ⟨_, rfl, State.issueSolo_gatherNone h hl hExl rfl (by simp [vecIllegal, typeOk, hNe]) fun j hj hj' => ?_⟩
    have hLast : j < 4 := hj.trans_eq hCount
    omega
  · rintro rfl
    have hTook := State.issueSolo_gatherReserved (v := ⟨.vgather, (2 : Fin 4), d, d, an, 0, false, false, false, sc⟩) h hl hExl
      (by simp [vecIllegal])
    have hCore := hTook.core_eq (w := 4 * 2 ^ 28 + 3) rfl rfl
    exact ⟨_, rfl, by rw [hCore], by rw [hCore], by rw [hTook.only.eq], by rw [hTook.only.eq]⟩
  · rintro ty mk v rfl hLegal hUp hLocal
    obtain ⟨t, k, hIssue, hRan, hElems, hRegs, hFrame⟩ := State.issueSolo_gatherLocal h hl hExl rfl hLegal hUp hLocal
    exact ⟨t, k, congrArg Host.Outcome.next hIssue, hRan, hElems, hRegs, hFrame⟩
  · rintro ty mk v rfl hLegal hUp hLog hLocal
    obtain ⟨t, hIssue, hRest⟩ := State.issueSolo_scatterLocal h hl hExl rfl hLegal hUp hLog hLocal
    exact ⟨t, congrArg Host.Outcome.next hIssue, hRest⟩
end
end

section
/-! SUPPORT. Stores to global memory, and the thread control blocks (R127, R128, R325 to R332): what a store leaves, what it changes
beside the bytes, and what a field of a TCB reads after one. -/

namespace Sys2Proof.Machine

/-! ### Bytes of global memory -/

theorem leNat_leBytes (n v : Nat) : leNat (leBytes n v) = v % 2 ^ (8 * n) := by
  induction n generalizing v with
  | zero => simp [leBytes, leNat, Nat.mod_one]
  | succ n ih =>
    rw [leBytes, leNat, ih, show 8 * (n + 1) = 8 + 8 * n by ring, Nat.pow_add, Nat.mod_mul]
    simp

theorem State.length_readMem (s : State) (a n : Nat) : (s.readMem a n).length = n := by
  induction n generalizing a with
  | zero => rfl
  | succ n ih => rw [State.readMem, List.length_cons, ih]

theorem State.getElem_readMem (s : State) {a n i : Nat} (h : i < (s.readMem a n).length) :
    (s.readMem a n)[i] = s.byteAt (a + i) := by
  induction n generalizing a i with
  | zero => exact absurd h (by simp [State.readMem])
  | succ n ih =>
    cases i with
    | zero => rfl
    | succ i =>
      rw [State.length_readMem] at h
      calc (s.readMem a (n + 1))[i + 1] = (s.readMem (a + 1) n)[i]'(by rw [State.length_readMem]; omega) := rfl
        _ = s.byteAt (a + (i + 1)) := by rw [ih, show a + 1 + i = a + (i + 1) by omega]

theorem State.readMem_congr {s t : State} {a n : Nat} (h : ∀ i, i < n → t.byteAt (a + i) = s.byteAt (a + i)) :
    t.readMem a n = s.readMem a n :=
  List.ext_getElem (by simp only [State.length_readMem]) fun i hi hi' => by
    rw [State.getElem_readMem, State.getElem_readMem, h i (by rwa [State.length_readMem] at hi)]

theorem State.memNat_congr {s t : State} {a n : Nat} (h : ∀ i, i < n → t.byteAt (a + i) = s.byteAt (a + i)) :
    t.memNat a n = s.memNat a n :=
  congrArg leNat (State.readMem_congr h)

theorem State.byteAt_writeMem (s : State) (a : Nat) (l : List Byte) (x : Nat) :
    (s.writeMem a l).byteAt x = if h : a ≤ x ∧ x - a < l.length then l[x - a] else s.byteAt x :=
  tabGet_memWrite _ _ _ _

/-! ### What a store changes beside the bytes -/

/-- From one state to the other nothing changed but what words that are rewritten change beside their bytes: their flipped bits,
the log, the filled blocks, and the counts of these. -/
structure State.rewritten (s t : State) : Prop where
  only : ∃ os up lg hq dd, t = { s with objs := os, upsets := up, eccLog := lg, hotQueue := hq, ddr := dd }
  objs : ∀ o n, o ≠ .eccLogUsed → o ≠ .ddrFillBlocks → t.obj o n = s.obj o n

theorem State.rewritten.refl (s : State) : s.rewritten s := ⟨⟨_, _, _, _, _, rfl⟩, fun _ _ _ _ => rfl⟩

theorem State.rewritten.trans {s t u : State} (h : s.rewritten t) (k : t.rewritten u) : s.rewritten u := by
  obtain ⟨⟨_, _, _, _, _, rfl⟩, hObjs⟩ := h
  obtain ⟨⟨_, _, _, _, _, rfl⟩, kObjs⟩ := k
  exact ⟨⟨_, _, _, _, _, rfl⟩, fun o n h₁ h₂ => (kObjs o n h₁ h₂).trans (hObjs o n h₁ h₂)⟩

theorem State.rewritten_fillBlock (s : State) (c l : Nat) : s.rewritten (s.fillBlock c l) := by
  unfold State.fillBlock
  split
  · exact ⟨⟨_, _, _, _, _, rfl⟩, fun o n _ h => by simp [State.bump, h]⟩
  · exact .refl s

theorem State.rewritten_logWrite (s : State) (l : MemLoc) : s.rewritten (s.logWrite l) := by
  unfold State.logWrite
  dsimp only
  split
  · exact .refl s
  · split
    · exact ⟨⟨_, _, _, _, _, rfl⟩, fun o n h _ => (State.obj_congr rfl o n).trans (State.obj_setObj_of_ne _ _ _ _ h)⟩
    · exact .refl s

theorem State.rewritten_wordWritten (s : State) (l : MemLoc) : s.rewritten (s.wordWritten l) := by
  have hFlips : ∀ t : State, t.rewritten (t.setUpset l 0) := fun t => ⟨⟨_, _, _, _, _, rfl⟩, fun _ _ _ _ => rfl⟩
  have hUpset : ∀ t : State, t.rewritten ((t.setUpset l 0).logWrite l) := fun t =>
    (hFlips t).trans (State.rewritten_logWrite _ _)
  unfold State.wordWritten
  dsimp only
  split
  · split
    · exact (s.rewritten_fillBlock _ _).trans (hUpset _)
    · exact hUpset _
  · exact hUpset _

theorem State.rewritten_wordsWritten (s : State) (a n : Nat) : s.rewritten (s.wordsWritten a n) := by
  induction n generalizing s with
  | zero => exact .refl s
  | succ n ih => exact (s.rewritten_wordWritten _).trans (ih _)

/-- A store changes the memory and what rewritten words change. -/
theorem State.store_frame (s : State) (a : Nat) (l : List Byte) :
    ∃ os up lg hq dd m, s.store a l = { s with objs := os, upsets := up, eccLog := lg, hotQueue := hq, ddr := dd, mem := m } := by
  obtain ⟨os, up, lg, hq, dd, h⟩ := (s.rewritten_wordsWritten (a / 8 * 8) (wordSpan a l.length)).only
  refine ⟨os, up, lg, hq, dd, memWrite s.mem a l, ?_⟩
  rw [State.store, h]
  rfl

section
variable (s : State) (a : Nat) (l : List Byte)

@[simp] theorem State.store_cores : (s.store a l).cores = s.cores := by
  obtain ⟨_, _, _, _, _, _, h⟩ := s.store_frame a l
  rw [h]

@[simp] theorem State.store_sched : (s.store a l).sched = s.sched := by
  obtain ⟨_, _, _, _, _, _, h⟩ := s.store_frame a l
  rw [h]

@[simp] theorem State.store_units : (s.store a l).units = s.units := by
  obtain ⟨_, _, _, _, _, _, h⟩ := s.store_frame a l
  rw [h]

@[simp] theorem State.store_coreMem : (s.store a l).coreMem = s.coreMem := by
  obtain ⟨_, _, _, _, _, _, h⟩ := s.store_frame a l
  rw [h]

@[simp] theorem State.core_store (c : Nat) : (s.store a l).core c = s.core c := by simp [State.core]
@[simp] theorem State.sch_store (h : Nat) : (s.store a l).sch h = s.sch h := by simp [State.sch]
@[simp] theorem State.unit_store (u : Nat) : (s.store a l).unit u = s.unit u := by simp [State.unit]

@[simp] theorem State.obj_store {o : Obj} (n : Nat) (h : o ≠ .eccLogUsed) (h' : o ≠ .ddrFillBlocks) :
    (s.store a l).obj o n = s.obj o n :=
  (s.rewritten_wordsWritten _ _).objs o n h h'

theorem State.byteAt_store (x : Nat) :
    (s.store a l).byteAt x = if h : a ≤ x ∧ x - a < l.length then l[x - a] else s.byteAt x := by
  obtain ⟨⟨_, _, _, _, _, h⟩, -⟩ := s.rewritten_wordsWritten (a / 8 * 8) (wordSpan a l.length)
  rw [State.store, State.byteAt_writeMem, h]
  rfl

variable {a l}

theorem State.byteAt_store_out {x : Nat} (h : x < a ∨ a + l.length ≤ x) : (s.store a l).byteAt x = s.byteAt x := by
  rw [State.byteAt_store, dif_neg (by omega)]

theorem State.memNat_store_out {b n : Nat} (h : b + n ≤ a ∨ a + l.length ≤ b) : (s.store a l).memNat b n = s.memNat b n :=
  State.memNat_congr fun i hi => s.byteAt_store_out (by omega)

/-- The bytes stored are the bytes read. -/
theorem State.readMem_store_same : (s.store a l).readMem a l.length = l :=
  List.ext_getElem (by rw [State.length_readMem]) fun i hi hi' => by
    rw [State.getElem_readMem, State.byteAt_store, dif_pos (by omega)]
    congr 1
    omega

theorem State.memNat_store_same (n v : Nat) : (s.store a (leBytes n v)).memNat a n = v % 2 ^ (8 * n) := by
  have h := s.readMem_store_same (a := a) (l := leBytes n v)
  rw [length_leBytes] at h
  rw [State.memNat, h, leNat_leBytes]

end

/-! ### Fields of a number -/

theorem bits_lt (w hi lo : Nat) : bits w hi lo < 2 ^ (hi - lo + 1) := Nat.mod_lt _ (Nat.two_pow_pos _)

theorem testBit_bits (w hi lo i : Nat) : (bits w hi lo).testBit i = (decide (i < hi - lo + 1) && w.testBit (i + lo)) := by
  rw [bits, Nat.testBit_mod_two_pow, Nat.testBit_div_two_pow]

/-- A field depends on its own bits. -/
theorem bits_congr {w w' hi lo : Nat} (h : ∀ i, lo ≤ i → i ≤ hi → lo ≤ hi → w'.testBit i = w.testBit i) (hle : lo ≤ hi) :
    bits w' hi lo = bits w hi lo := by
  refine Nat.eq_of_testBit_eq fun i => ?_
  rw [testBit_bits, testBit_bits]
  by_cases hi' : i < hi - lo + 1
  · rw [h (i + lo) (by omega) (by omega) hle]
  · simp [hi']

/-- The bits of a number with a field replaced. -/
theorem testBit_setBits (w v : Nat) {hi lo : Nat} (hle : lo ≤ hi) (i : Nat) : (setBits w hi lo v).testBit i
    = if i < lo then w.testBit i else if i ≤ hi then v.testBit (i - lo) else w.testBit i := by
  have hSplit : setBits w hi lo v
      = 2 ^ lo * (2 ^ (hi - lo + 1) * (w / 2 ^ (hi + 1)) + v % 2 ^ (hi - lo + 1)) + w % 2 ^ lo := by
    have hHigh : w / 2 ^ lo = 2 ^ (hi - lo + 1) * (w / 2 ^ (hi + 1)) + bits w hi lo := by
      rw [bits, show hi + 1 = lo + (hi - lo + 1) by omega]
      generalize hi - lo + 1 = k
      rw [Nat.pow_add 2 lo k, ← Nat.div_div_eq_div_mul, Nat.div_add_mod]
    have hLow := Nat.div_add_mod w (2 ^ lo)
    have hField : bits w hi lo * 2 ^ lo ≤ w := by
      calc bits w hi lo * 2 ^ lo ≤ w / 2 ^ lo * 2 ^ lo := Nat.mul_le_mul_right _ (Nat.mod_le _ _)
        _ ≤ w := Nat.div_mul_le_self _ _
    rw [hHigh] at hLow
    have hWhole : w = bits w hi lo * 2 ^ lo + (2 ^ lo * (2 ^ (hi - lo + 1) * (w / 2 ^ (hi + 1))) + w % 2 ^ lo) := by
      linarith [mul_add (2 ^ lo) (2 ^ (hi - lo + 1) * (w / 2 ^ (hi + 1))) (bits w hi lo), mul_comm (bits w hi lo) (2 ^ lo)]
    have hRest : w - bits w hi lo * 2 ^ lo = 2 ^ lo * (2 ^ (hi - lo + 1) * (w / 2 ^ (hi + 1))) + w % 2 ^ lo := by omega
    rw [setBits, hRest]
    ring
  rw [hSplit, Nat.testBit_two_pow_mul_add _ (Nat.mod_lt _ (Nat.two_pow_pos _)),
    Nat.testBit_two_pow_mul_add _ (Nat.mod_lt _ (Nat.two_pow_pos _)), Nat.testBit_mod_two_pow, Nat.testBit_mod_two_pow,
    Nat.testBit_div_two_pow]
  split
  next h => simp [h]
  next h =>
    split
    next h' => rw [if_pos (by omega), decide_eq_true h', Bool.true_and]
    next h' => rw [if_neg (by omega), show i - lo - (hi - lo + 1) + (hi + 1) = i by omega]

theorem bits_setBits_same (w v : Nat) {hi lo : Nat} (hle : lo ≤ hi) : bits (setBits w hi lo v) hi lo = v % 2 ^ (hi - lo + 1) := by
  refine Nat.eq_of_testBit_eq fun i => ?_
  rw [testBit_bits, testBit_setBits _ _ hle, Nat.testBit_mod_two_pow]
  by_cases h : i < hi - lo + 1
  · rw [if_neg (by omega), if_pos (by omega), Nat.add_sub_cancel]
  · simp [h]

theorem bits_setBits_apart (w v : Nat) {hi lo hi' lo' : Nat} (hle : lo ≤ hi) (hle' : lo' ≤ hi') (h : hi' < lo ∨ hi < lo') :
    bits (setBits w hi lo v) hi' lo' = bits w hi' lo' :=
  bits_congr (fun i h₁ h₂ _ => by rw [testBit_setBits _ _ hle]; split_ifs <;> first | rfl | omega) hle'

theorem bits_mod_two_pow (w : Nat) {hi lo n : Nat} (hle : lo ≤ hi) (h : hi < n) : bits (w % 2 ^ n) hi lo = bits w hi lo :=
  bits_congr (fun i _ h₂ _ => by rw [Nat.testBit_mod_two_pow, decide_eq_true (by omega), Bool.true_and]) hle

/-! ### Thread control blocks -/

/-- The TCBs of two threads share no byte. -/
theorem tcbAddr_apart {g g' : Nat} (h : g' ≠ g) : tcbAddr g' + 32 ≤ tcbAddr g ∨ tcbAddr g + 32 ≤ tcbAddr g' := by
  unfold tcbAddr terraceBase
  omega

/-- An address of a hall's slice above its TCBs. -/
def aboveTcbs (x : Nat) : Prop := 0x000100000000 ≤ x ∧ 0x20000 ≤ (x - 0x000100000000) % 0x01000000

theorem aboveTcbs.off_tcb {x : Nat} (h : aboveTcbs x) (g : Nat) : x < tcbAddr g ∨ tcbAddr g + 32 ≤ x := by
  unfold aboveTcbs at h
  unfold tcbAddr terraceBase
  omega

theorem State.tcb_congr {s t : State} (h : t.mem = s.mem) (g hi lo : Nat) : t.tcb g hi lo = s.tcb g hi lo := by
  unfold State.tcb
  rw [State.memNat_congr (s := s) fun i _ => by simp only [State.byteAt, h]]

/-- A field written is the field read. -/
theorem State.tcb_setTcb_same (s : State) (g v : Nat) {hi lo : Nat} (hle : lo ≤ hi) (hi256 : hi < 256) :
    (s.setTcb g hi lo v).tcb g hi lo = v % 2 ^ (hi - lo + 1) := by
  rw [State.tcb, State.setTcb, State.memNat_store_same, bits_mod_two_pow _ hle hi256, bits_setBits_same _ _ hle]

/-- Another field of any thread is not touched. -/
theorem State.tcb_setTcb_apart (s : State) (g g' v : Nat) {hi lo hi' lo' : Nat} (hle : lo ≤ hi) (hle' : lo' ≤ hi')
    (hi256 : hi' < 256) (h : hi' < lo ∨ hi < lo') : (s.setTcb g hi lo v).tcb g' hi' lo' = s.tcb g' hi' lo' := by
  unfold State.tcb State.setTcb
  by_cases hg : g' = g
  · subst hg
    rw [State.memNat_store_same, bits_mod_two_pow _ hle' hi256, bits_setBits_apart _ _ hle hle' h]
  · rw [State.memNat_store_out _ (by rw [length_leBytes]; exact tcbAddr_apart hg)]

theorem State.byteAt_setTcb (s : State) (g hi lo v : Nat) {x : Nat} (h : aboveTcbs x) :
    (s.setTcb g hi lo v).byteAt x = s.byteAt x :=
  s.byteAt_store_out (by rw [length_leBytes]; exact h.off_tcb g)

end Sys2Proof.Machine
end

section
/-! SUPPORT. The shared operations of the hall scheduler (R127 to R137): what each reads as, and what it leaves alone. -/

namespace Sys2Proof.Machine

/-! ### Writes of a TCB field -/

/-- From one state to the other only field [hi:lo] of TCBs was written, with what a store changes beside its bytes. -/
structure State.tcbsOnly (s t : State) (hi lo : Nat) : Prop where
  cores : t.cores = s.cores
  sched : t.sched = s.sched
  units : t.units = s.units
  coreMem : t.coreMem = s.coreMem
  objs : ∀ o n, o ≠ .eccLogUsed → o ≠ .ddrFillBlocks → t.obj o n = s.obj o n
  above : ∀ x, aboveTcbs x → t.byteAt x = s.byteAt x
  fields : ∀ g hi' lo', lo' ≤ hi' → hi' < 256 → hi' < lo ∨ hi < lo' → t.tcb g hi' lo' = s.tcb g hi' lo'

theorem State.tcbsOnly.refl (s : State) (hi lo : Nat) : s.tcbsOnly s hi lo :=
  ⟨rfl, rfl, rfl, rfl, fun _ _ _ _ => rfl, fun _ _ => rfl, fun _ _ _ _ _ _ => rfl⟩

theorem State.tcbsOnly.trans {s t u : State} {hi lo : Nat} (h : s.tcbsOnly t hi lo) (k : t.tcbsOnly u hi lo) :
    s.tcbsOnly u hi lo :=
  ⟨k.cores.trans h.cores, k.sched.trans h.sched, k.units.trans h.units, k.coreMem.trans h.coreMem,
    fun o n h₁ h₂ => (k.objs o n h₁ h₂).trans (h.objs o n h₁ h₂), fun x hx => (k.above x hx).trans (h.above x hx),
    fun g hi' lo' h₁ h₂ h₃ => (k.fields g hi' lo' h₁ h₂ h₃).trans (h.fields g hi' lo' h₁ h₂ h₃)⟩

theorem State.tcbsOnly_setTcb (s : State) (g v : Nat) {hi lo : Nat} (hle : lo ≤ hi) : s.tcbsOnly (s.setTcb g hi lo v) hi lo :=
  ⟨s.store_cores _ _, s.store_sched _ _, s.store_units _ _, s.store_coreMem _ _, fun _ n h h' => s.obj_store _ _ n h h',
    fun _ hx => s.byteAt_setTcb g hi lo v hx, fun g' _ _ h₁ h₂ h₃ => s.tcb_setTcb_apart g g' v hle h₁ h₂ h₃⟩

/-- The links of a list are fields NEXT (R128). -/
theorem State.tcbsOnly_relink (s : State) (l : List Nat) : s.tcbsOnly (s.relink l) 139 128 := by
  fun_induction State.relink s l with
  | case1 s => exact .refl s 139 128
  | case2 s g => exact s.tcbsOnly_setTcb g 0 (by decide)
  | case3 s g g' r ih => exact (s.tcbsOnly_setTcb g (g' % 4096) (by decide)).trans ih

section
variable (s : State) (g hi lo v : Nat)

@[simp] theorem State.core_setTcb (c : Nat) : (s.setTcb g hi lo v).core c = s.core c := s.core_store _ _ c
@[simp] theorem State.sch_setTcb (h : Nat) : (s.setTcb g hi lo v).sch h = s.sch h := s.sch_store _ _ h
@[simp] theorem State.unit_setTcb (u : Nat) : (s.setTcb g hi lo v).unit u = s.unit u := s.unit_store _ _ u

@[simp] theorem State.obj_setTcb {o : Obj} (n : Nat) (h : o ≠ .eccLogUsed) (h' : o ≠ .ddrFillBlocks) :
    (s.setTcb g hi lo v).obj o n = s.obj o n := s.obj_store _ _ n h h'

end

section
variable (s : State) (l : List Nat)

@[simp] theorem State.core_relink (c : Nat) : (s.relink l).core c = s.core c := by
  simp [State.core, (s.tcbsOnly_relink l).cores]

@[simp] theorem State.sch_relink (h : Nat) : (s.relink l).sch h = s.sch h := by
  simp [State.sch, (s.tcbsOnly_relink l).sched]

@[simp] theorem State.unit_relink (u : Nat) : (s.relink l).unit u = s.unit u := by
  simp [State.unit, (s.tcbsOnly_relink l).units]

@[simp] theorem State.obj_relink {o : Obj} (n : Nat) (h : o ≠ .eccLogUsed) (h' : o ≠ .ddrFillBlocks) :
    (s.relink l).obj o n = s.obj o n := (s.tcbsOnly_relink l).objs o n h h'

end

/-! ### What holds of TCBs whatever else changes -/

section
variable (s : State) (g hi lo : Nat)

@[simp] theorem State.tcb_setObj (o : Obj) (n : Nat) (v : Int) : (s.setObj o n v).tcb g hi lo = s.tcb g hi lo :=
  State.tcb_congr rfl g hi lo
@[simp] theorem State.tcb_bump (o : Obj) (n : Nat) : (s.bump o n).tcb g hi lo = s.tcb g hi lo := State.tcb_congr rfl g hi lo
@[simp] theorem State.tcb_setPc (c a : Nat) : (s.setPc c a).tcb g hi lo = s.tcb g hi lo := State.tcb_congr rfl g hi lo
@[simp] theorem State.tcb_setCore (c : Nat) (k : CoreSt) : (s.setCore c k).tcb g hi lo = s.tcb g hi lo := State.tcb_congr rfl g hi lo
@[simp] theorem State.tcb_setSch (h : Nat) (x : SchedSt) : (s.setSch h x).tcb g hi lo = s.tcb g hi lo := State.tcb_congr rfl g hi lo

end

@[simp] theorem State.sch_setPc (s : State) (c a h : Nat) : (s.setPc c a).sch h = s.sch h := rfl
@[simp] theorem State.unit_setPc (s : State) (c a u : Nat) : (s.setPc c a).unit u = s.unit u := rfl
@[simp] theorem State.byteAt_setPc (s : State) (c a x : Nat) : (s.setPc c a).byteAt x = s.byteAt x := rfl
@[simp] theorem State.sch_bump (s : State) (o : Obj) (n h : Nat) : (s.bump o n).sch h = s.sch h := rfl
@[simp] theorem State.core_bump (s : State) (o : Obj) (n c : Nat) : (s.bump o n).core c = s.core c := rfl
@[simp] theorem State.byteAt_bump (s : State) (o : Obj) (n x : Nat) : (s.bump o n).byteAt x = s.byteAt x := rfl
@[simp] theorem State.obj_bump_of_ne (s : State) {o p : Obj} (n m : Nat) (h : p ≠ o) : (s.bump o n).obj p m = s.obj p m :=
  State.obj_setObj_of_ne _ _ _ _ h

/-! ### The counts of threads by state (R155) -/

theorem State.countThread_frame (s : State) (h st : Nat) (up : Bool) : ∃ os, s.countThread h st up = { s with objs := os } := by
  unfold State.countThread
  dsimp only
  split_ifs <;> exact ⟨_, rfl⟩

section
variable (s : State) (h st : Nat) (up : Bool)

@[simp] theorem State.countThread_mem : (s.countThread h st up).mem = s.mem := by
  obtain ⟨_, h'⟩ := s.countThread_frame h st up
  rw [h']

@[simp] theorem State.countThread_cores : (s.countThread h st up).cores = s.cores := by
  obtain ⟨_, h'⟩ := s.countThread_frame h st up
  rw [h']

@[simp] theorem State.countThread_sched : (s.countThread h st up).sched = s.sched := by
  obtain ⟨_, h'⟩ := s.countThread_frame h st up
  rw [h']

@[simp] theorem State.countThread_units : (s.countThread h st up).units = s.units := by
  obtain ⟨_, h'⟩ := s.countThread_frame h st up
  rw [h']

@[simp] theorem State.countThread_coreMem : (s.countThread h st up).coreMem = s.coreMem := by
  obtain ⟨_, h'⟩ := s.countThread_frame h st up
  rw [h']

theorem State.obj_countThread {o : Obj} (n : Nat) (h₁ : o ≠ .schReadyThreads) (h₂ : o ≠ .schWaitingThreads)
    (h₃ : o ≠ .schFreeThreads) : (s.countThread h st up).obj o n = s.obj o n := by
  unfold State.countThread
  dsimp only
  split_ifs <;> simp [h₁, h₂, h₃]

/-- A RUNNING or FAULTED thread is in no count. -/
theorem State.countThread_uncounted (h₁ : st ≠ thReady) (h₂ : st ≠ thWaiting) (h₃ : st ≠ thFree) : s.countThread h st up = s := by
  simp [State.countThread, h₁, h₂, h₃]

end

/-! ### A thread's state -/

section
variable (s : State) (g st : Nat)

@[simp] theorem State.core_setTState (c : Nat) : (s.setTState g st).core c = s.core c := by
  rw [State.setTState, State.core_setTcb]
  simp [State.core]

@[simp] theorem State.sch_setTState (h : Nat) : (s.setTState g st).sch h = s.sch h := by
  rw [State.setTState, State.sch_setTcb]
  simp [State.sch]

@[simp] theorem State.unit_setTState (u : Nat) : (s.setTState g st).unit u = s.unit u := by
  rw [State.setTState, State.unit_setTcb]
  simp [State.unit]

@[simp] theorem State.obj_setTState {o : Obj} (n : Nat) (h₁ : o ≠ .schReadyThreads) (h₂ : o ≠ .schWaitingThreads)
    (h₃ : o ≠ .schFreeThreads) (h₄ : o ≠ .eccLogUsed) (h₅ : o ≠ .ddrFillBlocks) : (s.setTState g st).obj o n = s.obj o n := by
  simp only [State.setTState]
  rw [State.obj_setTcb _ _ _ _ _ _ h₄ h₅, State.obj_countThread _ _ _ _ _ h₁ h₂ h₃, State.obj_countThread _ _ _ _ _ h₁ h₂ h₃]

theorem State.tState_setTState : (s.setTState g st).tState g = st % 8 := State.tcb_setTcb_same _ _ _ (by decide) (by decide)

theorem State.tcb_setTState (g' : Nat) {hi lo : Nat} (h₁ : lo ≤ hi) (h₂ : hi < 256) (h₃ : hi < 55 ∨ 57 < lo) :
    (s.setTState g st).tcb g' hi lo = s.tcb g' hi lo := by
  rw [State.setTState, State.tcb_setTcb_apart _ _ _ _ (by decide) h₁ h₂ h₃]
  exact State.tcb_congr (by simp) _ _ _

end

/-! ### The thread a core runs -/

theorem State.thread_congr {s t : State} {c : Nat} (h : t.sch (c / 12) = s.sch (c / 12)) : t.thread c = s.thread c := by
  simp only [State.thread, h]

theorem State.thread_setThread (s : State) (c : Nat) (g : Option Nat) : (s.setThread c g).thread c = g := by
  cases g <;> simp [State.thread, State.setThread]

/-- Another core goes on with what it runs. -/
theorem State.thread_setThread_ne (s : State) {c c' : Nat} (g : Option Nat) (h : c' ≠ c) :
    (s.setThread c g).thread c' = s.thread c' := by
  by_cases hHall : c' / 12 = c / 12
  · simp only [State.thread, State.setThread, hHall, State.sch_setSch_same]
    rw [tabGet_tabSet_ne _ _ _ _ (by omega)]
  · exact State.thread_congr (State.sch_setSch_ne _ _ hHall)

/-! ### Ready lists and dispatch (R135) -/

/-- No ready list of the hall of core c holds a thread. -/
def State.noneReady (s : State) (c : Nat) : Prop := ∀ p, (s.sch (c / 12)).list p = []

theorem State.topReady_none {s : State} {c : Nat} (h : s.noneReady c) (p : Nat) : s.topReady c p = none := by
  induction p with
  | zero => simp [State.topReady, h 0]
  | succ p ih => simp [State.topReady, h (p + 1), ih]

/-- The first eligible thread of the highest list that holds one. -/
theorem State.topReady_of {s : State} {c p g n : Nat} (hTop : ∀ q, p < q → (s.sch (c / 12)).list q = [])
    (hList : (s.sch (c / 12)).list p = [g]) (hOn : s.eligible c g = true) (hn : p ≤ n) : s.topReady c n = some g := by
  induction n with
  | zero =>
    obtain rfl : p = 0 := by omega
    simp [State.topReady, hList, hOn]
  | succ n ih =>
    by_cases h : p = n + 1
    · subst h
      simp [State.topReady, hList, hOn]
    · simp [State.topReady, hTop (n + 1) (by omega), ih (by omega)]

theorem State.dispatch_none {s : State} {c : Nat} (h : s.noneReady c) : s.dispatch c = s := by
  simp [State.dispatch, State.topReady_none h]

theorem State.dispatch_some {s : State} {c g : Nat} (hFree : s.coreFree c = true) (hTop : s.topReady c 63 = some g) :
    s.dispatch c = s.runThread c g := by
  simp [State.dispatch, hFree, hTop]

/-- A core that is not IDLE takes no thread. -/
theorem State.dispatch_busy {s : State} {c : Nat} (h : s.obj .coreState c ≠ coreIdle) : s.dispatch c = s := by
  simp [State.dispatch, State.coreFree, h]

theorem State.dispatchHall_none {s : State} {h : Nat} (hNone : ∀ p, (s.sch h).list p = []) : s.dispatchHall h = s := by
  have hCore : ∀ i ∈ List.range 12, s.dispatch (12 * h + i) = s := fun i hi =>
    State.dispatch_none (by
      rw [List.mem_range] at hi
      rwa [State.noneReady, show (12 * h + i) / 12 = h by omega])
  unfold State.dispatchHall
  generalize List.range 12 = l at hCore
  induction l with
  | nil => rfl
  | cons i l ih => rw [List.foldl_cons, hCore i (by simp), ih fun j hj => hCore j (by simp [hj])]

/-! ### The trace (R154) -/

/-- A hall without a trace ring keeps no record. -/
theorem State.schTraceRec_untraced {s : State} {h : Nat} (hOff : s.obj .schTraceSize h = 0) (kind core : Nat) (g : Option Nat)
    (arg : Nat) : s.schTraceRec h kind core g arg = s := by
  simp [State.schTraceRec, State.objN, hOff]

/-! ### Semaphores -/

theorem State.sem_setSem (s : State) (i : Nat) (x : SemSt) : (s.setSem i x).sem i = x := by
  simp [State.sem, State.setSem]

end Sys2Proof.Machine
end

section
/-! SUPPORT. Scheduler calls beside NOP (R131, R133): the operation a call comes to, and a call after which the core is in the state it
was in. -/

namespace Sys2Proof.Machine

/-! ### The state a call is performed in -/

section
variable (s : State) (c sub o : Nat)

@[simp] theorem State.sch_callMade (h : Nat) : (s.callMade c sub o).sch h = s.sch h := rfl
@[simp] theorem State.unit_callMade (u : Nat) : (s.callMade c sub o).unit u = s.unit u := rfl
@[simp] theorem State.byteAt_callMade (x : Nat) : (s.callMade c sub o).byteAt x = s.byteAt x := rfl
@[simp] theorem State.thread_callMade (c' : Nat) : (s.callMade c sub o).thread c' = s.thread c' := rfl
@[simp] theorem State.tcb_callMade (g hi lo : Nat) : (s.callMade c sub o).tcb g hi lo = s.tcb g hi lo := State.tcb_congr rfl g hi lo

@[simp] theorem State.obj_callMade {p : Obj} (n : Nat) (h : p ≠ .corePc) : (s.callMade c sub o).obj p n = s.obj p n :=
  State.obj_setPc_of_ne _ _ _ n h

/-- The call takes one cycle, and waits for no result (R81). -/
@[simp] theorem State.core_callMade :
    (s.callMade c sub o).core c = { s.core c with cyc := ((s.core c).cyc + 1) % 2 ^ 64, stall := none } := by
  simp [State.callMade, State.spendCycles, State.issueCycles, CoreSt.issueAt, CoreSt.needs, CoreSt.sameMemory, opMakes, isControl]

theorem State.core_callMade_ne {c' : Nat} (h : c' ≠ c) : (s.callMade c sub o).core c' = s.core c' :=
  State.core_setCore_ne _ _ h

/-- The PC of the bundle after the call. -/
theorem State.pc_callMade : (s.callMade c sub o).obj .corePc c = (((s.pc c / 8 + 1) * 8 % 16777216 : Nat) : Int) := by
  rw [State.callMade, State.obj_setPc_same]
  congr 1
  omega

end

/-! ### A call that leaves the core in its state -/

/-- A call after which the core is in the state it was in: what the scheduler did is all. -/
theorem State.call_stays {s t : State} {c sub : Nat} {d a : Fin 16} (h : s.issues c = true) (hl : (s.core c).sst.ld = 0)
    (hLegal : schedIllegal sub (16 * d + a) = false)
    (hCall : State.schedCall c (s.core c) sub (16 * d + a) (s.callMade c sub (16 * d + a)) = t)
    (hState : t.obj .coreState c = s.obj .coreState c) : s.call c sub d a = t := by
  rw [State.call, State.issueSolo_sched h hl hLegal, hCall, State.afterCore_same _ _ _ hState]

/-- A call that writes its status last. -/
theorem State.call_status {s t : State} {c sub v : Nat} {d a : Fin 16} (h : s.issues c = true) (hl : (s.core c).sst.ld = 0)
    (hLegal : schedIllegal sub (16 * d + a) = false)
    (hCall : State.schedCall c (s.core c) sub (16 * d + a) (s.callMade c sub (16 * d + a)) = t.giveStatus c d v)
    (hState : t.obj .coreState c = s.obj .coreState c) : s.call c sub d a = t.giveStatus c d v :=
  State.call_stays h hl hLegal hCall hState

/-- A thread's core that issues is not IDLE. -/
theorem State.issues_not_idle {s : State} {c : Nat} (h : s.issues c = true) : s.obj .coreState c ≠ coreIdle := by
  obtain ⟨hBoundary, -, -⟩ := State.issues_spec h
  intro hIdle
  simp [State.atBoundary, hIdle] at hBoundary

/-- Its hall runs (R531). -/
theorem State.issues_hall {s : State} {c : Nat} (h : s.issues c = true) : (s.unit (unitHall (c / 12))).st = unitRunning := by
  obtain ⟨hBoundary, -, -⟩ := State.issues_spec h
  simp only [State.atBoundary, Bool.and_eq_true, decide_eq_true_eq] at hBoundary
  exact hBoundary.2

/-- What a call answered at once with nothing but its status leaves. -/
theorem State.ranAlone_status {s : State} (c sub o dd v : Nat) :
    ranAlone s ((s.callMade c sub o).giveStatus c dd v) c ((s.core c).wd dd (BitVec.ofNat 32 v)) := by
  have hCore : ((s.callMade c sub o).giveStatus c dd v).core c
      = { (s.core c).wd dd (BitVec.ofNat 32 v) with cyc := ((s.core c).cyc + 1) % 2 ^ 64, stall := none } := by
    rw [State.giveStatus, State.core_setCore_same, State.core_callMade]
    rfl
  refine ⟨?_, ⟨1, le_rfl, by rw [hCore]⟩, fun c' hc' => ?_, ?_, rfl, ?_⟩
  · rw [hCore]
  · rw [State.giveStatus, State.core_setCore_ne _ _ hc', State.core_callMade_ne _ _ _ _ hc']
  · rw [State.giveStatus, State.obj_setCore, State.pc_callMade]
  · exact State.sameObjsBut.setObj ((State.sameObjsBut.refl s _).congr rfl) _ (by simp)

/-! ### The operation of each call (R131) -/

theorem operand_dd (d a : Fin 16) : (16 * d.val + a.val) / 16 = d.val := by omega
theorem operand_ds (a : Fin 16) : a.val % 16 = a.val := Nat.mod_eq_of_lt a.isLt

section
variable {u : State} {old : CoreSt} {c g : Nat} {d a : Fin 16} (hRuns : u.thread c = some g)
include hRuns

theorem State.schedCall_switch (hExl : old.sst.exl = true) : State.schedCall c old 0x08 (16 * d + a) u = u.callSwitch c := by
  simp [State.schedCall, hRuns, exlCall, hExl]

variable (hExl : old.sst.exl = false)
include hExl

theorem State.schedCall_yield : State.schedCall c old 0x09 (16 * d + a) u
    = ((((u.giveStatus c d 0).saveContext g c ((u.giveStatus c d 0).core c).sst.toWord ((u.giveStatus c d 0).pc c)).readyTail
        g).schTraceRec (c / 12) 3 (c % 12) (some g) (traceArg 3 g) |>.releaseCore c).settle (c / 12) [g] := by
  simp [State.schedCall, hRuns, exlCall, hExl, operand_dd]

theorem State.schedCall_exit : State.schedCall c old 0x0A (16 * d + a) u
    = ((u.freeThread g).schTraceRec (c / 12) 4 (c % 12) (some g) (traceArg 4 g)).releaseCore c := by
  simp [State.schedCall, hRuns, exlCall, hExl]

theorem State.schedCall_create : State.schedCall c old 0x0B (16 * d + a) u
    = (u.callCreate (c / 12) (old.rd a) (old.rd (a + 1)) (old.rd (a + 2))).1.giveStatus c d
        (u.callCreate (c / 12) (old.rd a) (old.rd (a + 1)) (old.rd (a + 2))).2 := by
  simp [State.schedCall, hRuns, exlCall, hExl, operand_dd, operand_ds]

theorem State.schedCall_kill : State.schedCall c old 0x0C (16 * d + a) u
    = (u.callKill (c / 12) (old.rd a).toNat).1.giveStatus c d (u.callKill (c / 12) (old.rd a).toNat).2 := by
  simp [State.schedCall, hRuns, exlCall, hExl, operand_dd, operand_ds]

theorem State.schedCall_setPrio : State.schedCall c old 0x0D (16 * d + a) u
    = (u.callSetPrio (c / 12) (old.rd a)).1.giveStatus c d (u.callSetPrio (c / 12) (old.rd a)).2 := by
  simp [State.schedCall, hRuns, exlCall, hExl, operand_dd, operand_ds]

theorem State.schedCall_delay (h0 : (old.rd a).toNat ≠ 0) : State.schedCall c old 0x0E (16 * d + a) u
    = u.callDelay c g ((u.tick48 (c / 12) + (old.rd a).toNat) % 2 ^ 48) d := by
  simp [State.schedCall, hRuns, exlCall, hExl, h0, operand_dd, operand_ds]

theorem State.schedCall_delayUntil : State.schedCall c old 0x0F (16 * d + a) u
    = u.callDelay c g ((old.rd a).toNat + bits (old.rd (a + 1)).toNat 15 0 * 2 ^ 32) d := by
  simp [State.schedCall, hRuns, exlCall, hExl, operand_dd, operand_ds]

theorem State.schedCall_semTake : State.schedCall c old 0x10 (16 * d + a) u
    = u.callOp c (bits (old.rd a).toNat 13 0 / 1024) ⟨g, 0x10, bits (old.rd a).toNat 13 0, 0, d⟩ := by
  simp [State.schedCall, hRuns, exlCall, hExl, operand_dd, operand_ds]

theorem State.schedCall_msgSend : State.schedCall c old 0x14 (16 * d + a) u
    = u.callOp c (bits (old.rd a).toNat 11 0 / 256) ⟨g, 0x14, bits (old.rd a).toNat 11 0, msgOf old, d⟩ := by
  simp [State.schedCall, hRuns, exlCall, hExl, operand_dd, operand_ds]

/-- A receive that must wait. -/
theorem State.schedCall_msgRecv_waits {v : State}
    (hWait : u.threadRecv g (256 * (c / 12) + bits (old.rd a).toNat 7 0) true = (v, none, none)) :
    State.schedCall c old 0x16 (16 * d + a) u
      = v.blockThread g c 3 (256 * (c / 12) + bits (old.rd a).toNat 7 0) d (256 * (c / 12) + bits (old.rd a).toNat 7 0) := by
  simp [State.schedCall, hRuns, exlCall, hExl, operand_dd, operand_ds, hWait]

end

end Sys2Proof.Machine
end

section
/-! SUPPORT. The write of `SCH_TICK_NS` (R141). -/

namespace Sys2Proof.Machine

section
variable {s : State} {a : Accessor} {h : Fin 16} {v : Nat}

/-- In a gated hall the write is applied. -/
theorem execSchTickNsWrite_gated (hw : s.writable a .schTickNs h v) (hGated : s.obj .hallPaceState h = paceSleep) :
    exec (.schTickNsWrite a h v) s = .next (((s.countAccess a).setObj .schTickNs h v).acceptAt a (objAddr .schTickNs h) v) := by
  have hChk : Status.unless (decide (s.obj .hallPaceState h = paceSleep)) .state = .ok := by simp [hGated, Status.unless]
  rw [exec_schTickNsWrite, execSchTickNsWrite, State.dictWrite_ok _ hw hChk]

/-- In any other it is refused. -/
theorem execSchTickNsWrite_running (hw : s.writable a .schTickNs h v) (hRuns : s.obj .hallPaceState h ≠ paceSleep) :
    exec (.schTickNsWrite a h v) s = .next ((s.countAccess a).refuseAt a .state (objAddr .schTickNs h)) := by
  have hChk : Status.unless (decide (s.obj .hallPaceState h = paceSleep)) .state = .state := by simp [hRuns, Status.unless]
  rw [exec_schTickNsWrite, execSchTickNsWrite, State.dictWrite_refused _ hw (by rw [hChk]; decide), hChk]

end

end Sys2Proof.Machine

section
open Sys2Proof Sys2Proof.Machine

/-- Settles O31, by the two cases of the object's own check. -/
theorem tickPeriodWrittenOnlyWhileGated : Obligations.TickPeriodWrittenOnlyWhileGated := by
  intro s a h v hw
  refine ⟨fun hGated => ?_, fun hRuns => ?_⟩
  · obtain ⟨hFrame, hObjs⟩ := State.acceptAt_cores (s := s) (a := a) (l := [(.schTickNs, h.val)]) (objAddr .schTickNs h) v
      ⟨_, _, rfl⟩ (State.sameObjsBut.setObj (.refl (s.countAccess a) _) (o := .schTickNs) (n := h) v (by simp))
    refine ⟨_, execSchTickNsWrite_gated hw hGated, ?_, hFrame, hObjs⟩
    rw [State.obj_acceptAt _ _ _ _ _ (by decide), State.obj_setObj_same]
  · refine ⟨_, execSchTickNsWrite_running hw hRuns, ?_, ?_, rfl⟩
    · simp [State.refuseAt, State.bump, State.countAccess]
    · simp [State.refuseAt, State.bump]
end
end

section
/-! SUPPORT. A signal taken (R144, R146): it keeps no owner. And a device whose signal shows one. -/

namespace Sys2Proof.Machine

/-- A take of a positive signal, by a thread that holds no lock, in a hall without a trace. -/
theorem State.semTake_signal {s : State} {g i : Nat} (block : Bool) (hKind : (s.sem i).kind = 2) (hHeld : s.tHeldV g = 0)
    (hCount : 0 < (s.sem i).count) (hOff : s.obj .schTraceSize (hallOfThread g) = 0) :
    s.semTake g i block = (s.setSem i ⟨2, (s.sem i).count - 1, none, (s.sem i).waiters⟩, some 0) := by
  have hRec : ∀ core arg, (s.setSem i ⟨2, (s.sem i).count - 1, none, (s.sem i).waiters⟩).schTraceRec (hallOfThread g) 0x0A
      core (some g) arg = s.setSem i ⟨2, (s.sem i).count - 1, none, (s.sem i).waiters⟩ := fun core arg =>
    State.schTraceRec_untraced (by simp [State.setSem, hOff]) _ _ _ _
  simp [State.semTake, hKind, hHeld, hCount, hRec]

/-- A device whose core 0 runs thread 0 of hall 0, and whose semaphore 0 is a signal of count 1 that shows thread 0 as its owner. -/
def signalOwned : State := ((State.reset.setObj .coreState 0 coreRun).setThread 0 (some 0)).setSem 0 ⟨2, 1, some 0, []⟩

/-- The same with a take of the signal on its way. -/
def signalOwnedInbound : State := signalOwned.setSch 0 { signalOwned.sch 0 with inbound := [⟨0, 0x11, 0, 0, 0⟩] }

/-- What SCH_SEM_TAKE of the signal leaves. -/
theorem exec_signalOwned : exec (.schSemTake 0 0 0) signalOwned
    = .next (((signalOwned.callMade 0 0x10 0).setSem 0 ⟨2, 0, none, []⟩).giveStatus 0 0 0) := by
  have hTake : (signalOwned.callMade 0 0x10 0).semTake 0 0 true
      = ((signalOwned.callMade 0 0x10 0).setSem 0 ⟨2, 0, none, []⟩, some 0) :=
    State.semTake_signal true (by decide) (by decide) (by decide) (by decide)
  have hCall := State.schedCall_semTake (u := signalOwned.callMade 0 0x10 0) (old := signalOwned.core 0) (c := 0) (g := 0) (d := 0)
    (a := 0) (by decide) (by decide)
  have hAt : bits ((signalOwned.core 0).rd 0).toNat 13 0 = 0 := by decide
  rw [exec_schSemTake, execSchSemTake]
  refine congrArg Host.Outcome.next (State.call_status (by decide) (by decide) (by decide) (hCall.trans ?_) (by decide))
  simp [hAt, State.callOp, State.performOp, hTake, State.finishOp]

/-- A take of a positive signal that arrives alone from hall `src`, for a thread that waits on core c, in a hall without a trace. -/
theorem execSchRemoteOp_signal {s : State} {h src : Fin 16} {o : RemoteOp} {c : Nat} (hIn : (s.sch h).inbound = [o])
    (hSrc : hallOfThread o.thread = src) (hSub : o.sub = 0x11) (hCore : 12 * src.val + s.tLastCore o.thread = c)
    (hThread : (s.setSch h { s.sch h with inbound := [] }).thread c = some o.thread) (hHalt : (s.core c).haltReq = false)
    {t : State} (hTake : State.semTake ((s.setSch h { s.sch h with inbound := [] }).setCore c { s.core c with callWait := false })
      o.thread o.obj false = (t, some 0)) (hKept : t.core c = { s.core c with callWait := false }) :
    exec (.schRemoteOp h src) s = .next (t.giveStatus c o.dd 0) := by
  have hHeld : (t.giveStatus c o.dd 0).takeHalt c = t.giveStatus c o.dd 0 := by
    simp [State.takeHalt, State.giveStatus, hKept, CoreSt.wd, hHalt]
  rw [exec_schRemoteOp, execSchRemoteOp]
  simp [hIn, hSrc, hCore, hThread, State.performOp, hSub, hTake, State.finishOp, hHeld]

/-- What the take leaves when it arrives. -/
theorem exec_signalOwnedInbound : ∃ t, exec (.schRemoteOp 0 0) signalOwnedInbound = .next t ∧ (t.sem 0).owner = none := by
  have hTake : State.semTake ((signalOwnedInbound.setSch 0 { signalOwnedInbound.sch 0 with inbound := [] }).setCore 0
      { signalOwnedInbound.core 0 with callWait := false }) 0 0 false = (_, some 0) :=
    State.semTake_signal false (by decide) (by decide) (by decide) (by decide)
  refine ⟨_, execSchRemoteOp_signal (o := ⟨0, 0x11, 0, 0, 0⟩) (c := 0) (by decide) (by decide) rfl (by decide) (by decide)
    (by decide) hTake (by decide), ?_⟩
  decide

end Sys2Proof.Machine

section
open Sys2Proof Sys2Proof.Machine

/-- Refutes O27: its clause on a take of a positive signal has the signal keep the owner it shows, but a signal has none (R144), and a
take leaves it none. The device is one that no sequence of calls leads to: only a lock is ever given an owner. -/
theorem not_semaphoreAndMessageCalls : ¬ Obligations.SemaphoreAndMessageCalls := by
  intro hAll
  obtain ⟨-, hSignal, -⟩ := hAll signalOwned 0 0 0 0 ⟨by decide, by decide, by decide, by decide, by decide⟩
  obtain ⟨hTake, -, -⟩ := hSignal 0 (by decide) (by decide) (by decide) (by decide) (by decide) (by decide)
  obtain ⟨t, hExec, -, hSem, -, -⟩ := hTake (by decide) (.schSemTake 0 0 0) (by simp)
  obtain rfl := Host.Outcome.next.inj (hExec.symm.trans exec_signalOwned)
  exact absurd (congrArg SemSt.owner hSem) (by decide)
end

section
open Sys2Proof Sys2Proof.Machine

/-- Refutes O32: in its clause on a take that another hall sent, as in O27, the signal keeps the owner it shows, and a take leaves it
none (R144). The device is one that no sequence of calls leads to: only a lock is ever given an owner. -/
theorem not_programLoadAndRemoteCalls : ¬ Obligations.ProgramLoadAndRemoteCalls := by
  intro ⟨_, _, hRemote⟩
  obtain ⟨t, hExec, -, hSem, -⟩ := hRemote signalOwnedInbound 0 0 ⟨0, 0x11, 0, 0, 0⟩ 0 (by decide) (by decide) (.inr rfl) (by decide)
    (by decide) (by decide) (by decide) (by decide) (by decide) (by decide) (by decide) (by decide) (by decide)
  obtain ⟨u, hExec', hOwner⟩ := exec_signalOwnedInbound
  obtain rfl := Host.Outcome.next.inj (hExec.symm.trans hExec')
  exact absurd ((congrArg SemSt.owner hSem).symm.trans hOwner) (by decide)
end
end

section
/-! SUPPORT. Threads put on cores and taken off (R129, R134, R135, R137): what the dispatch of one core leaves of the others, of TCBs and
of save frames, in a hall that keeps no trace. -/

namespace Sys2Proof.Machine

/-! ### Save frames (R129) -/

theorem length_flatMap_range {α : Type} (f : Nat → List α) {w : Nat} (h : ∀ i, (f i).length = w) (n : Nat) :
    ((List.range n).flatMap f).length = n * w := by
  simp [List.length_flatMap, h]

theorem length_frameOf (k : CoreSt) (sst pc : Nat) : (frameOf k sst pc).length = 1024 := by
  simp only [frameOf, List.length_append, acc8, length_flatMap_range _ (fun _ => length_leBytes _ _), length_leBytes]

/-- A thread's frame lies in its hall's slice above the TCBs. -/
def State.frameFits (s : State) (g : Nat) : Prop := 128 ≤ s.tFrame g ∧ s.tFrame g < 12288

theorem State.frameFits.above {s : State} {g i : Nat} (h : s.frameFits g) (hi : i < 1024) : aboveTcbs (s.frameAddr g + i) := by
  obtain ⟨hLow, hHigh⟩ := h
  unfold aboveTcbs State.frameAddr terraceBase
  generalize s.tFrame g = f at hLow hHigh
  omega

/-- A store above the TCBs leaves them alone. -/
theorem State.tcb_store_above (s : State) {a : Nat} {l : List Byte} (h : ∀ i, i < l.length → aboveTcbs (a + i)) (g hi lo : Nat) :
    (s.store a l).tcb g hi lo = s.tcb g hi lo := by
  unfold State.tcb
  rw [State.memNat_congr fun i hi => ?_]
  rw [State.byteAt_store]
  split
  next hIn =>
    exfalso
    have hOff := (h (tcbAddr g + i - a) hIn.2).off_tcb g
    omega
  next => rfl

/-! ### A context saved and loaded -/

section
variable (s : State) (g c sst pc : Nat)

@[simp] theorem State.core_saveContext (i : Nat) : (s.saveContext g c sst pc).core i = s.core i := by
  simp [State.saveContext]

@[simp] theorem State.unit_saveContext (u : Nat) : (s.saveContext g c sst pc).unit u = s.unit u := by
  simp [State.saveContext]

@[simp] theorem State.obj_saveContext {o : Obj} (n : Nat) (h : o ≠ .eccLogUsed) (h' : o ≠ .ddrFillBlocks) :
    (s.saveContext g c sst pc).obj o n = s.obj o n := by
  simp [State.saveContext, h, h']

@[simp] theorem State.sch_saveContext (i : Nat) : (s.saveContext g c sst pc).sch i
    = (s.setSch (hallOfThread g) { s.sch (hallOfThread g) with calls := tabSet [] (s.sch (hallOfThread g)).calls g (s.core c).calls }).sch i := by
  simp [State.saveContext, State.setSch, State.sch]

variable {g}

theorem State.tcb_saveContext (hFrame : s.frameFits g) (g' hi lo : Nat) :
    (s.saveContext g c sst pc).tcb g' hi lo = s.tcb g' hi lo := by
  simp only [State.saveContext, State.tcb_setSch]
  exact s.tcb_store_above (fun i hi => hFrame.above (by rwa [length_frameOf] at hi)) g' hi lo

variable (g) in
/-- The frame's bytes are those of the core. -/
theorem State.readMem_saveContext : (s.saveContext g c sst pc).readMem (s.frameAddr g) 1024 = frameOf (s.core c) sst pc := by
  have h := s.readMem_store_same (a := s.frameAddr g) (l := frameOf (s.core c) sst pc)
  rw [length_frameOf] at h
  have hBytes : ∀ x, (s.saveContext g c sst pc).byteAt x = (s.store (s.frameAddr g) (frameOf (s.core c) sst pc)).byteAt x := fun x => by
    simp only [State.saveContext, State.byteAt_setSch]
  rw [State.readMem_congr fun i _ => hBytes _, h]

end

section
variable (s : State) (g c : Nat)

/-- What a load of a context does, for the bytes `l` of the frame. -/
theorem State.loadContext_eq : ∃ l, l = s.readMem (s.frameAddr g) 1024 ∧ s.loadContext g c
    = ((s.setCore c { (s.core c).ofFrame l with calls := tabGet [] (s.sch (hallOfThread g)).calls g }).setPc c (leAt 0xC4 4 l)).setSch
        (hallOfThread g) { s.sch (hallOfThread g) with calls := tabSet [] (s.sch (hallOfThread g)).calls g [] } := by
  refine ⟨s.readMem (s.frameAddr g) 1024, rfl, ?_⟩
  unfold State.loadContext
  generalize s.readMem (s.frameAddr g) 1024 = l
  rfl

theorem State.mem_loadContext : (s.loadContext g c).mem = s.mem := by
  obtain ⟨l, -, h⟩ := s.loadContext_eq g c
  rw [h]
  rfl

@[simp] theorem State.unit_loadContext (u : Nat) : (s.loadContext g c).unit u = s.unit u := by
  obtain ⟨l, -, h⟩ := s.loadContext_eq g c
  rw [h]
  rfl

@[simp] theorem State.obj_loadContext {o : Obj} (n : Nat) (ho : o ≠ .corePc) : (s.loadContext g c).obj o n = s.obj o n := by
  obtain ⟨l, -, h⟩ := s.loadContext_eq g c
  rw [h, State.obj_setSch, State.obj_setPc_of_ne _ _ _ _ ho, State.obj_setCore]

@[simp] theorem State.sch_loadContext (i : Nat) : (s.loadContext g c).sch i
    = (s.setSch (hallOfThread g) { s.sch (hallOfThread g) with calls := tabSet [] (s.sch (hallOfThread g)).calls g [] }).sch i := by
  obtain ⟨l, -, h⟩ := s.loadContext_eq g c
  rw [h]
  rfl

theorem State.core_loadContext : (s.loadContext g c).core c
    = { (s.core c).ofFrame (s.readMem (s.frameAddr g) 1024) with calls := tabGet [] (s.sch (hallOfThread g)).calls g } := by
  obtain ⟨l, hl, h⟩ := s.loadContext_eq g c
  rw [h, ← hl, State.core_setSch, State.core_setPc, State.core_setCore_same]

theorem State.pc_loadContext : (s.loadContext g c).obj .corePc c
    = ((leAt 0xC4 4 (s.readMem (s.frameAddr g) 1024) % 16777216 / 8 * 8 : Nat) : Int) := by
  obtain ⟨l, hl, h⟩ := s.loadContext_eq g c
  rw [h, ← hl, State.obj_setSch, State.obj_setPc_same]

end

/-! ### Lists -/

section
variable (s : State) (h p : Nat) (l : List Nat)

@[simp] theorem State.core_setReady (c : Nat) : (s.setReady h p l).core c = s.core c := by simp [State.setReady]
@[simp] theorem State.unit_setReady (u : Nat) : (s.setReady h p l).unit u = s.unit u := by simp [State.setReady]

@[simp] theorem State.sch_setReady (i : Nat) : (s.setReady h p l).sch i
    = (s.setSch h { s.sch h with ready := tabSet [] (s.sch h).ready p l }).sch i := by simp [State.setReady]

@[simp] theorem State.obj_setReady {o : Obj} (n : Nat) (h₁ : o ≠ .eccLogUsed) (h₂ : o ≠ .ddrFillBlocks) :
    (s.setReady h p l).obj o n = s.obj o n := by simp [State.setReady, h₁, h₂]

end

/-- The list set, and the others. -/
theorem SchedSt.list_ready (x : SchedSt) (p : Nat) (l : List Nat) (q : Nat) :
    SchedSt.list { x with ready := tabSet [] x.ready p l } q = if q = p then l else x.list q := by
  unfold SchedSt.list
  dsimp only
  split
  · next h => rw [h, tabGet_tabSet_same]
  · next h => exact tabGet_tabSet_ne _ _ _ _ h

theorem State.list_setReady (s : State) (h p : Nat) (l : List Nat) (q : Nat) :
    ((s.setReady h p l).sch h).list q = if q = p then l else (s.sch h).list q := by
  rw [State.sch_setReady, State.sch_setSch_same, SchedSt.list_ready]

/-! ### What the scheduler's work on threads leaves -/

/-- A field of a TCB that no dispatch writes: not STATE, LAST_CORE or NEXT. -/
def fixedField (hi lo : Nat) : Prop := lo ≤ hi ∧ hi < 256 ∧ (hi < 55 ∨ 57 < lo) ∧ (hi < 64 ∨ 67 < lo) ∧ (hi < 128 ∨ 139 < lo)

/-- From one state to the other no fixed field of a TCB changed, nothing above the TCBs, and no size of a trace. -/
structure State.threadWork (s t : State) : Prop where
  fields : ∀ g hi lo, fixedField hi lo → t.tcb g hi lo = s.tcb g hi lo
  above : ∀ x, aboveTcbs x → t.byteAt x = s.byteAt x
  traces : ∀ h, t.obj .schTraceSize h = s.obj .schTraceSize h

namespace State.threadWork
variable {s t u : State}

theorem refl (s : State) : s.threadWork s := ⟨fun _ _ _ _ => rfl, fun _ _ => rfl, fun _ => rfl⟩

theorem trans (h : s.threadWork t) (k : t.threadWork u) : s.threadWork u :=
  ⟨fun g hi lo hf => (k.fields g hi lo hf).trans (h.fields g hi lo hf), fun x hx => (k.above x hx).trans (h.above x hx),
    fun n => (k.traces n).trans (h.traces n)⟩

/-- Nothing of memory and no trace size changed. -/
theorem of_mem (hMem : t.mem = s.mem) (hTraces : ∀ h, t.obj .schTraceSize h = s.obj .schTraceSize h) : s.threadWork t :=
  ⟨fun g hi lo _ => State.tcb_congr hMem g hi lo, fun _ _ => by simp only [State.byteAt, hMem], hTraces⟩

/-- A field that is not fixed was written. -/
theorem of_tcbs {hi lo : Nat} (h : s.tcbsOnly t hi lo) (hField : ∀ hi' lo', fixedField hi' lo' → hi' < lo ∨ hi < lo') :
    s.threadWork t :=
  ⟨fun g hi' lo' hf => h.fields g hi' lo' hf.1 hf.2.1 (hField hi' lo' hf), h.above, fun n => h.objs _ n (by decide) (by decide)⟩

theorem relink (s : State) (l : List Nat) : s.threadWork (s.relink l) :=
  .of_tcbs (s.tcbsOnly_relink l) fun _ _ ⟨_, _, _, _, h⟩ => h

theorem setReady (s : State) (h p : Nat) (l : List Nat) : s.threadWork (s.setReady h p l) :=
  .trans (t := s.setSch h { s.sch h with ready := tabSet [] (s.sch h).ready p l }) (.of_mem rfl fun _ => rfl) (.relink _ _)

theorem setTState (s : State) (g st : Nat) : s.threadWork (s.setTState g st) :=
  .trans (.of_mem (by simp) fun n => by rw [State.obj_countThread _ _ _ _ _ (by decide) (by decide) (by decide),
      State.obj_countThread _ _ _ _ _ (by decide) (by decide) (by decide)])
    (.of_tcbs (State.tcbsOnly_setTcb _ g st (by decide)) fun _ _ ⟨_, _, h, _⟩ => h)

theorem readyDrop (s : State) (g : Nat) : s.threadWork (s.readyDrop g) := .setReady _ _ _ _
theorem readyTail (s : State) (g : Nat) : s.threadWork (s.readyTail g) := .trans (.setTState _ _ _) (.setReady _ _ _ _)
theorem readyHead (s : State) (g : Nat) : s.threadWork (s.readyHead g) := .trans (.setTState _ _ _) (.setReady _ _ _ _)

theorem lastCore (s : State) (g v : Nat) : s.threadWork (s.setTcb g 67 64 v) :=
  .of_tcbs (s.tcbsOnly_setTcb g v (by decide)) fun _ _ ⟨_, _, _, h, _⟩ => h

theorem setThread (s : State) (c : Nat) (g : Option Nat) : s.threadWork (s.setThread c g) := .of_mem rfl fun _ => rfl

theorem loadContext (s : State) (g c : Nat) : s.threadWork (s.loadContext g c) :=
  .of_mem (s.mem_loadContext g c) fun _ => s.obj_loadContext g c _ (by decide)

theorem bump (s : State) {o : Obj} (n : Nat) (h : o ≠ .schTraceSize) : s.threadWork (s.bump o n) :=
  .of_mem rfl fun _ => State.obj_bump_of_ne _ _ _ h.symm

end State.threadWork

/-- Core c with thread g as a dispatch leaves them, but for the core's state. -/
def State.placed (s : State) (c g : Nat) : State :=
  (((((s.readyDrop g).setTState g thRunning).setTcb g 67 64 (c % 12)).setThread c (some g)).loadContext g c).bump
    .schDispatches (c / 12)

theorem State.placed_threadWork (s : State) (c g : Nat) : s.threadWork (s.placed c g) :=
  (((((State.threadWork.readyDrop s g).trans (.setTState _ g thRunning)).trans (.lastCore _ g (c % 12))).trans
    (.setThread _ c (some g))).trans (.loadContext _ g c)).trans (.bump _ _ (by decide))

/-- The state a dispatched core enters (R94, R135). -/
def State.started (s : State) (c : Nat) : State :=
  if (s.core c).haltReq then
    (s.setCore c { s.core c with haltReq := false, leftState := coreRun }).setObj .coreState c coreHaltedDebug
  else s.setObj .coreState c coreRun

section
variable {s : State} {c g : Nat}

theorem State.runThread_eq (s : State) (c g : Nat) :
    s.runThread c g = ((s.placed c g).schTraceRec (c / 12) 1 (c % 12) (some g) (traceArg 1 g)).started c := by
  unfold State.runThread State.placed State.started
  rfl

theorem State.runThread_untraced (hOff : s.obj .schTraceSize (c / 12) = 0) : s.runThread c g = (s.placed c g).started c := by
  rw [State.runThread_eq, State.schTraceRec_untraced (((s.placed_threadWork c g).traces _).trans hOff)]

theorem State.started_threadWork (s : State) (c : Nat) : s.threadWork (s.started c) := by
  unfold State.started
  split <;> exact .of_mem rfl fun _ => by simp

theorem State.thread_started (c' : Nat) : (s.started c).thread c' = s.thread c' := by
  unfold State.started
  split <;> rfl

theorem State.state_started_ne {c' : Nat} (h : c' ≠ c) : (s.started c).obj .coreState c' = s.obj .coreState c' := by
  unfold State.started
  split <;> simp [State.obj_setObj, h]

/-- A change of a hall's lists and calls leaves what its cores run. -/
theorem State.thread_setSch (s : State) (h c : Nat) (x : SchedSt) (hRunning : x.running = (s.sch h).running) :
    (s.setSch h x).thread c = s.thread c := by
  by_cases hHall : c / 12 = h
  · subst hHall
    simp [State.thread, hRunning]
  · exact State.thread_congr (State.sch_setSch_ne _ _ hHall)

theorem State.thread_setReady (s : State) (h p c : Nat) (l : List Nat) : (s.setReady h p l).thread c = s.thread c :=
  (State.thread_congr (State.sch_setReady _ _ _ _ _)).trans (s.thread_setSch _ _ _ rfl)

theorem State.thread_loadContext (s : State) (g c c' : Nat) : (s.loadContext g c).thread c' = s.thread c' :=
  (State.thread_congr (State.sch_loadContext _ _ _ _)).trans (s.thread_setSch _ _ _ rfl)

theorem State.thread_placed (s : State) (c g : Nat) : (s.placed c g).thread c = some g :=
  (State.thread_congr (State.sch_bump _ _ _ _)).trans ((State.thread_loadContext _ _ _ _).trans (State.thread_setThread _ _ _))

theorem State.thread_placed_ne (s : State) {c c' : Nat} (g : Nat) (h : c' ≠ c) : (s.placed c g).thread c' = s.thread c' := by
  have hFields : ((((s.readyDrop g).setTState g thRunning).setTcb g 67 64 (c % 12))).thread c' = s.thread c' :=
    (State.thread_congr (by rw [State.sch_setTcb, State.sch_setTState, State.readyDrop])).trans (s.thread_setReady _ _ _ _)
  exact (State.thread_congr (State.sch_bump _ _ _ _)).trans
    ((State.thread_loadContext _ _ _ _).trans ((State.thread_setThread_ne _ _ h).trans hFields))

theorem State.state_placed (s : State) (c g c' : Nat) : (s.placed c g).obj .coreState c' = s.obj .coreState c' := by
  rw [State.placed, State.obj_bump_of_ne _ _ _ (by decide), State.obj_loadContext _ _ _ _ (by decide), State.setThread,
    State.obj_setSch, State.obj_setTcb _ _ _ _ _ _ (by decide) (by decide),
    State.obj_setTState _ _ _ _ (by decide) (by decide) (by decide) (by decide) (by decide), State.readyDrop,
    State.obj_setReady _ _ _ _ _ (by decide) (by decide)]

end

/-! ### The cores a dispatch does not take -/

/-- Work on threads that leaves core c with the thread it runs and in its state. -/
structure State.besides (c : Nat) (s t : State) : Prop where
  work : s.threadWork t
  thread : t.thread c = s.thread c
  state : t.obj .coreState c = s.obj .coreState c

namespace State.besides
variable {c : Nat} {s t u : State}

theorem refl (c : Nat) (s : State) : State.besides c s s := ⟨.refl s, rfl, rfl⟩

theorem trans (h : State.besides c s t) (k : State.besides c t u) : State.besides c s u :=
  ⟨h.work.trans k.work, k.thread.trans h.thread, k.state.trans h.state⟩

theorem runThread {c' : Nat} (g : Nat) (hNe : c ≠ c') (hOff : s.obj .schTraceSize (c' / 12) = 0) :
    State.besides c s (s.runThread c' g) := by
  rw [State.runThread_untraced hOff]
  exact ⟨(s.placed_threadWork c' g).trans (State.started_threadWork _ _),
    (State.thread_started _).trans (s.thread_placed_ne g hNe), (State.state_started_ne hNe).trans (s.state_placed _ _ _)⟩

/-- A dispatch of any core of a hall without a trace, beside a core that is not IDLE. -/
theorem dispatch (c' : Nat) (hBusy : s.obj .coreState c ≠ coreIdle) (hOff : s.obj .schTraceSize (c' / 12) = 0) :
    State.besides c s (s.dispatch c') := by
  by_cases hNe : c = c'
  · subst hNe
    rw [State.dispatch_busy hBusy]
    exact .refl c s
  · unfold State.dispatch
    split
    · split
      · exact .runThread _ hNe hOff
      · exact .refl c s
    · exact .refl c s

theorem dispatchHall (h : Nat) (hBusy : s.obj .coreState c ≠ coreIdle) (hOff : s.obj .schTraceSize h = 0) :
    State.besides c s (s.dispatchHall h) := by
  have hAll : ∀ (l : List Nat) (t : State), (∀ i ∈ l, i < 12) → State.besides c s t →
      State.besides c s (l.foldl (fun s i => s.dispatch (12 * h + i)) t) := by
    intro l
    induction l with
    | nil => exact fun _ _ ht => ht
    | cons i l ih =>
      intro t hl ht
      have hi := hl i (by simp)
      refine ih _ (fun j hj => hl j (by simp [hj])) (ht.trans (.dispatch _ (by rwa [ht.state]) ?_))
      rw [show (12 * h + i) / 12 = h by omega, ht.work.traces]
      exact hOff
  exact hAll _ s (fun i hi => List.mem_range.mp hi) (.refl c s)

theorem raiseInt (c' code : Nat) : State.besides c s (s.raiseInt c' code) := by
  unfold State.raiseInt
  dsimp only
  split
  · exact .refl c s
  · exact ⟨.of_mem rfl fun _ => rfl, rfl, rfl⟩

theorem setPre (c' v : Nat) : State.besides c s (s.setPre c' v) := ⟨.of_mem rfl fun _ => rfl, s.thread_setSch _ _ _ rfl, rfl⟩

theorem bump {o : Obj} (n : Nat) (h : o ≠ .coreState) (h' : o ≠ .schTraceSize) : State.besides c s (s.bump o n) :=
  ⟨.bump s n h', State.thread_congr (State.sch_bump _ _ _ _), State.obj_bump_of_ne _ _ _ h.symm⟩

theorem raisePreempt (c' g : Nat) : State.besides c s (s.raisePreempt c' g) := by
  unfold State.raisePreempt
  split
  · exact .refl c s
  · exact ((State.besides.raiseInt c' 0x10).trans (.setPre c' (g + 1))).trans (.bump _ (by decide) (by decide))

theorem preemptFor (g : Nat) : State.besides c s (s.preemptFor g) := by
  unfold State.preemptFor
  split
  · split
    · exact .raisePreempt _ _
    · exact .refl c s
  · exact .refl c s

/-- Dispatch and preemption in a hall without a trace, beside a core that is not IDLE. -/
theorem settle (h : Nat) (new : List Nat) (hBusy : s.obj .coreState c ≠ coreIdle) (hOff : s.obj .schTraceSize h = 0) :
    State.besides c s (s.settle h new) := by
  have hAll : ∀ (l : List Nat) (t : State), State.besides c s t →
      State.besides c s (l.foldl (fun s g => s.preemptFor g) t) := by
    intro l
    induction l with
    | nil => exact fun _ ht => ht
    | cons g l ih => exact fun t ht => ih _ (ht.trans (.preemptFor g))
  exact hAll _ _ (.dispatchHall h hBusy hOff)

end State.besides

end Sys2Proof.Machine
end

section
/-! SUPPORT. Threads created, killed and given another priority (R131, R132, R136, R147). -/

namespace Sys2Proof.Machine

/-! ### SCH_CREATE -/

/-- The TCB that SCH_CREATE writes (R131). -/
def newTcb (a0 a1 : Word) : Nat :=
  bits a1.toNat 13 0 * 2 ^ 98 + bits a0.toNat 13 0 * 2 ^ 84 + bits a1.toNat 31 16 * 2 ^ 112 + bits a0.toNat 31 20 * 2 ^ 68
    + 15 * 2 ^ 64 + bits a0.toNat 19 14 * 2 ^ 58

/-- Its fields are those of the operands. -/
theorem newTcb_fields (a0 a1 : Word) : bits (newTcb a0 a1) 63 58 = bits a0.toNat 19 14
    ∧ bits (newTcb a0 a1) 79 68 = bits a0.toNat 31 20 ∧ bits (newTcb a0 a1) 111 98 = bits a1.toNat 13 0
    ∧ bits (newTcb a0 a1) 127 112 = bits a1.toNat 31 16 := by
  have h₁ := bits_lt a0.toNat 19 14
  have h₂ := bits_lt a0.toNat 31 20
  have h₃ := bits_lt a1.toNat 13 0
  have h₄ := bits_lt a1.toNat 31 16
  have h₅ := bits_lt a0.toNat 13 0
  unfold newTcb
  generalize bits a0.toNat 19 14 = prio at *
  generalize bits a0.toNat 31 20 = aff at *
  generalize bits a1.toNat 13 0 = fr at *
  generalize bits a1.toNat 31 16 = tag at *
  generalize bits a0.toNat 13 0 = entry at *
  norm_num at h₁ h₂ h₃ h₄ h₅
  unfold bits
  norm_num
  omega

/-- The thread n with its TCB and its first frame. -/
def State.withNew (u : State) (n : Nat) (a0 a1 a2 : Word) : State :=
  (u.store (tcbAddr n) (leBytes 32 (newTcb a0 a1))).store ((u.store (tcbAddr n) (leBytes 32 (newTcb a0 a1))).frameAddr n)
    (newFrame a2 (bits a0.toNat 13 0))

section
variable {s u : State} {c : Fin 192} {g h n : Nat} {d a : Fin 16} {a0 a1 a2 : Word}

theorem State.lowestFree_congr {t : State} (hStates : ∀ g, t.tState g = s.tState g) (h f k : Nat) :
    t.lowestFree h f k = s.lowestFree h f k := by
  induction f generalizing k with
  | zero => rfl
  | succ f ih => rw [State.lowestFree, State.lowestFree, hStates, ih]

theorem State.tcb_withNew (hFits : frameOk (bits a1.toNat 13 0) = true) {hi lo : Nat} (hle : lo ≤ hi) (hi256 : hi < 256) :
    (u.withNew n a0 a1 a2).tcb n hi lo = bits (newTcb a0 a1) hi lo := by
  have hTcb : ∀ hi lo, lo ≤ hi → hi < 256 →
      (u.store (tcbAddr n) (leBytes 32 (newTcb a0 a1))).tcb n hi lo = bits (newTcb a0 a1) hi lo := fun hi lo h₁ h₂ => by
    rw [State.tcb, State.memNat_store_same, bits_mod_two_pow _ h₁ h₂]
  have hFrame : (u.store (tcbAddr n) (leBytes 32 (newTcb a0 a1))).frameFits n := by
    simp only [frameOk, Bool.and_eq_true, decide_eq_true_eq] at hFits
    rw [State.frameFits, State.tFrame, hTcb 111 98 (by decide) (by decide), (newTcb_fields a0 a1).2.2.1]
    exact hFits
  rw [State.withNew, State.tcb_store_above, hTcb hi lo hle hi256]
  exact fun i hi => hFrame.above (by rwa [newFrame, length_frameOf] at hi)

theorem State.obj_withNew {o : Obj} (m : Nat) (h₁ : o ≠ .eccLogUsed) (h₂ : o ≠ .ddrFillBlocks) :
    (u.withNew n a0 a1 a2).obj o m = u.obj o m := by
  rw [State.withNew, State.obj_store _ _ _ _ h₁ h₂, State.obj_store _ _ _ _ h₁ h₂]

theorem State.state_readyTail (u : State) (n c : Nat) : (u.readyTail n).obj .coreState c = u.obj .coreState c := by
  simp [State.readyTail]

theorem State.callCreate_makes (hAff : bits a0.toNat 31 20 ≠ 0) (hFits : frameOk (bits a1.toNat 13 0) = true)
    (hFree : u.lowestFree h 4096 0 = some n) (hOff : u.obj .schTraceSize h = 0) :
    u.callCreate h a0 a1 a2 = (((u.withNew n a0 a1 a2).readyTail n).settle h [n], n % 4096) := by
  have hRec : ((u.withNew n a0 a1 a2).readyTail n).schTraceRec h 0x10 15 (some n) (traceArg 0x10 n)
      = (u.withNew n a0 a1 a2).readyTail n :=
    State.schTraceRec_untraced (((State.threadWork.readyTail _ n).traces h).trans
      ((State.obj_withNew h (by decide) (by decide)).trans hOff)) _ _ _ _
  simp only [State.callCreate, hAff, hFits, hFree, Bool.true_eq_false, or_self, if_false]
  rw [← hRec]
  rfl

theorem State.callCreate_badArg (hBad : bits a0.toNat 31 20 = 0 ∨ frameOk (bits a1.toNat 13 0) = false) :
    u.callCreate h a0 a1 a2 = (u, 0x80000003) := by
  simp [State.callCreate, hBad]

theorem State.callCreate_noThread (hAff : bits a0.toNat 31 20 ≠ 0) (hFits : frameOk (bits a1.toNat 13 0) = true)
    (hNone : u.lowestFree h 4096 0 = none) : u.callCreate h a0 a1 a2 = (u, 0x80000005) := by
  simp [State.callCreate, hAff, hFits, hNone]

/-- SCH_CREATE is legal with D(s+2) a register. -/
theorem schedIllegal_create (d : Fin 16) {a : Fin 16} (ha : a.val < 14) : schedIllegal 0x0B (16 * d + a) = false := by
  simp [schedIllegal, operand_ds]
  omega

/-- A call of `sub` that comes to a state and a status, the core left in its state. -/
theorem State.call_answers {sub : Nat} {t : State} {v : Nat} (hReady : callReady s c g)
    (hLegal : schedIllegal sub (16 * d + a) = false)
    (hCall : State.schedCall c (s.core c) sub (16 * d + a) (s.callMade c sub (16 * d + a)) = t.giveStatus c d v)
    (hState : t.obj .coreState c = s.obj .coreState c) : s.call c sub d a = t.giveStatus c d v :=
  State.call_status hReady.1 hReady.2.1 hLegal hCall hState

/-- One that comes to nothing but a status. -/
theorem State.call_only_status {sub v : Nat} (hReady : callReady s c g) (hLegal : schedIllegal sub (16 * d + a) = false)
    (hCall : State.schedCall c (s.core c) sub (16 * d + a) (s.callMade c sub (16 * d + a))
      = (s.callMade c sub (16 * d + a)).giveStatus c d v) :
    ranAlone s (s.call c sub d a) c ((s.core c).wd d (BitVec.ofNat 32 v)) := by
  rw [State.call_answers hReady hLegal hCall (State.obj_callMade _ _ _ _ _ (by decide))]
  exact State.ranAlone_status c sub _ d v

theorem State.rd_giveStatus (t : State) (c dd v : Nat) : ((t.giveStatus c dd v).core c).rd dd = BitVec.ofNat 32 v := by
  rw [State.giveStatus, State.core_setCore_same, CoreSt.rd_wd_same]

theorem State.tcb_giveStatus (t : State) (c dd v g hi lo : Nat) : (t.giveStatus c dd v).tcb g hi lo = t.tcb g hi lo :=
  State.tcb_setCore _ _ _ _ _ _

theorem execSchCreate_makes (hReady : callReady s c g) (ha : a.val < 14) (hAff : bits ((s.core c).rd a).toNat 31 20 ≠ 0)
    (hFits : frameOk (bits ((s.core c).rd (a + 1)).toNat 13 0) = true) (hFree : s.lowestFree (c / 12) 4096 0 = some n) :
    ∃ t, exec (.schCreate c d a) s = .next t ∧ (t.core c).rd d = BitVec.ofNat 32 (n % 4096)
      ∧ ∀ hi lo, fixedField hi lo → t.tcb n hi lo = bits (newTcb ((s.core c).rd a) ((s.core c).rd (a + 1))) hi lo := by
  have hCall := State.schedCall_create (u := s.callMade c 0x0B (16 * d + a)) (c := c) (d := d) (a := a)
    (hReady.2.2.2.1 : s.thread c = some g) hReady.2.2.1
  have hOff : (s.callMade c 0x0B (16 * d + a)).obj .schTraceSize (c / 12) = 0 :=
    (State.obj_callMade _ _ _ _ _ (by decide)).trans hReady.2.2.2.2
  rw [State.callCreate_makes hAff hFits ((State.lowestFree_congr (fun _ => State.tcb_callMade _ _ _ _ _ _ _) _ _ _).trans hFree)
    hOff] at hCall
  have hState := (State.state_readyTail ((s.callMade c 0x0B (16 * d + a)).withNew n ((s.core c).rd a) ((s.core c).rd (a + 1))
    ((s.core c).rd (a + 2))) n c).trans ((State.obj_withNew _ (by decide) (by decide)).trans (State.obj_callMade _ _ _ _ _ (by decide)))
  have hBeside := State.besides.settle (c := c) (c.val / 12) [n] (by rw [hState]; exact State.issues_not_idle hReady.1)
    (((State.threadWork.readyTail _ n).traces _).trans ((State.obj_withNew _ (by decide) (by decide)).trans hOff))
  refine ⟨_, congrArg Host.Outcome.next (State.call_answers hReady (schedIllegal_create d ha) hCall (hBeside.state.trans hState)),
    State.rd_giveStatus _ _ _ _, fun hi lo hField => ?_⟩
  rw [State.tcb_giveStatus, hBeside.work.fields _ _ _ hField, (State.threadWork.readyTail _ n).fields _ _ _ hField,
    State.tcb_withNew hFits hField.1 hField.2.1]

/-! ### SCH_KILL -/

theorem State.locksOf_congr {t : State} (hSems : ∀ h, (t.sch h).sems = (s.sch h).sems) (g : Nat) : t.locksOf g = s.locksOf g := by
  simp only [State.locksOf, hSems]

theorem State.sems_setSch (s : State) {h : Nat} {x : SchedSt} (hSems : x.sems = (s.sch h).sems) (i : Nat) :
    ((s.setSch h x).sch i).sems = (s.sch i).sems := by
  by_cases hi : i = h
  · rw [hi, State.sch_setSch_same, hSems]
  · rw [State.sch_setSch_ne _ _ hi]

theorem State.sems_readyDrop (s : State) (g i : Nat) : ((s.readyDrop g).sch i).sems = (s.sch i).sems := by
  rw [State.readyDrop, State.sch_setReady]
  refine s.sems_setSch ?_ i
  rfl

theorem State.releaseLocks_none (h : s.locksOf g = []) : s.releaseLocks g = s := by
  simp [State.releaseLocks, h]

/-- The thread is FREE, and only its state, its wait and its calls are written. -/
theorem State.freeThread_eq (h : s.locksOf g = []) : s.freeThread g
    = (((s.setTcb g 143 140 0).setTState g thFree).setSch (hallOfThread g)
        { ((s.setTcb g 143 140 0).setTState g thFree).sch (hallOfThread g) with
          calls := tabSet [] (((s.setTcb g 143 140 0).setTState g thFree).sch (hallOfThread g)).calls g [] }) := by
  simp only [State.freeThread, State.releaseLocks_none h]

theorem State.tState_freeThread (h : s.locksOf g = []) : (s.freeThread g).tState g = thFree := by
  rw [State.freeThread_eq h, State.tState, State.tcb_setSch]
  exact State.tState_setTState _ _ _

theorem State.list_freeThread (h : s.locksOf g = []) (i p : Nat) : ((s.freeThread g).sch i).list p = (s.sch i).list p := by
  rw [State.freeThread_eq h]
  by_cases hi : i = hallOfThread g
  · rw [hi, State.sch_setSch_same, State.sch_setTState, State.sch_setTcb]
    rfl
  · rw [State.sch_setSch_ne _ _ hi, State.sch_setTState, State.sch_setTcb]

theorem State.obj_freeThread (h : s.locksOf g = []) {o : Obj} (m : Nat) (h₁ : o ≠ .schReadyThreads) (h₂ : o ≠ .schWaitingThreads)
    (h₃ : o ≠ .schFreeThreads) (h₄ : o ≠ .eccLogUsed) (h₅ : o ≠ .ddrFillBlocks) : (s.freeThread g).obj o m = s.obj o m := by
  rw [State.freeThread_eq h, State.obj_setSch, State.obj_setTState _ _ _ _ h₁ h₂ h₃ h₄ h₅, State.obj_setTcb _ _ _ _ _ _ h₄ h₅]

theorem State.callKill_none {k : Nat} (hk : 4096 ≤ k) : u.callKill h k = (u, 3) := by
  simp [State.callKill, show 4095 < k by omega]

theorem State.callKill_badState {k : Nat} (hk : k < 4096)
    (hState : u.tState (4096 * h + k) = thFree ∨ u.tState (4096 * h + k) = thRunning) : u.callKill h k = (u, 6) := by
  simp [State.callKill, show ¬4095 < k by omega, hState]

theorem State.callKill_ready {k : Nat} (hk : k < 4096) (hState : u.tState (4096 * h + k) = thReady)
    (hLocks : u.locksOf (4096 * h + k) = []) (hOff : u.obj .schTraceSize h = 0) :
    u.callKill h k = ((u.readyDrop (4096 * h + k)).freeThread (4096 * h + k), 0)
      ∧ (u.readyDrop (4096 * h + k)).locksOf (4096 * h + k) = [] := by
  have hLocks' : (u.readyDrop (4096 * h + k)).locksOf (4096 * h + k) = [] :=
    (State.locksOf_congr (fun i => u.sems_readyDrop _ i) _).trans hLocks
  have hRec := State.schTraceRec_untraced (s := (u.readyDrop (4096 * h + k)).freeThread (4096 * h + k)) (h := h)
    ((State.obj_freeThread hLocks' h (by decide) (by decide) (by decide) (by decide) (by decide)).trans
      (((State.threadWork.readyDrop u _).traces h).trans hOff)) 0x11 15 (some (4096 * h + k)) (traceArg 0x11 (4096 * h + k))
  refine ⟨?_, hLocks'⟩
  simp only [State.callKill, show ¬4095 < k by omega, hState, if_false, reduceIte]
  simp [hRec]

/-- A killed READY thread is on its list no more. -/
theorem State.list_killed (hLocks : (u.readyDrop g).locksOf g = []) :
    g ∉ (((u.readyDrop g).freeThread g).sch (hallOfThread g)).list (u.tPrio g) := by
  rw [State.list_freeThread hLocks, State.readyDrop, State.list_setReady, if_pos rfl]
  simp

/-! ### SCH_SET_PRIO -/

theorem State.callSetPrio_free {x : Word} (hState : u.tState (4096 * h + bits x.toNat 27 16) = thFree) : u.callSetPrio h x = (u, 6) := by
  simp [State.callSetPrio, hState]

/-- Of a thread that is neither FREE nor READY the priority alone is written, and a RUNNING one may be preempted for another. -/
theorem State.callSetPrio_off_list {x : Word} (h₁ : u.tState (4096 * h + bits x.toNat 27 16) ≠ thFree)
    (h₂ : u.tState (4096 * h + bits x.toNat 27 16) ≠ thReady) :
    (u.callSetPrio h x = (u.setTcb (4096 * h + bits x.toNat 27 16) 63 58 (bits x.toNat 5 0), 0)
      ∨ u.tState (4096 * h + bits x.toNat 27 16) = thRunning ∧ ∃ r, u.callSetPrio h x
          = ((u.setTcb (4096 * h + bits x.toNat 27 16) 63 58 (bits x.toNat 5 0)).preemptFor r, 0)) := by
  have hKept : (u.setTcb (4096 * h + bits x.toNat 27 16) 63 58 (bits x.toNat 5 0)).tState (4096 * h + bits x.toNat 27 16)
      = u.tState (4096 * h + bits x.toNat 27 16) := State.tcb_setTcb_apart _ _ _ _ (by decide) (by decide) (by decide) (by decide)
  simp only [State.callSetPrio, h₁, h₂, if_false, hKept]
  split
  next hRunning =>
    split
    next r _ => exact .inr ⟨hRunning, r, rfl⟩
    next => exact .inl rfl
  next => exact .inl rfl

theorem State.callSetPrio_ready {x : Word} (hState : u.tState (4096 * h + bits x.toNat 27 16) = thReady) :
    u.callSetPrio h x = (((u.readyDrop (4096 * h + bits x.toNat 27 16)).setTcb (4096 * h + bits x.toNat 27 16) 63 58
      (bits x.toNat 5 0)).setReady h (bits x.toNat 5 0)
        (((u.readyDrop (4096 * h + bits x.toNat 27 16)).sch h).list (bits x.toNat 5 0) ++ [4096 * h + bits x.toNat 27 16]), 0) := by
  simp [State.callSetPrio, hState]

/-- The ready lists stay as they are when a thread is preempted for another. -/
theorem State.ready_preemptFor (u : State) (r i : Nat) : ((u.preemptFor r).sch i).ready = (u.sch i).ready := by
  have hPre : ∀ t : State, t.sched = u.sched → ∀ c' v, (((t.setPre c' v).bump .schPreemptions (c' / 12)).sch i).ready = (u.sch i).ready := by
    intro t ht c' v
    have hSch : ∀ j, t.sch j = u.sch j := fun j => by simp only [State.sch, ht]
    rw [State.sch_bump, State.setPre]
    by_cases hi : i = c' / 12
    · rw [hi, State.sch_setSch_same, hSch]
    · rw [State.sch_setSch_ne _ _ hi, hSch]
  unfold State.preemptFor
  split
  · split
    · unfold State.raisePreempt State.raiseInt
      dsimp only
      split
      · rfl
      · exact hPre _ rfl _ _
    · rfl
  · rfl

theorem execSchKill_ready (hReady : callReady s c g) (hk : ((s.core c).rd a).toNat < 4096)
    (hSt : s.tState (4096 * (c / 12) + ((s.core c).rd a).toNat) = thReady)
    (hLocks : s.locksOf (4096 * (c / 12) + ((s.core c).rd a).toNat) = []) :
    ∃ t, exec (.schKill c d a) s = .next t ∧ (t.core c).rd d = 0
      ∧ t.tState (4096 * (c / 12) + ((s.core c).rd a).toNat) = thFree
      ∧ 4096 * (c.val / 12) + ((s.core c).rd a).toNat
        ∉ (t.sch (c / 12)).list (s.tPrio (4096 * (c / 12) + ((s.core c).rd a).toNat)) := by
  have hCall := State.schedCall_kill (u := s.callMade c 0x0C (16 * d + a)) (c := c) (d := d) (a := a)
    (hReady.2.2.2.1 : s.thread c = some g) hReady.2.2.1
  obtain ⟨hKill, hFreed⟩ := State.callKill_ready (u := s.callMade c 0x0C (16 * d + a)) hk
    ((State.tcb_callMade _ _ _ _ _ _ _).trans hSt) ((State.locksOf_congr (fun _ => by rw [State.sch_callMade]) _).trans hLocks)
    ((State.obj_callMade _ _ _ _ _ (by decide)).trans hReady.2.2.2.2)
  have hHall : hallOfThread (4096 * (c.val / 12) + ((s.core c).rd a).toNat) = c.val / 12 := by
    unfold hallOfThread
    omega
  have hGone := State.list_killed hFreed
  rw [hHall, show State.tPrio (s.callMade c 0x0C (16 * d + a)) (4096 * (c / 12) + ((s.core c).rd a).toNat)
    = s.tPrio (4096 * (c / 12) + ((s.core c).rd a).toNat) from State.tcb_callMade _ _ _ _ _ _ _] at hGone
  rw [hKill] at hCall
  refine ⟨_, congrArg Host.Outcome.next (State.call_answers hReady rfl hCall ?_), State.rd_giveStatus _ _ _ _,
    (State.tcb_giveStatus _ _ _ _ _ _ _).trans (State.tState_freeThread hFreed),
    by rwa [State.giveStatus, State.sch_setCore]⟩
  rw [State.obj_freeThread hFreed _ (by decide) (by decide) (by decide) (by decide) (by decide), State.readyDrop,
    State.obj_setReady _ _ _ _ _ (by decide) (by decide), State.obj_callMade _ _ _ _ _ (by decide)]

theorem execSchSetPrio_ready (hReady : callReady s c g)
    (hSt : s.tState (4096 * (c / 12) + bits ((s.core c).rd a).toNat 27 16) = thReady) :
    ∃ t, exec (.schSetPrio c d a) s = .next t ∧ (t.core c).rd d = 0
      ∧ t.tPrio (4096 * (c / 12) + bits ((s.core c).rd a).toNat 27 16) = bits ((s.core c).rd a).toNat 5 0
      ∧ (t.sch (c / 12)).list (bits ((s.core c).rd a).toNat 5 0)
        = (if bits ((s.core c).rd a).toNat 5 0 = s.tPrio (4096 * (c / 12) + bits ((s.core c).rd a).toNat 27 16)
            then ((s.sch (c / 12)).list (bits ((s.core c).rd a).toNat 5 0)).filter
              (fun x => decide (x ≠ 4096 * (c.val / 12) + bits ((s.core c).rd a).toNat 27 16))
            else (s.sch (c / 12)).list (bits ((s.core c).rd a).toNat 5 0))
          ++ [4096 * (c.val / 12) + bits ((s.core c).rd a).toNat 27 16] := by
  have hCall := State.schedCall_setPrio (u := s.callMade c 0x0D (16 * d + a)) (c := c) (d := d) (a := a)
    (hReady.2.2.2.1 : s.thread c = some g) hReady.2.2.1
  rw [State.callSetPrio_ready ((State.tcb_callMade _ _ _ _ _ _ _).trans hSt)] at hCall
  have hLt := bits_lt ((s.core c).rd a).toNat 5 0
  have hHall : hallOfThread (4096 * (c.val / 12) + bits ((s.core c).rd a).toNat 27 16) = c.val / 12 := by
    have := bits_lt ((s.core c).rd a).toNat 27 16
    unfold hallOfThread
    omega
  refine ⟨_, congrArg Host.Outcome.next (State.call_answers hReady rfl hCall ?_), State.rd_giveStatus _ _ _ _, ?_, ?_⟩
  · rw [State.obj_setReady _ _ _ _ _ (by decide) (by decide), State.obj_setTcb _ _ _ _ _ _ (by decide) (by decide), State.readyDrop,
      State.obj_setReady _ _ _ _ _ (by decide) (by decide), State.obj_callMade _ _ _ _ _ (by decide)]
  · rw [State.tPrio, State.tcb_giveStatus, (State.threadWork.setReady _ _ _ _).fields _ _ _ (by simp [fixedField]),
      State.tcb_setTcb_same _ _ _ (by decide) (by decide)]
    exact Nat.mod_eq_of_lt hLt
  · rw [State.giveStatus, State.sch_setCore, State.list_setReady, if_pos rfl, State.readyDrop, hHall, State.list_setReady,
      show State.tPrio (s.callMade c 0x0D (16 * d + a)) (4096 * (c / 12) + bits ((s.core c).rd a).toNat 27 16)
        = s.tPrio (4096 * (c / 12) + bits ((s.core c).rd a).toNat 27 16) from State.tcb_callMade _ _ _ _ _ _ _, State.sch_callMade]
    split_ifs with h
    · rw [← h]
    · rfl

/-- The write of a priority alone is answered, and leaves the scheduler as it was. -/
theorem State.answered_setTcb (n hi lo v : Nat) :
    answered s (((s.callMade c 0x0D (16 * d + a)).setTcb n hi lo v).giveStatus c d 0) c d 0 := by
  refine ⟨?_, fun c' hc' => ?_, ?_, fun i hi' => ?_⟩
  · rw [State.giveStatus, State.core_setCore_same, State.core_setTcb, State.core_callMade]
    rfl
  · rw [State.giveStatus, State.core_setCore_ne _ _ hc', State.core_setTcb, State.core_callMade_ne _ _ _ _ hc']
  · rw [State.giveStatus, State.obj_setCore, State.obj_setTcb _ _ _ _ _ _ (by decide) (by decide), State.pc_callMade]
  · rw [State.giveStatus, State.sch_setCore, State.sch_setTcb, State.sch_callMade]

theorem execSchSetPrio_off_list (hReady : callReady s c g)
    (h₁ : s.tState (4096 * (c / 12) + bits ((s.core c).rd a).toNat 27 16) ≠ thFree)
    (h₂ : s.tState (4096 * (c / 12) + bits ((s.core c).rd a).toNat 27 16) ≠ thReady) :
    ∃ t, exec (.schSetPrio c d a) s = .next t ∧ (t.core c).rd d = 0
      ∧ t.tPrio (4096 * (c / 12) + bits ((s.core c).rd a).toNat 27 16) = bits ((s.core c).rd a).toNat 5 0
      ∧ (t.sch (c / 12)).ready = (s.sch (c / 12)).ready
      ∧ (s.tState (4096 * (c / 12) + bits ((s.core c).rd a).toNat 27 16) ≠ thRunning → answered s t c d 0) := by
  have hCall := State.schedCall_setPrio (u := s.callMade c 0x0D (16 * d + a)) (c := c) (d := d) (a := a)
    (hReady.2.2.2.1 : s.thread c = some g) hReady.2.2.1
  have hTcb : ∀ n, State.tState (s.callMade c 0x0D (16 * d + a)) n = s.tState n := fun n => State.tcb_callMade _ _ _ _ _ _ _
  have hLt := bits_lt ((s.core c).rd a).toNat 5 0
  have hWritten : ∀ u : State, u.tcb (4096 * (c / 12) + bits ((s.core c).rd a).toNat 27 16) 63 58
      = ((s.callMade c 0x0D (16 * d + a)).setTcb (4096 * (c / 12) + bits ((s.core c).rd a).toNat 27 16) 63 58
          (bits ((s.core c).rd a).toNat 5 0)).tcb (4096 * (c / 12) + bits ((s.core c).rd a).toNat 27 16) 63 58 →
      (u.giveStatus c d 0).tPrio (4096 * (c / 12) + bits ((s.core c).rd a).toNat 27 16) = bits ((s.core c).rd a).toNat 5 0 :=
    fun u hu => by
      rw [State.tPrio, State.tcb_giveStatus, hu, State.tcb_setTcb_same _ _ _ (by decide) (by decide)]
      exact Nat.mod_eq_of_lt hLt
  rcases State.callSetPrio_off_list (u := s.callMade c 0x0D (16 * d + a)) (h := c / 12) (x := (s.core c).rd a)
    (by rw [hTcb]; exact h₁) (by rw [hTcb]; exact h₂) with hSet | ⟨hRunning, r, hSet⟩
  · rw [hSet] at hCall
    refine ⟨_, congrArg Host.Outcome.next (State.call_answers hReady rfl hCall ?_), State.rd_giveStatus _ _ _ _, hWritten _ rfl, ?_,
      fun _ => State.answered_setTcb _ _ _ _⟩
    · rw [State.obj_setTcb _ _ _ _ _ _ (by decide) (by decide), State.obj_callMade _ _ _ _ _ (by decide)]
    · rw [State.giveStatus, State.sch_setCore, State.sch_setTcb, State.sch_callMade]
  · rw [hSet] at hCall
    have hBeside := State.besides.preemptFor (c := c) (s := (s.callMade c 0x0D (16 * d + a)).setTcb
      (4096 * (c / 12) + bits ((s.core c).rd a).toNat 27 16) 63 58 (bits ((s.core c).rd a).toNat 5 0)) r
    refine ⟨_, congrArg Host.Outcome.next (State.call_answers hReady rfl hCall ?_), State.rd_giveStatus _ _ _ _,
      hWritten _ (hBeside.work.fields _ _ _ (by simp [fixedField])), ?_, fun h => absurd ((hTcb _).symm.trans hRunning) h⟩
    · rw [hBeside.state, State.obj_setTcb _ _ _ _ _ _ (by decide) (by decide), State.obj_callMade _ _ _ _ _ (by decide)]
    · rw [State.giveStatus, State.sch_setCore, State.ready_preemptFor, State.sch_setTcb, State.sch_callMade]

end

end Sys2Proof.Machine

section
open Sys2Proof Sys2Proof.Machine

/-- Settles O29, by the cases of the three calls; the dispatch and preemption after them leave the caller's core as it is. -/
theorem callsOnOtherThreads : Obligations.CallsOnOtherThreads := by
  intro s c g d a hReady
  have hRuns : ∀ sub o, (s.callMade c sub o).thread c = some g := fun _ _ => hReady.2.2.2.1
  have hExl : (s.core c).sst.exl = false := hReady.2.2.1
  have hState : ∀ sub o, (s.callMade c sub o).obj .coreState c = s.obj .coreState c := fun _ _ =>
    State.obj_callMade _ _ _ _ _ (by decide)
  have hOff : ∀ sub o, (s.callMade c sub o).obj .schTraceSize (c / 12) = 0 := fun _ _ =>
    (State.obj_callMade _ _ _ _ _ (by decide)).trans hReady.2.2.2.2
  refine ⟨fun n ha hAff hFits hFree => ?_, fun ha hBad => ?_, fun ha hAff hFits hNone => ?_, fun hk => ?_, fun hk hSt => ?_,
    fun hk hSt hLocks => ?_, ?_⟩
  · obtain ⟨t, hExec, hRd, hFields⟩ := execSchCreate_makes hReady ha hAff hFits hFree
    obtain ⟨hPrio, hAffinity, hFrame, hTag⟩ := newTcb_fields ((s.core c).rd a) ((s.core c).rd (a + 1))
    exact ⟨t, hExec, hRd, (hFields 63 58 (by simp [fixedField])).trans hPrio, (hFields 79 68 (by simp [fixedField])).trans hAffinity,
      (hFields 111 98 (by simp [fixedField])).trans hFrame, (hFields 127 112 (by simp [fixedField])).trans hTag⟩
  · have hCall := State.schedCall_create (d := d) (a := a) (hRuns 0x0B (16 * d + a)) hExl
    rw [State.callCreate_badArg hBad] at hCall
    exact ⟨_, rfl, State.call_only_status hReady (schedIllegal_create d ha) hCall⟩
  · have hCall := State.schedCall_create (d := d) (a := a) (hRuns 0x0B (16 * d + a)) hExl
    rw [State.callCreate_noThread hAff hFits
      ((State.lowestFree_congr (fun _ => State.tcb_callMade _ _ _ _ _ _ _) _ _ _).trans hNone)] at hCall
    exact ⟨_, rfl, State.call_only_status hReady (schedIllegal_create d ha) hCall⟩
  · have hCall := State.schedCall_kill (d := d) (a := a) (hRuns 0x0C (16 * d + a)) hExl
    rw [State.callKill_none hk] at hCall
    exact ⟨_, rfl, State.call_only_status hReady rfl hCall⟩
  · have hCall := State.schedCall_kill (d := d) (a := a) (hRuns 0x0C (16 * d + a)) hExl
    rw [State.callKill_badState hk (by simpa only [State.tState, State.tcb_callMade] using hSt)] at hCall
    exact ⟨_, rfl, State.call_only_status hReady rfl hCall⟩
  · exact execSchKill_ready hReady hk hSt hLocks
  · rintro n p rfl rfl
    refine ⟨fun hSt => ?_, fun hSt => ?_, fun hSt => ?_, fun hSt => ?_⟩
    · have hCall := State.schedCall_setPrio (d := d) (a := a) (hRuns 0x0D (16 * d + a)) hExl
      rw [State.callSetPrio_free (by simpa only [State.tState, State.tcb_callMade] using hSt)] at hCall
      exact ⟨_, rfl, State.call_only_status hReady rfl hCall⟩
    · obtain ⟨t, hExec, hRd, hPrio, hList, -⟩ := execSchSetPrio_off_list hReady (by rw [hSt]; decide) (by rw [hSt]; decide)
      exact ⟨t, hExec, hRd, hPrio, hList⟩
    · obtain ⟨t, hExec, -, hPrio, -, hAnswered⟩ := execSchSetPrio_off_list hReady
        (by rcases hSt with hSt | hSt <;> rw [hSt] <;> decide) (by rcases hSt with hSt | hSt <;> rw [hSt] <;> decide)
      exact ⟨t, hExec, hAnswered (by rcases hSt with hSt | hSt <;> rw [hSt] <;> decide), hPrio⟩
    · exact execSchSetPrio_ready hReady hSt
end
end

section
/-! SUPPORT. A thread that waits, and a core that is given up (R129, R134, R138): what the scheduler keeps of them, where the hall of the
core has no ready thread and keeps no trace. -/

namespace Sys2Proof.Machine

/-! ### The PC in a save frame (R129) -/

/-- A piece of a block. -/
theorem slice_append (p q r : List Byte) : slice p.length q.length (p ++ q ++ r) = q := by
  have hTake : ((p ++ q ++ r).drop p.length).take q.length = q := by
    rw [List.append_assoc, List.drop_left, List.take_left]
  simp only [slice, hTake, Nat.sub_self, List.replicate_zero, List.append_nil]

/-- A number within a block that is read from memory. -/
theorem State.memNat_within (s : State) {a o n m : Nat} (h : o + n ≤ m) : s.memNat (a + o) n = leAt o n (s.readMem a m) := by
  have hPiece : ((s.readMem a m).drop o).take n = s.readMem (a + o) n := by
    refine List.ext_getElem (by simp only [List.length_take, List.length_drop, State.length_readMem]; omega) fun i hi hi' => ?_
    rw [List.getElem_take, List.getElem_drop, State.getElem_readMem, State.getElem_readMem, Nat.add_assoc]
  rw [leAt, slice, hPiece, State.length_readMem, Nat.sub_self, List.replicate_zero, List.append_nil, State.memNat]

/-- The part of a frame before the PC. -/
def frameFront (k : CoreSt) (sst : Nat) : List Byte :=
  (List.range 16).flatMap (fun n => leBytes 4 (k.rd n).toNat) ++ (List.range 8).flatMap (fun n => leBytes 4 (k.ra n))
    ++ (List.range 8).flatMap (fun n => leBytes 4 (k.rm n).toNat) ++ (List.range 4).flatMap (fun n => acc8 (k.racc n))
    ++ (List.range 4).flatMap (fun n => leBytes 4 (k.rlc n))
    ++ (List.range 4).flatMap (fun n => leBytes 4 (tabGet (0 : Word) k.ls n).toNat) ++ leBytes 4 sst

theorem length_frameFront (k : CoreSt) (sst : Nat) : (frameFront k sst).length = 0xC4 := by
  simp only [frameFront, List.length_append, acc8, length_flatMap_range _ (fun _ => length_leBytes _ _), length_leBytes]

/-- The frame's word at 0xC4 is the PC. -/
theorem leAt_frameOf_pc (k : CoreSt) (sst pc : Nat) : leAt 0xC4 4 (frameOf k sst pc) = pc % 2 ^ 32 := by
  have hSplit : ∃ r, frameOf k sst pc = frameFront k sst ++ leBytes 4 pc ++ r := by
    refine ⟨leBytes 4 k.vstate.toWord ++ (leBytes 4 0
      ++ ((List.range 6).flatMap (fun n => leBytes 4 (tabGet (0 : Word) k.wbase n).toNat) ++ (leBytes 8 0 ++ (leBytes 16 0
      ++ ((List.range 32).flatMap (fun n => leBytes 16 (k.rv n).toNat)
      ++ (List.range 32).flatMap (fun j => acc8 (tabGet (0 : BitVec 40) k.va j).toInt)))))), ?_⟩
    simp only [frameOf, frameFront, List.append_assoc]
  obtain ⟨r, hSplit⟩ := hSplit
  have hSlice := slice_append (frameFront k sst) (leBytes 4 pc) r
  rw [length_frameFront, length_leBytes] at hSlice
  rw [leAt, hSplit, hSlice, leNat_leBytes]

/-- A context saved has the PC in its frame. -/
theorem State.memNat_saveContext_pc (s : State) (g c sst pc : Nat) :
    (s.saveContext g c sst pc).memNat (s.frameAddr g + 0xC4) 4 = pc % 2 ^ 32 := by
  rw [State.memNat_within _ (show 0xC4 + 4 ≤ 1024 by decide), State.readMem_saveContext, leAt_frameOf_pc]

/-! ### What a hall keeps when threads wait and cores are given up -/

/-- The lists of a hall's scheduler stay: only what its cores run, the waits and the return addresses changed. -/
def SchedSt.keeps (x y : SchedSt) : Prop :=
  y = { x with running := y.running, pre := y.pre, waits := y.waits, since := y.since, calls := y.calls }

theorem SchedSt.keeps.refl (x : SchedSt) : x.keeps x := rfl

theorem SchedSt.keeps.trans {x y z : SchedSt} (h : x.keeps y) (k : y.keeps z) : x.keeps z := by
  unfold SchedSt.keeps at *
  rw [h] at k
  exact k

theorem SchedSt.keeps.threads (x : SchedSt) (r p : Tab Nat) : x.keeps { x with running := r, pre := p } := rfl

theorem SchedSt.keeps.records (x : SchedSt) (w : Tab Nat) (t : Tab Int) (l : Tab (List Nat)) :
    x.keeps { x with waits := w, since := t, calls := l } := rfl

theorem SchedSt.keeps.list {x y : SchedSt} (h : x.keeps y) (p : Nat) : y.list p = x.list p := by
  rw [h]
  rfl

theorem SchedSt.keeps.loading {x y : SchedSt} (h : x.keeps y) : y.loading = x.loading := by
  rw [h]

theorem SchedSt.keeps.delay {x y : SchedSt} (h : x.keeps y) : y.delay = x.delay := by
  rw [h]

section
variable {s t : State}

theorem State.noneReady_of_keeps {c : Nat} (h : (s.sch (c / 12)).keeps (t.sch (c / 12))) (hNone : s.noneReady c) : t.noneReady c := fun p =>
  (h.list p).trans (hNone p)

theorem State.sem_of_keeps (h : ∀ i, (s.sch i).keeps (t.sch i)) (i : Nat) : t.sem i = s.sem i := by
  rw [State.sem, h]
  rfl

theorem State.queue_of_keeps (h : ∀ i, (s.sch i).keeps (t.sch i)) (q : Nat) : t.queue q = s.queue q := by
  rw [State.queue, h]
  rfl

theorem State.keeps_setSch (s : State) {h : Nat} {x : SchedSt} (hx : (s.sch h).keeps x) (i : Nat) :
    (s.sch i).keeps ((s.setSch h x).sch i) := by
  by_cases hi : i = h
  · rwa [hi, State.sch_setSch_same]
  · rw [State.sch_setSch_ne _ _ hi]
    exact .refl _

theorem State.keeps_saveContext (s : State) (g c sst pc i : Nat) : (s.sch i).keeps ((s.saveContext g c sst pc).sch i) := by
  rw [State.sch_saveContext]
  exact s.keeps_setSch (.records _ _ _ _) i

end

/-! ### A core that is given up (R134, R138) -/

/-- Core c without a thread: INT_PREEMPT is withdrawn and the core is IDLE. -/
def State.vacated (s : State) (c : Nat) : State :=
  (((s.setCore c { s.core c with ints := (s.core c).ints.filter (fun x => decide (x ≠ 0x10)), stall := none, callWait := false }).setThread
    c none).setPre c 0).setObj .coreState c coreIdle

section
variable (s : State) (c : Nat)

theorem State.releaseCore_eq : s.releaseCore c = (s.vacated c).dispatch c := rfl

theorem State.mem_vacated : (s.vacated c).mem = s.mem := rfl
theorem State.state_vacated : (s.vacated c).obj .coreState c = coreIdle := State.obj_setObj_same _ _ _ _
theorem State.obj_vacated {o : Obj} (n : Nat) (h : o ≠ .coreState) : (s.vacated c).obj o n = s.obj o n :=
  State.obj_setObj_of_ne _ _ _ _ h
theorem State.unit_vacated (u : Nat) : (s.vacated c).unit u = s.unit u := rfl

theorem State.core_vacated : (s.vacated c).core c
    = { s.core c with ints := (s.core c).ints.filter (fun x => decide (x ≠ 0x10)), stall := none, callWait := false } :=
  State.core_setCore_same _ _ _

theorem State.thread_setPre (v c' : Nat) : (s.setPre c v).thread c' = s.thread c' := s.thread_setSch _ _ _ rfl

theorem State.thread_vacated : (s.vacated c).thread c = none := by
  rw [State.vacated, State.thread_congr (State.sch_setObj _ _ _ _ _), State.thread_setPre, State.thread_setThread]

theorem State.keeps_vacated (i : Nat) : (s.sch i).keeps ((s.vacated c).sch i) :=
  .trans (State.keeps_setSch s (.threads _ _ _) i) (State.keeps_setSch (s.setThread c none) (.threads _ _ _) i)

theorem State.pre_vacated : tabGet 0 ((s.vacated c).sch (c / 12)).pre (c % 12) = 0 := by
  simp [State.vacated, State.setPre]

theorem State.threadWork_vacated : s.threadWork (s.vacated c) :=
  .of_mem rfl fun _ => s.obj_vacated c _ (by decide)

/-- With nothing ready it stays IDLE. -/
theorem State.releaseCore_idle (hNone : s.noneReady c) : s.releaseCore c = s.vacated c := by
  rw [State.releaseCore_eq, State.dispatch_none (State.noneReady_of_keeps (s.keeps_vacated c _) hNone)]

/-- A core given up in a hall that runs can take a thread, unless it is being loaded. -/
theorem State.coreFree_vacated (hRuns : (s.unit (unitHall (c / 12))).st = unitRunning) (hLoad : (s.sch (c / 12)).loading = []) :
    (s.vacated c).coreFree c = true := by
  have hLoading : ((s.vacated c).sch (c / 12)).loading = [] := (s.keeps_vacated c _).loading.trans hLoad
  simp [State.coreFree, State.state_vacated, State.thread_vacated, State.unit_vacated, hRuns, hLoading]

end

/-! ### A thread that waits (R134) -/

/-- The thread of core c with its wait recorded and its context saved. -/
def State.recorded (s : State) (g kind obj dd : Nat) : State :=
  let s := (((s.setTState g thWaiting).setTcb g 143 140 kind).setTcb g 159 144 obj).setTcb g 191 160
    (toField 32 (s.setTState g thWaiting).now)
  s.setSch (hallOfThread g) { s.sch (hallOfThread g) with
    waits := tabSet 0 (s.sch (hallOfThread g)).waits g (dd + 1), since := tabSet 0 (s.sch (hallOfThread g)).since g s.now }

section
variable (s : State) (g c kind obj dd arg : Nat)

theorem State.blockThread_eq : s.blockThread g c kind obj dd arg
    = (((s.recorded g kind obj dd).saveContext g c ((s.recorded g kind obj dd).core c).sst.toWord
        ((s.recorded g kind obj dd).pc c)).schTraceRec (hallOfThread g) (4 + kind) (c % 12) (some g) arg).releaseCore c := by
  unfold State.blockThread State.recorded
  with_reducible rfl

end

end Sys2Proof.Machine
end

section
/-! SUPPORT. The calls after which a thread waits (R134, R139, R142, R144). -/

namespace Sys2Proof.Machine

theorem State.memNat_of_mem {s t : State} (h : t.mem = s.mem) (a n : Nat) : t.memNat a n = s.memNat a n :=
  State.memNat_congr fun _ _ => by simp only [State.byteAt, h]

section
variable (s : State) (g kind obj dd : Nat)

theorem State.keeps_recorded (i : Nat) : (s.sch i).keeps ((s.recorded g kind obj dd).sch i) := by
  have hFields : ∀ v, ((((s.setTState g thWaiting).setTcb g 143 140 kind).setTcb g 159 144 obj).setTcb g 191 160 v).sch i = s.sch i :=
    fun v => by rw [State.sch_setTcb, State.sch_setTcb, State.sch_setTcb, State.sch_setTState]
  rw [← hFields (toField 32 (s.setTState g thWaiting).now)]
  exact State.keeps_setSch _ (.records _ _ _ _) i

theorem State.obj_recorded {o : Obj} (n : Nat) (h₁ : o ≠ .schReadyThreads) (h₂ : o ≠ .schWaitingThreads)
    (h₃ : o ≠ .schFreeThreads) (h₄ : o ≠ .eccLogUsed) (h₅ : o ≠ .ddrFillBlocks) :
    (s.recorded g kind obj dd).obj o n = s.obj o n := by
  rw [State.recorded, State.obj_setSch, State.obj_setTcb _ _ _ _ _ _ h₄ h₅, State.obj_setTcb _ _ _ _ _ _ h₄ h₅,
    State.obj_setTcb _ _ _ _ _ _ h₄ h₅, State.obj_setTState _ _ _ _ h₁ h₂ h₃ h₄ h₅]

/-- The fields of the wait alone are written. -/
theorem State.tcb_recorded (g' : Nat) {hi lo : Nat} (hle : lo ≤ hi) (hi256 : hi < 256) (h₁ : hi < 55 ∨ 57 < lo)
    (h₂ : hi < 140 ∨ 191 < lo) : (s.recorded g kind obj dd).tcb g' hi lo = s.tcb g' hi lo := by
  rw [State.recorded, State.tcb_setSch, State.tcb_setTcb_apart _ _ _ _ (by decide) hle hi256 (by omega),
    State.tcb_setTcb_apart _ _ _ _ (by decide) hle hi256 (by omega), State.tcb_setTcb_apart _ _ _ _ (by decide) hle hi256 (by omega),
    State.tcb_setTState _ _ _ _ hle hi256 h₁]

theorem State.tState_recorded : (s.recorded g kind obj dd).tState g = thWaiting := by
  rw [State.tState, State.recorded, State.tcb_setSch, State.tcb_setTcb_apart _ _ _ _ (by decide) (by decide) (by decide) (by decide),
    State.tcb_setTcb_apart _ _ _ _ (by decide) (by decide) (by decide) (by decide),
    State.tcb_setTcb_apart _ _ _ _ (by decide) (by decide) (by decide) (by decide)]
  exact State.tState_setTState _ _ _

theorem State.tWaitKind_recorded : (s.recorded g kind obj dd).tWaitKind g = kind % 16 := by
  rw [State.tWaitKind, State.recorded, State.tcb_setSch,
    State.tcb_setTcb_apart _ _ _ _ (by decide) (by decide) (by decide) (by decide),
    State.tcb_setTcb_apart _ _ _ _ (by decide) (by decide) (by decide) (by decide),
    State.tcb_setTcb_same _ _ _ (by decide) (by decide)]
  rfl

end

/-- From s to t thread g of core c came to wait: the core is IDLE and the frame holds s's PC. -/
structure State.waitsAt (s t : State) (c g kind : Nat) : Prop where
  idle : t.obj .coreState c = coreIdle
  thread : t.thread c = none
  state : t.tState g = thWaiting
  kind : t.tWaitKind g = kind
  frame : t.memNat (s.frameAddr g + 0xC4) 4 = s.pc c % 2 ^ 32
  wake : t.tWake g = s.tWake g
  keeps : ∀ i, (s.sch i).keeps (t.sch i)

section
variable {s : State} {c g kind obj dd arg : Nat} (hNone : s.noneReady c) (hOff : s.obj .schTraceSize (hallOfThread g) = 0)
  (hFits : s.frameFits g) (hKind : kind < 16)
include hNone hOff hFits hKind

/-- A thread that waits gives up its core, which with nothing ready stays IDLE. -/
theorem State.blockThread_waits : s.waitsAt (s.blockThread g c kind obj dd arg) c g kind := by
  have hFrame : (s.recorded g kind obj dd).tFrame g = s.tFrame g :=
    State.tcb_recorded _ _ _ _ _ _ (by decide) (by decide) (by decide) (by decide)
  have hFits' : (s.recorded g kind obj dd).frameFits g := by rwa [State.frameFits, hFrame]
  have hAddr : (s.recorded g kind obj dd).frameAddr g = s.frameAddr g := by simp only [State.frameAddr, hFrame]
  have hPc : (s.recorded g kind obj dd).pc c = s.pc c := by
    rw [State.pc, State.pc, State.objN, State.objN,
      State.obj_recorded _ _ _ _ _ _ (by decide) (by decide) (by decide) (by decide) (by decide)]
  rw [State.blockThread_eq]
  generalize ((s.recorded g kind obj dd).core c).sst.toWord = sst
  have hKeeps : ∀ i, (s.sch i).keeps (((s.recorded g kind obj dd).saveContext g c sst ((s.recorded g kind obj dd).pc c)).sch i) :=
    fun i => (s.keeps_recorded g kind obj dd i).trans (State.keeps_saveContext _ _ _ _ _ i)
  rw [State.schTraceRec_untraced ((State.obj_saveContext _ _ _ _ _ _ (by decide) (by decide)).trans ((State.obj_recorded _ _ _ _ _ _
      (by decide) (by decide) (by decide) (by decide) (by decide)).trans hOff)),
    State.releaseCore_idle _ _ (State.noneReady_of_keeps (hKeeps _) hNone)]
  have hTcb : ∀ hi lo, ((((s.recorded g kind obj dd).saveContext g c sst ((s.recorded g kind obj dd).pc c)).vacated c).tcb g hi lo)
      = (s.recorded g kind obj dd).tcb g hi lo := fun hi lo => by
    rw [State.tcb_congr (State.mem_vacated _ _), State.tcb_saveContext _ _ _ _ hFits']
  refine ⟨State.state_vacated _ _, State.thread_vacated _ _, ?_, ?_, ?_, ?_, fun i => (hKeeps i).trans (State.keeps_vacated _ _ i)⟩
  · rw [State.tState, hTcb]
    exact State.tState_recorded _ _ _ _ _
  · rw [State.tWaitKind, hTcb]
    exact (State.tWaitKind_recorded _ _ _ _ _).trans (Nat.mod_eq_of_lt hKind)
  · rw [State.memNat_of_mem (State.mem_vacated _ _), ← hAddr, State.memNat_saveContext_pc, hPc]
  · rw [State.tWake, hTcb]
    exact State.tcb_recorded _ _ _ _ _ _ (by decide) (by decide) (by decide) (by decide)

end

/-! ### A call after which its thread waits -/

/-- What is left to the scheduler once a core is IDLE: INT_PREEMPT may be withdrawn. -/
theorem State.afterCore_idle (t : State) (before : Int) {c : Nat} (hIdle : t.obj .coreState c = coreIdle) :
    ∃ cs, t.afterCore before c = { t with cores := cs } := by
  unfold State.afterCore
  simp only [hIdle]
  by_cases hRun : before = coreRun
  · exact ⟨_, by simp [hRun, State.withdrawPreempt]; rfl⟩
  · exact ⟨t.cores, by simp [hRun]⟩

/-- A call that comes to a state with its core IDLE. -/
theorem State.call_idles {s u : State} {c sub : Nat} {d a : Fin 16} (hIssues : s.issues c = true) (hLd : (s.core c).sst.ld = 0)
    (hLegal : schedIllegal sub (16 * d + a) = false)
    (hCall : State.schedCall c (s.core c) sub (16 * d + a) (s.callMade c sub (16 * d + a)) = u) (hIdle : u.obj .coreState c = coreIdle) :
    ∃ t, s.call c sub d a = t ∧ t.mem = u.mem ∧ (∀ o n, t.obj o n = u.obj o n) ∧ ∀ i, t.sch i = u.sch i := by
  obtain ⟨cs, hAfter⟩ := u.afterCore_idle (s.obj .coreState c) hIdle
  refine ⟨{ u with cores := cs }, ?_, rfl, fun _ _ => rfl, fun _ => rfl⟩
  rw [State.call, State.issueSolo_sched hIssues hLd hLegal, hCall, hAfter]

/-- The thread of a call that comes to a wait, the call's preparation `u` leaving its frame and the PC alone. -/
theorem State.call_waits {s u : State} {c g sub kind obj dd arg : Nat} {d a : Fin 16} (hReady : callReady s c g) (hHall : g / 4096 = c / 12)
    (hLow : 128 ≤ s.tFrame g) (hHigh : s.tFrame g < 12288) (hLegal : schedIllegal sub (16 * d + a) = false) (hKind : kind < 16)
    (hCall : State.schedCall c (s.core c) sub (16 * d + a) (s.callMade c sub (16 * d + a)) = u.blockThread g c kind obj dd arg)
    (hNone : u.noneReady c) (hOff : u.obj .schTraceSize (c / 12) = s.obj .schTraceSize (c / 12)) (hFrame : u.tFrame g = s.tFrame g)
    (hPc : u.obj .corePc c = (((s.pc c / 8 + 1) * 8 % 16777216 : Nat) : Int)) :
    ∃ t, s.call c sub d a = t ∧ waitsFor s t c g kind ∧ t.tWake g = u.tWake g ∧ ∀ i, (u.sch i).keeps (t.sch i) := by
  have hUntraced : u.obj .schTraceSize (hallOfThread g) = 0 := by
    rw [hallOfThread, hHall, hOff]
    exact hReady.2.2.2.2
  have hWaits := State.blockThread_waits (kind := kind) (obj := obj) (dd := dd) (arg := arg) hNone hUntraced
    (by rw [State.frameFits, hFrame]; exact ⟨hLow, hHigh⟩) hKind
  obtain ⟨t, hExec, hMem, hObj, hSch⟩ := State.call_idles hReady.1 hReady.2.1 hLegal hCall hWaits.idle
  have hAddr : u.frameAddr g = s.frameAddr g := by simp only [State.frameAddr, hFrame]
  have hNext : u.pc c % 2 ^ 32 = (s.pc c / 8 + 1) * 8 % 16777216 := by
    rw [State.pc, State.objN, hPc]
    omega
  refine ⟨t, hExec, ⟨(hObj _ _).trans hWaits.idle, (State.thread_congr (hSch _)).trans hWaits.thread,
    (State.tcb_congr hMem _ _ _).trans hWaits.state, (State.tcb_congr hMem _ _ _).trans hWaits.kind, ?_⟩,
    (State.tcb_congr hMem _ _ _).trans hWaits.wake, fun i => by rw [hSch]; exact hWaits.keeps i⟩
  rw [State.memNat_of_mem hMem, ← hAddr, hWaits.frame, hNext]

/-! ### Semaphores, queues and the delay list with a waiter more -/

section
variable (s : State)

theorem State.list_setSem (i : Nat) (x : SemSt) (h p : Nat) : ((s.setSem i x).sch h).list p = (s.sch h).list p := by
  rw [State.setSem, State.sch_relink]
  by_cases hh : h = i / 1024
  · rw [hh, State.sch_setSch_same, SchedSt.list, SchedSt.list]
  · rw [State.sch_setSch_ne _ _ hh]

theorem State.obj_setSem (i : Nat) (x : SemSt) {o : Obj} (n : Nat) (h : o ≠ .eccLogUsed) (h' : o ≠ .ddrFillBlocks) :
    (s.setSem i x).obj o n = s.obj o n := by
  rw [State.setSem, State.obj_relink _ _ _ h h', State.obj_setSch]

theorem State.tcb_setSem (i : Nat) (x : SemSt) (g : Nat) {hi lo : Nat} (hf : fixedField hi lo) :
    (s.setSem i x).tcb g hi lo = s.tcb g hi lo := by
  rw [State.setSem, (State.threadWork.relink _ _).fields _ _ _ hf, State.tcb_setSch]

theorem State.sch_setQueue (q : Nat) (x : QueueSt) (i : Nat) : (s.setQueue q x).sch i
    = (s.setSch (q / 256) { s.sch (q / 256) with queues := tabSet QueueSt.reset (s.sch (q / 256)).queues (q % 256) x }).sch i := by
  rw [State.setQueue, State.sch_relink, State.sch_relink]

theorem State.queue_setQueue (q : Nat) (x : QueueSt) : (s.setQueue q x).queue q = x := by
  rw [State.queue, State.sch_setQueue, State.sch_setSch_same, tabGet_tabSet_same]

theorem State.list_setQueue (q : Nat) (x : QueueSt) (h p : Nat) : ((s.setQueue q x).sch h).list p = (s.sch h).list p := by
  rw [State.sch_setQueue]
  by_cases hh : h = q / 256
  · rw [hh, State.sch_setSch_same, SchedSt.list, SchedSt.list]
  · rw [State.sch_setSch_ne _ _ hh]

theorem State.obj_setQueue (q : Nat) (x : QueueSt) {o : Obj} (n : Nat) (h : o ≠ .eccLogUsed) (h' : o ≠ .ddrFillBlocks) :
    (s.setQueue q x).obj o n = s.obj o n := by
  rw [State.setQueue, State.obj_relink _ _ _ h h', State.obj_relink _ _ _ h h', State.obj_setSch]

theorem State.tcb_setQueue (q : Nat) (x : QueueSt) (g : Nat) {hi lo : Nat} (hf : fixedField hi lo) :
    (s.setQueue q x).tcb g hi lo = s.tcb g hi lo := by
  rw [State.setQueue, (State.threadWork.relink _ _).fields _ _ _ hf, (State.threadWork.relink _ _).fields _ _ _ hf, State.tcb_setSch]

/-- A thread placed in the delay list is in it. -/
theorem State.mem_delayInsert (cur g : Nat) (l : List Nat) : g ∈ s.delayInsert cur g l := by
  induction l with
  | nil => simp [State.delayInsert]
  | cons x l ih =>
    rw [State.delayInsert]
    split
    · simp
    · simp [ih]

theorem State.list_setDelay (h : Nat) (l : List Nat) (i p : Nat) : ((s.setDelay h l).sch i).list p = (s.sch i).list p := by
  rw [State.setDelay, State.sch_relink]
  by_cases hi : i = h
  · rw [hi, State.sch_setSch_same, SchedSt.list, SchedSt.list]
  · rw [State.sch_setSch_ne _ _ hi]

theorem State.delay_setDelay (h : Nat) (l : List Nat) : ((s.setDelay h l).sch h).delay = l := by
  rw [State.setDelay, State.sch_relink, State.sch_setSch_same]

theorem State.obj_setDelay (h : Nat) (l : List Nat) {o : Obj} (n : Nat) (h₁ : o ≠ .eccLogUsed) (h₂ : o ≠ .ddrFillBlocks) :
    (s.setDelay h l).obj o n = s.obj o n := by
  rw [State.setDelay, State.obj_relink _ _ _ h₁ h₂, State.obj_setSch]

theorem State.tcb_setDelay (h : Nat) (l : List Nat) (g : Nat) {hi lo : Nat} (hf : fixedField hi lo) :
    (s.setDelay h l).tcb g hi lo = s.tcb g hi lo := by
  rw [State.setDelay, (State.threadWork.relink _ _).fields _ _ _ hf, State.tcb_setSch]

/-- A tick that is ahead by less than half the range has not been reached. -/
theorem reachedTick_ahead {cur n : Nat} (hCur : cur < 2 ^ 48) (h₀ : 0 < n) (h : n < 2 ^ 47) :
    reachedTick cur ((cur + n) % 2 ^ 48) = false := by
  have hDist : ((cur + n) % 2 ^ 48 + 2 ^ 48 - cur) % 2 ^ 48 = n := by omega
  simp only [reachedTick, hDist, Bool.or_eq_false_iff, decide_eq_false_iff_not]
  omega

theorem State.tick48_lt (h : Nat) : s.tick48 h < 2 ^ 48 := by
  rw [State.tick48]
  omega

end

end Sys2Proof.Machine
end

section
/-! SUPPORT. The blocking calls, SCH_EXIT, SCH_YIELD and SCH_SWITCH (R134, R137, R139, R142, R144, R147). -/

namespace Sys2Proof.Machine

theorem State.tick48_callMade (s : State) (c sub o h : Nat) : (s.callMade c sub o).tick48 h = s.tick48 h := by
  rw [State.tick48, State.tick48, State.obj_callMade _ _ _ _ _ (by decide), State.now, State.now,
    State.obj_callMade _ _ _ _ _ (by decide), State.obj_callMade _ _ _ _ _ (by decide)]

section
variable {s : State} {c : Fin 192} {g : Nat} {d a : Fin 16} (hReady : callReady s c g) (hHall : g / 4096 = c.val / 12)
  (hNone : ∀ p, (s.sch (c / 12)).list p = []) (hLow : 128 ≤ s.tFrame g) (hHigh : s.tFrame g < 12288)
include hReady hHall hNone hLow hHigh

/-- A take of an empty signal, by a thread that holds no lock. -/
theorem execSchSemTake_waits {i : Nat} (hi : i = bits ((s.core c).rd a).toNat 13 0) (hOwn : i / 1024 = c / 12) (hKind : (s.sem i).kind = 2)
    (hCount : (s.sem i).count = 0) (hHeld : s.tHeldV g = 0) :
    ∃ t, exec (.schSemTake c d a) s = .next t ∧ waitsFor s t c g 2 ∧ (t.sem i).waiters = (s.sem i).waiters ++ [g] := by
  have hTake : (s.callMade c 0x10 (16 * d + a)).semTake g i true
      = ((s.callMade c 0x10 (16 * d + a)).setSem i { s.sem i with waiters := (s.sem i).waiters ++ [g] }, none) := by
    have hSem : (s.callMade c 0x10 (16 * d + a)).sem i = s.sem i := rfl
    have hNoLock : (s.callMade c 0x10 (16 * d + a)).tHeldV g = 0 := (State.tcb_callMade _ _ _ _ _ _ _).trans hHeld
    simp [State.semTake, hSem, hNoLock, hKind, hCount]
  have hCall := State.schedCall_semTake (d := d) (a := a) (u := s.callMade c 0x10 (16 * d + a)) (hReady.2.2.2.1 : s.thread c = some g)
    hReady.2.2.1
  rw [← hi, State.callOp, if_pos hOwn] at hCall
  simp only [State.performOp, if_true, hTake, State.finishOp] at hCall
  obtain ⟨t, hExec, hWaits, -, hKeeps⟩ := State.call_waits hReady hHall hLow hHigh rfl (by decide) hCall
    (fun p => by rw [State.list_setSem, State.sch_callMade, hNone])
    (by rw [State.obj_setSem _ _ _ _ (by decide) (by decide), State.obj_callMade _ _ _ _ _ (by decide)])
    (by rw [State.tFrame, State.tcb_setSem _ _ _ _ (by simp [fixedField]), State.tcb_callMade, State.tFrame])
    (by rw [State.obj_setSem _ _ _ _ (by decide) (by decide), State.pc_callMade])
  exact ⟨t, congrArg Host.Outcome.next hExec, hWaits, by rw [State.sem_of_keeps hKeeps, State.sem_setSem]⟩

/-- A receive from an empty queue. -/
theorem execSchMsgRecv_waits {q : Nat} (hq : q = 256 * (c / 12) + bits ((s.core c).rd a).toNat 7 0) (hOn : (s.queue q).enabled = true)
    (hCount : (s.queue q).count = 0) (hd : d.val < 12) :
    ∃ t, exec (.schMsgRecv c d a) s = .next t ∧ waitsFor s t c g 3 ∧ (t.queue q).recv = (s.queue q).recv ++ [g] := by
  have hRecv : (s.callMade c 0x16 (16 * d + a)).threadRecv g q true
      = ((s.callMade c 0x16 (16 * d + a)).setQueue q { s.queue q with recv := (s.queue q).recv ++ [g] }, none, none) := by
    have hQueue : (s.callMade c 0x16 (16 * d + a)).queue q = s.queue q := rfl
    simp [State.threadRecv, hQueue, hOn, hCount]
  rw [hq] at hRecv
  have hCall := State.schedCall_msgRecv_waits (u := s.callMade c 0x16 (16 * d + a)) (old := s.core c) (d := d)
    (hReady.2.2.2.1 : s.thread c = some g) hReady.2.2.1 hRecv
  rw [← hq] at hCall
  obtain ⟨t, hExec, hWaits, -, hKeeps⟩ := State.call_waits hReady hHall hLow hHigh (by simp [schedIllegal, operand_dd]; omega) (by decide) hCall
    (fun p => by rw [State.list_setQueue, State.sch_callMade, hNone])
    (by rw [State.obj_setQueue _ _ _ _ (by decide) (by decide), State.obj_callMade _ _ _ _ _ (by decide)])
    (by rw [State.tFrame, State.tcb_setQueue _ _ _ _ (by simp [fixedField]), State.tcb_callMade, State.tFrame])
    (by rw [State.obj_setQueue _ _ _ _ (by decide) (by decide), State.pc_callMade])
  exact ⟨t, congrArg Host.Outcome.next hExec, hWaits, by rw [State.queue_of_keeps hKeeps, State.queue_setQueue]⟩

/-- A send to a full queue that drops nothing. -/
theorem execSchMsgSend_waits {q : Nat} (hq : q = bits ((s.core c).rd a).toNat 11 0) (hOwn : q / 256 = c / 12)
    (hEngine : isEngineQueue (q % 256) = false) (hOn : (s.queue q).enabled = true) (hRecv : (s.queue q).recv = [])
    (hFull : (s.queue q).depth ≤ (s.queue q).count) (hPolicy : (s.queue q).policyDrop = false) :
    ∃ t, exec (.schMsgSend c d a) s = .next t ∧ waitsFor s t c g 4
      ∧ (t.queue q).send = (s.queue q).send ++ [(g, msgOf (s.core c))] := by
  have hSend : (s.callMade c 0x14 (16 * d + a)).threadSend g q (msgOf (s.core c)) true
      = (((s.callMade c 0x14 (16 * d + a)).setQueue q
          { s.queue q with send := (s.queue q).send ++ [(g, msgOf (s.core c))] }).bump .schSendWaits (q / 256), none) := by
    have hQueue : (s.callMade c 0x14 (16 * d + a)).queue q = s.queue q := rfl
    simp [State.threadSend, State.hasRoom, hQueue, hEngine, hOn, hRecv, hPolicy, show ¬(s.queue q).count < (s.queue q).depth by omega]
  have hCall := State.schedCall_msgSend (d := d) (a := a) (u := s.callMade c 0x14 (16 * d + a)) (hReady.2.2.2.1 : s.thread c = some g)
    hReady.2.2.1
  rw [← hq, State.callOp, if_pos hOwn] at hCall
  simp only [State.performOp, show ¬(0x14 : Nat) = 0x10 by decide, show ¬(0x14 : Nat) = 0x11 by decide,
    show ¬(0x14 : Nat) = 0x12 by decide, if_false, if_true, hSend, State.finishOp] at hCall
  obtain ⟨t, hExec, hWaits, -, hKeeps⟩ := State.call_waits hReady hHall hLow hHigh rfl (by decide) hCall
    (fun p => by rw [State.sch_bump, State.list_setQueue, State.sch_callMade, hNone])
    (by rw [State.obj_bump_of_ne _ _ _ (by decide), State.obj_setQueue _ _ _ _ (by decide) (by decide),
      State.obj_callMade _ _ _ _ _ (by decide)])
    (by rw [State.tFrame, State.tcb_bump, State.tcb_setQueue _ _ _ _ (by simp [fixedField]), State.tcb_callMade, State.tFrame])
    (by rw [State.obj_bump_of_ne _ _ _ (by decide), State.obj_setQueue _ _ _ _ (by decide) (by decide), State.pc_callMade])
  refine ⟨t, congrArg Host.Outcome.next hExec, hWaits, ?_⟩
  rw [State.queue_of_keeps hKeeps, State.queue, State.sch_bump, ← State.queue, State.queue_setQueue]

/-- A delay until a tick that has not been reached. -/
theorem call_delay_waits {sub target : Nat} (hLegal : schedIllegal sub (16 * d + a) = false)
    (hCall : State.schedCall c (s.core c) sub (16 * d + a) (s.callMade c sub (16 * d + a))
      = (s.callMade c sub (16 * d + a)).callDelay c g target d)
    (hAhead : reachedTick (s.tick48 (c / 12)) target = false) (hTarget : target < 2 ^ 48) :
    ∃ t, s.call c sub d a = t ∧ waitsFor s t c g 1 ∧ g ∈ (t.sch (c / 12)).delay ∧ t.tWake g = target := by
  have hTick : (s.callMade c sub (16 * d + a)).tick48 (c / 12) = s.tick48 (c / 12) := State.tick48_callMade _ _ _ _ _
  rw [State.callDelay, hTick] at hCall
  simp only [hAhead, Bool.false_eq_true, if_false] at hCall
  obtain ⟨t, hExec, hWaits, hWake, hKeeps⟩ := State.call_waits hReady hHall hLow hHigh hLegal (by decide) hCall
    (fun p => by rw [State.list_setDelay, State.sch_setTcb, State.sch_callMade, hNone])
    (by rw [State.obj_setDelay _ _ _ _ (by decide) (by decide), State.obj_setTcb _ _ _ _ _ _ (by decide) (by decide),
      State.obj_callMade _ _ _ _ _ (by decide)])
    (by rw [State.tFrame, State.tcb_setDelay _ _ _ _ (by simp [fixedField]),
      State.tcb_setTcb_apart _ _ _ _ (by decide) (by decide) (by decide) (by decide), State.tcb_callMade, State.tFrame])
    (by rw [State.obj_setDelay _ _ _ _ (by decide) (by decide), State.obj_setTcb _ _ _ _ _ _ (by decide) (by decide), State.pc_callMade])
  refine ⟨t, hExec, hWaits, ?_, ?_⟩
  · rw [(hKeeps _).delay, State.delay_setDelay]
    exact State.mem_delayInsert _ _ _ _
  · rw [hWake, State.tWake, State.tcb_setDelay _ _ _ _ (by simp [fixedField]), State.tcb_setTcb_same _ _ _ (by decide) (by decide)]
    exact Nat.mod_eq_of_lt hTarget

end

end Sys2Proof.Machine
end

section
/-! SUPPORT. A core given up that takes the next thread (R134, R135), and the calls that end in a dispatch: SCH_EXIT, SCH_YIELD and
SCH_SWITCH (R131, R137, R147). -/

namespace Sys2Proof.Machine

/-! ### What a dispatch makes of its core -/

/-- A halt request is no part of a context. -/
theorem CoreSt.haltReq_ofFrame (k : CoreSt) (l : List Byte) (x : List Nat) :
    ({ k.ofFrame l with calls := x } : CoreSt).haltReq = k.haltReq := by
  rw [CoreSt.ofFrame]

section
variable (s : State) (c g : Nat)

theorem State.keeps_setThread (o : Option Nat) (i : Nat) : (s.sch i).keeps ((s.setThread c o).sch i) :=
  State.keeps_setSch s (.threads _ _ _) i

theorem State.keeps_loadContext (i : Nat) : (s.sch i).keeps ((s.loadContext g c).sch i) := by
  rw [State.sch_loadContext]
  exact s.keeps_setSch (.records _ _ _ _) i

theorem State.keeps_placed (i : Nat) : ((s.readyDrop g).sch i).keeps ((s.placed c g).sch i) := by
  have hFields : ((((s.readyDrop g).setTState g thRunning).setTcb g 67 64 (c % 12)).sch i) = (s.readyDrop g).sch i := by
    rw [State.sch_setTcb, State.sch_setTState]
  have hKeeps := State.keeps_setThread (((s.readyDrop g).setTState g thRunning).setTcb g 67 64 (c % 12)) c (some g) i
  rw [hFields] at hKeeps
  rw [State.placed, State.sch_bump]
  exact hKeeps.trans (State.keeps_loadContext _ _ _ _)

theorem State.tState_placed : (s.placed c g).tState g = thRunning := by
  rw [State.tState, State.placed, State.tcb_bump, State.tcb_congr (State.mem_loadContext _ _ _), State.setThread, State.tcb_setSch,
    State.tcb_setTcb_apart _ _ _ _ (by decide) (by decide) (by decide) (by decide)]
  exact State.tState_setTState _ _ _

theorem State.haltReq_placed : ((s.placed c g).core c).haltReq = (s.core c).haltReq := by
  rw [State.placed, State.core_bump, State.core_loadContext, State.setThread, State.core_setSch, State.core_setTcb,
    State.core_setTState, State.readyDrop, State.core_setReady]
  exact CoreSt.haltReq_ofFrame _ _ _

theorem State.dispatches_placed : (s.placed c g).obj .schDispatches (c / 12) = (s.obj .schDispatches (c / 12) + 1) % 4294967296 := by
  rw [State.placed, State.obj_bump, State.obj_loadContext _ _ _ _ (by decide), State.setThread, State.obj_setSch,
    State.obj_setTcb _ _ _ _ _ _ (by decide) (by decide),
    State.obj_setTState _ _ _ _ (by decide) (by decide) (by decide) (by decide) (by decide), State.readyDrop,
    State.obj_setReady _ _ _ _ _ (by decide) (by decide)]

variable {g} in
/-- The core goes on at the PC of the frame. -/
theorem State.pc_placed (hFits : s.frameFits g) : (s.placed c g).obj .corePc c
    = ((s.memNat (s.frameAddr g + 0xC4) 4 % 16777216 / 8 * 8 : Nat) : Int) := by
  have hWork : s.threadWork ((((s.readyDrop g).setTState g thRunning).setTcb g 67 64 (c % 12)).setThread c (some g)) :=
    (((State.threadWork.readyDrop s g).trans (.setTState _ g thRunning)).trans (.lastCore _ g (c % 12))).trans
      (.setThread _ c (some g))
  rw [State.placed, State.obj_bump_of_ne _ _ _ (by decide), State.pc_loadContext]
  generalize (((s.readyDrop g).setTState g thRunning).setTcb g 67 64 (c % 12)).setThread c (some g) = t at hWork
  have hAddr : t.frameAddr g = s.frameAddr g := by
    rw [State.frameAddr, State.frameAddr, State.tFrame, State.tFrame, hWork.fields g 111 98 (by simp [fixedField])]
  rw [State.memNat_within _ (show 0xC4 + 4 ≤ 1024 by decide), hAddr,
    State.readMem_congr fun i hi => hWork.above _ (hFits.above hi)]

/-! ### Lists with a thread more -/

theorem State.list_readyTail (p : Nat) : ((s.readyTail g).sch (hallOfThread g)).list p
    = if p = s.tPrio g then (s.sch (hallOfThread g)).list (s.tPrio g) ++ [g] else (s.sch (hallOfThread g)).list p := by
  have hPrio : (s.setTState g thReady).tPrio g = s.tPrio g := State.tcb_setTState _ _ _ _ (by decide) (by decide) (by decide)
  rw [State.readyTail, State.list_setReady, hPrio, State.sch_setTState]

theorem State.list_readyHead (p : Nat) : ((s.readyHead g).sch (hallOfThread g)).list p
    = if p = s.tPrio g then g :: (s.sch (hallOfThread g)).list (s.tPrio g) else (s.sch (hallOfThread g)).list p := by
  have hPrio : (s.setTState g thReady).tPrio g = s.tPrio g := State.tcb_setTState _ _ _ _ (by decide) (by decide) (by decide)
  rw [State.readyHead, State.list_setReady, hPrio, State.sch_setTState]

theorem State.loading_setReady (h p : Nat) (l : List Nat) (i : Nat) : ((s.setReady h p l).sch i).loading = (s.sch i).loading := by
  rw [State.sch_setReady]
  by_cases hi : i = h
  · rw [hi, State.sch_setSch_same]
  · rw [State.sch_setSch_ne _ _ hi]

end

/-! ### The core that takes the next thread -/

section
variable {s : State} {c g p : Nat} (hRuns : (s.unit (unitHall (c / 12))).st = unitRunning) (hLoad : (s.sch (c / 12)).loading = [])
  (hTop : ∀ q, p < q → (s.sch (c / 12)).list q = []) (hList : (s.sch (c / 12)).list p = [g]) (hp : p < 64)
  (hOn : s.eligible c g = true) (hOff : s.obj .schTraceSize (c / 12) = 0) (hHalt : (s.core c).haltReq = false)
include hRuns hLoad hTop hList hp hOn hOff hHalt

/-- A core given up takes the one thread that stands highest. -/
theorem State.releaseCore_takes : s.releaseCore c = ((s.vacated c).placed c g).setObj .coreState c coreRun := by
  have hEligible : (s.vacated c).eligible c g = true := by
    rw [State.eligible, State.tAffinity, State.tcb_congr (State.mem_vacated _ _)]
    exact hOn
  have hLists : ∀ q, ((s.vacated c).sch (c / 12)).list q = (s.sch (c / 12)).list q := (s.keeps_vacated c _).list
  have hNext := State.topReady_of (s := s.vacated c) (n := 63) (fun q hq => (hLists q).trans (hTop q hq)) ((hLists p).trans hList)
    hEligible (by omega)
  rw [State.releaseCore_eq, State.dispatch_some (s.coreFree_vacated c hRuns hLoad) hNext,
    State.runThread_untraced ((s.obj_vacated c _ (by decide)).trans hOff), State.started, State.haltReq_placed, State.core_vacated]
  simp only [hHalt, Bool.false_eq_true, if_false]

end

end Sys2Proof.Machine
end

section
/-! SUPPORT. SCH_EXIT, SCH_YIELD and SCH_SWITCH (R131, R137, R147). -/

namespace Sys2Proof.Machine

/-- A RUNNING thread that is freed is one FREE thread more (R155). -/
theorem State.freeThreads_freeThread {s : State} {g : Nat} (hLocks : s.locksOf g = []) (hRunning : s.tState g = thRunning) :
    (s.freeThread g).obj .schFreeThreads (hallOfThread g) = s.obj .schFreeThreads (hallOfThread g) + 1 := by
  have hState : (s.setTcb g 143 140 0).tState g = thRunning :=
    (State.tcb_setTcb_apart _ _ _ _ (by decide) (by decide) (by decide) (by decide)).trans hRunning
  rw [State.freeThread_eq hLocks, State.obj_setSch, State.setTState, hState,
    State.countThread_uncounted _ _ thRunning _ (by decide) (by decide) (by decide), State.obj_setTcb _ _ _ _ _ _ (by decide) (by decide)]
  simp [State.countThread]

section
variable {s : State} {c : Fin 192} {g : Nat} {d a : Fin 16}

/-- SCH_EXIT of a thread without locks, with nothing ready. -/
theorem execSchExit_frees (hReady : callReady s c g) (hHall : g / 4096 = c.val / 12) (hNone : ∀ p, (s.sch (c / 12)).list p = [])
    (hRunning : s.tState g = thRunning) (hLocks : s.locksOf g = []) :
    ∃ t, exec (.schExit c d a) s = .next t ∧ t.obj .coreState c = coreIdle ∧ t.thread c = none ∧ t.tState g = thFree
      ∧ t.obj .schFreeThreads (c / 12) = s.obj .schFreeThreads (c / 12) + 1 := by
  have hLocks' : (s.callMade c 0x0A (16 * d + a)).locksOf g = [] := (State.locksOf_congr (fun _ => by rw [State.sch_callMade]) _).trans hLocks
  have hCall := State.schedCall_exit (d := d) (a := a) (u := s.callMade c 0x0A (16 * d + a)) (hReady.2.2.2.1 : s.thread c = some g)
    hReady.2.2.1
  rw [State.schTraceRec_untraced ((State.obj_freeThread hLocks' _ (by decide) (by decide) (by decide) (by decide) (by decide)).trans
      ((State.obj_callMade _ _ _ _ _ (by decide)).trans hReady.2.2.2.2)),
    State.releaseCore_idle _ _ fun p => by rw [State.list_freeThread hLocks', State.sch_callMade, hNone]] at hCall
  obtain ⟨t, hExec, hMem, hObj, hSch⟩ := State.call_idles hReady.1 hReady.2.1 rfl hCall (State.state_vacated _ _)
  refine ⟨t, congrArg Host.Outcome.next hExec, (hObj _ _).trans (State.state_vacated _ _),
    (State.thread_congr (hSch _)).trans (State.thread_vacated _ _), ?_, ?_⟩
  · rw [State.tState, State.tcb_congr hMem, State.tcb_congr (State.mem_vacated _ _)]
    exact State.tState_freeThread hLocks'
  · have hCount := State.freeThreads_freeThread hLocks' ((State.tcb_callMade _ _ _ _ _ _ _).trans hRunning)
    rw [hallOfThread, hHall, State.obj_callMade _ _ _ _ _ (by decide)] at hCount
    rw [hObj, State.obj_vacated _ _ _ (by decide), hCount]

end

/-! ### A thread set aside and its core given up -/

/-- With nothing ready, and a thread that runs, nothing is to be settled. -/
theorem State.settle_running {v : State} {h g : Nat} (hNone : ∀ p, (v.sch h).list p = []) (hRunning : v.tState g = thRunning) :
    v.settle h [g] = v := by
  simp [State.settle, State.dispatchHall_none hNone, State.insertByPrio, State.preemptFor, hRunning]

theorem State.pre_setSch (s : State) {h : Nat} {x : SchedSt} (hx : x.pre = (s.sch h).pre) (i : Nat) :
    ((s.setSch h x).sch i).pre = (s.sch i).pre := by
  by_cases hi : i = h
  · rw [hi, State.sch_setSch_same, hx]
  · rw [State.sch_setSch_ne _ _ hi]

theorem State.pre_setReady (s : State) (h p : Nat) (l : List Nat) (i : Nat) : ((s.setReady h p l).sch i).pre = (s.sch i).pre := by
  rw [State.sch_setReady]
  exact s.pre_setSch (by rfl) i

theorem State.pre_setThread (s : State) (c : Nat) (o : Option Nat) (i : Nat) : ((s.setThread c o).sch i).pre = (s.sch i).pre :=
  s.pre_setSch (by rfl) i

theorem State.pre_loadContext (s : State) (g c i : Nat) : ((s.loadContext g c).sch i).pre = (s.sch i).pre := by
  rw [State.sch_loadContext]
  exact s.pre_setSch (by rfl) i

/-- A dispatch decides no preemption. -/
theorem State.pre_placed (s : State) (c g i : Nat) : ((s.placed c g).sch i).pre = (s.sch i).pre := by
  rw [State.placed, State.sch_bump, State.pre_loadContext, State.pre_setThread, State.sch_setTcb, State.sch_setTState, State.readyDrop,
    State.pre_setReady]

/-- A core that took thread g. -/
structure State.tookThread (v : State) (c g : Nat) : Prop where
  thread : v.thread c = some g
  state : v.obj .coreState c = coreRun

/-- A core given up whose thread alone is ready takes it again. -/
theorem State.released_runs {w : State} {c g : Nat} (hRuns : (w.unit (unitHall (c / 12))).st = unitRunning)
    (hLoad : (w.sch (c / 12)).loading = []) (hHall : hallOfThread g = c / 12)
    (hLists : ∀ q, (w.sch (c / 12)).list q = if q = w.tPrio g then [g] else []) (hOn : w.eligible c g = true) (hFits : w.frameFits g)
    (hOff : w.obj .schTraceSize (c / 12) = 0) (hHalt : (w.core c).haltReq = false) :
    ∃ v, (w.releaseCore c).settle (c / 12) [g] = v ∧ v.tookThread c g ∧ v.tState g = thRunning
      ∧ v.obj .corePc c = ((w.memNat (w.frameAddr g + 0xC4) 4 % 16777216 / 8 * 8 : Nat) : Int)
      ∧ v.obj .schDispatches (c / 12) = (w.obj .schDispatches (c / 12) + 1) % 4294967296
      ∧ tabGet 0 (v.sch (c / 12)).pre (c % 12) = 0 := by
  have hTaken := State.releaseCore_takes hRuns hLoad (p := w.tPrio g) (fun q hq => (hLists q).trans (if_neg (by omega)))
    ((hLists _).trans (if_pos rfl)) (bits_lt _ _ _) hOn hOff hHalt
  have hMem := w.mem_vacated c
  have hPrio : (w.vacated c).tPrio g = w.tPrio g := State.tcb_congr hMem _ _ _
  have hFrame : (w.vacated c).tFrame g = w.tFrame g := State.tcb_congr hMem _ _ _
  have hRest : ∀ q, (((w.vacated c).placed c g).sch (c / 12)).list q = [] := fun q => by
    rw [((w.vacated c).keeps_placed c g _).list, State.readyDrop, hHall, State.list_setReady, hPrio, (w.keeps_vacated c _).list,
      (w.keeps_vacated c _).list, hLists, hLists, if_pos rfl]
    split
    · simp
    · rfl
  have hRunning : (((w.vacated c).placed c g).setObj .coreState c coreRun).tState g = thRunning :=
    (State.tcb_setObj _ _ _ _ _ _ _).trans (State.tState_placed _ _ _)
  rw [hTaken, State.settle_running (fun q => by rw [State.sch_setObj, hRest]) hRunning]
  refine ⟨_, rfl, ⟨?_, State.obj_setObj_same _ _ _ _⟩, hRunning, ?_, ?_, ?_⟩
  · rw [State.thread_congr (State.sch_setObj _ _ _ _ _), State.thread_placed]
  · rw [State.obj_setObj_of_ne _ _ _ _ (by decide), State.pc_placed _ _ (by rw [State.frameFits, hFrame]; exact hFits),
      State.frameAddr, hFrame, ← State.frameAddr, State.memNat_of_mem hMem]
  · rw [State.obj_setObj_of_ne _ _ _ _ (by decide), State.dispatches_placed, State.obj_vacated _ _ _ (by decide)]
  · rw [State.sch_setObj, State.pre_placed, State.pre_vacated]

section
variable {u : State} {c g : Nat} (sst pc : Nat) (hRuns : (u.unit (unitHall (c / 12))).st = unitRunning)
  (hLoad : (u.sch (c / 12)).loading = []) (hHall : hallOfThread g = c / 12) (hFits : u.frameFits g)
  (hOff : u.obj .schTraceSize (c / 12) = 0) (hHalt : (u.core c).haltReq = false)
include hRuns hLoad hHall hFits hOff hHalt

/-- With nothing else ready the thread that yields is the one its core takes. -/
theorem State.yielded_runs (hNone : u.noneReady c) (hOn : u.eligible c g = true) :
    ∃ v, (((u.saveContext g c sst pc).readyTail g).releaseCore c).settle (c / 12) [g] = v ∧ v.tookThread c g ∧ v.tState g = thRunning
      ∧ v.obj .corePc c = ((pc % 2 ^ 32 % 16777216 / 8 * 8 : Nat) : Int)
      ∧ v.obj .schDispatches (c / 12) = (u.obj .schDispatches (c / 12) + 1) % 4294967296
      ∧ tabGet 0 (v.sch (c / 12)).pre (c % 12) = 0 := by
  have hSaved := State.tcb_saveContext u c sst pc hFits g
  have hWork := State.threadWork.readyTail (u.saveContext g c sst pc) g
  have hTcb : ∀ hi lo, fixedField hi lo → ((u.saveContext g c sst pc).readyTail g).tcb g hi lo = u.tcb g hi lo := fun hi lo hf =>
    (hWork.fields g hi lo hf).trans (hSaved hi lo)
  have hPrio : ((u.saveContext g c sst pc).readyTail g).tPrio g = u.tPrio g := hTcb 63 58 (by simp [fixedField])
  have hFrame : ((u.saveContext g c sst pc).readyTail g).tFrame g = u.tFrame g := hTcb 111 98 (by simp [fixedField])
  have hSavedLists : ∀ q, ((u.saveContext g c sst pc).sch (c / 12)).list q = [] := fun q =>
    (State.keeps_saveContext u g c sst pc _).list q |>.trans (hNone q)
  have hLists : ∀ q, (((u.saveContext g c sst pc).readyTail g).sch (c / 12)).list q
      = if q = ((u.saveContext g c sst pc).readyTail g).tPrio g then [g] else [] := fun q => by
    rw [← hHall, State.list_readyTail, hHall, hPrio, show (u.saveContext g c sst pc).tPrio g = u.tPrio g from hSaved 63 58,
      hSavedLists, hSavedLists, List.nil_append]
  have hObj : ∀ o n, o ≠ .eccLogUsed → o ≠ .ddrFillBlocks → o ≠ .schReadyThreads → o ≠ .schWaitingThreads → o ≠ .schFreeThreads →
      ((u.saveContext g c sst pc).readyTail g).obj o n = u.obj o n := fun o n h₁ h₂ h₃ h₄ h₅ => by
    rw [State.readyTail, State.obj_setReady _ _ _ _ _ h₁ h₂, State.obj_setTState _ _ _ _ h₃ h₄ h₅ h₁ h₂, State.obj_saveContext _ _ _ _ _ _ h₁ h₂]
  obtain ⟨v, hEq, hTook, hRunning, hPc, hDispatches, hPre⟩ := State.released_runs (w := (u.saveContext g c sst pc).readyTail g)
    (by rw [State.readyTail, State.unit_setReady, State.unit_setTState, State.unit_saveContext]; exact hRuns)
    (by rw [State.readyTail, State.loading_setReady, State.sch_setTState, (State.keeps_saveContext _ _ _ _ _ _).loading]; exact hLoad)
    hHall hLists (by rw [State.eligible, State.tAffinity, hTcb 79 68 (by simp [fixedField])]; exact hOn)
    (by rw [State.frameFits, hFrame]; exact hFits) ((hObj _ _ (by decide) (by decide) (by decide) (by decide) (by decide)).trans hOff)
    (by rw [State.readyTail, State.core_setReady, State.core_setTState, State.core_saveContext]; exact hHalt)
  refine ⟨v, hEq, hTook, hRunning, ?_, ?_, hPre⟩
  · have hFrameBytes : ((u.saveContext g c sst pc).readyTail g).memNat (u.frameAddr g + 0xC4) 4 = pc % 2 ^ 32 := by
      rw [State.memNat_congr fun i hi => hWork.above _ ?_, State.memNat_saveContext_pc]
      exact (Nat.add_assoc _ _ _).symm ▸ hFits.above (by omega)
    rw [hPc, State.frameAddr, hFrame, ← State.frameAddr, hFrameBytes]
  · rw [hDispatches, hObj _ _ (by decide) (by decide) (by decide) (by decide) (by decide)]

end

end Sys2Proof.Machine
end

section
/-! SUPPORT. SCH_YIELD and SCH_SWITCH as calls (R131, R135, R137, R138). -/

namespace Sys2Proof.Machine

/-! ### The scheduler's part at a core in RUN -/

/-- A core that comes to RUN is asked again, unless no decision is open there (R138). -/
theorem State.afterCore_run (t : State) (before : Int) {c : Nat} (hRun : t.obj .coreState c = coreRun) :
    t.afterCore before c = t ∨ t.afterCore before c = t.preemptAgain c := by
  unfold State.afterCore
  simp only [hRun]
  by_cases hBefore : before = coreRun <;> simp [hBefore]

theorem State.afterCore_undecided {t : State} (before : Int) {c : Nat} (hRun : t.obj .coreState c = coreRun)
    (hPre : tabGet 0 (t.sch (c / 12)).pre (c % 12) = 0) : t.afterCore before c = t := by
  rcases t.afterCore_run before hRun with h | h
  · exact h
  · rw [h, State.preemptAgain, hPre]

/-- It goes on with its thread. -/
theorem State.besides.afterCore {t : State} (before : Int) {c : Nat} (hRun : t.obj .coreState c = coreRun) :
    State.besides c t (t.afterCore before c) := by
  rcases t.afterCore_run before hRun with h | h
  · rw [h]
    exact .refl c t
  · rw [h, State.preemptAgain]
    split
    · exact .refl c t
    · exact .raisePreempt _ _

/-! ### Work on cores and lists alone -/

/-- From one state to the other nothing but objects, cores and schedulers changed. -/
def State.schedulerOnly (s t : State) : Prop := t = { s with objs := t.objs, cores := t.cores, sched := t.sched }

namespace State.schedulerOnly

theorem trans {s t u : State} (h : s.schedulerOnly t) (k : t.schedulerOnly u) : s.schedulerOnly u := by
  unfold State.schedulerOnly at *
  rw [h] at k
  exact k

theorem setCore (s : State) (c : Nat) (k : CoreSt) : s.schedulerOnly (s.setCore c k) := rfl
theorem setObj (s : State) (o : Obj) (n : Nat) (v : Int) : s.schedulerOnly (s.setObj o n v) := rfl
theorem setPc (s : State) (c a : Nat) : s.schedulerOnly (s.setPc c a) := rfl
theorem setSch (s : State) (h : Nat) (x : SchedSt) : s.schedulerOnly (s.setSch h x) := rfl

end State.schedulerOnly

/-! ### An interrupted thread that resumes (R137) -/

/-- The core as SCH_SWITCH leaves it with nothing above its thread. -/
def State.goneOn (u : State) (c : Nat) : State :=
  ((((u.setCore c { u.core c with
      sst := (u.core c).sst.restore (u.core c).esst.toNat
      ints := (u.core c).ints.filter (fun x => decide (x ≠ 0x10)) }).setPc c (u.core c).epc).setObj
    .coreState c coreRun).setPre c 0).bump .schPreemptSpurious (c / 12)

section
variable (u : State) (c : Nat)

theorem State.thread_goneOn : (u.goneOn c).thread c = u.thread c :=
  (State.thread_congr (State.sch_bump _ _ _ _)).trans (State.thread_setPre _ _ _ _)

theorem State.state_goneOn : (u.goneOn c).obj .coreState c = coreRun := by
  rw [State.goneOn, State.obj_bump_of_ne _ _ _ (by decide), State.setPre, State.obj_setSch, State.obj_setObj_same]

theorem State.pc_goneOn : (u.goneOn c).obj .corePc c = (((u.core c).epc % 16777216 / 8 * 8 : Nat) : Int) := by
  rw [State.goneOn, State.obj_bump_of_ne _ _ _ (by decide), State.setPre, State.obj_setSch,
    State.obj_setObj_of_ne _ _ _ _ (by decide), State.obj_setPc_same]

theorem State.core_goneOn : (u.goneOn c).core c = { u.core c with
    sst := (u.core c).sst.restore (u.core c).esst.toNat
    ints := (u.core c).ints.filter (fun x => decide (x ≠ 0x10)) } := State.core_setCore_same _ _ _

theorem State.pre_goneOn : tabGet 0 ((u.goneOn c).sch (c / 12)).pre (c % 12) = 0 := by
  rw [State.goneOn, State.sch_bump, State.setPre, State.sch_setSch_same, tabGet_tabSet_same]

theorem State.schedulerOnly_goneOn : u.schedulerOnly (u.goneOn c) :=
  ((((State.schedulerOnly.setCore u c _).trans (.setPc _ c _)).trans (.setObj _ _ _ _)).trans (.setSch _ _ _)).trans (.setObj _ _ _ _)

theorem State.schedulerOnly_callMade (sub o : Nat) : u.schedulerOnly (u.callMade c sub o) :=
  (State.schedulerOnly.setCore u c _).trans (.setPc _ c _)

theorem State.spurious_goneOn : (u.goneOn c).obj .schPreemptSpurious (c / 12)
    = (u.obj .schPreemptSpurious (c / 12) + 1) % 4294967296 := by
  rw [State.goneOn, State.obj_bump, State.setPre, State.obj_setSch, State.obj_setObj_of_ne _ _ _ _ (by decide),
    State.obj_setPc_of_ne _ _ _ _ (by decide), State.obj_setCore]

end

theorem State.callSwitch_spurious {u : State} {c g : Nat} (hThread : u.thread c = some g) (hNext : u.topReady c 63 = none) :
    u.callSwitch c = u.goneOn c := by
  simp only [State.callSwitch, hThread, hNext, Bool.false_eq_true, if_false, State.goneOn]

section
variable {s : State} {c : Fin 192} {g : Nat} {d a : Fin 16}

/-- SCH_YIELD with nothing ready: the caller runs again. -/
theorem execSchYield_runs (hReady : callReady s c g) (hHall : g / 4096 = c.val / 12) (hNone : ∀ p, (s.sch (c / 12)).list p = [])
    (hLow : 128 ≤ s.tFrame g) (hHigh : s.tFrame g < 12288) (hOn : s.eligible c g = true) (hLoad : (s.sch (c / 12)).loading = [])
    (hHalt : (s.core c).haltReq = false) :
    ∃ t, exec (.schYield c d a) s = .next t ∧ t.thread c = some g ∧ t.obj .coreState c = coreRun ∧ t.tState g = thRunning
      ∧ t.pc c = (s.pc c / 8 + 1) * 8 % 16777216
      ∧ t.obj .schDispatches (c / 12) = (s.obj .schDispatches (c / 12) + 1) % 4294967296 := by
  have hCall := State.schedCall_yield (d := d) (a := a) (u := s.callMade c 0x09 (16 * d + a)) (hReady.2.2.2.1 : s.thread c = some g)
    hReady.2.2.1
  have hTcb : ∀ hi lo, ((s.callMade c 0x09 (16 * d + a)).giveStatus c d 0).tcb g hi lo = s.tcb g hi lo := fun hi lo => by
    rw [State.tcb_giveStatus, State.tcb_callMade]
  have hFrame : ((s.callMade c 0x09 (16 * d + a)).giveStatus c d 0).tFrame g = s.tFrame g := hTcb 111 98
  have hObj : ∀ o n, o ≠ .corePc → ((s.callMade c 0x09 (16 * d + a)).giveStatus c d 0).obj o n = s.obj o n := fun o n h => by
    rw [State.giveStatus, State.obj_setCore, State.obj_callMade _ _ _ _ _ h]
  have hSch : ∀ i, ((s.callMade c 0x09 (16 * d + a)).giveStatus c d 0).sch i = s.sch i := fun i => by
    rw [State.giveStatus, State.sch_setCore, State.sch_callMade]
  have hPc : ((s.callMade c 0x09 (16 * d + a)).giveStatus c d 0).pc c = (s.pc c / 8 + 1) * 8 % 16777216 := by
    rw [State.pc, State.objN, State.giveStatus, State.obj_setCore, State.pc_callMade, Int.toNat_natCast]
  have hHalted : (((s.callMade c 0x09 (16 * d + a)).giveStatus c d 0).core c).haltReq = false := by
    rw [State.giveStatus, State.core_setCore_same, State.core_callMade]
    exact hHalt
  have hUnit : (((s.callMade c 0x09 (16 * d + a)).giveStatus c d 0).unit (unitHall (c / 12))).st = unitRunning := by
    rw [State.giveStatus, State.unit_setCore, State.unit_callMade]
    exact State.issues_hall hReady.1
  generalize (s.callMade c 0x09 (16 * d + a)).giveStatus c d 0 = u at hCall hTcb hFrame hObj hSch hPc hHalted hUnit
  have hOff : ((u.saveContext g c (u.core c).sst.toWord (u.pc c)).readyTail g).obj .schTraceSize (c / 12) = 0 := by
    rw [(State.threadWork.readyTail _ g).traces, State.obj_saveContext _ _ _ _ _ _ (by decide) (by decide), hObj _ _ (by decide)]
    exact hReady.2.2.2.2
  rw [State.schTraceRec_untraced hOff] at hCall
  obtain ⟨v, hEq, hTook, hRunning, hAt, hDispatches, hPre⟩ := State.yielded_runs (u := u) (c := c) (g := g) (u.core c).sst.toWord (u.pc c)
    hUnit (by rw [hSch]; exact hLoad) hHall (by rw [State.frameFits, hFrame]; exact ⟨hLow, hHigh⟩)
    (by rw [hObj _ _ (by decide)]; exact hReady.2.2.2.2) hHalted (fun p => by rw [hSch]; exact hNone p)
    (by rw [State.eligible, State.tAffinity, hTcb]; exact hOn)
  rw [hEq] at hCall
  refine ⟨v, congrArg Host.Outcome.next ?_, hTook.thread, hTook.state, hRunning, ?_, by rw [hDispatches, hObj _ _ (by decide)]⟩
  · rw [State.call, State.issueSolo_sched hReady.1 hReady.2.1 rfl, hCall, State.afterCore_undecided _ hTook.state hPre]
  · rw [State.pc, State.objN, hAt, hPc]
    omega

/-- SCH_SWITCH with nothing ready: the interrupted thread resumes at EPC. -/
theorem execSchSwitch_spurious (hIssues : s.issues c = true) (hLd : (s.core c).sst.ld = 0) (hExl : (s.core c).sst.exl = true)
    (hThread : s.thread c = some g) (hNone : ∀ p, (s.sch (c / 12)).list p = []) :
    ∃ t, exec (.schSwitch c d a) s = .next t ∧ t.thread c = some g ∧ t.obj .coreState c = coreRun
      ∧ t.obj .corePc c = (((s.core c).epc % 16777216 / 8 * 8 : Nat) : Int)
      ∧ (t.core c).sst = (s.core c).sst.restore (s.core c).esst.toNat
      ∧ t.obj .schPreemptSpurious (c / 12) = (s.obj .schPreemptSpurious (c / 12) + 1) % 4294967296
      ∧ t = { s with objs := t.objs, cores := t.cores, sched := t.sched } := by
  have hNext := State.topReady_none (s := s.callMade c 0x08 (16 * d + a)) (c := c) hNone 63
  have hCore := State.core_callMade s c 0x08 (16 * d + a)
  have hCall := State.schedCall_switch (d := d) (a := a) (u := s.callMade c 0x08 (16 * d + a)) hThread hExl
  rw [State.callSwitch_spurious (u := s.callMade c 0x08 (16 * d + a)) hThread hNext] at hCall
  have hExec : s.call c 0x08 d a = (s.callMade c 0x08 (16 * d + a)).goneOn c := by
    rw [State.call, State.issueSolo_sched hIssues hLd rfl, hCall,
      State.afterCore_undecided _ (State.state_goneOn _ _) (State.pre_goneOn _ _)]
  refine ⟨_, congrArg Host.Outcome.next hExec, (State.thread_goneOn _ _).trans hThread, State.state_goneOn _ _, ?_, ?_, ?_, ?_⟩
  · rw [State.pc_goneOn, hCore]
  · rw [State.core_goneOn, hCore]
  · rw [State.spurious_goneOn, State.obj_callMade _ _ _ _ _ (by decide)]
  · exact (State.schedulerOnly_callMade s c _ _).trans (State.schedulerOnly_goneOn _ _)

end

end Sys2Proof.Machine
end

section
/-! SUPPORT. SCH_SWITCH to a higher thread (R129, R135, R137). -/

namespace Sys2Proof.Machine

/-- The interrupted thread saved at EPC, and the handler ended. -/
def State.setAside (u : State) (c g : Nat) : State :=
  ((u.saveContext g c ((u.core c).sst.restore (u.core c).esst.toNat).toWord (u.core c).epc).setCore c
    { u.core c with sst := { (u.core c).sst with exl := false } }).readyHead g

section
variable {u : State} {c g g' p : Nat}

theorem State.callSwitch_up (hThread : u.thread c = some g) (hNext : u.topReady c 63 = some g') (hAbove : u.tPrio g < u.tPrio g')
    (hOff : (u.setAside c g).obj .schTraceSize (c / 12) = 0) :
    u.callSwitch c = ((u.setAside c g).releaseCore c).settle (c / 12) [g] := by
  have hRec := State.schTraceRec_untraced hOff 2 (c % 12) (some g) (traceArg 2 g)
  simp only [State.callSwitch, hThread, hNext, hAbove, decide_true, if_true]
  rw [← State.setAside, hRec]

variable (hFits : u.frameFits g)
include hFits

theorem State.tcb_setAside (n : Nat) {hi lo : Nat} (hf : fixedField hi lo) : (u.setAside c g).tcb n hi lo = u.tcb n hi lo := by
  rw [State.setAside, (State.threadWork.readyHead _ g).fields _ _ _ hf, State.tcb_setCore, State.tcb_saveContext _ _ _ _ hFits]

theorem State.memNat_setAside_pc : (u.setAside c g).memNat (u.frameAddr g + 0xC4) 4 = (u.core c).epc % 2 ^ 32 := by
  rw [State.setAside, State.memNat_congr fun i hi => (State.threadWork.readyHead _ g).above _ ?_,
    State.memNat_of_mem (State.setCore_mem _ _ _), State.memNat_saveContext_pc]
  exact (Nat.add_assoc _ _ _).symm ▸ hFits.above (by omega)

omit hFits

theorem State.obj_setAside {o : Obj} (n : Nat) (h₁ : o ≠ .schReadyThreads) (h₂ : o ≠ .schWaitingThreads)
    (h₃ : o ≠ .schFreeThreads) (h₄ : o ≠ .eccLogUsed) (h₅ : o ≠ .ddrFillBlocks) : (u.setAside c g).obj o n = u.obj o n := by
  rw [State.setAside, State.readyHead, State.obj_setReady _ _ _ _ _ h₄ h₅, State.obj_setTState _ _ _ _ h₁ h₂ h₃ h₄ h₅,
    State.obj_setCore, State.obj_saveContext _ _ _ _ _ _ h₄ h₅]

/-- It stands at the head of its list. -/
theorem State.list_setAside (hFits : u.frameFits g) (q : Nat) : ((u.setAside c g).sch (hallOfThread g)).list q
    = if q = u.tPrio g then g :: (u.sch (hallOfThread g)).list q else (u.sch (hallOfThread g)).list q := by
  have hPrio : ∀ k, ((u.saveContext g c ((u.core c).sst.restore (u.core c).esst.toNat).toWord (u.core c).epc).setCore c k).tPrio g
      = u.tPrio g := fun k => by
    rw [State.tPrio, State.tcb_setCore, State.tcb_saveContext _ _ _ _ hFits, State.tPrio]
  rw [State.setAside, State.list_readyHead, hPrio, State.sch_setCore, (State.keeps_saveContext _ _ _ _ _ _).list,
    (State.keeps_saveContext _ _ _ _ _ _).list]
  split
  next h => rw [h]
  next => rfl

theorem State.core_setAside : (u.setAside c g).core c = { u.core c with sst := { (u.core c).sst with exl := false } } := by
  rw [State.setAside, State.readyHead, State.core_setReady, State.core_setTState, State.core_setCore_same]

theorem State.unit_setAside (n : Nat) : (u.setAside c g).unit n = u.unit n := by
  rw [State.setAside, State.readyHead, State.unit_setReady, State.unit_setTState, State.unit_setCore, State.unit_saveContext]

theorem State.loading_setAside (i : Nat) : ((u.setAside c g).sch i).loading = (u.sch i).loading := by
  rw [State.setAside, State.readyHead, State.loading_setReady, State.sch_setTState, State.sch_setCore,
    (State.keeps_saveContext _ _ _ _ _ _).loading]

/-- The core takes the one thread above, and the saved frame stays. -/
theorem State.switched_runs (hRuns : (u.unit (unitHall (c / 12))).st = unitRunning) (hLoad : (u.sch (c / 12)).loading = [])
    (hHall : hallOfThread g = c / 12) (hFits : u.frameFits g) (hOff : u.obj .schTraceSize (c / 12) = 0)
    (hHalt : (u.core c).haltReq = false) (hThread : u.thread c = some g) (hp : p < 64) (hList : (u.sch (c / 12)).list p = [g'])
    (hRest : ∀ q, q ≠ p → (u.sch (c / 12)).list q = []) (hPrio : u.tPrio g' = p) (hOn : u.eligible c g' = true) (hAbove : u.tPrio g < p) :
    (u.callSwitch c).tookThread c g' ∧ (u.callSwitch c).memNat (u.frameAddr g + 0xC4) 4 = (u.core c).epc % 2 ^ 32 := by
  have hNext : u.topReady c 63 = some g' := State.topReady_of (fun q hq => hRest q (by omega)) hList hOn (by omega)
  have hOff' : (u.setAside c g).obj .schTraceSize (c / 12) = 0 :=
    (State.obj_setAside _ (by decide) (by decide) (by decide) (by decide) (by decide)).trans hOff
  have hLists : ∀ q, ((u.setAside c g).sch (c / 12)).list q
      = if q = u.tPrio g then g :: (u.sch (c / 12)).list q else (u.sch (c / 12)).list q := fun q => by
    rw [← hHall, State.list_setAside hFits]
  have hOn' : (u.setAside c g).eligible c g' = true := by
    rw [State.eligible, State.tAffinity, State.tcb_setAside hFits _ (by simp [fixedField])]
    exact hOn
  have hTaken := State.releaseCore_takes (s := u.setAside c g) (by rw [State.unit_setAside]; exact hRuns)
    (by rw [State.loading_setAside]; exact hLoad) (p := p)
    (fun q hq => by rw [hLists, if_neg (by omega), hRest q (by omega)]) (by rw [hLists, if_neg (by omega), hList]) hp hOn' hOff'
    (by rw [State.core_setAside]; exact hHalt)
  have hWork := (State.threadWork_vacated (u.setAside c g) c).trans (State.placed_threadWork _ c g')
  have hThere : ((((u.setAside c g).vacated c).placed c g').setObj .coreState c coreRun).tookThread c g' :=
    ⟨(State.thread_congr (State.sch_setObj _ _ _ _ _)).trans (State.thread_placed _ _ _), State.obj_setObj_same _ _ _ _⟩
  have hBeside := State.besides.settle (s := (((u.setAside c g).vacated c).placed c g').setObj .coreState c coreRun) (c := c) (c / 12) [g]
    (by rw [hThere.state]; decide) (by rw [State.obj_setObj_of_ne _ _ _ _ (by decide), hWork.traces, hOff'])
  rw [State.callSwitch_up hThread hNext (by rw [hPrio]; exact hAbove) hOff', hTaken]
  refine ⟨⟨hBeside.thread.trans hThere.thread, hBeside.state.trans hThere.state⟩, ?_⟩
  have hAt : ∀ i, i < 4 → aboveTcbs (u.frameAddr g + 0xC4 + i) := fun i hi => (Nat.add_assoc _ _ _).symm ▸ hFits.above (by omega)
  rw [State.memNat_congr fun i hi => hBeside.work.above _ (hAt i hi), State.memNat_of_mem (State.setObj_mem _ _ _ _),
    State.memNat_congr fun i hi => hWork.above _ (hAt i hi), State.memNat_setAside_pc hFits]

end

section
variable {s : State} {c : Fin 192} {g g' p : Nat} {d a : Fin 16}

/-- SCH_SWITCH with one ready thread above the interrupted one. -/
theorem execSchSwitch_up (hIssues : s.issues c = true) (hLd : (s.core c).sst.ld = 0) (hExl : (s.core c).sst.exl = true)
    (hHalt : (s.core c).haltReq = false) (hThread : s.thread c = some g) (hHall : g / 4096 = c.val / 12) (hLow : 128 ≤ s.tFrame g)
    (hHigh : s.tFrame g < 12288) (hOff : s.obj .schTraceSize (c / 12) = 0) (hLoad : (s.sch (c / 12)).loading = []) (hp : p < 64)
    (hList : (s.sch (c / 12)).list p = [g']) (hRest : ∀ q, q ≠ p → (s.sch (c / 12)).list q = []) (hPrio : s.tPrio g' = p)
    (hOn : s.eligible c g' = true) (hAbove : s.tPrio g < p) :
    ∃ t, exec (.schSwitch c d a) s = .next t ∧ t.thread c = some g' ∧ t.obj .coreState c = coreRun
      ∧ t.memNat (s.frameAddr g + 0xC4) 4 = (s.core c).epc % 4294967296 := by
  have hCall := State.schedCall_switch (d := d) (a := a) (u := s.callMade c 0x08 (16 * d + a)) hThread hExl
  have hCore := State.core_callMade s c 0x08 (16 * d + a)
  have hTcb : ∀ n hi lo, (s.callMade c 0x08 (16 * d + a)).tcb n hi lo = s.tcb n hi lo := State.tcb_callMade _ _ _ _
  have hFrame : (s.callMade c 0x08 (16 * d + a)).tFrame g = s.tFrame g := hTcb _ _ _
  have hAddr : (s.callMade c 0x08 (16 * d + a)).frameAddr g = s.frameAddr g := by rw [State.frameAddr, hFrame, State.frameAddr]
  have hFits : (s.callMade c 0x08 (16 * d + a)).frameFits g := by
    rw [State.frameFits, hFrame]
    exact ⟨hLow, hHigh⟩
  obtain ⟨hTook, hSaved⟩ := State.switched_runs (u := s.callMade c 0x08 (16 * d + a)) (c := c) (g := g) (g' := g') (p := p)
    (by rw [State.unit_callMade]; exact State.issues_hall hIssues) (by rw [State.sch_callMade]; exact hLoad) hHall hFits
    (by rw [State.obj_callMade _ _ _ _ _ (by decide)]; exact hOff) (by rw [hCore]; exact hHalt) hThread hp
    (by rw [State.sch_callMade]; exact hList) (fun q hq => by rw [State.sch_callMade]; exact hRest q hq)
    (by rw [State.tPrio, hTcb]; exact hPrio) (by rw [State.eligible, State.tAffinity, hTcb]; exact hOn)
    (by rw [State.tPrio, hTcb]; exact hAbove)
  have hBeside := State.besides.afterCore (s.obj .coreState c) hTook.state
  refine ⟨_, rfl, ?_⟩
  rw [State.call, State.issueSolo_sched hIssues hLd rfl, hCall]
  refine ⟨hBeside.thread.trans hTook.thread, hBeside.state.trans hTook.state, ?_⟩
  rw [← hAddr, State.memNat_congr fun i hi => hBeside.work.above _ ((Nat.add_assoc _ _ _).symm ▸ hFits.above (by omega)), hSaved, hCore]
  rfl

end

end Sys2Proof.Machine

section
open Sys2Proof Sys2Proof.Machine

/-- Settles O28, call by call: what a thread that waits leaves, and which thread its core takes. -/
theorem blockingCallsFreeTheCore : Obligations.BlockingCallsFreeTheCore := by
  intro s c g d a
  refine ⟨fun hReady hHall hNone hRunning hLow hHigh => ⟨?_, ?_, ?_, ?_, ?_, ?_, ?_⟩, ?_, ?_, ?_⟩
  · exact fun i hi hOwn hKind hCount hHeld => execSchSemTake_waits hReady hHall hNone hLow hHigh hi hOwn hKind hCount hHeld
  · exact fun q hq hOn hCount hd => execSchMsgRecv_waits hReady hHall hNone hLow hHigh hq hOn hCount hd
  · exact fun q hq hOwn hEngine hOn hRecv hFull hPolicy =>
      execSchMsgSend_waits hReady hHall hNone hLow hHigh hq hOwn hEngine hOn hRecv hFull hPolicy
  · intro h0
    have hLt := ((s.core c).rd a).isLt
    have hCall := State.schedCall_delay (u := s.callMade c 0x0E (16 * d + a)) (d := d) (hReady.2.2.2.1 : s.thread c = some g)
      hReady.2.2.1 h0
    rw [State.tick48_callMade] at hCall
    obtain ⟨t, hExec, hWaits⟩ := call_delay_waits hReady hHall hNone hLow hHigh rfl hCall
      (reachedTick_ahead (s.tick48_lt _) (by omega) (by omega)) (Nat.mod_lt _ (by decide))
    exact ⟨t, congrArg Host.Outcome.next hExec, hWaits⟩
  · intro ha hAhead
    have hLt := ((s.core c).rd a).isLt
    have hHigher := bits_lt ((s.core c).rd (a + 1)).toNat 15 0
    have hCall := State.schedCall_delayUntil (u := s.callMade c 0x0F (16 * d + a)) (d := d) (a := a)
      (hReady.2.2.2.1 : s.thread c = some g) hReady.2.2.1
    obtain ⟨t, hExec, hWaits⟩ := call_delay_waits hReady hHall hNone hLow hHigh (by simp [schedIllegal, operand_ds]; omega) hCall
      hAhead (by norm_num at hHigher; omega)
    exact ⟨t, congrArg Host.Outcome.next hExec, hWaits⟩
  · exact fun hLocks => execSchExit_frees hReady hHall hNone hRunning hLocks
  · exact fun hOn hLoad hHalt => execSchYield_runs hReady hHall hNone hLow hHigh hOn hLoad hHalt
  · intro hReady ha hReached
    have hCall := State.schedCall_delayUntil (u := s.callMade c 0x0F (16 * d + a)) (d := d) (a := a)
      (hReady.2.2.2.1 : s.thread c = some g) hReady.2.2.1
    rw [State.callDelay, State.tick48_callMade] at hCall
    simp only [hReached, if_true] at hCall
    exact ⟨_, rfl, State.call_only_status hReady (by simp [schedIllegal, operand_ds]; omega) hCall⟩
  · exact fun hIssues hLd hExl hThread hNone => execSchSwitch_spurious hIssues hLd hExl hThread hNone
  · exact fun g' p hIssues hLd hExl hHalt hThread hHall hLow hHigh hOff hLoad hp hList hRest _ hPrio hOn hAbove =>
      execSchSwitch_up hIssues hLd hExl hHalt hThread hHall hLow hHigh hOff hLoad hp hList hRest hPrio hOn hAbove
end
end

section
/-! SUPPORT. What the downlink engines' work changes beside its results (R261, R263 to R269, R325 to R332, R534): memory, its
correction log, the units that a fault restarts, and counters. -/

namespace Sys2Proof.Machine

/-! ### The frame -/

/-- The objects that reads and writes of memory, a unit's faults, the pacers, the frame stores and the mask monitor change. -/
def sideObjs : List Obj :=
  [.eccLogUsed, .ddrFillBlocks, .eccCorrected, .eccLogEvictions, .eccLogFull, .eccHot, .eccLasting, .eccUncorr, .eccUnrepaired,
    .ddrUnwrittenReads, .relFaults, .relRetired, .relRestarts, .arbState, .arbFreeze, .hallLastSnapCause, .paceSnaps, .hallPaceState,
    .hallTrim, .hallVoltage, .hallSlackTail, .hallSlackMin, .hallSlackSamples, .dlReOverwrites, .dlClips, .dlNoMap, .dlFramesMissed,
    .dlFramesHanded, .tdMaskFails, .tdMaskAlarms, .tdMutes, .tdMaskWorst, .tdMaskState, .tdClipSamples]

/-- From one state to the other no scheduler, no carrier, no staged set, no transmit map and no other object changed. -/
structure State.sideWork (s t : State) : Prop where
  sched : t.sched = s.sched
  carriers : t.carriers = s.carriers
  staged : t.staged = s.staged
  stageLog : t.stageLog = s.stageLog
  txMaps : t.txMaps = s.txMaps
  objs : ∀ o n, o ∉ sideObjs → t.obj o n = s.obj o n

/-- Nor a stream in time-domain mode, nor the record of a slot being built. -/
structure State.engineWork (s t : State) : Prop where
  side : s.sideWork t
  td : t.td = s.td
  slots : t.dlSlots = s.dlSlots

namespace State.sideWork
variable {s t u : State}

theorem refl (s : State) : s.sideWork s := ⟨rfl, rfl, rfl, rfl, rfl, fun _ _ _ => rfl⟩

theorem trans (h : s.sideWork t) (k : t.sideWork u) : s.sideWork u :=
  ⟨k.sched.trans h.sched, k.carriers.trans h.carriers, k.staged.trans h.staged, k.stageLog.trans h.stageLog, k.txMaps.trans h.txMaps,
    fun o n ho => (k.objs o n ho).trans (h.objs o n ho)⟩

theorem setObj (s : State) {o : Obj} (n : Nat) (v : Int) (ho : o ∈ sideObjs) : s.sideWork (s.setObj o n v) :=
  ⟨rfl, rfl, rfl, rfl, rfl, fun _ _ hp => State.obj_setObj_of_ne _ _ _ _ fun h => hp (h ▸ ho)⟩

theorem sch (h : s.sideWork t) (i : Nat) : t.sch i = s.sch i := by simp only [State.sch, h.sched]

theorem queue (h : s.sideWork t) (q : Nat) : t.queue q = s.queue q := by simp only [State.queue, h.sch]

theorem now (h : s.sideWork t) : t.now = s.now := by
  rw [State.now, State.now, h.objs _ _ (by decide), h.objs _ _ (by decide)]

theorem carrier (h : s.sideWork t) (c : Nat) : t.carrier c = s.carrier c := by simp only [State.carrier, h.carriers]

end State.sideWork

namespace State.engineWork
variable {s t u : State}

theorem refl (s : State) : s.engineWork s := ⟨.refl s, rfl, rfl⟩

theorem trans (h : s.engineWork t) (k : t.engineWork u) : s.engineWork u :=
  ⟨h.side.trans k.side, k.td.trans h.td, k.slots.trans h.slots⟩

/-- A step written as a split on a condition. -/
theorem ite {c : Prop} [Decidable c] (h : c → s.engineWork t) (k : ¬c → s.engineWork u) : s.engineWork (if c then t else u) := by
  split
  next hc => exact h hc
  next hc => exact k hc

theorem setObj (s : State) {o : Obj} (n : Nat) (v : Int) (ho : o ∈ sideObjs) : s.engineWork (s.setObj o n v) :=
  ⟨.setObj s n v ho, rfl, rfl⟩

theorem bump (s : State) {o : Obj} (n : Nat) (ho : o ∈ sideObjs) : s.engineWork (s.bump o n) := .setObj s n _ ho

theorem bumpBy (s : State) {o : Obj} (n k : Nat) (ho : o ∈ sideObjs) : s.engineWork (s.bumpBy o n k) := .setObj s n _ ho

theorem bumpIf (s : State) (b : Bool) {o : Obj} (n : Nat) (ho : o ∈ sideObjs) : s.engineWork (s.bumpIf b o n) :=
  .ite (fun _ => .bump s n ho) fun _ => .refl s

/-- The objects stay, and of the rest only what no engine's result is. -/
theorem of_objs (hObjs : t.objs = s.objs) (hSched : t.sched = s.sched) (hCarriers : t.carriers = s.carriers) (hStaged : t.staged = s.staged)
    (hLog : t.stageLog = s.stageLog) (hMaps : t.txMaps = s.txMaps) (hTd : t.td = s.td) (hSlots : t.dlSlots = s.dlSlots) :
    s.engineWork t :=
  ⟨⟨hSched, hCarriers, hStaged, hLog, hMaps, fun o n _ => State.obj_congr hObjs o n⟩, hTd, hSlots⟩

theorem evt (s : State) (k : EvtKind) (u i : Nat) : s.engineWork (s.evt k u i) := .of_objs rfl rfl rfl rfl rfl rfl rfl rfl

theorem freeUsed (s : State) : s.engineWork s.freeUsed := .of_objs rfl rfl rfl rfl rfl rfl rfl rfl

theorem setUnit (s : State) (u : Nat) (x : UnitSt) : s.engineWork (s.setUnit u x) := .of_objs rfl rfl rfl rfl rfl rfl rfl rfl

/-! ### Faults of units (R534) -/

theorem of_arbiters (h : s.arbitersOnly t) : s.engineWork t := by
  have hObjs := h.objs
  obtain ⟨⟨os, as, rfl⟩, -⟩ := h
  exact ⟨⟨rfl, rfl, rfl, rfl, rfl, fun o n ho => hObjs o n (fun h => ho (h ▸ by decide)) fun h => ho (h ▸ by decide)⟩, rfl, rfl⟩

theorem loseRequests (s : State) (u : Nat) : s.engineWork (s.loseRequests u) := .of_objs rfl rfl rfl rfl rfl rfl rfl rfl

theorem assertModuleFault (s : State) : s.engineWork s.assertModuleFault := .of_objs rfl rfl rfl rfl rfl rfl rfl rfl

theorem unitFault (s : State) (u code : Nat) : s.engineWork (s.unitFault u code) := by
  unfold State.unitFault
  dsimp only
  have hCounted : s.engineWork (s.bump .relFaults 0) := .bump s 0 (by decide)
  refine .ite (fun _ => .refl s) fun _ => .ite (fun _ => ?_) fun _ => ?_
  · have hRetired : ∀ x, s.engineWork ((((s.bump .relFaults 0).setUnit u x).bump .relRetired 0).evt .unitRetired u code) := fun x =>
      ((hCounted.trans (.setUnit _ _ _)).trans (.bump _ _ (by decide))).trans (.evt _ _ _ _)
    exact .ite (fun _ => (hRetired _).trans (.assertModuleFault _)) fun _ => hRetired _
  · exact (((hCounted.trans (.setUnit _ _ _)).trans (.bump _ _ (by decide))).trans (.of_arbiters (.freezeUnit _ _ _))).trans
      (.loseRequests _ _)

/-! ### The correction log (R330 to R332) -/

theorem setLogEntry (s : State) (m i : Nat) (e : LogEntry) : s.engineWork (s.setLogEntry m i e) :=
  .trans (.of_objs (t := { s with eccLog := tabSet LogEntry.reset s.eccLog (64 * m + i) e }) rfl rfl rfl rfl rfl rfl rfl rfl)
    (.setObj _ _ _ (by decide))

theorem queueHot (s : State) (m i : Nat) : s.engineWork (s.queueHot m i) :=
  .ite (fun _ => .refl s) fun _ => .of_objs rfl rfl rfl rfl rfl rfl rfl rfl

theorem takeEntry (s : State) (m : Nat) (p : Nat × Nat × Nat) : s.engineWork (s.takeEntry m p).2 := by
  unfold State.takeEntry
  split
  · exact .refl s
  · split
    · exact .refl s
    · split
      · exact .bump s m (by decide)
      · exact .bump s m (by decide)

theorem unrepairedFault (s : State) (m : Nat) : s.engineWork (s.unrepairedFault m) :=
  .ite (fun _ => .unitFault s _ _) fun _ => .ite (fun _ => .unitFault s _ _) fun _ => .refl s

theorem markUnrepaired (s : State) (m i : Nat) : s.engineWork (s.markUnrepaired m i) :=
  .trans (.trans (.trans (.setLogEntry s m i _) (.bump _ _ (by decide))) (.evt _ _ _ _)) (.unrepairedFault _ m)

theorem logCorrection (s : State) (l : MemLoc) (src : Nat) (bs : List Nat) : s.engineWork (s.logCorrection l src bs) := by
  have hTaken := takeEntry s (ctrlOf l) (logPlace l)
  unfold State.logCorrection
  dsimp only
  split
  next t h =>
    rw [h] at hTaken
    exact hTaken
  next i fresh t h =>
    rw [h] at hTaken
    refine hTaken.trans (.ite (fun _ => .ite (fun _ => ?_) fun _ => .setLogEntry _ _ _ _) fun _ => .ite (fun _ => ?_) fun _ =>
      .ite (fun _ => ?_) fun _ => .setLogEntry _ _ _ _)
    · exact .trans (.trans (.setLogEntry _ _ _ _) (.bump _ _ (by decide))) (.queueHot _ _ _)
    · exact .trans (.trans (.trans (.setLogEntry _ _ _ _) (.bump _ _ (by decide))) (.evt _ _ _ _))
        (.ite (fun _ => .refl _) fun _ => .markUnrepaired _ _ _)
    · exact .trans (.setLogEntry _ _ _ _) (.queueHot _ _ _)

theorem logUncorrectable (s : State) (l : MemLoc) (src : Nat) : s.engineWork (s.logUncorrectable l src) := by
  have hTaken := takeEntry ((s.bump .eccUncorr (ctrlOf l)).evt .eccUncorr (ctrlOf l) (logPlace l).2.2) (ctrlOf l) (logPlace l)
  have hCounted : s.engineWork ((s.bump .eccUncorr (ctrlOf l)).evt .eccUncorr (ctrlOf l) (logPlace l).2.2) :=
    .trans (.bump s _ (by decide)) (.evt _ _ _ _)
  unfold State.logUncorrectable
  dsimp only
  split
  next t h =>
    rw [h] at hTaken
    exact hCounted.trans hTaken
  next i _ t h =>
    rw [h] at hTaken
    exact (hCounted.trans hTaken).trans (.setLogEntry _ _ _ _)

theorem demandWord (s : State) (l : MemLoc) (src : Nat) : s.engineWork (s.demandWord l src) := by
  unfold State.demandWord
  split
  · exact .refl s
  · exact .trans (.bump s _ (by decide)) (.logCorrection _ _ _ _)
  · exact .logUncorrectable s l src

theorem demandWords (s : State) (a src n : Nat) : s.engineWork (s.demandWords a src n) := by
  induction n with
  | zero => exact .refl s
  | succ n ih =>
    rw [State.demandWords]
    exact ih.trans (.ite (fun _ => .bumpIf _ _ _ (by decide)) fun _ => .demandWord _ _ _)

/-! ### Stores (R127, R317, R327, R328) -/

theorem store (s : State) (a : Nat) (l : List Byte) : s.engineWork (s.store a l) := by
  have hObjs := fun o n h h' => s.obj_store a l (o := o) n h h'
  obtain ⟨_, _, _, _, _, _, h⟩ := s.store_frame a l
  rw [h] at hObjs ⊢
  exact ⟨⟨rfl, rfl, rfl, rfl, rfl, fun o n ho => hObjs o n (fun h => ho (h ▸ by decide)) fun h => ho (h ▸ by decide)⟩, rfl, rfl⟩

theorem storeRmw (s : State) (a : Nat) (l : List Byte) : s.engineWork (s.storeRmw a l).1 := by
  unfold State.storeRmw
  dsimp only
  split
  · split
    · exact .demandWords s _ _ _
    · exact .trans (.demandWords s _ _ _) (.store _ _ _)
  · exact .store s a l

theorem storeAsked (s : State) (a : Nat) (l : List Byte) : s.engineWork (s.storeAsked a l).1 := by
  unfold State.storeAsked
  split
  · exact .refl s
  · exact .storeRmw s a l

theorem engWrite (s : State) (h off : Nat) (l : List Byte) : s.engineWork (s.engWrite h off l) := .storeAsked s _ l

theorem writeBack (s : State) (h off cycles : Nat) : s.engineWork (s.writeBack h off cycles) := .engWrite s _ _ _

/-! ### Pacers (R37) -/

theorem of_pacers {l : List (Obj × Nat)} (h : s.pacesOnly t l) (hl : ∀ p ∈ l, p.1 ∈ sideObjs) : s.engineWork t := by
  have hObjs := h.objs
  obtain ⟨⟨os, ps, rfl⟩, -⟩ := h
  exact ⟨⟨rfl, rfl, rfl, rfl, rfl, fun o n ho => hObjs o n fun h => ho (hl _ h)⟩, rfl, rfl⟩

theorem paceCompletion (s : State) (u : Nat) (slack : Int) (late : Bool) : s.engineWork (s.paceCompletion u slack late) := by
  have hSnap : ∀ (t : State) c, t.engineWork (t.snap u c) := fun t c =>
    .of_pacers (.snap t u c) (by simp [snapObjs, sideObjs])
  unfold State.paceCompletion
  refine .ite (fun _ => .refl s) fun _ => ?_
  dsimp only
  refine .trans (.of_pacers (l := holdObjs u) (.setWindow (.setPacer (.refl s _) u _) _ (by simp [holdObjs]) (by simp [holdObjs])
    (by simp [holdObjs])) (by simp [holdObjs, sideObjs])) (.ite (fun _ => hSnap _ 1) fun _ => .ite (fun _ => hSnap _ 2) fun _ => .refl _)

theorem engSlack (s : State) (h e d : Nat) : s.engineWork (s.engSlack h e d) := by
  unfold State.engSlack
  split
  · exact .ite (fun _ => .paceCompletion s _ _ _) fun _ => .refl s
  · exact .refl s

end State.engineWork

end Sys2Proof.Machine
end

section
/-! SUPPORT. Frames, grids and the mask monitor as side work (R257 to R269), and a descriptor's completion (R171, R172). -/

namespace Sys2Proof.Machine

namespace State.engineWork
variable {s t u : State}

/-- A list worked through one by one. -/
theorem foldl {α : Type} {f : State → α → State} (hf : ∀ (t : State) x, t.engineWork (f t x)) (l : List α) (s : State) :
    s.engineWork (l.foldl f s) := by
  induction l generalizing s with
  | nil => exact .refl s
  | cons x l ih => exact (hf s x).trans (ih _)

/-- The same with a result beside the state. -/
theorem foldl_fst {α β : Type} {f : State × β → α → State × β} (hf : ∀ p x, State.engineWork p.1 (f p x).1) (l : List α)
    (p : State × β) : State.engineWork p.1 (l.foldl f p).1 := by
  induction l generalizing p with
  | nil => exact .refl p.1
  | cons x l ih => exact (hf p x).trans (ih _)

/-! ### Frames (R257 to R261) -/

theorem addMissed (s : State) (h c : Nat) (S : Int) (n : Nat) : s.engineWork (s.addMissed h c S n) := by
  unfold State.addMissed
  exact .ite (fun _ => .refl s) fun _ =>
    .trans (.bumpBy s h n (o := .dlFramesMissed) (by decide)) (.of_objs rfl rfl rfl rfl rfl rfl rfl rfl)

theorem fsWrite (s : State) (c w : Nat) (l : List Byte) : s.engineWork (s.fsWrite c w l) :=
  .trans (.storeAsked s _ _) (.storeAsked _ _ _)

theorem handOver (s : State) (h c : Nat) (S : Int) (f : DlFrame) : s.engineWork (s.handOver h c S f) := by
  have hOffered : ∀ (t : State) fs os, t.engineWork { { t with frameStores := fs } with txOffers := os } := fun _ _ _ =>
    .of_objs rfl rfl rfl rfl rfl rfl rfl rfl
  have hHanded : ∀ (t : State) fs os, t.engineWork (State.bump { { t with frameStores := fs } with txOffers := os } .dlFramesHanded h) :=
    fun t fs os => (hOffered t fs os).trans (.bump _ h (by decide))
  exact (fsWrite s _ _ _).trans (hHanded _ _ _)

theorem handAll (s : State) (h c : Nat) (S : Int) (l : List DlFrame) : s.engineWork (s.handAll h c S l).1 := by
  induction l generalizing s with
  | nil => exact .refl s
  | cons f l ih =>
    rw [State.handAll]
    split
    · exact .trans (.addMissed s h c S 1) (ih _)
    · exact .trans (.handOver s h c S f) (ih _)

theorem frameUp (s : State) (c t x ty queue : Nat) (launch close : Int) (l : List (List Byte)) :
    s.engineWork (s.frameUp c t x ty queue launch close l).1 := by
  induction l generalizing s with
  | nil => exact .refl s
  | cons p l ih =>
    have hCounted : ∀ n, s.engineWork { s with txSeq := n } := fun _ => .of_objs rfl rfl rfl rfl rfl rfl rfl rfl
    exact (hCounted _).trans (ih _)

theorem buildFrames (s : State) (h d : Nat) (g : Grid) (syms ts : List Nat) : s.engineWork (s.buildFrames h d g syms ts).1 := by
  unfold State.buildFrames
  dsimp only
  refine .trans ?_ (foldl_fst (fun p k => foldl_fst (fun a t => ?_) ts p) syms _)
  · split
    · refine foldl_fst (fun a t => ?_) ts (s, [])
      split
      · exact .frameUp a.1 _ _ _ _ _ _ _ _
      · exact .refl a.1
    · exact .refl s
  · split
    · exact .frameUp a.1 _ _ _ _ _ _ _ _
    · exact .refl a.1

theorem writeGrid (s : State) (h d : Nat) (g : Grid) (ts : List Nat) : s.engineWork (s.writeGrid h d g ts) :=
  foldl (fun _ _ => foldl (fun _ _ => .engWrite _ _ _ _) _ _) ts s

theorem tdFrame (s : State) (T : Int) (c t x : Nat) (l : List Cplx) (first : Int) : s.engineWork (s.tdFrame T c t x l first).1 :=
  .of_objs rfl rfl rfl rfl rfl rfl rfl rfl

theorem shapeFrames (s : State) (d : Nat) (streams : List (Nat × Nat × List Cplx)) : s.engineWork (s.shapeFrames d streams).1 :=
  foldl_fst (fun p n => foldl_fst (fun p q => by
    dsimp only
    split
    · exact .refl p.1
    · exact .of_objs rfl rfl rfl rfl rfl rfl rfl rfl) streams p) _ (s, [])

end State.engineWork

/-! ### Streams in time-domain mode (R268, R269, R272) -/

theorem State.td_setTd (s : State) (c t : Nat) (x : TdSt) : (s.setTd c t x).td = tabSet TdSt.reset s.td (8 * c + t) x := rfl

theorem State.tdSt_setTd (s : State) {c t t' : Nat} (x : TdSt) :
    (s.setTd c t x).tdSt c t' = if t' = t then x else s.tdSt c t' := by
  rw [State.tdSt, State.td_setTd]
  split
  next h => rw [h, tabGet_tabSet_same]
  next h => rw [tabGet_tabSet_ne _ _ _ _ (by omega), State.tdSt]

namespace State.sideWork
variable {s t u : State}

theorem setTd (s : State) (c t : Nat) (x : TdSt) : s.sideWork (s.setTd c t x) := by
  have hStream : s.sideWork { s with td := tabSet TdSt.reset s.td (8 * c + t) x } := ⟨rfl, rfl, rfl, rfl, rfl, fun _ _ _ => rfl⟩
  exact hStream.trans (.setObj _ _ _ (by decide))

theorem noteWorst (s : State) (c t bin : Nat) (excess : Int) (fresh : Bool) : s.sideWork (s.noteWorst c t bin excess fresh) := by
  unfold State.noteWorst
  dsimp only
  split
  · exact .setObj s _ _ (by decide)
  · exact .refl s

theorem maskStep (s : State) (h c t bin : Nat) (excess : Int) : s.sideWork (s.maskStep h c t bin excess) := by
  have hFailed : s.sideWork (s.bump .tdMaskFails h) := .setObj s _ _ (by decide)
  unfold State.maskStep
  dsimp only
  split
  · split
    · split
      · exact (((hFailed.trans (.noteWorst _ _ _ _ _ _)).trans (.setTd _ _ _ _)).trans (.setObj _ _ _ (by decide))).trans
          (State.engineWork.evt _ _ _ _).side
      · exact (((hFailed.trans (.noteWorst _ _ _ _ _ _)).trans (.setTd _ _ _ _)).trans (.setObj _ _ _ (by decide))).trans
          (State.engineWork.evt _ _ _ _).side
    · refine .trans ?_ (.setTd _ _ _ _)
      split
      · exact hFailed
      · exact hFailed.trans (.noteWorst _ _ _ _ _ _)
  · exact .setTd s _ _ _

theorem shapeSymbol (s : State) (h d t k : Nat) (samples : List Cplx) : s.sideWork (s.shapeSymbol h d t k samples).1 := by
  unfold State.shapeSymbol
  dsimp only
  split
  · exact .setTd s _ _ _
  · split
    · exact (setTd s _ _ _).trans (State.engineWork.freeUsed _).side
    · exact ((setTd s _ _ _).trans (.maskStep _ _ _ _ _ _)).trans (State.engineWork.freeUsed _).side

theorem foldl {α : Type} {f : State → α → State} (hf : ∀ (t : State) x, t.sideWork (f t x)) (l : List α) (s : State) :
    s.sideWork (l.foldl f s) := by
  induction l generalizing s with
  | nil => exact .refl s
  | cons x l ih => exact (hf s x).trans (ih _)

theorem foldl_fst {α β : Type} {f : State × β → α → State × β} (hf : ∀ p x, State.sideWork p.1 (f p x).1) (l : List α)
    (p : State × β) : State.sideWork p.1 (l.foldl f p).1 := by
  induction l generalizing p with
  | nil => exact .refl p.1
  | cons x l ih => exact (hf p x).trans (ih _)

end State.sideWork

/-! ### A message by the Gallery's hardware producers (R143) -/

section
variable {s : State} {h q src m : Nat}

/-- A message to a queue with room and no waiters enters its ring. -/
theorem State.hwSend_enters (hHeld : (s.sch (q / 256)).held = []) (hPlain : isEngineQueue (q % 256) = false)
    (hOn : (s.queue q).enabled = true) (hRecv : (s.queue q).recv = []) (hRoom : (s.queue q).count < (s.queue q).depth)
    (hNotify : bitAt (s.queue q).setting 14 = false) : s.hwSend src q m = s.enqueue q m := by
  have hQuiet : bitAt ((s.enqueue q m).queue q).setting 14 = false := by
    rw [State.enqueue, State.queue_setQueue]
    exact hNotify
  simp [State.hwSend, hHeld, hPlain, hOn, State.hasRoom, hRoom, State.arriveMsg, hRecv, State.firstWaiter, State.notify, hQuiet]

variable (s q m)

theorem State.setQueue_alone (t : State) {x : QueueSt} (hRecv : x.recv = []) (hSend : x.send = []) : t.setQueue q x
    = t.setSch (q / 256) { t.sch (q / 256) with queues := tabSet QueueSt.reset (t.sch (q / 256)).queues (q % 256) x } := by
  simp only [State.setQueue, hRecv, hSend, List.map_nil, State.relink]

/-- The place in global memory of the next message of a queue. -/
def State.ringTail (s : State) (q : Nat) : Nat :=
  terraceBase (q / 256) + (s.queue q).ring + 16 * (((s.queue q).head + (s.queue q).count) % (s.queue q).depth)

theorem State.enqueue_eq (hRecv : (s.queue q).recv = []) (hSend : (s.queue q).send = []) : s.enqueue q m
    = (s.store (s.ringTail q) (leBytes 16 m)).setSch (q / 256)
        { s.sch (q / 256) with
          queues := tabSet QueueSt.reset (s.sch (q / 256)).queues (q % 256) { s.queue q with count := (s.queue q).count + 1 } } := by
  rw [State.enqueue, State.setQueue_alone (x := { s.queue q with count := (s.queue q).count + 1 }) _ _ hRecv hSend, State.sch_store, State.ringTail]

theorem State.queue_enqueue : (s.enqueue q m).queue q = { s.queue q with count := (s.queue q).count + 1 } :=
  State.queue_setQueue _ _ _

variable {s q m}

theorem State.memNat_enqueue (hRecv : (s.queue q).recv = []) (hSend : (s.queue q).send = []) (hm : m < 2 ^ 128) :
    (s.enqueue q m).memNat (s.ringTail q) 16 = m := by
  rw [State.enqueue_eq s q m hRecv hSend, State.memNat_of_mem (State.setSch_mem _ _ _), State.memNat_store_same]
  exact Nat.mod_eq_of_lt hm

theorem State.obj_enqueue (hRecv : (s.queue q).recv = []) (hSend : (s.queue q).send = []) {o : Obj} (n : Nat) (h₁ : o ≠ .eccLogUsed)
    (h₂ : o ≠ .ddrFillBlocks) : (s.enqueue q m).obj o n = s.obj o n := by
  rw [State.enqueue_eq s q m hRecv hSend, State.obj_setSch, State.obj_store _ _ _ _ h₁ h₂]

theorem State.engq_enqueue (hRecv : (s.queue q).recv = []) (hSend : (s.queue q).send = []) (i : Nat) :
    ((s.enqueue q m).sch i).engq = (s.sch i).engq := by
  rw [State.enqueue_eq s q m hRecv hSend]
  by_cases hi : i = q / 256
  · rw [hi, State.sch_setSch_same]
  · rw [State.sch_setSch_ne _ _ hi, State.sch_store]

/-- The slots and streams stay. -/
theorem State.downlink_enqueue (hRecv : (s.queue q).recv = []) (hSend : (s.queue q).send = []) :
    (s.enqueue q m).td = s.td ∧ (s.enqueue q m).dlSlots = s.dlSlots ∧ (s.enqueue q m).dlJobs = s.dlJobs := by
  obtain ⟨_, _, _, _, _, _, hStore⟩ := s.store_frame (s.ringTail q) (leBytes 16 m)
  rw [State.enqueue_eq s q m hRecv hSend, hStore]
  exact ⟨rfl, rfl, rfl⟩

end

end Sys2Proof.Machine
end

section
/-! SUPPORT. The downlink engines' descriptors done and reported (R169 to R172, R250, R264). -/

namespace Sys2Proof.Machine

/-! ### A descriptor's completion (R171, R172) -/

theorem State.lateStatus_ok (s : State) (d : Nat) : s.lateStatus d 0 = 0 ∨ s.lateStatus d 0 = 1 := by
  unfold State.lateStatus
  split
  · exact .inr rfl
  · exact .inl rfl

/-- OK and LATE each have their counter. -/
theorem State.countStatus_ok (s : State) (h : Nat) {st : Nat} (hSt : st = 0 ∨ st = 1) :
    s.countStatus h st = s.bump (statusCounter st) h := by
  rcases hSt with rfl | rfl <;> rfl

theorem statusCounter_own {st : Nat} (hSt : st = 0 ∨ st = 1) : statusCounter st ∉ sideObjs := by
  rcases hSt with rfl | rfl <;> decide

theorem toField_lt (n : Nat) (v : Int) : toField n v < 2 ^ n := by
  have hPos : (0 : Int) < 2 ^ n := by positivity
  have hLt := Int.emod_lt_of_pos v hPos
  have hNonneg := Int.emod_nonneg v hPos.ne'
  rw [toField]
  zify
  rwa [Int.toNat_of_nonneg hNonneg]

/-- The fields of a completion message. -/
theorem completionMsg_fields (d cyc a b : Nat) {st : Nat} (hSt : st < 16) (now : Int) :
    completionMsg d ⟨st, false, false, cyc, a, b⟩ now < 2 ^ 128
      ∧ bits (completionMsg d ⟨st, false, false, cyc, a, b⟩ now) 127 112 = dTag d
      ∧ bits (completionMsg d ⟨st, false, false, cyc, a, b⟩ now) 111 108 = dOp d
      ∧ bits (completionMsg d ⟨st, false, false, cyc, a, b⟩ now) 107 104 = st
      ∧ bits (completionMsg d ⟨st, false, false, cyc, a, b⟩ now) 31 0 = toField 32 now := by
  have h₁ := bits_lt d 47 32
  have h₂ := bits_lt d 55 52
  have h₃ := Nat.mod_lt cyc (Nat.two_pow_pos 32)
  have h₄ := Nat.mod_lt a (Nat.two_pow_pos 16)
  have h₅ := Nat.mod_lt b (Nat.two_pow_pos 16)
  have h₆ := toField_lt 32 now
  unfold completionMsg dTag dOp
  generalize bits d 47 32 = tag at *
  generalize bits d 55 52 = op at *
  dsimp only
  generalize cyc % 2 ^ 32 = cyc at *
  generalize a % 2 ^ 16 = a at *
  generalize b % 2 ^ 16 = b at *
  generalize toField 32 now = time at *
  norm_num at h₁ h₂ h₃ h₄ h₅ h₆
  unfold bits
  norm_num
  omega

/-- A queue's local number is what its global number leaves of the hall. -/
theorem replyQueue_hall (h d : Nat) : (256 * h + dReply d) / 256 = h ∧ (256 * h + dReply d) % 256 = dReply d := by
  have hReply : dReply d < 256 := bits_lt d 63 56
  omega

section
variable {s v : State} {h e d cyc a b : Nat}

/-- A head descriptor done OK is taken off its queue and reported, whatever else its engine's work changed. -/
theorem State.finishHead_reports (hWork : s.sideWork v) (hRoom : replyRoom s h d) :
    popped s (v.finishHead h e d ⟨0, false, false, cyc, a, b⟩) h e
      ∧ replied s (v.finishHead h e d ⟨0, false, false, cyc, a, b⟩) h d (s.lateStatus d 0)
      ∧ (v.finishHead h e d ⟨0, false, false, cyc, a, b⟩).td = v.td
      ∧ (v.finishHead h e d ⟨0, false, false, cyc, a, b⟩).dlSlots = v.dlSlots := by
  obtain ⟨hHeld, hPlain, hOn, hRecv, hSend, hSpace, hNotify, -⟩ := hRoom
  obtain ⟨hHall, hLocal⟩ := replyQueue_hall h d
  have hLate : (v.engPop h e).lateStatus d 0 = s.lateStatus d 0 := by
    have hNow : (v.engPop h e).now = s.now := hWork.now
    rw [State.lateStatus, State.lateStatus, hNow]
  have hSt := s.lateStatus_ok d
  have hSlack := State.engineWork.engSlack ((v.engPop h e).bump (statusCounter (s.lateStatus d 0)) h) h e d
  have hFinish : v.finishHead h e d ⟨0, false, false, cyc, a, b⟩
      = (((v.engPop h e).bump (statusCounter (s.lateStatus d 0)) h).engSlack h e d).hwSend (64 * h + 16 + e) (256 * h + dReply d)
          (completionMsg d ⟨s.lateStatus d 0, false, false, cyc, a, b⟩
            (((v.engPop h e).bump (statusCounter (s.lateStatus d 0)) h).engSlack h e d).now) := by
    rw [State.finishHead, State.finish]
    dsimp only
    rw [hLate, State.countStatus_ok _ _ hSt]
  generalize ((v.engPop h e).bump (statusCounter (s.lateStatus d 0)) h).engSlack h e d = y at hSlack hFinish
  have hSch : y.sch h = { s.sch h with engq := tabSet [] (s.sch h).engq (0xF0 + e) ((tabGet [] (s.sch h).engq (0xF0 + e)).drop 1) } := by
    rw [hSlack.side.sch, State.sch_bump, State.engPop, State.sch_setSch_same, hWork.sch]
  have hQueue : y.queue (256 * h + dReply d) = s.queue (256 * h + dReply d) := by
    rw [State.queue, hHall, hSch, State.queue, hHall]
  have hNow : y.now = s.now := by
    rw [hSlack.side.now, State.now_bump _ _ (by rcases hSt with h | h <;> rw [h] <;> decide) (by rcases hSt with h | h <;> rw [h] <;> decide)]
    exact hWork.now
  obtain ⟨hLt, hTag, hOp, hStatus, hTime⟩ := completionMsg_fields d cyc a b (st := s.lateStatus d 0) (by omega) s.now
  rw [hNow, State.hwSend_enters (by rw [hHall, hSch]; exact hHeld) (by rw [hLocal]; exact hPlain) (by rw [hQueue]; exact hOn)
    (by rw [hQueue]; exact hRecv) (by rw [hQueue]; exact hSpace) (by rw [hQueue]; exact hNotify)] at hFinish
  rw [hFinish]
  rw [← hQueue] at hRecv hSend
  obtain ⟨hTd, hSlots, -⟩ := State.downlink_enqueue (m := completionMsg d ⟨s.lateStatus d 0, false, false, cyc, a, b⟩ s.now) hRecv hSend
  have hMsg := State.memNat_enqueue hRecv hSend hLt
  rw [State.ringTail, hHall, hQueue] at hMsg
  refine ⟨?_, ⟨⟨?_, ?_⟩, ?_⟩, hTd.trans hSlack.td, hSlots.trans hSlack.slots⟩
  · rw [popped, State.engq_enqueue hRecv hSend, hSch, tabGet_tabSet_same]
  · rw [State.queue_enqueue, hQueue]
  · rw [hMsg]
    exact ⟨hTag, hOp, hStatus, hTime⟩
  · rw [State.obj_enqueue hRecv hSend _ (by rcases hSt with h | h <;> rw [h] <;> decide) (by rcases hSt with h | h <;> rw [h] <;> decide),
      hSlack.side.objs _ _ (statusCounter_own hSt), State.obj_bump]
    have hCount : (v.engPop h e).obj (statusCounter (s.lateStatus d 0)) h = s.obj (statusCounter (s.lateStatus d 0)) h :=
      hWork.objs _ _ (statusCounter_own hSt)
    rw [hCount]

/-- An engine that is up and idle acts on the descriptor at the head of its queue. -/
theorem State.takeHead_acts {r : EngRun} {ops : List Nat} {f : EngRun → State → State} (hTakes : engTakes s h e r)
    (hQueue : (engineOps e).contains (dOp r.desc) = true) (hOps : ops.contains (dOp r.desc) = true) : s.takeHead h e ops f = f r s := by
  obtain ⟨off, desc, stamp, start⟩ := r
  obtain ⟨hUp, hIdle, hStart, hDesc, hClean, m, hHead, hOk, hOff⟩ := hTakes
  dsimp only at hStart hDesc hClean hHead hOff hQueue hOps
  rw [hOff] at hDesc hClean
  simp only [State.takeHead, hUp, hIdle, hHead, hOk, hClean, ← hDesc, hQueue, hOps, Bool.not_true, Bool.false_eq_true, if_false, if_true]
  rw [hOff, hStart]

end

end Sys2Proof.Machine
end

section
/-! SUPPORT. BUILD, SHAPE, the tail alone and the release of a mask (R250, R261, R263 to R269). -/

namespace Sys2Proof.Machine

/-! ### BUILD -/

theorem le_foldl_max {l : List Nat} {k : Nat} (hk : k ∈ l) (a : Nat) : k ≤ l.foldl max a := by
  induction l generalizing a with
  | nil => simp at hk
  | cons x l ih =>
    rw [List.foldl_cons]
    rcases List.mem_cons.mp hk with rfl | hk
    · clear hk ih
      induction l generalizing a with
      | nil => exact le_max_right a k
      | cons y l ih => simpa only [List.foldl_cons, max_right_comm] using ih (max a y)
    · exact ih hk _

/-- A slot's record covers what was built last. -/
theorem State.dlSlot_markBuilt (s : State) (c : Nat) (S : Int) (next : Nat) :
    ∃ x, (s.markBuilt c S next).dlSlot c S = some x ∧ next ≤ x.next := by
  unfold State.dlSlot State.markBuilt
  dsimp only
  rw [List.find?_cons_of_pos (by simp)]
  exact ⟨_, rfl, le_max_right _ _⟩

theorem State.sideWork.markBuilt (s : State) (c : Nat) (S : Int) (next : Nat) : s.sideWork (s.markBuilt c S next) :=
  ⟨rfl, rfl, rfl, rfl, rfl, fun _ _ _ => rfl⟩

theorem State.dlSlot_congr {s t : State} (h : t.dlSlots = s.dlSlots) (c : Nat) (S : Int) : t.dlSlot c S = s.dlSlot c S := by
  rw [State.dlSlot, State.dlSlot, h]

/-- The symbols of a BUILD that are not too late. -/
def State.symbolsInTime (s : State) (d : Nat) : List Nat :=
  (maskList 14 (bdSyms d)).filter (fun k => decide (s.now < s.symbolStart (dCarrier d) (s.descSlot d) k
    - s.objAt (s.slotStart (dCarrier d) (s.descSlot d)) .dlUpWinClose (dCarrier d)))

theorem State.mem_symbolsInTime {s : State} {d k : Nat} (hk : k < 14) (hSym : bitAt (bdSyms d) k = true)
    (hTime : s.now < s.symbolStart (dCarrier d) (s.descSlot d) k
      - s.objAt (s.slotStart (dCarrier d) (s.descSlot d)) .dlUpWinClose (dCarrier d)) : k ∈ s.symbolsInTime d := by
  simp [State.symbolsInTime, maskList, hk, hSym, hTime]

/-- The symbols built end with the last of them. -/
def lastBuilt (l : List Nat) : Nat := if l = [] then 0 else l.foldl max 0 + 1

theorem lt_lastBuilt {l : List Nat} {k : Nat} (hk : k ∈ l) : k < lastBuilt l := by
  have hSome : l ≠ [] := List.ne_nil_of_mem hk
  rw [lastBuilt, if_neg hSome]
  exact Nat.lt_succ_of_le (le_foldl_max hk 0)

section
variable {s : State} {h : Fin 16} {r : EngRun} (hRoom : replyRoom s h r.desc)
include hRoom

/-- A BUILD into a time-domain grid. -/
theorem execBuild_grid (hTakes : engTakes s h 9 r) (hOp : dOp r.desc = 0xD) (hOk : s.buildOk h r.desc = true)
    (hTd : bdTd r.desc = true) :
    ∃ t, exec (.build h) s = .next t ∧ popped s t h 9 ∧ replied s t h r.desc (s.lateStatus r.desc 0) ∧ t.dlSlots = s.dlSlots := by
  have hCounted : ∀ i j k, s.engineWork (((s.bumpBy .dlReOverwrites h i).bumpBy .dlClips h j).bumpBy .dlNoMap h k) := fun i j k =>
    ((State.engineWork.bumpBy s _ _ (by decide)).trans (.bumpBy _ _ _ (by decide))).trans (.bumpBy _ _ _ (by decide))
  refine ⟨_, congrArg Host.Outcome.next (State.takeHead_acts hTakes (by rw [hOp]; decide) (by rw [hOp]; decide)), ?_⟩
  simp only [State.buildTaken, hOk, hTd, Bool.not_true, Bool.false_eq_true, if_false, if_true]
  have hWork := fun i j k g ts cyc => ((hCounted i j k).trans (.writeGrid _ h r.desc g ts)).trans (.writeBack _ h r.off cyc)
  obtain ⟨hPopped, hReplied, -, hSlots⟩ := State.finishHead_reports (e := 9) (a := 0) (b := 0) (hWork _ _ _ _ _ _).side hRoom
  exact ⟨hPopped, hReplied, hSlots.trans (hWork _ _ _ _ _ _).slots⟩

omit hRoom in
/-- A BUILD whose frames are sent. -/
theorem State.buildTaken_sent (hOk : s.buildOk h r.desc = true) (hTd : bdTd r.desc = false) (hEmpty : (s.fs (dCarrier r.desc)).used = 0) :
    ∃ w cyc a b, s.engineWork w ∧ s.buildTaken h r
      = (((w.markBuilt (dCarrier r.desc) (s.descSlot r.desc) (lastBuilt (s.symbolsInTime r.desc))).freeUsed).writeBack h r.off
          cyc).finishHead h 9 r.desc ⟨0, false, false, cyc, a, b⟩ := by
  have hFits : ∀ l, s.fsRoom (dCarrier r.desc) l = true := fun l => by simp [State.fsRoom, hEmpty]
  have hCounted : ∀ i j k, s.engineWork (((s.bumpBy .dlReOverwrites h i).bumpBy .dlClips h j).bumpBy .dlNoMap h k) := fun i j k =>
    ((State.engineWork.bumpBy s _ _ (by decide)).trans (.bumpBy _ _ _ (by decide))).trans (.bumpBy _ _ _ (by decide))
  have hWork := fun i j k g syms ts lost l => (((hCounted i j k).trans (.buildFrames _ h r.desc g syms ts)).trans
    (.addMissed _ h (dCarrier r.desc) (s.descSlot r.desc) lost)).trans (.handAll _ h (dCarrier r.desc) (s.descSlot r.desc) l)
  have hTaken := State.buildTaken.eq_1 s h r
  simp only [hOk, hTd, hFits, Bool.not_true, Bool.false_eq_true, if_false] at hTaken
  exact ⟨_, _, _, _, hWork _ _ _ _ _ _ _ _, hTaken⟩

/-- A BUILD whose frames are sent is reported, and its symbols marked. -/
theorem execBuild_frames (hTakes : engTakes s h 9 r) (hOp : dOp r.desc = 0xD) (hOk : s.buildOk h r.desc = true)
    (hTd : bdTd r.desc = false) (hEmpty : (s.fs (dCarrier r.desc)).used = 0) :
    ∃ t, exec (.build h) s = .next t ∧ popped s t h 9 ∧ replied s t h r.desc (s.lateStatus r.desc 0)
      ∧ ∃ x, t.dlSlot (dCarrier r.desc) (s.descSlot r.desc) = some x ∧ ∀ k ∈ s.symbolsInTime r.desc, k < x.next := by
  obtain ⟨w, cyc, a, b, hWork, hTaken⟩ := State.buildTaken_sent hOk hTd hEmpty
  have hTail : State.engineWork (w.markBuilt (dCarrier r.desc) (s.descSlot r.desc) (lastBuilt (s.symbolsInTime r.desc))) _ :=
    (State.engineWork.freeUsed _).trans (.writeBack _ h r.off cyc)
  obtain ⟨hPopped, hReplied, -, hSlots⟩ := State.finishHead_reports (e := 9) (cyc := cyc) (a := a) (b := b)
    ((hWork.side.trans (.markBuilt w _ _ _)).trans hTail.side) hRoom
  obtain ⟨x, hSlot, hNext⟩ := w.dlSlot_markBuilt (dCarrier r.desc) (s.descSlot r.desc) (lastBuilt (s.symbolsInTime r.desc))
  refine ⟨_, congrArg Host.Outcome.next (State.takeHead_acts hTakes (by rw [hOp]; decide) (by rw [hOp]; decide)), ?_⟩
  rw [hTaken]
  exact ⟨hPopped, hReplied, x, (State.dlSlot_congr (hSlots.trans hTail.slots) _ _).trans hSlot,
    fun k hk => lt_of_lt_of_le (lt_lastBuilt hk) hNext⟩

end

/-! ### SHAPE -/

/-- Streams written one by one: each holds what was written to it. -/
theorem State.tdSt_foldl_setTd {α : Type} (c : Nat) (f : α → Nat) (g : State → α → TdSt) (P : TdSt → Prop) (hg : ∀ s x, P (g s x))
    (l : List α) (s : State) {n : Nat} (hn : (∃ x ∈ l, f x = n) ∨ P (s.tdSt c n)) :
    P ((l.foldl (fun (s : State) x => s.setTd c (f x) (g s x)) s).tdSt c n) := by
  induction l generalizing s with
  | nil =>
    rcases hn with ⟨x, hx, -⟩ | hn
    · simp at hx
    · exact hn
  | cons x l ih =>
    refine ih _ ?_
    by_cases hHere : n = f x
    · rw [State.tdSt_setTd, if_pos hHere]
      exact .inr (hg s x)
    · rw [State.tdSt_setTd, if_neg hHere]
      rcases hn with ⟨y, hy, rfl⟩ | hn
      · rcases List.mem_cons.mp hy with rfl | hy
        · exact absurd rfl hHere
        · exact .inl ⟨y, hy, rfl⟩
      · exact .inr hn

/-- The streams of a SHAPE with a map entry, each shaped. -/
def State.shapedStreams (s : State) (h d : Nat) : List (Nat × Nat × Shaped) :=
  (List.range (spStreams d)).filterMap (fun t => (s.txEntry (dCarrier d) t (s.descSlot d)).map (fun x => (t, x, s.shapeStream h d t)))

theorem State.mem_shapedStreams {s : State} {d n : Nat} (h : Nat) (hn : n < spStreams d)
    (hEntry : (s.txEntry (dCarrier d) n (s.descSlot d)).isSome = true) : ∃ p ∈ s.shapedStreams h d, p.1 = n := by
  obtain ⟨x, hx⟩ := Option.isSome_iff_exists.mp hEntry
  refine ⟨(n, x, s.shapeStream h d n), List.mem_filterMap.mpr ⟨n, List.mem_range.mpr hn, ?_⟩, rfl⟩
  rw [hx]
  rfl

/-- What a SHAPE keeps of a stream for the slots after it (R267). -/
def State.afterShape (s : State) (d : Nat) (S : Int) (p : Nat × Nat × Shaped) : TdSt :=
  { s.tdSt (dCarrier d) p.1 with
    carry := some S, tail := p.2.2.tail, hist := p.2.2.hist, par := d
    shaped := s.noteSlot (dCarrier d) S (s.tdSt (dCarrier d) p.1).shaped
    lead := spWola d / 2 * spInterp d
    leadNs := ((spWola d / 2 * spInterp d : Nat) : Int) * 1000000000 / (s.tdRate (dCarrier d) d : Int) }

theorem State.mem_noteSlot (s : State) (c : Nat) (S : Int) (l : List Int) : S ∈ s.noteSlot c S l := List.mem_cons_self

section
variable {s : State} {h : Fin 16} {r : EngRun}

theorem State.shapeTaken_sent (hOk : s.shapeOk r.desc = true) (hFirst : s.fftFirst h r.stamp = false)
    (hEmpty : (s.fs (dCarrier r.desc)).used = 0) :
    ∃ w cyc a b, s.sideWork w ∧ s.shapeTaken h r
      = (((s.shapedStreams h r.desc).foldl (fun (t : State) p => t.setTd (dCarrier r.desc) p.1 (t.afterShape r.desc (s.descSlot r.desc) p))
          w).writeBack h r.off cyc).finishHead h 10 r.desc ⟨0, false, false, cyc, a, b⟩ := by
  have hFits : ∀ l, s.fsRoom (dCarrier r.desc) l = true := fun l => by simp [State.fsRoom, hEmpty]
  have hMeasured : ∀ l : List (Nat × Nat × Shaped), s.sideWork (l.foldl (fun (a : State × Nat) p =>
      (maskList 14 (spSyms r.desc)).foldl (fun (a : State × Nat) k =>
        ((a.1.shapeSymbol h r.desc p.1 k p.2.2.samples).1, a.2 + (a.1.shapeSymbol h r.desc p.1 k p.2.2.samples).2)) a)
      (s.freeUsed, 0)).1 := fun l => by
    refine (State.engineWork.freeUsed s).side.trans (State.sideWork.foldl_fst (fun p q => ?_) l (s.freeUsed, 0))
    refine State.sideWork.foldl_fst (fun a k => ?_) _ p
    exact .shapeSymbol a.1 h r.desc q.1 k q.2.2.samples
  have hWork := fun l fs n k => ((hMeasured l).trans ((State.engineWork.shapeFrames _ r.desc fs).trans
    (.bumpBy _ h n (o := .tdClipSamples) (by decide))).side).trans
      (State.engineWork.handAll _ h (dCarrier r.desc) (s.descSlot r.desc) k).side
  have hTaken := State.shapeTaken.eq_1 s h r
  simp only [hOk, hFirst, hFits, Bool.not_true, Bool.false_eq_true, if_false] at hTaken
  exact ⟨_, _, _, _, hWork _ _ _ _, hTaken⟩

/-- A SHAPE is reported, and its streams carry over as its slot's. -/
theorem execShape_sent (hRoom : replyRoom s h r.desc) (hTakes : engTakes s h 10 r) (hOp : dOp r.desc = 0xE)
    (hOk : s.shapeOk r.desc = true) (hFirst : s.fftFirst h r.stamp = false) (hEmpty : (s.fs (dCarrier r.desc)).used = 0) :
    ∃ t, exec (.shape h) s = .next t ∧ popped s t h 10 ∧ replied s t h r.desc (s.lateStatus r.desc 0)
      ∧ ∀ n, n < spStreams r.desc → (s.txEntry (dCarrier r.desc) n (s.descSlot r.desc)).isSome →
        (t.tdSt (dCarrier r.desc) n).carry = some (s.descSlot r.desc) ∧ s.descSlot r.desc ∈ (t.tdSt (dCarrier r.desc) n).shaped := by
  obtain ⟨w, cyc, a, b, hWork, hTaken⟩ := State.shapeTaken_sent hOk hFirst hEmpty
  have hStored : w.sideWork ((s.shapedStreams h r.desc).foldl (fun (t : State) p =>
      t.setTd (dCarrier r.desc) p.1 (t.afterShape r.desc (s.descSlot r.desc) p)) w) := .foldl (fun t _ => .setTd t _ _ _) _ w
  have hShaped := fun n => State.tdSt_foldl_setTd (n := n) (dCarrier r.desc) (fun p : Nat × Nat × Shaped => p.1)
    (fun t p => t.afterShape r.desc (s.descSlot r.desc) p)
    (fun x => x.carry = some (s.descSlot r.desc) ∧ s.descSlot r.desc ∈ x.shaped) (fun t _ => ⟨rfl, t.mem_noteSlot _ _ _⟩)
    (s.shapedStreams h r.desc) w
  generalize (s.shapedStreams h r.desc).foldl (fun (t : State) p =>
    t.setTd (dCarrier r.desc) p.1 (t.afterShape r.desc (s.descSlot r.desc) p)) w = v at hTaken hStored hShaped
  have hTail := State.engineWork.writeBack v h r.off cyc
  obtain ⟨hPopped, hReplied, hTd, -⟩ := State.finishHead_reports (e := 10) (cyc := cyc) (a := a) (b := b)
    ((hWork.trans hStored).trans hTail.side) hRoom
  refine ⟨_, congrArg Host.Outcome.next (State.takeHead_acts hTakes (by rw [hOp]; decide) (by rw [hOp]; decide)), ?_⟩
  rw [hTaken]
  refine ⟨hPopped, hReplied, fun n hn hEntry => ?_⟩
  rw [State.tdSt, hTd, hTail.td, ← State.tdSt]
  exact hShaped n (.inl (State.mem_shapedStreams h hn hEntry))

end

end Sys2Proof.Machine
end

section
/-! SUPPORT. The tail of a slot without SHAPE, and the release of a mask (R267, R269). -/

namespace Sys2Proof.Machine

/-! ### What the times and streams of a slot depend on -/

/-- The objects that a slot's times and its tail's deadline are read from. -/
def slotObjs : List Obj := [.stageState, .timeSfnOffset, .carrierHall, .timeSec, .timeNs, .tdAdvance, .dlHandoverGuard]

/-- From one state to the other a slot has the same times and map entries. -/
structure State.sameSlots (s t : State) : Prop where
  carriers : t.carriers = s.carriers
  staged : t.staged = s.staged
  stageLog : t.stageLog = s.stageLog
  txMaps : t.txMaps = s.txMaps
  objs : ∀ o n, o ∈ slotObjs → t.obj o n = s.obj o n

theorem State.sideWork.sameSlots {s t : State} (h : s.sideWork t) : s.sameSlots t :=
  ⟨h.carriers, h.staged, h.stageLog, h.txMaps, fun o n ho => h.objs o n (by
    have hApart : ∀ o ∈ slotObjs, o ∉ sideObjs := by decide
    exact hApart o ho)⟩

theorem State.sameSlots_bump (s : State) {o : Obj} (n : Nat) (ho : o ∉ slotObjs) : s.sameSlots (s.bump o n) :=
  ⟨rfl, rfl, rfl, rfl, fun _ m hp => State.obj_bump_of_ne s n m fun h => ho (h ▸ hp)⟩

namespace State.sameSlots
variable {s t u : State} (h : s.sameSlots t)

theorem trans (h : s.sameSlots t) (k : t.sameSlots u) : s.sameSlots u :=
  ⟨k.carriers.trans h.carriers, k.staged.trans h.staged, k.stageLog.trans h.stageLog, k.txMaps.trans h.txMaps,
    fun o n ho => (k.objs o n ho).trans (h.objs o n ho)⟩

include h

theorem now : t.now = s.now := by
  rw [State.now, State.now, h.objs _ _ (by decide), h.objs _ _ (by decide)]

theorem slotStart (c : Nat) (S : Int) : t.slotStart c S = s.slotStart c S := by
  have hState := fun n => h.objs .stageState n (by decide)
  have hOffset := fun n => h.objs .timeSfnOffset n (by decide)
  have hHall := fun n => h.objs .carrierHall n (by decide)
  have hSfn : t.sfnOffset c = s.sfnOffset c := by simp only [State.sfnOffset, hState, hOffset, hHall, h.staged]
  have hCarrier : t.carrier c = s.carrier c := by simp only [State.carrier, h.carriers]
  rw [State.slotStart, State.symbolStart, State.slotsPerSubframe, State.symbolsPerSlot, hCarrier, hSfn]
  rfl

theorem objAt (T : Int) {o : Obj} (ho : o ∈ slotObjs) (n : Nat) : t.objAt T o n = s.objAt T o n := by
  have hArmed : ∀ k x, t.armedBy k x T = s.armedBy k x T := fun k x => by
    rw [State.armedBy, State.armedBy, h.objs .stageState k (by decide)]
  have hStaged : t.stagedFor StageSt.vals T (objKey o n) = s.stagedFor StageSt.vals T (objKey o n) := by
    rw [State.stagedFor, State.stagedFor, h.staged]
    simp only [hArmed]
  rw [State.objAt, State.objAt, hStaged, h.stageLog, h.objs o n ho]

theorem tdStreams (c : Nat) (S : Int) : t.tdStreams c S = s.tdStreams c S := by
  simp only [State.tdStreams, State.txEntry, State.txMapFor, h.slotStart, h.txMaps]

end State.sameSlots

/-! ### TD_TAIL_ALONE -/

/-- The streams of a slot without SHAPE whose handover deadline has come. -/
def State.tailsDue (s : State) (c : Nat) (S : Int) : List (Nat × Nat) :=
  (s.tdStreams c S).filter (fun p => !(s.tdSt c p.1).shaped.contains S && !(s.tdSt c p.1).alone.contains S
    && decide (s.slotStart c S - (s.tdSt c p.1).leadNs - s.objAt (s.slotStart c S) .tdAdvance c
        - s.objAt (s.slotStart c S) .dlHandoverGuard c ≤ s.now))

/-- Frame 0 of a stream built from its carry and handed over. -/
def State.sendTail (T : Int) (h per c : Nat) (S : Int) (s : State) (p : Nat × Nat) : State :=
  let x := s.tdSt c p.1
  let q := s.freeUsed.tdFrame T c p.1 p.2 (s.tailSamples c p.1 S per) (s.slotStart c S - x.leadNs)
  ((q.1.setTd c p.1 { x with alone := s.noteSlot c S x.alone }).handAll h c S [q.2]).1

theorem execTdTailAlone_eq (c : Fin 768) (S : Int) (s : State) : execTdTailAlone c S s
    = .next (if s.tailsDue c S = [] then s
        else (s.tailsDue c S).foldl (State.sendTail (s.slotStart c S) (s.hallAt (s.slotStart c S) c)
          (s.objAt (s.slotStart c S) .tdFrameSamples c).toNat c S) (s.bump .tdTailAlone (s.hallAt (s.slotStart c S) c))) := rfl

section
variable (T : Int) (h per c : Nat) (S : Int)

theorem State.sideWork_sendTail (s : State) (p : Nat × Nat) : s.sideWork (State.sendTail T h per c S s p) :=
  ((State.engineWork.freeUsed s).trans (.tdFrame _ T c p.1 p.2 _ _)).side.trans
    ((State.sideWork.setTd _ c p.1 _).trans (State.engineWork.handAll _ h c S _).side)

/-- The stream sent is noted; the others stay. -/
theorem State.tdSt_sendTail (s : State) (p : Nat × Nat) (n : Nat) : (State.sendTail T h per c S s p).tdSt c n
    = if n = p.1 then { s.tdSt c p.1 with alone := s.noteSlot c S (s.tdSt c p.1).alone } else s.tdSt c n := by
  have hFrame : ∀ l first m, ((s.freeUsed.tdFrame T c p.1 p.2 l first).1).tdSt c m = s.tdSt c m := fun l first m => by
    rw [State.tdSt, ((State.engineWork.freeUsed s).trans (.tdFrame _ T c p.1 p.2 l first)).td, ← State.tdSt]
  rw [State.sendTail]
  dsimp only
  rw [State.tdSt, (State.engineWork.handAll _ h c S _).td, ← State.tdSt, State.tdSt_setTd, hFrame]

/-- From one state to the other a stream has the same SHAPEs and lead, and no tail of the slot was forgotten. -/
def tailsKept (s t : State) : Prop :=
  ∀ n, (t.tdSt c n).shaped = (s.tdSt c n).shaped ∧ (t.tdSt c n).leadNs = (s.tdSt c n).leadNs
    ∧ (S ∈ (s.tdSt c n).alone → S ∈ (t.tdSt c n).alone)

theorem tailsKept_sendTail (s : State) (p : Nat × Nat) : tailsKept c S s (State.sendTail T h per c S s p) := fun n => by
  rw [State.tdSt_sendTail]
  split
  next hHere =>
    rw [hHere]
    exact ⟨rfl, rfl, fun _ => s.mem_noteSlot c S _⟩
  next => exact ⟨rfl, rfl, id⟩

/-- The tails sent one by one: each is noted. -/
theorem State.foldl_sendTail (l : List (Nat × Nat)) (s : State) :
    s.sideWork (l.foldl (State.sendTail T h per c S) s) ∧ tailsKept c S s (l.foldl (State.sendTail T h per c S) s)
      ∧ ∀ p ∈ l, S ∈ ((l.foldl (State.sendTail T h per c S) s).tdSt c p.1).alone := by
  induction l generalizing s with
  | nil => exact ⟨.refl s, fun _ => ⟨rfl, rfl, id⟩, by simp⟩
  | cons p l ih =>
    obtain ⟨hWork, hKept, hNoted⟩ := ih (State.sendTail T h per c S s p)
    have hStep := tailsKept_sendTail T h per c S s p
    have hSent := State.sideWork_sendTail T h per c S s p
    rw [List.foldl_cons]
    have hFirst : S ∈ ((State.sendTail T h per c S s p).tdSt c p.1).alone := by
      rw [State.tdSt_sendTail, if_pos rfl]
      exact s.mem_noteSlot c S _
    generalize State.sendTail T h per c S s p = u at *
    refine ⟨hSent.trans hWork, fun n => ?_, fun q hq => ?_⟩
    · obtain ⟨hShaped, hLead, hAlone⟩ := hKept n
      obtain ⟨hShaped', hLead', hAlone'⟩ := hStep n
      exact ⟨hShaped.trans hShaped', hLead.trans hLead', hAlone ∘ hAlone'⟩
    · rcases List.mem_cons.mp hq with rfl | hq
      · exact (hKept q.1).2.2 hFirst
      · exact hNoted q hq

end

/-- After the tails due are sent none is due. -/
theorem State.tailsDue_none {s t : State} {c : Nat} {S : Int} (hSlots : s.sameSlots t) (hKept : tailsKept c S s t)
    (hNoted : ∀ p ∈ s.tailsDue c S, S ∈ (t.tdSt c p.1).alone) : t.tailsDue c S = [] := by
  refine List.filter_eq_nil_iff.mpr fun p hp hDue => ?_
  rw [hSlots.tdStreams] at hp
  obtain ⟨hShaped, hLead, hAlone⟩ := hKept p.1
  rw [hShaped, hLead, hSlots.now, hSlots.slotStart, hSlots.objAt _ (by decide), hSlots.objAt _ (by decide)] at hDue
  simp only [Bool.and_eq_true, Bool.not_eq_true', List.contains_eq_mem, decide_eq_false_iff_not] at hDue
  obtain ⟨⟨hNoShape, hNotAlone⟩, hTime⟩ := hDue
  refine hNotAlone (hNoted p (List.mem_filter.mpr ⟨hp, ?_⟩))
  simp only [Bool.and_eq_true, Bool.not_eq_true', List.contains_eq_mem, decide_eq_false_iff_not]
  exact ⟨⟨hNoShape, fun h => hNotAlone (hAlone h)⟩, hTime⟩

theorem execTdTailAlone_once {s : State} {c : Fin 768} {S : Int} {n x : Nat} (hStream : (n, x) ∈ s.tdStreams c S)
    (hShape : S ∉ (s.tdSt c n).shaped) (hTail : S ∉ (s.tdSt c n).alone)
    (hDue : s.slotStart c S - (s.tdSt c n).leadNs - s.objAt (s.slotStart c S) .tdAdvance c
      - s.objAt (s.slotStart c S) .dlHandoverGuard c ≤ s.now) :
    ∃ t, exec (.tdTailAlone c S) s = .next t ∧ S ∈ (t.tdSt c n).alone
      ∧ t.obj .tdTailAlone (s.hallAt (s.slotStart c S) c) = (s.obj .tdTailAlone (s.hallAt (s.slotStart c S) c) + 1) % 4294967296
      ∧ exec (.tdTailAlone c S) t = .next t := by
  have hMem : (n, x) ∈ s.tailsDue c S := List.mem_filter.mpr ⟨hStream, by simp [hShape, hTail, hDue]⟩
  obtain ⟨hWork, hKept, hNoted⟩ := State.foldl_sendTail (s.slotStart c S) (s.hallAt (s.slotStart c S) c)
    (s.objAt (s.slotStart c S) .tdFrameSamples c).toNat c S (s.tailsDue c S) (s.bump .tdTailAlone (s.hallAt (s.slotStart c S) c))
  have hExec := execTdTailAlone_eq c S s
  rw [if_neg (List.ne_nil_of_mem hMem)] at hExec
  refine ⟨_, hExec, hNoted _ hMem, ?_, ?_⟩
  · rw [hWork.objs _ _ (by decide), State.obj_bump]
  · rw [exec_tdTailAlone, execTdTailAlone_eq, if_pos (State.tailsDue_none ((s.sameSlots_bump _ (by decide)).trans hWork.sameSlots) hKept hNoted)]

end Sys2Proof.Machine
end

section
/-! SUPPORT. The write of `TD_MASK_UNMUTE` (R269). -/

namespace Sys2Proof.Machine

/-- A stream of NORMAL state. -/
def TdSt.normal (x : TdSt) : TdSt := { x with mask := 0, fails := 0, passes := 0 }

/-- The first `k` streams of a carrier return to NORMAL, one by one. -/
def State.unmuted (s : State) (c k : Nat) : State :=
  (List.range k).foldl (fun (s : State) t => s.setTd c t (s.tdSt c t).normal) s

namespace State
variable (s : State) (c k : Nat)

theorem unmuted_succ : s.unmuted c (k + 1) = (s.unmuted c k).setTd c k ((s.unmuted c k).tdSt c k).normal := by
  rw [unmuted, List.range_succ, List.foldl_append]
  rfl

theorem setTd_frame (t : Nat) (x : TdSt) : s.setTd c t x = { s with objs := (s.setTd c t x).objs, td := (s.setTd c t x).td } := rfl

theorem unmuted_frame : s.unmuted c k = { s with objs := (s.unmuted c k).objs, td := (s.unmuted c k).td } := by
  induction k with
  | zero => rfl
  | succ k ih => rw [unmuted_succ, setTd_frame, ih]

theorem tdSt_unmuted (n : Nat) : (s.unmuted c k).tdSt c n = if n < k then (s.tdSt c n).normal else s.tdSt c n := by
  induction k with
  | zero => rfl
  | succ k ih =>
    rw [unmuted_succ, tdSt_setTd, ih]
    by_cases hHere : n = k
    · subst hHere
      rw [if_pos rfl, if_pos (Nat.lt_succ_self n), ih, if_neg (Nat.lt_irrefl n)]
    · rw [if_neg hHere]
      exact if_congr (by omega) rfl rfl

theorem sameObjsBut_unmuted : s.sameObjsBut (s.unmuted c k) [(.tdMaskState, c)] := by
  induction k with
  | zero => exact .refl s _
  | succ k ih =>
    rw [unmuted_succ, setTd]
    exact .setObj (.congr ih rfl) _ (by simp)

theorem maskState_setTd (t : Nat) (x : TdSt) : (s.setTd c t x).obj .tdMaskState c
    = (((List.range 8).map (fun i => ((s.setTd c t x).tdSt c i).mask * 4 ^ i)).sum : Nat) := obj_setObj_same _ _ _ _

/-- Once every stream is NORMAL `TD_MASK_STATE` is 0. -/
theorem maskState_unmuted : (s.unmuted c 8).obj .tdMaskState c = 0 := by
  have hNormal : ∀ i ∈ List.range 8, ((s.unmuted c 8).tdSt c i).mask * 4 ^ i = 0 := fun i hi => by
    rw [tdSt_unmuted, if_pos (List.mem_range.mp hi), TdSt.normal, Nat.zero_mul]
  rw [unmuted_succ] at hNormal ⊢
  rw [maskState_setTd, List.map_congr_left hNormal]
  rfl

end State

theorem State.acceptAt_streams {s t : State} {a : Accessor} (addr : Nat) (v : Int)
    (h : ∃ os x, t = { s with objs := os, td := x }) :
    t.acceptAt a addr v
      = { s with objs := (t.acceptAt a addr v).objs, td := (t.acceptAt a addr v).td, unacked := (t.acceptAt a addr v).unacked } := by
  obtain ⟨os, x, rfl⟩ := h
  rw [State.acceptAt_frame]

/-- Counting the access before the streams return changes the objects alone. -/
theorem State.counted_unmuted_frame (s : State) (a : Accessor) (c : Nat) :
    ∃ os x, (s.countAccess a).unmuted c 8 = { s with objs := os, td := x } := by
  have hFrame := State.unmuted_frame (s.countAccess a) c 8
  generalize (s.countAccess a).unmuted c 8 = u at hFrame
  exact ⟨u.objs, u.td, hFrame⟩

theorem execTdMaskUnmute_ok {s : State} {a : Accessor} {c : Fin 768} {v : Nat} (hw : s.writable a .tdMaskUnmute c v) :
    exec (.tdMaskUnmute a c v) s = .next (((s.countAccess a).unmuted c 8).acceptAt a (objAddr .tdMaskUnmute c) v) := by
  rw [exec_tdMaskUnmute, execTdMaskUnmute, State.dictWrite_ok _ hw rfl]
  rfl

theorem execTdMaskUnmute_normal {s : State} {a : Accessor} {c : Fin 768} {v : Nat} (hw : s.writable a .tdMaskUnmute c v) :
    ∃ t, exec (.tdMaskUnmute a c v) s = .next t
      ∧ (∀ n, n < 8 → t.tdSt c n = { s.tdSt c n with mask := 0, fails := 0, passes := 0 })
      ∧ t.obj .tdMaskState c = 0
      ∧ t = { s with objs := t.objs, td := t.td, unacked := t.unacked }
      ∧ s.sameObjsBut t ((.tdMaskState, c.val) :: lodgeObjs a) := by
  have hCounted : s.sameObjsBut (s.countAccess a) ((.tdMaskState, c.val) :: lodgeObjs a) :=
    .bump (.refl s _) (by simp [lodgeObjs])
  have hUnmuted := (hCounted.trans ((State.sameObjsBut_unmuted (s.countAccess a) c 8).mono (by simp))).acceptAt (a := a)
    (objAddr .tdMaskUnmute c) v (by simp [lodgeObjs])
  refine ⟨_, execTdMaskUnmute_ok hw, fun n hn => ?_, ?_, ?_, hUnmuted⟩
  · rw [State.tdSt, State.td_acceptAt, ← State.tdSt, State.tdSt_unmuted, if_pos hn]
    rfl
  · rw [State.obj_acceptAt _ _ _ _ _ (by decide), State.maskState_unmuted]
  · exact State.acceptAt_streams _ _ (s.counted_unmuted_frame a c)

end Sys2Proof.Machine
end

section
/-! SUPPORT. What the Gallery does with a message leaves the downlink jobs (R143, R154). -/

namespace Sys2Proof.Machine

namespace State
variable (s : State)

@[simp] theorem dlJobs_store (a : Nat) (l : List Byte) : (s.store a l).dlJobs = s.dlJobs := by
  obtain ⟨_, _, _, _, _, _, h⟩ := s.store_frame a l
  rw [h]

@[simp] theorem dlJobs_setObj (o : Obj) (n : Nat) (v : Int) : (s.setObj o n v).dlJobs = s.dlJobs := rfl

@[simp] theorem dlJobs_bump (o : Obj) (n : Nat) : (s.bump o n).dlJobs = s.dlJobs := rfl

@[simp] theorem dlJobs_setSch (h : Nat) (x : SchedSt) : (s.setSch h x).dlJobs = s.dlJobs := rfl

@[simp] theorem dlJobs_setCore (c : Nat) (k : CoreSt) : (s.setCore c k).dlJobs = s.dlJobs := rfl

@[simp] theorem dlJobs_setTcb (g hi lo v : Nat) : (s.setTcb g hi lo v).dlJobs = s.dlJobs := by
  rw [setTcb, dlJobs_store]

@[simp] theorem dlJobs_relink (l : List Nat) : (s.relink l).dlJobs = s.dlJobs := by
  fun_induction State.relink s l with
  | case1 => rfl
  | case2 s g => rw [dlJobs_setTcb]
  | case3 s g g' r ih => rw [ih, dlJobs_setTcb]

@[simp] theorem dlJobs_schTraceRec (h kind core : Nat) (g : Option Nat) (arg : Nat) :
    (s.schTraceRec h kind core g arg).dlJobs = s.dlJobs := by
  unfold schTraceRec
  dsimp only
  split_ifs
  · rfl
  · rw [dlJobs_bump]
  · rw [dlJobs_setObj, dlJobs_setSch, dlJobs_store]

@[simp] theorem dlJobs_countThread (h st : Nat) (up : Bool) : (s.countThread h st up).dlJobs = s.dlJobs := by
  obtain ⟨_, hCount⟩ := s.countThread_frame h st up
  rw [hCount]

@[simp] theorem dlJobs_setTState (g st : Nat) : (s.setTState g st).dlJobs = s.dlJobs := by simp [setTState]

@[simp] theorem dlJobs_setReady (h p : Nat) (l : List Nat) : (s.setReady h p l).dlJobs = s.dlJobs := by simp [setReady]

@[simp] theorem dlJobs_readyTail (g : Nat) : (s.readyTail g).dlJobs = s.dlJobs := by simp [readyTail]

@[simp] theorem dlJobs_readyDrop (g : Nat) : (s.readyDrop g).dlJobs = s.dlJobs := by simp [readyDrop]

@[simp] theorem dlJobs_setQueue (q : Nat) (x : QueueSt) : (s.setQueue q x).dlJobs = s.dlJobs := by simp [setQueue]

@[simp] theorem dlJobs_loadContext (g c : Nat) : (s.loadContext g c).dlJobs = s.dlJobs := by
  obtain ⟨l, -, h⟩ := s.loadContext_eq g c
  rw [h]
  rfl

@[simp] theorem dlJobs_setThread (c : Nat) (g : Option Nat) : (s.setThread c g).dlJobs = s.dlJobs := rfl

@[simp] theorem dlJobs_setPre (c v : Nat) : (s.setPre c v).dlJobs = s.dlJobs := rfl

/-! ### Dispatch and wake -/

@[simp] theorem dlJobs_placed (c g : Nat) : (s.placed c g).dlJobs = s.dlJobs := by
  rw [placed, dlJobs_bump, dlJobs_loadContext, dlJobs_setThread, dlJobs_setTcb, dlJobs_setTState, dlJobs_readyDrop]

@[simp] theorem dlJobs_started (c : Nat) : (s.started c).dlJobs = s.dlJobs := by
  unfold started
  split
  · rw [dlJobs_setObj, dlJobs_setCore]
  · rw [dlJobs_setObj]

@[simp] theorem dlJobs_runThread (c g : Nat) : (s.runThread c g).dlJobs = s.dlJobs := by simp [runThread_eq]

@[simp] theorem dlJobs_dispatch (c : Nat) : (s.dispatch c).dlJobs = s.dlJobs := by
  unfold dispatch
  split
  · split
    · exact dlJobs_runThread _ _ _
    · rfl
  · rfl

/-- A fold of operations that keep the jobs keeps them. -/
theorem dlJobs_foldl {α : Type} {f : State → α → State} (hf : ∀ t x, (f t x).dlJobs = t.dlJobs) (l : List α) :
    (l.foldl f s).dlJobs = s.dlJobs := by
  induction l generalizing s with
  | nil => rfl
  | cons x l ih => exact (ih (f s x)).trans (hf s x)

@[simp] theorem dlJobs_dispatchHall (h : Nat) : (s.dispatchHall h).dlJobs = s.dlJobs :=
  dlJobs_foldl _ (fun t _ => dlJobs_dispatch t _) _

@[simp] theorem dlJobs_raiseInt (c code : Nat) : (s.raiseInt c code).dlJobs = s.dlJobs := by
  unfold raiseInt
  dsimp only
  split <;> rfl

@[simp] theorem dlJobs_raisePreempt (c g : Nat) : (s.raisePreempt c g).dlJobs = s.dlJobs := by
  unfold raisePreempt
  split
  · rfl
  · simp

@[simp] theorem dlJobs_preemptFor (g : Nat) : (s.preemptFor g).dlJobs = s.dlJobs := by
  unfold preemptFor
  split
  · split
    · exact dlJobs_raisePreempt _ _ _
    · rfl
  · rfl

@[simp] theorem dlJobs_settle (h : Nat) (new : List Nat) : (s.settle h new).dlJobs = s.dlJobs :=
  (dlJobs_foldl _ (fun t g => dlJobs_preemptFor t g) _).trans (dlJobs_dispatchHall s h)

@[simp] theorem dlJobs_endWait (g status : Nat) (msg : Option Nat) : (s.endWait g status msg).dlJobs = s.dlJobs := by
  cases msg <;> simp [endWait]

@[simp] theorem dlJobs_wake (g status : Nat) (msg : Option Nat) : (s.wake g status msg).dlJobs = s.dlJobs := by simp [wake]

/-! ### A message arrives -/

@[simp] theorem dlJobs_notify (q : Nat) : (s.notify q).dlJobs = s.dlJobs := by
  unfold notify
  dsimp only
  split
  · exact dlJobs_raiseInt _ _ _
  · rfl

@[simp] theorem dlJobs_enqueue (q m : Nat) : (s.enqueue q m).dlJobs = s.dlJobs := by simp [enqueue]

@[simp] theorem dlJobs_arriveMsg (q m : Nat) : (s.arriveMsg q m).dlJobs = s.dlJobs := by
  unfold arriveMsg
  dsimp only
  split <;> simp

@[simp] theorem dlJobs_pushEngine (q m : Nat) : (s.pushEngine q m).dlJobs = s.dlJobs := rfl

@[simp] theorem dlJobs_dropMsg (q : Nat) (g : Option Nat) : (s.dropMsg q g).dlJobs = s.dlJobs := by simp [dropMsg]

/-- Entered, dropped, held or lost, a message leaves the jobs. -/
@[simp] theorem dlJobs_hwSend (src q m : Nat) : (s.hwSend src q m).dlJobs = s.dlJobs := by
  unfold hwSend
  dsimp only
  split_ifs <;> simp

end State

end Sys2Proof.Machine
end

section
/-! SUPPORT. Build releases (R151, R152). -/

namespace Sys2Proof.Machine

section
variable {s : State} {c : Fin 768} {S : Int} {q : Nat}

theorem State.sfnOf_lt (s : State) (c : Nat) (S : Int) : s.sfnOf c S < 1024 := by
  rw [State.sfnOf]
  omega

theorem State.buildReleaseMsg_lt (s : State) (c : Fin 768) (S : Int) : s.buildReleaseMsg c S false < 2 ^ 128 := by
  have hStart := toField_lt 64 (s.slotStart c S)
  have hSfn := s.sfnOf_lt c S
  have hCarrier := c.isLt
  have hSlot : s.slotInFrame c S % 1024 < 1024 := Nat.mod_lt _ (by decide)
  rw [State.buildReleaseMsg, if_neg Bool.false_ne_true]
  generalize toField 64 (s.slotStart c S) = x at *
  generalize s.slotInFrame c S % 1024 = y at *
  generalize s.sfnOf c S = z at *
  omega

/-- The state without the slot's job. -/
def State.jobDropped (s : State) (c : Nat) (S : Int) : State :=
  { s with dlJobs := s.dlJobs.filter (fun p => decide (p ≠ (c, S))) }

/-- The Gallery's hardware sends the message to the carrier's build queue. -/
def State.releaseSent (s : State) (c : Nat) (S : Int) : State :=
  (s.jobDropped c S).hwSend (64 * s.hallAt (s.slotStart c S) c + 15)
    (256 * s.hallAt (s.slotStart c S) c + (s.objAt (s.slotStart c S) .carrierBuildQueue c).toNat) (s.buildReleaseMsg c S false)

theorem execCarrierBuildRelease_due (hHall : s.hallAt (s.slotStart c S) c ≠ 255) (hJob : s.dlJobs.contains (c.val, S) = true)
    (hActive : s.obj .pairRole 0 ≠ 2) (hTime : s.slotStart c S - s.objAt (s.slotStart c S) .carrierBuildOffset c ≤ s.now) :
    exec (.carrierBuildRelease c S) s = .next ((s.releaseSent c S).schTraceRec (s.hallAt (s.slotStart c S) c) 0x0F 15 none
      (traceArg 0x0F c)) := by
  rw [exec_carrierBuildRelease, execCarrierBuildRelease, if_pos ⟨hHall, hJob, hActive, hTime⟩, State.postBuildRelease]
  rfl

theorem State.dlJobs_releaseSent : (s.releaseSent c S).dlJobs = s.dlJobs.filter (fun p => decide (p ≠ (c.val, S))) := by
  rw [State.releaseSent, State.dlJobs_hwSend, State.jobDropped]

/-- To a queue of the hall that takes it the message enters the ring. -/
theorem State.releaseSent_enters (hQueue : s.objAt (s.slotStart c S) .carrierBuildQueue c < 240)
    (hq : q = 256 * s.hallAt (s.slotStart c S) c + (s.objAt (s.slotStart c S) .carrierBuildQueue c).toNat)
    (hHeld : (s.sch (s.hallAt (s.slotStart c S) c)).held = []) (hOn : (s.queue q).enabled = true) (hRecv : (s.queue q).recv = [])
    (hRoom : (s.queue q).count < (s.queue q).depth) (hNotify : bitAt (s.queue q).setting 14 = false) :
    s.releaseSent c S = (s.jobDropped c S).enqueue q (s.buildReleaseMsg c S false) := by
  have hAt : q / 256 = s.hallAt (s.slotStart c S) c := by omega
  have hLocal : q % 256 < 240 := by omega
  have hPlain : isEngineQueue (q % 256) = false := by
    simp only [isEngineQueue, Bool.and_eq_false_iff, decide_eq_false_iff_not]
    omega
  rw [State.releaseSent, ← hq, State.hwSend_enters (s := s.jobDropped c S) (by rw [hAt]; exact hHeld) hPlain hOn hRecv hRoom hNotify]

theorem execCarrierBuildRelease_enters (hQueue : s.objAt (s.slotStart c S) .carrierBuildQueue c < 240)
    (hq : q = 256 * s.hallAt (s.slotStart c S) c + (s.objAt (s.slotStart c S) .carrierBuildQueue c).toNat)
    (hHeld : (s.sch (s.hallAt (s.slotStart c S) c)).held = []) (hOn : (s.queue q).enabled = true) (hRecv : (s.queue q).recv = [])
    (hSend : (s.queue q).send = []) (hRoom : (s.queue q).count < (s.queue q).depth) (hNotify : bitAt (s.queue q).setting 14 = false)
    (hOff : s.obj .schTraceSize (s.hallAt (s.slotStart c S) c) = 0) :
    let t := (s.releaseSent c S).schTraceRec (s.hallAt (s.slotStart c S) c) 0x0F 15 none (traceArg 0x0F c)
    t.queue q = { s.queue q with count := (s.queue q).count + 1 } ∧ t.memNat (s.ringTail q) 16 = s.buildReleaseMsg c S false := by
  rw [State.releaseSent_enters hQueue hq hHeld hOn hRecv hRoom hNotify,
    State.schTraceRec_untraced ((State.obj_enqueue (s := s.jobDropped c S) hRecv hSend _ (by decide) (by decide)).trans hOff)]
  exact ⟨State.queue_enqueue _ _ _, State.memNat_enqueue (s := s.jobDropped c S) hRecv hSend (s.buildReleaseMsg_lt c S)⟩

end

end Sys2Proof.Machine

section
open Sys2Proof Sys2Proof.Machine

/-- Settles O37: each clause by what its operation does in the case it states. -/
theorem downlinkWork : Obligations.DownlinkWork := by
  refine ⟨fun s c S => ?_, fun s h r hRoom => ⟨fun hTakes hOp hOk hFree => ?_, fun hTakes hOp hOk hFirst hEmpty => ?_⟩,
    fun s c S n x hStream hShape hTail hDue => ?_, fun s a c v hw => execTdMaskUnmute_normal hw⟩
  · intro T h q hHall hJob hActive hTime
    refine ⟨_, execCarrierBuildRelease_due hHall hJob hActive hTime, ?_,
      fun hLow hQueue hHeld hOn hRecv hSend hRoom hNotify hOff => ?_⟩
    · rw [State.dlJobs_schTraceRec, State.dlJobs_releaseSent]
    · obtain ⟨hEntered, hMsg⟩ := execCarrierBuildRelease_enters (q := q) hQueue rfl hHeld hOn hRecv hSend hRoom hNotify hOff
      have hAt : q / 256 = h := by omega
      rw [State.ringTail, hAt] at hMsg
      exact ⟨hEntered, hMsg⟩
  · cases hTd : bdTd r.desc with
    | true =>
      obtain ⟨t, hExec, hPopped, hReplied, hSlots⟩ := execBuild_grid hRoom hTakes hOp hOk hTd
      exact ⟨t, hExec, hPopped, hReplied, fun _ => State.dlSlot_congr hSlots _ _, by simp⟩
    | false =>
      obtain ⟨t, hExec, hPopped, hReplied, x, hSlot, hNext⟩ :=
        execBuild_frames hRoom hTakes hOp hOk hTd (hFree.resolve_left (by simp [hTd]))
      exact ⟨t, hExec, hPopped, hReplied, by simp,
        fun _ => ⟨x, hSlot, fun k hk hBit hTime => hNext k (State.mem_symbolsInTime hk hBit hTime)⟩⟩
  · exact execShape_sent hRoom hTakes hOp hOk hFirst hEmpty
  · exact execTdTailAlone_once hStream hShape hTail hDue

end
end

section
/-! SUPPORT. What work on memory, the pacers and a completion leave of a device (R143, R171, R325 to R332, R534). -/

namespace Sys2Proof.Machine

/-! ### The frame -/

/-- The state with everything that memory, its correction log, faults of units, the pacers and messages may change as it is in `t`. -/
def State.withWork (s t : State) : State :=
  { s with
    objs := t.objs, events := t.events, mem := t.mem, upsets := t.upsets, eccLog := t.eccLog, hotQueue := t.hotQueue, ddr := t.ddr
    units := t.units, pins := t.pins, arbs := t.arbs, cores := t.cores, pace := t.pace, sched := t.sched }

/-- From one state to the other nothing else changed. -/
structure State.workOnly (s t : State) : Prop where
  eq : t = s.withWork t

namespace State.workOnly
variable {s t u : State}

theorem refl (s : State) : s.workOnly s := ⟨rfl⟩

theorem trans (h : s.workOnly t) (k : t.workOnly u) : s.workOnly u := by
  have hWork : t.withWork u = (s.withWork t).withWork u := congrArg (fun x => State.withWork x u) h.eq
  exact ⟨k.eq.trans hWork⟩

/-- A step written as a split on a condition. -/
theorem ite {c : Prop} [Decidable c] (h : s.workOnly t) (k : s.workOnly u) : s.workOnly (if c then t else u) := by
  split
  · exact h
  · exact k

theorem ulBufs (h : s.workOnly t) : t.ulBufs = s.ulBufs := by rw [h.eq]; rfl

theorem arms (h : s.workOnly t) : t.arms = s.arms := by rw [h.eq]; rfl

theorem engBusy (h : s.workOnly t) : t.engBusy = s.engBusy := by rw [h.eq]; rfl

/-! ### Single changes -/

theorem setObj (h : s.workOnly t) (o : Obj) (n : Nat) (v : Int) : s.workOnly (t.setObj o n v) := h.trans ⟨rfl⟩

theorem bump (h : s.workOnly t) (o : Obj) (n : Nat) : s.workOnly (t.bump o n) := h.setObj _ _ _

theorem evt (h : s.workOnly t) (k : EvtKind) (u i : Nat) : s.workOnly (t.evt k u i) := h.trans ⟨rfl⟩

theorem setUnit (h : s.workOnly t) (u : Nat) (x : UnitSt) : s.workOnly (t.setUnit u x) := h.trans ⟨rfl⟩

theorem assertModuleFault (h : s.workOnly t) : s.workOnly t.assertModuleFault := h.trans ⟨rfl⟩

theorem setLogEntry (h : s.workOnly t) (m i : Nat) (e : LogEntry) : s.workOnly (t.setLogEntry m i e) := h.trans ⟨rfl⟩

theorem setPacer (h : s.workOnly t) (u : Nat) (p : PaceSt) : s.workOnly (t.setPacer u p) := h.trans ⟨rfl⟩

theorem setWindow (h : s.workOnly t) (u : Nat) (w : List Int) : s.workOnly (t.setWindow u w) := h.trans ⟨rfl⟩

theorem of_pacers {l : List (Obj × Nat)} (h : s.workOnly t) (k : t.pacesOnly u l) : s.workOnly u := by
  obtain ⟨_, _, hFrame⟩ := k.frame
  rw [hFrame]
  exact h.trans ⟨rfl⟩

/-! ### Faults and the correction log -/

theorem freezeUnit (h : s.workOnly t) (on : Bool) (u : Nat) : s.workOnly (t.freezeUnit on u) := by
  obtain ⟨_, _, hFrame⟩ := (State.arbitersOnly.freezeUnit t on u).frame
  rw [hFrame]
  exact h.trans ⟨rfl⟩

theorem loseRequests (h : s.workOnly t) (u : Nat) : s.workOnly (t.loseRequests u) := h.trans ⟨rfl⟩

theorem unitFault (h : s.workOnly t) (u code : Nat) : s.workOnly (t.unitFault u code) := by
  unfold State.unitFault
  dsimp only
  have hCounted := fun x => (h.bump .relFaults 0).setUnit u x
  refine .ite h (.ite ?_ ((((hCounted _).bump _ _).freezeUnit _ _).loseRequests _))
  exact .ite (((hCounted _).bump _ _).evt _ _ _).assertModuleFault (((hCounted _).bump _ _).evt _ _ _)

theorem queueHot (h : s.workOnly t) (m i : Nat) : s.workOnly (t.queueHot m i) := .ite h (h.trans ⟨rfl⟩)

theorem unrepairedFault (h : s.workOnly t) (m : Nat) : s.workOnly (t.unrepairedFault m) :=
  .ite (h.unitFault _ _) (.ite (h.unitFault _ _) h)

theorem markUnrepaired (h : s.workOnly t) (m i : Nat) : s.workOnly (t.markUnrepaired m i) :=
  (((h.setLogEntry m i _).bump _ _).evt _ _ _).unrepairedFault m

theorem takeEntry (h : s.workOnly t) (m : Nat) (p : Nat × Nat × Nat) : s.workOnly (t.takeEntry m p).2 := by
  unfold State.takeEntry
  split
  · exact h
  · split
    · exact h
    · split
      · exact h.trans ⟨rfl⟩
      · exact h.trans ⟨rfl⟩

theorem logCorrection (h : s.workOnly t) (l : MemLoc) (src : Nat) (bs : List Nat) : s.workOnly (t.logCorrection l src bs) := by
  have hTaken := h.takeEntry (ctrlOf l) (logPlace l)
  unfold State.logCorrection
  dsimp only
  split
  next v hEntry =>
    rw [hEntry] at hTaken
    exact hTaken
  next i fresh v hEntry =>
    rw [hEntry] at hTaken
    have hLogged := fun e => hTaken.setLogEntry (ctrlOf l) i e
    refine .ite (.ite (((hLogged _).bump _ _).queueHot _ _) (hLogged _)) (.ite ?_ (.ite ((hLogged _).queueHot _ _) (hLogged _)))
    exact .ite (((hLogged _).bump _ _).evt _ _ _) ((((hLogged _).bump _ _).evt _ _ _).markUnrepaired _ _)

theorem logUncorrectable (h : s.workOnly t) (l : MemLoc) (src : Nat) : s.workOnly (t.logUncorrectable l src) := by
  have hCounted : s.workOnly ((t.bump .eccUncorr (ctrlOf l)).evt .eccUncorr (ctrlOf l) (logPlace l).2.2) := h.trans ⟨rfl⟩
  have hTaken := hCounted.takeEntry (ctrlOf l) (logPlace l)
  unfold State.logUncorrectable
  dsimp only
  split
  next v hEntry =>
    rw [hEntry] at hTaken
    exact hTaken
  next i _ v hEntry =>
    rw [hEntry] at hTaken
    exact hTaken.trans ⟨rfl⟩

theorem demandWord (h : s.workOnly t) (l : MemLoc) (src : Nat) : s.workOnly (t.demandWord l src) := by
  unfold State.demandWord
  split
  · exact h
  · exact .logCorrection (h.trans ⟨rfl⟩) _ _ _
  · exact h.logUncorrectable l src

theorem demandWords (h : s.workOnly t) (a src n : Nat) : s.workOnly (t.demandWords a src n) := by
  induction n with
  | zero => exact h
  | succ n ih => exact .ite (.ite (ih.trans ⟨rfl⟩) ih) (.demandWord ih _ _)

/-! ### Stores, pacers and messages -/

theorem store (h : s.workOnly t) (a : Nat) (l : List Byte) : s.workOnly (t.store a l) := by
  obtain ⟨_, _, _, _, _, _, hStore⟩ := t.store_frame a l
  rw [hStore]
  exact h.trans ⟨rfl⟩

theorem storeRmw (h : s.workOnly t) (a : Nat) (l : List Byte) : s.workOnly (t.storeRmw a l).1 := by
  unfold State.storeRmw
  dsimp only
  split
  · split
    · exact h.demandWords _ _ _
    · exact (h.demandWords _ _ _).store _ _
  · exact h.store a l

theorem engWrite (h : s.workOnly t) (n off : Nat) (l : List Byte) : s.workOnly (t.engWrite n off l) := by
  unfold State.engWrite State.storeAsked
  split
  · exact h
  · exact h.storeRmw _ l

theorem paceCompletion (h : s.workOnly t) (u : Nat) (slack : Int) (late : Bool) : s.workOnly (t.paceCompletion u slack late) := by
  unfold State.paceCompletion
  dsimp only
  refine .ite h ?_
  have hSampled := fun p w => (h.setPacer u p).setWindow u w
  exact .ite ((hSampled _ _).of_pacers (.snap _ _ _)) (.ite ((hSampled _ _).of_pacers (.snap _ _ _)) (hSampled _ _))

theorem engSlack (h : s.workOnly t) (n e d : Nat) : s.workOnly (t.engSlack n e d) := by
  unfold State.engSlack
  split
  · exact .ite (h.paceCompletion _ _ _) h
  · exact h

theorem enqueue (h : s.workOnly t) {q m : Nat} (hRecv : (t.queue q).recv = []) (hSend : (t.queue q).send = []) :
    s.workOnly (t.enqueue q m) := by
  rw [State.enqueue_eq t q m hRecv hSend]
  exact (h.store _ _).trans ⟨rfl⟩

end State.workOnly

end Sys2Proof.Machine
end

section
/-! SUPPORT. A completion after any work that leaves the reply queue alone (R143, R171, R172). -/

namespace Sys2Proof.Machine

/-- From one state to the other what a completion of hall h reads stayed: the queues, the time, and the counts of OK and LATE. -/
structure State.sameReplies (s v : State) (h : Nat) : Prop where
  held : (v.sch h).held = (s.sch h).held
  queues : (v.sch h).queues = (s.sch h).queues
  now : v.now = s.now
  counts : ∀ st, st = 0 ∨ st = 1 → v.obj (statusCounter st) h = s.obj (statusCounter st) h

namespace State.sameReplies
variable {s v w : State} {h : Nat}

theorem trans (k : s.sameReplies v h) (k' : v.sameReplies w h) : s.sameReplies w h :=
  ⟨k'.held.trans k.held, k'.queues.trans k.queues, k'.now.trans k.now, fun st hSt => (k'.counts st hSt).trans (k.counts st hSt)⟩

theorem of_sideWork (k : s.sideWork v) (h : Nat) : s.sameReplies v h :=
  ⟨by rw [k.sch], by rw [k.sch], k.now, fun _ hSt => k.objs _ _ (statusCounter_own hSt)⟩

/-- The objects stay but for some that no completion reads. -/
theorem of_objs (hSched : v.sched = s.sched)
    (hObjs : ∀ o n, o = .timeSec ∨ o = .timeNs ∨ o = .ulDescOk ∨ o = .ulDescLate → v.obj o n = s.obj o n) : s.sameReplies v h := by
  have hSch : v.sch h = s.sch h := by rw [State.sch, State.sch, hSched]
  refine ⟨by rw [hSch], by rw [hSch], ?_, fun st hSt => ?_⟩
  · rw [State.now, State.now, hObjs _ _ (by simp), hObjs _ _ (by simp)]
  · rcases hSt with rfl | rfl
    · exact hObjs _ _ (by simp [statusCounter])
    · exact hObjs _ _ (by simp [statusCounter])

theorem engPop (s : State) (h e : Nat) : s.sameReplies (s.engPop h e) h := by
  have hSch := s.sch_setSch_same h
    { s.sch h with engq := tabSet [] (s.sch h).engq (0xF0 + e) ((tabGet [] (s.sch h).engq (0xF0 + e)).drop 1) }
  rw [← State.engPop] at hSch
  exact ⟨by rw [hSch], by rw [hSch], rfl, fun _ _ => rfl⟩

end State.sameReplies

section
variable {s v : State} {h e d cyc a b : Nat}

/-- What holds of a state in which a descriptor done OK was reported: its completion is in the reply queue and counted, and
beyond that only memory, pacers and messages changed. -/
theorem State.finish_reports (hSame : s.sameReplies v h) (hRoom : replyRoom s h d) :
    replied s (v.finish h e d ⟨0, false, false, cyc, a, b⟩) h d (s.lateStatus d 0)
      ∧ v.workOnly (v.finish h e d ⟨0, false, false, cyc, a, b⟩)
      ∧ ((v.finish h e d ⟨0, false, false, cyc, a, b⟩).sch h).engq = (v.sch h).engq := by
  obtain ⟨hHeld, hPlain, hOn, hRecv, hSend, hSpace, hNotify, -⟩ := hRoom
  obtain ⟨hHall, hLocal⟩ := replyQueue_hall h d
  have hSt := s.lateStatus_ok d
  have hTime : statusCounter (s.lateStatus d 0) ≠ .timeSec ∧ statusCounter (s.lateStatus d 0) ≠ .timeNs
      ∧ statusCounter (s.lateStatus d 0) ≠ .eccLogUsed ∧ statusCounter (s.lateStatus d 0) ≠ .ddrFillBlocks := by
    rcases hSt with hSt | hSt <;> rw [hSt] <;> decide
  obtain ⟨hSec, hNs, hLog, hFill⟩ := hTime
  have hLate : v.lateStatus d 0 = s.lateStatus d 0 := by rw [State.lateStatus, State.lateStatus, hSame.now]
  have hFinish : v.finish h e d ⟨0, false, false, cyc, a, b⟩
      = ((v.bump (statusCounter (s.lateStatus d 0)) h).engSlack h e d).hwSend (64 * h + 16 + e) (256 * h + dReply d)
          (completionMsg d ⟨s.lateStatus d 0, false, false, cyc, a, b⟩
            ((v.bump (statusCounter (s.lateStatus d 0)) h).engSlack h e d).now) := by
    rw [State.finish]
    dsimp only
    rw [hLate, State.countStatus_ok _ _ hSt]
  have hSlack := State.engineWork.engSlack (v.bump (statusCounter (s.lateStatus d 0)) h) h e d
  have hOnly := State.workOnly.engSlack ((State.workOnly.refl v).bump (statusCounter (s.lateStatus d 0)) h) h e d
  generalize (v.bump (statusCounter (s.lateStatus d 0)) h).engSlack h e d = y at hSlack hOnly hFinish
  have hSch : y.sch h = v.sch h := (hSlack.side.sch h).trans (State.sch_bump _ _ _ _)
  have hQueue : y.queue (256 * h + dReply d) = s.queue (256 * h + dReply d) := by
    rw [State.queue, State.queue, hHall, hSch, hSame.queues]
  have hNow : y.now = s.now := by rw [hSlack.side.now, State.now_bump _ _ hSec.symm hNs.symm, hSame.now]
  have hCount : y.obj (statusCounter (s.lateStatus d 0)) h = (s.obj (statusCounter (s.lateStatus d 0)) h + 1) % 4294967296 := by
    rw [hSlack.side.objs _ _ (statusCounter_own hSt), State.obj_bump, hSame.counts _ hSt]
  obtain ⟨hLt, hTag, hOp, hStatus, hStamp⟩ := completionMsg_fields d cyc a b (st := s.lateStatus d 0) (by omega) s.now
  rw [hNow, State.hwSend_enters (by rw [hHall, hSch, hSame.held]; exact hHeld) (by rw [hLocal]; exact hPlain)
    (by rw [hQueue]; exact hOn) (by rw [hQueue]; exact hRecv) (by rw [hQueue]; exact hSpace) (by rw [hQueue]; exact hNotify)] at hFinish
  rw [hFinish]
  rw [← hQueue] at hRecv hSend
  have hMsg := State.memNat_enqueue hRecv hSend hLt
  rw [State.ringTail, hHall, hQueue] at hMsg
  refine ⟨⟨⟨?_, ?_⟩, ?_⟩, hOnly.enqueue hRecv hSend, ?_⟩
  · rw [State.queue_enqueue, hQueue]
  · rw [hMsg]
    exact ⟨hTag, hOp, hStatus, hStamp⟩
  · rw [State.obj_enqueue hRecv hSend _ hLog hFill, hCount]
  · rw [State.engq_enqueue hRecv hSend, hSch]

theorem State.engRun_setEngRun_same (s : State) (h e : Nat) (r : Option EngRun) : (s.setEngRun h e r).engRun h e = r :=
  tabGet_tabSet_same _ _ _ _

/-- A running descriptor done OK is reported, and its engine is idle. -/
theorem State.finishRun_reports (hSame : s.sameReplies v h) (hRoom : replyRoom s h d) :
    replied s (v.finishRun h e d ⟨0, false, false, cyc, a, b⟩) h d (s.lateStatus d 0)
      ∧ (v.setEngRun h e none).workOnly (v.finishRun h e d ⟨0, false, false, cyc, a, b⟩)
      ∧ (v.finishRun h e d ⟨0, false, false, cyc, a, b⟩).engRun h e = none
      ∧ ((v.finishRun h e d ⟨0, false, false, cyc, a, b⟩).sch h).engq = (v.sch h).engq := by
  have hIdle : v.sameReplies (v.setEngRun h e none) h := ⟨rfl, rfl, rfl, fun _ _ => rfl⟩
  obtain ⟨hReplied, hOnly, hQueues⟩ :=
    State.finish_reports (e := e) (cyc := cyc) (a := a) (b := b) (hSame.trans hIdle) hRoom
  refine ⟨hReplied, hOnly, ?_, hQueues⟩
  rw [State.finishRun, State.engRun, hOnly.engBusy]
  exact State.engRun_setEngRun_same v h e none

end

end Sys2Proof.Machine
end

section
/-! SUPPORT. The release of a carrier slot (R164, R165, R174, R231). -/

namespace Sys2Proof.Machine

/-! ### The counts of work whose slot is released -/

/-- From one state to the other only objects changed, and of these only the counts of failed blocks and transport blocks. -/
structure State.failuresCounted (s t : State) : Prop where
  only : t = { s with objs := t.objs }
  objs : ∀ o n, o ≠ .decBlocksFailed → o ≠ .decTbFailed → t.obj o n = s.obj o n

theorem State.failuresCounted_workFinal (s : State) (w : HarqWork) : s.failuresCounted (s.workFinal w) := by
  unfold State.workFinal
  split
  · refine ⟨?_, fun o n hBlocks hTb => ?_⟩
    · unfold State.bumpIf
      split <;> rfl
    · rw [State.obj_bumpIf_of_ne _ _ _ _ hTb, State.bumpBy, State.obj_setObj_of_ne _ _ _ _ hBlocks]
  · exact ⟨rfl, fun _ _ _ _ => rfl⟩

theorem State.failuresCounted_foldl (l : List HarqWork) (s : State) :
    s.failuresCounted (l.foldl (fun (s : State) w => s.workFinal w) s) := by
  induction l generalizing s with
  | nil => exact ⟨rfl, fun _ _ _ _ => rfl⟩
  | cons w l ih =>
    have hHead := s.failuresCounted_workFinal w
    have hTail := ih (s.workFinal w)
    refine ⟨?_, fun o n hBlocks hTb => (hTail.objs o n hBlocks hTb).trans (hHead.objs o n hBlocks hTb)⟩
    rw [List.foldl_cons, hTail.only, hHead.only]

/-! ### A slot released -/

/-- The slot S of carrier c was released from buffer k: the buffer is IDLE and keeps the number of the slot, no ARM of the slot is left,
and of the work on transport blocks none is new. -/
structure State.releasedFrom (s t : State) (k c : Nat) (S : Int) : Prop where
  only : t = { s with objs := t.objs, ulBufs := t.ulBufs, arms := t.arms, llrDone := t.llrDone, harq := t.harq }
  objs : ∀ o n, o ≠ .decBlocksFailed → o ≠ .decTbFailed → t.obj o n = s.obj o n
  freed : t.ulBuf k = { UlBuf.reset with slot := S }
  others : ∀ k', k' ≠ k → t.ulBuf k' = s.ulBuf k'
  disarmed : t.armOf c S = none
  works : ∀ w ∈ t.harq, ∃ w' ∈ s.harq, w.hall = w'.hall ∧ w.carrier = w'.carrier ∧ w.slot = w'.slot ∧ w.desc = w'.desc

theorem State.releasedFrom_releaseSlot (s : State) (k c : Nat) (S : Int) : s.releasedFrom (s.releaseSlot k c S) k c S := by
  have hCounted := fun l => State.failuresCounted_foldl l (s.setUlBuf k { UlBuf.reset with slot := S })
  unfold State.releaseSlot
  dsimp only
  generalize hFinal : List.foldl _ _ _ = v
  have hFinal' : (s.setUlBuf k { UlBuf.reset with slot := S }).failuresCounted v := hFinal ▸ hCounted _
  have hBuf : ∀ j, v.ulBuf j = (s.setUlBuf k { UlBuf.reset with slot := S }).ulBuf j := fun j => by
    rw [hFinal'.only]
    rfl
  have hHarq : v.harq = s.harq := by
    rw [hFinal'.only]
    rfl
  refine ⟨?_, ?_, ?_, ?_, ?_, ?_⟩
  · rw [hFinal'.only]
    rfl
  · exact fun o n hBlocks hTb => hFinal'.objs o n hBlocks hTb
  · exact (hBuf k).trans (State.ulBuf_setUlBuf_same _ _ _)
  · exact fun j hj => (hBuf j).trans (State.ulBuf_setUlBuf_ne _ _ hj)
  · exact List.find?_eq_none.mpr fun a ha => by
      simpa only [Bool.not_eq_true, Bool.not_eq_true'] using (List.mem_filter.mp ha).2
  · intro w hw
    obtain ⟨w', hw', rfl⟩ := List.mem_map.mp (List.mem_filter.mp hw).1
    refine ⟨w', hHarq ▸ hw', ?_⟩
    split <;> simp

/-- A hall without stores due has none after a release. -/
theorem State.releasedFrom.storesDue {s t : State} {k c h : Nat} {S : Int} (hReleased : s.releasedFrom t k c S)
    (hNone : s.storesDue h c S = false) : t.storesDue h c S = false := by
  rw [State.storesDue, List.any_eq_false] at hNone ⊢
  intro w hw
  obtain ⟨w', hw', hHall, hCarrier, hSlot, hDesc⟩ := hReleased.works w hw
  rw [hHall, hCarrier, hSlot, hDesc]
  exact hNone w' hw'

theorem State.releasedFrom.sameReplies {s t : State} {k c h : Nat} {S : Int} (hReleased : s.releasedFrom t k c S) :
    s.sameReplies t h :=
  .of_objs (by rw [hReleased.only]) fun o n ho => hReleased.objs o n
    (by rcases ho with rfl | rfl | rfl | rfl <;> decide) (by rcases ho with rfl | rfl | rfl | rfl <;> decide)

/-! ### At the deadline (R165) -/

section
variable {s : State} {k : Fin 8192} (hHeld : (s.ulBuf k).st ≠ 0) (hDue : s.ulDeadline (s.bufCarrier k) (s.ulBuf k).slot ≤ s.now)
include hHeld hDue

theorem execUlReleaseAtDeadline_due : exec (.ulReleaseAtDeadline k) s = .next
    (if k.val < 6144 then
      (s.bump .ulReleaseAtDeadline (s.hallOf (s.bufCarrier k))).releaseSlot k (s.bufCarrier k) (s.ulBuf k).slot
    else (s.bump .ulReleaseAtDeadline (s.hallOf (s.bufCarrier k))).setUlBuf k { s.ulBuf k with st := 0 }) := by
  rw [exec_ulReleaseAtDeadline, execUlReleaseAtDeadline]
  exact congrArg Host.Outcome.next (if_pos ⟨hHeld, hDue⟩)

theorem execUlReleaseAtDeadline_frees : ∃ t, exec (.ulReleaseAtDeadline k) s = .next t ∧ (t.ulBuf k).st = 0
    ∧ (t.ulBuf k).slot = (s.ulBuf k).slot
    ∧ t.obj .ulReleaseAtDeadline (s.hallOf (s.bufCarrier k))
        = (s.obj .ulReleaseAtDeadline (s.hallOf (s.bufCarrier k)) + 1) % 4294967296
    ∧ (k.val < 6144 → t.armOf (s.bufCarrier k) (s.ulBuf k).slot = none)
    ∧ (∀ k' : Nat, k' ≠ k → t.ulBuf k' = s.ulBuf k')
    ∧ t = { s with objs := t.objs, ulBufs := t.ulBufs, arms := t.arms, llrDone := t.llrDone, harq := t.harq } := by
  refine ⟨_, execUlReleaseAtDeadline_due hHeld hDue, ?_⟩
  by_cases hCarrier : k.val < 6144
  · have hReleased := (s.bump .ulReleaseAtDeadline (s.hallOf (s.bufCarrier k))).releasedFrom_releaseSlot k (s.bufCarrier k)
      (s.ulBuf k).slot
    rw [if_pos hCarrier]
    refine ⟨by rw [hReleased.freed]; rfl, by rw [hReleased.freed], ?_, fun _ => hReleased.disarmed, hReleased.others, hReleased.only⟩
    rw [hReleased.objs _ _ (by decide) (by decide), State.obj_bump]
  · rw [if_neg hCarrier]
    refine ⟨by rw [State.ulBuf_setUlBuf_same], by rw [State.ulBuf_setUlBuf_same], State.obj_bump _ _ _, fun h => absurd h hCarrier,
      fun k' hk' => State.ulBuf_setUlBuf_ne _ _ hk', rfl⟩

end

/-! ### RELEASE and ARM (R173, R174) -/

theorem popped_engPop (s : State) (h e : Nat) : popped s (s.engPop h e) h e := by
  rw [popped, State.engPop, State.sch_setSch_same, tabGet_tabSet_same]

section
variable {s : State} {h : Fin 16} {r : EngRun} (hTakes : engTakes s h 0 r)
include hTakes

theorem execArm_armed (hOp : dOp r.desc = 1) (hOk : s.armOk h r.desc = true)
    (hFree : s.armOf (dCarrier r.desc) (s.descSlot r.desc) = none)
    (hHere : ¬((s.ulBuf (s.bufOf (dCarrier r.desc) (s.descSlot r.desc))).st = 0
      ∧ (s.ulBuf (s.bufOf (dCarrier r.desc) (s.descSlot r.desc))).slot = s.descSlot r.desc)) :
    ∃ t, exec (.arm h) s = .next t ∧ t.arms = s.arms ++ [armFields r.desc (dCarrier r.desc) (s.descSlot r.desc)]
      ∧ t.engRun h 0 = some r ∧ popped s t h 0 ∧ t = { s with sched := t.sched, engBusy := t.engBusy, arms := t.arms } := by
  refine ⟨_, congrArg Host.Outcome.next (State.takeHead_acts hTakes (by rw [hOp]; decide) (by rw [hOp]; decide)), ?_⟩
  simp only [State.armTaken, hOk, hFree, hHere, Bool.not_true, Bool.false_eq_true, Option.isSome_none, or_self, if_false]
  exact ⟨rfl, State.engRun_setEngRun_same (s.engPop h 0) h 0 (some r), popped_engPop s h 0, rfl⟩

/-- A RELEASE that waits for nothing, neither earlier work nor stores nor a standby. -/
theorem execUlRelease_freed (hRoom : replyRoom s h r.desc) (hOp : dOp r.desc = 2) (hFields : s.slotFieldsOk r.desc = true)
    (hEarlier : s.earlierWork h r.stamp (dCarrier r.desc) (s.descSlot r.desc) = false)
    (hHolds : s.holds (s.bufOf (dCarrier r.desc) (s.descSlot r.desc)) (s.descSlot r.desc) = true)
    (hStores : s.storesDue h (dCarrier r.desc) (s.descSlot r.desc) = false) (hAlone : s.dravutOut = []) :
    ∃ t, exec (.ulRelease h) s = .next t
      ∧ t.ulBuf (s.bufOf (dCarrier r.desc) (s.descSlot r.desc)) = { UlBuf.reset with slot := s.descSlot r.desc }
      ∧ t.armOf (dCarrier r.desc) (s.descSlot r.desc) = none
      ∧ t.engRun h 0 = none ∧ popped s t h 0 ∧ replied s t h r.desc (s.lateStatus r.desc 0) := by
  refine ⟨_, congrArg Host.Outcome.next (State.takeHead_acts hTakes (by rw [hOp]; decide) (by rw [hOp]; decide)), ?_⟩
  have hReleased := (s.engPop h 0).releasedFrom_releaseSlot (s.bufOf (dCarrier r.desc) (s.descSlot r.desc)) (dCarrier r.desc)
    (s.descSlot r.desc)
  have hStores' : (s.engPop h 0).storesDue h (dCarrier r.desc) (s.descSlot r.desc) = false := hStores
  simp only [State.releaseTaken, hFields, hEarlier, hHolds, Bool.not_true, Bool.false_eq_true, if_false]
  generalize (s.engPop h 0).releaseSlot (s.bufOf (dCarrier r.desc) (s.descSlot r.desc)) (dCarrier r.desc) (s.descSlot r.desc) = v
    at hReleased
  have hDue : (v.setEngRun h 0 (some r)).storesDue h (dCarrier r.desc) (s.descSlot r.desc) = false := hReleased.storesDue hStores'
  have hOut : (v.setEngRun h 0 (some r)).dravutOut = [] := by
    rw [State.setEngRun_dravutOut, hReleased.only]
    exact hAlone
  have hSame : s.sameReplies (v.setEngRun h 0 (some r)) h :=
    ((State.sameReplies.engPop s h 0).trans hReleased.sameReplies).trans ⟨rfl, rfl, rfl, fun _ _ => rfl⟩
  obtain ⟨hReplied, hOnly, hIdle, hQueues⟩ := State.finishRun_reports (e := 0) (cyc := 0) (a := 0) (b := 0) hSame hRoom
  rw [if_neg (by rw [hDue]; decide), State.releaseDone, State.afterAck, if_pos hOut, Result.only]
  refine ⟨?_, ?_, hIdle, ?_, hReplied⟩
  · rw [State.ulBuf, hOnly.ulBufs]
    exact hReleased.freed
  · rw [State.armOf, hOnly.arms]
    exact hReleased.disarmed
  · rw [popped, hQueues, State.sch_setEngRun, hReleased.only]
    exact popped_engPop s h 0

end

end Sys2Proof.Machine
end

section
/-! SUPPORT. The gains of a slot and the close of its windows (R164, R166 to R168, R173). -/

namespace Sys2Proof.Machine

/-! ### UL_WINDOW_CLOSE -/

theorem execUlWindowClose_closed {s : State} {k : Fin 6144} {a : ArmSt} (hArm : s.armOf (k / 8) (s.ulBuf k).slot = some a)
    (hGained : (s.ulBuf k).st = 2)
    (hTime : s.windowClose (k / 8) (s.ulBuf k).slot ((maskList 14 a.symbols).foldl max 0) ≤ s.now) :
    exec (.ulWindowClose k) s = .next (s.setUlBuf k { s.ulBuf k with st := 3 }) := by
  rw [exec_ulWindowClose, execUlWindowClose]
  simp only [hArm]
  rw [if_pos ⟨hGained, hTime⟩]

/-! ### The gain codes (R166) -/

/-- Codes recorded one by one, each plus one: a stream whose entries all have one code reads that code. -/
theorem tabGet_foldl_codes {n v : Nat} {l : List (Nat × Nat × Bool)} (hCode : ∀ p ∈ l, p.1 = n → p.2.1 = v) (t : Tab Nat)
    (hn : (∃ p ∈ l, p.1 = n) ∨ tabGet 0 t n = v + 1) :
    tabGet 0 (l.foldl (fun g p => tabSet 0 g p.1 (p.2.1 + 1)) t) n = v + 1 := by
  induction l generalizing t with
  | nil => exact hn.resolve_left (by simp)
  | cons p l ih =>
    refine ih (fun q hq => hCode q (List.mem_cons_of_mem _ hq)) _ ?_
    dsimp only
    by_cases hHere : p.1 = n
    · rw [hHere, tabGet_tabSet_same, hCode p List.mem_cons_self hHere]
      exact .inr rfl
    · rw [tabGet_tabSet_ne _ _ _ _ (Ne.symm hHere)]
      refine hn.imp_left fun ⟨q, hq, hStream⟩ => ⟨q, (List.mem_cons.mp hq).resolve_left ?_, hStream⟩
      rintro rfl
      exact hHere hStream

/-- The gain codes of an armed slot by stream, each plus one. -/
def State.gainCodes (s : State) (a : ArmSt) : Tab Nat :=
  ((maskList 32 a.streams).map (fun t => (t, s.measureGain a.carrier a.slot t a.gref))).foldl
    (fun g p => tabSet 0 g p.1 (p.2.1 + 1)) []

/-- With fixed gain every armed stream has the code of `UL_GAIN_FIXED`. -/
theorem State.gainCodes_fixed {s : State} {a : ArmSt} (hMode : s.objAt (s.slotStart a.carrier a.slot) .ulGainMode a.carrier = 1)
    {n : Nat} (hn : n < 32) (hStream : bitAt a.streams n = true) :
    tabGet 0 (s.gainCodes a) n = (s.objAt (s.slotStart a.carrier a.slot) .ulGainFixed a.carrier).toNat + 1 := by
  refine tabGet_foldl_codes (fun p hp _ => ?_) [] (.inl ⟨_, List.mem_map_of_mem (?_ : n ∈ maskList 32 a.streams), rfl⟩)
  · obtain ⟨t, -, rfl⟩ := List.mem_map.mp hp
    rw [State.measureGain, if_pos hMode]
  · simp [maskList, hn, hStream]

/-- The buffer of an armed slot once its gains are set, claimed for the slot if it was IDLE. -/
def State.gainedBuf (s : State) (a : ArmSt) : UlBuf :=
  { (if (s.ulBuf (s.bufOf a.carrier a.slot)).st = 0 then
      { UlBuf.reset with slot := a.slot, table := s.tableFor a.carrier a.slot }
    else s.ulBuf (s.bufOf a.carrier a.slot)) with st := 2, gains := s.gainCodes a }

theorem State.slot_gainedBuf {s : State} {a : ArmSt} (hMine : (s.ulBuf (s.bufOf a.carrier a.slot)).st = 0
    ∨ (s.ulBuf (s.bufOf a.carrier a.slot)).slot = a.slot) : (s.gainedBuf a).slot = a.slot := by
  unfold State.gainedBuf
  split
  next => rfl
  next hHeld => exact hMine.resolve_left hHeld

/-- The gains set: the fallbacks counted, the codes in the buffer and as the carrier's previous ones. -/
def State.gained (s : State) (h : Nat) (a : ArmSt) (fallbacks : Nat) (prev : Tab Nat) : State :=
  { (s.bumpBy .ulGainFallback h fallbacks).setUlBuf (s.bufOf a.carrier a.slot) (s.gainedBuf a) with ulPrev := prev }

theorem State.ulBuf_gained (s : State) (h : Nat) (a : ArmSt) (n : Nat) (prev : Tab Nat) :
    (s.gained h a n prev).ulBuf (s.bufOf a.carrier a.slot) = s.gainedBuf a :=
  State.ulBuf_setUlBuf_same (s.bumpBy .ulGainFallback h n) (s.bufOf a.carrier a.slot) (s.gainedBuf a)

theorem State.setGains_eq (s : State) (h : Nat) (r : EngRun) (a : ArmSt) : ∃ n prev out cyc lo hi, s.setGains h r a
    = (((s.gained h a n prev).engWrite h a.gcOut out).freeUsed).finishRun h 0 r.desc ⟨0, false, false, cyc, lo, hi⟩ :=
  ⟨_, _, _, _, _, _, rfl⟩

section
variable {s : State} {h : Fin 16} {r : EngRun} {a : ArmSt}

theorem execUlGainSet_eq (hRun : s.engRun h 0 = some r) (hOp : dOp r.desc = 1)
    (hArm : s.arms.find? (fun a => decide (a.carrier = dCarrier r.desc)
      && decide (s.sameSlot r.desc (dCarrier r.desc) a.slot)) = some a)
    (hReady : s.grefReady a = true) (hMine : (s.ulBuf (s.bufOf a.carrier a.slot)).st = 0
      ∨ (s.ulBuf (s.bufOf a.carrier a.slot)).slot = a.slot) : exec (.ulGainSet h) s = .next (s.setGains h r a) := by
  have hCarrier : a.carrier = dCarrier r.desc := by
    have hFound := List.find?_some hArm
    simp only [Bool.and_eq_true, decide_eq_true_eq] at hFound
    exact hFound.1
  have hOwn : ¬((s.ulBuf (s.bufOf (dCarrier r.desc) a.slot)).st ≠ 0 ∧ (s.ulBuf (s.bufOf (dCarrier r.desc) a.slot)).slot ≠ a.slot) := by
    rw [← hCarrier]
    exact fun hOther => hMine.elim hOther.1 hOther.2
  rw [exec_ulGainSet, execUlGainSet]
  simp only [hRun, hOp, hArm, hReady, hOwn, ne_eq, not_true_eq_false, Bool.not_true, Bool.false_eq_true, if_false]

theorem execUlGainSet_gained (hRun : s.engRun h 0 = some r) (hOp : dOp r.desc = 1) (hRoom : replyRoom s h r.desc)
    (hArm : s.arms.find? (fun a => decide (a.carrier = dCarrier r.desc)
      && decide (s.sameSlot r.desc (dCarrier r.desc) a.slot)) = some a)
    (hReady : s.grefReady a = true) (hMine : (s.ulBuf (s.bufOf a.carrier a.slot)).st = 0
      ∨ (s.ulBuf (s.bufOf a.carrier a.slot)).slot = a.slot) :
    ∃ t, exec (.ulGainSet h) s = .next t ∧ t.ulBuf (s.bufOf a.carrier a.slot) = s.gainedBuf a ∧ t.engRun h 0 = none
      ∧ t.arms = s.arms ∧ replied s t h r.desc (s.lateStatus r.desc 0) := by
  obtain ⟨n, prev, out, cyc, lo, hi, hSet⟩ := s.setGains_eq h r a
  refine ⟨_, execUlGainSet_eq hRun hOp hArm hReady hMine, ?_⟩
  have hGained : s.sameReplies (s.gained h a n prev) h := .of_objs rfl fun o m ho =>
    State.obj_setObj_of_ne _ _ _ _ (by rcases ho with rfl | rfl | rfl | rfl <;> decide)
  have hWrite := (State.engineWork.engWrite (s.gained h a n prev) h a.gcOut out).trans (.freeUsed _)
  have hKept := (State.workOnly.refl (s.gained h a n prev)).engWrite h a.gcOut out
  obtain ⟨hReplied, hOnly, hIdle, -⟩ := State.finishRun_reports (e := 0) (cyc := cyc) (a := lo) (b := hi)
    (hGained.trans (.of_sideWork hWrite.side h)) hRoom
  rw [hSet]
  refine ⟨?_, hIdle, hOnly.arms.trans hKept.arms, hReplied⟩
  have hBufs := hOnly.ulBufs.trans hKept.ulBufs
  rw [State.ulBuf, hBufs]
  exact s.ulBuf_gained h a n prev

end

end Sys2Proof.Machine
end

section
/-! SUPPORT. Sections that land (R158 to R164). -/

namespace Sys2Proof.Machine

/-! ### Times that a count leaves -/

namespace State.sameSlots
variable {s t : State} (h : s.sameSlots t)
include h

theorem symbolStart (c : Nat) (S : Int) (k : Nat) : t.symbolStart c S k = s.symbolStart c S k := by
  have hState := fun n => h.objs .stageState n (by decide)
  have hOffset := fun n => h.objs .timeSfnOffset n (by decide)
  have hHall := fun n => h.objs .carrierHall n (by decide)
  have hSfn : t.sfnOffset c = s.sfnOffset c := by simp only [State.sfnOffset, hState, hOffset, hHall, h.staged]
  have hCarrier : t.carrier c = s.carrier c := by simp only [State.carrier, h.carriers]
  rw [State.symbolStart, State.slotsPerSubframe, State.symbolsPerSlot, hCarrier, hSfn]
  rfl

theorem windowClose (hClose : ∀ n, t.obj .ulWinClose n = s.obj .ulWinClose n) (c : Nat) (S : Int) (k : Nat) :
    t.windowClose c S k = s.windowClose c S k := by
  have hArmed : ∀ k x T, t.armedBy k x T = s.armedBy k x T := fun k x T => by
    rw [State.armedBy, State.armedBy, h.objs .stageState k (by decide)]
  have hStaged : ∀ T key, t.stagedFor StageSt.vals T key = s.stagedFor StageSt.vals T key := fun T key => by
    rw [State.stagedFor, State.stagedFor, h.staged]
    simp only [hArmed]
  rw [State.windowClose, State.windowClose, h.symbolStart, h.slotStart, State.objAt, State.objAt, hStaged, h.stageLog, hClose]

end State.sameSlots

/-- The check of SEQ_ID changes its record and the count of gaps. -/
theorem State.checkSeq_frame (s : State) (f : UlFrame) :
    ∃ os seq, s.checkSeq f = { s with objs := os, ulSeq := seq } ∧ ∀ o n, o ≠ .ulFhSeqGap → (s.checkSeq f).obj o n = s.obj o n := by
  unfold State.checkSeq
  dsimp only
  split
  · exact ⟨_, _, rfl, fun o n ho => State.obj_bump_of_ne _ _ _ ho⟩
  · exact ⟨_, _, rfl, fun _ _ _ => rfl⟩

/-! ### Stores where no bit is flipped -/

section
variable {s : State} (h : s.upsets = [])
include h

theorem State.anyPoison_of_none (a n : Nat) : s.anyPoison a n = false := by
  induction n with
  | zero => rfl
  | succ n ih => rw [State.anyPoison, State.isPoison_of_none h, ih]; rfl

theorem State.demandWords_of_none (a src n : Nat) : ∃ os, s.demandWords a src n = { s with objs := os } := by
  induction n with
  | zero => exact ⟨s.objs, rfl⟩
  | succ n ih =>
    obtain ⟨os, hWords⟩ := ih
    rw [State.demandWords]
    split
    · rw [hWords, State.bumpIf]
      split
      · exact ⟨_, rfl⟩
      · exact ⟨_, rfl⟩
    · rw [hWords]
      exact ⟨os, State.demandWord_of_none (s := { s with objs := os }) h _ _⟩

theorem State.byteAt_storeRmw_of_none (a : Nat) (l : List Byte) (x : Nat) :
    (s.storeRmw a l).1.byteAt x = if h : a ≤ x ∧ x - a < l.length then l[x - a] else s.byteAt x := by
  unfold State.storeRmw
  dsimp only
  rw [State.anyPoison_of_none h]
  split
  · obtain ⟨os, hWords⟩ := State.demandWords_of_none h (a / 8 * 8) 2 (wordSpan a l.length)
    rw [hWords, if_neg Bool.false_ne_true, State.byteAt_store]
    rfl
  · exact State.byteAt_store _ _ _ _

end

/-! ### The bytes of a section -/

theorem length_slice (o n : Nat) (l : List Byte) : (slice o n l).length = n := by
  simp only [slice, List.length_append, List.length_replicate, List.length_take]
  omega

theorem getElem_slice_zero (n : Nat) (l : List Byte) {j : Nat} (hj : j < (slice 0 n l).length) : (slice 0 n l)[j] = l.getD j 0 := by
  rw [length_slice] at hj
  by_cases hIn : j < l.length
  · simp [slice, hj, hIn]
  · simp [slice, List.getElem_append, hIn]

/-- The bytes that a section lands: those of its PRBs, as far as the symbol reaches. -/
def Land.sectionBytes (l : Land) (sec : UlSection) : List Byte :=
  (slice 0 (sec.num * l.prbBytes) sec.data).take (l.symStride - sec.start * l.prbBytes)

theorem Land.length_sectionBytes (l : Land) (sec : UlSection) :
    (l.sectionBytes sec).length = min (sec.num * l.prbBytes) (l.symStride - sec.start * l.prbBytes) := by
  rw [Land.sectionBytes, List.length_take, length_slice, Nat.min_comm]

theorem Land.getElem_sectionBytes (l : Land) (sec : UlSection) {j : Nat} (hj : j < (l.sectionBytes sec).length) :
    (l.sectionBytes sec)[j] = sec.data.getD j 0 := by
  simp only [Land.sectionBytes, List.getElem_take]
  exact getElem_slice_zero _ _ _

/-! ### A section that lands (R161 to R164) -/

/-- The buffer of slot S as a section finds it: an IDLE one is claimed, by the table in force at `tc`. -/
def UlBuf.claimed (b : UlBuf) (tc S : Int) : UlBuf :=
  if b.st = 0 then { UlBuf.reset with st := 1, slot := S, table := tc } else b

/-- The PRBs of a section as a mask. -/
def prbsOf (sec : UlSection) : Nat := (2 ^ sec.num - 1) * 2 ^ sec.start

/-- The buffer with the PRBs of a section marked in stream t. -/
def UlBuf.marked (b : UlBuf) (t : Nat) (sec : UlSection) : UlBuf :=
  { b with landed := tabSet 0 b.landed (16 * t + sec.symbol) (tabGet 0 b.landed (16 * t + sec.symbol) ||| prbsOf sec) }

/-- Where in global memory a section lands. -/
def State.landAt (s : State) (l : Land) (S : Int) (sec : UlSection) : Nat :=
  terraceBase (s.hallOf l.carrier) + l.offset S sec.symbol sec.start

/-- A section passes every check of R162 and finds its slot's buffer IDLE or open (R164). -/
structure State.sectionPasses (s : State) (l : Land) (S arrival : Int) (sec : UlSection) : Prop where
  inTime : arrival < s.windowClose l.carrier S sec.symbol
  buffer : (s.ulBuf (l.key + l.buf S)).st = 0
    ∨ ((s.ulBuf (l.key + l.buf S)).slot = S ∧ (s.ulBuf (l.key + l.buf S)).st ≠ 3)
  rb : sec.rb = false
  prbs : sec.start + sec.num ≤ l.prbs
  symbol : sec.symbol < l.symbols
  comp : sec.comp = (if l.comp then 1 else 0)
  width : sec.width = l.width

/-- A section landed: its bytes stored, its PRBs marked in the buffer of its slot. -/
structure State.sectionLanded (s t : State) (l : Land) (tc S : Int) (sec : UlSection) : Prop where
  buffer : t.ulBuf (l.key + l.buf S) = ((s.ulBuf (l.key + l.buf S)).claimed tc S).marked l.stream sec
  others : ∀ k', k' ≠ l.key + l.buf S → t.ulBuf k' = s.ulBuf k'
  stored : ∀ j, j < (l.sectionBytes sec).length → t.byteAt (s.landAt l S sec + j) = sec.data.getD j 0
  kept : ∀ x, ¬(s.landAt l S sec ≤ x ∧ x < s.landAt l S sec + (l.sectionBytes sec).length) → t.byteAt x = s.byteAt x

section
variable {s : State} {l : Land} {tc S : Int} {sec : UlSection}

theorem State.landIt_eq (hOpen : ((s.ulBuf (l.key + l.buf S)).claimed tc S).st ≠ 3) : ∃ dup, s.landIt l tc S sec
    = ((s.storeRmw (s.landAt l S sec) (l.sectionBytes sec)).1.setUlBuf (l.key + l.buf S)
        (((s.ulBuf (l.key + l.buf S)).claimed tc S).marked l.stream sec)).bumpBy .ulFhDupPrb 0 dup :=
  ⟨_, if_neg hOpen⟩

theorem State.landIt_lands {arrival : Int} (hClean : s.upsets = []) (hPasses : s.sectionPasses l S arrival sec) :
    s.sectionLanded (s.landIt l tc S sec) l tc S sec := by
  have hOpen : ((s.ulBuf (l.key + l.buf S)).claimed tc S).st ≠ 3 := by
    unfold UlBuf.claimed
    split
    next => exact (by decide : (1 : Nat) ≠ 3)
    next hHeld => exact (hPasses.buffer.resolve_left hHeld).2
  obtain ⟨dup, hLand⟩ := State.landIt_eq (sec := sec) hOpen
  have hBufs := ((State.workOnly.refl s).storeRmw (s.landAt l S sec) (l.sectionBytes sec)).ulBufs
  have hBytes : ∀ x, (s.landIt l tc S sec).byteAt x = (s.storeRmw (s.landAt l S sec) (l.sectionBytes sec)).1.byteAt x := fun x => by
    rw [hLand]
    rfl
  refine ⟨?_, fun k' hk' => ?_, fun j hj => ?_, fun x hx => ?_⟩
  · rw [hLand]
    exact State.ulBuf_setUlBuf_same _ _ _
  · rw [hLand, State.bumpBy, State.ulBuf_setObj, State.ulBuf_setUlBuf_ne _ _ hk', State.ulBuf, hBufs, State.ulBuf]
  · rw [hBytes, State.byteAt_storeRmw_of_none hClean, dif_pos (by omega), Land.getElem_sectionBytes, Nat.add_sub_cancel_left]
  · rw [hBytes, State.byteAt_storeRmw_of_none hClean, dif_neg (by omega)]

theorem State.landSection_lands {arrival : Int} (hClean : s.upsets = []) (hPasses : s.sectionPasses l S arrival sec) :
    s.sectionLanded (s.landSection l tc S arrival sec) l tc S sec := by
  have hOwn : ¬((s.ulBuf (l.key + l.buf S)).st ≠ 0 ∧ (s.ulBuf (l.key + l.buf S)).slot ≠ S) :=
    fun hOther => hPasses.buffer.elim hOther.1 fun hMine => hOther.2 hMine.1
  have hRange : ¬(sec.rb = true ∨ l.prbs < sec.start + sec.num ∨ l.symbols ≤ sec.symbol) := by
    simp only [hPasses.rb, Bool.false_eq_true, false_or, not_or, not_lt, not_le]
    exact ⟨hPasses.prbs, hPasses.symbol⟩
  have hFormat : ¬(sec.comp ≠ (if l.comp then 1 else 0) ∨ sec.width ≠ l.width) :=
    not_or.mpr ⟨not_not.mpr hPasses.comp, not_not.mpr hPasses.width⟩
  rw [State.landSection, if_neg (not_le.mpr hPasses.inTime), if_neg hOwn, if_neg hRange, if_neg hFormat]
  exact State.landIt_lands hClean hPasses

/-- The check of SEQ_ID before a section changes nothing of how it lands. -/
theorem State.checkSeq_lands {arrival : Int} (f : UlFrame) (hClean : s.upsets = []) (hPasses : s.sectionPasses l S arrival sec) :
    s.sectionLanded ((s.checkSeq f).landSection l tc S arrival sec) l tc S sec := by
  obtain ⟨os, seq, hFrame, hObjs⟩ := s.checkSeq_frame f
  have hSlots : s.sameSlots (s.checkSeq f) := ⟨by rw [hFrame], by rw [hFrame], by rw [hFrame], by rw [hFrame], fun o n ho =>
    hObjs o n (by rintro rfl; exact absurd ho (by decide))⟩
  have hBuf : ∀ k, (s.checkSeq f).ulBuf k = s.ulBuf k := fun k => by rw [hFrame]; rfl
  have hByte : ∀ x, (s.checkSeq f).byteAt x = s.byteAt x := fun x => by rw [hFrame]; rfl
  have hAt : (s.checkSeq f).landAt l S sec = s.landAt l S sec := by
    simp only [State.landAt, State.hallOf, State.objN, hSlots.objs .carrierHall _ (by decide)]
  have hChecked : (s.checkSeq f).sectionPasses l S arrival sec := { hPasses with
    inTime := by rw [hSlots.windowClose fun n => hObjs _ n (by decide)]; exact hPasses.inTime
    buffer := by rw [hBuf]; exact hPasses.buffer }
  have hLanded := State.landSection_lands (tc := tc) (by rw [hFrame]; exact hClean) hChecked
  exact ⟨by rw [hLanded.buffer, hBuf], fun k' hk' => (hLanded.others k' hk').trans (hBuf k'),
    fun j hj => hAt ▸ hLanded.stored j hj, fun x hx => (hLanded.kept x (by rwa [hAt])).trans (hByte x)⟩

end

/-! ### UL_FRAME_STEERING -/

section
variable {s : State} {f : UlFrame} (hMode : s.obj .pairUlMode 0 = 0)
include hMode

theorem State.forwardUl_off : s.forwardUl f = s := by
  rw [State.forwardUl, if_neg]
  rw [hMode]
  exact fun hOn => absurd hOn.2 (by decide)

/-- Where no entry steers a frame, it is counted. -/
theorem execUlFrameSteering_noEntry (hNone : s.findEntry f none s.steer = none) :
    exec (.ulFrameSteering f) s = .next (s.bump .ulFhNoEntry 0) := by
  rw [exec_ulFrameSteering, execUlFrameSteering]
  simp only [State.forwardUl_off hMode, hNone]

/-- A frame of one section that its entry does not send to a correlator. -/
theorem execUlFrameSteering_section {tc S : Int} {x : Nat} {sec : UlSection}
    (hEntry : s.findEntry f none s.steer = some (tc, x, S)) (hSections : f.sections = [sec]) (hTarget : seTarget x ≠ 1)
    (hJob : s.hasUlJob (seTarget x) (s.landOf x).carrier S = true) :
    exec (.ulFrameSteering f) s = .next ((s.checkSeq f).landSection (s.landOf x) tc S f.arrival sec) := by
  have hJob' : (s.checkSeq f).hasUlJob (seTarget x) (s.landOf x).carrier S = true := by
    obtain ⟨_, _, hFrame, -⟩ := s.checkSeq_frame f
    rw [hFrame]
    exact hJob
  rw [exec_ulFrameSteering, execUlFrameSteering]
  simp only [State.forwardUl_off hMode, hEntry, hJob', hTarget, hSections, Bool.not_true, Bool.false_eq_true, if_false,
    List.foldl_cons, List.foldl_nil]

end

/-! ### The buffer after a section -/

section
variable {b : UlBuf} {tc S : Int}

theorem UlBuf.st_claimed : (b.claimed tc S).st = if b.st = 0 then 1 else b.st := by
  unfold UlBuf.claimed
  split <;> rfl

theorem UlBuf.slot_claimed (hMine : b.st = 0 ∨ (b.slot = S ∧ b.st ≠ 3)) : (b.claimed tc S).slot = S := by
  unfold UlBuf.claimed
  split
  next => rfl
  next hHeld => exact (hMine.resolve_left hHeld).1

theorem UlBuf.landed_claimed (i : Nat) : tabGet 0 (b.claimed tc S).landed i = if b.st = 0 then 0 else tabGet 0 b.landed i := by
  unfold UlBuf.claimed
  split <;> rfl

theorem UlBuf.landed_marked (t : Nat) (sec : UlSection) : tabGet 0 (b.marked t sec).landed (16 * t + sec.symbol)
    = (tabGet 0 b.landed (16 * t + sec.symbol) ||| prbsOf sec) :=
  tabGet_tabSet_same _ _ _ _

end

end Sys2Proof.Machine
end

section
open Sys2Proof Sys2Proof.Machine

/-- Settles O33: a buffer's life command by command, where each command does what it is for. -/
theorem slotBufferLife : Obligations.SlotBufferLife := by
  refine ⟨fun s f sec tc S x hMode => ⟨fun hNone => ?_, fun hEntry hSections hClean hTarget => ?_⟩,
    fun s k a hArm hGained hTime => ?_, fun s k hHeld hDue => execUlReleaseAtDeadline_frees hHeld hDue,
    fun s h r hTakes => ⟨fun hOp hOk hFree hHere => execArm_armed hTakes hOp hOk hFree hHere,
      fun hOp hFields hEarlier hHolds hStores hAlone hRoom =>
        execUlRelease_freed hTakes hRoom hOp hFields hEarlier hHolds hStores hAlone⟩,
    fun s h r a hRun hOp hRoom hArm hReady hMine => ?_⟩
  · exact ⟨_, execUlFrameSteering_noEntry hMode hNone, State.obj_bump _ _ _, rfl⟩
  · intro l k old a n hJob hTime hBuf hRb hPrbs hSymbol hComp hWidth
    have hLanded : s.sectionLanded ((s.checkSeq f).landSection l tc S f.arrival sec) l tc S sec :=
      State.checkSeq_lands f hClean ⟨hTime, hBuf, hRb, hPrbs, hSymbol, hComp, hWidth⟩
    have hLength : (l.sectionBytes sec).length = n := l.length_sectionBytes sec
    refine ⟨_, execUlFrameSteering_section hMode hEntry hSections hTarget hJob, ?_, ?_, ?_, fun j hj => hLanded.stored j (by rwa [hLength]),
      fun b hb => hLanded.kept b (by rwa [hLength]), hLanded.others⟩
    · rw [hLanded.buffer]
      exact UlBuf.slot_claimed hBuf
    · rw [hLanded.buffer]
      exact UlBuf.st_claimed
    · rw [hLanded.buffer, UlBuf.landed_marked, UlBuf.landed_claimed]
      rfl
  · exact ⟨_, execUlWindowClose_closed hArm hGained hTime, State.ulBuf_setUlBuf_same _ _ _,
      fun k' hk' => State.ulBuf_setUlBuf_ne _ _ hk', rfl⟩
  · obtain ⟨t, hExec, hBuf, hIdle, hArms, hReplied⟩ := execUlGainSet_gained hRun hOp hRoom hArm hReady hMine
    refine ⟨t, hExec, by rw [hBuf]; rfl, by rw [hBuf, State.slot_gainedBuf hMine], hIdle, hArms, fun hMode n hn hStream => ?_, hReplied⟩
    have hCode : tabGet 0 (s.gainedBuf a).gains n = _ := State.gainCodes_fixed hMode hn hStream
    rw [hBuf, UlBuf.gain, hCode, if_neg (Nat.succ_ne_zero _), Nat.add_sub_cancel]

end

section
/-! SUPPORT. What the Gallery does with a message is work of memory, the schedulers and the cores alone (R134 to R138, R143). -/

namespace Sys2Proof.Machine

namespace State.workOnly
variable {s t : State}

/-- A list worked through one by one. -/
theorem foldl {α : Type} {f : State → α → State} (hf : ∀ (t : State) x, t.workOnly (f t x)) (h : s.workOnly t) (l : List α) :
    s.workOnly (l.foldl f t) := by
  induction l generalizing t with
  | nil => exact h
  | cons x l ih => exact ih (h.trans (hf t x))

theorem pra (h : s.workOnly t) : t.pra = s.pra := by rw [h.eq]; rfl

theorem praEntry (h : s.workOnly t) (p : Nat) : t.praEntry p = s.praEntry p := by rw [State.praEntry, h.pra, State.praEntry]

theorem doms (h : s.workOnly t) : t.doms = s.doms := by rw [h.eq]; rfl

theorem carriers (h : s.workOnly t) : t.carriers = s.carriers := by rw [h.eq]; rfl

theorem praJobs (h : s.workOnly t) : t.praJobs = s.praJobs := by rw [h.eq]; rfl

/-! ### Threads and their lists -/

theorem setSch (h : s.workOnly t) (i : Nat) (x : SchedSt) : s.workOnly (t.setSch i x) := h.trans ⟨rfl⟩

theorem setCore (h : s.workOnly t) (c : Nat) (k : CoreSt) : s.workOnly (t.setCore c k) := h.trans ⟨rfl⟩

theorem setTcb (h : s.workOnly t) (g hi lo v : Nat) : s.workOnly (t.setTcb g hi lo v) := h.store _ _

theorem relink (h : s.workOnly t) (l : List Nat) : s.workOnly (t.relink l) := by
  fun_induction State.relink t l with
  | case1 => exact h
  | case2 t g => exact h.setTcb g _ _ _
  | case3 t g g' r ih => exact ih (h.setTcb g _ _ _)

theorem schTraceRec (h : s.workOnly t) (i kind core : Nat) (g : Option Nat) (arg : Nat) :
    s.workOnly (t.schTraceRec i kind core g arg) :=
  .ite h (.ite (h.bump _ _) (((h.store _ _).setSch _ _).setObj _ _ _))

theorem countThread (h : s.workOnly t) (i st : Nat) (up : Bool) : s.workOnly (t.countThread i st up) := by
  obtain ⟨_, hCount⟩ := t.countThread_frame i st up
  rw [hCount]
  exact h.trans ⟨rfl⟩

theorem setTState (h : s.workOnly t) (g st : Nat) : s.workOnly (t.setTState g st) :=
  ((h.countThread _ _ _).countThread _ _ _).setTcb _ _ _ _

theorem setReady (h : s.workOnly t) (i p : Nat) (l : List Nat) : s.workOnly (t.setReady i p l) := (h.setSch _ _).relink _

theorem readyTail (h : s.workOnly t) (g : Nat) : s.workOnly (t.readyTail g) := (h.setTState _ _).setReady _ _ _

theorem readyDrop (h : s.workOnly t) (g : Nat) : s.workOnly (t.readyDrop g) := h.setReady _ _ _

theorem setQueue (h : s.workOnly t) (q : Nat) (x : QueueSt) : s.workOnly (t.setQueue q x) := ((h.setSch _ _).relink _).relink _

theorem loadContext (h : s.workOnly t) (g c : Nat) : s.workOnly (t.loadContext g c) := by
  obtain ⟨l, -, hLoad⟩ := t.loadContext_eq g c
  rw [hLoad]
  exact h.trans ⟨rfl⟩

/-! ### Dispatch, preemption and wake -/

theorem placed (h : s.workOnly t) (c g : Nat) : s.workOnly (t.placed c g) :=
  (((((h.readyDrop g).setTState g _).setTcb g _ _ _).setSch _ _).loadContext g c).bump _ _

theorem started (h : s.workOnly t) (c : Nat) : s.workOnly (t.started c) :=
  .ite ((h.setCore _ _).setObj _ _ _) (h.setObj _ _ _)

theorem runThread (h : s.workOnly t) (c g : Nat) : s.workOnly (t.runThread c g) := by
  rw [State.runThread_eq]
  exact ((h.placed c g).schTraceRec _ _ _ _ _).started c

theorem dispatch (h : s.workOnly t) (c : Nat) : s.workOnly (t.dispatch c) := by
  refine .ite ?_ h
  split
  · exact h.runThread _ _
  · exact h

theorem dispatchHall (h : s.workOnly t) (i : Nat) : s.workOnly (t.dispatchHall i) :=
  h.foldl (fun u _ => (State.workOnly.refl u).dispatch _) _

theorem raiseInt (h : s.workOnly t) (c code : Nat) : s.workOnly (t.raiseInt c code) := .ite h (h.setCore _ _)

theorem raisePreempt (h : s.workOnly t) (c g : Nat) : s.workOnly (t.raisePreempt c g) :=
  .ite h (((h.raiseInt _ _).setSch _ _).bump _ _)

theorem preemptFor (h : s.workOnly t) (g : Nat) : s.workOnly (t.preemptFor g) := by
  refine .ite ?_ h
  split
  · exact h.raisePreempt _ _
  · exact h

theorem settle (h : s.workOnly t) (i : Nat) (new : List Nat) : s.workOnly (t.settle i new) :=
  (h.dispatchHall i).foldl (fun u _ => (State.workOnly.refl u).preemptFor _) _

theorem endWait (h : s.workOnly t) (g status : Nat) (msg : Option Nat) : s.workOnly (t.endWait g status msg) := by
  cases msg with
  | none => exact ((((h.store _ _).setSch _ _).setTcb g _ _ _).readyTail g).schTraceRec _ _ _ _ _
  | some m => exact (((((h.store _ _).store _ _).setSch _ _).setTcb g _ _ _).readyTail g).schTraceRec _ _ _ _ _

theorem wake (h : s.workOnly t) (g status : Nat) (msg : Option Nat) : s.workOnly (t.wake g status msg) :=
  (h.endWait g status msg).settle _ _

/-! ### A message arrives -/

theorem notify (h : s.workOnly t) (q : Nat) : s.workOnly (t.notify q) := .ite (h.raiseInt _ _) h

theorem arriveMsg (h : s.workOnly t) (q m : Nat) : s.workOnly (t.arriveMsg q m) := by
  unfold State.arriveMsg
  dsimp only
  split
  · exact (h.setQueue _ _).wake _ _ _
  · exact ((h.store _ _).setQueue _ _).notify q

theorem dropMsg (h : s.workOnly t) (q : Nat) (g : Option Nat) : s.workOnly (t.dropMsg q g) := (h.bump _ _).schTraceRec _ _ _ _ _

/-- A message enters its queue, is held, dropped or lost. -/
theorem hwSend (h : s.workOnly t) (src q m : Nat) : s.workOnly (t.hwSend src q m) :=
  .ite (h.setSch _ _) (.ite (h.setSch _ _) (.ite h (.ite (h.arriveMsg q m) (.ite (h.dropMsg q none) ((h.setSch _ _).bump _ _)))))

end State.workOnly

end Sys2Proof.Machine
end

section
/-! SUPPORT. The open receptions of a correlator entry, each by its bin and metric (R201, R202). -/

namespace Sys2Proof.Machine

/-- Bin and metric of the open receptions on a preamble. -/
def peaksOf (rx : List (Nat × PraRx)) (pre : Nat) : List (Nat × Int) :=
  (rx.filter (fun y => decide (y.1 = pre))).map (fun y => (y.2.bin, y.2.metric))

section
variable {rx : List (Nat × PraRx)} {pre : Nat}

theorem mem_peaksOf {q : Nat} {m : Int} : (q, m) ∈ peaksOf rx pre ↔ ∃ y ∈ rx, y.1 = pre ∧ y.2.bin = q ∧ y.2.metric = m := by
  simp [peaksOf]

theorem peaksOf_eq_nil : peaksOf rx pre = [] ↔ ∀ y ∈ rx, y.1 ≠ pre := by simp [peaksOf]

theorem peaksOf_append (r : PraRx) : peaksOf (rx ++ [(pre, r)]) pre = peaksOf rx pre ++ [(r.bin, r.metric)] := by
  simp [peaksOf]

theorem peaksOf_clipped : peaksOf (rx.map (fun q => (q.1, { q.2 with clip := true }))) pre = peaksOf rx pre := by
  simp [peaksOf, List.filter_map, Function.comp_def]

variable {pre' : Nat} (hNe : pre' ≠ pre)
include hNe

theorem peaksOf_append_ne (r : PraRx) : peaksOf (rx ++ [(pre', r)]) pre = peaksOf rx pre := by simp [peaksOf, hNe]

theorem peaksOf_closed_ne : peaksOf (rx.filter (fun q => decide (q.1 ≠ pre'))) pre = peaksOf rx pre := by
  have hKept : ∀ y : Nat × PraRx, (decide (y.1 = pre) && decide (y.1 ≠ pre')) = decide (y.1 = pre) := fun y => by
    by_cases hy : y.1 = pre
    · simp [hy, hNe.symm]
    · simp [hy]
  simp only [peaksOf, List.filter_filter, hKept]

theorem peaksOf_replaced_ne (r : PraRx) : peaksOf (rx.map (fun q => if q.1 = pre' then (pre', r) else q)) pre = peaksOf rx pre := by
  induction rx with
  | nil => rfl
  | cons y rx ih =>
    by_cases hy : y.1 = pre'
    · simpa [peaksOf, hy, hNe] using ih
    · by_cases hy' : y.1 = pre
      · simpa [peaksOf, hy, hy', hNe.symm] using ih
      · simpa [peaksOf, hy, hy'] using ih

end

end Sys2Proof.Machine
end

section
/-! SUPPORT. What an evaluation of a correlator entry leaves as it was (R196 to R209). -/

namespace Sys2Proof.Machine

/-! ### What occasions and attempts depend on -/

/-- From one state to the other the configuration table, the carriers and the PRACH jobs are the same. -/
structure State.sameOccasions (s t : State) : Prop where
  doms : t.doms = s.doms
  carriers : t.carriers = s.carriers
  praJobs : t.praJobs = s.praJobs

theorem State.workOnly.sameOccasions {s t : State} (h : s.workOnly t) : s.sameOccasions t := ⟨h.doms, h.carriers, h.praJobs⟩

namespace State.sameOccasions
variable {s t u : State}

theorem refl (s : State) : s.sameOccasions s := ⟨rfl, rfl, rfl⟩

theorem trans (h : s.sameOccasions t) (k : t.sameOccasions u) : s.sameOccasions u :=
  ⟨k.doms.trans h.doms, k.carriers.trans h.carriers, k.praJobs.trans h.praJobs⟩

theorem slotsPerFrame (h : s.sameOccasions t) (c : Nat) : t.slotsPerFrame c = s.slotsPerFrame c := by
  simp only [State.slotsPerFrame, State.slotsPerSubframe, State.carrier, h.carriers]

variable {p : Nat} (h : s.sameOccasions t) (hp : p < 256)
include h hp

theorem praCfg : t.praCfg p = s.praCfg p := by simp only [State.praCfg, if_pos hp, State.dom, h.doms]

theorem praRank (S : Int) : t.praRank p S = s.praRank p S := by
  rw [State.praRank, State.praRank, h.praCfg hp, h.slotsPerFrame, h.praJobs, if_pos hp, if_pos hp]

theorem praPlace (S : Int) : t.praPlace p S = s.praPlace p S := by
  simp only [State.praPlace, State.praCount, State.sfnOf, h.praRank hp, h.praCfg hp, h.slotsPerFrame]

end State.sameOccasions

/-! ### What an evaluation keeps -/

/-- The repetition evaluated last, the attempt in progress and the repetitions accumulated in it. -/
def PraSt.progress (e : PraSt) : Option (Int × Nat) × Option Int × List PraRep := (e.last, e.att, e.acc)

/-- From one state to the other entry p evaluated preambles of `l`: its occasions, its progress and THRESHOLD stayed, and so did
the receptions on other preambles. -/
structure State.evaluates (p : Nat) (l : List Nat) (s t : State) : Prop where
  occasions : s.sameOccasions t
  threshold : t.obj .threshold 0 = s.obj .threshold 0
  progress : (t.praEntry p).progress = (s.praEntry p).progress
  peaks : ∀ pre ∉ l, peaksOf (t.praEntry p).rx pre = peaksOf (s.praEntry p).rx pre

@[simp] theorem State.praEntry_setPra (s : State) (p : Nat) (x : PraSt) : (s.setPra p x).praEntry p = x := tabGet_tabSet_same _ _ _ _

@[simp] theorem State.praEntry_store (s : State) (a : Nat) (l : List Byte) (p : Nat) : (s.store a l).praEntry p = s.praEntry p :=
  ((State.workOnly.refl s).store a l).praEntry p

theorem outcomeCounter_ne_threshold (outcome : Nat) : Obj.threshold ≠ outcomeCounter outcome := by
  unfold outcomeCounter
  split <;> decide

namespace State.evaluates
variable {p pre : Nat} {l : List Nat} {s t u : State}

theorem refl (p : Nat) (l : List Nat) (s : State) : s.evaluates p l s := ⟨.refl s, rfl, rfl, fun _ _ => rfl⟩

theorem trans (h : s.evaluates p l t) (k : t.evaluates p l u) : s.evaluates p l u :=
  ⟨h.occasions.trans k.occasions, k.threshold.trans h.threshold, k.progress.trans h.progress,
    fun pre hPre => (k.peaks pre hPre).trans (h.peaks pre hPre)⟩

/-- A step written as a split on a condition. -/
theorem ite {c : Prop} [Decidable c] (h : s.evaluates p l t) (k : s.evaluates p l u) : s.evaluates p l (if c then t else u) := by
  split
  · exact h
  · exact k

theorem pcThreshold (h : s.evaluates p l t) (hp : p < 256) : t.pcThreshold (t.praCfg p) = s.pcThreshold (s.praCfg p) := by
  simp only [State.pcThreshold, State.pcDefault, State.objN, h.occasions.praCfg hp, h.threshold]

/-! ### Single changes -/

theorem of_work (h : s.evaluates p l t) (k : t.workOnly u) (hThreshold : u.obj .threshold 0 = t.obj .threshold 0) :
    s.evaluates p l u :=
  h.trans ⟨k.sameOccasions, hThreshold, by rw [k.praEntry], fun _ _ => by rw [k.praEntry]⟩

theorem setObj (h : s.evaluates p l t) {o : Obj} (n : Nat) (v : Int) (ho : Obj.threshold ≠ o) : s.evaluates p l (t.setObj o n v) :=
  h.of_work ((State.workOnly.refl t).setObj o n v) (State.obj_setObj_of_ne _ _ _ _ ho)

theorem bump (h : s.evaluates p l t) {o : Obj} (n : Nat) (ho : Obj.threshold ≠ o) : s.evaluates p l (t.bump o n) := h.setObj _ _ ho

theorem bumpIf (h : s.evaluates p l t) (b : Bool) {o : Obj} (n : Nat) (ho : Obj.threshold ≠ o) : s.evaluates p l (t.bumpIf b o n) :=
  .ite (h.bump n ho) h

theorem store (h : s.evaluates p l t) (a : Nat) (x : List Byte) : s.evaluates p l (t.store a x) :=
  h.of_work ((State.workOnly.refl t).store a x) (State.obj_store _ _ _ _ (by decide) (by decide))

theorem setPra (h : s.evaluates p l t) {x : PraSt} (hProgress : x.progress = (t.praEntry p).progress)
    (hPeaks : ∀ pre ∉ l, peaksOf x.rx pre = peaksOf (t.praEntry p).rx pre) : s.evaluates p l (t.setPra p x) :=
  h.trans ⟨⟨rfl, rfl, rfl⟩, rfl, by rw [State.praEntry_setPra, hProgress],
    fun pre hPre => by rw [State.praEntry_setPra, hPeaks pre hPre]⟩

/-! ### Receptions on a preamble of the list -/

section
variable (hPre : pre ∈ l)
include hPre

theorem praUpdate (h : s.evaluates p l t) (r : PraRx) : s.evaluates p l (t.praUpdate p pre r) :=
  h.setPra rfl fun _ hOther => peaksOf_replaced_ne (ne_of_mem_of_not_mem hPre hOther) r

theorem praOpenAt (h : s.evaluates p l t) (r : PraRx) : s.evaluates p l (t.praOpenAt p pre r) := by
  have hOpened : s.evaluates p l (t.setPra p { t.praEntry p with rx := (t.praEntry p).rx ++ [(pre, r)] }) :=
    h.setPra rfl fun _ hOther => peaksOf_append_ne (ne_of_mem_of_not_mem hPre hOther) r
  exact .ite hOpened (hOpened.setObj _ _ (o := .praOpen) (by decide))

theorem praSearch (h : s.evaluates p l t) (gain : Nat) (prof : PraProfile) (ev : PraEval) :
    s.evaluates p l (t.praSearch p pre gain prof ev) := by
  unfold State.praSearch
  split
  · exact .ite (h.praOpenAt hPre _) h
  · exact h

variable (hp : p < 256)
include hp

theorem praClose (h : s.evaluates p l t) (r : PraRx) (outcome : Nat) : s.evaluates p l (t.praClose p pre r outcome) := by
  rw [State.praClose, if_neg (by omega)]
  refine .setObj (o := .praOpen) (.bump (.setPra (h.store _ _) ?_ fun other hOther => ?_) _ (outcomeCounter_ne_threshold outcome))
    _ _ (by decide)
  · rw [State.praEntry_store]
    rfl
  · rw [State.praEntry_store]
    exact peaksOf_closed_ne (ne_of_mem_of_not_mem hPre hOther)

theorem praReceive (h : s.evaluates p l t) (gain : Nat) (prof : PraProfile) (ev : PraEval) (r : PraRx) :
    s.evaluates p l (t.praReceive p pre gain prof ev r).1 := by
  unfold State.praReceive
  extract_lets x profile tol lock m r'
  have hClosed := h.praClose hPre hp r'
  have hUpdated := h.praUpdate hPre
  split
  · exact (hClosed _).praSearch hPre gain prof ev
  · split
    · split
      · split
        · exact ((hClosed _).bumpIf _ _ (by decide)).praOpenAt hPre _
        · exact (hUpdated _).bumpIf _ _ (by decide)
      · exact hUpdated _
    · exact hUpdated _

theorem praLast (h : s.evaluates p l t) (ev : PraEval) : s.evaluates p l (t.praLast p pre ev) := by
  unfold State.praLast
  split
  · exact .ite (h.praClose hPre hp _ _) h
  · exact h

end

theorem praClip (h : s.evaluates p l t) (ev : PraEval) : s.evaluates p l (t.praClip p ev) :=
  .ite (h.setPra rfl fun _ _ => peaksOf_clipped) h

theorem praGains (h : s.evaluates p l t) (measured : List (Nat × Nat)) (captured : Bool) :
    s.evaluates p l (t.praGains p measured captured) := h.setPra rfl fun _ _ => rfl

end State.evaluates

end Sys2Proof.Machine
end

section
/-! SUPPORT. An evaluation of all preambles of an entry (R200 to R207). -/

namespace Sys2Proof.Machine

/-! ### One preamble -/

/-- One preamble of an entry is evaluated; `b.2` tells whether a capture happened before. -/
def State.evalPreamble (p gain : Nat) (prof : PraProfile) (ev : PraEval) (b : State × Bool) (pre : Nat) : State × Bool :=
  match (b.1.praEntry p).rx.find? (fun z => decide (z.1 = pre)) with
  | some (_, r) => let w := b.1.praReceive p pre gain prof ev r; (w.1, b.2 || w.2)
  | none => (b.1.praSearch p pre gain prof ev, b.2)

theorem State.praEvalAll_eq (s : State) (p gain : Nat) (prof : PraProfile) (ev : PraEval) :
    s.praEvalAll p gain prof ev = (List.range (pcNpre (s.praCfg p))).foldl (State.evalPreamble p gain prof ev) (s, false) := rfl

section
variable {s : State} {p pre gain : Nat} {prof : PraProfile} {ev : PraEval}

theorem State.evalPreamble_search {captured : Bool} (hNone : peaksOf (s.praEntry p).rx pre = []) :
    State.evalPreamble p gain prof ev (s, captured) pre = (s.praSearch p pre gain prof ev, captured) := by
  have hFind : (s.praEntry p).rx.find? (fun z => decide (z.1 = pre)) = none :=
    List.find?_eq_none.mpr fun y hy => by simpa using peaksOf_eq_nil.mp hNone y hy
  rw [State.evalPreamble, hFind]

theorem State.praEntry_praOpenAt (r : PraRx) :
    (s.praOpenAt p pre r).praEntry p = { s.praEntry p with rx := (s.praEntry p).rx ++ [(pre, r)] } := by
  unfold State.praOpenAt
  dsimp only
  split
  · exact State.praEntry_setPra _ _ _
  · exact State.praEntry_setPra _ _ _

/-- A search opens a reception at the highest metric, if it reaches THRESHOLD. -/
theorem State.peaksOf_praSearch {q : Nat} {m : Int} (hBest : bestBin (fun _ => true) (ev.metrics.getD pre []) = some (q, m)) :
    peaksOf ((s.praSearch p pre gain prof ev).praEntry p).rx pre
      = peaksOf (s.praEntry p).rx pre ++ if (s.pcThreshold (s.praCfg p) : Int) ≤ m then [(q, m)] else [] := by
  rw [State.praSearch, hBest]
  dsimp only
  split
  · rw [State.praEntry_praOpenAt, peaksOf_append]
    rfl
  · rw [List.append_nil]

variable (hp : p < 256)
include hp

theorem State.evaluates.evalPreamble {t : State} {l : List Nat} {captured : Bool} (hPre : pre ∈ l) (h : s.evaluates p l t) :
    s.evaluates p l (State.evalPreamble p gain prof ev (t, captured) pre).1 := by
  unfold State.evalPreamble
  dsimp only
  split
  · exact h.praReceive hPre hp _ _ _ _
  · exact h.praSearch hPre _ _ _

/-! ### All preambles -/

theorem State.evaluates_preambles (l : List Nat) (captured : Bool) :
    s.evaluates p l (l.foldl (State.evalPreamble p gain prof ev) (s, captured)).1 :=
  List.foldlRecOn (motive := fun (b : State × Bool) => s.evaluates p l b.1) l _ (.refl p l s) fun _ hb _ hPre => hb.evalPreamble hp hPre

/-- On a preamble without a reception: those before and after it leave it, and its own evaluation is a search. -/
theorem State.peaksOf_praEvalAll {q : Nat} {m : Int} (hPre : pre < pcNpre (s.praCfg p)) (hNone : peaksOf (s.praEntry p).rx pre = [])
    (hBest : bestBin (fun _ => true) (ev.metrics.getD pre []) = some (q, m)) :
    peaksOf ((s.praEvalAll p gain prof ev).1.praEntry p).rx pre
      = if (s.pcThreshold (s.praCfg p) : Int) ≤ m then [(q, m)] else [] := by
  obtain ⟨l, r, hSplit⟩ := List.append_of_mem (List.mem_range.mpr hPre)
  have hApart : pre ∉ l ++ r := (List.nodup_cons.mp (List.nodup_middle.mp (hSplit ▸ List.nodup_range))).1
  obtain ⟨hBefore, hAfter⟩ := not_or.mp (List.mem_append.not.mp hApart)
  rw [State.praEvalAll_eq, hSplit, List.foldl_append, List.foldl_cons]
  have hReached := State.evaluates_preambles (s := s) (gain := gain) (prof := prof) (ev := ev) hp l false
  generalize l.foldl (State.evalPreamble p gain prof ev) (s, false) = b at hReached
  have hNone' : peaksOf (b.1.praEntry p).rx pre = [] := (hReached.peaks pre hBefore).trans hNone
  rw [State.evalPreamble_search hNone', (State.evaluates_preambles hp r b.2).peaks pre hAfter, State.peaksOf_praSearch hBest, hNone',
    hReached.pcThreshold hp, List.nil_append]

end

/-! ### A repetition -/

/-- The repetitions accumulated with that of slot S. -/
def State.accumulated (s : State) (p : Nat) (S : Int) (streams : List Nat) (missing : Bool) (prof : PraProfile) : List PraRep :=
  (if (s.praEntry p).att = some (s.praAttempt p S) then (s.praEntry p).acc else [])
    ++ [PraRep.mk (streams.map (praCode (s.praCfg p) (s.praEntry p))) prof.corr missing]

/-- What the evaluation of repetition `rep` in slot S knows besides delays and levels. -/
def State.praEvalAt (s : State) (p : Nat) (S : Int) (rep : Nat) (clip : Bool) (acc : List PraRep) (prof : PraProfile) : PraEval :=
  let x := s.praCfg p
  let k := s.praPlace p S * praReps x + rep
  ⟨k, acc.length, decide (k + 1 = praReps x * pcReps x), clip, acc.any (fun r => r.missing),
    praMetrics x (s.carrier (pcCarrier x)).mu s.freeCtr acc prof.delays⟩

/-- The entry with the repetition accumulated. -/
def State.begunEntry (s : State) (p : Nat) (S : Int) (rep : Nat) (acc : List PraRep) : PraSt :=
  let e := s.praEntry p
  let begun := decide (e.att = some (s.praAttempt p S))
  { e with
    last := some (S, rep), att := some (s.praAttempt p S), acc := acc
    sfn := if begun then e.sfn else s.sfnOf (pcCarrier (s.praCfg p)) S
    slot := if begun then e.slot else s.slotInFrame (pcCarrier (s.praCfg p)) S }

/-- The preambles evaluated, the receptions closed that the attempt's last repetition closes, CLIP and the gain set. -/
def State.evaluated (s : State) (p gain : Nat) (prof : PraProfile) (ev : PraEval) (measured : List (Nat × Nat)) : State :=
  let r := s.praEvalAll p gain prof ev
  (((List.range (pcNpre (s.praCfg p))).foldl (fun u pre => u.praLast p pre ev) r.1).praClip p ev).praGains p measured r.2

theorem State.praEvaluate_eq (s : State) (p : Nat) (S : Int) (rep : Nat) (streams : List Nat) (clip missing : Bool)
    (measured : List (Nat × Nat)) (prof : PraProfile) :
    s.praEvaluate p S rep streams clip missing measured prof
      = (s.setPra p (s.begunEntry p S rep (s.accumulated p S streams missing prof))).freeUsed.evaluated p
          ((streams.map (praCode (s.praCfg p) (s.praEntry p))).foldl min 255) prof
          (s.praEvalAt p S rep clip (s.accumulated p S streams missing prof) prof) measured := by
  simp only [State.praEvaluate, State.evaluated, State.praEvalAt, State.begunEntry, State.accumulated, decide_eq_true_eq]
  rfl

/-- Before the attempt's last repetition no reception closes at the end of the evaluation. -/
theorem State.praLast_of_not_last (s : State) (p pre : Nat) {ev : PraEval} (hLast : ev.last = false) : s.praLast p pre ev = s := by
  unfold State.praLast
  split
  · rw [hLast, if_neg Bool.false_ne_true]
  · rfl

section
variable {s : State} {p pre gain : Nat} {prof : PraProfile} {ev : PraEval} {measured : List (Nat × Nat)} (hp : p < 256)
include hp

theorem State.evaluates_evaluated : s.evaluates p (List.range (pcNpre (s.praCfg p))) (s.evaluated p gain prof ev measured) :=
  .praGains (.praClip (List.foldlRecOn (motive := s.evaluates p _) _ _ (State.evaluates_preambles hp _ false)
    fun _ hb _ hPre => hb.praLast hPre hp ev) ev) _ _

theorem State.peaksOf_evaluated {q : Nat} {m : Int} (hLast : ev.last = false) (hPre : pre < pcNpre (s.praCfg p))
    (hNone : peaksOf (s.praEntry p).rx pre = []) (hBest : bestBin (fun _ => true) (ev.metrics.getD pre []) = some (q, m)) :
    peaksOf ((s.evaluated p gain prof ev measured).praEntry p).rx pre
      = if (s.pcThreshold (s.praCfg p) : Int) ≤ m then [(q, m)] else [] := by
  have hClosed : ∀ (l : List Nat) (u : State), l.foldl (fun u pre => u.praLast p pre ev) u = u := fun l u =>
    List.foldlRecOn (motive := (· = u)) l _ rfl fun b hb x _ => (b.praLast_of_not_last p x hLast).trans hb
  rw [← State.peaksOf_praEvalAll hp hPre hNone hBest, State.evaluated, hClosed]
  exact ((State.evaluates.refl p [] _).praClip ev |>.praGains _ _).peaks pre (List.not_mem_nil)

end

end Sys2Proof.Machine
end

section
/-! SUPPORT. The command of an evaluation (R165, R194, R209). -/

namespace Sys2Proof.Machine

/-! ### The counts before an evaluation -/

/-- Whether some component of the repetition saturates (R207). -/
def State.praSaturated (s : State) (p : Nat) (S : Int) (rep : Nat) : Bool :=
  (praStreams (s.praSteer p S) p).any (fun t =>
    (s.praUnitsOf p S t rep).any (fun v => v.any (clips (praCode (s.praCfg p) (s.praEntry p) t))))

/-- Whether some unit of the repetition was read as zero (R208). -/
def State.praMissing (s : State) (p : Nat) (S : Int) (rep : Nat) : Bool := decide (s.praLacks p S rep ≠ 0) || s.praReleased p S

/-- The codes measured on the repetition, each with whether it is the fallback (R203). -/
def State.praMeasured (s : State) (p : Nat) (S : Int) (rep : Nat) : List (Nat × Nat × Bool) :=
  if bits (s.praCfg p) 76 76 = 1 then [] else (praStreams (s.praSteer p S) p).map (fun t => (t, s.praMeasure p S t rep))

/-- The objects that count what the repetition lacks, that it saturates, and its fallback codes. -/
def repetitionCounts : List Obj := [.ulFhMissingPrb, .praClipReps, .ulGainFallback]

/-- The state with these counted. -/
def State.repetitionCounted (s : State) (p : Nat) (S : Int) (rep : Nat) : State :=
  let x := s.praCfg p
  let u := (s.bumpBy .ulFhMissingPrb (s.hallOf (pcCarrier x)) (s.praLacks p S rep)).bumpIf (s.praSaturated p S rep) .praClipReps (pcCorr x)
  u.bumpBy .ulGainFallback (u.hallOf (pcCarrier x)) ((s.praMeasured p S rep).filter (fun q => q.2.2)).length

section
variable (s : State) (p : Nat) (S : Int) (rep : Nat)

theorem State.repetitionCounted_frame : ∃ os, s.repetitionCounted p S rep = { s with objs := os }
    ∧ ∀ o n, o ∉ repetitionCounts → (s.repetitionCounted p S rep).obj o n = s.obj o n := by
  refine ⟨(s.repetitionCounted p S rep).objs, ?_, fun o n ho => ?_⟩
  · unfold State.repetitionCounted State.bumpIf
    dsimp only
    split <;> rfl
  · obtain ⟨hMissing, hClip, hFallback⟩ : o ≠ .ulFhMissingPrb ∧ o ≠ .praClipReps ∧ o ≠ .ulGainFallback := by
      simpa [repetitionCounts] using ho
    rw [State.repetitionCounted, State.bumpBy, State.obj_setObj_of_ne _ _ _ _ hFallback, State.obj_bumpIf_of_ne _ _ _ _ hClip,
      State.bumpBy, State.obj_setObj_of_ne _ _ _ _ hMissing]

theorem State.praReleased_repetitionCounted : (s.repetitionCounted p S rep).praReleased p S = s.praReleased p S := by
  obtain ⟨os, hFrame, hObjs⟩ := s.repetitionCounted_frame p S rep
  have hSlots : s.sameSlots (s.repetitionCounted p S rep) := ⟨by rw [hFrame], by rw [hFrame], by rw [hFrame], by rw [hFrame],
    fun o n ho => hObjs o n (by
      have hApart : ∀ o ∈ slotObjs, o ∉ repetitionCounts := by decide
      exact hApart o ho)⟩
  simp only [State.praReleased, State.praBuf, State.tableFor, hSlots.slotStart]
  rw [hFrame]
  rfl

/-! ### The command -/

/-- The repetition counted and evaluated, before the message of its occasion. -/
def State.repetitionEvaluated (prof : PraProfile) : State :=
  (s.repetitionCounted p S rep).praEvaluate p S rep (praStreams (s.praSteer p S) p) (s.praSaturated p S rep) (s.praMissing p S rep)
    ((s.praMeasured p S rep).map (fun q => (q.1, q.2.1))) prof

variable {s S rep}

theorem execPraEvaluation_evaluates {p : Fin 256} (prof : PraProfile) (hUsed : pcUsed (s.praCfg p) = true)
    (hRuns : (s.unit (unitBlock (pcCorr (s.praCfg p) / 2))).st = unitRunning)
    (hJob : s.hasUlJob 1 (pcCarrier (s.praCfg p)) S = true) (hNext : s.praNext p S rep = true) (hReady : s.praReady p S rep = true) :
    exec (.praEvaluation p S rep prof) s = .next (if rep + 1 = praReps (s.praCfg p)
      then (s.repetitionEvaluated p S rep prof).praMessage p S else s.repetitionEvaluated p S rep prof) := by
  have hActs : ¬((!pcUsed (s.praCfg p)) = true ∨ (s.unit (unitBlock (pcCorr (s.praCfg p) / 2))).st ≠ unitRunning
      ∨ (!s.hasUlJob 1 (pcCarrier (s.praCfg p)) S) = true ∨ (!s.praNext p S rep) = true ∨ (!s.praReady p S rep) = true) := by
    simp [hUsed, hRuns, hJob, hNext, hReady]
  rw [State.repetitionEvaluated, State.praMissing, ← State.praReleased_repetitionCounted s p S rep]
  exact congrArg Host.Outcome.next (if_neg hActs)

end

/-! ### The message of an occasion -/

theorem State.praEntry_praMessage (s : State) (p : Nat) (S : Int) :
    (s.praMessage p S).praEntry p = { s.praEntry p with since := 0 } := by
  have hPaced := fun u slack => (State.workOnly.refl (s.setPra p { s.praEntry p with since := 0 })).paceCompletion u slack false
  exact (((hPaced _ _).hwSend _ _ _).praEntry p).trans (State.praEntry_setPra _ _ _)

/-- The message changes the count of records since the last alone, if it is sent. -/
theorem State.praEntry_reported (s : State) (p : Nat) (S : Int) (c : Prop) [Decidable c] :
    ∃ n, (if c then s.praMessage p S else s).praEntry p = { s.praEntry p with since := n } := by
  split
  · exact ⟨0, s.praEntry_praMessage p S⟩
  · exact ⟨_, rfl⟩

/-! ### Repetitions in order -/

/-- After repetition `rep` the occasion's next is the one after it. -/
theorem State.praNext_succ {s t : State} {p : Nat} {S : Int} {rep : Nat} (hp : p < 256) (hSame : s.sameOccasions t)
    (hNext : s.praNext p S rep = true) (hLast : (t.praEntry p).last = some (S, rep)) (hRep : rep + 1 < praReps (s.praCfg p)) :
    t.praNext p S (rep + 1) = true := by
  simp only [State.praNext, Bool.and_eq_true, decide_eq_true_eq] at hNext
  obtain ⟨⟨⟨⟨⟨-, hSlot⟩, hRank⟩, hPlace⟩, -⟩, -⟩ := hNext
  simp [State.praNext, hSame.praCfg hp, hSame.praRank hp, hSame.praPlace hp, hRep, hSlot, hRank, hPlace, PraSt.fresh, hLast]

/-! ### What the evaluation of a repetition leaves -/

section
variable {s : State} {p : Nat} {S : Int} {rep : Nat} {prof : PraProfile}

/-- The repetitions accumulated with this one. -/
def State.repetitionsWith (s : State) (p : Nat) (S : Int) (rep : Nat) (prof : PraProfile) : List PraRep :=
  s.accumulated p S (praStreams (s.praSteer p S) p) (s.praMissing p S rep) prof

/-- The state as the preambles begin to be evaluated. -/
def State.repetitionBegun (s : State) (p : Nat) (S : Int) (rep : Nat) (prof : PraProfile) : State :=
  ((s.repetitionCounted p S rep).setPra p (s.begunEntry p S rep (s.repetitionsWith p S rep prof))).freeUsed

theorem State.repetitionEvaluated_eq : s.repetitionEvaluated p S rep prof
    = (s.repetitionBegun p S rep prof).evaluated p
        (((praStreams (s.praSteer p S) p).map (praCode (s.praCfg p) (s.praEntry p))).foldl min 255) prof
        (s.praEvalAt p S rep (s.praSaturated p S rep) (s.repetitionsWith p S rep prof) prof)
        ((s.praMeasured p S rep).map (fun q => (q.1, q.2.1))) := by
  obtain ⟨os, hFrame, -⟩ := s.repetitionCounted_frame p S rep
  rw [State.repetitionEvaluated, State.praEvaluate_eq, State.repetitionBegun, hFrame]
  rfl

/-- The metrics that the evaluation finds. -/
theorem State.metrics_praEvalAt (clip : Bool) :
    (s.praEvalAt p S rep clip (s.repetitionsWith p S rep prof) prof).metrics = evalMetrics s p S rep prof := rfl

theorem State.sameOccasions_repetitionBegun : s.sameOccasions (s.repetitionBegun p S rep prof) := by
  obtain ⟨os, hFrame, -⟩ := s.repetitionCounted_frame p S rep
  rw [State.repetitionBegun, hFrame]
  exact ⟨rfl, rfl, rfl⟩

theorem State.praEntry_repetitionBegun :
    (s.repetitionBegun p S rep prof).praEntry p = s.begunEntry p S rep (s.repetitionsWith p S rep prof) :=
  State.praEntry_setPra _ _ _

variable (hp : p < 256)
include hp

theorem State.pcThreshold_repetitionBegun :
    (s.repetitionBegun p S rep prof).pcThreshold ((s.repetitionBegun p S rep prof).praCfg p) = s.pcThreshold (s.praCfg p) := by
  obtain ⟨-, -, hObjs⟩ := s.repetitionCounted_frame p S rep
  have hThreshold : (s.repetitionBegun p S rep prof).obj .threshold 0 = s.obj .threshold 0 := hObjs .threshold 0 (by decide)
  rw [State.sameOccasions_repetitionBegun.praCfg hp]
  simp only [State.pcThreshold, State.pcDefault, State.objN, hThreshold]

theorem State.evaluates_repetition : (s.repetitionBegun p S rep prof).evaluates p
    (List.range (pcNpre ((s.repetitionBegun p S rep prof).praCfg p))) (s.repetitionEvaluated p S rep prof) := by
  rw [State.repetitionEvaluated_eq]
  exact State.evaluates_evaluated hp

theorem State.sameOccasions_repetitionEvaluated : s.sameOccasions (s.repetitionEvaluated p S rep prof) :=
  State.sameOccasions_repetitionBegun.trans (State.evaluates_repetition hp).occasions

theorem State.progress_repetitionEvaluated : ((s.repetitionEvaluated p S rep prof).praEntry p).progress
    = (some (S, rep), some (s.praAttempt p S), s.repetitionsWith p S rep prof) := by
  rw [(State.evaluates_repetition hp).progress, State.praEntry_repetitionBegun]
  rfl

/-- Before the attempt's last repetition a preamble without a reception has one afterwards if, and only if, its highest metric
reaches THRESHOLD, and that one at the metric's bin. -/
theorem State.peaksOf_repetitionEvaluated {pre q : Nat} {m : Int} (hPre : pre < pcNpre (s.praCfg p))
    (hNone : peaksOf (s.praEntry p).rx pre = [])
    (hLast : s.praPlace p S * praReps (s.praCfg p) + rep + 1 ≠ praReps (s.praCfg p) * pcReps (s.praCfg p))
    (hBest : bestBin (fun _ => true) ((evalMetrics s p S rep prof).getD pre []) = some (q, m)) :
    peaksOf ((s.repetitionEvaluated p S rep prof).praEntry p).rx pre
      = if (s.pcThreshold (s.praCfg p) : Int) ≤ m then [(q, m)] else [] := by
  rw [State.repetitionEvaluated_eq, State.peaksOf_evaluated hp (q := q) (m := m) (decide_eq_false hLast),
    State.pcThreshold_repetitionBegun hp]
  · rwa [State.sameOccasions_repetitionBegun.praCfg hp]
  · rw [State.praEntry_repetitionBegun]
    exact hNone
  · rwa [State.metrics_praEvalAt]

end

end Sys2Proof.Machine
end

section
open Sys2Proof Sys2Proof.Machine

/-- Settles O36: the evaluation's first step accumulates the repetition, and no later step changes which were evaluated; on a preamble
without a reception the evaluations of the other preambles leave it, its own is a search, and before the attempt's last repetition
nothing closes. -/
theorem preambleDetectionOpensReception : Obligations.PreambleDetectionOpensReception := by
  intro s p S rep prof x e hUsed hRuns hJob hNext hReady
  obtain ⟨n, hEntry⟩ := (s.repetitionEvaluated p S rep prof).praEntry_reported p S (rep + 1 = praReps x)
  have hProgress := State.progress_repetitionEvaluated (s := s) (S := S) (rep := rep) (prof := prof) p.isLt
  simp only [PraSt.progress, Prod.mk.injEq] at hProgress
  obtain ⟨hLast, hAtt, hAcc⟩ := hProgress
  refine ⟨_, execPraEvaluation_evaluates prof hUsed hRuns hJob hNext hReady, ?_, ?_, ?_, fun hRep => ?_,
    fun pre q m hPre hNone hMore hBest => ?_⟩
  · rw [hEntry, hLast]
  · rw [hEntry, hAtt]
  · rw [hEntry, hAcc, State.repetitionsWith, State.accumulated, List.length_append, apply_ite List.length]
    rfl
  · rw [if_neg hRep.ne]
    exact State.praNext_succ p.isLt (State.sameOccasions_repetitionEvaluated p.isLt) hNext hLast hRep
  · have hPeaks := State.peaksOf_repetitionEvaluated p.isLt hPre (peaksOf_eq_nil.mpr hNone) hMore hBest
    rw [hEntry]
    refine ⟨fun hReached => mem_peaksOf.mp ?_, fun hBelow => peaksOf_eq_nil.mp ?_⟩
    · rw [hPeaks, if_pos hReached]
      exact List.mem_singleton_self _
    · rw [hPeaks, if_neg (not_le.mpr hBelow)]

end

section
/-! SUPPORT. A descriptor taken to a shared codec (R215, R305): the burst ends where the head of the queue changes. And a queue whose
first two messages are equal. -/

namespace Sys2Proof.Machine

/-- A take that leaves the same message at the head of the queue keeps the grant. -/
theorem State.granted_sameHead {s : State} {k i h e : Nat} {f : State → State} (hGrant : s.arbHold k = i)
    (hHead : (f s).engHead h e = s.engHead h e) : s.granted k i h e f = f s := by
  simp only [State.granted, if_pos hGrant, if_pos hHead]

/-- The head left by a descriptor that goes to a codec is the message behind it. -/
theorem State.engHead_toCodec (s : State) (h e k : Nat) (r : EngRun) :
    (s.toCodec h e k r).engHead h e = ((tabGet [] (s.sch h).engq (0xF0 + e)).drop 1).head? := by
  have hSch : (s.toCodec h e k r).sch h = (s.engPop h e).sch h := rfl
  rw [State.engHead, hSch, State.engPop, State.sch_setSch_same, tabGet_tabSet_same]

theorem State.arbHold_toCodec (s : State) (h e k : Nat) (r : EngRun) (j : Nat) : (s.toCodec h e k r).arbHold j = s.arbHold j := rfl

/-- A POLAR that passes its checks goes to the free codec, and the grant stays if the message behind it is equal to its own. -/
theorem execPolar_sameHead {s : State} {h : Fin 16} {r : EngRun} {k : Nat} (hTakes : engTakes s h 7 r) (hOp : dOp r.desc = 0xA)
    (hSlot : s.slotFieldsOk r.desc = true) (hOk : polarOk r.desc = true) (hFree : s.freeCodec h 7 = some k)
    (hGrant : s.arbHold (sharedArb h 7) = h % 8)
    (hNext : ((tabGet [] (s.sch h).engq 0xF7).drop 1).head? = s.engHead h 7) :
    exec (.polar h none) s = .next (s.toCodec h 7 k r) := by
  have hTaken : s.takeHead h 7 [0xA] (fun r s => s.polarTaken h k r) = s.toCodec h 7 k r := by
    rw [State.takeHead_acts hTakes (by rw [hOp]; rfl) (by rw [hOp]; rfl), State.polarTaken, hSlot, hOk]
    rfl
  have hGranted : s.granted (sharedArb h 7) (h % 8) h 7 (fun s => s.takeHead h 7 [0xA] (fun r s => s.polarTaken h k r))
      = s.toCodec h 7 k r :=
    (State.granted_sameHead hGrant (by rw [hTaken, State.engHead_toCodec, hNext])).trans hTaken
  rw [exec_polar, execPolar]
  simp only [hFree, hGranted]

/-- A POLAR that encodes 20 bits to 100, with its reply in queue 3. -/
def polarEncode : Nat :=
  3 * 2 ^ 56 + 0xA * 2 ^ 52 + 0x80000 * 2 ^ 456 + 0x90000 * 2 ^ 432 + 20 * 2 ^ 417 + 100 * 2 ^ 403

/-- A device whose hall 0 holds the grant of its die's polar codecs, with two messages of one descriptor in the queue, both at place 0
in the order of arrival. -/
def polarQueuedTwice : State :=
  { State.reset with
    mem := memWrite State.reset.mem (terraceBase 0 + 0x8000) (leBytes 64 polarEncode)
    sched := [(0, { SchedSt.reset with
      engq := [(0xF7, [(0, 0x8000), (0, 0x8000)])], queues := [(3, ⟨0x8207, 0x20000, 0, 0, [], []⟩)] })] }.setObj .arbHolder 200 0

/-- Its first message as the engine takes it. -/
def polarRun : EngRun := ⟨0x8000, polarQueuedTwice.readDesc 0 0x8000, 0, polarQueuedTwice.now⟩

theorem engTakes_polarRun : engTakes polarQueuedTwice 0 7 polarRun :=
  ⟨by decide +kernel, by decide +kernel, rfl, by simp only [polarRun], by decide +kernel, 0x8000,
    by decide +kernel, by decide +kernel, by decide +kernel⟩

theorem replyRoom_polarRun : replyRoom polarQueuedTwice 0 polarRun.desc := by
  unfold replyRoom queueRoom
  decide +kernel

end Sys2Proof.Machine

section
open Sys2Proof Sys2Proof.Machine

/-- Refutes O35: its clause on POLAR has the burst over at each take, but `State.granted` ends a burst where the head of the queue is
another one afterwards: behind an equal message the hall keeps the grant. The device is one that no sequence of commands leads to: only
`State.pushEngine` adds to a hall's engine queues, and it gives each message a place of its own in the order of arrival. -/
theorem not_codingDescriptors : ¬ Obligations.CodingDescriptors := by
  intro ⟨hTaken, _⟩
  have hOp : dOp polarRun.desc = 0xA := by decide +kernel
  have hSlot : polarQueuedTwice.slotFieldsOk polarRun.desc = true := by decide +kernel
  have hOk : polarOk polarRun.desc = true := by decide +kernel
  have hFree : polarQueuedTwice.freeCodec (0 : Fin 16) 7 = some 0 := by decide +kernel
  have hGrant : polarQueuedTwice.arbHold (sharedArb (0 : Fin 16) 7) = (0 : Fin 16) % 8 := by decide +kernel
  obtain ⟨-, -, hPolar, -⟩ := hTaken polarQueuedTwice 0 polarRun replyRoom_polarRun
  obtain ⟨t, hExec, -, -, -, hReleased, -⟩ := hPolar 0 engTakes_polarRun hOp hSlot hOk hFree hGrant
  obtain rfl := Host.Outcome.next.inj
    (hExec.symm.trans (execPolar_sameHead engTakes_polarRun hOp hSlot hOk hFree hGrant (by decide +kernel)))
  rw [State.arbHold_toCodec, hGrant] at hReleased
  exact absurd hReleased (by decide)
end
end

section
/-! SUPPORT. The objects that a message of the Gallery's hardware changes (R134 to R138, R143, R154, R155). -/

namespace Sys2Proof.Machine

/-- The objects of memory, the schedulers, their traces and the cores that an arriving message changes. -/
def messageObjs : List Obj :=
  [.eccLogUsed, .ddrFillBlocks, .schReadyThreads, .schWaitingThreads, .schFreeThreads, .schTraceWptr, .schTraceDrops, .schDispatches,
    .schPreemptions, .schQueueDrops, .galHolds, .coreState, .corePc]

/-- From one state to the other no other object changed. -/
def State.messageOnly (s t : State) : Prop := ∀ o n, o ∉ messageObjs → t.obj o n = s.obj o n

namespace State.messageOnly
variable {s t u : State}

theorem refl (s : State) : s.messageOnly s := fun _ _ _ => rfl

theorem trans (h : s.messageOnly t) (k : t.messageOnly u) : s.messageOnly u := fun o n ho => (k o n ho).trans (h o n ho)

/-- A step written as a split on a condition. -/
theorem ite {c : Prop} [Decidable c] (h : s.messageOnly t) (k : s.messageOnly u) : s.messageOnly (if c then t else u) := by
  split
  · exact h
  · exact k

/-- A list worked through one by one. -/
theorem foldl {α : Type} {f : State → α → State} (hf : ∀ (t : State) x, t.messageOnly (f t x)) (h : s.messageOnly t) (l : List α) :
    s.messageOnly (l.foldl f t) := by
  induction l generalizing t with
  | nil => exact h
  | cons x l ih => exact ih (h.trans (hf t x))

/-! ### Threads and their lists -/

theorem setObj (h : s.messageOnly t) {o : Obj} (n : Nat) (v : Int) (ho : o ∈ messageObjs) : s.messageOnly (t.setObj o n v) :=
  h.trans fun _ _ hp => State.obj_setObj_of_ne _ _ _ _ fun e => hp (e ▸ ho)

theorem bump (h : s.messageOnly t) {o : Obj} (n : Nat) (ho : o ∈ messageObjs) : s.messageOnly (t.bump o n) := h.setObj _ _ ho

theorem setSch (h : s.messageOnly t) (i : Nat) (x : SchedSt) : s.messageOnly (t.setSch i x) := h

theorem setCore (h : s.messageOnly t) (c : Nat) (k : CoreSt) : s.messageOnly (t.setCore c k) := h

theorem store (h : s.messageOnly t) (a : Nat) (l : List Byte) : s.messageOnly (t.store a l) :=
  h.trans fun _ n ho => t.obj_store a l n (fun e => ho (e ▸ by decide)) fun e => ho (e ▸ by decide)

theorem setTcb (h : s.messageOnly t) (g hi lo v : Nat) : s.messageOnly (t.setTcb g hi lo v) := h.store _ _

theorem relink (h : s.messageOnly t) (l : List Nat) : s.messageOnly (t.relink l) :=
  h.trans fun _ n ho => t.obj_relink l n (fun e => ho (e ▸ by decide)) fun e => ho (e ▸ by decide)

theorem schTraceRec (h : s.messageOnly t) (i kind core : Nat) (g : Option Nat) (arg : Nat) :
    s.messageOnly (t.schTraceRec i kind core g arg) :=
  .ite h (.ite (h.bump _ (by decide)) (((h.store _ _).setSch _ _).setObj _ _ (by decide)))

theorem countThread (h : s.messageOnly t) (i st : Nat) (up : Bool) : s.messageOnly (t.countThread i st up) :=
  .ite (h.setObj _ _ (by decide)) (.ite (h.setObj _ _ (by decide)) (.ite (h.setObj _ _ (by decide)) h))

theorem setTState (h : s.messageOnly t) (g st : Nat) : s.messageOnly (t.setTState g st) :=
  ((h.countThread _ _ _).countThread _ _ _).setTcb _ _ _ _

theorem setReady (h : s.messageOnly t) (i p : Nat) (l : List Nat) : s.messageOnly (t.setReady i p l) := (h.setSch _ _).relink _

theorem readyTail (h : s.messageOnly t) (g : Nat) : s.messageOnly (t.readyTail g) := (h.setTState _ _).setReady _ _ _

theorem setQueue (h : s.messageOnly t) (q : Nat) (x : QueueSt) : s.messageOnly (t.setQueue q x) := ((h.setSch _ _).relink _).relink _

theorem loadContext (h : s.messageOnly t) (g c : Nat) : s.messageOnly (t.loadContext g c) :=
  h.trans fun _ n ho => t.obj_loadContext g c n fun e => ho (e ▸ by decide)

/-! ### Dispatch, preemption and wake -/

theorem placed (h : s.messageOnly t) (c g : Nat) : s.messageOnly (t.placed c g) :=
  (((((h.setReady _ _ _).setTState g _).setTcb g _ _ _).setSch _ _).loadContext g c).bump _ (by decide)

theorem started (h : s.messageOnly t) (c : Nat) : s.messageOnly (t.started c) :=
  .ite ((h.setCore _ _).setObj _ _ (by decide)) (h.setObj _ _ (by decide))

theorem runThread (h : s.messageOnly t) (c g : Nat) : s.messageOnly (t.runThread c g) := by
  rw [State.runThread_eq]
  exact ((h.placed c g).schTraceRec _ _ _ _ _).started c

theorem dispatch (h : s.messageOnly t) (c : Nat) : s.messageOnly (t.dispatch c) := by
  refine .ite ?_ h
  split
  · exact h.runThread _ _
  · exact h

theorem raiseInt (h : s.messageOnly t) (c code : Nat) : s.messageOnly (t.raiseInt c code) := .ite h (h.setCore _ _)

theorem raisePreempt (h : s.messageOnly t) (c g : Nat) : s.messageOnly (t.raisePreempt c g) :=
  .ite h (((h.raiseInt _ _).setSch _ _).bump _ (by decide))

theorem preemptFor (h : s.messageOnly t) (g : Nat) : s.messageOnly (t.preemptFor g) := by
  refine .ite ?_ h
  split
  · exact h.raisePreempt _ _
  · exact h

theorem settle (h : s.messageOnly t) (i : Nat) (new : List Nat) : s.messageOnly (t.settle i new) :=
  (h.foldl (fun u _ => (refl u).dispatch _) _).foldl (fun u _ => (refl u).preemptFor _) _

theorem endWait (h : s.messageOnly t) (g status : Nat) (msg : Option Nat) : s.messageOnly (t.endWait g status msg) := by
  cases msg with
  | none => exact ((((h.store _ _).setSch _ _).setTcb g _ _ _).readyTail g).schTraceRec _ _ _ _ _
  | some m => exact (((((h.store _ _).store _ _).setSch _ _).setTcb g _ _ _).readyTail g).schTraceRec _ _ _ _ _

theorem wake (h : s.messageOnly t) (g status : Nat) (msg : Option Nat) : s.messageOnly (t.wake g status msg) :=
  (h.endWait g status msg).settle _ _

/-! ### A message arrives -/

theorem notify (h : s.messageOnly t) (q : Nat) : s.messageOnly (t.notify q) := .ite (h.raiseInt _ _) h

theorem arriveMsg (h : s.messageOnly t) (q m : Nat) : s.messageOnly (t.arriveMsg q m) := by
  unfold State.arriveMsg
  dsimp only
  split
  · exact (h.setQueue _ _).wake _ _ _
  · exact ((h.store _ _).setQueue _ _).notify q

theorem dropMsg (h : s.messageOnly t) (q : Nat) (g : Option Nat) : s.messageOnly (t.dropMsg q g) :=
  (h.bump _ (by decide)).schTraceRec _ _ _ _ _

/-- A message enters its queue, is held, dropped or lost. -/
theorem hwSend (h : s.messageOnly t) (src q m : Nat) : s.messageOnly (t.hwSend src q m) :=
  .ite (h.setSch _ _) (.ite (h.setSch _ _) (.ite h (.ite (h.arriveMsg q m) (.ite (h.dropMsg q none)
    ((h.setSch _ _).bump _ (by decide))))))

end State.messageOnly

end Sys2Proof.Machine
end

section
/-! SUPPORT. The end of a transmit frame: what the report to its source leaves of the ports and their queues (R380 to R383, R392). -/

namespace Sys2Proof.Machine

/-- The objects of the Ethernet transmitters and the holders of the insertion arbiters. -/
def txObjs : List Obj :=
  [.ethTxFrames, .ethTxLateSent, .ethTxEntries, .ethTxExpired, .ethTxPortDown, .ethTxLateDropped, .ethTxGuardHolds, .ethFcXoffSent,
    .arbHolder]

/-- From one state to the other the queues, what is offered to them, the ports and those objects stayed, and what was sent stayed sent. -/
structure State.txKept (s t : State) : Prop where
  queue : t.txQueue = s.txQueue
  offers : t.txOffers = s.txOffers
  ports : t.ports = s.ports
  sent : s.outbox ⊆ t.outbox
  objs : ∀ o n, o ∈ txObjs → t.obj o n = s.obj o n

namespace State.txKept
variable {s t u : State}

theorem refl (s : State) : s.txKept s := ⟨rfl, rfl, rfl, List.Subset.refl _, fun _ _ _ => rfl⟩

theorem trans (h : s.txKept t) (k : t.txKept u) : s.txKept u :=
  ⟨k.queue.trans h.queue, k.offers.trans h.offers, k.ports.trans h.ports, List.Subset.trans h.sent k.sent,
    fun o n ho => (k.objs o n ho).trans (h.objs o n ho)⟩

theorem setObj (s : State) {o : Obj} (n : Nat) (v : Int) (ho : o ∉ txObjs) : s.txKept (s.setObj o n v) :=
  ⟨rfl, rfl, rfl, List.Subset.refl _, fun _ _ hp => State.obj_setObj_of_ne _ _ _ _ fun e => ho (e ▸ hp)⟩

theorem bump (s : State) {o : Obj} (n : Nat) (ho : o ∉ txObjs) : s.txKept (s.bump o n) := setObj s n _ ho

theorem bumpIf (s : State) (b : Bool) {o : Obj} (n : Nat) (ho : o ∉ txObjs) : s.txKept (s.bumpIf b o n) := by
  cases b
  · exact refl s
  · exact bump s n ho

theorem send (s : State) (m : OutMsg) : s.txKept (s.send m) :=
  ⟨rfl, rfl, rfl, List.subset_cons_self _ _, fun _ _ _ => rfl⟩

theorem setEtx (s : State) (r : Nat) (x : EtxSt) : s.txKept (s.setEtx r x) :=
  ⟨rfl, rfl, rfl, List.Subset.refl _, fun _ _ _ => rfl⟩

theorem port (h : s.txKept t) (p : Nat) : t.port p = s.port p := by rw [State.port, h.ports, State.port]

/-! ### The source learns of its frame -/

theorem countStatus (s : State) (h st : Nat) : s.txKept (s.countStatus h st) := by
  unfold State.countStatus
  split
  case h_9 => exact refl s
  all_goals exact bump s h (by decide)

theorem hwSend (s : State) (src q m : Nat) : s.txKept (s.hwSend src q m) := by
  have hApart : ∀ o ∈ txObjs, o ∉ messageObjs := by decide
  have hOnly := (State.workOnly.refl s).hwSend src q m
  have hOutbox : (s.hwSend src q m).outbox = s.outbox := by rw [hOnly.eq]; rfl
  exact ⟨by rw [hOnly.eq]; rfl, by rw [hOnly.eq]; rfl, by rw [hOnly.eq]; rfl, by rw [hOutbox]; exact List.Subset.refl _,
    fun o n ho => (State.messageOnly.refl s).hwSend src q m o n (hApart o ho)⟩

/-- The completion of a SEND. -/
theorem finish (s : State) (h d : Nat) (r : Result) : s.txKept (s.finish h 12 d r) := (countStatus s _ _).trans (hwSend _ _ _ _)

theorem raiseVec (s : State) (fn v : Nat) : s.txKept (s.raiseVec fn v) := by
  unfold State.raiseVec
  split
  · exact ⟨rfl, rfl, rfl, List.Subset.refl _, fun _ _ _ => rfl⟩
  · exact send s _

theorem etxWriteBack (s : State) (r idx outcome : Nat) (launch : Int) : s.txKept (s.etxWriteBack r idx outcome launch) := by
  unfold State.etxWriteBack
  dsimp only
  split
  · exact refl s
  · exact (((setEtx s r _).trans (send _ _)).trans (send _ _)).trans (raiseVec _ _ _)

theorem txDone (s : State) (e : TxEntry) (outcome : Nat) (launch : Int) : s.txKept (s.txDone e outcome launch) := by
  have hFree : s.txKept s.freeUsed := ⟨rfl, rfl, rfl, List.Subset.refl _, fun _ _ _ => rfl⟩
  unfold State.txDone
  split
  · exact ⟨rfl, rfl, rfl, List.Subset.refl _, fun _ _ _ => rfl⟩
  · exact hFree.trans (finish _ _ _ _)
  · exact etxWriteBack s _ _ _ _
  · exact refl s
  · exact refl s

/-! ### A forwarded frame (R412) -/

theorem tcCorrect (s : State) (p i : Nat) (arrival : Int) (l : List Byte) : s.txKept (s.tcCorrect p i arrival l).1 := by
  unfold State.tcCorrect
  dsimp only
  split_ifs
  · exact refl s
  · split
    · exact refl s
    · split_ifs
      · exact refl s
      · exact bump s 0 (by decide)
      · exact refl s
      · exact refl s

end State.txKept

end Sys2Proof.Machine
end

section
/-! SUPPORT. Frames offered to the ports: SEND (R383) and the host transmit rings (R392, R433). -/

namespace Sys2Proof.Machine

/-! ### SEND -/

/-- The entry a SEND of hall h offers. -/
def State.sendEntry (s : State) (h : Nat) (r : EngRun) : TxEntry :=
  { port := sdPort r.desc, queue := sdQueue r.desc, launch := sdLaunch r.desc, close := sdClose r.desc, input := h
    src := .send h r.off r.desc, body := s.readMem (terraceBase h + sdBody r.desc) (sdLen r.desc), staged := false, late := false
    held := false, stageLate := false }

/-- The state with a SEND at the head of the queue refused or its frame offered. -/
def State.sendTaken (s : State) (h : Nat) (r : EngRun) : State :=
  if !s.sendOk h r.desc then s.finishHead h 12 r.desc ⟨2, false, false, 0, txBadDesc, 0⟩
  else { s.engPop h 12 with txOffers := s.txOffers ++ [(s.engPop h 12).sendEntry h r] }

section
variable {s : State} {h : Fin 16} {r : EngRun} (hTakes : engTakes s h 12 r) (hOp : dOp r.desc = 0)
include hTakes hOp

theorem execSend_taken : exec (.send h) s = .next (s.sendTaken h r) :=
  congrArg Host.Outcome.next (State.takeHead_acts (ops := [0]) (f := fun r s => s.sendTaken h r) hTakes (by rw [hOp]; decide)
    (by rw [hOp]; decide))

theorem execSend_offers (hOk : s.sendOk h r.desc = true) :
    ∃ t, exec (.send h) s = .next t ∧ popped s t h 12 ∧ t.txOffers = s.txOffers ++ [s.sendEntry h r]
      ∧ t = { s with sched := t.sched, txOffers := t.txOffers } := by
  refine ⟨_, execSend_taken hTakes hOp, ?_⟩
  have hBody : ((s.engPop h 12).sendEntry h r) = s.sendEntry h r := by
    have hMem : (s.engPop h 12).readMem (terraceBase h + sdBody r.desc) (sdLen r.desc)
        = s.readMem (terraceBase h + sdBody r.desc) (sdLen r.desc) := State.readMem_congr fun _ _ => rfl
    rw [State.sendEntry, hMem, State.sendEntry]
  rw [State.sendTaken, hOk, hBody]
  exact ⟨popped_engPop s h 12, rfl, rfl⟩

end

/-- A BAD_DESC at the head of the SEND queue is taken off and reported, and no frame is offered. -/
theorem State.finishHead_badSend {s : State} {h d cyc a b : Nat} (hRoom : replyRoom s h d) :
    popped s (s.finishHead h 12 d ⟨2, false, false, cyc, a, b⟩) h 12 ∧ replied s (s.finishHead h 12 d ⟨2, false, false, cyc, a, b⟩) h d 2
      ∧ (s.finishHead h 12 d ⟨2, false, false, cyc, a, b⟩).txOffers = s.txOffers := by
  have hKept := State.txKept.finish (s.engPop h 12) h d ⟨2, false, false, cyc, a, b⟩
  obtain ⟨hHeld, hPlain, hOn, hRecv, hSend, hSpace, hNotify, -⟩ := hRoom
  obtain ⟨hHall, hLocal⟩ := replyQueue_hall h d
  obtain ⟨hHeldPop, hQueues, hNow, -⟩ := State.sameReplies.engPop s h 12
  obtain ⟨hLt, hTag, hOp, hStatus, hStamp⟩ := completionMsg_fields d cyc a b (st := 2) (by decide) s.now
  have hCounted : s.finishHead h 12 d ⟨2, false, false, cyc, a, b⟩ = ((s.engPop h 12).bump .ulDescBad h).hwSend (64 * h + 28)
      (256 * h + dReply d) (completionMsg d ⟨2, false, false, cyc, a, b⟩ s.now) := by
    have hTime := (s.engPop h 12).now_bump (o := .ulDescBad) h (by decide) (by decide)
    rw [hNow] at hTime
    rw [← hTime]
    rfl
  have hQueue : ((s.engPop h 12).bump .ulDescBad h).queue (256 * h + dReply d) = s.queue (256 * h + dReply d) := by
    rw [State.queue, State.queue, hHall, State.sch_bump, hQueues]
  have hOther : popped s ((s.engPop h 12).bump .ulDescBad h) h 12 := popped_engPop s h 12
  have hCount : ((s.engPop h 12).bump .ulDescBad h).obj .ulDescBad h = (s.obj .ulDescBad h + 1) % 4294967296 := State.obj_bump _ _ _
  have hNone : (((s.engPop h 12).bump .ulDescBad h).sch h).held = [] := hHeldPop.trans hHeld
  generalize (s.engPop h 12).bump .ulDescBad h = v at hCounted hQueue hOther hCount hNone
  rw [← hQueue] at hOn hRecv hSend hSpace hNotify
  rw [State.hwSend_enters (by rwa [hHall]) (by rwa [hLocal]) hOn hRecv hSpace hNotify] at hCounted
  have hMsg := State.memNat_enqueue hRecv hSend hLt
  rw [State.ringTail, hHall, hQueue] at hMsg
  refine ⟨?_, ⟨⟨?_, ?_⟩, ?_⟩, hKept.offers⟩ <;> rw [hCounted]
  · rw [popped, State.engq_enqueue hRecv hSend]
    exact hOther
  · rw [State.queue_enqueue, hQueue]
  · rw [hMsg]
    exact ⟨hTag, hOp, hStatus, hStamp⟩
  · rw [statusCounter, State.obj_enqueue hRecv hSend _ (by decide) (by decide), hCount]

theorem execSend_refused {s : State} {h : Fin 16} {r : EngRun} (hTakes : engTakes s h 12 r) (hOp : dOp r.desc = 0)
    (hBad : s.sendOk h r.desc = false) (hRoom : replyRoom s h r.desc) :
    ∃ t, exec (.send h) s = .next t ∧ popped s t h 12 ∧ replied s t h r.desc 2 ∧ t.txOffers = s.txOffers := by
  refine ⟨_, execSend_taken hTakes hOp, ?_⟩
  rw [State.sendTaken, hBad]
  exact State.finishHead_badSend hRoom

/-! ### A descriptor written back (R392) -/

/-- The state with its transmit rings, the offers, what is sent and the pending vectors as they are in `t`. -/
def State.withRings (s t : State) : State :=
  { s with etx := t.etx, txOffers := t.txOffers, outbox := t.outbox, msixPending := t.msixPending }

/-- From one state to the other nothing else changed. -/
structure State.ringsOnly (s t : State) : Prop where
  eq : t = s.withRings t

namespace State.ringsOnly
variable {s t u : State}

theorem trans (h : s.ringsOnly t) (k : t.ringsOnly u) : s.ringsOnly u := by
  have hRings : t.withRings u = (s.withRings t).withRings u := congrArg (fun x => State.withRings x u) h.eq
  exact ⟨k.eq.trans hRings⟩

theorem setEtx (h : s.ringsOnly t) (r : Nat) (x : EtxSt) : s.ringsOnly (t.setEtx r x) := h.trans ⟨rfl⟩

theorem send (h : s.ringsOnly t) (m : OutMsg) : s.ringsOnly (t.send m) := h.trans ⟨rfl⟩

theorem raiseVec (h : s.ringsOnly t) (fn v : Nat) : s.ringsOnly (t.raiseVec fn v) := by
  unfold State.raiseVec
  split
  · exact h.trans ⟨rfl⟩
  · exact h.send _

theorem etxWriteBack (h : s.ringsOnly t) (r idx outcome : Nat) (launch : Int) : s.ringsOnly (t.etxWriteBack r idx outcome launch) := by
  unfold State.etxWriteBack
  dsimp only
  split
  · exact h
  · exact (((h.setEtx r _).send _).send _).raiseVec _ _

/-- No frame was offered. -/
theorem of_offers (h : s.ringsOnly t) (hOffers : t.txOffers = s.txOffers) :
    t = { s with etx := t.etx, outbox := t.outbox, msixPending := t.msixPending } := by
  have hEq := h.eq
  rwa [State.withRings, hOffers] at hEq

/-- Nothing was sent. -/
theorem of_unsent (h : s.ringsOnly t) (hOutbox : t.outbox = s.outbox) (hPending : t.msixPending = s.msixPending) :
    t = { s with etx := t.etx, txOffers := t.txOffers } := by
  have hEq := h.eq
  rwa [State.withRings, hOutbox, hPending] at hEq

end State.ringsOnly

theorem State.etxRing_setEtx_same (s : State) (r : Nat) (x : EtxSt) : (s.setEtx r x).etxRing r = x := tabGet_tabSet_same _ _ _ _

theorem State.etxRing_raiseVec (s : State) (fn v r : Nat) : (s.raiseVec fn v).etxRing r = s.etxRing r := by
  unfold State.raiseVec
  split <;> rfl

/-- A ring changed, two words written to the host and a vector raised: what the state then holds. -/
theorem State.raiseVec_written (s : State) (r fn v : Nat) (x : EtxSt) (m m' : OutMsg) :
    let t := (((s.setEtx r x).send m).send m').raiseVec fn v
    t.etxRing r = x ∧ m ∈ t.outbox ∧ m' ∈ t.outbox := by
  have hKept := State.txKept.raiseVec (((s.setEtx r x).send m).send m') fn v
  exact ⟨(State.etxRing_raiseVec _ _ _ _).trans (State.etxRing_setEtx_same _ _ _),
    hKept.sent (List.mem_cons_of_mem _ List.mem_cons_self), hKept.sent List.mem_cons_self⟩

theorem advanceDone_posted (f : Nat) (x : EtxSt) : (advanceDone f x).posted = x.posted := by
  induction f generalizing x with
  | zero => rfl
  | succ f ih =>
    rw [advanceDone]
    split
    · exact ih _
    · rfl

/-- The completion index moves past the one descriptor written. -/
theorem advanceDone_one (n : Nat) {x : EtxSt} (h : x.written = [x.done]) :
    advanceDone (n + 1) x = { x with done := (x.done + 1) % 2 ^ 32, written := [] } := by
  rw [advanceDone, h]
  cases n <;> simp [advanceDone]

section
variable {s : State} {r idx outcome : Nat} {launch : Int}

theorem State.posted_etxWriteBack : ((s.etxWriteBack r idx outcome launch).etxRing r).posted = (s.etxRing r).posted := by
  unfold State.etxWriteBack
  dsimp only
  split
  · rfl
  · rw [State.etxRing_raiseVec]
    exact (congrArg EtxSt.posted (State.etxRing_setEtx_same _ _ _)).trans (advanceDone_posted _ _)

/-- The last descriptor fetched, with every one before it completed, is written back without having been sent. -/
theorem State.etxWriteBack_last {l : List (Nat × Nat)} {d : Nat} (hOpen : (s.etxRing r).open_ = l ++ [(idx, d)])
    (hNew : ∀ y ∈ l, y.1 ≠ idx) (hWritten : (s.etxRing r).written = []) (hDone : (s.etxRing r).done = idx)
    (hSent : outcome ≠ txSent) (hLate : outcome ≠ txLateSent) :
    let t := s.etxWriteBack r idx outcome launch
    t.etxRing r = { s.etxRing r with done := (idx + 1) % 2 ^ 32, open_ := l }
      ∧ .host (s.objN .etxOwner r) (s.objN .etxBase r + 32 * (idx % max 1 (s.objN .etxCount r)))
          (leBytes 32 (d - d % 2 ^ 32 + 2 ^ 31 + outcome * 2 ^ 27)) ∈ t.outbox
      ∧ .host (s.objN .etxOwner r) (s.objN .etxBase r + 32 * s.objN .etxCount r) (leBytes 4 ((idx + 1) % 2 ^ 32)) ∈ t.outbox := by
  have hFind : (s.etxRing r).open_.find? (fun p => decide (p.1 = idx)) = some (idx, d) := by
    rw [hOpen, List.find?_append, List.find?_eq_none.mpr (by simpa using hNew)]
    simp
  have hKeep : (s.etxRing r).open_.filter (fun p => decide (p.1 ≠ idx)) = l := by
    rw [hOpen, List.filter_append, List.filter_eq_self.mpr (by simpa using hNew)]
    simp
  unfold State.etxWriteBack
  simp only [hFind, hKeep, hWritten, List.nil_append]
  rw [advanceDone_one _ (by rw [hDone]), hDone, if_neg (by simp [hSent, hLate])]
  obtain ⟨hRing, hRest⟩ := s.raiseVec_written r (s.objN .etxOwner r) 1
    { s.etxRing r with done := (idx + 1) % 2 ^ 32, open_ := l, written := [] }
    (.host (s.objN .etxOwner r) (s.objN .etxBase r + 32 * (idx % max 1 (s.objN .etxCount r)))
      (leBytes 32 (d - d % 2 ^ 32 + 2 ^ 31 + outcome * 2 ^ 27)))
    (.host (s.objN .etxOwner r) (s.objN .etxBase r + 32 * s.objN .etxCount r) (leBytes 4 ((idx + 1) % 2 ^ 32)))
  exact ⟨hRing.trans (by rw [← hWritten]), hRest⟩

end

/-! ### Descriptors posted (R376, R392) -/

/-- The entry a ring descriptor offers. -/
def ringEntry (r idx d : Nat) (head : List Byte) : TxEntry :=
  { port := tdPort d, queue := tdQueue d, launch := bits d 159 96, close := bits d 95 32, input := 16, src := .ring r idx
    body := slice 0 (tdLen d) head, staged := false, late := false, held := false, stageLate := false }

/-- The state with a descriptor fetched. -/
def State.ringFetched (s : State) (r idx d : Nat) : State :=
  s.setEtx r { s.etxRing r with open_ := (s.etxRing r).open_ ++ [(idx, d)] }

/-- The state with the next posted descriptor offered or written back. -/
def State.ringTaken (s : State) (r idx d : Nat) (head : List Byte) : State :=
  if ringRefusal s d head = 0 then { s.ringFetched r idx d with txOffers := s.txOffers ++ [ringEntry r idx d head] }
  else (s.ringFetched r idx d).etxWriteBack r idx (ringRefusal s d head) 0

/-- The tests of R376, each with its refusal. -/
theorem ringRefusal_tests {α : Type} (s : State) (d : Nat) (head : List Byte) (refuse : Nat → α) (offer : α) :
    (if tdLen d < 14 ∨ 9604 < tdLen d ∨ 48 ≤ tdPort d then refuse txBadDesc
      else if s.objN .ethMaxFrame (tdPort d) + 4 * tagCount head < tdLen d + 4 then refuse txTooLong
      else if s.obj .ethPortState (tdPort d) = portDisabled then refuse txPortDown else offer)
      = if ringRefusal s d head = 0 then offer else refuse (ringRefusal s d head) := by
  by_cases hShape : tdLen d < 14 ∨ 9604 < tdLen d ∨ 48 ≤ tdPort d
  · rw [ringRefusal, if_pos hShape, if_pos hShape]
    rfl
  · by_cases hLong : s.objN .ethMaxFrame (tdPort d) + 4 * tagCount head < tdLen d + 4
    · rw [ringRefusal, if_neg hShape, if_neg hShape, if_pos hLong, if_pos hLong]
      rfl
    · by_cases hDown : s.obj .ethPortState (tdPort d) = portDisabled
      · rw [ringRefusal, if_neg hShape, if_neg hShape, if_neg hLong, if_neg hLong, if_pos hDown, if_pos hDown]
        rfl
      · rw [ringRefusal, if_neg hShape, if_neg hShape, if_neg hLong, if_neg hLong, if_neg hDown, if_neg hDown]
        rfl

theorem State.etxPost_cons (s : State) (r idx d : Nat) (head : List Byte) (rest : List (Nat × List Byte)) :
    s.etxPost r idx ((d, head) :: rest) = (s.ringTaken r idx d head).etxPost r ((idx + 1) % 2 ^ 32) rest :=
  congrArg (fun t => State.etxPost t r ((idx + 1) % 2 ^ 32) rest)
    (ringRefusal_tests s d head (fun n => (s.ringFetched r idx d).etxWriteBack r idx n 0) _)

theorem State.posted_ringTaken (s : State) (r idx d : Nat) (head : List Byte) :
    ((s.ringTaken r idx d head).etxRing r).posted = (s.etxRing r).posted := by
  have hFetched : ((s.ringFetched r idx d).etxRing r).posted = (s.etxRing r).posted := by
    rw [State.ringFetched, State.etxRing_setEtx_same]
  unfold State.ringTaken
  split
  · exact hFetched
  · exact State.posted_etxWriteBack.trans hFetched

theorem State.posted_etxPost (s : State) (r idx : Nat) (l : List (Nat × List Byte)) :
    ((s.etxPost r idx l).etxRing r).posted = (s.etxRing r).posted := by
  induction l generalizing s idx with
  | nil => rfl
  | cons x l ih =>
    obtain ⟨d, head⟩ := x
    rw [State.etxPost_cons, ih, State.posted_ringTaken]

/-! ### ETH_TX_RING_DOORBELL -/

/-- The state with a ring posted up to `v`. -/
def State.ringPosted (s : State) (r v : Nat) : State := s.setEtx r { s.etxRing r with posted := v % 2 ^ 32 }

/-- The state after the doorbell of a ring's owner. -/
def State.ringRung (s : State) (r v : Nat) (descs : List (Nat × List Byte)) : State :=
  (s.ringPosted r v).etxPost r (s.etxRing r).posted
    ((List.range ((v + 2 ^ 32 - (s.etxRing r).posted) % 2 ^ 32)).map (fun i => descs.getD i (0, [])))

/-- A post of one descriptor moves the index by one. -/
theorem posted_succ {v n : Nat} (_ : n < 2 ^ 32) (_ : (v + 2 ^ 32 - n) % 2 ^ 32 = 1) : (n + 1) % 2 ^ 32 = v % 2 ^ 32 := by
  omega

section
variable {s : State} {fn r : Fin 64} {v : Nat} {descs : List (Nat × List Byte)}

theorem execEthTxRingDoorbell_owner (hUp : (s.unit unitPcie).st = unitRunning) (hOwner : s.obj .etxOwner r = fn.val)
    (hOn : s.obj .etxEnable r ≠ 0) : exec (.ethTxRingDoorbell fn r v descs) s = .next (s.ringRung r v descs) := by
  have hFn : s.objN .etxOwner r = fn.val := by rw [State.objN, hOwner]; rfl
  rw [exec_ethTxRingDoorbell, execEthTxRingDoorbell]
  simp only [hUp, hFn, hOn, ne_eq, not_true_eq_false, or_self, if_false]
  rfl

theorem execEthTxRingDoorbell_ignored (hUp : (s.unit unitPcie).st = unitRunning)
    (h : (0 ≤ s.obj .etxOwner r ∧ s.obj .etxOwner r ≠ fn.val) ∨ s.obj .etxEnable r = 0) :
    exec (.ethTxRingDoorbell fn r v descs) s = .next (s.bump .pcieDbIgnored 0) := by
  have hRefused : s.objN .etxOwner r ≠ fn.val ∨ s.obj .etxEnable r = 0 :=
    h.imp (fun ⟨hPos, hNe⟩ => by rw [State.objN]; omega) id
  rw [exec_ethTxRingDoorbell, execEthTxRingDoorbell]
  simp only [hUp, hRefused, ne_eq, not_true_eq_false, if_false, if_true]

theorem State.posted_ringRung : ((s.ringRung r v descs).etxRing r).posted = v % 2 ^ 32 :=
  (State.posted_etxPost _ _ _ _).trans (congrArg EtxSt.posted (State.etxRing_setEtx_same _ _ _))

section
variable (hOne : (v + 2 ^ 32 - (s.etxRing r).posted) % 2 ^ 32 = 1)
include hOne

theorem State.ringRung_one : s.ringRung r v descs
    = (s.ringPosted r v).ringTaken r (s.etxRing r).posted (descs.getD 0 (0, [])).1 (descs.getD 0 (0, [])).2 := by
  rw [State.ringRung, hOne]
  exact State.etxPost_cons _ _ _ _ _ []

/-- The one descriptor posted is offered. -/
theorem State.ringRung_offers {d : Nat} {head : List Byte} (hDesc : descs.getD 0 (0, []) = (d, head)) (hOk : ringRefusal s d head = 0) :
    ((s.ringRung r v descs).etxRing r).open_ = (s.etxRing r).open_ ++ [((s.etxRing r).posted, d)]
      ∧ (s.ringRung r v descs).txOffers = s.txOffers ++ [ringEntry r (s.etxRing r).posted d head]
      ∧ s.ringRung r v descs = { s with etx := (s.ringRung r v descs).etx, txOffers := (s.ringRung r v descs).txOffers } := by
  have hAsked : ringRefusal (s.ringPosted r v) d head = 0 := hOk
  rw [State.ringRung_one hOne, hDesc, State.ringTaken, if_pos hAsked]
  have hOnly : s.ringsOnly ((s.ringPosted r v).ringFetched r (s.etxRing r).posted d) := (State.ringsOnly.setEtx ⟨rfl⟩ _ _).setEtx _ _
  have hPosted : (s.ringPosted r v).etxRing r = { s.etxRing r with posted := v % 2 ^ 32 } := State.etxRing_setEtx_same _ _ _
  refine ⟨?_, rfl, (hOnly.trans ⟨rfl⟩).of_unsent rfl rfl⟩
  refine (congrArg EtxSt.open_ (State.etxRing_setEtx_same _ _ _)).trans ?_
  rw [hPosted]

/-- The one descriptor posted is refused, and with every one before it completed, it completes at once. -/
theorem State.ringRung_refuses {d : Nat} {head : List Byte} (hDesc : descs.getD 0 (0, []) = (d, head))
    (hBad : ringRefusal s d head ≠ 0) (hWritten : (s.etxRing r).written = []) (hDone : (s.etxRing r).done = (s.etxRing r).posted)
    (hLt : (s.etxRing r).posted < 2 ^ 32) (hNew : ∀ y ∈ (s.etxRing r).open_, y.1 ≠ (s.etxRing r).posted)
    (hOwner : s.obj .etxOwner r = fn.val) :
    let t := s.ringRung r v descs
    (t.etxRing r).done = v % 2 ^ 32 ∧ (t.etxRing r).open_ = (s.etxRing r).open_ ∧ t.txOffers = s.txOffers
      ∧ .host fn (s.objN .etxBase r + 32 * ((s.etxRing r).posted % max 1 (s.objN .etxCount r)))
          (leBytes 32 (d - d % 2 ^ 32 + 2 ^ 31 + ringRefusal s d head * 2 ^ 27)) ∈ t.outbox
      ∧ .host fn (s.objN .etxBase r + 32 * s.objN .etxCount r) (leBytes 4 (v % 2 ^ 32)) ∈ t.outbox
      ∧ t = { s with etx := t.etx, outbox := t.outbox, msixPending := t.msixPending } := by
  intro t
  have ht : t = _ := State.ringRung_one hOne
  rw [hDesc, State.ringTaken, show ringRefusal (s.ringPosted r v) d head = ringRefusal s d head from rfl, if_neg hBad] at ht
  have hFn : s.objN .etxOwner r = fn.val := by rw [State.objN, hOwner]; rfl
  have hNext : ((s.etxRing r).posted + 1) % 2 ^ 32 = v % 2 ^ 32 := posted_succ hLt hOne
  have hPosted : (s.ringPosted r v).etxRing r = { s.etxRing r with posted := v % 2 ^ 32 } := State.etxRing_setEtx_same _ _ _
  have hFetched := (s.ringPosted r v).etxRing_setEtx_same r
    { (s.ringPosted r v).etxRing r with open_ := ((s.ringPosted r v).etxRing r).open_ ++ [((s.etxRing r).posted, d)] }
  rw [← State.ringFetched, hPosted] at hFetched
  have hSent : ringRefusal s d head ≠ txSent ∧ ringRefusal s d head ≠ txLateSent := by
    unfold ringRefusal
    split_ifs <;> decide
  obtain ⟨hRing, hBack, hIndex⟩ :=
    State.etxWriteBack_last (s := (s.ringPosted r v).ringFetched r (s.etxRing r).posted d) (r := r) (idx := (s.etxRing r).posted)
      (outcome := ringRefusal s d head) (launch := 0) (d := d) (by rw [hFetched]) hNew (by rw [hFetched]; exact hWritten)
      (by rw [hFetched]; exact hDone) hSent.1 hSent.2
  have hObjN : ∀ o n, ((s.ringPosted r v).ringFetched r (s.etxRing r).posted d).objN o n = s.objN o n := fun _ _ => rfl
  rw [hObjN, hObjN, hObjN, hFn] at hBack
  rw [hObjN, hObjN, hObjN, hFn, hNext] at hIndex
  have hOffers : t.txOffers = s.txOffers := by
    rw [ht]
    exact (State.txKept.etxWriteBack _ _ _ _ _).offers.trans rfl
  have hOnly : s.ringsOnly t := by
    rw [ht]
    exact ((State.ringsOnly.setEtx ⟨rfl⟩ _ _).setEtx _ _).etxWriteBack _ _ _ _
  rw [← ht] at hRing hBack hIndex
  exact ⟨by rw [hRing, hNext], by rw [hRing], hOffers, hBack, hIndex, hOnly.of_offers hOffers⟩

end

end

end Sys2Proof.Machine
end

section
/-! SUPPORT. Frames inserted in the queues (R377, R378, R381) and their bodies fetched (R382). -/

namespace Sys2Proof.Machine

/-! ### What an insertion may change -/

/-- The state with its objects, arbiters, offers, queues and frame stores and its missed frames as they are in `t`. -/
def State.withInsert (s t : State) : State :=
  { s with
    objs := t.objs, arbs := t.arbs, txOffers := t.txOffers, txQueue := t.txQueue, frameStores := t.frameStores, dlMissed := t.dlMissed }

/-- From one state to the other nothing else changed. -/
structure State.insertOnly (s t : State) : Prop where
  eq : t = s.withInsert t

namespace State.insertOnly
variable {s t u : State}

theorem trans (h : s.insertOnly t) (k : t.insertOnly u) : s.insertOnly u := by
  have hInsert : t.withInsert u = (s.withInsert t).withInsert u := congrArg (fun x => State.withInsert x u) h.eq
  exact ⟨k.eq.trans hInsert⟩

theorem setObj (h : s.insertOnly t) (o : Obj) (n : Nat) (v : Int) : s.insertOnly (t.setObj o n v) := h.trans ⟨rfl⟩

/-- No frame store and no count of missed frames changed. -/
theorem of_stores (h : s.insertOnly t) (hStores : t.frameStores = s.frameStores) (hMissed : t.dlMissed = s.dlMissed) :
    t = { s with objs := t.objs, arbs := t.arbs, txOffers := t.txOffers, txQueue := t.txQueue } := by
  have hEq := h.eq
  rwa [State.withInsert, hStores, hMissed] at hEq

/-- No queue changed. -/
theorem of_queue (h : s.insertOnly t) (hQueue : t.txQueue = s.txQueue) :
    t = { s with objs := t.objs, arbs := t.arbs, txOffers := t.txOffers, frameStores := t.frameStores, dlMissed := t.dlMissed } := by
  have hEq := h.eq
  rwa [State.withInsert, hQueue] at hEq

end State.insertOnly

/-! ### The insertion arbiter is freed (R310) -/

theorem State.onlyObjs_setObj {s t : State} (h : t = { s with objs := t.objs }) (o : Obj) (n : Nat) (v : Int) :
    t.setObj o n v = { s with objs := (t.setObj o n v).objs } := by
  have hSet : t.setObj o n v = { s with objs := t.objs }.setObj o n v := congrArg (fun x => State.setObj x o n v) h
  exact hSet.trans rfl

/-- The objects of an arbiter that the end of a burst changes. -/
def arbObjs (k : Nat) : List (Obj × Nat) := [(.arbHolder, k), (.arbPointer, k), (.arbState, k)]

/-- An arbiter with objects is free, and nothing but its objects changed. -/
structure State.arbFreed (s t : State) (k : Nat) : Prop where
  free : t.arbHold k = 255
  only : t = { s with objs := t.objs }
  objs : s.sameObjsBut t (arbObjs k)

theorem State.arbHold_eq (s : State) {k : Nat} (hk : k < 253) : s.arbHold k = s.objN .arbHolder k := if_pos hk

theorem State.arbFreed_arbRelease {s : State} {k i : Nat} (hk : k < 253) (hHold : s.arbHold k = i) : s.arbFreed (s.arbRelease k i) k := by
  have hRelease : s.arbRelease k i = ((s.setObj .arbPointer k (s.arbPtr k)).setObj .arbHolder k 255).arbRefresh k := by
    rw [State.arbRelease, if_pos hHold, State.arbGrant, if_pos hk]
    rfl
  rw [hRelease, State.arbRefresh, if_pos hk]
  refine ⟨?_, State.onlyObjs_setObj (State.onlyObjs_setObj rfl _ _ _) _ _ _, ((State.sameObjsBut.refl s _).setObj _ ?_ |>.setObj _ ?_).setObj _ ?_⟩
  · rw [State.arbHold_eq _ hk, State.objN, State.obj_setObj_of_ne _ _ _ _ (by decide), State.obj_setObj_same]
    rfl
  · simp [arbObjs]
  · simp [arbObjs]
  · simp [arbObjs]

section
variable {s t : State} {k : Nat} (h : s.arbFreed t k)
include h

theorem State.arbFreed.txQueue : t.txQueue = s.txQueue := by rw [h.only]

theorem State.arbFreed.txOffers : t.txOffers = s.txOffers := by rw [h.only]

theorem State.arbFreed.dlMissed : t.dlMissed = s.dlMissed := by rw [h.only]

theorem State.arbFreed.frameStores : t.frameStores = s.frameStores := by rw [h.only]

theorem State.arbFreed.insertOnly : s.insertOnly t := by
  obtain ⟨-, hOnly, -⟩ := h
  generalize t.objs = os at hOnly
  subst hOnly
  exact ⟨rfl⟩

theorem State.arbFreed.obj {o : Obj} (n : Nat) (ho : o ∉ [Obj.arbHolder, .arbPointer, .arbState]) : t.obj o n = s.obj o n :=
  h.objs o n (by simp_all [arbObjs])

theorem State.arbFreed.now : t.now = s.now := by
  rw [State.now, h.obj _ (by decide), h.obj _ (by decide), State.now]

end

/-! ### An entry in its place (R378) -/

theorem insertEntry_perm (e : TxEntry) (l : List TxEntry) : (insertEntry e l).Perm (e :: l) := by
  induction l with
  | nil => exact .refl _
  | cons x l ih =>
    rw [insertEntry]
    split
    · exact .refl _
    · exact (ih.cons x).trans (.swap e x l)

/-- An entry with the launch time it is queued with: the present one, if it is immediate. -/
def TxEntry.timed (e : TxEntry) (now : Int) : TxEntry := { e with launch := if e.launch = 0 then now else e.launch }

/-- The three outcomes of an insertion. -/
theorem State.insertTx_eq (s : State) (e : TxEntry) : s.insertTx e
    = if s.obj .ethPortState e.port ≠ portUp then (s.bump .ethTxPortDown e.port).txDone (e.timed s.now) txPortDown 0
      else if (insertedEntry s e).late ∧ bitAt (s.objN .ethLatePolicy e.port) e.queue then
        (s.bump .ethTxLateDropped e.port).txDone (e.timed s.now) txLateDropped 0
      else ({ s with txQueue := insertEntry (insertedEntry s e) s.txQueue }).countEntries e.port := by
  have hTimed : (if e.launch = 0 then { e with launch := s.now } else e) = e.timed s.now := by
    unfold TxEntry.timed
    split <;> rfl
  unfold State.insertTx
  simp only [hTimed]
  rfl

theorem State.insertTx_down {s : State} {e : TxEntry} (hDown : s.obj .ethPortState e.port ≠ portUp) :
    s.insertTx e = (s.bump .ethTxPortDown e.port).txDone (e.timed s.now) txPortDown 0 := by
  rw [State.insertTx_eq, if_pos hDown]

section
variable {s : State} {e : TxEntry} (hUp : s.obj .ethPortState e.port = portUp)
include hUp

theorem State.insertTx_dropped (hLate : ((insertedEntry s e).late && bitAt (s.objN .ethLatePolicy e.port) e.queue) = true) :
    s.insertTx e = (s.bump .ethTxLateDropped e.port).txDone (e.timed s.now) txLateDropped 0 := by
  rw [State.insertTx_eq, if_neg (not_not.mpr hUp), if_pos (by simpa using hLate)]

theorem State.insertTx_queued (hKept : ((insertedEntry s e).late && bitAt (s.objN .ethLatePolicy e.port) e.queue) = false) :
    s.insertTx e = ({ s with txQueue := insertEntry (insertedEntry s e) s.txQueue }).countEntries e.port := by
  rw [State.insertTx_eq, if_neg (not_not.mpr hUp), if_neg (by simpa using hKept)]

end

theorem length_filter_insertEntry (x : TxEntry) (l : List TxEntry) :
    ((insertEntry x l).filter (fun e => decide (e.port = x.port))).length = (l.filter (fun e => decide (e.port = x.port))).length + 1 := by
  rw [((insertEntry_perm x l).filter _).length_eq, List.filter_cons_of_pos (by simp), List.length_cons]

/-! ### ETH_TX_INSERT -/

/-- The state with the insertion arbiter free and the entry no longer offered. -/
def State.offerTaken (s : State) (p i : Nat) (e : TxEntry) : State :=
  { s.arbRelease (205 + p) i with txOffers := (s.arbRelease (205 + p) i).txOffers.erase e }

theorem port_of_offered {s : State} {p i : Nat} {e : TxEntry}
    (hFind : s.txOffers.find? (fun e => decide (e.port = p) && decide (e.input = i)) = some e) : e.port = p := by
  have hFound := List.find?_some hFind
  simp only [Bool.and_eq_true, decide_eq_true_eq] at hFound
  exact hFound.1

section
variable {s : State} {p : Fin 48} {i : Fin 20} {e : TxEntry} (hRuns : s.macRuns p = true) (hHold : s.arbHold (205 + p) = i)
  (hFind : s.txOffers.find? (fun e => decide (e.port = p.val) && decide (e.input = i.val)) = some e)

include hHold

theorem State.arbFreed_offer : s.arbFreed (s.arbRelease (205 + p) i) (205 + p) := State.arbFreed_arbRelease (by omega) hHold

include hRuns hFind

theorem execEthTxInsert_queues (hMissed : missedWaiting s.now e = none) (hRoom : (s.portEntries p).length < 4096) :
    exec (.ethTxInsert p i) s = .next ((s.offerTaken p i e).insertTx e) := by
  have hFreed := State.arbFreed_offer hHold
  have hEntries : (s.arbRelease (205 + p) i).portEntries p = s.portEntries p := by rw [State.portEntries, hFreed.txQueue]; rfl
  rw [exec_ethTxInsert p i, execEthTxInsert, if_pos ⟨hRuns, hHold⟩]
  simp only [hFind, hFreed.now, hMissed, hEntries, if_neg (Nat.not_le.mpr hRoom)]
  rfl

theorem execEthTxInsert_misses {h c : Nat} {S : Int} (hMissed : missedWaiting s.now e = some (h, c, S)) :
    exec (.ethTxInsert p i) s = .next (((s.offerTaken p i e).addMissed h c S 1).fsRelease c e.body.length) := by
  have hSrc : e.src = .build h c S := by
    unfold missedWaiting at hMissed
    split at hMissed
    · next hSrc =>
      split at hMissed
      · simp only [Option.some.injEq, Prod.mk.injEq] at hMissed
        obtain ⟨rfl, rfl, rfl⟩ := hMissed
        exact hSrc
      · cases hMissed
    · cases hMissed
  have hDone : ∀ t : State, t.txDone e txExpired 0 = t.fsRelease c e.body.length := fun t => by rw [State.txDone, hSrc]
  rw [exec_ethTxInsert p i, execEthTxInsert, if_pos ⟨hRuns, hHold⟩]
  simp only [hFind, (State.arbFreed_offer hHold).now, hMissed, hDone]
  rfl

end

/-! ### What an insertion leaves -/

section
variable {s : State} {p : Fin 48} {i : Fin 20} {e : TxEntry} (hHold : s.arbHold (205 + p) = i)
include hHold

theorem State.txQueue_offerTaken : (s.offerTaken p i e).txQueue = s.txQueue := (State.arbFreed_offer hHold).txQueue

theorem State.txOffers_offerTaken : (s.offerTaken p i e).txOffers = s.txOffers.erase e := by
  rw [State.offerTaken, (State.arbFreed_offer hHold).txOffers]

theorem State.obj_offerTaken {o : Obj} (n : Nat) (ho : o ∉ [Obj.arbHolder, .arbPointer, .arbState]) :
    (s.offerTaken p i e).obj o n = s.obj o n := (State.arbFreed_offer hHold).obj n ho

theorem State.arbHold_offerTaken : (s.offerTaken p i e).arbHold (205 + p) = 255 := (State.arbFreed_offer hHold).free

theorem State.dlMissed_offerTaken : (s.offerTaken p i e).dlMissed = s.dlMissed := (State.arbFreed_offer hHold).dlMissed

theorem State.insertOnly_offerTaken : s.insertOnly (s.offerTaken p i e) := (State.arbFreed_offer hHold).insertOnly.trans ⟨rfl⟩

theorem State.sameObjsBut_offerTaken : s.sameObjsBut (s.offerTaken p i e) (arbObjs (205 + p)) := (State.arbFreed_offer hHold).objs

theorem State.insertedEntry_offerTaken : insertedEntry (s.offerTaken p i e) e = insertedEntry s e := by
  have hNow : (s.offerTaken p i e).now = s.now := (State.arbFreed_offer hHold).now
  rw [insertedEntry, hNow, insertedEntry]

end

theorem State.txKept.arbHold {s t : State} (h : s.txKept t) {k : Nat} (hk : k < 253) : t.arbHold k = s.arbHold k := by
  rw [State.arbHold_eq _ hk, State.arbHold_eq _ hk, State.objN, State.objN, h.objs _ _ (by decide)]

/-! ### An entry lost or discarded at its insertion (R381, R401) -/

theorem State.txQueue_discarded (s : State) (o : Obj) (n : Nat) (e : TxEntry) (outcome : Nat) :
    ((s.bump o n).txDone e outcome 0).txQueue = s.txQueue := (State.txKept.txDone _ _ _ _).queue

theorem State.txOffers_discarded (s : State) (o : Obj) (n : Nat) (e : TxEntry) (outcome : Nat) :
    ((s.bump o n).txDone e outcome 0).txOffers = s.txOffers := (State.txKept.txDone _ _ _ _).offers

theorem State.obj_discarded (s : State) {o : Obj} (n : Nat) (e : TxEntry) (outcome : Nat) (ho : o ∈ txObjs) :
    ((s.bump o n).txDone e outcome 0).obj o n = (s.obj o n + 1) % 4294967296 :=
  ((State.txKept.txDone _ _ _ _).objs o n ho).trans (State.obj_bump _ _ _)

theorem State.arbHold_discarded (s : State) {o : Obj} (n : Nat) (e : TxEntry) (outcome : Nat) {k : Nat} (hk : k < 253)
    (ho : .arbHolder ≠ o) : ((s.bump o n).txDone e outcome 0).arbHold k = s.arbHold k := by
  rw [(State.txKept.txDone _ _ _ _).arbHold hk, State.arbHold_eq _ hk, State.arbHold_eq _ hk, State.objN, State.objN,
    State.obj_bump_of_ne _ _ _ ho]

/-! ### An entry that enters its queue -/

/-- The state with an entry in its place, and counted. -/
def State.withEntry (s : State) (p : Nat) (x : TxEntry) : State := ({ s with txQueue := insertEntry x s.txQueue }).countEntries p

theorem State.txQueue_withEntry (s : State) (p : Nat) (x : TxEntry) : (s.withEntry p x).txQueue = insertEntry x s.txQueue := rfl

theorem State.txOffers_withEntry (s : State) (p : Nat) (x : TxEntry) : (s.withEntry p x).txOffers = s.txOffers := rfl

theorem State.obj_withEntry (s : State) (p : Nat) (x : TxEntry) {o : Obj} {n : Nat} (h : (o, n) ≠ (.ethTxEntries, p)) :
    (s.withEntry p x).obj o n = s.obj o n := by
  rw [State.withEntry, State.countEntries, State.obj_setObj_ne _ _ fun e => h (Prod.ext e.1 e.2)]
  rfl

theorem State.arbHold_withEntry (s : State) (p : Nat) (x : TxEntry) {k : Nat} (hk : k < 253) :
    (s.withEntry p x).arbHold k = s.arbHold k := by
  rw [State.arbHold_eq _ hk, State.arbHold_eq _ hk, State.objN, State.obj_withEntry _ _ _ (by simp), State.objN]

theorem State.entries_withEntry (s : State) (x : TxEntry) :
    (s.withEntry x.port x).obj .ethTxEntries x.port = (((s.portEntries x.port).length + 1 : Nat) : Int) :=
  (State.obj_setObj_same _ _ _ _).trans (congrArg _ (length_filter_insertEntry x s.txQueue))

section
variable {s : State} {p : Fin 48} {i : Fin 20} {e x : TxEntry} (hHold : s.arbHold (205 + p) = i)
include hHold

theorem State.withEntry_frame : (s.offerTaken p i e).withEntry p x = { s with
    objs := ((s.offerTaken p i e).withEntry p x).objs, arbs := ((s.offerTaken p i e).withEntry p x).arbs
    txOffers := ((s.offerTaken p i e).withEntry p x).txOffers, txQueue := ((s.offerTaken p i e).withEntry p x).txQueue } := by
  have hQueued : (s.offerTaken p i e).insertOnly { s.offerTaken p i e with txQueue := insertEntry x (s.offerTaken p i e).txQueue } := ⟨rfl⟩
  exact (((State.insertOnly_offerTaken hHold).trans hQueued).setObj _ _ _).of_stores (State.arbFreed_offer hHold).frameStores
    (State.arbFreed_offer hHold).dlMissed

theorem State.sameObjsBut_withEntry :
    s.sameObjsBut ((s.offerTaken p i e).withEntry p x) ((.ethTxEntries, p.val) :: arbObjs (205 + p)) := fun o n ho => by
  rw [State.obj_withEntry _ _ _ fun h => ho (h ▸ List.mem_cons_self)]
  exact State.sameObjsBut_offerTaken hHold o n fun h => ho (List.mem_cons_of_mem _ h)

end

/-- The entry's own discard, by the state of its port, or its place in the queue. -/
theorem State.insertTx_offerTaken {s : State} {p : Fin 48} {i : Fin 20} {e : TxEntry} (hHold : s.arbHold (205 + p) = i)
    (hPort : e.port = p) :
    let x := insertedEntry s e
    let dropped := x.late && bitAt (s.objN .ethLatePolicy p) e.queue
    let t := (s.offerTaken p i e).insertTx e
    t.txOffers = s.txOffers.erase e ∧ t.arbHold (205 + p) = 255
      ∧ (s.obj .ethPortState p ≠ portUp → t.txQueue = s.txQueue
          ∧ t.obj .ethTxPortDown p = (s.obj .ethTxPortDown p + 1) % 4294967296)
      ∧ (s.obj .ethPortState p = portUp → dropped = true → t.txQueue = s.txQueue
          ∧ t.obj .ethTxLateDropped p = (s.obj .ethTxLateDropped p + 1) % 4294967296)
      ∧ (s.obj .ethPortState p = portUp → dropped = false → x ∈ t.txQueue
          ∧ t.obj .ethTxEntries p = (((s.portEntries p).length + 1 : Nat) : Int)
          ∧ (∀ y ∈ s.txQueue, y ∈ t.txQueue) ∧ t.txQueue.length = s.txQueue.length + 1
          ∧ t = { s with objs := t.objs, arbs := t.arbs, txOffers := t.txOffers, txQueue := t.txQueue }
          ∧ s.sameObjsBut t [(.ethTxEntries, p.val), (.arbHolder, 205 + p.val), (.arbPointer, 205 + p.val), (.arbState, 205 + p.val)]) := by
  intro x dropped t
  have hk : 205 + p.val < 253 := by omega
  have hState : (s.offerTaken p i e).obj .ethPortState e.port = s.obj .ethPortState p := by
    rw [hPort]
    exact State.obj_offerTaken hHold _ (by decide)
  have hDropped : ((insertedEntry (s.offerTaken p i e) e).late
      && bitAt ((s.offerTaken p i e).objN .ethLatePolicy e.port) e.queue) = dropped := by
    rw [State.insertedEntry_offerTaken hHold, State.objN, hPort, State.obj_offerTaken hHold _ (by decide)]
    rfl
  have hQueue := State.txQueue_offerTaken (e := e) hHold
  have hOffers := State.txOffers_offerTaken (e := e) hHold
  have hFree := State.arbHold_offerTaken (e := e) hHold
  by_cases hUp : s.obj .ethPortState p = portUp
  · cases hLate : dropped with
    | true =>
      have ht : t = _ := State.insertTx_dropped (hState.trans hUp) (hDropped.trans hLate)
      rw [hPort] at ht
      refine ⟨?_, ?_, fun h => absurd hUp h, fun _ _ => ⟨?_, ?_⟩, fun _ h => absurd h (by decide)⟩ <;> rw [ht]
      · rw [State.txOffers_discarded, hOffers]
      · rw [State.arbHold_discarded _ _ _ _ hk (by decide), hFree]
      · rw [State.txQueue_discarded, hQueue]
      · rw [State.obj_discarded _ _ _ _ (by decide), State.obj_offerTaken hHold _ (by decide)]
    | false =>
      have ht : t = _ := State.insertTx_queued (hState.trans hUp) (hDropped.trans hLate)
      rw [hPort, State.insertedEntry_offerTaken hHold, ← State.withEntry] at ht
      have hPerm := insertEntry_perm x s.txQueue
      have hEntries := State.entries_withEntry (s.offerTaken p i e) x
      rw [State.portEntries, hQueue, ← State.portEntries, show x.port = p from hPort] at hEntries
      refine ⟨?_, ?_, fun h => absurd hUp h, fun _ h => absurd h (by decide), fun _ _ => ⟨?_, ?_, fun y hy => ?_, ?_, ?_, ?_⟩⟩ <;> rw [ht]
      · rw [State.txOffers_withEntry, hOffers]
      · rw [State.arbHold_withEntry _ _ _ hk, hFree]
      · rw [State.txQueue_withEntry, hQueue]
        exact hPerm.mem_iff.mpr List.mem_cons_self
      · exact hEntries
      · rw [State.txQueue_withEntry, hQueue]
        exact hPerm.mem_iff.mpr (List.mem_cons_of_mem _ hy)
      · rw [State.txQueue_withEntry, hQueue]
        exact hPerm.length_eq
      · exact State.withEntry_frame hHold
      · exact State.sameObjsBut_withEntry hHold
  · have ht : t = _ := State.insertTx_down (by rw [hState]; exact hUp)
    rw [hPort] at ht
    refine ⟨?_, ?_, fun _ => ⟨?_, ?_⟩, fun h => absurd h hUp, fun h => absurd h hUp⟩ <;> rw [ht]
    · rw [State.txOffers_discarded, hOffers]
    · rw [State.arbHold_discarded _ _ _ _ hk (by decide), hFree]
    · rw [State.txQueue_discarded, hQueue]
    · rw [State.obj_discarded _ _ _ _ (by decide), State.obj_offerTaken hHold _ (by decide)]

/-! ### A frame missed while it waited (R261, R377) -/

section
variable (s : State) (h c n : Nat) (S : Int)

theorem State.obj_addMissed : (s.addMissed h c S 1).obj .dlFramesMissed h = (s.obj .dlFramesMissed h + 1) % 4294967296 := by
  rw [State.addMissed, if_neg (by decide)]
  exact State.obj_setObj_same _ _ _ _

theorem State.missedIn_addMissed : (s.addMissed h c S 1).missedIn c S = s.missedIn c S + 1 := by
  rw [State.addMissed, if_neg (by decide), State.missedIn]
  simp

theorem State.insertOnly_addMissed : s.insertOnly (s.addMissed h c S 1) := by
  rw [State.addMissed, if_neg (by decide)]
  exact ((State.insertOnly.mk rfl).setObj _ _ _).trans ⟨rfl⟩

theorem State.txQueue_addMissed : (s.addMissed h c S 1).txQueue = s.txQueue := by
  rw [State.addMissed, if_neg (by decide)]
  rfl

theorem State.txOffers_addMissed : (s.addMissed h c S 1).txOffers = s.txOffers := by
  rw [State.addMissed, if_neg (by decide)]
  rfl

theorem State.sameObjsBut_addMissed : s.sameObjsBut (s.addMissed h c S 1) [(.dlFramesMissed, h)] := by
  rw [State.addMissed, if_neg (by decide)]
  exact fun o m ho => State.obj_setObj_ne _ _ fun e => ho (by rw [e.1, e.2]; exact List.mem_singleton_self _)

end

/-- The state with a frame that waited past its close missed, and its space in the frame store free. -/
def State.offerMissed (s : State) (p i : Nat) (e : TxEntry) (h c : Nat) (S : Int) : State :=
  ((s.offerTaken p i e).addMissed h c S 1).fsRelease c e.body.length

theorem State.offerMissed_leaves {s : State} {p : Fin 48} {i : Fin 20} {e : TxEntry} {h c : Nat} {S : Int}
    (hHold : s.arbHold (205 + p) = i) :
    let t := s.offerMissed p i e h c S
    t.txQueue = s.txQueue ∧ t.txOffers = s.txOffers.erase e
      ∧ t.obj .dlFramesMissed h = (s.obj .dlFramesMissed h + 1) % 4294967296 ∧ t.missedIn c S = s.missedIn c S + 1
      ∧ t = { s with objs := t.objs, arbs := t.arbs, txOffers := t.txOffers, frameStores := t.frameStores, dlMissed := t.dlMissed }
      ∧ s.sameObjsBut t [(.dlFramesMissed, h), (.arbHolder, 205 + p.val), (.arbPointer, 205 + p.val), (.arbState, 205 + p.val)] := by
  have hTaken := State.insertOnly_offerTaken (e := e) hHold
  have hSame := State.sameObjsBut_offerTaken (e := e) hHold
  have hQueue := State.txQueue_offerTaken (e := e) hHold
  have hOffers := State.txOffers_offerTaken (e := e) hHold
  have hMissed : (s.offerTaken p i e).missedIn c S = s.missedIn c S := by
    rw [State.missedIn, State.missedIn, State.dlMissed_offerTaken hHold]
  have hCount := State.obj_offerTaken (e := e) hHold h (o := .dlFramesMissed) (by decide)
  unfold State.offerMissed
  generalize s.offerTaken p i e = u at *
  intro t
  have hQueued : t.txQueue = s.txQueue := (u.txQueue_addMissed h c S).trans hQueue
  refine ⟨hQueued, (u.txOffers_addMissed h c S).trans hOffers, (u.obj_addMissed h c S).trans (by rw [hCount]),
    (u.missedIn_addMissed h c S).trans (by rw [hMissed]), ?_, fun o n ho => ?_⟩
  · exact ((hTaken.trans (u.insertOnly_addMissed h c S)).trans ⟨rfl⟩).of_queue hQueued
  · simp only [List.mem_cons, not_or] at ho
    exact (u.sameObjsBut_addMissed h c S o n (by simpa using ho.1)).trans (hSame o n (by simpa [arbObjs] using ho.2))

/-! ### ETH_TX_FETCH (R382) -/

/-- An entry with its body staged. -/
def State.stagedEntry (s : State) (e : TxEntry) (body : List Byte) : TxEntry :=
  { e with body := s.bodyOf e body, staged := true, stageLate := decide (e.launch < s.now) && !e.late }

theorem execEthTxFetch_stages {s : State} {p : Fin 48} {q : Fin 8} {i : Nat} {body : List Byte} {e : TxEntry}
    (hEntry : (s.txQueue.filter (fun e => decide (e.port = p.val) && decide (e.queue = q.val)))[i]? = some e)
    (hWaits : e.staged = false) (hLead : e.launch - s.obj .ethTxFetchLead 0 ≤ s.now)
    (hRoom : s.stagedBytes + e.body.length ≤ 2097152) :
    exec (.ethTxFetch p q i body) s
      = .next { s with txQueue := s.txQueue.map (fun x => if x = e then s.stagedEntry e body else x) } := by
  rw [exec_ethTxFetch p q i body, execEthTxFetch]
  simp only [hEntry]
  rw [if_neg (by simp [hWaits, hLead, hRoom])]
  rfl

/-- What a list holds once every copy of an element is replaced. -/
theorem map_replace_mem {α : Type} [DecidableEq α] {l : List α} {e : α} (e' : α) (he : e ∈ l) :
    e' ∈ l.map (fun x => if x = e then e' else x) ∧ ∀ x ∈ l, x ≠ e → x ∈ l.map (fun x => if x = e then e' else x) :=
  ⟨List.mem_map.mpr ⟨e, he, if_pos rfl⟩, fun x hx hNe => List.mem_map.mpr ⟨x, hx, if_neg hNe⟩⟩

end Sys2Proof.Machine
end

section
/-! SUPPORT. A frame starts on the wire (R380 to R382, R412), after the flow control that waits (R384). -/

namespace Sys2Proof.Machine

/-! ### The flow control that waits -/

/-- From one state to the other port p sends and stops the same, every queue holds the same, and no object changed but the count of the
XOFF frames sent. -/
structure State.selectSame (s t : State) (p : Nat) : Prop where
  queue : t.txQueue = s.txQueue
  sending : (t.port p).sending = (s.port p).sending
  stopped : (t.port p).stopped = (s.port p).stopped
  objs : ∀ o n, o ≠ .ethFcXoffSent → t.obj o n = s.obj o n

namespace State.selectSame
variable {s t : State} {p : Nat}

theorem refl (s : State) (p : Nat) : s.selectSame s p := ⟨rfl, rfl, rfl, fun _ _ _ => rfl⟩

variable (h : s.selectSame t p)
include h

theorem now : t.now = s.now := by rw [State.now, h.objs _ _ (by decide), h.objs _ _ (by decide), State.now]

theorem queueHead (q : Nat) : t.queueHead p q = s.queueHead p q := by rw [State.queueHead, h.queue, State.queueHead]

theorem portEntries : t.portEntries p = s.portEntries p := by rw [State.portEntries, h.queue, State.portEntries]

theorem queueStopped (q : Nat) : t.queueStopped p q = s.queueStopped p q := by rw [State.queueStopped, h.stopped, State.queueStopped]

theorem headWaits (q : Nat) : headWaits t p q ↔ headWaits s p q := by
  unfold Machine.headWaits
  rw [h.queueHead, h.queueStopped, h.now]

theorem guarded (q : Nat) (e : TxEntry) : t.guarded p q e = s.guarded p q e := by
  unfold State.guarded
  simp only [h.queueHead, h.queueStopped, h.now, h.objs .ethGuardEn p (by decide), h.objs .ethPortRate p (by decide)]

end State.selectSame

/-- The state with the flow control that waits sent, but by the watch MAC. -/
def State.flowSent (s : State) (p : Nat) : State := if s.watchMac p then s else s.fcSend p

theorem State.bumpIf_frame (s : State) (b : Bool) (o : Obj) (n : Nat) : ∃ os, s.bumpIf b o n = { s with objs := os } := by
  cases b
  · exact ⟨_, rfl⟩
  · exact ⟨_, rfl⟩

/-- What a conditional count reads. -/
theorem State.obj_bumpIf (s : State) (b : Bool) (o : Obj) (n : Nat) :
    (s.bumpIf b o n).obj o n = if b then (s.obj o n + 1) % 4294967296 else s.obj o n := by
  cases b
  · rfl
  · exact State.obj_bump s o n

section
variable (s : State) (b : Bool) (o : Obj) (n : Nat)

theorem State.txQueue_bumpIf : (s.bumpIf b o n).txQueue = s.txQueue := by
  obtain ⟨_, h⟩ := s.bumpIf_frame b o n
  rw [h]

theorem State.outbox_bumpIf : (s.bumpIf b o n).outbox = s.outbox := by
  obtain ⟨_, h⟩ := s.bumpIf_frame b o n
  rw [h]

theorem State.port_bumpIf (p : Nat) : (s.bumpIf b o n).port p = s.port p := by
  obtain ⟨_, h⟩ := s.bumpIf_frame b o n
  rw [h]
  rfl

end

section
variable (s : State) (p : Nat)

theorem State.selectSame_fcSend : s.selectSame (s.fcSend p) p := by
  have hObjs := fun o n h => s.obj_bumpIf_of_ne (decide ((s.port p).xoff ≠ 0)) (o := .ethFcXoffSent) (p := o) p n h
  obtain ⟨os, hCounted⟩ := s.bumpIf_frame (decide ((s.port p).xoff ≠ 0)) .ethFcXoffSent p
  unfold State.fcSend
  dsimp only
  split
  · exact .refl s p
  · rw [hCounted] at hObjs ⊢
    exact ⟨rfl, by rw [State.port_setPort_same]; rfl, by rw [State.port_setPort_same]; rfl, hObjs⟩

theorem State.selectSame_flowSent : s.selectSame (s.flowSent p) p := by
  unfold State.flowSent
  split
  · exact .refl s p
  · exact State.selectSame_fcSend s p

/-- A flow-control frame that waits is on the wire, and waits no more. -/
theorem State.fcSend_sends (h : (s.port p).xoff ≠ 0 ∨ (s.port p).xon ≠ 0) :
    .eth p (s.fcFrame p) s.now false ∈ (s.fcSend p).outbox ∧ ((s.fcSend p).port p).xoff = 0 ∧ ((s.fcSend p).port p).xon = 0
      ∧ (s.fcSend p).obj .ethFcXoffSent p
        = if (s.port p).xoff = 0 then s.obj .ethFcXoffSent p else (s.obj .ethFcXoffSent p + 1) % 4294967296 := by
  have hCount := s.obj_bumpIf (decide ((s.port p).xoff ≠ 0)) .ethFcXoffSent p
  unfold State.fcSend
  dsimp only
  rw [if_neg (not_and_or.mpr h)]
  refine ⟨List.mem_cons_self, by rw [State.port_setPort_same], by rw [State.port_setPort_same], hCount.trans ?_⟩
  simp only [ne_eq, decide_not, Bool.not_eq_true', decide_eq_false_iff_not, ite_not]

end

/-! ### A frame starts -/

/-- The state with an entry out of its queue and on the wire, and counted. -/
def State.onWire (s : State) (p : Nat) (e : TxEntry) : State :=
  ((((s.dropEntry e).setPort p { (s.dropEntry e).port p with sending := some e }).bump .ethTxFrames p).bumpIf e.late .ethTxLateSent
    p).bumpIf e.stageLate .ethTxStageLate p

section
variable (s : State) (p : Nat) (e : TxEntry)

theorem State.txQueue_onWire : (s.onWire p e).txQueue = s.txQueue.erase e := by
  rw [State.onWire, State.txQueue_bumpIf, State.txQueue_bumpIf]
  rfl

theorem State.outbox_onWire : (s.onWire p e).outbox = s.outbox := by
  rw [State.onWire, State.outbox_bumpIf, State.outbox_bumpIf]
  rfl

theorem State.port_onWire : (s.onWire p e).port p = { s.port p with sending := some e } := by
  rw [State.onWire, State.port_bumpIf, State.port_bumpIf]
  exact State.port_setPort_same _ _ _

theorem State.obj_onWire {o : Obj} (n : Nat) (h : o ∉ [Obj.ethTxEntries, .ethTxFrames, .ethTxLateSent, .ethTxStageLate]) :
    (s.onWire p e).obj o n = s.obj o n := by
  simp only [List.mem_cons, List.not_mem_nil, or_false, not_or] at h
  obtain ⟨hEntries, hFrames, hLate, hStage⟩ := h
  rw [State.onWire, State.obj_bumpIf_of_ne _ _ _ _ hStage, State.obj_bumpIf_of_ne _ _ _ _ hLate, State.obj_bump_of_ne _ _ _ hFrames]
  exact State.obj_setObj_of_ne _ _ _ _ hEntries

theorem State.frames_onWire : (s.onWire p e).obj .ethTxFrames p = (s.obj .ethTxFrames p + 1) % 4294967296 := by
  have hDropped : (s.dropEntry e).obj .ethTxFrames p = s.obj .ethTxFrames p := State.obj_setObj_of_ne _ _ _ _ (by decide)
  rw [State.onWire, State.obj_bumpIf_of_ne _ _ _ _ (by decide), State.obj_bumpIf_of_ne _ _ _ _ (by decide), State.obj_bump, ← hDropped]
  rfl

theorem State.lateSent_onWire : (s.onWire p e).obj .ethTxLateSent p
    = if e.late then (s.obj .ethTxLateSent p + 1) % 4294967296 else s.obj .ethTxLateSent p := by
  have hDropped : (s.dropEntry e).obj .ethTxLateSent p = s.obj .ethTxLateSent p := State.obj_setObj_of_ne _ _ _ _ (by decide)
  rw [State.onWire, State.obj_bumpIf_of_ne _ _ _ _ (by decide), State.obj_bumpIf, State.obj_bump_of_ne _ _ _ (by decide), ← hDropped]
  rfl

theorem State.now_onWire : (s.onWire p e).now = s.now := by
  rw [State.now, State.obj_onWire _ _ _ _ (by decide), State.obj_onWire _ _ _ _ (by decide), State.now]

/-- What a forwarded frame counts besides, and the report to the frame's source, leave the transmitters as they are. -/
theorem State.txKept_startFrame : (s.onWire p e).txKept (s.startFrame p e) := by
  unfold State.startFrame
  dsimp only
  split
  · exact (((State.txKept.tcCorrect _ _ _ _ _).trans (.bumpIf _ _ _ (by decide))).trans (.send _ _)).trans (.txDone _ _ _ _)
  · exact (State.txKept.send _ _).trans (.txDone _ _ _ _)

/-- A frame of the device's own is sent as it stands. -/
theorem State.startFrame_sends (hOwn : ownFrame e = true) : .eth p (padded e.body) s.now false ∈ (s.startFrame p e).outbox := by
  have hDone : s.startFrame p e = ((s.onWire p e).send (.eth p (padded e.body) (s.onWire p e).now false)).txDone e
      (if e.late then txLateSent else txSent) ((s.onWire p e).now + (s.onWire p e).egrLat p) := by
    unfold State.startFrame
    dsimp only
    split
    · next hSrc => simp [ownFrame, hSrc] at hOwn
    · rfl
  rw [hDone, State.now_onWire]
  exact (State.txKept.txDone _ _ _ _).sent List.mem_cons_self

end

end Sys2Proof.Machine
end

section
/-! SUPPORT. The selection among the queues of a port (R379). -/

namespace Sys2Proof.Machine

/-! ### One step of the selection -/

/-- The state with an entry past its close discarded. -/
def State.expired (s : State) (p : Nat) (e : TxEntry) : State := ((s.dropEntry e).bump .ethTxExpired p).txDone e txExpired 0

/-- The state with a first hold by the guard marked and counted. -/
def State.heldBack (s : State) (p : Nat) (e : TxEntry) : State :=
  ({ s with txQueue := s.txQueue.map (fun x => if x = e then { e with held := true } else x) }).bump .ethTxGuardHolds p

section
variable {s : State} {p f q : Nat}

theorem State.selectTx_skip (h : headWaits s p q) : s.selectTx p (f + 1) (q + 1) = s.selectTx p f q := by
  rw [State.selectTx]
  split
  · rfl
  · next e hHead =>
    obtain ⟨hOpen, hWaits⟩ := h e hHead
    rw [if_neg (by omega), if_pos (by simpa using hWaits)]

theorem State.selectTx_skips {n : Nat} (h : ∀ k, q ≤ k → k < q + n → headWaits s p k) :
    s.selectTx p (f + n) (q + n) = s.selectTx p f q := by
  induction n with
  | zero => rfl
  | succ n ih =>
    have hStep := State.selectTx_skip (f := f + n) (h (q + n) (by omega) (by omega))
    exact hStep.trans (ih fun k hk hLt => h k hk (by omega))

theorem State.selectTx_bottom : s.selectTx p f 0 = (s, none) := by
  cases f
  · rfl
  · rfl

/-- The queues above q wait. -/
theorem State.selectTx_from (hq : q < 8) (h : ∀ k, k < 8 → q < k → headWaits s p k) :
    s.selectTx p (f + 8) 8 = s.selectTx p (f + q + 1) (q + 1) := by
  have hFuel : s.selectTx p (f + 8) 8 = s.selectTx p (f + q + 1 + (7 - q)) (q + 1 + (7 - q)) := by
    congr 1 <;> omega
  exact hFuel.trans (State.selectTx_skips fun k hk hLt => h k (by omega) (by omega))

theorem State.selectTx_idle (h : ∀ k, k < 8 → headWaits s p k) : s.selectTx p (f + 8) 8 = (s, none) := by
  have hSkips := State.selectTx_skips (s := s) (p := p) (f := f) (q := 0) (n := 8) fun k _ hLt => h k (by omega)
  rw [Nat.zero_add] at hSkips
  exact hSkips.trans State.selectTx_bottom

variable {e : TxEntry} (hHead : s.queueHead p q = some e)
include hHead

theorem State.selectTx_expires (hClosed : e.close ≠ 0 ∧ e.close ≤ s.now) :
    s.selectTx p (f + 1) (q + 1) = (s.expired p e).selectTx p f 8 := by
  rw [State.selectTx, hHead]
  dsimp only
  rw [if_pos hClosed]
  rfl

section
variable (hOpen : e.close = 0 ∨ s.now < e.close) (hGoes : s.queueStopped p q = false) (hLaunch : e.launch ≤ s.now) (hStaged : e.staged = true)
include hOpen hGoes hLaunch hStaged

theorem State.selectTx_starts (hFree : s.guarded p q e = false) : s.selectTx p (f + 1) (q + 1) = (s, some e) := by
  rw [State.selectTx, hHead]
  dsimp only
  rw [if_neg (by omega), if_neg (by simp [hGoes, hStaged]; omega), hFree]
  rfl

theorem State.selectTx_holds (hGuarded : s.guarded p q e = true) (hFirst : e.held = false) :
    s.selectTx p (f + 1) (q + 1) = (s.heldBack p e).selectTx p f q := by
  rw [State.selectTx, hHead]
  dsimp only
  rw [if_neg (by omega), if_neg (by simp [hGoes, hStaged]; omega), if_pos hGuarded, hFirst]
  rfl

end

end

/-! ### The states in between -/

/-- A hold changes no place in a queue. -/
theorem State.queueHead_heldBack {s : State} {p k : Nat} (e : TxEntry) (h : s.queueHead p k = none) :
    (s.heldBack p e).queueHead p k = none := by
  have hNone := List.find?_eq_none.mp h
  refine List.find?_eq_none.mpr fun x hx => ?_
  obtain ⟨y, hy, rfl⟩ := List.mem_map.mp hx
  have hOther := hNone y hy
  split
  · next hEq => rwa [hEq] at hOther
  · exact hOther

theorem headWaits_of_none {s : State} {p q : Nat} (h : s.queueHead p q = none) : headWaits s p q :=
  fun e hHead => absurd (h.symm.trans hHead) (by simp)

theorem queueHead_queue {s : State} {p q : Nat} {e : TxEntry} (h : s.queueHead p q = some e) : e.port = p ∧ e.queue = q := by
  simpa using List.find?_some h

/-- The one entry of a port is the head of its queue, and no other queue has one. -/
theorem State.queueHead_alone {s : State} {p q k : Nat} {e : TxEntry} (hAlone : s.portEntries p = [e]) (hHead : s.queueHead p q = some e)
    (hk : k ≠ q) : s.queueHead p k = none := by
  obtain ⟨-, hQueue⟩ := queueHead_queue hHead
  refine List.find?_eq_none.mpr fun x hx => ?_
  intro hBoth
  simp only [Bool.and_eq_true, decide_eq_true_eq] at hBoth
  have hMem : x ∈ s.portEntries p := List.mem_filter.mpr ⟨hx, decide_eq_true hBoth.1⟩
  rw [hAlone, List.mem_singleton] at hMem
  exact hk (hBoth.2.symm.trans (hMem ▸ hQueue))

theorem State.queueHead_of_empty {s : State} {p : Nat} (h : s.portEntries p = []) (k : Nat) : s.queueHead p k = none := by
  refine List.find?_eq_none.mpr fun x hx hBoth => ?_
  simp only [Bool.and_eq_true, decide_eq_true_eq] at hBoth
  have hMem : x ∈ s.portEntries p := List.mem_filter.mpr ⟨hx, decide_eq_true hBoth.1⟩
  rw [h] at hMem
  cases hMem

/-- Without its one entry a port has none. -/
theorem State.filter_erase_alone {s : State} {p : Nat} {e : TxEntry} (hAlone : s.portEntries p = [e]) :
    (s.txQueue.erase e).filter (fun x => decide (x.port = p)) = [] := by
  have hMem : e ∈ s.portEntries p := by
    rw [hAlone]
    exact List.mem_singleton_self e
  have hPort : decide (e.port = p) = true := (List.mem_filter.mp hMem).2
  have hLength := ((List.perm_cons_erase (List.mem_filter.mp hMem).1).filter (fun x => decide (x.port = p))).length_eq
  rw [← State.portEntries, hAlone, List.filter_cons_of_pos (by exact hPort), List.length_singleton, List.length_cons] at hLength
  exact List.length_eq_zero_iff.mp (by omega)

section
variable (s : State) (p : Nat) (e : TxEntry)

theorem State.txQueue_expired : (s.expired p e).txQueue = s.txQueue.erase e := (State.txKept.txDone _ _ _ _).queue

theorem State.port_expired : (s.expired p e).port p = s.port p := (State.txKept.txDone _ _ _ _).port p

theorem State.obj_expired {o : Obj} (n : Nat) (ho : o ∈ txObjs) (hEntries : o ≠ .ethTxEntries) (hExpired : o ≠ .ethTxExpired) :
    (s.expired p e).obj o n = s.obj o n := by
  rw [State.expired, (State.txKept.txDone _ _ _ _).objs o n ho, State.obj_bump_of_ne _ _ _ hExpired]
  exact State.obj_setObj_of_ne _ _ _ _ hEntries

theorem State.outbox_expired : s.outbox ⊆ (s.expired p e).outbox :=
  (State.txKept.txDone ((s.dropEntry e).bump .ethTxExpired p) e txExpired 0).sent

theorem State.count_expired : (s.expired p e).obj .ethTxExpired p = (s.obj .ethTxExpired p + 1) % 4294967296 := by
  have hDropped : (s.dropEntry e).obj .ethTxExpired p = s.obj .ethTxExpired p := State.obj_setObj_of_ne _ _ _ _ (by decide)
  rw [State.expired, (State.txKept.txDone _ _ _ _).objs _ _ (by decide), State.obj_bump, hDropped]

theorem State.entries_expired {s : State} {p : Nat} {e : TxEntry} (hAlone : s.portEntries p = [e]) (hPort : e.port = p) :
    (s.expired p e).obj .ethTxEntries p = 0 := by
  rw [State.expired, (State.txKept.txDone _ _ _ _).objs _ _ (by decide), State.obj_bump_of_ne _ _ _ (by decide), State.dropEntry,
    State.countEntries, hPort, State.obj_setObj_same, State.portEntries, State.filter_erase_alone hAlone]
  rfl

end

/-! ### What no selection changes -/

/-- From one state to the other what was sent stayed sent, and the flow control of port p and its count stayed. -/
structure State.flowKept (s t : State) (p : Nat) : Prop where
  sent : s.outbox ⊆ t.outbox
  xoff : (t.port p).xoff = (s.port p).xoff
  xon : (t.port p).xon = (s.port p).xon
  count : t.obj .ethFcXoffSent p = s.obj .ethFcXoffSent p

namespace State.flowKept
variable {s t u : State} {p : Nat}

theorem refl (s : State) (p : Nat) : s.flowKept s p := ⟨List.Subset.refl _, rfl, rfl, rfl⟩

theorem trans (h : s.flowKept t p) (k : t.flowKept u p) : s.flowKept u p :=
  ⟨List.Subset.trans h.sent k.sent, k.xoff.trans h.xoff, k.xon.trans h.xon, k.count.trans h.count⟩

theorem expired (s : State) (p : Nat) (e : TxEntry) : s.flowKept (s.expired p e) p :=
  ⟨s.outbox_expired p e, by rw [State.port_expired], by rw [State.port_expired], s.obj_expired p e p (by decide) (by decide) (by decide)⟩

theorem heldBack (s : State) (p : Nat) (e : TxEntry) : s.flowKept (s.heldBack p e) p :=
  ⟨List.Subset.refl _, rfl, rfl, State.obj_setObj_of_ne _ _ _ _ (by decide)⟩

theorem selectTx (s : State) (p f q : Nat) : s.flowKept (s.selectTx p f q).1 p := by
  fun_induction State.selectTx s p f q with
  | case1 => exact .refl _ _
  | case2 => exact .refl _ _
  | case3 s f q hNone ih => exact ih
  | case4 s f q e hHead hClosed ih => exact (expired s p e).trans ih
  | case5 s f q e hHead hOpen hWaits ih => exact ih
  | case6 s f q e hHead hOpen hGoes hGuarded s' ih =>
    have hHold : s.flowKept s' p := by
      change s.flowKept (if e.held = true then s else s.heldBack p e) p
      split
      · exact .refl s p
      · exact heldBack s p e
    exact hHold.trans ih
  | case7 => exact .refl _ _

theorem startFrame (s : State) (p : Nat) (e : TxEntry) : s.flowKept (s.startFrame p e) p := by
  have hKept := s.txKept_startFrame p e
  have hCount := hKept.objs .ethFcXoffSent p (by decide)
  have hSent := hKept.sent
  rw [State.outbox_onWire] at hSent
  rw [State.obj_onWire _ _ _ _ (by decide)] at hCount
  exact ⟨hSent, by rw [hKept.port, State.port_onWire], by rw [hKept.port, State.port_onWire], hCount⟩

end State.flowKept

/-! ### ETH_TX_SELECT -/

/-- The state with the frame that the selection finds on the wire. -/
def State.selected (s : State) (p : Nat) : State :=
  match (s.selectTx p (9 * ((s.portEntries p).length + 1)) 8).2 with
  | some e => (s.selectTx p (9 * ((s.portEntries p).length + 1)) 8).1.startFrame p e
  | none => (s.selectTx p (9 * ((s.portEntries p).length + 1)) 8).1

theorem execEthTxSelect_idle {s : State} {p : Fin 48} (hUp : s.obj .ethPortState p = portUp) (hRuns : s.macRuns p = true)
    (hSends : s.txSilent = false) (hIdle : (s.port p).sending = none) :
    exec (.ethTxSelect p) s = .next ((s.flowSent p).selected p) := by
  rw [exec_ethTxSelect, execEthTxSelect, if_neg (by simp [hUp, hRuns, hSends, hIdle])]
  rfl

section
variable {s u : State} {p : Nat}

theorem State.selected_none (h : s.selectTx p (9 * ((s.portEntries p).length + 1)) 8 = (u, none)) : s.selected p = u := by
  rw [State.selected, h]

theorem State.selected_some {e : TxEntry} (h : s.selectTx p (9 * ((s.portEntries p).length + 1)) 8 = (u, some e)) :
    s.selected p = u.startFrame p e := by
  rw [State.selected, h]

theorem State.flowKept_selected (s : State) (p : Nat) : s.flowKept (s.selected p) p := by
  unfold State.selected
  split
  · exact (State.flowKept.selectTx _ _ _ _).trans (.startFrame _ _ _)
  · exact State.flowKept.selectTx _ _ _ _

/-- Every head waits. -/
theorem State.selected_idle (h : ∀ q, q < 8 → headWaits s p q) : s.selected p = s :=
  State.selected_none ((State.selectTx_idle (f := 9 * (s.portEntries p).length + 1) h))

section
variable {q : Nat} {e : TxEntry} (hq : q < 8) (hHead : s.queueHead p q = some e)
include hq hHead

section
variable (hAbove : ∀ k, k < 8 → q < k → headWaits s p k) (hOpen : e.close = 0 ∨ s.now < e.close) (hGoes : s.queueStopped p q = false)
  (hLaunch : e.launch ≤ s.now) (hStaged : e.staged = true)
include hAbove hOpen hGoes hLaunch hStaged

theorem State.selected_starts (hFree : s.guarded p q e = false) : s.selected p = s.startFrame p e :=
  State.selected_some ((State.selectTx_from (f := 9 * (s.portEntries p).length + 1) hq hAbove).trans
    (State.selectTx_starts hHead hOpen hGoes hLaunch hStaged hFree))

theorem State.selected_holds (hGuarded : s.guarded p q e = true) (hFirst : e.held = false)
    (hBelow : ∀ k, k < q → s.queueHead p k = none) : s.selected p = s.heldBack p e := by
  have hRest : ∀ f, (s.heldBack p e).selectTx p (f + q) q = (s.heldBack p e, none) := fun f => by
    have hSkips := State.selectTx_skips (s := s.heldBack p e) (p := p) (f := f) (q := 0) (n := q) fun k _ hLt =>
      headWaits_of_none (State.queueHead_heldBack e (hBelow k (by omega)))
    rw [Nat.zero_add] at hSkips
    exact hSkips.trans State.selectTx_bottom
  exact State.selected_none (((State.selectTx_from (f := 9 * (s.portEntries p).length + 1) hq hAbove).trans
    (State.selectTx_holds hHead hOpen hGoes hLaunch hStaged hGuarded hFirst)).trans (hRest _))

end

/-- The one entry of a port is discarded once its close has come. -/
theorem State.selected_expires (hAlone : s.portEntries p = [e]) (hClosed : e.close ≠ 0 ∧ e.close ≤ s.now) :
    s.selected p = s.expired p e := by
  have hEmpty : (s.expired p e).portEntries p = [] := by
    rw [State.portEntries, State.txQueue_expired, State.filter_erase_alone hAlone]
  have hFrom := State.selectTx_from (s := s) (p := p) (f := 10) hq fun k _ hk =>
    headWaits_of_none (State.queueHead_alone hAlone hHead (by omega))
  have hRest := State.selectTx_idle (s := s.expired p e) (p := p) (f := 2 + q) fun k _ =>
    headWaits_of_none (State.queueHead_of_empty hEmpty k)
  rw [show 2 + q + 8 = 10 + q by omega] at hRest
  refine State.selected_none ?_
  rw [hAlone]
  exact (hFrom.trans (State.selectTx_expires hHead hClosed)).trans hRest

end

end

/-! ### What the selection of an idle port that is UP does -/

section
variable {s : State} {p : Fin 48} (hUp : s.obj .ethPortState p = portUp) (hRuns : s.macRuns p = true) (hSends : s.txSilent = false)
  (hIdle : (s.port p).sending = none)
include hUp hRuns hSends hIdle

/-- Flow control that waits goes out whatever the selection finds. -/
theorem execEthTxSelect_flow : ∃ t, exec (.ethTxSelect p) s = .next t
    ∧ (s.watchMac p = false → ((s.port p).xoff ≠ 0 ∨ (s.port p).xon ≠ 0) → .eth p (s.fcFrame p) s.now false ∈ t.outbox
        ∧ (t.port p).xoff = 0 ∧ (t.port p).xon = 0
        ∧ t.obj .ethFcXoffSent p = (if (s.port p).xoff = 0 then s.obj .ethFcXoffSent p else (s.obj .ethFcXoffSent p + 1) % 4294967296))
    ∧ ((∀ q, q < 8 → headWaits s p q) → (t.port p).sending = none ∧ t.txQueue = s.txQueue
        ∧ t.obj .ethTxFrames p = s.obj .ethTxFrames p) := by
  have hSame := s.selectSame_flowSent p
  have hKept := State.flowKept_selected (s.flowSent p) p
  refine ⟨_, execEthTxSelect_idle hUp hRuns hSends hIdle, fun hMac hFlow => ?_, fun hWait => ?_⟩
  · have hSent : s.flowSent p = s.fcSend p := by rw [State.flowSent, hMac]; rfl
    obtain ⟨hOut, hXoff, hXon, hCount⟩ := s.fcSend_sends p hFlow
    rw [← hSent] at hOut hXoff hXon hCount
    exact ⟨hKept.sent hOut, hKept.xoff.trans hXoff, hKept.xon.trans hXon, hKept.count.trans hCount⟩
  · rw [State.selected_idle fun q hq => (hSame.headWaits q).mpr (hWait q hq)]
    exact ⟨hSame.sending.trans hIdle, hSame.queue, hSame.objs _ _ (by decide)⟩

section
variable {q : Fin 8} {e : TxEntry} (hHead : s.queueHead p q = some e)
include hHead

section
variable (hAbove : ∀ k, k < 8 → q.val < k → headWaits s p k) (hOpen : e.close = 0 ∨ s.now < e.close)
  (hGoes : s.queueStopped p q = false) (hLaunch : e.launch ≤ s.now) (hStaged : e.staged = true)
include hAbove hOpen hGoes hLaunch hStaged

theorem execEthTxSelect_starts (hFree : s.guarded p q e = false) : ∃ t, exec (.ethTxSelect p) s = .next t
    ∧ (t.port p).sending = some e ∧ t.txQueue = s.txQueue.erase e
    ∧ t.obj .ethTxFrames p = (s.obj .ethTxFrames p + 1) % 4294967296
    ∧ t.obj .ethTxLateSent p = (if e.late then (s.obj .ethTxLateSent p + 1) % 4294967296 else s.obj .ethTxLateSent p)
    ∧ (ownFrame e = true → .eth p (padded e.body) s.now false ∈ t.outbox) := by
  have hSame := s.selectSame_flowSent p
  have hKept := (s.flowSent p).txKept_startFrame p e
  have hStarts := State.selected_starts q.isLt ((hSame.queueHead q).trans hHead) (fun k hk hq => (hSame.headWaits k).mpr (hAbove k hk hq))
    (by rwa [hSame.now]) ((hSame.queueStopped q).trans hGoes) (by rwa [hSame.now]) hStaged ((hSame.guarded q e).trans hFree)
  refine ⟨_, execEthTxSelect_idle hUp hRuns hSends hIdle, ?_⟩
  rw [hStarts]
  refine ⟨?_, ?_, ?_, ?_, fun hOwn => ?_⟩
  · rw [hKept.port, State.port_onWire]
  · rw [hKept.queue, State.txQueue_onWire, hSame.queue]
  · rw [hKept.objs _ _ (by decide), State.frames_onWire, hSame.objs _ _ (by decide)]
  · rw [hKept.objs _ _ (by decide), State.lateSent_onWire, hSame.objs _ _ (by decide)]
  · have hSent := (s.flowSent p).startFrame_sends p e hOwn
    rwa [hSame.now] at hSent

theorem execEthTxSelect_holds (hGuarded : s.guarded p q e = true) (hFirst : e.held = false)
    (hBelow : ∀ k, k < q.val → s.queueHead p k = none) : ∃ t, exec (.ethTxSelect p) s = .next t ∧ (t.port p).sending = none
    ∧ t.obj .ethTxGuardHolds p = (s.obj .ethTxGuardHolds p + 1) % 4294967296
    ∧ t.txQueue = s.txQueue.map (fun x => if x = e then { e with held := true } else x) := by
  have hSame := s.selectSame_flowSent p
  have hHolds := State.selected_holds q.isLt ((hSame.queueHead q).trans hHead) (fun k hk hq => (hSame.headWaits k).mpr (hAbove k hk hq))
    (by rwa [hSame.now]) ((hSame.queueStopped q).trans hGoes) (by rwa [hSame.now]) hStaged ((hSame.guarded q e).trans hGuarded) hFirst
    fun k hk => (hSame.queueHead k).trans (hBelow k hk)
  refine ⟨_, execEthTxSelect_idle hUp hRuns hSends hIdle, ?_⟩
  rw [hHolds]
  refine ⟨hSame.sending.trans hIdle, (State.obj_bump _ _ _).trans ?_, ?_⟩
  · rw [← hSame.objs .ethTxGuardHolds p (by decide)]
    rfl
  · rw [← hSame.queue]
    rfl

end

theorem execEthTxSelect_expires (hAlone : s.portEntries p = [e]) (hSet : e.close ≠ 0) (hClosed : e.close ≤ s.now) :
    ∃ t, exec (.ethTxSelect p) s = .next t ∧ t.txQueue = s.txQueue.erase e ∧ (t.port p).sending = none
    ∧ t.obj .ethTxEntries p = 0 ∧ t.obj .ethTxExpired p = (s.obj .ethTxExpired p + 1) % 4294967296 := by
  have hSame := s.selectSame_flowSent p
  have hAlone' := hSame.portEntries.trans hAlone
  have hExpires := State.selected_expires q.isLt ((hSame.queueHead q).trans hHead) hAlone' ⟨hSet, by rwa [hSame.now]⟩
  refine ⟨_, execEthTxSelect_idle hUp hRuns hSends hIdle, ?_⟩
  rw [hExpires]
  refine ⟨?_, ?_, State.entries_expired hAlone' (queueHead_queue hHead).1, ?_⟩
  · rw [State.txQueue_expired, hSame.queue]
  · rw [State.port_expired, hSame.sending, hIdle]
  · rw [State.count_expired, hSame.objs _ _ (by decide)]

end

end

end Sys2Proof.Machine

section
open Sys2Proof Sys2Proof.Machine

/-- Settles O49, command by command: a frame offered, inserted, fetched, selected, and off the wire. -/
theorem ethernetTransmission : Obligations.EthernetTransmission := by
  refine ⟨fun s h r hTakes hOp => ⟨execSend_offers hTakes hOp, execSend_refused hTakes hOp⟩, fun s fn r v descs hUp => ⟨?_, ?_⟩,
    fun s p i e hRuns hHold hFind => ⟨?_, ?_⟩, ?_, fun s p hUp hRuns hSends hIdle => ⟨?_, fun q e hHead => ⟨?_, ?_⟩⟩,
    fun s p => ⟨_, rfl, ?_, rfl⟩⟩
  · intro hOwner hOn x d head
    exact ⟨_, execEthTxRingDoorbell_owner hUp hOwner hOn, State.posted_ringRung, fun hOne hOk => State.ringRung_offers hOne rfl hOk,
      fun hOne hBad hWritten hDone hLt hNew => State.ringRung_refuses hOne rfl hBad hWritten hDone hLt hNew hOwner⟩
  · intro hOther
    exact ⟨_, execEthTxRingDoorbell_ignored hUp hOther, State.obj_bump _ _ _, rfl,
      (State.sameObjsBut.refl s _).bump (List.mem_singleton_self _)⟩
  · exact fun hMissed hRoom => ⟨_, execEthTxInsert_queues hRuns hHold hFind hMissed hRoom,
      State.insertTx_offerTaken hHold (port_of_offered hFind)⟩
  · exact fun h c S hMissed => ⟨_, execEthTxInsert_misses hRuns hHold hFind hMissed, State.offerMissed_leaves hHold⟩
  · intro s p q i body e hEntry hWaits hLead hRoom
    obtain ⟨hStaged, hOthers⟩ := map_replace_mem (s.stagedEntry e body) (List.mem_filter.mp (List.mem_of_getElem? hEntry)).1
    exact ⟨_, execEthTxFetch_stages hEntry hWaits hLead hRoom, hStaged, hOthers, List.length_map _, rfl⟩
  · exact execEthTxSelect_flow hUp hRuns hSends hIdle
  · exact fun hAbove hOpen hGoes hLaunch hStaged =>
      ⟨execEthTxSelect_starts hUp hRuns hSends hIdle hHead hAbove hOpen hGoes hLaunch hStaged,
        execEthTxSelect_holds hUp hRuns hSends hIdle hHead hAbove hOpen hGoes hLaunch hStaged⟩
  · exact execEthTxSelect_expires hUp hRuns hSends hIdle hHead
  · rw [State.port_setPort_same]
end
end
